-- ==== Sys2Proof/Word.lean ====
section
/-! DEFINITION. Word: the byte and number types of the Orbalt 2814 model and their plainest arithmetic. -/

namespace Sys2Proof

/-- One byte of a frame, of a stream or of the message store. -/
abbrev Byte := BitVec 8

/-- A two-byte parameter. -/
abbrev U16 := BitVec 16

/-- A four-byte parameter (R184: an offset, a length, a byte count of a transfer). -/
abbrev U32 := BitVec 32

/-- One 16-bit sample of an audio path, read as a signed number. -/
abbrev Sample := BitVec 16

/-- The code of a DTMF symbol (12.2): 0 to 9 the digits, 10 star, 11 hash, 12 to 15 the letters A to D. -/
abbrev Symbol := Fin 16

/-- A counter that saturates at `cap` (00_scope, Conventions). -/
def bump (cap n : Nat) : Nat := min cap (n + 1)

/-- The nearest value of `lo .. hi` to `n` (00_scope, "Clamped"). -/
def clamp (lo hi n : Nat) : Nat := max lo (min hi n)

/-- `n / d` rounded up. -/
def ceilDiv (n d : Nat) : Nat := (n + d - 1) / d

end Sys2Proof
end

