-- ==== Sys2Proof/Syntax.lean ====
section
/-! DEFINITION. The commands of the Orbalt 2814: one constructor of Instr for each row of spec/opcode_table.json.
A row is a step of the part: a frame of a master, a condition on the line, or the taking of a timer's expiry. -/

namespace Sys2Proof

/-- The two ports (1.2): the system master's and the panel master's. -/
inductive Port where
  | system
  | panel
deriving DecidableEq, Repr

/-- What R178 needs to know of a valid command frame beside its parameters: the port it came in at, and whether its
parameters have the number and the size of the command's. -/
structure Frame where
  port : Port
  sized : Bool
deriving DecidableEq, Repr

/-- The two paths that the codecs bring in (R85). -/
inductive AudioPath where
  | line
  | mic
deriving DecidableEq, Repr

/-- PLAY carries a start offset or the choice RESUME (R153). -/
inductive PlayStart where
  | offset (o : U32)
  | resume
deriving DecidableEq, Repr

/-- The DRAM-size strap pins (R163): 1, 2 or 4 MB. -/
inductive DramSize where
  | mb1
  | mb2
  | mb4
deriving DecidableEq, Repr

/-- The System Port rate strap pins (1.5.1). -/
inductive PortRate where
  | r19200
  | r38400
  | r57600
  | r115200
deriving DecidableEq, Repr

/-- R178 and R184: the first two parameter bytes of OPEN TRANSFER: the direction, READ 0 or WRITE 1, and after it the message id
of a READ or the kind of a WRITE. -/
structure TransferHead where
  direction : Byte
  subject : Byte
deriving DecidableEq, Repr

/-- What the pump hears from the far end in HANDSHAKE (R101). -/
inductive HandshakeSignal where
  | maximum (rung : Byte)
  | acknowledge
deriving DecidableEq, Repr

/-- The commands. A master's command carries its `Frame`; its enumerated parameters are the bytes of Chapter 12, so that a
value outside the enumeration can be sent. An event of the line, of a pin or of a timer carries what arrives with it. -/
inductive Instr where
  -- Line (0x10)
  | dial (f : Frame) (job flags : Byte) (items : List Byte)
  | answer (f : Frame) (job : Byte)
  | takeCall (f : Frame)
  | hangUp (f : Frame)
  | connect (f : Frame)
  | sendDigits (f : Frame) (symbols : List Byte)
  | beep (f : Frame) (frequency duration : U16)
  -- Reads (0x20)
  | readCall (f : Frame)
  | readHistory (f : Frame) (first count : Byte)
  | readLevels (f : Frame)
  | readLinkStats (f : Frame)
  | readTimers (f : Frame)
  | readDigits (f : Frame) (count : Byte)
  | readClock (f : Frame)
  -- Clock and settings (0x30)
  | setClock (f : Frame) (day hour minute second : Byte)
  | setSetting (f : Frame) (id : Byte) (value : List Byte)
  | readSetting (f : Frame) (id : Byte)
  -- Voice (0x40)
  | play (f : Frame) (id : Byte) (start : PlayStart) (endpoint stopOnDigit : Byte)
  | record (f : Frame) (kind slot endpoint vox : Byte) (seconds : U16)
  | pause (f : Frame)
  | resume (f : Frame)
  | stop (f : Frame)
  -- Store (0x50)
  | list (f : Frame) (first count : Byte)
  | readEntry (f : Frame) (id : Byte)
  | delete (f : Frame) (id : Byte)
  | markHeard (f : Frame) (id : Byte)
  | format (f : Frame)
  | openTransferRead (f : Frame) (head : TransferHead) (offset count : U32)
  | openTransferWrite (f : Frame) (head : TransferHead) (slot : Byte)
  | readChunk (f : Frame) (count : Byte)
  | writeChunk (f : Frame) (bytes : List Byte)
  | closeTransfer (f : Frame)
  | abort (f : Frame)
  -- Fax (0x60)
  | faxNext (f : Frame) (choice : Byte)
  | faxNextFromStore (f : Frame) (id : Byte)
  -- Notices (0x70)
  | takeNotice (f : Frame)
  | noticeDone (f : Frame)
  | clearNotice (f : Frame) (source : Byte)
  | mask (f : Frame) (entries : List (Byte × Byte))
  -- Port (0x78)
  | goData (f : Frame)
  | portReset (f : Frame)
  -- frames and lines of the ports
  | badFrame (p : Port) (bytes : List Byte)
  | frameWhileReplyOwed (p : Port) (code : Byte)
  | unknownCommand (p : Port) (code : Byte)
  | replySent
  | panelReadPeriod (clocks : Nat)
  | noticeFrameSent
  | dataStateEntry
  | portDataByteReceived (b : Byte)
  | inboundByteSent
  | readyDeasserted
  | readyAsserted
  | rtsDeasserted
  | rtsAsserted
  -- reset and power
  | deviceReset (dram : DramSize) (rate : PortRate)
  | powerLow
  -- timers
  | timerTick
  | secondEvent
  | t0AEvent
  | t0BEvent
  | settleExpiry
  | dialToneWaitExpiry
  | pauseItemExpiry
  | noAnswerExpiry
  | guardExpiry
  -- line sensing
  | lineVoltageSenseChange (below : Bool)
  | lineInUseRunExpiry
  | loopCurrentSenseChange (below : Bool)
  | extensionPickup
  -- ringing and caller data
  | ringDetectorEdge
  | presenceHangoverExpiry
  | qualifyDeadline
  | windowOpen
  | cycleEnd
  | windowClose
  | episodeEnd
  | callerDataByte (b : Byte)
  | callerByteFramingError
  -- audio blocks and the Voice Engine
  | blockEvent (path : AudioPath) (samples : List Sample) (bands : List (List Sample))
  | autoBeepEnd
  | promptBeepEnd
  | playEnd
  | voxExpiry
  | maxLengthReached
  | remoteInactivityExpiry
  | transferFifoFill (p : Port)
  -- quality and the Data Pump
  | decisionError (e : U16)
  | qualityWindowClose
  | answerToneEnd
  | handshakeSignalReceived (signal : HandshakeSignal)
  | handshakeTimeout
  | trainingSymbolsEnd
  | farEndVerdictReceived (accept : Bool)
  | verdictExchangeEnd
  | farEndRateRequest (rung : Byte)
  | farEndRetrainRequest
  | rateConfirmReceived
  | resyncEnd
  | rateConfirmTimeout
  | retrainRequestSent
  | retrainStableExpiry
  | carrierLossExpiry
  -- the Link Engine
  | linkReqTimerExpiry
  | linkReqReceived (window payload : Byte)
  | linkConfReceived (window payload : Byte)
  | linkConfSent
  | invalidLinkFrame (run : List Byte)
  | dataFrameReceived (seq ack : BitVec 4) (payload : List Byte)
  | ackReceived (ack : BitVec 4) (busy : Bool)
  | rejectReceived (expected : BitVec 4)
  | clearReceived
  | transmitterReady
  | clearReplySent
  | linkTimerExpiry
  | clearingWaitExpiry
  | directByteReceived (b : Byte)
  | escapeGuardExpiry
  -- the Fax Engine
  | faxInvalidControlFrame (run : List Byte)
  | capsReceived (maxRung resolutions scanMs : Byte)
  | setReceived (rung resolution scanMs : Byte)
  | faxCheckSent
  | faxCheckEnd
  | checkOkReceived
  | checkFailReceived
  | pageDataStart
  | faxPageByteReceived (b : Byte)
  | faxPageByteSent
  | faxPageStallExpiry
  | faxNextDecisionExpiry
  | faxControlReplyExpiry
  | pageEndReceived (more : Byte)
  | pageOkReceived
  | pageBadReceived
  | refuseReceived
  | doneReceived
  | faxControlFrameSent
  | pickupSuspensionEnd
  | recordingGranuleNeeded
deriving DecidableEq, Repr

end Sys2Proof
end

