-- ==== Sys2Proof/Decode.lean ====
section
/-! DEFINITION. The commands that a word spells by the table's bits. No row of spec/opcode_table.json gives bits: a command
comes as a frame, or as an event of a line, of a pin or of a timer. -/

namespace Sys2Proof

/-- The command that the bits of a table row spell. No row has bits, so no word spells a command. -/
def decodeTableWord (_nbits _w : Nat) : Option Instr := none

end Sys2Proof
end

