-- ==== Sys2Proof/Config.lean ====
section
/-! DEFINITION. What is fixed for a 2814: the durations, sizes and tables the rules name, and the values the manual
leaves open (opaque, so that no proof can see one). -/

namespace Sys2Proof.Config

/-! ### Values the manual leaves open -/

/-- DESIGN CHOICE (log 10): the byte that stands at position `k` of an absent field of a reply. The manual gives the field
its place and size (R184) and no byte for it. -/
opaque absentByte : Nat → BitVec 8

/-- DESIGN CHOICE (log 11): byte `k` of the two bytes that R184 gives a number, where the number `n` is above 65535 and does not
fit into them: the accumulators of READ LEVELS and the code bytes of READ CALL. -/
opaque wideByte : Nat → Nat → BitVec 8

/-- DESIGN CHOICE (log 10): the echoed command code of the BAD_FRAME answer to a frame that ended before its command code
(R177: a frame with a bad length ends at its length field). -/
opaque noCodeEcho : BitVec 8

/-! ### Durations in milliseconds -/

/-- R3: the settle after a seizure. -/
abbrev settleMs : Nat := 300
/-- R5: the release guard. -/
abbrev guardMs : Nat := 1500
/-- R7 and R8: a run of the line-voltage or the loop-current sense. -/
abbrev senseRunMs : Nat := 200
/-- R8: the suspension of the pick-up watch after the relay closes. -/
abbrev closeSuspendMs : Nat := 300
/-- R8: the suspension of the pick-up watch after a break or a flash. -/
abbrev breakSuspendMs : Nat := 100
/-- R62: the hangover of the ring-present indication. -/
abbrev hangoverMs : Nat := 50
/-- R63: QUALIFY after the presence start, WINDOW_OPEN after the burst end. -/
abbrev qualifyMs : Nat := 200
/-- R63: CYCLE_END after the burst end. -/
abbrev cycleEndMs : Nat := 1000
/-- R63: WINDOW_CLOSE after the end of the first cycle. -/
abbrev windowCloseMs : Nat := 4000
/-- R63: EPISODE_END after the burst end. -/
abbrev episodeEndMs : Nat := 8000
/-- R108: the retrain-stable period. -/
abbrev stableMs : Nat := 30000
/-- R114: the spacing of LINK_REQ frames. -/
abbrev linkReqMs : Nat := 1000
/-- R125: the clearing wait. -/
abbrev clearingMs : Nat := 2000
/-- R134, R139, R140, R146: every wait of the Fax Engine. -/
abbrev faxWaitMs : Nat := 3000
/-- R159: the inactivity period of the remote session. -/
abbrev inactivityMs : Nat := 10000
/-- R36: the second event. -/
abbrev secondMs : Nat := 1000

/-! ### Sizes -/

/-- R12 and R19. -/
abbrev historyMax : Nat := 16
/-- R41. -/
abbrev dialListMax : Nat := 40
/-- R59. -/
abbrev digitQueueMax : Nat := 16
/-- R70. -/
abbrev callerBytesMax : Nat := 64
/-- R85: samples of a block. -/
abbrev blockSamples : Nat := 128
/-- R90. -/
abbrev windowAccMax : Nat := 1048575
/-- R90. -/
abbrev windowSymbols : Nat := 256
/-- R127 and R128: bytes of the outbound and of the inbound queue. -/
abbrev queueMax : Nat := 1024
/-- R127: CTS is deasserted at this fill. -/
abbrev ctsHigh : Nat := 768
/-- R127: CTS is asserted again at this fill. -/
abbrev ctsLow : Nat := 256
/-- R163. -/
abbrev granuleBytes : Nat := 1024
/-- R163: the reserved granules. -/
abbrev reservedGranules : Nat := 16
/-- R151: code bytes of a voice granule. -/
abbrev granuleCodes : Nat := 1020
/-- R151: the codec header of a voice granule. -/
abbrev codecHeaderBytes : Nat := 4
/-- R165. -/
abbrev entriesMax : Nat := 96
/-- R143 and R171. -/
abbrev pagesMax : Nat := 32
/-- R170. -/
abbrev fifoMax : Nat := 256
/-- R170 and R171: the largest chunk. -/
abbrev chunkMax : Nat := 128
/-- R185: the largest reply with a list result. -/
abbrev replyMax : Nat := 255
/-- R180: a merge count saturates. -/
abbrev mergeMax : Nat := 255
/-- Most 16-bit counters saturate here. -/
abbrev max16 : Nat := 65535
/-- R50: the run at which a single tone is recognised. -/
abbrev toneRun : Nat := 25
/-- R57: the voice blocks that connect a VOICE call. -/
abbrev voiceRun : Nat := 10
/-- R53: an OFF run past this is no longer judged. -/
abbrev longOffMs : Nat := 8000
/-- 00_scope, Conventions: the sound of one block. -/
abbrev blockMs : Nat := 16
/-- R102: the codec plays and records 8 samples in a millisecond tick. -/
abbrev samplesPerMs : Nat := 8

/-! ### Tables -/

/-- R163: the granules that the DRAM-size straps give. -/
def installedGranules : DramSize → Nat
  | .mb1 => 1024
  | .mb2 => 2048
  | .mb4 => 4096

/-- R99: the line rate of a rung in bit/s. -/
def rungRate : Nat → Nat
  | 0 => 300
  | 1 => 1200
  | 2 => 2400
  | 3 => 4800
  | 4 => 7200
  | 5 => 9600
  | 6 => 12000
  | _ => 14400

/-- R149: the step sizes of the ADPCM code. -/
def stepTable : List Nat :=
  [16, 18, 20, 22, 24, 27, 30, 33, 37, 41, 46, 51,
   57, 64, 72, 81, 91, 102, 114, 128, 144, 162, 182, 204,
   229, 257, 289, 325, 365, 410, 461, 518, 582, 654, 735, 826,
   929, 1045, 1175, 1321, 1486, 1671, 1879, 2113, 2377, 2674, 3008, 3384]

/-- R163 and 12.5: the signature of the store header. -/
def signature : List Byte := [0x5A#8, 0xC3#8, 0x28#8, 0x14#8]

end Sys2Proof.Config
end

