-- ==== Sys2Proof/Machine/State.lean ====
section
/-! DEFINITION. The state of the Orbalt 2814 as plain data: every record, register, queue, counter, flag and pin the
manual gives it, and the queue of waiting commands. Numbers that the manual counts are Nat; bytes are BitVec 8. -/

namespace Sys2Proof.Machine

/-! ### Why a step can stop -/

/-- The 2814 has no fault: no rule stops the part (INVENTORY, Faults). The type has no constructor, which is safe: no
meaning can end in one. -/
inductive Fault where
deriving DecidableEq, Repr

/-- Why the model has no next state. -/
inductive Refusal where
  /-- Raised by Dispatch for a row whose meaning is not written. Safe: it stops. No row of this model raises it. -/
  | notModelled (mnemonic : String)
deriving DecidableEq, Repr

/-! ### Small tables -/

/-- One thing for each port. -/
structure PerPort (α : Type) where
  system : α
  panel : α
deriving DecidableEq, Repr

/-- One thing for each ring pattern 1 to 3 (R73). -/
structure Three (α : Type) where
  e1 : α
  e2 : α
  e3 : α
deriving DecidableEq, Repr

/-- One thing for each cadence entry 0 to 5 (R52) or notice group (R180). -/
structure Six (α : Type) where
  e0 : α
  e1 : α
  e2 : α
  e3 : α
  e4 : α
  e5 : α
deriving DecidableEq, Repr

/-- One thing for each rung 0 to 7 (R99) or timer channel T0 to T7 (R24). -/
structure Eight (α : Type) where
  e0 : α
  e1 : α
  e2 : α
  e3 : α
  e4 : α
  e5 : α
  e6 : α
  e7 : α
deriving DecidableEq, Repr

/-! ### Line and call (Chapter 1) -/

/-- R1. -/
inductive LineState where
  | idle | ringing | seizing | dialing | progress | connected | releasing
deriving DecidableEq, Repr

/-- A holder other than NONE (1.2), or the user of the Voice Engine (R152). -/
inductive Party where
  | auto | system | panel
deriving DecidableEq, Repr

/-- R17. -/
inductive Job where
  | none | data | fax | voice | discriminate | remote
deriving DecidableEq, Repr

/-- R17. -/
inductive Direction where
  | outgoing | incoming
deriving DecidableEq, Repr

/-- R18: the termination causes, in the order of its table. -/
inductive Cause where
  | normal | remoteCleared | busy | noAnswer | noDialTone | carrierLost | lineTooNoisy | noLink | linkFailed
  | faxTraining | faxPageFailed | faxPageLimit | noDataHandler | messageLeft | noMessage | storeFull | remoteDenied
  | extensionPickup | stoppedBySystem | stoppedByPanel | holderReset | powerLow
deriving DecidableEq, Repr

/-- R19: the outcome of a history entry. -/
inductive HistoryOutcome where
  | ended (cause : Cause)
  | unanswered
deriving DecidableEq, Repr

/-- R17 and R70. -/
inductive CallerStatus where
  | received | withheld | unavailable | corrupt | none
deriving DecidableEq, Repr

/-- R98. -/
inductive PumpPhase where
  | off | handshake | training | data | rateChange | retrain | cleardown
deriving DecidableEq, Repr

/-- R131. -/
inductive FaxPhase where
  | setup | check | page | postpage | clearing
deriving DecidableEq, Repr

/-- R76. -/
inductive DiscrPhase where
  | greeting | beep | recording
deriving DecidableEq, Repr

/-- R17: the phase of the Call Record, by the job's engine. -/
inductive CallPhase where
  | pump (p : PumpPhase)
  | fax (p : FaxPhase)
  | discr (p : DiscrPhase)
  | session
deriving DecidableEq, Repr

/-- R41: an item of the dial list, its method resolved. -/
inductive DialItem where
  | tone (symbol : Symbol)
  | pulse (symbol : Symbol)
  | pause
  | waitTone
  | flash
deriving DecidableEq, Repr

/-- R39: the four time fields of the Calendar. -/
structure ClockTime where
  day : Nat
  hour : Nat
  minute : Nat
  second : Nat
deriving DecidableEq, Repr

/-- R39. -/
structure Calendar where
  time : ClockTime
  isSet : Bool
deriving DecidableEq, Repr

/-- R17. -/
structure CallRecord where
  active : Bool
  number : Nat
  direction : Direction
  holder : Option Party
  job : Job
  phase : Option CallPhase
  dialList : Option (List DialItem)
  farEndRinging : Bool
  callerStatus : Option CallerStatus
  callerNumber : Option (List Nat)
  callerName : Option (List Byte)
  ringPattern : Option Nat
  ringCount : Option Nat
  startTime : ClockTime
  linkedId : Option Nat
  rung : Option Nat
  lastQuality : Option Nat
  seconds : Nat
  cause : Option Cause
deriving DecidableEq, Repr

/-- R12. -/
structure Claim where
  master : Port
  items : List DialItem
  job : Job
  blind : Bool
deriving DecidableEq, Repr

/-- R19. -/
structure HistoryEntry where
  number : Nat
  direction : Direction
  callerStatus : Option CallerStatus
  callerNumber : Option (List Nat)
  callerName : Option (List Byte)
  outcome : HistoryOutcome
  linkedId : Option Nat
  startTime : ClockTime
  seconds : Nat
deriving DecidableEq, Repr

/-- R35: the use for which the CCU last loaded T2. -/
inductive T2Use where
  | none | settle | dialToneWait | pauseItem | waitTone | noAnswer | guard | stable | faxReply | faxStall | faxDecision
  | inactivity
deriving DecidableEq, Repr

/-- R42. -/
inductive ItemState where
  | none | pulsing | toning | pausing | waiting | flashing
deriving DecidableEq, Repr

/-- R42 and R43: the Dialler. `breaksEnded` counts the B events of the pulse digit in hand; `lastMake` is the last make of
that digit as read at its load. -/
structure Dialler where
  cursor : Nat
  item : ItemState
  breaksEnded : Nat
  lastMake : Nat
deriving DecidableEq, Repr

/-- The Call Control Unit. -/
structure Ccu where
  line : LineState
  call : CallRecord
  lastNumber : Nat
  /-- R18: the cause fixed for a linked clearing that is in progress. -/
  ending : Option Cause
  blind : Bool
  claims : List Claim
  history : List HistoryEntry
  t2Use : T2Use
  dialler : Dialler
deriving DecidableEq, Repr

/-- The Line Interface (R2, R7, R8, R62). -/
structure Lif where
  relayClosed : Bool
  ringPresent : Bool
  hangover : Nat
  lineInUse : Bool
  voltageBelow : Bool
  voltageRun : Nat
  currentBelow : Bool
  currentRun : Nat
  pickupLatch : Bool
  suspended : Bool
  suspendLeft : Nat
deriving DecidableEq, Repr

/-! ### Timer Bank (Chapter 2) -/

/-- R24. -/
inductive TimerMode where
  | off | oneShot | repeat | alternate | capture
deriving DecidableEq, Repr

/-- R24: a half of ALTERNATE, or one of the two compares. -/
inductive Half where
  | a | b
deriving DecidableEq, Repr

/-- R24. -/
inductive OutputUse where
  | none | relayBreak | generatorEnable
deriving DecidableEq, Repr

/-- R24 and R30. -/
inductive CaptureEdge where
  | none | asserted | deasserted
deriving DecidableEq, Repr

/-- R32. -/
inductive RestartSource where
  | none
  | compare (channel : Nat)
  | block (path : AudioPath) (threshold : Nat)
  | portByte
deriving DecidableEq, Repr

/-- R24. -/
inductive TimerOwner where
  | none | dialler | tnu | rau | ccu | lke | dpu | spt | vce | tmb
deriving DecidableEq, Repr

/-- R24: a channel record. `signalA` and `signalB` are the model's own (log 1): a compare event that has fired at a tick and
that the owner has not yet taken. A load or a stop of the channel leaves them (R25, R33); an owner whose timing is over gives
them up. -/
structure Channel where
  mode : TimerMode
  count : Nat
  compareA : Nat
  compareB : Nat
  preloadA : Nat
  pendingA : Bool
  preloadB : Nat
  pendingB : Bool
  active : Half
  high : Bool
  stopAfterB : Bool
  use : OutputUse
  captured : Nat
  edge : CaptureEdge
  restart : RestartSource
  owner : TimerOwner
  signalA : Bool
  signalB : Bool
deriving DecidableEq, Repr

/-! ### Tone Unit (Chapter 3) -/

/-- R60. -/
inductive GeneratorState where
  | idle | dialling | sending | beeping
deriving DecidableEq, Repr

/-- What the generator is programmed to send (R44, R61). -/
inductive Tone where
  | pair (symbol : Symbol)
  | single (hertz : Nat)
deriving DecidableEq, Repr

/-- R60. -/
structure Generator where
  state : GeneratorState
  list : List Symbol
  tone : Option Tone
deriving DecidableEq, Repr

/-- R50. -/
structure Detector where
  run : Nat
  recognised : Bool
deriving DecidableEq, Repr

/-- R51. -/
structure Dtmf where
  candidate : Option Symbol
  run : Nat
  reported : Option Symbol
  absence : Nat
deriving DecidableEq, Repr

/-- R53. -/
inductive RunKind where
  | none | on | off
deriving DecidableEq, Repr

/-- R53. `lastOn` is 0 while no on run has been completed since the reset, or since a long OFF run. -/
structure Classifier where
  kind : RunKind
  length : Nat
  lastOn : Nat
  counts : Six Nat
deriving DecidableEq, Repr

/-- The Tone Unit. `blank` counts the blocks of the line that close from now on and in which the DTMF detector judges nothing,
after a burst of the generator (R51). -/
structure ToneUnit where
  generator : Generator
  faxCall : Detector
  dataCall : Detector
  answer : Detector
  dtmf : Dtmf
  blank : Nat
  classifier : Classifier
  voiceBlocks : Nat
deriving DecidableEq, Repr

/-- R52. -/
inductive CadenceClass where
  | dial | busy | ringback | congestion | unused
deriving DecidableEq, Repr

/-- R52. -/
structure CadenceEntry where
  cls : CadenceClass
  onMin : Nat
  onMax : Nat
  offMin : Nat
  offMax : Nat
  cycles : Nat
deriving DecidableEq, Repr

/-- R59. -/
structure DigitQueue where
  digits : List Symbol
  lost : Bool
deriving DecidableEq, Repr

/-! ### Ring and Answer Unit (Chapter 4) -/

/-- R64: the presence that is asserted. -/
inductive Presence where
  | none | pending | qualified
deriving DecidableEq, Repr

/-- R63: the deadline list, one due count of T1 for each kind, and the two held deadlines of R64. -/
structure Deadlines where
  qualify : Option Nat
  windowOpen : Option Nat
  cycleEnd : Option Nat
  windowClose : Option Nat
  episodeEnd : Option Nat
  heldCycleEnd : Bool
  heldEpisodeEnd : Bool
deriving DecidableEq, Repr

/-- R65. -/
structure Episode where
  active : Bool
  firstInProgress : Bool
  inCycle : Bool
  firstBursts : Nat
  pattern : Nat
  ringCount : Nat
  startTime : ClockTime
  seconds : Nat
  threshold : Option Nat
deriving DecidableEq, Repr

/-- R70. -/
inductive CaptureState where
  | listening | receiving | ended
deriving DecidableEq, Repr

/-- R70, with the capture window of R69. -/
structure CallerBuffer where
  state : CaptureState
  bytes : List Byte
  length : Option Nat
  status : CallerStatus
  number : Option (List Nat)
  name : Option (List Byte)
  windowOpen : Bool
deriving DecidableEq, Repr

/-- R76. -/
structure Discrimination where
  phase : DiscrPhase
  greeting : Option Nat
  heard : Nat
  code : List Symbol
  codeDigits : Nat
  wrong : Nat
deriving DecidableEq, Repr

/-- The Ring and Answer Unit. -/
structure Rau where
  presence : Presence
  deadlines : Deadlines
  episode : Episode
  caller : CallerBuffer
  discr : Option Discrimination
deriving DecidableEq, Repr

/-! ### Level Meter (Chapter 5) -/

/-- R85 and R86: the accumulator, the sample count and the last level code of one path. -/
structure PathMeter where
  acc : Nat
  count : Nat
  level : Nat
deriving DecidableEq, Repr

/-- R89. -/
inductive FeedKind where
  | off | training | tracking
deriving DecidableEq, Repr

/-- R89. -/
structure QualityWindow where
  acc : Nat
  symbols : Nat
  saturated : Bool
  overloadRun : Nat
deriving DecidableEq, Repr

/-- R95: a window that held its 256 symbols when its feed, of the kind `feed`, stopped, and that is still to close. -/
structure ClosingWindow where
  feed : FeedKind
  window : QualityWindow
deriving DecidableEq, Repr

/-- The Level Meter. `trainingQ` is the quality figure of the last window closed since the training's feed was started
(R93). `bands` are the twelve bands in the order of R48. -/
structure LevelMeter where
  line : PathMeter
  mic : PathMeter
  bands : List PathMeter
  bandsOn : Bool
  feed : FeedKind
  /-- R95: the windows of stopped feeds that are still to close, oldest first. -/
  closing : List ClosingWindow
  window : QualityWindow
  trainingQ : Option Nat
  lastQ : Option (Nat × Bool)
  overloads : Nat
  average : Option Nat
deriving DecidableEq, Repr

/-! ### Data Pump (Chapter 6) -/

/-- R98. -/
inductive PumpMode where
  | none | data | fax
deriving DecidableEq, Repr

/-- R98. -/
inductive PumpRole where
  | caller | answerer
deriving DecidableEq, Repr

/-- R98. -/
inductive PumpRequest where
  | none
  | rate (rung : Nat)
  | retrain
deriving DecidableEq, Repr

/-- R102 and R107: where a training stands. -/
inductive TrainingStage where
  | none | symbols | verdicts
deriving DecidableEq, Repr

/-- R98; the fields after `request` are what R101, R102 and R105 say of the exchange in progress. -/
structure Pump where
  mode : PumpMode
  role : Option PumpRole
  phase : PumpPhase
  rung : Option Nat
  localCeiling : Nat
  localFloor : Nat
  peerMax : Option Nat
  negCeiling : Option Nat
  negFloor : Option Nat
  below : Nat
  above : Nat
  retrains : Nat
  linkStarted : Bool
  request : PumpRequest
  answerTone : Bool
  heardMax : Option Nat
  heardAck : Bool
  stage : TrainingStage
  ownAccept : Bool
  farAccept : Option Bool
  confirmed : Bool
deriving DecidableEq, Repr

/-! ### Link Engine (Chapter 7) -/

/-- R113. -/
inductive LinkMode where
  | off | setup | linked | direct | clearing
deriving DecidableEq, Repr

/-- R130. -/
inductive LinkPolicy where
  | require | prefer | directOnly
deriving DecidableEq, Repr

/-- R116. -/
inductive LinkFrame where
  | data (seq ack : Nat) (payload : List Byte)
  | ack (ack : Nat) (busy : Bool)
  | reject (expected : Nat)
  | linkReq (window payload : Nat)
  | linkConf (window payload : Nat)
  | clear
deriving DecidableEq, Repr

/-- R133: the fax control frames. -/
inductive FaxFrame where
  | caps (maxRung resolutions scanMs : Nat)
  | set (rung resolution scanMs : Nat)
  | checkOk
  | checkFail
  | pageEnd (more : Bool)
  | pageOk
  | pageBad
  | refuse
  | done
deriving DecidableEq, Repr

/-- What the pump's transmitter was last given to send (R117, R124, R134, R137, R139). -/
inductive Transmission where
  | idleFill
  | resync (rung : Nat)
  | link (f : LinkFrame)
  | fax (f : FaxFrame)
  | check (rung : Nat)
  | byte (b : Byte)
deriving DecidableEq, Repr

/-- R113: a frame of the send window. -/
structure SentFrame where
  seq : Nat
  payload : List Byte
deriving DecidableEq, Repr

/-- R126, with the port overrun count of R127. -/
structure LinkStats where
  sent : Nat
  resent : Nat
  good : Nat
  crcErrors : Nat
  rejectsSent : Nat
  rejectsReceived : Nat
  expiries : Nat
  lost : Nat
  overruns : Nat
deriving DecidableEq, Repr

/-- R113; `reqDue`, `confDue`, `peerOffer` are the setup frames due (R114, R115), `confSetup` says that the LINK_CONF due
answers a LINK_REQ that was taken in SETUP (R115), `byFarEnd` a clearing that the far end
began (R125), `policy` and `offer` the settings as read at the start of setup (R130). -/
structure Link where
  mode : LinkMode
  paused : Bool
  attempts : Nat
  windowSize : Nat
  payloadSize : Nat
  vs : Nat
  window : List SentFrame
  resendMark : Option Nat
  retries : Nat
  peerBusy : Bool
  vr : Nat
  rejectFlag : Bool
  ackOwed : Bool
  busyAckOwed : Bool
  ownBusy : Bool
  rejectOwed : Bool
  clearOwed : Bool
  reqDue : Bool
  confDue : Bool
  confSetup : Bool
  peerOffer : Nat × Nat
  byFarEnd : Bool
  policy : LinkPolicy
  offer : Nat × Nat
  stats : LinkStats
  outbound : List Byte
  inbound : List Byte
  /-- What the line transmitter is sending. -/
  tx : Transmission
deriving DecidableEq, Repr

/-! ### Fax Engine (Chapter 8) -/

/-- R131. -/
inductive FaxRole where
  | sender | receiver
deriving DecidableEq, Repr

/-- R131. -/
inductive FaxPlace where
  | port | store | undecided
deriving DecidableEq, Repr

/-- R131. -/
inductive FaxMore where
  | more | last
deriving DecidableEq, Repr

/-- R131. -/
inductive Resolution where
  | normal | fine
deriving DecidableEq, Repr

/-- R134: the answer that the Fax Engine waits for on T2. -/
inductive FaxExpect where
  | none | caps | set | checkVerdict | pageData | pageEnd | pageVerdict | done
deriving DecidableEq, Repr

/-- R131; the fields after `more` are what R134 to R146 say of the exchange in progress. -/
structure Fax where
  role : Option FaxRole
  place : FaxPlace
  phase : Option FaxPhase
  rung : Option Nat
  floor : Nat
  ceiling : Nat
  resolution : Option Resolution
  scanMs : Nat
  page : Nat
  attempts : Nat
  accepted : Nat
  linkedId : Option Nat
  pageStart : Option Nat
  windows : Nat
  badWindows : Nat
  overflow : Bool
  retries : Nat
  lastFrame : Option FaxFrame
  more : Option FaxMore
  expect : FaxExpect
  /-- R137: the sender's check data is being sent. -/
  checkSending : Bool
  /-- R137: a window of the check was overloaded. -/
  checkOverloaded : Bool
  /-- R140: the page's data has begun (receiver). -/
  dataBegun : Bool
  /-- R138: the last byte of the stream was a 0x10 that opens a pair. -/
  inPair : Bool
  /-- R139: the bytes of the scan line sent so far. -/
  lineLength : Nat
  /-- R145: the next byte of the stored page (sender from the store). -/
  position : Nat
  /-- R146: the page-end mark of the page in hand has joined the outbound queue. -/
  pageFromPort : Bool
  /-- R139: the pump sends the last byte of the page-end mark. -/
  markOut : Bool
  /-- R139: the page-end mark has been sent and the decision is awaited. -/
  markSent : Bool
  /-- R144: bytes of the inbound queue up to the end of the page-end mark of the page last begun. -/
  markInQueue : Option Nat
  /-- R140 and R142: the cause that ends the call once the last frame has left the pump. -/
  endAfter : Option Cause
  /-- R135: the last frame has not left the pump yet, and has not been sent again (log 51). -/
  unsent : Bool
  /-- R135: the answers that the session has had so far, each kind once (log 51). -/
  answered : List FaxExpect
deriving DecidableEq, Repr

/-! ### Voice Engine (Chapter 9) -/

/-- R152. -/
inductive VoiceState where
  | idle | playing | recording | paused
deriving DecidableEq, Repr

/-- R152. -/
inductive VoiceOperation where
  | play | record | tone
deriving DecidableEq, Repr

/-- R152. -/
inductive Endpoint where
  | line | local
deriving DecidableEq, Repr

/-- R165. -/
inductive MsgKind where
  | voiceMsg | greeting | memo | faxIn | faxOut
deriving DecidableEq, Repr

/-- R158. -/
inductive VoiceReason where
  | ended | stopped | vox | maxLength | storeFull | digit | preempted
deriving DecidableEq, Repr

/-- R149. -/
structure Codec where
  predicted : Int
  index : Nat
deriving DecidableEq, Repr

/-- R156: a code byte and the codec state before its first sample. -/
structure CodeByte where
  before : Codec
  code : Nat
deriving DecidableEq, Repr

/-- R156: a block that a recording has taken whole, still to be judged: the code bytes made at its end, its last code byte,
and whether it reached `silence_level`. -/
structure TakenBlock where
  codes : Nat
  last : Nat
  loud : Bool
deriving DecidableEq, Repr

/-- R152; the fields after `clamps` are what R151, R156 and R158 say of the operation in hand. -/
structure VoiceOp where
  state : VoiceState
  user : Option Party
  operation : Option VoiceOperation
  endpoint : Option Endpoint
  message : Option Nat
  kind : Option MsgKind
  slot : Option Nat
  offset : Nat
  stopOnDigit : Bool
  vox : Bool
  maxCode : Nat
  written : Nat
  loud : Nat
  lastLoud : Option Nat
  pausedOp : Option VoiceOperation
  clamps : Nat
  codec : Codec
  /-- R149: the low four bits of the code byte in hand are still to be played. -/
  lowNext : Bool
  /-- R149: the high four bits of the code byte in hand of a recording. -/
  halfByte : Option CodeByte
  /-- R156: code bytes that wait for their granule. -/
  waiting : List CodeByte
  /-- R156: blocks taken whole whose code bytes are not all written yet, oldest first. -/
  taken : List TakenBlock
  /-- R156: the recording has met the first block boundary after its start. -/
  inBlock : Bool
  /-- R156: blocks of the path recorded so far. -/
  blocks : Nat
  /-- R157: the last code byte of the last loud block. -/
  lastLoudByte : Nat
  reason : Option VoiceReason
deriving DecidableEq, Repr

/-- R159. -/
inductive RemoteState where
  | prompting | playing | waiting
deriving DecidableEq, Repr

/-- R159. -/
inductive ListInUse where
  | new | all
deriving DecidableEq, Repr

/-- R159. -/
structure Remote where
  state : RemoteState
  newList : List Nat
  inUse : Option ListInUse
  list : List Nat
  cursor : Option Nat
  prompts : Nat
deriving DecidableEq, Repr

/-- The Voice Engine. -/
structure Voice where
  op : VoiceOp
  resume : Option (Nat × Nat)
  remote : Option Remote
deriving DecidableEq, Repr

/-! ### Message Store (Chapter 10) -/

/-- R165. -/
inductive EntryState where
  | opened | complete | doomed
deriving DecidableEq, Repr

/-- R165. The granule count, the first and the last granule are those of `granules`, the entry's chain in order (log 12). -/
structure Entry where
  id : Nat
  kind : MsgKind
  state : EntryState
  isNew : Bool
  slot : Option Nat
  created : ClockTime
  length : Nat
  granules : List Nat
  callerStatus : Option CallerStatus
  callerNumber : Option (List Nat)
  callerName : Option (List Byte)
  callNumber : Option Nat
  pageCount : Nat
  pageTable : List Nat
  holds : Nat
deriving DecidableEq, Repr

/-- R73. -/
inductive AnswerAction where
  | discriminate | fax | data | ignore
deriving DecidableEq, Repr

/-- R99: a Fall and Rise pair. -/
structure LadderPair where
  fall : Nat
  rise : Nat
deriving DecidableEq, Repr

/-- The saved settings (12.6). An enumeration of two values is a Bool whose name says which value is true. -/
structure Settings where
  pickupHangsUp : Bool
  dialPulse : Bool
  pulseBreakMs : Nat
  pulseMakeMs : Nat
  interdigitMs : Nat
  dtmfOnMs : Nat
  dtmfOffMs : Nat
  pauseMs : Nat
  flashMs : Nat
  dialToneWaitMs : Nat
  noAnswerMs : Nat
  toneLevel : Nat
  cadence : Six CadenceEntry
  answerAction : Three AnswerAction
  ringsToAnswer : Three Nat
  tollSaver : Bool
  tollSaverRings : Nat
  faxToStore : Bool
  quietHangsUp : Bool
  remoteEnable : Bool
  remoteCode : Option (List Nat)
  ladder : Eight LadderPair
  rungFloor : Nat
  rungCeiling : Nat
  carrierLossMs : Nat
  carrierLevel : Nat
  linkPolicy : LinkPolicy
  linkWindow : Nat
  linkPayload : Nat
  linkTimerMs : Nat
  linkRetryLimit : Nat
  escapeGuardMs : Nat
  escapeByte : Nat
  faxMargin : Nat
  faxFine : Bool
  silenceLevel : Nat
  voxTimeoutS : Nat
  maxMessageS : Nat
  minMessageS : Nat
  lowSpaceGranules : Nat
deriving DecidableEq, Repr

/-- R163 and 12.5: the store header. -/
structure StoreHeader where
  signature : List Byte
  installed : Nat
  lastId : Nat
  settings : Settings
deriving DecidableEq, Repr

/-- R164, R165: a directory entry as the DRAM's tables record it: the codes of its kind and its state, its granule count and
the head of its chain; `fields` has its other fields (log 12). -/
structure RecordedEntry where
  kindCode : Nat
  stateCode : Nat
  count : Nat
  first : Option Nat
  fields : Entry
deriving DecidableEq, Repr

/-- R164, R174: the tables of a DRAM that a device reset finds and has still to examine (log 12): the directory, the next-link
of each granule, where `none` is END, and the head and the count of the free list. -/
structure RecordedTables where
  entries : List RecordedEntry
  links : List (Option Nat)
  freeHead : Option Nat
  freeCount : Nat
deriving DecidableEq, Repr

/-- The Message Store. `free` is the free list from head to tail (log 12); `mem` is the DRAM as a list of the bytes that
are not 0, addresses rising (log 7). `tables` are the DRAM's tables where they are held as recorded, to be examined at the next
device reset; `none` where they are those of `dir` and `free`. -/
structure Store where
  installed : Nat
  header : StoreHeader
  dir : List Entry
  free : List Nat
  low : Bool
  tables : Option RecordedTables
  mem : List Host.Cell
deriving DecidableEq, Repr

/-- R170. -/
inductive TransferDirection where
  | read | write
deriving DecidableEq, Repr

/-- R170. -/
inductive TransferState where
  | idle | active | full | done
deriving DecidableEq, Repr

/-- R170: a port's transfer channel and its FIFO. `pageStart` is the start of the page in hand of
a FAX_OUT write (R171), which is the end of its last page-end mark. -/
structure Transfer where
  direction : TransferDirection
  message : Option Nat
  offset : Nat
  remaining : Nat
  state : TransferState
  mark : Bool
  pageStart : Nat
  fifo : List Byte
deriving DecidableEq, Repr

/-! ### Ports and notices (Chapter 11) -/

/-- R180. -/
inductive Group where
  | line | call | connection | fax | voice | store
deriving DecidableEq, Repr

/-- R180: the notice sources in their fixed order. -/
inductive Source where
  | ring | callerId | lineAlert | callState | claimGranted | digit | linkState | rateChange | qualityAlert | faxPage
  | voiceDone | preempted | transferDone | storeAlert
deriving DecidableEq, Repr

/-- R180. -/
structure SourceRecord where
  pending : Bool
  masked : Bool
  merge : Nat
deriving DecidableEq, Repr

/-- R180: one record for each source. -/
structure SourceTable where
  ring : SourceRecord
  callerId : SourceRecord
  lineAlert : SourceRecord
  callState : SourceRecord
  claimGranted : SourceRecord
  digit : SourceRecord
  linkState : SourceRecord
  rateChange : SourceRecord
  qualityAlert : SourceRecord
  faxPage : SourceRecord
  voiceDone : SourceRecord
  preempted : SourceRecord
  transferDone : SourceRecord
  storeAlert : SourceRecord
deriving DecidableEq, Repr

/-- R180: a notice controller; `stack` is the in-service stack, top first, each with the priority it was pushed with. -/
structure Controller where
  sources : SourceTable
  priorities : Six Nat
  stack : List (Source × Nat)
deriving DecidableEq, Repr

/-- R178: the status codes in the order of its table. -/
inductive Status where
  | ok | badFrame | busy | unknownCommand | badParameter | lineBusy | lineInUse | heldByAuto | notHolder | wrongPhase
  | engineBusy | noSuchMessage | msgOpen | inUse | storeFull | channelBusy | badLadder | retained
deriving DecidableEq, Repr

/-- One result of a reply, in the size of its form (R184). `wide` is a number of two bytes whose range goes beyond 65535;
`absent n` is a field of `n` bytes whose value is absent. -/
inductive Item where
  | u8 (n : Nat)
  | u16 (n : Nat)
  | wide (n : Nat)
  | u32 (n : Nat)
  | absent (size : Nat)
deriving DecidableEq, Repr

/-- R177: the reply of a taken command, a BUSY answer, or a BAD_FRAME answer. -/
inductive AnswerKind where
  | reply | busy | badFrame
deriving DecidableEq, Repr

/-- R177: an answer that a port has still to send. -/
structure Answer where
  kind : AnswerKind
  status : Status
  code : Byte
  results : List Item
deriving DecidableEq, Repr

/-- R173: the store alert kinds recorded at a port. -/
structure AlertKinds where
  full : Bool
  low : Bool
  lost : Bool
  formatted : Bool
deriving DecidableEq, Repr

/-- What each port has. `outgoing` are the answers still to be sent, first to be sent first. -/
structure PortState where
  outgoing : List Answer
  notices : Controller
  digits : DigitQueue
  transfer : Transfer
  alerts : AlertKinds
deriving DecidableEq, Repr

/-- R129. -/
inductive EscapeState where
  | waiting | quiet | one | two | three
deriving DecidableEq, Repr

/-- R176, R179, R181: what the System Port has beside. `lastByte` says that RTS was deasserted while a byte was being sent,
which is still to be finished (R176). `assembler` are the bytes of the command frame being assembled (R177). `lateByte` says
that the escape was recognised at this instant, so that a byte that reaches the port at the same instant is still data
(R129). `expiryTaken` is the model's own (log 1): a byte found an expiry of T5 at this instant, which its row then finds taken. -/
structure SystemPort where
  data : Bool
  entryDue : Bool
  goDataDue : Bool
  ready : Bool
  rts : Bool
  cts : Bool
  lastByte : Bool
  rate : PortRate
  notice : Option (Source × Nat)
  assembler : List Byte
  escape : EscapeState
  lateByte : Bool
  expiryTaken : Bool
deriving DecidableEq, Repr

/-- R176: what the Panel Port has beside: the bytes of the owed reply already read, and the bytes that the 2814 sent in the
last read period (the model's record of its output). -/
structure PanelPort where
  readBytes : Nat
  lastPeriod : List Byte
deriving DecidableEq, Repr

/-- R175. -/
structure Power where
  low : Bool
  retention : Bool
deriving DecidableEq, Repr

/-- The whole 2814, and the queue of the commands that are waiting. -/
structure State where
  ccu : Ccu
  lif : Lif
  timers : Eight Channel
  calendar : Calendar
  tone : ToneUnit
  rau : Rau
  level : LevelMeter
  pump : Pump
  link : Link
  fax : Fax
  voice : Voice
  settings : Settings
  store : Store
  ports : PerPort PortState
  sys : SystemPort
  pan : PanelPort
  power : Power
  pending : List Instr
deriving DecidableEq, Repr

/-! ### Reset values -/

/-- R39. -/
def ClockTime.zero : ClockTime := ⟨0, 0, 0, 0⟩

/-- R38: the record of T0 to T6 after device reset. -/
def Channel.reset : Channel :=
  { mode := .off, count := 0, compareA := 1, compareB := 1, preloadA := 0, pendingA := false, preloadB := 0,
    pendingB := false, active := .a, high := false, stopAfterB := false, use := .none, captured := 0, edge := .none,
    restart := .none, owner := .none, signalA := false, signalB := false }

/-- R62 with R63: T1 as the RAU loads it once device reset is over, with an empty deadline list. -/
def Channel.resetT1 : Channel := { Channel.reset with mode := .capture, owner := .rau }

/-- R36 and R38: T7 after device reset. -/
def Channel.resetT7 : Channel :=
  { Channel.reset with mode := .repeat, compareA := Config.secondMs, owner := .tmb }

/-- R38 and R62. -/
def timersReset : Eight Channel :=
  ⟨.reset, .resetT1, .reset, .reset, .reset, .reset, .reset, .resetT7⟩

/-- R17: the Call Record after device reset. -/
def CallRecord.reset : CallRecord :=
  { active := false, number := 0, direction := .outgoing, holder := none, job := .none, phase := none,
    dialList := none, farEndRinging := false, callerStatus := none, callerNumber := none, callerName := none,
    ringPattern := none, ringCount := none, startTime := .zero, linkedId := none, rung := none, lastQuality := none,
    seconds := 0, cause := none }

/-- R42. -/
def Dialler.reset : Dialler := { cursor := 0, item := .none, breaksEnded := 0, lastMake := 0 }

/-- R20. -/
def Ccu.reset : Ccu :=
  { line := .idle, call := .reset, lastNumber := 0, ending := none, blind := false, claims := [], history := [],
    t2Use := .none, dialler := .reset }

/-- R20; the pins by log 6. -/
def Lif.reset : Lif :=
  { relayClosed := false, ringPresent := false, hangover := 0, lineInUse := false, voltageBelow := false,
    voltageRun := 0, currentBelow := false, currentRun := 0, pickupLatch := false, suspended := false,
    suspendLeft := 0 }

/-- R49: a detector at rest. -/
def Detector.zero : Detector := ⟨0, false⟩

/-- R49 and R51. -/
def Dtmf.zero : Dtmf := { candidate := none, run := 0, reported := none, absence := 0 }

/-- R53: the classifier's reset. -/
def Classifier.zero : Classifier := { kind := .none, length := 0, lastOn := 0, counts := ⟨0, 0, 0, 0, 0, 0⟩ }

/-- R60. -/
def Generator.idle : Generator := { state := .idle, list := [], tone := none }

/-- The Tone Unit after device reset. -/
def ToneUnit.reset : ToneUnit :=
  { generator := .idle, faxCall := .zero, dataCall := .zero, answer := .zero, dtmf := .zero, blank := 0,
    classifier := .zero, voiceBlocks := 0 }

/-- R63. -/
def Deadlines.empty : Deadlines :=
  { qualify := none, windowOpen := none, cycleEnd := none, windowClose := none, episodeEnd := none,
    heldCycleEnd := false, heldEpisodeEnd := false }

/-- R65, R70, R76: the Ring and Answer Unit after device reset. -/
def Rau.reset : Rau :=
  { presence := .none, deadlines := .empty,
    episode :=
      { active := false, firstInProgress := false, inCycle := false, firstBursts := 0, pattern := 0, ringCount := 0,
        startTime := .zero, seconds := 0, threshold := none },
    caller :=
      { state := .ended, bytes := [], length := none, status := .none, number := none, name := none,
        windowOpen := false },
    discr := none }

/-- R86. -/
def PathMeter.zero : PathMeter := ⟨0, 0, 0⟩

/-- R89: the window record when a feed starts from OFF. -/
def QualityWindow.zero : QualityWindow := ⟨0, 0, false, 0⟩

/-- R96. -/
def LevelMeter.reset : LevelMeter :=
  { line := .zero, mic := .zero, bands := List.replicate 12 .zero, bandsOn := false, feed := .off, closing := [],
    window := .zero, trainingQ := none, lastQ := none, overloads := 0, average := none }

/-- R98. -/
def Pump.idle : Pump :=
  { mode := .none, role := none, phase := .off, rung := none, localCeiling := 7, localFloor := 0, peerMax := none,
    negCeiling := none, negFloor := none, below := 0, above := 0, retrains := 0, linkStarted := false, request := .none,
    answerTone := false, heardMax := none, heardAck := false, stage := .none, ownAccept := false, farAccept := none,
    confirmed := false }

/-- R126. -/
def LinkStats.zero : LinkStats := ⟨0, 0, 0, 0, 0, 0, 0, 0, 0⟩

/-- R113: the link record at rest, with its statistics. -/
def Link.idle (stats : LinkStats) : Link :=
  { mode := .off, paused := false, attempts := 0, windowSize := 1, payloadSize := 32, vs := 0, window := [],
    resendMark := none, retries := 0, peerBusy := false, vr := 0, rejectFlag := false, ackOwed := false,
    busyAckOwed := false, ownBusy := false, rejectOwed := false, clearOwed := false, reqDue := false, confDue := false,
    confSetup := false, peerOffer := (1, 32), byFarEnd := false, policy := .prefer, offer := (1, 32), stats := stats, outbound := [],
    inbound := [], tx := .idleFill }

/-- R131: the session record as device reset and the setup leave it, with its role, its place and its bounds. -/
def Fax.setup (role : Option FaxRole) (place : FaxPlace) (floor ceiling : Nat) : Fax :=
  { role := role, place := place, phase := none, rung := none, floor := floor, ceiling := ceiling, resolution := none,
    scanMs := 0, page := 0, attempts := 0, accepted := 0, linkedId := none, pageStart := none, windows := 0,
    badWindows := 0, overflow := false, retries := 0, lastFrame := none, more := none, expect := .none,
    checkSending := false, checkOverloaded := false, dataBegun := false, inPair := false, lineLength := 0,
    position := 0, pageFromPort := false, markOut := false, markSent := false, markInQueue := none, endAfter := none,
    unsent := false, answered := [] }

/-- R152: the operation record after device reset. -/
def VoiceOp.reset : VoiceOp :=
  { state := .idle, user := none, operation := none, endpoint := none, message := none, kind := none, slot := none,
    offset := 0, stopOnDigit := false, vox := false, maxCode := 0, written := 0, loud := 0, lastLoud := none,
    pausedOp := none, clamps := 0, codec := ⟨0, 0⟩, lowNext := false, halfByte := none, waiting := [], taken := [], inBlock := false,
    blocks := 0, lastLoudByte := 0, reason := none }

/-- R152 and R159. -/
def Voice.reset : Voice := { op := .reset, resume := none, remote := none }

/-- R52: the default cadence entries. DESIGN CHOICE (log 8): the fields that the table leaves blank. -/
def cadenceDefault : Six CadenceEntry :=
  ⟨⟨.dial, 1000, 8000, 16, 8000, 1⟩, ⟨.busy, 350, 650, 350, 650, 2⟩, ⟨.congestion, 180, 320, 180, 320, 2⟩,
   ⟨.ringback, 700, 2500, 1800, 5200, 1⟩, ⟨.unused, 16, 8000, 16, 8000, 1⟩, ⟨.unused, 16, 8000, 16, 8000, 1⟩⟩

/-- R99: the default ladder. -/
def ladderDefault : Eight LadderPair :=
  ⟨⟨0, 64⟩, ⟨48, 112⟩, ⟨88, 152⟩, ⟨128, 184⟩, ⟨160, 216⟩, ⟨192, 248⟩, ⟨224, 280⟩, ⟨256, 377⟩⟩

/-- 12.6: every saved setting at its default. -/
def Settings.default : Settings :=
  { pickupHangsUp := false, dialPulse := false, pulseBreakMs := 60, pulseMakeMs := 40, interdigitMs := 750,
    dtmfOnMs := 100, dtmfOffMs := 100, pauseMs := 2000, flashMs := 300, dialToneWaitMs := 5000, noAnswerMs := 60000,
    toneLevel := 24, cadence := cadenceDefault, answerAction := ⟨.discriminate, .discriminate, .discriminate⟩,
    ringsToAnswer := ⟨4, 4, 4⟩, tollSaver := true, tollSaverRings := 2, faxToStore := true, quietHangsUp := false,
    remoteEnable := false, remoteCode := none, ladder := ladderDefault, rungFloor := 0, rungCeiling := 7,
    carrierLossMs := 1400, carrierLevel := 20, linkPolicy := .prefer, linkWindow := 7, linkPayload := 128,
    linkTimerMs := 2000, linkRetryLimit := 10, escapeGuardMs := 1000, escapeByte := 0x23, faxMargin := 16,
    faxFine := false, silenceLevel := 28, voxTimeoutS := 7, maxMessageS := 120, minMessageS := 2,
    lowSpaceGranules := 40 }

/-- R163: the usable granules in ascending order. -/
def usableGranules (installed : Nat) : List Nat :=
  List.range' Config.reservedGranules (installed - Config.reservedGranules)

/-- R174: the store that a cold start leaves. -/
def Store.cold (installed : Nat) (mem : List Host.Cell) : Store :=
  { installed := installed,
    header := { signature := Config.signature, installed := installed, lastId := 0, settings := .default },
    dir := [], free := usableGranules installed,
    low := decide ((usableGranules installed).length < Settings.default.lowSpaceGranules), tables := none, mem := mem }

/-- R170. -/
def Transfer.idle : Transfer :=
  { direction := .read, message := none, offset := 0, remaining := 0, state := .idle, mark := false, pageStart := 0,
    fifo := [] }

/-- A source with nothing pending. -/
def SourceRecord.clear : SourceRecord := ⟨false, false, 0⟩

/-- R180. -/
def SourceTable.clear : SourceTable :=
  ⟨.clear, .clear, .clear, .clear, .clear, .clear, .clear, .clear, .clear, .clear, .clear, .clear, .clear, .clear⟩

/-- R180 and R182: the controller after device reset or PORT RESET. -/
def Controller.reset : Controller := { sources := .clear, priorities := ⟨1, 2, 3, 4, 5, 6⟩, stack := [] }

/-- R173. -/
def AlertKinds.none : AlertKinds := ⟨false, false, false, false⟩

/-- A port after a device reset that was a warm start. -/
def PortState.reset : PortState :=
  { outgoing := [], notices := .reset, digits := ⟨[], false⟩, transfer := .idle, alerts := .none }

/-- R174: what a cold start leaves pending at a port. -/
def PortState.resetLost : PortState :=
  { PortState.reset with
    notices := { Controller.reset with sources := { SourceTable.clear with storeAlert := ⟨true, false, 0⟩ } },
    alerts := { AlertKinds.none with lost := true } }

/-- The state after a device reset that found a store `st` (already checked) and settings `se`, with the pins given. -/
def State.afterReset (st : Store) (se : Settings) (p : PortState) (rate : PortRate) (ready rts voltage current : Bool)
    (queue : List Instr) : State :=
  { ccu := .reset, lif := { Lif.reset with voltageBelow := voltage, currentBelow := current }, timers := timersReset,
    calendar := ⟨.zero, false⟩, tone := .reset, rau := .reset, level := .reset, pump := .idle, link := .idle .zero,
    fax := .setup none .undecided 2 7, voice := .reset, settings := se, store := st, ports := ⟨p, p⟩,
    sys := { data := false, entryDue := false, goDataDue := false, ready := ready, rts := rts, cts := true,
             lastByte := false, rate := rate, notice := none, assembler := [], escape := .waiting,
             lateByte := false, expiryTaken := false },
    pan := ⟨0, []⟩, power := ⟨false, false⟩, pending := queue }

/-- The machine right after reset: a cold start (R174) of a 2814 with 1 MB of DRAM whose System Port has READY and RTS
asserted. DESIGN CHOICE (log 5): the straps, the pins and that the store was found unsigned. -/
def State.reset : State :=
  State.afterReset (Store.cold 1024 []) .default .resetLost .r19200 true true false false []

end Sys2Proof.Machine
end

