-- ==== Sys2Proof/Machine/Ops.lean ====
section
/-! DEFINITION. The named operations that the blocks share: the small tables, the ports of State, the timer channels of
Chapter 2, the DRAM, and the end of a step. -/

namespace Sys2Proof

/-- The holder name of a port's master (1.2). -/
def Port.party : Port → Machine.Party
  | .system => .system
  | .panel => .panel

end Sys2Proof

namespace Sys2Proof.Machine

/-- The outcome of a command. -/
abbrev Step := Host.Outcome State Fault Refusal

/-! ### Tables -/

/-- The port's thing. -/
def PerPort.get {α : Type} (t : PerPort α) : Port → α
  | .system => t.system
  | .panel => t.panel

/-- The table with the port's thing replaced. -/
def PerPort.set {α : Type} (t : PerPort α) (p : Port) (x : α) : PerPort α :=
  match p with
  | .system => { t with system := x }
  | .panel => { t with panel := x }

/-- The thing of pattern `n`, 1 to 3 (R73); a pattern above 3 is read as 3 and 0 as 1. -/
def Three.get {α : Type} (t : Three α) : Nat → α
  | 0 => t.e1
  | 1 => t.e1
  | 2 => t.e2
  | _ => t.e3

/-- The table with the thing of pattern `n` replaced. -/
def Three.set {α : Type} (t : Three α) (n : Nat) (x : α) : Three α :=
  match n with
  | 0 => { t with e1 := x }
  | 1 => { t with e1 := x }
  | 2 => { t with e2 := x }
  | _ => { t with e3 := x }

/-- The thing at index 0 to 5. -/
def Six.get {α : Type} (t : Six α) : Nat → α
  | 0 => t.e0
  | 1 => t.e1
  | 2 => t.e2
  | 3 => t.e3
  | 4 => t.e4
  | _ => t.e5

/-- The table with the thing at an index replaced. -/
def Six.set {α : Type} (t : Six α) (n : Nat) (x : α) : Six α :=
  match n with
  | 0 => { t with e0 := x }
  | 1 => { t with e1 := x }
  | 2 => { t with e2 := x }
  | 3 => { t with e3 := x }
  | 4 => { t with e4 := x }
  | _ => { t with e5 := x }

/-- The thing at index 0 to 7. -/
def Eight.get {α : Type} (t : Eight α) : Nat → α
  | 0 => t.e0
  | 1 => t.e1
  | 2 => t.e2
  | 3 => t.e3
  | 4 => t.e4
  | 5 => t.e5
  | 6 => t.e6
  | _ => t.e7

/-- The table with the thing at an index replaced. -/
def Eight.set {α : Type} (t : Eight α) (n : Nat) (x : α) : Eight α :=
  match n with
  | 0 => { t with e0 := x }
  | 1 => { t with e1 := x }
  | 2 => { t with e2 := x }
  | 3 => { t with e3 := x }
  | 4 => { t with e4 := x }
  | 5 => { t with e5 := x }
  | 6 => { t with e6 := x }
  | _ => { t with e7 := x }

/-- A function of the index and the thing, at every index. -/
def Eight.mapIdx {α β : Type} (t : Eight α) (f : Nat → α → β) : Eight β :=
  ⟨f 0 t.e0, f 1 t.e1, f 2 t.e2, f 3 t.e3, f 4 t.e4, f 5 t.e5, f 6 t.e6, f 7 t.e7⟩

/-- The things in order. -/
def Eight.toList {α : Type} (t : Eight α) : List α := [t.e0, t.e1, t.e2, t.e3, t.e4, t.e5, t.e6, t.e7]

/-! ### The ports of State -/

/-- The port of a master; none for the automatic answerer (R180). -/
def Party.port : Party → Option Port
  | .auto => none
  | .system => some .system
  | .panel => some .panel

/-- What a port has. -/
def State.port (s : State) (p : Port) : PortState := s.ports.get p

/-- What a port has, changed by `f`. -/
def State.updPort (s : State) (p : Port) (f : PortState → PortState) : State :=
  { s with ports := s.ports.set p (f (s.port p)) }

/-- The holder of the active call; none when no call is active (R10). -/
def State.holder (s : State) : Option Party := if s.ccu.call.active = true then s.ccu.call.holder else none

/-- R2 and R34: the relay as it stands, opened during a break or a flash by T0's output. -/
def State.relayNow (s : State) : Bool :=
  s.lif.relayClosed && !(s.timers.e0.use == .relayBreak && s.timers.e0.high)

/-! ### Timer channels (Chapter 2) -/

/-- R25: what a load gives. -/
structure Load where
  mode : TimerMode
  compareA : Nat
  compareB : Nat
  stopAfterB : Bool
  restart : RestartSource
  use : OutputUse
  owner : TimerOwner
deriving DecidableEq, Repr

/-- R25: a compare of 0 is clamped to 1, one above 65535 to 65535. -/
def compareClamp (n : Nat) : Nat := clamp 1 Config.max16 n

/-- R25: a load of a channel. `compareB` and `stopAfterB` are given in ALTERNATE only. An event that fired at a tick before
the load stays for the owner. -/
def Channel.load (c : Channel) (l : Load) : Channel :=
  { c with
    mode := l.mode, count := 0, compareA := compareClamp l.compareA,
    compareB := if l.mode = .alternate then compareClamp l.compareB else c.compareB,
    stopAfterB := if l.mode = .alternate then l.stopAfterB else false,
    active := .a, pendingA := false, pendingB := false, high := decide (l.mode = .alternate),
    captured := if l.mode = .capture then 0 else c.captured,
    edge := if l.mode = .capture then .none else c.edge,
    use := l.use, restart := l.restart, owner := l.owner }

/-- R33: a stop of a channel. An event that fired at a tick before the stop stays for the owner. -/
def Channel.stop (c : Channel) : Channel :=
  { c with mode := .off, high := false, pendingA := false, pendingB := false, stopAfterB := false }

/-- R25, R33: the owner gives up a timing together with an event of it that has fired and that it has not taken: the load or the
stop was taken first, and the expiry does not happen (log 1). -/
def Channel.abandon (c : Channel) : Channel := { c with signalA := false, signalB := false }

/-- R31: a write of compare A. -/
def Channel.writeA (c : Channel) (n : Nat) : Channel := { c with compareA := compareClamp n }

/-- R31: a write of compare B. -/
def Channel.writeB (c : Channel) (n : Nat) : Channel := { c with compareB := compareClamp n }

/-- R29: a write of preload A. -/
def Channel.writePreloadA (c : Channel) (n : Nat) : Channel :=
  { c with preloadA := compareClamp n, pendingA := true }

/-- R29: a write of preload B. -/
def Channel.writePreloadB (c : Channel) (n : Nat) : Channel :=
  { c with preloadB := compareClamp n, pendingB := true }

/-- R26 and R28: the compare that the count is judged against. -/
def Channel.activeCompare (c : Channel) : Nat :=
  match c.mode, c.active with
  | .alternate, .b => c.compareB
  | _, _ => c.compareA

/-- The compare event a match now would be. -/
def Channel.nextEvent (c : Channel) : Half :=
  match c.mode with
  | .alternate => c.active
  | _ => .a

/-- R26 to R30 and R32: what a compare event of channel number `own` does to its record. -/
def Channel.fire (own : Nat) (c : Channel) : Channel :=
  match c.mode with
  | .off => c
  | .oneShot => if c.restart = .compare own then { c with count := 0 } else { c with mode := .off }
  | .repeat => { c with count := 0 }
  | .capture => c
  | .alternate =>
    match c.active with
    | .a =>
      { c with high := !c.high, count := 0, active := .b,
               compareB := if c.pendingB = true then c.preloadB else c.compareB, pendingB := false }
    | .b =>
      if c.stopAfterB = true then { c with mode := .off, high := false, pendingA := false, pendingB := false }
      else
        { c with high := !c.high, count := 0, active := .a,
                 compareA := if c.pendingA = true then c.preloadA else c.compareA, pendingA := false }

/-- The event `h` marked as fired and not yet taken by the owner (log 1). -/
def Channel.signal (h : Half) (c : Channel) : Channel :=
  match h with
  | .a => { c with signalA := true }
  | .b => { c with signalB := true }

/-- R26 and R30: the count meets the compare. -/
def Channel.meets (c : Channel) : Bool :=
  match c.mode with
  | .off => false
  | .capture => decide (c.count = c.compareA)
  | _ => decide (c.activeCompare ≤ c.count)

/-- R26 and R30: the count after one tick. -/
def Channel.counted (c : Channel) : Channel :=
  match c.mode with
  | .off => c
  | .capture => { c with count := (c.count + 1) % 65536 }
  | _ => { c with count := c.count + 1 }

/-- R26 to R30: one 1 ms tick of channel number `own`. -/
def Channel.tick (own : Nat) (c : Channel) : Channel :=
  if c.counted.meets = true then (c.counted.fire own).signal c.counted.nextEvent else c.counted

/-- A compare event fires in the next tick (R26). -/
def Channel.firesNext (c : Channel) : Bool := c.counted.meets

/-- R32: a restart event that reaches a channel. -/
def Channel.restarted (c : Channel) : Channel :=
  match c.mode with
  | .oneShot => { c with count := 0 }
  | .repeat => { c with count := 0 }
  | .alternate => { c with count := 0 }
  | _ => c

/-- R32: the compare events of the channels in `fired` restart the other channels that name them. -/
def restartByCompare (fired : List Nat) (own : Nat) (c : Channel) : Channel :=
  match c.restart with
  | .compare n => if n ≠ own ∧ n ∈ fired then c.restarted else c
  | _ => c

/-- R26 and R32: a tick of the whole bank. -/
def Timers.tick (t : Eight Channel) : Eight Channel :=
  let fired := (List.range 8).filter (fun i => (t.get i).firesNext)
  (t.mapIdx (fun i c => c.tick i)).mapIdx (restartByCompare fired)

/-- R32: a block event of a path reaches a channel whose restart source names that path and a threshold it meets. -/
def Channel.blockRestart (path : AudioPath) (level : Nat) (c : Channel) : Channel :=
  match c.restart with
  | .block p threshold => if p = path ∧ threshold ≤ level then c.restarted else c
  | _ => c

/-- R32: a byte received by the System Port reaches a channel. -/
def Channel.byteRestart (c : Channel) : Channel :=
  match c.restart with
  | .portByte => c.restarted
  | _ => c

/-- The owner takes a compare A event (log 1): the event that fired at a tick, or, where the row comes before the ticks, the
event itself, for which the count is brought to the compare. None when the channel has no such event to give. -/
def Channel.takeA (own : Nat) (c : Channel) : Option Channel :=
  if c.signalA = true then some { c with signalA := false }
  else if c.mode = .off ∨ c.mode = .capture ∨ c.nextEvent = .b then none
  else some ({ c with count := max c.count c.compareA }.fire own)

/-- The owner takes a compare B event of an ALTERNATE channel (log 1). -/
def Channel.takeB (own : Nat) (c : Channel) : Option Channel :=
  if c.signalB = true then some { c with signalB := false }
  else if c.mode = .alternate ∧ c.active = .b then some ({ c with count := max c.count c.compareB }.fire own)
  else none

/-- The owner takes a compare A event only where it has fired at a tick, or fires at the very next one: a second event is
never early (R40). -/
def Channel.takeDue (own : Nat) (c : Channel) : Option Channel :=
  if c.signalA = true ∨ c.firesNext = true then c.takeA own else none

/-- R30: an edge of the input of a CAPTURE channel. -/
def Channel.capture (e : CaptureEdge) (c : Channel) : Channel := { c with captured := c.count, edge := e }

/-- R35: the CCU loads T2 for a use, and the timing in progress is replaced. -/
def State.loadT2 (s : State) (use : T2Use) (ms : Nat) (restart : RestartSource) : State :=
  { s with
    timers.e2 := s.timers.e2.abandon.load
      { mode := .oneShot, compareA := ms, compareB := 1, stopAfterB := false, restart := restart, use := .none,
        owner := .ccu },
    ccu.t2Use := use }

/-- R33, R35: the CCU stops T2, and takes no expiry of it any more. -/
def State.stopT2 (s : State) : State := { s with timers.e2 := s.timers.e2.stop.abandon, ccu.t2Use := .none }

/-- R35: the CCU takes the expiry of T2 as that of the use last loaded, when the use is `use`. -/
def State.takeT2 (s : State) (use : T2Use) : Option State :=
  if s.ccu.t2Use = use then (s.timers.e2.takeA 2).map (fun c => { s with timers.e2 := c }) else none

/-- R120: a load of T3; an expiry that fired before it does not happen. -/
def State.loadT3 (s : State) (ms : Nat) : State :=
  { s with
    timers.e3 := s.timers.e3.abandon.load
      { mode := .oneShot, compareA := ms, compareB := 1, stopAfterB := false, restart := .none, use := .none,
        owner := .lke } }

/-- R33, R120, R123: a stop of T3; an expiry that fired before it does not happen. -/
def State.stopT3 (s : State) : State := { s with timers.e3 := s.timers.e3.stop.abandon }

/-- The Link Engine takes the expiry of T3. -/
def State.takeT3 (s : State) : Option State := (s.timers.e3.takeA 3).map (fun c => { s with timers.e3 := c })

/-- R109: the carrier watch on T4. -/
def State.loadT4 (s : State) : State :=
  { s with
    timers.e4 := s.timers.e4.load
      { mode := .oneShot, compareA := s.settings.carrierLossMs, compareB := 1, stopAfterB := false,
        restart := .block .line s.settings.carrierLevel, use := .none, owner := .dpu } }

/-- R33, R109: a stop of T4; an event that fired before it is ignored. -/
def State.stopT4 (s : State) : State := { s with timers.e4 := s.timers.e4.stop.abandon }

/-- R129: the escape guard on T5; an expiry that fired before it does not happen. -/
def State.loadT5 (s : State) : State :=
  { s with
    timers.e5 := s.timers.e5.abandon.load
      { mode := .oneShot, compareA := s.settings.escapeGuardMs, compareB := 1, stopAfterB := false,
        restart := .portByte, use := .none, owner := .spt } }

/-- R33, R129: a stop of T5; an expiry that fired before it does not happen. -/
def State.stopT5 (s : State) : State := { s with timers.e5 := s.timers.e5.stop.abandon }

/-- R156: the VOX timeout on T6, restarted by the blocks of the recorded path. -/
def State.loadT6 (s : State) (path : AudioPath) : State :=
  { s with
    timers.e6 := s.timers.e6.load
      { mode := .oneShot, compareA := s.settings.voxTimeoutS * 1000, compareB := 1, stopAfterB := false,
        restart := .block path s.settings.silenceLevel, use := .none, owner := .vce } }

/-- R33, R156: a stop of T6; an expiry that fired before it does not happen. -/
def State.stopT6 (s : State) : State := { s with timers.e6 := s.timers.e6.stop.abandon }

/-- R43 to R45, R60 and R61: a load of T0 in ALTERNATE. -/
def State.loadT0 (s : State) (use : OutputUse) (owner : TimerOwner) (a b : Nat) (stopB : Bool) : State :=
  { s with
    timers.e0 := s.timers.e0.load
      { mode := .alternate, compareA := a, compareB := b, stopAfterB := stopB, restart := .none, use := use,
        owner := owner } }

/-- R33, R42: a stop of T0; an event that fired before it does not happen. -/
def State.stopT0 (s : State) : State := { s with timers.e0 := s.timers.e0.stop.abandon }

/-! ### DRAM (R163) -/

/-- The byte at an address; an unlisted address reads 0 (DESIGN CHOICE, log 7). -/
def Mem.read (m : List Host.Cell) (a : Nat) : Byte :=
  match m with
  | [] => 0#8
  | c :: rest => if c.1 = a then c.2 else Mem.read rest a

/-- The memory with one byte written; a 0 is not listed. -/
def Mem.write (m : List Host.Cell) (a : Nat) (b : Byte) : List Host.Cell :=
  match m with
  | [] => if b = 0#8 then [] else [(a, b)]
  | c :: rest =>
    if a < c.1 then (if b = 0#8 then c :: rest else (a, b) :: c :: rest)
    else if a = c.1 then (if b = 0#8 then rest else (a, b) :: rest)
    else c :: Mem.write rest a b

/-- The canonical form: addresses strictly rising, and no byte listed that reads as an unlisted one. -/
def Mem.wf : List Host.Cell → Bool
  | [] => true
  | [c] => decide (c.2 ≠ 0#8)
  | c :: d :: rest => decide (c.2 ≠ 0#8) && decide (c.1 < d.1) && Mem.wf (d :: rest)

/-- The address of byte `o` of granule `g`. -/
def granuleAddress (g o : Nat) : Nat := g * Config.granuleBytes + o

end Sys2Proof.Machine
end

