-- ==== Sys2Proof/Machine/Flags.lean ====
section
/-! DEFINITION. The notice controllers (R180 to R182): the pending and mask flags and the merge counts, the priorities, the
in-service stack, and the delivery on the System Port that ends a step. -/

namespace Sys2Proof.Machine

/-- R180: the six groups in their fixed order. -/
def Group.index : Group → Nat
  | .line => 0
  | .call => 1
  | .connection => 2
  | .fax => 3
  | .voice => 4
  | .store => 5

/-- R180: the group of a source. -/
def Source.group : Source → Group
  | .ring => .line
  | .callerId => .line
  | .lineAlert => .line
  | .callState => .call
  | .claimGranted => .call
  | .digit => .call
  | .linkState => .connection
  | .rateChange => .connection
  | .qualityAlert => .connection
  | .faxPage => .fax
  | .voiceDone => .voice
  | .preempted => .voice
  | .transferDone => .store
  | .storeAlert => .store

/-- R180: the sources, group by group, each group's in its fixed order. -/
def Source.all : List Source :=
  [.ring, .callerId, .lineAlert, .callState, .claimGranted, .digit, .linkState, .rateChange, .qualityAlert, .faxPage,
   .voiceDone, .preempted, .transferDone, .storeAlert]

/-- R184: the sources are numbered 1 to 14. -/
def Source.code : Source → Nat
  | .ring => 1
  | .callerId => 2
  | .lineAlert => 3
  | .callState => 4
  | .claimGranted => 5
  | .digit => 6
  | .linkState => 7
  | .rateChange => 8
  | .qualityAlert => 9
  | .faxPage => 10
  | .voiceDone => 11
  | .preempted => 12
  | .transferDone => 13
  | .storeAlert => 14

/-- The source of a number; none for a number outside 1 to 14. -/
def Source.ofCode (n : Nat) : Option Source := Source.all.find? (fun x => x.code == n)

/-- The record of a source. -/
def SourceTable.get (t : SourceTable) : Source → SourceRecord
  | .ring => t.ring
  | .callerId => t.callerId
  | .lineAlert => t.lineAlert
  | .callState => t.callState
  | .claimGranted => t.claimGranted
  | .digit => t.digit
  | .linkState => t.linkState
  | .rateChange => t.rateChange
  | .qualityAlert => t.qualityAlert
  | .faxPage => t.faxPage
  | .voiceDone => t.voiceDone
  | .preempted => t.preempted
  | .transferDone => t.transferDone
  | .storeAlert => t.storeAlert

/-- The table with one record replaced. -/
def SourceTable.set (t : SourceTable) (x : Source) (r : SourceRecord) : SourceTable :=
  match x with
  | .ring => { t with ring := r }
  | .callerId => { t with callerId := r }
  | .lineAlert => { t with lineAlert := r }
  | .callState => { t with callState := r }
  | .claimGranted => { t with claimGranted := r }
  | .digit => { t with digit := r }
  | .linkState => { t with linkState := r }
  | .rateChange => { t with rateChange := r }
  | .qualityAlert => { t with qualityAlert := r }
  | .faxPage => { t with faxPage := r }
  | .voiceDone => { t with voiceDone := r }
  | .preempted => { t with preempted := r }
  | .transferDone => { t with transferDone := r }
  | .storeAlert => { t with storeAlert := r }

/-- R180: a source's record after an occurrence. -/
def SourceRecord.occur (r : SourceRecord) : SourceRecord :=
  if r.pending = true then { r with merge := bump Config.mergeMax r.merge } else { r with pending := true }

/-- R180: an occurrence at a controller. -/
def Controller.occur (c : Controller) (x : Source) : Controller :=
  { c with sources := c.sources.set x (c.sources.get x).occur }

/-- R180: the priority of a source's group. -/
def Controller.priority (c : Controller) (x : Source) : Nat := c.priorities.get x.group.index

/-- R181: unmasked, pending, and more urgent than the top of the in-service stack. -/
def Controller.deliverable (c : Controller) (x : Source) : Bool :=
  (c.sources.get x).pending && !(c.sources.get x).masked &&
    match c.stack with
    | [] => true
    | top :: _ => decide (c.priority x < top.2)

/-- R181: of two deliverable sources the more urgent one; on a tie the earlier one, which is `best`. -/
def Controller.better (c : Controller) (best : Option Source) (x : Source) : Option Source :=
  if c.deliverable x = true then
    match best with
    | none => some x
    | some b => if c.priority x < c.priority b then some x else some b
  else best

/-- R181: the source the arbiter chooses. -/
def Controller.choice (c : Controller) : Option Source := Source.all.foldl c.better none

/-- R181: the merge count that a delivery hands over. -/
def Controller.mergeOf (c : Controller) (x : Source) : Nat := (c.sources.get x).merge

/-- R181: a delivery clears the source and pushes it with its priority. -/
def Controller.deliver (c : Controller) (x : Source) : Controller :=
  { c with
    sources := c.sources.set x { c.sources.get x with pending := false, merge := 0 },
    stack := (x, c.priority x) :: c.stack }

/-- R180: CLEAR NOTICE of a source. -/
def Controller.clear (c : Controller) (x : Source) : Controller :=
  { c with sources := c.sources.set x { c.sources.get x with pending := false, merge := 0 } }

/-- R180: a mask flag written. -/
def Controller.mask (c : Controller) (x : Source) (masked : Bool) : Controller :=
  { c with sources := c.sources.set x { c.sources.get x with masked := masked } }

/-! ### Occurrences at the ports -/

/-- An occurrence at one port's controller. -/
def State.raiseAt (s : State) (p : Port) (x : Source) : State :=
  s.updPort p (fun q => { q with notices := q.notices.occur x })

/-- An occurrence routed to both ports. -/
def State.raiseBoth (s : State) (x : Source) : State := (s.raiseAt .system x).raiseAt .panel x

/-- An occurrence routed to the port of a party; none for AUTO (R180). -/
def State.raiseParty (s : State) (party : Option Party) (x : Source) : State :=
  match party.bind Party.port with
  | some p => s.raiseAt p x
  | none => s

/-- R180: an occurrence routed to the port of the call's holder. -/
def State.raiseHolder (s : State) (x : Source) : State := s.raiseParty s.holder x

/-! ### Delivery -/

/-- R181 and R182: the System Port can begin a notice frame. An entry to the data state that is due goes before it. DESIGN
CHOICE (log 18): a BAD_FRAME answer that waits holds it back as a BUSY answer does. -/
abbrev State.canBeginNotice (s : State) : Prop :=
  s.power.low = false ∧ s.sys.data = false ∧ s.sys.entryDue = false ∧ s.ports.system.outgoing = [] ∧
    s.sys.notice = none ∧ s.sys.ready = true ∧ s.sys.rts = true

/-- R181: the System Port's arbiter, when it may begin a notice frame, delivers the source it chooses. -/
def State.deliverSystem (s : State) : State :=
  if s.canBeginNotice then
    match s.ports.system.notices.choice with
    | none => s
    | some x =>
      { s with
        ports.system.notices := s.ports.system.notices.deliver x,
        sys.notice := some (x, s.ports.system.notices.mergeOf x) }
  else s

/-- R181: the NOTICE line of the Panel Port. -/
def State.noticeLine (s : State) : Bool :=
  !s.power.low && s.ports.panel.notices.choice.isSome

/-- The end of every step: the next state, with the notice frame that the System Port begins in it (log 13). -/
def finish (s : State) : Step := .next s.deliverSystem

end Sys2Proof.Machine
end

