-- ==== Sys2Proof/Machine/Operands.lean ====
section
/-! DEFINITION. The operands of command frames and the results of replies: the codes of Chapter 12, the sizes of results,
the bytes of a reply, and how a port takes a valid frame (R177, R178, R184, R185). -/

namespace Sys2Proof.Machine

/-! ### Codes (R184) -/

/-- R184. -/
def holderCode : Option Party → Nat
  | none => 0
  | some .auto => 1
  | some .system => 2
  | some .panel => 3

/-- R184. -/
def Job.code : Job → Nat
  | .none => 0
  | .data => 1
  | .fax => 2
  | .voice => 3
  | .discriminate => 4
  | .remote => 5

/-- R10: the jobs that a claim may carry. -/
def claimJob (b : Byte) : Option Job :=
  if b = 1#8 then some .data else if b = 2#8 then some .fax else if b = 3#8 then some .voice else none

/-- R184. -/
def LineState.code : LineState → Nat
  | .idle => 0
  | .ringing => 1
  | .seizing => 2
  | .dialing => 3
  | .progress => 4
  | .connected => 5
  | .releasing => 6

/-- R178: the status codes, numbered from 0. -/
def Status.code : Status → Nat
  | .ok => 0
  | .badFrame => 1
  | .busy => 2
  | .unknownCommand => 3
  | .badParameter => 4
  | .lineBusy => 5
  | .lineInUse => 6
  | .heldByAuto => 7
  | .notHolder => 8
  | .wrongPhase => 9
  | .engineBusy => 10
  | .noSuchMessage => 11
  | .msgOpen => 12
  | .inUse => 13
  | .storeFull => 14
  | .channelBusy => 15
  | .badLadder => 16
  | .retained => 17

/-- R18: the causes in the order of its table. -/
def Cause.code : Cause → Nat
  | .normal => 0
  | .remoteCleared => 1
  | .busy => 2
  | .noAnswer => 3
  | .noDialTone => 4
  | .carrierLost => 5
  | .lineTooNoisy => 6
  | .noLink => 7
  | .linkFailed => 8
  | .faxTraining => 9
  | .faxPageFailed => 10
  | .faxPageLimit => 11
  | .noDataHandler => 12
  | .messageLeft => 13
  | .noMessage => 14
  | .storeFull => 15
  | .remoteDenied => 16
  | .extensionPickup => 17
  | .stoppedBySystem => 18
  | .stoppedByPanel => 19
  | .holderReset => 20
  | .powerLow => 21

/-- R19: the termination cause, or UNANSWERED, coded after the last cause (DESIGN CHOICE, log 11). -/
def HistoryOutcome.code : HistoryOutcome → Nat
  | .ended c => c.code
  | .unanswered => 22

/-- R17. -/
def CallerStatus.code : CallerStatus → Nat
  | .received => 0
  | .withheld => 1
  | .unavailable => 2
  | .corrupt => 3
  | .none => 4

/-- R98. -/
def PumpPhase.code : PumpPhase → Nat
  | .off => 0
  | .handshake => 1
  | .training => 2
  | .data => 3
  | .rateChange => 4
  | .retrain => 5
  | .cleardown => 6

/-- R131. -/
def FaxPhase.code : FaxPhase → Nat
  | .setup => 0
  | .check => 1
  | .page => 2
  | .postpage => 3
  | .clearing => 4

/-- R76. -/
def DiscrPhase.code : DiscrPhase → Nat
  | .greeting => 0
  | .beep => 1
  | .recording => 2

/-- R17: the phase is coded by its own job's list. -/
def CallPhase.code : CallPhase → Nat
  | .pump p => p.code
  | .fax p => p.code
  | .discr p => p.code
  | .session => 0

/-- R184: a flag as its 1 byte. DESIGN CHOICE (log 50): 1 for yes, on and set, 0 for no, off and clear. -/
def flagCode (b : Bool) : Nat := if b = true then 1 else 0

/-- R184: a flag parameter. DESIGN CHOICE (log 50): 1 is yes, on or set, 0 is no, off or clear, and any other byte is refused. -/
def flagOf (b : Byte) : Option Bool := if b = 0#8 then some false else if b = 1#8 then some true else none

/-- 12.2: the byte of a dial item whose method is resolved. -/
def DialItem.byte : DialItem → Nat
  | .tone x => 16 + x.val
  | .pulse x => 32 + x.val
  | .pause => 64
  | .waitTone => 128
  | .flash => 192

/-- 12.2 and R41: a dial item byte read, with DEFAULT resolved to PULSE or TONE; none for a refused byte. -/
def dialItemOf (pulseDefault : Bool) (b : Byte) : Option DialItem :=
  let kind := b.toNat / 64
  let method := b.toNat / 16 % 4
  let x : Symbol := Fin.ofNat 16 b.toNat
  let low := b.toNat % 64
  if kind = 0 then
    let pulse := if method = 0 then pulseDefault else decide (method = 2)
    if method = 3 then none
    else if pulse = true then (if x.val ≤ 9 then some (.pulse x) else none)
    else some (.tone x)
  else if low ≠ 0 then none
  else if kind = 1 then some .pause
  else if kind = 2 then some .waitTone
  else some .flash

/-- R41: a whole dial list; none where one item is refused. -/
def dialItemsOf (pulseDefault : Bool) : List Byte → Option (List DialItem)
  | [] => some []
  | b :: rest =>
    match dialItemOf pulseDefault b, dialItemsOf pulseDefault rest with
    | some i, some is => some (i :: is)
    | _, _ => none

/-- R60: symbols given as bytes; none where one is outside the table of R55. -/
def symbolsOf : List Byte → Option (List Symbol)
  | [] => some []
  | b :: rest =>
    match symbolsOf rest with
    | some xs => if h : b.toNat < 16 then some (⟨b.toNat, h⟩ :: xs) else none
    | none => none

/-- R165. -/
def MsgKind.code : MsgKind → Nat
  | .voiceMsg => 0
  | .greeting => 1
  | .memo => 2
  | .faxIn => 3
  | .faxOut => 4

/-- R165: a kind byte read. -/
def msgKindOf (b : Byte) : Option MsgKind :=
  if b = 0#8 then some .voiceMsg else if b = 1#8 then some .greeting else if b = 2#8 then some .memo
  else if b = 3#8 then some .faxIn else if b = 4#8 then some .faxOut else none

/-- R152: LINE 0, LOCAL 1. -/
def endpointOf (b : Byte) : Option Endpoint :=
  if b = 0#8 then some .line else if b = 1#8 then some .local else none

/-! ### Results (R184, R185) -/

/-- The low `n` bytes of a number, low byte first (Chapter 12). -/
def leBytes : Nat → Nat → List Byte
  | 0, _ => []
  | k + 1, n => BitVec.ofNat 8 n :: leBytes k (n / 256)

/-- How many bytes a result takes. -/
def Item.size : Item → Nat
  | .u8 _ => 1
  | .u16 _ => 2
  | .wide _ => 2
  | .u32 _ => 4
  | .absent k => k

/-- The bytes of a result. The bytes of an absent field (log 10), and those of a number that is too large for its two bytes
(log 11), are free values. -/
def Item.bytes : Item → List Byte
  | .u8 n => leBytes 1 n
  | .u16 n => leBytes 2 n
  | .wide n => if n ≤ Config.max16 then leBytes 2 n else (List.range 2).map (Config.wideByte n)
  | .u32 n => leBytes 4 n
  | .absent k => (List.range k).map Config.absentByte

/-- An optional result of one byte. -/
def optU8 : Option Nat → Item
  | some n => .u8 n
  | none => .absent 1

/-- An optional result of two bytes. -/
def optU16 : Option Nat → Item
  | some n => .u16 n
  | none => .absent 2

/-- An optional result of four bytes. -/
def optU32 : Option Nat → Item
  | some n => .u32 n
  | none => .absent 4

/-- A flag as a result. -/
def flagItem (b : Bool) : Item := .u8 (flagCode b)

/-- R184: a list is led by a 1-byte item count. -/
def listItems {α : Type} (f : α → List Item) (l : List α) : List Item := .u8 l.length :: l.flatMap f

/-- An optional list: an absent one is laid out as an empty one (log 10). -/
def optList {α : Type} (f : α → List Item) : Option (List α) → List Item
  | some l => listItems f l
  | none => [.u8 0]

/-- The four time fields as results. -/
def ClockTime.items (t : ClockTime) : List Item := [.u8 t.day, .u8 t.hour, .u8 t.minute, .u8 t.second]

/-- How many bytes a list of results takes. -/
def itemsSize (l : List Item) : Nat := (l.map Item.size).sum

/-- R185: as many whole list items, from the first on, as fit into `room` bytes. -/
def fitItems (room : Nat) : List (List Item) → List (List Item)
  | [] => []
  | x :: rest => if itemsSize x ≤ room then x :: fitItems (room - itemsSize x) rest else []

/-- The fixed bytes of a reply frame: lead, length, status, code and check (12.1). -/
abbrev replyOverhead : Nat := 6

/-- The sum of bytes modulo 256. -/
def byteSum (l : List Byte) : Byte := l.foldl (· + ·) 0#8

/-- R185: the check byte that makes a frame's sum 0. -/
def checkByte (l : List Byte) : Byte := 0#8 - byteSum l

/-- R177 and 12.1: the bytes of a reply frame. -/
def Answer.bytes (a : Answer) : List Byte :=
  let results := a.results.flatMap Item.bytes
  let body := 0xC4#8 :: leBytes 2 (replyOverhead + results.length) ++
    [BitVec.ofNat 8 a.status.code, a.code] ++ results
  body ++ [checkByte body]

/-- 12.1 and R181: the bytes of a notice frame of the System Port. -/
def noticeBytes (n : Source × Nat) : List Byte :=
  let body := 0xC5#8 :: leBytes 2 6 ++ [BitVec.ofNat 8 n.1.code, BitVec.ofNat 8 n.2]
  body ++ [checkByte body]

/-! ### Taking a frame -/

/-- R184: the command codes, by their groups. -/
def knownCodes : List Nat :=
  [0x10, 0x11, 0x12, 0x13, 0x14, 0x15, 0x16, 0x20, 0x21, 0x22, 0x23, 0x24, 0x25, 0x26, 0x30, 0x31, 0x32,
   0x40, 0x41, 0x42, 0x43, 0x44, 0x50, 0x51, 0x52, 0x53, 0x54, 0x55, 0x56, 0x57, 0x58, 0x59, 0x60,
   0x70, 0x71, 0x72, 0x73, 0x78, 0x79]

/-- R178: TAKE NOTICE is known only on the Panel Port. DESIGN CHOICE (log 47): the Panel Port knows GO DATA, whose checks then
refuse it (R179). -/
def portKnows (p : Port) (code : Byte) : Bool :=
  knownCodes.contains code.toNat && !(p == .system && code == 0x70#8)

/-- What a taken command answers. -/
structure Reply where
  status : Status
  results : List Item
deriving DecidableEq, Repr

/-- A reply with a status and nothing else: the form of every refusal. -/
def Reply.plain (x : Status) : Reply := ⟨x, []⟩

/-- An answer joins those that the port has still to send. -/
def State.send (s : State) (p : Port) (a : Answer) : State :=
  s.updPort p (fun q => { q with outgoing := q.outgoing ++ [a] })

/-- R177: the reply of a taken command is owed. -/
def State.reply (s : State) (p : Port) (code : Byte) (r : Reply) : State :=
  s.send p ⟨.reply, r.status, code, r.results⟩

/-- R177: a reply is owed at the port. -/
def State.replyOwed (s : State) (p : Port) : Bool := (s.port p).outgoing.any (fun a => a.kind == .reply)

/-- R177: a BUSY answer waits at the port. -/
def State.busyWaits (s : State) (p : Port) : Bool := (s.port p).outgoing.any (fun a => a.kind == .busy)

/-- R179: the port does not look for frames: the System Port in its data state or while an entry to it waits. -/
def State.deaf (s : State) : Port → Bool
  | .system => s.sys.data || s.sys.entryDue
  | .panel => false

/-- R177: a valid frame that arrives while a reply is owed. -/
def State.busyAnswer (s : State) (p : Port) (code : Byte) : State :=
  if s.busyWaits p = true then s else s.send p ⟨.busy, .busy, code, []⟩

/-- R177: the port would not take a frame now, since a reply is owed or a BUSY answer waits. -/
def State.occupied (s : State) (p : Port) : Bool := s.replyOwed p || s.busyWaits p

/-- R177 and R178: a valid frame is judged, and, when every judgement lets it through, its command is taken by `body`. -/
def takeFrame (f : Frame) (code : Byte) (s : State) (body : State → State × Reply) : State :=
  if s.deaf f.port = true then s
  else if s.occupied f.port = true then s.busyAnswer f.port code
  else if s.power.low = true then s.reply f.port code (.plain .retained)
  else if portKnows f.port code = false then s.reply f.port code (.plain .unknownCommand)
  else if f.sized = false then s.reply f.port code (.plain .badParameter)
  else (body s).1.reply f.port code (body s).2

/-- A command frame as a whole step. -/
def command (f : Frame) (code : Byte) (s : State) (body : State → State × Reply) : Step :=
  finish (takeFrame f code s body)

/-- A refusal: the status and no other effect (R178). -/
def refuse (s : State) (x : Status) : State × Reply := (s, .plain x)

/-- R23 and the like: a command that only reads. -/
def readOnly (r : State → Reply) (s : State) : State × Reply := (s, r s)

end Sys2Proof.Machine
end

