-- ==== Sys2Proof/Machine/Levels.lean ====
section
/-! DEFINITION. The Level Meter (Chapter 5): the log code, block levels, quality windows and the quality average, and
READ LEVELS. -/

namespace Sys2Proof.Machine

/-- R84: the log code of an unsigned integer. -/
def logCode (v : Nat) : Nat := if v = 0 then 0 else 4 * v.log2 + v * 4 / 2 ^ v.log2 % 4

/-! ### Blocks (R85 to R88) -/

/-- R86: the term of a sample. -/
def sampleTerm (x : Sample) : Nat := x.toInt.natAbs * x.toInt.natAbs / 1024

/-- R86: one sample added. -/
def PathMeter.add (m : PathMeter) (x : Sample) : PathMeter :=
  { m with acc := m.acc + sampleTerm x, count := m.count + 1 }

/-- Samples added in order. -/
def PathMeter.addAll (m : PathMeter) (xs : List Sample) : PathMeter := xs.foldl PathMeter.add m

/-- R86: the mean of the block that closes. -/
def PathMeter.mean (m : PathMeter) : Nat := m.acc / 128

/-- R86: the block closes. -/
def PathMeter.close (m : PathMeter) : PathMeter := { acc := 0, count := 0, level := logCode m.mean }

/-- R87: the level code and the mean of one band in a block. -/
structure BandFigure where
  level : Nat
  mean : Nat
deriving DecidableEq, Repr

/-- R87: what a line receive block event carries. `bands` is absent for a block in which the bands were not measured. -/
structure LineBlock where
  level : Nat
  bands : Option (List BandFigure)
deriving DecidableEq, Repr

/-- The samples of `xs` that belong to the block in hand of a path, and those of the next block. -/
def splitAtBoundary (m : PathMeter) (xs : List Sample) : List Sample × List Sample :=
  (xs.take (Config.blockSamples - m.count), (xs.drop (Config.blockSamples - m.count)).take (Config.blockSamples - 1))

/-- The samples of `xs` reach the close of the block in hand. -/
def closesBlock (m : PathMeter) (xs : List Sample) : Bool := decide (Config.blockSamples - m.count ≤ xs.length)

/-- R85: samples of each band added, when the bands are being measured. -/
def addBands (on : Bool) (bands : List PathMeter) (xs : List (List Sample)) : List PathMeter :=
  if on = true then bands.zipWith (fun m x => m.addAll x) (xs ++ List.replicate bands.length []) else bands

/-- R85 to R87: line receive samples with the band signals beside them. -/
def LevelMeter.lineSamples (m : LevelMeter) (relayClosed : Bool) (xs : List Sample) (bs : List (List Sample)) :
    LevelMeter × Option LineBlock :=
  let n := Config.blockSamples - m.line.count
  let now := (splitAtBoundary m.line xs).1
  let rest := (splitAtBoundary m.line xs).2
  let bandsNow := addBands m.bandsOn m.bands (bs.map (List.take n))
  if closesBlock m.line xs = true then
    let line := (m.line.addAll now).close
    let figures := bandsNow.map (fun b => BandFigure.mk (logCode b.mean) b.mean)
    let closed := if m.bandsOn = true then bandsNow.map PathMeter.close else bandsNow
    ({ m with
       line := line.addAll rest, bandsOn := relayClosed,
       bands := addBands relayClosed closed (bs.map (fun b => (b.drop n).take (Config.blockSamples - 1))) },
     some ⟨line.level, if m.bandsOn = true then some figures else none⟩)
  else ({ m with line := m.line.addAll now, bands := bandsNow }, none)

/-- R85 to R87: microphone samples. -/
def LevelMeter.micSamples (m : LevelMeter) (xs : List Sample) : LevelMeter × Option Nat :=
  let now := (splitAtBoundary m.mic xs).1
  let rest := (splitAtBoundary m.mic xs).2
  if closesBlock m.mic xs = true then
    let mic := (m.mic.addAll now).close
    ({ m with mic := mic.addAll rest }, some mic.level)
  else ({ m with mic := m.mic.addAll now }, none)

/-- R85: the relay closes and the band filters start from rest; the first band block is the first line block that begins
after the closing. -/
def LevelMeter.relayCloses (m : LevelMeter) : LevelMeter :=
  { m with bandsOn := decide (m.line.count = 0), bands := m.bands.map (fun b => { b with acc := 0, count := 0 }) }

/-- R85 and R96: the relay opens. -/
def LevelMeter.relayOpens (m : LevelMeter) : LevelMeter :=
  { m with bandsOn := false, bands := List.replicate 12 .zero }

/-! ### Quality windows (R89 to R95) -/

/-- R90: the running feed's window holds its 256 symbols, and is still to close. -/
def LevelMeter.windowFull (m : LevelMeter) : Bool := m.window.symbols == Config.windowSymbols && m.feed != .off

/-- R89: a feed is started; from OFF the window and the overload run start afresh. -/
def LevelMeter.startFeed (m : LevelMeter) (k : FeedKind) : LevelMeter :=
  { m with
    feed := k, window := if m.feed = .off then .zero else m.window,
    trainingQ := if k = .training then none else m.trainingQ }

/-- R95: the feed is stopped. A partial window is discarded and the overload run becomes 0. A window whose 256th symbol came
first is put aside: it still closes and is reported (QUALITY_WINDOW_CLOSE; DEDUCED, log 49). -/
def LevelMeter.stopFeed (m : LevelMeter) : LevelMeter :=
  { m with
    feed := .off, window := .zero,
    closing := if m.windowFull = true then m.closing ++ [⟨m.feed, m.window⟩] else m.closing }

/-- R90: a decision error is taken by a running feed. -/
def QualityWindow.add (w : QualityWindow) (e : Nat) : QualityWindow :=
  { w with
    acc := min Config.windowAccMax (w.acc + e), saturated := w.saturated || decide (Config.windowAccMax < w.acc + e),
    symbols := w.symbols + 1 }

/-- R91: the quality figure of the window. -/
def QualityWindow.quality (w : QualityWindow) : Nat := 47 - logCode (w.acc / 256)

/-- R94: the average after a tracking window of figure `q`. -/
def trackAverage (a q : Nat) : Nat := if a ≤ 8 * q then a + (8 * q - a) / 4 else a - (a - 8 * q + 3) / 4

/-- R92: what a window report carries. -/
structure WindowReport where
  quality : Nat
  overloaded : Bool
  overloadRun : Nat
  feed : FeedKind
  average : Option Nat
deriving DecidableEq, Repr

/-- R91: the overload run after a window. -/
def QualityWindow.runAfter (w : QualityWindow) : Nat := if w.saturated = true then bump 255 w.overloadRun else 0

/-- R91 and R94: what the close of a window of a feed does to the counters, the last figure and the average. -/
def LevelMeter.take (m : LevelMeter) (c : ClosingWindow) : LevelMeter :=
  { m with
    overloads := if c.window.saturated = true then bump 255 m.overloads else m.overloads,
    lastQ := some (c.window.quality, c.window.saturated),
    average := if c.feed = .tracking then m.average.map (fun a => trackAverage a c.window.quality) else m.average }

/-- R91, R95: the window that closes next: the oldest of those that a stop put aside, before the one in hand; none where no
window holds its 256 symbols. -/
def LevelMeter.nextClosing (m : LevelMeter) : Option ClosingWindow :=
  match m.closing with
  | c :: _ => some c
  | [] => if m.windowFull = true then some ⟨m.feed, m.window⟩ else none

/-- R91: the window in hand begins afresh, and the overload run carries over; the figure is the last of its training. -/
def LevelMeter.freshWindow (m : LevelMeter) : LevelMeter :=
  { m with
    window := { QualityWindow.zero with overloadRun := m.window.runAfter }, trainingQ := some m.window.quality }

/-- R91 and R95: the next window closes. One that a stop put aside is none of the feed's that runs since (DEDUCED, log 49). -/
def LevelMeter.closeWindow (m : LevelMeter) (c : ClosingWindow) : LevelMeter :=
  match m.closing with
  | _ :: rest => { m.take c with closing := rest }
  | [] => (m.take c).freshWindow

/-- R92: the report of a window, with the average after it. -/
def ClosingWindow.report (c : ClosingWindow) (average : Option Nat) : WindowReport :=
  { quality := c.window.quality, overloaded := c.window.saturated, overloadRun := c.window.runAfter, feed := c.feed,
    average := average }

/-- R93: the quality figure of the last window of a training: of one that is full and still to close, if there is one. -/
def LevelMeter.lastTrainingQ (m : LevelMeter) : Option Nat :=
  if m.windowFull = true then some m.window.quality else m.trainingQ

/-- R93 and R95: the training ends, A is set from its last window, and the feed stops. -/
def LevelMeter.endTraining (m : LevelMeter) : LevelMeter :=
  { m.stopFeed with average := some (8 * m.lastTrainingQ.getD 0) }

/-- R96: the activation of a Call Record. -/
def LevelMeter.activation (m : LevelMeter) : LevelMeter :=
  { m with feed := .off, closing := [], window := .zero, trainingQ := none, lastQ := none, overloads := 0, average := none }

/-- DECISION_ERROR (R89, R90): an error is taken by a running feed. DESIGN CHOICE (log 50): a window that holds its 256
symbols waits for its close, the row QUALITY_WINDOW_CLOSE, and an error that comes before that row is lost: it joins neither
that window nor the next. -/
def execDecisionError (e : U16) (s : State) : Step :=
  finish
    (if s.level.feed = .off ∨ s.power.retention = true ∨ Config.windowSymbols ≤ s.level.window.symbols then s
     else { s with level.window := s.level.window.add e.toNat })

/-! ### READ LEVELS (R97) -/

/-- R89. -/
def FeedKind.code : FeedKind → Nat
  | .off => 0
  | .training => 1
  | .tracking => 2

/-- R97: the results of READ LEVELS. A level code, a quality figure and an accumulator take two bytes as numbers (R184). -/
def levelItems (m : LevelMeter) : List Item :=
  [.u16 m.line.level, .u16 m.mic.level] ++ m.bands.map (fun b => .u16 b.level) ++
    [.wide m.line.acc, .u8 m.line.count, .wide m.mic.acc, .u8 m.mic.count, .u8 m.feed.code, .wide m.window.acc,
     .u16 m.window.symbols, flagItem m.window.saturated, .u8 m.window.overloadRun,
     optU16 (m.lastQ.map Prod.fst), optU8 (m.lastQ.map (fun q => flagCode q.2)), .u8 m.overloads, optU16 m.average]

/-- READ LEVELS (R97). -/
def execReadLevels (f : Frame) (s : State) : Step :=
  command f 0x22#8 s (readOnly (fun s => ⟨.ok, levelItems s.level⟩))

end Sys2Proof.Machine
end

