-- ==== Sys2Proof/Machine/Store.lean ====
section
/-! DEFINITION. The Message Store's operations (Chapter 10): alerts, allocation, freeing, trimming, creation, holds, the
delete rule and completion. -/

namespace Sys2Proof.Machine

/-! ### Alerts (R173) -/

/-- R173. -/
inductive AlertKind where
  | full | low | lost | formatted
deriving DecidableEq, Repr

/-- A kind recorded. -/
def AlertKinds.add (a : AlertKinds) : AlertKind → AlertKinds
  | .full => { a with full := true }
  | .low => { a with low := true }
  | .lost => { a with lost := true }
  | .formatted => { a with formatted := true }

/-- A kind recorded at a port for its next LIST. -/
def State.recordAlert (s : State) (k : AlertKind) (p : Port) : State :=
  s.updPort p (fun q => { q with alerts := q.alerts.add k })

/-- R173: STORE_ALERT raised on both ports with a kind. -/
def State.storeAlert (s : State) (k : AlertKind) : State :=
  ((s.recordAlert k .system).recordAlert k .panel).raiseBoth .storeAlert

/-- R164: the free count. -/
def State.freeCount (s : State) : Nat := s.store.free.length

/-- R173: the low flag is judged. -/
def State.judgeLow (s : State) : State :=
  if s.freeCount < s.settings.lowSpaceGranules then
    if s.store.low = true then s else { s with store.low := true }.storeAlert .low
  else { s with store.low := false }

/-! ### The directory -/

/-- The live entry with an id. -/
def Store.find (t : Store) (id : Nat) : Option Entry := t.dir.find? (fun e => e.id == id)

/-- R167: the entry that commands see under an id, which a DOOMED one is not. -/
def Store.visible (t : Store) (id : Nat) : Option Entry :=
  match t.find id with
  | some e => if e.state = .doomed then none else some e
  | none => none

/-- The entry with an id changed by `g`. -/
def State.updEntry (s : State) (id : Nat) (g : Entry → Entry) : State :=
  { s with store.dir := s.store.dir.map (fun e => if e.id = id then g e else e) }

/-- R165: live entries below the limit and a free granule. -/
def State.canCreate (s : State) : Bool :=
  decide (s.store.dir.length < Config.entriesMax) && decide (1 ≤ s.freeCount)

/-- R165: the first id after `last` that no live entry holds, counting upward and wrapping from 255 to 1. -/
def Store.nextId (t : Store) (last : Nat) : Nat :=
  (((List.range 255).map (fun k => (last + k) % 255 + 1)).find? (fun i => (t.find i).isNone)).getD (last % 255 + 1)

/-- R165: a new entry, with the caller fields of the Call Record where the writer asks for them. -/
def State.newEntry (s : State) (kind : MsgKind) (slot : Option Nat) (caller : Bool) : Entry :=
  { id := s.store.nextId s.store.header.lastId, kind := kind, state := .opened, isNew := false, slot := slot,
    created := s.calendar.time, length := 0, granules := [],
    callerStatus := if caller = true then s.ccu.call.callerStatus else none,
    callerNumber := if caller = true then s.ccu.call.callerNumber else none,
    callerName := if caller = true then s.ccu.call.callerName else none,
    callNumber := if caller = true then some s.ccu.call.number else none,
    pageCount := 0, pageTable := [], holds := 0 }

/-- R165 and R173: a creation; the id, or none with the FULL alert. -/
def State.create (s : State) (kind : MsgKind) (slot : Option Nat) (caller : Bool) : State × Option Nat :=
  if s.canCreate = true then
    let e := s.newEntry kind slot caller
    ({ s with store.dir := s.store.dir ++ [e], store.header.lastId := e.id }, some e.id)
  else (s.storeAlert .full, none)

/-! ### Granules (R164) -/

/-- R164: a granule is linked after an entry's last one. -/
def Entry.addGranule (e : Entry) (g : Nat) : Entry := { e with granules := e.granules ++ [g] }

/-- R164: an allocation for a live entry; false with the FULL alert when nothing is free. -/
def State.allocate (s : State) (id : Nat) : State × Bool :=
  match s.store.find id, s.store.free with
  | none, _ => (s, false)
  | some _, [] => (s.storeAlert .full, false)
  | some _, g :: rest =>
    (State.judgeLow ({ s with store.free := rest }.updEntry id (fun e => e.addGranule g)), true)

/-- R164: a chain is freed. -/
def State.freeChain (s : State) (gs : List Nat) : State :=
  if gs = [] then s else { s with store.free := s.store.free ++ gs }.judgeLow

/-- R164: an entry is trimmed to `len` bytes. -/
def State.trim (s : State) (id len : Nat) : State :=
  match s.store.find id with
  | none => s
  | some e =>
    let keep := ceilDiv len Config.granuleBytes
    (s.updEntry id (fun e => { e with granules := e.granules.take keep, length := len })).freeChain
      (e.granules.drop keep)

/-- R165: an entry leaves the directory and its chain is freed. -/
def State.removeEntry (s : State) (id : Nat) : State :=
  match s.store.find id with
  | none => s
  | some e => { s with store.dir := s.store.dir.filter (fun e => e.id ≠ id) }.freeChain e.granules

/-! ### Holds and the delete rule (R166, R167) -/

/-- R166: a reader takes a hold. -/
def State.hold (s : State) (id : Nat) : State := s.updEntry id (fun e => { e with holds := e.holds + 1 })

/-- R166 and R167: a reader releases its hold; a DOOMED entry that nobody holds any more is removed. -/
def State.release (s : State) (id : Nat) : State :=
  match s.store.find id with
  | none => s
  | some e =>
    if e.state = .doomed ∧ e.holds ≤ 1 then s.removeEntry id
    else s.updEntry id (fun e => { e with holds := e.holds - 1 })

/-- R167: what the delete rule did. -/
inductive Deletion where
  | removed | doomed | isOpen | absent
deriving DecidableEq, Repr

/-- R167: the delete rule. -/
def State.deleteRule (s : State) (id : Nat) : State × Deletion :=
  match s.store.find id with
  | none => (s, .absent)
  | some e =>
    match e.state with
    | .opened => (s, .isOpen)
    | .doomed => (s, .absent)
    | .complete =>
      if e.holds = 0 then (s.removeEntry id, .removed)
      else (s.updEntry id (fun e => { e with state := .doomed, isNew := false }), .doomed)

/-- R167: the COMPLETE GREETING of a slot. -/
def Store.greeting (t : Store) (slot : Nat) : Option Entry :=
  t.dir.find? (fun e => e.kind == .greeting && e.state == .complete && e.slot == some slot)

/-- R157 and R167: a GREETING takes the place of the earlier COMPLETE one of its slot. -/
def State.replaceGreeting (s : State) (e : Entry) : State :=
  match e.kind, e.slot with
  | .greeting, some slot =>
    match s.store.greeting slot with
    | some old => (s.deleteRule old.id).1
    | none => s
  | _, _ => s

/-- An OPEN entry becomes COMPLETE, with NEW as given. -/
def State.complete (s : State) (id : Nat) (isNew : Bool) : State :=
  match s.store.find id with
  | none => s
  | some e => (s.replaceGreeting e).updEntry id (fun e => { e with state := .complete, isNew := isNew })

/-- NEW is cleared (R154, R168). -/
def State.clearNew (s : State) (id : Nat) : State := s.updEntry id (fun e => { e with isNew := false })

/-! ### Bytes of an entry -/

/-- The DRAM address of byte `o` of an entry. -/
def Entry.address (e : Entry) (o : Nat) : Nat :=
  granuleAddress (e.granules.getD (o / Config.granuleBytes) 0) (o % Config.granuleBytes)

/-- Byte `o` of an entry. -/
def Store.entryByte (t : Store) (e : Entry) (o : Nat) : Byte := Mem.read t.mem (e.address o)

/-- Byte `o` of the entry with an id. -/
def Store.byteOf (t : Store) (id o : Nat) : Byte :=
  match t.find id with
  | some e => t.entryByte e o
  | none => 0#8

/-- A byte written at an address of the DRAM. -/
def State.writeMem (s : State) (a : Nat) (b : Byte) : State := { s with store.mem := Mem.write s.store.mem a b }

/-- R171 and R143: the entry's next byte needs a granule first. -/
def Entry.needsGranule (e : Entry) : Bool := decide (e.granules.length * Config.granuleBytes ≤ e.length)

/-- A byte put at the entry's length, where a granule is there for it. -/
def State.putByte (s : State) (id : Nat) (b : Byte) : State :=
  match s.store.find id with
  | none => s
  | some e => (s.writeMem (e.address e.length) b).updEntry id (fun e => { e with length := e.length + 1 })

/-- R171 and R143: a byte appended, with the allocation it may need; false when no granule can be allocated. -/
def State.appendByte (s : State) (id : Nat) (b : Byte) : State × Bool :=
  match s.store.find id with
  | none => (s, false)
  | some e =>
    if e.needsGranule = true then
      if (s.allocate id).2 = true then ((s.allocate id).1.putByte id b, true) else ((s.allocate id).1, false)
    else (s.putByte id b, true)

/-- R75, R77, R81: there is room for a recording or a fax. -/
def State.storeHasRoom (s : State) : Bool :=
  decide (s.settings.lowSpaceGranules ≤ s.freeCount) && decide (s.store.dir.length < Config.entriesMax)

/-- R163: a setting that is taken is written to the header. -/
def State.saveSettings (s : State) (t : Settings) : State :=
  { s with settings := t, store.header.settings := t }

end Sys2Proof.Machine
end

