-- ==== Sys2Proof/Machine/VoiceOps.lean ====
section
/-! DEFINITION. The Voice Engine's shared operations (Chapter 9): the ADPCM code, recording and playing of code bytes, the
keep rules, the start and the end of an operation, and preemption. -/

namespace Sys2Proof.Machine

/-! ### ADPCM (R149, R150) -/

/-- R149: step[index]. -/
def stepSize (index : Nat) : Nat := Config.stepTable.getD index 3384

/-- R149: the index after a magnitude. -/
def stepIndex (index m : Nat) : Nat :=
  if m ≤ 1 then index - 1
  else min 47 (index + (if m ≤ 3 then 0 else if m = 4 then 1 else if m = 5 then 2 else if m = 6 then 4 else 6))

/-- R149: the predicted value before it is held within its range. -/
def rawPrediction (c : Codec) (code : Nat) : Int :=
  let d : Nat := (2 * (code % 8) + 1) * stepSize c.index / 4
  if 8 ≤ code then c.predicted - d else c.predicted + d

/-- R149: a value held within the range of a sample. -/
def holdSample (v : Int) : Int := max (-32768) (min 32767 v)

/-- R149: a code decoded against a codec state. -/
def decodeCode (c : Codec) (code : Nat) : Codec :=
  { predicted := holdSample (rawPrediction c code), index := stepIndex c.index (code % 8) }

/-- R149: the decoding clamps. -/
def decodeClamps (c : Codec) (code : Nat) : Bool := decide (holdSample (rawPrediction c code) ≠ rawPrediction c code)

/-- R150: the code of a sample. -/
def encodeSample (c : Codec) (x : Int) : Nat :=
  let diff := x - c.predicted
  (if diff < 0 then 8 else 0) + min 7 (2 * diff.natAbs / stepSize c.index)

/-- R149: a code taken into the engine's codec state and clamp count. -/
def VoiceOp.takeCode (o : VoiceOp) (code : Nat) : VoiceOp :=
  { o with
    codec := decodeCode o.codec code,
    clamps := if decodeClamps o.codec code = true then bump Config.max16 o.clamps else o.clamps }

/-- R151 and 12.5: the codec header of a granule. -/
def codecHeader (c : Codec) : List Byte :=
  leBytes 2 (BitVec.ofInt 16 c.predicted).toNat ++ [BitVec.ofNat 8 c.index, 0#8]

/-- R151: the codec state that a header gives. -/
def codecOfHeader (b0 b1 b2 : Byte) : Codec :=
  { predicted := (BitVec.ofNat 16 (b0.toNat + 256 * b1.toNat)).toInt, index := min 47 b2.toNat }

/-! ### Recording (R151, R156) -/

/-- R24 names the two paths; a recording takes its endpoint's (R156). -/
def Endpoint.path : Endpoint → AudioPath
  | .line => .line
  | .local => .mic

/-- R156: code bytes made so far, written or waiting. -/
def VoiceOp.codesMade (o : VoiceOp) : Nat := o.written + o.waiting.length

/-- R150, R151: one sample recorded. No sample is taken once the maximum is reached (R156). -/
def VoiceOp.recordSample (o : VoiceOp) (x : Sample) : VoiceOp :=
  if o.maxCode ≤ o.codesMade then o
  else
    let code := encodeSample o.codec x.toInt
    match o.halfByte with
    | none => { o.takeCode code with halfByte := some ⟨o.codec, 16 * code⟩ }
    | some h => { o.takeCode code with halfByte := none, waiting := o.waiting ++ [⟨h.before, h.code + code⟩] }

/-- R151: the place of code byte `c` in its message. -/
def codeOffset (c : Nat) : Nat :=
  c / Config.granuleCodes * Config.granuleBytes + Config.codecHeaderBytes + c % Config.granuleCodes

/-- Bytes written one after another from an address on. -/
def State.writeMemAll (s : State) (a : Nat) : List Byte → State
  | [] => s
  | b :: rest => (s.writeMem a b).writeMemAll (a + 1) rest

/-- R151: the next code byte written, with the header ahead of a granule's first one; none while its granule is not there. -/
def State.writeCode (s : State) (id : Nat) (c : CodeByte) : Option State :=
  match s.store.find id with
  | none => none
  | some e =>
    let n := s.voice.op.written
    if n / Config.granuleCodes < e.granules.length then
      let s := if n % Config.granuleCodes = 0 then
          s.writeMemAll (e.address (n / Config.granuleCodes * Config.granuleBytes)) (codecHeader c.before) else s
      let s := (s.writeMem (e.address (codeOffset n)) (BitVec.ofNat 8 c.code)).updEntry id
        (fun e => { e with length := codeOffset n + 1 })
      some { s with voice.op.written := n + 1, voice.op.offset := codeOffset n + 1 }
    else none

/-- R156: the waiting code bytes written as far as granules are there for them. -/
def State.flushCodes (s : State) (id : Nat) : List CodeByte → State
  | [] => { s with voice.op.waiting := [] }
  | c :: rest =>
    match s.writeCode id c with
    | some s' => s'.flushCodes id rest
    | none => { s with voice.op.waiting := c :: rest }

/-- R156: a block judged. -/
def VoiceOp.judgeBlock (o : VoiceOp) (b : TakenBlock) : VoiceOp :=
  if b.loud = true then
    { o with loud := bump Config.max16 o.loud, lastLoud := some o.blocks, blocks := o.blocks + 1, lastLoudByte := b.last }
  else { o with blocks := o.blocks + 1 }

/-- R156: the blocks judged whose code bytes are all written; one whose code bytes are not is cut short if the recording ends
now. -/
def VoiceOp.judgeWritten (o : VoiceOp) : VoiceOp :=
  { (o.taken.takeWhile (fun b => decide (b.codes ≤ o.written))).foldl VoiceOp.judgeBlock o with
    taken := o.taken.dropWhile (fun b => decide (b.codes ≤ o.written)) }

/-- R156: the waiting code bytes of the recording in hand written, and the blocks judged that are thereby whole. -/
def State.flushRecording (s : State) : State :=
  match s.voice.op.message with
  | some id =>
    let s := s.flushCodes id s.voice.op.waiting
    { s with voice.op := s.voice.op.judgeWritten }
  | none => s

/-- R156: the channel records from a path. -/
abbrev State.recordsFrom (s : State) (path : AudioPath) : Prop :=
  s.voice.op.state = .recording ∧ s.voice.op.endpoint.map Endpoint.path = some path

/-- R156: samples recorded so far. -/
def VoiceOp.samplesTaken (o : VoiceOp) : Nat := 2 * o.codesMade + (if o.halfByte.isSome = true then 1 else 0)

/-- R156: a recorded block closes with a level code. Its `n` samples of the same arrival have been recorded since the record was
`before`; a block of which a sample was no longer taken is cut short by the end of the recording, and is not judged. -/
def VoiceOp.closeBlock (o before : VoiceOp) (n silence level : Nat) : VoiceOp :=
  if o.samplesTaken = before.samplesTaken + n then
    { o with taken := o.taken ++ [{ codes := o.codesMade, last := (o.samplesTaken + 1) / 2 - 1,
                                    loud := decide (silence ≤ level) }] }
  else o

/-- R156: the samples of a path taken by the recording in hand. `m` is the path's meter before them, `level` the level code of
the block they close, if they close one. Recording begins at the first block boundary. -/
def VoiceOp.recordSamples (o : VoiceOp) (m : PathMeter) (xs : List Sample) (silence : Nat) (level : Option Nat) : VoiceOp :=
  let begun := o.inBlock || decide (m.count = 0)
  let o1 := if begun = true then (splitAtBoundary m xs).1.foldl VoiceOp.recordSample o else o
  match level with
  | none => { o1 with inBlock := begun }
  | some l =>
    let o2 := if begun = true then o1.closeBlock o (splitAtBoundary m xs).1.length silence l else o1
    { (splitAtBoundary m xs).2.foldl VoiceOp.recordSample o2 with inBlock := true }

/-- R156: the samples of a path reach the recording in hand, if it records from that path. -/
def State.recordFrom (s : State) (path : AudioPath) (m : PathMeter) (xs : List Sample) (level : Option Nat) : State :=
  if s.voice.op.state = .recording ∧ s.voice.op.endpoint.map Endpoint.path = some path then
    { s with voice.op := s.voice.op.recordSamples m xs s.settings.silenceLevel level }.flushRecording
  else s

/-- R157: the loud blocks that a message of `min` seconds asks for, min times 62.5 rounded up. -/
def minLoudBlocks (min : Nat) : Nat := (min * 125 + 1) / 2

/-- R151: a recording that ends after an odd number of samples has a code of 0 in the low four bits of its last byte. -/
def State.closeHalfByte (s : State) : State :=
  match s.voice.op.halfByte with
  | none => s
  | some h =>
    { s with voice.op.halfByte := none, voice.op.waiting := s.voice.op.waiting ++ [h] }.flushRecording

/-- R157, steps 5 and 6: a recording is kept. -/
def State.keepRecording (s : State) (id : Nat) (kind : MsgKind) (ofCall : Bool) : State :=
  let s := s.complete id (decide (kind = .voiceMsg))
  if ofCall = true then { s with ccu.call.linkedId := some id } else s

/-- R157: the keep rules close the recording in hand; true when it is kept. -/
def State.keepRules (s : State) : State × Bool :=
  let s := s.stopT6.closeHalfByte
  let o := s.voice.op
  match o.message with
  | none => (s, false)
  | some id =>
    if o.lastLoud = none then ({ s.removeEntry id with voice.op.message := none }, false)
    else
      let len := min (((s.store.find id).map Entry.length).getD 0)
        ((o.lastLoudByte / Config.granuleCodes + 1) * Config.granuleBytes)
      let s := s.trim id len
      if minLoudBlocks s.settings.minMessageS ≤ o.loud then
        (s.keepRecording id (o.kind.getD .memo)
          (decide (o.endpoint = some .line) && s.ccu.call.active), true)
      else ({ s.removeEntry id with voice.op.message := none }, false)

/-! ### Playing (R151, R154) -/

/-- R154: the message has a code byte at or after an offset: its granule's header is not one. -/
def Entry.hasCodeFrom (e : Entry) (o : Nat) : Bool :=
  decide (max o (o / Config.granuleBytes * Config.granuleBytes + Config.codecHeaderBytes) < e.length)

/-- R151: at the start of a granule the decoder loads its codec state from the header. -/
def State.loadHeader (s : State) (id : Nat) : State :=
  let o := s.voice.op.offset
  if o % Config.granuleBytes < Config.codecHeaderBytes then
    let g := o / Config.granuleBytes * Config.granuleBytes
    { s with
      voice.op.codec := codecOfHeader (s.store.byteOf id g) (s.store.byteOf id (g + 1)) (s.store.byteOf id (g + 2)),
      voice.op.offset := g + Config.codecHeaderBytes, voice.op.lowNext := false }
  else s

/-- R149, R154: one sample played; nothing more once the entry's last code byte has been played. -/
def State.playSample (s : State) : State :=
  match s.voice.op.message.bind s.store.find with
  | none => s
  | some e =>
    if e.hasCodeFrom s.voice.op.offset = false then s
    else
      let s := s.loadHeader e.id
      let o := s.voice.op
      let b := (s.store.entryByte e o.offset).toNat
      if o.lowNext = true then
        { s with voice.op := { o.takeCode (b % 16) with lowNext := false, offset := o.offset + 1 } }
      else { s with voice.op := { o.takeCode (b / 16) with lowNext := true } }

/-- A number of samples played. -/
def State.playSamples : Nat → State → State
  | 0, s => s
  | n + 1, s => State.playSamples n s.playSample

/-- R154: in one millisecond a running play advances by 8 samples (DEDUCED, log 15). -/
def State.playTick (s : State) : State :=
  if s.voice.op.state = .playing ∧ s.voice.op.operation = some .play then s.playSamples Config.samplesPerMs else s

/-! ### The start and the end of an operation -/

/-- R152: an operation's record set afresh. -/
def VoiceOp.start (state : VoiceState) (user : Party) (operation : VoiceOperation) (endpoint : Endpoint) : VoiceOp :=
  { VoiceOp.reset with state := state, user := some user, operation := some operation, endpoint := some endpoint }

/-- R154: a play starts from a granule boundary under a hold. -/
def State.startPlay (s : State) (user : Party) (id offset : Nat) (endpoint : Endpoint) (stopOnDigit : Bool) : State :=
  { s.hold id with
    voice.op := { VoiceOp.start .playing user .play endpoint with
                  message := some id, offset := offset / Config.granuleBytes * Config.granuleBytes,
                  stopOnDigit := stopOnDigit } }

/-- R78 and R159: the automatic answerer's 1000 Hz beep to the line. DESIGN CHOICE (log 47): while a TONE sounds the record's
state shows PLAYING. -/
def State.startBeep (s : State) : State := { s with voice.op := VoiceOp.start .playing .auto .tone .line }

/-- R156: a recording starts; false when no entry can be created, and the operation has then ended with STORE_FULL. -/
def State.startRecord (s : State) (user : Party) (kind : MsgKind) (slot : Option Nat) (endpoint : Endpoint) (vox : Bool)
    (maxSeconds : Nat) : State × Bool :=
  let o := { VoiceOp.start .recording user .record endpoint with
             kind := some kind, slot := slot, vox := vox, maxCode := maxSeconds * 4000 }
  match s.create kind slot (decide (user = .auto)) with
  | (s, none) =>
    ({ s with voice.op := { o with state := .idle, user := none, operation := none, reason := some .storeFull } }.raiseParty
        (some user) .voiceDone, false)
  | (s, some id) =>
    let s := { s with voice.op := { o with message := some id } }
    (if vox = true then s.loadT6 endpoint.path else s, true)

/-- R154: the offset of the granule being played. Once the last code byte has been played, that is the last granule. -/
def State.granulePlayed (s : State) (id : Nat) : Nat :=
  let last := (((s.store.find id).map Entry.length).getD 0) - 1
  min s.voice.op.offset last / Config.granuleBytes * Config.granuleBytes

/-- R154: the resume record after a master's LOCAL play that was stopped or preempted. -/
def State.saveResume (s : State) (r : VoiceReason) : State :=
  match s.voice.op.user, s.voice.op.endpoint, s.voice.op.message with
  | some .auto, _, _ => s
  | some _, some .local, some id =>
    if r = .stopped ∨ r = .preempted then
      { s with voice.resume := some (id, s.granulePlayed id) }
    else s
  | _, _, _ => s

/-- R152: the operation record once the operation has ended. -/
def VoiceOp.ended (o : VoiceOp) (r : VoiceReason) : VoiceOp :=
  { o with state := .idle, user := none, operation := none, reason := some r }

/-- R154, R157, R158: the operation in hand ends for a reason; true when a recording is kept. VOICE_DONE goes to a master's
port. -/
def State.endVoice (s : State) (r : VoiceReason) : State × Bool :=
  let user := s.voice.op.user
  match s.voice.op.operation with
  | none => (s, false)
  | some .record =>
    let k := s.keepRules
    ({ k.1 with voice.op := k.1.voice.op.ended r }.raiseParty user .voiceDone, k.2)
  | some .play =>
    let s := s.saveResume r
    let s := match s.voice.op.message with
      | some id => s.release id
      | none => s
    ({ s with voice.op := s.voice.op.ended r }.raiseParty user .voiceDone, false)
  | some .tone => ({ s with voice.op := s.voice.op.ended r }, false)

/-- R158: between the automatic answerer's operations the channel's user stays AUTO. -/
def State.autoChannel (s : State) : State := { s with voice.op.user := some .auto }

/-- R158: the channel belongs to AUTO no longer. -/
def State.dropAuto (s : State) : State :=
  if s.voice.op.user = some .auto then { s with voice.op.user := none } else s

/-- R158: the automatic answerer needs the channel: a master's operation is preempted. -/
def State.preempt (s : State) : State :=
  match s.voice.op.user with
  | some .auto => s
  | none => s
  | some u => (s.endVoice .preempted).1.raiseParty (some u) .preempted

/-- R80 to R82, R158: the automatic answerer's operation stops: a recording is discarded without the keep rules, a play
releases its hold. The channel stays AUTO's. -/
def State.cancelAuto (s : State) : State :=
  match s.voice.op.operation, s.voice.op.message with
  | some .record, some id =>
    let s := s.stopT6.removeEntry id
    { s with voice.op := { s.voice.op.ended .stopped with message := none, halfByte := none, waiting := [],
                                                               taken := [] } }.autoChannel
  | _, _ => (s.endVoice .stopped).1.autoChannel

end Sys2Proof.Machine
end

