-- ==== Sys2Proof/Machine/CallOps.lean ====
section
/-! DEFINITION. The Call Control Unit's shared operations (Chapter 1): the relay, the line state, the activation of the Call
Record, the end of a call as one operation (R18), the seizure of the line and the service of the claim queue. -/

namespace Sys2Proof.Machine

/-! ### The relay -/

/-- R62: the RAU loads T1 in CAPTURE, with the compare of an empty deadline list (R63). -/
def State.loadT1 (s : State) : State :=
  { s with
    timers.e1 := s.timers.e1.load
      { mode := .capture, compareA := 0, compareB := 1, stopAfterB := false, restart := .none, use := .none,
        owner := .rau } }

/-- R62, R63: the RAU stops T1; the deadline list is emptied and no presence is measured any more. -/
def State.stopT1 (s : State) : State :=
  { s with timers.e1 := s.timers.e1.stop, rau.deadlines := .empty, rau.presence := .none, rau.caller.windowOpen := false }

/-- R8: the pick-up watch is suspended; the run in progress is discarded. -/
def Lif.suspend (l : Lif) (ms : Nat) : Lif := { l with suspended := true, suspendLeft := ms, currentRun := 0 }

/-- R2, R7, R8, R62, R85: the CCU closes the relay. -/
def State.closeRelay (s : State) : State :=
  { s.stopT1 with
    lif := { s.lif with relayClosed := true, voltageRun := 0, pickupLatch := false }.suspend Config.closeSuspendMs,
    level := s.level.relayCloses }

/-- R2, R7, R62, R85: the CCU opens the relay. -/
def State.openRelay (s : State) : State :=
  { s.loadT1 with
    lif := { s.lif with relayClosed := false, lineInUse := false, voltageRun := 0, suspended := false, suspendLeft := 0,
                        currentRun := 0 },
    level := s.level.relayOpens }

/-- R1: a change of line state raises CALL_STATE on both ports. -/
def State.lineTo (s : State) (l : LineState) : State :=
  if s.ccu.line = l then s else { s with ccu.line := l }.raiseBoth .callState

/-! ### The System Port's return to its command state (R179) -/

/-- R179: return to COMMAND asserts CTS and starts with an empty frame assembler; the escape guard no longer runs. A DATA
state that is still to be entered is given up, and an inbound byte that RTS held back is no byte of the COMMAND state. A port
that is in COMMAND already keeps the frame that it is assembling (R18: only a port in its data state returns). -/
def State.toCommand (s : State) : State :=
  { s.stopT5 with
    sys := { s.sys with data := false, entryDue := false, goDataDue := false, cts := true,
                        assembler := if s.sys.data = true then [] else s.sys.assembler,
                        lateByte := false, lastByte := if s.sys.data = true then false else s.sys.lastByte } }

/-! ### Activation (R17) -/

/-- R131: the session record that the CCU sets up for a call. DESIGN CHOICE (log 47): the activation of a Call Record without
job FAX sets the record as device reset does. -/
def faxSetup (direction : Direction) (holder : Party) (job : Job) : Fax :=
  if job = .fax then
    match direction, holder with
    | .outgoing, _ => .setup (some .sender) .undecided 2 7
    | .incoming, .system => .setup (some .receiver) .port 2 7
    | .incoming, _ => .setup (some .receiver) .store 2 7
  else .setup none .undecided 2 7

/-- R17: the call number that comes next. -/
def State.nextNumber (s : State) : Nat := (s.ccu.lastNumber + 1) % 65536

/-- R59, R96, R126: what the activation of a Call Record clears in the blocks. -/
def State.clearForCall (s : State) : State :=
  { ((s.updPort .system (fun q => { q with digits := ⟨[], false⟩ })).updPort .panel
      (fun q => { q with digits := ⟨[], false⟩ })) with
    level := s.level.activation, link.stats := .zero }

/-- R17: the Call Record is activated; `call` gives the fields that the kind of call sets. -/
def State.activate (s : State) (call : CallRecord) (blind : Bool) : State :=
  { s.clearForCall with
    ccu.call := { call with active := true, number := s.nextNumber, startTime := s.calendar.time, seconds := 0 },
    ccu.lastNumber := s.nextNumber, ccu.ending := none, ccu.blind := blind,
    fax := faxSetup call.direction (call.holder.getD .auto) call.job,
    tone := { s.tone with faxCall := .zero, dataCall := .zero, answer := .zero, dtmf := .zero, classifier := .zero,
                          voiceBlocks := 0 } }

/-! ### The end of a call (R18) -/

/-- R51, R60, R61: the generator sends its tone. -/
abbrev State.generatorSends (s : State) : Prop :=
  s.tone.generator.state ≠ .idle ∧ s.timers.e0.use = .generatorEnable ∧ s.timers.e0.high = true

/-- R51: a burst of the generator is in hand: it sounds, or its end has fired and has still to be taken (log 1). -/
abbrev State.inBurst (s : State) : Prop :=
  s.generatorSends ∨ (s.timers.e0.use = .generatorEnable ∧ s.timers.e0.signalA = true)

/-- R51, R60, R61: the generator falls silent and its list is discarded. A burst that is in hand ends here, and the DTMF
detector's two blocks begin. -/
def State.silence (s : State) : State :=
  { s.stopT0 with tone.generator := .idle, tone.blank := if s.inBurst then 2 else s.tone.blank }

/-- R113: the Link Engine at rest; its statistics stay. -/
def State.resetLink (s : State) : State := { s.stopT3 with link := .idle s.link.stats }

/-- R98, R111: the pump at rest, with T4 and the feed stopped. -/
def State.resetPump (s : State) : State := { s.stopT4 with pump := .idle, level := s.level.stopFeed }

/-- R143: the page that began at byte `o` of an entry has been entered in its page table. -/
def State.pageEntered (s : State) (id o : Nat) : Bool := ((s.store.find id).bind (fun e => e.pageTable.getLast?)) == some o

/-- R143, R147: at the call end a fax received to the store is trimmed and completed or discarded, and a hold on a FAX_OUT
is released. -/
def State.closeFax (s : State) : State :=
  let s1 : State :=
    match s.fax.role, s.fax.place, s.fax.linkedId with
    | some .sender, .store, some id => s.release id
    | some .receiver, .store, some id =>
      let s := match s.fax.pageStart with
        | some o => if s.pageEntered id o = true then s else s.trim id o
        | none => s
      match s.store.find id with
      | some e =>
        if e.pageCount = 0 then { s.removeEntry id with ccu.call.linkedId := none } else s.complete id true
      | none => s
    | _, _, _ => s
  { s1 with fax := { s1.fax with phase := none, expect := .none, endAfter := none, checkSending := false,
                                 dataBegun := false, unsent := false } }

/-- R18, step 2, with R42: the job's engines are stopped. R49: the detectors fall inactive, that of DTMF among them, and what
they hold is dropped. -/
def State.stopEngines (s : State) : State :=
  let s : State := if s.voice.op.endpoint = some .line ∨ s.voice.op.user = some .auto then (s.endVoice .stopped).1 else s
  let s : State := { s.dropAuto with voice.remote := none, rau.discr := none }
  let s : State := { s.silence with ccu.dialler.item := .none }
  let s : State := if s.ccu.call.job = .fax then s.closeFax else s
  let s : State := s.resetLink.resetPump.stopT2
  { s with tone := { s.tone with dtmf := .zero, faxCall := .zero, dataCall := .zero, answer := .zero,
                                 classifier := .zero, voiceBlocks := 0 } }

/-- R18: the first cause fixed is kept, except that POWER_LOW and HOLDER_RESET replace one fixed for a clearing. -/
def State.finalCause (s : State) (c : Cause) : Cause :=
  match s.ccu.ending with
  | none => c
  | some c0 => if c = .powerLow ∨ c = .holderReset then c else c0

/-- R19: the history entry of a call that ends. -/
def CallRecord.historyEntry (c : CallRecord) (cause : Cause) : HistoryEntry :=
  { number := c.number, direction := c.direction, callerStatus := c.callerStatus, callerNumber := c.callerNumber,
    callerName := c.callerName, outcome := .ended cause, linkedId := c.linkedId, startTime := c.startTime,
    seconds := c.seconds }

/-- R19: an entry at the front, and at most 16 kept. -/
def addHistory (h : List HistoryEntry) (e : HistoryEntry) : List HistoryEntry := (e :: h).take Config.historyMax

/-- R18: the end of the active call, in its order of steps. -/
def State.callEnd (s : State) (c : Cause) : State :=
  if s.ccu.call.active = true then
    let cause := s.finalCause c
    let s1 := State.stopEngines { s with ccu.call.cause := some cause, ccu.ending := none }
    let s2 := State.loadT2 { s1.openRelay with ccu.line := .releasing } .guard Config.guardMs .none
    let s3 : State :=
      { s2 with ccu.call.active := false,
                ccu.history := addHistory s2.ccu.history (s2.ccu.call.historyEntry cause) }
    (s3.raiseBoth .callState).toCommand
  else s

/-- R18: a report of an engine that ends the call; it is ignored when no call is active or an end is in progress. -/
def State.reportEnd (s : State) (c : Cause) : State := if s.ccu.ending = none then s.callEnd c else s

/-- R17: a phase report of the job's engine. -/
def State.reportPhase (s : State) (p : CallPhase) : State :=
  if s.ccu.call.active = true ∧ s.ccu.ending = none then { s with ccu.call.phase := some p } else s

/-- R17: a report of the rung in use. -/
def State.reportRung (s : State) (r : Nat) : State :=
  if s.ccu.call.active = true ∧ s.ccu.ending = none then { s with ccu.call.rung := some r } else s

/-! ### Seizing the line (R3, R12) -/

/-- R17: the Call Record of a granted dial. -/
def dialRecord (master : Port) (items : List DialItem) (job : Job) : CallRecord :=
  { CallRecord.reset with direction := .outgoing, holder := some master.party, job := job, dialList := some items }

/-- R3: a dial is granted. -/
def State.seize (s : State) (master : Port) (items : List DialItem) (job : Job) (blind : Bool) : State :=
  (((s.activate (dialRecord master items job) blind).closeRelay).lineTo .seizing).loadT2 .settle Config.settleMs .none

/-- R12: at a moment when the line is free, the oldest queued dial is granted; none when nothing is granted. -/
def State.serveQueue (s : State) : Option State :=
  if s.lif.lineInUse = false ∧ s.power.low = false then
    match s.ccu.claims with
    | [] => none
    | c :: rest =>
      some ((({ s with ccu.claims := rest }).raiseAt c.master .claimGranted).seize c.master c.items c.job c.blind)
  else none

/-- R5, R6, R12: the line becomes free: SEIZING for a queued dial, or IDLE. -/
def State.lineFree (s : State) : State := (s.serveQueue).getD (s.lineTo .idle)

/-- R12: a master's entry leaves the claim queue. -/
def State.withdraw (s : State) (p : Port) : State :=
  { s with ccu.claims := s.ccu.claims.filter (fun c => c.master ≠ p) }

/-- A master has a queued dial. -/
def State.hasQueued (s : State) (p : Port) : Bool := s.ccu.claims.any (fun c => c.master == p)

end Sys2Proof.Machine
end

