-- ==== Sys2Proof/Machine/LineFrames.lean ====
section
/-! DEFINITION. The frames on the line (12.3, R186): kinds, fields, CRC and escaping of the link frames and of the fax control
frames, and how a receiver judges a run of bytes between two flags. -/

namespace Sys2Proof.Machine

/-- R186: the flag byte. -/
abbrev flagByte : Byte := 0xF5#8

/-- R186: the escape byte. -/
abbrev escapeLead : Byte := 0xF4#8

/-- R186: one bit taken into the CRC register. -/
def crcBit (r : BitVec 16) (bit : Bool) : BitVec 16 :=
  if bit ≠ r.getLsbD 0 then (r >>> 1) ^^^ 0x8408#16 else r >>> 1

/-- R186: one byte taken into the CRC register, least significant bit first. -/
def crcByte (r : BitVec 16) (b : Byte) : BitVec 16 := (List.range 8).foldl (fun r i => crcBit r (b.getLsbD i)) r

/-- R186: the register after the bytes of a frame. -/
def crcRegister (l : List Byte) : BitVec 16 := l.foldl crcByte 0xFFFF#16

/-- R116 and R186: the CRC of a frame, inverted, low byte first. -/
def crcBytes (l : List Byte) : List Byte := leBytes 2 (~~~(crcRegister l)).toNat

/-- R186: the register over an intact frame with its CRC. -/
def crcIntact (l : List Byte) : Bool := crcRegister l == 0xF0B8#16

/-- R186: a frame's bytes with flags and escapes escaped. -/
def escapeBytes : List Byte → List Byte
  | [] => []
  | b :: rest =>
    if b = flagByte ∨ b = escapeLead then escapeLead :: (b ^^^ 0x80#8) :: escapeBytes rest else b :: escapeBytes rest

/-- R186: the receiver undoes the escapes; `after` says that the byte before was an escape. -/
def unescapeFrom (after : Bool) : List Byte → List Byte
  | [] => []
  | b :: rest =>
    if after = true then (b ^^^ 0x80#8) :: unescapeFrom false rest
    else if b = escapeLead then unescapeFrom true rest
    else b :: unescapeFrom false rest

/-- R186: the last byte of a run is an escape, so that the flag after it aborts the frame. -/
def endsInEscape (after : Bool) : List Byte → Bool
  | [] => after
  | b :: rest => endsInEscape (!after && b == escapeLead) rest

/-- 12.3: the kind and the fields of a link frame. -/
def LinkFrame.body : LinkFrame → List Byte
  | .data seq a payload => [0x01#8, BitVec.ofNat 8 (seq % 16 * 16 + a % 16)] ++ payload
  | .ack a busy => [0x02#8, BitVec.ofNat 8 (a % 16 + (if busy = true then 128 else 0))]
  | .reject n => [0x03#8, BitVec.ofNat 8 n]
  | .linkReq w p => [0x04#8, BitVec.ofNat 8 w, BitVec.ofNat 8 p]
  | .linkConf w p => [0x05#8, BitVec.ofNat 8 w, BitVec.ofNat 8 p]
  | .clear => [0x06#8]

/-- 12.3: the kind and the fields of a fax control frame. -/
def FaxFrame.body : FaxFrame → List Byte
  | .caps m r t => [0x21#8, BitVec.ofNat 8 m, BitVec.ofNat 8 r, BitVec.ofNat 8 t]
  | .set r x t => [0x22#8, BitVec.ofNat 8 r, BitVec.ofNat 8 x, BitVec.ofNat 8 t]
  | .checkOk => [0x23#8]
  | .checkFail => [0x24#8]
  | .pageEnd more => [0x25#8, BitVec.ofNat 8 (flagCode more)]
  | .pageOk => [0x26#8]
  | .pageBad => [0x27#8]
  | .refuse => [0x28#8]
  | .done => [0x29#8]

/-- R186: what stands between the flags for a frame's kind and fields. -/
def frameBytes (body : List Byte) : List Byte := escapeBytes (body ++ crcBytes body)

/-- R116 and 12.3: the kind and the fields of a link frame read; none when the kind or the length is not that of a frame. A
DATA payload is neither empty nor longer than `maxPayload`. -/
def linkFrameOf (maxPayload : Nat) : List Byte → Option LinkFrame
  | k :: rest =>
    if k = 0x01#8 then
      match rest with
      | x :: payload =>
        if 1 ≤ payload.length ∧ payload.length ≤ maxPayload then some (.data (x.toNat / 16) (x.toNat % 16) payload) else none
      | [] => none
    else if k = 0x02#8 then
      match rest with
      | [x] => some (.ack (x.toNat % 16) (x.getLsbD 7))
      | _ => none
    else if k = 0x03#8 then
      match rest with
      | [x] => some (.reject x.toNat)
      | _ => none
    else if k = 0x04#8 then
      match rest with
      | [w, p] => some (.linkReq w.toNat p.toNat)
      | _ => none
    else if k = 0x05#8 then
      match rest with
      | [w, p] => some (.linkConf w.toNat p.toNat)
      | _ => none
    else if k = 0x06#8 then
      match rest with
      | [] => some .clear
      | _ => none
    else none
  | [] => none

/-- R186 and R116: what a receiver makes of a run of bytes between two flags. -/
inductive RunJudgement (α : Type) where
  | uncounted
  | crcFailure
  | otherwiseInvalid
  | valid (f : α)
deriving DecidableEq, Repr

/-- R186 and R116: a run judged by a receiver that reads a frame's kind and fields by `read`. -/
def judgeRunBy {α : Type} (read : List Byte → Option α) (run : List Byte) : RunJudgement α :=
  if run.length < 3 ∨ endsInEscape false run = true then .uncounted
  else
    let bytes := unescapeFrom false run
    if crcIntact bytes = true then
      match read (bytes.take (bytes.length - 2)) with
      | some f => .valid f
      | none => .otherwiseInvalid
    else .crcFailure

/-- R116 and R186: a run judged as a link frame. -/
def judgeRun (maxPayload : Nat) (run : List Byte) : RunJudgement LinkFrame := judgeRunBy (linkFrameOf maxPayload) run

/-- R133 and 12.3: the kind and the fields of a fax control frame read; none when the kind, the length, or the value of a
resolution or more-pages byte, is not that of a frame. -/
def faxFrameOf : List Byte → Option FaxFrame
  | [k] =>
    if k = 0x23#8 then some .checkOk
    else if k = 0x24#8 then some .checkFail
    else if k = 0x26#8 then some .pageOk
    else if k = 0x27#8 then some .pageBad
    else if k = 0x28#8 then some .refuse
    else if k = 0x29#8 then some .done
    else none
  | [k, more] => if k = 0x25#8 then (flagOf more).map FaxFrame.pageEnd else none
  | [k, x, y, z] =>
    if k = 0x21#8 then some (.caps x.toNat y.toNat z.toNat)
    else if k = 0x22#8 ∧ y.toNat ≤ 1 then some (.set x.toNat y.toNat z.toNat)
    else none
  | _ => none

/-- R133 and R186: a run judged as a fax control frame. -/
def judgeFaxRun (run : List Byte) : RunJudgement FaxFrame := judgeRunBy faxFrameOf run

/-! ### What goes onto the line (R117, R124, R133, R137, R139, R186) -/

/-- R186: a frame on the line, delimited by flags. -/
def lineFrame (body : List Byte) : List Byte := flagByte :: frameBytes body ++ [flagByte]

/-- R137: the zero bytes of a check, those of 1500 ms at the rung. -/
def checkBytes (rung : Nat) : List Byte := List.replicate (Config.rungRate rung * 1500 / 8000) 0#8

/-- The bytes that the pump's transmitter is given for a transmission. Idle fill is a run of flags, of which this is one; the
resynchronising symbols of a page are no bytes. -/
def Transmission.bytes : Transmission → List Byte
  | .idleFill => [flagByte]
  | .resync _ => []
  | .link f => lineFrame f.body
  | .fax f => lineFrame f.body
  | .check rung => checkBytes rung
  | .byte b => [b]

end Sys2Proof.Machine
end

