-- ==== Sys2Proof/Machine/LinkOps.lean ====
section
/-! DEFINITION. The System Port's data state and the Link Engine's shared operations (Chapter 7, R179): entry to the data
state, setup, pause and resumption, acknowledgments, clearing, the inbound queue. -/

namespace Sys2Proof.Machine

/-! ### The data state (R127, R129, R179) -/

/-- R127: the CTS level that a queue of `n` bytes asks for. -/
def ctsAfter (cts : Bool) (n : Nat) : Bool :=
  if Config.ctsHigh ≤ n then false else if n ≤ Config.ctsLow then true else cts

/-- R127 and R176: CTS follows the outbound queue in the data state. -/
def State.judgeCts (s : State) : State :=
  if s.sys.data = true then { s with sys.cts := ctsAfter s.sys.cts s.link.outbound.length } else s

/-- R127, R129, R176, R179: the System Port enters its data state. Escape detection runs on a data call only. -/
def State.enterData (s : State) : State :=
  if s.ccu.call.job = .data then
    { s.loadT5 with
      sys := { s.sys with data := true, entryDue := false, goDataDue := false, assembler := [], lateByte := false,
                          escape := .waiting,
                          cts := decide (s.link.outbound.length < Config.ctsHigh) } }
  else
    { s with
      sys := { s.sys with data := true, entryDue := false, goDataDue := false, assembler := [], lateByte := false,
                          cts := if s.fax.role = some .receiver then true
                                 else decide (s.link.outbound.length < Config.ctsHigh) } }

/-- R179: an entry to the data state falls due; it waits while the port has something to send. A command frame partly
assembled is discarded. DESIGN CHOICE (log 18): a BAD_FRAME answer that waits holds it back as a BUSY answer does. -/
def State.requestData (s : State) : State :=
  if s.sys.data = true then s.enterData
  else if s.ports.system.outgoing = [] ∧ s.sys.notice = none then s.enterData
  else { s with sys.entryDue := true, sys.assembler := [] }

/-! ### Setup (R114, R115) -/

/-- R115: a payload size rounded down to 32, 64 or 128, and 32 below 32. -/
def roundPayload (n : Nat) : Nat := if 128 ≤ n then 128 else if 64 ≤ n then 64 else 32

/-- R115: a window size as read from the far end. -/
def readWindow (n : Nat) : Nat := clamp 1 7 n

/-- R115: the negotiated value of each quantity is the smaller one. -/
def negotiate (offer peer : Nat × Nat) : Nat × Nat :=
  (min offer.1 (readWindow peer.1), min offer.2 (roundPayload peer.2))

/-- R115, steps 3 and 4: the call is online. -/
def State.online (s : State) : State := (s.raiseHolder .linkState).requestData

/-- R115: entry to LINKED with the far end's values. -/
def State.enterLinked (s : State) (peer : Nat × Nat) : State :=
  let n := negotiate s.link.offer peer
  let s := s.stopT3
  State.online
    { s with
      link := { s.link with
                mode := .linked, windowSize := n.1, payloadSize := n.2, vs := 0, vr := 0, retries := 0,
                peerBusy := false, ownBusy := false, ackOwed := false, busyAckOwed := false, rejectOwed := false,
                clearOwed := false, reqDue := false } }

/-- R114 and R115: entry to DIRECT. -/
def State.enterDirect (s : State) : State :=
  let s := s.stopT3
  State.online { s with link.mode := .direct, link.reqDue := false, link.confDue := false, link.confSetup := false }

/-- R114: data may begin on the call. -/
def State.linkBegin (s : State) : State :=
  let s : State :=
    { s with link.policy := s.settings.linkPolicy,
             link.offer := (s.settings.linkWindow, roundPayload s.settings.linkPayload) }
  if s.settings.linkPolicy = .directOnly then s.enterDirect
  else State.loadT3 { s with link.mode := .setup, link.reqDue := true, link.attempts := 1 } Config.linkReqMs

/-! ### Pause and resumption (R123) -/

/-- R113: V(A), the oldest unacknowledged sequence number. -/
def Link.va (l : Link) : Nat := (l.vs + 16 - l.window.length) % 16

/-- R123: the link is paused. A frame being sent is cut off. -/
def State.linkPause (s : State) : State :=
  let s := s.stopT3
  { s with link.paused := true, link.tx := .idleFill }

/-- R123: the link resumes. -/
def State.linkResume (s : State) : State :=
  let s : State := { s with link.paused := false }
  match s.link.mode with
  | .linked =>
    if s.link.window = [] then s
    else State.loadT3 { s with link.resendMark := some s.link.va } s.settings.linkTimerMs
  | .setup => State.loadT3 { s with link.reqDue := true } Config.linkReqMs
  | _ => s

/-! ### Acknowledgments (R119) -/

/-- R119: how far an acknowledgment lies above V(A). -/
def Link.ackDistance (l : Link) (n : Nat) : Nat := (n + 16 - l.va) % 16

/-- R119: an acknowledgment is in range. -/
def Link.ackInRange (l : Link) (n : Nat) : Bool := decide (l.ackDistance n ≤ l.window.length)

/-- R119: where the resend mark stands after an acknowledgment `n` that removed `k` frames. -/
def Link.markAfter (l : Link) (n k : Nat) : Option Nat :=
  match l.resendMark with
  | none => none
  | some m => if l.ackDistance m < k then (if n = l.vs then none else some n) else some m

/-- R119: an acknowledgment is taken; one out of range is ignored. -/
def State.takeAck (s : State) (n : Nat) : State :=
  if s.link.ackInRange n = true then
    let k := s.link.ackDistance n
    if k = 0 then s
    else
      let s1 : State :=
        { s with link := { s.link with window := s.link.window.drop k, resendMark := s.link.markAfter n k, retries := 0 } }
      if s1.link.window = [] then s1.stopT3 else s1.loadT3 s.settings.linkTimerMs
  else s

/-! ### The inbound queue (R121, R122, R128) -/

/-- R122: free space of the inbound queue. -/
def Link.inboundFree (l : Link) : Nat := Config.queueMax - l.inbound.length

/-- R122: own busy is judged whenever the Link Engine runs; on a fax call it is OFF (R113), and the inbound queue holds page
bytes (R144). -/
def Link.judgeBusy (l : Link) : Link :=
  if l.mode ≠ .off then
    if l.inboundFree < 256 ∧ l.ownBusy = false then { l with ownBusy := true, busyAckOwed := true }
    else if 512 ≤ l.inboundFree ∧ l.ownBusy = true then { l with ownBusy := false, busyAckOwed := true }
    else l
  else l

/-! ### Clearing (R125) -/

/-- R125: what both kinds of clearing drop. -/
def Link.beginClearing (l : Link) : Link :=
  { l with mode := .clearing, paused := false, clearOwed := true, window := [], resendMark := none, ackOwed := false,
           busyAckOwed := false, rejectOwed := false, reqDue := false, confDue := false, confSetup := false, outbound := [] }

/-- R125: the Link Engine clears at the CCU's request, and waits. -/
def State.startClearing (s : State) : State :=
  (State.loadT3 { s with link := s.link.beginClearing } Config.clearingMs).judgeCts

/-- R125: the far end's CLEAR is answered with the 2814's own. -/
def State.answerClear (s : State) : State :=
  let s := s.stopT3
  State.judgeCts { s with link := { s.link.beginClearing with byFarEnd := true } }

/-! ### Statistics (R126) -/

/-- R126: a counter of the statistics, saturating. -/
def count16 (n : Nat) : Nat := bump Config.max16 n

/-- R116: a valid frame received. -/
def Link.countGood (l : Link) : Link := { l with stats.good := count16 l.stats.good }

end Sys2Proof.Machine
end

