-- ==== Sys2Proof/Machine/Pump.lean ====
section
/-! DEFINITION. The Data Pump (Chapter 6): handshake, training, DATA and its decisions, rate changes, retrains and their
budget, carrier loss, cleardown, and the close of a quality window. -/

namespace Sys2Proof.Machine

/-! ### The ladder (R99) -/

/-- R99: Fall of a rung as the ladder stands. -/
def State.fall (s : State) (r : Nat) : Nat := (s.settings.ladder.get r).fall

/-- R99: Rise of a rung as the ladder stands. -/
def State.rise (s : State) (r : Nat) : Nat := (s.settings.ladder.get r).rise

/-- The rung in force. -/
def Pump.rungNow (p : Pump) : Nat := p.rung.getD 0

/-- R101: a rung held within the negotiated bounds. -/
def Pump.clampRung (p : Pump) (m : Nat) : Nat := clamp (p.negFloor.getD 0) (p.negCeiling.getD 7) m

/-- R104: the counts are set to 0. -/
def Pump.clearCounts (p : Pump) : Pump := { p with below := 0, above := 0 }

/-! ### The start of a data call (R101) -/

/-- R101: the pump starts in a role. -/
def State.pumpStart (s : State) (role : PumpRole) : State :=
  State.reportPhase
    { s with
      pump := { Pump.idle with
                mode := .data, role := some role, phase := .handshake, localCeiling := s.settings.rungCeiling,
                localFloor := s.settings.rungFloor, answerTone := decide (role = .answerer) } }
    (.pump .handshake)

/-- R102: a training begins at the rung in force. -/
def State.beginTraining (s : State) : State :=
  { s with
    level := s.level.startFeed .training,
    pump := { s.pump.clearCounts with stage := .symbols, ownAccept := false, farAccept := none } }

/-- R101: the handshake completes with the far end's maximum `m`. -/
def State.handshakeComplete (s : State) (m : Nat) : State :=
  let ceiling := min s.pump.localCeiling m
  State.beginTraining
    (State.reportPhase
      { s with
        pump := { s.pump with
                  phase := .training, peerMax := some m, negCeiling := some ceiling,
                  negFloor := some (min s.pump.localFloor ceiling), rung := some ceiling } }
      (.pump .training))

/-- R101: the pump notes what it hears of the far end. -/
def Pump.hear (p : Pump) : HandshakeSignal → Pump
  | .maximum r => { p with heardMax := some (min 7 r.toNat) }
  | .acknowledge => { p with heardAck := true }

/-- R101: the handshake completes once the pump has heard the far end's maximum and its acknowledgment. While the answer tone
still sounds the pump has not sent its own maximum, and nothing completes (log 24). -/
def State.judgeHandshake (s : State) : State :=
  match s.pump.heardMax, s.pump.heardAck, s.pump.answerTone with
  | some m, true, false => s.handshakeComplete m
  | _, _, _ => s

/-- HANDSHAKE_SIGNAL_RECEIVED (R101). -/
def execHandshakeSignalReceived (x : HandshakeSignal) (s : State) : Step :=
  finish
    (if s.pump.phase = .handshake then
      State.judgeHandshake { s with pump := s.pump.hear x }
    else s)

/-- ANSWER_TONE_END (R101): the answer tone has sounded for 2000 ms. -/
def execAnswerToneEnd (s : State) : Step :=
  finish
    (if s.pump.phase = .handshake then State.judgeHandshake { s with pump.answerTone := false } else s)

/-- HANDSHAKE_TIMEOUT (R101): 1800 symbols at rung 0 without completion. The count begins after the answer tone. -/
def execHandshakeTimeout (s : State) : Step :=
  finish
    (if s.pump.phase = .handshake ∧ s.pump.answerTone = false then s.reportEnd .lineTooNoisy else s)

/-! ### DATA (R103) -/

/-- R103: the entry to DATA, in its order of steps. -/
def State.dataEntry (s : State) : State :=
  let first := !s.pump.linkStarted
  let s : State :=
    { s with
      pump := { s.pump.clearCounts with
                phase := .data, request := .none, stage := .none, confirmed := false, linkStarted := true },
      level := s.level.startFeed .tracking }
  let s := (s.loadT4.reportPhase (.pump .data)).reportRung s.pump.rungNow
  let s := s.loadT2 .stable Config.stableMs .none
  if first = true then s.linkBegin else s.linkResume

/-! ### Training (R102) -/

/-- R102: a training is in progress at a stage. -/
abbrev Pump.trainingAt (p : Pump) (g : TrainingStage) : Prop := (p.phase = .training ∨ p.phase = .retrain) ∧ p.stage = g

/-- TRAINING_SYMBOLS_END (R93, R95, R102): the 1024th training symbol. -/
def execTrainingSymbolsEnd (s : State) : Step :=
  finish
    (if s.pump.trainingAt .symbols then
      let level := s.level.endTraining
      { s with
        level := level,
        pump := { s.pump with
                  stage := .verdicts, ownAccept := decide (s.fall s.pump.rungNow ≤ level.average.getD 0) } }
    else s)

/-- FAR_END_VERDICT_RECEIVED (R102). -/
def execFarEndVerdictReceived (accept : Bool) (s : State) : Step :=
  finish (if s.pump.trainingAt .verdicts then { s with pump.farAccept := some accept } else s)

/-- R102: a failed training steps down, or ends the call at the floor. -/
def State.trainingFailed (s : State) : State :=
  let r := s.pump.rungNow
  if s.pump.negFloor.getD 0 < r then
    State.beginTraining (State.reportRung { s with pump.rung := some (r - 1) } (r - 1))
  else s.reportEnd .lineTooNoisy

/-- VERDICT_EXCHANGE_END (R102). -/
def execVerdictExchangeEnd (s : State) : Step :=
  finish
    (if s.pump.trainingAt .verdicts then
      if s.pump.ownAccept = true ∧ s.pump.farAccept = some true then s.dataEntry else s.trainingFailed
    else s)

/-! ### Rate changes and retrains (R105 to R108) -/

/-- R105: the entry to RATE_CHANGE with a request, confirmed when the far end made it. -/
def State.rateChangeEntry (s : State) (rung : Nat) (confirmed : Bool) : State :=
  let s := s.linkPause
  let s : State :=
    { s with
      level := s.level.stopFeed,
      pump := { s.pump.clearCounts with
                phase := .rateChange, request := .rate rung, confirmed := confirmed,
                rung := if confirmed = true then some rung else s.pump.rung } }
  ((s.stopT4.reportPhase (.pump .rateChange)).stopT2).raiseHolder .rateChange

/-- R107: the entry to RETRAIN, or the end of the budget. -/
def State.retrainEntry (s : State) (fromFarEnd : Bool) : State :=
  if 3 ≤ s.pump.retrains then s.reportEnd .lineTooNoisy
  else
    let s := if s.pump.phase = .data then s.linkPause else s
    let s : State :=
      { s with
        level := s.level.stopFeed,
        pump := { s.pump.clearCounts with
                  phase := .retrain, retrains := s.pump.retrains + 1, confirmed := false, stage := .none,
                  request := if fromFarEnd = true then .none else .retrain } }
    let s := ((s.loadT4.reportPhase (.pump .retrain)).stopT2).raiseHolder .rateChange
    if fromFarEnd = true then s.beginTraining else s

/-- RETRAIN_REQUEST_SENT (R107): the 64 symbols of the request have gone. -/
def execRetrainRequestSent (s : State) : Step :=
  finish
    (if s.pump.phase = .retrain ∧ s.pump.request = .retrain then
      State.beginTraining { s with pump.request := .none }
    else s)

/-- FAR_END_RATE_REQUEST (R106). -/
def execFarEndRateRequest (m : Byte) (s : State) : Step :=
  finish
    (match s.pump.phase with
     | .data => s.rateChangeEntry (s.pump.clampRung m.toNat) true
     | .rateChange =>
       match s.pump.request, s.pump.confirmed with
       | .rate n, false =>
         let r := s.pump.clampRung (min n m.toNat)
         { s with pump.request := .rate r, pump.rung := some r, pump.confirmed := true }
       | _, _ => s
     | _ => s)

/-- FAR_END_RETRAIN_REQUEST (R106). -/
def execFarEndRetrainRequest (s : State) : Step :=
  finish (if s.pump.phase = .data ∨ s.pump.phase = .rateChange then s.retrainEntry true else s)

/-- RATE_CONFIRM_RECEIVED (R105): the far end confirms the pump's request, and both switch to the new rung. -/
def execRateConfirmReceived (s : State) : Step :=
  finish
    (match s.pump.phase, s.pump.request, s.pump.confirmed with
     | .rateChange, .rate n, false => { s with pump.rung := some n, pump.confirmed := true }
     | _, _, _ => s)

/-- RESYNC_END (R105): the 256 resynchronising symbols have gone at the new rung. -/
def execResyncEnd (s : State) : Step :=
  finish (if s.pump.phase = .rateChange ∧ s.pump.confirmed = true then s.dataEntry else s)

/-- RATE_CONFIRM_TIMEOUT (R105): 600 symbols at rung 0 without a confirmation. -/
def execRateConfirmTimeout (s : State) : Step :=
  finish (if s.pump.phase = .rateChange ∧ s.pump.confirmed = false then s.retrainEntry false else s)

/-- RETRAIN_STABLE_EXPIRY (R108). -/
def execRetrainStableExpiry (s : State) : Step :=
  finish
    (match s.takeT2 .stable with
     | some s => if s.pump.phase = .data then { s with pump.retrains := 0 } else s
     | none => s)

/-- CARRIER_LOSS_EXPIRY (R109). -/
def execCarrierLossExpiry (s : State) : Step :=
  finish
    (match s.timers.e4.takeA 4 with
     | some c =>
       let s : State := { s with timers.e4 := c }
       if s.pump.phase = .data ∨ s.pump.phase = .retrain then s.reportEnd .carrierLost else s
     | none => s)

/-- R111: the pump carries the Link Engine's clearing frames. -/
def State.cleardown (s : State) : State :=
  match s.pump.phase with
  | .data | .rateChange | .retrain =>
    let s : State :=
      { s with
        level := s.level.stopFeed,
        pump := { s.pump.clearCounts with phase := .cleardown, request := .none, stage := .none, confirmed := false } }
    (s.stopT4.stopT2)
  | _ => s

/-! ### Window reports (R92, R104, R137, R140) -/

/-- R104, step 2: the below-count of a report. -/
def Pump.belowAfter (p : Pump) (a fall : Nat) : Nat := if a < fall then p.below + 1 else 0

/-- R104, step 3: the above-count of a report. -/
def Pump.aboveAfter (p : Pump) (a rise : Nat) : Nat := if rise ≤ a then bump 16 p.above else 0

/-- R104: the pump judges a window report in DATA. -/
def State.rateDecision (s : State) (r : WindowReport) : State :=
  let rung := s.pump.rungNow
  let a := r.average.getD 0
  if 2 ≤ r.overloadRun then s.retrainEntry false
  else
    let s : State := { s with pump.below := s.pump.belowAfter a (s.fall rung) }
    if 4 ≤ s.pump.below then
      if s.pump.negFloor.getD 0 < rung then s.rateChangeEntry (rung - 1) false else s.retrainEntry false
    else
      let s : State := { s with pump.above := s.pump.aboveAfter a (s.rise rung) }
      if 16 ≤ s.pump.above ∧ rung < s.pump.negCeiling.getD 7 then s.rateChangeEntry (rung + 1) false else s

/-- R137 and R140: the Fax Engine takes a window report. -/
def State.faxWindow (s : State) (r : WindowReport) : State :=
  match s.fax.phase with
  | some .check =>
    if s.fax.role = some .receiver then { s with fax.checkOverloaded := s.fax.checkOverloaded || r.overloaded } else s
  | some .page =>
    if s.fax.role = some .receiver then
      { s with
        fax.windows := bump Config.max16 s.fax.windows,
        fax.badWindows :=
          if 8 * r.quality < s.fall (s.fax.rung.getD 0) then bump Config.max16 s.fax.badWindows else s.fax.badWindows }
    else s
  | _ => s

/-- R92: the figure forwarded to the Call Record. -/
def State.reportQuality (s : State) (q : Nat) : State :=
  if s.ccu.call.active = true ∧ s.ccu.ending = none then { s with ccu.call.lastQuality := some q } else s

/-- R92: the report delivered to the block that started the feed. -/
def State.takeReport (s : State) (r : WindowReport) : State :=
  let s := if r.overloaded = true then s.raiseHolder .qualityAlert else s
  let s := s.reportQuality r.quality
  match s.pump.mode with
  | .data => if s.pump.phase = .data then s.rateDecision r else s
  | .fax => s.faxWindow r
  | .none => s

/-- QUALITY_WINDOW_CLOSE (R91, R92, R95): a window that holds its 256 symbols closes, also when its feed has been stopped
meanwhile. -/
def execQualityWindowClose (s : State) : Step :=
  finish
    (match s.level.nextClosing with
     | none => s
     | some c =>
       let after := s.level.closeWindow c
       State.takeReport { s with level := after } (c.report after.average))

end Sys2Proof.Machine
end

