-- ==== Sys2Proof/Machine/Link.lean ====
section
/-! DEFINITION. The rows of the Link Engine (Chapter 7): setup, the transmitter, received frames, the link timer, clearing,
direct mode and READ LINK STATS. -/

namespace Sys2Proof.Machine

/-! ### Setup (R114, R115) -/

/-- R114 and R123: T3 is loaded for the next LINK_REQ; while the link is paused it stays stopped. -/
def State.loadReq (s : State) : State := if s.link.paused = true then s else s.loadT3 Config.linkReqMs

/-- LINK_REQ_TIMER_EXPIRY (R114). -/
def execLinkReqTimerExpiry (s : State) : Step :=
  finish
    (if s.link.mode = .setup then
      match s.takeT3 with
      | none => s
      | some s =>
        if s.link.attempts < 3 then
          State.loadReq { s with link.reqDue := true, link.attempts := s.link.attempts + 1 }
        else if s.link.policy = .require then s.reportEnd .noLink
        else s.enterDirect
    else s)

/-- The modes in which the Link Engine takes frames from the line, while the pump carries them (R116, R123). -/
abbrev Link.framed (l : Link) : Prop :=
  l.paused = false ∧ (l.mode = .setup ∨ l.mode = .linked ∨ l.mode = .clearing)

/-- LINK_REQ_RECEIVED (R115): answered with a LINK_CONF in SETUP and in LINKED. DESIGN CHOICE (log 50): the LINK_REQs taken
before the LINK_CONF goes out share it, and the last of them settles whether it carries the offer or the negotiated values; one
that comes in SETUP while the LINK_CONF leaves is owed another, and the negotiation is with its values. -/
def execLinkReqReceived (window payload : Byte) (s : State) : Step :=
  finish
    (if s.link.framed then
      let l := s.link.countGood
      match l.mode with
      | .setup =>
        { s with link := { l with confDue := true, confSetup := true, peerOffer := (window.toNat, payload.toNat) } }
      | .linked => { s with link := { l with confDue := true, confSetup := false } }
      | _ => { s with link := l }
    else s)

/-- LINK_CONF_RECEIVED (R115): in SETUP it fixes the negotiated values. -/
def execLinkConfReceived (window payload : Byte) (s : State) : Step :=
  finish
    (if s.link.framed then
      let s : State := { s with link := s.link.countGood }
      if s.link.mode = .setup then s.enterLinked (window.toNat, payload.toNat) else s
    else s)

/-- The transmitter has sent a LINK_CONF. -/
def Transmission.isConf : Transmission → Bool
  | .link (.linkConf _ _) => true
  | _ => false

/-- LINK_CONF_SENT (R115): the last byte of a LINK_CONF has left the pump. -/
def execLinkConfSent (s : State) : Step :=
  finish
    (if s.link.tx.isConf = true then
      let s : State := { s with link.tx := .idleFill }
      if s.link.mode = .setup then s.enterLinked s.link.peerOffer else s
    else s)

/-! ### Received frames (R116, R119, R121) -/

/-- INVALID_LINK_FRAME (R116, R186): a run between two flags that is no valid frame. -/
def execInvalidLinkFrame (run : List Byte) (s : State) : Step :=
  finish
    (if s.link.framed then
      match judgeRun s.link.payloadSize run with
      | .crcFailure => { s with link.stats.crcErrors := count16 s.link.stats.crcErrors }
      | _ => s
    else s)

/-- R116: a DATA payload of a valid frame. -/
abbrev Link.validPayload (l : Link) (payload : List Byte) : Prop :=
  1 ≤ payload.length ∧ payload.length ≤ l.payloadSize

/-- R121: a payload in sequence joins the inbound queue, or is refused for want of room. -/
def Link.takePayload (l : Link) (payload : List Byte) : Link :=
  if payload.length ≤ l.inboundFree then
    { l with inbound := l.inbound ++ payload, vr := (l.vr + 1) % 16, rejectFlag := false, ackOwed := true }.judgeBusy
  else { l with busyAckOwed := true }

/-- R121: the sequence number of a DATA frame judged against V(R). -/
def Link.takeSequence (l : Link) (seq : Nat) (payload : List Byte) : Link :=
  let behind := (l.vr + 16 - seq) % 16
  if behind = 0 then l.takePayload payload
  else if behind ≤ 7 then { l with ackOwed := true }
  else if l.rejectFlag = true then l
  else { l with rejectOwed := true, rejectFlag := true, stats.rejectsSent := count16 l.stats.rejectsSent }

/-- DATA_FRAME_RECEIVED (R116, R121). -/
def execDataFrameReceived (seq ack : BitVec 4) (payload : List Byte) (s : State) : Step :=
  finish
    (if s.link.framed ∧ s.link.validPayload payload then
      let s : State := { s with link := s.link.countGood }
      if s.link.mode = .linked then
        let s := s.takeAck ack.toNat
        { s with link := s.link.takeSequence seq.toNat payload }
      else s
    else s)

/-- ACK_RECEIVED (R119). -/
def execAckReceived (ack : BitVec 4) (busy : Bool) (s : State) : Step :=
  finish
    (if s.link.framed then
      let s : State := { s with link := s.link.countGood }
      if s.link.mode = .linked then
        let s := s.takeAck ack.toNat
        { s with link.peerBusy := busy }
      else s
    else s)

/-- R119: an in-range REJECT after its acknowledgment. -/
def Link.takeReject (l : Link) (n : Nat) : Link :=
  { l with
    stats.rejectsReceived := count16 l.stats.rejectsReceived, resendMark := if n = l.vs then l.resendMark else some n }

/-- REJECT_RECEIVED (R119). -/
def execRejectReceived (expected : BitVec 4) (s : State) : Step :=
  finish
    (if s.link.framed then
      let s : State := { s with link := s.link.countGood }
      if s.link.mode = .linked ∧ s.link.ackInRange expected.toNat = true then
        let s := s.takeAck expected.toNat
        { s with link := s.link.takeReject expected.toNat }
      else s
    else s)

/-- CLEAR_RECEIVED (R125): it finishes the 2814's own clearing, is answered in LINKED, and in SETUP has no effect. DEDUCED
(log 34): in a CLEARING that the far end's CLEAR began, no wait runs and a further CLEAR is only counted. -/
def execClearReceived (s : State) : Step :=
  finish
    (if s.link.paused = true then s
     else
      match s.link.mode with
      | .linked => State.answerClear { s with link := s.link.countGood }
      | .clearing =>
        let s : State := { s with link := s.link.countGood }
        if s.link.byFarEnd = true then s else s.stopT3.callEnd .normal
      | _ => s)

/-! ### The transmitter (R117, R118, R124) -/

/-- R126: a frame is sent: counted, and no longer owed, as it goes to the pump. DEDUCED (log 34): also one that a pause then cuts
off, which R117 does not send again. -/
def Link.sendFrame (l : Link) (f : LinkFrame) : Link :=
  { l with tx := .link f, stats.sent := count16 l.stats.sent }

/-- R117: the resend mark moves to the next frame of the window, or becomes absent after the newest. -/
def Link.markNext (l : Link) (m : Nat) : Option Nat := if (m + 1) % 16 = l.vs then none else some ((m + 1) % 16)

/-- R117: the frame of the window at a sequence number. -/
def Link.frameAt (l : Link) (m : Nat) : Option SentFrame := l.window.find? (fun f => f.seq == m)

/-- R117: rank 4, a frame sent again. -/
def Link.resend (l : Link) (f : SentFrame) : Link :=
  { l.sendFrame (.data f.seq l.vr f.payload) with
    resendMark := l.markNext f.seq, ackOwed := false,
    stats := { l.stats with sent := count16 l.stats.sent, resent := count16 l.stats.resent } }

/-- R118: rank 5, a new frame from the head of the outbound queue. -/
def Link.sendNew (l : Link) : Link :=
  let payload := l.outbound.take l.payloadSize
  { l.sendFrame (.data l.vs l.vr payload) with
    outbound := l.outbound.drop l.payloadSize, window := l.window ++ [⟨l.vs, payload⟩], vs := (l.vs + 1) % 16,
    ackOwed := false }

/-- R117: rank 5 applies. -/
abbrev Link.mayForm (l : Link) : Prop :=
  l.outbound ≠ [] ∧ l.window.length < l.windowSize ∧ l.peerBusy = false

/-- R118 and R120: a new frame, T3 loaded where the window was empty, and CTS judged. -/
def State.formFrame (s : State) : State :=
  let s := if s.link.window = [] then s.loadT3 s.settings.linkTimerMs else s
  State.judgeCts { s with link := s.link.sendNew }

/-- R115: the values of the LINK_CONF due: the 2814's offer to a LINK_REQ taken in SETUP, the negotiated ones to a LINK_REQ
taken in LINKED. -/
def Link.confValues (l : Link) : Nat × Nat := if l.confSetup = true then l.offer else (l.windowSize, l.payloadSize)

/-- R115: the LINK_CONF due is sent. -/
def Link.sendConf (l : Link) : Link :=
  { l.sendFrame (.linkConf l.confValues.1 l.confValues.2) with confDue := false, confSetup := false }

/-- R117: what is sent in LINKED. -/
def State.sendLinked (s : State) : State :=
  let l := s.link
  if l.confDue = true then { s with link := l.sendConf }
  else if l.rejectOwed = true then
    { s with link := { l.sendFrame (.reject l.vr) with rejectOwed := false, ackOwed := false } }
  else if l.busyAckOwed = true then
    { s with link := { l.sendFrame (.ack l.vr l.ownBusy) with busyAckOwed := false, ackOwed := false } }
  else
    match l.resendMark.bind l.frameAt with
    | some f => { s with link := l.resend f }
    | none =>
      if l.mayForm then s.formFrame
      else if l.ackOwed = true then
        { s with link := { l.sendFrame (.ack l.vr l.ownBusy) with ackOwed := false } }
      else { s with link.tx := .idleFill }

/-- R114, R115, R117: what is sent in SETUP. -/
def Link.sendSetup (l : Link) : Link :=
  if l.confDue = true then l.sendConf
  else if l.reqDue = true then { l.sendFrame (.linkReq l.offer.1 l.offer.2) with reqDue := false }
  else { l with tx := .idleFill }

/-- R117, R125: what is sent in CLEARING. -/
def Link.sendClearing (l : Link) : Link :=
  if l.clearOwed = true then { l.sendFrame .clear with clearOwed := false } else { l with tx := .idleFill }

/-- R124: what is sent in DIRECT. DESIGN CHOICE (log 50): with the outbound queue empty the pump sends idle fill. -/
def State.sendDirect (s : State) : State :=
  match s.link.outbound with
  | [] => { s with link.tx := .idleFill }
  | b :: rest => State.judgeCts { s with link.tx := .byte b, link.outbound := rest }

/-- TRANSMITTER_READY (R117): the pump is ready for the next frame, and the Link Engine chooses. DESIGN CHOICE (log 50): what it
chooses takes the place of a LINK_CONF or CLEAR whose end has still to be taken, and that end's row then has no effect. -/
def execTransmitterReady (s : State) : Step :=
  finish
    (if s.link.paused = true then s
     else
      match s.link.mode with
      | .off => s
      | .setup => { s with link := s.link.sendSetup }
      | .linked => s.sendLinked
      | .direct => s.sendDirect
      | .clearing => { s with link := s.link.sendClearing })

/-- CLEAR_REPLY_SENT (R125): the CLEAR that answers the far end's has left the pump. -/
def execClearReplySent (s : State) : Step :=
  finish
    (if s.link.mode = .clearing ∧ s.link.byFarEnd = true ∧ s.link.tx = .link .clear then s.callEnd .remoteCleared
     else s)

/-! ### Timers (R120, R125) -/

/-- R120: the whole window is to be sent again and T3 is loaded. T3 runs only with frames in the window (R120) and while the
link is not paused (R123). -/
def State.resendWindow (s : State) : State :=
  if s.link.window = [] then s
  else
    let s : State := { s with link.resendMark := some s.link.va }
    if s.link.paused = true then s else s.loadT3 s.settings.linkTimerMs

/-- LINK_TIMER_EXPIRY (R120). -/
def execLinkTimerExpiry (s : State) : Step :=
  finish
    (if s.link.mode = .linked then
      match s.takeT3 with
      | none => s
      | some s =>
        let s : State := { s with link.stats.expiries := count16 s.link.stats.expiries }
        if s.link.peerBusy = true then s.resendWindow
        else
          let s : State := { s with link.retries := bump 31 s.link.retries }
          if s.settings.linkRetryLimit < s.link.retries then s.reportEnd .linkFailed
          else s.resendWindow
    else s)

/-- CLEARING_WAIT_EXPIRY (R125): the clearing wait of the 2814's own clearing ends. -/
def execClearingWaitExpiry (s : State) : Step :=
  finish
    (if s.link.mode = .clearing ∧ s.link.byFarEnd = false then
      match s.takeT3 with
      | some s => s.callEnd .normal
      | none => s
    else s)

/-! ### Direct mode (R124) -/

/-- DIRECT_BYTE_RECEIVED (R124). -/
def execDirectByteReceived (b : Byte) (s : State) : Step :=
  finish
    (if s.link.mode = .direct ∧ s.link.paused = false then
      if s.link.inbound.length < Config.queueMax then
        { s with link := { s.link with inbound := s.link.inbound ++ [b] }.judgeBusy }
      else { s with link.stats.lost := count16 s.link.stats.lost }
    else s)

/-! ### READ LINK STATS (R126) -/

/-- R113. -/
def LinkMode.code : LinkMode → Nat
  | .off => 0
  | .setup => 1
  | .linked => 2
  | .direct => 3
  | .clearing => 4

/-- R126: the statistics and the port overrun count. -/
def LinkStats.items (t : LinkStats) : List Item :=
  [.u16 t.sent, .u16 t.resent, .u16 t.good, .u16 t.crcErrors, .u16 t.rejectsSent, .u16 t.rejectsReceived,
   .u16 t.expiries, .u16 t.lost, .u8 t.overruns]

/-- R126: the results of READ LINK STATS. -/
def linkItems (l : Link) : List Item :=
  l.stats.items ++
    [.u8 l.mode.code, flagItem l.paused, .u8 l.windowSize, .u8 l.payloadSize, .u16 l.vs, .u16 l.va, .u16 l.vr,
     .u8 l.window.length, .u8 l.retries, flagItem l.peerBusy, flagItem l.ownBusy, .u16 l.outbound.length,
     .u16 l.inbound.length]

/-- READ LINK STATS (R126). -/
def execReadLinkStats (f : Frame) (s : State) : Step :=
  command f 0x23#8 s (readOnly (fun s => ⟨.ok, linkItems s.link⟩))

end Sys2Proof.Machine
end

