-- ==== Sys2Proof/Machine/FaxOps.lean ====
section
/-! DEFINITION. The Fax Engine's shared operations (Chapter 8): the start, control frames and their answers, the check, the
pages of a sender and of a receiver, and the connection of an outgoing call (R56). -/

namespace Sys2Proof.Machine

/-! ### Control frames (R133 to R135) -/

/-- R131: a phase is entered and reported. -/
def State.faxTo (s : State) (p : FaxPhase) : State := { s with fax.phase := some p }.reportPhase (.fax p)

/-- R134: T2 is loaded for the Fax Engine's answer. -/
def State.faxWait (s : State) : State := s.loadT2 .faxReply Config.faxWaitMs .none

/-- R134: a control frame goes to the pump and is kept as the last frame. DESIGN CHOICE (log 50): it takes the place of what the
pump is sending. -/
def State.faxFrame (s : State) (f : FaxFrame) : State :=
  { s with fax := { s.fax with lastFrame := some f, checkSending := false, unsent := true }, link.tx := .fax f }

/-- R134: a control frame that expects an answer is sent. -/
def State.faxSend (s : State) (f : FaxFrame) (x : FaxExpect) : State :=
  ({ s with fax.expect := x }.faxFrame f).faxWait

/-- R135: the session notes that it has had the answer it waits for. -/
def Fax.noteAnswer (x : Fax) : List FaxExpect := if x.expect ∈ x.answered then x.answered else x.answered ++ [x.expect]

/-- R134: the expected answer is taken. -/
def State.faxAnswered (s : State) : State :=
  { s.stopT2 with fax := { s.fax with expect := .none, retries := 0, unsent := false, answered := s.fax.noteAnswer } }

/-- R135: an answer that comes now answers an earlier frame, which has had its answer: the last frame, which waits for an answer
of the same kind, has not left the pump yet (log 51). -/
abbrev Fax.stale (x : Fax) : Prop := x.unsent = true ∧ x.expect ∈ x.answered

/-- The frame is followed by a check (R134). -/
def FaxFrame.hasCheck : FaxFrame → Bool
  | .set _ _ _ => true
  | _ => false

/-- R134 and R135: the last frame is sent again; a check follows it if it is a SET, once it has left. -/
def State.faxResend (s : State) : State :=
  match s.fax.lastFrame with
  | none => s
  | some f => { s with link.tx := .fax f, fax.checkSending := false }

/-- R186: the code of a resolution. -/
def Resolution.code : Resolution → Nat
  | .normal => 0
  | .fine => 1

/-- R112, R131, R136: the Fax Engine gives the pump a rung and reports it to the CCU. The control frames travel at rung 1
whatever that rung is (R133; log 48). -/
def State.faxRung (s : State) (rung : Nat) : State := { s with pump.rung := some rung }.reportRung rung

/-- R136 and R137: SET with the session's values, and its check. -/
def State.sendSet (s : State) : State :=
  let f := FaxFrame.set (s.fax.rung.getD 0) ((s.fax.resolution.getD .normal).code) s.fax.scanMs
  (s.faxSend f .checkVerdict).faxRung (s.fax.rung.getD 0)

/-- R135: the Fax Engine takes control frames: not while it sends page data or a check. -/
abbrev Fax.listens (x : Fax) : Prop :=
  x.phase.isSome = true ∧ x.checkSending = false ∧ ¬(x.role = some .sender ∧ x.phase = some .page)

/-! ### The start (R112, R132) -/

/-- R132: a receiver sends its CAPS, unless its bounds leave no rung. DESIGN CHOICE (log 50): a call that ends so has no rung in
use in its Call Record. -/
def State.faxSendCaps (s : State) : State :=
  if s.fax.ceiling < s.fax.floor then s.reportEnd .faxTraining else s.faxSend (.caps s.fax.ceiling 3 0) .set

/-- R132: a receiver starts; one that stores its pages first has its entry created. -/
def State.faxStartReceiver (s : State) : State :=
  match s.fax.place with
  | .store =>
    match s.create .faxIn none true with
    | (s, none) => s.reportEnd .storeFull
    | (s, some id) => State.faxSendCaps { s with fax.linkedId := some id, ccu.call.linkedId := some id }
  | _ => s.faxSendCaps

/-- R132: a sender starts and waits for CAPS, unless its bounds leave no rung. DESIGN CHOICE (log 50): as in `faxSendCaps`. -/
def State.faxStartSender (s : State) : State :=
  if s.fax.ceiling < s.fax.floor then s.reportEnd .faxTraining else { s with fax.expect := .caps }.faxWait

/-- R112 and R132: the Fax Engine starts in the role of its record. DESIGN CHOICE (log 50): the pump record's local ceiling and
local floor, which R100 copies for a data call, stay 7 and 0 on a fax call; the settings as read at its start are the fax
bounds. -/
def State.faxStart (s : State) : State :=
  let s : State :=
    { s with
      pump := { Pump.idle with mode := .fax },
      fax := { s.fax with floor := max 2 s.settings.rungFloor, ceiling := min 7 s.settings.rungCeiling } }
  let s := s.faxTo .setup
  if s.fax.role = some .receiver then s.faxStartReceiver else s.faxStartSender

/-! ### Connection of an outgoing call (R3, R56) -/

/-- R3, R49 and R56: T2 is stopped, the line enters CONNECTED, the PROGRESS detectors fall inactive, the DTMF detector starts
from zero and the job's engine starts. -/
def State.connectCall (s : State) : State :=
  let s := s.stopT2
  let s : State := { s with tone.answer := .zero, tone.classifier := .zero, tone.voiceBlocks := 0, tone.dtmf := .zero }
  let s := s.lineTo .connected
  match s.ccu.call.job with
  | .data => s.pumpStart .caller
  | .fax => s.faxStart
  | _ => s

/-- R56: a fax control frame heard in PROGRESS connects an outgoing FAX call, and is then the first frame of F_SETUP. -/
def State.faxHear (s : State) : State :=
  if s.ccu.call.active = true ∧ s.ccu.call.job = .fax ∧ s.ccu.line = .progress then s.connectCall else s

/-! ### The data state on a fax call (R144, R146, R179) -/

/-- R144 and R146: at an entry to F_PAGE with the pages at the System Port, the port enters its data state. -/
def State.faxPortPage (s : State) : State := if s.fax.place = .port then s.requestData else s

/-! ### The receiver (R137, R140, R143) -/

/-- R140 and R143: the receiver enters F_PAGE. -/
def State.faxReceivePage (s : State) : State :=
  let start := if s.fax.place = .store then (s.fax.linkedId.bind s.store.find).map Entry.length else none
  let first := decide (s.fax.page = 0)
  let s : State :=
    { s with
      fax := { s.fax with
               page := if first = true then 1 else s.fax.page, attempts := if first = true then 1 else s.fax.attempts,
               pageStart := start, dataBegun := false, inPair := false, markInQueue := none } }
  (s.faxTo .page).faxPortPage

/-- R143: the page in hand is trimmed off the entry. -/
def State.faxTrimPage (s : State) : State :=
  match s.fax.place, s.fax.linkedId, s.fax.pageStart with
  | .store, some id, some o => s.trim id o
  | _, _, _ => s

/-- R143: the page in hand is entered in the page table. -/
def State.faxEnterPage (s : State) : State :=
  match s.fax.place, s.fax.linkedId, s.fax.pageStart with
  | .store, some id, some o =>
    s.updEntry id (fun e => { e with pageTable := e.pageTable ++ [o], pageCount := e.pageCount + 1 })
  | _, _, _ => s

/-- R140: the page is good. -/
abbrev Fax.pageGood (x : Fax) : Prop := x.overflow = false ∧ 10 * x.badWindows ≤ x.windows

/-- R140: the answer to a good page. -/
def State.faxGoodPage (s : State) (more : Bool) : State :=
  let s : State := { s.faxEnterPage with fax.accepted := bump Config.max16 s.fax.accepted }
  if more = false then (s.faxSend .pageOk .done).faxTo .clearing
  else if s.fax.place = .store ∧ s.fax.page = Config.pagesMax then
    { s with fax.endAfter := some .faxPageLimit }.faxFrame .refuse
  else
    State.faxReceivePage
      { s.faxSend .pageOk .pageData with fax.page := bump Config.max16 s.fax.page, fax.attempts := 1 }

/-- R140: the answer to a bad page. -/
def State.faxBadPage (s : State) : State :=
  let s := s.faxTrimPage
  if s.fax.attempts < 3 then
    ({ s with fax.attempts := s.fax.attempts + 1 }.faxSend .pageBad .set).faxTo .setup
  else { s with fax.endAfter := some .faxPageFailed }.faxFrame .pageBad

/-- R140: a byte of the page goes to its destination; false when no granule can be allocated for it. -/
def State.faxStoreByte (s : State) (b : Byte) : State × Bool :=
  match s.fax.place, s.fax.linkedId with
  | .store, some id => s.appendByte id b
  | _, _ =>
    if s.link.inbound.length < Config.queueMax then
      ({ s with link.inbound := s.link.inbound ++ [b],
                fax.markInQueue :=
                  if s.fax.inPair = true ∧ b = 0x0C#8 then some (s.link.inbound.length + 1) else s.fax.markInQueue },
       true)
    else ({ s with fax.overflow := true }, true)

/-- R140: the page-end mark has been received. -/
def State.faxPageEnded (s : State) : State :=
  let s : State :=
    { s with level := s.level.stopFeed, fax := { s.fax with dataBegun := false, inPair := false, expect := .pageEnd } }
  (s.faxTo .postpage).faxWait

/-- R138 and R140: the marks of the received stream are followed. -/
def State.faxFollowMarks (s : State) (b : Byte) : State :=
  if s.fax.inPair = true then
    let s : State := { s with fax.inPair := false }
    if b = 0x0A#8 then s.loadT2 .faxStall Config.faxWaitMs .none
    else if b = 0x0C#8 then s.faxPageEnded
    else s
  else { s with fax.inPair := decide (b = 0x10#8) }

/-! ### The sender (R139, R145, R146) -/

/-- R145: where a stored page begins. -/
def Entry.pageStartOf (e : Entry) (page : Nat) : Nat := e.pageTable.getD (page - 1) e.length

/-- R145: where a stored page ends. -/
def Entry.pageEndOf (e : Entry) (page : Nat) : Nat := e.pageTable.getD page e.length

/-- R145: the entry that a sender reads. -/
def State.faxOut (s : State) : Option Entry := s.fax.linkedId.bind s.store.find

/-- R139, R145, R146: the sender begins the page from its source. The pump first sends 256 resynchronising symbols at the
rung. DESIGN CHOICE (log 50): the session's field more pages becomes absent here, and holds the decision of FAX NEXT until the
page-end mark has been sent. -/
def State.faxBeginPage (s : State) : State :=
  let s : State :=
    { s with
      link.tx := .resync (s.fax.rung.getD 0),
      fax := { s.fax with inPair := false, lineLength := 0, pageFromPort := false, markOut := false, markSent := false,
                          more := none } }
  match s.fax.place with
  | .port => (s.loadT2 .faxStall Config.faxWaitMs .none).requestData
  | _ =>
    let start := s.faxOut.map (fun e => e.pageStartOf s.fax.page)
    { s with fax := { s.fax with pageStart := start, position := start.getD 0 } }

/-- R137, R139, R145: the sender enters F_PAGE; the first page fixes its source. -/
def State.faxSendPage (s : State) : State :=
  let first := decide (s.fax.page = 0)
  let s : State :=
    { s with
      fax := { s.fax with
               page := if first = true then 1 else s.fax.page,
               attempts := if first = true then 1 else s.fax.attempts } }
  let s := s.faxTo .page
  if s.fax.place = .undecided then
    if s.ccu.call.holder = some .system then State.faxBeginPage { s with fax.place := .port }
    else s.reportEnd .faxPageFailed
  else s.faxBeginPage

/-- R139: PAGE_END with the decision of the page. -/
def State.faxSendPageEnd (s : State) (m : FaxMore) : State :=
  ({ s with fax.more := some m }.faxSend (.pageEnd (m == FaxMore.more)) .pageVerdict).faxTo .postpage

/-- R145: the decision of a page sent from the store. -/
def State.storeDecision (s : State) : FaxMore :=
  if s.fax.page < (s.faxOut.map Entry.pageCount).getD 0 then .more else .last

/-- R139, R145, R146: the page-end mark has been sent: the sender waits for the page's decision, or sends it. -/
def State.faxMarkSent (s : State) : State :=
  let s : State := { s with link.tx := .idleFill, fax.markOut := false, fax.markSent := true }
  match s.fax.place with
  | .port =>
    match s.fax.more with
    | some m => s.faxSendPageEnd m
    | none => s.loadT2 .faxDecision Config.faxWaitMs .none
  | _ => s.faxSendPageEnd s.storeDecision

/-- R139: the minimum line length in bytes at a rung and a scan-line time. -/
def minLineLength (rung ms : Nat) : Nat := ceilDiv (Config.rungRate rung * ms) 8000

/-- R139: the bytes that the source has ready, the next one first; two are enough to see a mark. -/
def State.faxSource (s : State) : List Byte :=
  match s.fax.place with
  | .port => s.link.outbound.take 2
  | _ =>
    match s.faxOut with
    | none => []
    | some e =>
      ((List.range 2).filter (fun k => decide (s.fax.position + k < e.pageEndOf s.fax.page))).map
        (fun k => s.store.entryByte e (s.fax.position + k))

/-- R139: the next byte of the source is taken and sent. -/
def State.faxTakeByte (s : State) (b : Byte) : State :=
  let s : State := { s with link.tx := .byte b, fax.lineLength := s.fax.lineLength + 1 }
  match s.fax.place with
  | .port => State.judgeCts { s with link.outbound := s.link.outbound.drop 1 }
  | _ => { s with fax.position := s.fax.position + 1 }

/-- R139: a line mark has been sent. -/
def State.faxLineSent (s : State) : State :=
  let s : State := { s with fax.lineLength := 0 }
  if s.fax.place = .port then s.loadT2 .faxStall Config.faxWaitMs .none else s

/-- R139: the second byte of a pair is sent; that of the page-end mark is then with the pump. -/
def State.faxSendSecond (s : State) (b : Byte) : State :=
  let s : State := { s.faxTakeByte b with fax.inPair := false }
  if b = 0x0A#8 then s.faxLineSent else if b = 0x0C#8 then { s with fax.markOut := true } else s

/-- R138 and R139: the first byte of a pair, or a byte outside one; fill goes just before a line mark. -/
def State.faxSendFirst (s : State) (b : Byte) (next : Option Byte) : State :=
  if b = 0x10#8 then
    match next with
    | none => if s.fax.place = .port then { s with link.tx := .idleFill } else { s.faxTakeByte b with fax.inPair := true }
    | some c =>
      if c = 0x0A#8 ∧ s.fax.lineLength + 2 < minLineLength (s.fax.rung.getD 0) s.fax.scanMs then
        { s with link.tx := .byte 0#8, fax.lineLength := s.fax.lineLength + 1 }
      else { s.faxTakeByte b with fax.inPair := true }
  else s.faxTakeByte b

/-- R139: the sender gives the pump its next page byte, fill, or idle fill when no page byte is ready. Once the pump has sent
the last byte of the page-end mark, the mark has been sent. -/
def State.faxSendByte (s : State) : State :=
  if s.fax.markOut = true then s.faxMarkSent else
  match s.faxSource with
  | [] => if s.fax.place = .port then { s with link.tx := .idleFill } else s.faxMarkSent
  | b :: rest => if s.fax.inPair = true then s.faxSendSecond b else s.faxSendFirst b rest.head?

/-! ### The computer's page bytes (R127, R146) -/

/-- R138: whether the last byte of a stream opens a pair, `open` for the byte before it. -/
def pairOpen (o : Bool) : List Byte → Bool
  | [] => o
  | b :: rest => pairOpen (!o && b == 0x10#8) rest

/-- R127: a byte joins the outbound queue, or is dropped and counted as a port overrun. -/
def State.joinOutbound (s : State) (b : Byte) : State × Bool :=
  if s.link.outbound.length < Config.queueMax then
    (State.judgeCts { s with link.outbound := s.link.outbound ++ [b] }, true)
  else ({ s with link.stats.overruns := bump 255 s.link.stats.overruns }, false)

/-- R146: a page byte of the computer; the page-end mark returns the port to its command state. -/
def State.faxPortByte (s : State) (b : Byte) : State :=
  let ends := pairOpen s.fax.inPair s.link.outbound && b == 0x0C#8
  match s.joinOutbound b with
  | (s, true) => if ends = true then State.toCommand { s with fax.pageFromPort := true } else s
  | (s, false) => s

end Sys2Proof.Machine
end

