-- ==== Sys2Proof/Machine/Fax.lean ====
section
/-! DEFINITION. The rows of the Fax Engine (Chapter 8). A control frame heard in PROGRESS first connects the call (R56). -/

namespace Sys2Proof.Machine

/-- The session is that of an active fax call, in a role. -/
abbrev State.faxRole (s : State) (r : FaxRole) : Prop :=
  s.ccu.call.active = true ∧ s.ccu.call.job = .fax ∧ s.fax.role = some r

/-- FAX_INVALID_CONTROL_FRAME (R133, 12.3): a run between two flags that is no valid control frame is discarded uncounted. A
run that is one is no invalid frame: the row of its kind takes it. -/
def execFaxInvalidControlFrame (run : List Byte) (s : State) : Step :=
  finish
    (match judgeFaxRun run with
     | .uncounted | .crcFailure | .otherwiseInvalid => s
     | .valid _ => s)

/-! ### Setup and check (R136, R137) -/

/-- R136: a maximum rung and a scan-line time as the sender reads them. -/
def readScanMs (n : Nat) : Nat := if n = 0 then 0 else if n ≤ 5 then 5 else if n ≤ 10 then 10 else 20

/-- R136: the resolution that a SET of the 2814 carries. -/
def chooseResolution (fine : Bool) (resolutions : Byte) : Resolution :=
  if fine = true ∧ resolutions.getLsbD 1 = true then .fine else .normal

/-- R136: the sender takes the CAPS. -/
def State.takeCaps (s : State) (maxRung resolutions scanMs : Byte) : State :=
  let s := s.faxAnswered
  let rung := min (min 7 maxRung.toNat) s.fax.ceiling
  if rung < s.fax.floor then s.reportEnd .faxTraining
  else
    let s : State :=
      { s with
        fax := { s.fax with
                 rung := some rung, resolution := some (chooseResolution s.settings.faxFine resolutions),
                 scanMs := readScanMs scanMs.toNat } }
    s.sendSet.faxTo .check

/-- CAPS_RECEIVED (R135, R136). -/
def execCapsReceived (maxRung resolutions scanMs : Byte) (s : State) : Step :=
  let s := s.faxHear
  finish
    (if s.faxRole .sender ∧ s.fax.listens then
      if s.fax.phase = some .setup ∧ s.fax.expect = .caps then s.takeCaps maxRung resolutions scanMs
      else if s.fax.phase = some .check then s.faxResend
      else s
    else s)

/-- 12.3: a resolution byte of a SET; none for an invalid one. -/
def resolutionOf (b : Byte) : Option Resolution :=
  if b = 0#8 then some .normal else if b = 1#8 then some .fine else none

/-- R136: the receiver takes a SET, has the pump receive at its rung, and waits for the check with a TRAINING feed. DESIGN
CHOICE (log 50): a rung outside the fax bounds, which the check then fails (R137), stands in the session, the pump and the Call
Record as the SET names it. -/
def State.takeSet (s : State) (rung : Nat) (x : Resolution) (scanMs : Nat) : State :=
  let s := s.faxAnswered
  let s : State :=
    { s with
      fax := { s.fax with rung := some rung, resolution := some x, scanMs := scanMs, checkOverloaded := false },
      level := s.level.startFeed .training }
  (s.faxRung rung).faxTo .check

/-- R135: a SET that the receiver hears is a repeated one: its session stands at F_CHECK or beyond, or the CHECK_FAIL or
PAGE_BAD that answers the SET has yet to leave. -/
def Fax.setAnswered (x : Fax) : Bool :=
  match x.phase with
  | some .check | some .page | some .postpage | some .clearing => true
  | some .setup => decide x.stale
  | none => false

/-- SET_RECEIVED (R135, R136). DESIGN CHOICE (log 50): the check that follows a repeated SET is one more part of the check in
hand: the TRAINING feed and the note of an overloaded window go on. -/
def execSetReceived (rung resolution scanMs : Byte) (s : State) : Step :=
  match resolutionOf resolution with
  | none => finish s
  | some x =>
    let s := s.faxHear
    finish
      (if s.faxRole .receiver ∧ s.fax.listens then
        if s.fax.phase = some .setup ∧ ¬ s.fax.stale then s.takeSet rung.toNat x scanMs.toNat
        else if s.fax.setAnswered = true then s.faxResend
        else s
      else s)

/-- FAX_CHECK_SENT (R137): the sender's check data has gone. -/
def execFaxCheckSent (s : State) : Step :=
  finish
    (if s.fax.checkSending = true then { s with fax.checkSending := false, link.tx := .idleFill } else s)

/-- R137: the check passes. -/
abbrev State.checkPasses (s : State) : Prop :=
  s.fax.floor ≤ s.fax.rung.getD 0 ∧ s.fax.rung.getD 0 ≤ s.fax.ceiling ∧
    s.fall (s.fax.rung.getD 0) + s.settings.faxMargin ≤ s.level.average.getD 0 ∧ s.fax.checkOverloaded = false

/-- FAX_CHECK_END (R137): the symbols of the check have been received. A window that is full counts as one of the check,
reported or not (R93). -/
def execFaxCheckEnd (s : State) : Step :=
  finish
    (if s.faxRole .receiver ∧ s.fax.phase = some .check then
      let s : State :=
        { s with
          fax.checkOverloaded := s.fax.checkOverloaded || (s.level.windowFull && s.level.window.saturated),
          level := s.level.endTraining }
      if s.checkPasses then (s.faxSend .checkOk .pageData).faxReceivePage
      else (s.faxSend .checkFail .set).faxTo .setup
    else s)

/-- R134, R135: the sender waits for the judgment of its check. -/
abbrev State.awaitsCheck (s : State) : Prop :=
  s.faxRole .sender ∧ s.fax.listens ∧ s.fax.phase = some .check ∧ ¬ s.fax.stale

/-- CHECK_OK_RECEIVED (R135, R137). -/
def execCheckOkReceived (s : State) : Step :=
  let s := s.faxHear
  finish
    (if s.awaitsCheck then s.faxAnswered.faxSendPage else s)

/-- R137: the sender steps down after a failed check. -/
def State.checkStepDown (s : State) : State :=
  let rung := s.fax.rung.getD 0 - 1
  if rung < s.fax.floor then s.reportEnd .faxTraining else { s with fax.rung := some rung }.sendSet

/-- CHECK_FAIL_RECEIVED (R135, R137). -/
def execCheckFailReceived (s : State) : Step :=
  let s := s.faxHear
  finish
    (if s.awaitsCheck then s.faxAnswered.checkStepDown else s)

/-! ### Page data (R139, R140) -/

/-- PAGE_DATA_START (R140). -/
def execPageDataStart (s : State) : Step :=
  finish
    (if s.faxRole .receiver ∧ s.fax.phase = some .page ∧ s.fax.dataBegun = false then
      let s := s.faxAnswered
      let s : State :=
        { s with
          fax := { s.fax with windows := 0, badWindows := 0, overflow := false, dataBegun := true },
          level := s.level.startFeed .tracking }
      s.loadT2 .faxStall Config.faxWaitMs .none
    else s)

/-- FAX_PAGE_BYTE_RECEIVED (R138, R140, R143, R144). -/
def execFaxPageByteReceived (b : Byte) (s : State) : Step :=
  finish
    (if s.faxRole .receiver ∧ s.fax.phase = some .page ∧ s.fax.dataBegun = true then
      match s.faxStoreByte b with
      | (s, true) => s.faxFollowMarks b
      | (s, false) => s.faxTrimPage.reportEnd .storeFull
    else s)

/-- FAX_PAGE_BYTE_SENT (R139). -/
def execFaxPageByteSent (s : State) : Step :=
  finish
    (if s.faxRole .sender ∧ s.fax.phase = some .page ∧ s.fax.markSent = false then s.faxSendByte else s)

/-- FAX_PAGE_STALL_EXPIRY (R139, R140). -/
def execFaxPageStallExpiry (s : State) : Step :=
  finish
    (match s.takeT2 .faxStall with
     | some s => if s.fax.phase = some .page then s.reportEnd .faxPageFailed else s
     | none => s)

/-- FAX_NEXT_DECISION_EXPIRY (R146). -/
def execFaxNextDecisionExpiry (s : State) : Step :=
  finish
    (match s.takeT2 .faxDecision with
     | some s => if s.fax.phase = some .page then s.reportEnd .faxPageFailed else s
     | none => s)

/-- R134: at an expiry the last frame is sent again; a receiver that waits for PAGE_END and a sender that waits for CAPS send
nothing. -/
def State.faxRepeat (s : State) : State :=
  match s.fax.expect with
  | .pageEnd | .caps => s
  | _ => s.faxResend

/-- FAX_CONTROL_REPLY_EXPIRY (R134, R140, R142). -/
def execFaxControlReplyExpiry (s : State) : Step :=
  finish
    (match s.takeT2 .faxReply with
     | none => s
     | some s =>
       if s.fax.retries < 3 then
         ({ s.faxRepeat with fax.retries := s.fax.retries + 1, fax.unsent := false } : State).faxWait
       else s.reportEnd (if s.fax.expect = .done then .normal else .faxPageFailed))

/-! ### Verdicts (R140, R141, R142) -/

/-- R135: the receiver has judged the page of a repeated PAGE_END: its verdict is the last frame, and the data of another page
has not begun. DESIGN CHOICE (log 50): where a later CHECK_OK, CHECK_FAIL or DONE has become the last frame, the last frame is
no longer the verdict already given, and the PAGE_END is ignored. -/
def Fax.pageJudged (x : Fax) : Bool :=
  !x.dataBegun && (x.lastFrame == some .pageOk || x.lastFrame == some .pageBad || x.lastFrame == some .refuse)

/-- R140: the receiver judges the page in hand. -/
def State.judgePage (s : State) (more : Bool) : State :=
  let s := s.faxAnswered
  let s := if s.fax.pageGood then s.faxGoodPage more else s.faxBadPage
  s.raiseHolder .faxPage

/-- PAGE_END_RECEIVED (R135, R140). -/
def execPageEndReceived (more : Byte) (s : State) : Step :=
  match flagOf more with
  | none => finish s
  | some m =>
    let s := s.faxHear
    finish
      (if s.faxRole .receiver ∧ s.fax.listens then
        if s.fax.phase = some .postpage ∧ s.fax.expect = .pageEnd then s.judgePage m
        else if s.fax.pageJudged = true then s.faxResend
        else s
      else s)

/-- R134, R135: the sender waits for the receiver's verdict on its page. -/
abbrev State.awaitsVerdict (s : State) : Prop :=
  s.faxRole .sender ∧ s.fax.phase = some .postpage ∧ s.fax.expect = .pageVerdict ∧ ¬ s.fax.stale

/-- R141: the sender's page has been accepted. -/
def State.pageAccepted (s : State) : State :=
  { s.faxAnswered with fax.accepted := bump Config.max16 s.fax.accepted }.raiseHolder .faxPage

/-- PAGE_OK_RECEIVED (R141). -/
def execPageOkReceived (s : State) : Step :=
  let s := s.faxHear
  finish
    (if s.awaitsVerdict then
      let s := s.pageAccepted
      if s.fax.more = some .more then
        State.faxSendPage { s with fax.page := bump Config.max16 s.fax.page, fax.attempts := 1 }
      else (s.faxSend .done .done).faxTo .clearing
    else s)

/-- R141: the sender steps down, or stays at the fax floor, and checks again. DESIGN CHOICE (log 50): that SET carries the
resolution of the session's earlier ones, as R137 has it after CHECK_FAIL. -/
def State.resendPage (s : State) : State :=
  let rung := s.fax.rung.getD 0
  let s : State :=
    { s with
      fax := { s.fax with
               attempts := s.fax.attempts + 1, rung := some (if s.fax.floor < rung then rung - 1 else rung) } }
  s.sendSet.faxTo .check

/-- PAGE_BAD_RECEIVED (R141). -/
def execPageBadReceived (s : State) : Step :=
  let s := s.faxHear
  finish
    (if s.awaitsVerdict then
      let s := s.faxAnswered.raiseHolder .faxPage
      if 3 ≤ s.fax.attempts then s.reportEnd .faxPageFailed else s.resendPage
    else s)

/-- REFUSE_RECEIVED (R141). -/
def execRefuseReceived (s : State) : Step :=
  let s := s.faxHear
  finish (if s.awaitsVerdict then s.pageAccepted.reportEnd .faxPageLimit else s)

/-- DONE_RECEIVED (R142). -/
def execDoneReceived (s : State) : Step :=
  let s := s.faxHear
  finish
    (if s.fax.phase = some .clearing ∧ s.fax.expect = .done then
      if s.faxRole .sender then s.faxAnswered.reportEnd .normal
      else if s.faxRole .receiver then { s.faxAnswered with fax.endAfter := some .normal }.faxFrame .done
      else s
    else s)

/-- The transmitter after a control frame has left the pump: a SET is followed by its check (R137). -/
def afterFrame : FaxFrame → Transmission
  | .set rung _ _ => .check rung
  | _ => .idleFill

/-- FAX_CONTROL_FRAME_SENT (R137, R140, R142): the check of a SET begins; a final REFUSE, PAGE_BAD or DONE ends the call. -/
def execFaxControlFrameSent (s : State) : Step :=
  finish
    (match s.link.tx with
     | .fax f =>
       let s : State := { s with link.tx := afterFrame f, fax.checkSending := f.hasCheck, fax.unsent := false }
       match s.fax.endAfter with
       | some c => s.reportEnd c
       | none => s
     | _ => s)

/-! ### FAX NEXT (R145, R146) -/

/-- R146: MORE 0 and LAST 1; FROM_STORE is the other row. -/
def moreOf (b : Byte) : Option FaxMore := if b = 0#8 then some .more else if b = 1#8 then some .last else none

/-- An outgoing FAX call is active. -/
abbrev State.outgoingFax (s : State) : Prop :=
  s.ccu.call.active = true ∧ s.ccu.call.direction = .outgoing ∧ s.ccu.call.job = .fax

/-- R146: the moment at which a decision is taken. -/
abbrev Fax.awaitsDecision (x : Fax) : Prop := x.place = .port ∧ x.phase = some .page ∧ x.pageFromPort = true

/-- R146: FAX NEXT with MORE or LAST. DESIGN CHOICE (log 50): of two decisions before the page-end mark has been sent the later
stands. -/
def takeFaxNext (p : Port) (choice : Byte) (s : State) : State × Reply :=
  match moreOf choice with
  | none => refuse s .badParameter
  | some m =>
    if ¬ s.outgoingFax then refuse s .wrongPhase
    else if s.holder ≠ some p.party then refuse s .notHolder
    else if ¬ s.fax.awaitsDecision then refuse s .wrongPhase
    else
      ((if s.fax.markSent = true then s.stopT2.faxSendPageEnd m else { s with fax.more := some m }), .plain .ok)

/-- FAX NEXT with MORE or LAST (R146). -/
def execFaxNext (f : Frame) (choice : Byte) (s : State) : Step := command f 0x60#8 s (takeFaxNext f.port choice)

/-- R145: the checks of the entry. -/
def takeFaxEntry (id : Nat) (s : State) : State × Reply :=
  match s.store.visible id with
  | none => refuse s .noSuchMessage
  | some e =>
    if e.state = .opened then refuse s .msgOpen
    else if e.kind ≠ .faxOut ∨ e.pageCount = 0 then refuse s .badParameter
    else ({ s.hold id with fax.place := .store, fax.linkedId := some id }, .plain .ok)

/-- R145: FAX NEXT with FROM_STORE. -/
def takeFaxFromStore (p : Port) (id : Byte) (s : State) : State × Reply :=
  if ¬ s.outgoingFax then refuse s .wrongPhase
  else if s.holder ≠ some p.party then refuse s .notHolder
  else if s.fax.place ≠ .undecided then refuse s .wrongPhase
  else takeFaxEntry id.toNat s

/-- FAX NEXT with FROM_STORE (R145). -/
def execFaxNextFromStore (f : Frame) (id : Byte) (s : State) : Step := command f 0x60#8 s (takeFaxFromStore f.port id)

end Sys2Proof.Machine
end

