-- ==== Sys2Proof/Machine/AnswerOps.lean ====
section
/-! DEFINITION. The automatic answerer's shared operations: the settlement of caller data (R72), the taking of an answer
(R4), discrimination (R76 to R82) and the remote session (R159 to R161). -/

namespace Sys2Proof.Machine

/-! ### Settlement (R72) -/

/-- R71 and R72: an outcome with no number and no name ends the capture. -/
def CallerBuffer.endWith (c : CallerBuffer) (x : CallerStatus) : CallerBuffer :=
  { c with state := .ended, status := x, number := none, name := none, windowOpen := false }

/-- R72: the capture is settled; `middle` at the close of a window by a qualified burst of the first cycle. -/
def State.settleCapture (s : State) (middle : Bool) : State :=
  match s.rau.caller.state with
  | .receiving => { s with rau.caller := s.rau.caller.endWith .corrupt }.raiseBoth .callerId
  | .listening =>
    if middle = true then { s with rau.caller.windowOpen := false }
    else { s with rau.caller := s.rau.caller.endWith .none }
  | .ended => { s with rau.caller.windowOpen := false }

/-! ### Handoffs of the tone detectors (R49) -/

/-- R49: the detectors of a discrimination fall inactive; `digits` says that the DTMF detector does too. -/
def State.dropCallDetectors (s : State) (digits : Bool) : State :=
  { s with
    tone := { s.tone with faxCall := .zero, dataCall := .zero, dtmf := if digits = true then .zero else s.tone.dtmf } }

/-! ### The branches (R81, R82) -/

/-- R81 and R82: the automatic answerer's call becomes a call of a holder with a job. -/
def State.handOver (s : State) (holder : Party) (job : Job) : State :=
  let s : State := { s.dropAuto with rau.discr := none, ccu.call.holder := some holder, ccu.call.job := job }
  let s := s.dropCallDetectors true
  if holder = .auto then s else s.raiseBoth .callState

/-- R81: the call becomes a fax receive of a holder. -/
def State.faxHandOver (s : State) (holder : Party) : State :=
  let s := s.handOver holder .fax
  State.faxStart { s with fax := faxSetup .incoming holder .fax }

/-- R81: the FAX branch. -/
def State.faxBranch (s : State) : State :=
  let s := s.cancelAuto
  if s.settings.faxToStore = false ∧ s.sys.ready = true then s.faxHandOver .system
  else if s.storeHasRoom = true then s.faxHandOver .auto
  else s.reportEnd .storeFull

/-- R82: the DATA branch. -/
def State.dataBranch (s : State) : State :=
  let s := s.cancelAuto
  if s.sys.ready = true then (s.handOver .system .data).pumpStart .answerer else s.reportEnd .noDataHandler

/-! ### Discrimination (R76 to R79) -/

/-- R76: the record in a phase; only in GREETING does it name a greeting. -/
def Discrimination.inPhase (d : Discrimination) (p : DiscrPhase) : Discrimination :=
  { d with phase := p, greeting := if p = .greeting then d.greeting else none }

/-- R76: a phase of the discrimination is entered and reported. -/
def State.discrTo (s : State) (p : DiscrPhase) : State :=
  State.reportPhase { s with rau.discr := s.rau.discr.map (fun d => d.inPhase p) } (.discr p)

/-- R76: the heard count. -/
def State.heard (s : State) : Nat := (s.rau.discr.map Discrimination.heard).getD 0

/-- R77: the end of GREETING. -/
def State.greetingEnd (s : State) : State :=
  if s.storeHasRoom = true then (s.discrTo .beep).startBeep
  else if s.heard = 0 ∧ s.settings.quietHangsUp = false then s.faxBranch
  else s.reportEnd .storeFull

/-- R77: the greeting that a pattern's call plays. -/
def Store.greetingFor (t : Store) (pattern : Nat) : Option Nat :=
  (t.greeting pattern <|> t.greeting 0).map Entry.id

/-- R76, R77 and R158: the discrimination starts in GREETING. DESIGN CHOICE (log 50): the preemption comes first, so that a
greeting that it completes is among those to choose from. -/
def State.startGreeting (s : State) : State :=
  let s := s.preempt.autoChannel
  let g := s.store.greetingFor s.rau.episode.pattern
  let s : State :=
    { s with
      rau.discr := some { phase := .greeting, greeting := g, heard := 0, code := [], codeDigits := 0, wrong := 0 } }
  let s := s.discrTo .greeting
  match g with
  | some id => s.startPlay .auto id 0 .line false
  | none => s.greetingEnd

/-- R79: the RAU's decision at the end of the recording. -/
def State.recordingDecision (s : State) (kept : Bool) : State :=
  if s.heard = 0 then
    if s.settings.quietHangsUp = false then s.faxBranch else s.reportEnd .noMessage
  else s.reportEnd (if kept = true then .messageLeft else .noMessage)

/-- R79: the RECORDING phase begins. -/
def State.startRecording (s : State) : State :=
  match (s.discrTo .recording).startRecord .auto .voiceMsg none .line true s.settings.maxMessageS with
  | (s, true) => s
  | (s, false) => s.autoChannel.recordingDecision false

/-- R79 and R158: a recording ends for a reason; an automatic one is followed by the RAU's decision. -/
def State.recordingOver (s : State) (r : VoiceReason) : State :=
  let auto := s.voice.op.user == some .auto
  let k := s.endVoice r
  if auto = true then k.1.autoChannel.recordingDecision k.2 else k.1

/-! ### The remote session (R80, R159 to R161) -/

/-- R159: a message of the session's lists that may still be played: a live COMPLETE entry has its id. DESIGN CHOICE
(log 50): the lists hold ids, so an entry of any kind to which R165 has given the id of a removed one is played in its
place. -/
def Store.playable (t : Store) (id : Nat) : Bool :=
  match t.find id with
  | some e => e.state == .complete
  | none => false

/-- R159 and R160: the COMPLETE VOICE_MSG entries in creation order; with `newOnly` those with NEW. -/
def Store.voiceMessages (t : Store) (newOnly : Bool) : List Nat :=
  (t.dir.filter (fun e => e.kind == .voiceMsg && e.state == .complete && (e.isNew || !newOnly))).map Entry.id

/-- R159: the index at or after `i` of the next entry of the list that may be played. -/
def nextPlayable (t : Store) (list : List Nat) (i : Nat) : Option (Nat × Nat) :=
  ((list.zipIdx).drop i).find? (fun x => t.playable x.1)

/-- R159: the session sounds a prompt beep in PROMPTING. -/
def State.remotePrompt (s : State) (r : Remote) : State :=
  State.startBeep { s.stopT2 with voice.remote := some { r with state := .prompting, cursor := none } }

/-- R159: the session plays the next entry of its list from index `i` on, or prompts. -/
def State.remotePlay (s : State) (r : Remote) (i : Nat) : State :=
  match nextPlayable s.store r.list i with
  | some (id, k) =>
    State.startPlay { s.stopT2 with voice.remote := some { r with state := .playing, cursor := some k } } .auto id 0
      .line false
  | none => s.remotePrompt r

/-- R159: the session starts. -/
def State.remoteStart (s : State) : State :=
  let new := s.store.voiceMessages true
  s.remotePrompt { state := .prompting, newList := new, inUse := some .new, list := new, cursor := none, prompts := 0 }

/-- R80: the code matches and the job becomes REMOTE. -/
def State.becomeRemote (s : State) : State :=
  let s := s.cancelAuto
  let s : State := { s with rau.discr := none, ccu.call.job := .remote }
  ((s.dropCallDetectors false).reportPhase .session).remoteStart

/-- R80: the code buffer takes a digit. -/
def Discrimination.join (d : Discrimination) (x : Symbol) : Discrimination :=
  { d with code := (d.code ++ [x]).drop (d.code.length - 3), codeDigits := bump Config.max16 d.codeDigits }

/-- R80: the buffer equals `remote_code`. -/
def codeMatches (code : Option (List Nat)) (buffer : List Symbol) : Bool :=
  match code with
  | some c => c == buffer.map Fin.val
  | none => false

/-- R80: a digit routed to the code buffer. -/
def State.codeDigit (s : State) (x : Symbol) : State :=
  match s.rau.discr with
  | none => s
  | some d =>
    if s.settings.remoteEnable = false then s
    else
      let d := d.join x
      let s : State := { s with rau.discr := some d }
      if d.code.length < 4 then s
      else if codeMatches s.settings.remoteCode d.code = true then s.becomeRemote
      else if d.codeDigits % 4 = 0 then
        let s : State := { s with rau.discr := some { d with wrong := d.wrong + 1 } }
        if 3 ≤ d.wrong + 1 then s.reportEnd .remoteDenied else s
      else s

/-- R160: a digit takes a list and plays it from its first entry. -/
def State.remoteList (s : State) (r : Remote) (use : ListInUse) (list : List Nat) : State :=
  s.cancelAuto.remotePlay { r with inUse := some use, list := list, prompts := 0 } 0

/-- R160: digit 3 or 7 goes on with the entry after the cursor. -/
def State.remoteNext (s : State) (r : Remote) : State :=
  s.cancelAuto.remotePlay { r with prompts := 0 } (r.cursor.getD 0 + 1)

/-- R160: digit 4 plays the message in hand again from offset 0, under the hold that it has. -/
def State.remoteAgain (s : State) (r : Remote) : State :=
  { s with
    voice.op := { VoiceOp.start .playing .auto .play .line with message := s.voice.op.message },
    voice.remote := some { r with prompts := 0 } }

/-- R160: digit 7 deletes the message in hand. -/
def State.remoteDelete (s : State) (r : Remote) : State :=
  match s.voice.op.message with
  | some id => (s.deleteRule id).1.remoteNext r
  | none => s.remoteNext r

/-- R160: a digit routed to the session. -/
def State.remoteDigit (s : State) (x : Symbol) : State :=
  match s.voice.remote with
  | none => s
  | some r =>
    match x.val with
    | 1 => s.remoteList r .new r.newList
    | 2 => s.remoteList r .all (s.store.voiceMessages false)
    | 3 => if r.state = .playing then s.remoteNext r else s
    | 4 => if r.state = .playing then s.remoteAgain r else s
    | 7 => if r.state = .playing then s.remoteDelete r else s
    | 9 => s.reportEnd .normal
    | _ => s

/-- R159: the session enters WAITING and its inactivity period is loaded. -/
def State.remoteWait (s : State) (r : Remote) : State :=
  State.loadT2 { s with voice.remote := some { r with state := .waiting } } .inactivity Config.inactivityMs (.compare 2)

/-! ### The taking of an answer (R4, R68) -/

/-- R17: the Call Record of an answered call, with the episode's fields. DESIGN CHOICE (log 50): a call answered before the
first cycle has ended takes the episode's pattern as it stands, 0. -/
def answerRecord (e : Episode) (c : CallerBuffer) (holder : Party) (job : Job) : CallRecord :=
  { CallRecord.reset with
    direction := .incoming, holder := some holder, job := job, callerStatus := some c.status,
    callerNumber := c.number, callerName := c.name, ringPattern := some e.pattern, ringCount := some e.ringCount }

/-- R4: the job of an answered call starts. -/
def State.startJob (s : State) (job : Job) : State :=
  match job with
  | .data => s.pumpStart .answerer
  | .fax => s.faxStart
  | .discriminate => s.startGreeting
  | _ => s

/-- R4 and R68: an answer is taken. -/
def State.answerTaken (s : State) (holder : Party) (job : Job) : State :=
  let s := s.settleCapture false
  let s := (s.activate (answerRecord s.rau.episode s.rau.caller holder job) false).closeRelay
  let s : State := { s with rau.episode.active := false }
  (s.lineTo .connected).startJob job

end Sys2Proof.Machine
end

