-- ==== Sys2Proof/Machine/Answer.lean ====
section
/-! DEFINITION. The rows of the Voice Engine's and the automatic answerer's events (Chapters 4 and 9). -/

namespace Sys2Proof.Machine

/-- A tone of the automatic answerer is sounding. -/
abbrev VoiceOp.autoTone (o : VoiceOp) : Prop :=
  o.state = .playing ∧ o.operation = some .tone ∧ o.user = some .auto

/-- AUTO_BEEP_END (R78): the 25th block of the beep ends and RECORDING begins. -/
def execAutoBeepEnd (s : State) : Step :=
  finish
    (if s.voice.op.autoTone ∧ s.rau.discr.map Discrimination.phase = some .beep then
      (s.endVoice .ended).1.autoChannel.startRecording
    else s)

/-- PROMPT_BEEP_END (R159): a beep of the remote session ends; after one of PROMPTING the session waits. -/
def execPromptBeepEnd (s : State) : Step :=
  finish
    (match s.voice.remote with
     | none => s
     | some r =>
       if s.voice.op.autoTone then
         let s := (s.endVoice .ended).1.autoChannel
         if r.state = .prompting then s.remoteWait r else s
       else s)

/-- R154: the play in hand reaches the end of its entry. -/
def State.playToEnd (s : State) : State :=
  match s.voice.op.message with
  | none => s
  | some id =>
    { s.clearNew id with
      voice.op.offset := max s.voice.op.offset (((s.store.find id).map Entry.length).getD s.voice.op.offset) }

/-- R77, R154, R159: a play of the automatic answerer has ended. -/
def State.autoPlayEnded (s : State) : State :=
  match s.rau.discr, s.voice.remote with
  | some _, _ => s.greetingEnd
  | none, some r => s.remotePlay r (r.cursor.getD 0 + 1)
  | none, none => s

/-- PLAY_END (R154): the last code byte of a play has been played. -/
def execPlayEnd (s : State) : Step :=
  finish
    (if s.voice.op.state = .playing ∧ s.voice.op.operation = some .play then
      let user := s.voice.op.user
      let s := (s.playToEnd.endVoice .ended).1
      if user = some .auto then s.autoChannel.autoPlayEnded else s
    else s)

/-- VOX_EXPIRY (R156): T6 fires and the recording ends. -/
def execVoxExpiry (s : State) : Step :=
  finish
    (match s.timers.e6.takeA 6 with
     | none => s
     | some c =>
       let s : State := { s with timers.e6 := c }
       if s.voice.op.state = .recording ∧ s.voice.op.vox = true then s.recordingOver .vox else s)

/-- MAX_LENGTH_REACHED (R156). -/
def execMaxLengthReached (s : State) : Step :=
  finish
    (if s.voice.op.state = .recording ∧ s.voice.op.maxCode ≤ s.voice.op.written then s.recordingOver .maxLength
     else s)

/-- R156: the granules of the recording in hand are full, and more code bytes are to come. -/
def State.recordingFull (s : State) : Bool :=
  match s.voice.op.message.bind s.store.find with
  | some e =>
    decide (s.voice.op.written = Config.granuleCodes * e.granules.length) &&
      decide (s.voice.op.written < s.voice.op.maxCode)
  | none => false

/-- RECORDING_GRANULE_NEEDED (R151, R156, R164): a granule for the next code byte, or the end of the recording. -/
def execRecordingGranuleNeeded (s : State) : Step :=
  finish
    (if s.voice.op.state = .recording ∧ s.recordingFull = true then
      match s.allocate (s.voice.op.message.getD 0) with
      | (s, true) => s.flushRecording
      | (s, false) => s.recordingOver .storeFull
    else s)

/-- REMOTE_INACTIVITY_EXPIRY (R161). -/
def execRemoteInactivityExpiry (s : State) : Step :=
  finish
    (match s.takeT2 .inactivity with
     | none => s
     | some s =>
       match s.voice.remote with
       | none => s
       | some r =>
         if r.state ≠ .waiting then s
         else if 3 ≤ r.prompts then s.reportEnd .normal
         else State.startBeep { s with voice.remote := some { r with prompts := r.prompts + 1 } })

end Sys2Proof.Machine
end

