-- ==== Sys2Proof/Machine/Ring.lean ====
section
/-! DEFINITION. Ringing (Chapter 4): presences and bursts on T1, the deadline list, cycles and episodes, caller data, and the
answer policy. -/

namespace Sys2Proof.Machine

/-! ### The deadline list (R63) -/

/-- R63: the due counts in the list. -/
def Deadlines.dues (d : Deadlines) : List Nat :=
  [d.qualify, d.windowOpen, d.cycleEnd, d.windowClose, d.episodeEnd].filterMap id

/-- R63: how far a due count lies ahead of a count. -/
def ahead (count due : Nat) : Nat := (due + 65536 - count) % 65536

/-- R63: the due count nearest ahead. -/
def nearestDue (count : Nat) : List Nat → Option Nat
  | [] => none
  | d :: rest =>
    match nearestDue count rest with
    | none => some d
    | some e => if ahead count d ≤ ahead count e then some d else some e

/-- R63: the list changes and compare A is written with the nearest due count, or with the count when the list is empty. -/
def State.setDeadlines (s : State) (d : Deadlines) : State :=
  { s with
    rau.deadlines := d,
    timers.e1 := s.timers.e1.writeA ((nearestDue s.timers.e1.count d.dues).getD s.timers.e1.count) }

/-- R30 and R63: a due count that lies `ms` ahead; one that works out as 0 is written as 1. -/
def State.dueIn (s : State) (ms : Nat) : Nat := compareClamp ((s.timers.e1.count + ms) % 65536)

/-- R30 and R63: a deadline lies at most 8000 ms ahead, or 8001 where its due count works out as 0. -/
abbrev deadlineSpan : Nat := 8001

/-- A channel in CAPTURE stands at a due count that lies ahead of it. -/
def Channel.reach (c : Channel) (due : Nat) : Channel :=
  { c with count := if ahead c.count due ≤ deadlineSpan then due else c.count, signalA := false }

/-- A deadline falls due: T1 stands at its due count (log 1). -/
def State.reachDue (s : State) (due : Nat) : State := { s with timers.e1 := s.timers.e1.reach due }

/-- R64: the presence in hand started before a due count, so that the deadline falls due within it. -/
abbrev State.startedBefore (s : State) (due : Nat) : Prop :=
  0 < ahead s.timers.e1.captured due ∧ ahead s.timers.e1.captured due ≤ deadlineSpan

/-- T1 runs in CAPTURE for the RAU (R62). -/
abbrev State.t1Runs (s : State) : Prop := s.timers.e1.mode = .capture

/-! ### The answer policy (R73 to R75) -/

/-- R74: an entry counts toward the toll saver. -/
def Entry.unheard (e : Entry) : Bool := e.state == .complete && e.isNew && (e.kind == .voiceMsg || e.kind == .faxIn)

/-- R74: the threshold. -/
def State.threshold (s : State) : Nat :=
  if s.settings.tollSaver = true ∧ s.store.dir.any Entry.unheard = true then s.settings.tollSaverRings
  else s.settings.ringsToAnswer.get s.rau.episode.pattern

/-- R74 and R75: the call may be answered automatically. -/
abbrev State.mayAnswer (s : State) : Prop :=
  s.ccu.line = .ringing ∧ s.lif.lineInUse = false ∧ s.power.low = false

/-- R75: a due answer is carried out by the pattern's action. -/
def State.policyAnswer (s : State) (a : AnswerAction) : State :=
  match a with
  | .ignore => s
  | .discriminate => s.answerTaken .auto .discriminate
  | .data => if s.sys.ready = true then s.answerTaken .system .data else s
  | .fax =>
    if s.settings.faxToStore = false ∧ s.sys.ready = true then s.answerTaken .system .fax
    else if s.storeHasRoom = true then s.answerTaken .auto .fax
    else s

/-- R74: the threshold is recorded and a due answer taken. -/
def State.answerDecision (s : State) : State :=
  let t := s.threshold
  let s : State := { s with rau.episode.threshold := some t }
  if t ≤ s.rau.episode.ringCount ∧ s.mayAnswer then
    s.policyAnswer (s.settings.answerAction.get s.rau.episode.pattern)
  else s

/-! ### Cycles and episodes (R66 to R68) -/

/-- R67, step 2: the end of the first cycle. -/
def State.firstCycleEnd (s : State) : State :=
  if s.rau.episode.firstInProgress = true then
    State.setDeadlines
      { s with
        rau.episode := { s.rau.episode with firstInProgress := false, pattern := min 3 s.rau.episode.firstBursts } }
      { s.rau.deadlines with windowClose := some (s.dueIn Config.windowCloseMs), windowOpen := none }
  else s

/-- R67: a cycle ends, in its order of steps. -/
def State.cycleEnds (s : State) : State :=
  if s.rau.episode.active = true then
    let s : State :=
      { s with
        rau.episode := { s.rau.episode with inCycle := false, ringCount := bump Config.max16 s.rau.episode.ringCount } }
    (s.firstCycleEnd.raiseBoth .ring).answerDecision
  else s

/-- R19: the history entry of an unanswered episode. -/
def unansweredEntry (number : Nat) (e : Episode) (c : CallerBuffer) : HistoryEntry :=
  { number := number, direction := .incoming, callerStatus := some c.status, callerNumber := c.number,
    callerName := c.name, outcome := .unanswered, linkedId := none, startTime := e.startTime, seconds := e.seconds }

/-- R6, R19, R68: the episode ends unanswered. -/
def State.episodeEnds (s : State) : State :=
  if s.rau.episode.active = true then
    let s := s.settleCapture false
    let s : State :=
      { s with
        ccu.lastNumber := s.nextNumber,
        ccu.history := addHistory s.ccu.history (unansweredEntry s.nextNumber s.rau.episode s.rau.caller),
        rau.episode.active := false }
    let s := s.setDeadlines .empty
    if s.ccu.line = .ringing then s.lineFree else s
  else s

/-- R70: a fresh capture. -/
def CallerBuffer.fresh : CallerBuffer :=
  { state := .listening, bytes := [], length := none, status := .none, number := none, name := none,
    windowOpen := false }

/-- R66: an episode starts. -/
def State.episodeStart (s : State) : State :=
  let s : State :=
    { s with
      rau.episode :=
        { active := true, firstInProgress := true, inCycle := true, firstBursts := 1, pattern := 0, ringCount := 0,
          startTime := s.calendar.time, seconds := 0, threshold := s.rau.episode.threshold },
      rau.caller := .fresh }
  if s.ccu.line = .idle then s.lineTo .ringing else s

/-- R66: a burst qualified in an episode continues it. -/
def Episode.burst (e : Episode) : Episode :=
  { e with inCycle := true, firstBursts := if e.firstInProgress = true then bump 255 e.firstBursts else e.firstBursts }

/-- R69 and R72: an open window closes at a qualified burst. -/
def State.closeWindowAtBurst (s : State) : State :=
  if s.rau.caller.windowOpen = true then s.settleCapture s.rau.episode.firstInProgress else s

/-- R66: what a qualified burst does to the episode. -/
def State.burstQualified (s : State) : State :=
  if s.rau.episode.active = true then
    let s := s.closeWindowAtBurst
    { s with rau.episode := s.rau.episode.burst }
  else if s.power.low = true then s
  else s.episodeStart

/-! ### Presences (R62, R64) -/

/-- R64: a presence starts. -/
def State.presenceStart (s : State) : State :=
  if s.t1Runs then
    let s : State := { s with timers.e1 := s.timers.e1.capture .asserted, rau.presence := .pending }
    s.setDeadlines { s.rau.deadlines with qualify := some (s.dueIn Config.qualifyMs) }
  else s

/-- RING_DETECTOR_EDGE (R62). -/
def execRingDetectorEdge (s : State) : Step :=
  finish
    (let s1 : State := { s with lif.ringPresent := true, lif.hangover := 0 }
     if s.lif.ringPresent = true then s1 else s1.presenceStart)

/-- R64: a pending presence is discarded, and a held deadline is taken at once. -/
def State.presenceDiscarded (s : State) : State :=
  let d := s.rau.deadlines
  let s := s.setDeadlines { d with qualify := none, heldCycleEnd := false, heldEpisodeEnd := false }
  let s := if d.heldCycleEnd = true then s.cycleEnds else s
  if d.heldEpisodeEnd = true then s.episodeEnds else s

/-- R64: a burst ends. -/
def State.burstEnd (s : State) : State :=
  s.setDeadlines
    { s.rau.deadlines with
      cycleEnd := some (s.dueIn Config.cycleEndMs), episodeEnd := some (s.dueIn Config.episodeEndMs),
      windowOpen :=
        if s.rau.episode.active = true ∧ s.rau.episode.firstInProgress = true then some (s.dueIn Config.qualifyMs)
        else s.rau.deadlines.windowOpen }

/-- R62, R64: the DEASSERTED edge. -/
def State.presenceEnd (s : State) : State :=
  if s.t1Runs then
    let p := s.rau.presence
    let s : State := { s with timers.e1 := s.timers.e1.capture .deasserted, rau.presence := .none }
    match p with
    | .none => s
    | .pending => s.presenceDiscarded
    | .qualified => s.burstEnd
  else s

/-- PRESENCE_HANGOVER_EXPIRY (R62). -/
def execPresenceHangoverExpiry (s : State) : Step :=
  finish
    (if s.lif.ringPresent = true then State.presenceEnd { s with lif.ringPresent := false, lif.hangover := 0 } else s)

/-! ### Deadlines (R64, R67 to R69, R72) -/

/-- QUALIFY_DEADLINE (R64, R66). -/
def execQualifyDeadline (s : State) : Step :=
  finish
    (match s.rau.deadlines.qualify with
     | none => s
     | some due =>
       if s.rau.presence = .pending then
         let s := s.reachDue due
         let s : State := { s with rau.presence := .qualified }
         (s.setDeadlines
           { s.rau.deadlines with qualify := none, heldCycleEnd := false, heldEpisodeEnd := false }).burstQualified
       else s)

/-- WINDOW_OPEN (R69). -/
def execWindowOpen (s : State) : Step :=
  finish
    (match s.rau.deadlines.windowOpen with
     | none => s
     | some due =>
       let s := s.reachDue due
       let s := s.setDeadlines { s.rau.deadlines with windowOpen := none }
       if s.rau.caller.state = .ended then s else { s with rau.caller.windowOpen := true })

/-- CYCLE_END (R64, R67). A presence holds it, or drops it once qualified, only where it falls due within that presence. -/
def execCycleEnd (s : State) : Step :=
  finish
    (match s.rau.deadlines.cycleEnd with
     | none => s
     | some due =>
       let s := s.reachDue due
       let s := s.setDeadlines { s.rau.deadlines with cycleEnd := none }
       if s.rau.presence = .none ∨ ¬ s.startedBefore due then s.cycleEnds
       else if s.rau.presence = .pending then { s with rau.deadlines.heldCycleEnd := true }
       else s)

/-- WINDOW_CLOSE (R69, R72). -/
def execWindowClose (s : State) : Step :=
  finish
    (match s.rau.deadlines.windowClose with
     | none => s
     | some due =>
       let s := s.reachDue due
       (s.setDeadlines { s.rau.deadlines with windowClose := none }).settleCapture false)

/-- EPISODE_END (R64, R68). A presence holds it, or drops it once qualified, only where it falls due within that presence. -/
def execEpisodeEnd (s : State) : Step :=
  finish
    (match s.rau.deadlines.episodeEnd with
     | none => s
     | some due =>
       let s := s.reachDue due
       let s := s.setDeadlines { s.rau.deadlines with episodeEnd := none }
       if s.rau.presence = .none ∨ ¬ s.startedBefore due then s.episodeEnds
       else if s.rau.presence = .pending then { s with rau.deadlines.heldEpisodeEnd := true }
       else s)

/-! ### Caller data (R69 to R72, R187) -/

/-- R71: the fields of a message read so far, the first of each tag. -/
structure CallerFields where
  number : Option (List Nat)
  name : Option (List Byte)
  absence : Option CallerStatus
deriving DecidableEq, Repr

/-- R71: the digits of a NUMBER; none for a bad one. -/
def numberOf (v : List Byte) : Option (List Nat) :=
  if 1 ≤ v.length ∧ v.length ≤ 20 ∧ v.all (fun b => decide (0x30 ≤ b.toNat ∧ b.toNat ≤ 0x39)) = true then
    some (v.map (fun b => b.toNat - 0x30))
  else none

/-- R71 and R187: the characters of a NAME; none for a bad one. -/
def nameOf (v : List Byte) : Option (List Byte) :=
  if 1 ≤ v.length ∧ v.length ≤ 15 ∧ v.all (fun b => decide (0x20 ≤ b.toNat ∧ b.toNat ≤ 0x7E)) = true then some v
  else none

/-- R71: the value of an ABSENCE; none for a bad one. -/
def absenceOf (v : List Byte) : Option CallerStatus :=
  if v = [0x01#8] then some .withheld else if v = [0x02#8] then some .unavailable else none

/-- R71: one field taken; a tag already read and an unknown tag are skipped; none when the field is bad. -/
def CallerFields.take (x : CallerFields) (tag : Byte) (v : List Byte) : Option CallerFields :=
  if tag = 0x11#8 ∧ x.number = none then (numberOf v).map (fun n => { x with number := some n })
  else if tag = 0x12#8 ∧ x.name = none then (nameOf v).map (fun n => { x with name := some n })
  else if tag = 0x13#8 ∧ x.absence = none then (absenceOf v).map (fun a => { x with absence := some a })
  else some x

/-- R71: the field list read in order; `fuel` bounds the number of fields. DESIGN CHOICE (log 47): a list that ends in a tag
with no length byte is bad, as one whose value runs past its end is. -/
def readFields : Nat → CallerFields → List Byte → Option CallerFields
  | _, x, [] => some x
  | 0, _, _ => none
  | _, _, [_] => none
  | fuel + 1, x, tag :: len :: rest =>
    if len.toNat ≤ rest.length then
      match x.take tag (rest.take len.toNat) with
      | some y => readFields fuel y (rest.drop len.toNat)
      | none => none
    else none

/-- R71, steps 3 to 6: the outcome of a readable field list. -/
def CallerFields.outcome (x : CallerFields) (c : CallerBuffer) : CallerBuffer :=
  match x.number, x.name, x.absence with
  | some n, name, _ => { c.endWith .received with number := some n, name := name }
  | none, some name, _ => { c.endWith .received with name := some name }
  | none, none, some a => c.endWith a
  | none, none, none => c.endWith .unavailable

/-- R71: a complete message judged. -/
def CallerBuffer.judge (c : CallerBuffer) : CallerBuffer :=
  if byteSum c.bytes ≠ 0#8 then c.endWith .corrupt
  else
    match readFields Config.callerBytesMax ⟨none, none, none⟩ ((c.bytes.drop 2).take (c.length.getD 0)) with
    | some x => x.outcome c
    | none => c.endWith .corrupt

/-- R69: the caller data receiver takes bytes: a window is open and no presence suspends it. -/
abbrev State.receivesCaller (s : State) : Prop := s.rau.caller.windowOpen = true ∧ s.rau.presence = .none

/-- R70: all bytes of the announced message have been stored. -/
abbrev CallerBuffer.whole (c : CallerBuffer) : Prop := c.length.map (· + 3) = some c.bytes.length

/-- R71: a whole message is judged; its deadlines are removed and CALLER_ID raised. -/
def State.judgeCaller (s : State) : State :=
  if s.rau.caller.whole then
    let s : State := { s with rau.caller := s.rau.caller.judge }
    (s.setDeadlines { s.rau.deadlines with windowOpen := none, windowClose := none }).raiseBoth .callerId
  else s

/-- R70: a byte taken in RECEIVING. -/
def State.callerByte (s : State) (b : Byte) : State :=
  let c := s.rau.caller
  if c.bytes.length = 1 then { s with rau.caller := { c with bytes := c.bytes ++ [b], length := some b.toNat } }
  else if c.bytes.length < Config.callerBytesMax then
    State.judgeCaller { s with rau.caller := { c with bytes := c.bytes ++ [b] } }
  else s.settleCapture false

/-- CALLER_DATA_BYTE (R70). -/
def execCallerDataByte (b : Byte) (s : State) : Step :=
  finish
    (if s.receivesCaller then
      match s.rau.caller.state with
      | .listening =>
        if b = 0x90#8 then { s with rau.caller := { s.rau.caller with bytes := [b], state := .receiving } } else s
      | .receiving => s.callerByte b
      | .ended => s
    else s)

/-- CALLER_BYTE_FRAMING_ERROR (R187): it ends a capture that is RECEIVING. -/
def execCallerByteFramingError (s : State) : Step :=
  finish (if s.receivesCaller ∧ s.rau.caller.state = .receiving then s.settleCapture false else s)

end Sys2Proof.Machine
end

