-- ==== Sys2Proof/Machine/Dial.lean ====
section
/-! DEFINITION. The Dialler (R42 to R46), the events of T0, and the expiries of T2 of an outgoing call and of the guard. -/

namespace Sys2Proof.Machine

/-! ### Items (R42 to R46) -/

/-- The items of the call's dial list. -/
def State.dialItems (s : State) : List DialItem := s.ccu.call.dialList.getD []

/-- The item in hand. -/
def State.itemInHand (s : State) : Option DialItem := s.dialItems[s.ccu.dialler.cursor]?

/-- R43: the breaks of a pulse digit. -/
def breaksOf (x : Symbol) : Nat := if x.val = 0 then 10 else x.val

/-- R8: the pick-up watch is suspended while the relay is open for a break or a flash. -/
def Lif.openForBreak (l : Lif) : Lif := l.suspend 0

/-- R43: the last make of the digit is written and the channel set to stop after it. -/
def State.writeLastMake (s : State) : State :=
  { s with timers.e0 := { s.timers.e0.writePreloadB s.ccu.dialler.lastMake with stopAfterB := true } }

/-- R43: a pulse digit starts. -/
def State.startPulse (s : State) (x : Symbol) : State :=
  let s : State :=
    { s.loadT0 .relayBreak .dialler s.settings.pulseBreakMs s.settings.pulseMakeMs false with
      lif := s.lif.openForBreak,
      ccu.dialler := { s.ccu.dialler with
                       item := .pulsing, breaksEnded := 0,
                       lastMake := s.settings.pulseMakeMs + s.settings.interdigitMs } }
  if breaksOf x = 1 then s.writeLastMake else s

/-- R44: a tone digit starts. -/
def State.startTone (s : State) (x : Symbol) : State :=
  { s.loadT0 .generatorEnable .dialler s.settings.dtmfOnMs s.settings.dtmfOffMs true with
    tone.generator := { state := .dialling, list := [], tone := some (.pair x) }, ccu.dialler.item := .toning }

/-- R45: a flash starts. -/
def State.startFlash (s : State) : State :=
  { s.loadT0 .relayBreak .dialler s.settings.flashMs s.settings.interdigitMs true with
    lif := s.lif.openForBreak, ccu.dialler.item := .flashing }

/-- R42 to R46: an item starts. -/
def State.startItem (s : State) : DialItem → State
  | .pulse x => s.startPulse x
  | .tone x => s.startTone x
  | .pause => { s.loadT2 .pauseItem s.settings.pauseMs .none with ccu.dialler.item := .pausing }
  | .waitTone =>
    { s.loadT2 .waitTone s.settings.dialToneWaitMs .none with
      ccu.dialler.item := .waiting, tone.classifier := .zero }
  | .flash => s.startFlash

/-- R3, R42: the end of the list; the line enters PROGRESS. -/
def State.enterProgress (s : State) : State :=
  let s : State :=
    { s with
      ccu.dialler.item := .none,
      tone := { s.tone with classifier := .zero, answer := .zero, voiceBlocks := 0 } }
  (s.lineTo .progress).loadT2 .noAnswer s.settings.noAnswerMs .none

/-- R42: the item at the cursor starts, or the list is at its end. -/
def State.dialOn (s : State) : State :=
  match s.itemInHand with
  | some i => s.startItem i
  | none => s.enterProgress

/-- R42: the item in hand completes. -/
def State.itemComplete (s : State) : State :=
  State.dialOn { s with ccu.dialler.cursor := s.ccu.dialler.cursor + 1 }

/-- R3, R42: the line enters DIALING. -/
def State.enterDialing (s : State) : State :=
  let s : State := { s with ccu.dialler := .reset }
  (s.lineTo .dialing).dialOn

/-- R46, R49: a DIAL classification completes the wait in progress; the classifier falls inactive and its state is dropped. -/
def State.dialToneHeard (s : State) : State :=
  if s.ccu.line = .seizing ∧ s.ccu.t2Use = .dialToneWait then
    State.enterDialing { s.stopT2 with tone.classifier := .zero }
  else if s.ccu.line = .dialing ∧ s.ccu.dialler.item = .waiting then
    State.itemComplete { s.stopT2 with tone.classifier := .zero }
  else s

/-! ### The generator (R60, R61) -/

/-- R60: the generator sends the next symbol of its list, or falls idle. -/
def State.generatorNext (s : State) : State :=
  match s.tone.generator.list with
  | [] => { s with tone.generator := .idle }
  | x :: rest =>
    { s.loadT0 .generatorEnable .tnu s.settings.dtmfOnMs s.settings.dtmfOffMs true with
      tone.generator := { state := .sending, list := rest, tone := some (.pair x) } }

/-! ### The events of T0 (R28, R43 to R45, R60, R61) -/

/-- The end of an A half: the relay closes again, or the generator falls silent. -/
def State.t0HalfEnds (s : State) : State :=
  match s.timers.e0.use with
  | .relayBreak => { s with lif := s.lif.suspend Config.breakSuspendMs }
  | .generatorEnable => { s with tone.blank := 2 }
  | .none => s

/-- T0_A_EVENT (R28). -/
def execT0AEvent (s : State) : Step :=
  finish
    (match s.timers.e0.takeA 0 with
     | none => s
     | some c => State.t0HalfEnds { s with timers.e0 := c })

/-- R43: a B event of a pulse digit; the last break is the one that the (n−1)th B event starts. -/
def State.pulseB (s : State) : State :=
  let ended := s.ccu.dialler.breaksEnded + 1
  let s : State := { s with ccu.dialler.breaksEnded := ended }
  if s.timers.e0.mode = .off then s.itemComplete
  else
    let s : State := { s with lif := s.lif.openForBreak }
    match s.itemInHand with
    | some (.pulse x) => if ended + 1 = breaksOf x then s.writeLastMake else s
    | _ => s

/-- R42 to R45: a B event for the Dialler. -/
def State.diallerB (s : State) : State :=
  match s.ccu.dialler.item with
  | .pulsing => s.pulseB
  | .toning => State.itemComplete { s with tone.generator := .idle }
  | .flashing => s.itemComplete
  | _ => s

/-- R60 and R61: a B event for the generator. -/
def State.generatorB (s : State) : State :=
  match s.tone.generator.state with
  | .sending => s.generatorNext
  | .beeping => { s with tone.generator := .idle }
  | _ => s

/-- T0_B_EVENT (R28). -/
def execT0BEvent (s : State) : Step :=
  finish
    (match s.timers.e0.takeB 0 with
     | none => s
     | some c =>
       let s : State := { s with timers.e0 := c }
       match c.owner with
       | .dialler => s.diallerB
       | .tnu => s.generatorB
       | _ => s)

/-! ### The expiries of T2 -/

/-- SETTLE_EXPIRY (R3). -/
def execSettleExpiry (s : State) : Step :=
  finish
    (match s.takeT2 .settle with
     | none => s
     | some s =>
       if s.ccu.line ≠ .seizing then s
       else if s.ccu.blind = true then s.enterDialing
       else State.loadT2 { s with tone.classifier := .zero } .dialToneWait s.settings.dialToneWaitMs .none)

/-- R3 and R46: T2 was last loaded for a wait for dial tone. -/
def State.takeToneWait (s : State) : Option State := (s.takeT2 .dialToneWait) <|> (s.takeT2 .waitTone)

/-- DIAL_TONE_WAIT_EXPIRY (R3, R46). -/
def execDialToneWaitExpiry (s : State) : Step :=
  finish
    (match s.takeToneWait with
     | none => s
     | some s => s.reportEnd .noDialTone)

/-- PAUSE_ITEM_EXPIRY (R45). -/
def execPauseItemExpiry (s : State) : Step :=
  finish
    (match s.takeT2 .pauseItem with
     | none => s
     | some s => if s.ccu.dialler.item = .pausing then s.itemComplete else s)

/-- NO_ANSWER_EXPIRY (R3). -/
def execNoAnswerExpiry (s : State) : Step :=
  finish
    (match s.takeT2 .noAnswer with
     | none => s
     | some s => if s.ccu.line = .progress then s.reportEnd .noAnswer else s)

/-- R5 and R22: where the line goes at the end of the guard. -/
def State.guardEnds (s : State) : State :=
  if s.power.low = true then s.lineTo .idle
  else if s.rau.episode.active = true then s.lineTo .ringing
  else s.lineFree

/-- GUARD_EXPIRY (R5). -/
def execGuardExpiry (s : State) : Step :=
  finish
    (match s.takeT2 .guard with
     | none => s
     | some s => if s.ccu.line = .releasing then s.guardEnds else s)

end Sys2Proof.Machine
end

