-- ==== Sys2Proof/Machine/Tone.lean ====
section
/-! DEFINITION. The Tone Unit (Chapter 3): tone presence, the detectors, DTMF, the cadence classifier, the block event and its
receivers (R87), SEND DIGITS, BEEP and READ DIGITS. -/

namespace Sys2Proof.Machine

/-! ### Presence (R49) -/

/-- A figure of no sound. -/
def BandFigure.zero : BandFigure := ⟨0, 0⟩

/-- R48: the figure of a band of the table. -/
def bandAt (bs : List BandFigure) (k : Nat) : BandFigure := bs.getD k .zero

/-- R49: a single tone is present. -/
def tonePresent (toneLevel whole : Nat) (b : BandFigure) : Bool :=
  decide (toneLevel ≤ b.level) && decide (whole ≤ b.level + 3)

/-! ### The single-tone detectors (R50) -/

/-- R50: a block judged by a detector. -/
def Detector.judge (d : Detector) (present : Bool) : Detector :=
  if present = true then { run := bump Config.toneRun d.run, recognised := d.recognised || decide (24 ≤ d.run) }
  else .zero

/-- R50: the block makes a recognition. -/
def Detector.recognises (d : Detector) (present : Bool) : Bool := present && decide (d.run = 24)

/-! ### DTMF (R51, R55) -/

/-- R51: the index of the strongest of four bands; none where two share the highest level code. -/
def strongest (l : List BandFigure) : Option Nat :=
  let top := (l.map BandFigure.level).foldl max 0
  match (l.zipIdx).filter (fun x => x.1.level == top) with
  | [x] => some x.2
  | _ => none

/-- R55: the symbol at a row and a column. -/
def symbolAt (row col : Nat) : Symbol :=
  ([1, 2, 3, 12, 4, 5, 6, 13, 7, 8, 9, 14, 10, 0, 11, 15] : List Symbol).getD (4 * row + col) 0

/-- R48 and R55: the tones of the low group, in the order of the table's rows. -/
def rowHertz : Nat → Nat
  | 0 => 697
  | 1 => 770
  | 2 => 852
  | _ => 941

/-- R48 and R55: the tones of the high group, in the order of the table's columns. -/
def columnHertz : Nat → Nat
  | 0 => 1209
  | 1 => 1336
  | 2 => 1477
  | _ => 1633

/-- R55: the place of a symbol in the table, its row and its column. -/
def symbolPlace (x : Symbol) : Nat × Nat :=
  (((List.range 16).find? (fun k => symbolAt (k / 4) (k % 4) == x)).map (fun k => (k / 4, k % 4))).getD (0, 0)

/-- R44, R55, R60: the frequencies that the generator sends for a tone: the pair of a symbol, which the detector of R51 reads,
or the single tone of a BEEP (R61). -/
def Tone.hertz : Tone → List Nat
  | .pair x => [rowHertz (symbolPlace x).1, columnHertz (symbolPlace x).2]
  | .single f => [f]

/-- R34, R55, R60, R61: the frequencies that stand on the line from the generator now. -/
def State.generatorHertz (s : State) : List Nat :=
  if s.generatorSends then (s.tone.generator.tone.map Tone.hertz).getD [] else []

/-- R51: the digit that a block holds. -/
def digitOf (toneLevel whole : Nat) (bs : List BandFigure) : Option Symbol :=
  let low := (bs.drop 4).take 4
  let high := (bs.drop 8).take 4
  match strongest low, strongest high with
  | some r, some c =>
    let x := bandAt low r
    let y := bandAt high c
    let pair := logCode (x.mean + y.mean)
    if toneLevel ≤ pair ∧ whole ≤ pair + 3 ∧ pair ≤ x.level + 8 ∧ pair ≤ y.level + 8 then some (symbolAt r c) else none
  | _, _ => none

/-- R51: the candidate after a block. -/
def Dtmf.candidateAfter (d : Dtmf) (x : Option Symbol) : Dtmf :=
  match x with
  | none => { d with run := 0 }
  | some _ => if d.candidate = x then { d with run := bump 3 d.run } else { d with candidate := x, run := 1 }

/-- R51: the reported digit after a block. -/
def Dtmf.absenceAfter (d : Dtmf) (x : Option Symbol) : Dtmf :=
  match d.reported with
  | none => d
  | some _ =>
    if d.reported = x then { d with absence := 0 }
    else if 1 ≤ d.absence then { d with reported := none, absence := 0 }
    else { d with absence := d.absence + 1 }

/-- R51: a judged block; with the digit that it reports. -/
def Dtmf.judge (d : Dtmf) (x : Option Symbol) : Dtmf × Option Symbol :=
  let d := (d.candidateAfter x).absenceAfter x
  match d.reported, d.candidate with
  | none, some c => if 3 ≤ d.run then ({ d with reported := some c, absence := 0 }, some c) else (d, none)
  | _, _ => (d, none)

/-- R51: a block that is not judged. -/
def Dtmf.skip (d : Dtmf) : Dtmf := { d with run := 0, reported := none, absence := 0 }

/-! ### The cadence classifier (R52, R53) -/

/-- R53: the indices of the table. -/
abbrev entryIndices : List Nat := [0, 1, 2, 3, 4, 5]

/-- R53: the run after a block. -/
def Classifier.runAfter (c : Classifier) (present : Bool) : Classifier :=
  match c.kind, present with
  | .on, true => { c with length := bump 4095 c.length }
  | .off, true => { c with kind := .on, length := 1 }
  | .none, true => { c with kind := .on, length := 1 }
  | .on, false => { c with kind := .off, length := 1, lastOn := c.length }
  | .none, false => { c with kind := .off, length := 1 }
  | .off, false =>
    let n := bump 4095 c.length
    if Config.longOffMs < n * Config.blockMs then { c with length := n, lastOn := 0, counts := ⟨0, 0, 0, 0, 0, 0⟩ }
    else { c with length := n }

/-- R53: an ON block ends an OFF run that forms a cycle with the ON run before it. -/
def Classifier.formsCycle (c : Classifier) (present : Bool) : Bool :=
  present && c.kind == .off && decide (0 < c.lastOn)

/-- R53: a cycle lies within an entry's times. -/
def CadenceEntry.fits (e : CadenceEntry) (on off : Nat) : Bool :=
  decide (e.onMin ≤ on) && decide (on ≤ e.onMax) && decide (e.offMin ≤ off) && decide (off ≤ e.offMax)

/-- R52 and R53: an entry is judged on cycles. -/
def CadenceClass.onCycles : CadenceClass → Bool
  | .dial => false
  | .unused => false
  | _ => true

/-- R53: an entry's match count after a cycle of an on and an off length in ms. -/
def cycleCount (e : CadenceEntry) (on off n : Nat) : Nat :=
  if e.cls.onCycles = true then (if e.fits on off = true then bump 4 n else 0) else n

/-- R53: the match counts after a block. -/
def Classifier.countsAfter (c : Classifier) (t : Six CadenceEntry) (present : Bool) : Six Nat :=
  let after := (c.runAfter present).counts
  if c.formsCycle present = true then
    let on := c.lastOn * Config.blockMs
    let off := c.length * Config.blockMs
    ⟨cycleCount t.e0 on off after.e0, cycleCount t.e1 on off after.e1, cycleCount t.e2 on off after.e2,
     cycleCount t.e3 on off after.e3, cycleCount t.e4 on off after.e4, cycleCount t.e5 on off after.e5⟩
  else after

/-- R53: an entry matches at a block. -/
def entryMatches (e : CadenceEntry) (run : Classifier) (cycle : Bool) (n : Nat) : Bool :=
  match e.cls with
  | .dial =>
    run.kind == .on && decide (e.onMin ≤ run.length * Config.blockMs) &&
      decide ((run.length - 1) * Config.blockMs < e.onMin)
  | .unused => false
  | _ => cycle && decide (e.cycles ≤ n)

/-- R53: a block judged by the classifier; with the classification that it makes. -/
def Classifier.judge (c : Classifier) (t : Six CadenceEntry) (present : Bool) : Classifier × Option CadenceClass :=
  let run := c.runAfter present
  let counts := c.countsAfter t present
  match entryIndices.find? (fun i => entryMatches (t.get i) run (c.formsCycle present) (counts.get i)) with
  | some i => ({ run with counts := ⟨0, 0, 0, 0, 0, 0⟩ }, some (t.get i).cls)
  | none => ({ run with counts := counts }, none)

/-! ### Activity (R49) -/

/-- R49: the classifier is active. -/
abbrev State.classifierActive (s : State) : Prop :=
  (s.ccu.line = .seizing ∧ s.ccu.t2Use = .dialToneWait) ∨ (s.ccu.line = .dialing ∧ s.ccu.dialler.item = .waiting) ∨
    s.ccu.line = .progress

/-- R49: the ANSWER detector is active. -/
abbrev State.answerActive (s : State) : Prop :=
  s.ccu.line = .progress ∧ (s.ccu.call.job = .data ∨ s.ccu.call.job = .fax)

/-- R57: voice blocks are counted. -/
abbrev State.voiceActive (s : State) : Prop :=
  s.ccu.line = .progress ∧ s.ccu.call.job = .voice ∧ s.ccu.call.farEndRinging = true

/-- R49: the FAX_CALL and DATA_CALL detectors are active. -/
abbrev State.callTonesActive (s : State) : Prop := s.ccu.line = .connected ∧ s.ccu.call.job = .discriminate

/-- R49: the DTMF detector is active. -/
abbrev State.dtmfActive (s : State) : Prop :=
  s.ccu.line = .connected ∧ (s.ccu.call.job = .voice ∨ s.ccu.call.job = .discriminate ∨ s.ccu.call.job = .remote)

/-! ### What the Tone Unit does with a block -/

/-- A block as the Tone Unit takes it; `judged` says that the DTMF detector judges it (R51). -/
structure ToneBlock where
  whole : Nat
  bands : List BandFigure
  judged : Bool
deriving DecidableEq, Repr

/-- R49: the single tone of a band is present. -/
def ToneBlock.present (b : ToneBlock) (s : State) (k : Nat) : Bool :=
  tonePresent s.settings.toneLevel b.whole (bandAt b.bands k)

/-- R54: a classification acts. -/
def State.classified (s : State) (c : CadenceClass) : State :=
  if s.ccu.line = .progress then
    match c with
    | .busy | .congestion => s.reportEnd .busy
    | .ringback => { s with ccu.call.farEndRinging := true }
    | _ => s
  else if c = .dial then s.dialToneHeard
  else s

/-- R53 and R54: the classifier's part of a block. -/
def State.classifierBlock (s : State) (b : ToneBlock) : State :=
  if s.classifierActive then
    let j := s.tone.classifier.judge s.settings.cadence (b.present s 0)
    let s : State := { s with tone.classifier := j.1 }
    match j.2 with
    | some c => s.classified c
    | none => s
  else s

/-- R50 and R56: the ANSWER detector's part of a block. -/
def State.answerBlock (s : State) (b : ToneBlock) : State :=
  if s.answerActive then
    let p := b.present s 3
    let d := s.tone.answer
    let s : State := { s with tone.answer := d.judge p }
    if d.recognises p = true then s.connectCall else s
  else s

/-- R57: the voice blocks. -/
def State.voiceBlock (s : State) (b : ToneBlock) : State :=
  if s.voiceActive then
    if s.settings.silenceLevel ≤ b.whole ∧ b.present s 0 = false then
      let s : State := { s with tone.voiceBlocks := s.tone.voiceBlocks + 1 }
      if Config.voiceRun ≤ s.tone.voiceBlocks then s.connectCall else s
    else { s with tone.voiceBlocks := 0 }
  else s

/-- R50 and R81: the FAX_CALL detector's part of a block. -/
def State.faxCallBlock (s : State) (b : ToneBlock) : State :=
  if s.callTonesActive then
    let p := b.present s 1
    let d := s.tone.faxCall
    let s : State := { s with tone.faxCall := d.judge p }
    if d.recognises p = true then s.faxBranch else s
  else s

/-- R50 and R82: the DATA_CALL detector's part of a block. -/
def State.dataCallBlock (s : State) (b : ToneBlock) : State :=
  if s.callTonesActive then
    let p := b.present s 2
    let d := s.tone.dataCall
    let s : State := { s with tone.dataCall := d.judge p }
    if d.recognises p = true then s.dataBranch else s
  else s

/-! ### Digits (R58, R59) -/

/-- R59: a digit joins a queue. -/
def DigitQueue.join (q : DigitQueue) (x : Symbol) : DigitQueue :=
  if q.digits.length < Config.digitQueueMax then { q with digits := q.digits ++ [x] }
  else { digits := q.digits.drop 1 ++ [x], lost := true }

/-- R58 and R59: a digit goes to a master's queue, and ends its play with stop-on-digit. -/
def State.digitToMaster (s : State) (p : Port) (x : Symbol) : State :=
  let s := (s.updPort p (fun q => { q with digits := q.digits.join x })).raiseAt p .digit
  if s.voice.op.operation = some .play ∧ s.voice.op.user = some p.party ∧ s.voice.op.stopOnDigit = true then
    (s.endVoice .digit).1
  else s

/-- R58: a reported digit is routed. -/
def State.routeDigit (s : State) (x : Symbol) : State :=
  match s.holder, s.ccu.call.job with
  | some .auto, .discriminate => s.codeDigit x
  | some .auto, .remote => s.remoteDigit x
  | some .system, .voice => s.digitToMaster .system x
  | some .panel, .voice => s.digitToMaster .panel x
  | _, _ => s

/-- R51: the DTMF detector's part of a block that it judges, or of one that it does not judge, while the generator sends or
where the block is one of the two after a burst. -/
def State.dtmfBlock (s : State) (b : ToneBlock) : State :=
  if s.dtmfActive then
    if b.judged = false then { s with tone.dtmf := s.tone.dtmf.skip }
    else
      let j := s.tone.dtmf.judge (digitOf s.settings.toneLevel b.whole b.bands)
      let s : State := { s with tone.dtmf := j.1 }
      match j.2 with
      | some x => s.routeDigit x
      | none => s
  else s

/-- R49: the detectors that are active when the block closes judge it, those of the line before CONNECTED or those of a
connected line. DESIGN CHOICE (log 50): of the recognitions of one block the classification comes before ANSWER, and FAX_CALL
before DATA_CALL before the digit; the first that the call takes decides (R54, R83). -/
def State.toneBlock (s : State) (b : ToneBlock) : State :=
  if s.ccu.line = .connected then ((s.faxCallBlock b).dataCallBlock b).dtmfBlock b
  else
    let t := s.classifierBlock b
    let t := if s.answerActive then t.answerBlock b else t
    if s.voiceActive then t.voiceBlock b else t

/-! ### The block event (R85 to R87) -/

/-- R32: a block event restarts the channels that it qualifies. -/
def State.blockRestarts (s : State) (path : AudioPath) (level : Nat) : State :=
  { s with timers := s.timers.mapIdx (fun _ c => c.blockRestart path level) }

/-- R76: the heard count of a discrimination. -/
def State.countHeard (s : State) (level : Nat) : State :=
  match s.rau.discr with
  | none => s
  | some d =>
    if d.phase ≠ .beep ∧ s.settings.silenceLevel ≤ level then
      { s with rau.discr := some { d with heard := bump Config.max16 d.heard } }
    else s

/-- R51: the DTMF detector judges the line's block that closes now: no burst is in hand, and the block is none of the two after
one. -/
abbrev State.judgesDigit (s : State) : Prop := ¬s.inBurst ∧ s.tone.blank = 0

/-- R51: one of the blocks after a burst passes; in a burst none does. DESIGN CHOICE (log 47): the block
in hand when a burst ends is the first of the two that are not judged after it. -/
def State.blankPasses (s : State) : State :=
  if s.inBurst then s else { s with tone.blank := s.tone.blank - 1 }

/-- R87: the receivers of a line receive block event. -/
def State.lineBlock (s : State) (b : LineBlock) : State :=
  let judged := decide s.judgesDigit
  let s := ((s.blockRestarts .line b.level).countHeard b.level).blankPasses
  match b.bands with
  | some bs => s.toneBlock { whole := b.level, bands := bs, judged := judged }
  | none => s

/-- R85 to R87: line receive samples. -/
def State.lineSamples (s : State) (xs : List Sample) (bs : List (List Sample)) : State :=
  let m := s.level.line
  let r := s.level.lineSamples s.lif.relayClosed xs bs
  let s := State.recordFrom { s with level := r.1 } .line m xs (r.2.map LineBlock.level)
  match r.2 with
  | some b => s.lineBlock b
  | none => s

/-- R85 to R87: microphone samples. -/
def State.micSamples (s : State) (xs : List Sample) : State :=
  let m := s.level.mic
  let r := s.level.micSamples xs
  let s := State.recordFrom { s with level := r.1 } .mic m xs r.2
  match r.2 with
  | some l => s.blockRestarts .mic l
  | none => s

/-- BLOCK_EVENT (R85 to R87): samples of a path arrive, and the block that they fill closes. -/
def execBlockEvent (path : AudioPath) (samples : List Sample) (bands : List (List Sample)) (s : State) : Step :=
  finish
    (if s.power.retention = true then s
     else
      match path with
      | .line => s.lineSamples samples bands
      | .mic => s.micSamples samples)

/-! ### SEND DIGITS, BEEP, READ DIGITS (R59 to R61) -/

/-- R60: the Voice Engine plays to the line. -/
abbrev VoiceOp.playsToLine (o : VoiceOp) : Prop := o.state = .playing ∧ o.endpoint = some .line

/-- R60 and R61: the checks of SEND DIGITS and BEEP after their parameters. -/
def generatorRefusal (p : Port) (s : State) : Option Status :=
  if ¬(s.ccu.call.active = true ∧ s.ccu.call.job = .voice ∧ s.ccu.line = .connected) then some .wrongPhase
  else if s.holder ≠ some p.party then some .notHolder
  else if s.tone.generator.state ≠ .idle ∨ s.voice.op.playsToLine then some .engineBusy
  else none

/-- R60: SEND DIGITS. -/
def takeSendDigits (p : Port) (symbols : List Byte) (s : State) : State × Reply :=
  match symbolsOf symbols with
  | none => refuse s .badParameter
  | some xs =>
    if xs.length < 1 ∨ 32 < xs.length then refuse s .badParameter
    else
      match generatorRefusal p s with
      | some x => refuse s x
      | none => (State.generatorNext { s with tone.generator.list := xs }, .plain .ok)

/-- SEND DIGITS (R60). -/
def execSendDigits (f : Frame) (symbols : List Byte) (s : State) : Step :=
  command f 0x15#8 s (takeSendDigits f.port symbols)

/-- R61: BEEP. -/
def takeBeep (p : Port) (frequency duration : U16) (s : State) : State × Reply :=
  let hz := clamp 300 3000 frequency.toNat
  let ms := clamp 50 2000 duration.toNat
  match generatorRefusal p s with
  | some x => refuse s x
  | none =>
    ({ s.loadT0 .generatorEnable .tnu ms 1 true with
       tone.generator := { state := .beeping, list := [], tone := some (.single hz) } },
     ⟨.ok, [.u16 hz, .u16 ms]⟩)

/-- BEEP (R61). -/
def execBeep (f : Frame) (frequency duration : U16) (s : State) : Step :=
  command f 0x16#8 s (takeBeep f.port frequency duration)

/-- R59: READ DIGITS. -/
def takeReadDigits (p : Port) (count : Byte) (s : State) : State × Reply :=
  if count.toNat < 1 ∨ 16 < count.toNat then refuse s .badParameter
  else
    let q := (s.port p).digits
    (s.updPort p (fun x => { x with digits := { digits := q.digits.drop count.toNat, lost := false } }),
     ⟨.ok, listItems (fun x => [.u8 x.val]) (q.digits.take count.toNat) ++ [flagItem q.lost]⟩)

/-- READ DIGITS (R59). -/
def execReadDigits (f : Frame) (count : Byte) (s : State) : Step := command f 0x25#8 s (takeReadDigits f.port count)

end Sys2Proof.Machine
end

