-- ==== Sys2Proof/Machine/Line.lean ====
section
/-! DEFINITION. The line commands (R10 to R16, R57), line sensing (R7 to R9) and the READY line (R16). -/

namespace Sys2Proof.Machine

/-! ### Claims (R10 to R13) -/

/-- R10: what a claim that is taken answers, GRANTED 0 or QUEUED 1 after the holder found (log 11). -/
def claimReply (found : Option Party) (result : Nat) (more : List Item) : Reply :=
  ⟨.ok, [.u8 (holderCode found), .u8 result] ++ more⟩

/-- R10: a refused claim; its status is the result, and the holder found is reported with it. -/
def refuseClaim (s : State) (x : Status) : State × Reply := (s, ⟨x, [.u8 (holderCode s.holder)]⟩)

/-- R10: the job of a claim; none for a bad one. The panel master has no DATA. -/
def jobFor (p : Port) (b : Byte) : Option Job :=
  match claimJob b with
  | some .data => if p = .panel then none else some .data
  | j => j

/-- R10 and R41: the dial list of a DIAL; none for a bad one. -/
def dialListOf (pulseDefault : Bool) (items : List Byte) : Option (List DialItem) :=
  if 1 ≤ items.length ∧ items.length ≤ Config.dialListMax then dialItemsOf pulseDefault items else none

/-- R11 and R12: a dial is queued in the place of an earlier one of the same master. -/
def State.queueDial (s : State) (c : Claim) : State :=
  { s with ccu.claims := (s.withdraw c.master).ccu.claims ++ [c] }

/-- R11: a DIAL whose parameters are good. -/
def takeGoodDial (c : Claim) (wait : Bool) (s : State) : State × Reply :=
  if s.ccu.line = .idle ∧ s.lif.lineInUse = false then
    (s.seize c.master c.items c.job c.blind, claimReply s.holder 0 [])
  else if wait = true then (s.queueDial c, claimReply s.holder 1 [flagItem (s.hasQueued c.master)])
  else refuseClaim s (if s.ccu.line = .idle then .lineInUse else .lineBusy)

/-- R10 and R11: DIAL. Bit 0 of the flags is blind, bit 1 wait. -/
def takeDial (p : Port) (job flags : Byte) (items : List Byte) (s : State) : State × Reply :=
  match jobFor p job, dialListOf s.settings.dialPulse items with
  | some j, some l =>
    takeGoodDial { master := p, items := l, job := j, blind := flags.getLsbD 0 } (flags.getLsbD 1) s
  | _, _ => refuseClaim s .badParameter

/-- DIAL (R11). -/
def execDial (f : Frame) (job flags : Byte) (items : List Byte) (s : State) : Step :=
  command f 0x10#8 s (takeDial f.port job flags items)

/-- R13: an ANSWER whose job is good. -/
def takeGoodAnswer (p : Port) (job : Job) (s : State) : State × Reply :=
  if s.ccu.line = .ringing then
    if s.lif.lineInUse = true then refuseClaim s .lineInUse
    else (s.answerTaken p.party job, claimReply s.holder 0 [])
  else
    match s.holder with
    | some .auto => refuseClaim s .heldByAuto
    | some _ => refuseClaim s .lineBusy
    | none => refuseClaim s .wrongPhase

/-- R13: ANSWER. -/
def takeAnswer (p : Port) (job : Byte) (s : State) : State × Reply :=
  match jobFor p job with
  | some j => takeGoodAnswer p j s
  | none => refuseClaim s .badParameter

/-- ANSWER (R13). -/
def execAnswer (f : Frame) (job : Byte) (s : State) : Step := command f 0x11#8 s (takeAnswer f.port job)

/-! ### TAKE CALL (R14) -/

/-- R14: the call moves to a master, in the order of the rule. DESIGN CHOICE (log 50): the emptied digit queue of the master is
one whose lost flag is clear (R59). -/
def State.moveCall (s : State) (p : Port) : State :=
  let s := if s.ccu.call.job = .remote then s.stopT2 else s
  let s := (s.endVoice .stopped).1.dropAuto
  let s : State :=
    { s with
      rau.discr := none, voice.remote := none, ccu.call.holder := some p.party, ccu.call.job := .voice,
      ccu.call.phase := none }
  let s := s.dropCallDetectors false
  (s.updPort p (fun q => { q with digits := ⟨[], false⟩ })).raiseBoth .callState

/-- R14: TAKE CALL. -/
def takeTakeCall (p : Port) (s : State) : State × Reply :=
  match s.holder with
  | none => refuseClaim s .wrongPhase
  | some .auto =>
    if s.ccu.call.job = .discriminate ∨ s.ccu.call.job = .remote then (s.moveCall p, claimReply s.holder 0 [])
    else refuseClaim s .wrongPhase
  | some h => if h = p.party then (s, claimReply s.holder 0 []) else refuseClaim s .notHolder

/-- TAKE CALL (R14). -/
def execTakeCall (f : Frame) (s : State) : Step := command f 0x12#8 s (takeTakeCall f.port)

/-! ### HANG UP (R15, R16) -/

/-- R15: the holder hangs up. A linked call clears first. DESIGN CHOICE (log 50): where the far end's CLEAR is being answered
(R125) the pump enters CLEARDOWN as it does for a linked call (R111). -/
def State.hangUpHeld (s : State) : State :=
  if s.ccu.ending.isSome = true then s
  else
    match s.link.mode with
    | .linked => State.cleardown (State.startClearing { s with ccu.ending := some .normal })
    | .clearing => State.cleardown { s with ccu.ending := some .normal, link.paused := false }
    | _ => s.callEnd .normal

/-- R15: a master stops a call of the automatic answerer. -/
def stopCause : Port → Cause
  | .system => .stoppedBySystem
  | .panel => .stoppedByPanel

/-- R15: a HANG UP that ends nothing withdraws the master's queued dial, or is refused. -/
def withdrawOr (p : Port) (x : Status) (s : State) : State × Reply :=
  if s.hasQueued p = true then (s.withdraw p, ⟨.ok, [flagItem true]⟩) else refuse s x

/-- R15: HANG UP. An OK reply carries the withdrawn indication. -/
def takeHangUp (p : Port) (s : State) : State × Reply :=
  match s.holder with
  | none => withdrawOr p .wrongPhase s
  | some .auto => (s.callEnd (stopCause p), ⟨.ok, [flagItem false]⟩)
  | some h => if h = p.party then (s.hangUpHeld, ⟨.ok, [flagItem false]⟩) else withdrawOr p .notHolder s

/-- HANG UP (R15). -/
def execHangUp (f : Frame) (s : State) : Step := command f 0x13#8 s (takeHangUp f.port)

/-- READY_DEASSERTED (R16, R176): a HANG UP of the system master's call; its queued dial is removed, and what the System
Port owed, and a frame partly assembled, is discarded. -/
def execReadyDeasserted (s : State) : Step :=
  finish
    (let s : State :=
       { s with
         sys := { s.sys with ready := false, goDataDue := false, assembler := [],
                             lastByte := if s.sys.data = true then s.sys.lastByte else false },
         ports.system.outgoing := [] }
     let s := s.withdraw .system
     if s.holder = some .system then s.hangUpHeld else s)

/-- READY_ASSERTED (R176). -/
def execReadyAsserted (s : State) : Step := finish { s with sys.ready := true }

/-! ### CONNECT (R57) -/

/-- R42: the Dialler stops with the item in hand. -/
def State.stopDialler (s : State) : State :=
  match s.ccu.dialler.item with
  | .pulsing | .flashing =>
    let l := if s.timers.e0.high = true then s.lif.suspend Config.breakSuspendMs else s.lif
    { s.stopT0 with lif := l, ccu.dialler.item := .none }
  | .toning => { s.silence with ccu.dialler.item := .none }
  | _ => { s with ccu.dialler.item := .none }

/-- R57: the line states of a call that CONNECT can connect. -/
def LineState.connectable : LineState → Bool
  | .seizing | .dialing | .progress => true
  | _ => false

/-- R57: CONNECT. -/
def takeConnect (p : Port) (s : State) : State × Reply :=
  match s.holder with
  | none => refuse s .wrongPhase
  | some h =>
    if h ≠ p.party then refuse s .notHolder
    else if s.ccu.call.job ≠ .voice then refuse s .wrongPhase
    else if s.ccu.line.connectable = true then (s.stopDialler.connectCall, .plain .ok)
    else (s, .plain .ok)

/-- CONNECT (R57). -/
def execConnect (f : Frame) (s : State) : Step := command f 0x14#8 s (takeConnect f.port)

/-! ### Line sensing (R7 to R9) -/

/-- LINE_VOLTAGE_SENSE_CHANGE (R7). DESIGN CHOICE (log 50): a change during ring presence begins a fresh run as well, which
advances from the end of the presence on. -/
def execLineVoltageSenseChange (below : Bool) (s : State) : Step :=
  finish (if s.lif.voltageBelow = below then s else { s with lif.voltageBelow := below, lif.voltageRun := 0 })

/-- R7: the measurement for LINE_IN_USE runs toward a change of the flag. -/
abbrev Lif.voltageRunOn (l : Lif) : Prop :=
  l.relayClosed = false ∧ l.ringPresent = false ∧ l.voltageBelow ≠ l.lineInUse

/-- LINE_IN_USE_RUN_EXPIRY (R7, R12): the flag changes, and a queued dial may be granted. -/
def execLineInUseRunExpiry (s : State) : Step :=
  finish
    (if s.lif.voltageRunOn then
      let s : State :=
        State.raiseBoth { s with lif.lineInUse := s.lif.voltageBelow, lif.voltageRun := 0 } .lineAlert
      if s.lif.lineInUse = false ∧ s.ccu.line = .idle then s.serveQueue.getD s else s
    else s)

/-- LOOP_CURRENT_SENSE_CHANGE (R8). -/
def execLoopCurrentSenseChange (below : Bool) (s : State) : Step :=
  finish
    (if s.lif.currentBelow = below then s
     else
      { s with
        lif := { s.lif with
                 currentBelow := below, currentRun := 0,
                 pickupLatch := if below = false then false else s.lif.pickupLatch } })

/-- R8: the loop-current run goes on. -/
abbrev Lif.currentRunOn (l : Lif) : Prop :=
  l.relayClosed = true ∧ l.suspended = false ∧ l.currentBelow = true ∧ l.pickupLatch = false

/-- R9: the CCU acts on a pick-up. -/
def State.pickup (s : State) : State :=
  if s.ccu.ending.isSome = true then s
  else
    match s.holder with
    | none => s
    | some .auto => s.reportEnd .extensionPickup
    | some _ => if s.settings.pickupHangsUp = true then s.reportEnd .extensionPickup else s.raiseBoth .lineAlert

/-- EXTENSION_PICKUP (R8, R9). -/
def execExtensionPickup (s : State) : Step :=
  finish
    (if s.lif.currentRunOn then State.pickup { s with lif.pickupLatch := true, lif.currentRun := 0 } else s)

/-- R2 and R8: T0 holds the relay open for a break or a flash. -/
def State.inBreak (s : State) : Bool := s.timers.e0.use == .relayBreak && s.timers.e0.high

/-- PICKUP_SUSPENSION_END (R8): the watch starts a fresh run. -/
def execPickupSuspensionEnd (s : State) : Step :=
  finish
    (if s.lif.suspended = true ∧ s.inBreak = false then
      { s with lif := { s.lif with suspended := false, suspendLeft := 0, currentRun := 0 } }
    else s)

end Sys2Proof.Machine
end

