-- ==== Sys2Proof/Machine/Reads.lean ====
section
/-! DEFINITION. READ CALL, READ HISTORY, READ TIMERS, READ CLOCK and SET CLOCK, with the layouts of what they return (R184,
R185; the choices of log 11). -/

namespace Sys2Proof.Machine

/-! ### READ CALL (R23, R65, R76, R98, R131, R152, R159) -/

/-- R17. -/
def Direction.code : Direction → Nat
  | .outgoing => 0
  | .incoming => 1

/-- A caller number or a caller name as a list; an absent one has no items. -/
def digitList (l : Option (List Nat)) : List Item := optList (fun d => [.u8 d]) l

/-- A caller name as a list of its characters. -/
def nameList (l : Option (List Byte)) : List Item := optList (fun b => [.u8 b.toNat]) l

/-- R17 and R42: the fields of the Call Record in the order of their table, the dial list with its cursor. -/
def callItems (c : CallRecord) (cursor : Nat) : List Item :=
  [flagItem c.active, .u16 c.number, .u8 c.direction.code, .u8 (holderCode c.holder), .u8 c.job.code,
   optU8 (c.phase.map CallPhase.code)] ++
    optList (fun i => [.u8 i.byte]) c.dialList ++ [optU8 (c.dialList.map (fun _ => cursor))] ++
    [flagItem c.farEndRinging, optU8 (c.callerStatus.map CallerStatus.code)] ++ digitList c.callerNumber ++
    nameList c.callerName ++ [optU8 c.ringPattern, optU16 c.ringCount] ++ c.startTime.items ++
    [optU8 c.linkedId, optU8 c.rung, optU16 c.lastQuality, .u16 c.seconds, optU8 (c.cause.map Cause.code)]

/-- R23: an entry of the claim queue. DESIGN CHOICE (log 11): its master is coded as a holder is (R184), SYSTEM 2 and
PANEL 3. -/
def claimItems (c : Claim) : List Item := [.u8 (holderCode (some c.master.party)), .u8 c.job.code, flagItem c.blind]

/-- R65 and R70: the episode record and the outcome of the Caller Buffer. -/
def episodeItems (e : Episode) (c : CallerBuffer) : List Item :=
  [.u8 (flagCode e.active), .u8 (flagCode (!e.firstInProgress)), .u8 (flagCode (!e.inCycle)), .u8 e.firstBursts,
   .u8 e.pattern, .u16 e.ringCount] ++ e.startTime.items ++ [.u16 e.seconds, optU8 e.threshold] ++
    [.u8 c.status.code] ++ digitList c.number ++ nameList c.name

/-- R76: the discrimination record; each field is absent while there is none. -/
def discrItems : Option Discrimination → List Item
  | some d =>
    [.u8 d.phase.code, optU8 d.greeting, .u16 d.heard] ++ listItems (fun x => [.u8 x.val]) d.code ++
      [.u16 d.codeDigits, .u8 d.wrong]
  | none => [.absent 1, .absent 1, .absent 2, .u8 0, .absent 2, .absent 1]

/-- R98. -/
def PumpMode.code : PumpMode → Nat
  | .none => 0
  | .data => 1
  | .fax => 2

/-- R98. -/
def PumpRole.code : PumpRole → Nat
  | .caller => 0
  | .answerer => 1

/-- R98: the request, NONE 0, RATE 1 with its rung, RETRAIN 2. -/
def PumpRequest.items : PumpRequest → List Item
  | .none => [.u8 0, .absent 1]
  | .rate r => [.u8 1, .u8 r]
  | .retrain => [.u8 2, .absent 1]

/-- R98: the pump record in the order of its table. -/
def pumpItems (p : Pump) : List Item :=
  [.u8 p.mode.code, optU8 (p.role.map PumpRole.code), .u8 p.phase.code, optU8 p.rung, .u8 p.localCeiling,
   .u8 p.localFloor, optU8 p.peerMax, optU8 p.negCeiling, optU8 p.negFloor, .u8 p.below, .u8 p.above,
   .u8 p.retrains, flagItem p.linkStarted] ++ p.request.items

/-- R131. -/
def FaxRole.code : FaxRole → Nat
  | .sender => 0
  | .receiver => 1

/-- R131. -/
def FaxPlace.code : FaxPlace → Nat
  | .port => 0
  | .store => 1
  | .undecided => 2

/-- R131. -/
def FaxMore.code : FaxMore → Nat
  | .more => 0
  | .last => 1

/-- R131 and 12.3: the last frame is shown by its kind byte. -/
def FaxFrame.kind (f : FaxFrame) : Nat := (f.body.headD 0#8).toNat

/-- R131: the fax session record in the order of its table. -/
def faxItems (x : Fax) : List Item :=
  [optU8 (x.role.map FaxRole.code), .u8 x.place.code, optU8 (x.phase.map FaxPhase.code), optU8 x.rung, .u8 x.floor,
   .u8 x.ceiling, optU8 (x.resolution.map Resolution.code), .u16 x.scanMs, .u16 x.page, .u8 x.attempts,
   .u16 x.accepted, optU8 x.linkedId, optU32 x.pageStart, .u16 x.windows, .u16 x.badWindows, flagItem x.overflow,
   .u8 x.retries, optU8 (x.lastFrame.map FaxFrame.kind), optU8 (x.more.map FaxMore.code)]

/-- R152. -/
def VoiceState.code : VoiceState → Nat
  | .idle => 0
  | .playing => 1
  | .recording => 2
  | .paused => 3

/-- R152: the user, numbered in the order of the record's table. -/
def Party.userCode : Party → Nat
  | .auto => 0
  | .system => 1
  | .panel => 2

/-- R152. -/
def VoiceOperation.code : VoiceOperation → Nat
  | .play => 0
  | .record => 1
  | .tone => 2

/-- R152. -/
def Endpoint.code : Endpoint → Nat
  | .line => 0
  | .local => 1

/-- R152: the operation record and the resume record in the order of their table. -/
def voiceItems (o : VoiceOp) (resume : Option (Nat × Nat)) : List Item :=
  [.u8 o.state.code, optU8 (o.user.map Party.userCode), optU8 (o.operation.map VoiceOperation.code),
   optU8 (o.endpoint.map Endpoint.code), optU8 o.message, optU8 (o.kind.map MsgKind.code), optU8 o.slot,
   .u32 o.offset, flagItem o.stopOnDigit, flagItem o.vox, .wide o.maxCode, .wide o.written, .u16 o.loud,
   optU16 o.lastLoud, optU8 (o.pausedOp.map VoiceOperation.code), .u16 o.clamps, optU8 (resume.map Prod.fst),
   optU32 (resume.map Prod.snd)]

/-- R159. -/
def RemoteState.code : RemoteState → Nat
  | .prompting => 0
  | .playing => 1
  | .waiting => 2

/-- R159. -/
def ListInUse.code : ListInUse → Nat
  | .new => 0
  | .all => 1

/-- R159: the remote session record; each field is absent while there is none. -/
def remoteItems : Option Remote → List Item
  | some r =>
    [.u8 r.state.code] ++ listItems (fun i => [.u8 i]) r.newList ++ [optU8 (r.inUse.map ListInUse.code)] ++
      listItems (fun i => [.u8 i]) r.list ++ [optU8 r.cursor, .u8 r.prompts]
  | none => [.absent 1, .u8 0, .absent 1, .u8 0, .absent 1, .absent 1]

/-- R23 with R65, R76, R98, R131, R152 and R159: the results of READ CALL. DESIGN CHOICE (log 11): the records that those rules
add stand after the fields of R23, in the order of their chapters. -/
def readCallItems (s : State) : List Item :=
  [.u8 s.ccu.line.code, .u8 (flagCode s.relayNow), flagItem s.lif.lineInUse] ++
    callItems s.ccu.call s.ccu.dialler.cursor ++ listItems claimItems s.ccu.claims ++
    episodeItems s.rau.episode s.rau.caller ++ discrItems s.rau.discr ++ pumpItems s.pump ++ faxItems s.fax ++
    voiceItems s.voice.op s.voice.resume ++ remoteItems s.voice.remote

/-- READ CALL (R23). -/
def execReadCall (f : Frame) (s : State) : Step := command f 0x20#8 s (readOnly (fun s => ⟨.ok, readCallItems s⟩))

/-! ### READ HISTORY (R19, R23) -/

/-- R19: an entry of the Call History. -/
def historyItems (e : HistoryEntry) : List Item :=
  [.u16 e.number, .u8 e.direction.code, optU8 (e.callerStatus.map CallerStatus.code)] ++ digitList e.callerNumber ++
    nameList e.callerName ++ [.u8 e.outcome.code, optU8 e.linkedId] ++ e.startTime.items ++ [.u16 e.seconds]

/-- R185: a list result of as many whole items as fit, with `used` bytes of other results beside it. -/
def fittedList (used : Nat) (l : List (List Item)) : List Item :=
  let fitted := fitItems (Config.replyMax - replyOverhead - 1 - used) l
  .u8 fitted.length :: fitted.flatten

/-- R23: READ HISTORY. -/
def historyReply (first count : Byte) (s : State) : Reply :=
  if s.ccu.history.length ≤ first.toNat ∨ count = 0#8 then .plain .badParameter
  else ⟨.ok, fittedList 0 (((s.ccu.history.drop first.toNat).take count.toNat).map historyItems)⟩

/-- READ HISTORY (R23). -/
def execReadHistory (f : Frame) (first count : Byte) (s : State) : Step :=
  command f 0x21#8 s (readOnly (historyReply first count))

/-! ### READ TIMERS (R24, R37) -/

/-- R24. -/
def TimerMode.code : TimerMode → Nat
  | .off => 0
  | .oneShot => 1
  | .repeat => 2
  | .alternate => 3
  | .capture => 4

/-- R24. -/
def Half.code : Half → Nat
  | .a => 0
  | .b => 1

/-- R24. -/
def OutputUse.code : OutputUse → Nat
  | .none => 0
  | .relayBreak => 1
  | .generatorEnable => 2

/-- R24. -/
def CaptureEdge.code : CaptureEdge → Nat
  | .none => 0
  | .asserted => 1
  | .deasserted => 2

/-- R24. -/
def TimerOwner.code : TimerOwner → Nat
  | .none => 0
  | .dialler => 1
  | .tnu => 2
  | .rau => 3
  | .ccu => 4
  | .lke => 5
  | .dpu => 6
  | .spt => 7
  | .vce => 8
  | .tmb => 9

end Sys2Proof.Machine

namespace Sys2Proof

/-- R85: line receive 0, microphone 1. -/
def AudioPath.code : AudioPath → Nat
  | .line => 0
  | .mic => 1

end Sys2Proof

namespace Sys2Proof.Machine

/-- R24: the restart source, its kind, then the channel, the path and the threshold of the kinds that have them. -/
def RestartSource.items : RestartSource → List Item
  | .none => [.u8 0, .absent 1, .absent 1, .absent 2]
  | .compare n => [.u8 1, .u8 n, .absent 1, .absent 2]
  | .block p t => [.u8 2, .absent 1, .u8 p.code, .u16 t]
  | .portByte => [.u8 3, .absent 1, .absent 1, .absent 2]

/-- R24: a channel record in the order of its table. -/
def channelItems (c : Channel) : List Item :=
  [.u8 c.mode.code, .u16 c.count, .u16 c.compareA, .u16 c.compareB, .u16 c.preloadA, flagItem c.pendingA,
   .u16 c.preloadB, flagItem c.pendingB, .u8 c.active.code, flagItem c.high, flagItem c.stopAfterB, .u8 c.use.code,
   .u16 c.captured, .u8 c.edge.code] ++ c.restart.items ++ [.u8 c.owner.code]

/-- READ TIMERS (R37). -/
def execReadTimers (f : Frame) (s : State) : Step :=
  command f 0x24#8 s (readOnly (fun s => ⟨.ok, s.timers.toList.flatMap channelItems⟩))

/-! ### The Calendar (R39, R40) -/

/-- READ CLOCK (R40). -/
def execReadClock (f : Frame) (s : State) : Step :=
  command f 0x26#8 s (readOnly (fun s => ⟨.ok, s.calendar.time.items ++ [flagItem s.calendar.isSet]⟩))

/-- R40: SET CLOCK. -/
def takeSetClock (day hour minute second : Byte) (s : State) : State × Reply :=
  if day.toNat ≤ 6 ∧ hour.toNat ≤ 23 ∧ minute.toNat ≤ 59 ∧ second.toNat ≤ 59 then
    ({ s with
       calendar := ⟨⟨day.toNat, hour.toNat, minute.toNat, second.toNat⟩, true⟩,
       timers.e7 := { s.timers.e7 with count := 0, signalA := false } },
     .plain .ok)
  else refuse s .badParameter

/-- SET CLOCK (R40). -/
def execSetClock (f : Frame) (day hour minute second : Byte) (s : State) : Step :=
  command f 0x30#8 s (takeSetClock day hour minute second)

end Sys2Proof.Machine
end

