-- ==== Sys2Proof/Machine/SettingsOps.lean ====
section
/-! DEFINITION. SET SETTING and READ SETTING (R178) over the settings index of 12.6. Numbers are two bytes, enumerations one,
each with the forms that 12.6 gives; an OK reply of SET SETTING reports the value taken. -/

namespace Sys2Proof.Machine

/-! ### Forms (12.6) -/

/-- A setting that is a number held within a range. -/
structure NumSetting where
  lo : Nat
  hi : Nat
  get : Settings → Nat
  set : Settings → Nat → Settings

/-- A setting that is an enumeration of `n` values, numbered from 0 in the order of its rule. -/
structure EnumSetting where
  n : Nat
  get : Settings → Nat
  set : Settings → Nat → Settings

/-- A two-byte number. -/
def numberForm : List Byte → Option Nat
  | [lo, hi] => some (lo.toNat + 256 * hi.toNat)
  | _ => none

/-- A one-byte enumeration. -/
def enumForm : List Byte → Option Nat
  | [b] => some b.toNat
  | _ => none

/-! ### Codes of the enumerations -/

/-- R73. -/
def AnswerAction.code : AnswerAction → Nat
  | .discriminate => 0
  | .fax => 1
  | .data => 2
  | .ignore => 3

/-- R73. -/
def answerActionOf : Nat → AnswerAction
  | 0 => .discriminate
  | 1 => .fax
  | 2 => .data
  | _ => .ignore

/-- R130. -/
def LinkPolicy.code : LinkPolicy → Nat
  | .require => 0
  | .prefer => 1
  | .directOnly => 2

/-- R130. -/
def linkPolicyOf : Nat → LinkPolicy
  | 0 => .require
  | 1 => .prefer
  | _ => .directOnly

/-- The code of an enumeration of two values of which the first is the one that `b` denies. -/
def secondCode (b : Bool) : Nat := if b = true then 1 else 0

/-- The code of an enumeration of two values of which the first is the one that `b` affirms: ON 0, OFF 1. -/
def firstCode (b : Bool) : Nat := if b = true then 0 else 1

/-! ### The index (12.6) -/

/-- 12.6: the settings of Chapters 1, 3 and 4 that are clamped numbers. -/
def callNumSetting : Nat → Option NumSetting
  | 0x03 => some ⟨20, 200, (·.pulseBreakMs), fun t n => { t with pulseBreakMs := n }⟩
  | 0x04 => some ⟨20, 200, (·.pulseMakeMs), fun t n => { t with pulseMakeMs := n }⟩
  | 0x05 => some ⟨200, 2000, (·.interdigitMs), fun t n => { t with interdigitMs := n }⟩
  | 0x06 => some ⟨40, 500, (·.dtmfOnMs), fun t n => { t with dtmfOnMs := n }⟩
  | 0x07 => some ⟨40, 500, (·.dtmfOffMs), fun t n => { t with dtmfOffMs := n }⟩
  | 0x08 => some ⟨100, 10000, (·.pauseMs), fun t n => { t with pauseMs := n }⟩
  | 0x09 => some ⟨50, 1000, (·.flashMs), fun t n => { t with flashMs := n }⟩
  | 0x0A => some ⟨1000, 30000, (·.dialToneWaitMs), fun t n => { t with dialToneWaitMs := n }⟩
  | 0x0B => some ⟨5000, 65535, (·.noAnswerMs), fun t n => { t with noAnswerMs := n }⟩
  | 0x10 => some ⟨0, 80, (·.toneLevel), fun t n => { t with toneLevel := n }⟩
  | 0x23 => some ⟨1, 15, (·.ringsToAnswer.e1), fun t n => { t with ringsToAnswer.e1 := n }⟩
  | 0x24 => some ⟨1, 15, (·.ringsToAnswer.e2), fun t n => { t with ringsToAnswer.e2 := n }⟩
  | 0x25 => some ⟨1, 15, (·.ringsToAnswer.e3), fun t n => { t with ringsToAnswer.e3 := n }⟩
  | 0x27 => some ⟨1, 15, (·.tollSaverRings), fun t n => { t with tollSaverRings := n }⟩
  | _ => none

/-- 12.6: the settings of Chapters 6 to 10 that are clamped numbers. -/
def engineNumSetting : Nat → Option NumSetting
  | 0x3A => some ⟨200, 5000, (·.carrierLossMs), fun t n => { t with carrierLossMs := n }⟩
  | 0x3B => some ⟨0, 80, (·.carrierLevel), fun t n => { t with carrierLevel := n }⟩
  | 0x41 => some ⟨1, 7, (·.linkWindow), fun t n => { t with linkWindow := n }⟩
  | 0x42 => some ⟨32, 128, (·.linkPayload), fun t n => { t with linkPayload := n }⟩
  | 0x43 => some ⟨500, 10000, (·.linkTimerMs), fun t n => { t with linkTimerMs := n }⟩
  | 0x44 => some ⟨1, 30, (·.linkRetryLimit), fun t n => { t with linkRetryLimit := n }⟩
  | 0x45 => some ⟨200, 5000, (·.escapeGuardMs), fun t n => { t with escapeGuardMs := n }⟩
  | 0x50 => some ⟨0, 64, (·.faxMargin), fun t n => { t with faxMargin := n }⟩
  | 0x58 => some ⟨0, 80, (·.silenceLevel), fun t n => { t with silenceLevel := n }⟩
  | 0x59 => some ⟨1, 30, (·.voxTimeoutS), fun t n => { t with voxTimeoutS := n }⟩
  | 0x5A => some ⟨5, 600, (·.maxMessageS), fun t n => { t with maxMessageS := n }⟩
  | 0x5B => some ⟨0, 10, (·.minMessageS), fun t n => { t with minMessageS := n }⟩
  | 0x60 => some ⟨0, 1000, (·.lowSpaceGranules), fun t n => { t with lowSpaceGranules := n }⟩
  | _ => none

/-- 12.6: the settings that are clamped numbers. -/
def numSettingOf (id : Nat) : Option NumSetting := callNumSetting id <|> engineNumSetting id

/-- 12.6: the settings that are enumerations. -/
def enumSettingOf : Nat → Option EnumSetting
  | 0x01 => some ⟨2, fun t => secondCode t.pickupHangsUp, fun t n => { t with pickupHangsUp := n == 1 }⟩
  | 0x02 => some ⟨2, fun t => secondCode t.dialPulse, fun t n => { t with dialPulse := n == 1 }⟩
  | 0x20 => some ⟨4, (·.answerAction.e1.code), fun t n => { t with answerAction.e1 := answerActionOf n }⟩
  | 0x21 => some ⟨4, (·.answerAction.e2.code), fun t n => { t with answerAction.e2 := answerActionOf n }⟩
  | 0x22 => some ⟨4, (·.answerAction.e3.code), fun t n => { t with answerAction.e3 := answerActionOf n }⟩
  | 0x26 => some ⟨2, fun t => firstCode t.tollSaver, fun t n => { t with tollSaver := n == 0 }⟩
  | 0x28 => some ⟨2, fun t => secondCode t.faxToStore, fun t n => { t with faxToStore := n == 1 }⟩
  | 0x29 => some ⟨2, fun t => secondCode t.quietHangsUp, fun t n => { t with quietHangsUp := n == 1 }⟩
  | 0x40 => some ⟨3, (·.linkPolicy.code), fun t n => { t with linkPolicy := linkPolicyOf n }⟩
  | 0x51 => some ⟨2, fun t => secondCode t.faxFine, fun t n => { t with faxFine := n == 1 }⟩
  | _ => none

/-! ### Writes -/

/-- A value that is taken: saved at once, and reported. -/
def takeValue (s : State) (t : Settings) (value : List Item) : State × Reply := (s.saveSettings t, ⟨.ok, value⟩)

/-- 12.6: a clamped number. -/
def setNumber (x : NumSetting) (v : List Byte) (s : State) : State × Reply :=
  match numberForm v with
  | none => refuse s .badParameter
  | some n => takeValue s (x.set s.settings (clamp x.lo x.hi n)) [.u16 (clamp x.lo x.hi n)]

/-- 12.6: an enumeration. -/
def setEnum (x : EnumSetting) (v : List Byte) (s : State) : State × Reply :=
  match enumForm v with
  | none => refuse s .badParameter
  | some n => if n < x.n then takeValue s (x.set s.settings n) [.u8 n] else refuse s .badParameter

/-- R73: `remote_enable`, ON 0 and OFF 1; ON is refused while the code is unset. -/
def setRemoteEnable (v : List Byte) (s : State) : State × Reply :=
  match enumForm v with
  | some 0 =>
    if s.settings.remoteCode = none then refuse s .badParameter
    else takeValue s { s.settings with remoteEnable := true } [.u8 0]
  | some 1 => takeValue s { s.settings with remoteEnable := false } [.u8 1]
  | _ => refuse s .badParameter

/-- 12.6: the bytes of `remote_code`. -/
def remoteCodeItems : Option (List Nat) → List Item
  | some c => c.map (fun d => .u8 d)
  | none => [.u8 0xFF, .u8 0xFF, .u8 0xFF, .u8 0xFF]

/-- R73 and 12.6: `remote_code`. -/
def setRemoteCode (v : List Byte) (s : State) : State × Reply :=
  if v = [0xFF#8, 0xFF#8, 0xFF#8, 0xFF#8] then
    if s.settings.remoteEnable = true then refuse s .badParameter
    else takeValue s { s.settings with remoteCode := none } (remoteCodeItems none)
  else if v.length = 4 ∧ v.all (fun b => decide (b.toNat ≤ 9)) = true then
    takeValue s { s.settings with remoteCode := some (v.map BitVec.toNat) } (remoteCodeItems (some (v.map BitVec.toNat)))
  else refuse s .badParameter

/-- R52: the class of a byte; none for one outside the five values. -/
def cadenceClassOf (b : Byte) : Option CadenceClass :=
  if b = 0#8 then some .dial else if b = 1#8 then some .busy else if b = 2#8 then some .ringback
  else if b = 3#8 then some .congestion else if b = 4#8 then some .unused else none

/-- R52. -/
def CadenceClass.code : CadenceClass → Nat
  | .dial => 0
  | .busy => 1
  | .ringback => 2
  | .congestion => 3
  | .unused => 4

/-- R52 and 12.6: a cadence entry from its form, with its times and cycles clamped. -/
def cadenceForm : List Byte → Option CadenceEntry
  | [k, a0, a1, b0, b1, c0, c1, d0, d1, n] =>
    (cadenceClassOf k).map (fun cls =>
      { cls := cls, onMin := clamp 16 8000 (a0.toNat + 256 * a1.toNat), onMax := clamp 16 8000 (b0.toNat + 256 * b1.toNat),
        offMin := clamp 16 8000 (c0.toNat + 256 * c1.toNat), offMax := clamp 16 8000 (d0.toNat + 256 * d1.toNat),
        cycles := clamp 1 4 n.toNat })
  | _ => none

/-- 12.6: a cadence entry in its form. -/
def CadenceEntry.items (e : CadenceEntry) : List Item :=
  [.u8 e.cls.code, .u16 e.onMin, .u16 e.onMax, .u16 e.offMin, .u16 e.offMax, .u8 e.cycles]

/-- R52: a cadence entry; its match count becomes 0. -/
def setCadence (i : Nat) (v : List Byte) (s : State) : State × Reply :=
  match cadenceForm v with
  | none => refuse s .badParameter
  | some e =>
    if e.onMin ≤ e.onMax ∧ e.offMin ≤ e.offMax then
      takeValue { s with tone.classifier.counts := s.tone.classifier.counts.set i 0 }
        { s.settings with cadence := s.settings.cadence.set i e } e.items
    else refuse s .badParameter

/-- R99: the ladder is valid. -/
def ladderValid (t : Eight LadderPair) : Bool :=
  t.toList.all (fun p => decide (p.fall ≤ 377) && decide (p.rise ≤ 377)) &&
    (List.range 7).all (fun r =>
      decide ((t.get r).fall < (t.get (r + 1)).fall) && decide ((t.get (r + 1)).fall < (t.get r).rise)) &&
    decide (t.e7.fall < t.e7.rise)

/-- 12.6: a ladder pair from its form. -/
def ladderForm : List Byte → Option LadderPair
  | [f0, f1, r0, r1] => some ⟨f0.toNat + 256 * f1.toNat, r0.toNat + 256 * r1.toNat⟩
  | _ => none

/-- 12.6: a ladder pair in its form. -/
def LadderPair.items (p : LadderPair) : List Item := [.u16 p.fall, .u16 p.rise]

/-- R99: a rung's Fall and Rise pair. -/
def setLadder (r : Nat) (v : List Byte) (s : State) : State × Reply :=
  match ladderForm v with
  | none => refuse s .badParameter
  | some p =>
    let t := s.settings.ladder.set r p
    if ladderValid t = true then takeValue s { s.settings with ladder := t } p.items else refuse s .badLadder

/-- R100: `rung_floor`. -/
def setRungFloor (v : List Byte) (s : State) : State × Reply :=
  match numberForm v with
  | none => refuse s .badParameter
  | some n =>
    if 7 < n ∨ s.settings.rungCeiling < n then refuse s .badParameter
    else takeValue s { s.settings with rungFloor := n } [.u16 n]

/-- R100: `rung_ceiling`. -/
def setRungCeiling (v : List Byte) (s : State) : State × Reply :=
  match numberForm v with
  | none => refuse s .badParameter
  | some n =>
    if 7 < n ∨ n < s.settings.rungFloor then refuse s .badParameter
    else takeValue s { s.settings with rungCeiling := n } [.u16 n]

/-- R130: `escape_byte`. -/
def setEscapeByte (v : List Byte) (s : State) : State × Reply :=
  match numberForm v with
  | none => refuse s .badParameter
  | some n =>
    if 255 < n then refuse s .badParameter else takeValue s { s.settings with escapeByte := n } [.u16 n]

/-- R180: a group's priority at the port of the command; it is not saved. -/
def setPriority (p : Port) (g : Nat) (v : List Byte) (s : State) : State × Reply :=
  match numberForm v with
  | none => refuse s .badParameter
  | some n =>
    (s.updPort p (fun q => { q with notices.priorities := q.notices.priorities.set g (clamp 0 7 n) }),
     ⟨.ok, [.u16 (clamp 0 7 n)]⟩)

/-- R173: after a write of `low_space_granules` that is taken the low flag is judged. -/
def judgeLowAfter (id : Nat) (r : State × Reply) : State × Reply :=
  if id = 0x60 ∧ r.2.status = .ok then (r.1.judgeLow, r.2) else r

/-- R178: SET SETTING, by the settings index. -/
def setSetting (p : Port) (id : Nat) (v : List Byte) (s : State) : State × Reply :=
  match numSettingOf id, enumSettingOf id with
  | some x, _ => judgeLowAfter id (setNumber x v s)
  | none, some x => setEnum x v s
  | none, none =>
    if 0x11 ≤ id ∧ id ≤ 0x16 then setCadence (id - 0x11) v s
    else if id = 0x2A then setRemoteEnable v s
    else if id = 0x2B then setRemoteCode v s
    else if 0x30 ≤ id ∧ id ≤ 0x37 then setLadder (id - 0x30) v s
    else if id = 0x38 then setRungFloor v s
    else if id = 0x39 then setRungCeiling v s
    else if id = 0x46 then setEscapeByte v s
    else if 0x70 ≤ id ∧ id ≤ 0x75 then setPriority p (id - 0x70) v s
    else refuse s .badParameter

/-- SET SETTING (R178). -/
def execSetSetting (f : Frame) (id : Byte) (value : List Byte) (s : State) : Step :=
  command f 0x31#8 s (setSetting f.port id.toNat value)

/-! ### Reads -/

/-- 12.6: the value of a saved setting in its form; none for an id that no saved setting has. -/
def savedItems (t : Settings) (id : Nat) : Option (List Item) :=
  match numSettingOf id, enumSettingOf id with
  | some x, _ => some [.u16 (x.get t)]
  | none, some x => some [.u8 (x.get t)]
  | none, none =>
    if 0x11 ≤ id ∧ id ≤ 0x16 then some (t.cadence.get (id - 0x11)).items
    else if id = 0x2A then some [.u8 (firstCode t.remoteEnable)]
    else if id = 0x2B then some (remoteCodeItems t.remoteCode)
    else if 0x30 ≤ id ∧ id ≤ 0x37 then some (t.ladder.get (id - 0x30)).items
    else if id = 0x38 then some [.u16 t.rungFloor]
    else if id = 0x39 then some [.u16 t.rungCeiling]
    else if id = 0x46 then some [.u16 t.escapeByte]
    else none

/-- R178: the value in force of a setting in its form; none for an id that no block owns. -/
def settingItems (p : Port) (id : Nat) (s : State) : Option (List Item) :=
  if 0x70 ≤ id ∧ id ≤ 0x75 then some [.u16 ((s.port p).notices.priorities.get (id - 0x70))]
  else savedItems s.settings id

/-- R178: READ SETTING. -/
def settingReply (p : Port) (id : Nat) (s : State) : Reply :=
  match settingItems p id s with
  | some items => ⟨.ok, items⟩
  | none => .plain .badParameter

/-- READ SETTING (R178). -/
def execReadSetting (f : Frame) (id : Byte) (s : State) : Step :=
  command f 0x32#8 s (readOnly (settingReply f.port id.toNat))

/-! ### The store header in the DRAM (R163, 12.5) -/

/-- 12.5: the bytes of the store header: the signature, the installed granule count, the last id allocated, and every saved
setting in ascending id order, each in its form. -/
def StoreHeader.bytes (h : StoreHeader) : List Byte :=
  h.signature ++ leBytes 2 h.installed ++ leBytes 1 h.lastId ++
    (List.range 256).flatMap (fun id => ((savedItems h.settings id).getD []).flatMap Item.bytes)

/-- R163: the byte of the DRAM at an address. Granule 0 holds the header, which State keeps read (log 12); what the start-up
check reads there (R174) is what the last header write laid out. -/
def Store.dramByte (t : Store) (a : Nat) : Byte :=
  if a < t.header.bytes.length then t.header.bytes.getD a 0#8 else Mem.read t.mem a

end Sys2Proof.Machine
end

