-- ==== Sys2Proof/Machine/StoreCommands.lean ====
section
/-! DEFINITION. The store commands of the masters (R168 to R172): the directory commands, FORMAT, the transfer channels and
their FIFOs. -/

namespace Sys2Proof.Machine

/-! ### LIST and READ ENTRY (R168) -/

/-- R165. -/
def EntryState.code : EntryState → Nat
  | .opened => 0
  | .complete => 1
  | .doomed => 2

/-- R168: what LIST gives for an entry. -/
def Entry.listed (e : Entry) : List Item :=
  [.u8 e.id, .u8 e.kind.code, .u8 e.state.code, flagItem e.isNew, optU8 e.slot] ++ e.created.items ++
    [.u32 e.length, .u8 e.pageCount, .u8 e.holds]

/-- R168: the entries that LIST counts. -/
def Store.listable (t : Store) : List Entry := t.dir.filter (fun e => decide (e.state ≠ .doomed))

/-- R173: the alert kinds as flags, in the order of their table (DESIGN CHOICE, log 11). -/
def AlertKinds.items (a : AlertKinds) : List Item := [flagItem a.full, flagItem a.low, flagItem a.lost, flagItem a.formatted]

/-- R168: the store summary. -/
def summaryItems (s : State) (p : Port) : List Item :=
  [.u16 s.store.installed, .u16 s.freeCount, .u8 s.store.dir.length] ++ (s.port p).alerts.items

/-- R168: LIST; the reply clears the port's alert kinds. -/
def takeList (p : Port) (first count : Byte) (s : State) : State × Reply :=
  if 1 ≤ count.toNat ∧ count.toNat ≤ 16 then
    (s.updPort p (fun q => { q with alerts := .none }),
     ⟨.ok, fittedList (itemsSize (summaryItems s p))
        (((s.store.listable.drop first.toNat).take count.toNat).map Entry.listed) ++ summaryItems s p⟩)
  else refuse s .badParameter

/-- LIST (R168). -/
def execList (f : Frame) (first count : Byte) (s : State) : Step := command f 0x50#8 s (takeList f.port first count)

/-- R165: the fields of an entry in the order of their table. -/
def Entry.items (e : Entry) : List Item :=
  [.u8 e.id, .u8 e.kind.code, .u8 e.state.code, flagItem e.isNew, optU8 e.slot] ++ e.created.items ++
    [.u32 e.length, .u16 e.granules.length, optU16 e.granules.head?, optU16 e.granules.getLast?,
     optU8 (e.callerStatus.map CallerStatus.code)] ++ digitList e.callerNumber ++ nameList e.callerName ++
    [optU16 e.callNumber, .u8 e.pageCount] ++ listItems (fun o => [.u32 o]) e.pageTable ++ [.u8 e.holds]

/-- R168: READ ENTRY. -/
def readEntry (id : Byte) (s : State) : Reply :=
  match s.store.visible id.toNat with
  | some e => ⟨.ok, e.items⟩
  | none => .plain .noSuchMessage

/-- READ ENTRY (R168). -/
def execReadEntry (f : Frame) (id : Byte) (s : State) : Step := command f 0x51#8 s (readOnly (readEntry id))

/-! ### DELETE and MARK HEARD (R167, R168) -/

/-- R168: DELETE reports whether the entry was removed, 0, or made DOOMED, 1. -/
def takeDelete (id : Byte) (s : State) : State × Reply :=
  match s.deleteRule id.toNat with
  | (t, .removed) => (t, ⟨.ok, [.u8 0]⟩)
  | (t, .doomed) => (t, ⟨.ok, [.u8 1]⟩)
  | (_, .isOpen) => refuse s .msgOpen
  | (_, .absent) => refuse s .noSuchMessage

/-- DELETE (R167, R168). -/
def execDelete (f : Frame) (id : Byte) (s : State) : Step := command f 0x52#8 s (takeDelete id)

/-- R168: MARK HEARD. -/
def takeMarkHeard (id : Byte) (s : State) : State × Reply :=
  match s.store.visible id.toNat with
  | none => refuse s .noSuchMessage
  | some e => if e.state = .opened then refuse s .msgOpen else (s.clearNew id.toNat, .plain .ok)

/-- MARK HEARD (R168). -/
def execMarkHeard (f : Frame) (id : Byte) (s : State) : Step := command f 0x53#8 s (takeMarkHeard id)

/-! ### FORMAT (R169) -/

/-- R169, steps 1 to 4: the store with an empty directory and every usable granule free. -/
def Store.formatted (t : Store) : Store :=
  { t with
    dir := [], free := usableGranules t.installed, tables := none,
    header := { t.header with signature := Config.signature, installed := t.installed, lastId := 0 } }

/-- R169: an entry stands in the way of FORMAT. -/
def Entry.inUse (e : Entry) : Bool := e.state == .opened || decide (0 < e.holds)

/-- R169: FORMAT. -/
def takeFormat (s : State) : State × Reply :=
  if s.store.dir.any Entry.inUse = true then refuse s .inUse
  else
    let s : State := { s with store := s.store.formatted, voice.resume := none }
    (s.judgeLow.storeAlert .formatted, .plain .ok)

/-- FORMAT (R169). -/
def execFormat (f : Frame) (s : State) : Step := command f 0x54#8 s takeFormat

/-! ### Transfer channels (R170) -/

/-- A port's transfer channel. -/
def State.channel (s : State) (p : Port) : Transfer := (s.port p).transfer

/-- A port's transfer channel changed. -/
def State.updChannel (s : State) (p : Port) (g : Transfer → Transfer) : State :=
  s.updPort p (fun q => { q with transfer := g q.transfer })

/-- R170: the states in which another OPEN TRANSFER is refused. -/
def Transfer.busy (t : Transfer) : Bool := t.state == .active || t.state == .full

/-- The hold of a channel on its message is released. -/
def State.releaseChannel (s : State) (p : Port) : State :=
  match (s.channel p).message with
  | some id => s.release id
  | none => s

/-- R170: a READ whose remaining count is 0 and whose FIFO is empty becomes DONE. -/
def State.judgeDone (s : State) (p : Port) : State :=
  let t := s.channel p
  if t.direction = .read ∧ t.state = .active ∧ t.remaining = 0 ∧ t.fifo = [] then
    ((s.updChannel p (fun t => { t with state := .done })).releaseChannel p).raiseAt p .transferDone
  else s

/-- R170: an OPEN TRANSFER READ whose entry may be read. -/
def openRead (p : Port) (e : Entry) (offset count : Nat) (s : State) : State × Reply :=
  if e.length < offset then refuse s .badParameter
  else
    let n := min count (e.length - offset)
    let s := (s.hold e.id).updChannel p
      (fun t => { t with direction := .read, message := some e.id, offset := offset, remaining := n, state := .active,
                         fifo := [] })
    (s.judgeDone p, ⟨.ok, [.u32 n]⟩)

/-- R170: OPEN TRANSFER READ. -/
def takeOpenRead (p : Port) (id : Byte) (offset count : U32) (s : State) : State × Reply :=
  if (s.channel p).busy = true then refuse s .channelBusy
  else
    match s.store.visible id.toNat with
    | none => refuse s .noSuchMessage
    | some e => if e.state = .opened then refuse s .msgOpen else openRead p e offset.toNat count.toNat s

/-- R184: the first parameter of OPEN TRANSFER, READ 0 or WRITE 1; none for another value. -/
def directionOf (b : Byte) : Option TransferDirection :=
  if b = 0#8 then some .read else if b = 1#8 then some .write else none

/-- R178 and R184: an OPEN TRANSFER whose parameters are those of the direction `d`. With another direction they are of the
wrong number and size, and with none they are outside their values. -/
def openTransfer (d : TransferDirection) (direction : Byte) (body : State → State × Reply) (s : State) : State × Reply :=
  if directionOf direction = some d then body s else refuse s .badParameter

/-- OPEN TRANSFER READ (R170). -/
def execOpenTransferRead (f : Frame) (head : TransferHead) (offset count : U32) (s : State) : Step :=
  command f 0x55#8 s (openTransfer .read head.direction (takeOpenRead f.port head.subject offset count))

/-- R170: how many bytes the channel moves into its FIFO now. -/
def Transfer.fillCount (t : Transfer) : Nat := min t.remaining (Config.fifoMax - t.fifo.length)

/-- R170: the bytes of an entry from an offset on. -/
def Store.entryBytes (t : Store) (e : Entry) (offset n : Nat) : List Byte :=
  (List.range n).map (fun k => t.entryByte e (offset + k))

/-- R170: an ACTIVE READ moves bytes into its FIFO while there is room. -/
def State.fillFifo (s : State) (p : Port) : State :=
  let t := s.channel p
  match t.message.bind s.store.find with
  | none => s
  | some e =>
    if t.direction = .read ∧ t.state = .active then
      s.updChannel p
        (fun t => { t with fifo := t.fifo ++ s.store.entryBytes e t.offset t.fillCount, offset := t.offset + t.fillCount,
                           remaining := t.remaining - t.fillCount })
    else s

/-- TRANSFER_FIFO_FILL (R170). -/
def execTransferFifoFill (p : Port) (s : State) : Step := finish ((s.fillFifo p).judgeDone p)

/-- R170. -/
def TransferState.code : TransferState → Nat
  | .idle => 0
  | .active => 1
  | .full => 2
  | .done => 3

/-- R170: READ CHUNK. -/
def takeReadChunk (p : Port) (count : Byte) (s : State) : State × Reply :=
  let t := s.channel p
  if count.toNat < 1 ∨ Config.chunkMax < count.toNat then refuse s .badParameter
  else if t.state = .idle ∨ t.direction = .write then refuse s .wrongPhase
  else
    let s := (s.updChannel p (fun t => { t with fifo := t.fifo.drop count.toNat })).judgeDone p
    (s, ⟨.ok, listItems (fun b => [.u8 b.toNat]) (t.fifo.take count.toNat) ++
      [.u32 t.remaining, .u8 (s.channel p).state.code]⟩)

/-- READ CHUNK (R170). -/
def execReadChunk (f : Frame) (count : Byte) (s : State) : Step := command f 0x56#8 s (takeReadChunk f.port count)

/-! ### Writing (R171) -/

/-- R171: the kind and the slot of an OPEN TRANSFER WRITE. -/
def writeKind (kind slot : Byte) : Option (MsgKind × Option Nat) :=
  match msgKindOf kind with
  | some .memo => some (.memo, none)
  | some .faxOut => some (.faxOut, none)
  | some .greeting => if slot.toNat ≤ 3 then some (.greeting, some slot.toNat) else none
  | _ => none

/-- R171: an OPEN TRANSFER WRITE whose parameters are within their values. -/
def takeGoodOpenWrite (p : Port) (kind : MsgKind) (slot : Option Nat) (s : State) : State × Reply :=
  if (s.channel p).busy = true then refuse s .channelBusy
  else
    match s.create kind slot false with
    | (t, none) => (t, .plain .storeFull)
    | (t, some id) =>
      (t.updChannel p
         (fun c => { c with direction := .write, message := some id, offset := 0, remaining := 0, state := .active,
                            mark := false, pageStart := 0, fifo := [] }),
       ⟨.ok, [.u8 id]⟩)

/-- R171: OPEN TRANSFER WRITE. -/
def takeOpenWrite (p : Port) (kind slot : Byte) (s : State) : State × Reply :=
  match writeKind kind slot with
  | some k => takeGoodOpenWrite p k.1 k.2 s
  | none => refuse s .badParameter

/-- OPEN TRANSFER WRITE (R171). -/
def execOpenTransferWrite (f : Frame) (head : TransferHead) (slot : Byte) (s : State) : Step :=
  command f 0x55#8 s (openTransfer .write head.direction (takeOpenWrite f.port head.subject slot))

/-- The kind of a live entry is FAX_OUT. -/
def State.isFaxOut (s : State) (id : Nat) : Bool := (s.store.find id).any (fun e => e.kind == .faxOut)

/-- The page count of a live entry. -/
def State.pagesOf (s : State) (id : Nat) : Nat := ((s.store.find id).map Entry.pageCount).getD 0

/-- R171: a page-end mark has been taken; after the 32nd the channel is FULL. -/
def State.pageMarkTaken (s : State) (p : Port) (id : Nat) : State :=
  let s := s.updEntry id
    (fun e => { e with pageCount := e.pageCount + 1, pageTable := e.pageTable ++ [(s.channel p).pageStart] })
  s.updChannel p
    (fun t => { t with mark := false, pageStart := t.offset,
                       state := if Config.pagesMax ≤ s.pagesOf id then .full else t.state })

/-- R171: the page marks followed through a byte of a FAX_OUT. -/
def State.followPageMark (s : State) (p : Port) (id : Nat) (b : Byte) : State :=
  if s.isFaxOut id = true then
    if (s.channel p).mark = true then
      if b = 0x0C#8 then s.pageMarkTaken p id else s.updChannel p (fun t => { t with mark := false })
    else s.updChannel p (fun t => { t with mark := decide (b = 0x10#8) })
  else s

/-- R171: one byte of a chunk; an allocation that fails makes the channel FULL. -/
def State.writeByte (s : State) (p : Port) (id : Nat) (b : Byte) : State × Bool :=
  match s.appendByte id b with
  | (s, true) => ((s.updChannel p (fun t => { t with offset := t.offset + 1 })).followPageMark p id b, true)
  | (s, false) => (s.updChannel p (fun t => { t with state := .full }), false)

/-- R171: the bytes of a chunk, and how many of them are accepted: none while the channel is FULL. -/
def State.writeBytes (p : Port) (id : Nat) : List Byte → State → State × Nat
  | [], s => (s, 0)
  | b :: rest, s =>
    if (s.channel p).state = .full then (s, 0)
    else
      match s.writeByte p id b with
      | (s, true) =>
        match State.writeBytes p id rest s with
        | (s, n) => (s, n + 1)
      | (s, false) => (s, 0)

/-- R171: WRITE CHUNK. -/
def takeWriteChunk (p : Port) (bytes : List Byte) (s : State) : State × Reply :=
  let t := s.channel p
  if bytes.length < 1 ∨ Config.chunkMax < bytes.length then refuse s .badParameter
  else
    match t.message with
    | some id =>
      if t.busy = false ∨ t.direction = .read then refuse s .wrongPhase
      else
        match State.writeBytes p id bytes s with
        | (s, n) => (s, ⟨.ok, [.u8 n]⟩)
    | none => refuse s .wrongPhase

/-- WRITE CHUNK (R171). -/
def execWriteChunk (f : Frame) (bytes : List Byte) (s : State) : Step :=
  command f 0x57#8 s (takeWriteChunk f.port bytes)

/-! ### CLOSE TRANSFER and ABORT (R172) -/

/-- R172: the channel becomes IDLE with its FIFO empty. -/
def State.idleChannel (s : State) (p : Port) : State := s.updChannel p (fun t => { t with state := .idle, fifo := [] })

/-- R172: a WRITE closes: a FAX_OUT is trimmed to the end of its last page-end mark, and the entry becomes COMPLETE. -/
def State.closeWrite (s : State) (p : Port) (id : Nat) : State :=
  let s := if s.isFaxOut id = true then s.trim id (s.channel p).pageStart else s
  (s.complete id false).idleChannel p

/-- R172: what the CLOSE of a WRITE reports: id, length and, for FAX_OUT, the page count. -/
def closeItems (s : State) (id : Nat) : List Item :=
  [.u8 id, .u32 (((s.store.find id).map Entry.length).getD 0)] ++
    (if s.isFaxOut id = true then [.u8 (s.pagesOf id)] else [])

/-- R172: a READ ends. -/
def State.endRead (s : State) (p : Port) : State :=
  (if (s.channel p).state = .active then s.releaseChannel p else s).idleChannel p

/-- R172: CLOSE TRANSFER. -/
def takeCloseTransfer (p : Port) (s : State) : State × Reply :=
  let t := s.channel p
  match t.state, t.direction, t.message with
  | .idle, _, _ => refuse s .wrongPhase
  | _, .write, some id => (s.closeWrite p id, ⟨.ok, closeItems (s.closeWrite p id) id⟩)
  | _, _, _ => (s.endRead p, .plain .ok)

/-- CLOSE TRANSFER (R172). -/
def execCloseTransfer (f : Frame) (s : State) : Step := command f 0x58#8 s (takeCloseTransfer f.port)

/-- R172: ABORT of a channel, which PORT RESET and the close-out use too: a READ releases its hold, a WRITE discards its
entry. -/
def State.abortChannel (s : State) (p : Port) : State :=
  let t := s.channel p
  match t.state, t.direction, t.message with
  | .idle, _, _ => s
  | _, .write, some id => (s.removeEntry id).idleChannel p
  | _, _, _ => s.endRead p

/-- R172: ABORT. -/
def takeAbort (p : Port) (s : State) : State × Reply :=
  if (s.channel p).state = .idle then refuse s .wrongPhase else (s.abortChannel p, .plain .ok)

/-- ABORT (R172). -/
def execAbort (f : Frame) (s : State) : Step := command f 0x59#8 s (takeAbort f.port)

end Sys2Proof.Machine
end

