-- ==== Sys2Proof/Machine/Notices.lean ====
section
/-! DEFINITION. The notice commands (R180, R181), GO DATA (R179) and PORT RESET (R183). -/

namespace Sys2Proof.Machine

/-- A port's notice controller. -/
def State.notices (s : State) (p : Port) : Controller := (s.port p).notices

/-- A port's notice controller changed. -/
def State.updNotices (s : State) (p : Port) (g : Controller → Controller) : State :=
  s.updPort p (fun q => { q with notices := g q.notices })

/-! ### TAKE NOTICE and NOTICE DONE (R181) -/

/-- R181: TAKE NOTICE delivers the source the arbiter chooses, or reports NONE. -/
def takeTakeNotice (p : Port) (s : State) : State × Reply :=
  match (s.notices p).choice with
  | some x => (s.updNotices p (fun c => c.deliver x), ⟨.ok, [.u8 x.code, .u8 ((s.notices p).mergeOf x)]⟩)
  | none => (s, ⟨.ok, [.u8 0, .absent 1]⟩)

/-- TAKE NOTICE (R181). The System Port does not know it (R178). -/
def execTakeNotice (f : Frame) (s : State) : Step := command f 0x70#8 s (takeTakeNotice f.port)

/-- R181: NOTICE DONE pops the top entry of the in-service stack. -/
def takeNoticeDone (p : Port) (s : State) : State × Reply :=
  (s.updNotices p (fun c => { c with stack := c.stack.tail }), .plain .ok)

/-- NOTICE DONE (R181). -/
def execNoticeDone (f : Frame) (s : State) : Step := command f 0x71#8 s (takeNoticeDone f.port)

/-! ### CLEAR NOTICE and MASK (R180) -/

/-- R180: the sources that the Panel Port's CLEAR NOTICE refuses. -/
def clearRefused (p : Port) (x : Source) : Bool := p == .panel && (x == .linkState || x == .rateChange)

/-- R180: CLEAR NOTICE. -/
def takeClearNotice (p : Port) (source : Byte) (s : State) : State × Reply :=
  match Source.ofCode source.toNat with
  | none => refuse s .badParameter
  | some x =>
    if clearRefused p x = true then refuse s .badParameter
    else (s.updNotices p (fun c => c.clear x), .plain .ok)

/-- CLEAR NOTICE (R180). -/
def execClearNotice (f : Frame) (source : Byte) (s : State) : Step :=
  command f 0x72#8 s (takeClearNotice f.port source)

/-- R180: the entries of a MASK read; none where a source or a flag is outside its values. -/
def maskEntries : List (Byte × Byte) → Option (List (Source × Bool))
  | [] => some []
  | e :: rest =>
    match Source.ofCode e.1.toNat, flagOf e.2, maskEntries rest with
    | some x, some m, some l => some ((x, m) :: l)
    | _, _, _ => none

/-- R180: mask flags applied in order. -/
def Controller.maskAll (c : Controller) (l : List (Source × Bool)) : Controller :=
  l.foldl (fun c e => c.mask e.1 e.2) c

/-- R180: what MASK reports of a source. -/
def SourceRecord.items (r : SourceRecord) : List Item := [flagItem r.pending, flagItem r.masked, .u8 r.merge]

/-- R180: the six groups in their fixed order. -/
def Group.all : List Group := [.line, .call, .connection, .fax, .voice, .store]

/-- R180: what MASK reports: every source, then the priority of every group. -/
def Controller.items (c : Controller) : List Item :=
  Source.all.flatMap (fun x => (c.sources.get x).items) ++ Group.all.map (fun g => .u16 (c.priorities.get g.index))

/-- R180: MASK. -/
def takeMask (p : Port) (entries : List (Byte × Byte)) (s : State) : State × Reply :=
  match maskEntries entries with
  | none => refuse s .badParameter
  | some l => (s.updNotices p (fun c => c.maskAll l), ⟨.ok, ((s.notices p).maskAll l).items⟩)

/-- MASK (R180). -/
def execMask (f : Frame) (entries : List (Byte × Byte)) (s : State) : Step :=
  command f 0x73#8 s (takeMask f.port entries)

/-! ### GO DATA (R179) -/

/-- R179: the Link Engine carries data. -/
def LinkMode.online : LinkMode → Bool
  | .linked | .direct => true
  | _ => false

/-- R179: GO DATA. The port enters DATA when the reply has left. -/
def takeGoData (p : Port) (s : State) : State × Reply :=
  if s.ccu.call.active = false ∨ s.ccu.call.job ≠ .data then refuse s .wrongPhase
  else if s.ccu.call.holder ≠ some p.party then refuse s .notHolder
  else if s.link.mode.online = false then refuse s .wrongPhase
  else ({ s with sys.goDataDue := true }, .plain .ok)

/-- GO DATA (R179). -/
def execGoData (f : Frame) (s : State) : Step := command f 0x78#8 s (takeGoData f.port)

/-! ### PORT RESET (R183) -/

/-- R21 and R183, step 1: the master's queued dial is removed, and its call ends. -/
def State.resetClaims (s : State) (p : Port) : State :=
  let s := s.withdraw p
  if s.holder = some p.party then s.callEnd .holderReset else s

/-- R158 and R183, step 2: the master's voice operation ends. DESIGN CHOICE (log 47): its reason is STOPPED, so that a LOCAL
play saves its resume record. -/
def State.resetVoice (s : State) (p : Port) : State :=
  if s.voice.op.user = some p.party then (s.endVoice .stopped).1 else s

/-- R183, steps 4 and 5: the digit queue, the alert kinds and the notice controller. -/
def PortState.clearWork (q : PortState) : PortState :=
  { q with digits := ⟨[], false⟩, alerts := .none, notices := .reset }

/-- R183: PORT RESET, in its order. -/
def State.portReset (s : State) (p : Port) : State :=
  (((s.resetClaims p).resetVoice p).abortChannel p).updPort p PortState.clearWork

/-- R183: PORT RESET reports a call ended, a dial withdrawn, and an operation or a transfer ended. -/
def takePortReset (p : Port) (s : State) : State × Reply :=
  (s.portReset p,
   ⟨.ok, [flagItem (s.holder == some p.party), flagItem (s.hasQueued p),
     flagItem (s.voice.op.user == some p.party || (s.channel p).busy)]⟩)

/-- PORT RESET (R183). -/
def execPortReset (f : Frame) (s : State) : Step := command f 0x79#8 s (takePortReset f.port)

end Sys2Proof.Machine
end

