-- ==== Sys2Proof/Machine/Ports.lean ====
section
/-! DEFINITION. The ports' own events (R176 to R179): frames that are not taken, replies and notice frames that leave, the
read periods of the Panel Port, the bytes of the data state, the escape (R129), and the RTS line. -/

namespace Sys2Proof.Machine

/-! ### Frames that are not taken (R177, R178) -/

/-- 12.1: the lead byte of a command frame. -/
abbrev commandLead : Byte := 0xC3#8

/-- R177: the length that the two length bytes give. -/
def lengthField : List Byte → Nat
  | _ :: lo :: hi :: _ => lo.toNat + 256 * hi.toNat
  | _ => 0

/-- R177: the length that a frame must not give. -/
def lengthBad (bytes : List Byte) : Bool := decide (lengthField bytes < 5) || decide (255 < lengthField bytes)

/-- R177: the frame that the System Port assembles from bytes that begin with a lead byte: as many as the length gives, and up
to its length field where the length is bad; none while bytes are still to come. -/
def systemFrame (bytes : List Byte) : Option (List Byte) :=
  if bytes.length < 3 then none
  else if lengthBad bytes = true then some (bytes.take 3)
  else if bytes.length < lengthField bytes then none
  else some (bytes.take (lengthField bytes))

/-- R177: the frame that a port assembles. The Panel Port takes the bytes of one write period, whatever their length says. -/
def assembled : Port → List Byte → Option (List Byte)
  | .system, bytes => systemFrame bytes
  | .panel, bytes => some bytes

/-- R177: an assembled frame is bad: its length field, its size, which only a write period can miss, or its check. -/
def frameBad (bytes : List Byte) : Bool :=
  lengthBad bytes || decide (bytes.length ≠ lengthField bytes) || byteSum bytes != 0#8

/-- R177: the command code that the answer to a bad frame echoes, where the frame reached it. -/
def echoedCode (bytes : List Byte) : Byte := (bytes[3]?).getD Config.noCodeEcho

/-- R177: after a bad frame the System Port looks for a lead byte again. -/
def State.discardFrame (s : State) : Port → State
  | .system => { s with sys.assembler := [] }
  | .panel => s

/-- BAD_FRAME (R177). A run that does not begin with the lead byte is no frame, and on the System Port one that ends before its
length is none yet. -/
def execBadFrame (p : Port) (bytes : List Byte) (s : State) : Step :=
  finish
    (if s.deaf p = false ∧ bytes.head? = some commandLead then
      match assembled p bytes with
      | some frame =>
        if frameBad frame = true then (s.discardFrame p).send p ⟨.badFrame, .badFrame, echoedCode frame, []⟩ else s
      | none => s
    else s)

/-- R177: a byte at the frame assembler of the System Port: bytes are discarded until a lead byte arrives, and a frame that is
complete leaves the assembler. What becomes of that frame is its own row: the command's, BAD_FRAME, FRAME_WHILE_REPLY_OWED or
UNKNOWN_COMMAND (log 9). -/
def assembleByte (a : List Byte) (b : Byte) : List Byte :=
  if a = [] ∧ b ≠ commandLead then []
  else if (systemFrame (a ++ [b])).isSome = true then []
  else a ++ [b]

/-- FRAME_WHILE_REPLY_OWED (R177). -/
def execFrameWhileReplyOwed (p : Port) (code : Byte) (s : State) : Step :=
  finish (if s.deaf p = false ∧ s.occupied p = true then s.busyAnswer p code else s)

/-- UNKNOWN_COMMAND (R178). A code that the port knows is no unknown command. -/
def execUnknownCommand (p : Port) (code : Byte) (s : State) : Step :=
  finish
    (if portKnows p code = true then s
     else takeFrame { port := p, sized := true } code s (fun s => refuse s .unknownCommand))

/-! ### What leaves the System Port (R176, R177, R181) -/

/-- R176: a byte of the System Port can end now: RTS is asserted, or the byte was begun before RTS was deasserted. -/
def SystemPort.canSend (y : SystemPort) : Bool := y.rts || y.lastByte

/-- R179: GO DATA's reply has left, and the port enters its data state. -/
def State.afterReply (s : State) (k : AnswerKind) : State :=
  if s.sys.goDataDue = true ∧ k = .reply then s.enterData else s

/-- R176, R177, R181: the answer at the front may leave: in COMMAND, with READY, and no notice frame in the way. -/
abbrev State.replyLeaves (s : State) : Prop :=
  s.sys.data = false ∧ s.sys.ready = true ∧ s.sys.canSend = true ∧ s.sys.notice = none

/-- REPLY_SENT (R177, R179). -/
def execReplySent (s : State) : Step :=
  finish
    (match s.ports.system.outgoing with
     | [] => s
     | a :: rest =>
       if s.replyLeaves then
         State.afterReply { s with ports.system.outgoing := rest, sys.lastByte := false } a.kind
       else s)

/-- NOTICE_FRAME_SENT (R181). DESIGN CHOICE (log 47): a notice frame that was begun before POWER_LOW is sent to its end. -/
def execNoticeFrameSent (s : State) : Step :=
  finish
    (if s.sys.notice.isSome = true ∧ s.sys.ready = true ∧ s.sys.canSend = true then
      { s with sys.notice := none, sys.lastByte := false }
    else s)

/-- DATA_STATE_ENTRY (R179): an entry that has waited. DESIGN CHOICE (log 18): it waits for a BAD_FRAME answer too. -/
def execDataStateEntry (s : State) : Step :=
  finish
    (if s.sys.entryDue = true ∧ s.ports.system.outgoing = [] ∧ s.sys.notice = none then s.enterData else s)

/-! ### The Panel Port's read periods (R176) -/

/-- R176: the bytes of the owed answer that are still to be read. -/
def State.panelUnread (s : State) : List Byte :=
  match s.ports.panel.outgoing with
  | [] => []
  | a :: _ => a.bytes.drop s.pan.readBytes

/-- R176: what `n` clocks of a read period send. -/
def periodBytes (unread : List Byte) (n : Nat) : List Byte :=
  unread.take n ++ List.replicate (n - unread.length) 0#8

/-- R176: the answer that has been read to its end is no longer owed. -/
def State.panelRead (s : State) (n : Nat) : State :=
  let s1 : State := { s with pan.lastPeriod := periodBytes s.panelUnread n }
  match s.ports.panel.outgoing with
  | [] => s1
  | _ :: rest =>
    if s.panelUnread.length ≤ n then { s1 with ports.panel.outgoing := rest, pan.readBytes := 0 }
    else { s1 with pan.readBytes := s.pan.readBytes + n }

/-- PANEL_READ_PERIOD (R176). -/
def execPanelReadPeriod (clocks : Nat) (s : State) : Step := finish (s.panelRead clocks)

/-! ### The escape (R129) -/

/-- R129: the escape state after a byte. -/
def EscapeState.byte (e : EscapeState) (isEscape : Bool) : EscapeState :=
  if isEscape = true then
    match e with
    | .waiting => .waiting
    | .quiet => .one
    | .one => .two
    | .two => .three
    | .three => .waiting
  else .waiting

/-- R129: a byte of the computer moves the escape state; in QUIET it loads T5. -/
def State.escapeByte (s : State) (b : Byte) : State :=
  let t : State := { s with sys.escape := s.sys.escape.byte (decide (b.toNat = s.settings.escapeByte)) }
  if s.sys.escape = .quiet then t.loadT5 else t

/-- R129: T5 expires. In THREE the escape is recognised, and a byte of the same instant still joins the queue. -/
def State.escapeExpiry (s : State) : State :=
  match s.sys.escape with
  | .three => { s.toCommand with sys.lateByte := true }
  | _ => { s with sys.escape := .quiet }

/-- R129: the port watches the stream of a DATA call for the escape. -/
abbrev State.watchesEscape (s : State) : Prop := s.sys.data = true ∧ s.ccu.call.job = .data

/-- ESCAPE_GUARD_EXPIRY (R129). An expiry that a byte has already found is taken (log 1). -/
def execEscapeGuardExpiry (s : State) : Step :=
  finish
    (if s.sys.expiryTaken = true then { s with sys.expiryTaken := false }
     else
       match s.timers.e5.takeA 5 with
       | none => s
       | some c =>
         let s : State := { s with timers.e5 := c }
         if s.watchesEscape then s.escapeExpiry else s)

/-- R32, R129: an expiry of T5 that has fired and is still to be taken reached the port before a byte that comes now. The state
moves by it, T5 stays OFF, and its row then finds it taken (log 1). -/
def State.expiryFirst (s : State) : State :=
  if s.timers.e5.signalA = true ∧ s.watchesEscape then
    State.escapeExpiry { s with timers.e5.signalA := false, sys.expiryTaken := true }
  else s

/-! ### Bytes of the data state (R127 to R129, R144, R146, R179) -/

/-- R32: a byte received by the System Port restarts the channels that name it. -/
def State.byteRestarts (s : State) : State := { s with timers := s.timers.mapIdx (fun _ c => c.byteRestart) }

/-- R179: a byte of the computer in the data state. -/
def State.portByte (s : State) (b : Byte) : State :=
  match s.ccu.call.job with
  | .data => (s.joinOutbound b).1.escapeByte b
  | .fax => if s.fax.role = some .sender then s.faxPortByte b else s
  | _ => s

/-- R129, R177, R179: a byte of the computer in the command state. One that the port sent just before it left its data state
joins the outbound queue; bytes are discarded while an entry to the data state waits; any other goes to the assembler. DESIGN
CHOICE (log 50): while READY is deasserted no byte is assembled. -/
def State.commandByte (s : State) (b : Byte) : State :=
  if s.sys.lateByte = true then (State.joinOutbound { s with sys.lateByte := false } b).1
  else if s.sys.entryDue = true ∨ s.sys.ready = false then s
  else { s with sys.assembler := assembleByte s.sys.assembler b }

/-- R179: a byte of the computer, in the port's state. -/
def State.byteReceived (s : State) (b : Byte) : State :=
  if s.sys.data = true then s.byteRestarts.portByte b else s.byteRestarts.commandByte b

/-- PORT_DATA_BYTE_RECEIVED (R32, R127, R129, R146, R177, R179). -/
def execPortDataByteReceived (b : Byte) (s : State) : Step := finish (s.expiryFirst.byteReceived b)

/-- R144: the page-end mark counts down as bytes leave the queue; when it has left, the port returns to COMMAND. -/
def State.markLeaves (s : State) : State :=
  match s.fax.markInQueue with
  | none => s
  | some n =>
    if n ≤ 1 then State.toCommand { s with fax.markInQueue := none } else { s with fax.markInQueue := some (n - 1) }

/-- R128: a byte leaves the inbound queue. -/
def State.inboundLeaves (s : State) : State :=
  State.markLeaves
    { s with
      link := { s.link with inbound := s.link.inbound.drop 1 }.judgeBusy, sys.lastByte := false }

/-- INBOUND_BYTE_SENT (R128, R144). -/
def execInboundByteSent (s : State) : Step :=
  finish
    (if s.sys.data = true ∧ s.sys.canSend = true ∧ s.link.inbound ≠ [] then s.inboundLeaves else s)

/-! ### RTS (R176) -/

/-- R176: the System Port is sending: a notice frame, an answer, or inbound data. -/
def State.sending (s : State) : Bool :=
  if s.sys.data = true then !s.link.inbound.isEmpty
  else s.sys.ready && (s.sys.notice.isSome || !s.ports.system.outgoing.isEmpty)

/-- RTS_DEASSERTED (R176): the byte being sent is finished, and no further one is begun. -/
def execRtsDeasserted (s : State) : Step :=
  finish (if s.sys.rts = true then { s with sys.rts := false, sys.lastByte := s.sending } else s)

/-- RTS_ASSERTED (R176). -/
def execRtsAsserted (s : State) : Step := finish { s with sys.rts := true, sys.lastByte := false }

end Sys2Proof.Machine
end

