-- ==== Sys2Proof/Machine/System.lean ====
section
/-! DEFINITION. Device reset with the start-up check (R20, R38, R174), POWER_LOW and the close-out (R22, R175), the 1 ms tick
(R26) and the second event (R36). -/

namespace Sys2Proof.Machine

/-! ### The start-up check (R174) -/

/-- R174: all granules that stand in a chain, the free list included. -/
def Store.chained (t : Store) : List Nat := t.free ++ t.dir.flatMap Entry.granules

/-- R174: a granule lies within the usable range. -/
def inStore (installed g : Nat) : Bool := decide (Config.reservedGranules ≤ g) && decide (g < installed)

/-- R174: no element occurs twice. -/
def distinct : List Nat → Bool
  | [] => true
  | x :: rest => !rest.contains x && distinct rest

/-- R174: at most one COMPLETE GREETING per slot. -/
def Store.oneGreeting (t : Store) : Bool :=
  distinct ((t.dir.filter (fun e => e.kind == .greeting && e.state == .complete)).filterMap Entry.slot)

/-- R164: the chain from a granule, by its links to END; none when a link leads out of the table or END is not reached within
`n` granules. -/
def chainFrom (links : List (Option Nat)) : Nat → Option Nat → Option (List Nat)
  | _, none => some []
  | 0, some _ => none
  | n + 1, some g =>
    match links[g]? with
    | none => none
    | some next => (chainFrom links n next).map (fun rest => g :: rest)

/-- R174: a recorded chain reaches END and has as many granules as its recorded count. -/
def RecordedTables.chain (x : RecordedTables) (first : Option Nat) (count : Nat) : Option (List Nat) :=
  match chainFrom x.links x.links.length first with
  | some gs => if gs.length = count then some gs else none
  | none => none

/-- R165 and R184: the kind of a recorded code; none for one that is not valid. DESIGN CHOICE (log 12): the codes of the replies. -/
def kindOfCode : Nat → Option MsgKind
  | 0 => some .voiceMsg
  | 1 => some .greeting
  | 2 => some .memo
  | 3 => some .faxIn
  | 4 => some .faxOut
  | _ => none

/-- R165 and R184: the state of a recorded code; none for one that is not valid. DESIGN CHOICE (log 12): the codes of the replies. -/
def stateOfCode : Nat → Option EntryState
  | 0 => some .opened
  | 1 => some .complete
  | 2 => some .doomed
  | _ => none

/-- R174: a recorded entry whose kind and state are valid and whose chain stands. -/
def RecordedTables.entry (x : RecordedTables) (e : RecordedEntry) : Option Entry :=
  match kindOfCode e.kindCode, stateOfCode e.stateCode, x.chain e.first e.count with
  | some k, some st, some gs => some { e.fields with kind := k, state := st, granules := gs }
  | _, _, _ => none

/-- R174: the directory that recorded tables hold; none where one of its entries is not valid. -/
def RecordedTables.directory (x : RecordedTables) : List RecordedEntry → Option (List Entry)
  | [] => some []
  | e :: rest =>
    match x.entry e, x.directory rest with
    | some d, some ds => some (d :: ds)
    | _, _ => none

/-- R174: the store as a device reset finds it, recorded tables read by their codes, links and counts; none where a kind or a
state is not valid, a chain does not reach END or it has not as many granules as its count. -/
def Store.found (t : Store) : Option Store :=
  match t.tables with
  | none => some t
  | some x =>
    match x.directory x.entries, x.chain x.freeHead x.freeCount with
    | some ds, some gs => some { t with dir := ds, free := gs, tables := none }
    | _, _ => none

/-- R174: the other conditions of a warm start, for the size that the straps give. -/
def Store.sound (t : Store) (installed : Nat) : Bool :=
  t.header.signature == Config.signature && t.header.installed == installed && distinct (t.dir.map Entry.id) &&
    decide (t.dir.length ≤ Config.entriesMax) && t.oneGreeting && t.chained.all (inStore installed) &&
    distinct t.chained && decide (t.chained.length + Config.reservedGranules = installed)

/-- R174: the store that a warm start keeps; none where a condition fails. -/
def Store.kept (t : Store) (installed : Nat) : Option Store :=
  match t.found with
  | some f => if f.sound installed = true then some f else none
  | none => none

/-- R174, step 1: the OPEN entries discarded and their chains freed, in the order of the directory (DESIGN CHOICE, log 47). -/
def Store.dropOpen (t : Store) : Store :=
  { t with
    dir := t.dir.filter (fun e => decide (e.state ≠ .opened)),
    free := t.free ++ (t.dir.filter (fun e => decide (e.state = .opened))).flatMap Entry.granules }

/-- R174, step 2: the hold counts 0, and the DOOMED entries removed and their chains freed, in the order of the directory
(DESIGN CHOICE, log 47). -/
def Store.dropDoomed (t : Store) : Store :=
  { t with
    dir := (t.dir.filter (fun e => decide (e.state ≠ .doomed))).map (fun e => { e with holds := 0 }),
    free := t.free ++ (t.dir.filter (fun e => decide (e.state = .doomed))).flatMap Entry.granules }

/-- R173: the low flag as a start-up judges it. -/
def Store.judged (t : Store) (low : Nat) : Store := { t with low := decide (t.free.length < low) }

/-- R174: what a warm start keeps. -/
def Store.warm (t : Store) : Store := t.dropOpen.dropDoomed.judged t.header.settings.lowSpaceGranules

/-- R20, R38, R174, R176: device reset. The levels at the pins and the DRAM's bytes stay. -/
def State.deviceReset (s : State) (dram : DramSize) (rate : PortRate) : State :=
  let n := Config.installedGranules dram
  let start (t : Store) (se : Settings) (q : PortState) : State :=
    State.afterReset t se q rate s.sys.ready s.sys.rts s.lif.voltageBelow s.lif.currentBelow s.pending
  match s.store.kept n with
  | some f => start { f with installed := n }.warm f.header.settings .reset
  | none => start (Store.cold n s.store.mem) .default .resetLost

/-- DEVICE_RESET (R20, R174). -/
def execDeviceReset (dram : DramSize) (rate : PortRate) (s : State) : Step := finish (s.deviceReset dram rate)

/-! ### POWER_LOW (R22, R175) -/

/-- R22 and R63: a ring episode is abandoned without a history entry, and the deadline list is emptied, also where there is
no episode. -/
def State.abandonEpisode (s : State) : State :=
  State.setDeadlines
    { s with
      rau.episode.active := false,
      rau.caller := if s.rau.episode.active = true then { s.rau.caller with state := .ended, windowOpen := false }
                    else s.rau.caller } .empty

/-- R22: the CCU at POWER_LOW. -/
def State.ccuPowerLow (s : State) : State :=
  let s : State := { s with ccu.claims := [] }
  let s := s.callEnd .powerLow
  let s := s.abandonEpisode
  if s.ccu.line = .ringing then s.lineTo .idle else s

/-- R175, step 5: the header is written. -/
def State.writeHeader (s : State) : State :=
  { s with
    store.header :=
      { signature := Config.signature, installed := s.store.installed, lastId := s.store.header.lastId,
        settings := s.settings } }

/-- R175: the close-out, in its order. In its step 4 the System Port's channel is aborted first (DESIGN CHOICE, log 47). -/
def State.closeOut (s : State) : State :=
  let s : State := { s with power.low := true }
  let s := s.ccuPowerLow
  let s := (s.endVoice .stopped).1.dropAuto
  let s := (s.abortChannel .system).abortChannel .panel
  { s.writeHeader with power.retention := true }

/-- POWER_LOW (R22, R175). -/
def execPowerLow (s : State) : Step := finish (if s.power.low = true then s else s.closeOut)

/-! ### The tick (R26) -/

/-- R7: the 200 ms run of the line-voltage sense after a millisecond. -/
def Lif.voltageTick (l : Lif) : Lif :=
  { l with
    voltageRun :=
      if l.relayClosed = true ∨ l.voltageBelow = l.lineInUse then 0
      else if l.ringPresent = true then l.voltageRun
      else bump Config.senseRunMs l.voltageRun }

/-- R8: the 200 ms run of the loop-current sense after a millisecond. -/
def Lif.currentTick (l : Lif) : Lif :=
  { l with currentRun := if l.currentRunOn then bump Config.senseRunMs l.currentRun else 0 }

/-- R62: the hangover of the ring-present indication. -/
def Lif.hangoverTick (l : Lif) : Lif :=
  { l with hangover := if l.ringPresent = true then bump Config.hangoverMs l.hangover else 0 }

/-- R8: the suspension of the pick-up watch; it does not run down during a break. -/
def Lif.suspensionTick (l : Lif) (inBreak : Bool) : Lif :=
  if inBreak = true then l else { l with suspendLeft := l.suspendLeft - 1 }

/-- R7, R8 and R62: a millisecond at the Line Interface. -/
def Lif.tick (l : Lif) (inBreak : Bool) : Lif :=
  ((l.suspensionTick inBreak).voltageTick.currentTick).hangoverTick

/-- TIMER_TICK (R26, R154). A byte that comes later is no longer one of the instant of an escape (R129). -/
def execTimerTick (s : State) : Step :=
  finish
    (State.playTick
      { s with timers := Timers.tick s.timers, lif := s.lif.tick s.inBreak, sys.lateByte := false,
                  sys.expiryTaken := false })

/-! ### The second (R36, R39) -/

/-- R39: the four time fields advance by one second. -/
def ClockTime.advance (t : ClockTime) : ClockTime :=
  if t.second < 59 then { t with second := t.second + 1 }
  else if t.minute < 59 then { t with second := 0, minute := t.minute + 1 }
  else if t.hour < 23 then { t with second := 0, minute := 0, hour := t.hour + 1 }
  else { day := if t.day < 6 then t.day + 1 else 0, hour := 0, minute := 0, second := 0 }

/-- R17: the seconds of an active call. -/
def CallRecord.second (c : CallRecord) : CallRecord :=
  { c with seconds := if c.active = true then bump Config.max16 c.seconds else c.seconds }

/-- R65: the seconds of an episode in progress. -/
def Episode.second (e : Episode) : Episode :=
  { e with seconds := if e.active = true then bump Config.max16 e.seconds else e.seconds }

/-- R36: the second event reaches the Calendar, the Call Record and the ring episode. -/
def State.second (s : State) : State :=
  { s with
    calendar.time := s.calendar.time.advance, ccu.call := s.ccu.call.second, rau.episode := s.rau.episode.second }

/-- SECOND_EVENT (R36). One that finds T7's count short of its compare has not fired yet (R40). -/
def execSecondEvent (s : State) : Step :=
  finish
    (match s.timers.e7.takeDue 7 with
     | none => s
     | some c => State.second { s with timers.e7 := c })

end Sys2Proof.Machine
end

