-- ==== Sys2Proof/Machine/VoiceCommands.lean ====
section
/-! DEFINITION. The voice commands of the masters (R153 to R156): PLAY, RECORD, PAUSE, RESUME and STOP. -/

namespace Sys2Proof.Machine

/-! ### What both starts ask (R153) -/

/-- R153: the requester holds an active VOICE call in CONNECTED. -/
abbrev State.hasVoiceLine (s : State) (p : Port) : Prop :=
  s.holder = some p.party ∧ s.ccu.call.job = .voice ∧ s.ccu.line = .connected

/-- R153: rows 2 to 4 of the table of checks, which PLAY and RECORD share; none when the channel is free. -/
def State.voiceBar (s : State) (p : Port) (e : Endpoint) : Option Status :=
  if e = .line ∧ ¬s.hasVoiceLine p then some .wrongPhase
  else if s.voice.op.user = some .auto then some .engineBusy
  else if s.voice.op.state ≠ .idle then some .engineBusy
  else none

/-! ### PLAY -/

/-- R153: the kinds that a play takes. -/
def MsgKind.playable : MsgKind → Bool
  | .voiceMsg | .greeting | .memo => true
  | _ => false

/-- R153: PLAY names an entry whose kind cannot be played. -/
def State.unplayable (s : State) (id : Nat) : Bool :=
  match s.store.visible id with
  | some e => !e.kind.playable
  | none => false

/-- R154: the start offset of a play before it is rounded. -/
def State.playOffset (s : State) (id : Nat) : PlayStart → Nat
  | .offset o => o.toNat
  | .resume =>
    match s.voice.resume with
    | some (m, o) => if m = id then o else 0
    | none => 0

/-- R153 and R154: the entry of a PLAY whose other checks have passed. -/
def takePlayEntry (p : Port) (id : Nat) (start : PlayStart) (e : Endpoint) (stopOnDigit : Bool) (s : State) :
    State × Reply :=
  match s.store.visible id with
  | none => refuse s .noSuchMessage
  | some entry =>
    if entry.state = .opened then refuse s .msgOpen
    else if entry.length ≤ s.playOffset id start then refuse s .badParameter
    else (s.startPlay p.party id (s.playOffset id start) e stopOnDigit, .plain .ok)

/-- R153: a PLAY whose parameters are within their values. -/
def takeGoodPlay (p : Port) (id : Nat) (start : PlayStart) (e : Endpoint) (stopOnDigit : Bool) (s : State) :
    State × Reply :=
  match s.voiceBar p e with
  | some x => refuse s x
  | none =>
    if e = .line ∧ (s.tone.generator.state = .sending ∨ s.tone.generator.state = .beeping) then refuse s .engineBusy
    else takePlayEntry p id start e stopOnDigit s

/-- R153: PLAY. A message id is 1 to 255. -/
def takePlay (p : Port) (id : Byte) (start : PlayStart) (endpoint stopOnDigit : Byte) (s : State) : State × Reply :=
  match endpointOf endpoint, flagOf stopOnDigit with
  | some e, some d =>
    if id = 0#8 ∨ s.unplayable id.toNat = true then refuse s .badParameter
    else takeGoodPlay p id.toNat start e d s
  | _, _ => refuse s .badParameter

/-- PLAY (R153, R154). -/
def execPlay (f : Frame) (id : Byte) (start : PlayStart) (endpoint stopOnDigit : Byte) (s : State) : Step :=
  command f 0x40#8 s (takePlay f.port id start endpoint stopOnDigit)

/-! ### RECORD -/

/-- R152 and R153: the kind and the slot of a RECORD; a slot goes with a GREETING only. -/
def recordKind (kind slot : Byte) : Option (MsgKind × Option Nat) :=
  match msgKindOf kind with
  | some .voiceMsg => some (.voiceMsg, none)
  | some .memo => some (.memo, none)
  | some .greeting => if slot.toNat ≤ 3 then some (.greeting, some slot.toNat) else none
  | _ => none

/-- R153: the maximum length is clamped to 5 to 600 seconds. -/
def recordSeconds (n : U16) : Nat := clamp 5 600 n.toNat

/-- R153 and R156: a RECORD whose parameters are within their values. -/
def takeGoodRecord (p : Port) (kind : MsgKind) (slot : Option Nat) (e : Endpoint) (vox : Bool) (seconds : Nat)
    (s : State) : State × Reply :=
  match s.voiceBar p e with
  | some x => refuse s x
  | none => ((s.startRecord p.party kind slot e vox seconds).1, ⟨.ok, [.u16 seconds]⟩)

/-- R153: RECORD. -/
def takeRecord (p : Port) (kind slot endpoint vox : Byte) (seconds : U16) (s : State) : State × Reply :=
  match recordKind kind slot, endpointOf endpoint, flagOf vox with
  | some k, some e, some v => takeGoodRecord p k.1 k.2 e v (recordSeconds seconds) s
  | _, _, _ => refuse s .badParameter

/-- RECORD (R153, R156). -/
def execRecord (f : Frame) (kind slot endpoint vox : Byte) (seconds : U16) (s : State) : Step :=
  command f 0x41#8 s (takeRecord f.port kind slot endpoint vox seconds)

/-! ### PAUSE, RESUME and STOP (R155) -/

/-- R155: the checks of the three commands; none when the command acts. -/
def State.voiceControlBar (s : State) (p : Port) (localOnly : Bool) : Option Status :=
  if s.voice.op.user = some .auto then some .engineBusy
  else if s.voice.op.state = .idle then some .wrongPhase
  else if s.voice.op.user ≠ some p.party then some .notHolder
  else if localOnly = true ∧ s.voice.op.endpoint = some .line then some .wrongPhase
  else none

/-- R155: one of the three commands acts when its checks let it. -/
def voiceControl (p : Port) (localOnly : Bool) (act : State → State) (s : State) : State × Reply :=
  match s.voiceControlBar p localOnly with
  | some x => refuse s x
  | none => (act s, .plain .ok)

/-- R155: PAUSE stops the operation in hand at the sample in hand. -/
def State.voicePause (s : State) : State :=
  match s.voice.op.state with
  | .playing => { s with voice.op.state := .paused, voice.op.pausedOp := s.voice.op.operation }
  | .recording => { s.stopT6 with voice.op.state := .paused, voice.op.pausedOp := s.voice.op.operation }
  | _ => s

/-- PAUSE (R155). -/
def execPause (f : Frame) (s : State) : Step := command f 0x42#8 s (voiceControl f.port true State.voicePause)

/-- R155: RESUME goes on with the paused operation; a recording with the next block of its path. -/
def State.voiceResume (s : State) : State :=
  if s.voice.op.state = .paused then
    match s.voice.op.pausedOp with
    | some .record =>
      let s : State := { s with voice.op.state := .recording, voice.op.pausedOp := none, voice.op.inBlock := false }
      if s.voice.op.vox = true then s.loadT6 ((s.voice.op.endpoint.getD .local).path) else s
    | _ => { s with voice.op.state := .playing, voice.op.pausedOp := none }
  else s

/-- RESUME (R155). -/
def execResume (f : Frame) (s : State) : Step := command f 0x43#8 s (voiceControl f.port true State.voiceResume)

/-- STOP (R155, R158). -/
def execStop (f : Frame) (s : State) : Step :=
  command f 0x44#8 s (voiceControl f.port false (fun s => (s.endVoice .stopped).1))

end Sys2Proof.Machine
end

