-- ==== Sys2Proof/Machine/Dispatch.lean ====
section
/-! DEFINITION. The dispatch: one arm for each command, each one call of its meaning. -/

namespace Sys2Proof.Machine

def exec (i : Instr) (s : State) : Host.Outcome State Fault Refusal :=
  match i with
  -- Line (0x10)
  | .dial f job flags items => Sys2Proof.Machine.execDial f job flags items s
  | .answer f job => Sys2Proof.Machine.execAnswer f job s
  | .takeCall f => Sys2Proof.Machine.execTakeCall f s
  | .hangUp f => Sys2Proof.Machine.execHangUp f s
  | .connect f => Sys2Proof.Machine.execConnect f s
  | .sendDigits f symbols => Sys2Proof.Machine.execSendDigits f symbols s
  | .beep f frequency duration => Sys2Proof.Machine.execBeep f frequency duration s
  -- Reads (0x20)
  | .readCall f => Sys2Proof.Machine.execReadCall f s
  | .readHistory f first count => Sys2Proof.Machine.execReadHistory f first count s
  | .readLevels f => Sys2Proof.Machine.execReadLevels f s
  | .readLinkStats f => Sys2Proof.Machine.execReadLinkStats f s
  | .readTimers f => Sys2Proof.Machine.execReadTimers f s
  | .readDigits f count => Sys2Proof.Machine.execReadDigits f count s
  | .readClock f => Sys2Proof.Machine.execReadClock f s
  -- Clock and settings (0x30)
  | .setClock f day hour minute second => Sys2Proof.Machine.execSetClock f day hour minute second s
  | .setSetting f id value => Sys2Proof.Machine.execSetSetting f id value s
  | .readSetting f id => Sys2Proof.Machine.execReadSetting f id s
  -- Voice (0x40)
  | .play f id start endpoint stopOnDigit => Sys2Proof.Machine.execPlay f id start endpoint stopOnDigit s
  | .record f kind slot endpoint vox seconds => Sys2Proof.Machine.execRecord f kind slot endpoint vox seconds s
  | .pause f => Sys2Proof.Machine.execPause f s
  | .resume f => Sys2Proof.Machine.execResume f s
  | .stop f => Sys2Proof.Machine.execStop f s
  -- Store (0x50)
  | .list f first count => Sys2Proof.Machine.execList f first count s
  | .readEntry f id => Sys2Proof.Machine.execReadEntry f id s
  | .delete f id => Sys2Proof.Machine.execDelete f id s
  | .markHeard f id => Sys2Proof.Machine.execMarkHeard f id s
  | .format f => Sys2Proof.Machine.execFormat f s
  | .openTransferRead f head offset count => Sys2Proof.Machine.execOpenTransferRead f head offset count s
  | .openTransferWrite f head slot => Sys2Proof.Machine.execOpenTransferWrite f head slot s
  | .readChunk f count => Sys2Proof.Machine.execReadChunk f count s
  | .writeChunk f bytes => Sys2Proof.Machine.execWriteChunk f bytes s
  | .closeTransfer f => Sys2Proof.Machine.execCloseTransfer f s
  | .abort f => Sys2Proof.Machine.execAbort f s
  -- Fax (0x60)
  | .faxNext f choice => Sys2Proof.Machine.execFaxNext f choice s
  | .faxNextFromStore f id => Sys2Proof.Machine.execFaxNextFromStore f id s
  -- Notices (0x70)
  | .takeNotice f => Sys2Proof.Machine.execTakeNotice f s
  | .noticeDone f => Sys2Proof.Machine.execNoticeDone f s
  | .clearNotice f source => Sys2Proof.Machine.execClearNotice f source s
  | .mask f entries => Sys2Proof.Machine.execMask f entries s
  -- Port (0x78)
  | .goData f => Sys2Proof.Machine.execGoData f s
  | .portReset f => Sys2Proof.Machine.execPortReset f s
  -- frames and lines of the ports
  | .badFrame p bytes => Sys2Proof.Machine.execBadFrame p bytes s
  | .frameWhileReplyOwed p code => Sys2Proof.Machine.execFrameWhileReplyOwed p code s
  | .unknownCommand p code => Sys2Proof.Machine.execUnknownCommand p code s
  | .replySent => Sys2Proof.Machine.execReplySent s
  | .panelReadPeriod clocks => Sys2Proof.Machine.execPanelReadPeriod clocks s
  | .noticeFrameSent => Sys2Proof.Machine.execNoticeFrameSent s
  | .dataStateEntry => Sys2Proof.Machine.execDataStateEntry s
  | .portDataByteReceived b => Sys2Proof.Machine.execPortDataByteReceived b s
  | .inboundByteSent => Sys2Proof.Machine.execInboundByteSent s
  | .readyDeasserted => Sys2Proof.Machine.execReadyDeasserted s
  | .readyAsserted => Sys2Proof.Machine.execReadyAsserted s
  | .rtsDeasserted => Sys2Proof.Machine.execRtsDeasserted s
  | .rtsAsserted => Sys2Proof.Machine.execRtsAsserted s
  -- reset and power
  | .deviceReset dram rate => Sys2Proof.Machine.execDeviceReset dram rate s
  | .powerLow => Sys2Proof.Machine.execPowerLow s
  -- timers
  | .timerTick => Sys2Proof.Machine.execTimerTick s
  | .secondEvent => Sys2Proof.Machine.execSecondEvent s
  | .t0AEvent => Sys2Proof.Machine.execT0AEvent s
  | .t0BEvent => Sys2Proof.Machine.execT0BEvent s
  | .settleExpiry => Sys2Proof.Machine.execSettleExpiry s
  | .dialToneWaitExpiry => Sys2Proof.Machine.execDialToneWaitExpiry s
  | .pauseItemExpiry => Sys2Proof.Machine.execPauseItemExpiry s
  | .noAnswerExpiry => Sys2Proof.Machine.execNoAnswerExpiry s
  | .guardExpiry => Sys2Proof.Machine.execGuardExpiry s
  -- line sensing
  | .lineVoltageSenseChange below => Sys2Proof.Machine.execLineVoltageSenseChange below s
  | .lineInUseRunExpiry => Sys2Proof.Machine.execLineInUseRunExpiry s
  | .loopCurrentSenseChange below => Sys2Proof.Machine.execLoopCurrentSenseChange below s
  | .extensionPickup => Sys2Proof.Machine.execExtensionPickup s
  -- ringing and caller data
  | .ringDetectorEdge => Sys2Proof.Machine.execRingDetectorEdge s
  | .presenceHangoverExpiry => Sys2Proof.Machine.execPresenceHangoverExpiry s
  | .qualifyDeadline => Sys2Proof.Machine.execQualifyDeadline s
  | .windowOpen => Sys2Proof.Machine.execWindowOpen s
  | .cycleEnd => Sys2Proof.Machine.execCycleEnd s
  | .windowClose => Sys2Proof.Machine.execWindowClose s
  | .episodeEnd => Sys2Proof.Machine.execEpisodeEnd s
  | .callerDataByte b => Sys2Proof.Machine.execCallerDataByte b s
  | .callerByteFramingError => Sys2Proof.Machine.execCallerByteFramingError s
  -- audio blocks and the Voice Engine
  | .blockEvent path samples bands => Sys2Proof.Machine.execBlockEvent path samples bands s
  | .autoBeepEnd => Sys2Proof.Machine.execAutoBeepEnd s
  | .promptBeepEnd => Sys2Proof.Machine.execPromptBeepEnd s
  | .playEnd => Sys2Proof.Machine.execPlayEnd s
  | .voxExpiry => Sys2Proof.Machine.execVoxExpiry s
  | .maxLengthReached => Sys2Proof.Machine.execMaxLengthReached s
  | .remoteInactivityExpiry => Sys2Proof.Machine.execRemoteInactivityExpiry s
  | .transferFifoFill p => Sys2Proof.Machine.execTransferFifoFill p s
  -- quality and the Data Pump
  | .decisionError e => Sys2Proof.Machine.execDecisionError e s
  | .qualityWindowClose => Sys2Proof.Machine.execQualityWindowClose s
  | .answerToneEnd => Sys2Proof.Machine.execAnswerToneEnd s
  | .handshakeSignalReceived signal => Sys2Proof.Machine.execHandshakeSignalReceived signal s
  | .handshakeTimeout => Sys2Proof.Machine.execHandshakeTimeout s
  | .trainingSymbolsEnd => Sys2Proof.Machine.execTrainingSymbolsEnd s
  | .farEndVerdictReceived accept => Sys2Proof.Machine.execFarEndVerdictReceived accept s
  | .verdictExchangeEnd => Sys2Proof.Machine.execVerdictExchangeEnd s
  | .farEndRateRequest rung => Sys2Proof.Machine.execFarEndRateRequest rung s
  | .farEndRetrainRequest => Sys2Proof.Machine.execFarEndRetrainRequest s
  | .rateConfirmReceived => Sys2Proof.Machine.execRateConfirmReceived s
  | .resyncEnd => Sys2Proof.Machine.execResyncEnd s
  | .rateConfirmTimeout => Sys2Proof.Machine.execRateConfirmTimeout s
  | .retrainRequestSent => Sys2Proof.Machine.execRetrainRequestSent s
  | .retrainStableExpiry => Sys2Proof.Machine.execRetrainStableExpiry s
  | .carrierLossExpiry => Sys2Proof.Machine.execCarrierLossExpiry s
  -- the Link Engine
  | .linkReqTimerExpiry => Sys2Proof.Machine.execLinkReqTimerExpiry s
  | .linkReqReceived window payload => Sys2Proof.Machine.execLinkReqReceived window payload s
  | .linkConfReceived window payload => Sys2Proof.Machine.execLinkConfReceived window payload s
  | .linkConfSent => Sys2Proof.Machine.execLinkConfSent s
  | .invalidLinkFrame run => Sys2Proof.Machine.execInvalidLinkFrame run s
  | .dataFrameReceived seq ack payload => Sys2Proof.Machine.execDataFrameReceived seq ack payload s
  | .ackReceived ack busy => Sys2Proof.Machine.execAckReceived ack busy s
  | .rejectReceived expected => Sys2Proof.Machine.execRejectReceived expected s
  | .clearReceived => Sys2Proof.Machine.execClearReceived s
  | .transmitterReady => Sys2Proof.Machine.execTransmitterReady s
  | .clearReplySent => Sys2Proof.Machine.execClearReplySent s
  | .linkTimerExpiry => Sys2Proof.Machine.execLinkTimerExpiry s
  | .clearingWaitExpiry => Sys2Proof.Machine.execClearingWaitExpiry s
  | .directByteReceived b => Sys2Proof.Machine.execDirectByteReceived b s
  | .escapeGuardExpiry => Sys2Proof.Machine.execEscapeGuardExpiry s
  -- the Fax Engine
  | .faxInvalidControlFrame run => Sys2Proof.Machine.execFaxInvalidControlFrame run s
  | .capsReceived maxRung resolutions scanMs => Sys2Proof.Machine.execCapsReceived maxRung resolutions scanMs s
  | .setReceived rung resolution scanMs => Sys2Proof.Machine.execSetReceived rung resolution scanMs s
  | .faxCheckSent => Sys2Proof.Machine.execFaxCheckSent s
  | .faxCheckEnd => Sys2Proof.Machine.execFaxCheckEnd s
  | .checkOkReceived => Sys2Proof.Machine.execCheckOkReceived s
  | .checkFailReceived => Sys2Proof.Machine.execCheckFailReceived s
  | .pageDataStart => Sys2Proof.Machine.execPageDataStart s
  | .faxPageByteReceived b => Sys2Proof.Machine.execFaxPageByteReceived b s
  | .faxPageByteSent => Sys2Proof.Machine.execFaxPageByteSent s
  | .faxPageStallExpiry => Sys2Proof.Machine.execFaxPageStallExpiry s
  | .faxNextDecisionExpiry => Sys2Proof.Machine.execFaxNextDecisionExpiry s
  | .faxControlReplyExpiry => Sys2Proof.Machine.execFaxControlReplyExpiry s
  | .pageEndReceived more => Sys2Proof.Machine.execPageEndReceived more s
  | .pageOkReceived => Sys2Proof.Machine.execPageOkReceived s
  | .pageBadReceived => Sys2Proof.Machine.execPageBadReceived s
  | .refuseReceived => Sys2Proof.Machine.execRefuseReceived s
  | .doneReceived => Sys2Proof.Machine.execDoneReceived s
  | .faxControlFrameSent => Sys2Proof.Machine.execFaxControlFrameSent s
  | .pickupSuspensionEnd => Sys2Proof.Machine.execPickupSuspensionEnd s
  | .recordingGranuleNeeded => Sys2Proof.Machine.execRecordingGranuleNeeded s

end Sys2Proof.Machine
end

