-- ==== Sys2Proof/Safety.lean ====
section
/-! DEFINITION. What counts as a sound state, in the terms that the statements use: the store's books balance (R164, R165),
its bytes stand in their canonical form, the Call History, the claim queue and the in-service stacks keep their limits; and the
parts of the state that frames name. -/

namespace Sys2Proof.Machine

/-- R164: the granules of all directory entries. -/
def chainTotal (dir : List Entry) : Nat := (dir.map (fun e => e.granules.length)).sum

/-- R164 and R165: at most 96 live entries with distinct ids; the installed count is 16, the free count and the granule counts
of all entries. -/
def Balanced (dir : List Entry) (free : List Nat) (installed : Nat) : Prop :=
  (dir.map Entry.id).Nodup ∧ dir.length ≤ Config.entriesMax ∧
    Config.reservedGranules + free.length + chainTotal dir = installed

/-- R12: the claim queue holds at most one dial of each master. -/
def OneEach (claims : List Claim) : Prop := (claims.map Claim.master).Nodup

/-- R181: the priorities of an in-service stack, top first, are strictly rising, and none is above 7. -/
def stackOrdered : List (Source × Nat) → Bool
  | [] => true
  | [x] => decide (x.2 ≤ 7)
  | x :: y :: rest => decide (x.2 < y.2) && stackOrdered (y :: rest)

/-- R180: a priority lies in 0 to 7. -/
def prioritiesOk (t : Six Nat) : Prop := t.e0 ≤ 7 ∧ t.e1 ≤ 7 ∧ t.e2 ≤ 7 ∧ t.e3 ≤ 7 ∧ t.e4 ≤ 7 ∧ t.e5 ≤ 7

/-- R180 and R181: the priorities and the stack of a notice controller. -/
def Controller.Sound (c : Controller) : Prop := prioritiesOk c.priorities ∧ stackOrdered c.stack = true

/-- The parts of the state that soundness looks at. -/
structure Sound (dir : List Entry) (free : List Nat) (installed : Nat) (mem : List Host.Cell)
    (history : List HistoryEntry) (claims : List Claim) (system panel : Controller) : Prop where
  balanced : Balanced dir free installed
  canonical : Mem.wf mem = true
  history : history.length ≤ Config.historyMax
  claims : OneEach claims
  system : system.Sound
  panel : panel.Sound

/-- A sound state. -/
def State.Sound (s : State) : Prop :=
  Machine.Sound s.store.dir s.store.free s.store.installed s.store.mem s.ccu.history s.ccu.claims
    s.ports.system.notices s.ports.panel.notices

/-- R1: the line states of an active call. -/
def LineState.offHook : LineState → Bool
  | .seizing | .dialing | .progress | .connected => true
  | .idle | .ringing | .releasing => false

/-- R1, R2 and R42: the Call Record is active in the off-hook line states and in no other, the relay is closed only while it is
active, and the Dialler has an item in hand in DIALING only. -/
structure State.LineSound (s : State) : Prop where
  together : s.ccu.call.active = s.ccu.line.offHook
  relay : s.lif.relayClosed = true → s.ccu.call.active = true
  dialler : s.ccu.dialler.item ≠ .none → s.ccu.line = .dialing

/-! ### Parts of the state -/

/-- The parts of the state that a statement can name. -/
inductive Part where
  /-- R1: the line state. -/
  | line
  /-- R17: the Call Record. -/
  | call
  /-- R12: the claim queue. -/
  | claims
  /-- R19: the Call History. -/
  | history
  /-- what else the CCU holds (R17, R18, R35). -/
  | ccuRest
  /-- R42: the Dialler. -/
  | dialler
  /-- R2, R7, R8, R62: the Line Interface. -/
  | lif
  /-- R24: a timer channel. -/
  | timer (n : Fin 8)
  /-- R39. -/
  | calendar
  /-- R60: the tone generator. -/
  | generator
  /-- R49 to R57: the detectors and the classifier. -/
  | detectors
  /-- R63, R64: the presence and the deadline list. -/
  | ringing
  /-- R65: the episode record. -/
  | episode
  /-- R69, R70: the Caller Buffer and its window. -/
  | caller
  /-- R76: the discrimination record. -/
  | discr
  /-- Chapter 5: the Level Meter. -/
  | level
  /-- R98: the pump record. -/
  | pump
  /-- R113: the link record, but for its queues and statistics. -/
  | link
  /-- R126. -/
  | stats
  /-- R127. -/
  | outbound
  /-- R128. -/
  | inbound
  /-- R131: the fax session record. -/
  | fax
  /-- R152: the operation record. -/
  | voiceOp
  /-- R154: the resume record. -/
  | resume
  /-- R159: the remote session record. -/
  | remote
  /-- 12.6: the settings in force. -/
  | settings
  /-- R163 and R174: the installed granules, the store header and the tables that a reset is to examine. -/
  | header
  /-- R165. -/
  | directory
  /-- R164, R173: the free list and the low flag. -/
  | freeList
  /-- R163: every byte of the DRAM. -/
  | memory
  /-- R177: the answers a port has to send. -/
  | outgoing (p : Port)
  /-- R180: a notice controller. -/
  | notices (p : Port)
  /-- R59. -/
  | digits (p : Port)
  /-- R170. -/
  | transfer (p : Port)
  /-- R173. -/
  | alerts (p : Port)
  /-- R176, R179: the System Port's state, its lines and the escape. -/
  | systemPort
  /-- R176: the Panel Port's read position and output. -/
  | panelPort
  /-- R175. -/
  | power
  /-- the commands that wait. -/
  | queue
deriving DecidableEq, Repr

/-- A part is the same in two states. -/
def Part.Same (s t : State) : Part → Prop
  | .line => t.ccu.line = s.ccu.line
  | .call => t.ccu.call = s.ccu.call
  | .claims => t.ccu.claims = s.ccu.claims
  | .history => t.ccu.history = s.ccu.history
  | .ccuRest =>
    t.ccu.lastNumber = s.ccu.lastNumber ∧
    t.ccu.ending = s.ccu.ending ∧
    t.ccu.blind = s.ccu.blind ∧
    t.ccu.t2Use = s.ccu.t2Use
  | .dialler => t.ccu.dialler = s.ccu.dialler
  | .lif => t.lif = s.lif
  | .timer n => t.timers.get n = s.timers.get n
  | .calendar => t.calendar = s.calendar
  | .generator => t.tone.generator = s.tone.generator
  | .detectors =>
    t.tone.faxCall = s.tone.faxCall ∧
    t.tone.dataCall = s.tone.dataCall ∧
    t.tone.answer = s.tone.answer ∧
    t.tone.dtmf = s.tone.dtmf ∧
    t.tone.blank = s.tone.blank ∧
    t.tone.classifier = s.tone.classifier ∧
    t.tone.voiceBlocks = s.tone.voiceBlocks
  | .ringing => t.rau.presence = s.rau.presence ∧ t.rau.deadlines = s.rau.deadlines
  | .episode => t.rau.episode = s.rau.episode
  | .caller => t.rau.caller = s.rau.caller
  | .discr => t.rau.discr = s.rau.discr
  | .level => t.level = s.level
  | .pump => t.pump = s.pump
  | .link =>
    { t.link with outbound := [], inbound := [], stats := .zero } =
      { s.link with outbound := [], inbound := [], stats := .zero }
  | .stats => t.link.stats = s.link.stats
  | .outbound => t.link.outbound = s.link.outbound
  | .inbound => t.link.inbound = s.link.inbound
  | .fax => t.fax = s.fax
  | .voiceOp => t.voice.op = s.voice.op
  | .resume => t.voice.resume = s.voice.resume
  | .remote => t.voice.remote = s.voice.remote
  | .settings => t.settings = s.settings
  | .header =>
    t.store.installed = s.store.installed ∧ t.store.header = s.store.header ∧ t.store.tables = s.store.tables
  | .directory => t.store.dir = s.store.dir
  | .freeList => t.store.free = s.store.free ∧ t.store.low = s.store.low
  | .memory => ∀ a, Mem.read t.store.mem a = Mem.read s.store.mem a
  | .outgoing p => (t.port p).outgoing = (s.port p).outgoing
  | .notices p => (t.port p).notices = (s.port p).notices
  | .digits p => (t.port p).digits = (s.port p).digits
  | .transfer p => (t.port p).transfer = (s.port p).transfer
  | .alerts p => (t.port p).alerts = (s.port p).alerts
  | .systemPort =>
    { t.sys with notice := none } =
      { s.sys with notice := none }
  | .panelPort => t.pan = s.pan
  | .power => t.power = s.power
  | .queue => t.pending = s.pending

/-- Every part but those named is the same. The notice controller of the System Port is left out throughout: at the end of any
step its arbiter may deliver a notice (R181). -/
def SameBut (parts : List Part) (s t : State) : Prop := ∀ x, x ∉ parts → x ≠ .notices .system → x.Same s t

/-! ### Commands and their answers -/

end Sys2Proof.Machine

namespace Sys2Proof

/-- R177 and R184: the frame and the command code of a master's command; none for a row that is no command. -/
def Instr.command : Instr → Option (Frame × Byte)
  | .dial f _ _ _ => some (f, 0x10#8)
  | .answer f _ => some (f, 0x11#8)
  | .takeCall f => some (f, 0x12#8)
  | .hangUp f => some (f, 0x13#8)
  | .connect f => some (f, 0x14#8)
  | .sendDigits f _ => some (f, 0x15#8)
  | .beep f _ _ => some (f, 0x16#8)
  | .readCall f => some (f, 0x20#8)
  | .readHistory f _ _ => some (f, 0x21#8)
  | .readLevels f => some (f, 0x22#8)
  | .readLinkStats f => some (f, 0x23#8)
  | .readTimers f => some (f, 0x24#8)
  | .readDigits f _ => some (f, 0x25#8)
  | .readClock f => some (f, 0x26#8)
  | .setClock f _ _ _ _ => some (f, 0x30#8)
  | .setSetting f _ _ => some (f, 0x31#8)
  | .readSetting f _ => some (f, 0x32#8)
  | .play f _ _ _ _ => some (f, 0x40#8)
  | .record f _ _ _ _ _ => some (f, 0x41#8)
  | .pause f => some (f, 0x42#8)
  | .resume f => some (f, 0x43#8)
  | .stop f => some (f, 0x44#8)
  | .list f _ _ => some (f, 0x50#8)
  | .readEntry f _ => some (f, 0x51#8)
  | .delete f _ => some (f, 0x52#8)
  | .markHeard f _ => some (f, 0x53#8)
  | .format f => some (f, 0x54#8)
  | .openTransferRead f _ _ _ => some (f, 0x55#8)
  | .openTransferWrite f _ _ => some (f, 0x55#8)
  | .readChunk f _ => some (f, 0x56#8)
  | .writeChunk f _ => some (f, 0x57#8)
  | .closeTransfer f => some (f, 0x58#8)
  | .abort f => some (f, 0x59#8)
  | .faxNext f _ => some (f, 0x60#8)
  | .faxNextFromStore f _ => some (f, 0x60#8)
  | .takeNotice f => some (f, 0x70#8)
  | .noticeDone f => some (f, 0x71#8)
  | .clearNotice f _ => some (f, 0x72#8)
  | .mask f _ => some (f, 0x73#8)
  | .goData f => some (f, 0x78#8)
  | .portReset f => some (f, 0x79#8)
  | _ => none

end Sys2Proof

namespace Sys2Proof.Machine

/-- R177 and R178: a port takes a command with these parameters: it looks for frames, no reply is owed and no BUSY answer
waits, POWER_LOW has not been asserted, the code is known and the parameters have their sizes. -/
abbrev State.Takes (s : State) (f : Frame) (code : Byte) : Prop :=
  s.deaf f.port = false ∧ s.occupied f.port = false ∧ s.power.low = false ∧ portKnows f.port code = true ∧ f.sized = true

/-- R177: a command has been answered, and its reply stands last among what the port has to send. -/
def Answered (s t : State) (p : Port) (code : Byte) (x : Status) (results : List Item) : Prop :=
  (t.port p).outgoing = (s.port p).outgoing ++ [⟨.reply, x, code, results⟩]

/-! ### What many rows leave -/

/-- R25: a ONE_SHOT channel has just been loaded for an owner. -/
structure Channel.Runs (c : Channel) (owner : TimerOwner) (ms : Nat) (restart : RestartSource) : Prop where
  mode : c.mode = .oneShot
  count : c.count = 0
  compare : c.compareA = compareClamp ms
  restart : c.restart = restart
  owner : c.owner = owner

/-- R26: a ONE_SHOT channel has an event for its owner: one that has fired at a tick, or the one that it runs toward (log 1). -/
abbrev Channel.Due (c : Channel) : Prop := c.signalA = true ∨ c.mode = .oneShot

/-- R35: T2 has an event for the use last loaded. -/
abbrev State.DueT2 (s : State) (use : T2Use) : Prop := s.ccu.t2Use = use ∧ s.timers.e2.Due

/-- R35: the CCU has loaded T2 for a use. -/
def State.LoadedT2 (t : State) (use : T2Use) (ms : Nat) (restart : RestartSource) : Prop :=
  t.ccu.t2Use = use ∧ t.timers.e2.Runs .ccu ms restart

/-- The parts that the end of a call may change. Those of the store are among them only when a voice operation is in hand or
the job is FAX. -/
def endParts (s : State) : List Part :=
  [.line, .call, .history, .ccuRest, .dialler, .lif, .timer 0, .timer 1, .timer 2, .timer 3, .timer 4, .timer 5, .timer 6,
   .generator, .detectors, .discr, .level, .pump, .link, .outbound, .inbound, .fax, .voiceOp, .remote, .notices .panel,
   .systemPort] ++
    if s.voice.op.operation = none ∧ s.ccu.call.job ≠ .fax then []
    else [.directory, .freeList, .memory, .alerts .system, .alerts .panel]

/-- R156: the bytes outside the granules of the message that a voice operation has in hand are the same. -/
def BytesKept (s t : State) : Prop :=
  ∀ a, (∀ id e, s.voice.op.message = some id → s.store.find id = some e → a / 1024 ∉ e.granules) →
    Mem.read t.store.mem a = Mem.read s.store.mem a

/-- R180, R181: an occurrence of a source at a port is pending, or, at the System Port, its notice is being sent (log 13). -/
def State.Noticed (t : State) (p : Port) (x : Source) : Prop :=
  ((t.port p).notices.sources.get x).pending = true ∨ (p = .system ∧ ∃ n, t.sys.notice = some (x, n))

/-- R19: the history entry of a call that has ended with a cause, read off its Call Record. -/
def CallRecord.endedEntry (r : CallRecord) (c : Cause) (linked : Option Nat) : HistoryEntry :=
  { number := r.number, direction := r.direction, callerStatus := r.callerStatus, callerNumber := r.callerNumber,
    callerName := r.callerName, outcome := .ended c, linkedId := linked, startTime := r.startTime, seconds := r.seconds }

/-- R17, R18 and R19: the call of `s` has ended with a cause, and `t` is what its end leaves. Of the Call Record only the linked
message id may change beside what the end sets, and that only in a fax call or with a voice operation in hand. The parts `more`
may have changed beside those of the end. -/
structure CallEnded (more : List Part) (s t : State) (c : Cause) : Prop where
  line : t.ccu.line = .releasing
  relay : t.lif.relayClosed = false ∧ t.timers.e0.mode = .off
  call : t.ccu.call = { s.ccu.call with active := false, cause := some c, linkedId := t.ccu.call.linkedId } ∧
    t.ccu.ending = none
  linked : s.ccu.call.job ≠ .fax → s.voice.op.operation = none → t.ccu.call.linkedId = s.ccu.call.linkedId
  history : t.ccu.history = (s.ccu.call.endedEntry c t.ccu.call.linkedId :: s.ccu.history).take 16
  guard : t.LoadedT2 .guard 1500 .none
  engines : t.pump = .idle ∧ t.link = .idle s.link.stats ∧ t.tone.generator = .idle ∧ t.ccu.dialler.item = .none ∧
    t.level.feed = .off ∧ t.fax.phase = (if s.ccu.call.job = .fax then none else s.fax.phase)
  answering : t.rau.discr = none ∧ t.voice.remote = none ∧ t.voice.op.user ≠ some .auto
  voice : s.voice.op.endpoint = some .line → s.voice.op.operation.isSome = true → t.voice.op.operation = none
  detectors : t.tone.faxCall = .zero ∧ t.tone.dataCall = .zero ∧ t.tone.answer = .zero ∧ t.tone.dtmf = .zero ∧
    t.tone.classifier = .zero
  port : t.sys.data = false ∧ t.sys.cts = true ∧ t.sys.entryDue = false
  notice : ∀ p, t.Noticed p .callState
  bytes : BytesKept s t
  frame : SameBut (endParts s ++ more) s t

/-- R24: the eight timer channels. -/
def allTimers : List Part := [.timer 0, .timer 1, .timer 2, .timer 3, .timer 4, .timer 5, .timer 6, .timer 7]

/-- R85: the block accumulator of a path. -/
def LevelMeter.pathOf (m : LevelMeter) : AudioPath → PathMeter
  | .line => m.line
  | .mic => m.mic

/-- R91, R95: the window that closes next: the oldest of those that a stop put aside, or else the one in hand, which is full. -/
def State.ClosesWindow (s : State) (c : ClosingWindow) : Prop :=
  (s.level.closing = [] ∧ s.level.feed ≠ .off ∧ s.level.window.symbols = 256 ∧ c = ⟨s.level.feed, s.level.window⟩) ∨
    (∃ rest, s.level.closing = c :: rest)

/-- R91, R92, R94: what the close of a window leaves of the Level Meter `m`, beside its windows and its feed. -/
structure LevelMeter.Closed (m n : LevelMeter) (c : ClosingWindow) : Prop where
  overloads : n.overloads = if c.window.saturated = true then bump 255 m.overloads else m.overloads
  lastQ : n.lastQ = some (47 - logCode (c.window.acc / 256), c.window.saturated)
  average : n.average =
    if c.feed = .tracking then m.average.map (fun a => trackAverage a (47 - logCode (c.window.acc / 256))) else m.average
  paths : n.line = m.line ∧ n.mic = m.mic ∧ n.bands = m.bands ∧ n.bandsOn = m.bandsOn

/-- R86: the mean of the block that samples close, from the accumulator before them. -/
def blockMean (m : PathMeter) (xs : List Sample) : Nat := (m.acc + (xs.map sampleTerm).sum) / 128

/-- R85 to R87: line receive samples that close the line's block, with the bands measured. The block carries the level code of
the whole and the figures of the bands, and is judged for a digit where R51 lets it. -/
structure State.LineBlockMeasured (s : State) (xs : List Sample) (bands : List (List Sample)) (b : ToneBlock) : Prop where
  powered : s.power.retention = false
  closes : s.level.line.count + xs.length = 128
  measured : s.level.bandsOn = true
  beside : bands.length = s.level.bands.length ∧ ∀ x ∈ bands, x.length = xs.length
  whole : b.whole = logCode (blockMean s.level.line xs)
  figures : b.bands = (List.zipWith blockMean s.level.bands bands).map (fun v => ⟨logCode v, v⟩)
  judged : b.judged = true ↔ s.judgesDigit

/-- R85 to R87: such a block whose samples no recording takes. -/
structure State.LineBlockCloses (s : State) (xs : List Sample) (bands : List (List Sample)) (b : ToneBlock) : Prop
    extends s.LineBlockMeasured xs bands b where
  unrecorded : ¬s.recordsFrom .line

/-- R50, R51: the detectors that are active on a connected line make no recognition in a block, and report no digit. -/
abbrev State.BlockQuiet (s : State) (b : ToneBlock) : Prop :=
  s.ccu.line = .connected ∧
    (s.ccu.call.job = .discriminate →
      s.tone.faxCall.recognises (b.present s 1) = false ∧ s.tone.dataCall.recognises (b.present s 2) = false) ∧
    (s.dtmfActive → s.judgesDigit →
      (s.tone.dtmf.judge (digitOf s.settings.toneLevel b.whole b.bands)).2 = none)

/-! ### What the automatic answerer's operation leaves -/

/-- R80 to R82, R166, R167: the directory and the free list once the automatic answerer's operation has been stopped: the hold
of a play is released, and a recording is discarded without the keep rules. -/
def State.autoStopped (s : State) : Option (List Entry × List Nat) :=
  match s.voice.op.operation, s.voice.op.message.bind s.store.find with
  | none, _ | some .tone, _ => some (s.store.dir, s.store.free)
  | some .record, some e => some (s.store.dir.filter (fun x => x.id ≠ e.id), s.store.free ++ e.granules)
  | some .play, some e =>
    if s.voice.op.user ≠ some .auto then none
    else if e.state = .doomed ∧ e.holds ≤ 1 then
      some (s.store.dir.filter (fun x => x.id ≠ e.id), s.store.free ++ e.granules)
    else some (s.store.dir.map (fun x => if x.id = e.id then { x with holds := x.holds - 1 } else x), s.store.free)
  | _, none => none

/-- The parts of the store and its alerts that the stop of the automatic answerer's operation may change. -/
def autoParts (s : State) : List Part :=
  match s.voice.op.operation with
  | none | some .tone => []
  | some _ => [.directory, .freeList, .memory, .alerts .system, .alerts .panel, .notices .panel]

/-- R156: the parts that samples of a path may change where the recording in hand takes them. -/
def recordParts (s : State) (p : AudioPath) : List Part :=
  if s.recordsFrom p then [.voiceOp, .directory, .memory] else []

/-! ### Caller data (R71) -/

/-- R71 and R187: the bytes of a list of fields, each its tag, its length and its value. -/
def fieldBytes (fs : List (Byte × List Byte)) : List Byte :=
  fs.flatMap (fun f => f.1 :: BitVec.ofNat 8 f.2.length :: f.2)

/-- R71: bytes that begin a field and end before its value does, or after its tag (log 47). -/
def cutShort : List Byte → Bool
  | [] => false
  | [_] => true
  | _ :: len :: v => decide (v.length < len.toNat)

/-- R71: the value of the first field with a tag. -/
def firstField (fs : List (Byte × List Byte)) (tag : Byte) : Option (List Byte) :=
  (fs.find? (fun f => f.1 == tag)).map Prod.snd

/-- R71 and R187: a NUMBER of 1 to 20 digits. -/
def goodNumber (v : List Byte) : Bool :=
  decide (1 ≤ v.length ∧ v.length ≤ 20) && v.all (fun d => decide (0x30 ≤ d.toNat ∧ d.toNat ≤ 0x39))

/-- R71 and R187: a NAME of 1 to 15 characters. -/
def goodName (v : List Byte) : Bool :=
  decide (1 ≤ v.length ∧ v.length ≤ 15) && v.all (fun d => decide (0x20 ≤ d.toNat ∧ d.toNat ≤ 0x7E))

/-- R71: the outcome of a list of whole fields, its status, number and name. Of each tag the first field counts, and a bad one
makes the message CORRUPT. -/
def fieldsOutcome (fs : List (Byte × List Byte)) : CallerStatus × Option (List Nat) × Option (List Byte) :=
  if (firstField fs 0x11#8).all goodNumber = true ∧ (firstField fs 0x12#8).all goodName = true ∧
      (firstField fs 0x13#8).all (fun v => v == [1#8] || v == [2#8]) = true then
    match firstField fs 0x11#8, firstField fs 0x12#8, firstField fs 0x13#8 with
    | some v, name, _ => (.received, some (v.map (fun d => d.toNat - 0x30)), name)
    | none, some v, _ => (.received, none, some v)
    | none, none, some v => (if v = [1#8] then .withheld else .unavailable, none, none)
    | none, none, none => (.unavailable, none, none)
  else (.corrupt, none, none)

/-! ### Items of a dial list -/

/-- R42 to R46: `t` is what the start of an item of the dial list of `s` leaves, or the entry to PROGRESS at the list's end. -/
def State.ItemStarted (s t : State) : Option DialItem → Prop
  | some (.pulse x) =>
    t.ccu.dialler.item = .pulsing ∧ t.ccu.dialler.breaksEnded = 0 ∧
      t.ccu.dialler.lastMake = s.settings.pulseMakeMs + s.settings.interdigitMs ∧ t.timers.e0.mode = .alternate ∧
      t.timers.e0.use = .relayBreak ∧ t.timers.e0.high = true ∧ t.timers.e0.count = 0 ∧
      t.timers.e0.compareA = compareClamp s.settings.pulseBreakMs ∧
      t.timers.e0.compareB = compareClamp s.settings.pulseMakeMs ∧ t.timers.e0.stopAfterB = decide (x.val = 1) ∧
      t.timers.e0.pendingA = false ∧ t.timers.e0.pendingB = decide (x.val = 1) ∧
      (x.val = 1 → t.timers.e0.preloadB = compareClamp (s.settings.pulseMakeMs + s.settings.interdigitMs)) ∧
      t.relayNow = false
  | some (.tone x) =>
    t.ccu.dialler.item = .toning ∧ t.tone.generator = ⟨.dialling, [], some (.pair x)⟩ ∧
      t.timers.e0.mode = .alternate ∧ t.timers.e0.use = .generatorEnable ∧ t.timers.e0.high = true ∧
      t.timers.e0.count = 0 ∧ t.timers.e0.compareA = compareClamp s.settings.dtmfOnMs ∧
      t.timers.e0.compareB = compareClamp s.settings.dtmfOffMs ∧ t.timers.e0.stopAfterB = true
  | some .pause => t.ccu.dialler.item = .pausing ∧ t.LoadedT2 .pauseItem s.settings.pauseMs .none
  | some .waitTone =>
    t.ccu.dialler.item = .waiting ∧ t.LoadedT2 .waitTone s.settings.dialToneWaitMs .none ∧ t.tone.classifier = .zero
  | some .flash =>
    t.ccu.dialler.item = .flashing ∧ t.timers.e0.mode = .alternate ∧ t.timers.e0.use = .relayBreak ∧
      t.timers.e0.high = true ∧ t.timers.e0.count = 0 ∧ t.timers.e0.compareA = compareClamp s.settings.flashMs ∧
      t.timers.e0.compareB = compareClamp s.settings.interdigitMs ∧ t.timers.e0.stopAfterB = true ∧ t.relayNow = false
  | none =>
    t.ccu.line = .progress ∧ t.ccu.dialler.item = .none ∧ t.LoadedT2 .noAnswer s.settings.noAnswerMs .none ∧
      t.tone.classifier = .zero

/-- The parts that the start of an item of the dial list, or the entry to PROGRESS, may change. -/
def itemParts : Option DialItem → List Part
  | some (.pulse _) | some .flash => [.dialler, .timer 0, .lif]
  | some (.tone _) => [.dialler, .timer 0, .generator]
  | some .pause => [.dialler, .ccuRest, .timer 2]
  | some .waitTone => [.dialler, .ccuRest, .timer 2, .detectors]
  | none => [.dialler, .line, .ccuRest, .timer 2, .detectors, .notices .panel]

/-- The parts that the end of a voice operation may change. -/
def voiceEndParts (s : State) : List Part :=
  if s.voice.op.operation = none then []
  else [.resume, .timer 6, .call, .directory, .freeList, .memory, .alerts .system, .alerts .panel, .notices .panel]

/-- R172: the parts that the abort of a port's transfer may change. -/
def abortParts (s : State) (p : Port) : List Part :=
  if (s.channel p).state = .idle then []
  else [.transfer p, .directory, .freeList, .alerts .system, .alerts .panel, .notices .panel]

end Sys2Proof.Machine
end

