-- ==== Sys2Proof/Certificates/Slice0/Obligations.lean ====
section
/-! DEFINITION. The statements for the provers, from the rules of spec/ that each docstring names. A statement about a row says
what the next state holds (its effect), and what stays as it was (its frame, `SameBut`). -/

open Sys2Proof Sys2Proof.Machine

/-! ### The whole machine -/

/-- The model's own (log 4): one step takes the command at the front of the queue with the rest left waiting, and an empty
queue idles. -/
def Obligations.StepTakesFront : Prop :=
  ∀ (c : Instr) (rest : List Instr) (s : State),
    (s.pending = c :: rest → step s = exec c { s with pending := rest }) ∧ (s.pending = [] → step s = .next s)

/-- R164, R165, R19, R12, R180, R181: every step keeps the store's books balanced, the bytes of the DRAM in their canonical
form, the Call History and the claim queue within their limits, and the in-service stacks strictly rising. -/
def Obligations.StepKeepsSound : Prop :=
  ∀ s t : State, s.Sound → step s = .next t → t.Sound

/-- R1 and R2: every step keeps the line state and the Call Record together, and the relay closed only in an active call. -/
def Obligations.StepKeepsLineAndCall : Prop :=
  ∀ s t : State, s.LineSound → step s = .next t → t.LineSound

/-- R20, R38, R39, R96, R98, R113, R126, R152, R164, R170, R174, R176, R180, R182: what reset leaves, of the values that the
rules give (the store is that of a cold start with 1 MB, log 5). -/
def Obligations.ResetLeaves : Prop :=
  State.reset.Sound ∧ State.reset.LineSound ∧
  State.reset.ccu.line = .idle ∧ State.reset.lif.relayClosed = false ∧ State.reset.lif.lineInUse = false ∧
  State.reset.ccu.call.active = false ∧ State.reset.ccu.claims = [] ∧ State.reset.ccu.history = [] ∧
  State.reset.timers.e0.mode = .off ∧ State.reset.timers.e2.mode = .off ∧ State.reset.timers.e7.mode = .repeat ∧
  State.reset.timers.e7.compareA = 1000 ∧ State.reset.calendar = ⟨⟨0, 0, 0, 0⟩, false⟩ ∧
  State.reset.level.feed = .off ∧ State.reset.level.average = none ∧ State.reset.pump.phase = .off ∧
  State.reset.link.mode = .off ∧ State.reset.link.stats = ⟨0, 0, 0, 0, 0, 0, 0, 0, 0⟩ ∧
  State.reset.voice.op.state = .idle ∧ State.reset.voice.resume = none ∧ State.reset.store.dir = [] ∧
  State.reset.store.free.length = 1008 ∧ State.reset.store.header.lastId = 0 ∧
  (∀ p, (State.reset.port p).outgoing = [] ∧ (State.reset.port p).transfer.state = .idle ∧
    (State.reset.port p).notices.stack = [] ∧ (State.reset.port p).notices.priorities = ⟨1, 2, 3, 4, 5, 6⟩) ∧
  State.reset.sys.data = false ∧ State.reset.sys.cts = true ∧ State.reset.pending = []

/-- R36, R39, R40, R175, R178: only SET CLOCK, the second event and device reset write the Calendar; only SET SETTING and
device reset write the settings in force; only POWER_LOW and device reset write the power flags. That every row answers a next
state, also one whose condition fails, and that none touches the waiting commands, is the model's own choice (logs 3 and 4).
-/
def Obligations.OneOwnerEach : Prop :=
  ∀ (c : Instr) (s : State), ∃ t, exec c s = .next t ∧ t.pending = s.pending ∧
    (match c with
     | .setClock _ _ _ _ _ | .secondEvent | .deviceReset _ _ => True
     | _ => t.calendar = s.calendar) ∧
    (match c with
     | .setSetting _ _ _ | .deviceReset _ _ => True
     | _ => t.settings = s.settings) ∧
    (match c with
     | .powerLow | .deviceReset _ _ => True
     | _ => t.power = s.power)

/-- R175, R177, R178, R179: a command frame that the port does not take has no effect but its answer. In order: nothing where
the port does not look for frames; BUSY while a reply is owed or a BUSY answer waits, at most one waiting; RETAINED after
POWER_LOW; UNKNOWN_COMMAND for a code that the port does not know; BAD_PARAMETER for parameters of another size. That BUSY is
the answer whichever row brings the frame (log 46), and that the Panel Port knows GO DATA (log 47), are the model's choices.
-/
def Obligations.UntakenCommands : Prop :=
  ∀ (c : Instr) (f : Frame) (code : Byte) (s : State), c.command = some (f, code) →
    (s.deaf f.port = true → ∃ t, exec c s = .next t ∧ SameBut [] s t) ∧
    (s.deaf f.port = false → s.occupied f.port = true →
      ∃ t, exec c s = .next t ∧ SameBut [.outgoing f.port] s t ∧
        (t.port f.port).outgoing =
          (s.port f.port).outgoing ++ (if s.busyWaits f.port = true then [] else [⟨.busy, .busy, code, []⟩])) ∧
    (s.deaf f.port = false → s.occupied f.port = false → s.power.low = true →
      ∃ t, exec c s = .next t ∧ SameBut [.outgoing f.port] s t ∧ Answered s t f.port code .retained []) ∧
    (s.deaf f.port = false → s.occupied f.port = false → s.power.low = false → f.port = .system → code = 0x70#8 →
      ∃ t, exec c s = .next t ∧ SameBut [.outgoing f.port] s t ∧ Answered s t f.port code .unknownCommand []) ∧
    (s.deaf f.port = false → s.occupied f.port = false → s.power.low = false →
      ¬(f.port = .system ∧ code = 0x70#8) → f.sized = false →
      ∃ t, exec c s = .next t ∧ SameBut [.outgoing f.port] s t ∧ Answered s t f.port code .badParameter [])

/-! ### Claims and calls (R10 to R18) -/

/-- R3, R10, R11, R12, R17: a DIAL with good parameters in IDLE with LINE_IN_USE clear is GRANTED. Where the line is taken or
in use it is QUEUED with the wait option, in the place of an earlier one of the same master, and refused without it; bad
parameters are refused. That every QUEUED reply carries the replaced flag, that a refused claim answers the holder found, and
that further bits of the flags are ignored are the model's choices (log 11), and so is the code of a flag, 1 for yes and 0 for
no (log 50). -/
def Obligations.DialTaken : Prop :=
  (∀ (f : Frame) (job flags : Byte) (items : List Byte) (j : Job) (l : List DialItem) (s : State),
    s.Takes f 0x10#8 → jobFor f.port job = some j → dialListOf s.settings.dialPulse items = some l →
    s.ccu.line = .idle → s.lif.lineInUse = false →
    ∃ t, exec (.dial f job flags items) s = .next t ∧
      t.ccu.line = .seizing ∧ t.lif.relayClosed = true ∧
      t.ccu.call = { dialRecord f.port l j with active := true, number := s.nextNumber, startTime := s.calendar.time } ∧
      t.ccu.blind = flags.getLsbD 0 ∧ t.LoadedT2 .settle 300 .none ∧
      Answered s t f.port 0x10#8 .ok [.u8 (holderCode s.holder), .u8 0] ∧
      SameBut [.line, .call, .ccuRest, .lif, .timer 1, .timer 2, .ringing, .caller, .detectors, .level, .stats, .fax,
        .digits .system, .digits .panel, .notices .panel, .outgoing f.port] s t) ∧
  (∀ (f : Frame) (job flags : Byte) (items : List Byte) (s : State), s.Takes f 0x10#8 →
    (∀ j l, jobFor f.port job = some j → dialListOf s.settings.dialPulse items = some l →
      ¬(s.ccu.line = .idle ∧ s.lif.lineInUse = false) → flags.getLsbD 1 = true →
      ∃ t, exec (.dial f job flags items) s = .next t ∧
        t.ccu.claims = s.ccu.claims.filter (fun c => c.master ≠ f.port) ++ [⟨f.port, l, j, flags.getLsbD 0⟩] ∧
        Answered s t f.port 0x10#8 .ok
          [.u8 (holderCode s.holder), .u8 1, flagItem (s.ccu.claims.any (fun c => c.master == f.port))] ∧
        SameBut [.claims, .outgoing f.port] s t) ∧
    (∀ j l, jobFor f.port job = some j → dialListOf s.settings.dialPulse items = some l →
      ¬(s.ccu.line = .idle ∧ s.lif.lineInUse = false) → flags.getLsbD 1 = false →
      ∃ t, exec (.dial f job flags items) s = .next t ∧
        Answered s t f.port 0x10#8 (if s.ccu.line = .idle then .lineInUse else .lineBusy)
          [.u8 (holderCode s.holder)] ∧
        SameBut [.outgoing f.port] s t) ∧
    ((jobFor f.port job = none ∨ dialListOf s.settings.dialPulse items = none) →
      ∃ t, exec (.dial f job flags items) s = .next t ∧
        Answered s t f.port 0x10#8 .badParameter [.u8 (holderCode s.holder)] ∧ SameBut [.outgoing f.port] s t))

/-- R4, R13, R17, R101, R132: an ANSWER in RINGING with LINE_IN_USE clear is GRANTED: the relay closes, the line is CONNECTED,
and the engine of its job starts: none for VOICE, the Data Pump as answerer for DATA, the Fax Engine as receiver for FAX, with
the System Port as destination for the system master and a new FAX_IN entry for the panel master. A job that the master may
not name, LINE_IN_USE in RINGING, and any other line state refuse it: by the holder found, HELD_BY_AUTO, LINE_BUSY or
WRONG_PHASE. That the ring pattern of a call answered before the first cycle ends is 0 is the model's choice (log 50). -/
def Obligations.AnswerGranted : Prop :=
  (∀ (f : Frame) (job : Byte) (s : State), s.Takes f 0x11#8 →
    (jobFor f.port job = none →
      ∃ t, exec (.answer f job) s = .next t ∧
        Answered s t f.port 0x11#8 .badParameter [.u8 (holderCode s.holder)] ∧ SameBut [.outgoing f.port] s t) ∧
    (∀ j, jobFor f.port job = some j → s.ccu.line = .ringing → s.lif.lineInUse = true →
      ∃ t, exec (.answer f job) s = .next t ∧
        Answered s t f.port 0x11#8 .lineInUse [.u8 (holderCode s.holder)] ∧ SameBut [.outgoing f.port] s t) ∧
    (∀ j, jobFor f.port job = some j → s.ccu.line ≠ .ringing → s.holder = none →
      ∃ t, exec (.answer f job) s = .next t ∧
        Answered s t f.port 0x11#8 .wrongPhase [.u8 0] ∧ SameBut [.outgoing f.port] s t) ∧
    (∀ j, jobFor f.port job = some j → s.ccu.line ≠ .ringing → s.holder = some .auto →
      ∃ t, exec (.answer f job) s = .next t ∧
        Answered s t f.port 0x11#8 .heldByAuto [.u8 1] ∧ SameBut [.outgoing f.port] s t) ∧
    (∀ j (p : Port), jobFor f.port job = some j → s.ccu.line ≠ .ringing → s.holder = some p.party →
      ∃ t, exec (.answer f job) s = .next t ∧
        Answered s t f.port 0x11#8 .lineBusy [.u8 (holderCode s.holder)] ∧ SameBut [.outgoing f.port] s t)) ∧
  (∀ (f : Frame) (job : Byte) (j : Job) (s : State), s.Takes f 0x11#8 → jobFor f.port job = some j →
    s.ccu.line = .ringing → s.lif.lineInUse = false →
    (j = .fax → max 2 s.settings.rungFloor ≤ min 7 s.settings.rungCeiling ∧ (f.port = .panel → s.canCreate = true)) →
    ∃ t, exec (.answer f job) s = .next t ∧
      t.ccu.line = .connected ∧ t.lif.relayClosed = true ∧ t.rau.episode.active = false ∧
      t.ccu.call.active = true ∧ t.ccu.call.number = s.nextNumber ∧ t.ccu.call.direction = .incoming ∧
      t.ccu.call.holder = some f.port.party ∧ t.ccu.call.job = j ∧ t.ccu.call.seconds = 0 ∧
      t.ccu.call.startTime = s.calendar.time ∧ t.ccu.call.ringPattern = some s.rau.episode.pattern ∧
      t.ccu.call.ringCount = some s.rau.episode.ringCount ∧
      (j = .data → t.pump.mode = .data ∧ t.pump.role = some .answerer ∧ t.pump.phase = .handshake ∧
        t.pump.answerTone = true ∧ t.pump.localCeiling = s.settings.rungCeiling) ∧
      (j = .fax → t.pump.mode = .fax ∧ t.fax.role = some .receiver ∧ t.fax.phase = some .setup ∧
        t.fax.expect = .set ∧ t.link.tx = .fax (.caps t.fax.ceiling 3 0) ∧ t.LoadedT2 .faxReply 3000 .none ∧
        (f.port = .system → t.fax.place = .port ∧ t.store.dir = s.store.dir) ∧
        (f.port = .panel → t.fax.place = .store ∧ ∃ e, t.store.dir = s.store.dir ++ [e] ∧ e.kind = .faxIn ∧
          e.state = .opened ∧ t.fax.linkedId = some e.id ∧ t.ccu.call.linkedId = some e.id)) ∧
      Answered s t f.port 0x11#8 .ok [.u8 (holderCode s.holder), .u8 0] ∧
      SameBut ([.line, .call, .ccuRest, .lif, .timer 1, .ringing, .episode, .caller, .detectors, .level, .stats, .fax,
          .digits .system, .digits .panel, .notices .panel, .outgoing f.port] ++
        match j with
        | .data => [.pump]
        | .fax => [.pump, .link, .timer 2, .header, .directory]
        | _ => []) s t)

/-- R14: a TAKE CALL of a call that the automatic answerer holds with the job DISCRIMINATE or REMOTE moves it to the master as
a VOICE call in the same line state; a voice operation in hand ends. Other TAKE CALLs change nothing. That the digit queue it
empties has its lost flag cleared (R59) is the model's choice (log 50). -/
def Obligations.TakeCallMoves : Prop :=
  ∀ (f : Frame) (s : State), s.Takes f 0x12#8 →
    (s.holder = some .auto → (s.ccu.call.job = .discriminate ∨ s.ccu.call.job = .remote) →
      ∃ t, exec (.takeCall f) s = .next t ∧
        t.ccu.line = s.ccu.line ∧ t.ccu.call.active = true ∧ t.ccu.call.number = s.ccu.call.number ∧
        t.ccu.call.holder = some f.port.party ∧ t.ccu.call.job = .voice ∧ t.ccu.call.phase = none ∧
        t.rau.discr = none ∧ t.voice.remote = none ∧ t.voice.op.operation = none ∧ t.voice.op.user ≠ some .auto ∧
        (t.port f.port).digits = ⟨[], false⟩ ∧ (∀ p, t.Noticed p .callState) ∧
        Answered s t f.port 0x12#8 .ok [.u8 1, .u8 0] ∧ BytesKept s t ∧
        SameBut [.call, .ccuRest, .timer 2, .timer 6, .voiceOp, .resume, .remote, .discr, .detectors, .directory,
          .freeList, .memory, .alerts .system, .alerts .panel, .notices .panel, .digits f.port, .outgoing f.port] s t) ∧
    (s.holder = some .auto → s.ccu.call.job ≠ .discriminate → s.ccu.call.job ≠ .remote →
      ∃ t, exec (.takeCall f) s = .next t ∧
        Answered s t f.port 0x12#8 .wrongPhase [.u8 1] ∧ SameBut [.outgoing f.port] s t) ∧
    (s.holder = some f.port.party →
      ∃ t, exec (.takeCall f) s = .next t ∧
        Answered s t f.port 0x12#8 .ok [.u8 (holderCode s.holder), .u8 0] ∧ SameBut [.outgoing f.port] s t) ∧
    (∀ q : Port, q ≠ f.port → s.holder = some q.party →
      ∃ t, exec (.takeCall f) s = .next t ∧
        Answered s t f.port 0x12#8 .notHolder [.u8 (holderCode s.holder)] ∧ SameBut [.outgoing f.port] s t) ∧
    (s.holder = none →
      ∃ t, exec (.takeCall f) s = .next t ∧
        Answered s t f.port 0x12#8 .wrongPhase [.u8 0] ∧ SameBut [.outgoing f.port] s t)

/-- R15, R18, R111, R125: HANG UP. The holder of a call that is not linked ends it with NORMAL; a linked call clears first,
and so does one whose far end has begun to clear; a further HANG UP during that clearing has no effect; a call of the
automatic answerer ends with the cause of the master; else a queued dial is withdrawn. A System Port that is not in its data
state is left as it stands, with the frame that its assembler holds. That every OK reply carries the withdrawn indication is
the model's choice (log 11), and so are that a flag is coded 1 for yes and 0 for no and that a HANG UP while the far end's
CLEAR is answered puts the pump into CLEARDOWN (log 50). -/
def Obligations.HangUpEnds : Prop :=
  ∀ (f : Frame) (s : State), s.Takes f 0x13#8 →
    (s.holder = some f.port.party → s.ccu.ending = none → s.link.mode ≠ .linked → s.link.mode ≠ .clearing →
      ∃ t, exec (.hangUp f) s = .next t ∧ CallEnded [.outgoing f.port] s t .normal ∧
        (s.sys.data = false → t.sys.assembler = s.sys.assembler) ∧ Answered s t f.port 0x13#8 .ok [.u8 0]) ∧
    (s.holder = some .auto → s.ccu.ending = none →
      ∃ t, exec (.hangUp f) s = .next t ∧
        CallEnded [.outgoing f.port] s t (match f.port with | .system => .stoppedBySystem | .panel => .stoppedByPanel) ∧
        (s.sys.data = false → t.sys.assembler = s.sys.assembler) ∧ Answered s t f.port 0x13#8 .ok [.u8 0]) ∧
    (s.holder = some f.port.party → s.ccu.ending = none → s.link.mode = .linked →
      ∃ t, exec (.hangUp f) s = .next t ∧ t.ccu.ending = some .normal ∧ t.link.mode = .clearing ∧
        t.link.clearOwed = true ∧ t.link.window = [] ∧ t.link.outbound = [] ∧ t.timers.e3.Runs .lke 2000 .none ∧
        (s.pump.phase = .data → t.pump.phase = .cleardown ∧ t.timers.e4.mode = .off ∧ t.timers.e2.mode = .off ∧
          t.level.feed = .off) ∧
        Answered s t f.port 0x13#8 .ok [.u8 0] ∧
        SameBut [.ccuRest, .timer 2, .timer 3, .timer 4, .pump, .link, .outbound, .level, .systemPort,
          .outgoing f.port] s t) ∧
    (s.holder = some f.port.party → s.ccu.ending = none → s.link.mode = .clearing →
      ∃ t, exec (.hangUp f) s = .next t ∧ t.ccu.ending = some .normal ∧ t.link = { s.link with paused := false } ∧
        (s.pump.phase = .data ∨ s.pump.phase = .rateChange ∨ s.pump.phase = .retrain →
          t.pump.phase = .cleardown ∧ t.timers.e4.mode = .off ∧ t.timers.e2.mode = .off ∧ t.level.feed = .off) ∧
        Answered s t f.port 0x13#8 .ok [.u8 0] ∧
        SameBut [.ccuRest, .timer 2, .timer 4, .pump, .link, .level, .outgoing f.port] s t) ∧
    (s.holder = some f.port.party → s.ccu.ending ≠ none →
      ∃ t, exec (.hangUp f) s = .next t ∧ Answered s t f.port 0x13#8 .ok [.u8 0] ∧ SameBut [.outgoing f.port] s t) ∧
    (s.holder ≠ some f.port.party → s.holder ≠ some .auto → s.ccu.claims.any (fun c => c.master == f.port) = true →
      ∃ t, exec (.hangUp f) s = .next t ∧ t.ccu.claims = s.ccu.claims.filter (fun c => c.master ≠ f.port) ∧
        Answered s t f.port 0x13#8 .ok [.u8 1] ∧ SameBut [.claims, .outgoing f.port] s t) ∧
    (s.holder ≠ some f.port.party → s.holder ≠ some .auto → s.ccu.claims.any (fun c => c.master == f.port) = false →
      ∃ t, exec (.hangUp f) s = .next t ∧
        Answered s t f.port 0x13#8 (if s.holder = none then .wrongPhase else .notHolder) [] ∧
        SameBut [.outgoing f.port] s t)

/-- R42, R51, R57, R59, R60, R61: the commands of a VOICE call. CONNECT in SEIZING, DIALING or PROGRESS connects it and stops
the item in hand, and the blocks after a burst that it cuts are not judged (R51); SEND DIGITS and BEEP on a connected one,
with the generator idle and no play to the line, have T0 gate the first digit, or the beep with its frequency and its length
held within their ranges; READ DIGITS takes digits from the front of the port's own queue and clears its lost flag. Which two
blocks follow a burst is the model's choice (log 47). That a flag is coded 1 for yes and 0 for no is the model's choice (log
50). -/
def Obligations.VoiceCallCommands : Prop :=
  (∀ (f : Frame) (s : State), s.Takes f 0x14#8 → s.holder = some f.port.party → s.ccu.call.job = .voice →
    (s.ccu.line.connectable = true →
      ∃ t, exec (.connect f) s = .next t ∧
        t.ccu.line = .connected ∧ t.ccu.dialler.item = .none ∧ t.timers.e2.mode = .off ∧ t.tone.dtmf = .zero ∧
        t.tone.blank = (if s.ccu.dialler.item = .toning ∧ s.inBurst then 2 else s.tone.blank) ∧
        (s.ccu.dialler.item = .pulsing ∨ s.ccu.dialler.item = .toning ∨ s.ccu.dialler.item = .flashing →
          t.timers.e0.mode = .off ∧ t.timers.e0.high = false) ∧
        t.ccu.call = s.ccu.call ∧ (∀ p, t.Noticed p .callState) ∧
        Answered s t f.port 0x14#8 .ok [] ∧
        SameBut [.line, .ccuRest, .dialler, .lif, .timer 0, .timer 2, .generator, .detectors, .notices .panel,
          .outgoing f.port] s t) ∧
    (s.ccu.line.connectable = false →
      ∃ t, exec (.connect f) s = .next t ∧ Answered s t f.port 0x14#8 .ok [] ∧ SameBut [.outgoing f.port] s t)) ∧
  (∀ (f : Frame) (s : State), s.ccu.call.active = true → s.ccu.call.job = .voice → s.ccu.line = .connected →
    s.holder = some f.port.party → s.tone.generator.state = .idle → ¬s.voice.op.playsToLine →
    (∀ (b : Byte) (rest : List Byte) (x : Symbol) (xs : List Symbol), s.Takes f 0x15#8 →
      symbolsOf (b :: rest) = some (x :: xs) → rest.length < 32 →
      ∃ t, exec (.sendDigits f (b :: rest)) s = .next t ∧
        t.tone.generator = ⟨.sending, xs, some (.pair x)⟩ ∧
        t.timers.e0.mode = .alternate ∧ t.timers.e0.high = true ∧ t.timers.e0.count = 0 ∧
        t.timers.e0.compareA = compareClamp s.settings.dtmfOnMs ∧
        t.timers.e0.compareB = compareClamp s.settings.dtmfOffMs ∧ t.timers.e0.stopAfterB = true ∧
        t.timers.e0.use = .generatorEnable ∧ t.timers.e0.owner = .tnu ∧
        Answered s t f.port 0x15#8 .ok [] ∧ SameBut [.timer 0, .generator, .outgoing f.port] s t) ∧
    (∀ frequency duration : U16, s.Takes f 0x16#8 →
      ∃ t, exec (.beep f frequency duration) s = .next t ∧
        t.tone.generator = ⟨.beeping, [], some (.single (clamp 300 3000 frequency.toNat))⟩ ∧
        t.timers.e0.mode = .alternate ∧ t.timers.e0.high = true ∧ t.timers.e0.count = 0 ∧
        t.timers.e0.compareA = clamp 50 2000 duration.toNat ∧ t.timers.e0.stopAfterB = true ∧
        t.timers.e0.use = .generatorEnable ∧
        Answered s t f.port 0x16#8 .ok
          [.u16 (clamp 300 3000 frequency.toNat), .u16 (clamp 50 2000 duration.toNat)] ∧
        SameBut [.timer 0, .generator, .outgoing f.port] s t)) ∧
  (∀ (f : Frame) (count : Byte) (s : State), s.Takes f 0x25#8 →
    (1 ≤ count.toNat → count.toNat ≤ 16 →
      ∃ t, exec (.readDigits f count) s = .next t ∧
        (t.port f.port).digits = ⟨(s.port f.port).digits.digits.drop count.toNat, false⟩ ∧
        Answered s t f.port 0x25#8 .ok
          (listItems (fun x => [.u8 x.val]) ((s.port f.port).digits.digits.take count.toNat) ++
            [flagItem (s.port f.port).digits.lost]) ∧
        SameBut [.digits f.port, .outgoing f.port] s t) ∧
    (count.toNat < 1 ∨ 16 < count.toNat →
      ∃ t, exec (.readDigits f count) s = .next t ∧ Answered s t f.port 0x25#8 .badParameter [] ∧
        SameBut [.outgoing f.port] s t))

/-! ### Reads and settings -/

/-- R19, R23, R37, R40, R97, R126, R168, R178: the reading commands answer from the state as it stands and change nothing.
Where the results of READ CALL stand in its reply is the model's choice (log 11), and so is the code of a flag (log 50). -/
def Obligations.ReadsChangeNothing : Prop :=
  ∀ (f : Frame) (s : State),
    (s.Takes f 0x20#8 → ∃ t, exec (.readCall f) s = .next t ∧ SameBut [.outgoing f.port] s t ∧
      Answered s t f.port 0x20#8 .ok (readCallItems s)) ∧
    (∀ first count : Byte, s.Takes f 0x21#8 →
      ∃ t, exec (.readHistory f first count) s = .next t ∧ SameBut [.outgoing f.port] s t ∧
        (if s.ccu.history.length ≤ first.toNat ∨ count = 0#8 then Answered s t f.port 0x21#8 .badParameter []
         else Answered s t f.port 0x21#8 .ok
           (fittedList 0 (((s.ccu.history.drop first.toNat).take count.toNat).map historyItems)))) ∧
    (s.Takes f 0x22#8 → ∃ t, exec (.readLevels f) s = .next t ∧ SameBut [.outgoing f.port] s t ∧
      Answered s t f.port 0x22#8 .ok (levelItems s.level)) ∧
    (s.Takes f 0x23#8 → ∃ t, exec (.readLinkStats f) s = .next t ∧ SameBut [.outgoing f.port] s t ∧
      Answered s t f.port 0x23#8 .ok (linkItems s.link)) ∧
    (s.Takes f 0x24#8 → ∃ t, exec (.readTimers f) s = .next t ∧ SameBut [.outgoing f.port] s t ∧
      Answered s t f.port 0x24#8 .ok (s.timers.toList.flatMap channelItems)) ∧
    (∀ id : Byte, s.Takes f 0x32#8 → ∃ t, exec (.readSetting f id) s = .next t ∧ SameBut [.outgoing f.port] s t ∧
      (match settingItems f.port id.toNat s with
       | some items => Answered s t f.port 0x32#8 .ok items
       | none => Answered s t f.port 0x32#8 .badParameter [])) ∧
    (∀ id : Byte, s.Takes f 0x51#8 → ∃ t, exec (.readEntry f id) s = .next t ∧ SameBut [.outgoing f.port] s t ∧
      (match s.store.visible id.toNat with
       | some e => Answered s t f.port 0x51#8 .ok e.items
       | none => Answered s t f.port 0x51#8 .noSuchMessage []))

/-- R40: SET CLOCK with the four fields in their ranges writes them, sets the clock-set flag and sets T7's count to 0; with a
field outside its range it is refused and nothing changes. READ CLOCK returns the fields and the flag. That a flag is coded 1
for yes and 0 for no is the model's choice (log 50). -/
def Obligations.SetClockWrites : Prop :=
  ∀ (f : Frame) (s : State),
    (∀ day hour minute second : Byte, s.Takes f 0x30#8 →
      (day.toNat ≤ 6 ∧ hour.toNat ≤ 23 ∧ minute.toNat ≤ 59 ∧ second.toNat ≤ 59 →
        ∃ t, exec (.setClock f day hour minute second) s = .next t ∧
          t.calendar = ⟨⟨day.toNat, hour.toNat, minute.toNat, second.toNat⟩, true⟩ ∧
          t.timers.e7 = { s.timers.e7 with count := 0, signalA := false } ∧
          Answered s t f.port 0x30#8 .ok [] ∧ SameBut [.calendar, .timer 7, .outgoing f.port] s t) ∧
      (6 < day.toNat ∨ 23 < hour.toNat ∨ 59 < minute.toNat ∨ 59 < second.toNat →
        ∃ t, exec (.setClock f day hour minute second) s = .next t ∧
          Answered s t f.port 0x30#8 .badParameter [] ∧ SameBut [.outgoing f.port] s t)) ∧
    (s.Takes f 0x26#8 →
      ∃ t, exec (.readClock f) s = .next t ∧
        Answered s t f.port 0x26#8 .ok
          [.u8 s.calendar.time.day, .u8 s.calendar.time.hour, .u8 s.calendar.time.minute, .u8 s.calendar.time.second,
           flagItem s.calendar.isSet] ∧
        SameBut [.outgoing f.port] s t)

/-- R52, R73, R99, R100, R130, R163, R173, R178, R180 and 12.6: SET SETTING. A number is held within its range, taken, saved
in the header and reported; an enumeration outside its values is refused; a ladder pair that breaks the ladder is refused with
BAD_LADDER; a priority goes to the port's own controller and is not saved. A cadence entry has its numbers held within their
ranges and its match count set to 0, and is refused with a class outside the five or a minimum above its maximum;
`remote_enable` is refused ON without a code, and the unset `remote_code` while ON; the rung bounds keep 0 to 7 and their
order; an id that no block owns is refused. The value that SET SETTING reports as taken is the one that READ SETTING then
gives, for every setting. -/
def Obligations.SettingsTaken : Prop :=
  (∀ (f : Frame) (s : State), s.Takes f 0x31#8 →
    (∀ (id lo hi : Byte) (x : NumSetting), numSettingOf id.toNat = some x →
      ∃ t, exec (.setSetting f id [lo, hi]) s = .next t ∧
        t.settings = x.set s.settings (clamp x.lo x.hi (lo.toNat + 256 * hi.toNat)) ∧
        t.store.header.settings = t.settings ∧ x.get t.settings = clamp x.lo x.hi (lo.toNat + 256 * hi.toNat) ∧
        Answered s t f.port 0x31#8 .ok [.u16 (clamp x.lo x.hi (lo.toNat + 256 * hi.toNat))] ∧
        SameBut ([.settings, .header, .outgoing f.port] ++
          if id = 0x60#8 then [.freeList, .alerts .system, .alerts .panel, .notices .panel] else []) s t) ∧
    (∀ (id b : Byte) (x : EnumSetting), enumSettingOf id.toNat = some x →
      ∃ t, exec (.setSetting f id [b]) s = .next t ∧
        (b.toNat < x.n → t.settings = x.set s.settings b.toNat ∧ x.get t.settings = b.toNat ∧
          t.store.header.settings = t.settings ∧ Answered s t f.port 0x31#8 .ok [.u8 b.toNat] ∧ SameBut [.settings, .header, .outgoing f.port] s t) ∧
        (x.n ≤ b.toNat → Answered s t f.port 0x31#8 .badParameter [] ∧ SameBut [.outgoing f.port] s t)) ∧
    (∀ (r : Nat) (f0 f1 r0 r1 : Byte), r < 8 →
      ∃ t, exec (.setSetting f (BitVec.ofNat 8 (0x30 + r)) [f0, f1, r0, r1]) s = .next t ∧
        (if ladderValid (s.settings.ladder.set r
            ⟨f0.toNat + 256 * f1.toNat, r0.toNat + 256 * r1.toNat⟩) = true then
          t.settings = { s.settings with
            ladder := s.settings.ladder.set r (⟨f0.toNat + 256 * f1.toNat, r0.toNat + 256 * r1.toNat⟩) } ∧
            t.store.header.settings = t.settings ∧
            Answered s t f.port 0x31#8 .ok [.u16 (f0.toNat + 256 * f1.toNat), .u16 (r0.toNat + 256 * r1.toNat)] ∧
            SameBut [.settings, .header, .outgoing f.port] s t
         else Answered s t f.port 0x31#8 .badLadder [] ∧ SameBut [.outgoing f.port] s t)) ∧
    (∀ (g : Nat) (lo hi : Byte), g < 6 →
      ∃ t, exec (.setSetting f (BitVec.ofNat 8 (0x70 + g)) [lo, hi]) s = .next t ∧
        (t.port f.port).notices.priorities.get g = clamp 0 7 (lo.toNat + 256 * hi.toNat) ∧
        Answered s t f.port 0x31#8 .ok [.u16 (clamp 0 7 (lo.toNat + 256 * hi.toNat))] ∧
        SameBut [.notices f.port, .outgoing f.port] s t) ∧
    (∀ (i : Nat) (k a0 a1 b0 b1 c0 c1 d0 d1 n : Byte), i < 6 →
      (∀ (cls : CadenceClass) (e : CadenceEntry), cadenceClassOf k = some cls →
        e = ⟨cls, clamp 16 8000 (a0.toNat + 256 * a1.toNat), clamp 16 8000 (b0.toNat + 256 * b1.toNat),
          clamp 16 8000 (c0.toNat + 256 * c1.toNat), clamp 16 8000 (d0.toNat + 256 * d1.toNat), clamp 1 4 n.toNat⟩ →
        ∃ t, exec (.setSetting f (BitVec.ofNat 8 (0x11 + i)) [k, a0, a1, b0, b1, c0, c1, d0, d1, n]) s = .next t ∧
          (if e.onMin ≤ e.onMax ∧ e.offMin ≤ e.offMax then
            t.settings = { s.settings with cadence := s.settings.cadence.set i e } ∧
              t.store.header.settings = t.settings ∧
              t.tone = { s.tone with classifier := { s.tone.classifier with
                counts := s.tone.classifier.counts.set i 0 } } ∧
              Answered s t f.port 0x31#8 .ok
                [.u8 k.toNat, .u16 e.onMin, .u16 e.onMax, .u16 e.offMin, .u16 e.offMax, .u8 e.cycles] ∧
              SameBut [.settings, .header, .detectors, .outgoing f.port] s t
           else Answered s t f.port 0x31#8 .badParameter [] ∧ SameBut [.outgoing f.port] s t)) ∧
      (cadenceClassOf k = none →
        ∃ t, exec (.setSetting f (BitVec.ofNat 8 (0x11 + i)) [k, a0, a1, b0, b1, c0, c1, d0, d1, n]) s = .next t ∧
          Answered s t f.port 0x31#8 .badParameter [] ∧ SameBut [.outgoing f.port] s t)) ∧
    (∀ b : Byte,
      ∃ t, exec (.setSetting f 0x2A#8 [b]) s = .next t ∧
        (if b = 1#8 ∨ (b = 0#8 ∧ s.settings.remoteCode.isSome = true) then
          t.settings = { s.settings with remoteEnable := decide (b = 0#8) } ∧ t.store.header.settings = t.settings ∧
            Answered s t f.port 0x31#8 .ok [.u8 b.toNat] ∧ SameBut [.settings, .header, .outgoing f.port] s t
         else Answered s t f.port 0x31#8 .badParameter [] ∧ SameBut [.outgoing f.port] s t)) ∧
    (∀ (v : List Byte) (c : Option (List Nat)),
      (v = [0xFF#8, 0xFF#8, 0xFF#8, 0xFF#8] ∧ s.settings.remoteEnable = false ∧ c = none) ∨
        (v.length = 4 ∧ (∀ b ∈ v, b.toNat ≤ 9) ∧ c = some (v.map BitVec.toNat)) →
      ∃ t, exec (.setSetting f 0x2B#8 v) s = .next t ∧ t.settings = { s.settings with remoteCode := c } ∧
        t.store.header.settings = t.settings ∧ Answered s t f.port 0x31#8 .ok (v.map (fun b => .u8 b.toNat)) ∧
        SameBut [.settings, .header, .outgoing f.port] s t) ∧
    (∀ v : List Byte,
      (v = [0xFF#8, 0xFF#8, 0xFF#8, 0xFF#8] ∧ s.settings.remoteEnable = true) ∨
        (v ≠ [0xFF#8, 0xFF#8, 0xFF#8, 0xFF#8] ∧ (v.length ≠ 4 ∨ ∃ b ∈ v, 9 < b.toNat)) →
      ∃ t, exec (.setSetting f 0x2B#8 v) s = .next t ∧ Answered s t f.port 0x31#8 .badParameter [] ∧
        SameBut [.outgoing f.port] s t) ∧
    (∀ (lo hi : Byte) (n : Nat), n = lo.toNat + 256 * hi.toNat →
      (∃ t, exec (.setSetting f 0x38#8 [lo, hi]) s = .next t ∧
        (if n ≤ 7 ∧ n ≤ s.settings.rungCeiling then
          t.settings = { s.settings with rungFloor := n } ∧ t.store.header.settings = t.settings ∧
            Answered s t f.port 0x31#8 .ok [.u16 n] ∧ SameBut [.settings, .header, .outgoing f.port] s t
         else Answered s t f.port 0x31#8 .badParameter [] ∧ SameBut [.outgoing f.port] s t)) ∧
      (∃ t, exec (.setSetting f 0x39#8 [lo, hi]) s = .next t ∧
        (if n ≤ 7 ∧ s.settings.rungFloor ≤ n then
          t.settings = { s.settings with rungCeiling := n } ∧ t.store.header.settings = t.settings ∧
            Answered s t f.port 0x31#8 .ok [.u16 n] ∧ SameBut [.settings, .header, .outgoing f.port] s t
         else Answered s t f.port 0x31#8 .badParameter [] ∧ SameBut [.outgoing f.port] s t)) ∧
      (∃ t, exec (.setSetting f 0x46#8 [lo, hi]) s = .next t ∧
        (if n ≤ 255 then
          t.settings = { s.settings with escapeByte := n } ∧ t.store.header.settings = t.settings ∧
            Answered s t f.port 0x31#8 .ok [.u16 n] ∧ SameBut [.settings, .header, .outgoing f.port] s t
         else Answered s t f.port 0x31#8 .badParameter [] ∧ SameBut [.outgoing f.port] s t))) ∧
    (∀ (id : Byte) (v : List Byte), settingItems f.port id.toNat s = none →
      ∃ t, exec (.setSetting f id v) s = .next t ∧ Answered s t f.port 0x31#8 .badParameter [] ∧
        SameBut [.outgoing f.port] s t)) ∧
  (∀ (f : Frame) (id : Byte) (value : List Byte) (items : List Item) (s t : State), s.Takes f 0x31#8 →
    exec (.setSetting f id value) s = .next t → Answered s t f.port 0x31#8 .ok items →
    settingItems f.port id.toNat t = some items)

/-! ### Voice commands (R152 to R158) -/

/-- R153, R154, R156, R165, R166, R173: a PLAY that passes its checks takes a hold on its entry and plays from the granule
boundary at or below its offset. A RECORD that passes its checks records into a new OPEN entry, with T6 loaded under VOX;
where no entry can be created it ends at once with STORE_FULL. Its length in seconds is held within 5 to 600. That a flag
parameter is 1 or 0 is the model's choice (log 50). -/
def Obligations.PlayAndRecordStart : Prop :=
  (∀ (f : Frame) (id : Byte) (start : PlayStart) (endpoint stopOnDigit : Byte) (e : Endpoint) (d : Bool) (entry : Entry)
    (s : State), s.Takes f 0x40#8 → endpointOf endpoint = some e → flagOf stopOnDigit = some d → id ≠ 0#8 →
    s.store.visible id.toNat = some entry → entry.state ≠ .opened →
    (entry.kind = .voiceMsg ∨ entry.kind = .greeting ∨ entry.kind = .memo) →
    s.voice.op.state = .idle → s.voice.op.user ≠ some .auto →
    (e = .line → s.hasVoiceLine f.port ∧ s.tone.generator.state ≠ .sending ∧ s.tone.generator.state ≠ .beeping) →
    s.playOffset id.toNat start < entry.length →
    ∃ t, exec (.play f id start endpoint stopOnDigit) s = .next t ∧
      t.voice.op.state = .playing ∧ t.voice.op.user = some f.port.party ∧ t.voice.op.operation = some .play ∧
      t.voice.op.endpoint = some e ∧ t.voice.op.message = some id.toNat ∧ t.voice.op.stopOnDigit = d ∧
      t.voice.op.offset = s.playOffset id.toNat start / 1024 * 1024 ∧ t.voice.op.clamps = 0 ∧
      t.store.dir =
        s.store.dir.map (fun x => if x.id = id.toNat then { x with holds := x.holds + 1 } else x) ∧
      Answered s t f.port 0x40#8 .ok [] ∧ SameBut [.voiceOp, .directory, .outgoing f.port] s t) ∧
  (∀ (f : Frame) (kind slot endpoint vox : Byte) (seconds : U16) (k : MsgKind × Option Nat) (e : Endpoint) (v : Bool)
    (s : State), s.Takes f 0x41#8 → recordKind kind slot = some k → endpointOf endpoint = some e →
    flagOf vox = some v → s.voice.op.state = .idle → s.voice.op.user ≠ some .auto →
    (e = .line → s.hasVoiceLine f.port) →
    (s.canCreate = true →
      ∃ t, exec (.record f kind slot endpoint vox seconds) s = .next t ∧
        t.voice.op.state = .recording ∧ t.voice.op.user = some f.port.party ∧ t.voice.op.operation = some .record ∧
        t.voice.op.endpoint = some e ∧ t.voice.op.kind = some k.1 ∧ t.voice.op.slot = k.2 ∧ t.voice.op.vox = v ∧
        t.voice.op.maxCode = 4000 * clamp 5 600 seconds.toNat ∧ t.voice.op.written = 0 ∧ t.voice.op.loud = 0 ∧
        t.voice.op.lastLoud = none ∧ t.voice.op.codec = ⟨0, 0⟩ ∧
        (∃ x : Entry, t.store.dir = s.store.dir ++ [x] ∧ t.voice.op.message = some x.id ∧
          t.store.header.lastId = x.id ∧ x.kind = k.1 ∧ x.slot = k.2 ∧ x.state = .opened ∧ x.isNew = false ∧
          x.length = 0 ∧ x.granules = [] ∧ x.holds = 0 ∧ x.created = s.calendar.time) ∧
        (v = true → t.timers.e6.Runs .vce (s.settings.voxTimeoutS * 1000) (.block e.path s.settings.silenceLevel)) ∧
        Answered s t f.port 0x41#8 .ok [.u16 (clamp 5 600 seconds.toNat)] ∧
        SameBut ([.voiceOp, .header, .directory, .outgoing f.port] ++ if v = true then [.timer 6] else []) s t) ∧
    (s.canCreate = false →
      ∃ t, exec (.record f kind slot endpoint vox seconds) s = .next t ∧
        t.voice.op.state = .idle ∧ t.voice.op.user = none ∧ t.voice.op.reason = some .storeFull ∧
        (∀ p, (t.port p).alerts.full = true) ∧
        Answered s t f.port 0x41#8 .ok [.u16 (clamp 5 600 seconds.toNat)] ∧
        SameBut [.voiceOp, .alerts .system, .alerts .panel, .notices .panel, .outgoing f.port] s t))

/-- R154, R155, R157, R158: PAUSE of a LOCAL operation of the master's own, RESUME of a paused one, and STOP. A recording
stops and starts the VOX timeout with its pause. A stopped play releases its hold and, at LOCAL, keeps its place for a resume;
a stopped recording without a loud block, judged or still to be written, is discarded and its granules are freed; one with
enough loud blocks becomes COMPLETE, a VOICE_MSG NEW, a GREETING in place of the earlier one of its slot. That the message of
a discarded recording is absent from the record (log 28), and that a resumed recording is in no block until the next one
begins (log 44), are the model's readings. -/
def Obligations.VoiceControlled : Prop :=
  (∀ (f : Frame) (s : State), s.voice.op.user = some f.port.party → s.voice.op.endpoint = some .local →
    (s.Takes f 0x42#8 → (s.voice.op.state = .playing ∨ s.voice.op.state = .recording) →
      ∃ t, exec (.pause f) s = .next t ∧
        t.voice.op = { s.voice.op with state := .paused, pausedOp := s.voice.op.operation } ∧
        (s.voice.op.state = .recording → t.timers.e6.mode = .off) ∧ Answered s t f.port 0x42#8 .ok [] ∧
        SameBut ([.voiceOp, .outgoing f.port] ++ if s.voice.op.state = .recording then [.timer 6] else []) s t) ∧
    (s.Takes f 0x43#8 → s.voice.op.state = .paused → s.voice.op.pausedOp = some .play →
      ∃ t, exec (.resume f) s = .next t ∧
        t.voice.op = { s.voice.op with state := .playing, pausedOp := none } ∧ Answered s t f.port 0x43#8 .ok [] ∧
        SameBut [.voiceOp, .outgoing f.port] s t) ∧
    (s.Takes f 0x43#8 → s.voice.op.state = .paused → s.voice.op.pausedOp = some .record →
      ∃ t, exec (.resume f) s = .next t ∧
        t.voice.op = { s.voice.op with state := .recording, pausedOp := none, inBlock := false } ∧
        (s.voice.op.vox = true →
          t.timers.e6.Runs .vce (s.settings.voxTimeoutS * 1000) (.block .mic s.settings.silenceLevel)) ∧
        Answered s t f.port 0x43#8 .ok [] ∧
        SameBut ([.voiceOp, .outgoing f.port] ++ if s.voice.op.vox = true then [.timer 6] else []) s t)) ∧
  (∀ (f : Frame) (id : Nat) (e : Entry) (s : State), s.Takes f 0x44#8 → s.voice.op.user = some f.port.party →
    s.voice.op.state ≠ .idle → s.voice.op.message = some id → s.store.find id = some e →
    (s.voice.op.operation = some .play → e.state ≠ .doomed →
      ∃ t, exec (.stop f) s = .next t ∧
        t.voice.op.state = .idle ∧ t.voice.op.user = none ∧ t.voice.op.reason = some .stopped ∧
        t.store.dir = s.store.dir.map (fun x => if x.id = id then { x with holds := x.holds - 1 } else x) ∧
        (s.voice.op.endpoint = some .local → t.voice.resume = some (id, min s.voice.op.offset (e.length - 1) / 1024 * 1024)) ∧
        t.Noticed f.port .voiceDone ∧
        Answered s t f.port 0x44#8 .ok [] ∧
        SameBut ([.voiceOp, .directory, .notices .panel, .outgoing f.port] ++
          if s.voice.op.endpoint = some .local then [.resume] else []) s t) ∧
    (s.voice.op.operation = some .record → s.voice.op.lastLoud = none → (∀ b ∈ s.voice.op.taken, b.loud = false) →
      ∃ t, exec (.stop f) s = .next t ∧
        t.voice.op.state = .idle ∧ t.voice.op.reason = some .stopped ∧ t.voice.op.message = none ∧
        t.timers.e6.mode = .off ∧ t.store.dir = s.store.dir.filter (fun x => x.id ≠ id) ∧
        t.store.free = s.store.free ++ e.granules ∧
        t.Noticed f.port .voiceDone ∧
        Answered s t f.port 0x44#8 .ok [] ∧ BytesKept s t ∧
        SameBut [.voiceOp, .timer 6, .directory, .freeList, .memory, .alerts .system, .alerts .panel, .notices .panel,
          .outgoing f.port] s t) ∧
    (s.voice.op.operation = some .record → s.voice.op.lastLoud.isSome = true → s.voice.op.kind = some e.kind →
      e.kind = .memo ∨ e.kind = .voiceMsg ∨ e.kind = .greeting →
      (∀ n o, e.slot = some n → s.store.greeting n = some o → s.store.find o.id = some o ∧ o.id ≠ id) →
      minLoudBlocks s.settings.minMessageS ≤ s.voice.op.loud →
      ∃ t, exec (.stop f) s = .next t ∧
        t.voice.op.state = .idle ∧ t.voice.op.reason = some .stopped ∧ t.timers.e6.mode = .off ∧
        (∃ x, t.store.find id = some x ∧ x.state = .complete ∧ x.isNew = decide (e.kind = .voiceMsg) ∧
          x.slot = e.slot ∧ x.granules <+: e.granules) ∧
        (∀ n o, e.kind = .greeting → e.slot = some n → s.store.greeting n = some o →
          (o.holds = 0 → t.store.find o.id = none) ∧
          (o.holds ≠ 0 → t.store.find o.id = some { o with state := .doomed, isNew := false })) ∧
        (s.voice.op.endpoint = some .line → s.ccu.call.active = true → t.ccu.call.linkedId = some id) ∧
        Answered s t f.port 0x44#8 .ok [] ∧ BytesKept s t ∧
        SameBut [.voiceOp, .timer 6, .call, .directory, .freeList, .memory, .alerts .system, .alerts .panel,
          .notices .panel, .outgoing f.port] s t))

/-! ### Store commands (R163 to R173) -/

/-- R164, R167, R168, R173, R185: LIST gives the entries that are not DOOMED, as many as fit, and the store summary, and
clears the port's alert kinds. DELETE removes a COMPLETE entry that nobody holds and frees its chain, and makes a held one
DOOMED with NEW cleared; MARK HEARD clears NEW. An OPEN entry answers MSG_OPEN; none and a DOOMED one answer NO_SUCH_MESSAGE.
The layout of LIST's reply, with the alert kinds as four flags in the order FULL, LOW, LOST, FORMATTED, and the answers 0 and
1 of DELETE are the model's choices (log 11), and so is the code of a flag, 1 for yes and 0 for no (log 50). -/
def Obligations.DirectoryCommands : Prop :=
  (∀ (f : Frame) (first count : Byte) (s : State), s.Takes f 0x50#8 →
    (1 ≤ count.toNat → count.toNat ≤ 16 →
      ∃ t, exec (.list f first count) s = .next t ∧ (t.port f.port).alerts = ⟨false, false, false, false⟩ ∧
        Answered s t f.port 0x50#8 .ok
          (fittedList 9 ((((s.store.dir.filter (fun e => decide (e.state ≠ .doomed))).drop first.toNat).take
              count.toNat).map Entry.listed) ++
            [.u16 s.store.installed, .u16 s.store.free.length, .u8 s.store.dir.length,
             flagItem (s.port f.port).alerts.full, flagItem (s.port f.port).alerts.low,
             flagItem (s.port f.port).alerts.lost, flagItem (s.port f.port).alerts.formatted]) ∧
        SameBut [.alerts f.port, .outgoing f.port] s t) ∧
    (count.toNat < 1 ∨ 16 < count.toNat →
      ∃ t, exec (.list f first count) s = .next t ∧ Answered s t f.port 0x50#8 .badParameter [] ∧
        SameBut [.outgoing f.port] s t)) ∧
  (∀ (f : Frame) (id : Byte) (s : State),
    (∀ e, s.Takes f 0x52#8 → s.store.find id.toNat = some e → e.state = .complete → e.holds = 0 →
      ∃ t, exec (.delete f id) s = .next t ∧ t.store.dir = s.store.dir.filter (fun x => x.id ≠ id.toNat) ∧
        t.store.free = s.store.free ++ e.granules ∧ Answered s t f.port 0x52#8 .ok [.u8 0] ∧
        SameBut [.directory, .freeList, .alerts .system, .alerts .panel, .notices .panel, .outgoing f.port] s t) ∧
    (∀ e, s.Takes f 0x52#8 → s.store.find id.toNat = some e → e.state = .complete → 0 < e.holds →
      ∃ t, exec (.delete f id) s = .next t ∧
        t.store.dir =
          s.store.dir.map (fun x => if x.id = id.toNat then { x with state := .doomed, isNew := false } else x) ∧
        Answered s t f.port 0x52#8 .ok [.u8 1] ∧ SameBut [.directory, .outgoing f.port] s t) ∧
    (∀ e, s.Takes f 0x53#8 → s.store.find id.toNat = some e → e.state = .complete →
      ∃ t, exec (.markHeard f id) s = .next t ∧
        t.store.dir = s.store.dir.map (fun x => if x.id = id.toNat then { x with isNew := false } else x) ∧
        Answered s t f.port 0x53#8 .ok [] ∧ SameBut [.directory, .outgoing f.port] s t) ∧
    (∀ e, s.store.find id.toNat = some e → e.state = .opened →
      (s.Takes f 0x52#8 → ∃ t, exec (.delete f id) s = .next t ∧ SameBut [.outgoing f.port] s t ∧
        Answered s t f.port 0x52#8 .msgOpen []) ∧
      (s.Takes f 0x53#8 → ∃ t, exec (.markHeard f id) s = .next t ∧ SameBut [.outgoing f.port] s t ∧
        Answered s t f.port 0x53#8 .msgOpen [])) ∧
    ((s.store.find id.toNat = none ∨ ∃ e, s.store.find id.toNat = some e ∧ e.state = .doomed) →
      (s.Takes f 0x52#8 → ∃ t, exec (.delete f id) s = .next t ∧ SameBut [.outgoing f.port] s t ∧
        Answered s t f.port 0x52#8 .noSuchMessage []) ∧
      (s.Takes f 0x53#8 → ∃ t, exec (.markHeard f id) s = .next t ∧ SameBut [.outgoing f.port] s t ∧
        Answered s t f.port 0x53#8 .noSuchMessage [])))

/-- R169: FORMAT is refused with IN_USE while an entry is OPEN or held; otherwise it empties the directory, frees every usable
granule in ascending order, sets the last id to 0, writes the signature and the installed count, keeps the settings, raises
STORE_ALERT with FORMATTED on both ports, and makes the resume record absent. -/
def Obligations.FormatEmpties : Prop :=
  ∀ (f : Frame) (s : State), s.Takes f 0x54#8 →
    ((∃ e ∈ s.store.dir, e.state = .opened ∨ 0 < e.holds) →
      ∃ t, exec (.format f) s = .next t ∧ Answered s t f.port 0x54#8 .inUse [] ∧ SameBut [.outgoing f.port] s t) ∧
    ((∀ e ∈ s.store.dir, e.state ≠ .opened ∧ e.holds = 0) →
      ∃ t, exec (.format f) s = .next t ∧
        t.store.dir = [] ∧ t.store.free = List.range' 16 (s.store.installed - 16) ∧ t.store.header.lastId = 0 ∧
        t.store.header.signature = [0x5A#8, 0xC3#8, 0x28#8, 0x14#8] ∧ t.store.header.installed = s.store.installed ∧
        t.store.installed = s.store.installed ∧ t.store.header.settings = s.store.header.settings ∧
        t.voice.resume = none ∧ (∀ p, (t.port p).alerts.formatted = true) ∧
        (∀ p, t.Noticed p .storeAlert) ∧
        Answered s t f.port 0x54#8 .ok [] ∧
        SameBut [.resume, .header, .directory, .freeList, .alerts .system, .alerts .panel, .notices .panel,
          .outgoing f.port] s t)

/-- R165, R166, R167, R170, R171, R172: an OPEN TRANSFER READ of a COMPLETE entry takes a hold and counts the bytes from the
offset on, and is DONE at once where there are none, its hold released; an OPEN TRANSFER WRITE creates an OPEN entry; a
channel that is ACTIVE or FULL answers CHANNEL_BUSY. CLOSE TRANSFER makes the entry of a WRITE COMPLETE and reports it, a
FAX_OUT trimmed to its last whole page, a GREETING in place of the earlier one of its slot; CLOSE and ABORT release the hold
of an ACTIVE READ; ABORT of a WRITE discards its entry; each leaves the channel IDLE with its FIFO empty. That the CLOSE of a
READ answers OK with no results is the model's reading of R172 (log 41). A direction that is not that of the parameters is
refused (R178). -/
def Obligations.TransferChannels : Prop :=
  (∀ (f : Frame) (s : State), s.Takes f 0x55#8 →
    (∀ (id : Byte) (offset count : U32) (e : Entry), (s.channel f.port).busy = false →
      s.store.visible id.toNat = some e → e.state = .complete → offset.toNat < e.length → count ≠ 0#32 →
      ∃ t, exec (.openTransferRead f ⟨0#8, id⟩ offset count) s = .next t ∧
        (t.channel f.port).direction = .read ∧ (t.channel f.port).message = some e.id ∧
        (t.channel f.port).offset = offset.toNat ∧ (t.channel f.port).state = .active ∧
        (t.channel f.port).remaining = min count.toNat (e.length - offset.toNat) ∧ (t.channel f.port).fifo = [] ∧
        t.store.dir = s.store.dir.map (fun x => if x.id = e.id then { x with holds := x.holds + 1 } else x) ∧
        Answered s t f.port 0x55#8 .ok [.u32 (min count.toNat (e.length - offset.toNat))] ∧
        SameBut [.directory, .transfer f.port, .outgoing f.port] s t) ∧
    (∀ (id : Byte) (offset count : U32) (e : Entry), (s.channel f.port).busy = false →
      s.store.visible id.toNat = some e → e.state = .complete → offset.toNat ≤ e.length →
      count = 0#32 ∨ offset.toNat = e.length →
      ∃ t, exec (.openTransferRead f ⟨0#8, id⟩ offset count) s = .next t ∧
        (t.channel f.port).direction = .read ∧ (t.channel f.port).message = some e.id ∧
        (t.channel f.port).offset = offset.toNat ∧ (t.channel f.port).state = .done ∧
        (t.channel f.port).remaining = 0 ∧ (t.channel f.port).fifo = [] ∧ t.store.dir = s.store.dir ∧
        t.Noticed f.port .transferDone ∧
        Answered s t f.port 0x55#8 .ok [.u32 0] ∧
        SameBut [.transfer f.port, .notices .panel, .outgoing f.port] s t) ∧
    (∀ (id : Byte) (offset count : U32) (e : Entry), (s.channel f.port).busy = false →
      s.store.visible id.toNat = some e → e.state = .complete → e.length < offset.toNat →
      ∃ t, exec (.openTransferRead f ⟨0#8, id⟩ offset count) s = .next t ∧ Answered s t f.port 0x55#8 .badParameter [] ∧
        SameBut [.outgoing f.port] s t) ∧
    (∀ (kind slot : Byte) (k : MsgKind × Option Nat), (s.channel f.port).busy = false → writeKind kind slot = some k →
      s.canCreate = true →
      ∃ t, exec (.openTransferWrite f ⟨1#8, kind⟩ slot) s = .next t ∧
        ∃ x : Entry, t.store.dir = s.store.dir ++ [x] ∧ x.kind = k.1 ∧ x.slot = k.2 ∧ x.state = .opened ∧
          x.length = 0 ∧ x.granules = [] ∧ t.store.header.lastId = x.id ∧
          (t.channel f.port).direction = .write ∧ (t.channel f.port).message = some x.id ∧
          (t.channel f.port).state = .active ∧ (t.channel f.port).mark = false ∧
          Answered s t f.port 0x55#8 .ok [.u8 x.id] ∧
          SameBut [.header, .directory, .transfer f.port, .outgoing f.port] s t) ∧
    (∀ (kind slot : Byte) (k : MsgKind × Option Nat), (s.channel f.port).busy = false → writeKind kind slot = some k →
      s.canCreate = false →
      ∃ t, exec (.openTransferWrite f ⟨1#8, kind⟩ slot) s = .next t ∧ Answered s t f.port 0x55#8 .storeFull [] ∧
        (∀ p, (t.port p).alerts.full = true) ∧
        SameBut [.alerts .system, .alerts .panel, .notices .panel, .outgoing f.port] s t) ∧
    ((s.channel f.port).busy = true →
      (∀ id offset count, ∃ t, exec (.openTransferRead f ⟨0#8, id⟩ offset count) s = .next t ∧
        Answered s t f.port 0x55#8 .channelBusy [] ∧ SameBut [.outgoing f.port] s t) ∧
      (∀ kind slot k, writeKind kind slot = some k → ∃ t, exec (.openTransferWrite f ⟨1#8, kind⟩ slot) s = .next t ∧
        Answered s t f.port 0x55#8 .channelBusy [] ∧ SameBut [.outgoing f.port] s t)) ∧
    (∀ direction : Byte,
      (direction ≠ 0#8 → ∀ id offset count, ∃ t, exec (.openTransferRead f ⟨direction, id⟩ offset count) s = .next t ∧
        Answered s t f.port 0x55#8 .badParameter [] ∧ SameBut [.outgoing f.port] s t) ∧
      (direction ≠ 1#8 → ∀ kind slot, ∃ t, exec (.openTransferWrite f ⟨direction, kind⟩ slot) s = .next t ∧
        Answered s t f.port 0x55#8 .badParameter [] ∧ SameBut [.outgoing f.port] s t))) ∧
  (∀ (f : Frame) (id : Nat) (e : Entry) (s : State), (s.channel f.port).message = some id → s.store.find id = some e →
    (s.Takes f 0x58#8 → (s.channel f.port).state ≠ .idle → (s.channel f.port).direction = .write → e.kind = .memo →
      ∃ t, exec (.closeTransfer f) s = .next t ∧ (t.channel f.port).state = .idle ∧ (t.channel f.port).fifo = [] ∧
        t.store.dir =
          s.store.dir.map (fun x => if x.id = id then { x with state := .complete, isNew := false } else x) ∧
        Answered s t f.port 0x58#8 .ok [.u8 id, .u32 e.length] ∧
        SameBut [.directory, .transfer f.port, .outgoing f.port] s t) ∧
    (s.Takes f 0x58#8 → (s.channel f.port).state ≠ .idle → (s.channel f.port).direction = .write → e.kind = .faxOut →
      ∃ t, exec (.closeTransfer f) s = .next t ∧ (t.channel f.port).state = .idle ∧ (t.channel f.port).fifo = [] ∧
        t.store.dir = s.store.dir.map (fun x => if x.id = id then
          { x with granules := x.granules.take (ceilDiv (s.channel f.port).pageStart 1024),
                   length := (s.channel f.port).pageStart, state := .complete, isNew := false } else x) ∧
        t.store.free = s.store.free ++ e.granules.drop (ceilDiv (s.channel f.port).pageStart 1024) ∧
        Answered s t f.port 0x58#8 .ok [.u8 id, .u32 (s.channel f.port).pageStart, .u8 e.pageCount] ∧
        SameBut [.directory, .freeList, .alerts .system, .alerts .panel, .notices .panel, .transfer f.port,
          .outgoing f.port] s t) ∧
    (∀ n : Nat, s.Takes f 0x58#8 → (s.channel f.port).state ≠ .idle → (s.channel f.port).direction = .write →
      e.kind = .greeting → e.slot = some n →
      (s.store.greeting n = none →
        ∃ t, exec (.closeTransfer f) s = .next t ∧ (t.channel f.port).state = .idle ∧ (t.channel f.port).fifo = [] ∧
          t.store.dir =
            s.store.dir.map (fun x => if x.id = id then { x with state := .complete, isNew := false } else x) ∧
          Answered s t f.port 0x58#8 .ok [.u8 id, .u32 e.length] ∧
          SameBut [.directory, .transfer f.port, .outgoing f.port] s t) ∧
      (∀ o : Entry, s.store.greeting n = some o → s.store.find o.id = some o → o.id ≠ id →
        ∃ t, exec (.closeTransfer f) s = .next t ∧ (t.channel f.port).state = .idle ∧ (t.channel f.port).fifo = [] ∧
          t.store.dir = (if o.holds = 0 then s.store.dir.filter (fun x => x.id ≠ o.id)
            else s.store.dir.map (fun x => if x.id = o.id then { x with state := .doomed, isNew := false } else x)).map
              (fun x => if x.id = id then { x with state := .complete, isNew := false } else x) ∧
          t.store.free = (if o.holds = 0 then s.store.free ++ o.granules else s.store.free) ∧
          Answered s t f.port 0x58#8 .ok [.u8 id, .u32 e.length] ∧
          SameBut [.directory, .freeList, .alerts .system, .alerts .panel, .notices .panel, .transfer f.port,
            .outgoing f.port] s t)) ∧
    (s.Takes f 0x58#8 → (s.channel f.port).state = .active → (s.channel f.port).direction = .read → e.state ≠ .doomed →
      ∃ t, exec (.closeTransfer f) s = .next t ∧ (t.channel f.port).state = .idle ∧ (t.channel f.port).fifo = [] ∧
        t.store.dir = s.store.dir.map (fun x => if x.id = id then { x with holds := x.holds - 1 } else x) ∧
        Answered s t f.port 0x58#8 .ok [] ∧ SameBut [.directory, .transfer f.port, .outgoing f.port] s t) ∧
    (s.Takes f 0x59#8 → (s.channel f.port).state = .active → (s.channel f.port).direction = .read → e.state ≠ .doomed →
      ∃ t, exec (.abort f) s = .next t ∧ (t.channel f.port).state = .idle ∧ (t.channel f.port).fifo = [] ∧
        t.store.dir = s.store.dir.map (fun x => if x.id = id then { x with holds := x.holds - 1 } else x) ∧
        Answered s t f.port 0x59#8 .ok [] ∧ SameBut [.directory, .transfer f.port, .outgoing f.port] s t) ∧
    ((s.channel f.port).state = .done → (s.channel f.port).direction = .read →
      (s.Takes f 0x58#8 →
        ∃ t, exec (.closeTransfer f) s = .next t ∧ (t.channel f.port).state = .idle ∧ (t.channel f.port).fifo = [] ∧
          t.store.dir = s.store.dir ∧ Answered s t f.port 0x58#8 .ok [] ∧
          SameBut [.transfer f.port, .outgoing f.port] s t) ∧
      (s.Takes f 0x59#8 →
        ∃ t, exec (.abort f) s = .next t ∧ (t.channel f.port).state = .idle ∧ (t.channel f.port).fifo = [] ∧
          t.store.dir = s.store.dir ∧ Answered s t f.port 0x59#8 .ok [] ∧
          SameBut [.transfer f.port, .outgoing f.port] s t)) ∧
    (s.Takes f 0x59#8 → (s.channel f.port).state ≠ .idle → (s.channel f.port).direction = .write →
      ∃ t, exec (.abort f) s = .next t ∧ (t.channel f.port).state = .idle ∧ (t.channel f.port).fifo = [] ∧
        t.store.dir = s.store.dir.filter (fun x => x.id ≠ id) ∧ t.store.free = s.store.free ++ e.granules ∧
        Answered s t f.port 0x59#8 .ok [] ∧
        SameBut [.directory, .freeList, .alerts .system, .alerts .panel, .notices .panel, .transfer f.port,
          .outgoing f.port] s t) ∧
    ((s.channel f.port).state = .idle →
      (s.Takes f 0x58#8 → ∃ t, exec (.closeTransfer f) s = .next t ∧ Answered s t f.port 0x58#8 .wrongPhase [] ∧
        SameBut [.outgoing f.port] s t) ∧
      (s.Takes f 0x59#8 → ∃ t, exec (.abort f) s = .next t ∧ Answered s t f.port 0x59#8 .wrongPhase [] ∧
        SameBut [.outgoing f.port] s t)))

/-- R170: the bytes of a READ channel go from the store into its FIFO while there is room, in order, and READ CHUNK takes them
from the FIFO's front; with the last one the channel is DONE, its hold released. That one TRANSFER_FIFO_FILL moves all the
bytes that are left and have room is the model's reading (log 43). -/
def Obligations.ReadChannelMoves : Prop :=
  (∀ (p : Port) (id : Nat) (e : Entry) (s : State), (s.channel p).direction = .read → (s.channel p).state = .active →
    (s.channel p).message = some id → s.store.find id = some e →
    0 < min (s.channel p).remaining (256 - (s.channel p).fifo.length) →
    ∃ t, exec (.transferFifoFill p) s = .next t ∧
      (t.channel p).fifo = (s.channel p).fifo ++
        (List.range (min (s.channel p).remaining (256 - (s.channel p).fifo.length))).map
          (fun k => Mem.read s.store.mem (e.address ((s.channel p).offset + k))) ∧
      (t.channel p).remaining =
        (s.channel p).remaining - min (s.channel p).remaining (256 - (s.channel p).fifo.length) ∧
      (t.channel p).offset = (s.channel p).offset + min (s.channel p).remaining (256 - (s.channel p).fifo.length) ∧
      (t.channel p).state = .active ∧ SameBut [.transfer p] s t) ∧
  (∀ (f : Frame) (count : Byte) (s : State), s.Takes f 0x56#8 → 1 ≤ count.toNat → count.toNat ≤ 128 →
    (s.channel f.port).direction = .read → (s.channel f.port).state = .active →
    (count.toNat < (s.channel f.port).fifo.length ∨ 0 < (s.channel f.port).remaining) →
    ∃ t, exec (.readChunk f count) s = .next t ∧
      (t.channel f.port).fifo = (s.channel f.port).fifo.drop count.toNat ∧ (t.channel f.port).state = .active ∧
      Answered s t f.port 0x56#8 .ok
        (listItems (fun b => [.u8 b.toNat]) ((s.channel f.port).fifo.take count.toNat) ++
          [.u32 (s.channel f.port).remaining, .u8 1]) ∧
      SameBut [.transfer f.port, .outgoing f.port] s t) ∧
  (∀ (f : Frame) (count : Byte) (id : Nat) (e : Entry) (s : State), s.Takes f 0x56#8 → 1 ≤ count.toNat →
    count.toNat ≤ 128 → (s.channel f.port).direction = .read → (s.channel f.port).state = .active →
    (s.channel f.port).fifo.length ≤ count.toNat → (s.channel f.port).remaining = 0 →
    (s.channel f.port).message = some id → s.store.find id = some e → e.state ≠ .doomed →
    ∃ t, exec (.readChunk f count) s = .next t ∧
      (t.channel f.port).fifo = [] ∧ (t.channel f.port).state = .done ∧
      t.store.dir = s.store.dir.map (fun x => if x.id = id then { x with holds := x.holds - 1 } else x) ∧
      t.Noticed f.port .transferDone ∧
      Answered s t f.port 0x56#8 .ok
        (listItems (fun b => [.u8 b.toNat]) ((s.channel f.port).fifo.take count.toNat) ++ [.u32 0, .u8 3]) ∧
      SameBut [.directory, .transfer f.port, .notices .panel, .outgoing f.port] s t)

/-- R164, R171, R173: WRITE CHUNK. In order: a chunk that fits into the granule in hand is written after the entry's last
byte; a byte that needs a granule takes the first free one; with nothing free the channel becomes FULL and the byte is not
accepted; the page-end mark of a FAX_OUT ends a page. -/
def Obligations.WriteChunkStores : Prop :=
  ∀ (f : Frame) (id : Nat) (e : Entry) (s : State), s.Takes f 0x57#8 → (s.channel f.port).message = some id →
    (s.channel f.port).direction = .write → (s.channel f.port).state = .active → s.store.find id = some e →
    Mem.wf s.store.mem = true →
    (∀ bytes : List Byte, 1 ≤ bytes.length → bytes.length ≤ 128 → e.kind ≠ .faxOut →
      e.length % 1024 + bytes.length ≤ 1024 → e.length + bytes.length ≤ e.granules.length * 1024 →
      ∃ t, exec (.writeChunk f bytes) s = .next t ∧
        (∀ k b, bytes[k]? = some b → Mem.read t.store.mem (e.address (e.length + k)) = b) ∧
        (∀ a, (∀ k, k < bytes.length → a ≠ e.address (e.length + k)) →
          Mem.read t.store.mem a = Mem.read s.store.mem a) ∧
        t.store.find id = some { e with length := e.length + bytes.length } ∧
        (t.channel f.port).offset = (s.channel f.port).offset + bytes.length ∧ (t.channel f.port).state = .active ∧
        Answered s t f.port 0x57#8 .ok [.u8 bytes.length] ∧
        SameBut [.directory, .memory, .transfer f.port, .outgoing f.port] s t) ∧
    (∀ (b : Byte) (g : Nat) (rest : List Nat), e.granules.length * 1024 = e.length → s.store.free = g :: rest →
      e.kind ≠ .faxOut →
      ∃ t, exec (.writeChunk f [b]) s = .next t ∧ t.store.free = rest ∧
        t.store.find id = some { e with granules := e.granules ++ [g], length := e.length + 1 } ∧
        Mem.read t.store.mem (g * 1024) = b ∧
        (∀ a, a ≠ g * 1024 → Mem.read t.store.mem a = Mem.read s.store.mem a) ∧
        Answered s t f.port 0x57#8 .ok [.u8 1] ∧
        SameBut [.directory, .memory, .freeList, .alerts .system, .alerts .panel, .notices .panel, .transfer f.port,
          .outgoing f.port] s t) ∧
    (∀ b : Byte, e.granules.length * 1024 ≤ e.length → s.store.free = [] →
      ∃ t, exec (.writeChunk f [b]) s = .next t ∧ (t.channel f.port).state = .full ∧
        (∀ p, (t.port p).alerts.full = true) ∧ Answered s t f.port 0x57#8 .ok [.u8 0] ∧
        SameBut [.transfer f.port, .alerts .system, .alerts .panel, .notices .panel, .outgoing f.port] s t) ∧
    (e.kind = .faxOut → (s.channel f.port).mark = true → e.length < e.granules.length * 1024 →
      ∃ t, exec (.writeChunk f [0x0C#8]) s = .next t ∧
        t.store.find id = some { e with length := e.length + 1, pageCount := e.pageCount + 1,
                                        pageTable := e.pageTable ++ [(s.channel f.port).pageStart] } ∧
        (t.channel f.port).mark = false ∧ (t.channel f.port).pageStart = (s.channel f.port).offset + 1 ∧
        (t.channel f.port).state = (if 32 ≤ e.pageCount + 1 then .full else .active) ∧
        Mem.read t.store.mem (e.address e.length) = 0x0C#8 ∧
        (∀ a, a ≠ e.address e.length → Mem.read t.store.mem a = Mem.read s.store.mem a) ∧
        Answered s t f.port 0x57#8 .ok [.u8 1] ∧
        SameBut [.directory, .memory, .transfer f.port, .outgoing f.port] s t)

/-! ### Fax, notice and port commands -/

/-- R139, R145, R146: FAX NEXT. MORE or LAST decides the page whose page-end mark has been sent, or is noted for the mark to
come; FROM_STORE takes a hold on a stored FAX_OUT as the source. That of two decisions before the mark has been sent the later
stands is the model's choice (log 50). -/
def Obligations.FaxNextDecides : Prop :=
  ∀ (f : Frame) (s : State), s.Takes f 0x60#8 → s.outgoingFax → s.holder = some f.port.party →
    (∀ (choice : Byte) (m : FaxMore), moreOf choice = some m → s.fax.place = .port → s.fax.phase = some .page →
      s.fax.pageFromPort = true → s.ccu.ending = none →
      (s.fax.markSent = true →
        ∃ t, exec (.faxNext f choice) s = .next t ∧
          t.fax.more = some m ∧ t.fax.phase = some .postpage ∧ t.fax.expect = .pageVerdict ∧
          t.fax.lastFrame = some (.pageEnd (m == .more)) ∧ t.link.tx = .fax (.pageEnd (m == .more)) ∧
          t.ccu.call.phase = some (.fax .postpage) ∧ t.LoadedT2 .faxReply 3000 .none ∧
          Answered s t f.port 0x60#8 .ok [] ∧
          SameBut [.call, .ccuRest, .timer 2, .link, .fax, .outgoing f.port] s t) ∧
      (s.fax.markSent = false →
        ∃ t, exec (.faxNext f choice) s = .next t ∧ t.fax = { s.fax with more := some m } ∧
          Answered s t f.port 0x60#8 .ok [] ∧ SameBut [.fax, .outgoing f.port] s t)) ∧
    (∀ (id : Byte) (e : Entry), s.fax.place = .undecided → s.store.visible id.toNat = some e → e.state = .complete →
      e.kind = .faxOut → e.pageCount ≠ 0 →
      ∃ t, exec (.faxNextFromStore f id) s = .next t ∧
        t.fax = { s.fax with place := .store, linkedId := some id.toNat } ∧
        t.store.dir = s.store.dir.map (fun x => if x.id = id.toNat then { x with holds := x.holds + 1 } else x) ∧
        Answered s t f.port 0x60#8 .ok [] ∧ SameBut [.fax, .directory, .outgoing f.port] s t)

/-- R181: the arbiter's choice is a source that is pending, unmasked and more urgent than the in-service stack's top; none of
those is more urgent than it, and of equally urgent ones it is the first in the fixed order. With no such source there is no
choice. -/
def Obligations.ArbiterChoosesMostUrgent : Prop :=
  ∀ c : Controller,
    (∀ x, c.choice = some x → c.deliverable x = true ∧
      ∀ y, c.deliverable y = true → c.priority x < c.priority y ∨ (c.priority x = c.priority y ∧ x.code ≤ y.code)) ∧
    (c.choice = none → ∀ y, c.deliverable y = false)

/-- R180, R181: TAKE NOTICE on the Panel Port delivers the arbiter's choice with its merge count, or reports NONE; on either
port NOTICE DONE pops the in-service stack, CLEAR NOTICE drops a pending source, and MASK writes mask flags and reports. That
the merge count of a NONE answer is absent is the model's choice (log 10). That a flag is coded 1 for yes and 0 for no is the
model's choice (log 50). -/
def Obligations.NoticesServed : Prop :=
  (∀ (f : Frame) (x : Source) (s : State), s.Takes f 0x70#8 → s.ports.panel.notices.choice = some x →
    ∃ t, exec (.takeNotice f) s = .next t ∧
      t.ports.panel.notices.stack =
        (x, s.ports.panel.notices.priority x) :: s.ports.panel.notices.stack ∧
      (t.ports.panel.notices.sources.get x).pending = false ∧ (t.ports.panel.notices.sources.get x).merge = 0 ∧
      (∀ y, y ≠ x → t.ports.panel.notices.sources.get y = s.ports.panel.notices.sources.get y) ∧
      Answered s t .panel 0x70#8 .ok [.u8 x.code, .u8 (s.ports.panel.notices.sources.get x).merge] ∧
      SameBut [.notices .panel, .outgoing .panel] s t) ∧
  (∀ (f : Frame) (s : State), s.Takes f 0x70#8 → s.ports.panel.notices.choice = none →
    ∃ t, exec (.takeNotice f) s = .next t ∧ Answered s t .panel 0x70#8 .ok [.u8 0, .absent 1] ∧
      SameBut [.outgoing .panel] s t) ∧
  (∀ (f : Frame) (s : State), s.Takes f 0x71#8 →
    ∃ t, exec (.noticeDone f) s = .next t ∧
      (t.port f.port).notices = { (s.port f.port).notices with stack := (s.port f.port).notices.stack.tail } ∧
      Answered s t f.port 0x71#8 .ok [] ∧ SameBut [.notices f.port, .outgoing f.port] s t) ∧
  (∀ (f : Frame) (source : Byte) (x : Source) (s : State), s.Takes f 0x72#8 → Source.ofCode source.toNat = some x →
    ¬(f.port = .panel ∧ (x = .linkState ∨ x = .rateChange)) →
    ∃ t, exec (.clearNotice f source) s = .next t ∧
      (t.port f.port).notices.sources.get x = ⟨false, ((s.port f.port).notices.sources.get x).masked, 0⟩ ∧
      (∀ y, y ≠ x → (t.port f.port).notices.sources.get y = (s.port f.port).notices.sources.get y) ∧
      Answered s t f.port 0x72#8 .ok [] ∧ SameBut [.notices f.port, .outgoing f.port] s t) ∧
  (∀ (f : Frame) (source : Byte) (x : Source) (m : Bool) (s : State), s.Takes f 0x73#8 →
    Source.ofCode source.toNat = some x →
    ∃ t, exec (.mask f [(source, BitVec.ofNat 8 (flagCode m))]) s = .next t ∧
      (t.port f.port).notices.sources.get x = { (s.port f.port).notices.sources.get x with masked := m } ∧
      (∀ y, y ≠ x → (t.port f.port).notices.sources.get y = (s.port f.port).notices.sources.get y) ∧
      Answered s t f.port 0x73#8 .ok (t.port f.port).notices.items ∧
      SameBut [.notices f.port, .outgoing f.port] s t)

/-- R179, R181: a GO DATA by the holder of an active DATA call whose link carries data is answered OK, and the System Port
enters its data state when that reply has left: CTS by the outbound queue, the escape waiting, T5 loaded with the guard. When
a notice frame has left, the arbiter may begin the next one; an entry to the data state that has waited is made when nothing
is left to send. That a BAD_FRAME answer that waits holds back the next notice frame and the entry is the model's choice (log
18). -/
def Obligations.DataStateEntered : Prop :=
  ((∀ (f : Frame) (s : State), s.Takes f 0x78#8 → s.ccu.call.active = true → s.ccu.call.job = .data →
    s.ccu.call.holder = some f.port.party → (s.link.mode = .linked ∨ s.link.mode = .direct) →
    ∃ t, exec (.goData f) s = .next t ∧ t.sys.goDataDue = true ∧ t.sys.data = s.sys.data ∧
      Answered s t f.port 0x78#8 .ok [] ∧ SameBut [.systemPort, .outgoing f.port] s t) ∧
  (∀ (a : Answer) (rest : List Answer) (s : State), s.ports.system.outgoing = a :: rest → s.replyLeaves →
    (s.sys.goDataDue = true → a.kind = .reply → s.ccu.call.job = .data →
      ∃ t, exec .replySent s = .next t ∧ t.ports.system.outgoing = rest ∧ t.sys.data = true ∧
        t.sys.goDataDue = false ∧ t.sys.escape = .waiting ∧ t.sys.assembler = [] ∧
        t.sys.cts = decide (s.link.outbound.length < 768) ∧ t.timers.e5.Runs .spt s.settings.escapeGuardMs .portByte ∧
        SameBut [.outgoing .system, .systemPort, .timer 5] s t) ∧
    (s.sys.goDataDue = false →
      ∃ t, exec .replySent s = .next t ∧ t.ports.system.outgoing = rest ∧ t.sys.data = false ∧
        SameBut [.outgoing .system, .systemPort] s t))) ∧
  ((∀ (n : Source × Nat) (s : State), s.sys.notice = some n → s.sys.ready = true → s.sys.rts = true →
    (s.ports.system.notices.choice = none →
      ∃ t, exec .noticeFrameSent s = .next t ∧ t.sys.notice = none ∧ t.ports.system.notices = s.ports.system.notices ∧
        SameBut [.systemPort] s t) ∧
    (∀ x, s.ports.system.notices.choice = some x → s.power.low = false → s.sys.data = false → s.sys.entryDue = false →
      s.ports.system.outgoing = [] →
      ∃ t, exec .noticeFrameSent s = .next t ∧
        t.sys.notice = some (x, (s.ports.system.notices.sources.get x).merge) ∧
        (t.ports.system.notices.sources.get x).pending = false ∧
        t.ports.system.notices.stack = (x, s.ports.system.notices.priority x) :: s.ports.system.notices.stack ∧
        SameBut [.systemPort] s t)) ∧
  (∀ s : State, s.sys.entryDue = true → s.ports.system.outgoing = [] → s.sys.notice = none →
    (s.ccu.call.job = .data →
      ∃ t, exec .dataStateEntry s = .next t ∧ t.sys.data = true ∧ t.sys.entryDue = false ∧ t.sys.escape = .waiting ∧
        t.sys.assembler = [] ∧ t.sys.cts = decide (s.link.outbound.length < 768) ∧ t.timers.e5.Runs .spt s.settings.escapeGuardMs .portByte ∧
        SameBut [.systemPort, .timer 5] s t) ∧
    (s.ccu.call.job = .fax →
      ∃ t, exec .dataStateEntry s = .next t ∧ t.sys.data = true ∧ t.sys.entryDue = false ∧
        t.sys.assembler = [] ∧ (s.fax.role = some .receiver → t.sys.cts = true) ∧ SameBut [.systemPort] s t)))

/-- R21, R158, R172, R183: PORT RESET withdraws the master's queued dial, ends its call with HOLDER_RESET, ends its voice
operation, aborts its transfer, and clears its digit queue, its alert kinds and its notice controller. Where it has no call,
no operation and no transfer in hand, nothing of the call, of the Voice Engine or of the store changes, and no byte of the
DRAM but those of a recording in hand. The reason STOPPED of the operation is the model's choice (log 47); that the third
result counts the user's operation, and a channel that is ACTIVE or FULL but not one that is DONE, is its reading (log 41).
That a flag is coded 1 for yes and 0 for no is the model's choice (log 50). -/
def Obligations.PortResetClears : Prop :=
  ∀ (f : Frame) (s : State), s.Takes f 0x79#8 →
    ∃ t, exec (.portReset f) s = .next t ∧
      t.ccu.claims = s.ccu.claims.filter (fun c => c.master ≠ f.port) ∧
      (t.port f.port).digits = ⟨[], false⟩ ∧ (t.port f.port).alerts = ⟨false, false, false, false⟩ ∧
      (t.port f.port).transfer.state = .idle ∧
      (t.port f.port).notices = ⟨SourceTable.clear, ⟨1, 2, 3, 4, 5, 6⟩, []⟩ ∧
      (s.voice.op.user = some f.port.party → s.voice.op.operation.isSome = true →
        t.voice.op.state = .idle ∧ t.voice.op.user = none ∧ t.voice.op.operation = none ∧
          t.voice.op.reason = some .stopped) ∧
      (s.holder = some f.port.party → t.ccu.line = .releasing ∧ t.ccu.call.active = false ∧
        t.ccu.call.cause = some .holderReset ∧ t.lif.relayClosed = false ∧ t.link.mode = .off ∧ t.pump.phase = .off) ∧
      (s.holder ≠ some f.port.party → t.ccu.line = s.ccu.line ∧
        t.ccu.call.active = s.ccu.call.active ∧ t.ccu.call.cause = s.ccu.call.cause ∧ t.lif = s.lif) ∧
      Answered s t f.port 0x79#8 .ok
        [flagItem (s.holder == some f.port.party), flagItem (s.ccu.claims.any (fun c => c.master == f.port)),
         flagItem (s.voice.op.user == some f.port.party || (s.channel f.port).busy)] ∧
      BytesKept s t ∧
      SameBut ([.claims, .digits f.port, .alerts f.port, .notices f.port, .transfer f.port, .outgoing f.port] ++
        (if s.holder = some f.port.party then endParts s else []) ++
        (if s.voice.op.user = some f.port.party then .voiceOp :: voiceEndParts s else []) ++
        abortParts s f.port) s t

/-! ### The ports' own events (R127 to R129, R176 to R179) -/

/-- R176, R177, R178: a bad frame is answered with BAD_FRAME and its command code; a valid frame that arrives while the port
is occupied is answered with BUSY, at most one waiting; a code that the port does not know is answered with UNKNOWN_COMMAND;
none of them has another effect, but that the System Port's assembler looks for a lead byte again. The System Port knows a bad
length once the length has come and a bad check once the last byte has; only the Panel Port's write period can be shorter or
longer than its length. A read period of the Panel Port sends the bytes of the owed answer that are still unread, then bytes
of 0; the answer is no longer owed once its last byte has been read. That BAD_FRAME answers wait without limit, in their
order, is the model's choice (log 18), and so is the code that the answer to a frame without one echoes (log 10). -/
def Obligations.PortFrames : Prop :=
  ((∀ (bytes : List Byte) (s : State), s.deaf .panel = false → bytes.head? = some 0xC3#8 →
    (lengthField bytes < 5 ∨ 255 < lengthField bytes ∨ bytes.length ≠ lengthField bytes ∨ byteSum bytes ≠ 0#8) →
    ∃ t, exec (.badFrame .panel bytes) s = .next t ∧
      t.ports.panel.outgoing =
        s.ports.panel.outgoing ++ [⟨.badFrame, .badFrame, (bytes[3]?).getD Config.noCodeEcho, []⟩] ∧
      SameBut [.outgoing .panel] s t) ∧
  (∀ (bytes more : List Byte) (s : State), s.deaf .system = false → bytes.head? = some 0xC3#8 →
    (3 ≤ bytes.length → lengthField bytes < 5 ∨ 255 < lengthField bytes →
      ∃ t, exec (.badFrame .system bytes) s = .next t ∧
        t.ports.system.outgoing =
          s.ports.system.outgoing ++ [⟨.badFrame, .badFrame, Config.noCodeEcho, []⟩] ∧
        t.sys.assembler = [] ∧ SameBut [.outgoing .system, .systemPort] s t) ∧
    (5 ≤ lengthField bytes → lengthField bytes ≤ 255 → bytes.length = lengthField bytes → byteSum bytes ≠ 0#8 →
      ∃ t, exec (.badFrame .system (bytes ++ more)) s = .next t ∧
        t.ports.system.outgoing =
          s.ports.system.outgoing ++ [⟨.badFrame, .badFrame, (bytes[3]?).getD Config.noCodeEcho, []⟩] ∧
        t.sys.assembler = [] ∧ SameBut [.outgoing .system, .systemPort] s t) ∧
    (bytes.length < 3 ∨ (5 ≤ lengthField bytes ∧ lengthField bytes ≤ 255 ∧ bytes.length < lengthField bytes) →
      ∃ t, exec (.badFrame .system bytes) s = .next t ∧ SameBut [] s t)) ∧
  (∀ (p : Port) (code : Byte) (s : State), s.deaf p = false → s.occupied p = true →
    ∃ t, exec (.frameWhileReplyOwed p code) s = .next t ∧
      (t.port p).outgoing = (s.port p).outgoing ++ (if s.busyWaits p = true then [] else [⟨.busy, .busy, code, []⟩]) ∧
      SameBut [.outgoing p] s t) ∧
  (∀ (p : Port) (code : Byte) (s : State), s.deaf p = false → s.occupied p = false → s.power.low = false →
    portKnows p code = false →
    ∃ t, exec (.unknownCommand p code) s = .next t ∧ Answered s t p code .unknownCommand [] ∧
      SameBut [.outgoing p] s t)) ∧
  (∀ (n : Nat) (s : State),
    (∀ (a : Answer) (rest : List Answer), s.ports.panel.outgoing = a :: rest → s.pan.readBytes + n < a.bytes.length →
      ∃ t, exec (.panelReadPeriod n) s = .next t ∧ t.pan.lastPeriod = (a.bytes.drop s.pan.readBytes).take n ∧
        t.pan.readBytes = s.pan.readBytes + n ∧ SameBut [.panelPort] s t) ∧
    (∀ (a : Answer) (rest : List Answer), s.ports.panel.outgoing = a :: rest → a.bytes.length ≤ s.pan.readBytes + n →
      ∃ t, exec (.panelReadPeriod n) s = .next t ∧
        t.pan.lastPeriod = a.bytes.drop s.pan.readBytes ++
          List.replicate (n - (a.bytes.length - s.pan.readBytes)) 0#8 ∧
        t.pan.readBytes = 0 ∧ t.ports.panel.outgoing = rest ∧ SameBut [.panelPort, .outgoing .panel] s t) ∧
    (s.ports.panel.outgoing = [] →
      ∃ t, exec (.panelReadPeriod n) s = .next t ∧ t.pan.lastPeriod = List.replicate n 0#8 ∧
        SameBut [.panelPort] s t))

/-- R32, R122, R127, R128, R129, R138, R144, R146, R177, R179: in the data state of a DATA call a byte of the computer joins
the outbound queue, or is counted as a port overrun when the queue is full, moves the escape state, and restarts T5; an expiry
of T5 that has fired and waits for its row is taken before it: in THREE the escape is recognised and the byte still joins the
queue (R129, log 1); CTS follows the fill. In that of a FAX call a byte of the sender's page joins the outbound queue, the
page-end mark, told by the pairs of the stream, returns the port to its command state, and the bytes that come during a
received page are discarded. In the command state it goes to the frame assembler, which looks for a lead byte and gives up a
frame that is complete (log 9); it is discarded while an entry to the data state waits, and while READY is deasserted (that
such a byte is dropped is the model's choice, log 50); and a byte of the same instant as the escape still joins the queue. A
byte sent to the computer leaves the inbound queue, and own busy ends at 512 bytes of free space; with the last byte of a
page-end mark the port returns to its command state (8.6, 11.3). -/
def Obligations.DataStateBytes : Prop :=
  (∀ (b : Byte) (s : State), s.sys.data = true → s.ccu.call.job = .data → s.timers.e5.signalA = false →
    ∃ t, exec (.portDataByteReceived b) s = .next t ∧
      (s.link.outbound.length < 1024 → t.link.outbound = s.link.outbound ++ [b] ∧ t.link.stats = s.link.stats ∧
        (768 ≤ s.link.outbound.length + 1 → t.sys.cts = false) ∧
        (s.link.outbound.length + 1 ≤ 256 → t.sys.cts = true)) ∧
      (1024 ≤ s.link.outbound.length → t.link.outbound = s.link.outbound ∧
        t.link.stats = { s.link.stats with overruns := bump 255 s.link.stats.overruns }) ∧
      t.sys.escape = s.sys.escape.byte (decide (b.toNat = s.settings.escapeByte)) ∧
      (s.sys.escape = .quiet → t.timers.e5.Runs .spt s.settings.escapeGuardMs .portByte) ∧
      (s.sys.escape ≠ .quiet → s.timers.e5.restart = .portByte → s.timers.e5.mode = .oneShot →
        t.timers.e5 = { s.timers.e5 with count := 0 }) ∧
      (∀ n : Fin 8, n ≠ 5 → (s.timers.get n).restart ≠ .portByte → t.timers.get n = s.timers.get n) ∧
      SameBut ([.outbound, .stats, .systemPort] ++ allTimers) s t) ∧
  (∀ (b : Byte) (s : State), s.sys.data = true → s.ccu.call.job = .data → s.timers.e5.signalA = true →
    ∃ t, exec (.portDataByteReceived b) s = .next t ∧ t.sys.expiryTaken = true ∧
      (s.link.outbound.length < 1024 → t.link.outbound = s.link.outbound ++ [b] ∧ t.link.stats = s.link.stats) ∧
      (1024 ≤ s.link.outbound.length → t.link.outbound = s.link.outbound ∧
        t.link.stats = { s.link.stats with overruns := bump 255 s.link.stats.overruns }) ∧
      (s.sys.escape = .three → t.sys.data = false ∧ t.sys.cts = true ∧ t.sys.lateByte = false ∧
        t.timers.e5.mode = .off ∧ t.timers.e5.signalA = false) ∧
      (s.sys.escape ≠ .three → t.sys.data = true ∧
        t.sys.escape = EscapeState.byte .quiet (decide (b.toNat = s.settings.escapeByte)) ∧
        t.timers.e5.Runs .spt s.settings.escapeGuardMs .portByte ∧ t.timers.e5.signalA = false) ∧
      (∀ n : Fin 8, n ≠ 5 → (s.timers.get n).restart ≠ .portByte → t.timers.get n = s.timers.get n) ∧
      SameBut ([.outbound, .stats, .systemPort] ++ allTimers) s t) ∧
  (∀ (b : Byte) (s : State), s.sys.data = true → s.ccu.call.job = .fax →
    (s.fax.role = some .sender → s.link.outbound.length < 1024 →
      b ≠ 0x0C#8 ∨ pairOpen s.fax.inPair s.link.outbound = false →
      ∃ t, exec (.portDataByteReceived b) s = .next t ∧ t.link.outbound = s.link.outbound ++ [b] ∧ t.sys.data = true ∧
        t.sys.cts = (if 768 ≤ s.link.outbound.length + 1 then false
          else if s.link.outbound.length + 1 ≤ 256 then true else s.sys.cts) ∧
        (∀ n : Fin 8, (s.timers.get n).restart ≠ .portByte → t.timers.get n = s.timers.get n) ∧
        SameBut ([.outbound, .systemPort] ++ allTimers) s t) ∧
    (s.fax.role = some .sender → s.link.outbound.length < 1024 → pairOpen s.fax.inPair s.link.outbound = true →
      ∃ t, exec (.portDataByteReceived 0x0C#8) s = .next t ∧ t.link.outbound = s.link.outbound ++ [0x0C#8] ∧
        t.sys.data = false ∧ t.sys.cts = true ∧ t.fax = { s.fax with pageFromPort := true } ∧
        (∀ n : Fin 8, n ≠ 5 → (s.timers.get n).restart ≠ .portByte → t.timers.get n = s.timers.get n) ∧
        SameBut ([.outbound, .systemPort, .fax] ++ allTimers) s t) ∧
    (s.fax.role = some .sender → 1024 ≤ s.link.outbound.length →
      ∃ t, exec (.portDataByteReceived b) s = .next t ∧ t.sys.data = true ∧
        t.link.stats = { s.link.stats with overruns := bump 255 s.link.stats.overruns } ∧
        SameBut (.stats :: allTimers) s t) ∧
    (s.fax.role = some .receiver →
      ∃ t, exec (.portDataByteReceived b) s = .next t ∧ SameBut allTimers s t)) ∧
  (∀ (b : Byte) (s : State), s.sys.data = false →
    ∃ t, exec (.portDataByteReceived b) s = .next t ∧
      (∀ n : Fin 8, (s.timers.get n).restart ≠ .portByte → t.timers.get n = s.timers.get n) ∧
      (s.sys.lateByte = true → t.sys.lateByte = false ∧ t.sys.assembler = s.sys.assembler ∧
        (s.link.outbound.length < 1024 → t.link.outbound = s.link.outbound ++ [b] ∧ t.link.stats = s.link.stats) ∧
        (1024 ≤ s.link.outbound.length → t.link.outbound = s.link.outbound ∧
          t.link.stats = { s.link.stats with overruns := bump 255 s.link.stats.overruns }) ∧
        SameBut ([.outbound, .stats, .systemPort] ++ allTimers) s t) ∧
      (s.sys.lateByte = false → s.sys.entryDue = true ∨ s.sys.ready = false → SameBut allTimers s t) ∧
      (s.sys.lateByte = false → s.sys.entryDue = false → s.sys.ready = true →
        (s.sys.assembler = [] → b ≠ 0xC3#8 → t.sys.assembler = []) ∧
        (s.sys.assembler = [] → b = 0xC3#8 → t.sys.assembler = [0xC3#8]) ∧
        (s.sys.assembler ≠ [] → t.sys.assembler =
          if (systemFrame (s.sys.assembler ++ [b])).isSome = true then [] else s.sys.assembler ++ [b]) ∧
        SameBut (.systemPort :: allTimers) s t)) ∧
  (∀ (b : Byte) (rest : List Byte) (s : State), s.sys.data = true → (s.sys.rts = true ∨ s.sys.lastByte = true) →
    s.link.inbound = b :: rest → s.fax.markInQueue = none →
    ∃ t, exec .inboundByteSent s = .next t ∧ t.link.inbound = rest ∧ t.sys.data = true ∧
      (s.link.mode ≠ .off → s.link.ownBusy = true → rest.length ≤ 512 →
        t.link.ownBusy = false ∧ t.link.busyAckOwed = true) ∧
      (s.link.mode ≠ .off → s.link.ownBusy = true → 512 < rest.length → t.link.ownBusy = true) ∧
      SameBut [.inbound, .link, .systemPort] s t) ∧
  (∀ (b : Byte) (rest : List Byte) (n : Nat) (s : State), s.sys.data = true → (s.sys.rts = true ∨ s.sys.lastByte = true) →
    s.link.inbound = b :: rest → s.fax.markInQueue = some (n + 2) →
    ∃ t, exec .inboundByteSent s = .next t ∧ t.link.inbound = rest ∧ t.sys.data = true ∧
      t.fax = { s.fax with markInQueue := some (n + 1) } ∧ SameBut [.inbound, .link, .systemPort, .fax] s t) ∧
  (∀ (b : Byte) (rest : List Byte) (s : State), s.sys.data = true → (s.sys.rts = true ∨ s.sys.lastByte = true) →
    s.link.inbound = b :: rest → s.fax.markInQueue = some 1 →
    ∃ t, exec .inboundByteSent s = .next t ∧ t.link.inbound = rest ∧ t.sys.data = false ∧ t.sys.cts = true ∧
      t.fax.markInQueue = none ∧ SameBut [.inbound, .link, .systemPort, .timer 5, .fax] s t)

/-- R12, R16, R129, R176: the READY and RTS lines and the escape. READY deasserted discards what the System Port owes,
withdraws the system master's queued dial and hangs up its call; RTS deasserted lets the byte that is being sent be the last.
When T5 fires in the data state of a DATA call, three escape bytes return the port to its command state with CTS asserted,
where a byte of the same instant is still one of data; else the line has been quiet for the guard; an expiry that a byte has
found is taken already (log 1). That READY deasserted discards the answers that wait of every kind, and the entry of a GO DATA
(log 20), and that with RTS deasserted a data byte is the last one where the inbound queue held one (log 21), are the model's
readings. -/
def Obligations.SystemPortLines : Prop :=
  (∀ s : State,
    (s.holder ≠ some .system →
      ∃ t, exec .readyDeasserted s = .next t ∧ t.sys.ready = false ∧ t.sys.goDataDue = false ∧ t.sys.assembler = [] ∧
        t.ports.system.outgoing = [] ∧ t.ccu.claims = s.ccu.claims.filter (fun c => c.master ≠ .system) ∧
        SameBut [.claims, .outgoing .system, .systemPort] s t) ∧
    (s.holder = some .system → s.ccu.ending = none → s.link.mode ≠ .linked → s.link.mode ≠ .clearing →
      ∃ t, exec .readyDeasserted s = .next t ∧ CallEnded [.claims, .outgoing .system] s t .normal ∧
        t.sys.ready = false ∧ t.ports.system.outgoing = [] ∧
        t.ccu.claims = s.ccu.claims.filter (fun c => c.master ≠ .system)) ∧
    (s.holder = some .system → s.ccu.ending = none → s.link.mode = .linked →
      ∃ t, exec .readyDeasserted s = .next t ∧ t.ccu.ending = some .normal ∧ t.link.mode = .clearing ∧
        t.link.clearOwed = true ∧ t.ccu.call = s.ccu.call ∧ t.sys.ready = false) ∧
    (∃ t, exec .readyAsserted s = .next t ∧ t.sys.ready = true ∧ SameBut [.systemPort] s t) ∧
    (s.sys.rts = true →
      ∃ t, exec .rtsDeasserted s = .next t ∧ t.sys.rts = false ∧
        (s.sys.data = true → (t.sys.lastByte = true ↔ s.link.inbound ≠ [])) ∧ SameBut [.systemPort] s t) ∧
    (∃ t, exec .rtsAsserted s = .next t ∧ t.sys.rts = true ∧ t.sys.lastByte = false ∧ SameBut [.systemPort] s t)) ∧
  (∀ s : State, s.sys.expiryTaken = true →
    ∃ t, exec .escapeGuardExpiry s = .next t ∧ (∃ n, t.sys = { s.sys with expiryTaken := false, notice := n }) ∧
      SameBut [.systemPort] s t) ∧
  (∀ s : State, s.timers.e5.Due → s.sys.expiryTaken = false → s.sys.data = true → s.ccu.call.job = .data →
    (s.sys.escape = .three →
      ∃ t, exec .escapeGuardExpiry s = .next t ∧ t.sys.data = false ∧ t.sys.cts = true ∧ t.timers.e5.mode = .off ∧
        t.sys.lateByte = true ∧ t.sys.assembler = [] ∧ t.link.mode = s.link.mode ∧ SameBut [.systemPort, .timer 5] s t) ∧
    (s.sys.escape ≠ .three →
      ∃ t, exec .escapeGuardExpiry s = .next t ∧ t.sys.data = true ∧ t.sys.escape = .quiet ∧
        SameBut [.systemPort, .timer 5] s t))

/-! ### Reset, power and time -/

/-- R20, R38, R163, R173, R174, R176: device reset. A store that is not sound is made empty with every setting at its default
and LOST raised (a cold start), recorded tables with a kind or a state that is not valid, or a chain that does not reach END
with its count of granules, among them; a sound one keeps its COMPLETE entries and its settings, with no holds (a warm start).
Every other record is as at power-on: tones, fax, voice, digit queues, transfer channels and notice controllers; a cold start
leaves only STORE_ALERT pending. The values that the manual gives no register at reset are the model's choice (log 6), T1
shown as loaded among them (log 31); so is how recorded tables are held, by the codes of kind and state of R184, by link and
by count (log 12). -/
def Obligations.DeviceResetStarts : Prop :=
  ∀ (dram : DramSize) (rate : PortRate) (s : State),
    ∃ t, exec (.deviceReset dram rate) s = .next t ∧
      t.ccu = Ccu.reset ∧ t.timers = timersReset ∧ t.calendar = ⟨⟨0, 0, 0, 0⟩, false⟩ ∧
      t.lif = { Lif.reset with voltageBelow := s.lif.voltageBelow, currentBelow := s.lif.currentBelow } ∧
      t.pump = .idle ∧ t.link = .idle .zero ∧ t.voice = .reset ∧ t.level = .reset ∧ t.rau = .reset ∧
      t.tone = .reset ∧ t.fax = .setup none .undecided 2 7 ∧
      t.power = ⟨false, false⟩ ∧ t.sys.data = false ∧ t.sys.cts = true ∧ t.sys.rate = rate ∧
      t.sys.ready = s.sys.ready ∧ t.sys.rts = s.sys.rts ∧ t.sys.entryDue = false ∧ t.sys.goDataDue = false ∧
      t.sys.lastByte = false ∧ t.sys.assembler = [] ∧ t.sys.escape = .waiting ∧ t.sys.lateByte = false ∧
      t.sys.expiryTaken = false ∧ t.pan = ⟨0, []⟩ ∧
      (∀ p, (t.port p).digits = ⟨[], false⟩ ∧ (t.port p).transfer = .idle ∧ (t.port p).outgoing = [] ∧
        (t.port p).notices.priorities = ⟨1, 2, 3, 4, 5, 6⟩) ∧
      t.store.installed = Config.installedGranules dram ∧ t.pending = s.pending ∧
      (∀ a, Mem.read t.store.mem a = Mem.read s.store.mem a) ∧
      (s.store.kept (Config.installedGranules dram) = none ∨
          (∃ x, s.store.tables = some x ∧
            ((∃ e ∈ x.entries, kindOfCode e.kindCode = none ∨ stateOfCode e.stateCode = none ∨
                x.chain e.first e.count = none) ∨
              x.chain x.freeHead x.freeCount = none)) →
        t.store.dir = [] ∧ t.store.free = List.range' 16 (Config.installedGranules dram - 16) ∧
        t.settings = .default ∧ t.store.header.settings = .default ∧ t.store.header.lastId = 0 ∧
        t.ports.panel.notices = { Controller.reset with sources := { SourceTable.clear with storeAlert := ⟨true, false, 0⟩ } } ∧
        ((t.ports.system.notices = t.ports.panel.notices ∧ t.sys.notice = none) ∨
          (t.ports.system.notices.sources = SourceTable.clear ∧ t.sys.notice = some (.storeAlert, 0))) ∧
        (∀ p, (t.port p).alerts = ⟨false, false, true, false⟩)) ∧
      (∀ k : Store, s.store.kept (Config.installedGranules dram) = some k ∨
          (s.store.tables = none ∧ s.store.sound (Config.installedGranules dram) = true ∧ k = s.store) →
        t.settings = s.store.header.settings ∧ t.store.header.lastId = s.store.header.lastId ∧ t.store.tables = none ∧
        t.store.dir = (k.dir.filter (fun e => decide (e.state = .complete))).map (fun e => { e with holds := 0 }) ∧
        t.store.free.length + chainTotal t.store.dir + 16 = Config.installedGranules dram ∧
        (∀ p, (t.port p).notices = Controller.reset) ∧ t.sys.notice = none ∧
        (∀ p, (t.port p).alerts = ⟨false, false, false, false⟩))

/-- R22, R63, R172, R175: POWER_LOW closes the 2814 out: the queued dials are dropped, an active call ends with POWER_LOW, an
episode is abandoned and the deadline list emptied, the voice operation and both transfers end, and the header is written with
the settings in force. No byte of the DRAM changes but those of a recording in hand. -/
def Obligations.PowerLowClosesOut : Prop :=
  ∀ s : State, s.power.low = false →
    ∃ t, exec .powerLow s = .next t ∧ t.power = ⟨true, true⟩ ∧ t.ccu.claims = [] ∧ t.ccu.call.active = false ∧
      t.rau.episode.active = false ∧ t.voice.op.operation = none ∧ t.voice.op.user ≠ some .auto ∧
      (∀ p, (t.port p).transfer.state = .idle) ∧
      (s.ccu.call.active = true → t.ccu.line = .releasing ∧ t.ccu.call.cause = some .powerLow ∧
        t.lif.relayClosed = false ∧ t.LoadedT2 .guard 1500 .none) ∧
      (s.ccu.call.active = false → t.ccu.line = (if s.ccu.line = .ringing then .idle else s.ccu.line) ∧
        t.ccu.call.cause = s.ccu.call.cause) ∧
      t.store.header.settings = s.settings ∧ t.store.header.installed = s.store.installed ∧
      t.store.header.signature = [0x5A#8, 0xC3#8, 0x28#8, 0x14#8] ∧
      t.store.header.lastId = s.store.header.lastId ∧ t.rau.deadlines = Deadlines.empty ∧ BytesKept s t ∧
      (s.voice.op.operation ≠ some .record → ∀ a, Mem.read t.store.mem a = Mem.read s.store.mem a) ∧
      (s.ccu.call.active = false → t.ccu.call = s.ccu.call) ∧
      SameBut ([.claims, .timer 1, .ringing, .episode, .caller, .voiceOp, .header, .power] ++
        (if s.ccu.call.active = true then endParts s else [.line, .notices .panel]) ++ voiceEndParts s ++
        abortParts s .system ++ abortParts s .panel) s t

/-- R33: a stop makes the mode OFF and the output LOW, clears both pending flags and the stop-after-B flag, keeps the rest,
and fires no event; a stopped channel counts no tick and no restart source reaches it, and its owner receives no event but one
that had fired before the stop. -/
def Obligations.ChannelStops : Prop :=
  ∀ (n : Nat) (c : Channel),
    c.stop.mode = .off ∧ c.stop.high = false ∧ c.stop.pendingA = false ∧ c.stop.pendingB = false ∧
    c.stop.stopAfterB = false ∧ c.stop.count = c.count ∧ c.stop.compareA = c.compareA ∧
    c.stop.compareB = c.compareB ∧ c.stop.active = c.active ∧ c.stop.captured = c.captured ∧ c.stop.edge = c.edge ∧
    c.stop.restart = c.restart ∧ c.stop.owner = c.owner ∧ c.stop.signalA = c.signalA ∧ c.stop.signalB = c.signalB ∧
    c.stop.tick n = c.stop ∧ c.stop.restarted = c.stop ∧
    c.stop.takeA n = (if c.signalA = true then some { c.stop with signalA := false } else none) ∧
    c.stop.takeB n = (if c.signalB = true then some { c.stop with signalB := false } else none)

/-- R27: a REPEAT channel loaded with compare A of N fires every N ms, the first time N ms after the load; its count starts
again from 0 at each event, its output stays LOW, and nothing else of its record plays a part or changes. -/
def Obligations.RepeatFiresEveryN : Prop :=
  ∀ (own n k j : Nat) (c : Channel), 1 ≤ n → n ≤ 65535 → c.mode = .repeat → c.compareA = n → c.count = 0 → j < n →
    Nat.repeat (Channel.tick own) (k * n + j) c = { c with count := j, signalA := c.signalA || decide (0 < k) }

/-- R7, R8, R17, R26, R32, R36, R39, R62, R65, R154: the 1 ms tick counts every channel, of which one that names another is
restarted where that one fires, and a one-shot that names its own event fires and runs on from 0; it advances the 200 ms runs
of the line senses and the hangover, and, while a message plays, the play, which takes 8 samples of its codes (the model's
reading, log 15; CodecFollows says what one sample does); beside them only the instant of an escape and of the byte that found
an expiry of T5 passes (R129, log 1). The second event advances the Calendar by one second of its week, and counts a second of
the active call and of the ring episode; it has fired at a tick or fires at the very next one, and one taken before has no
effect (R40, log 1). -/
def Obligations.TimePasses : Prop :=
  (∀ s : State, ∃ t, exec .timerTick s = .next t ∧
    (∀ n : Fin 8, (∀ m : Fin 8, (s.timers.get n).restart = .compare m → m = n) →
      t.timers.get n = (s.timers.get n).tick n) ∧
    (∀ n m : Fin 8, m ≠ n → (s.timers.get n).restart = .compare m →
      t.timers.get n = (if (s.timers.get m).firesNext = true then ((s.timers.get n).tick n).restarted
        else (s.timers.get n).tick n)) ∧
    (∀ n : Fin 8, (s.timers.get n).mode = .oneShot → (s.timers.get n).restart = .compare n →
      (s.timers.get n).compareA ≤ (s.timers.get n).count + 1 →
      t.timers.get n = { s.timers.get n with count := 0, signalA := true }) ∧
    (s.lif.relayClosed = false → s.lif.ringPresent = false → s.lif.voltageBelow ≠ s.lif.lineInUse →
      t.lif.voltageRun = bump 200 s.lif.voltageRun) ∧
    (s.lif.voltageBelow = s.lif.lineInUse → t.lif.voltageRun = 0) ∧
    (s.lif.relayClosed = true → s.lif.suspended = false → s.lif.currentBelow = true → s.lif.pickupLatch = false →
      t.lif.currentRun = bump 200 s.lif.currentRun) ∧
    (s.lif.ringPresent = true → t.lif.hangover = bump 50 s.lif.hangover) ∧
    (∃ n, t.sys = { s.sys with lateByte := false, expiryTaken := false, notice := n }) ∧
    (s.voice.op.state = .playing → s.voice.op.operation = some .play → t.voice.op = (State.playSamples 8 s).voice.op) ∧
    SameBut ([.lif, .systemPort] ++ allTimers ++
      if s.voice.op.state = .playing ∧ s.voice.op.operation = some .play then [.voiceOp] else []) s t) ∧
  (∀ s : State, s.timers.e7.signalA = false → s.timers.e7.firesNext = false →
    ∃ t, exec .secondEvent s = .next t ∧ SameBut [] s t) ∧
  (∀ s : State, s.timers.e7.signalA = true ∨ (s.timers.e7.mode = .repeat ∧ s.timers.e7.firesNext = true) →
    ∃ t, exec .secondEvent s = .next t ∧
      (s.calendar.time.day ≤ 6 → s.calendar.time.hour ≤ 23 → s.calendar.time.minute ≤ 59 → s.calendar.time.second ≤ 59 →
        ((t.calendar.time.day * 24 + t.calendar.time.hour) * 60 + t.calendar.time.minute) * 60 + t.calendar.time.second =
          ((((s.calendar.time.day * 24 + s.calendar.time.hour) * 60 + s.calendar.time.minute) * 60 +
            s.calendar.time.second) + 1) % 604800 ∧
        t.calendar.time.day ≤ 6 ∧ t.calendar.time.hour ≤ 23 ∧ t.calendar.time.minute ≤ 59 ∧
        t.calendar.time.second ≤ 59) ∧
      t.calendar.isSet = s.calendar.isSet ∧
      t.ccu.call = { s.ccu.call with
        seconds := if s.ccu.call.active = true then min 65535 (s.ccu.call.seconds + 1) else s.ccu.call.seconds } ∧
      t.rau.episode = { s.rau.episode with
        seconds := if s.rau.episode.active = true then min 65535 (s.rau.episode.seconds + 1)
                   else s.rau.episode.seconds } ∧
      SameBut [.timer 7, .calendar, .call, .episode] s t)

/-! ### Dialling (R3, R5, R28, R42 to R46, R60) -/

/-- R8, R28, R42, R43, R44, R45, R51, R60, R61: the events of T0. An A event ends a break or a tone; a B event ends the tone
digit or the flash in hand and starts the next item, whatever it is, goes on to the next break of a pulse digit, whose last
make is preloaded with the last break (R43), ends that digit once T0 has stopped, and takes the generator to its next symbol.
That the block in hand as a burst ends is the first of the two that hold no digit is the model's choice (log 47). An event
that has not yet fired at a tick is taken where it is the next one of its channel (log 1). -/
def Obligations.GateEvents : Prop :=
  (∀ s : State, s.timers.e0.signalA = true ∨ (s.timers.e0.mode = .alternate ∧ s.timers.e0.active = .a) →
    (s.timers.e0.use = .relayBreak →
      ∃ t, exec .t0AEvent s = .next t ∧
        t.lif = { s.lif with suspended := true, suspendLeft := 100, currentRun := 0 } ∧
        (s.timers.e0.signalA = false → t.timers.e0.high = !s.timers.e0.high ∧ t.timers.e0.active = .b ∧
          (s.timers.e0.pendingB = true → t.timers.e0.compareB = s.timers.e0.preloadB ∧ t.timers.e0.pendingB = false) ∧
          (s.timers.e0.pendingB = false → t.timers.e0.compareB = s.timers.e0.compareB)) ∧
        SameBut [.timer 0, .lif] s t) ∧
    (s.timers.e0.use = .generatorEnable →
      ∃ t, exec .t0AEvent s = .next t ∧ t.tone.blank = 2 ∧ t.tone.dtmf = s.tone.dtmf ∧
        SameBut [.timer 0, .detectors] s t)) ∧
  (∀ s : State, s.timers.e0.signalB = true ∨ (s.timers.e0.mode = .alternate ∧ s.timers.e0.active = .b) →
    (s.timers.e0.owner = .dialler → s.ccu.line = .dialing →
      s.ccu.dialler.item = .toning ∨ s.ccu.dialler.item = .flashing ∨
        (s.ccu.dialler.item = .pulsing ∧
          ((s.timers.e0.signalB = true ∧ s.timers.e0.mode = .off) ∨
            (s.timers.e0.signalB = false ∧ s.timers.e0.stopAfterB = true))) →
      ∃ t, exec .t0BEvent s = .next t ∧ t.ccu.dialler.cursor = s.ccu.dialler.cursor + 1 ∧
        s.ItemStarted t s.dialItems[s.ccu.dialler.cursor + 1]? ∧
        SameBut ([.timer 0, .dialler] ++ (if s.ccu.dialler.item = .toning then [.generator] else []) ++
          itemParts s.dialItems[s.ccu.dialler.cursor + 1]?) s t) ∧
    (∀ x : Symbol, s.timers.e0.owner = .dialler → s.ccu.dialler.item = .pulsing → s.timers.e0.mode = .alternate →
      s.timers.e0.signalB = true ∨ s.timers.e0.stopAfterB = false → s.itemInHand = some (.pulse x) →
      ∃ t, exec .t0BEvent s = .next t ∧ t.ccu.dialler.breaksEnded = s.ccu.dialler.breaksEnded + 1 ∧
        t.ccu.dialler.item = .pulsing ∧
        (t.timers.e0.stopAfterB = true ↔ s.timers.e0.stopAfterB = true ∨
          s.ccu.dialler.breaksEnded + 2 = (if x.val = 0 then 10 else x.val)) ∧
        (if s.ccu.dialler.breaksEnded + 2 = (if x.val = 0 then 10 else x.val) then
          t.timers.e0.preloadB = compareClamp s.ccu.dialler.lastMake ∧ t.timers.e0.pendingB = true
         else t.timers.e0.preloadB = s.timers.e0.preloadB ∧ t.timers.e0.pendingB = s.timers.e0.pendingB) ∧
        t.ccu.dialler.lastMake = s.ccu.dialler.lastMake ∧
        t.lif = { s.lif with suspended := true, suspendLeft := 0, currentRun := 0 } ∧
        SameBut [.timer 0, .lif, .dialler] s t) ∧
    (s.timers.e0.owner = .tnu → s.tone.generator.state = .sending →
      ∃ t, exec .t0BEvent s = .next t ∧
        (∀ x rest, s.tone.generator.list = x :: rest → t.tone.generator = ⟨.sending, rest, some (.pair x)⟩ ∧
          t.timers.e0.mode = .alternate ∧ t.timers.e0.high = true ∧ t.timers.e0.count = 0) ∧
        (s.tone.generator.list = [] → t.tone.generator = ⟨.idle, [], none⟩) ∧
        SameBut [.timer 0, .generator] s t) ∧
    (s.timers.e0.owner = .tnu → s.tone.generator.state = .beeping →
      ∃ t, exec .t0BEvent s = .next t ∧ t.tone.generator = ⟨.idle, [], none⟩ ∧
        SameBut [.timer 0, .generator] s t))

/-- R3, R5, R6, R12, R22, R42, R45: the settle ends in DIALING with the first item for a blind dial, else in the wait for dial
tone; the end of a pause starts the next item, and that of one that is the last item brings PROGRESS with the no-answer time
on T2. The guard ends in RINGING while an episode is in progress, with the oldest queued dial where the line may be given to
it, else in IDLE. -/
def Obligations.DialWaitsEnd : Prop :=
  ((∀ s : State, s.DueT2 .settle → s.ccu.line = .seizing →
    (s.ccu.blind = false →
      ∃ t, exec .settleExpiry s = .next t ∧ t.LoadedT2 .dialToneWait s.settings.dialToneWaitMs .none ∧
        t.tone.classifier = .zero ∧ SameBut [.ccuRest, .timer 2, .detectors] s t) ∧
    (∀ i : DialItem, s.ccu.blind = true → s.dialItems[0]? = some i →
      ∃ t, exec .settleExpiry s = .next t ∧ t.ccu.line = .dialing ∧ t.ccu.dialler.cursor = 0 ∧
        s.ItemStarted t (some i) ∧ (∀ p, t.Noticed p .callState) ∧
        SameBut ([.line, .timer 2, .notices .panel] ++ itemParts (some i)) s t)) ∧
  (∀ s : State, s.DueT2 .pauseItem → s.ccu.dialler.item = .pausing → s.ccu.line = .dialing →
    (s.dialItems[s.ccu.dialler.cursor + 1]? = none →
      ∃ t, exec .pauseItemExpiry s = .next t ∧ t.ccu.line = .progress ∧ t.ccu.dialler.item = .none ∧
        t.LoadedT2 .noAnswer s.settings.noAnswerMs .none ∧ t.tone.classifier = .zero ∧
        (∀ p, t.Noticed p .callState) ∧
        SameBut [.line, .ccuRest, .timer 2, .dialler, .detectors, .notices .panel] s t) ∧
    (∀ i, s.dialItems[s.ccu.dialler.cursor + 1]? = some i →
      ∃ t, exec .pauseItemExpiry s = .next t ∧ t.ccu.dialler.cursor = s.ccu.dialler.cursor + 1 ∧
        s.ItemStarted t (some i) ∧ SameBut (.timer 2 :: itemParts (some i)) s t))) ∧
  (∀ s : State, s.DueT2 .guard → s.ccu.line = .releasing →
    (s.power.low = false → s.rau.episode.active = true →
      ∃ t, exec .guardExpiry s = .next t ∧ t.ccu.line = .ringing ∧ SameBut [.line, .timer 2, .notices .panel] s t) ∧
    (s.power.low = true ∨ (s.rau.episode.active = false ∧ (s.ccu.claims = [] ∨ s.lif.lineInUse = true)) →
      ∃ t, exec .guardExpiry s = .next t ∧ t.ccu.line = .idle ∧ SameBut [.line, .timer 2, .notices .panel] s t) ∧
    (∀ c rest, s.power.low = false → s.rau.episode.active = false → s.ccu.claims = c :: rest →
      s.lif.lineInUse = false →
      ∃ t, exec .guardExpiry s = .next t ∧ t.ccu.line = .seizing ∧ t.lif.relayClosed = true ∧ t.ccu.claims = rest ∧
        t.ccu.call.active = true ∧ t.ccu.call.holder = some c.master.party ∧ t.ccu.call.job = c.job ∧
        t.ccu.call.dialList = some c.items ∧ t.ccu.call.number = s.nextNumber ∧ t.ccu.blind = c.blind ∧
        t.LoadedT2 .settle 300 .none ∧
        t.Noticed c.master .claimGranted ∧
        SameBut [.line, .call, .claims, .ccuRest, .lif, .timer 1, .timer 2, .ringing, .caller, .detectors, .level,
          .stats, .fax, .digits .system, .digits .panel, .notices .panel] s t))

/-- R3, R18, R46, R101, R109, R139, R146: the expiries of T2 and T4 and the end of the handshake's time that end an active
call with no end in progress, each with its cause. -/
def Obligations.ConditionsEndTheCall : Prop :=
  ∀ s : State, s.ccu.call.active = true → s.ccu.ending = none →
    (s.DueT2 .dialToneWait ∨ s.DueT2 .waitTone →
      ∃ t, exec .dialToneWaitExpiry s = .next t ∧ CallEnded [] s t .noDialTone) ∧
    (s.DueT2 .noAnswer → s.ccu.line = .progress →
      ∃ t, exec .noAnswerExpiry s = .next t ∧ CallEnded [] s t .noAnswer) ∧
    (s.timers.e4.Due → s.pump.phase = .data ∨ s.pump.phase = .retrain →
      ∃ t, exec .carrierLossExpiry s = .next t ∧ CallEnded [] s t .carrierLost) ∧
    (s.pump.phase = .handshake → s.pump.answerTone = false →
      ∃ t, exec .handshakeTimeout s = .next t ∧ CallEnded [] s t .lineTooNoisy) ∧
    (s.DueT2 .faxStall → s.fax.phase = some .page →
      ∃ t, exec .faxPageStallExpiry s = .next t ∧ CallEnded [] s t .faxPageFailed) ∧
    (s.DueT2 .faxDecision → s.fax.phase = some .page →
      ∃ t, exec .faxNextDecisionExpiry s = .next t ∧ CallEnded [] s t .faxPageFailed)

/-! ### Line sensing (R7 to R9, R12) -/

/-- R7, R8, R9, R12: the senses of the line. A change of a sense starts its run anew; a completed run of the line voltage
turns LINE_IN_USE over and, as it clears in IDLE, lets a queued dial have the line; a pick-up latches and ends the call of the
automatic answerer; the watch starts afresh when its suspension ends. That a return of the loop current clears the latch
during a suspension too is an inference (log 29), and the rows of a run's expiry and of the suspension's end act whatever
their count (log 1). That a change of the voltage sense begins a fresh run during ring presence too is the model's choice (log
50). -/
def Obligations.LineSensed : Prop :=
  ∀ s : State,
    (∀ below : Bool, s.lif.voltageBelow ≠ below →
      ∃ t, exec (.lineVoltageSenseChange below) s = .next t ∧
        t.lif = { s.lif with voltageBelow := below, voltageRun := 0 } ∧ SameBut [.lif] s t) ∧
    (s.lif.relayClosed = false → s.lif.ringPresent = false → s.lif.voltageBelow ≠ s.lif.lineInUse →
      (s.lif.lineInUse = false ∨ s.ccu.line ≠ .idle ∨ s.ccu.claims = [] →
        ∃ t, exec .lineInUseRunExpiry s = .next t ∧ t.lif.lineInUse = !s.lif.lineInUse ∧ t.lif.voltageRun = 0 ∧
          (∀ p, t.Noticed p .lineAlert) ∧ SameBut [.lif, .notices .panel] s t) ∧
      (∀ c rest, s.lif.lineInUse = true → s.ccu.line = .idle → s.ccu.claims = c :: rest → s.power.low = false →
        ∃ t, exec .lineInUseRunExpiry s = .next t ∧ t.lif.lineInUse = false ∧ t.ccu.line = .seizing ∧
          t.ccu.claims = rest ∧ t.ccu.call.holder = some c.master.party ∧ t.ccu.call.dialList = some c.items ∧
          t.LoadedT2 .settle 300 .none)) ∧
    (∀ below : Bool, s.lif.currentBelow ≠ below →
      ∃ t, exec (.loopCurrentSenseChange below) s = .next t ∧ t.lif.currentBelow = below ∧ t.lif.currentRun = 0 ∧
        t.lif.pickupLatch = (if below = true then s.lif.pickupLatch else false) ∧ SameBut [.lif] s t) ∧
    (s.lif.currentRunOn → s.ccu.ending = none →
      (s.holder = some .auto →
        ∃ t, exec .extensionPickup s = .next t ∧ t.lif.pickupLatch = true ∧ CallEnded [] s t .extensionPickup) ∧
      (∀ p : Port, s.holder = some p.party → s.settings.pickupHangsUp = true →
        ∃ t, exec .extensionPickup s = .next t ∧ CallEnded [] s t .extensionPickup) ∧
      (∀ p : Port, s.holder = some p.party → s.settings.pickupHangsUp = false →
        ∃ t, exec .extensionPickup s = .next t ∧ t.lif = { s.lif with pickupLatch := true, currentRun := 0 } ∧
          (∀ p, t.Noticed p .lineAlert) ∧ SameBut [.lif, .notices .panel] s t)) ∧
    (s.lif.suspended = true → s.inBreak = false →
      ∃ t, exec .pickupSuspensionEnd s = .next t ∧
        t.lif = { s.lif with suspended := false, suspendLeft := 0, currentRun := 0 } ∧ SameBut [.lif] s t)

/-! ### Ringing and caller data (R62 to R75, R187) -/

/-- R30, R62, R63, R64, R66, R67, R68, R69, R72: a first edge begins a presence with QUALIFY 200 ms ahead on T1's count; the
end of a qualified burst sets CYCLE_END and EPISODE_END 1000 and 8000 ms ahead; a qualified presence in IDLE starts an episode
and brings RINGING; one in an episode continues it, drops the deadlines that were held and closes an open capture window,
whose capture it settles: CORRUPT in RECEIVING, NONE in LISTENING but for the first cycle, in which LISTENING goes on; a cycle
end and an episode end that fall due within a pending presence are held, those within a qualified one dropped (log 26), and
held ones are taken as it is discarded; the capture window opens and closes. A due count that works out as 0 is 1 (R30). -/
def Obligations.RingingFollowed : Prop :=
  ∀ s : State,
    (s.lif.ringPresent = false → s.timers.e1.mode = .capture →
      ∃ t, exec .ringDetectorEdge s = .next t ∧ t.lif = { s.lif with ringPresent := true, hangover := 0 } ∧
        t.rau.presence = .pending ∧ t.timers.e1.captured = s.timers.e1.count ∧ t.timers.e1.edge = .asserted ∧
        t.rau.deadlines = { s.rau.deadlines with qualify := some (max 1 ((s.timers.e1.count + 200) % 65536)) } ∧
        SameBut [.lif, .timer 1, .ringing] s t) ∧
    (s.lif.ringPresent = true →
      ∃ t, exec .ringDetectorEdge s = .next t ∧ t.lif = { s.lif with hangover := 0 } ∧ SameBut [.lif] s t) ∧
    (s.lif.ringPresent = true → s.timers.e1.mode = .capture → s.rau.presence = .qualified →
      ∃ t, exec .presenceHangoverExpiry s = .next t ∧
        t.lif = { s.lif with ringPresent := false, hangover := 0 } ∧ t.rau.presence = .none ∧
        t.timers.e1.captured = s.timers.e1.count ∧ t.timers.e1.edge = .deasserted ∧
        t.rau.deadlines.cycleEnd = some (max 1 ((s.timers.e1.count + 1000) % 65536)) ∧
        t.rau.deadlines.episodeEnd = some (max 1 ((s.timers.e1.count + 8000) % 65536)) ∧
        (s.rau.episode.active = true → s.rau.episode.firstInProgress = true →
          t.rau.deadlines.windowOpen = some (max 1 ((s.timers.e1.count + 200) % 65536))) ∧
        SameBut [.lif, .timer 1, .ringing] s t) ∧
    (s.lif.ringPresent = true → s.timers.e1.mode = .capture → s.rau.presence = .pending →
      (s.rau.deadlines.heldCycleEnd = false ∧ s.rau.deadlines.heldEpisodeEnd = false) ∨ s.rau.episode.active = false →
      ∃ t, exec .presenceHangoverExpiry s = .next t ∧ t.rau.presence = .none ∧ t.rau.deadlines.qualify = none ∧
        t.rau.deadlines.heldCycleEnd = false ∧ t.rau.deadlines.heldEpisodeEnd = false ∧
        SameBut [.lif, .timer 1, .ringing] s t) ∧
    (s.lif.ringPresent = true → s.timers.e1.mode = .capture → s.rau.presence = .pending → s.rau.episode.active = true →
      (s.rau.deadlines.heldCycleEnd = true → s.rau.deadlines.heldEpisodeEnd = false →
        s.ccu.line ≠ .ringing ∨ s.lif.lineInUse = true ∨ s.power.low = true →
        ∃ t, exec .presenceHangoverExpiry s = .next t ∧ t.rau.presence = .none ∧
          t.rau.deadlines.heldCycleEnd = false ∧ t.rau.deadlines.qualify = none ∧ t.rau.episode.active = true ∧
          t.rau.episode.inCycle = false ∧ t.rau.episode.ringCount = bump 65535 s.rau.episode.ringCount ∧
          t.rau.episode.firstInProgress = false ∧ (∀ p, t.Noticed p .ring) ∧
          SameBut [.lif, .timer 1, .ringing, .episode, .notices .panel] s t) ∧
      (s.rau.deadlines.heldEpisodeEnd = true →
        s.ccu.line ≠ .ringing ∨ s.lif.lineInUse = true ∨
          (s.rau.deadlines.heldCycleEnd = false ∧ s.ccu.claims = []) →
        ∃ t, exec .presenceHangoverExpiry s = .next t ∧ t.rau.presence = .none ∧ t.rau.episode.active = false ∧
          t.ccu.lastNumber = s.nextNumber ∧
          (∃ e : HistoryEntry, t.ccu.history = (e :: s.ccu.history).take 16 ∧ e.outcome = .unanswered ∧
            e.number = s.nextNumber ∧ e.startTime = s.rau.episode.startTime) ∧
          t.rau.episode.ringCount = (if s.rau.deadlines.heldCycleEnd = true then bump 65535 s.rau.episode.ringCount
            else s.rau.episode.ringCount) ∧
          t.ccu.line = (if s.ccu.line = .ringing then .idle else s.ccu.line) ∧ t.rau.deadlines = Deadlines.empty ∧
          SameBut [.lif, .line, .history, .ccuRest, .timer 1, .ringing, .episode, .caller, .notices .panel] s t)) ∧
    (∀ due, s.rau.deadlines.qualify = some due → s.rau.presence = .pending → s.rau.episode.active = false →
      s.power.low = false → s.ccu.line = .idle →
      ∃ t, exec .qualifyDeadline s = .next t ∧ t.rau.presence = .qualified ∧ t.ccu.line = .ringing ∧
        t.rau.episode.active = true ∧ t.rau.episode.firstInProgress = true ∧ t.rau.episode.inCycle = true ∧
        t.rau.episode.firstBursts = 1 ∧ t.rau.episode.ringCount = 0 ∧ t.rau.episode.seconds = 0 ∧
        t.rau.episode.startTime = s.calendar.time ∧ t.rau.caller.state = .listening ∧ t.rau.caller.bytes = [] ∧
        t.rau.deadlines.qualify = none ∧ SameBut [.line, .timer 1, .ringing, .episode, .caller, .notices .panel] s t) ∧
    (∀ due, s.rau.deadlines.qualify = some due → s.rau.presence = .pending → s.rau.episode.active = true →
      ∃ t, exec .qualifyDeadline s = .next t ∧ t.rau.presence = .qualified ∧
        t.rau.deadlines =
          { s.rau.deadlines with qualify := none, heldCycleEnd := false, heldEpisodeEnd := false } ∧
        t.rau.episode = { s.rau.episode with
          inCycle := true,
          firstBursts := if s.rau.episode.firstInProgress = true then bump 255 s.rau.episode.firstBursts
            else s.rau.episode.firstBursts } ∧
        (s.rau.caller.windowOpen = false → t.rau.caller = s.rau.caller ∧
          SameBut [.timer 1, .ringing, .episode] s t) ∧
        (s.rau.caller.windowOpen = true → s.rau.caller.state = .receiving →
          t.rau.caller = { s.rau.caller with
            state := .ended, status := .corrupt, number := none, name := none, windowOpen := false } ∧
          (∀ p, t.Noticed p .callerId)) ∧
        (s.rau.caller.windowOpen = true → s.rau.caller.state ≠ .receiving →
          t.rau.caller =
            (if s.rau.caller.state = .ended ∨ s.rau.episode.firstInProgress = true then
              { s.rau.caller with windowOpen := false }
             else { s.rau.caller with
                    state := .ended, status := .none, number := none, name := none, windowOpen := false }) ∧
          SameBut [.timer 1, .ringing, .episode, .caller] s t) ∧
        SameBut [.timer 1, .ringing, .episode, .caller, .notices .panel] s t) ∧
    (∀ due, s.startedBefore due →
      (s.rau.deadlines.cycleEnd = some due → s.rau.presence = .pending →
        ∃ t, exec .cycleEnd s = .next t ∧
          t.rau.deadlines = { s.rau.deadlines with cycleEnd := none, heldCycleEnd := true } ∧
          SameBut [.timer 1, .ringing] s t) ∧
      (s.rau.deadlines.cycleEnd = some due → s.rau.presence = .qualified →
        ∃ t, exec .cycleEnd s = .next t ∧ t.rau.deadlines = { s.rau.deadlines with cycleEnd := none } ∧
          SameBut [.timer 1, .ringing] s t) ∧
      (s.rau.deadlines.episodeEnd = some due → s.rau.presence = .pending →
        ∃ t, exec .episodeEnd s = .next t ∧
          t.rau.deadlines = { s.rau.deadlines with episodeEnd := none, heldEpisodeEnd := true } ∧
          SameBut [.timer 1, .ringing] s t) ∧
      (s.rau.deadlines.episodeEnd = some due → s.rau.presence = .qualified →
        ∃ t, exec .episodeEnd s = .next t ∧ t.rau.deadlines = { s.rau.deadlines with episodeEnd := none } ∧
          SameBut [.timer 1, .ringing] s t)) ∧
    (∀ due, s.rau.deadlines.windowOpen = some due → s.rau.caller.state ≠ .ended →
      ∃ t, exec .windowOpen s = .next t ∧ t.rau.caller = { s.rau.caller with windowOpen := true } ∧
        t.rau.deadlines.windowOpen = none ∧ SameBut [.timer 1, .ringing, .caller] s t) ∧
    (∀ due, s.rau.deadlines.windowClose = some due →
      ∃ t, exec .windowClose s = .next t ∧ t.rau.caller.state = .ended ∧ t.rau.caller.windowOpen = false ∧
        t.rau.deadlines.windowClose = none ∧
        (s.rau.caller.state = .listening → t.rau.caller.status = .none) ∧
        (s.rau.caller.state = .receiving → t.rau.caller.status = .corrupt ∧
          (∀ p, t.Noticed p .callerId)) ∧
        SameBut [.timer 1, .ringing, .caller, .notices .panel] s t)

/-- R4, R6, R12, R17, R19, R64, R67, R68, R73, R74, R75, R77, R81, R112, R158: a cycle end with no presence that started
before it, or one that a discarded presence held, counts a ring, fixes the pattern at the end of the first cycle, and notes
the threshold, that of the toll saver while an unheard message is kept. A due answer is carried out by the pattern's action:
DATA with READY asserted gives the call to the system master; FAX to the system master, or to the automatic answerer where the
setting sends faxes to the store or READY is not asserted and the store has room, and bounds that leave no rung end that call
at its start (log 23); DISCRIMINATE to the automatic answerer, whose greeting is played, or whose beep sounds where there is
none, or whose quiet caller becomes a fax where the store has no room and TRY_FAX is set; a master's LOCAL operation is
preempted first; otherwise the episode goes on. An episode that ends unanswered takes a call number, enters the Call History
as UNANSWERED, and leaves the line IDLE or to the oldest queued dial. That the preemption comes before the greeting is chosen,
and that a FAX call with no rung ends with the rung in use absent, are the model's choices (log 50). -/
def Obligations.EpisodeCountsAndEnds : Prop :=
  (∀ (c : Instr) (n p : Nat) (s : State),
    (c = .cycleEnd ∧ ∃ due, s.rau.deadlines.cycleEnd = some due ∧ (s.rau.presence = .none ∨ ¬s.startedBefore due)) ∨
      (c = .presenceHangoverExpiry ∧ s.lif.ringPresent = true ∧ s.timers.e1.mode = .capture ∧
        s.rau.presence = .pending ∧ s.rau.deadlines.heldCycleEnd = true ∧ s.rau.deadlines.heldEpisodeEnd = false) →
    s.rau.episode.active = true →
    p = (if s.rau.episode.firstInProgress = true then min 3 s.rau.episode.firstBursts else s.rau.episode.pattern) →
    n = (if s.settings.tollSaver = true ∧
        (∃ e ∈ s.store.dir, e.state = .complete ∧ e.isNew = true ∧ (e.kind = .voiceMsg ∨ e.kind = .faxIn))
      then s.settings.tollSaverRings else s.settings.ringsToAnswer.get p) →
    (s.ccu.line ≠ .ringing ∨ s.lif.lineInUse = true ∨ s.power.low = true ∨ bump 65535 s.rau.episode.ringCount < n ∨
        s.settings.answerAction.get p = .ignore ∨
        (s.settings.answerAction.get p = .data ∧ s.sys.ready = false) ∨
        (s.settings.answerAction.get p = .fax ∧ (s.settings.faxToStore = true ∨ s.sys.ready = false) ∧
          s.storeHasRoom = false) →
      ∃ t, exec c s = .next t ∧ t.rau.episode.active = true ∧ t.rau.episode.inCycle = false ∧
        t.rau.episode.ringCount = bump 65535 s.rau.episode.ringCount ∧
        t.rau.episode.firstInProgress = false ∧ t.rau.episode.pattern = p ∧
        t.rau.episode.threshold = some n ∧ (c = .cycleEnd → t.rau.deadlines.cycleEnd = none) ∧
        (c = .presenceHangoverExpiry → t.rau.presence = .none ∧ t.rau.deadlines.heldCycleEnd = false) ∧
        (s.rau.episode.firstInProgress = true →
          t.rau.deadlines.windowClose = some (max 1 ((t.timers.e1.count + 4000) % 65536))) ∧
        (∀ p, t.Noticed p .ring) ∧
        SameBut ([.timer 1, .ringing, .episode, .notices .panel] ++ if c = .cycleEnd then [] else [.lif]) s t) ∧
    (s.ccu.line = .ringing → s.lif.lineInUse = false → s.power.low = false → n ≤ bump 65535 s.rau.episode.ringCount →
      (s.settings.answerAction.get p = .data → s.sys.ready = true →
        ∃ t, exec c s = .next t ∧ t.ccu.line = .connected ∧ t.lif.relayClosed = true ∧
          t.ccu.call.active = true ∧ t.ccu.call.holder = some .system ∧ t.ccu.call.job = .data ∧
          t.ccu.call.direction = .incoming ∧ t.ccu.call.number = s.nextNumber ∧ t.ccu.call.ringPattern = some p ∧
          t.ccu.call.ringCount = some (bump 65535 s.rau.episode.ringCount) ∧ t.rau.episode.active = false ∧
          t.pump.mode = .data ∧ t.pump.role = some .answerer ∧ t.pump.phase = .handshake ∧
          SameBut [.line, .call, .ccuRest, .lif, .timer 1, .ringing, .episode, .caller, .detectors, .level, .stats, .fax,
            .pump, .digits .system, .digits .panel, .notices .panel] s t) ∧
      (s.settings.answerAction.get p = .fax → max 2 s.settings.rungFloor ≤ min 7 s.settings.rungCeiling →
        (s.settings.faxToStore = false → s.sys.ready = true →
          ∃ t, exec c s = .next t ∧ t.ccu.line = .connected ∧ t.lif.relayClosed = true ∧
            t.ccu.call.holder = some .system ∧ t.ccu.call.job = .fax ∧ t.rau.episode.active = false ∧
            t.fax.role = some .receiver ∧ t.fax.place = .port ∧ t.fax.phase = some .setup ∧ t.fax.expect = .set ∧
            t.pump.mode = .fax ∧ t.link.tx = .fax (.caps (min 7 s.settings.rungCeiling) 3 0) ∧
            t.LoadedT2 .faxReply 3000 .none ∧
            SameBut [.line, .call, .ccuRest, .lif, .timer 1, .timer 2, .ringing, .episode, .caller, .detectors, .level,
              .stats, .fax, .pump, .link, .digits .system, .digits .panel, .notices .panel] s t) ∧
        (s.settings.faxToStore = true ∨ s.sys.ready = false → s.storeHasRoom = true → s.canCreate = true →
          ∃ t, exec c s = .next t ∧ t.ccu.line = .connected ∧ t.lif.relayClosed = true ∧
            t.ccu.call.holder = some .auto ∧ t.ccu.call.job = .fax ∧ t.rau.episode.active = false ∧
            t.fax.role = some .receiver ∧ t.fax.place = .store ∧ t.fax.phase = some .setup ∧ t.fax.expect = .set ∧
            (∃ e : Entry, t.store.dir = s.store.dir ++ [e] ∧ e.kind = .faxIn ∧ e.state = .opened ∧
              t.fax.linkedId = some e.id ∧ t.ccu.call.linkedId = some e.id) ∧
            SameBut [.line, .call, .ccuRest, .lif, .timer 1, .timer 2, .ringing, .episode, .caller, .detectors, .level,
              .stats, .fax, .pump, .link, .header, .directory, .digits .system, .digits .panel, .notices .panel] s t)) ∧
      (s.settings.answerAction.get p = .discriminate → s.voice.op.operation = none → s.voice.op.user = none →
        (∀ id : Nat, s.store.greetingFor p = some id →
          ∃ t, exec c s = .next t ∧ t.ccu.line = .connected ∧ t.lif.relayClosed = true ∧
            t.ccu.call.holder = some .auto ∧ t.ccu.call.job = .discriminate ∧ t.rau.episode.active = false ∧
            t.ccu.call.phase = some (.discr .greeting) ∧
            t.rau.discr = some { phase := .greeting, greeting := some id, heard := 0, code := [], codeDigits := 0,
                                 wrong := 0 } ∧
            t.voice.op.state = .playing ∧ t.voice.op.operation = some .play ∧ t.voice.op.user = some .auto ∧
            t.voice.op.endpoint = some .line ∧ t.voice.op.message = some id ∧ t.voice.op.offset = 0 ∧
            t.store.dir = s.store.dir.map (fun x => if x.id = id then { x with holds := x.holds + 1 } else x) ∧
            SameBut [.line, .call, .ccuRest, .lif, .timer 1, .ringing, .episode, .caller, .detectors, .level, .stats,
              .fax, .discr, .voiceOp, .directory, .digits .system, .digits .panel, .notices .panel] s t) ∧
        (s.store.greetingFor p = none → s.storeHasRoom = true →
          ∃ t, exec c s = .next t ∧ t.ccu.line = .connected ∧ t.ccu.call.holder = some .auto ∧
            t.ccu.call.job = .discriminate ∧ t.ccu.call.phase = some (.discr .beep) ∧
            t.rau.discr = some { phase := .beep, greeting := none, heard := 0, code := [], codeDigits := 0,
                                 wrong := 0 } ∧
            t.voice.op.operation = some .tone ∧ t.voice.op.user = some .auto ∧ t.voice.op.endpoint = some .line ∧
            SameBut [.line, .call, .ccuRest, .lif, .timer 1, .ringing, .episode, .caller, .detectors, .level, .stats,
              .fax, .discr, .voiceOp, .digits .system, .digits .panel, .notices .panel] s t) ∧
        (s.store.greetingFor p = none → s.storeHasRoom = false → s.settings.quietHangsUp = false →
          s.settings.faxToStore = false → s.sys.ready = true →
          max 2 s.settings.rungFloor ≤ min 7 s.settings.rungCeiling →
          ∃ t, exec c s = .next t ∧ t.ccu.line = .connected ∧ t.lif.relayClosed = true ∧
            t.ccu.call.holder = some .system ∧ t.ccu.call.job = .fax ∧ t.rau.episode.active = false ∧
            t.rau.discr = none ∧ t.fax.role = some .receiver ∧ t.fax.place = .port ∧ t.fax.phase = some .setup ∧
            t.fax.expect = .set ∧ t.link.tx = .fax (.caps (min 7 s.settings.rungCeiling) 3 0) ∧
            t.LoadedT2 .faxReply 3000 .none ∧
            SameBut [.line, .call, .ccuRest, .lif, .timer 1, .timer 2, .ringing, .episode, .caller, .detectors, .level,
              .stats, .fax, .discr, .voiceOp, .pump, .link, .digits .system, .digits .panel, .notices .panel] s t) ∧
        (s.store.greetingFor p = none → s.storeHasRoom = false → s.settings.quietHangsUp = false →
          s.settings.faxToStore = true ∨ s.sys.ready = false →
          ∃ t, exec c s = .next t ∧ t.ccu.line = .releasing ∧ t.ccu.call.active = false ∧
            t.ccu.call.cause = some .storeFull ∧ t.rau.episode.active = false ∧ t.rau.discr = none ∧
            SameBut (endParts s ++ [.timer 1, .ringing, .episode, .caller, .stats, .digits .system,
              .digits .panel]) s t) ∧
        (s.store.greetingFor p = none → s.storeHasRoom = false → s.settings.quietHangsUp = true →
          ∃ t, exec c s = .next t ∧ t.ccu.line = .releasing ∧ t.ccu.call.active = false ∧
            t.ccu.call.cause = some .storeFull ∧ t.rau.episode.active = false ∧ t.rau.discr = none ∧
            SameBut (endParts s ++ [.timer 1, .ringing, .episode, .caller, .stats, .digits .system,
              .digits .panel]) s t)) ∧
      (s.settings.answerAction.get p = .fax → min 7 s.settings.rungCeiling < max 2 s.settings.rungFloor →
        (s.settings.faxToStore = false ∧ s.sys.ready = true) ∨ (s.storeHasRoom = true ∧ s.canCreate = true) →
        ∃ t, exec c s = .next t ∧ t.ccu.line = .releasing ∧ t.lif.relayClosed = false ∧ t.ccu.call.active = false ∧
          t.ccu.call.job = .fax ∧ t.ccu.call.cause = some .faxTraining ∧ t.rau.episode.active = false ∧
          t.fax.phase = none ∧ t.LoadedT2 .guard 1500 .none) ∧
      (∀ (u : Port) (id m : Nat) (x : Entry), s.settings.answerAction.get p = .discriminate →
        s.store.greetingFor p = some id → s.voice.op.user = some u.party → s.voice.op.endpoint = some .local →
        s.voice.op.message = some m → s.store.find m = some x → id ≠ m →
        (s.voice.op.operation = some .play → x.state ≠ .doomed →
          ∃ t, exec c s = .next t ∧ t.ccu.line = .connected ∧ t.ccu.call.holder = some .auto ∧
            t.ccu.call.job = .discriminate ∧
            t.voice.op.state = .playing ∧ t.voice.op.operation = some .play ∧ t.voice.op.user = some .auto ∧
            t.voice.op.endpoint = some .line ∧ t.voice.op.message = some id ∧ t.voice.op.offset = 0 ∧
            t.voice.resume = some (m, min s.voice.op.offset (x.length - 1) / 1024 * 1024) ∧
            t.store.dir = (s.store.dir.map (fun y => if y.id = m then { y with holds := y.holds - 1 } else y)).map
              (fun y => if y.id = id then { y with holds := y.holds + 1 } else y) ∧
            t.Noticed u .voiceDone ∧ t.Noticed u .preempted ∧
            SameBut [.line, .call, .ccuRest, .lif, .timer 1, .ringing, .episode, .caller, .detectors, .level, .stats,
              .fax, .discr, .voiceOp, .resume, .directory, .digits .system, .digits .panel, .notices .panel] s t) ∧
        (s.voice.op.operation = some .record → s.voice.op.lastLoud = none → (∀ b ∈ s.voice.op.taken, b.loud = false) →
          ∃ t, exec c s = .next t ∧ t.ccu.line = .connected ∧ t.ccu.call.holder = some .auto ∧
            t.ccu.call.job = .discriminate ∧
            t.voice.op.state = .playing ∧ t.voice.op.operation = some .play ∧ t.voice.op.user = some .auto ∧
            t.voice.op.message = some id ∧ t.timers.e6.mode = .off ∧
            t.store.dir = (s.store.dir.filter (fun y => y.id ≠ m)).map
              (fun y => if y.id = id then { y with holds := y.holds + 1 } else y) ∧
            t.store.free = s.store.free ++ x.granules ∧
            t.Noticed u .voiceDone ∧ t.Noticed u .preempted ∧ BytesKept s t ∧
            SameBut [.line, .call, .ccuRest, .lif, .timer 1, .timer 6, .ringing, .episode, .caller, .detectors, .level,
              .stats, .fax, .discr, .voiceOp, .directory, .freeList, .memory, .alerts .system, .alerts .panel,
              .digits .system, .digits .panel, .notices .panel] s t)))) ∧
  (∀ (due : Nat) (s : State), s.rau.deadlines.episodeEnd = some due → s.rau.presence = .none ∨ ¬s.startedBefore due →
    s.rau.episode.active = true →
    (s.ccu.line ≠ .ringing ∨ s.ccu.claims = [] ∨ s.lif.lineInUse = true →
      ∃ t, exec .episodeEnd s = .next t ∧ t.rau.episode.active = false ∧ t.ccu.lastNumber = s.nextNumber ∧
        (∃ e : HistoryEntry, t.ccu.history = (e :: s.ccu.history).take 16 ∧ e.outcome = .unanswered ∧
          e.number = s.nextNumber ∧ e.direction = .incoming ∧ e.startTime = s.rau.episode.startTime ∧
          e.seconds = s.rau.episode.seconds ∧ e.linkedId = none) ∧
        t.ccu.line = (if s.ccu.line = .ringing then .idle else s.ccu.line) ∧
        t.rau.deadlines = Deadlines.empty ∧
        SameBut [.line, .history, .ccuRest, .timer 1, .ringing, .episode, .caller, .notices .panel] s t) ∧
    (∀ c rest, s.ccu.line = .ringing → s.ccu.claims = c :: rest → s.lif.lineInUse = false → s.power.low = false →
      ∃ t, exec .episodeEnd s = .next t ∧ t.rau.episode.active = false ∧ t.ccu.line = .seizing ∧ t.ccu.claims = rest ∧
        t.ccu.call.holder = some c.master.party ∧ t.ccu.call.number = (s.nextNumber + 1) % 65536))

/-- R69, R70, R71, R72, R187: bytes of caller data. In LISTENING a 0x90 begins a message and other bytes are skipped; in
RECEIVING a byte is stored, the second one as the announced length; the last byte of a message gives its outcome: CORRUPT
where its bytes do not sum to 0 or a field runs past the end of the list; else, of the first field of each tag, RECEIVED with
the digits of a NUMBER and the characters of a NAME, the outcome that an ABSENCE names where there is neither, or UNAVAILABLE
with none of them; a field that is not good makes it CORRUPT, and so does a framing error. That a lone tag at the end of the
list is such a field is the model's choice (log 47). That a byte beyond the 64th ends the capture as CORRUPT is an inference
(log 27). A byte outside the window has no effect. -/
def Obligations.CallerDataTaken : Prop :=
  ∀ s : State,
    (s.receivesCaller → s.rau.caller.state = .listening →
      (∃ t, exec (.callerDataByte 0x90#8) s = .next t ∧
        t.rau.caller = { s.rau.caller with bytes := [0x90#8], state := .receiving } ∧ SameBut [.caller] s t) ∧
      (∀ b, b ≠ 0x90#8 → ∃ t, exec (.callerDataByte b) s = .next t ∧ SameBut [] s t)) ∧
    (∀ b, s.receivesCaller → s.rau.caller.state = .receiving →
      (s.rau.caller.bytes.length = 1 →
        ∃ t, exec (.callerDataByte b) s = .next t ∧
          t.rau.caller = { s.rau.caller with bytes := s.rau.caller.bytes ++ [b], length := some b.toNat } ∧
          SameBut [.caller] s t) ∧
      (2 ≤ s.rau.caller.bytes.length → s.rau.caller.bytes.length < 64 →
        s.rau.caller.length.map (· + 3) ≠ some (s.rau.caller.bytes.length + 1) →
        ∃ t, exec (.callerDataByte b) s = .next t ∧
          t.rau.caller = { s.rau.caller with bytes := s.rau.caller.bytes ++ [b] } ∧ SameBut [.caller] s t) ∧
      (64 ≤ s.rau.caller.bytes.length →
        ∃ t, exec (.callerDataByte b) s = .next t ∧
          t.rau.caller = { s.rau.caller with state := .ended, status := .corrupt, number := none, name := none,
                                             windowOpen := false } ∧
          (∀ p, t.Noticed p .callerId) ∧ SameBut [.caller, .notices .panel] s t)) ∧
    (∀ (b m n : Byte) (fields : List (Byte × List Byte)) (rest : List Byte) (x : CallerStatus) (number : Option (List Nat))
        (name : Option (List Byte)),
      s.receivesCaller → s.rau.caller.state = .receiving → s.rau.caller.bytes = m :: n :: (fieldBytes fields ++ rest) →
      s.rau.caller.bytes.length < 64 → s.rau.caller.length.map (· + 3) = some (s.rau.caller.bytes.length + 1) →
      (byteSum (s.rau.caller.bytes ++ [b]) = 0#8 → rest = [] ∨ cutShort rest = true) →
      (x, number, name) =
        (if byteSum (s.rau.caller.bytes ++ [b]) = 0#8 ∧ rest = [] then fieldsOutcome fields
         else (.corrupt, none, none)) →
      ∃ t, exec (.callerDataByte b) s = .next t ∧
        t.rau.caller = { s.rau.caller with bytes := s.rau.caller.bytes ++ [b], state := .ended, status := x,
                                           number := number, name := name, windowOpen := false } ∧
        (∀ p, t.Noticed p .callerId) ∧
        t.rau.deadlines.windowOpen = none ∧ t.rau.deadlines.windowClose = none ∧
        SameBut [.timer 1, .ringing, .caller, .notices .panel] s t) ∧
    (s.receivesCaller → s.rau.caller.state = .receiving →
      ∃ t, exec .callerByteFramingError s = .next t ∧ t.rau.caller.state = .ended ∧ t.rau.caller.status = .corrupt ∧
        t.rau.caller.number = none ∧ t.rau.caller.windowOpen = false ∧
        (∀ p, t.Noticed p .callerId) ∧ SameBut [.caller, .notices .panel] s t) ∧
    (∀ b, ¬s.receivesCaller → ∃ t, exec (.callerDataByte b) s = .next t ∧ SameBut [] s t)

/-! ### Blocks, quality and levels (Chapters 3 and 5) -/

/-- R32, R51, R58, R59, R76, R85, R86: samples of a path that no recording takes (RecordingsRunAndEnd says what one does with
them) add their terms to the path's block; those that fill it close it with the log code of its mean, restart the channels
that wait for its level, and count where a discriminating call heard sound, whose detectors go on with their runs where none
of them makes its recognition. While the relay has been closed since the block began, the twelve bands are measured beside the
line. On a connected VOICE call the block's digit is judged (R51), but for the blocks of a burst of the generator and the two
that follow it, of which the block in hand as the burst ends is the first (the model's choice, log 47); one that is reported
joins the digit queue of the call's holder, the oldest of sixteen giving way to it, and stops that master's play where it was
started so (R58, R59). -/
def Obligations.BlocksMeasured : Prop :=
  (∀ (xs : List Sample) (s : State), s.power.retention = false → ¬s.recordsFrom .line → ¬s.recordsFrom .mic →
    (∀ bands, s.level.line.count + xs.length < 128 → s.level.bandsOn = false →
      ∃ t, exec (.blockEvent .line xs bands) s = .next t ∧
        t.level = { s.level with line := ⟨s.level.line.acc + (xs.map sampleTerm).sum, s.level.line.count + xs.length,
                                          s.level.line.level⟩ } ∧
        SameBut [.level] s t) ∧
    (∀ bands, s.level.mic.count + xs.length < 128 →
      ∃ t, exec (.blockEvent .mic xs bands) s = .next t ∧
        t.level = { s.level with mic := ⟨s.level.mic.acc + (xs.map sampleTerm).sum, s.level.mic.count + xs.length,
                                         s.level.mic.level⟩ } ∧
        SameBut [.level] s t) ∧
    (∀ bands, s.level.mic.count + xs.length = 128 →
      ∃ t, exec (.blockEvent .mic xs bands) s = .next t ∧
        t.level = { s.level with mic := ⟨0, 0, logCode ((s.level.mic.acc + (xs.map sampleTerm).sum) / 128)⟩ } ∧
        (∀ n : Fin 8, t.timers.get n = (s.timers.get n).blockRestart .mic t.level.mic.level) ∧
        SameBut [.level, .timer 0, .timer 1, .timer 2, .timer 3, .timer 4, .timer 5, .timer 6, .timer 7] s t) ∧
    (∀ bands, s.level.line.count + xs.length = 128 → s.level.bandsOn = false →
      ∃ t, exec (.blockEvent .line xs bands) s = .next t ∧
        t.level.line = ⟨0, 0, logCode ((s.level.line.acc + (xs.map sampleTerm).sum) / 128)⟩ ∧
        t.level.bandsOn = s.lif.relayClosed ∧
        t.rau.discr = s.rau.discr.map (fun d =>
          if d.phase ≠ .beep ∧ s.settings.silenceLevel ≤ t.level.line.level then
            { d with heard := bump 65535 d.heard } else d) ∧
        (∀ n : Fin 8, t.timers.get n = (s.timers.get n).blockRestart .line t.level.line.level) ∧
        t.tone = { s.tone with blank := if s.inBurst then s.tone.blank else s.tone.blank - 1 } ∧
        SameBut ([.level, .detectors, .discr] ++ allTimers) s t) ∧
    (∀ bands : List (List Sample), bands.length = s.level.bands.length → (∀ b ∈ bands, b.length = xs.length) →
      s.level.line.count + xs.length < 128 → s.level.bandsOn = true →
      ∃ t, exec (.blockEvent .line xs bands) s = .next t ∧
        (∀ (k : Nat) (m : PathMeter) (b : List Sample), s.level.bands[k]? = some m → bands[k]? = some b →
          t.level.bands[k]? = some ⟨m.acc + (b.map sampleTerm).sum, m.count + xs.length, m.level⟩) ∧
        t.level.bands.length = s.level.bands.length ∧ SameBut [.level] s t)) ∧
  (∀ (xs : List Sample) (bands : List (List Sample)) (b : ToneBlock) (d : Discrimination) (s : State),
    s.LineBlockCloses xs bands b → s.rau.discr = some d → s.ccu.line = .connected → s.ccu.call.job = .discriminate →
    s.tone.faxCall.recognises (b.present s 1) = false → s.tone.dataCall.recognises (b.present s 2) = false →
    ∀ j, j = (if s.judgesDigit then s.tone.dtmf.judge (digitOf s.settings.toneLevel b.whole b.bands)
              else ({ s.tone.dtmf with run := 0, reported := none, absence := 0 }, none)) → j.2 = none →
    ∃ t, exec (.blockEvent .line xs bands) s = .next t ∧
      t.rau.discr = some { d with
        heard := if d.phase ≠ .beep ∧ s.settings.silenceLevel ≤ b.whole then bump 65535 d.heard else d.heard } ∧
      t.tone = { s.tone with
        faxCall := s.tone.faxCall.judge (b.present s 1), dataCall := s.tone.dataCall.judge (b.present s 2), dtmf := j.1,
        blank := if s.inBurst then s.tone.blank else s.tone.blank - 1 } ∧
      SameBut ([.level, .detectors, .discr] ++ allTimers) s t) ∧
  (∀ (xs : List Sample) (bands : List (List Sample)) (b : ToneBlock) (p : Port) (s : State),
    s.LineBlockCloses xs bands b → s.rau.discr = none → s.ccu.line = .connected → s.ccu.call.job = .voice →
    s.holder = some p.party →
    (¬s.judgesDigit →
      ∃ t, exec (.blockEvent .line xs bands) s = .next t ∧
        t.tone.dtmf = { s.tone.dtmf with run := 0, reported := none, absence := 0 } ∧
        t.tone.blank = (if s.inBurst then s.tone.blank else s.tone.blank - 1) ∧
        SameBut ([.level, .detectors] ++ allTimers) s t) ∧
    (∀ j, s.judgesDigit → j = s.tone.dtmf.judge (digitOf s.settings.toneLevel b.whole b.bands) →
      (j.2 = none →
        ∃ t, exec (.blockEvent .line xs bands) s = .next t ∧ t.tone.dtmf = j.1 ∧
          SameBut ([.level, .detectors] ++ allTimers) s t) ∧
      (∀ x, j.2 = some x →
        ∃ t, exec (.blockEvent .line xs bands) s = .next t ∧ t.tone.dtmf = j.1 ∧
          (t.port p).digits = (if (s.port p).digits.digits.length < 16 then
              ⟨(s.port p).digits.digits ++ [x], (s.port p).digits.lost⟩
            else ⟨(s.port p).digits.digits.drop 1 ++ [x], true⟩) ∧
          t.Noticed p .digit ∧
          (¬(s.voice.op.operation = some .play ∧ s.voice.op.user = some p.party ∧ s.voice.op.stopOnDigit = true) →
            SameBut ([.level, .detectors, .digits p, .notices .panel] ++ allTimers) s t) ∧
          (s.voice.op.operation = some .play → s.voice.op.user = some p.party → s.voice.op.stopOnDigit = true →
            t.voice.op.state = .idle ∧ t.voice.op.operation = none ∧ t.voice.op.user = none ∧
              t.voice.op.reason = some .digit ∧
              SameBut ([.level, .detectors, .digits p, .voiceOp, .directory, .freeList, .alerts .system, .alerts .panel,
                .notices .panel] ++ allTimers) s t))))

/-- R84: the log code is 4k + f, where k is the place of the leading one and f the two bits below it; it rises with its
argument, moves by 4 in one doubling, and never takes the values 1, 2, 3, 5 and 7, nor one above 84 for the sums of two band
means. -/
def Obligations.LogCodeRises : Prop :=
  (∀ k f v : Nat, f < 4 → (4 + f) * 2 ^ k ≤ 4 * v → 4 * v < (5 + f) * 2 ^ k → logCode v = 4 * k + f) ∧
  logCode 0 = 0 ∧ (∀ v w : Nat, v ≤ w → logCode v ≤ logCode w) ∧
    (∀ v : Nat, 1 ≤ v → logCode (2 * v) = logCode v + 4) ∧ (∀ v : Nat, 2 ≤ v → logCode (2 * v + 1) < logCode v + 8) ∧
    (∀ v : Nat, logCode v ≠ 1 ∧ logCode v ≠ 2 ∧ logCode v ≠ 3 ∧ logCode v ≠ 5 ∧ logCode v ≠ 7) ∧
    (∀ v : Nat, v ≤ 2097152 → logCode v ≤ 84)

/-- R3, R45, R46, R49, R50, R51, R53, R54, R56, R57: a single-tone detector makes its one recognition at the 25th block of a
run with its tone; the DTMF judgement reports a digit at the third equal block, once. A line block that closes in PROGRESS
runs the ANSWER detector, whose recognition connects a DATA or a FAX call; ten blocks of sound without the call-progress tone
connect a VOICE call whose far end rings; BUSY and CONGESTION end the call, and RINGBACK is noted. In the wait for dial tone
DIAL starts the dialling, and at a wait-for-tone item it starts the next one; the classifier's state is dropped with either
(R49). That a classification goes before an ANSWER of the same block is the model's choice (log 50). -/
def Obligations.RecognitionsMade : Prop :=
  (∀ (n : Nat) (d : Detector), d = Nat.repeat (fun x => x.judge true) n Detector.zero →
    d.run = min 25 n ∧ (d.recognised = true ↔ 25 ≤ n) ∧ (d.recognises true = true ↔ n = 24) ∧
      d.judge false = .zero ∧ d.recognises false = false) ∧
  (∀ (x : Symbol) (d : Dtmf), d.reported = none → d.candidate ≠ some x →
    ((d.judge (some x)).2 = none ∧ ((d.judge (some x)).1.judge (some x)).2 = none ∧
      (((d.judge (some x)).1.judge (some x)).1.judge (some x)).2 = some x ∧
      ((((d.judge (some x)).1.judge (some x)).1.judge (some x)).1.judge (some x)).2 = none)) ∧
  (∀ (xs : List Sample) (bands : List (List Sample)) (b : ToneBlock) (s : State), s.LineBlockCloses xs bands b →
    s.rau.discr = none → s.ccu.line = .progress →
    (s.ccu.call.job = .data ∨ s.ccu.call.job = .fax → b.present s 0 = false →
      (b.present s 3 = false →
        ∃ t, exec (.blockEvent .line xs bands) s = .next t ∧ t.tone.answer = .zero ∧
          SameBut ([.level, .detectors] ++ allTimers) s t) ∧
      (b.present s 3 = true → s.tone.answer.run < 24 →
        ∃ t, exec (.blockEvent .line xs bands) s = .next t ∧
          t.tone.answer = ⟨s.tone.answer.run + 1, s.tone.answer.recognised⟩ ∧
          SameBut ([.level, .detectors] ++ allTimers) s t) ∧
      (b.present s 3 = true → s.tone.answer.run = 24 → s.ccu.call.job = .data →
        ∃ t, exec (.blockEvent .line xs bands) s = .next t ∧ t.ccu.line = .connected ∧ t.timers.e2.mode = .off ∧
          t.pump.mode = .data ∧ t.pump.role = some .caller ∧ t.pump.phase = .handshake ∧ t.pump.answerTone = false ∧
          (∀ p, t.Noticed p .callState) ∧
          SameBut ([.level, .line, .call, .ccuRest, .detectors, .pump, .notices .panel] ++ allTimers) s t) ∧
      (b.present s 3 = true → s.tone.answer.run = 24 → s.ccu.call.job = .fax → s.fax.role = some .sender →
        max 2 s.settings.rungFloor ≤ min 7 s.settings.rungCeiling →
        ∃ t, exec (.blockEvent .line xs bands) s = .next t ∧ t.ccu.line = .connected ∧ t.pump.mode = .fax ∧
          t.fax.phase = some .setup ∧ t.fax.expect = .caps ∧ t.LoadedT2 .faxReply 3000 .none ∧
          SameBut ([.level, .line, .call, .ccuRest, .detectors, .pump, .fax, .notices .panel] ++ allTimers) s t)) ∧
    (s.ccu.call.job = .voice → s.ccu.call.farEndRinging = true → b.present s 0 = false →
      (s.settings.silenceLevel ≤ b.whole → 9 ≤ s.tone.voiceBlocks →
        ∃ t, exec (.blockEvent .line xs bands) s = .next t ∧ t.ccu.line = .connected ∧ t.timers.e2.mode = .off ∧
          (∀ p, t.Noticed p .callState) ∧
          SameBut ([.level, .line, .ccuRest, .detectors, .notices .panel] ++ allTimers) s t) ∧
      (s.settings.silenceLevel ≤ b.whole → s.tone.voiceBlocks < 9 →
        ∃ t, exec (.blockEvent .line xs bands) s = .next t ∧ t.tone.voiceBlocks = s.tone.voiceBlocks + 1 ∧
          SameBut ([.level, .detectors] ++ allTimers) s t) ∧
      (b.whole < s.settings.silenceLevel →
        ∃ t, exec (.blockEvent .line xs bands) s = .next t ∧ t.tone.voiceBlocks = 0 ∧
          SameBut ([.level, .detectors] ++ allTimers) s t)) ∧
    (∀ j, j = s.tone.classifier.judge s.settings.cadence (b.present s 0) →
      (j.2 = some .busy ∨ j.2 = some .congestion → s.ccu.call.active = true → s.ccu.ending = none →
        ∃ t, exec (.blockEvent .line xs bands) s = .next t ∧ CallEnded [.timer 7] s t .busy) ∧
      ((s.ccu.call.job = .voice ∧ s.ccu.call.farEndRinging = false) ∨
          (s.ccu.call.job ≠ .voice ∧ b.present s 3 = false) →
        (j.2 = some .ringback →
          ∃ t, exec (.blockEvent .line xs bands) s = .next t ∧ t.tone.classifier = j.1 ∧
            t.ccu.call = { s.ccu.call with farEndRinging := true } ∧ SameBut ([.level, .call, .detectors] ++ allTimers) s t) ∧
        (j.2 = none →
          ∃ t, exec (.blockEvent .line xs bands) s = .next t ∧ t.tone.classifier = j.1 ∧
            SameBut ([.level, .detectors] ++ allTimers) s t)))) ∧
  (∀ (xs : List Sample) (bands : List (List Sample)) (b : ToneBlock) (i : DialItem) (s : State),
    s.LineBlockCloses xs bands b → s.rau.discr = none → s.ccu.line = .seizing → s.ccu.t2Use = .dialToneWait →
    (s.tone.classifier.judge s.settings.cadence (b.present s 0)).2 = some .dial → s.dialItems[0]? = some i →
    ∃ t, exec (.blockEvent .line xs bands) s = .next t ∧ t.ccu.line = .dialing ∧ t.ccu.dialler.cursor = 0 ∧
      s.ItemStarted t (some i) ∧ t.tone.classifier = .zero ∧ (∀ p, t.Noticed p .callState) ∧
      SameBut ([.level, .line, .ccuRest, .detectors, .notices .panel] ++ allTimers ++ itemParts (some i)) s t) ∧
  (∀ (xs : List Sample) (bands : List (List Sample)) (b : ToneBlock) (s : State),
    s.LineBlockCloses xs bands b → s.rau.discr = none → s.ccu.line = .dialing → s.ccu.dialler.item = .waiting →
    (s.tone.classifier.judge s.settings.cadence (b.present s 0)).2 = some .dial →
    ∃ t, exec (.blockEvent .line xs bands) s = .next t ∧ t.ccu.dialler.cursor = s.ccu.dialler.cursor + 1 ∧
      s.ItemStarted t s.dialItems[s.ccu.dialler.cursor + 1]? ∧ t.tone.classifier = .zero ∧
      SameBut ([.level, .ccuRest, .detectors] ++ allTimers ++ itemParts s.dialItems[s.ccu.dialler.cursor + 1]?) s t)

/-- R90, R91, R92, R94, R95, R137, R140: an error of a running feed joins the window's accumulator, which saturates; the 256th
symbol closes the window: it gives 47 less the log code of its mean error, moves the average of a tracking feed, and is
counted and reported to the master that holds the call where it is overloaded; at a Data Pump outside its phase DATA
(RungsChanged says what it does in DATA) as at the Fax Engine it is reported to the call and begins afresh; a receiver's check
notes an overload, and its page counts the window. A window that was full when its feed was stopped still closes and is
reported, and takes no part in the windows of a feed started since; that it waits aside, the oldest closing first, is an
inference (log 49). -/
def Obligations.WindowsMeasured : Prop :=
  ∀ s : State,
    (∀ e : U16, s.power.retention = false → s.level.feed ≠ .off → s.level.window.symbols < 256 →
      ∃ t, exec (.decisionError e) s = .next t ∧
        (s.level.window.acc + e.toNat ≤ 1048575 → t.level = { s.level with
          window := { s.level.window with acc := s.level.window.acc + e.toNat,
                                          symbols := s.level.window.symbols + 1 } }) ∧
        (1048575 < s.level.window.acc + e.toNat → t.level = { s.level with
          window := { s.level.window with acc := 1048575, saturated := true,
                                          symbols := s.level.window.symbols + 1 } }) ∧
        SameBut [.level] s t) ∧
    (∀ c : ClosingWindow, s.ClosesWindow c →
      ∃ t, exec .qualityWindowClose s = .next t ∧ s.level.Closed t.level c ∧
        (c.window.saturated = true → ∀ p : Port, s.holder = some p.party → t.Noticed p .qualityAlert)) ∧
    (∀ (c : ClosingWindow) (q : Nat), q = 47 - logCode (c.window.acc / 256) → s.ClosesWindow c →
      ¬(s.pump.mode = .data ∧ s.pump.phase = .data) →
      ∃ t, exec .qualityWindowClose s = .next t ∧
        (s.level.closing = [] →
          t.level.window = ⟨0, 0, false, if c.window.saturated = true then bump 255 c.window.overloadRun else 0⟩ ∧
          t.level.closing = [] ∧ (c.feed = .training → t.level.trainingQ = some q)) ∧
        (∀ rest, s.level.closing = c :: rest →
          t.level.window = s.level.window ∧ t.level.closing = rest ∧ t.level.trainingQ = s.level.trainingQ) ∧
        t.level.feed = s.level.feed ∧
        t.ccu.call = (if s.ccu.call.active = true ∧ s.ccu.ending = none then { s.ccu.call with lastQuality := some q }
          else s.ccu.call) ∧
        (s.pump.mode = .fax → s.fax.role = some .receiver → s.fax.phase = some .check →
          t.fax = { s.fax with checkOverloaded := s.fax.checkOverloaded || c.window.saturated }) ∧
        (s.pump.mode = .fax → s.fax.role = some .receiver → s.fax.phase = some .page →
          t.fax = { s.fax with
            windows := bump 65535 s.fax.windows,
            badWindows := if 8 * q < s.fall (s.fax.rung.getD 0) then bump 65535 s.fax.badWindows
                          else s.fax.badWindows }) ∧
        SameBut ([.level, .call, .notices .panel] ++ if s.pump.mode = .fax then [.fax] else []) s t)

/-! ### The Data Pump (Chapter 6) -/

/-- R91, R92, R95, R104 to R108: in DATA the pump judges a window that is not the second overloaded one in a row: four figures
below Fall in a row change the rung down, sixteen at or above Rise change it up, within the negotiated bounds; at the floor,
and after two overloaded windows in a row, it retrains; its fourth retrain without 30 s of stability ends the call. The Level
Meter closes the window in each case, and a change of the rung and a retrain are noticed to the master that holds the call.
Rate changes and retrains go on as the far end asks for them and as they end. -/
def Obligations.RungsChanged : Prop :=
  (∀ (a : Nat) (s : State), s.level.feed = .tracking → s.level.closing = [] → s.level.window.symbols = 256 →
    s.pump.mode = .data → s.pump.phase = .data →
    (s.level.average.map (fun x => trackAverage x (47 - logCode (s.level.window.acc / 256)))).getD 0 = a →
    (s.level.window.saturated = false ∨ s.level.window.overloadRun = 0 →
      (s.fall (s.pump.rung.getD 0) ≤ a ∨ s.pump.below < 3 →
        (a < s.rise (s.pump.rung.getD 0) ∨ s.pump.above < 15 ∨ s.pump.negCeiling.getD 7 ≤ s.pump.rung.getD 0 →
          ∃ t, exec .qualityWindowClose s = .next t ∧ t.pump.phase = .data ∧ t.pump.rung = s.pump.rung ∧
            t.pump.below = (if a < s.fall (s.pump.rung.getD 0) then s.pump.below + 1 else 0) ∧
            t.pump.above = (if s.rise (s.pump.rung.getD 0) ≤ a then bump 16 s.pump.above else 0) ∧
            t.level.feed = .tracking ∧ t.level.closing = [] ∧
            t.level.window =
              ⟨0, 0, false, if s.level.window.saturated = true then bump 255 s.level.window.overloadRun else 0⟩ ∧
            s.level.Closed t.level ⟨.tracking, s.level.window⟩ ∧
            (s.level.window.saturated = true → ∀ p : Port, s.holder = some p.party → t.Noticed p .qualityAlert) ∧
            SameBut [.level, .call, .pump, .notices .panel] s t) ∧
        (s.rise (s.pump.rung.getD 0) ≤ a → 15 ≤ s.pump.above → s.pump.rung.getD 0 < s.pump.negCeiling.getD 7 →
          ∃ t, exec .qualityWindowClose s = .next t ∧ t.pump.phase = .rateChange ∧
            t.pump.request = .rate (s.pump.rung.getD 0 + 1) ∧ t.pump.confirmed = false ∧ t.link.paused = true ∧
            t.level.feed = .off ∧ t.level.window = .zero ∧ s.level.Closed t.level ⟨.tracking, s.level.window⟩ ∧
            (∀ p : Port, s.holder = some p.party → t.Noticed p .rateChange) ∧
            SameBut [.level, .call, .ccuRest, .pump, .link, .timer 2, .timer 3, .timer 4, .notices .panel] s t)) ∧
      (a < s.fall (s.pump.rung.getD 0) → 3 ≤ s.pump.below → s.pump.negFloor.getD 0 < s.pump.rung.getD 0 →
        ∃ t, exec .qualityWindowClose s = .next t ∧ t.pump.phase = .rateChange ∧
          t.pump.request = .rate (s.pump.rung.getD 0 - 1) ∧ t.pump.confirmed = false ∧ t.pump.rung = s.pump.rung ∧
          t.pump.below = 0 ∧ t.pump.above = 0 ∧ t.level.feed = .off ∧ t.level.window = .zero ∧
          s.level.Closed t.level ⟨.tracking, s.level.window⟩ ∧ t.link.paused = true ∧ t.link.tx = .idleFill ∧
          t.timers.e2.mode = .off ∧ t.timers.e3.mode = .off ∧ t.timers.e4.mode = .off ∧
          (∀ p : Port, s.holder = some p.party → t.Noticed p .rateChange) ∧
          SameBut [.level, .call, .ccuRest, .pump, .link, .timer 2, .timer 3, .timer 4, .notices .panel] s t)) ∧
    ((s.level.window.saturated = true ∧ 1 ≤ s.level.window.overloadRun) ∨
        (a < s.fall (s.pump.rung.getD 0) ∧ 3 ≤ s.pump.below ∧ s.pump.rung.getD 0 ≤ s.pump.negFloor.getD 0) →
      (s.pump.retrains < 3 →
        ∃ t, exec .qualityWindowClose s = .next t ∧ t.pump.phase = .retrain ∧ t.pump.request = .retrain ∧
          t.pump.retrains = s.pump.retrains + 1 ∧ t.level.feed = .off ∧ t.level.window = .zero ∧
          s.level.Closed t.level ⟨.tracking, s.level.window⟩ ∧ t.link.paused = true ∧
          (∀ p : Port, s.holder = some p.party → t.Noticed p .rateChange) ∧
          t.timers.e4.Runs .dpu s.settings.carrierLossMs (.block .line s.settings.carrierLevel) ∧
          SameBut [.level, .call, .ccuRest, .pump, .link, .timer 2, .timer 3, .timer 4, .notices .panel] s t) ∧
      (3 ≤ s.pump.retrains → s.ccu.call.active = true → s.ccu.ending = none →
        ∃ t, exec .qualityWindowClose s = .next t ∧
          CallEnded [] { s with ccu.call.lastQuality := some (47 - logCode (s.level.window.acc / 256)) } t
            .lineTooNoisy))) ∧
  (∀ s : State,
    (∀ m : Byte, s.pump.phase = .data →
      ∃ t, exec (.farEndRateRequest m) s = .next t ∧ t.pump.phase = .rateChange ∧ t.pump.confirmed = true ∧
        t.pump.rung = some (s.pump.clampRung m.toNat) ∧ t.pump.request = .rate (s.pump.clampRung m.toNat) ∧
        t.level.feed = .off ∧ t.level.window = .zero ∧ t.link.paused = true ∧ t.timers.e2.mode = .off ∧
        t.timers.e4.mode = .off ∧ (∀ p : Port, s.holder = some p.party → t.Noticed p .rateChange) ∧
        SameBut [.level, .call, .ccuRest, .pump, .link, .timer 2, .timer 3, .timer 4, .notices .panel] s t) ∧
    (∀ (n : Nat) (m : Byte), s.pump.phase = .rateChange → s.pump.request = .rate n → s.pump.confirmed = false →
      (∃ t, exec (.farEndRateRequest m) s = .next t ∧
        t.pump = { s.pump with request := .rate (s.pump.clampRung (min n m.toNat)),
                               rung := some (s.pump.clampRung (min n m.toNat)), confirmed := true } ∧
        SameBut [.pump] s t) ∧
      (∃ t, exec .rateConfirmReceived s = .next t ∧ t.pump = { s.pump with rung := some n, confirmed := true } ∧
        SameBut [.pump] s t)) ∧
    (s.pump.phase = .data ∨ s.pump.phase = .rateChange → s.pump.retrains < 3 →
      ∃ t, exec .farEndRetrainRequest s = .next t ∧ t.pump.phase = .retrain ∧ t.pump.retrains = s.pump.retrains + 1 ∧
        t.pump.request = .none ∧ t.pump.stage = .symbols ∧ t.level.feed = .training ∧ t.level.window = .zero ∧
        (∀ p : Port, s.holder = some p.party → t.Noticed p .rateChange) ∧
        (s.pump.phase = .data → t.link.paused = true ∧ t.timers.e3.mode = .off) ∧ t.timers.e2.mode = .off ∧
        t.timers.e4.Runs .dpu s.settings.carrierLossMs (.block .line s.settings.carrierLevel) ∧
        SameBut [.level, .call, .ccuRest, .pump, .link, .timer 2, .timer 3, .timer 4, .notices .panel] s t) ∧
    (s.pump.phase = .data ∨ s.pump.phase = .rateChange → 3 ≤ s.pump.retrains → s.ccu.call.active = true →
      s.ccu.ending = none →
      ∃ t, exec .farEndRetrainRequest s = .next t ∧ CallEnded [] s t .lineTooNoisy) ∧
    (s.pump.phase = .rateChange → s.pump.confirmed = false →
      (s.pump.retrains < 3 →
        ∃ t, exec .rateConfirmTimeout s = .next t ∧ t.pump.phase = .retrain ∧ t.pump.request = .retrain ∧
          t.pump.retrains = s.pump.retrains + 1 ∧ (∀ p : Port, s.holder = some p.party → t.Noticed p .rateChange) ∧
          SameBut [.level, .call, .ccuRest, .pump, .timer 2, .timer 4, .notices .panel] s t) ∧
      (3 ≤ s.pump.retrains → s.ccu.call.active = true → s.ccu.ending = none →
        ∃ t, exec .rateConfirmTimeout s = .next t ∧ CallEnded [] s t .lineTooNoisy)) ∧
    (s.pump.phase = .retrain → s.pump.request = .retrain →
      ∃ t, exec .retrainRequestSent s = .next t ∧ t.pump.request = .none ∧ t.pump.stage = .symbols ∧
        t.pump.rung = s.pump.rung ∧ t.level.feed = .training ∧ SameBut [.pump, .level] s t) ∧
    (s.DueT2 .stable → s.pump.phase = .data →
      ∃ t, exec .retrainStableExpiry s = .next t ∧ t.pump = { s.pump with retrains := 0 } ∧
        SameBut [.pump, .timer 2] s t))

/-- R93, R95, R101, R102: HANDSHAKE: the answer tone ends; what the far end says is noted, its maximum held to 7; with both of
its signals, and the answer tone at its end, the training begins at the smaller of the two ceilings. A training: its 1024th
symbol sets the average to eight times the last window's figure, that of a full window still to close where there is one,
which is put aside with the feed's stop (log 49), and gives the pump's own verdict; the far end's verdict is noted; a failed
exchange steps the rung down, or ends the call at the floor. That an answerer does not complete while its tone sounds is an
inference (log 24). -/
def Obligations.HandshakeAndTraining : Prop :=
  (∀ s : State, s.pump.phase = .handshake →
    (s.pump.heardMax = none ∨ s.pump.heardAck = false →
      ∃ t, exec .answerToneEnd s = .next t ∧ t.pump = { s.pump with answerTone := false } ∧ SameBut [.pump] s t) ∧
    (∀ r : Byte, s.pump.heardAck = false ∨ s.pump.answerTone = true →
      ∃ t, exec (.handshakeSignalReceived (.maximum r)) s = .next t ∧
        t.pump = { s.pump with heardMax := some (min 7 r.toNat) } ∧ SameBut [.pump] s t) ∧
    (s.pump.heardMax = none ∨ s.pump.answerTone = true →
      ∃ t, exec (.handshakeSignalReceived .acknowledge) s = .next t ∧ t.pump = { s.pump with heardAck := true } ∧
        SameBut [.pump] s t) ∧
    (∀ (c : Instr) (m : Nat),
      (c = .answerToneEnd ∧ s.pump.heardMax = some m ∧ s.pump.heardAck = true) ∨
        (c = .handshakeSignalReceived .acknowledge ∧ s.pump.heardMax = some m ∧ s.pump.answerTone = false) ∨
        (∃ r : Byte, c = .handshakeSignalReceived (.maximum r) ∧ m = min 7 r.toNat ∧ s.pump.heardAck = true ∧
          s.pump.answerTone = false) →
      ∃ t, exec c s = .next t ∧ t.pump.phase = .training ∧
        t.pump.stage = .symbols ∧ t.pump.peerMax = some m ∧ t.pump.negCeiling = some (min s.pump.localCeiling m) ∧
        t.pump.negFloor = some (min s.pump.localFloor (min s.pump.localCeiling m)) ∧
        t.pump.rung = some (min s.pump.localCeiling m) ∧ t.pump.below = 0 ∧ t.pump.above = 0 ∧
        t.level.feed = .training ∧ t.level.trainingQ = none ∧ t.pump.role = s.pump.role ∧
        (s.ccu.call.active = true → s.ccu.ending = none →
          t.ccu.call = { s.ccu.call with phase := some (.pump .training) }) ∧
        SameBut [.pump, .level, .call] s t)) ∧
  (∀ s : State, s.pump.phase = .training ∨ s.pump.phase = .retrain →
    (∀ q : Nat, s.pump.stage = .symbols →
      (s.level.windowFull = false ∧ q = s.level.trainingQ.getD 0) ∨
        (s.level.windowFull = true ∧ q = 47 - logCode (s.level.window.acc / 256)) →
      ∃ t, exec .trainingSymbolsEnd s = .next t ∧ t.level.average = some (8 * q) ∧ t.level.feed = .off ∧
        t.level.window = .zero ∧
        t.level.closing = s.level.closing ++
          (if s.level.windowFull = true then [⟨s.level.feed, s.level.window⟩] else []) ∧
        t.pump.stage = .verdicts ∧ (t.pump.ownAccept = true ↔ s.fall (s.pump.rung.getD 0) ≤ 8 * q) ∧
        t.pump.rung = s.pump.rung ∧ SameBut [.pump, .level] s t) ∧
    (s.pump.stage = .verdicts →
      (∀ v : Bool, ∃ t, exec (.farEndVerdictReceived v) s = .next t ∧ t.pump = { s.pump with farAccept := some v } ∧
        SameBut [.pump] s t) ∧
      (¬(s.pump.ownAccept = true ∧ s.pump.farAccept = some true) → s.pump.negFloor.getD 0 < s.pump.rung.getD 0 →
        ∃ t, exec .verdictExchangeEnd s = .next t ∧ t.pump.rung = some (s.pump.rung.getD 0 - 1) ∧
          t.pump.phase = s.pump.phase ∧ t.pump.stage = .symbols ∧ t.level.feed = .training ∧
          (s.ccu.call.active = true → s.ccu.ending = none → t.ccu.call.rung = some (s.pump.rung.getD 0 - 1)) ∧
          SameBut [.pump, .level, .call] s t) ∧
      (¬(s.pump.ownAccept = true ∧ s.pump.farAccept = some true) → s.pump.rung.getD 0 ≤ s.pump.negFloor.getD 0 →
        s.ccu.call.active = true → s.ccu.ending = none →
        ∃ t, exec .verdictExchangeEnd s = .next t ∧ CallEnded [] s t .lineTooNoisy)))

/-- R103, R108, R109, R114, R123: the entry to DATA, after two accepting verdicts or a confirmed rate change. T4 watches the
carrier, T2 runs the 30 s of stability, the feed tracks; at the first entry of the call the link setup begins, at a later one
the paused link goes on: LINKED sends its window again, SETUP its request, DIRECT its next byte. -/
def Obligations.DataEntered : Prop :=
  ∀ (c : Instr) (s : State), s.pump.mode = .data →
    ((c = .verdictExchangeEnd ∧ (s.pump.phase = .training ∨ s.pump.phase = .retrain) ∧ s.pump.stage = .verdicts ∧
        s.pump.ownAccept = true ∧ s.pump.farAccept = some true) ∨
      (c = .resyncEnd ∧ s.pump.phase = .rateChange ∧ s.pump.confirmed = true)) →
    (s.pump.linkStarted = false → s.settings.linkPolicy ≠ .directOnly →
      ∃ t, exec c s = .next t ∧ t.pump.phase = .data ∧ t.pump.linkStarted = true ∧ t.pump.rung = s.pump.rung ∧
        t.pump.request = .none ∧ t.level.feed = .tracking ∧ t.LoadedT2 .stable 30000 .none ∧
        t.timers.e4.Runs .dpu s.settings.carrierLossMs (.block .line s.settings.carrierLevel) ∧
        t.link.mode = .setup ∧ t.link.reqDue = true ∧ t.link.attempts = 1 ∧ t.link.policy = s.settings.linkPolicy ∧
        t.link.offer = (s.settings.linkWindow, roundPayload s.settings.linkPayload) ∧ t.timers.e3.Runs .lke 1000 .none ∧
        SameBut [.call, .ccuRest, .pump, .level, .link, .timer 2, .timer 3, .timer 4] s t) ∧
    (s.pump.linkStarted = false → s.settings.linkPolicy = .directOnly →
      ∃ t, exec c s = .next t ∧ t.pump.phase = .data ∧ t.link.mode = .direct ∧
        (t.sys.data = true ∨ t.sys.entryDue = true) ∧
        SameBut [.call, .ccuRest, .pump, .level, .link, .timer 2, .timer 3, .timer 4, .timer 5, .systemPort,
          .notices .panel] s t) ∧
    (s.pump.linkStarted = true → s.link.mode = .linked →
      ∃ t, exec c s = .next t ∧ t.pump.phase = .data ∧ t.level.feed = .tracking ∧ t.link.paused = false ∧
        (s.link.window ≠ [] → t.link.resendMark = some s.link.va ∧ t.timers.e3.Runs .lke s.settings.linkTimerMs .none) ∧
        (s.link.window = [] → t.link.resendMark = s.link.resendMark ∧ t.timers.e3 = s.timers.e3) ∧
        t.link.window = s.link.window ∧ t.link.vs = s.link.vs ∧
        SameBut [.call, .ccuRest, .pump, .level, .link, .timer 2, .timer 3, .timer 4] s t) ∧
    (s.pump.linkStarted = true → s.link.mode = .setup →
      ∃ t, exec c s = .next t ∧ t.pump.phase = .data ∧ t.level.feed = .tracking ∧ t.link.mode = .setup ∧
        t.link.paused = false ∧ t.link.reqDue = true ∧ t.link.attempts = s.link.attempts ∧ t.link.offer = s.link.offer ∧
        t.timers.e3.Runs .lke 1000 .none ∧
        SameBut [.call, .ccuRest, .pump, .level, .link, .timer 2, .timer 3, .timer 4] s t) ∧
    (s.pump.linkStarted = true → s.link.mode = .direct →
      ∃ t, exec c s = .next t ∧ t.pump.phase = .data ∧ t.level.feed = .tracking ∧
        t.link = { s.link with paused := false } ∧
        SameBut [.call, .ccuRest, .pump, .level, .link, .timer 2, .timer 4] s t)

/-! ### The Link Engine (Chapter 7) -/

/-- R114, R115, R123: link setup. A LINK_REQ is answered with a LINK_CONF; a LINK_CONF received or sent brings LINKED with the
smaller of each quantity; three unanswered requests bring DIRECT, or the end of the call under REQUIRE. LINKED and DIRECT are
noticed to the master that holds the call. While the link is paused T3 is not loaded for the next request. That of two
LINK_REQs the later one's values are negotiated on, also while the LINK_CONF to the earlier leaves, is the model's choice (log
50). -/
def Obligations.LinkSetUp : Prop :=
  ∀ s : State, s.link.mode = .setup →
    (s.timers.e3.Due → s.link.attempts < 3 →
      ∃ t, exec .linkReqTimerExpiry s = .next t ∧ t.link.reqDue = true ∧ t.link.attempts = s.link.attempts + 1 ∧
        (s.link.paused = false → t.timers.e3.Runs .lke 1000 .none) ∧
        (s.link.paused = true → s.timers.e3.mode = .off → t.timers.e3.mode = .off) ∧ SameBut [.link, .timer 3] s t) ∧
    (s.timers.e3.Due → 3 ≤ s.link.attempts → s.link.policy ≠ .require →
      ∃ t, exec .linkReqTimerExpiry s = .next t ∧ t.link.mode = .direct ∧ t.timers.e3.mode = .off ∧
        (t.sys.data = true ∨ t.sys.entryDue = true) ∧
        (∀ p : Port, s.holder = some p.party → t.Noticed p .linkState) ∧
        SameBut [.link, .timer 3, .timer 5, .systemPort, .notices .panel] s t) ∧
    (s.timers.e3.Due → 3 ≤ s.link.attempts → s.link.policy = .require → s.ccu.call.active = true →
      s.ccu.ending = none → ∃ t, exec .linkReqTimerExpiry s = .next t ∧ CallEnded [] s t .noLink) ∧
    (∀ w p : Byte, s.link.paused = false →
      (∃ t, exec (.linkReqReceived w p) s = .next t ∧ t.link.confDue = true ∧ t.link.confSetup = true ∧
        t.link.peerOffer = (w.toNat, p.toNat) ∧
        t.link.mode = .setup ∧ t.link.stats = { s.link.stats with good := bump 65535 s.link.stats.good } ∧
        SameBut [.link, .stats] s t) ∧
      (∃ t, exec (.linkConfReceived w p) s = .next t ∧ t.link.mode = .linked ∧
        t.link.windowSize = min s.link.offer.1 (clamp 1 7 w.toNat) ∧
        t.link.payloadSize = min s.link.offer.2 (roundPayload p.toNat) ∧ t.link.vs = 0 ∧ t.link.vr = 0 ∧
        t.timers.e3.mode = .off ∧ (t.sys.data = true ∨ t.sys.entryDue = true) ∧ (∀ p : Port, s.holder = some p.party → t.Noticed p .linkState) ∧
        SameBut [.link, .stats, .timer 3, .timer 5, .systemPort, .notices .panel] s t)) ∧
    (∀ w p : Nat, s.link.tx = .link (.linkConf w p) →
      ∃ t, exec .linkConfSent s = .next t ∧ t.link.mode = .linked ∧
        t.link.windowSize = min s.link.offer.1 (clamp 1 7 s.link.peerOffer.1) ∧
        t.link.payloadSize = min s.link.offer.2 (roundPayload s.link.peerOffer.2) ∧ t.link.tx = .idleFill ∧
        t.timers.e3.mode = .off ∧ (t.sys.data = true ∨ t.sys.entryDue = true) ∧ (∀ p : Port, s.holder = some p.party → t.Noticed p .linkState) ∧
        SameBut [.link, .timer 3, .timer 5, .systemPort, .notices .panel] s t)

/-- R116, R119, R120, R121, R122, R124: frames of the far end. An acknowledgment in range removes the frames below it from the
window and reloads T3, or stops it once the window is empty; an expiry that T3 had before it does not happen then; one out of
range is ignored, but for an ACK's busy flag; a REJECT also sets the resend mark. A frame with a bad CRC is counted; a byte of
DIRECT joins the inbound queue or is counted as lost. A DATA frame in sequence joins the inbound queue, or is refused while
there is no room; a repeated one is acknowledged again; one ahead of its turn is rejected once. -/
def Obligations.LineFramesTaken : Prop :=
  (∀ s : State,
    (∀ (n : BitVec 4) (busy : Bool), s.link.mode = .linked → s.link.paused = false →
      (s.link.ackInRange n.toNat = true → s.link.ackDistance n.toNat ≠ 0 →
        ∃ t, exec (.ackReceived n busy) s = .next t ∧ t.link.peerBusy = busy ∧ t.link.retries = 0 ∧
          t.link.window = s.link.window.drop (s.link.ackDistance n.toNat) ∧
          (s.link.window.length = s.link.ackDistance n.toNat →
            t.timers.e3.mode = .off ∧ t.timers.e3.signalA = false) ∧
          (s.link.ackDistance n.toNat < s.link.window.length →
            t.timers.e3.Runs .lke s.settings.linkTimerMs .none ∧ t.timers.e3.signalA = false) ∧
          t.link.stats = { s.link.stats with good := bump 65535 s.link.stats.good } ∧
          SameBut [.link, .stats, .timer 3] s t) ∧
      (s.link.ackInRange n.toNat = false ∨ s.link.ackDistance n.toNat = 0 →
        ∃ t, exec (.ackReceived n busy) s = .next t ∧ t.link.peerBusy = busy ∧ t.link.window = s.link.window ∧
          t.link.resendMark = s.link.resendMark ∧ t.link.retries = s.link.retries ∧
          SameBut [.link, .stats] s t) ∧
      (s.link.ackInRange n.toNat = true →
        ∃ t, exec (.rejectReceived n) s = .next t ∧
          t.link.window = s.link.window.drop (s.link.ackDistance n.toNat) ∧
          (n.toNat ≠ s.link.vs → t.link.resendMark = some n.toNat) ∧
          t.link.stats.rejectsReceived = bump 65535 s.link.stats.rejectsReceived ∧
          SameBut [.link, .stats, .timer 3] s t) ∧
      (s.link.ackInRange n.toNat = false →
        ∃ t, exec (.rejectReceived n) s = .next t ∧
          t.link.stats = { s.link.stats with good := bump 65535 s.link.stats.good } ∧ SameBut [.stats] s t)) ∧
    (∀ run : List Byte, s.link.framed → 3 ≤ run.length → endsInEscape false run = false →
      crcIntact (unescapeFrom false run) = false →
      ∃ t, exec (.invalidLinkFrame run) s = .next t ∧
        t.link.stats = { s.link.stats with crcErrors := bump 65535 s.link.stats.crcErrors } ∧ SameBut [.stats] s t) ∧
    (∀ run : List Byte, run.length < 3 ∨ endsInEscape false run = true →
      ∃ t, exec (.invalidLinkFrame run) s = .next t ∧ SameBut [] s t) ∧
    (∀ b : Byte, s.link.mode = .direct → s.link.paused = false →
      (s.link.inbound.length < 1024 →
        ∃ t, exec (.directByteReceived b) s = .next t ∧ t.link.inbound = s.link.inbound ++ [b] ∧
          (s.link.ownBusy = false → t.link.inboundFree < 256 → t.link.ownBusy = true) ∧
          (s.link.ownBusy = false → 256 ≤ t.link.inboundFree → t.link.ownBusy = false) ∧
          SameBut [.inbound, .link] s t) ∧
      (1024 ≤ s.link.inbound.length →
        ∃ t, exec (.directByteReceived b) s = .next t ∧
          t.link.stats = { s.link.stats with lost := bump 65535 s.link.stats.lost } ∧ SameBut [.stats] s t))) ∧
  (∀ (seq ack : BitVec 4) (payload : List Byte) (s : State), s.link.mode = .linked → s.link.paused = false →
    s.link.validPayload payload → s.link.ackInRange ack.toNat = false ∨ s.link.ackDistance ack.toNat = 0 →
    s.link.vr < 16 →
    (seq.toNat = s.link.vr → payload.length ≤ s.link.inboundFree →
      ∃ t, exec (.dataFrameReceived seq ack payload) s = .next t ∧ t.link.inbound = s.link.inbound ++ payload ∧
        t.link.vr = (s.link.vr + 1) % 16 ∧ t.link.rejectFlag = false ∧ t.link.ackOwed = true ∧
        (s.link.ownBusy = false → t.link.inboundFree < 256 → t.link.ownBusy = true ∧ t.link.busyAckOwed = true) ∧
        (s.link.ownBusy = false → 256 ≤ t.link.inboundFree → t.link.ownBusy = false) ∧
        t.link.stats = { s.link.stats with good := bump 65535 s.link.stats.good } ∧
        SameBut [.link, .inbound, .stats] s t) ∧
    (seq.toNat = s.link.vr → s.link.inboundFree < payload.length →
      ∃ t, exec (.dataFrameReceived seq ack payload) s = .next t ∧ t.link.busyAckOwed = true ∧
        t.link.vr = s.link.vr ∧ SameBut [.link, .stats] s t) ∧
    ((∃ k, 1 ≤ k ∧ k ≤ 7 ∧ (seq.toNat + k) % 16 = s.link.vr) →
      ∃ t, exec (.dataFrameReceived seq ack payload) s = .next t ∧ t.link.ackOwed = true ∧ t.link.vr = s.link.vr ∧
        t.link.rejectOwed = s.link.rejectOwed ∧ SameBut [.link, .stats] s t) ∧
    ((∃ k, 8 ≤ k ∧ k ≤ 15 ∧ (seq.toNat + k) % 16 = s.link.vr) →
      ∃ t, exec (.dataFrameReceived seq ack payload) s = .next t ∧ t.link.rejectFlag = true ∧ t.link.vr = s.link.vr ∧
        (s.link.rejectFlag = false → t.link.rejectOwed = true ∧
          t.link.stats.rejectsSent = bump 65535 s.link.stats.rejectsSent) ∧
        (s.link.rejectFlag = true → t.link.rejectOwed = s.link.rejectOwed ∧
          t.link.stats.rejectsSent = s.link.stats.rejectsSent) ∧
        SameBut [.link, .stats] s t))

/-- R114, R115, R117, R118, R120, R124, R125, R127: what the transmitter is given next, by mode and rank; idle fill where
nothing is to be sent. A LINK_CONF goes first, with the 2814's offer to a LINK_REQ taken in SETUP and the negotiated values to
one taken in LINKED. CTS follows the outbound queue in the data state. The idle fill in DIRECT is the model's choice (log 50).
-/
def Obligations.TransmitterChooses : Prop :=
  ∀ s : State, s.link.paused = false →
    (s.link.mode = .setup ∨ s.link.mode = .linked → s.link.confDue = true →
      ∃ t, exec .transmitterReady s = .next t ∧
        t.link.tx = .link (if s.link.confSetup = true then .linkConf s.link.offer.1 s.link.offer.2
          else .linkConf s.link.windowSize s.link.payloadSize) ∧
        t.link.confDue = false ∧ t.link.reqDue = s.link.reqDue ∧ t.link.rejectOwed = s.link.rejectOwed ∧
        t.link.ackOwed = s.link.ackOwed ∧
        t.link.stats = { s.link.stats with sent := bump 65535 s.link.stats.sent } ∧ SameBut [.link, .stats] s t) ∧
    ((s.link.mode = .setup ∧ s.link.confDue = false ∧ s.link.reqDue = false) ∨
        (s.link.mode = .clearing ∧ s.link.clearOwed = false) ∨ (s.link.mode = .direct ∧ s.link.outbound = []) →
      ∃ t, exec .transmitterReady s = .next t ∧ t.link.tx = .idleFill ∧ SameBut [.link] s t) ∧
    (s.link.mode = .setup → s.link.confDue = false → s.link.reqDue = true →
      ∃ t, exec .transmitterReady s = .next t ∧ t.link.tx = .link (.linkReq s.link.offer.1 s.link.offer.2) ∧
        t.link.reqDue = false ∧ t.link.stats = { s.link.stats with sent := bump 65535 s.link.stats.sent } ∧
        SameBut [.link, .stats] s t) ∧
    (s.link.mode = .clearing → s.link.clearOwed = true →
      ∃ t, exec .transmitterReady s = .next t ∧ t.link.tx = .link .clear ∧ t.link.clearOwed = false ∧
        SameBut [.link, .stats] s t) ∧
    (∀ b rest, s.link.mode = .direct → s.link.outbound = b :: rest →
      ∃ t, exec .transmitterReady s = .next t ∧ t.link.tx = .byte b ∧ t.link.outbound = rest ∧
        (s.sys.data = false → t.sys.cts = s.sys.cts) ∧
        (s.sys.data = true → t.sys.cts = (if 768 ≤ rest.length then false else if rest.length ≤ 256 then true
          else s.sys.cts)) ∧
        SameBut [.link, .outbound, .systemPort] s t) ∧
    (s.link.mode = .linked → s.link.confDue = false →
      (s.link.rejectOwed = true →
        ∃ t, exec .transmitterReady s = .next t ∧ t.link.tx = .link (.reject s.link.vr) ∧ t.link.rejectOwed = false ∧
          t.link.ackOwed = false ∧ SameBut [.link, .stats] s t) ∧
      (s.link.rejectOwed = false → s.link.busyAckOwed = true →
        ∃ t, exec .transmitterReady s = .next t ∧ t.link.tx = .link (.ack s.link.vr s.link.ownBusy) ∧
          t.link.busyAckOwed = false ∧ t.link.ackOwed = false ∧ SameBut [.link, .stats] s t) ∧
      (∀ (m : Nat) (f : SentFrame), s.link.rejectOwed = false → s.link.busyAckOwed = false →
        s.link.resendMark = some m → s.link.frameAt m = some f →
        ∃ t, exec .transmitterReady s = .next t ∧ t.link.tx = .link (.data m s.link.vr f.payload) ∧
          t.link.resendMark = (if (m + 1) % 16 = s.link.vs then none else some ((m + 1) % 16)) ∧
          t.link.window = s.link.window ∧ t.link.ackOwed = false ∧
          t.link.stats = { s.link.stats with sent := bump 65535 s.link.stats.sent,
                                             resent := bump 65535 s.link.stats.resent } ∧
          SameBut [.link, .stats] s t) ∧
      (s.link.rejectOwed = false → s.link.busyAckOwed = false → s.link.resendMark = none → s.link.outbound ≠ [] →
        s.link.window.length < s.link.windowSize → s.link.peerBusy = false →
        ∃ t, exec .transmitterReady s = .next t ∧
          t.link.tx = .link (.data s.link.vs s.link.vr (s.link.outbound.take s.link.payloadSize)) ∧
          t.link.outbound = s.link.outbound.drop s.link.payloadSize ∧
          t.link.window = s.link.window ++ [⟨s.link.vs, s.link.outbound.take s.link.payloadSize⟩] ∧
          t.link.vs = (s.link.vs + 1) % 16 ∧ t.link.ackOwed = false ∧
          (s.link.window = [] → t.timers.e3.Runs .lke s.settings.linkTimerMs .none) ∧
          (s.link.window ≠ [] → t.timers.e3 = s.timers.e3) ∧
          SameBut [.link, .stats, .outbound, .timer 3, .systemPort] s t) ∧
      (s.link.rejectOwed = false → s.link.busyAckOwed = false → s.link.resendMark = none →
        s.link.outbound = [] ∨ s.link.windowSize ≤ s.link.window.length ∨ s.link.peerBusy = true →
        ∃ t, exec .transmitterReady s = .next t ∧ t.link.ackOwed = false ∧
          t.link.tx = (if s.link.ackOwed = true then .link (.ack s.link.vr s.link.ownBusy) else .idleFill) ∧
          SameBut [.link, .stats] s t))

/-- R120, R125: the link timer sends the window again and fails the link past its limit; with an empty window nothing is sent
again and a stopped T3 stays stopped. A CLEAR is answered in LINKED, and the end of either clearing ends the call; that a
further CLEAR in a clearing begun by the far end is only counted is the model's choice (log 34). -/
def Obligations.LinkFailsAndClears : Prop :=
  ∀ s : State,
    (s.link.mode = .linked → s.timers.e3.Due →
      (s.link.peerBusy = true ∨ s.link.retries + 1 ≤ s.settings.linkRetryLimit → s.link.retries < 31 →
        s.link.window = [] ∨ s.link.paused = true →
        ∃ t, exec .linkTimerExpiry s = .next t ∧ t.link.window = s.link.window ∧
          (s.link.window = [] → t.link.resendMark = s.link.resendMark) ∧
          (s.link.window ≠ [] → t.link.resendMark = some s.link.va) ∧
          t.link.stats = { s.link.stats with expiries := bump 65535 s.link.stats.expiries } ∧
          (s.timers.e3.mode = .off → t.timers.e3.mode = .off) ∧ SameBut [.link, .stats, .timer 3] s t) ∧
      (s.link.peerBusy = true ∨ s.link.retries + 1 ≤ s.settings.linkRetryLimit → s.link.retries < 31 →
        s.link.window ≠ [] → s.link.paused = false →
        ∃ t, exec .linkTimerExpiry s = .next t ∧ t.link.resendMark = some s.link.va ∧
          t.link.retries = (if s.link.peerBusy = true then s.link.retries else s.link.retries + 1) ∧
          t.link.stats = { s.link.stats with expiries := bump 65535 s.link.stats.expiries } ∧
          t.timers.e3.Runs .lke s.settings.linkTimerMs .none ∧ SameBut [.link, .stats, .timer 3] s t) ∧
      (s.link.peerBusy = false → s.settings.linkRetryLimit ≤ s.link.retries → s.link.retries < 31 →
        s.ccu.call.active = true → s.ccu.ending = none →
        ∃ t, exec .linkTimerExpiry s = .next t ∧ t.ccu.line = .releasing ∧ t.ccu.call.active = false ∧
          t.ccu.call.cause = some .linkFailed ∧ t.link.mode = .off ∧ t.pump = .idle ∧ t.lif.relayClosed = false ∧
          t.LoadedT2 .guard 1500 .none ∧
          t.link.stats = { s.link.stats with expiries := bump 65535 s.link.stats.expiries } ∧
          SameBut (endParts s ++ [.stats]) s t)) ∧
    (s.link.paused = false → s.link.mode = .linked →
      ∃ t, exec .clearReceived s = .next t ∧ t.link.mode = .clearing ∧ t.link.byFarEnd = true ∧
        t.link.clearOwed = true ∧ t.link.window = [] ∧ t.link.outbound = [] ∧ t.timers.e3.mode = .off ∧
        (s.sys.data = true → t.sys.cts = true) ∧
        SameBut [.link, .stats, .outbound, .timer 3, .systemPort] s t) ∧
    (s.link.paused = false → s.link.mode = .clearing → s.link.byFarEnd = true →
      ∃ t, exec .clearReceived s = .next t ∧
        t.link.stats = { s.link.stats with good := bump 65535 s.link.stats.good } ∧ SameBut [.stats] s t) ∧
    (s.link.mode = .clearing → s.ccu.call.active = true →
      (s.link.byFarEnd = true → s.link.tx = .link .clear → s.ccu.ending = none →
        ∃ t, exec .clearReplySent s = .next t ∧ CallEnded [] s t .remoteCleared) ∧
      (s.link.byFarEnd = false → s.timers.e3.Due → s.ccu.ending = none ∨ s.ccu.ending = some .normal →
        ∃ t, exec .clearingWaitExpiry s = .next t ∧ CallEnded [] s t .normal) ∧
      (s.link.byFarEnd = false → s.link.paused = false → s.ccu.ending = none ∨ s.ccu.ending = some .normal →
        ∃ t, exec .clearReceived s = .next t ∧ t.ccu.line = .releasing ∧ t.ccu.call.active = false ∧
          t.ccu.call.cause = some .normal ∧ t.link.mode = .off ∧ t.pump = .idle ∧ t.LoadedT2 .guard 1500 .none ∧
          SameBut (endParts s ++ [.stats]) s t))

/-! ### The automatic answerer and the Voice Engine's own events (Chapters 4 and 9) -/

/-- R50, R76 to R79, R81, R82, R154, R159: a beep of the automatic answerer ends, and its recording or its wait begins; a play
ends: its entry is no longer NEW, its hold is released, and the session goes on, or the beep follows the greeting; where the
store has no room the call is announce-only and ends with STORE_FULL, or becomes a fax receive where a quiet caller is tried
as one. A FAX_CALL recognised on the discriminating call makes it a fax receive, of the system master or, where the setting
sends faxes to the store or READY is not asserted, of the automatic answerer, and ends it with STORE_FULL where the store then
has no room; a DATA_CALL makes it a DATA call of the system master, or ends it where READY is not asserted. Either stops what
the automatic answerer is doing: the hold of a greeting is released, and a recording is discarded without the keep rules. That
the operation record of a beep shows PLAYING is the model's choice (log 47), and so is the order FAX_CALL, DATA_CALL, digit of
the recognitions of one block (log 50); that the row of a play's end acts also before its last byte is its reading (log 15),
and that an id of the session's lists which another entry now has plays that entry is its choice (log 50). -/
def Obligations.PlaysAndBeepsEnd : Prop :=
  (∀ s : State,
    (∀ d : Discrimination, s.voice.op.autoTone → s.rau.discr = some d → d.phase = .beep → s.canCreate = true →
      ∃ t, exec .autoBeepEnd s = .next t ∧ t.rau.discr = some { d with phase := .recording, greeting := none } ∧
        t.voice.op.state = .recording ∧ t.voice.op.user = some .auto ∧ t.voice.op.operation = some .record ∧
        t.voice.op.endpoint = some .line ∧ t.voice.op.kind = some .voiceMsg ∧ t.voice.op.vox = true ∧
        t.voice.op.maxCode = 4000 * s.settings.maxMessageS ∧
        (∃ x : Entry, t.store.dir = s.store.dir ++ [x] ∧ t.voice.op.message = some x.id ∧ x.kind = .voiceMsg ∧
          x.state = .opened ∧ x.callerNumber = s.ccu.call.callerNumber ∧ x.callerName = s.ccu.call.callerName ∧
          x.callNumber = some s.ccu.call.number) ∧
        t.timers.e6.Runs .vce (s.settings.voxTimeoutS * 1000) (.block .line s.settings.silenceLevel) ∧
        SameBut [.voiceOp, .discr, .call, .timer 6, .header, .directory] s t) ∧
    (∀ r : Remote, s.voice.op.autoTone → s.voice.remote = some r → r.state = .prompting →
      ∃ t, exec .promptBeepEnd s = .next t ∧ t.voice.remote = some { r with state := .waiting } ∧
        t.voice.op.state = .idle ∧ t.voice.op.user = some .auto ∧ t.LoadedT2 .inactivity 10000 (.compare 2) ∧
        SameBut [.voiceOp, .remote, .ccuRest, .timer 2] s t) ∧
    (∀ (p : Port) (id : Nat) (e : Entry), s.voice.op.state = .playing → s.voice.op.operation = some .play →
      s.voice.op.user = some p.party → s.voice.op.message = some id → s.store.find id = some e → e.state ≠ .doomed →
      ∃ t, exec .playEnd s = .next t ∧ t.voice.op.state = .idle ∧ t.voice.op.user = none ∧
        t.voice.op.reason = some .ended ∧
        t.store.dir = s.store.dir.map (fun x => if x.id = id then { x with isNew := false, holds := x.holds - 1 } else x) ∧
        t.Noticed p .voiceDone ∧
        SameBut [.voiceOp, .directory, .notices .panel] s t) ∧
    (∀ (id : Nat) (e : Entry) (d : Discrimination), s.voice.op.state = .playing → s.voice.op.operation = some .play →
      s.voice.op.user = some .auto → s.voice.op.message = some id → s.store.find id = some e → e.state ≠ .doomed →
      s.rau.discr = some d → s.storeHasRoom = true →
      ∃ t, exec .playEnd s = .next t ∧ t.rau.discr = some { d with phase := .beep, greeting := none } ∧ t.voice.op.state = .playing ∧
        t.voice.op.operation = some .tone ∧ t.voice.op.user = some .auto ∧ t.voice.op.endpoint = some .line ∧
        t.store.dir = s.store.dir.map (fun x => if x.id = id then { x with isNew := false, holds := x.holds - 1 } else x) ∧
        SameBut [.voiceOp, .discr, .call, .directory] s t) ∧
    (∀ (id : Nat) (e : Entry) (d : Discrimination), s.voice.op.state = .playing → s.voice.op.operation = some .play →
      s.voice.op.user = some .auto → s.voice.op.message = some id → s.store.find id = some e → e.state ≠ .doomed →
      s.rau.discr = some d → s.storeHasRoom = false → s.holder = some .auto → s.ccu.ending = none →
      (d.heard ≠ 0 ∨ s.settings.quietHangsUp = true ∨ s.settings.faxToStore = true ∨ s.sys.ready = false →
        ∃ t, exec .playEnd s = .next t ∧ CallEnded [] s t .storeFull ∧
          t.store.dir =
            s.store.dir.map (fun x => if x.id = id then { x with isNew := false, holds := x.holds - 1 } else x)) ∧
      (d.heard = 0 → s.settings.quietHangsUp = false → s.settings.faxToStore = false → s.sys.ready = true →
        max 2 s.settings.rungFloor ≤ min 7 s.settings.rungCeiling →
        ∃ t, exec .playEnd s = .next t ∧ t.ccu.call.holder = some .system ∧ t.ccu.call.job = .fax ∧ t.rau.discr = none ∧
          t.voice.op.user = none ∧ t.voice.op.operation = none ∧ t.fax.role = some .receiver ∧ t.fax.place = .port ∧
          t.fax.phase = some .setup ∧ t.fax.expect = .set ∧ t.pump.mode = .fax ∧
          t.link.tx = .fax (.caps (min 7 s.settings.rungCeiling) 3 0) ∧ t.LoadedT2 .faxReply 3000 .none ∧
          (∀ p, t.Noticed p .callState) ∧
          t.store.dir =
            s.store.dir.map (fun x => if x.id = id then { x with isNew := false, holds := x.holds - 1 } else x) ∧
          SameBut [.detectors, .discr, .call, .ccuRest, .voiceOp, .pump, .fax, .link, .directory, .timer 2,
            .notices .panel] s t)) ∧
    (∀ (id : Nat) (e : Entry) (r : Remote) (next k : Nat), s.voice.op.state = .playing →
      s.voice.op.operation = some .play → s.voice.op.user = some .auto → s.voice.op.message = some id →
      s.store.find id = some e → e.state ≠ .doomed → s.rau.discr = none → s.voice.remote = some r →
      nextPlayable s.store r.list (r.cursor.getD 0 + 1) = some (next, k) →
      ∃ t, exec .playEnd s = .next t ∧ t.voice.remote = some { r with state := .playing, cursor := some k } ∧
        t.voice.op.state = .playing ∧ t.voice.op.operation = some .play ∧ t.voice.op.user = some .auto ∧
        t.voice.op.message = some next ∧ t.voice.op.offset = 0 ∧ t.timers.e2.mode = .off ∧
        SameBut [.voiceOp, .remote, .directory, .ccuRest, .timer 2] s t)) ∧
  (∀ (xs : List Sample) (bands : List (List Sample)) (b : ToneBlock) (d : Discrimination) (dir : List Entry)
      (free : List Nat) (s : State),
    s.LineBlockMeasured xs bands b → s.ccu.line = .connected → s.holder = some .auto → s.ccu.ending = none →
    s.ccu.call.job = .discriminate → s.rau.discr = some d → s.autoStopped = some (dir, free) →
    (b.present s 1 = true → s.tone.faxCall.run = 24 → max 2 s.settings.rungFloor ≤ min 7 s.settings.rungCeiling →
      (s.settings.faxToStore = false → s.sys.ready = true →
        ∃ t, exec (.blockEvent .line xs bands) s = .next t ∧ t.ccu.call.holder = some .system ∧
          t.ccu.call.job = .fax ∧ t.rau.discr = none ∧ t.voice.op.user = none ∧ t.fax.role = some .receiver ∧
          t.fax.place = .port ∧ t.fax.phase = some .setup ∧ t.fax.expect = .set ∧ t.pump.mode = .fax ∧
          t.link.tx = .fax (.caps (min 7 s.settings.rungCeiling) 3 0) ∧ t.LoadedT2 .faxReply 3000 .none ∧
          (∀ p, t.Noticed p .callState) ∧ t.voice.op.operation = none ∧ t.store.dir = dir ∧ t.store.free = free ∧
          (s.voice.op.operation = some .record → t.timers.e6.mode = .off) ∧ BytesKept s t ∧
          SameBut ([.level, .detectors, .discr, .call, .ccuRest, .voiceOp, .pump, .fax, .link, .notices .panel] ++
            allTimers ++ autoParts s) s t) ∧
      (s.settings.faxToStore = true ∨ s.sys.ready = false → s.settings.lowSpaceGranules ≤ free.length →
        dir.length < 96 → 1 ≤ free.length →
        ∃ t, exec (.blockEvent .line xs bands) s = .next t ∧ t.ccu.call.holder = some .auto ∧
          t.ccu.call.job = .fax ∧ t.rau.discr = none ∧ t.fax.role = some .receiver ∧ t.fax.place = .store ∧
          t.fax.phase = some .setup ∧ t.fax.expect = .set ∧
          (∃ e : Entry, t.store.dir = dir ++ [e] ∧ e.kind = .faxIn ∧ e.state = .opened ∧
            t.fax.linkedId = some e.id ∧ t.ccu.call.linkedId = some e.id) ∧
          t.voice.op.operation = none ∧ t.store.free = free ∧
          (s.voice.op.operation = some .record → t.timers.e6.mode = .off) ∧ BytesKept s t ∧
          SameBut ([.level, .detectors, .discr, .call, .ccuRest, .voiceOp, .pump, .fax, .link, .header, .directory] ++
            allTimers ++ autoParts s) s t) ∧
      (s.settings.faxToStore = true ∨ s.sys.ready = false →
        free.length < s.settings.lowSpaceGranules ∨ 96 ≤ dir.length →
        ∃ t, exec (.blockEvent .line xs bands) s = .next t ∧ CallEnded [.timer 7] s t .storeFull ∧
          t.store.dir = dir ∧ t.store.free = free)) ∧
    (b.present s 1 = false → b.present s 2 = true → s.tone.dataCall.run = 24 →
      (s.sys.ready = true →
        ∃ t, exec (.blockEvent .line xs bands) s = .next t ∧ t.ccu.call.holder = some .system ∧
          t.ccu.call.job = .data ∧ t.rau.discr = none ∧ t.voice.op.user = none ∧ t.pump.mode = .data ∧
          t.pump.role = some .answerer ∧ t.pump.phase = .handshake ∧ t.pump.answerTone = true ∧
          (∀ p, t.Noticed p .callState) ∧ t.voice.op.operation = none ∧ t.store.dir = dir ∧ t.store.free = free ∧
          (s.voice.op.operation = some .record → t.timers.e6.mode = .off) ∧ BytesKept s t ∧
          SameBut ([.level, .detectors, .discr, .call, .voiceOp, .pump, .notices .panel] ++ allTimers ++
            autoParts s) s t) ∧
      (s.sys.ready = false →
        ∃ t, exec (.blockEvent .line xs bands) s = .next t ∧ CallEnded [.timer 7] s t .noDataHandler ∧
          t.store.dir = dir ∧ t.store.free = free)))

/-- R32, R79, R150, R151, R156, R157, R158, R164: samples of its path go to a running recording code by code (CodecFollows
says which), two codes to a byte, from the first block boundary on; a byte goes to its granule where that is there, and waits
otherwise; a block that closes is judged loud or not, and one that reaches the threshold restarts T6 under VOX. A recording
ends by VOX or at its maximum length: a master's without a loud block, judged or still to be written, is discarded; one with
enough of them is kept, trimmed to the granule of its last loud block, the automatic answerer's as a NEW message, and the call
ends with MESSAGE_LEFT; the automatic answerer's with too few ends it with NO_MESSAGE. A granule is taken when the codes need
one, the codes that wait for it (log 16) are written behind their header, and a block is judged once its last code has been
written. A master's operation that ends raises VOICE_DONE, and a message that was not kept is absent from the record (log 28).
-/
def Obligations.RecordingsRunAndEnd : Prop :=
  ∀ (id : Nat) (e : Entry) (s : State), s.voice.op.state = .recording → s.voice.op.operation = some .record →
    s.voice.op.message = some id → s.store.find id = some e → Mem.wf s.store.mem = true →
    (∀ (ep : Endpoint) (xs : List Sample) (bands : List (List Sample)), s.power.retention = false →
      s.voice.op.endpoint = some ep → s.voice.op.taken = [] →
      ((s.level.pathOf ep.path).count + xs.length < 128 → s.voice.op.inBlock = false → (s.level.pathOf ep.path).count ≠ 0 →
        ∃ t, exec (.blockEvent ep.path xs bands) s = .next t ∧ t.voice.op.codec = s.voice.op.codec ∧
          t.voice.op.inBlock = false ∧ t.voice.op.halfByte = s.voice.op.halfByte ∧
          (s.voice.op.waiting = [] → SameBut [.level] s t)) ∧
      ((s.level.pathOf ep.path).count + xs.length < 128 →
        s.voice.op.inBlock = true ∨ (s.level.pathOf ep.path).count = 0 →
        (s.voice.op.written = 1020 * e.granules.length ∨ (xs.foldl VoiceOp.recordSample s.voice.op).waiting = [] →
          ∃ t, exec (.blockEvent ep.path xs bands) s = .next t ∧
            t.voice.op = { xs.foldl VoiceOp.recordSample s.voice.op with inBlock := true } ∧
            SameBut [.level, .voiceOp] s t) ∧
        (∀ c : CodeByte, s.voice.op.written % 1020 ≠ 0 → s.voice.op.written / 1020 < e.granules.length →
          (xs.foldl VoiceOp.recordSample s.voice.op).waiting = [c] →
          ∃ t, exec (.blockEvent ep.path xs bands) s = .next t ∧
            t.voice.op = { xs.foldl VoiceOp.recordSample s.voice.op with
              inBlock := true, waiting := [], written := s.voice.op.written + 1,
              offset := codeOffset s.voice.op.written + 1 } ∧
            t.store.find id = some { e with length := codeOffset s.voice.op.written + 1 } ∧
            Mem.read t.store.mem (e.address (codeOffset s.voice.op.written)) = BitVec.ofNat 8 c.code ∧
            (∀ a, a ≠ e.address (codeOffset s.voice.op.written) → Mem.read t.store.mem a = Mem.read s.store.mem a) ∧
            SameBut [.level, .voiceOp, .directory, .memory] s t)) ∧
      (∀ (o : VoiceOp) (v : Nat) (b : ToneBlock), (s.level.pathOf ep.path).count + xs.length = 128 →
        (ep = .line → s.level.bandsOn = true → s.LineBlockMeasured xs bands b ∧ s.BlockQuiet b) →
        s.voice.op.inBlock = true →
        v = logCode (blockMean (s.level.pathOf ep.path) xs) → o = xs.foldl VoiceOp.recordSample s.voice.op →
        o.samplesTaken = s.voice.op.samplesTaken + xs.length →
        (s.voice.op.written = 1020 * e.granules.length → o.waiting ≠ [] →
          ∃ t, exec (.blockEvent ep.path xs bands) s = .next t ∧
            t.voice.op = { o with taken := [⟨o.codesMade, (o.samplesTaken + 1) / 2 - 1,
                                             decide (s.settings.silenceLevel ≤ v)⟩] } ∧
            (∀ n : Fin 8, t.timers.get n = (s.timers.get n).blockRestart ep.path v) ∧
            SameBut ([.level, .voiceOp, .detectors, .discr] ++ allTimers) s t) ∧
        (o.waiting = [] →
          ∃ t, exec (.blockEvent ep.path xs bands) s = .next t ∧ t.voice.op.taken = [] ∧
            t.voice.op.codec = o.codec ∧ t.voice.op.halfByte = o.halfByte ∧
            t.voice.op.blocks = s.voice.op.blocks + 1 ∧
            (s.settings.silenceLevel ≤ v → t.voice.op.loud = bump 65535 s.voice.op.loud ∧
              t.voice.op.lastLoud = some s.voice.op.blocks ∧
              t.voice.op.lastLoudByte = (o.samplesTaken + 1) / 2 - 1) ∧
            (v < s.settings.silenceLevel → t.voice.op.loud = s.voice.op.loud ∧
              t.voice.op.lastLoud = s.voice.op.lastLoud) ∧
            (s.timers.e6.mode = .oneShot → s.timers.e6.restart = .block ep.path s.settings.silenceLevel →
              t.timers.e6 = (if s.settings.silenceLevel ≤ v then { s.timers.e6 with count := 0 } else s.timers.e6)) ∧
            SameBut ([.level, .voiceOp, .detectors, .discr] ++ allTimers) s t))) ∧
    (∀ p : Port, s.timers.e6.Due → s.voice.op.vox = true → s.voice.op.user = some p.party → s.voice.op.lastLoud = none →
      (∀ b ∈ s.voice.op.taken, b.loud = false) →
      ∃ t, exec .voxExpiry s = .next t ∧ t.voice.op.state = .idle ∧ t.voice.op.reason = some .vox ∧
        t.voice.op.message = none ∧ t.timers.e6.mode = .off ∧
        t.store.dir = s.store.dir.filter (fun x => x.id ≠ id) ∧ t.store.free = s.store.free ++ e.granules ∧
        t.Noticed p .voiceDone ∧ BytesKept s t ∧
        SameBut [.voiceOp, .timer 6, .directory, .freeList, .memory, .alerts .system, .alerts .panel,
          .notices .panel] s t) ∧
    (∀ (p : Port) (len : Nat), s.timers.e6.Due → s.voice.op.vox = true → s.voice.op.user = some p.party →
      s.voice.op.lastLoud.isSome = true → minLoudBlocks s.settings.minMessageS ≤ s.voice.op.loud →
      s.voice.op.halfByte = none → s.voice.op.kind = some e.kind → e.kind ≠ .greeting →
      len = min e.length ((s.voice.op.lastLoudByte / 1020 + 1) * 1024) →
      ∃ t, exec .voxExpiry s = .next t ∧ t.voice.op.state = .idle ∧ t.voice.op.reason = some .vox ∧
        t.voice.op.message = some id ∧ t.timers.e6.mode = .off ∧
        t.store.find id = some { e with
          state := .complete, isNew := decide (e.kind = .voiceMsg), length := len,
          granules := e.granules.take (ceilDiv len 1024) } ∧
        t.store.free = s.store.free ++ e.granules.drop (ceilDiv len 1024) ∧
        t.ccu.call = (if s.voice.op.endpoint = some .line ∧ s.ccu.call.active = true then
          { s.ccu.call with linkedId := some id } else s.ccu.call) ∧
        t.Noticed p .voiceDone ∧
        SameBut [.voiceOp, .timer 6, .call, .directory, .freeList, .alerts .system, .alerts .panel, .notices .panel] s t) ∧
    (∀ (c : Instr) (len : Nat),
      (c = .voxExpiry ∧ s.timers.e6.Due ∧ s.voice.op.vox = true) ∨
        (c = .maxLengthReached ∧ s.voice.op.maxCode ≤ s.voice.op.written) →
      s.voice.op.user = some .auto → s.voice.op.endpoint = some .line → s.voice.op.kind = some .voiceMsg →
      e.kind = .voiceMsg → s.ccu.call.active = true → s.ccu.ending = none → s.ccu.call.job = .discriminate →
      (s.voice.op.lastLoud.isSome = true → minLoudBlocks s.settings.minMessageS ≤ s.voice.op.loud → s.heard ≠ 0 →
        len = min e.length ((s.voice.op.lastLoudByte / 1020 + 1) * 1024) →
        ∃ t, exec c s = .next t ∧ CallEnded [] s t .messageLeft ∧ t.ccu.call.linkedId = some id ∧
          ∃ x, t.store.find id = some x ∧ x.state = .complete ∧ x.isNew = true ∧ x.granules <+: e.granules ∧
            (s.voice.op.halfByte = none → x.length = len ∧ x.granules = e.granules.take (ceilDiv len 1024) ∧
              t.store.free = s.store.free ++ e.granules.drop (ceilDiv len 1024))) ∧
      (s.voice.op.halfByte = none →
        s.voice.op.lastLoud = none ∨ s.voice.op.loud < minLoudBlocks s.settings.minMessageS →
        s.heard ≠ 0 ∨ s.settings.quietHangsUp = true →
        ∃ t, exec c s = .next t ∧ CallEnded [] s t .noMessage ∧ t.store.find id = none)) ∧
    (∀ (g : Nat) (rest : List Nat), s.voice.op.written = 1020 * e.granules.length →
      s.voice.op.written < s.voice.op.maxCode → s.store.free = g :: rest →
      (s.voice.op.waiting = [] → s.voice.op.taken = [] →
        ∃ t, exec .recordingGranuleNeeded s = .next t ∧ t.store.free = rest ∧
          t.store.find id = some { e with granules := e.granules ++ [g] } ∧ t.voice.op = s.voice.op ∧
          SameBut [.directory, .freeList, .alerts .system, .alerts .panel, .notices .panel] s t) ∧
      (∀ (c : CodeByte) (cs : List CodeByte), s.voice.op.waiting = c :: cs → cs.length < 1020 →
        ∃ t, exec .recordingGranuleNeeded s = .next t ∧ t.store.free = rest ∧ t.voice.op.waiting = [] ∧
          t.voice.op.written = s.voice.op.written + cs.length + 1 ∧
          (s.voice.op.taken = [] → t.voice.op.loud = s.voice.op.loud ∧ t.voice.op.lastLoud = s.voice.op.lastLoud) ∧
          (∀ b, s.voice.op.taken = [b] → b.codes ≤ s.voice.op.written + cs.length + 1 → t.voice.op.taken = [] ∧
            t.voice.op.loud = (if b.loud = true then bump 65535 s.voice.op.loud else s.voice.op.loud) ∧
            t.voice.op.lastLoud = (if b.loud = true then some s.voice.op.blocks else s.voice.op.lastLoud)) ∧
          (∀ k b, (codecHeader c.before)[k]? = some b → Mem.read t.store.mem (g * 1024 + k) = b) ∧
          (∀ k x, (c :: cs)[k]? = some x → Mem.read t.store.mem (g * 1024 + 4 + k) = BitVec.ofNat 8 x.code) ∧
          (∀ a, a < g * 1024 ∨ g * 1024 + 4 + cs.length < a → Mem.read t.store.mem a = Mem.read s.store.mem a) ∧
          (∃ x, t.store.find id = some x ∧ x.granules = e.granules ++ [g] ∧
            x.length = 1024 * e.granules.length + 5 + cs.length) ∧
          SameBut [.voiceOp, .directory, .freeList, .memory, .alerts .system, .alerts .panel, .notices .panel] s t)) ∧
    (∀ p : Port, s.voice.op.user = some p.party → s.voice.op.lastLoud = none →
      (∀ b ∈ s.voice.op.taken, b.loud = false) → s.voice.op.written = 1020 * e.granules.length → s.voice.op.written < s.voice.op.maxCode → s.store.free = [] →
      ∃ t, exec .recordingGranuleNeeded s = .next t ∧ t.voice.op.state = .idle ∧
        t.voice.op.reason = some .storeFull ∧ t.store.dir = s.store.dir.filter (fun x => x.id ≠ id) ∧
        (∀ q, (t.port q).alerts.full = true) ∧ BytesKept s t ∧
        SameBut [.voiceOp, .timer 6, .directory, .freeList, .memory, .alerts .system, .alerts .panel,
          .notices .panel] s t)

/-- R58, R80, R160, R161: each T2 compare event in WAITING sounds a prompt beep and counts it, T2 running on by its own
restart, until the fourth ends the call with NORMAL. A digit of the caller goes to the automatic answerer: while it
discriminates with the remote code enabled, it joins the buffer of the last four, which starts the remote session when it
equals the code, whatever the answerer plays or records (a recording is then discarded, a hold released); every fourth digit
that does not match counts as a wrong entry, and the third of those ends the call with REMOTE_DENIED; in the session, 1 plays
the new messages and 2 all of them, 3 goes on to the next, 4 plays the message in hand again, 7 deletes it and goes on, 9 ends
the call with NORMAL, and any other digit is ignored. That the digit 4 plays the message under the hold it has is the model's
reading (log 37). That the operation record of a beep shows PLAYING, and which blocks after a burst hold no digit, are the
model's choices (log 47); so is that an id of the session's lists which another entry now has plays that entry (log 50). -/
def Obligations.InactivityPrompts : Prop :=
  (∀ (r : Remote) (s : State), s.DueT2 .inactivity → s.voice.remote = some r → r.state = .waiting →
    (r.prompts < 3 →
      ∃ t, exec .remoteInactivityExpiry s = .next t ∧ t.voice.remote = some { r with prompts := r.prompts + 1 } ∧
        t.voice.op.state = .playing ∧ t.voice.op.operation = some .tone ∧ t.voice.op.user = some .auto ∧
        t.voice.op.endpoint = some .line ∧
        (s.timers.e2.signalA = false → s.timers.e2.restart = .compare 2 →
          t.timers.e2 = { s.timers.e2 with count := 0 }) ∧
        SameBut [.voiceOp, .remote, .timer 2] s t) ∧
    (3 ≤ r.prompts → s.ccu.call.active = true → s.ccu.ending = none →
      ∃ t, exec .remoteInactivityExpiry s = .next t ∧ CallEnded [] s t .normal)) ∧
  (∀ (xs : List Sample) (bands : List (List Sample)) (b : ToneBlock) (x : Symbol) (d : Discrimination)
      (code : List Symbol) (n h : Nat) (s : State),
    s.LineBlockMeasured xs bands b → s.ccu.line = .connected → s.holder = some .auto → s.ccu.ending = none →
    s.judgesDigit → (s.tone.dtmf.judge (digitOf s.settings.toneLevel b.whole b.bands)).2 = some x →
    s.ccu.call.job = .discriminate → s.tone.faxCall.recognises (b.present s 1) = false →
    s.tone.dataCall.recognises (b.present s 2) = false → s.rau.discr = some d → d.code.length ≤ 4 →
    code = (if d.code.length = 4 then d.code.drop 1 else d.code) ++ [x] → n = bump 65535 d.codeDigits →
    h = (if d.phase ≠ .beep ∧ s.settings.silenceLevel ≤ b.whole then bump 65535 d.heard else d.heard) →
    (s.settings.remoteEnable = false →
      ∃ t, exec (.blockEvent .line xs bands) s = .next t ∧ t.rau.discr = some { d with heard := h } ∧
        SameBut ([.level, .detectors, .discr] ++ allTimers ++ recordParts s .line) s t) ∧
    (s.settings.remoteEnable = true →
      code.length < 4 ∨ (s.settings.remoteCode ≠ some (code.map Fin.val) ∧ (n % 4 ≠ 0 ∨ d.wrong < 2)) →
      ∃ t, exec (.blockEvent .line xs bands) s = .next t ∧
        t.rau.discr = some { d with
          heard := h, code := code, codeDigits := n,
          wrong := if code.length = 4 ∧ n % 4 = 0 then d.wrong + 1 else d.wrong } ∧
        SameBut ([.level, .detectors, .discr] ++ allTimers ++ recordParts s .line) s t) ∧
    (s.settings.remoteEnable = true → code.length = 4 → s.settings.remoteCode ≠ some (code.map Fin.val) → n % 4 = 0 →
      2 ≤ d.wrong →
      ∃ t, exec (.blockEvent .line xs bands) s = .next t ∧ CallEnded [.timer 7] s t .remoteDenied) ∧
    (∀ (dir : List Entry) (free ids : List Nat), s.settings.remoteEnable = true → code.length = 4 →
      s.settings.remoteCode = some (code.map Fin.val) → s.autoStopped = some (dir, free) →
      ids = (dir.filter (fun e => decide (e.kind = .voiceMsg ∧ e.state = .complete ∧ e.isNew = true))).map Entry.id →
      ∃ t, exec (.blockEvent .line xs bands) s = .next t ∧ t.ccu.call.job = .remote ∧ t.rau.discr = none ∧
        t.voice.remote = some ⟨.prompting, ids, some .new, ids, none, 0⟩ ∧
        t.voice.op.state = .playing ∧ t.voice.op.operation = some .tone ∧ t.voice.op.user = some .auto ∧
        t.ccu.call.phase = some .session ∧ t.store.dir = dir ∧ t.store.free = free ∧
        (s.voice.op.operation = some .record → t.timers.e6.mode = .off) ∧ BytesKept s t ∧
        SameBut ([.level, .detectors, .discr, .call, .ccuRest, .voiceOp, .remote] ++ allTimers ++ autoParts s) s t)) ∧
  (∀ (xs : List Sample) (bands : List (List Sample)) (b : ToneBlock) (x : Symbol) (s : State),
    s.LineBlockCloses xs bands b → s.ccu.line = .connected → s.holder = some .auto → s.ccu.ending = none →
    s.judgesDigit →
    (s.tone.dtmf.judge (digitOf s.settings.toneLevel b.whole b.bands)).2 = some x →
    (∀ r : Remote, s.ccu.call.job = .remote → s.rau.discr = none → s.voice.remote = some r →
      (x.val = 9 → s.voice.op.operation = none ∨ s.voice.op.operation = some .tone →
        ∃ t, exec (.blockEvent .line xs bands) s = .next t ∧ CallEnded [.timer 7] s t .normal) ∧
      (∀ (u : ListInUse) (ids : List Nat), s.voice.op.operation = none ∨ s.voice.op.operation = some .tone →
        (x.val = 1 ∧ u = .new ∧ ids = r.newList) ∨
          (x.val = 2 ∧ u = .all ∧ ids = (s.store.dir.filter
            (fun e => decide (e.kind = .voiceMsg ∧ e.state = .complete))).map Entry.id) →
        (∀ id k, nextPlayable s.store ids 0 = some (id, k) →
          ∃ t, exec (.blockEvent .line xs bands) s = .next t ∧
            t.voice.remote = some ⟨.playing, r.newList, some u, ids, some k, 0⟩ ∧
            t.voice.op.state = .playing ∧ t.voice.op.operation = some .play ∧ t.voice.op.user = some .auto ∧
            t.voice.op.message = some id ∧ t.voice.op.offset = 0 ∧ t.timers.e2.mode = .off ∧
            t.store.dir = s.store.dir.map (fun y => if y.id = id then { y with holds := y.holds + 1 } else y) ∧
            SameBut ([.level, .detectors, .voiceOp, .remote, .directory, .ccuRest] ++ allTimers) s t) ∧
        (nextPlayable s.store ids 0 = none →
          ∃ t, exec (.blockEvent .line xs bands) s = .next t ∧
            t.voice.remote = some ⟨.prompting, r.newList, some u, ids, none, 0⟩ ∧
            t.voice.op.state = .playing ∧ t.voice.op.operation = some .tone ∧ t.voice.op.user = some .auto ∧
            t.timers.e2.mode = .off ∧
            SameBut ([.level, .detectors, .voiceOp, .remote, .ccuRest] ++ allTimers) s t)) ∧
      (∀ (id : Nat) (e : Entry), r.state = .playing → s.voice.op.operation = some .play →
        s.voice.op.user = some .auto → s.voice.op.message = some id → s.store.find id = some e →
        (x.val = 4 →
          ∃ t, exec (.blockEvent .line xs bands) s = .next t ∧ t.voice.remote = some { r with prompts := 0 } ∧
            t.voice.op.state = .playing ∧ t.voice.op.operation = some .play ∧ t.voice.op.user = some .auto ∧
            t.voice.op.message = some id ∧ t.voice.op.offset = 0 ∧
            SameBut ([.level, .detectors, .voiceOp, .remote] ++ allTimers) s t) ∧
        (x.val = 3 → e.state ≠ .doomed →
          (∀ next k, nextPlayable s.store r.list (r.cursor.getD 0 + 1) = some (next, k) →
            ∃ t, exec (.blockEvent .line xs bands) s = .next t ∧
              t.voice.remote = some { r with cursor := some k, prompts := 0 } ∧
              t.voice.op.state = .playing ∧ t.voice.op.operation = some .play ∧ t.voice.op.message = some next ∧
              t.voice.op.offset = 0 ∧ t.timers.e2.mode = .off ∧
              t.store.dir =
                (s.store.dir.map (fun y => if y.id = id then { y with holds := y.holds - 1 } else y)).map
                  (fun y => if y.id = next then { y with holds := y.holds + 1 } else y) ∧
              SameBut ([.level, .detectors, .voiceOp, .remote, .directory, .ccuRest] ++ allTimers) s t) ∧
          (nextPlayable s.store r.list (r.cursor.getD 0 + 1) = none →
            ∃ t, exec (.blockEvent .line xs bands) s = .next t ∧
              t.voice.remote = some { r with state := .prompting, cursor := none, prompts := 0 } ∧
              t.voice.op.state = .playing ∧ t.voice.op.operation = some .tone ∧
              SameBut ([.level, .detectors, .voiceOp, .remote, .directory, .ccuRest] ++ allTimers) s t)) ∧
        (x.val = 7 → e.state = .complete → e.holds = 1 →
          (∀ next k, nextPlayable { s.store with dir := s.store.dir.filter (fun y => y.id ≠ id) } r.list
              (r.cursor.getD 0 + 1) = some (next, k) →
            ∃ t, exec (.blockEvent .line xs bands) s = .next t ∧
              t.voice.remote = some { r with cursor := some k, prompts := 0 } ∧
              t.voice.op.state = .playing ∧ t.voice.op.operation = some .play ∧ t.voice.op.message = some next ∧
              t.store.dir = (s.store.dir.filter (fun y => y.id ≠ id)).map
                (fun y => if y.id = next then { y with holds := y.holds + 1 } else y) ∧
              t.store.free = s.store.free ++ e.granules ∧
              SameBut ([.level, .detectors, .voiceOp, .remote, .directory, .freeList, .ccuRest, .alerts .system,
                .alerts .panel, .notices .panel] ++ allTimers) s t) ∧
          (nextPlayable { s.store with dir := s.store.dir.filter (fun y => y.id ≠ id) } r.list
              (r.cursor.getD 0 + 1) = none →
            ∃ t, exec (.blockEvent .line xs bands) s = .next t ∧
              t.voice.remote = some { r with state := .prompting, cursor := none, prompts := 0 } ∧
              t.voice.op.operation = some .tone ∧ t.store.dir = s.store.dir.filter (fun y => y.id ≠ id) ∧
              t.store.free = s.store.free ++ e.granules ∧
              SameBut ([.level, .detectors, .voiceOp, .remote, .directory, .freeList, .ccuRest, .alerts .system,
                .alerts .panel, .notices .panel] ++ allTimers) s t))) ∧
      (x.val ∉ [1, 2, 9] → x.val ∉ [3, 4, 7] ∨ r.state ≠ .playing →
        ∃ t, exec (.blockEvent .line xs bands) s = .next t ∧ SameBut ([.level, .detectors] ++ allTimers) s t)))

/-- R149, R150, R151, R154: the ADPCM code. The step grows by an eighth of itself; a decoded code moves the predicted value by
its step, held within that of a 16-bit sample, and the index by its magnitude, held within 0 to 47; the magnitude of a
sample's code is the number of half steps in its difference, at most 7; the encoder takes its own decoding as its new state. A
sample that is played decodes the four bits that come next, the high ones of a byte first, from the codec state in the header
at the start of a granule; past the entry's last byte nothing is played. -/
def Obligations.CodecFollows : Prop :=
  (stepSize 0 = 16 ∧ ∀ i, i < 47 → stepSize (i + 1) = stepSize i + max 1 (stepSize i / 8)) ∧
  (∀ (c : Codec) (code : Nat), code < 16 → c.index ≤ 47 →
    (decodeCode c code).index ≤ 47 ∧ -32768 ≤ (decodeCode c code).predicted ∧ (decodeCode c code).predicted ≤ 32767 ∧
      (decodeCode c code).index =
        min 47 (match code % 8 with
          | 0 | 1 => c.index - 1 | 2 | 3 => c.index | 4 => c.index + 1 | 5 => c.index + 2 | 6 => c.index + 4
          | _ => c.index + 6) ∧
      (∀ d : Int, d = ((2 * (code % 8) + 1) * stepSize c.index / 4 : Nat) →
        -32768 ≤ c.predicted → c.predicted ≤ 32767 →
        (code < 8 → (decodeCode c code).predicted = min 32767 (c.predicted + d) ∧
          (decodeClamps c code = true ↔ 32767 < c.predicted + d)) ∧
        (8 ≤ code → (decodeCode c code).predicted = max (-32768) (c.predicted - d) ∧
          (decodeClamps c code = true ↔ c.predicted - d < -32768)))) ∧
  (∀ (c : Codec) (x : Sample) (m : Nat), c.index ≤ 47 → m = encodeSample c x.toInt % 8 →
    encodeSample c x.toInt < 16 ∧ (8 ≤ encodeSample c x.toInt ↔ x.toInt < c.predicted) ∧
      m * stepSize c.index ≤ 2 * (x.toInt - c.predicted).natAbs ∧
      (m < 7 → 2 * (x.toInt - c.predicted).natAbs < (m + 1) * stepSize c.index) ∧
      (x.toInt = c.predicted → encodeSample c x.toInt = 0)) ∧
  (∀ (o : VoiceOp) (x : Sample), o.codesMade < o.maxCode →
    (o.recordSample x).codec = decodeCode o.codec (encodeSample o.codec x.toInt) ∧
      (o.recordSample x).clamps = (if decodeClamps o.codec (encodeSample o.codec x.toInt) = true then bump 65535 o.clamps
        else o.clamps) ∧
      (∀ h, o.halfByte = some h →
        (o.recordSample x).waiting = o.waiting ++ [⟨h.before, h.code + encodeSample o.codec x.toInt⟩] ∧
          (o.recordSample x).halfByte = none) ∧
      (o.halfByte = none → (o.recordSample x).halfByte = some ⟨o.codec, 16 * encodeSample o.codec x.toInt⟩ ∧
        (o.recordSample x).waiting = o.waiting)) ∧
  (∀ (id g : Nat) (e : Entry) (o : VoiceOp) (s : State), o = s.voice.op → o.message = some id → s.store.find id = some e →
    g = o.offset / 1024 * 1024 →
    (e.length ≤ max o.offset (g + 4) → s.playSample = s) ∧
    (o.offset < e.length → 4 ≤ o.offset % 1024 → o.lowNext = false →
      s.playSample =
        { s with voice.op := { o.takeCode ((s.store.entryByte e o.offset).toNat / 16) with lowNext := true } }) ∧
    (o.offset < e.length → 4 ≤ o.offset % 1024 → o.lowNext = true →
      s.playSample =
        { s with voice.op := { o.takeCode ((s.store.entryByte e o.offset).toNat % 16) with
                               lowNext := false, offset := o.offset + 1 } }) ∧
    (∀ (p : Int) (i : Nat),
      p = (BitVec.ofNat 16 ((s.store.entryByte e g).toNat + 256 * (s.store.entryByte e (g + 1)).toNat)).toInt →
      i = min 47 (s.store.entryByte e (g + 2)).toNat → o.offset % 1024 < 4 → g + 4 < e.length →
      s.playSample =
        { s with voice.op := { { o with codec := ⟨p, i⟩ }.takeCode ((s.store.entryByte e (g + 4)).toNat / 16) with
                               lowNext := true, offset := g + 4 } }))

/-! ### The Fax Engine (Chapter 8) -/

/-- R56, R112, R132 to R137, R139: fax setup and its check. A sender answers CAPS with a SET and its check, connecting the
call where it was still in progress; a receiver takes the SET and the check; the verdict lets the page begin, with its
resynchronising symbols, or the sender steps down. The pump works at the rung that the Fax Engine gives it (log 48). A SET
whose resolution byte is not one of its values is discarded (12.3); a scan-line time is kept as it came, and a SET that comes
again in F_CHECK or beyond, page data being received or not, is answered with the last frame, whatever its values are (log
35); a window that is full at the check's last symbol counts as the check's last (log 49); a SET whose rung is outside the fax
bounds is taken as it came, for the check to fail (log 50). A CHECK_OK or CHECK_FAIL that comes before the SET after it has
left answers an earlier SET and is ignored, and a SET that comes before the CHECK_FAIL or PAGE_BAD has left is a repeated one
(log 51). That the check after a repeated SET leaves the TRAINING feed and the note of an overload as they are is the model's
choice (log 50). -/
def Obligations.FaxSetUp : Prop :=
  ∀ s : State, s.ccu.call.active = true → s.ccu.call.job = .fax →
    (s.fax.role = some .sender → s.fax.listens →
      (∀ m r x : Byte, s.ccu.line = .connected → s.fax.phase = some .setup → s.fax.expect = .caps →
        (s.fax.floor ≤ min (min 7 m.toNat) s.fax.ceiling →
          ∃ t, exec (.capsReceived m r x) s = .next t ∧ t.fax.rung = some (min (min 7 m.toNat) s.fax.ceiling) ∧
            t.fax.lastFrame = some (.set (min (min 7 m.toNat) s.fax.ceiling)
              ((chooseResolution s.settings.faxFine r).code) (readScanMs x.toNat)) ∧
            t.fax.resolution = some (chooseResolution s.settings.faxFine r) ∧
            t.fax.scanMs = readScanMs x.toNat ∧ t.fax.phase = some .check ∧ t.fax.expect = .checkVerdict ∧
            t.fax.checkSending = false ∧ t.fax.retries = 0 ∧
            t.link.tx = .fax (.set (min (min 7 m.toNat) s.fax.ceiling)
              ((chooseResolution s.settings.faxFine r).code) (readScanMs x.toNat)) ∧
            t.pump = { s.pump with rung := some (min (min 7 m.toNat) s.fax.ceiling) } ∧
            t.LoadedT2 .faxReply 3000 .none ∧ SameBut [.fax, .link, .call, .ccuRest, .timer 2, .pump] s t) ∧
        (min (min 7 m.toNat) s.fax.ceiling < s.fax.floor → s.ccu.ending = none →
          ∃ t, exec (.capsReceived m r x) s = .next t ∧ CallEnded [] s t .faxTraining)) ∧
      (s.ccu.line = .connected → s.fax.phase = some .check → s.fax.stale →
        (∃ t, exec .checkOkReceived s = .next t ∧ SameBut [] s t) ∧
        (∃ t, exec .checkFailReceived s = .next t ∧ SameBut [] s t)) ∧
      (s.ccu.line = .connected → s.fax.phase = some .check → ¬s.fax.stale →
        (s.fax.place = .store →
          ∃ t, exec .checkOkReceived s = .next t ∧ t.fax.phase = some .page ∧ t.fax.expect = .none ∧
            t.fax.page = (if s.fax.page = 0 then 1 else s.fax.page) ∧ t.fax.markSent = false ∧ t.fax.markOut = false ∧
            t.link.tx = .resync (s.fax.rung.getD 0) ∧
            t.timers.e2.mode = .off ∧ SameBut [.fax, .link, .call, .ccuRest, .timer 2] s t) ∧
        (s.fax.place = .port →
          ∃ t, exec .checkOkReceived s = .next t ∧ t.fax.phase = some .page ∧ t.LoadedT2 .faxStall 3000 .none ∧
            t.link.tx = .resync (s.fax.rung.getD 0) ∧ (t.sys.data = true ∨ t.sys.entryDue = true) ∧
            SameBut [.fax, .link, .call, .ccuRest, .timer 2, .systemPort] s t) ∧
        (s.fax.place = .undecided → s.ccu.call.holder = some .system →
          ∃ t, exec .checkOkReceived s = .next t ∧ t.fax.phase = some .page ∧ t.fax.place = .port ∧
            t.LoadedT2 .faxStall 3000 .none ∧ t.link.tx = .resync (s.fax.rung.getD 0) ∧
            (t.sys.data = true ∨ t.sys.entryDue = true) ∧
            SameBut [.fax, .link, .call, .ccuRest, .timer 2, .systemPort] s t) ∧
        (s.fax.place = .undecided → s.ccu.call.holder ≠ some .system → s.ccu.ending = none →
          ∃ t, exec .checkOkReceived s = .next t ∧ t.ccu.line = .releasing ∧ t.ccu.call.active = false ∧
            t.ccu.call.cause = some .faxPageFailed ∧ t.LoadedT2 .guard 1500 .none ∧ SameBut (endParts s) s t) ∧
        (s.fax.floor ≤ s.fax.rung.getD 0 - 1 →
          ∃ t, exec .checkFailReceived s = .next t ∧ t.fax.rung = some (s.fax.rung.getD 0 - 1) ∧
            t.fax.phase = some .check ∧ t.fax.expect = .checkVerdict ∧ t.fax.retries = 0 ∧
            t.link.tx = .fax (.set (s.fax.rung.getD 0 - 1) ((s.fax.resolution.getD .normal).code) s.fax.scanMs) ∧
            t.pump = { s.pump with rung := some (s.fax.rung.getD 0 - 1) } ∧
            t.LoadedT2 .faxReply 3000 .none ∧ SameBut [.fax, .link, .call, .ccuRest, .timer 2, .pump] s t) ∧
        (s.fax.rung.getD 0 - 1 < s.fax.floor → s.ccu.ending = none →
          ∃ t, exec .checkFailReceived s = .next t ∧ CallEnded [] s t .faxTraining))) ∧
    (∀ m r x : Byte, s.fax.role = some .sender → s.ccu.line = .progress → s.fax.phase = none →
      s.fax.checkSending = false → max 2 s.settings.rungFloor ≤ min 7 s.settings.rungCeiling → max 2 s.settings.rungFloor ≤ m.toNat →
      ∃ t, exec (.capsReceived m r x) s = .next t ∧ t.ccu.line = .connected ∧ t.pump.mode = .fax ∧
        t.fax.phase = some .check ∧ t.fax.floor = max 2 s.settings.rungFloor ∧
        t.fax.ceiling = min 7 s.settings.rungCeiling ∧
        t.fax.rung = some (min (min 7 m.toNat) (min 7 s.settings.rungCeiling)) ∧ t.pump.rung = t.fax.rung ∧
        t.LoadedT2 .faxReply 3000 .none ∧
        (∀ p, t.Noticed p .callState) ∧
        SameBut [.line, .call, .ccuRest, .timer 2, .detectors, .pump, .fax, .link, .notices .panel] s t) ∧
    (s.fax.checkSending = true →
      ∃ t, exec .faxCheckSent s = .next t ∧ t.fax = { s.fax with checkSending := false } ∧ t.link.tx = .idleFill ∧
        SameBut [.fax, .link] s t) ∧
    (s.fax.role = some .receiver → s.ccu.line = .connected →
      (∀ g r x : Byte, s.fax.listens → s.fax.phase = some .setup → ¬s.fax.stale → r.toNat < 2 →
        ∃ t, exec (.setReceived g r x) s = .next t ∧ t.fax.rung = some g.toNat ∧
          t.fax.resolution = some (if r = 0#8 then .normal else .fine) ∧ t.fax.retries = 0 ∧
          t.fax.scanMs = x.toNat ∧ t.fax.phase = some .check ∧ t.fax.expect = .none ∧ t.level.feed = .training ∧
          t.pump = { s.pump with rung := some g.toNat } ∧
          t.timers.e2.mode = .off ∧ SameBut [.fax, .level, .call, .ccuRest, .timer 2, .pump] s t) ∧
      (∀ (f : FaxFrame) (g r x : Byte), s.fax.listens → r.toNat < 2 →
        s.fax.phase = some .check ∨ s.fax.phase = some .page ∨ s.fax.phase = some .postpage ∨
          s.fax.phase = some .clearing ∨ (s.fax.phase = some .setup ∧ s.fax.stale) →
        s.fax.lastFrame = some f →
        ∃ t, exec (.setReceived g r x) s = .next t ∧ t.link.tx = .fax f ∧
          SameBut [.link] s t) ∧
      (∀ g r x : Byte, 2 ≤ r.toNat → ∃ t, exec (.setReceived g r x) s = .next t ∧ SameBut [] s t) ∧
      (∀ q : Nat, s.fax.phase = some .check →
        (s.level.windowFull = false ∧ q = s.level.trainingQ.getD 0) ∨
          (s.level.windowFull = true ∧ q = 47 - logCode (s.level.window.acc / 256)) →
        (s.fax.floor ≤ s.fax.rung.getD 0 → s.fax.rung.getD 0 ≤ s.fax.ceiling → s.fax.checkOverloaded = false →
          s.level.windowFull = false ∨ s.level.window.saturated = false →
          s.fall (s.fax.rung.getD 0) + s.settings.faxMargin ≤ 8 * q →
          ∃ t, exec .faxCheckEnd s = .next t ∧ t.fax.phase = some .page ∧ t.fax.expect = .pageData ∧
            t.link.tx = .fax .checkOk ∧ t.LoadedT2 .faxReply 3000 .none ∧
            t.level.average = some (8 * q) ∧ t.level.feed = .off ∧
            (s.fax.place = .port → t.sys.data = true ∨ t.sys.entryDue = true) ∧
            SameBut [.fax, .level, .link, .call, .ccuRest, .timer 2, .systemPort] s t) ∧
        (s.fax.rung.getD 0 < s.fax.floor ∨ s.fax.ceiling < s.fax.rung.getD 0 ∨ s.fax.checkOverloaded = true ∨
            (s.level.windowFull = true ∧ s.level.window.saturated = true) ∨
            8 * q < s.fall (s.fax.rung.getD 0) + s.settings.faxMargin →
          ∃ t, exec .faxCheckEnd s = .next t ∧ t.fax.phase = some .setup ∧ t.fax.expect = .set ∧
            t.link.tx = .fax .checkFail ∧ t.LoadedT2 .faxReply 3000 .none ∧
            SameBut [.fax, .level, .link, .call, .ccuRest, .timer 2] s t))) ∧
    (∀ run, ∃ t, exec (.faxInvalidControlFrame run) s = .next t ∧ SameBut [] s t)

/-- R138, R140, R143, R144: a receiver's page. Its data begins with the TRACKING feed and the stall time; its bytes go to the
inbound queue, or are lost where it is full, or to the store, granule by granule; one that finds no granule ends the call with
STORE_FULL, the page in hand trimmed off. A line mark loads the stall time again, and the page-end mark brings F_POSTPAGE,
both also where an overrun loses the mark itself, which then does not end the port's data state (log 36). -/
def Obligations.FaxPageTaken : Prop :=
  ∀ s : State, s.faxRole .receiver → s.fax.phase = some .page →
    (s.fax.dataBegun = false →
      ∃ t, exec .pageDataStart s = .next t ∧ t.fax.dataBegun = true ∧ t.fax.windows = 0 ∧ t.fax.badWindows = 0 ∧
        t.fax.overflow = false ∧ t.fax.expect = .none ∧ t.level.feed = .tracking ∧ t.LoadedT2 .faxStall 3000 .none ∧
        SameBut [.fax, .level, .ccuRest, .timer 2] s t) ∧
    (∀ b : Byte, s.fax.dataBegun = true → s.fax.place = .port → s.fax.inPair = false →
      (s.link.inbound.length < 1024 →
        ∃ t, exec (.faxPageByteReceived b) s = .next t ∧ t.link.inbound = s.link.inbound ++ [b] ∧
          t.fax = { s.fax with inPair := decide (b = 0x10#8) } ∧ SameBut [.fax, .inbound] s t) ∧
      (1024 ≤ s.link.inbound.length →
        ∃ t, exec (.faxPageByteReceived b) s = .next t ∧
          t.fax = { s.fax with overflow := true, inPair := decide (b = 0x10#8) } ∧ SameBut [.fax] s t)) ∧
    (s.fax.dataBegun = true → s.fax.place = .port → s.fax.inPair = true → 1024 ≤ s.link.inbound.length →
      (∃ t, exec (.faxPageByteReceived 0x0C#8) s = .next t ∧ t.fax.overflow = true ∧
        t.fax.markInQueue = s.fax.markInQueue ∧ t.fax.phase = some .postpage ∧ t.fax.expect = .pageEnd ∧
        t.fax.dataBegun = false ∧ t.level.feed = .off ∧ t.LoadedT2 .faxReply 3000 .none ∧
        SameBut [.fax, .level, .call, .ccuRest, .timer 2] s t) ∧
      (∃ t, exec (.faxPageByteReceived 0x0A#8) s = .next t ∧ t.fax = { s.fax with overflow := true, inPair := false } ∧
        t.LoadedT2 .faxStall 3000 .none ∧ SameBut [.fax, .ccuRest, .timer 2] s t)) ∧
    (∀ b : Byte, s.fax.dataBegun = true → s.fax.place = .port → s.fax.inPair = true → b ≠ 0x0A#8 → b ≠ 0x0C#8 →
      ∃ t, exec (.faxPageByteReceived b) s = .next t ∧
        t.fax = { s.fax with inPair := false, overflow := s.fax.overflow || decide (1024 ≤ s.link.inbound.length) } ∧
        t.link.inbound = (if s.link.inbound.length < 1024 then s.link.inbound ++ [b] else s.link.inbound) ∧
        SameBut [.fax, .inbound] s t) ∧
    (s.fax.dataBegun = true → s.fax.place = .port → s.fax.inPair = true → s.link.inbound.length < 1024 →
      (∃ t, exec (.faxPageByteReceived 0x0C#8) s = .next t ∧ t.link.inbound = s.link.inbound ++ [0x0C#8] ∧
        t.fax.markInQueue = some (s.link.inbound.length + 1) ∧ t.fax.phase = some .postpage ∧
        t.fax.expect = .pageEnd ∧ t.fax.dataBegun = false ∧ t.level.feed = .off ∧ t.LoadedT2 .faxReply 3000 .none ∧
        SameBut [.fax, .inbound, .level, .call, .ccuRest, .timer 2] s t) ∧
      (∃ t, exec (.faxPageByteReceived 0x0A#8) s = .next t ∧ t.fax.inPair = false ∧
        t.LoadedT2 .faxStall 3000 .none ∧ SameBut [.fax, .inbound, .ccuRest, .timer 2] s t)) ∧
    (∀ (b : Byte) (id : Nat) (e : Entry), s.fax.dataBegun = true → s.fax.place = .store → s.fax.linkedId = some id →
      s.store.find id = some e → e.length < e.granules.length * 1024 → s.fax.inPair = false →
      Mem.wf s.store.mem = true →
      ∃ t, exec (.faxPageByteReceived b) s = .next t ∧
        t.store.find id = some { e with length := e.length + 1 } ∧
        Mem.read t.store.mem (e.address e.length) = b ∧
        (∀ a, a ≠ e.address e.length → Mem.read t.store.mem a = Mem.read s.store.mem a) ∧
        t.fax = { s.fax with inPair := decide (b = 0x10#8) } ∧ SameBut [.fax, .directory, .memory] s t) ∧
    (∀ (b : Byte) (id : Nat) (e : Entry), s.fax.dataBegun = true → s.fax.place = .store → s.fax.linkedId = some id →
      s.store.find id = some e → e.length < e.granules.length * 1024 → s.fax.inPair = true →
      Mem.wf s.store.mem = true →
      ∃ t, exec (.faxPageByteReceived b) s = .next t ∧
        t.store.find id = some { e with length := e.length + 1 } ∧
        Mem.read t.store.mem (e.address e.length) = b ∧
        (∀ a, a ≠ e.address e.length → Mem.read t.store.mem a = Mem.read s.store.mem a) ∧
        (b = 0x0C#8 → t.fax.phase = some .postpage ∧ t.fax.expect = .pageEnd ∧ t.fax.dataBegun = false ∧
          t.fax.inPair = false ∧ t.level.feed = .off ∧ t.LoadedT2 .faxReply 3000 .none) ∧
        (b = 0x0A#8 → t.fax = { s.fax with inPair := false } ∧ t.LoadedT2 .faxStall 3000 .none ∧
          SameBut [.fax, .directory, .memory, .ccuRest, .timer 2] s t) ∧
        (b ≠ 0x0A#8 → b ≠ 0x0C#8 → t.fax = { s.fax with inPair := false } ∧
          SameBut [.fax, .directory, .memory] s t) ∧
        SameBut [.fax, .directory, .memory, .level, .call, .ccuRest, .timer 2] s t) ∧
    (∀ (b : Byte) (id : Nat) (e : Entry), s.fax.dataBegun = true → s.fax.place = .store → s.fax.linkedId = some id →
      s.store.find id = some e → e.length = e.granules.length * 1024 → s.fax.inPair = false →
      Mem.wf s.store.mem = true →
      (∀ (g : Nat) (rest : List Nat), s.store.free = g :: rest →
        ∃ t, exec (.faxPageByteReceived b) s = .next t ∧ t.store.free = rest ∧
          t.store.find id = some { e with granules := e.granules ++ [g], length := e.length + 1 } ∧
          Mem.read t.store.mem (g * 1024) = b ∧
          (∀ a, a ≠ g * 1024 → Mem.read t.store.mem a = Mem.read s.store.mem a) ∧
          t.fax = { s.fax with inPair := decide (b = 0x10#8) } ∧
          SameBut [.fax, .directory, .freeList, .memory, .alerts .system, .alerts .panel, .notices .panel] s t) ∧
      (∀ o : Nat, s.store.free = [] → s.fax.pageStart = some o → s.ccu.ending = none → s.voice.op.operation = none →
        e.kind = .faxIn →
        ∃ t, exec (.faxPageByteReceived b) s = .next t ∧ CallEnded [] s t .storeFull ∧
          (∀ q, (t.port q).alerts.full = true) ∧
          (∀ a, Mem.read t.store.mem a = Mem.read s.store.mem a) ∧
          (e.pageCount = 0 → t.store.find id = none) ∧
          (e.pageCount ≠ 0 → ∃ x, t.store.find id = some x ∧ x.state = .complete ∧ x.isNew = true ∧ x.length = o ∧
            x.granules = e.granules.take (ceilDiv o 1024))))

/-- R127, R138, R139, R145, R146: a sender's page. A byte of its source, the outbound queue or a stored entry, goes to the
pump; fill goes before a line mark that comes too soon; once the page-end mark, or a stored page without one, has been sent,
PAGE_END follows as soon as its decision is known. In the data state CTS follows the queue. That a lone 0x10 at the end of the
queue waits for the byte after it, idle fill going meanwhile, is the model's reading (log 35). -/
def Obligations.FaxPageSent : Prop :=
  ∀ s : State, s.faxRole .sender → s.fax.phase = some .page → s.fax.markSent = false →
    (s.fax.place = .port → s.fax.markOut = false →
      (s.link.outbound = [] ∨ (s.link.outbound = [0x10#8] ∧ s.fax.inPair = false) →
        ∃ t, exec .faxPageByteSent s = .next t ∧ t.link.tx = .idleFill ∧ SameBut [.link] s t) ∧
      (∀ b rest, s.link.outbound = b :: rest → s.fax.inPair = false → b ≠ 0x10#8 →
        ∃ t, exec .faxPageByteSent s = .next t ∧ t.link.tx = .byte b ∧ t.link.outbound = rest ∧
          t.fax = { s.fax with lineLength := s.fax.lineLength + 1 } ∧
          (s.sys.data = false → t.sys.cts = s.sys.cts) ∧
          (s.sys.data = true → rest.length ≤ 256 → t.sys.cts = true) ∧
          SameBut [.fax, .link, .outbound, .systemPort] s t) ∧
      (∀ c rest, s.link.outbound = 0x10#8 :: c :: rest → s.fax.inPair = false →
        (c = 0x0A#8 → s.fax.lineLength + 2 < minLineLength (s.fax.rung.getD 0) s.fax.scanMs →
          ∃ t, exec .faxPageByteSent s = .next t ∧ t.link.tx = .byte 0#8 ∧
            t.fax = { s.fax with lineLength := s.fax.lineLength + 1 } ∧ SameBut [.fax, .link] s t) ∧
        (c ≠ 0x0A#8 ∨ minLineLength (s.fax.rung.getD 0) s.fax.scanMs ≤ s.fax.lineLength + 2 →
          ∃ t, exec .faxPageByteSent s = .next t ∧ t.link.tx = .byte 0x10#8 ∧ t.link.outbound = c :: rest ∧
            t.fax = { s.fax with inPair := true, lineLength := s.fax.lineLength + 1 } ∧
            SameBut [.fax, .link, .outbound, .systemPort] s t)) ∧
      (∀ b rest, s.link.outbound = b :: rest → s.fax.inPair = true →
        (b ≠ 0x0A#8 →
          ∃ t, exec .faxPageByteSent s = .next t ∧ t.link.tx = .byte b ∧ t.link.outbound = rest ∧
            t.fax = { s.fax with inPair := false, lineLength := s.fax.lineLength + 1,
                                 markOut := decide (b = 0x0C#8) } ∧
            SameBut [.fax, .link, .outbound, .systemPort] s t) ∧
        (b = 0x0A#8 →
          ∃ t, exec .faxPageByteSent s = .next t ∧ t.link.tx = .byte 0x0A#8 ∧ t.link.outbound = rest ∧
            t.fax = { s.fax with inPair := false, lineLength := 0 } ∧ t.LoadedT2 .faxStall 3000 .none ∧
            SameBut [.fax, .link, .outbound, .systemPort, .ccuRest, .timer 2] s t))) ∧
    (s.fax.place = .port → s.fax.markOut = true →
      (s.fax.more = none →
        ∃ t, exec .faxPageByteSent s = .next t ∧ t.fax = { s.fax with markOut := false, markSent := true } ∧
          t.link.tx = .idleFill ∧ t.LoadedT2 .faxDecision 3000 .none ∧
          SameBut [.fax, .link, .ccuRest, .timer 2] s t) ∧
      (∀ m, s.fax.more = some m →
        ∃ t, exec .faxPageByteSent s = .next t ∧ t.fax.phase = some .postpage ∧ t.fax.expect = .pageVerdict ∧
          t.fax.markSent = true ∧ t.link.tx = .fax (.pageEnd (m == .more)) ∧ t.LoadedT2 .faxReply 3000 .none ∧
          SameBut [.fax, .link, .call, .ccuRest, .timer 2] s t)) ∧
    (∀ (e : Entry) (b : Byte), s.fax.place = .store → s.faxOut = some e → s.fax.markOut = false →
      s.fax.position < e.pageEndOf s.fax.page → Mem.read s.store.mem (e.address s.fax.position) = b →
      (s.fax.inPair = false → b ≠ 0x10#8 →
        ∃ t, exec .faxPageByteSent s = .next t ∧ t.link.tx = .byte b ∧
          t.fax = { s.fax with position := s.fax.position + 1, lineLength := s.fax.lineLength + 1 } ∧
          SameBut [.fax, .link] s t) ∧
      (s.fax.inPair = false → b = 0x10#8 →
        (s.fax.position + 1 < e.pageEndOf s.fax.page →
          Mem.read s.store.mem (e.address (s.fax.position + 1)) = 0x0A#8 →
          s.fax.lineLength + 2 < minLineLength (s.fax.rung.getD 0) s.fax.scanMs →
          ∃ t, exec .faxPageByteSent s = .next t ∧ t.link.tx = .byte 0#8 ∧
            t.fax = { s.fax with lineLength := s.fax.lineLength + 1 } ∧ SameBut [.fax, .link] s t) ∧
        (e.pageEndOf s.fax.page ≤ s.fax.position + 1 ∨
            Mem.read s.store.mem (e.address (s.fax.position + 1)) ≠ 0x0A#8 ∨
            minLineLength (s.fax.rung.getD 0) s.fax.scanMs ≤ s.fax.lineLength + 2 →
          ∃ t, exec .faxPageByteSent s = .next t ∧ t.link.tx = .byte 0x10#8 ∧
            t.fax = { s.fax with position := s.fax.position + 1, lineLength := s.fax.lineLength + 1,
                                 inPair := true } ∧ SameBut [.fax, .link] s t)) ∧
      (s.fax.inPair = true →
        ∃ t, exec .faxPageByteSent s = .next t ∧ t.link.tx = .byte b ∧
          t.fax = { s.fax with position := s.fax.position + 1, inPair := false, markOut := decide (b = 0x0C#8),
                               lineLength := if b = 0x0A#8 then 0 else s.fax.lineLength + 1 } ∧
          SameBut [.fax, .link] s t)) ∧
    (∀ e : Entry, s.fax.place = .store → s.faxOut = some e →
      s.fax.markOut = true ∨ e.pageEndOf s.fax.page ≤ s.fax.position →
      ∃ t, exec .faxPageByteSent s = .next t ∧ t.fax.phase = some .postpage ∧ t.fax.expect = .pageVerdict ∧
        t.link.tx = .fax (.pageEnd (decide (s.fax.page < e.pageCount))) ∧ t.LoadedT2 .faxReply 3000 .none ∧
        SameBut [.fax, .link, .call, .ccuRest, .timer 2] s t)

/-- R134, R135, R140, R141, R142, R143, R144, R146: the verdicts on a page, the end of a session, and the repeats. A good page
is entered in the page table and answered with PAGE_OK, or with REFUSE where more are to come after the 32nd of the store; a
bad one is trimmed off the entry and answered with PAGE_BAD, the third of them as the last frame before the call ends; the
sender goes on with the next page, or clears with DONE; a frame without its answer is sent again, at most three times; a
receiver that waits for PAGE_END and a sender that waits for CAPS wait again as often, and send nothing; a repeated PAGE_END
is answered with the verdict already given, and is ignored once the data of the next page has begun; that it is ignored too
where a later CHECK_OK, CHECK_FAIL or DONE is the last frame is the model's choice (log 50). The pump works at the rung of the
session (log 48). That more pages becomes absent at the start of a page, and that a SET after PAGE_BAD keeps the
resolution, are the model's choices (log 50). A verdict that comes before the PAGE_END after it has left answers an earlier
one and is ignored (log 51). -/
def Obligations.FaxVerdicts : Prop :=
  ∀ s : State, s.ccu.call.active = true → s.ccu.call.job = .fax → s.ccu.line = .connected →
    (s.fax.role = some .receiver → s.fax.phase = some .postpage → s.fax.expect = .pageEnd → s.fax.checkSending = false →
      (∀ (id o : Nat), s.fax.pageGood → s.fax.place = .store → s.fax.linkedId = some id → s.fax.pageStart = some o →
        ∃ t, exec (.pageEndReceived 0#8) s = .next t ∧ t.fax.phase = some .clearing ∧ t.fax.expect = .done ∧
          t.fax.accepted = bump 65535 s.fax.accepted ∧ t.link.tx = .fax .pageOk ∧
          t.store.dir = s.store.dir.map (fun e => if e.id = id then
            { e with pageTable := e.pageTable ++ [o], pageCount := e.pageCount + 1 } else e) ∧
          t.LoadedT2 .faxReply 3000 .none ∧
          (∀ p : Port, s.holder = some p.party → t.Noticed p .faxPage) ∧
          SameBut [.fax, .link, .directory, .call, .ccuRest, .timer 2, .notices .panel] s t) ∧
      (∀ (id o : Nat) (e : Entry), s.fax.pageGood → s.fax.place = .store → s.fax.linkedId = some id →
        s.fax.pageStart = some o → s.store.find id = some e → s.fax.page ≠ 32 →
        ∃ t, exec (.pageEndReceived 1#8) s = .next t ∧ t.fax.phase = some .page ∧ t.fax.expect = .pageData ∧
          t.fax.accepted = bump 65535 s.fax.accepted ∧ t.fax.page = bump 65535 s.fax.page ∧ t.fax.attempts = 1 ∧
          t.fax.pageStart = some e.length ∧ t.fax.dataBegun = false ∧ t.link.tx = .fax .pageOk ∧
          t.store.dir = s.store.dir.map (fun e => if e.id = id then
            { e with pageTable := e.pageTable ++ [o], pageCount := e.pageCount + 1 } else e) ∧
          t.LoadedT2 .faxReply 3000 .none ∧
          (∀ p : Port, s.holder = some p.party → t.Noticed p .faxPage) ∧
          SameBut [.fax, .link, .directory, .call, .ccuRest, .timer 2, .notices .panel] s t) ∧
      (s.fax.pageGood → s.fax.place = .port →
        ∃ t, exec (.pageEndReceived 1#8) s = .next t ∧ t.fax.phase = some .page ∧ t.fax.expect = .pageData ∧
          t.link.tx = .fax .pageOk ∧ (t.sys.data = true ∨ t.sys.entryDue = true) ∧
          SameBut [.fax, .link, .call, .ccuRest, .timer 2, .systemPort, .notices .panel] s t) ∧
      (s.fax.pageGood → s.fax.place = .port →
        ∃ t, exec (.pageEndReceived 0#8) s = .next t ∧ t.fax.phase = some .clearing ∧ t.fax.expect = .done ∧
          t.fax.accepted = bump 65535 s.fax.accepted ∧ t.link.tx = .fax .pageOk ∧ t.LoadedT2 .faxReply 3000 .none ∧
          SameBut [.fax, .link, .call, .ccuRest, .timer 2, .notices .panel] s t) ∧
      (¬s.fax.pageGood → s.fax.place = .port → s.fax.attempts < 3 →
        ∃ t, exec (.pageEndReceived 0#8) s = .next t ∧ t.fax.phase = some .setup ∧ t.fax.expect = .set ∧
          t.fax.attempts = s.fax.attempts + 1 ∧ t.link.tx = .fax .pageBad ∧
          SameBut [.fax, .link, .call, .ccuRest, .timer 2, .notices .panel] s t) ∧
      (∀ (id o : Nat) (e : Entry) (more : Byte), ¬s.fax.pageGood → s.fax.place = .store → s.fax.linkedId = some id →
        s.fax.pageStart = some o → s.store.find id = some e → more.toNat ≤ 1 →
        ∃ t, exec (.pageEndReceived more) s = .next t ∧ t.link.tx = .fax .pageBad ∧
          t.store.dir = s.store.dir.map (fun x => if x.id = id then
            { x with granules := x.granules.take (ceilDiv o 1024), length := o } else x) ∧
          t.store.free = s.store.free ++ e.granules.drop (ceilDiv o 1024) ∧
          (s.fax.attempts < 3 → t.fax.phase = some .setup ∧ t.fax.expect = .set ∧
            t.fax.attempts = s.fax.attempts + 1 ∧ t.LoadedT2 .faxReply 3000 .none) ∧
          (3 ≤ s.fax.attempts → t.fax.endAfter = some .faxPageFailed ∧ t.timers.e2.mode = .off) ∧
          SameBut [.fax, .link, .directory, .freeList, .alerts .system, .alerts .panel, .call, .ccuRest, .timer 2,
            .notices .panel] s t) ∧
      (¬s.fax.pageGood → s.fax.place = .port → 3 ≤ s.fax.attempts →
        ∃ t, exec (.pageEndReceived 0#8) s = .next t ∧ t.fax.endAfter = some .faxPageFailed ∧
          t.link.tx = .fax .pageBad ∧ t.timers.e2.mode = .off ∧
          SameBut [.fax, .link, .ccuRest, .timer 2, .notices .panel] s t) ∧
      (∀ (id o : Nat), s.fax.pageGood → s.fax.place = .store → s.fax.linkedId = some id → s.fax.pageStart = some o →
        s.fax.page = 32 →
        ∃ t, exec (.pageEndReceived 1#8) s = .next t ∧ t.fax.endAfter = some .faxPageLimit ∧
          t.fax.accepted = bump 65535 s.fax.accepted ∧ t.link.tx = .fax .refuse ∧ t.timers.e2.mode = .off ∧
          t.store.dir = s.store.dir.map (fun e => if e.id = id then
            { e with pageTable := e.pageTable ++ [o], pageCount := e.pageCount + 1 } else e) ∧
          SameBut [.fax, .link, .directory, .ccuRest, .timer 2, .notices .panel] s t)) ∧
    (∀ (f : FaxFrame) (more : Byte), s.fax.role = some .receiver → s.fax.listens → more.toNat ≤ 1 →
      ¬(s.fax.phase = some .postpage ∧ s.fax.expect = .pageEnd) → s.fax.lastFrame = some f →
      (s.fax.dataBegun = false → f = .pageOk ∨ f = .pageBad ∨ f = .refuse →
        ∃ t, exec (.pageEndReceived more) s = .next t ∧ t.link.tx = .fax f ∧ SameBut [.link] s t) ∧
      (s.fax.dataBegun = true ∨ (f ≠ .pageOk ∧ f ≠ .pageBad ∧ f ≠ .refuse) →
        ∃ t, exec (.pageEndReceived more) s = .next t ∧ SameBut [] s t)) ∧
    (s.fax.role = some .sender → s.fax.phase = some .postpage → s.fax.expect = .pageVerdict → s.fax.stale →
      (∃ t, exec .pageOkReceived s = .next t ∧ SameBut [] s t) ∧
      (∃ t, exec .pageBadReceived s = .next t ∧ SameBut [] s t) ∧
      (∃ t, exec .refuseReceived s = .next t ∧ SameBut [] s t)) ∧
    (s.fax.role = some .sender → s.fax.phase = some .postpage → s.fax.expect = .pageVerdict → ¬s.fax.stale →
      (s.fax.more = some .last →
        ∃ t, exec .pageOkReceived s = .next t ∧ t.fax.phase = some .clearing ∧ t.fax.expect = .done ∧
          t.fax.accepted = bump 65535 s.fax.accepted ∧ t.link.tx = .fax .done ∧ t.LoadedT2 .faxReply 3000 .none ∧
          SameBut [.fax, .link, .call, .ccuRest, .timer 2, .notices .panel] s t) ∧
      (s.fax.more = some .more → s.fax.place = .store →
        ∃ t, exec .pageOkReceived s = .next t ∧ t.fax.phase = some .page ∧
          t.fax.page = bump 65535 s.fax.page ∧ t.fax.attempts = 1 ∧ t.timers.e2.mode = .off ∧
          t.link.tx = .resync (s.fax.rung.getD 0) ∧
          SameBut [.fax, .link, .call, .ccuRest, .timer 2, .notices .panel] s t) ∧
      (s.fax.more = some .more → s.fax.place = .port →
        ∃ t, exec .pageOkReceived s = .next t ∧ t.fax.phase = some .page ∧
          t.fax.page = bump 65535 s.fax.page ∧ t.fax.attempts = 1 ∧ t.fax.more = none ∧
          t.LoadedT2 .faxStall 3000 .none ∧ (t.sys.data = true ∨ t.sys.entryDue = true) ∧
          SameBut [.fax, .link, .call, .ccuRest, .timer 2, .systemPort, .notices .panel] s t) ∧
      (s.fax.attempts < 3 →
        ∃ t, exec .pageBadReceived s = .next t ∧ t.fax.phase = some .check ∧ t.fax.attempts = s.fax.attempts + 1 ∧
          t.fax.rung = some (if s.fax.floor < s.fax.rung.getD 0 then s.fax.rung.getD 0 - 1 else s.fax.rung.getD 0) ∧
          t.fax.retries = 0 ∧ t.pump = { s.pump with rung := t.fax.rung } ∧
          (∀ r, t.fax.rung = some r →
            t.link.tx = .fax (.set r ((s.fax.resolution.getD .normal).code) s.fax.scanMs)) ∧
          t.LoadedT2 .faxReply 3000 .none ∧
          SameBut [.fax, .link, .call, .ccuRest, .timer 2, .pump, .notices .panel] s t) ∧
      (3 ≤ s.fax.attempts → s.ccu.ending = none →
        ∃ t, exec .pageBadReceived s = .next t ∧ CallEnded [] s t .faxPageFailed) ∧
      (s.ccu.ending = none → ∃ t, exec .refuseReceived s = .next t ∧ CallEnded [] s t .faxPageLimit)) ∧
    (s.fax.phase = some .clearing → s.fax.expect = .done →
      (s.fax.role = some .sender → s.ccu.ending = none →
        ∃ t, exec .doneReceived s = .next t ∧ CallEnded [] s t .normal) ∧
      (s.fax.role = some .receiver →
        ∃ t, exec .doneReceived s = .next t ∧ t.fax.endAfter = some .normal ∧ t.link.tx = .fax .done ∧
          t.timers.e2.mode = .off ∧ SameBut [.fax, .link, .ccuRest, .timer 2] s t)) ∧
    (∀ f : FaxFrame, s.link.tx = .fax f →
      (s.fax.endAfter = none →
        ∃ t, exec .faxControlFrameSent s = .next t ∧
          t.link.tx = (match f with | .set r _ _ => .check r | _ => .idleFill) ∧
          t.fax = { s.fax with checkSending := f.hasCheck, unsent := false } ∧ SameBut [.fax, .link] s t) ∧
      (∀ c, s.fax.endAfter = some c → s.ccu.ending = none →
        ∃ t, exec .faxControlFrameSent s = .next t ∧ CallEnded [] s t c)) ∧
    (s.DueT2 .faxReply →
      (∀ f : FaxFrame, s.fax.lastFrame = some f → s.fax.retries < 3 → s.fax.expect ≠ .pageEnd → s.fax.expect ≠ .caps →
        ∃ t, exec .faxControlReplyExpiry s = .next t ∧ t.link.tx = .fax f ∧
          t.fax = { s.fax with retries := s.fax.retries + 1, checkSending := false, unsent := false } ∧
          t.LoadedT2 .faxReply 3000 .none ∧
          SameBut [.fax, .link, .ccuRest, .timer 2] s t) ∧
      (s.fax.retries < 3 → s.fax.expect = .pageEnd ∨ s.fax.expect = .caps →
        ∃ t, exec .faxControlReplyExpiry s = .next t ∧ t.fax = { s.fax with retries := s.fax.retries + 1, unsent := false } ∧
          t.LoadedT2 .faxReply 3000 .none ∧ SameBut [.fax, .ccuRest, .timer 2] s t) ∧
      (3 ≤ s.fax.retries → s.ccu.ending = none →
        ∃ t, exec .faxControlReplyExpiry s = .next t ∧
          CallEnded [] s t (if s.fax.expect = .done then .normal else .faxPageFailed)))
end

