-- ==== Sys2Proof/Laws/State.lean ====
section
/-! SUPPORT. The state beside its named updates: one lemma for each field that an update leaves as it is. -/

namespace Sys2Proof.Machine

@[simp] theorem State.updPort_ccu (s : State) (p : Port) (f : PortState → PortState) :
    (s.updPort p f).ccu = s.ccu := rfl
@[simp] theorem State.updPort_lif (s : State) (p : Port) (f : PortState → PortState) :
    (s.updPort p f).lif = s.lif := rfl
@[simp] theorem State.updPort_timers (s : State) (p : Port) (f : PortState → PortState) :
    (s.updPort p f).timers = s.timers := rfl
@[simp] theorem State.updPort_calendar (s : State) (p : Port) (f : PortState → PortState) :
    (s.updPort p f).calendar = s.calendar := rfl
@[simp] theorem State.updPort_tone (s : State) (p : Port) (f : PortState → PortState) :
    (s.updPort p f).tone = s.tone := rfl
@[simp] theorem State.updPort_rau (s : State) (p : Port) (f : PortState → PortState) :
    (s.updPort p f).rau = s.rau := rfl
@[simp] theorem State.updPort_level (s : State) (p : Port) (f : PortState → PortState) :
    (s.updPort p f).level = s.level := rfl
@[simp] theorem State.updPort_pump (s : State) (p : Port) (f : PortState → PortState) :
    (s.updPort p f).pump = s.pump := rfl
@[simp] theorem State.updPort_link (s : State) (p : Port) (f : PortState → PortState) :
    (s.updPort p f).link = s.link := rfl
@[simp] theorem State.updPort_fax (s : State) (p : Port) (f : PortState → PortState) :
    (s.updPort p f).fax = s.fax := rfl
@[simp] theorem State.updPort_voice (s : State) (p : Port) (f : PortState → PortState) :
    (s.updPort p f).voice = s.voice := rfl
@[simp] theorem State.updPort_settings (s : State) (p : Port) (f : PortState → PortState) :
    (s.updPort p f).settings = s.settings := rfl
@[simp] theorem State.updPort_store (s : State) (p : Port) (f : PortState → PortState) :
    (s.updPort p f).store = s.store := rfl
@[simp] theorem State.updPort_sys (s : State) (p : Port) (f : PortState → PortState) :
    (s.updPort p f).sys = s.sys := rfl
@[simp] theorem State.updPort_pan (s : State) (p : Port) (f : PortState → PortState) :
    (s.updPort p f).pan = s.pan := rfl
@[simp] theorem State.updPort_power (s : State) (p : Port) (f : PortState → PortState) :
    (s.updPort p f).power = s.power := rfl
@[simp] theorem State.updPort_pending (s : State) (p : Port) (f : PortState → PortState) :
    (s.updPort p f).pending = s.pending := rfl
@[simp] theorem State.loadT0_ccu (s : State) (use : OutputUse) (owner : TimerOwner) (a b : Nat) (stopB : Bool) :
    (s.loadT0 use owner a b stopB).ccu = s.ccu := rfl
@[simp] theorem State.loadT0_lif (s : State) (use : OutputUse) (owner : TimerOwner) (a b : Nat) (stopB : Bool) :
    (s.loadT0 use owner a b stopB).lif = s.lif := rfl
@[simp] theorem State.loadT0_calendar (s : State) (use : OutputUse) (owner : TimerOwner) (a b : Nat) (stopB : Bool) :
    (s.loadT0 use owner a b stopB).calendar = s.calendar := rfl
@[simp] theorem State.loadT0_tone (s : State) (use : OutputUse) (owner : TimerOwner) (a b : Nat) (stopB : Bool) :
    (s.loadT0 use owner a b stopB).tone = s.tone := rfl
@[simp] theorem State.loadT0_rau (s : State) (use : OutputUse) (owner : TimerOwner) (a b : Nat) (stopB : Bool) :
    (s.loadT0 use owner a b stopB).rau = s.rau := rfl
@[simp] theorem State.loadT0_level (s : State) (use : OutputUse) (owner : TimerOwner) (a b : Nat) (stopB : Bool) :
    (s.loadT0 use owner a b stopB).level = s.level := rfl
@[simp] theorem State.loadT0_pump (s : State) (use : OutputUse) (owner : TimerOwner) (a b : Nat) (stopB : Bool) :
    (s.loadT0 use owner a b stopB).pump = s.pump := rfl
@[simp] theorem State.loadT0_link (s : State) (use : OutputUse) (owner : TimerOwner) (a b : Nat) (stopB : Bool) :
    (s.loadT0 use owner a b stopB).link = s.link := rfl
@[simp] theorem State.loadT0_fax (s : State) (use : OutputUse) (owner : TimerOwner) (a b : Nat) (stopB : Bool) :
    (s.loadT0 use owner a b stopB).fax = s.fax := rfl
@[simp] theorem State.loadT0_voice (s : State) (use : OutputUse) (owner : TimerOwner) (a b : Nat) (stopB : Bool) :
    (s.loadT0 use owner a b stopB).voice = s.voice := rfl
@[simp] theorem State.loadT0_settings (s : State) (use : OutputUse) (owner : TimerOwner) (a b : Nat) (stopB : Bool) :
    (s.loadT0 use owner a b stopB).settings = s.settings := rfl
@[simp] theorem State.loadT0_store (s : State) (use : OutputUse) (owner : TimerOwner) (a b : Nat) (stopB : Bool) :
    (s.loadT0 use owner a b stopB).store = s.store := rfl
@[simp] theorem State.loadT0_ports (s : State) (use : OutputUse) (owner : TimerOwner) (a b : Nat) (stopB : Bool) :
    (s.loadT0 use owner a b stopB).ports = s.ports := rfl
@[simp] theorem State.loadT0_sys (s : State) (use : OutputUse) (owner : TimerOwner) (a b : Nat) (stopB : Bool) :
    (s.loadT0 use owner a b stopB).sys = s.sys := rfl
@[simp] theorem State.loadT0_pan (s : State) (use : OutputUse) (owner : TimerOwner) (a b : Nat) (stopB : Bool) :
    (s.loadT0 use owner a b stopB).pan = s.pan := rfl
@[simp] theorem State.loadT0_power (s : State) (use : OutputUse) (owner : TimerOwner) (a b : Nat) (stopB : Bool) :
    (s.loadT0 use owner a b stopB).power = s.power := rfl
@[simp] theorem State.loadT0_pending (s : State) (use : OutputUse) (owner : TimerOwner) (a b : Nat) (stopB : Bool) :
    (s.loadT0 use owner a b stopB).pending = s.pending := rfl
@[simp] theorem State.stopT0_ccu (s : State) :
    (s.stopT0).ccu = s.ccu := rfl
@[simp] theorem State.stopT0_lif (s : State) :
    (s.stopT0).lif = s.lif := rfl
@[simp] theorem State.stopT0_calendar (s : State) :
    (s.stopT0).calendar = s.calendar := rfl
@[simp] theorem State.stopT0_tone (s : State) :
    (s.stopT0).tone = s.tone := rfl
@[simp] theorem State.stopT0_rau (s : State) :
    (s.stopT0).rau = s.rau := rfl
@[simp] theorem State.stopT0_level (s : State) :
    (s.stopT0).level = s.level := rfl
@[simp] theorem State.stopT0_pump (s : State) :
    (s.stopT0).pump = s.pump := rfl
@[simp] theorem State.stopT0_link (s : State) :
    (s.stopT0).link = s.link := rfl
@[simp] theorem State.stopT0_fax (s : State) :
    (s.stopT0).fax = s.fax := rfl
@[simp] theorem State.stopT0_voice (s : State) :
    (s.stopT0).voice = s.voice := rfl
@[simp] theorem State.stopT0_settings (s : State) :
    (s.stopT0).settings = s.settings := rfl
@[simp] theorem State.stopT0_store (s : State) :
    (s.stopT0).store = s.store := rfl
@[simp] theorem State.stopT0_ports (s : State) :
    (s.stopT0).ports = s.ports := rfl
@[simp] theorem State.stopT0_sys (s : State) :
    (s.stopT0).sys = s.sys := rfl
@[simp] theorem State.stopT0_pan (s : State) :
    (s.stopT0).pan = s.pan := rfl
@[simp] theorem State.stopT0_power (s : State) :
    (s.stopT0).power = s.power := rfl
@[simp] theorem State.stopT0_pending (s : State) :
    (s.stopT0).pending = s.pending := rfl
@[simp] theorem State.loadT1_ccu (s : State) :
    (s.loadT1).ccu = s.ccu := rfl
@[simp] theorem State.loadT1_lif (s : State) :
    (s.loadT1).lif = s.lif := rfl
@[simp] theorem State.loadT1_calendar (s : State) :
    (s.loadT1).calendar = s.calendar := rfl
@[simp] theorem State.loadT1_tone (s : State) :
    (s.loadT1).tone = s.tone := rfl
@[simp] theorem State.loadT1_rau (s : State) :
    (s.loadT1).rau = s.rau := rfl
@[simp] theorem State.loadT1_level (s : State) :
    (s.loadT1).level = s.level := rfl
@[simp] theorem State.loadT1_pump (s : State) :
    (s.loadT1).pump = s.pump := rfl
@[simp] theorem State.loadT1_link (s : State) :
    (s.loadT1).link = s.link := rfl
@[simp] theorem State.loadT1_fax (s : State) :
    (s.loadT1).fax = s.fax := rfl
@[simp] theorem State.loadT1_voice (s : State) :
    (s.loadT1).voice = s.voice := rfl
@[simp] theorem State.loadT1_settings (s : State) :
    (s.loadT1).settings = s.settings := rfl
@[simp] theorem State.loadT1_store (s : State) :
    (s.loadT1).store = s.store := rfl
@[simp] theorem State.loadT1_ports (s : State) :
    (s.loadT1).ports = s.ports := rfl
@[simp] theorem State.loadT1_sys (s : State) :
    (s.loadT1).sys = s.sys := rfl
@[simp] theorem State.loadT1_pan (s : State) :
    (s.loadT1).pan = s.pan := rfl
@[simp] theorem State.loadT1_power (s : State) :
    (s.loadT1).power = s.power := rfl
@[simp] theorem State.loadT1_pending (s : State) :
    (s.loadT1).pending = s.pending := rfl
@[simp] theorem State.loadT2_lif (s : State) (use : T2Use) (ms : Nat) (restart : RestartSource) :
    (s.loadT2 use ms restart).lif = s.lif := rfl
@[simp] theorem State.loadT2_calendar (s : State) (use : T2Use) (ms : Nat) (restart : RestartSource) :
    (s.loadT2 use ms restart).calendar = s.calendar := rfl
@[simp] theorem State.loadT2_tone (s : State) (use : T2Use) (ms : Nat) (restart : RestartSource) :
    (s.loadT2 use ms restart).tone = s.tone := rfl
@[simp] theorem State.loadT2_rau (s : State) (use : T2Use) (ms : Nat) (restart : RestartSource) :
    (s.loadT2 use ms restart).rau = s.rau := rfl
@[simp] theorem State.loadT2_level (s : State) (use : T2Use) (ms : Nat) (restart : RestartSource) :
    (s.loadT2 use ms restart).level = s.level := rfl
@[simp] theorem State.loadT2_pump (s : State) (use : T2Use) (ms : Nat) (restart : RestartSource) :
    (s.loadT2 use ms restart).pump = s.pump := rfl
@[simp] theorem State.loadT2_link (s : State) (use : T2Use) (ms : Nat) (restart : RestartSource) :
    (s.loadT2 use ms restart).link = s.link := rfl
@[simp] theorem State.loadT2_fax (s : State) (use : T2Use) (ms : Nat) (restart : RestartSource) :
    (s.loadT2 use ms restart).fax = s.fax := rfl
@[simp] theorem State.loadT2_voice (s : State) (use : T2Use) (ms : Nat) (restart : RestartSource) :
    (s.loadT2 use ms restart).voice = s.voice := rfl
@[simp] theorem State.loadT2_settings (s : State) (use : T2Use) (ms : Nat) (restart : RestartSource) :
    (s.loadT2 use ms restart).settings = s.settings := rfl
@[simp] theorem State.loadT2_store (s : State) (use : T2Use) (ms : Nat) (restart : RestartSource) :
    (s.loadT2 use ms restart).store = s.store := rfl
@[simp] theorem State.loadT2_ports (s : State) (use : T2Use) (ms : Nat) (restart : RestartSource) :
    (s.loadT2 use ms restart).ports = s.ports := rfl
@[simp] theorem State.loadT2_sys (s : State) (use : T2Use) (ms : Nat) (restart : RestartSource) :
    (s.loadT2 use ms restart).sys = s.sys := rfl
@[simp] theorem State.loadT2_pan (s : State) (use : T2Use) (ms : Nat) (restart : RestartSource) :
    (s.loadT2 use ms restart).pan = s.pan := rfl
@[simp] theorem State.loadT2_power (s : State) (use : T2Use) (ms : Nat) (restart : RestartSource) :
    (s.loadT2 use ms restart).power = s.power := rfl
@[simp] theorem State.loadT2_pending (s : State) (use : T2Use) (ms : Nat) (restart : RestartSource) :
    (s.loadT2 use ms restart).pending = s.pending := rfl
@[simp] theorem State.stopT2_lif (s : State) :
    (s.stopT2).lif = s.lif := rfl
@[simp] theorem State.stopT2_calendar (s : State) :
    (s.stopT2).calendar = s.calendar := rfl
@[simp] theorem State.stopT2_tone (s : State) :
    (s.stopT2).tone = s.tone := rfl
@[simp] theorem State.stopT2_rau (s : State) :
    (s.stopT2).rau = s.rau := rfl
@[simp] theorem State.stopT2_level (s : State) :
    (s.stopT2).level = s.level := rfl
@[simp] theorem State.stopT2_pump (s : State) :
    (s.stopT2).pump = s.pump := rfl
@[simp] theorem State.stopT2_link (s : State) :
    (s.stopT2).link = s.link := rfl
@[simp] theorem State.stopT2_fax (s : State) :
    (s.stopT2).fax = s.fax := rfl
@[simp] theorem State.stopT2_voice (s : State) :
    (s.stopT2).voice = s.voice := rfl
@[simp] theorem State.stopT2_settings (s : State) :
    (s.stopT2).settings = s.settings := rfl
@[simp] theorem State.stopT2_store (s : State) :
    (s.stopT2).store = s.store := rfl
@[simp] theorem State.stopT2_ports (s : State) :
    (s.stopT2).ports = s.ports := rfl
@[simp] theorem State.stopT2_sys (s : State) :
    (s.stopT2).sys = s.sys := rfl
@[simp] theorem State.stopT2_pan (s : State) :
    (s.stopT2).pan = s.pan := rfl
@[simp] theorem State.stopT2_power (s : State) :
    (s.stopT2).power = s.power := rfl
@[simp] theorem State.stopT2_pending (s : State) :
    (s.stopT2).pending = s.pending := rfl
@[simp] theorem State.loadT3_ccu (s : State) (ms : Nat) :
    (s.loadT3 ms).ccu = s.ccu := rfl
@[simp] theorem State.loadT3_lif (s : State) (ms : Nat) :
    (s.loadT3 ms).lif = s.lif := rfl
@[simp] theorem State.loadT3_calendar (s : State) (ms : Nat) :
    (s.loadT3 ms).calendar = s.calendar := rfl
@[simp] theorem State.loadT3_tone (s : State) (ms : Nat) :
    (s.loadT3 ms).tone = s.tone := rfl
@[simp] theorem State.loadT3_rau (s : State) (ms : Nat) :
    (s.loadT3 ms).rau = s.rau := rfl
@[simp] theorem State.loadT3_level (s : State) (ms : Nat) :
    (s.loadT3 ms).level = s.level := rfl
@[simp] theorem State.loadT3_pump (s : State) (ms : Nat) :
    (s.loadT3 ms).pump = s.pump := rfl
@[simp] theorem State.loadT3_link (s : State) (ms : Nat) :
    (s.loadT3 ms).link = s.link := rfl
@[simp] theorem State.loadT3_fax (s : State) (ms : Nat) :
    (s.loadT3 ms).fax = s.fax := rfl
@[simp] theorem State.loadT3_voice (s : State) (ms : Nat) :
    (s.loadT3 ms).voice = s.voice := rfl
@[simp] theorem State.loadT3_settings (s : State) (ms : Nat) :
    (s.loadT3 ms).settings = s.settings := rfl
@[simp] theorem State.loadT3_store (s : State) (ms : Nat) :
    (s.loadT3 ms).store = s.store := rfl
@[simp] theorem State.loadT3_ports (s : State) (ms : Nat) :
    (s.loadT3 ms).ports = s.ports := rfl
@[simp] theorem State.loadT3_sys (s : State) (ms : Nat) :
    (s.loadT3 ms).sys = s.sys := rfl
@[simp] theorem State.loadT3_pan (s : State) (ms : Nat) :
    (s.loadT3 ms).pan = s.pan := rfl
@[simp] theorem State.loadT3_power (s : State) (ms : Nat) :
    (s.loadT3 ms).power = s.power := rfl
@[simp] theorem State.loadT3_pending (s : State) (ms : Nat) :
    (s.loadT3 ms).pending = s.pending := rfl
@[simp] theorem State.stopT3_ccu (s : State) :
    (s.stopT3).ccu = s.ccu := rfl
@[simp] theorem State.stopT3_lif (s : State) :
    (s.stopT3).lif = s.lif := rfl
@[simp] theorem State.stopT3_calendar (s : State) :
    (s.stopT3).calendar = s.calendar := rfl
@[simp] theorem State.stopT3_tone (s : State) :
    (s.stopT3).tone = s.tone := rfl
@[simp] theorem State.stopT3_rau (s : State) :
    (s.stopT3).rau = s.rau := rfl
@[simp] theorem State.stopT3_level (s : State) :
    (s.stopT3).level = s.level := rfl
@[simp] theorem State.stopT3_pump (s : State) :
    (s.stopT3).pump = s.pump := rfl
@[simp] theorem State.stopT3_link (s : State) :
    (s.stopT3).link = s.link := rfl
@[simp] theorem State.stopT3_fax (s : State) :
    (s.stopT3).fax = s.fax := rfl
@[simp] theorem State.stopT3_voice (s : State) :
    (s.stopT3).voice = s.voice := rfl
@[simp] theorem State.stopT3_settings (s : State) :
    (s.stopT3).settings = s.settings := rfl
@[simp] theorem State.stopT3_store (s : State) :
    (s.stopT3).store = s.store := rfl
@[simp] theorem State.stopT3_ports (s : State) :
    (s.stopT3).ports = s.ports := rfl
@[simp] theorem State.stopT3_sys (s : State) :
    (s.stopT3).sys = s.sys := rfl
@[simp] theorem State.stopT3_pan (s : State) :
    (s.stopT3).pan = s.pan := rfl
@[simp] theorem State.stopT3_power (s : State) :
    (s.stopT3).power = s.power := rfl
@[simp] theorem State.stopT3_pending (s : State) :
    (s.stopT3).pending = s.pending := rfl
@[simp] theorem State.loadT4_ccu (s : State) :
    (s.loadT4).ccu = s.ccu := rfl
@[simp] theorem State.loadT4_lif (s : State) :
    (s.loadT4).lif = s.lif := rfl
@[simp] theorem State.loadT4_calendar (s : State) :
    (s.loadT4).calendar = s.calendar := rfl
@[simp] theorem State.loadT4_tone (s : State) :
    (s.loadT4).tone = s.tone := rfl
@[simp] theorem State.loadT4_rau (s : State) :
    (s.loadT4).rau = s.rau := rfl
@[simp] theorem State.loadT4_level (s : State) :
    (s.loadT4).level = s.level := rfl
@[simp] theorem State.loadT4_pump (s : State) :
    (s.loadT4).pump = s.pump := rfl
@[simp] theorem State.loadT4_link (s : State) :
    (s.loadT4).link = s.link := rfl
@[simp] theorem State.loadT4_fax (s : State) :
    (s.loadT4).fax = s.fax := rfl
@[simp] theorem State.loadT4_voice (s : State) :
    (s.loadT4).voice = s.voice := rfl
@[simp] theorem State.loadT4_settings (s : State) :
    (s.loadT4).settings = s.settings := rfl
@[simp] theorem State.loadT4_store (s : State) :
    (s.loadT4).store = s.store := rfl
@[simp] theorem State.loadT4_ports (s : State) :
    (s.loadT4).ports = s.ports := rfl
@[simp] theorem State.loadT4_sys (s : State) :
    (s.loadT4).sys = s.sys := rfl
@[simp] theorem State.loadT4_pan (s : State) :
    (s.loadT4).pan = s.pan := rfl
@[simp] theorem State.loadT4_power (s : State) :
    (s.loadT4).power = s.power := rfl
@[simp] theorem State.loadT4_pending (s : State) :
    (s.loadT4).pending = s.pending := rfl
@[simp] theorem State.stopT4_ccu (s : State) :
    (s.stopT4).ccu = s.ccu := rfl
@[simp] theorem State.stopT4_lif (s : State) :
    (s.stopT4).lif = s.lif := rfl
@[simp] theorem State.stopT4_calendar (s : State) :
    (s.stopT4).calendar = s.calendar := rfl
@[simp] theorem State.stopT4_tone (s : State) :
    (s.stopT4).tone = s.tone := rfl
@[simp] theorem State.stopT4_rau (s : State) :
    (s.stopT4).rau = s.rau := rfl
@[simp] theorem State.stopT4_level (s : State) :
    (s.stopT4).level = s.level := rfl
@[simp] theorem State.stopT4_pump (s : State) :
    (s.stopT4).pump = s.pump := rfl
@[simp] theorem State.stopT4_link (s : State) :
    (s.stopT4).link = s.link := rfl
@[simp] theorem State.stopT4_fax (s : State) :
    (s.stopT4).fax = s.fax := rfl
@[simp] theorem State.stopT4_voice (s : State) :
    (s.stopT4).voice = s.voice := rfl
@[simp] theorem State.stopT4_settings (s : State) :
    (s.stopT4).settings = s.settings := rfl
@[simp] theorem State.stopT4_store (s : State) :
    (s.stopT4).store = s.store := rfl
@[simp] theorem State.stopT4_ports (s : State) :
    (s.stopT4).ports = s.ports := rfl
@[simp] theorem State.stopT4_sys (s : State) :
    (s.stopT4).sys = s.sys := rfl
@[simp] theorem State.stopT4_pan (s : State) :
    (s.stopT4).pan = s.pan := rfl
@[simp] theorem State.stopT4_power (s : State) :
    (s.stopT4).power = s.power := rfl
@[simp] theorem State.stopT4_pending (s : State) :
    (s.stopT4).pending = s.pending := rfl
@[simp] theorem State.loadT5_ccu (s : State) :
    (s.loadT5).ccu = s.ccu := rfl
@[simp] theorem State.loadT5_lif (s : State) :
    (s.loadT5).lif = s.lif := rfl
@[simp] theorem State.loadT5_calendar (s : State) :
    (s.loadT5).calendar = s.calendar := rfl
@[simp] theorem State.loadT5_tone (s : State) :
    (s.loadT5).tone = s.tone := rfl
@[simp] theorem State.loadT5_rau (s : State) :
    (s.loadT5).rau = s.rau := rfl
@[simp] theorem State.loadT5_level (s : State) :
    (s.loadT5).level = s.level := rfl
@[simp] theorem State.loadT5_pump (s : State) :
    (s.loadT5).pump = s.pump := rfl
@[simp] theorem State.loadT5_link (s : State) :
    (s.loadT5).link = s.link := rfl
@[simp] theorem State.loadT5_fax (s : State) :
    (s.loadT5).fax = s.fax := rfl
@[simp] theorem State.loadT5_voice (s : State) :
    (s.loadT5).voice = s.voice := rfl
@[simp] theorem State.loadT5_settings (s : State) :
    (s.loadT5).settings = s.settings := rfl
@[simp] theorem State.loadT5_store (s : State) :
    (s.loadT5).store = s.store := rfl
@[simp] theorem State.loadT5_ports (s : State) :
    (s.loadT5).ports = s.ports := rfl
@[simp] theorem State.loadT5_sys (s : State) :
    (s.loadT5).sys = s.sys := rfl
@[simp] theorem State.loadT5_pan (s : State) :
    (s.loadT5).pan = s.pan := rfl
@[simp] theorem State.loadT5_power (s : State) :
    (s.loadT5).power = s.power := rfl
@[simp] theorem State.loadT5_pending (s : State) :
    (s.loadT5).pending = s.pending := rfl
@[simp] theorem State.stopT5_ccu (s : State) :
    (s.stopT5).ccu = s.ccu := rfl
@[simp] theorem State.stopT5_lif (s : State) :
    (s.stopT5).lif = s.lif := rfl
@[simp] theorem State.stopT5_calendar (s : State) :
    (s.stopT5).calendar = s.calendar := rfl
@[simp] theorem State.stopT5_tone (s : State) :
    (s.stopT5).tone = s.tone := rfl
@[simp] theorem State.stopT5_rau (s : State) :
    (s.stopT5).rau = s.rau := rfl
@[simp] theorem State.stopT5_level (s : State) :
    (s.stopT5).level = s.level := rfl
@[simp] theorem State.stopT5_pump (s : State) :
    (s.stopT5).pump = s.pump := rfl
@[simp] theorem State.stopT5_link (s : State) :
    (s.stopT5).link = s.link := rfl
@[simp] theorem State.stopT5_fax (s : State) :
    (s.stopT5).fax = s.fax := rfl
@[simp] theorem State.stopT5_voice (s : State) :
    (s.stopT5).voice = s.voice := rfl
@[simp] theorem State.stopT5_settings (s : State) :
    (s.stopT5).settings = s.settings := rfl
@[simp] theorem State.stopT5_store (s : State) :
    (s.stopT5).store = s.store := rfl
@[simp] theorem State.stopT5_ports (s : State) :
    (s.stopT5).ports = s.ports := rfl
@[simp] theorem State.stopT5_sys (s : State) :
    (s.stopT5).sys = s.sys := rfl
@[simp] theorem State.stopT5_pan (s : State) :
    (s.stopT5).pan = s.pan := rfl
@[simp] theorem State.stopT5_power (s : State) :
    (s.stopT5).power = s.power := rfl
@[simp] theorem State.stopT5_pending (s : State) :
    (s.stopT5).pending = s.pending := rfl
@[simp] theorem State.loadT6_ccu (s : State) (path : AudioPath) :
    (s.loadT6 path).ccu = s.ccu := rfl
@[simp] theorem State.loadT6_lif (s : State) (path : AudioPath) :
    (s.loadT6 path).lif = s.lif := rfl
@[simp] theorem State.loadT6_calendar (s : State) (path : AudioPath) :
    (s.loadT6 path).calendar = s.calendar := rfl
@[simp] theorem State.loadT6_tone (s : State) (path : AudioPath) :
    (s.loadT6 path).tone = s.tone := rfl
@[simp] theorem State.loadT6_rau (s : State) (path : AudioPath) :
    (s.loadT6 path).rau = s.rau := rfl
@[simp] theorem State.loadT6_level (s : State) (path : AudioPath) :
    (s.loadT6 path).level = s.level := rfl
@[simp] theorem State.loadT6_pump (s : State) (path : AudioPath) :
    (s.loadT6 path).pump = s.pump := rfl
@[simp] theorem State.loadT6_link (s : State) (path : AudioPath) :
    (s.loadT6 path).link = s.link := rfl
@[simp] theorem State.loadT6_fax (s : State) (path : AudioPath) :
    (s.loadT6 path).fax = s.fax := rfl
@[simp] theorem State.loadT6_voice (s : State) (path : AudioPath) :
    (s.loadT6 path).voice = s.voice := rfl
@[simp] theorem State.loadT6_settings (s : State) (path : AudioPath) :
    (s.loadT6 path).settings = s.settings := rfl
@[simp] theorem State.loadT6_store (s : State) (path : AudioPath) :
    (s.loadT6 path).store = s.store := rfl
@[simp] theorem State.loadT6_ports (s : State) (path : AudioPath) :
    (s.loadT6 path).ports = s.ports := rfl
@[simp] theorem State.loadT6_sys (s : State) (path : AudioPath) :
    (s.loadT6 path).sys = s.sys := rfl
@[simp] theorem State.loadT6_pan (s : State) (path : AudioPath) :
    (s.loadT6 path).pan = s.pan := rfl
@[simp] theorem State.loadT6_power (s : State) (path : AudioPath) :
    (s.loadT6 path).power = s.power := rfl
@[simp] theorem State.loadT6_pending (s : State) (path : AudioPath) :
    (s.loadT6 path).pending = s.pending := rfl
@[simp] theorem State.stopT6_ccu (s : State) :
    (s.stopT6).ccu = s.ccu := rfl
@[simp] theorem State.stopT6_lif (s : State) :
    (s.stopT6).lif = s.lif := rfl
@[simp] theorem State.stopT6_calendar (s : State) :
    (s.stopT6).calendar = s.calendar := rfl
@[simp] theorem State.stopT6_tone (s : State) :
    (s.stopT6).tone = s.tone := rfl
@[simp] theorem State.stopT6_rau (s : State) :
    (s.stopT6).rau = s.rau := rfl
@[simp] theorem State.stopT6_level (s : State) :
    (s.stopT6).level = s.level := rfl
@[simp] theorem State.stopT6_pump (s : State) :
    (s.stopT6).pump = s.pump := rfl
@[simp] theorem State.stopT6_link (s : State) :
    (s.stopT6).link = s.link := rfl
@[simp] theorem State.stopT6_fax (s : State) :
    (s.stopT6).fax = s.fax := rfl
@[simp] theorem State.stopT6_voice (s : State) :
    (s.stopT6).voice = s.voice := rfl
@[simp] theorem State.stopT6_settings (s : State) :
    (s.stopT6).settings = s.settings := rfl
@[simp] theorem State.stopT6_store (s : State) :
    (s.stopT6).store = s.store := rfl
@[simp] theorem State.stopT6_ports (s : State) :
    (s.stopT6).ports = s.ports := rfl
@[simp] theorem State.stopT6_sys (s : State) :
    (s.stopT6).sys = s.sys := rfl
@[simp] theorem State.stopT6_pan (s : State) :
    (s.stopT6).pan = s.pan := rfl
@[simp] theorem State.stopT6_power (s : State) :
    (s.stopT6).power = s.power := rfl
@[simp] theorem State.stopT6_pending (s : State) :
    (s.stopT6).pending = s.pending := rfl
@[simp] theorem State.raiseAt_ccu (s : State) (p : Port) (x : Source) :
    (s.raiseAt p x).ccu = s.ccu := rfl
@[simp] theorem State.raiseAt_lif (s : State) (p : Port) (x : Source) :
    (s.raiseAt p x).lif = s.lif := rfl
@[simp] theorem State.raiseAt_timers (s : State) (p : Port) (x : Source) :
    (s.raiseAt p x).timers = s.timers := rfl
@[simp] theorem State.raiseAt_calendar (s : State) (p : Port) (x : Source) :
    (s.raiseAt p x).calendar = s.calendar := rfl
@[simp] theorem State.raiseAt_tone (s : State) (p : Port) (x : Source) :
    (s.raiseAt p x).tone = s.tone := rfl
@[simp] theorem State.raiseAt_rau (s : State) (p : Port) (x : Source) :
    (s.raiseAt p x).rau = s.rau := rfl
@[simp] theorem State.raiseAt_level (s : State) (p : Port) (x : Source) :
    (s.raiseAt p x).level = s.level := rfl
@[simp] theorem State.raiseAt_pump (s : State) (p : Port) (x : Source) :
    (s.raiseAt p x).pump = s.pump := rfl
@[simp] theorem State.raiseAt_link (s : State) (p : Port) (x : Source) :
    (s.raiseAt p x).link = s.link := rfl
@[simp] theorem State.raiseAt_fax (s : State) (p : Port) (x : Source) :
    (s.raiseAt p x).fax = s.fax := rfl
@[simp] theorem State.raiseAt_voice (s : State) (p : Port) (x : Source) :
    (s.raiseAt p x).voice = s.voice := rfl
@[simp] theorem State.raiseAt_settings (s : State) (p : Port) (x : Source) :
    (s.raiseAt p x).settings = s.settings := rfl
@[simp] theorem State.raiseAt_store (s : State) (p : Port) (x : Source) :
    (s.raiseAt p x).store = s.store := rfl
@[simp] theorem State.raiseAt_sys (s : State) (p : Port) (x : Source) :
    (s.raiseAt p x).sys = s.sys := rfl
@[simp] theorem State.raiseAt_pan (s : State) (p : Port) (x : Source) :
    (s.raiseAt p x).pan = s.pan := rfl
@[simp] theorem State.raiseAt_power (s : State) (p : Port) (x : Source) :
    (s.raiseAt p x).power = s.power := rfl
@[simp] theorem State.raiseAt_pending (s : State) (p : Port) (x : Source) :
    (s.raiseAt p x).pending = s.pending := rfl
@[simp] theorem State.raiseBoth_ccu (s : State) (x : Source) :
    (s.raiseBoth x).ccu = s.ccu := rfl
@[simp] theorem State.raiseBoth_lif (s : State) (x : Source) :
    (s.raiseBoth x).lif = s.lif := rfl
@[simp] theorem State.raiseBoth_timers (s : State) (x : Source) :
    (s.raiseBoth x).timers = s.timers := rfl
@[simp] theorem State.raiseBoth_calendar (s : State) (x : Source) :
    (s.raiseBoth x).calendar = s.calendar := rfl
@[simp] theorem State.raiseBoth_tone (s : State) (x : Source) :
    (s.raiseBoth x).tone = s.tone := rfl
@[simp] theorem State.raiseBoth_rau (s : State) (x : Source) :
    (s.raiseBoth x).rau = s.rau := rfl
@[simp] theorem State.raiseBoth_level (s : State) (x : Source) :
    (s.raiseBoth x).level = s.level := rfl
@[simp] theorem State.raiseBoth_pump (s : State) (x : Source) :
    (s.raiseBoth x).pump = s.pump := rfl
@[simp] theorem State.raiseBoth_link (s : State) (x : Source) :
    (s.raiseBoth x).link = s.link := rfl
@[simp] theorem State.raiseBoth_fax (s : State) (x : Source) :
    (s.raiseBoth x).fax = s.fax := rfl
@[simp] theorem State.raiseBoth_voice (s : State) (x : Source) :
    (s.raiseBoth x).voice = s.voice := rfl
@[simp] theorem State.raiseBoth_settings (s : State) (x : Source) :
    (s.raiseBoth x).settings = s.settings := rfl
@[simp] theorem State.raiseBoth_store (s : State) (x : Source) :
    (s.raiseBoth x).store = s.store := rfl
@[simp] theorem State.raiseBoth_sys (s : State) (x : Source) :
    (s.raiseBoth x).sys = s.sys := rfl
@[simp] theorem State.raiseBoth_pan (s : State) (x : Source) :
    (s.raiseBoth x).pan = s.pan := rfl
@[simp] theorem State.raiseBoth_power (s : State) (x : Source) :
    (s.raiseBoth x).power = s.power := rfl
@[simp] theorem State.raiseBoth_pending (s : State) (x : Source) :
    (s.raiseBoth x).pending = s.pending := rfl
@[simp] theorem State.send_ccu (s : State) (p : Port) (a : Answer) :
    (s.send p a).ccu = s.ccu := rfl
@[simp] theorem State.send_lif (s : State) (p : Port) (a : Answer) :
    (s.send p a).lif = s.lif := rfl
@[simp] theorem State.send_timers (s : State) (p : Port) (a : Answer) :
    (s.send p a).timers = s.timers := rfl
@[simp] theorem State.send_calendar (s : State) (p : Port) (a : Answer) :
    (s.send p a).calendar = s.calendar := rfl
@[simp] theorem State.send_tone (s : State) (p : Port) (a : Answer) :
    (s.send p a).tone = s.tone := rfl
@[simp] theorem State.send_rau (s : State) (p : Port) (a : Answer) :
    (s.send p a).rau = s.rau := rfl
@[simp] theorem State.send_level (s : State) (p : Port) (a : Answer) :
    (s.send p a).level = s.level := rfl
@[simp] theorem State.send_pump (s : State) (p : Port) (a : Answer) :
    (s.send p a).pump = s.pump := rfl
@[simp] theorem State.send_link (s : State) (p : Port) (a : Answer) :
    (s.send p a).link = s.link := rfl
@[simp] theorem State.send_fax (s : State) (p : Port) (a : Answer) :
    (s.send p a).fax = s.fax := rfl
@[simp] theorem State.send_voice (s : State) (p : Port) (a : Answer) :
    (s.send p a).voice = s.voice := rfl
@[simp] theorem State.send_settings (s : State) (p : Port) (a : Answer) :
    (s.send p a).settings = s.settings := rfl
@[simp] theorem State.send_store (s : State) (p : Port) (a : Answer) :
    (s.send p a).store = s.store := rfl
@[simp] theorem State.send_sys (s : State) (p : Port) (a : Answer) :
    (s.send p a).sys = s.sys := rfl
@[simp] theorem State.send_pan (s : State) (p : Port) (a : Answer) :
    (s.send p a).pan = s.pan := rfl
@[simp] theorem State.send_power (s : State) (p : Port) (a : Answer) :
    (s.send p a).power = s.power := rfl
@[simp] theorem State.send_pending (s : State) (p : Port) (a : Answer) :
    (s.send p a).pending = s.pending := rfl
@[simp] theorem State.reply_ccu (s : State) (p : Port) (code : Byte) (r : Reply) :
    (s.reply p code r).ccu = s.ccu := rfl
@[simp] theorem State.reply_lif (s : State) (p : Port) (code : Byte) (r : Reply) :
    (s.reply p code r).lif = s.lif := rfl
@[simp] theorem State.reply_timers (s : State) (p : Port) (code : Byte) (r : Reply) :
    (s.reply p code r).timers = s.timers := rfl
@[simp] theorem State.reply_calendar (s : State) (p : Port) (code : Byte) (r : Reply) :
    (s.reply p code r).calendar = s.calendar := rfl
@[simp] theorem State.reply_tone (s : State) (p : Port) (code : Byte) (r : Reply) :
    (s.reply p code r).tone = s.tone := rfl
@[simp] theorem State.reply_rau (s : State) (p : Port) (code : Byte) (r : Reply) :
    (s.reply p code r).rau = s.rau := rfl
@[simp] theorem State.reply_level (s : State) (p : Port) (code : Byte) (r : Reply) :
    (s.reply p code r).level = s.level := rfl
@[simp] theorem State.reply_pump (s : State) (p : Port) (code : Byte) (r : Reply) :
    (s.reply p code r).pump = s.pump := rfl
@[simp] theorem State.reply_link (s : State) (p : Port) (code : Byte) (r : Reply) :
    (s.reply p code r).link = s.link := rfl
@[simp] theorem State.reply_fax (s : State) (p : Port) (code : Byte) (r : Reply) :
    (s.reply p code r).fax = s.fax := rfl
@[simp] theorem State.reply_voice (s : State) (p : Port) (code : Byte) (r : Reply) :
    (s.reply p code r).voice = s.voice := rfl
@[simp] theorem State.reply_settings (s : State) (p : Port) (code : Byte) (r : Reply) :
    (s.reply p code r).settings = s.settings := rfl
@[simp] theorem State.reply_store (s : State) (p : Port) (code : Byte) (r : Reply) :
    (s.reply p code r).store = s.store := rfl
@[simp] theorem State.reply_sys (s : State) (p : Port) (code : Byte) (r : Reply) :
    (s.reply p code r).sys = s.sys := rfl
@[simp] theorem State.reply_pan (s : State) (p : Port) (code : Byte) (r : Reply) :
    (s.reply p code r).pan = s.pan := rfl
@[simp] theorem State.reply_power (s : State) (p : Port) (code : Byte) (r : Reply) :
    (s.reply p code r).power = s.power := rfl
@[simp] theorem State.reply_pending (s : State) (p : Port) (code : Byte) (r : Reply) :
    (s.reply p code r).pending = s.pending := rfl
@[simp] theorem State.recordAlert_ccu (s : State) (k : AlertKind) (p : Port) :
    (s.recordAlert k p).ccu = s.ccu := rfl
@[simp] theorem State.recordAlert_lif (s : State) (k : AlertKind) (p : Port) :
    (s.recordAlert k p).lif = s.lif := rfl
@[simp] theorem State.recordAlert_timers (s : State) (k : AlertKind) (p : Port) :
    (s.recordAlert k p).timers = s.timers := rfl
@[simp] theorem State.recordAlert_calendar (s : State) (k : AlertKind) (p : Port) :
    (s.recordAlert k p).calendar = s.calendar := rfl
@[simp] theorem State.recordAlert_tone (s : State) (k : AlertKind) (p : Port) :
    (s.recordAlert k p).tone = s.tone := rfl
@[simp] theorem State.recordAlert_rau (s : State) (k : AlertKind) (p : Port) :
    (s.recordAlert k p).rau = s.rau := rfl
@[simp] theorem State.recordAlert_level (s : State) (k : AlertKind) (p : Port) :
    (s.recordAlert k p).level = s.level := rfl
@[simp] theorem State.recordAlert_pump (s : State) (k : AlertKind) (p : Port) :
    (s.recordAlert k p).pump = s.pump := rfl
@[simp] theorem State.recordAlert_link (s : State) (k : AlertKind) (p : Port) :
    (s.recordAlert k p).link = s.link := rfl
@[simp] theorem State.recordAlert_fax (s : State) (k : AlertKind) (p : Port) :
    (s.recordAlert k p).fax = s.fax := rfl
@[simp] theorem State.recordAlert_voice (s : State) (k : AlertKind) (p : Port) :
    (s.recordAlert k p).voice = s.voice := rfl
@[simp] theorem State.recordAlert_settings (s : State) (k : AlertKind) (p : Port) :
    (s.recordAlert k p).settings = s.settings := rfl
@[simp] theorem State.recordAlert_store (s : State) (k : AlertKind) (p : Port) :
    (s.recordAlert k p).store = s.store := rfl
@[simp] theorem State.recordAlert_sys (s : State) (k : AlertKind) (p : Port) :
    (s.recordAlert k p).sys = s.sys := rfl
@[simp] theorem State.recordAlert_pan (s : State) (k : AlertKind) (p : Port) :
    (s.recordAlert k p).pan = s.pan := rfl
@[simp] theorem State.recordAlert_power (s : State) (k : AlertKind) (p : Port) :
    (s.recordAlert k p).power = s.power := rfl
@[simp] theorem State.recordAlert_pending (s : State) (k : AlertKind) (p : Port) :
    (s.recordAlert k p).pending = s.pending := rfl
@[simp] theorem State.storeAlert_ccu (s : State) (k : AlertKind) :
    (s.storeAlert k).ccu = s.ccu := by simp [State.storeAlert]
@[simp] theorem State.storeAlert_lif (s : State) (k : AlertKind) :
    (s.storeAlert k).lif = s.lif := by simp [State.storeAlert]
@[simp] theorem State.storeAlert_timers (s : State) (k : AlertKind) :
    (s.storeAlert k).timers = s.timers := by simp [State.storeAlert]
@[simp] theorem State.storeAlert_calendar (s : State) (k : AlertKind) :
    (s.storeAlert k).calendar = s.calendar := by simp [State.storeAlert]
@[simp] theorem State.storeAlert_tone (s : State) (k : AlertKind) :
    (s.storeAlert k).tone = s.tone := by simp [State.storeAlert]
@[simp] theorem State.storeAlert_rau (s : State) (k : AlertKind) :
    (s.storeAlert k).rau = s.rau := by simp [State.storeAlert]
@[simp] theorem State.storeAlert_level (s : State) (k : AlertKind) :
    (s.storeAlert k).level = s.level := by simp [State.storeAlert]
@[simp] theorem State.storeAlert_pump (s : State) (k : AlertKind) :
    (s.storeAlert k).pump = s.pump := by simp [State.storeAlert]
@[simp] theorem State.storeAlert_link (s : State) (k : AlertKind) :
    (s.storeAlert k).link = s.link := by simp [State.storeAlert]
@[simp] theorem State.storeAlert_fax (s : State) (k : AlertKind) :
    (s.storeAlert k).fax = s.fax := by simp [State.storeAlert]
@[simp] theorem State.storeAlert_voice (s : State) (k : AlertKind) :
    (s.storeAlert k).voice = s.voice := by simp [State.storeAlert]
@[simp] theorem State.storeAlert_settings (s : State) (k : AlertKind) :
    (s.storeAlert k).settings = s.settings := by simp [State.storeAlert]
@[simp] theorem State.storeAlert_store (s : State) (k : AlertKind) :
    (s.storeAlert k).store = s.store := by simp [State.storeAlert]
@[simp] theorem State.storeAlert_sys (s : State) (k : AlertKind) :
    (s.storeAlert k).sys = s.sys := by simp [State.storeAlert]
@[simp] theorem State.storeAlert_pan (s : State) (k : AlertKind) :
    (s.storeAlert k).pan = s.pan := by simp [State.storeAlert]
@[simp] theorem State.storeAlert_power (s : State) (k : AlertKind) :
    (s.storeAlert k).power = s.power := by simp [State.storeAlert]
@[simp] theorem State.storeAlert_pending (s : State) (k : AlertKind) :
    (s.storeAlert k).pending = s.pending := by simp [State.storeAlert]
@[simp] theorem State.updEntry_ccu (s : State) (id : Nat) (g : Entry → Entry) :
    (s.updEntry id g).ccu = s.ccu := rfl
@[simp] theorem State.updEntry_lif (s : State) (id : Nat) (g : Entry → Entry) :
    (s.updEntry id g).lif = s.lif := rfl
@[simp] theorem State.updEntry_timers (s : State) (id : Nat) (g : Entry → Entry) :
    (s.updEntry id g).timers = s.timers := rfl
@[simp] theorem State.updEntry_calendar (s : State) (id : Nat) (g : Entry → Entry) :
    (s.updEntry id g).calendar = s.calendar := rfl
@[simp] theorem State.updEntry_tone (s : State) (id : Nat) (g : Entry → Entry) :
    (s.updEntry id g).tone = s.tone := rfl
@[simp] theorem State.updEntry_rau (s : State) (id : Nat) (g : Entry → Entry) :
    (s.updEntry id g).rau = s.rau := rfl
@[simp] theorem State.updEntry_level (s : State) (id : Nat) (g : Entry → Entry) :
    (s.updEntry id g).level = s.level := rfl
@[simp] theorem State.updEntry_pump (s : State) (id : Nat) (g : Entry → Entry) :
    (s.updEntry id g).pump = s.pump := rfl
@[simp] theorem State.updEntry_link (s : State) (id : Nat) (g : Entry → Entry) :
    (s.updEntry id g).link = s.link := rfl
@[simp] theorem State.updEntry_fax (s : State) (id : Nat) (g : Entry → Entry) :
    (s.updEntry id g).fax = s.fax := rfl
@[simp] theorem State.updEntry_voice (s : State) (id : Nat) (g : Entry → Entry) :
    (s.updEntry id g).voice = s.voice := rfl
@[simp] theorem State.updEntry_settings (s : State) (id : Nat) (g : Entry → Entry) :
    (s.updEntry id g).settings = s.settings := rfl
@[simp] theorem State.updEntry_ports (s : State) (id : Nat) (g : Entry → Entry) :
    (s.updEntry id g).ports = s.ports := rfl
@[simp] theorem State.updEntry_sys (s : State) (id : Nat) (g : Entry → Entry) :
    (s.updEntry id g).sys = s.sys := rfl
@[simp] theorem State.updEntry_pan (s : State) (id : Nat) (g : Entry → Entry) :
    (s.updEntry id g).pan = s.pan := rfl
@[simp] theorem State.updEntry_power (s : State) (id : Nat) (g : Entry → Entry) :
    (s.updEntry id g).power = s.power := rfl
@[simp] theorem State.updEntry_pending (s : State) (id : Nat) (g : Entry → Entry) :
    (s.updEntry id g).pending = s.pending := rfl
@[simp] theorem State.hold_ccu (s : State) (id : Nat) :
    (s.hold id).ccu = s.ccu := rfl
@[simp] theorem State.hold_lif (s : State) (id : Nat) :
    (s.hold id).lif = s.lif := rfl
@[simp] theorem State.hold_timers (s : State) (id : Nat) :
    (s.hold id).timers = s.timers := rfl
@[simp] theorem State.hold_calendar (s : State) (id : Nat) :
    (s.hold id).calendar = s.calendar := rfl
@[simp] theorem State.hold_tone (s : State) (id : Nat) :
    (s.hold id).tone = s.tone := rfl
@[simp] theorem State.hold_rau (s : State) (id : Nat) :
    (s.hold id).rau = s.rau := rfl
@[simp] theorem State.hold_level (s : State) (id : Nat) :
    (s.hold id).level = s.level := rfl
@[simp] theorem State.hold_pump (s : State) (id : Nat) :
    (s.hold id).pump = s.pump := rfl
@[simp] theorem State.hold_link (s : State) (id : Nat) :
    (s.hold id).link = s.link := rfl
@[simp] theorem State.hold_fax (s : State) (id : Nat) :
    (s.hold id).fax = s.fax := rfl
@[simp] theorem State.hold_voice (s : State) (id : Nat) :
    (s.hold id).voice = s.voice := rfl
@[simp] theorem State.hold_settings (s : State) (id : Nat) :
    (s.hold id).settings = s.settings := rfl
@[simp] theorem State.hold_ports (s : State) (id : Nat) :
    (s.hold id).ports = s.ports := rfl
@[simp] theorem State.hold_sys (s : State) (id : Nat) :
    (s.hold id).sys = s.sys := rfl
@[simp] theorem State.hold_pan (s : State) (id : Nat) :
    (s.hold id).pan = s.pan := rfl
@[simp] theorem State.hold_power (s : State) (id : Nat) :
    (s.hold id).power = s.power := rfl
@[simp] theorem State.hold_pending (s : State) (id : Nat) :
    (s.hold id).pending = s.pending := rfl
@[simp] theorem State.clearNew_ccu (s : State) (id : Nat) :
    (s.clearNew id).ccu = s.ccu := rfl
@[simp] theorem State.clearNew_lif (s : State) (id : Nat) :
    (s.clearNew id).lif = s.lif := rfl
@[simp] theorem State.clearNew_timers (s : State) (id : Nat) :
    (s.clearNew id).timers = s.timers := rfl
@[simp] theorem State.clearNew_calendar (s : State) (id : Nat) :
    (s.clearNew id).calendar = s.calendar := rfl
@[simp] theorem State.clearNew_tone (s : State) (id : Nat) :
    (s.clearNew id).tone = s.tone := rfl
@[simp] theorem State.clearNew_rau (s : State) (id : Nat) :
    (s.clearNew id).rau = s.rau := rfl
@[simp] theorem State.clearNew_level (s : State) (id : Nat) :
    (s.clearNew id).level = s.level := rfl
@[simp] theorem State.clearNew_pump (s : State) (id : Nat) :
    (s.clearNew id).pump = s.pump := rfl
@[simp] theorem State.clearNew_link (s : State) (id : Nat) :
    (s.clearNew id).link = s.link := rfl
@[simp] theorem State.clearNew_fax (s : State) (id : Nat) :
    (s.clearNew id).fax = s.fax := rfl
@[simp] theorem State.clearNew_voice (s : State) (id : Nat) :
    (s.clearNew id).voice = s.voice := rfl
@[simp] theorem State.clearNew_settings (s : State) (id : Nat) :
    (s.clearNew id).settings = s.settings := rfl
@[simp] theorem State.clearNew_ports (s : State) (id : Nat) :
    (s.clearNew id).ports = s.ports := rfl
@[simp] theorem State.clearNew_sys (s : State) (id : Nat) :
    (s.clearNew id).sys = s.sys := rfl
@[simp] theorem State.clearNew_pan (s : State) (id : Nat) :
    (s.clearNew id).pan = s.pan := rfl
@[simp] theorem State.clearNew_power (s : State) (id : Nat) :
    (s.clearNew id).power = s.power := rfl
@[simp] theorem State.clearNew_pending (s : State) (id : Nat) :
    (s.clearNew id).pending = s.pending := rfl
@[simp] theorem State.writeMem_ccu (s : State) (a : Nat) (b : Byte) :
    (s.writeMem a b).ccu = s.ccu := rfl
@[simp] theorem State.writeMem_lif (s : State) (a : Nat) (b : Byte) :
    (s.writeMem a b).lif = s.lif := rfl
@[simp] theorem State.writeMem_timers (s : State) (a : Nat) (b : Byte) :
    (s.writeMem a b).timers = s.timers := rfl
@[simp] theorem State.writeMem_calendar (s : State) (a : Nat) (b : Byte) :
    (s.writeMem a b).calendar = s.calendar := rfl
@[simp] theorem State.writeMem_tone (s : State) (a : Nat) (b : Byte) :
    (s.writeMem a b).tone = s.tone := rfl
@[simp] theorem State.writeMem_rau (s : State) (a : Nat) (b : Byte) :
    (s.writeMem a b).rau = s.rau := rfl
@[simp] theorem State.writeMem_level (s : State) (a : Nat) (b : Byte) :
    (s.writeMem a b).level = s.level := rfl
@[simp] theorem State.writeMem_pump (s : State) (a : Nat) (b : Byte) :
    (s.writeMem a b).pump = s.pump := rfl
@[simp] theorem State.writeMem_link (s : State) (a : Nat) (b : Byte) :
    (s.writeMem a b).link = s.link := rfl
@[simp] theorem State.writeMem_fax (s : State) (a : Nat) (b : Byte) :
    (s.writeMem a b).fax = s.fax := rfl
@[simp] theorem State.writeMem_voice (s : State) (a : Nat) (b : Byte) :
    (s.writeMem a b).voice = s.voice := rfl
@[simp] theorem State.writeMem_settings (s : State) (a : Nat) (b : Byte) :
    (s.writeMem a b).settings = s.settings := rfl
@[simp] theorem State.writeMem_ports (s : State) (a : Nat) (b : Byte) :
    (s.writeMem a b).ports = s.ports := rfl
@[simp] theorem State.writeMem_sys (s : State) (a : Nat) (b : Byte) :
    (s.writeMem a b).sys = s.sys := rfl
@[simp] theorem State.writeMem_pan (s : State) (a : Nat) (b : Byte) :
    (s.writeMem a b).pan = s.pan := rfl
@[simp] theorem State.writeMem_power (s : State) (a : Nat) (b : Byte) :
    (s.writeMem a b).power = s.power := rfl
@[simp] theorem State.writeMem_pending (s : State) (a : Nat) (b : Byte) :
    (s.writeMem a b).pending = s.pending := rfl
@[simp] theorem State.saveSettings_ccu (s : State) (t : Settings) :
    (s.saveSettings t).ccu = s.ccu := rfl
@[simp] theorem State.saveSettings_lif (s : State) (t : Settings) :
    (s.saveSettings t).lif = s.lif := rfl
@[simp] theorem State.saveSettings_timers (s : State) (t : Settings) :
    (s.saveSettings t).timers = s.timers := rfl
@[simp] theorem State.saveSettings_calendar (s : State) (t : Settings) :
    (s.saveSettings t).calendar = s.calendar := rfl
@[simp] theorem State.saveSettings_tone (s : State) (t : Settings) :
    (s.saveSettings t).tone = s.tone := rfl
@[simp] theorem State.saveSettings_rau (s : State) (t : Settings) :
    (s.saveSettings t).rau = s.rau := rfl
@[simp] theorem State.saveSettings_level (s : State) (t : Settings) :
    (s.saveSettings t).level = s.level := rfl
@[simp] theorem State.saveSettings_pump (s : State) (t : Settings) :
    (s.saveSettings t).pump = s.pump := rfl
@[simp] theorem State.saveSettings_link (s : State) (t : Settings) :
    (s.saveSettings t).link = s.link := rfl
@[simp] theorem State.saveSettings_fax (s : State) (t : Settings) :
    (s.saveSettings t).fax = s.fax := rfl
@[simp] theorem State.saveSettings_voice (s : State) (t : Settings) :
    (s.saveSettings t).voice = s.voice := rfl
@[simp] theorem State.saveSettings_ports (s : State) (t : Settings) :
    (s.saveSettings t).ports = s.ports := rfl
@[simp] theorem State.saveSettings_sys (s : State) (t : Settings) :
    (s.saveSettings t).sys = s.sys := rfl
@[simp] theorem State.saveSettings_pan (s : State) (t : Settings) :
    (s.saveSettings t).pan = s.pan := rfl
@[simp] theorem State.saveSettings_power (s : State) (t : Settings) :
    (s.saveSettings t).power = s.power := rfl
@[simp] theorem State.saveSettings_pending (s : State) (t : Settings) :
    (s.saveSettings t).pending = s.pending := rfl
@[simp] theorem State.autoChannel_ccu (s : State) :
    (s.autoChannel).ccu = s.ccu := rfl
@[simp] theorem State.autoChannel_lif (s : State) :
    (s.autoChannel).lif = s.lif := rfl
@[simp] theorem State.autoChannel_timers (s : State) :
    (s.autoChannel).timers = s.timers := rfl
@[simp] theorem State.autoChannel_calendar (s : State) :
    (s.autoChannel).calendar = s.calendar := rfl
@[simp] theorem State.autoChannel_tone (s : State) :
    (s.autoChannel).tone = s.tone := rfl
@[simp] theorem State.autoChannel_rau (s : State) :
    (s.autoChannel).rau = s.rau := rfl
@[simp] theorem State.autoChannel_level (s : State) :
    (s.autoChannel).level = s.level := rfl
@[simp] theorem State.autoChannel_pump (s : State) :
    (s.autoChannel).pump = s.pump := rfl
@[simp] theorem State.autoChannel_link (s : State) :
    (s.autoChannel).link = s.link := rfl
@[simp] theorem State.autoChannel_fax (s : State) :
    (s.autoChannel).fax = s.fax := rfl
@[simp] theorem State.autoChannel_settings (s : State) :
    (s.autoChannel).settings = s.settings := rfl
@[simp] theorem State.autoChannel_store (s : State) :
    (s.autoChannel).store = s.store := rfl
@[simp] theorem State.autoChannel_ports (s : State) :
    (s.autoChannel).ports = s.ports := rfl
@[simp] theorem State.autoChannel_sys (s : State) :
    (s.autoChannel).sys = s.sys := rfl
@[simp] theorem State.autoChannel_pan (s : State) :
    (s.autoChannel).pan = s.pan := rfl
@[simp] theorem State.autoChannel_power (s : State) :
    (s.autoChannel).power = s.power := rfl
@[simp] theorem State.autoChannel_pending (s : State) :
    (s.autoChannel).pending = s.pending := rfl
@[simp] theorem State.startBeep_ccu (s : State) :
    (s.startBeep).ccu = s.ccu := rfl
@[simp] theorem State.startBeep_lif (s : State) :
    (s.startBeep).lif = s.lif := rfl
@[simp] theorem State.startBeep_timers (s : State) :
    (s.startBeep).timers = s.timers := rfl
@[simp] theorem State.startBeep_calendar (s : State) :
    (s.startBeep).calendar = s.calendar := rfl
@[simp] theorem State.startBeep_tone (s : State) :
    (s.startBeep).tone = s.tone := rfl
@[simp] theorem State.startBeep_rau (s : State) :
    (s.startBeep).rau = s.rau := rfl
@[simp] theorem State.startBeep_level (s : State) :
    (s.startBeep).level = s.level := rfl
@[simp] theorem State.startBeep_pump (s : State) :
    (s.startBeep).pump = s.pump := rfl
@[simp] theorem State.startBeep_link (s : State) :
    (s.startBeep).link = s.link := rfl
@[simp] theorem State.startBeep_fax (s : State) :
    (s.startBeep).fax = s.fax := rfl
@[simp] theorem State.startBeep_settings (s : State) :
    (s.startBeep).settings = s.settings := rfl
@[simp] theorem State.startBeep_store (s : State) :
    (s.startBeep).store = s.store := rfl
@[simp] theorem State.startBeep_ports (s : State) :
    (s.startBeep).ports = s.ports := rfl
@[simp] theorem State.startBeep_sys (s : State) :
    (s.startBeep).sys = s.sys := rfl
@[simp] theorem State.startBeep_pan (s : State) :
    (s.startBeep).pan = s.pan := rfl
@[simp] theorem State.startBeep_power (s : State) :
    (s.startBeep).power = s.power := rfl
@[simp] theorem State.startBeep_pending (s : State) :
    (s.startBeep).pending = s.pending := rfl
@[simp] theorem State.silence_ccu (s : State) :
    (s.silence).ccu = s.ccu := rfl
@[simp] theorem State.silence_lif (s : State) :
    (s.silence).lif = s.lif := rfl
@[simp] theorem State.silence_calendar (s : State) :
    (s.silence).calendar = s.calendar := rfl
@[simp] theorem State.silence_rau (s : State) :
    (s.silence).rau = s.rau := rfl
@[simp] theorem State.silence_level (s : State) :
    (s.silence).level = s.level := rfl
@[simp] theorem State.silence_pump (s : State) :
    (s.silence).pump = s.pump := rfl
@[simp] theorem State.silence_link (s : State) :
    (s.silence).link = s.link := rfl
@[simp] theorem State.silence_fax (s : State) :
    (s.silence).fax = s.fax := rfl
@[simp] theorem State.silence_voice (s : State) :
    (s.silence).voice = s.voice := rfl
@[simp] theorem State.silence_settings (s : State) :
    (s.silence).settings = s.settings := rfl
@[simp] theorem State.silence_store (s : State) :
    (s.silence).store = s.store := rfl
@[simp] theorem State.silence_ports (s : State) :
    (s.silence).ports = s.ports := rfl
@[simp] theorem State.silence_sys (s : State) :
    (s.silence).sys = s.sys := rfl
@[simp] theorem State.silence_pan (s : State) :
    (s.silence).pan = s.pan := rfl
@[simp] theorem State.silence_power (s : State) :
    (s.silence).power = s.power := rfl
@[simp] theorem State.silence_pending (s : State) :
    (s.silence).pending = s.pending := rfl
@[simp] theorem State.resetLink_ccu (s : State) :
    (s.resetLink).ccu = s.ccu := rfl
@[simp] theorem State.resetLink_lif (s : State) :
    (s.resetLink).lif = s.lif := rfl
@[simp] theorem State.resetLink_calendar (s : State) :
    (s.resetLink).calendar = s.calendar := rfl
@[simp] theorem State.resetLink_tone (s : State) :
    (s.resetLink).tone = s.tone := rfl
@[simp] theorem State.resetLink_rau (s : State) :
    (s.resetLink).rau = s.rau := rfl
@[simp] theorem State.resetLink_level (s : State) :
    (s.resetLink).level = s.level := rfl
@[simp] theorem State.resetLink_pump (s : State) :
    (s.resetLink).pump = s.pump := rfl
@[simp] theorem State.resetLink_fax (s : State) :
    (s.resetLink).fax = s.fax := rfl
@[simp] theorem State.resetLink_voice (s : State) :
    (s.resetLink).voice = s.voice := rfl
@[simp] theorem State.resetLink_settings (s : State) :
    (s.resetLink).settings = s.settings := rfl
@[simp] theorem State.resetLink_store (s : State) :
    (s.resetLink).store = s.store := rfl
@[simp] theorem State.resetLink_ports (s : State) :
    (s.resetLink).ports = s.ports := rfl
@[simp] theorem State.resetLink_sys (s : State) :
    (s.resetLink).sys = s.sys := rfl
@[simp] theorem State.resetLink_pan (s : State) :
    (s.resetLink).pan = s.pan := rfl
@[simp] theorem State.resetLink_power (s : State) :
    (s.resetLink).power = s.power := rfl
@[simp] theorem State.resetLink_pending (s : State) :
    (s.resetLink).pending = s.pending := rfl
@[simp] theorem State.resetPump_ccu (s : State) :
    (s.resetPump).ccu = s.ccu := rfl
@[simp] theorem State.resetPump_lif (s : State) :
    (s.resetPump).lif = s.lif := rfl
@[simp] theorem State.resetPump_calendar (s : State) :
    (s.resetPump).calendar = s.calendar := rfl
@[simp] theorem State.resetPump_tone (s : State) :
    (s.resetPump).tone = s.tone := rfl
@[simp] theorem State.resetPump_rau (s : State) :
    (s.resetPump).rau = s.rau := rfl
@[simp] theorem State.resetPump_link (s : State) :
    (s.resetPump).link = s.link := rfl
@[simp] theorem State.resetPump_fax (s : State) :
    (s.resetPump).fax = s.fax := rfl
@[simp] theorem State.resetPump_voice (s : State) :
    (s.resetPump).voice = s.voice := rfl
@[simp] theorem State.resetPump_settings (s : State) :
    (s.resetPump).settings = s.settings := rfl
@[simp] theorem State.resetPump_store (s : State) :
    (s.resetPump).store = s.store := rfl
@[simp] theorem State.resetPump_ports (s : State) :
    (s.resetPump).ports = s.ports := rfl
@[simp] theorem State.resetPump_sys (s : State) :
    (s.resetPump).sys = s.sys := rfl
@[simp] theorem State.resetPump_pan (s : State) :
    (s.resetPump).pan = s.pan := rfl
@[simp] theorem State.resetPump_power (s : State) :
    (s.resetPump).power = s.power := rfl
@[simp] theorem State.resetPump_pending (s : State) :
    (s.resetPump).pending = s.pending := rfl
@[simp] theorem State.toCommand_ccu (s : State) :
    (s.toCommand).ccu = s.ccu := rfl
@[simp] theorem State.toCommand_lif (s : State) :
    (s.toCommand).lif = s.lif := rfl
@[simp] theorem State.toCommand_calendar (s : State) :
    (s.toCommand).calendar = s.calendar := rfl
@[simp] theorem State.toCommand_tone (s : State) :
    (s.toCommand).tone = s.tone := rfl
@[simp] theorem State.toCommand_rau (s : State) :
    (s.toCommand).rau = s.rau := rfl
@[simp] theorem State.toCommand_level (s : State) :
    (s.toCommand).level = s.level := rfl
@[simp] theorem State.toCommand_pump (s : State) :
    (s.toCommand).pump = s.pump := rfl
@[simp] theorem State.toCommand_link (s : State) :
    (s.toCommand).link = s.link := rfl
@[simp] theorem State.toCommand_fax (s : State) :
    (s.toCommand).fax = s.fax := rfl
@[simp] theorem State.toCommand_voice (s : State) :
    (s.toCommand).voice = s.voice := rfl
@[simp] theorem State.toCommand_settings (s : State) :
    (s.toCommand).settings = s.settings := rfl
@[simp] theorem State.toCommand_store (s : State) :
    (s.toCommand).store = s.store := rfl
@[simp] theorem State.toCommand_ports (s : State) :
    (s.toCommand).ports = s.ports := rfl
@[simp] theorem State.toCommand_pan (s : State) :
    (s.toCommand).pan = s.pan := rfl
@[simp] theorem State.toCommand_power (s : State) :
    (s.toCommand).power = s.power := rfl
@[simp] theorem State.toCommand_pending (s : State) :
    (s.toCommand).pending = s.pending := rfl
@[simp] theorem State.stopT1_ccu (s : State) :
    (s.stopT1).ccu = s.ccu := rfl
@[simp] theorem State.stopT1_lif (s : State) :
    (s.stopT1).lif = s.lif := rfl
@[simp] theorem State.stopT1_calendar (s : State) :
    (s.stopT1).calendar = s.calendar := rfl
@[simp] theorem State.stopT1_tone (s : State) :
    (s.stopT1).tone = s.tone := rfl
@[simp] theorem State.stopT1_level (s : State) :
    (s.stopT1).level = s.level := rfl
@[simp] theorem State.stopT1_pump (s : State) :
    (s.stopT1).pump = s.pump := rfl
@[simp] theorem State.stopT1_link (s : State) :
    (s.stopT1).link = s.link := rfl
@[simp] theorem State.stopT1_fax (s : State) :
    (s.stopT1).fax = s.fax := rfl
@[simp] theorem State.stopT1_voice (s : State) :
    (s.stopT1).voice = s.voice := rfl
@[simp] theorem State.stopT1_settings (s : State) :
    (s.stopT1).settings = s.settings := rfl
@[simp] theorem State.stopT1_store (s : State) :
    (s.stopT1).store = s.store := rfl
@[simp] theorem State.stopT1_ports (s : State) :
    (s.stopT1).ports = s.ports := rfl
@[simp] theorem State.stopT1_sys (s : State) :
    (s.stopT1).sys = s.sys := rfl
@[simp] theorem State.stopT1_pan (s : State) :
    (s.stopT1).pan = s.pan := rfl
@[simp] theorem State.stopT1_power (s : State) :
    (s.stopT1).power = s.power := rfl
@[simp] theorem State.stopT1_pending (s : State) :
    (s.stopT1).pending = s.pending := rfl
@[simp] theorem State.closeRelay_ccu (s : State) :
    (s.closeRelay).ccu = s.ccu := rfl
@[simp] theorem State.closeRelay_calendar (s : State) :
    (s.closeRelay).calendar = s.calendar := rfl
@[simp] theorem State.closeRelay_tone (s : State) :
    (s.closeRelay).tone = s.tone := rfl
@[simp] theorem State.closeRelay_pump (s : State) :
    (s.closeRelay).pump = s.pump := rfl
@[simp] theorem State.closeRelay_link (s : State) :
    (s.closeRelay).link = s.link := rfl
@[simp] theorem State.closeRelay_fax (s : State) :
    (s.closeRelay).fax = s.fax := rfl
@[simp] theorem State.closeRelay_voice (s : State) :
    (s.closeRelay).voice = s.voice := rfl
@[simp] theorem State.closeRelay_settings (s : State) :
    (s.closeRelay).settings = s.settings := rfl
@[simp] theorem State.closeRelay_store (s : State) :
    (s.closeRelay).store = s.store := rfl
@[simp] theorem State.closeRelay_ports (s : State) :
    (s.closeRelay).ports = s.ports := rfl
@[simp] theorem State.closeRelay_sys (s : State) :
    (s.closeRelay).sys = s.sys := rfl
@[simp] theorem State.closeRelay_pan (s : State) :
    (s.closeRelay).pan = s.pan := rfl
@[simp] theorem State.closeRelay_power (s : State) :
    (s.closeRelay).power = s.power := rfl
@[simp] theorem State.closeRelay_pending (s : State) :
    (s.closeRelay).pending = s.pending := rfl
@[simp] theorem State.openRelay_ccu (s : State) :
    (s.openRelay).ccu = s.ccu := rfl
@[simp] theorem State.openRelay_calendar (s : State) :
    (s.openRelay).calendar = s.calendar := rfl
@[simp] theorem State.openRelay_tone (s : State) :
    (s.openRelay).tone = s.tone := rfl
@[simp] theorem State.openRelay_rau (s : State) :
    (s.openRelay).rau = s.rau := rfl
@[simp] theorem State.openRelay_pump (s : State) :
    (s.openRelay).pump = s.pump := rfl
@[simp] theorem State.openRelay_link (s : State) :
    (s.openRelay).link = s.link := rfl
@[simp] theorem State.openRelay_fax (s : State) :
    (s.openRelay).fax = s.fax := rfl
@[simp] theorem State.openRelay_voice (s : State) :
    (s.openRelay).voice = s.voice := rfl
@[simp] theorem State.openRelay_settings (s : State) :
    (s.openRelay).settings = s.settings := rfl
@[simp] theorem State.openRelay_store (s : State) :
    (s.openRelay).store = s.store := rfl
@[simp] theorem State.openRelay_ports (s : State) :
    (s.openRelay).ports = s.ports := rfl
@[simp] theorem State.openRelay_sys (s : State) :
    (s.openRelay).sys = s.sys := rfl
@[simp] theorem State.openRelay_pan (s : State) :
    (s.openRelay).pan = s.pan := rfl
@[simp] theorem State.openRelay_power (s : State) :
    (s.openRelay).power = s.power := rfl
@[simp] theorem State.openRelay_pending (s : State) :
    (s.openRelay).pending = s.pending := rfl
@[simp] theorem State.withdraw_lif (s : State) (p : Port) :
    (s.withdraw p).lif = s.lif := rfl
@[simp] theorem State.withdraw_timers (s : State) (p : Port) :
    (s.withdraw p).timers = s.timers := rfl
@[simp] theorem State.withdraw_calendar (s : State) (p : Port) :
    (s.withdraw p).calendar = s.calendar := rfl
@[simp] theorem State.withdraw_tone (s : State) (p : Port) :
    (s.withdraw p).tone = s.tone := rfl
@[simp] theorem State.withdraw_rau (s : State) (p : Port) :
    (s.withdraw p).rau = s.rau := rfl
@[simp] theorem State.withdraw_level (s : State) (p : Port) :
    (s.withdraw p).level = s.level := rfl
@[simp] theorem State.withdraw_pump (s : State) (p : Port) :
    (s.withdraw p).pump = s.pump := rfl
@[simp] theorem State.withdraw_link (s : State) (p : Port) :
    (s.withdraw p).link = s.link := rfl
@[simp] theorem State.withdraw_fax (s : State) (p : Port) :
    (s.withdraw p).fax = s.fax := rfl
@[simp] theorem State.withdraw_voice (s : State) (p : Port) :
    (s.withdraw p).voice = s.voice := rfl
@[simp] theorem State.withdraw_settings (s : State) (p : Port) :
    (s.withdraw p).settings = s.settings := rfl
@[simp] theorem State.withdraw_store (s : State) (p : Port) :
    (s.withdraw p).store = s.store := rfl
@[simp] theorem State.withdraw_ports (s : State) (p : Port) :
    (s.withdraw p).ports = s.ports := rfl
@[simp] theorem State.withdraw_sys (s : State) (p : Port) :
    (s.withdraw p).sys = s.sys := rfl
@[simp] theorem State.withdraw_pan (s : State) (p : Port) :
    (s.withdraw p).pan = s.pan := rfl
@[simp] theorem State.withdraw_power (s : State) (p : Port) :
    (s.withdraw p).power = s.power := rfl
@[simp] theorem State.withdraw_pending (s : State) (p : Port) :
    (s.withdraw p).pending = s.pending := rfl
@[simp] theorem State.queueDial_lif (s : State) (c : Claim) :
    (s.queueDial c).lif = s.lif := rfl
@[simp] theorem State.queueDial_timers (s : State) (c : Claim) :
    (s.queueDial c).timers = s.timers := rfl
@[simp] theorem State.queueDial_calendar (s : State) (c : Claim) :
    (s.queueDial c).calendar = s.calendar := rfl
@[simp] theorem State.queueDial_tone (s : State) (c : Claim) :
    (s.queueDial c).tone = s.tone := rfl
@[simp] theorem State.queueDial_rau (s : State) (c : Claim) :
    (s.queueDial c).rau = s.rau := rfl
@[simp] theorem State.queueDial_level (s : State) (c : Claim) :
    (s.queueDial c).level = s.level := rfl
@[simp] theorem State.queueDial_pump (s : State) (c : Claim) :
    (s.queueDial c).pump = s.pump := rfl
@[simp] theorem State.queueDial_link (s : State) (c : Claim) :
    (s.queueDial c).link = s.link := rfl
@[simp] theorem State.queueDial_fax (s : State) (c : Claim) :
    (s.queueDial c).fax = s.fax := rfl
@[simp] theorem State.queueDial_voice (s : State) (c : Claim) :
    (s.queueDial c).voice = s.voice := rfl
@[simp] theorem State.queueDial_settings (s : State) (c : Claim) :
    (s.queueDial c).settings = s.settings := rfl
@[simp] theorem State.queueDial_store (s : State) (c : Claim) :
    (s.queueDial c).store = s.store := rfl
@[simp] theorem State.queueDial_ports (s : State) (c : Claim) :
    (s.queueDial c).ports = s.ports := rfl
@[simp] theorem State.queueDial_sys (s : State) (c : Claim) :
    (s.queueDial c).sys = s.sys := rfl
@[simp] theorem State.queueDial_pan (s : State) (c : Claim) :
    (s.queueDial c).pan = s.pan := rfl
@[simp] theorem State.queueDial_power (s : State) (c : Claim) :
    (s.queueDial c).power = s.power := rfl
@[simp] theorem State.queueDial_pending (s : State) (c : Claim) :
    (s.queueDial c).pending = s.pending := rfl
@[simp] theorem State.updChannel_ccu (s : State) (p : Port) (g : Transfer → Transfer) :
    (s.updChannel p g).ccu = s.ccu := rfl
@[simp] theorem State.updChannel_lif (s : State) (p : Port) (g : Transfer → Transfer) :
    (s.updChannel p g).lif = s.lif := rfl
@[simp] theorem State.updChannel_timers (s : State) (p : Port) (g : Transfer → Transfer) :
    (s.updChannel p g).timers = s.timers := rfl
@[simp] theorem State.updChannel_calendar (s : State) (p : Port) (g : Transfer → Transfer) :
    (s.updChannel p g).calendar = s.calendar := rfl
@[simp] theorem State.updChannel_tone (s : State) (p : Port) (g : Transfer → Transfer) :
    (s.updChannel p g).tone = s.tone := rfl
@[simp] theorem State.updChannel_rau (s : State) (p : Port) (g : Transfer → Transfer) :
    (s.updChannel p g).rau = s.rau := rfl
@[simp] theorem State.updChannel_level (s : State) (p : Port) (g : Transfer → Transfer) :
    (s.updChannel p g).level = s.level := rfl
@[simp] theorem State.updChannel_pump (s : State) (p : Port) (g : Transfer → Transfer) :
    (s.updChannel p g).pump = s.pump := rfl
@[simp] theorem State.updChannel_link (s : State) (p : Port) (g : Transfer → Transfer) :
    (s.updChannel p g).link = s.link := rfl
@[simp] theorem State.updChannel_fax (s : State) (p : Port) (g : Transfer → Transfer) :
    (s.updChannel p g).fax = s.fax := rfl
@[simp] theorem State.updChannel_voice (s : State) (p : Port) (g : Transfer → Transfer) :
    (s.updChannel p g).voice = s.voice := rfl
@[simp] theorem State.updChannel_settings (s : State) (p : Port) (g : Transfer → Transfer) :
    (s.updChannel p g).settings = s.settings := rfl
@[simp] theorem State.updChannel_store (s : State) (p : Port) (g : Transfer → Transfer) :
    (s.updChannel p g).store = s.store := rfl
@[simp] theorem State.updChannel_sys (s : State) (p : Port) (g : Transfer → Transfer) :
    (s.updChannel p g).sys = s.sys := rfl
@[simp] theorem State.updChannel_pan (s : State) (p : Port) (g : Transfer → Transfer) :
    (s.updChannel p g).pan = s.pan := rfl
@[simp] theorem State.updChannel_power (s : State) (p : Port) (g : Transfer → Transfer) :
    (s.updChannel p g).power = s.power := rfl
@[simp] theorem State.updChannel_pending (s : State) (p : Port) (g : Transfer → Transfer) :
    (s.updChannel p g).pending = s.pending := rfl
@[simp] theorem State.idleChannel_ccu (s : State) (p : Port) :
    (s.idleChannel p).ccu = s.ccu := rfl
@[simp] theorem State.idleChannel_lif (s : State) (p : Port) :
    (s.idleChannel p).lif = s.lif := rfl
@[simp] theorem State.idleChannel_timers (s : State) (p : Port) :
    (s.idleChannel p).timers = s.timers := rfl
@[simp] theorem State.idleChannel_calendar (s : State) (p : Port) :
    (s.idleChannel p).calendar = s.calendar := rfl
@[simp] theorem State.idleChannel_tone (s : State) (p : Port) :
    (s.idleChannel p).tone = s.tone := rfl
@[simp] theorem State.idleChannel_rau (s : State) (p : Port) :
    (s.idleChannel p).rau = s.rau := rfl
@[simp] theorem State.idleChannel_level (s : State) (p : Port) :
    (s.idleChannel p).level = s.level := rfl
@[simp] theorem State.idleChannel_pump (s : State) (p : Port) :
    (s.idleChannel p).pump = s.pump := rfl
@[simp] theorem State.idleChannel_link (s : State) (p : Port) :
    (s.idleChannel p).link = s.link := rfl
@[simp] theorem State.idleChannel_fax (s : State) (p : Port) :
    (s.idleChannel p).fax = s.fax := rfl
@[simp] theorem State.idleChannel_voice (s : State) (p : Port) :
    (s.idleChannel p).voice = s.voice := rfl
@[simp] theorem State.idleChannel_settings (s : State) (p : Port) :
    (s.idleChannel p).settings = s.settings := rfl
@[simp] theorem State.idleChannel_store (s : State) (p : Port) :
    (s.idleChannel p).store = s.store := rfl
@[simp] theorem State.idleChannel_sys (s : State) (p : Port) :
    (s.idleChannel p).sys = s.sys := rfl
@[simp] theorem State.idleChannel_pan (s : State) (p : Port) :
    (s.idleChannel p).pan = s.pan := rfl
@[simp] theorem State.idleChannel_power (s : State) (p : Port) :
    (s.idleChannel p).power = s.power := rfl
@[simp] theorem State.idleChannel_pending (s : State) (p : Port) :
    (s.idleChannel p).pending = s.pending := rfl
@[simp] theorem State.updNotices_ccu (s : State) (p : Port) (g : Controller → Controller) :
    (s.updNotices p g).ccu = s.ccu := rfl
@[simp] theorem State.updNotices_lif (s : State) (p : Port) (g : Controller → Controller) :
    (s.updNotices p g).lif = s.lif := rfl
@[simp] theorem State.updNotices_timers (s : State) (p : Port) (g : Controller → Controller) :
    (s.updNotices p g).timers = s.timers := rfl
@[simp] theorem State.updNotices_calendar (s : State) (p : Port) (g : Controller → Controller) :
    (s.updNotices p g).calendar = s.calendar := rfl
@[simp] theorem State.updNotices_tone (s : State) (p : Port) (g : Controller → Controller) :
    (s.updNotices p g).tone = s.tone := rfl
@[simp] theorem State.updNotices_rau (s : State) (p : Port) (g : Controller → Controller) :
    (s.updNotices p g).rau = s.rau := rfl
@[simp] theorem State.updNotices_level (s : State) (p : Port) (g : Controller → Controller) :
    (s.updNotices p g).level = s.level := rfl
@[simp] theorem State.updNotices_pump (s : State) (p : Port) (g : Controller → Controller) :
    (s.updNotices p g).pump = s.pump := rfl
@[simp] theorem State.updNotices_link (s : State) (p : Port) (g : Controller → Controller) :
    (s.updNotices p g).link = s.link := rfl
@[simp] theorem State.updNotices_fax (s : State) (p : Port) (g : Controller → Controller) :
    (s.updNotices p g).fax = s.fax := rfl
@[simp] theorem State.updNotices_voice (s : State) (p : Port) (g : Controller → Controller) :
    (s.updNotices p g).voice = s.voice := rfl
@[simp] theorem State.updNotices_settings (s : State) (p : Port) (g : Controller → Controller) :
    (s.updNotices p g).settings = s.settings := rfl
@[simp] theorem State.updNotices_store (s : State) (p : Port) (g : Controller → Controller) :
    (s.updNotices p g).store = s.store := rfl
@[simp] theorem State.updNotices_sys (s : State) (p : Port) (g : Controller → Controller) :
    (s.updNotices p g).sys = s.sys := rfl
@[simp] theorem State.updNotices_pan (s : State) (p : Port) (g : Controller → Controller) :
    (s.updNotices p g).pan = s.pan := rfl
@[simp] theorem State.updNotices_power (s : State) (p : Port) (g : Controller → Controller) :
    (s.updNotices p g).power = s.power := rfl
@[simp] theorem State.updNotices_pending (s : State) (p : Port) (g : Controller → Controller) :
    (s.updNotices p g).pending = s.pending := rfl
@[simp] theorem State.faxFrame_ccu (s : State) (f : FaxFrame) :
    (s.faxFrame f).ccu = s.ccu := rfl
@[simp] theorem State.faxFrame_lif (s : State) (f : FaxFrame) :
    (s.faxFrame f).lif = s.lif := rfl
@[simp] theorem State.faxFrame_timers (s : State) (f : FaxFrame) :
    (s.faxFrame f).timers = s.timers := rfl
@[simp] theorem State.faxFrame_calendar (s : State) (f : FaxFrame) :
    (s.faxFrame f).calendar = s.calendar := rfl
@[simp] theorem State.faxFrame_tone (s : State) (f : FaxFrame) :
    (s.faxFrame f).tone = s.tone := rfl
@[simp] theorem State.faxFrame_rau (s : State) (f : FaxFrame) :
    (s.faxFrame f).rau = s.rau := rfl
@[simp] theorem State.faxFrame_level (s : State) (f : FaxFrame) :
    (s.faxFrame f).level = s.level := rfl
@[simp] theorem State.faxFrame_pump (s : State) (f : FaxFrame) :
    (s.faxFrame f).pump = s.pump := rfl
@[simp] theorem State.faxFrame_voice (s : State) (f : FaxFrame) :
    (s.faxFrame f).voice = s.voice := rfl
@[simp] theorem State.faxFrame_settings (s : State) (f : FaxFrame) :
    (s.faxFrame f).settings = s.settings := rfl
@[simp] theorem State.faxFrame_store (s : State) (f : FaxFrame) :
    (s.faxFrame f).store = s.store := rfl
@[simp] theorem State.faxFrame_ports (s : State) (f : FaxFrame) :
    (s.faxFrame f).ports = s.ports := rfl
@[simp] theorem State.faxFrame_sys (s : State) (f : FaxFrame) :
    (s.faxFrame f).sys = s.sys := rfl
@[simp] theorem State.faxFrame_pan (s : State) (f : FaxFrame) :
    (s.faxFrame f).pan = s.pan := rfl
@[simp] theorem State.faxFrame_power (s : State) (f : FaxFrame) :
    (s.faxFrame f).power = s.power := rfl
@[simp] theorem State.faxFrame_pending (s : State) (f : FaxFrame) :
    (s.faxFrame f).pending = s.pending := rfl
@[simp] theorem State.faxWait_lif (s : State) :
    (s.faxWait).lif = s.lif := rfl
@[simp] theorem State.faxWait_calendar (s : State) :
    (s.faxWait).calendar = s.calendar := rfl
@[simp] theorem State.faxWait_tone (s : State) :
    (s.faxWait).tone = s.tone := rfl
@[simp] theorem State.faxWait_rau (s : State) :
    (s.faxWait).rau = s.rau := rfl
@[simp] theorem State.faxWait_level (s : State) :
    (s.faxWait).level = s.level := rfl
@[simp] theorem State.faxWait_pump (s : State) :
    (s.faxWait).pump = s.pump := rfl
@[simp] theorem State.faxWait_link (s : State) :
    (s.faxWait).link = s.link := rfl
@[simp] theorem State.faxWait_fax (s : State) :
    (s.faxWait).fax = s.fax := rfl
@[simp] theorem State.faxWait_voice (s : State) :
    (s.faxWait).voice = s.voice := rfl
@[simp] theorem State.faxWait_settings (s : State) :
    (s.faxWait).settings = s.settings := rfl
@[simp] theorem State.faxWait_store (s : State) :
    (s.faxWait).store = s.store := rfl
@[simp] theorem State.faxWait_ports (s : State) :
    (s.faxWait).ports = s.ports := rfl
@[simp] theorem State.faxWait_sys (s : State) :
    (s.faxWait).sys = s.sys := rfl
@[simp] theorem State.faxWait_pan (s : State) :
    (s.faxWait).pan = s.pan := rfl
@[simp] theorem State.faxWait_power (s : State) :
    (s.faxWait).power = s.power := rfl
@[simp] theorem State.faxWait_pending (s : State) :
    (s.faxWait).pending = s.pending := rfl
@[simp] theorem State.byteRestarts_ccu (s : State) :
    (s.byteRestarts).ccu = s.ccu := rfl
@[simp] theorem State.byteRestarts_lif (s : State) :
    (s.byteRestarts).lif = s.lif := rfl
@[simp] theorem State.byteRestarts_calendar (s : State) :
    (s.byteRestarts).calendar = s.calendar := rfl
@[simp] theorem State.byteRestarts_tone (s : State) :
    (s.byteRestarts).tone = s.tone := rfl
@[simp] theorem State.byteRestarts_rau (s : State) :
    (s.byteRestarts).rau = s.rau := rfl
@[simp] theorem State.byteRestarts_level (s : State) :
    (s.byteRestarts).level = s.level := rfl
@[simp] theorem State.byteRestarts_pump (s : State) :
    (s.byteRestarts).pump = s.pump := rfl
@[simp] theorem State.byteRestarts_link (s : State) :
    (s.byteRestarts).link = s.link := rfl
@[simp] theorem State.byteRestarts_fax (s : State) :
    (s.byteRestarts).fax = s.fax := rfl
@[simp] theorem State.byteRestarts_voice (s : State) :
    (s.byteRestarts).voice = s.voice := rfl
@[simp] theorem State.byteRestarts_settings (s : State) :
    (s.byteRestarts).settings = s.settings := rfl
@[simp] theorem State.byteRestarts_store (s : State) :
    (s.byteRestarts).store = s.store := rfl
@[simp] theorem State.byteRestarts_ports (s : State) :
    (s.byteRestarts).ports = s.ports := rfl
@[simp] theorem State.byteRestarts_sys (s : State) :
    (s.byteRestarts).sys = s.sys := rfl
@[simp] theorem State.byteRestarts_pan (s : State) :
    (s.byteRestarts).pan = s.pan := rfl
@[simp] theorem State.byteRestarts_power (s : State) :
    (s.byteRestarts).power = s.power := rfl
@[simp] theorem State.byteRestarts_pending (s : State) :
    (s.byteRestarts).pending = s.pending := rfl
@[simp] theorem State.blockRestarts_ccu (s : State) (path : AudioPath) (level : Nat) :
    (s.blockRestarts path level).ccu = s.ccu := rfl
@[simp] theorem State.blockRestarts_lif (s : State) (path : AudioPath) (level : Nat) :
    (s.blockRestarts path level).lif = s.lif := rfl
@[simp] theorem State.blockRestarts_calendar (s : State) (path : AudioPath) (level : Nat) :
    (s.blockRestarts path level).calendar = s.calendar := rfl
@[simp] theorem State.blockRestarts_tone (s : State) (path : AudioPath) (level : Nat) :
    (s.blockRestarts path level).tone = s.tone := rfl
@[simp] theorem State.blockRestarts_rau (s : State) (path : AudioPath) (level : Nat) :
    (s.blockRestarts path level).rau = s.rau := rfl
@[simp] theorem State.blockRestarts_level (s : State) (path : AudioPath) (level : Nat) :
    (s.blockRestarts path level).level = s.level := rfl
@[simp] theorem State.blockRestarts_pump (s : State) (path : AudioPath) (level : Nat) :
    (s.blockRestarts path level).pump = s.pump := rfl
@[simp] theorem State.blockRestarts_link (s : State) (path : AudioPath) (level : Nat) :
    (s.blockRestarts path level).link = s.link := rfl
@[simp] theorem State.blockRestarts_fax (s : State) (path : AudioPath) (level : Nat) :
    (s.blockRestarts path level).fax = s.fax := rfl
@[simp] theorem State.blockRestarts_voice (s : State) (path : AudioPath) (level : Nat) :
    (s.blockRestarts path level).voice = s.voice := rfl
@[simp] theorem State.blockRestarts_settings (s : State) (path : AudioPath) (level : Nat) :
    (s.blockRestarts path level).settings = s.settings := rfl
@[simp] theorem State.blockRestarts_store (s : State) (path : AudioPath) (level : Nat) :
    (s.blockRestarts path level).store = s.store := rfl
@[simp] theorem State.blockRestarts_ports (s : State) (path : AudioPath) (level : Nat) :
    (s.blockRestarts path level).ports = s.ports := rfl
@[simp] theorem State.blockRestarts_sys (s : State) (path : AudioPath) (level : Nat) :
    (s.blockRestarts path level).sys = s.sys := rfl
@[simp] theorem State.blockRestarts_pan (s : State) (path : AudioPath) (level : Nat) :
    (s.blockRestarts path level).pan = s.pan := rfl
@[simp] theorem State.blockRestarts_power (s : State) (path : AudioPath) (level : Nat) :
    (s.blockRestarts path level).power = s.power := rfl
@[simp] theorem State.blockRestarts_pending (s : State) (path : AudioPath) (level : Nat) :
    (s.blockRestarts path level).pending = s.pending := rfl
@[simp] theorem State.setDeadlines_ccu (s : State) (d : Deadlines) :
    (s.setDeadlines d).ccu = s.ccu := rfl
@[simp] theorem State.setDeadlines_lif (s : State) (d : Deadlines) :
    (s.setDeadlines d).lif = s.lif := rfl
@[simp] theorem State.setDeadlines_calendar (s : State) (d : Deadlines) :
    (s.setDeadlines d).calendar = s.calendar := rfl
@[simp] theorem State.setDeadlines_tone (s : State) (d : Deadlines) :
    (s.setDeadlines d).tone = s.tone := rfl
@[simp] theorem State.setDeadlines_level (s : State) (d : Deadlines) :
    (s.setDeadlines d).level = s.level := rfl
@[simp] theorem State.setDeadlines_pump (s : State) (d : Deadlines) :
    (s.setDeadlines d).pump = s.pump := rfl
@[simp] theorem State.setDeadlines_link (s : State) (d : Deadlines) :
    (s.setDeadlines d).link = s.link := rfl
@[simp] theorem State.setDeadlines_fax (s : State) (d : Deadlines) :
    (s.setDeadlines d).fax = s.fax := rfl
@[simp] theorem State.setDeadlines_voice (s : State) (d : Deadlines) :
    (s.setDeadlines d).voice = s.voice := rfl
@[simp] theorem State.setDeadlines_settings (s : State) (d : Deadlines) :
    (s.setDeadlines d).settings = s.settings := rfl
@[simp] theorem State.setDeadlines_store (s : State) (d : Deadlines) :
    (s.setDeadlines d).store = s.store := rfl
@[simp] theorem State.setDeadlines_ports (s : State) (d : Deadlines) :
    (s.setDeadlines d).ports = s.ports := rfl
@[simp] theorem State.setDeadlines_sys (s : State) (d : Deadlines) :
    (s.setDeadlines d).sys = s.sys := rfl
@[simp] theorem State.setDeadlines_pan (s : State) (d : Deadlines) :
    (s.setDeadlines d).pan = s.pan := rfl
@[simp] theorem State.setDeadlines_power (s : State) (d : Deadlines) :
    (s.setDeadlines d).power = s.power := rfl
@[simp] theorem State.setDeadlines_pending (s : State) (d : Deadlines) :
    (s.setDeadlines d).pending = s.pending := rfl
@[simp] theorem State.reachDue_ccu (s : State) (due : Nat) :
    (s.reachDue due).ccu = s.ccu := by rw [State.reachDue]
@[simp] theorem State.reachDue_lif (s : State) (due : Nat) :
    (s.reachDue due).lif = s.lif := by rw [State.reachDue]
@[simp] theorem State.reachDue_calendar (s : State) (due : Nat) :
    (s.reachDue due).calendar = s.calendar := by rw [State.reachDue]
@[simp] theorem State.reachDue_tone (s : State) (due : Nat) :
    (s.reachDue due).tone = s.tone := by rw [State.reachDue]
@[simp] theorem State.reachDue_rau (s : State) (due : Nat) :
    (s.reachDue due).rau = s.rau := by rw [State.reachDue]
@[simp] theorem State.reachDue_level (s : State) (due : Nat) :
    (s.reachDue due).level = s.level := by rw [State.reachDue]
@[simp] theorem State.reachDue_pump (s : State) (due : Nat) :
    (s.reachDue due).pump = s.pump := by rw [State.reachDue]
@[simp] theorem State.reachDue_link (s : State) (due : Nat) :
    (s.reachDue due).link = s.link := by rw [State.reachDue]
@[simp] theorem State.reachDue_fax (s : State) (due : Nat) :
    (s.reachDue due).fax = s.fax := by rw [State.reachDue]
@[simp] theorem State.reachDue_voice (s : State) (due : Nat) :
    (s.reachDue due).voice = s.voice := by rw [State.reachDue]
@[simp] theorem State.reachDue_settings (s : State) (due : Nat) :
    (s.reachDue due).settings = s.settings := by rw [State.reachDue]
@[simp] theorem State.reachDue_store (s : State) (due : Nat) :
    (s.reachDue due).store = s.store := by rw [State.reachDue]
@[simp] theorem State.reachDue_ports (s : State) (due : Nat) :
    (s.reachDue due).ports = s.ports := by rw [State.reachDue]
@[simp] theorem State.reachDue_sys (s : State) (due : Nat) :
    (s.reachDue due).sys = s.sys := by rw [State.reachDue]
@[simp] theorem State.reachDue_pan (s : State) (due : Nat) :
    (s.reachDue due).pan = s.pan := by rw [State.reachDue]
@[simp] theorem State.reachDue_power (s : State) (due : Nat) :
    (s.reachDue due).power = s.power := by rw [State.reachDue]
@[simp] theorem State.reachDue_pending (s : State) (due : Nat) :
    (s.reachDue due).pending = s.pending := by rw [State.reachDue]
@[simp] theorem State.writeHeader_ccu (s : State) :
    (s.writeHeader).ccu = s.ccu := rfl
@[simp] theorem State.writeHeader_lif (s : State) :
    (s.writeHeader).lif = s.lif := rfl
@[simp] theorem State.writeHeader_timers (s : State) :
    (s.writeHeader).timers = s.timers := rfl
@[simp] theorem State.writeHeader_calendar (s : State) :
    (s.writeHeader).calendar = s.calendar := rfl
@[simp] theorem State.writeHeader_tone (s : State) :
    (s.writeHeader).tone = s.tone := rfl
@[simp] theorem State.writeHeader_rau (s : State) :
    (s.writeHeader).rau = s.rau := rfl
@[simp] theorem State.writeHeader_level (s : State) :
    (s.writeHeader).level = s.level := rfl
@[simp] theorem State.writeHeader_pump (s : State) :
    (s.writeHeader).pump = s.pump := rfl
@[simp] theorem State.writeHeader_link (s : State) :
    (s.writeHeader).link = s.link := rfl
@[simp] theorem State.writeHeader_fax (s : State) :
    (s.writeHeader).fax = s.fax := rfl
@[simp] theorem State.writeHeader_voice (s : State) :
    (s.writeHeader).voice = s.voice := rfl
@[simp] theorem State.writeHeader_settings (s : State) :
    (s.writeHeader).settings = s.settings := rfl
@[simp] theorem State.writeHeader_ports (s : State) :
    (s.writeHeader).ports = s.ports := rfl
@[simp] theorem State.writeHeader_sys (s : State) :
    (s.writeHeader).sys = s.sys := rfl
@[simp] theorem State.writeHeader_pan (s : State) :
    (s.writeHeader).pan = s.pan := rfl
@[simp] theorem State.writeHeader_power (s : State) :
    (s.writeHeader).power = s.power := rfl
@[simp] theorem State.writeHeader_pending (s : State) :
    (s.writeHeader).pending = s.pending := rfl
@[simp] theorem State.second_lif (s : State) :
    (s.second).lif = s.lif := rfl
@[simp] theorem State.second_timers (s : State) :
    (s.second).timers = s.timers := rfl
@[simp] theorem State.second_tone (s : State) :
    (s.second).tone = s.tone := rfl
@[simp] theorem State.second_level (s : State) :
    (s.second).level = s.level := rfl
@[simp] theorem State.second_pump (s : State) :
    (s.second).pump = s.pump := rfl
@[simp] theorem State.second_link (s : State) :
    (s.second).link = s.link := rfl
@[simp] theorem State.second_fax (s : State) :
    (s.second).fax = s.fax := rfl
@[simp] theorem State.second_voice (s : State) :
    (s.second).voice = s.voice := rfl
@[simp] theorem State.second_settings (s : State) :
    (s.second).settings = s.settings := rfl
@[simp] theorem State.second_store (s : State) :
    (s.second).store = s.store := rfl
@[simp] theorem State.second_ports (s : State) :
    (s.second).ports = s.ports := rfl
@[simp] theorem State.second_sys (s : State) :
    (s.second).sys = s.sys := rfl
@[simp] theorem State.second_pan (s : State) :
    (s.second).pan = s.pan := rfl
@[simp] theorem State.second_power (s : State) :
    (s.second).power = s.power := rfl
@[simp] theorem State.second_pending (s : State) :
    (s.second).pending = s.pending := rfl
@[simp] theorem State.clearForCall_ccu (s : State) :
    (s.clearForCall).ccu = s.ccu := rfl
@[simp] theorem State.clearForCall_lif (s : State) :
    (s.clearForCall).lif = s.lif := rfl
@[simp] theorem State.clearForCall_timers (s : State) :
    (s.clearForCall).timers = s.timers := rfl
@[simp] theorem State.clearForCall_calendar (s : State) :
    (s.clearForCall).calendar = s.calendar := rfl
@[simp] theorem State.clearForCall_tone (s : State) :
    (s.clearForCall).tone = s.tone := rfl
@[simp] theorem State.clearForCall_rau (s : State) :
    (s.clearForCall).rau = s.rau := rfl
@[simp] theorem State.clearForCall_pump (s : State) :
    (s.clearForCall).pump = s.pump := rfl
@[simp] theorem State.clearForCall_fax (s : State) :
    (s.clearForCall).fax = s.fax := rfl
@[simp] theorem State.clearForCall_voice (s : State) :
    (s.clearForCall).voice = s.voice := rfl
@[simp] theorem State.clearForCall_settings (s : State) :
    (s.clearForCall).settings = s.settings := rfl
@[simp] theorem State.clearForCall_store (s : State) :
    (s.clearForCall).store = s.store := rfl
@[simp] theorem State.clearForCall_sys (s : State) :
    (s.clearForCall).sys = s.sys := rfl
@[simp] theorem State.clearForCall_pan (s : State) :
    (s.clearForCall).pan = s.pan := rfl
@[simp] theorem State.clearForCall_power (s : State) :
    (s.clearForCall).power = s.power := rfl
@[simp] theorem State.clearForCall_pending (s : State) :
    (s.clearForCall).pending = s.pending := rfl
@[simp] theorem State.activate_lif (s : State) (call : CallRecord) (blind : Bool) :
    (s.activate call blind).lif = s.lif := rfl
@[simp] theorem State.activate_timers (s : State) (call : CallRecord) (blind : Bool) :
    (s.activate call blind).timers = s.timers := rfl
@[simp] theorem State.activate_calendar (s : State) (call : CallRecord) (blind : Bool) :
    (s.activate call blind).calendar = s.calendar := rfl
@[simp] theorem State.activate_rau (s : State) (call : CallRecord) (blind : Bool) :
    (s.activate call blind).rau = s.rau := rfl
@[simp] theorem State.activate_pump (s : State) (call : CallRecord) (blind : Bool) :
    (s.activate call blind).pump = s.pump := rfl
@[simp] theorem State.activate_voice (s : State) (call : CallRecord) (blind : Bool) :
    (s.activate call blind).voice = s.voice := rfl
@[simp] theorem State.activate_settings (s : State) (call : CallRecord) (blind : Bool) :
    (s.activate call blind).settings = s.settings := rfl
@[simp] theorem State.activate_store (s : State) (call : CallRecord) (blind : Bool) :
    (s.activate call blind).store = s.store := rfl
@[simp] theorem State.activate_sys (s : State) (call : CallRecord) (blind : Bool) :
    (s.activate call blind).sys = s.sys := rfl
@[simp] theorem State.activate_pan (s : State) (call : CallRecord) (blind : Bool) :
    (s.activate call blind).pan = s.pan := rfl
@[simp] theorem State.activate_power (s : State) (call : CallRecord) (blind : Bool) :
    (s.activate call blind).power = s.power := rfl
@[simp] theorem State.activate_pending (s : State) (call : CallRecord) (blind : Bool) :
    (s.activate call blind).pending = s.pending := rfl
@[simp] theorem State.dropCallDetectors_ccu (s : State) (digits : Bool) :
    (s.dropCallDetectors digits).ccu = s.ccu := rfl
@[simp] theorem State.dropCallDetectors_lif (s : State) (digits : Bool) :
    (s.dropCallDetectors digits).lif = s.lif := rfl
@[simp] theorem State.dropCallDetectors_timers (s : State) (digits : Bool) :
    (s.dropCallDetectors digits).timers = s.timers := rfl
@[simp] theorem State.dropCallDetectors_calendar (s : State) (digits : Bool) :
    (s.dropCallDetectors digits).calendar = s.calendar := rfl
@[simp] theorem State.dropCallDetectors_rau (s : State) (digits : Bool) :
    (s.dropCallDetectors digits).rau = s.rau := rfl
@[simp] theorem State.dropCallDetectors_level (s : State) (digits : Bool) :
    (s.dropCallDetectors digits).level = s.level := rfl
@[simp] theorem State.dropCallDetectors_pump (s : State) (digits : Bool) :
    (s.dropCallDetectors digits).pump = s.pump := rfl
@[simp] theorem State.dropCallDetectors_link (s : State) (digits : Bool) :
    (s.dropCallDetectors digits).link = s.link := rfl
@[simp] theorem State.dropCallDetectors_fax (s : State) (digits : Bool) :
    (s.dropCallDetectors digits).fax = s.fax := rfl
@[simp] theorem State.dropCallDetectors_voice (s : State) (digits : Bool) :
    (s.dropCallDetectors digits).voice = s.voice := rfl
@[simp] theorem State.dropCallDetectors_settings (s : State) (digits : Bool) :
    (s.dropCallDetectors digits).settings = s.settings := rfl
@[simp] theorem State.dropCallDetectors_store (s : State) (digits : Bool) :
    (s.dropCallDetectors digits).store = s.store := rfl
@[simp] theorem State.dropCallDetectors_ports (s : State) (digits : Bool) :
    (s.dropCallDetectors digits).ports = s.ports := rfl
@[simp] theorem State.dropCallDetectors_sys (s : State) (digits : Bool) :
    (s.dropCallDetectors digits).sys = s.sys := rfl
@[simp] theorem State.dropCallDetectors_pan (s : State) (digits : Bool) :
    (s.dropCallDetectors digits).pan = s.pan := rfl
@[simp] theorem State.dropCallDetectors_power (s : State) (digits : Bool) :
    (s.dropCallDetectors digits).power = s.power := rfl
@[simp] theorem State.dropCallDetectors_pending (s : State) (digits : Bool) :
    (s.dropCallDetectors digits).pending = s.pending := rfl

/-! ### Small records beside their operations -/

/-- R95: a stop without a full window discards the partial one. -/
theorem LevelMeter.stopFeed_partial {m : LevelMeter} (h : m.windowFull = false) :
    m.stopFeed = { m with feed := .off, window := .zero } := by simp [LevelMeter.stopFeed, h]
/-- R95: a stop with a full window puts it aside to close. -/
theorem LevelMeter.stopFeed_full {m : LevelMeter} (h : m.windowFull = true) :
    m.stopFeed = { m with feed := .off, window := .zero, closing := m.closing ++ [⟨m.feed, m.window⟩] } := by
  simp [LevelMeter.stopFeed, h]
@[simp] theorem LevelMeter.stopFeed_feed (m : LevelMeter) : m.stopFeed.feed = .off := rfl
@[simp] theorem LevelMeter.stopFeed_window (m : LevelMeter) : m.stopFeed.window = .zero := rfl
@[simp] theorem LevelMeter.stopFeed_average (m : LevelMeter) : m.stopFeed.average = m.average := rfl
@[simp] theorem LevelMeter.stopFeed_overloads (m : LevelMeter) : m.stopFeed.overloads = m.overloads := rfl
@[simp] theorem LevelMeter.stopFeed_lastQ (m : LevelMeter) : m.stopFeed.lastQ = m.lastQ := rfl
@[simp] theorem LevelMeter.stopFeed_line (m : LevelMeter) : m.stopFeed.line = m.line := rfl
@[simp] theorem LevelMeter.stopFeed_mic (m : LevelMeter) : m.stopFeed.mic = m.mic := rfl
/-- R89: a feed that starts from OFF starts with a fresh window. -/
theorem LevelMeter.startFeed_off {m : LevelMeter} (k : FeedKind) (h : m.feed = .off) :
    (m.startFeed k).window = .zero := by simp [LevelMeter.startFeed, h]
@[simp] theorem LevelMeter.startFeed_feed (m : LevelMeter) (k : FeedKind) : (m.startFeed k).feed = k := rfl
@[simp] theorem LevelMeter.startFeed_average (m : LevelMeter) (k : FeedKind) : (m.startFeed k).average = m.average := rfl
@[simp] theorem LevelMeter.startFeed_closing (m : LevelMeter) (k : FeedKind) : (m.startFeed k).closing = m.closing := rfl
@[simp] theorem LevelMeter.take_feed (m : LevelMeter) (c : ClosingWindow) : (m.take c).feed = m.feed := rfl
@[simp] theorem LevelMeter.take_window (m : LevelMeter) (c : ClosingWindow) : (m.take c).window = m.window := rfl
@[simp] theorem LevelMeter.take_closing (m : LevelMeter) (c : ClosingWindow) : (m.take c).closing = m.closing := rfl
@[simp] theorem LevelMeter.take_trainingQ (m : LevelMeter) (c : ClosingWindow) : (m.take c).trainingQ = m.trainingQ := rfl
@[simp] theorem LevelMeter.take_line (m : LevelMeter) (c : ClosingWindow) : (m.take c).line = m.line := rfl
/-- R91: with none put aside, the window in hand closes once it is full. -/
theorem LevelMeter.nextClosing_inHand {m : LevelMeter} (h : m.closing = []) (hf : m.windowFull = true) :
    m.nextClosing = some ⟨m.feed, m.window⟩ := by simp [LevelMeter.nextClosing, h, hf]
/-- R91: with none put aside and none full, no window closes. -/
theorem LevelMeter.nextClosing_none {m : LevelMeter} (h : m.closing = []) (hf : m.windowFull = false) :
    m.nextClosing = none := by simp [LevelMeter.nextClosing, h, hf]
/-- R95: a window that a stop put aside closes first. -/
theorem LevelMeter.nextClosing_aside {m : LevelMeter} {c : ClosingWindow} {rest : List ClosingWindow}
    (h : m.closing = c :: rest) : m.nextClosing = some c := by simp [LevelMeter.nextClosing, h]
/-- R91: the close of the window in hand. -/
theorem LevelMeter.closeWindow_inHand {m : LevelMeter} (c : ClosingWindow) (h : m.closing = []) :
    m.closeWindow c = (m.take c).freshWindow := by simp [LevelMeter.closeWindow, h]
/-- R95: the close of a window that a stop put aside leaves the window in hand. -/
theorem LevelMeter.closeWindow_aside {m : LevelMeter} (c : ClosingWindow) {d : ClosingWindow} {rest : List ClosingWindow}
    (h : m.closing = d :: rest) : m.closeWindow c = { m.take c with closing := rest } := by
  simp [LevelMeter.closeWindow, h]
@[simp] theorem LevelMeter.closeWindow_feed (m : LevelMeter) (c : ClosingWindow) : (m.closeWindow c).feed = m.feed := by
  unfold LevelMeter.closeWindow; split <;> rfl
@[simp] theorem LevelMeter.closeWindow_line (m : LevelMeter) (c : ClosingWindow) : (m.closeWindow c).line = m.line := by
  unfold LevelMeter.closeWindow; split <;> rfl
@[simp] theorem LevelMeter.closeWindow_lastQ (m : LevelMeter) (c : ClosingWindow) :
    (m.closeWindow c).lastQ = some (c.window.quality, c.window.saturated) := by
  unfold LevelMeter.closeWindow; split <;> rfl
@[simp] theorem LevelMeter.endTraining_feed (m : LevelMeter) : m.endTraining.feed = .off := rfl
@[simp] theorem LevelMeter.endTraining_window (m : LevelMeter) : m.endTraining.window = .zero := rfl
@[simp] theorem ClosingWindow.report_feed (c : ClosingWindow) (a : Option Nat) : (c.report a).feed = c.feed := rfl
@[simp] theorem ClosingWindow.report_average (c : ClosingWindow) (a : Option Nat) : (c.report a).average = a := rfl

@[simp] theorem Channel.abandon_signalA (c : Channel) : c.abandon.signalA = false := rfl
@[simp] theorem Channel.abandon_signalB (c : Channel) : c.abandon.signalB = false := rfl
@[simp] theorem Channel.abandon_mode (c : Channel) : c.abandon.mode = c.mode := rfl
@[simp] theorem Channel.abandon_count (c : Channel) : c.abandon.count = c.count := rfl
@[simp] theorem Channel.abandon_compareA (c : Channel) : c.abandon.compareA = c.compareA := rfl
@[simp] theorem Channel.abandon_use (c : Channel) : c.abandon.use = c.use := rfl
@[simp] theorem Channel.abandon_high (c : Channel) : c.abandon.high = c.high := rfl
@[simp] theorem Channel.abandon_restart (c : Channel) : c.abandon.restart = c.restart := rfl
@[simp] theorem Channel.abandon_owner (c : Channel) : c.abandon.owner = c.owner := rfl
/-- R51: the blocks after a burst pass, in a burst none does. -/
theorem State.blankPasses_blank (s : State) :
    s.blankPasses.tone.blank = if s.inBurst then s.tone.blank else s.tone.blank - 1 := by
  unfold State.blankPasses; split <;> rfl

/-- R164, R174: END at once is a chain of no granule. -/
@[simp] theorem chainFrom_end (links : List (Option Nat)) (n : Nat) : chainFrom links n none = some [] := by
  unfold chainFrom; rfl
/-- R174: a chain that stands has as many granules as its recorded count. -/
theorem RecordedTables.chain_length {x : RecordedTables} {f : Option Nat} {n : Nat} {gs : List Nat}
    (h : x.chain f n = some gs) : gs.length = n := by
  unfold RecordedTables.chain at h
  split at h
  · split at h
    · cases h; assumption
    · cases h
  · cases h
/-- R174: the tables that the lists stand for are found as they are. -/
@[simp] theorem Store.found_lists {t : Store} (h : t.tables = none) : t.found = some t := by simp [Store.found, h]
/-- R174: a store that is kept was found, and meets the conditions of a warm start. -/
theorem Store.kept_some {t f : Store} {n : Nat} (h : t.kept n = some f) : t.found = some f ∧ f.sound n = true := by
  unfold Store.kept at h
  split at h
  · split at h
    · cases h; exact ⟨‹_›, ‹_›⟩
    · cases h
  · cases h

/-- R40: an owner takes an event that is due: one that has fired, or that the next tick fires. -/
theorem Channel.takeDue_some {own : Nat} {c d : Channel} (h : c.takeDue own = some d) :
    (c.signalA = true ∨ c.firesNext = true) ∧ c.takeA own = some d := by
  unfold Channel.takeDue at h; split at h
  · exact ⟨‹_›, h⟩
  · cases h

@[simp] theorem Discrimination.inPhase_phase (d : Discrimination) (p : DiscrPhase) : (d.inPhase p).phase = p := rfl
@[simp] theorem Discrimination.inPhase_heard (d : Discrimination) (p : DiscrPhase) : (d.inPhase p).heard = d.heard := rfl
@[simp] theorem Discrimination.inPhase_code (d : Discrimination) (p : DiscrPhase) : (d.inPhase p).code = d.code := rfl

/-- R177: an empty assembler discards what is no lead byte. -/
theorem assembleByte_skip {b : Byte} (h : b ≠ commandLead) : assembleByte [] b = [] := by simp [assembleByte, h]
/-- R177: an empty assembler takes a lead byte. -/
theorem assembleByte_lead : assembleByte [] commandLead = [commandLead] := by decide

/-- R184: an OPEN TRANSFER whose direction is that of its parameters. -/
theorem openTransfer_same {d : TransferDirection} {b : Byte} (h : directionOf b = some d) (body : State → State × Reply)
    (s : State) : openTransfer d b body s = body s := by simp [openTransfer, h]
/-- R178 and R184: an OPEN TRANSFER of another direction is refused. -/
theorem openTransfer_other {d : TransferDirection} {b : Byte} (h : directionOf b ≠ some d) (body : State → State × Reply)
    (s : State) : openTransfer d b body s = refuse s .badParameter := by simp [openTransfer, h]

/-- R32, R129: a byte finds an expiry of T5 only where one has fired while the port watches for the escape. -/
theorem State.expiryFirst_none {s : State} (h : ¬(s.timers.e5.signalA = true ∧ s.watchesEscape)) : s.expiryFirst = s := by
  unfold State.expiryFirst; exact if_neg h
/-- R129: the expiry that a byte finds is taken before it. -/
theorem State.expiryFirst_fired {s : State} (h : s.timers.e5.signalA = true) (w : s.watchesEscape) :
    s.expiryFirst = State.escapeExpiry { s with timers.e5.signalA := false, sys.expiryTaken := true } := by
  unfold State.expiryFirst; exact if_pos ⟨h, w⟩

@[simp] theorem State.faxFrame_checkSending (s : State) (f : FaxFrame) : (s.faxFrame f).fax.checkSending = false := rfl
@[simp] theorem State.faxFrame_lastFrame (s : State) (f : FaxFrame) : (s.faxFrame f).fax.lastFrame = some f := rfl
@[simp] theorem State.faxFrame_tx (s : State) (f : FaxFrame) : (s.faxFrame f).link.tx = .fax f := rfl
@[simp] theorem State.faxFrame_unsent (s : State) (f : FaxFrame) : (s.faxFrame f).fax.unsent = true := rfl
@[simp] theorem State.faxFrame_answered (s : State) (f : FaxFrame) : (s.faxFrame f).fax.answered = s.fax.answered := rfl
@[simp] theorem State.faxAnswered_expect (s : State) : s.faxAnswered.fax.expect = .none := rfl
@[simp] theorem State.faxAnswered_retries (s : State) : s.faxAnswered.fax.retries = 0 := rfl
@[simp] theorem State.faxAnswered_unsent (s : State) : s.faxAnswered.fax.unsent = false := rfl
@[simp] theorem State.faxAnswered_answered (s : State) : s.faxAnswered.fax.answered = s.fax.noteAnswer := rfl

/-- R135: the answer that a session waited for is one that it has had, once it is noted. -/
theorem Fax.mem_noteAnswer (x : Fax) : x.expect ∈ x.noteAnswer := by
  unfold Fax.noteAnswer; split
  · assumption
  · simp

/-- R135: nothing that comes answers an earlier frame once the last frame has left. -/
theorem Fax.not_stale (x : Fax) (h : x.unsent = false) : ¬x.stale := by simp [Fax.stale, h]

/-- R30: a due count is never 0. -/
theorem State.dueIn_pos (s : State) (ms : Nat) : 1 ≤ s.dueIn ms := by
  unfold State.dueIn compareClamp clamp; omega

/-- R64: a presence that started at a due count did not start before it. -/
theorem State.startedBefore_captured (s : State) : ¬s.startedBefore s.timers.e1.captured := by
  unfold State.startedBefore ahead; simp
end Sys2Proof.Machine
end

