-- ==== Sys2Proof/Laws/Memory.lean ====
section
/-! SUPPORT. The laws of the DRAM: a read after a write, and the canonical form that every write keeps. -/

namespace Sys2Proof.Machine

/-- Every address listed in a memory lies above `a`. -/
def Mem.above (a : Nat) (m : List Host.Cell) : Prop := ∀ c ∈ m, a < c.1

/-- The canonical form of a memory with a first cell. -/
theorem Mem.wf_cons (c : Host.Cell) (m : List Host.Cell) :
    Mem.wf (c :: m) = true ↔ c.2 ≠ 0#8 ∧ Mem.above c.1 m ∧ Mem.wf m = true := by
  induction m generalizing c with
  | nil => simp [Mem.wf, Mem.above]
  | cons d rest ih =>
    have h := ih d
    simp only [Mem.wf, Bool.and_eq_true, decide_eq_true_eq, Mem.above, List.mem_cons, forall_eq_or_imp]
    simp only [Mem.above] at h
    constructor
    · rintro ⟨⟨h1, h2⟩, h3⟩
      exact ⟨h1, ⟨h2, fun e he => Nat.lt_trans h2 ((h.mp h3).2.1 e he)⟩, h3⟩
    · rintro ⟨h1, ⟨h2, _⟩, h3⟩
      exact ⟨⟨h1, h2⟩, h3⟩

/-- A write lists no address below the least of the written one and those listed before. -/
theorem Mem.above_write {x a : Nat} {b : Byte} {m : List Host.Cell} (hx : x < a) (hm : Mem.above x m) :
    Mem.above x (Mem.write m a b) := by
  induction m with
  | nil =>
    unfold Mem.write
    split
    · simp [Mem.above]
    · simpa [Mem.above] using hx
  | cons c rest ih =>
    have hc : x < c.1 := hm c List.mem_cons_self
    have hr : Mem.above x rest := fun e he => hm e (List.mem_cons_of_mem _ he)
    have ihr := ih hr
    unfold Mem.write
    intro e he
    split at he
    · split at he
      · exact hm e he
      · rcases List.mem_cons.mp he with rfl | he
        · exact hx
        · exact hm e he
    · split at he
      · split at he
        · exact hr e he
        · rcases List.mem_cons.mp he with rfl | he
          · exact hx
          · exact hr e he
      · rcases List.mem_cons.mp he with rfl | he
        · exact hc
        · exact ihr e he

/-- A write keeps the canonical form. -/
theorem Mem.write_wf {m : List Host.Cell} (h : Mem.wf m = true) (a : Nat) (b : Byte) :
    Mem.wf (Mem.write m a b) = true := by
  induction m with
  | nil =>
    unfold Mem.write
    split
    · rfl
    · simpa [Mem.wf] using ‹¬b = 0#8›
  | cons c rest ih =>
    obtain ⟨hc, hab, hr⟩ := (Mem.wf_cons c rest).mp h
    unfold Mem.write
    split
    · split
      · exact h
      · refine (Mem.wf_cons _ _).mpr ⟨‹_›, ?_, h⟩
        intro e he
        rcases List.mem_cons.mp he with rfl | he
        · assumption
        · exact Nat.lt_trans ‹a < c.1› (hab e he)
    · split
      · split
        · exact hr
        · exact (Mem.wf_cons _ _).mpr ⟨‹_›, by simpa [‹a = c.1›] using hab, hr⟩
      · exact (Mem.wf_cons _ _).mpr ⟨hc, Mem.above_write (by omega) hab, ih hr⟩

/-- An address below every listed one reads as an unlisted one. -/
theorem Mem.read_above {a : Nat} {m : List Host.Cell} (h : Mem.above a m) : Mem.read m a = 0#8 := by
  induction m with
  | nil => rfl
  | cons c rest ih =>
    have hc : a < c.1 := h c List.mem_cons_self
    unfold Mem.read
    rw [if_neg (by omega)]
    exact ih (fun e he => h e (List.mem_cons_of_mem _ he))

/-- A read after a write gives the byte written at its address, and what stood there before at every other one. -/
theorem Mem.read_write {m : List Host.Cell} (h : Mem.wf m = true) (a x : Nat) (b : Byte) :
    Mem.read (Mem.write m a b) x = if x = a then b else Mem.read m x := by
  induction m with
  | nil =>
    unfold Mem.write
    split
    · simp [Mem.read, *]
    · by_cases hx : x = a
      · simp [Mem.read, hx]
      · simp [Mem.read, hx, Ne.symm hx]
  | cons c rest ih =>
    obtain ⟨hc, hab, hr⟩ := (Mem.wf_cons c rest).mp h
    have ih := ih hr
    unfold Mem.write
    split
    · have hall : Mem.above a (c :: rest) := by
        intro e he
        rcases List.mem_cons.mp he with rfl | he
        · assumption
        · exact Nat.lt_trans ‹a < c.1› (hab e he)
      split
      · by_cases hx : x = a
        · rw [if_pos hx, hx, Mem.read_above hall]; exact Eq.symm ‹b = 0#8›
        · rw [if_neg hx]
      · by_cases hx : x = a
        · simp [Mem.read, hx]
        · simp [Mem.read, hx, Ne.symm hx]
    · split
      · have hac : a = c.1 := ‹a = c.1›
        by_cases hx : x = a
        · rw [if_pos hx]
          split
          · rw [hx, hac, Mem.read_above hab]; exact Eq.symm ‹b = 0#8›
          · simp [Mem.read, hx]
        · have hne : ¬c.1 = x := fun h => hx (by rw [hac, h])
          rw [if_neg hx]
          split
          · simp [Mem.read, hne]
          · simp [Mem.read, hne, Ne.symm hx]
      · by_cases hx : x = a
        · have hne : ¬c.1 = x := fun h => ‹¬a = c.1› (by rw [h, hx])
          rw [if_pos hx]
          simp only [Mem.read, if_neg hne]
          rw [ih, if_pos hx]
        · rw [if_neg hx]
          simp only [Mem.read]
          rw [ih, if_neg hx]

end Sys2Proof.Machine
end

