-- ==== Sys2Proof/Laws/Store.lean ====
section
/-! SUPPORT. The laws of the Message Store's books (R164, R165): every operation of the store keeps the ids distinct and the
granules balanced. -/

namespace Sys2Proof.Machine

/-! ### The directory -/

/-- An entry found under an id carries that id and stands in the directory. -/
theorem Store.find_mem {t : Store} {id : Nat} {e : Entry} (h : t.find id = some e) : e ∈ t.dir ∧ e.id = id := by
  unfold Store.find at h
  exact ⟨List.mem_of_find?_eq_some h, by simpa using List.find?_some h⟩

/-- An id that is not found is not an id of the directory. -/
theorem Store.find_none {t : Store} {id : Nat} (h : t.find id = none) : id ∉ t.dir.map Entry.id := by
  unfold Store.find at h
  simp only [List.find?_eq_none, beq_iff_eq] at h
  simpa [eq_comm] using fun e he => h e he

/-- A change of entries that keeps ids and chain lengths keeps the books. -/
theorem Balanced.map {dir : List Entry} {free : List Nat} {n : Nat} (h : Balanced dir free n) {g : Entry → Entry}
    (hid : ∀ e, (g e).id = e.id) (hgr : ∀ e, (g e).granules.length = e.granules.length) :
    Balanced (dir.map g) free n := by
  obtain ⟨h1, h2, h3⟩ := h
  refine ⟨?_, by simpa using h2, ?_⟩
  · rw [List.map_map, show Entry.id ∘ g = Entry.id from funext hid]; exact h1
  · unfold chainTotal at *
    rw [List.map_map, show (fun e : Entry => e.granules.length) ∘ g = fun e => e.granules.length from funext hgr]
    exact h3

/-- Entries with distinct ids: changing the one under an id replaces its share of the total. -/
theorem chainTotal_update {dir : List Entry} (hn : (dir.map Entry.id).Nodup) {e : Entry} (he : e ∈ dir) (g : Entry → Entry) :
    chainTotal (dir.map (fun x => if x.id = e.id then g x else x)) + e.granules.length =
      chainTotal dir + (g e).granules.length := by
  induction dir with
  | nil => cases he
  | cons d rest ih =>
    simp only [List.map_cons, List.nodup_cons] at hn
    unfold chainTotal at *
    simp only [List.map_cons, List.sum_cons]
    rcases List.mem_cons.mp he with rfl | he
    · have hr : rest.map (fun x => if x.id = e.id then g x else x) = rest := by
        conv_rhs => rw [← List.map_id rest]
        refine List.map_congr_left fun x hx => ?_
        have hne : x.id ≠ e.id := fun hxe => hn.1 (hxe ▸ List.mem_map_of_mem hx)
        rw [if_neg hne]
        rfl
      rw [hr, if_pos rfl]; omega
    · have hne : d.id ≠ e.id := fun h => hn.1 (h ▸ List.mem_map_of_mem he)
      have := ih hn.2 he
      rw [if_neg hne]; omega

/-- Entries with distinct ids: removing the one under an id removes its share of the total. -/
theorem chainTotal_remove {dir : List Entry} (hn : (dir.map Entry.id).Nodup) {e : Entry} (he : e ∈ dir) :
    chainTotal (dir.filter (fun x => x.id ≠ e.id)) + e.granules.length = chainTotal dir := by
  induction dir with
  | nil => cases he
  | cons d rest ih =>
    simp only [List.map_cons, List.nodup_cons] at hn
    unfold chainTotal at *
    rcases List.mem_cons.mp he with rfl | he
    · have hr : rest.filter (fun x => x.id ≠ e.id) = rest := by
        refine List.filter_eq_self.mpr fun x hx => ?_
        have : x.id ≠ e.id := fun h => hn.1 (h ▸ List.mem_map_of_mem hx)
        simpa using this
      rw [List.filter_cons_of_neg (by simp), hr]
      simp only [List.map_cons, List.sum_cons]; omega
    · have hne : d.id ≠ e.id := fun h => hn.1 (h ▸ List.mem_map_of_mem he)
      have := ih hn.2 he
      rw [List.filter_cons_of_pos (by simpa using hne)]
      simp only [List.map_cons, List.sum_cons]; omega

/-- A filtered directory keeps its ids distinct and its size within the limit. -/
theorem Balanced.filter_ids {dir : List Entry} {free : List Nat} {n : Nat} (h : Balanced dir free n) (p : Entry → Bool) :
    ((dir.filter p).map Entry.id).Nodup ∧ (dir.filter p).length ≤ Config.entriesMax :=
  ⟨(List.filter_sublist.map _).nodup h.1, Nat.le_trans (List.length_filter_le _ _) h.2.1⟩

/-- R165: while fewer than 96 entries are live, an id that no live entry holds exists and is chosen. -/
theorem Store.nextId_fresh {t : Store} (h : t.dir.length < Config.entriesMax) (last : Nat) :
    t.nextId last ∉ t.dir.map Entry.id := by
  unfold Store.nextId
  cases hf : ((List.range 255).map (fun k => (last + k) % 255 + 1)).find? (fun i => (t.find i).isNone) with
  | some i =>
    have := List.find?_some hf
    exact Store.find_none (by simpa using this)
  | none =>
    exfalso
    simp only [List.find?_eq_none, List.mem_map, List.mem_range, forall_exists_index, and_imp,
      forall_apply_eq_imp_iff₂] at hf
    have hsub : (List.range 255).map (fun k => (last + k) % 255 + 1) ⊆ t.dir.map Entry.id := by
      intro i hi
      obtain ⟨k, hk, rfl⟩ := List.mem_map.mp hi
      have := hf k (List.mem_range.mp hk)
      cases he : t.find ((last + k) % 255 + 1) with
      | none => simp [he] at this
      | some e =>
        obtain ⟨h1, h2⟩ := Store.find_mem he
        exact List.mem_map.mpr ⟨e, h1, h2⟩
    have hnd : ((List.range 255).map (fun k => (last + k) % 255 + 1)).Nodup := by
      refine List.Nodup.map_on (fun a ha b hb hab => ?_) List.nodup_range
      have := List.mem_range.mp ha
      have := List.mem_range.mp hb
      omega
    have hlen := (hnd.subperm hsub).length_le
    simp only [List.length_map, List.length_range, Config.entriesMax] at hlen h
    omega

/-! ### The books of the store through its operations -/

/-- R164 and R165: the books of a state's store. -/
abbrev State.Balanced (s : State) : Prop := Machine.Balanced s.store.dir s.store.free s.store.installed

@[simp] theorem State.judgeLow_dir (s : State) : s.judgeLow.store.dir = s.store.dir := by
  unfold State.judgeLow; repeat' split
  all_goals simp

@[simp] theorem State.judgeLow_free (s : State) : s.judgeLow.store.free = s.store.free := by
  unfold State.judgeLow; repeat' split
  all_goals simp

@[simp] theorem State.judgeLow_installed (s : State) : s.judgeLow.store.installed = s.store.installed := by
  unfold State.judgeLow; repeat' split
  all_goals simp

/-- R164: freeing a chain adds its granules to the free list. -/
theorem State.freeChain_balanced {s : State} {gs : List Nat}
    (h : Machine.Balanced s.store.dir (s.store.free ++ gs) s.store.installed) : (s.freeChain gs).Balanced := by
  unfold State.freeChain
  split
  · subst_vars; simpa using h
  · simpa [State.Balanced] using h

/-- R164: allocation keeps the books. -/
theorem State.allocate_balanced {s : State} (h : s.Balanced) (id : Nat) : (s.allocate id).1.Balanced := by
  unfold State.allocate
  split
  · exact h
  · simpa [State.Balanced] using h
  · rename_i e g rest he hf
    obtain ⟨hm, rfl⟩ := Store.find_mem he
    obtain ⟨h1, h2, h3⟩ := h
    have ht := chainTotal_update h1 hm (fun e => e.addGranule g)
    refine ⟨?_, by simpa [State.updEntry] using h2, ?_⟩
    · simp only [State.judgeLow_dir, State.updEntry, List.map_map]
      rw [show Entry.id ∘ (fun x : Entry => if x.id = e.id then x.addGranule g else x) = Entry.id from
        funext fun x => by simp only [Function.comp]; split <;> rfl]
      exact h1
    · simp only [State.judgeLow_dir, State.judgeLow_free, State.judgeLow_installed, State.updEntry]
      simp only [hf, List.length_cons] at h3
      simp only [Entry.addGranule, List.length_append, List.length_cons, List.length_nil] at ht
      simp only [Entry.addGranule]
      omega

/-- R164: a change of an entry that keeps its id and its chain length keeps the books. -/
theorem State.updEntry_balanced {s : State} (h : s.Balanced) (id : Nat) {g : Entry → Entry}
    (hid : ∀ e, (g e).id = e.id) (hgr : ∀ e, (g e).granules.length = e.granules.length) :
    (s.updEntry id g).Balanced :=
  Balanced.map h (fun e => by split <;> simp [hid]) (fun e => by split <;> simp [hgr])

/-- R164: trimming keeps the books. -/
theorem State.trim_balanced {s : State} (h : s.Balanced) (id len : Nat) : (s.trim id len).Balanced := by
  unfold State.trim
  split
  · exact h
  · rename_i e he
    obtain ⟨hm, rfl⟩ := Store.find_mem he
    obtain ⟨h1, h2, h3⟩ := h
    refine State.freeChain_balanced ⟨?_, by simpa [State.updEntry] using h2, ?_⟩
    · simp only [State.updEntry, List.map_map]
      rw [show Entry.id ∘ (fun x : Entry => if x.id = e.id then
        { x with granules := x.granules.take (ceilDiv len Config.granuleBytes), length := len } else x) = Entry.id from
        funext fun x => by simp only [Function.comp]; split <;> rfl]
      exact h1
    · have ht := chainTotal_update h1 hm
        (fun x => { x with granules := x.granules.take (ceilDiv len Config.granuleBytes), length := len })
      simp only [State.updEntry, List.length_append, List.length_take, List.length_drop] at ht ⊢
      omega

/-- R165: a removal keeps the books. -/
theorem State.removeEntry_balanced {s : State} (h : s.Balanced) (id : Nat) : (s.removeEntry id).Balanced := by
  unfold State.removeEntry
  split
  · exact h
  · rename_i e he
    obtain ⟨hm, rfl⟩ := Store.find_mem he
    obtain ⟨h4, h5⟩ := h.filter_ids (fun x => decide (x.id ≠ e.id))
    obtain ⟨h1, h2, h3⟩ := h
    have ht := chainTotal_remove h1 hm
    refine State.freeChain_balanced ⟨h4, h5, ?_⟩
    simp only [List.length_append]
    omega

/-- R165: a creation keeps the books. -/
theorem State.create_balanced {s : State} (h : s.Balanced) (kind : MsgKind) (slot : Option Nat) (caller : Bool) :
    (s.create kind slot caller).1.Balanced := by
  unfold State.create
  split
  · rename_i hc
    simp only [State.canCreate, Bool.and_eq_true, decide_eq_true_eq] at hc
    obtain ⟨h1, h2, h3⟩ := h
    refine ⟨?_, by simp only [List.length_append, List.length_cons, List.length_nil]; omega, ?_⟩
    · simp only [List.map_append, List.map_cons, List.map_nil]
      refine List.nodup_append.mpr ⟨h1, by simp, ?_⟩
      intro a ha b hb
      simp only [List.mem_singleton] at hb
      subst hb
      intro hab
      have ha' : (s.newEntry kind slot caller).id ∈ s.store.dir.map Entry.id := hab ▸ ha
      exact Store.nextId_fresh hc.1 s.store.header.lastId ha'
    · simp only [chainTotal, List.map_append, List.sum_append, List.map_cons, List.map_nil, State.newEntry,
        List.length_nil, List.sum_cons, List.sum_nil] at h3 ⊢
      omega
  · simpa [State.Balanced] using h

/-- R163: the usable granules and the reserved ones make the installed count. -/
theorem usable_balanced {n : Nat} (h : Config.reservedGranules ≤ n) : Balanced [] (usableGranules n) n := by
  refine ⟨by simp, by simp, ?_⟩
  simp only [usableGranules, List.length_range', chainTotal, List.map_nil, List.sum_nil]
  omega

/-- R174: an entry list split by a test loses nothing. -/
theorem chainTotal_split (dir : List Entry) (p q : Entry → Bool) (hq : ∀ e, q e = !p e) :
    chainTotal (dir.filter p) + ((dir.filter q).flatMap Entry.granules).length = chainTotal dir := by
  induction dir with
  | nil => rfl
  | cons d rest ih =>
    unfold chainTotal at *
    cases hp : p d
    · rw [List.filter_cons_of_neg (by simp [hp]), List.filter_cons_of_pos (by simp [hq, hp])]
      simp only [List.flatMap_cons, List.length_append, List.map_cons, List.sum_cons]; omega
    · rw [List.filter_cons_of_pos hp, List.filter_cons_of_neg (by simp [hq, hp])]
      simp only [List.map_cons, List.sum_cons]; omega

/-- R174: `distinct` says that a list has no element twice. -/
theorem distinct_nodup {l : List Nat} (h : distinct l = true) : l.Nodup := by
  induction l with
  | nil => simp
  | cons x rest ih =>
    simp only [distinct, Bool.and_eq_true, Bool.not_eq_true', List.contains_eq_mem, decide_eq_false_iff_not] at h
    exact List.nodup_cons.mpr ⟨h.1, ih h.2⟩

/-- R174: a store that the start-up check finds sound is kept with its books balanced. -/
theorem Store.warm_balanced {t : Store} {n : Nat} (h : t.sound n = true) :
    Balanced ({ t with installed := n } : Store).warm.dir ({ t with installed := n } : Store).warm.free n := by
  simp only [Store.sound, Bool.and_eq_true, decide_eq_true_eq, beq_iff_eq] at h
  obtain ⟨⟨⟨⟨⟨⟨⟨-, -⟩, hid⟩, hlen⟩, -⟩, -⟩, -⟩, htot⟩ := h
  have hb : Balanced t.dir t.free n := by
    refine ⟨distinct_nodup hid, hlen, ?_⟩
    simp only [Store.chained, List.length_append, List.length_flatMap] at htot
    simp only [chainTotal]
    omega
  have h1 : Balanced ({ t with installed := n } : Store).dropOpen.dir ({ t with installed := n } : Store).dropOpen.free n := by
    refine ⟨(hb.filter_ids _).1, (hb.filter_ids _).2, ?_⟩
    have hs := chainTotal_split t.dir (fun e => decide (e.state ≠ .opened)) (fun e => decide (e.state = .opened))
      (by simp)
    have := hb.2.2
    simp only [Store.dropOpen, List.length_append]
    omega
  have h2 : Balanced ({ t with installed := n } : Store).dropOpen.dropDoomed.dir
      ({ t with installed := n } : Store).dropOpen.dropDoomed.free n := by
    refine Balanced.map (g := fun e => { e with holds := 0 }) ?_ (fun _ => rfl) (fun _ => rfl)
    refine ⟨(h1.filter_ids _).1, (h1.filter_ids _).2, ?_⟩
    have hs := chainTotal_split ({ t with installed := n } : Store).dropOpen.dir
      (fun e => decide (e.state ≠ .doomed)) (fun e => decide (e.state = .doomed)) (by simp)
    have := h1.2.2
    simp only [Store.dropDoomed, List.length_append]
    omega
  exact h2

end Sys2Proof.Machine
end

