-- ==== Sys2Proof/Laws/Kept.lean ====
section
/-! SUPPORT. The shared operations keep a sound state (`State.Sound`), and leave the waiting commands, the power flags, the
Calendar and the settings as they are: two lemmas for each operation. -/

namespace Sys2Proof.Machine

set_option linter.unusedSimpArgs false
set_option linter.unusedTactic false
set_option linter.unreachableTactic false

/-- The parts of a state written out. -/
theorem State.sound_mk {ccu lif timers calendar tone rau level pump link fax voice settings store ports sys pan power pending} :
    State.Sound ⟨ccu, lif, timers, calendar, tone, rau, level, pump, link, fax, voice, settings, store, ports, sys, pan,
      power, pending⟩ =
    Machine.Sound store.dir store.free store.installed store.mem ccu.history ccu.claims ports.system.notices
      ports.panel.notices := propext Iff.rfl

/-- The parts of a state put together. -/
theorem State.sound_fold {s : State} :
    Machine.Sound s.store.dir s.store.free s.store.installed s.store.mem s.ccu.history s.ccu.claims
      s.ports.system.notices s.ports.panel.notices = s.Sound := propext Iff.rfl

/-- Soundness looks at nothing of a port but its notice controller. -/
theorem State.updPort_sound {s : State} {p : Port} {f : PortState → PortState}
    (hf : ∀ q, (f q).notices = q.notices) (h : s.Sound) : (s.updPort p f).Sound := by
  cases p <;> simpa [State.Sound, State.updPort, PerPort.set, PerPort.get, State.port, hf] using h

/-- R19: an entry added to the Call History leaves it within its limit. -/
theorem Sound.addHistory {d f n m h c a b} (x : HistoryEntry) (hs : Machine.Sound d f n m h c a b) :
    Machine.Sound d f n m (addHistory h x) c a b :=
  ⟨hs.balanced, hs.canonical, by simp [Machine.addHistory], hs.claims, hs.system, hs.panel⟩

/-- An occurrence leaves the priorities and the stack. -/
theorem Controller.occur_sound {c : Controller} (h : c.Sound) (x : Source) : (c.occur x).Sound := h

/-- R180: an occurrence at a port. -/
theorem State.raiseAt_sound (s : State) (p : Port) (x : Source) (h : s.Sound) : (s.raiseAt p x).Sound := by
  cases p
  · exact ⟨h.balanced, h.canonical, h.history, h.claims, h.system, h.panel⟩
  · exact ⟨h.balanced, h.canonical, h.history, h.claims, h.system, h.panel⟩

/-- The parts of a state beside its store. -/
theorem State.sound_of_store {s t : State} (h : s.Sound) (hb : t.Balanced) (hm : Mem.wf t.store.mem = true)
    (hh : t.ccu.history = s.ccu.history) (hc : t.ccu.claims = s.ccu.claims)
    (ha : t.ports.system.notices.priorities = s.ports.system.notices.priorities ∧
      t.ports.system.notices.stack = s.ports.system.notices.stack)
    (hp : t.ports.panel.notices.priorities = s.ports.panel.notices.priorities ∧
      t.ports.panel.notices.stack = s.ports.panel.notices.stack) : t.Sound :=
  ⟨hb, hm, hh ▸ h.history, hc ▸ h.claims, by simpa [Controller.Sound, ha.1, ha.2] using h.system,
    by simpa [Controller.Sound, hp.1, hp.2] using h.panel⟩

/-- R164: a change of an entry that keeps its id and its chain length. -/
theorem State.Sound.updEntry {s : State} (h : s.Sound) (id : Nat) {g : Entry → Entry} (hid : ∀ e, (g e).id = e.id)
    (hgr : ∀ e, (g e).granules.length = e.granules.length) : (s.updEntry id g).Sound :=
  ⟨State.updEntry_balanced h.balanced id hid hgr, h.canonical, h.history, h.claims, h.system, h.panel⟩

/-- R12: another claim queue with at most one dial of each master. -/
theorem Sound.withClaims {d f n m h c c' a b} (hs : Machine.Sound d f n m h c a b) (hc : OneEach c') :
    Machine.Sound d f n m h c' a b :=
  ⟨hs.balanced, hs.canonical, hs.history, hc, hs.system, hs.panel⟩

/-- R12: a claim queue from which entries are taken. -/
theorem OneEach.sublist {c c' : List Claim} (h : OneEach c) (hs : c'.Sublist c) : OneEach c' :=
  (hs.map Claim.master).nodup h

/-- Soundness asks of a port's controller that it stays sound. -/
theorem State.updNotices_sound {s : State} {p : Port} {g : Controller → Controller}
    (hg : ∀ c : Controller, c.Sound → (g c).Sound) (h : s.Sound) : (s.updNotices p g).Sound := by
  cases p
  · exact ⟨h.balanced, h.canonical, h.history, h.claims, hg _ h.system, h.panel⟩
  · exact ⟨h.balanced, h.canonical, h.history, h.claims, h.system, hg _ h.panel⟩

/-- Soundness looks at nothing of a transfer channel. -/
theorem State.updChannel_sound {s : State} {p : Port} {g : Transfer → Transfer} (h : s.Sound) :
    (s.updChannel p g).Sound :=
  State.updPort_sound (fun _ => rfl) h

/-- R180: the reset controller. -/
theorem Controller.reset_sound : Controller.reset.Sound := ⟨by simp [prioritiesOk, Controller.reset], rfl⟩

/-- R181: a stack without its top entry. -/
theorem stackOrdered_tail {l : List (Source × Nat)} (h : stackOrdered l = true) : stackOrdered l.tail = true := by
  match l with
  | [] => rfl
  | [_] => rfl
  | _ :: y :: rest =>
    simp only [stackOrdered, Bool.and_eq_true] at h
    exact h.2

/-- R181: an entry above a stack whose top is less urgent. -/
theorem stackOrdered_cons {l : List (Source × Nat)} {x : Source × Nat} (h : stackOrdered l = true) (h7 : x.2 ≤ 7)
    (hx : ∀ y ∈ l.head?, x.2 < y.2) : stackOrdered (x :: l) = true := by
  match l with
  | [] => simpa [stackOrdered] using h7
  | y :: rest =>
    simp only [stackOrdered, Bool.and_eq_true, decide_eq_true_eq]
    exact ⟨hx y (by simp), h⟩

/-- R180: a priority of a sound controller. -/
theorem Controller.priority_le {c : Controller} (h : c.Sound) (x : Source) : c.priority x ≤ 7 := by
  obtain ⟨⟨h0, h1, h2, h3, h4, h5⟩, -⟩ := h
  unfold Controller.priority
  cases x <;> assumption

/-- R181: the arbiter chooses a deliverable source. -/
theorem Controller.choice_deliverable {c : Controller} {x : Source} (h : c.choice = some x) : c.deliverable x = true := by
  have hf : ∀ (l : List Source) (b : Option Source), (∀ y ∈ b, c.deliverable y = true) →
      ∀ y ∈ l.foldl c.better b, c.deliverable y = true := by
    intro l
    induction l with
    | nil => exact fun b hb => hb
    | cons z rest ih =>
      intro b hb
      refine ih _ ?_
      unfold Controller.better
      split
      · split
        · simpa using ‹c.deliverable z = true›
        · split
          · simpa using ‹c.deliverable z = true›
          · exact hb
      · exact hb
  exact hf Source.all none (by simp) x h

/-- R181: a delivery of a deliverable source keeps the stack ordered. -/
theorem Controller.deliver_sound {c : Controller} {x : Source} (h : c.Sound) (hx : c.deliverable x = true) :
    (c.deliver x).Sound := by
  refine ⟨h.1, stackOrdered_cons h.2 (Controller.priority_le h x) ?_⟩
  intro y hy
  unfold Controller.deliverable at hx
  cases hs : c.stack with
  | nil => simp [hs] at hy
  | cons t rest =>
    simp only [hs, List.head?_cons, Option.mem_def, Option.some.injEq] at hy
    subst hy
    simp only [hs, Bool.and_eq_true, decide_eq_true_eq] at hx
    exact hx.2

/-- R180: mask flags leave the priorities and the stack. -/
theorem Controller.maskAll_sound {c : Controller} (h : c.Sound) (l : List (Source × Bool)) : (c.maskAll l).Sound := by
  induction l generalizing c with
  | nil => exact h
  | cons e rest ih => exact ih (c := c.mask e.1 e.2) h

@[simp] theorem State.loadT2_frame (s : State) (use : T2Use) (ms : Nat) (restart : RestartSource) :
    (s.loadT2 use ms restart).pending = s.pending ∧ (s.loadT2 use ms restart).power = s.power ∧ (s.loadT2 use ms restart).calendar = s.calendar ∧ (s.loadT2 use ms restart).settings = s.settings := by
  unfold State.loadT2; try dsimp only; 
  repeat' split
  all_goals simp

theorem State.loadT2_sound (s : State) (use : T2Use) (ms : Nat) (restart : RestartSource) (h : s.Sound) : (s.loadT2 use ms restart).Sound := by
  unfold State.loadT2; try dsimp only
  repeat' split
  all_goals repeat' (first | with_reducible exact h | exact fun _ => rfl | with_reducible apply State.updPort_sound | with_reducible apply State.Sound.updEntry | with_reducible apply Sound.addHistory | simp only [State.sound_mk, State.sound_fold])

@[simp] theorem State.stopT2_frame (s : State) :
    (s.stopT2).pending = s.pending ∧ (s.stopT2).power = s.power ∧ (s.stopT2).calendar = s.calendar ∧ (s.stopT2).settings = s.settings := by
  unfold State.stopT2; try dsimp only; 
  repeat' split
  all_goals simp

theorem State.stopT2_sound (s : State) (h : s.Sound) : (s.stopT2).Sound := by
  unfold State.stopT2; try dsimp only
  repeat' split
  all_goals repeat' (first | with_reducible exact h | exact fun _ => rfl | with_reducible apply State.updPort_sound | with_reducible apply State.Sound.updEntry | with_reducible apply Sound.addHistory | simp only [State.sound_mk, State.sound_fold])

@[simp] theorem State.loadT3_frame (s : State) (ms : Nat) :
    (s.loadT3 ms).pending = s.pending ∧ (s.loadT3 ms).power = s.power ∧ (s.loadT3 ms).calendar = s.calendar ∧ (s.loadT3 ms).settings = s.settings := by
  unfold State.loadT3; try dsimp only; 
  repeat' split
  all_goals simp

theorem State.loadT3_sound (s : State) (ms : Nat) (h : s.Sound) : (s.loadT3 ms).Sound := by
  unfold State.loadT3; try dsimp only
  repeat' split
  all_goals repeat' (first | with_reducible exact h | exact fun _ => rfl | with_reducible apply State.updPort_sound | with_reducible apply State.Sound.updEntry | with_reducible apply Sound.addHistory | simp only [State.sound_mk, State.sound_fold])

@[simp] theorem State.stopT3_frame (s : State) :
    (s.stopT3).pending = s.pending ∧ (s.stopT3).power = s.power ∧ (s.stopT3).calendar = s.calendar ∧ (s.stopT3).settings = s.settings := by
  unfold State.stopT3; try dsimp only; 
  repeat' split
  all_goals simp

theorem State.stopT3_sound (s : State) (h : s.Sound) : (s.stopT3).Sound := by
  unfold State.stopT3; try dsimp only
  repeat' split
  all_goals repeat' (first | with_reducible exact h | exact fun _ => rfl | with_reducible apply State.updPort_sound | with_reducible apply State.Sound.updEntry | with_reducible apply Sound.addHistory | simp only [State.sound_mk, State.sound_fold])

@[simp] theorem State.loadT4_frame (s : State) :
    (s.loadT4).pending = s.pending ∧ (s.loadT4).power = s.power ∧ (s.loadT4).calendar = s.calendar ∧ (s.loadT4).settings = s.settings := by
  unfold State.loadT4; try dsimp only; 
  repeat' split
  all_goals simp

theorem State.loadT4_sound (s : State) (h : s.Sound) : (s.loadT4).Sound := by
  unfold State.loadT4; try dsimp only
  repeat' split
  all_goals repeat' (first | with_reducible exact h | exact fun _ => rfl | with_reducible apply State.updPort_sound | with_reducible apply State.Sound.updEntry | with_reducible apply Sound.addHistory | simp only [State.sound_mk, State.sound_fold])

@[simp] theorem State.stopT4_frame (s : State) :
    (s.stopT4).pending = s.pending ∧ (s.stopT4).power = s.power ∧ (s.stopT4).calendar = s.calendar ∧ (s.stopT4).settings = s.settings := by
  unfold State.stopT4; try dsimp only; 
  repeat' split
  all_goals simp

theorem State.stopT4_sound (s : State) (h : s.Sound) : (s.stopT4).Sound := by
  unfold State.stopT4; try dsimp only
  repeat' split
  all_goals repeat' (first | with_reducible exact h | exact fun _ => rfl | with_reducible apply State.updPort_sound | with_reducible apply State.Sound.updEntry | with_reducible apply Sound.addHistory | simp only [State.sound_mk, State.sound_fold])

@[simp] theorem State.loadT5_frame (s : State) :
    (s.loadT5).pending = s.pending ∧ (s.loadT5).power = s.power ∧ (s.loadT5).calendar = s.calendar ∧ (s.loadT5).settings = s.settings := by
  unfold State.loadT5; try dsimp only; 
  repeat' split
  all_goals simp

theorem State.loadT5_sound (s : State) (h : s.Sound) : (s.loadT5).Sound := by
  unfold State.loadT5; try dsimp only
  repeat' split
  all_goals repeat' (first | with_reducible exact h | exact fun _ => rfl | with_reducible apply State.updPort_sound | with_reducible apply State.Sound.updEntry | with_reducible apply Sound.addHistory | simp only [State.sound_mk, State.sound_fold])

@[simp] theorem State.stopT5_frame (s : State) :
    (s.stopT5).pending = s.pending ∧ (s.stopT5).power = s.power ∧ (s.stopT5).calendar = s.calendar ∧ (s.stopT5).settings = s.settings := by
  unfold State.stopT5; try dsimp only; 
  repeat' split
  all_goals simp

theorem State.stopT5_sound (s : State) (h : s.Sound) : (s.stopT5).Sound := by
  unfold State.stopT5; try dsimp only
  repeat' split
  all_goals repeat' (first | with_reducible exact h | exact fun _ => rfl | with_reducible apply State.updPort_sound | with_reducible apply State.Sound.updEntry | with_reducible apply Sound.addHistory | simp only [State.sound_mk, State.sound_fold])

@[simp] theorem State.loadT6_frame (s : State) (path : AudioPath) :
    (s.loadT6 path).pending = s.pending ∧ (s.loadT6 path).power = s.power ∧ (s.loadT6 path).calendar = s.calendar ∧ (s.loadT6 path).settings = s.settings := by
  unfold State.loadT6; try dsimp only; 
  repeat' split
  all_goals simp

theorem State.loadT6_sound (s : State) (path : AudioPath) (h : s.Sound) : (s.loadT6 path).Sound := by
  unfold State.loadT6; try dsimp only
  repeat' split
  all_goals repeat' (first | with_reducible exact h | exact fun _ => rfl | with_reducible apply State.updPort_sound | with_reducible apply State.Sound.updEntry | with_reducible apply Sound.addHistory | simp only [State.sound_mk, State.sound_fold])

@[simp] theorem State.stopT6_frame (s : State) :
    (s.stopT6).pending = s.pending ∧ (s.stopT6).power = s.power ∧ (s.stopT6).calendar = s.calendar ∧ (s.stopT6).settings = s.settings := by
  unfold State.stopT6; try dsimp only; 
  repeat' split
  all_goals simp

theorem State.stopT6_sound (s : State) (h : s.Sound) : (s.stopT6).Sound := by
  unfold State.stopT6; try dsimp only
  repeat' split
  all_goals repeat' (first | with_reducible exact h | exact fun _ => rfl | with_reducible apply State.updPort_sound | with_reducible apply State.Sound.updEntry | with_reducible apply Sound.addHistory | simp only [State.sound_mk, State.sound_fold])

@[simp] theorem State.loadT0_frame (s : State) (use : OutputUse) (owner : TimerOwner) (a b : Nat) (stopB : Bool) :
    (s.loadT0 use owner a b stopB).pending = s.pending ∧ (s.loadT0 use owner a b stopB).power = s.power ∧ (s.loadT0 use owner a b stopB).calendar = s.calendar ∧ (s.loadT0 use owner a b stopB).settings = s.settings := by
  unfold State.loadT0; try dsimp only; 
  repeat' split
  all_goals simp

theorem State.loadT0_sound (s : State) (use : OutputUse) (owner : TimerOwner) (a b : Nat) (stopB : Bool) (h : s.Sound) : (s.loadT0 use owner a b stopB).Sound := by
  unfold State.loadT0; try dsimp only
  repeat' split
  all_goals repeat' (first | with_reducible exact h | exact fun _ => rfl | with_reducible apply State.updPort_sound | with_reducible apply State.Sound.updEntry | with_reducible apply Sound.addHistory | simp only [State.sound_mk, State.sound_fold])

@[simp] theorem State.stopT0_frame (s : State) :
    (s.stopT0).pending = s.pending ∧ (s.stopT0).power = s.power ∧ (s.stopT0).calendar = s.calendar ∧ (s.stopT0).settings = s.settings := by
  unfold State.stopT0; try dsimp only; 
  repeat' split
  all_goals simp

theorem State.stopT0_sound (s : State) (h : s.Sound) : (s.stopT0).Sound := by
  unfold State.stopT0; try dsimp only
  repeat' split
  all_goals repeat' (first | with_reducible exact h | exact fun _ => rfl | with_reducible apply State.updPort_sound | with_reducible apply State.Sound.updEntry | with_reducible apply Sound.addHistory | simp only [State.sound_mk, State.sound_fold])

@[simp] theorem State.raiseAt_frame (s : State) (p : Port) (x : Source) :
    (s.raiseAt p x).pending = s.pending ∧ (s.raiseAt p x).power = s.power ∧ (s.raiseAt p x).calendar = s.calendar ∧ (s.raiseAt p x).settings = s.settings := by
  unfold State.raiseAt; try dsimp only; 
  repeat' split
  all_goals simp

@[simp] theorem State.raiseBoth_frame (s : State) (x : Source) :
    (s.raiseBoth x).pending = s.pending ∧ (s.raiseBoth x).power = s.power ∧ (s.raiseBoth x).calendar = s.calendar ∧ (s.raiseBoth x).settings = s.settings := by
  unfold State.raiseBoth; try dsimp only; 
  repeat' split
  all_goals simp

theorem State.raiseBoth_sound (s : State) (x : Source) (h : s.Sound) : (s.raiseBoth x).Sound := by
  unfold State.raiseBoth; try dsimp only
  repeat' split
  all_goals repeat' (first | with_reducible exact h | exact fun _ => rfl | with_reducible apply State.raiseAt_sound | with_reducible apply State.updPort_sound | with_reducible apply State.Sound.updEntry | with_reducible apply Sound.addHistory | simp only [State.sound_mk, State.sound_fold])

@[simp] theorem State.raiseParty_frame (s : State) (party : Option Party) (x : Source) :
    (s.raiseParty party x).pending = s.pending ∧ (s.raiseParty party x).power = s.power ∧ (s.raiseParty party x).calendar = s.calendar ∧ (s.raiseParty party x).settings = s.settings := by
  unfold State.raiseParty; try dsimp only; 
  repeat' split
  all_goals simp

theorem State.raiseParty_sound (s : State) (party : Option Party) (x : Source) (h : s.Sound) : (s.raiseParty party x).Sound := by
  unfold State.raiseParty; try dsimp only
  repeat' split
  all_goals repeat' (first | with_reducible exact h | exact fun _ => rfl | with_reducible apply State.raiseAt_sound | with_reducible apply State.updPort_sound | with_reducible apply State.Sound.updEntry | with_reducible apply Sound.addHistory | simp only [State.sound_mk, State.sound_fold])

@[simp] theorem State.raiseHolder_frame (s : State) (x : Source) :
    (s.raiseHolder x).pending = s.pending ∧ (s.raiseHolder x).power = s.power ∧ (s.raiseHolder x).calendar = s.calendar ∧ (s.raiseHolder x).settings = s.settings := by
  unfold State.raiseHolder; try dsimp only; 
  repeat' split
  all_goals simp

theorem State.raiseHolder_sound (s : State) (x : Source) (h : s.Sound) : (s.raiseHolder x).Sound := by
  unfold State.raiseHolder; try dsimp only
  repeat' split
  all_goals repeat' (first | with_reducible exact h | exact fun _ => rfl | with_reducible apply State.raiseParty_sound | with_reducible apply State.updPort_sound | with_reducible apply State.Sound.updEntry | with_reducible apply Sound.addHistory | simp only [State.sound_mk, State.sound_fold])

@[simp] theorem State.send_frame (s : State) (p : Port) (a : Answer) :
    (s.send p a).pending = s.pending ∧ (s.send p a).power = s.power ∧ (s.send p a).calendar = s.calendar ∧ (s.send p a).settings = s.settings := by
  unfold State.send; try dsimp only; 
  repeat' split
  all_goals simp

theorem State.send_sound (s : State) (p : Port) (a : Answer) (h : s.Sound) : (s.send p a).Sound := by
  exact State.updPort_sound (fun _ => rfl) h

@[simp] theorem State.reply_frame (s : State) (p : Port) (code : Byte) (r : Reply) :
    (s.reply p code r).pending = s.pending ∧ (s.reply p code r).power = s.power ∧ (s.reply p code r).calendar = s.calendar ∧ (s.reply p code r).settings = s.settings := by
  unfold State.reply; try dsimp only; 
  repeat' split
  all_goals simp

theorem State.reply_sound (s : State) (p : Port) (code : Byte) (r : Reply) (h : s.Sound) : (s.reply p code r).Sound := by
  unfold State.reply; try dsimp only
  repeat' split
  all_goals repeat' (first | with_reducible exact h | exact fun _ => rfl | with_reducible apply State.send_sound | with_reducible apply State.updPort_sound | with_reducible apply State.Sound.updEntry | with_reducible apply Sound.addHistory | simp only [State.sound_mk, State.sound_fold])

@[simp] theorem State.busyAnswer_frame (s : State) (p : Port) (code : Byte) :
    (s.busyAnswer p code).pending = s.pending ∧ (s.busyAnswer p code).power = s.power ∧ (s.busyAnswer p code).calendar = s.calendar ∧ (s.busyAnswer p code).settings = s.settings := by
  unfold State.busyAnswer; try dsimp only; 
  repeat' split
  all_goals simp

theorem State.busyAnswer_sound (s : State) (p : Port) (code : Byte) (h : s.Sound) : (s.busyAnswer p code).Sound := by
  unfold State.busyAnswer; try dsimp only
  repeat' split
  all_goals repeat' (first | with_reducible exact h | exact fun _ => rfl | with_reducible apply State.send_sound | with_reducible apply State.updPort_sound | with_reducible apply State.Sound.updEntry | with_reducible apply Sound.addHistory | simp only [State.sound_mk, State.sound_fold])

@[simp] theorem refuse_frame (s : State) (x : Status) :
    (refuse s x).1.pending = s.pending ∧ (refuse s x).1.power = s.power ∧ (refuse s x).1.calendar = s.calendar ∧ (refuse s x).1.settings = s.settings := by
  unfold refuse; try dsimp only; 
  repeat' split
  all_goals simp

theorem refuse_sound (s : State) (x : Status) (h : s.Sound) : (refuse s x).1.Sound := by
  unfold refuse; try dsimp only
  repeat' split
  all_goals repeat' (first | with_reducible exact h | exact fun _ => rfl | with_reducible apply State.updPort_sound | with_reducible apply State.Sound.updEntry | with_reducible apply Sound.addHistory | simp only [State.sound_mk, State.sound_fold])

@[simp] theorem readOnly_frame (r : State → Reply) (s : State) :
    (readOnly r s).1.pending = s.pending ∧ (readOnly r s).1.power = s.power ∧ (readOnly r s).1.calendar = s.calendar ∧ (readOnly r s).1.settings = s.settings := by
  unfold readOnly; try dsimp only; 
  repeat' split
  all_goals simp

theorem readOnly_sound (r : State → Reply) (s : State) (h : s.Sound) : (readOnly r s).1.Sound := by
  unfold readOnly; try dsimp only
  repeat' split
  all_goals repeat' (first | with_reducible exact h | exact fun _ => rfl | with_reducible apply State.updPort_sound | with_reducible apply State.Sound.updEntry | with_reducible apply Sound.addHistory | simp only [State.sound_mk, State.sound_fold])

@[simp] theorem State.recordAlert_frame (s : State) (k : AlertKind) (p : Port) :
    (s.recordAlert k p).pending = s.pending ∧ (s.recordAlert k p).power = s.power ∧ (s.recordAlert k p).calendar = s.calendar ∧ (s.recordAlert k p).settings = s.settings := by
  unfold State.recordAlert; try dsimp only; 
  repeat' split
  all_goals simp

theorem State.recordAlert_sound (s : State) (k : AlertKind) (p : Port) (h : s.Sound) : (s.recordAlert k p).Sound := by
  exact State.updPort_sound (fun _ => rfl) h

@[simp] theorem State.storeAlert_frame (s : State) (k : AlertKind) :
    (s.storeAlert k).pending = s.pending ∧ (s.storeAlert k).power = s.power ∧ (s.storeAlert k).calendar = s.calendar ∧ (s.storeAlert k).settings = s.settings := by
  unfold State.storeAlert; try dsimp only; 
  repeat' split
  all_goals simp

theorem State.storeAlert_sound (s : State) (k : AlertKind) (h : s.Sound) : (s.storeAlert k).Sound := by
  exact State.raiseBoth_sound _ _ (State.recordAlert_sound _ _ _ (State.recordAlert_sound _ _ _ h))

@[simp] theorem State.judgeLow_frame (s : State) :
    (s.judgeLow).pending = s.pending ∧ (s.judgeLow).power = s.power ∧ (s.judgeLow).calendar = s.calendar ∧ (s.judgeLow).settings = s.settings := by
  unfold State.judgeLow; try dsimp only; 
  repeat' split
  all_goals simp

theorem State.judgeLow_sound (s : State) (h : s.Sound) : (s.judgeLow).Sound := by
  unfold State.judgeLow; try dsimp only
  repeat' split
  all_goals repeat' (first | with_reducible exact h | exact fun _ => rfl | with_reducible apply State.storeAlert_sound | with_reducible apply State.updPort_sound | with_reducible apply State.Sound.updEntry | with_reducible apply Sound.addHistory | simp only [State.sound_mk, State.sound_fold])

@[simp] theorem State.create_frame (s : State) (kind : MsgKind) (slot : Option Nat) (caller : Bool) :
    (s.create kind slot caller).1.pending = s.pending ∧ (s.create kind slot caller).1.power = s.power ∧ (s.create kind slot caller).1.calendar = s.calendar ∧ (s.create kind slot caller).1.settings = s.settings := by
  unfold State.create; try dsimp only; 
  repeat' split
  all_goals simp

theorem State.create_sound (s : State) (kind : MsgKind) (slot : Option Nat) (caller : Bool) (h : s.Sound) : (s.create kind slot caller).1.Sound := by
  have hb := State.create_balanced h.balanced kind slot caller
  unfold State.create at hb ⊢
  split at hb
  · rw [if_pos ‹_›]; exact ⟨hb, h.canonical, h.history, h.claims, h.system, h.panel⟩
  · rw [if_neg ‹_›]; exact State.storeAlert_sound _ _ h

@[simp] theorem State.allocate_frame (s : State) (id : Nat) :
    (s.allocate id).1.pending = s.pending ∧ (s.allocate id).1.power = s.power ∧ (s.allocate id).1.calendar = s.calendar ∧ (s.allocate id).1.settings = s.settings := by
  unfold State.allocate; try dsimp only; 
  repeat' split
  all_goals simp

theorem State.allocate_sound (s : State) (id : Nat) (h : s.Sound) : (s.allocate id).1.Sound := by
  have hb := State.allocate_balanced h.balanced id
  unfold State.allocate at hb ⊢
  split at hb
  · exact h
  · exact State.storeAlert_sound _ _ h
  · have hj : ∀ t : State, t.judgeLow.Balanced → t.Balanced := fun t ht => by simpa [State.Balanced] using ht
    exact State.judgeLow_sound _ ⟨hj _ hb, h.canonical, h.history, h.claims, h.system, h.panel⟩

/-- R164: a state whose books balance once a chain is freed. -/
theorem State.Sound.freeChain_of {s t : State} {gs : List Nat} (h : s.Sound) (hb : (t.freeChain gs).Balanced)
    (hm : t.store.mem = s.store.mem := by rfl) (hh : t.ccu.history = s.ccu.history := by rfl)
    (hc : t.ccu.claims = s.ccu.claims := by rfl) (hp : t.ports = s.ports := by rfl) : (t.freeChain gs).Sound := by
  unfold State.freeChain at hb ⊢
  split at hb
  · rw [if_pos ‹_›]
    exact ⟨hb, hm ▸ h.canonical, hh ▸ h.history, hc ▸ h.claims, hp ▸ h.system, hp ▸ h.panel⟩
  · rw [if_neg ‹_›]
    have hj : ∀ t : State, t.judgeLow.Balanced → t.Balanced := fun t ht => by simpa [State.Balanced] using ht
    exact State.judgeLow_sound _
      ⟨hj _ hb, hm ▸ h.canonical, hh ▸ h.history, hc ▸ h.claims, hp ▸ h.system, hp ▸ h.panel⟩


@[simp] theorem State.freeChain_frame (s : State) (gs : List Nat) :
    (s.freeChain gs).pending = s.pending ∧ (s.freeChain gs).power = s.power ∧ (s.freeChain gs).calendar = s.calendar ∧ (s.freeChain gs).settings = s.settings := by
  unfold State.freeChain; try dsimp only; 
  repeat' split
  all_goals simp

@[simp] theorem State.trim_frame (s : State) (id len : Nat) :
    (s.trim id len).pending = s.pending ∧ (s.trim id len).power = s.power ∧ (s.trim id len).calendar = s.calendar ∧ (s.trim id len).settings = s.settings := by
  unfold State.trim; try dsimp only; 
  repeat' split
  all_goals simp

theorem State.trim_sound (s : State) (id len : Nat) (h : s.Sound) : (s.trim id len).Sound := by
  have hb := State.trim_balanced h.balanced id len
  unfold State.trim at hb ⊢
  split at hb
  · exact h
  · exact h.freeChain_of hb

@[simp] theorem State.removeEntry_frame (s : State) (id : Nat) :
    (s.removeEntry id).pending = s.pending ∧ (s.removeEntry id).power = s.power ∧ (s.removeEntry id).calendar = s.calendar ∧ (s.removeEntry id).settings = s.settings := by
  unfold State.removeEntry; try dsimp only; 
  repeat' split
  all_goals simp

theorem State.removeEntry_sound (s : State) (id : Nat) (h : s.Sound) : (s.removeEntry id).Sound := by
  have hb := State.removeEntry_balanced h.balanced id
  unfold State.removeEntry at hb ⊢
  split at hb
  · exact h
  · exact h.freeChain_of hb

@[simp] theorem State.hold_frame (s : State) (id : Nat) :
    (s.hold id).pending = s.pending ∧ (s.hold id).power = s.power ∧ (s.hold id).calendar = s.calendar ∧ (s.hold id).settings = s.settings := by
  unfold State.hold; try dsimp only; 
  repeat' split
  all_goals simp

theorem State.hold_sound (s : State) (id : Nat) (h : s.Sound) : (s.hold id).Sound := by
  exact h.updEntry id (fun _ => rfl) (fun _ => rfl)

@[simp] theorem State.release_frame (s : State) (id : Nat) :
    (s.release id).pending = s.pending ∧ (s.release id).power = s.power ∧ (s.release id).calendar = s.calendar ∧ (s.release id).settings = s.settings := by
  unfold State.release; try dsimp only; 
  repeat' split
  all_goals simp

theorem State.release_sound (s : State) (id : Nat) (h : s.Sound) : (s.release id).Sound := by
  unfold State.release; try dsimp only
  repeat' split
  all_goals repeat' (first | with_reducible exact h | exact fun _ => rfl | with_reducible apply State.removeEntry_sound | with_reducible apply State.updPort_sound | with_reducible apply State.Sound.updEntry | with_reducible apply Sound.addHistory | simp only [State.sound_mk, State.sound_fold])

@[simp] theorem State.deleteRule_frame (s : State) (id : Nat) :
    (s.deleteRule id).1.pending = s.pending ∧ (s.deleteRule id).1.power = s.power ∧ (s.deleteRule id).1.calendar = s.calendar ∧ (s.deleteRule id).1.settings = s.settings := by
  unfold State.deleteRule; try dsimp only; 
  repeat' split
  all_goals simp

theorem State.deleteRule_sound (s : State) (id : Nat) (h : s.Sound) : (s.deleteRule id).1.Sound := by
  unfold State.deleteRule; try dsimp only
  repeat' split
  all_goals repeat' (first | with_reducible exact h | exact fun _ => rfl | with_reducible apply State.removeEntry_sound | with_reducible apply State.updPort_sound | with_reducible apply State.Sound.updEntry | with_reducible apply Sound.addHistory | simp only [State.sound_mk, State.sound_fold])

@[simp] theorem State.replaceGreeting_frame (s : State) (e : Entry) :
    (s.replaceGreeting e).pending = s.pending ∧ (s.replaceGreeting e).power = s.power ∧ (s.replaceGreeting e).calendar = s.calendar ∧ (s.replaceGreeting e).settings = s.settings := by
  unfold State.replaceGreeting; try dsimp only; 
  repeat' split
  all_goals simp

theorem State.replaceGreeting_sound (s : State) (e : Entry) (h : s.Sound) : (s.replaceGreeting e).Sound := by
  unfold State.replaceGreeting; try dsimp only
  repeat' split
  all_goals repeat' (first | with_reducible exact h | exact fun _ => rfl | with_reducible apply State.deleteRule_sound | with_reducible apply State.updPort_sound | with_reducible apply State.Sound.updEntry | with_reducible apply Sound.addHistory | simp only [State.sound_mk, State.sound_fold])

@[simp] theorem State.complete_frame (s : State) (id : Nat) (isNew : Bool) :
    (s.complete id isNew).pending = s.pending ∧ (s.complete id isNew).power = s.power ∧ (s.complete id isNew).calendar = s.calendar ∧ (s.complete id isNew).settings = s.settings := by
  unfold State.complete; try dsimp only; 
  repeat' split
  all_goals simp

theorem State.complete_sound (s : State) (id : Nat) (isNew : Bool) (h : s.Sound) : (s.complete id isNew).Sound := by
  unfold State.complete; try dsimp only
  repeat' split
  all_goals repeat' (first | with_reducible exact h | exact fun _ => rfl | with_reducible apply State.replaceGreeting_sound | with_reducible apply State.updPort_sound | with_reducible apply State.Sound.updEntry | with_reducible apply Sound.addHistory | simp only [State.sound_mk, State.sound_fold])

@[simp] theorem State.clearNew_frame (s : State) (id : Nat) :
    (s.clearNew id).pending = s.pending ∧ (s.clearNew id).power = s.power ∧ (s.clearNew id).calendar = s.calendar ∧ (s.clearNew id).settings = s.settings := by
  unfold State.clearNew; try dsimp only; 
  repeat' split
  all_goals simp

theorem State.clearNew_sound (s : State) (id : Nat) (h : s.Sound) : (s.clearNew id).Sound := by
  exact h.updEntry id (fun _ => rfl) (fun _ => rfl)

@[simp] theorem State.writeMem_frame (s : State) (a : Nat) (b : Byte) :
    (s.writeMem a b).pending = s.pending ∧ (s.writeMem a b).power = s.power ∧ (s.writeMem a b).calendar = s.calendar ∧ (s.writeMem a b).settings = s.settings := by
  unfold State.writeMem; try dsimp only; 
  repeat' split
  all_goals simp

theorem State.writeMem_sound (s : State) (a : Nat) (b : Byte) (h : s.Sound) : (s.writeMem a b).Sound := by
  exact ⟨h.balanced, Mem.write_wf h.canonical a b, h.history, h.claims, h.system, h.panel⟩

@[simp] theorem State.putByte_frame (s : State) (id : Nat) (b : Byte) :
    (s.putByte id b).pending = s.pending ∧ (s.putByte id b).power = s.power ∧ (s.putByte id b).calendar = s.calendar ∧ (s.putByte id b).settings = s.settings := by
  unfold State.putByte; try dsimp only; 
  repeat' split
  all_goals simp

theorem State.putByte_sound (s : State) (id : Nat) (b : Byte) (h : s.Sound) : (s.putByte id b).Sound := by
  unfold State.putByte; try dsimp only
  repeat' split
  all_goals repeat' (first | with_reducible exact h | exact fun _ => rfl | with_reducible apply State.writeMem_sound | with_reducible apply State.updPort_sound | with_reducible apply State.Sound.updEntry | with_reducible apply Sound.addHistory | simp only [State.sound_mk, State.sound_fold])

@[simp] theorem State.appendByte_frame (s : State) (id : Nat) (b : Byte) :
    (s.appendByte id b).1.pending = s.pending ∧ (s.appendByte id b).1.power = s.power ∧ (s.appendByte id b).1.calendar = s.calendar ∧ (s.appendByte id b).1.settings = s.settings := by
  unfold State.appendByte; try dsimp only; 
  repeat' split
  all_goals simp

theorem State.appendByte_sound (s : State) (id : Nat) (b : Byte) (h : s.Sound) : (s.appendByte id b).1.Sound := by
  unfold State.appendByte; try dsimp only
  repeat' split
  all_goals repeat' (first | with_reducible exact h | exact fun _ => rfl | with_reducible apply State.allocate_sound | with_reducible apply State.putByte_sound | with_reducible apply State.updPort_sound | with_reducible apply State.Sound.updEntry | with_reducible apply Sound.addHistory | simp only [State.sound_mk, State.sound_fold])

/-- Bytes written to the DRAM. -/
@[simp] theorem State.writeMemAll_frame (s : State) (a : Nat) (l : List Byte) :
    (s.writeMemAll a l).pending = s.pending ∧ (s.writeMemAll a l).power = s.power ∧ (s.writeMemAll a l).calendar = s.calendar ∧ (s.writeMemAll a l).settings = s.settings := by
  induction l generalizing s a with
  | nil => simp [State.writeMemAll]
  | cons b rest ih => simp [State.writeMemAll, ih]

theorem State.writeMemAll_sound (s : State) (a : Nat) (l : List Byte) (h : s.Sound) : (s.writeMemAll a l).Sound := by
  induction l generalizing s a with
  | nil => exact h
  | cons b rest ih => exact ih _ _ (State.writeMem_sound s a b h)

/-- R151: a code byte written. -/
theorem State.writeCode_frame {s t : State} {id : Nat} {c : CodeByte} (ht : s.writeCode id c = some t) :
    t.pending = s.pending ∧ t.power = s.power ∧ t.calendar = s.calendar ∧ t.settings = s.settings := by
  unfold State.writeCode at ht
  split at ht
  · cases ht
  · simp only at ht
    split at ht
    · obtain rfl := Option.some.inj ht
      split <;> simp
    · cases ht

theorem State.writeCode_sound {s t : State} {id : Nat} {c : CodeByte} (h : s.Sound) (ht : s.writeCode id c = some t) :
    t.Sound := by
  unfold State.writeCode at ht
  split at ht
  · cases ht
  · simp only at ht
    split at ht
    · obtain rfl := Option.some.inj ht
      simp only [State.sound_mk, State.sound_fold]
      split <;> refine State.Sound.updEntry (State.writeMem_sound _ _ _ ?_) _ (fun _ => rfl) (fun _ => rfl)
      · exact State.writeMemAll_sound _ _ _ h
      · exact h
    · cases ht

/-- R156: the waiting code bytes written. -/
@[simp] theorem State.flushCodes_frame (s : State) (id : Nat) (l : List CodeByte) :
    (s.flushCodes id l).pending = s.pending ∧ (s.flushCodes id l).power = s.power ∧ (s.flushCodes id l).calendar = s.calendar ∧ (s.flushCodes id l).settings = s.settings := by
  induction l generalizing s with
  | nil => simp [State.flushCodes]
  | cons c rest ih =>
    unfold State.flushCodes
    split
    · obtain ⟨h1, h2, h3, h4⟩ := State.writeCode_frame ‹_›
      simp [ih, h1, h2, h3, h4]
    · simp

theorem State.flushCodes_sound (s : State) (id : Nat) (l : List CodeByte) (h : s.Sound) : (s.flushCodes id l).Sound := by
  induction l generalizing s with
  | nil => exact h
  | cons c rest ih =>
    unfold State.flushCodes
    split
    · exact ih _ (State.writeCode_sound h ‹_›)
    · exact h


@[simp] theorem State.flushRecording_frame (s : State) :
    (s.flushRecording).pending = s.pending ∧ (s.flushRecording).power = s.power ∧ (s.flushRecording).calendar = s.calendar ∧ (s.flushRecording).settings = s.settings := by
  unfold State.flushRecording; try dsimp only; 
  repeat' split
  all_goals simp

theorem State.flushRecording_sound (s : State) (h : s.Sound) : (s.flushRecording).Sound := by
  unfold State.flushRecording
  split
  · exact State.flushCodes_sound _ _ _ h
  · exact h

@[simp] theorem State.recordFrom_frame (s : State) (path : AudioPath) (m : PathMeter) (xs : List Sample) (level : Option Nat) :
    (s.recordFrom path m xs level).pending = s.pending ∧ (s.recordFrom path m xs level).power = s.power ∧ (s.recordFrom path m xs level).calendar = s.calendar ∧ (s.recordFrom path m xs level).settings = s.settings := by
  unfold State.recordFrom; try dsimp only; 
  repeat' split
  all_goals simp

theorem State.recordFrom_sound (s : State) (path : AudioPath) (m : PathMeter) (xs : List Sample) (level : Option Nat) (h : s.Sound) : (s.recordFrom path m xs level).Sound := by
  unfold State.recordFrom; try dsimp only
  repeat' split
  all_goals repeat' (first | with_reducible exact h | exact fun _ => rfl | with_reducible apply State.flushRecording_sound | with_reducible apply State.updPort_sound | with_reducible apply State.Sound.updEntry | with_reducible apply Sound.addHistory | simp only [State.sound_mk, State.sound_fold])

@[simp] theorem State.closeHalfByte_frame (s : State) :
    (s.closeHalfByte).pending = s.pending ∧ (s.closeHalfByte).power = s.power ∧ (s.closeHalfByte).calendar = s.calendar ∧ (s.closeHalfByte).settings = s.settings := by
  unfold State.closeHalfByte; try dsimp only; 
  repeat' split
  all_goals simp

theorem State.closeHalfByte_sound (s : State) (h : s.Sound) : (s.closeHalfByte).Sound := by
  unfold State.closeHalfByte; try dsimp only
  repeat' split
  all_goals repeat' (first | with_reducible exact h | exact fun _ => rfl | with_reducible apply State.flushRecording_sound | with_reducible apply State.updPort_sound | with_reducible apply State.Sound.updEntry | with_reducible apply Sound.addHistory | simp only [State.sound_mk, State.sound_fold])

@[simp] theorem State.keepRecording_frame (s : State) (id : Nat) (kind : MsgKind) (ofCall : Bool) :
    (s.keepRecording id kind ofCall).pending = s.pending ∧ (s.keepRecording id kind ofCall).power = s.power ∧ (s.keepRecording id kind ofCall).calendar = s.calendar ∧ (s.keepRecording id kind ofCall).settings = s.settings := by
  unfold State.keepRecording; try dsimp only; 
  repeat' split
  all_goals simp

theorem State.keepRecording_sound (s : State) (id : Nat) (kind : MsgKind) (ofCall : Bool) (h : s.Sound) : (s.keepRecording id kind ofCall).Sound := by
  unfold State.keepRecording; try dsimp only
  repeat' split
  all_goals repeat' (first | with_reducible exact h | exact fun _ => rfl | with_reducible apply State.complete_sound | with_reducible apply State.updPort_sound | with_reducible apply State.Sound.updEntry | with_reducible apply Sound.addHistory | simp only [State.sound_mk, State.sound_fold])

@[simp] theorem State.keepRules_frame (s : State) :
    (s.keepRules).1.pending = s.pending ∧ (s.keepRules).1.power = s.power ∧ (s.keepRules).1.calendar = s.calendar ∧ (s.keepRules).1.settings = s.settings := by
  unfold State.keepRules; try dsimp only; 
  repeat' split
  all_goals simp

theorem State.keepRules_sound (s : State) (h : s.Sound) : (s.keepRules).1.Sound := by
  unfold State.keepRules; try dsimp only
  repeat' split
  all_goals repeat' (first | with_reducible exact h | exact fun _ => rfl | with_reducible apply State.stopT6_sound | with_reducible apply State.trim_sound | with_reducible apply State.removeEntry_sound | with_reducible apply State.closeHalfByte_sound | with_reducible apply State.keepRecording_sound | with_reducible apply State.updPort_sound | with_reducible apply State.Sound.updEntry | with_reducible apply Sound.addHistory | simp only [State.sound_mk, State.sound_fold])

@[simp] theorem State.loadHeader_frame (s : State) (id : Nat) :
    (s.loadHeader id).pending = s.pending ∧ (s.loadHeader id).power = s.power ∧ (s.loadHeader id).calendar = s.calendar ∧ (s.loadHeader id).settings = s.settings := by
  unfold State.loadHeader; try dsimp only; 
  repeat' split
  all_goals simp

theorem State.loadHeader_sound (s : State) (id : Nat) (h : s.Sound) : (s.loadHeader id).Sound := by
  unfold State.loadHeader; try dsimp only
  repeat' split
  all_goals repeat' (first | with_reducible exact h | exact fun _ => rfl | with_reducible apply State.updPort_sound | with_reducible apply State.Sound.updEntry | with_reducible apply Sound.addHistory | simp only [State.sound_mk, State.sound_fold])

@[simp] theorem State.playSample_frame (s : State) :
    (s.playSample).pending = s.pending ∧ (s.playSample).power = s.power ∧ (s.playSample).calendar = s.calendar ∧ (s.playSample).settings = s.settings := by
  unfold State.playSample; try dsimp only; 
  repeat' split
  all_goals simp

theorem State.playSample_sound (s : State) (h : s.Sound) : (s.playSample).Sound := by
  unfold State.playSample; try dsimp only
  repeat' split
  all_goals repeat' (first | with_reducible exact h | exact fun _ => rfl | with_reducible apply State.loadHeader_sound | with_reducible apply State.updPort_sound | with_reducible apply State.Sound.updEntry | with_reducible apply Sound.addHistory | simp only [State.sound_mk, State.sound_fold])

/-- R154: samples played. -/
@[simp] theorem State.playSamples_frame (n : Nat) (s : State) :
    (State.playSamples n s).pending = s.pending ∧ (State.playSamples n s).power = s.power ∧ (State.playSamples n s).calendar = s.calendar ∧ (State.playSamples n s).settings = s.settings := by
  induction n generalizing s with
  | zero => simp [State.playSamples]
  | succ n ih => simp [State.playSamples, ih]

theorem State.playSamples_sound (n : Nat) (s : State) (h : s.Sound) : (State.playSamples n s).Sound := by
  induction n generalizing s with
  | zero => exact h
  | succ n ih => exact ih _ (State.playSample_sound s h)


@[simp] theorem State.playTick_frame (s : State) :
    (s.playTick).pending = s.pending ∧ (s.playTick).power = s.power ∧ (s.playTick).calendar = s.calendar ∧ (s.playTick).settings = s.settings := by
  unfold State.playTick; try dsimp only; 
  repeat' split
  all_goals simp

theorem State.playTick_sound (s : State) (h : s.Sound) : (s.playTick).Sound := by
  unfold State.playTick
  split
  · exact State.playSamples_sound _ _ h
  · exact h

@[simp] theorem State.startPlay_frame (s : State) (user : Party) (id offset : Nat) (endpoint : Endpoint) (stopOnDigit : Bool) :
    (s.startPlay user id offset endpoint stopOnDigit).pending = s.pending ∧ (s.startPlay user id offset endpoint stopOnDigit).power = s.power ∧ (s.startPlay user id offset endpoint stopOnDigit).calendar = s.calendar ∧ (s.startPlay user id offset endpoint stopOnDigit).settings = s.settings := by
  unfold State.startPlay; try dsimp only; 
  repeat' split
  all_goals simp

theorem State.startPlay_sound (s : State) (user : Party) (id offset : Nat) (endpoint : Endpoint) (stopOnDigit : Bool) (h : s.Sound) : (s.startPlay user id offset endpoint stopOnDigit).Sound := by
  unfold State.startPlay; try dsimp only
  repeat' split
  all_goals repeat' (first | with_reducible exact h | exact fun _ => rfl | with_reducible apply State.hold_sound | with_reducible apply State.updPort_sound | with_reducible apply State.Sound.updEntry | with_reducible apply Sound.addHistory | simp only [State.sound_mk, State.sound_fold])

@[simp] theorem State.startBeep_frame (s : State) :
    (s.startBeep).pending = s.pending ∧ (s.startBeep).power = s.power ∧ (s.startBeep).calendar = s.calendar ∧ (s.startBeep).settings = s.settings := by
  unfold State.startBeep; try dsimp only; 
  repeat' split
  all_goals simp

theorem State.startBeep_sound (s : State) (h : s.Sound) : (s.startBeep).Sound := by
  unfold State.startBeep; try dsimp only
  repeat' split
  all_goals repeat' (first | with_reducible exact h | exact fun _ => rfl | with_reducible apply State.updPort_sound | with_reducible apply State.Sound.updEntry | with_reducible apply Sound.addHistory | simp only [State.sound_mk, State.sound_fold])

@[simp] theorem State.startRecord_frame (s : State) (user : Party) (kind : MsgKind) (slot : Option Nat) (endpoint : Endpoint) (vox : Bool) (maxSeconds : Nat) :
    (s.startRecord user kind slot endpoint vox maxSeconds).1.pending = s.pending ∧ (s.startRecord user kind slot endpoint vox maxSeconds).1.power = s.power ∧ (s.startRecord user kind slot endpoint vox maxSeconds).1.calendar = s.calendar ∧ (s.startRecord user kind slot endpoint vox maxSeconds).1.settings = s.settings := by
  have hc := State.create_frame s kind slot (decide (user = .auto))
  unfold State.startRecord
  dsimp only
  split <;> rename_i he <;> rw [he] at hc
  · simpa using hc
  · split <;> simpa using hc

theorem State.startRecord_sound (s : State) (user : Party) (kind : MsgKind) (slot : Option Nat) (endpoint : Endpoint) (vox : Bool) (maxSeconds : Nat) (h : s.Sound) : (s.startRecord user kind slot endpoint vox maxSeconds).1.Sound := by
  have hc := State.create_sound s kind slot (decide (user = .auto)) h
  unfold State.startRecord
  dsimp only
  split <;> rename_i he <;> rw [he] at hc
  · exact State.raiseParty_sound _ _ _ hc
  · split <;> exact hc

@[simp] theorem State.saveResume_frame (s : State) (r : VoiceReason) :
    (s.saveResume r).pending = s.pending ∧ (s.saveResume r).power = s.power ∧ (s.saveResume r).calendar = s.calendar ∧ (s.saveResume r).settings = s.settings := by
  unfold State.saveResume; try dsimp only; 
  repeat' split
  all_goals simp

theorem State.saveResume_sound (s : State) (r : VoiceReason) (h : s.Sound) : (s.saveResume r).Sound := by
  unfold State.saveResume; try dsimp only
  repeat' split
  all_goals repeat' (first | with_reducible exact h | exact fun _ => rfl | with_reducible apply State.updPort_sound | with_reducible apply State.Sound.updEntry | with_reducible apply Sound.addHistory | simp only [State.sound_mk, State.sound_fold])

@[simp] theorem State.endVoice_frame (s : State) (r : VoiceReason) :
    (s.endVoice r).1.pending = s.pending ∧ (s.endVoice r).1.power = s.power ∧ (s.endVoice r).1.calendar = s.calendar ∧ (s.endVoice r).1.settings = s.settings := by
  unfold State.endVoice; try dsimp only; 
  repeat' split
  all_goals simp

theorem State.endVoice_sound (s : State) (r : VoiceReason) (h : s.Sound) : (s.endVoice r).1.Sound := by
  unfold State.endVoice; try dsimp only
  repeat' split
  all_goals repeat' (first | with_reducible exact h | exact fun _ => rfl | with_reducible apply State.raiseParty_sound | with_reducible apply State.release_sound | with_reducible apply State.keepRules_sound | with_reducible apply State.saveResume_sound | with_reducible apply State.updPort_sound | with_reducible apply State.Sound.updEntry | with_reducible apply Sound.addHistory | simp only [State.sound_mk, State.sound_fold])

@[simp] theorem State.autoChannel_frame (s : State) :
    (s.autoChannel).pending = s.pending ∧ (s.autoChannel).power = s.power ∧ (s.autoChannel).calendar = s.calendar ∧ (s.autoChannel).settings = s.settings := by
  unfold State.autoChannel; try dsimp only; 
  repeat' split
  all_goals simp

theorem State.autoChannel_sound (s : State) (h : s.Sound) : (s.autoChannel).Sound := by
  unfold State.autoChannel; try dsimp only
  repeat' split
  all_goals repeat' (first | with_reducible exact h | exact fun _ => rfl | with_reducible apply State.updPort_sound | with_reducible apply State.Sound.updEntry | with_reducible apply Sound.addHistory | simp only [State.sound_mk, State.sound_fold])

@[simp] theorem State.dropAuto_frame (s : State) :
    (s.dropAuto).pending = s.pending ∧ (s.dropAuto).power = s.power ∧ (s.dropAuto).calendar = s.calendar ∧ (s.dropAuto).settings = s.settings := by
  unfold State.dropAuto; try dsimp only; 
  repeat' split
  all_goals simp

theorem State.dropAuto_sound (s : State) (h : s.Sound) : (s.dropAuto).Sound := by
  unfold State.dropAuto; try dsimp only
  repeat' split
  all_goals repeat' (first | with_reducible exact h | exact fun _ => rfl | with_reducible apply State.updPort_sound | with_reducible apply State.Sound.updEntry | with_reducible apply Sound.addHistory | simp only [State.sound_mk, State.sound_fold])

@[simp] theorem State.preempt_frame (s : State) :
    (s.preempt).pending = s.pending ∧ (s.preempt).power = s.power ∧ (s.preempt).calendar = s.calendar ∧ (s.preempt).settings = s.settings := by
  unfold State.preempt; try dsimp only; 
  repeat' split
  all_goals simp

theorem State.preempt_sound (s : State) (h : s.Sound) : (s.preempt).Sound := by
  unfold State.preempt; try dsimp only
  repeat' split
  all_goals repeat' (first | with_reducible exact h | exact fun _ => rfl | with_reducible apply State.raiseParty_sound | with_reducible apply State.endVoice_sound | with_reducible apply State.updPort_sound | with_reducible apply State.Sound.updEntry | with_reducible apply Sound.addHistory | simp only [State.sound_mk, State.sound_fold])

@[simp] theorem State.cancelAuto_frame (s : State) :
    (s.cancelAuto).pending = s.pending ∧ (s.cancelAuto).power = s.power ∧ (s.cancelAuto).calendar = s.calendar ∧ (s.cancelAuto).settings = s.settings := by
  unfold State.cancelAuto; try dsimp only; 
  repeat' split
  all_goals simp

theorem State.cancelAuto_sound (s : State) (h : s.Sound) : (s.cancelAuto).Sound := by
  unfold State.cancelAuto; try dsimp only
  repeat' split
  all_goals repeat' (first | with_reducible exact h | exact fun _ => rfl | with_reducible apply State.stopT6_sound | with_reducible apply State.removeEntry_sound | with_reducible apply State.endVoice_sound | with_reducible apply State.autoChannel_sound | with_reducible apply State.updPort_sound | with_reducible apply State.Sound.updEntry | with_reducible apply Sound.addHistory | simp only [State.sound_mk, State.sound_fold])

@[simp] theorem State.loadT1_frame (s : State) :
    (s.loadT1).pending = s.pending ∧ (s.loadT1).power = s.power ∧ (s.loadT1).calendar = s.calendar ∧ (s.loadT1).settings = s.settings := by
  unfold State.loadT1; try dsimp only; 
  repeat' split
  all_goals simp

theorem State.loadT1_sound (s : State) (h : s.Sound) : (s.loadT1).Sound := by
  unfold State.loadT1; try dsimp only
  repeat' split
  all_goals repeat' (first | with_reducible exact h | exact fun _ => rfl | with_reducible apply State.updPort_sound | with_reducible apply State.Sound.updEntry | with_reducible apply Sound.addHistory | simp only [State.sound_mk, State.sound_fold])

@[simp] theorem State.stopT1_frame (s : State) :
    (s.stopT1).pending = s.pending ∧ (s.stopT1).power = s.power ∧ (s.stopT1).calendar = s.calendar ∧ (s.stopT1).settings = s.settings := by
  unfold State.stopT1; try dsimp only; 
  repeat' split
  all_goals simp

theorem State.stopT1_sound (s : State) (h : s.Sound) : (s.stopT1).Sound := by
  unfold State.stopT1; try dsimp only
  repeat' split
  all_goals repeat' (first | with_reducible exact h | exact fun _ => rfl | with_reducible apply State.updPort_sound | with_reducible apply State.Sound.updEntry | with_reducible apply Sound.addHistory | simp only [State.sound_mk, State.sound_fold])

@[simp] theorem State.closeRelay_frame (s : State) :
    (s.closeRelay).pending = s.pending ∧ (s.closeRelay).power = s.power ∧ (s.closeRelay).calendar = s.calendar ∧ (s.closeRelay).settings = s.settings := by
  unfold State.closeRelay; try dsimp only; 
  repeat' split
  all_goals simp

theorem State.closeRelay_sound (s : State) (h : s.Sound) : (s.closeRelay).Sound := by
  unfold State.closeRelay; try dsimp only
  repeat' split
  all_goals repeat' (first | with_reducible exact h | exact fun _ => rfl | with_reducible apply State.stopT1_sound | with_reducible apply State.updPort_sound | with_reducible apply State.Sound.updEntry | with_reducible apply Sound.addHistory | simp only [State.sound_mk, State.sound_fold])

@[simp] theorem State.openRelay_frame (s : State) :
    (s.openRelay).pending = s.pending ∧ (s.openRelay).power = s.power ∧ (s.openRelay).calendar = s.calendar ∧ (s.openRelay).settings = s.settings := by
  unfold State.openRelay; try dsimp only; 
  repeat' split
  all_goals simp

theorem State.openRelay_sound (s : State) (h : s.Sound) : (s.openRelay).Sound := by
  unfold State.openRelay; try dsimp only
  repeat' split
  all_goals repeat' (first | with_reducible exact h | exact fun _ => rfl | with_reducible apply State.loadT1_sound | with_reducible apply State.updPort_sound | with_reducible apply State.Sound.updEntry | with_reducible apply Sound.addHistory | simp only [State.sound_mk, State.sound_fold])

@[simp] theorem State.lineTo_frame (s : State) (l : LineState) :
    (s.lineTo l).pending = s.pending ∧ (s.lineTo l).power = s.power ∧ (s.lineTo l).calendar = s.calendar ∧ (s.lineTo l).settings = s.settings := by
  unfold State.lineTo; try dsimp only; 
  repeat' split
  all_goals simp

theorem State.lineTo_sound (s : State) (l : LineState) (h : s.Sound) : (s.lineTo l).Sound := by
  unfold State.lineTo; try dsimp only
  repeat' split
  all_goals repeat' (first | with_reducible exact h | exact fun _ => rfl | with_reducible apply State.raiseBoth_sound | with_reducible apply State.updPort_sound | with_reducible apply State.Sound.updEntry | with_reducible apply Sound.addHistory | simp only [State.sound_mk, State.sound_fold])

@[simp] theorem State.toCommand_frame (s : State) :
    (s.toCommand).pending = s.pending ∧ (s.toCommand).power = s.power ∧ (s.toCommand).calendar = s.calendar ∧ (s.toCommand).settings = s.settings := by
  unfold State.toCommand; try dsimp only; 
  repeat' split
  all_goals simp

theorem State.toCommand_sound (s : State) (h : s.Sound) : (s.toCommand).Sound := by
  unfold State.toCommand; try dsimp only
  repeat' split
  all_goals repeat' (first | with_reducible exact h | exact fun _ => rfl | with_reducible apply State.stopT5_sound | with_reducible apply State.updPort_sound | with_reducible apply State.Sound.updEntry | with_reducible apply Sound.addHistory | simp only [State.sound_mk, State.sound_fold])

@[simp] theorem State.clearForCall_frame (s : State) :
    (s.clearForCall).pending = s.pending ∧ (s.clearForCall).power = s.power ∧ (s.clearForCall).calendar = s.calendar ∧ (s.clearForCall).settings = s.settings := by
  unfold State.clearForCall; try dsimp only; 
  repeat' split
  all_goals simp

theorem State.clearForCall_sound (s : State) (h : s.Sound) : (s.clearForCall).Sound := by
  unfold State.clearForCall; try dsimp only
  repeat' split
  all_goals repeat' (first | with_reducible exact h | exact fun _ => rfl | with_reducible apply State.updPort_sound | with_reducible apply State.Sound.updEntry | with_reducible apply Sound.addHistory | simp only [State.sound_mk, State.sound_fold])

@[simp] theorem State.activate_frame (s : State) (call : CallRecord) (blind : Bool) :
    (s.activate call blind).pending = s.pending ∧ (s.activate call blind).power = s.power ∧ (s.activate call blind).calendar = s.calendar ∧ (s.activate call blind).settings = s.settings := by
  unfold State.activate; try dsimp only; 
  repeat' split
  all_goals simp

theorem State.activate_sound (s : State) (call : CallRecord) (blind : Bool) (h : s.Sound) : (s.activate call blind).Sound := by
  unfold State.activate; try dsimp only
  repeat' split
  all_goals repeat' (first | with_reducible exact h | exact fun _ => rfl | with_reducible apply State.clearForCall_sound | with_reducible apply State.updPort_sound | with_reducible apply State.Sound.updEntry | with_reducible apply Sound.addHistory | simp only [State.sound_mk, State.sound_fold])

@[simp] theorem State.silence_frame (s : State) :
    (s.silence).pending = s.pending ∧ (s.silence).power = s.power ∧ (s.silence).calendar = s.calendar ∧ (s.silence).settings = s.settings := by
  unfold State.silence; try dsimp only; 
  repeat' split
  all_goals simp

theorem State.silence_sound (s : State) (h : s.Sound) : (s.silence).Sound := by
  unfold State.silence; try dsimp only
  repeat' split
  all_goals repeat' (first | with_reducible exact h | exact fun _ => rfl | with_reducible apply State.stopT0_sound | with_reducible apply State.updPort_sound | with_reducible apply State.Sound.updEntry | with_reducible apply Sound.addHistory | simp only [State.sound_mk, State.sound_fold])

@[simp] theorem State.resetLink_frame (s : State) :
    (s.resetLink).pending = s.pending ∧ (s.resetLink).power = s.power ∧ (s.resetLink).calendar = s.calendar ∧ (s.resetLink).settings = s.settings := by
  unfold State.resetLink; try dsimp only; 
  repeat' split
  all_goals simp

theorem State.resetLink_sound (s : State) (h : s.Sound) : (s.resetLink).Sound := by
  unfold State.resetLink; try dsimp only
  repeat' split
  all_goals repeat' (first | with_reducible exact h | exact fun _ => rfl | with_reducible apply State.stopT3_sound | with_reducible apply State.updPort_sound | with_reducible apply State.Sound.updEntry | with_reducible apply Sound.addHistory | simp only [State.sound_mk, State.sound_fold])

@[simp] theorem State.resetPump_frame (s : State) :
    (s.resetPump).pending = s.pending ∧ (s.resetPump).power = s.power ∧ (s.resetPump).calendar = s.calendar ∧ (s.resetPump).settings = s.settings := by
  unfold State.resetPump; try dsimp only; 
  repeat' split
  all_goals simp

theorem State.resetPump_sound (s : State) (h : s.Sound) : (s.resetPump).Sound := by
  unfold State.resetPump; try dsimp only
  repeat' split
  all_goals repeat' (first | with_reducible exact h | exact fun _ => rfl | with_reducible apply State.stopT4_sound | with_reducible apply State.updPort_sound | with_reducible apply State.Sound.updEntry | with_reducible apply Sound.addHistory | simp only [State.sound_mk, State.sound_fold])

@[simp] theorem State.closeFax_frame (s : State) :
    (s.closeFax).pending = s.pending ∧ (s.closeFax).power = s.power ∧ (s.closeFax).calendar = s.calendar ∧ (s.closeFax).settings = s.settings := by
  unfold State.closeFax; try dsimp only; 
  repeat' split
  all_goals simp

theorem State.closeFax_sound (s : State) (h : s.Sound) : (s.closeFax).Sound := by
  unfold State.closeFax; try dsimp only
  repeat' split
  all_goals repeat' (first | with_reducible exact h | exact fun _ => rfl | with_reducible apply State.trim_sound | with_reducible apply State.removeEntry_sound | with_reducible apply State.release_sound | with_reducible apply State.complete_sound | with_reducible apply State.updPort_sound | with_reducible apply State.Sound.updEntry | with_reducible apply Sound.addHistory | simp only [State.sound_mk, State.sound_fold])

@[simp] theorem State.stopEngines_frame (s : State) :
    (s.stopEngines).pending = s.pending ∧ (s.stopEngines).power = s.power ∧ (s.stopEngines).calendar = s.calendar ∧ (s.stopEngines).settings = s.settings := by
  unfold State.stopEngines; try dsimp only; 
  repeat' split
  all_goals simp

theorem State.stopEngines_sound (s : State) (h : s.Sound) : (s.stopEngines).Sound := by
  unfold State.stopEngines; try dsimp only
  repeat' split
  all_goals repeat' (first | with_reducible exact h | exact fun _ => rfl | with_reducible apply State.stopT2_sound | with_reducible apply State.endVoice_sound | with_reducible apply State.dropAuto_sound | with_reducible apply State.silence_sound | with_reducible apply State.resetLink_sound | with_reducible apply State.resetPump_sound | with_reducible apply State.closeFax_sound | with_reducible apply State.updPort_sound | with_reducible apply State.Sound.updEntry | with_reducible apply Sound.addHistory | simp only [State.sound_mk, State.sound_fold])

@[simp] theorem State.callEnd_frame (s : State) (c : Cause) :
    (s.callEnd c).pending = s.pending ∧ (s.callEnd c).power = s.power ∧ (s.callEnd c).calendar = s.calendar ∧ (s.callEnd c).settings = s.settings := by
  unfold State.callEnd; try dsimp only; 
  repeat' split
  all_goals simp

theorem State.callEnd_sound (s : State) (c : Cause) (h : s.Sound) : (s.callEnd c).Sound := by
  unfold State.callEnd; try dsimp only
  repeat' split
  all_goals repeat' (first | with_reducible exact h | exact fun _ => rfl | with_reducible apply State.loadT2_sound | with_reducible apply State.raiseBoth_sound | with_reducible apply State.openRelay_sound | with_reducible apply State.toCommand_sound | with_reducible apply State.stopEngines_sound | with_reducible apply State.updPort_sound | with_reducible apply State.Sound.updEntry | with_reducible apply Sound.addHistory | simp only [State.sound_mk, State.sound_fold])

@[simp] theorem State.reportEnd_frame (s : State) (c : Cause) :
    (s.reportEnd c).pending = s.pending ∧ (s.reportEnd c).power = s.power ∧ (s.reportEnd c).calendar = s.calendar ∧ (s.reportEnd c).settings = s.settings := by
  unfold State.reportEnd; try dsimp only; 
  repeat' split
  all_goals simp

theorem State.reportEnd_sound (s : State) (c : Cause) (h : s.Sound) : (s.reportEnd c).Sound := by
  unfold State.reportEnd; try dsimp only
  repeat' split
  all_goals repeat' (first | with_reducible exact h | exact fun _ => rfl | with_reducible apply State.callEnd_sound | with_reducible apply State.updPort_sound | with_reducible apply State.Sound.updEntry | with_reducible apply Sound.addHistory | simp only [State.sound_mk, State.sound_fold])

@[simp] theorem State.reportPhase_frame (s : State) (p : CallPhase) :
    (s.reportPhase p).pending = s.pending ∧ (s.reportPhase p).power = s.power ∧ (s.reportPhase p).calendar = s.calendar ∧ (s.reportPhase p).settings = s.settings := by
  unfold State.reportPhase; try dsimp only; 
  repeat' split
  all_goals simp

theorem State.reportPhase_sound (s : State) (p : CallPhase) (h : s.Sound) : (s.reportPhase p).Sound := by
  unfold State.reportPhase; try dsimp only
  repeat' split
  all_goals repeat' (first | with_reducible exact h | exact fun _ => rfl | with_reducible apply State.updPort_sound | with_reducible apply State.Sound.updEntry | with_reducible apply Sound.addHistory | simp only [State.sound_mk, State.sound_fold])

@[simp] theorem State.reportRung_frame (s : State) (r : Nat) :
    (s.reportRung r).pending = s.pending ∧ (s.reportRung r).power = s.power ∧ (s.reportRung r).calendar = s.calendar ∧ (s.reportRung r).settings = s.settings := by
  unfold State.reportRung; try dsimp only; 
  repeat' split
  all_goals simp

theorem State.reportRung_sound (s : State) (r : Nat) (h : s.Sound) : (s.reportRung r).Sound := by
  unfold State.reportRung; try dsimp only
  repeat' split
  all_goals repeat' (first | with_reducible exact h | exact fun _ => rfl | with_reducible apply State.updPort_sound | with_reducible apply State.Sound.updEntry | with_reducible apply Sound.addHistory | simp only [State.sound_mk, State.sound_fold])

@[simp] theorem State.seize_frame (s : State) (master : Port) (items : List DialItem) (job : Job) (blind : Bool) :
    (s.seize master items job blind).pending = s.pending ∧ (s.seize master items job blind).power = s.power ∧ (s.seize master items job blind).calendar = s.calendar ∧ (s.seize master items job blind).settings = s.settings := by
  unfold State.seize; try dsimp only; 
  repeat' split
  all_goals simp

theorem State.seize_sound (s : State) (master : Port) (items : List DialItem) (job : Job) (blind : Bool) (h : s.Sound) : (s.seize master items job blind).Sound := by
  unfold State.seize; try dsimp only
  repeat' split
  all_goals repeat' (first | with_reducible exact h | exact fun _ => rfl | with_reducible apply State.loadT2_sound | with_reducible apply State.closeRelay_sound | with_reducible apply State.lineTo_sound | with_reducible apply State.activate_sound | with_reducible apply State.updPort_sound | with_reducible apply State.Sound.updEntry | with_reducible apply Sound.addHistory | simp only [State.sound_mk, State.sound_fold])

/-- R12: a queued dial granted. -/
theorem State.serveQueue_frame {s t : State} (ht : s.serveQueue = some t) :
    t.pending = s.pending ∧ t.power = s.power ∧ t.calendar = s.calendar ∧ t.settings = s.settings := by
  unfold State.serveQueue at ht
  split at ht
  · split at ht
    · cases ht
    · obtain rfl := Option.some.inj ht
      simp
  · cases ht

theorem State.serveQueue_sound {s t : State} (h : s.Sound) (ht : s.serveQueue = some t) : t.Sound := by
  unfold State.serveQueue at ht
  split at ht
  · split at ht
    · cases ht
    · rename_i c rest hq
      obtain rfl := Option.some.inj ht
      refine State.seize_sound _ _ _ _ _ (State.raiseAt_sound _ _ _ ?_)
      exact Sound.withClaims h (OneEach.sublist h.claims (hq ▸ List.sublist_cons_self c rest))
  · cases ht


@[simp] theorem State.lineFree_frame (s : State) :
    (s.lineFree).pending = s.pending ∧ (s.lineFree).power = s.power ∧ (s.lineFree).calendar = s.calendar ∧ (s.lineFree).settings = s.settings := by
  unfold State.lineFree
  cases hq : s.serveQueue with
  | none => simp
  | some t => simpa using State.serveQueue_frame hq

theorem State.lineFree_sound (s : State) (h : s.Sound) : (s.lineFree).Sound := by
  unfold State.lineFree
  cases hq : s.serveQueue with
  | none => exact State.lineTo_sound _ _ h
  | some t => exact State.serveQueue_sound h hq

@[simp] theorem State.withdraw_frame (s : State) (p : Port) :
    (s.withdraw p).pending = s.pending ∧ (s.withdraw p).power = s.power ∧ (s.withdraw p).calendar = s.calendar ∧ (s.withdraw p).settings = s.settings := by
  unfold State.withdraw; try dsimp only; 
  repeat' split
  all_goals simp

theorem State.withdraw_sound (s : State) (p : Port) (h : s.Sound) : (s.withdraw p).Sound := by
  exact Sound.withClaims h (OneEach.sublist h.claims List.filter_sublist)

@[simp] theorem State.judgeCts_frame (s : State) :
    (s.judgeCts).pending = s.pending ∧ (s.judgeCts).power = s.power ∧ (s.judgeCts).calendar = s.calendar ∧ (s.judgeCts).settings = s.settings := by
  unfold State.judgeCts; try dsimp only; 
  repeat' split
  all_goals simp

theorem State.judgeCts_sound (s : State) (h : s.Sound) : (s.judgeCts).Sound := by
  unfold State.judgeCts; try dsimp only
  repeat' split
  all_goals repeat' (first | with_reducible exact h | exact fun _ => rfl | with_reducible apply State.updPort_sound | with_reducible apply State.Sound.updEntry | with_reducible apply Sound.addHistory | simp only [State.sound_mk, State.sound_fold])

@[simp] theorem State.enterData_frame (s : State) :
    (s.enterData).pending = s.pending ∧ (s.enterData).power = s.power ∧ (s.enterData).calendar = s.calendar ∧ (s.enterData).settings = s.settings := by
  unfold State.enterData; try dsimp only; 
  repeat' split
  all_goals simp

theorem State.enterData_sound (s : State) (h : s.Sound) : (s.enterData).Sound := by
  unfold State.enterData; try dsimp only
  repeat' split
  all_goals repeat' (first | with_reducible exact h | exact fun _ => rfl | with_reducible apply State.loadT5_sound | with_reducible apply State.updPort_sound | with_reducible apply State.Sound.updEntry | with_reducible apply Sound.addHistory | simp only [State.sound_mk, State.sound_fold])

@[simp] theorem State.requestData_frame (s : State) :
    (s.requestData).pending = s.pending ∧ (s.requestData).power = s.power ∧ (s.requestData).calendar = s.calendar ∧ (s.requestData).settings = s.settings := by
  unfold State.requestData; try dsimp only; 
  repeat' split
  all_goals simp

theorem State.requestData_sound (s : State) (h : s.Sound) : (s.requestData).Sound := by
  unfold State.requestData; try dsimp only
  repeat' split
  all_goals repeat' (first | with_reducible exact h | exact fun _ => rfl | with_reducible apply State.enterData_sound | with_reducible apply State.updPort_sound | with_reducible apply State.Sound.updEntry | with_reducible apply Sound.addHistory | simp only [State.sound_mk, State.sound_fold])

@[simp] theorem State.online_frame (s : State) :
    (s.online).pending = s.pending ∧ (s.online).power = s.power ∧ (s.online).calendar = s.calendar ∧ (s.online).settings = s.settings := by
  unfold State.online; try dsimp only; 
  repeat' split
  all_goals simp

theorem State.online_sound (s : State) (h : s.Sound) : (s.online).Sound := by
  unfold State.online; try dsimp only
  repeat' split
  all_goals repeat' (first | with_reducible exact h | exact fun _ => rfl | with_reducible apply State.raiseHolder_sound | with_reducible apply State.requestData_sound | with_reducible apply State.updPort_sound | with_reducible apply State.Sound.updEntry | with_reducible apply Sound.addHistory | simp only [State.sound_mk, State.sound_fold])

@[simp] theorem State.enterLinked_frame (s : State) (peer : Nat × Nat) :
    (s.enterLinked peer).pending = s.pending ∧ (s.enterLinked peer).power = s.power ∧ (s.enterLinked peer).calendar = s.calendar ∧ (s.enterLinked peer).settings = s.settings := by
  unfold State.enterLinked; try dsimp only; 
  repeat' split
  all_goals simp

theorem State.enterLinked_sound (s : State) (peer : Nat × Nat) (h : s.Sound) : (s.enterLinked peer).Sound := by
  unfold State.enterLinked; try dsimp only
  repeat' split
  all_goals repeat' (first | with_reducible exact h | exact fun _ => rfl | with_reducible apply State.stopT3_sound | with_reducible apply State.online_sound | with_reducible apply State.updPort_sound | with_reducible apply State.Sound.updEntry | with_reducible apply Sound.addHistory | simp only [State.sound_mk, State.sound_fold])

@[simp] theorem State.enterDirect_frame (s : State) :
    (s.enterDirect).pending = s.pending ∧ (s.enterDirect).power = s.power ∧ (s.enterDirect).calendar = s.calendar ∧ (s.enterDirect).settings = s.settings := by
  unfold State.enterDirect; try dsimp only; 
  repeat' split
  all_goals simp

theorem State.enterDirect_sound (s : State) (h : s.Sound) : (s.enterDirect).Sound := by
  unfold State.enterDirect; try dsimp only
  repeat' split
  all_goals repeat' (first | with_reducible exact h | exact fun _ => rfl | with_reducible apply State.stopT3_sound | with_reducible apply State.online_sound | with_reducible apply State.updPort_sound | with_reducible apply State.Sound.updEntry | with_reducible apply Sound.addHistory | simp only [State.sound_mk, State.sound_fold])

@[simp] theorem State.linkBegin_frame (s : State) :
    (s.linkBegin).pending = s.pending ∧ (s.linkBegin).power = s.power ∧ (s.linkBegin).calendar = s.calendar ∧ (s.linkBegin).settings = s.settings := by
  unfold State.linkBegin; try dsimp only; 
  repeat' split
  all_goals simp

theorem State.linkBegin_sound (s : State) (h : s.Sound) : (s.linkBegin).Sound := by
  unfold State.linkBegin; try dsimp only
  repeat' split
  all_goals repeat' (first | with_reducible exact h | exact fun _ => rfl | with_reducible apply State.loadT3_sound | with_reducible apply State.enterDirect_sound | with_reducible apply State.updPort_sound | with_reducible apply State.Sound.updEntry | with_reducible apply Sound.addHistory | simp only [State.sound_mk, State.sound_fold])

@[simp] theorem State.linkPause_frame (s : State) :
    (s.linkPause).pending = s.pending ∧ (s.linkPause).power = s.power ∧ (s.linkPause).calendar = s.calendar ∧ (s.linkPause).settings = s.settings := by
  unfold State.linkPause; try dsimp only; 
  repeat' split
  all_goals simp

theorem State.linkPause_sound (s : State) (h : s.Sound) : (s.linkPause).Sound := by
  unfold State.linkPause; try dsimp only
  repeat' split
  all_goals repeat' (first | with_reducible exact h | exact fun _ => rfl | with_reducible apply State.stopT3_sound | with_reducible apply State.updPort_sound | with_reducible apply State.Sound.updEntry | with_reducible apply Sound.addHistory | simp only [State.sound_mk, State.sound_fold])

@[simp] theorem State.linkResume_frame (s : State) :
    (s.linkResume).pending = s.pending ∧ (s.linkResume).power = s.power ∧ (s.linkResume).calendar = s.calendar ∧ (s.linkResume).settings = s.settings := by
  unfold State.linkResume; try dsimp only; 
  repeat' split
  all_goals simp

theorem State.linkResume_sound (s : State) (h : s.Sound) : (s.linkResume).Sound := by
  unfold State.linkResume; try dsimp only
  repeat' split
  all_goals repeat' (first | with_reducible exact h | exact fun _ => rfl | with_reducible apply State.loadT3_sound | with_reducible apply State.updPort_sound | with_reducible apply State.Sound.updEntry | with_reducible apply Sound.addHistory | simp only [State.sound_mk, State.sound_fold])

@[simp] theorem State.takeAck_frame (s : State) (n : Nat) :
    (s.takeAck n).pending = s.pending ∧ (s.takeAck n).power = s.power ∧ (s.takeAck n).calendar = s.calendar ∧ (s.takeAck n).settings = s.settings := by
  unfold State.takeAck; try dsimp only; 
  repeat' split
  all_goals simp

theorem State.takeAck_sound (s : State) (n : Nat) (h : s.Sound) : (s.takeAck n).Sound := by
  unfold State.takeAck; try dsimp only
  repeat' split
  all_goals repeat' (first | with_reducible exact h | exact fun _ => rfl | with_reducible apply State.loadT3_sound | with_reducible apply State.stopT3_sound | with_reducible apply State.updPort_sound | with_reducible apply State.Sound.updEntry | with_reducible apply Sound.addHistory | simp only [State.sound_mk, State.sound_fold])

@[simp] theorem State.startClearing_frame (s : State) :
    (s.startClearing).pending = s.pending ∧ (s.startClearing).power = s.power ∧ (s.startClearing).calendar = s.calendar ∧ (s.startClearing).settings = s.settings := by
  unfold State.startClearing; try dsimp only; 
  repeat' split
  all_goals simp

theorem State.startClearing_sound (s : State) (h : s.Sound) : (s.startClearing).Sound := by
  unfold State.startClearing; try dsimp only
  repeat' split
  all_goals repeat' (first | with_reducible exact h | exact fun _ => rfl | with_reducible apply State.loadT3_sound | with_reducible apply State.judgeCts_sound | with_reducible apply State.updPort_sound | with_reducible apply State.Sound.updEntry | with_reducible apply Sound.addHistory | simp only [State.sound_mk, State.sound_fold])

@[simp] theorem State.answerClear_frame (s : State) :
    (s.answerClear).pending = s.pending ∧ (s.answerClear).power = s.power ∧ (s.answerClear).calendar = s.calendar ∧ (s.answerClear).settings = s.settings := by
  unfold State.answerClear; try dsimp only; 
  repeat' split
  all_goals simp

theorem State.answerClear_sound (s : State) (h : s.Sound) : (s.answerClear).Sound := by
  unfold State.answerClear; try dsimp only
  repeat' split
  all_goals repeat' (first | with_reducible exact h | exact fun _ => rfl | with_reducible apply State.stopT3_sound | with_reducible apply State.judgeCts_sound | with_reducible apply State.updPort_sound | with_reducible apply State.Sound.updEntry | with_reducible apply Sound.addHistory | simp only [State.sound_mk, State.sound_fold])

@[simp] theorem State.pumpStart_frame (s : State) (role : PumpRole) :
    (s.pumpStart role).pending = s.pending ∧ (s.pumpStart role).power = s.power ∧ (s.pumpStart role).calendar = s.calendar ∧ (s.pumpStart role).settings = s.settings := by
  unfold State.pumpStart; try dsimp only; 
  repeat' split
  all_goals simp

theorem State.pumpStart_sound (s : State) (role : PumpRole) (h : s.Sound) : (s.pumpStart role).Sound := by
  unfold State.pumpStart; try dsimp only
  repeat' split
  all_goals repeat' (first | with_reducible exact h | exact fun _ => rfl | with_reducible apply State.reportPhase_sound | with_reducible apply State.updPort_sound | with_reducible apply State.Sound.updEntry | with_reducible apply Sound.addHistory | simp only [State.sound_mk, State.sound_fold])

@[simp] theorem State.beginTraining_frame (s : State) :
    (s.beginTraining).pending = s.pending ∧ (s.beginTraining).power = s.power ∧ (s.beginTraining).calendar = s.calendar ∧ (s.beginTraining).settings = s.settings := by
  unfold State.beginTraining; try dsimp only; 
  repeat' split
  all_goals simp

theorem State.beginTraining_sound (s : State) (h : s.Sound) : (s.beginTraining).Sound := by
  unfold State.beginTraining; try dsimp only
  repeat' split
  all_goals repeat' (first | with_reducible exact h | exact fun _ => rfl | with_reducible apply State.updPort_sound | with_reducible apply State.Sound.updEntry | with_reducible apply Sound.addHistory | simp only [State.sound_mk, State.sound_fold])

@[simp] theorem State.handshakeComplete_frame (s : State) (m : Nat) :
    (s.handshakeComplete m).pending = s.pending ∧ (s.handshakeComplete m).power = s.power ∧ (s.handshakeComplete m).calendar = s.calendar ∧ (s.handshakeComplete m).settings = s.settings := by
  unfold State.handshakeComplete; try dsimp only; 
  repeat' split
  all_goals simp

theorem State.handshakeComplete_sound (s : State) (m : Nat) (h : s.Sound) : (s.handshakeComplete m).Sound := by
  unfold State.handshakeComplete; try dsimp only
  repeat' split
  all_goals repeat' (first | with_reducible exact h | exact fun _ => rfl | with_reducible apply State.reportPhase_sound | with_reducible apply State.beginTraining_sound | with_reducible apply State.updPort_sound | with_reducible apply State.Sound.updEntry | with_reducible apply Sound.addHistory | simp only [State.sound_mk, State.sound_fold])

@[simp] theorem State.dataEntry_frame (s : State) :
    (s.dataEntry).pending = s.pending ∧ (s.dataEntry).power = s.power ∧ (s.dataEntry).calendar = s.calendar ∧ (s.dataEntry).settings = s.settings := by
  unfold State.dataEntry; try dsimp only; 
  repeat' split
  all_goals simp

theorem State.dataEntry_sound (s : State) (h : s.Sound) : (s.dataEntry).Sound := by
  unfold State.dataEntry; try dsimp only
  repeat' split
  all_goals repeat' (first | with_reducible exact h | exact fun _ => rfl | with_reducible apply State.loadT2_sound | with_reducible apply State.loadT4_sound | with_reducible apply State.reportPhase_sound | with_reducible apply State.reportRung_sound | with_reducible apply State.linkBegin_sound | with_reducible apply State.linkResume_sound | with_reducible apply State.updPort_sound | with_reducible apply State.Sound.updEntry | with_reducible apply Sound.addHistory | simp only [State.sound_mk, State.sound_fold])

@[simp] theorem State.judgeHandshake_frame (s : State) :
    (s.judgeHandshake).pending = s.pending ∧ (s.judgeHandshake).power = s.power ∧ (s.judgeHandshake).calendar = s.calendar ∧ (s.judgeHandshake).settings = s.settings := by
  unfold State.judgeHandshake; try dsimp only
  repeat' split
  all_goals simp

theorem State.judgeHandshake_sound (s : State) (h : s.Sound) : (s.judgeHandshake).Sound := by
  unfold State.judgeHandshake; try dsimp only
  repeat' split
  all_goals repeat' (first | with_reducible exact h | with_reducible apply State.handshakeComplete_sound | simp only [State.sound_mk, State.sound_fold])

@[simp] theorem State.trainingFailed_frame (s : State) :
    (s.trainingFailed).pending = s.pending ∧ (s.trainingFailed).power = s.power ∧ (s.trainingFailed).calendar = s.calendar ∧ (s.trainingFailed).settings = s.settings := by
  unfold State.trainingFailed; try dsimp only; 
  repeat' split
  all_goals simp

theorem State.trainingFailed_sound (s : State) (h : s.Sound) : (s.trainingFailed).Sound := by
  unfold State.trainingFailed; try dsimp only
  repeat' split
  all_goals repeat' (first | with_reducible exact h | exact fun _ => rfl | with_reducible apply State.reportEnd_sound | with_reducible apply State.reportRung_sound | with_reducible apply State.beginTraining_sound | with_reducible apply State.updPort_sound | with_reducible apply State.Sound.updEntry | with_reducible apply Sound.addHistory | simp only [State.sound_mk, State.sound_fold])

@[simp] theorem State.rateChangeEntry_frame (s : State) (rung : Nat) (confirmed : Bool) :
    (s.rateChangeEntry rung confirmed).pending = s.pending ∧ (s.rateChangeEntry rung confirmed).power = s.power ∧ (s.rateChangeEntry rung confirmed).calendar = s.calendar ∧ (s.rateChangeEntry rung confirmed).settings = s.settings := by
  unfold State.rateChangeEntry; try dsimp only; 
  repeat' split
  all_goals simp

theorem State.rateChangeEntry_sound (s : State) (rung : Nat) (confirmed : Bool) (h : s.Sound) : (s.rateChangeEntry rung confirmed).Sound := by
  unfold State.rateChangeEntry; try dsimp only
  repeat' split
  all_goals repeat' (first | with_reducible exact h | exact fun _ => rfl | with_reducible apply State.stopT2_sound | with_reducible apply State.stopT4_sound | with_reducible apply State.raiseHolder_sound | with_reducible apply State.reportPhase_sound | with_reducible apply State.linkPause_sound | with_reducible apply State.updPort_sound | with_reducible apply State.Sound.updEntry | with_reducible apply Sound.addHistory | simp only [State.sound_mk, State.sound_fold])

@[simp] theorem State.retrainEntry_frame (s : State) (fromFarEnd : Bool) :
    (s.retrainEntry fromFarEnd).pending = s.pending ∧ (s.retrainEntry fromFarEnd).power = s.power ∧ (s.retrainEntry fromFarEnd).calendar = s.calendar ∧ (s.retrainEntry fromFarEnd).settings = s.settings := by
  unfold State.retrainEntry; try dsimp only; 
  repeat' split
  all_goals simp

theorem State.retrainEntry_sound (s : State) (fromFarEnd : Bool) (h : s.Sound) : (s.retrainEntry fromFarEnd).Sound := by
  unfold State.retrainEntry; try dsimp only
  repeat' split
  all_goals repeat' (first | with_reducible exact h | exact fun _ => rfl | with_reducible apply State.stopT2_sound | with_reducible apply State.loadT4_sound | with_reducible apply State.raiseHolder_sound | with_reducible apply State.reportEnd_sound | with_reducible apply State.reportPhase_sound | with_reducible apply State.linkPause_sound | with_reducible apply State.beginTraining_sound | with_reducible apply State.updPort_sound | with_reducible apply State.Sound.updEntry | with_reducible apply Sound.addHistory | simp only [State.sound_mk, State.sound_fold])

@[simp] theorem State.cleardown_frame (s : State) :
    (s.cleardown).pending = s.pending ∧ (s.cleardown).power = s.power ∧ (s.cleardown).calendar = s.calendar ∧ (s.cleardown).settings = s.settings := by
  unfold State.cleardown; try dsimp only; 
  repeat' split
  all_goals simp

theorem State.cleardown_sound (s : State) (h : s.Sound) : (s.cleardown).Sound := by
  unfold State.cleardown; try dsimp only
  repeat' split
  all_goals repeat' (first | with_reducible exact h | exact fun _ => rfl | with_reducible apply State.stopT2_sound | with_reducible apply State.stopT4_sound | with_reducible apply State.updPort_sound | with_reducible apply State.Sound.updEntry | with_reducible apply Sound.addHistory | simp only [State.sound_mk, State.sound_fold])

@[simp] theorem State.rateDecision_frame (s : State) (r : WindowReport) :
    (s.rateDecision r).pending = s.pending ∧ (s.rateDecision r).power = s.power ∧ (s.rateDecision r).calendar = s.calendar ∧ (s.rateDecision r).settings = s.settings := by
  unfold State.rateDecision; try dsimp only; 
  repeat' split
  all_goals simp

theorem State.rateDecision_sound (s : State) (r : WindowReport) (h : s.Sound) : (s.rateDecision r).Sound := by
  unfold State.rateDecision; try dsimp only
  repeat' split
  all_goals repeat' (first | with_reducible exact h | exact fun _ => rfl | with_reducible apply State.rateChangeEntry_sound | with_reducible apply State.retrainEntry_sound | with_reducible apply State.updPort_sound | with_reducible apply State.Sound.updEntry | with_reducible apply Sound.addHistory | simp only [State.sound_mk, State.sound_fold])

@[simp] theorem State.faxWindow_frame (s : State) (r : WindowReport) :
    (s.faxWindow r).pending = s.pending ∧ (s.faxWindow r).power = s.power ∧ (s.faxWindow r).calendar = s.calendar ∧ (s.faxWindow r).settings = s.settings := by
  unfold State.faxWindow; try dsimp only; 
  repeat' split
  all_goals simp

theorem State.faxWindow_sound (s : State) (r : WindowReport) (h : s.Sound) : (s.faxWindow r).Sound := by
  unfold State.faxWindow; try dsimp only
  repeat' split
  all_goals repeat' (first | with_reducible exact h | exact fun _ => rfl | with_reducible apply State.updPort_sound | with_reducible apply State.Sound.updEntry | with_reducible apply Sound.addHistory | simp only [State.sound_mk, State.sound_fold])

@[simp] theorem State.reportQuality_frame (s : State) (q : Nat) :
    (s.reportQuality q).pending = s.pending ∧ (s.reportQuality q).power = s.power ∧ (s.reportQuality q).calendar = s.calendar ∧ (s.reportQuality q).settings = s.settings := by
  unfold State.reportQuality; try dsimp only; 
  repeat' split
  all_goals simp

theorem State.reportQuality_sound (s : State) (q : Nat) (h : s.Sound) : (s.reportQuality q).Sound := by
  unfold State.reportQuality; try dsimp only
  repeat' split
  all_goals repeat' (first | with_reducible exact h | exact fun _ => rfl | with_reducible apply State.updPort_sound | with_reducible apply State.Sound.updEntry | with_reducible apply Sound.addHistory | simp only [State.sound_mk, State.sound_fold])

@[simp] theorem State.takeReport_frame (s : State) (r : WindowReport) :
    (s.takeReport r).pending = s.pending ∧ (s.takeReport r).power = s.power ∧ (s.takeReport r).calendar = s.calendar ∧ (s.takeReport r).settings = s.settings := by
  unfold State.takeReport; try dsimp only; 
  repeat' split
  all_goals simp

theorem State.takeReport_sound (s : State) (r : WindowReport) (h : s.Sound) : (s.takeReport r).Sound := by
  unfold State.takeReport; try dsimp only
  repeat' split
  all_goals repeat' (first | with_reducible exact h | exact fun _ => rfl | with_reducible apply State.raiseHolder_sound | with_reducible apply State.rateDecision_sound | with_reducible apply State.faxWindow_sound | with_reducible apply State.reportQuality_sound | with_reducible apply State.updPort_sound | with_reducible apply State.Sound.updEntry | with_reducible apply Sound.addHistory | simp only [State.sound_mk, State.sound_fold])

@[simp] theorem State.loadReq_frame (s : State) :
    (s.loadReq).pending = s.pending ∧ (s.loadReq).power = s.power ∧ (s.loadReq).calendar = s.calendar ∧ (s.loadReq).settings = s.settings := by
  unfold State.loadReq; try dsimp only
  repeat' split
  all_goals simp

theorem State.loadReq_sound (s : State) (h : s.Sound) : (s.loadReq).Sound := by
  unfold State.loadReq; try dsimp only
  repeat' split
  all_goals repeat' (first | with_reducible exact h | with_reducible apply State.loadT3_sound | simp only [State.sound_mk, State.sound_fold])

@[simp] theorem State.resendWindow_frame (s : State) :
    (s.resendWindow).pending = s.pending ∧ (s.resendWindow).power = s.power ∧ (s.resendWindow).calendar = s.calendar ∧ (s.resendWindow).settings = s.settings := by
  unfold State.resendWindow; try dsimp only
  repeat' split
  all_goals simp

theorem State.resendWindow_sound (s : State) (h : s.Sound) : (s.resendWindow).Sound := by
  unfold State.resendWindow; try dsimp only
  repeat' split
  all_goals repeat' (first | with_reducible exact h | with_reducible apply State.loadT3_sound | simp only [State.sound_mk, State.sound_fold])

@[simp] theorem State.formFrame_frame (s : State) :
    (s.formFrame).pending = s.pending ∧ (s.formFrame).power = s.power ∧ (s.formFrame).calendar = s.calendar ∧ (s.formFrame).settings = s.settings := by
  unfold State.formFrame; try dsimp only; 
  repeat' split
  all_goals simp

theorem State.formFrame_sound (s : State) (h : s.Sound) : (s.formFrame).Sound := by
  unfold State.formFrame; try dsimp only
  repeat' split
  all_goals repeat' (first | with_reducible exact h | exact fun _ => rfl | with_reducible apply State.loadT3_sound | with_reducible apply State.judgeCts_sound | with_reducible apply State.updPort_sound | with_reducible apply State.Sound.updEntry | with_reducible apply Sound.addHistory | simp only [State.sound_mk, State.sound_fold])

@[simp] theorem State.sendLinked_frame (s : State) :
    (s.sendLinked).pending = s.pending ∧ (s.sendLinked).power = s.power ∧ (s.sendLinked).calendar = s.calendar ∧ (s.sendLinked).settings = s.settings := by
  unfold State.sendLinked; try dsimp only; 
  repeat' split
  all_goals simp

theorem State.sendLinked_sound (s : State) (h : s.Sound) : (s.sendLinked).Sound := by
  unfold State.sendLinked; try dsimp only
  repeat' split
  all_goals repeat' (first | with_reducible exact h | exact fun _ => rfl | with_reducible apply State.formFrame_sound | with_reducible apply State.updPort_sound | with_reducible apply State.Sound.updEntry | with_reducible apply Sound.addHistory | simp only [State.sound_mk, State.sound_fold])

@[simp] theorem State.sendDirect_frame (s : State) :
    (s.sendDirect).pending = s.pending ∧ (s.sendDirect).power = s.power ∧ (s.sendDirect).calendar = s.calendar ∧ (s.sendDirect).settings = s.settings := by
  unfold State.sendDirect; try dsimp only; 
  repeat' split
  all_goals simp

theorem State.sendDirect_sound (s : State) (h : s.Sound) : (s.sendDirect).Sound := by
  unfold State.sendDirect; try dsimp only
  repeat' split
  all_goals repeat' (first | with_reducible exact h | exact fun _ => rfl | with_reducible apply State.judgeCts_sound | with_reducible apply State.updPort_sound | with_reducible apply State.Sound.updEntry | with_reducible apply Sound.addHistory | simp only [State.sound_mk, State.sound_fold])

@[simp] theorem State.faxTo_frame (s : State) (p : FaxPhase) :
    (s.faxTo p).pending = s.pending ∧ (s.faxTo p).power = s.power ∧ (s.faxTo p).calendar = s.calendar ∧ (s.faxTo p).settings = s.settings := by
  unfold State.faxTo; try dsimp only; 
  repeat' split
  all_goals simp

theorem State.faxTo_sound (s : State) (p : FaxPhase) (h : s.Sound) : (s.faxTo p).Sound := by
  unfold State.faxTo; try dsimp only
  repeat' split
  all_goals repeat' (first | with_reducible exact h | exact fun _ => rfl | with_reducible apply State.reportPhase_sound | with_reducible apply State.updPort_sound | with_reducible apply State.Sound.updEntry | with_reducible apply Sound.addHistory | simp only [State.sound_mk, State.sound_fold])

@[simp] theorem State.faxWait_frame (s : State) :
    (s.faxWait).pending = s.pending ∧ (s.faxWait).power = s.power ∧ (s.faxWait).calendar = s.calendar ∧ (s.faxWait).settings = s.settings := by
  unfold State.faxWait; try dsimp only; 
  repeat' split
  all_goals simp

theorem State.faxWait_sound (s : State) (h : s.Sound) : (s.faxWait).Sound := by
  unfold State.faxWait; try dsimp only
  repeat' split
  all_goals repeat' (first | with_reducible exact h | exact fun _ => rfl | with_reducible apply State.loadT2_sound | with_reducible apply State.updPort_sound | with_reducible apply State.Sound.updEntry | with_reducible apply Sound.addHistory | simp only [State.sound_mk, State.sound_fold])

@[simp] theorem State.faxFrame_frame (s : State) (f : FaxFrame) :
    (s.faxFrame f).pending = s.pending ∧ (s.faxFrame f).power = s.power ∧ (s.faxFrame f).calendar = s.calendar ∧ (s.faxFrame f).settings = s.settings := by
  unfold State.faxFrame; try dsimp only; 
  repeat' split
  all_goals simp

theorem State.faxFrame_sound (s : State) (f : FaxFrame) (h : s.Sound) : (s.faxFrame f).Sound := by
  unfold State.faxFrame; try dsimp only
  repeat' split
  all_goals repeat' (first | with_reducible exact h | exact fun _ => rfl | with_reducible apply State.updPort_sound | with_reducible apply State.Sound.updEntry | with_reducible apply Sound.addHistory | simp only [State.sound_mk, State.sound_fold])

@[simp] theorem State.faxSend_frame (s : State) (f : FaxFrame) (x : FaxExpect) :
    (s.faxSend f x).pending = s.pending ∧ (s.faxSend f x).power = s.power ∧ (s.faxSend f x).calendar = s.calendar ∧ (s.faxSend f x).settings = s.settings := by
  unfold State.faxSend; try dsimp only; 
  repeat' split
  all_goals simp

theorem State.faxSend_sound (s : State) (f : FaxFrame) (x : FaxExpect) (h : s.Sound) : (s.faxSend f x).Sound := by
  unfold State.faxSend; try dsimp only
  repeat' split
  all_goals repeat' (first | with_reducible exact h | exact fun _ => rfl | with_reducible apply State.faxWait_sound | with_reducible apply State.faxFrame_sound | with_reducible apply State.updPort_sound | with_reducible apply State.Sound.updEntry | with_reducible apply Sound.addHistory | simp only [State.sound_mk, State.sound_fold])

@[simp] theorem State.faxAnswered_frame (s : State) :
    (s.faxAnswered).pending = s.pending ∧ (s.faxAnswered).power = s.power ∧ (s.faxAnswered).calendar = s.calendar ∧ (s.faxAnswered).settings = s.settings := by
  unfold State.faxAnswered; try dsimp only; 
  repeat' split
  all_goals simp

theorem State.faxAnswered_sound (s : State) (h : s.Sound) : (s.faxAnswered).Sound := by
  unfold State.faxAnswered; try dsimp only
  repeat' split
  all_goals repeat' (first | with_reducible exact h | exact fun _ => rfl | with_reducible apply State.stopT2_sound | with_reducible apply State.updPort_sound | with_reducible apply State.Sound.updEntry | with_reducible apply Sound.addHistory | simp only [State.sound_mk, State.sound_fold])

@[simp] theorem State.faxResend_frame (s : State) :
    (s.faxResend).pending = s.pending ∧ (s.faxResend).power = s.power ∧ (s.faxResend).calendar = s.calendar ∧ (s.faxResend).settings = s.settings := by
  unfold State.faxResend; try dsimp only; 
  repeat' split
  all_goals simp

theorem State.faxResend_sound (s : State) (h : s.Sound) : (s.faxResend).Sound := by
  unfold State.faxResend; try dsimp only
  repeat' split
  all_goals repeat' (first | with_reducible exact h | exact fun _ => rfl | with_reducible apply State.updPort_sound | with_reducible apply State.Sound.updEntry | with_reducible apply Sound.addHistory | simp only [State.sound_mk, State.sound_fold])

@[simp] theorem State.faxRung_frame (s : State) (rung : Nat) :
    (s.faxRung rung).pending = s.pending ∧ (s.faxRung rung).power = s.power ∧ (s.faxRung rung).calendar = s.calendar ∧ (s.faxRung rung).settings = s.settings := by
  unfold State.faxRung; try dsimp only
  simp

theorem State.faxRung_sound (s : State) (rung : Nat) (h : s.Sound) : (s.faxRung rung).Sound := by
  unfold State.faxRung
  exact State.reportRung_sound _ _ h

@[simp] theorem State.sendSet_frame (s : State) :
    (s.sendSet).pending = s.pending ∧ (s.sendSet).power = s.power ∧ (s.sendSet).calendar = s.calendar ∧ (s.sendSet).settings = s.settings := by
  unfold State.sendSet; try dsimp only; 
  repeat' split
  all_goals simp

theorem State.sendSet_sound (s : State) (h : s.Sound) : (s.sendSet).Sound := by
  unfold State.sendSet; try dsimp only
  repeat' split
  all_goals repeat' (first | with_reducible exact h | exact fun _ => rfl | with_reducible apply State.faxRung_sound | with_reducible apply State.faxSend_sound | with_reducible apply State.updPort_sound | with_reducible apply State.Sound.updEntry | with_reducible apply Sound.addHistory | simp only [State.sound_mk, State.sound_fold])

@[simp] theorem State.faxSendCaps_frame (s : State) :
    (s.faxSendCaps).pending = s.pending ∧ (s.faxSendCaps).power = s.power ∧ (s.faxSendCaps).calendar = s.calendar ∧ (s.faxSendCaps).settings = s.settings := by
  unfold State.faxSendCaps; try dsimp only; 
  repeat' split
  all_goals simp

theorem State.faxSendCaps_sound (s : State) (h : s.Sound) : (s.faxSendCaps).Sound := by
  unfold State.faxSendCaps; try dsimp only
  repeat' split
  all_goals repeat' (first | with_reducible exact h | exact fun _ => rfl | with_reducible apply State.reportEnd_sound | with_reducible apply State.faxSend_sound | with_reducible apply State.updPort_sound | with_reducible apply State.Sound.updEntry | with_reducible apply Sound.addHistory | simp only [State.sound_mk, State.sound_fold])

@[simp] theorem State.faxStartReceiver_frame (s : State) :
    (s.faxStartReceiver).pending = s.pending ∧ (s.faxStartReceiver).power = s.power ∧ (s.faxStartReceiver).calendar = s.calendar ∧ (s.faxStartReceiver).settings = s.settings := by
  have hc := State.create_frame s .faxIn none true
  unfold State.faxStartReceiver
  split
  · split <;> rename_i he <;> rw [he] at hc <;> simpa using hc
  · simp

theorem State.faxStartReceiver_sound (s : State) (h : s.Sound) : (s.faxStartReceiver).Sound := by
  have hc := State.create_sound s .faxIn none true h
  unfold State.faxStartReceiver
  split
  · split <;> rename_i he <;> rw [he] at hc
    · exact State.reportEnd_sound _ _ hc
    · exact State.faxSendCaps_sound _ hc
  · exact State.faxSendCaps_sound _ h

@[simp] theorem State.faxStartSender_frame (s : State) :
    (s.faxStartSender).pending = s.pending ∧ (s.faxStartSender).power = s.power ∧ (s.faxStartSender).calendar = s.calendar ∧ (s.faxStartSender).settings = s.settings := by
  unfold State.faxStartSender; try dsimp only; 
  repeat' split
  all_goals simp

theorem State.faxStartSender_sound (s : State) (h : s.Sound) : (s.faxStartSender).Sound := by
  unfold State.faxStartSender; try dsimp only
  repeat' split
  all_goals repeat' (first | with_reducible exact h | exact fun _ => rfl | with_reducible apply State.reportEnd_sound | with_reducible apply State.faxWait_sound | with_reducible apply State.updPort_sound | with_reducible apply State.Sound.updEntry | with_reducible apply Sound.addHistory | simp only [State.sound_mk, State.sound_fold])

@[simp] theorem State.faxStart_frame (s : State) :
    (s.faxStart).pending = s.pending ∧ (s.faxStart).power = s.power ∧ (s.faxStart).calendar = s.calendar ∧ (s.faxStart).settings = s.settings := by
  unfold State.faxStart; try dsimp only; 
  repeat' split
  all_goals simp

theorem State.faxStart_sound (s : State) (h : s.Sound) : (s.faxStart).Sound := by
  unfold State.faxStart; try dsimp only
  repeat' split
  all_goals repeat' (first | with_reducible exact h | exact fun _ => rfl | with_reducible apply State.faxTo_sound | with_reducible apply State.faxStartReceiver_sound | with_reducible apply State.faxStartSender_sound | with_reducible apply State.updPort_sound | with_reducible apply State.Sound.updEntry | with_reducible apply Sound.addHistory | simp only [State.sound_mk, State.sound_fold])

@[simp] theorem State.connectCall_frame (s : State) :
    (s.connectCall).pending = s.pending ∧ (s.connectCall).power = s.power ∧ (s.connectCall).calendar = s.calendar ∧ (s.connectCall).settings = s.settings := by
  unfold State.connectCall; try dsimp only; 
  repeat' split
  all_goals simp

theorem State.connectCall_sound (s : State) (h : s.Sound) : (s.connectCall).Sound := by
  unfold State.connectCall; try dsimp only
  repeat' split
  all_goals repeat' (first | with_reducible exact h | exact fun _ => rfl | with_reducible apply State.stopT2_sound | with_reducible apply State.lineTo_sound | with_reducible apply State.pumpStart_sound | with_reducible apply State.faxStart_sound | with_reducible apply State.updPort_sound | with_reducible apply State.Sound.updEntry | with_reducible apply Sound.addHistory | simp only [State.sound_mk, State.sound_fold])

@[simp] theorem State.faxHear_frame (s : State) :
    (s.faxHear).pending = s.pending ∧ (s.faxHear).power = s.power ∧ (s.faxHear).calendar = s.calendar ∧ (s.faxHear).settings = s.settings := by
  unfold State.faxHear; try dsimp only; 
  repeat' split
  all_goals simp

theorem State.faxHear_sound (s : State) (h : s.Sound) : (s.faxHear).Sound := by
  unfold State.faxHear; try dsimp only
  repeat' split
  all_goals repeat' (first | with_reducible exact h | exact fun _ => rfl | with_reducible apply State.connectCall_sound | with_reducible apply State.updPort_sound | with_reducible apply State.Sound.updEntry | with_reducible apply Sound.addHistory | simp only [State.sound_mk, State.sound_fold])

@[simp] theorem State.faxPortPage_frame (s : State) :
    (s.faxPortPage).pending = s.pending ∧ (s.faxPortPage).power = s.power ∧ (s.faxPortPage).calendar = s.calendar ∧ (s.faxPortPage).settings = s.settings := by
  unfold State.faxPortPage; try dsimp only; 
  repeat' split
  all_goals simp

theorem State.faxPortPage_sound (s : State) (h : s.Sound) : (s.faxPortPage).Sound := by
  unfold State.faxPortPage; try dsimp only
  repeat' split
  all_goals repeat' (first | with_reducible exact h | exact fun _ => rfl | with_reducible apply State.requestData_sound | with_reducible apply State.updPort_sound | with_reducible apply State.Sound.updEntry | with_reducible apply Sound.addHistory | simp only [State.sound_mk, State.sound_fold])

@[simp] theorem State.faxReceivePage_frame (s : State) :
    (s.faxReceivePage).pending = s.pending ∧ (s.faxReceivePage).power = s.power ∧ (s.faxReceivePage).calendar = s.calendar ∧ (s.faxReceivePage).settings = s.settings := by
  unfold State.faxReceivePage; try dsimp only; 
  repeat' split
  all_goals simp

theorem State.faxReceivePage_sound (s : State) (h : s.Sound) : (s.faxReceivePage).Sound := by
  unfold State.faxReceivePage; try dsimp only
  repeat' split
  all_goals repeat' (first | with_reducible exact h | exact fun _ => rfl | with_reducible apply State.faxTo_sound | with_reducible apply State.faxPortPage_sound | with_reducible apply State.updPort_sound | with_reducible apply State.Sound.updEntry | with_reducible apply Sound.addHistory | simp only [State.sound_mk, State.sound_fold])

@[simp] theorem State.faxTrimPage_frame (s : State) :
    (s.faxTrimPage).pending = s.pending ∧ (s.faxTrimPage).power = s.power ∧ (s.faxTrimPage).calendar = s.calendar ∧ (s.faxTrimPage).settings = s.settings := by
  unfold State.faxTrimPage; try dsimp only; 
  repeat' split
  all_goals simp

theorem State.faxTrimPage_sound (s : State) (h : s.Sound) : (s.faxTrimPage).Sound := by
  unfold State.faxTrimPage; try dsimp only
  repeat' split
  all_goals repeat' (first | with_reducible exact h | exact fun _ => rfl | with_reducible apply State.trim_sound | with_reducible apply State.updPort_sound | with_reducible apply State.Sound.updEntry | with_reducible apply Sound.addHistory | simp only [State.sound_mk, State.sound_fold])

@[simp] theorem State.faxEnterPage_frame (s : State) :
    (s.faxEnterPage).pending = s.pending ∧ (s.faxEnterPage).power = s.power ∧ (s.faxEnterPage).calendar = s.calendar ∧ (s.faxEnterPage).settings = s.settings := by
  unfold State.faxEnterPage; try dsimp only; 
  repeat' split
  all_goals simp

theorem State.faxEnterPage_sound (s : State) (h : s.Sound) : (s.faxEnterPage).Sound := by
  unfold State.faxEnterPage; try dsimp only
  repeat' split
  all_goals repeat' (first | with_reducible exact h | exact fun _ => rfl | with_reducible apply State.updPort_sound | with_reducible apply State.Sound.updEntry | with_reducible apply Sound.addHistory | simp only [State.sound_mk, State.sound_fold])

@[simp] theorem State.faxGoodPage_frame (s : State) (more : Bool) :
    (s.faxGoodPage more).pending = s.pending ∧ (s.faxGoodPage more).power = s.power ∧ (s.faxGoodPage more).calendar = s.calendar ∧ (s.faxGoodPage more).settings = s.settings := by
  unfold State.faxGoodPage; try dsimp only; 
  repeat' split
  all_goals simp

theorem State.faxGoodPage_sound (s : State) (more : Bool) (h : s.Sound) : (s.faxGoodPage more).Sound := by
  unfold State.faxGoodPage; try dsimp only
  repeat' split
  all_goals repeat' (first | with_reducible exact h | exact fun _ => rfl | with_reducible apply refuse_sound | with_reducible apply State.faxTo_sound | with_reducible apply State.faxFrame_sound | with_reducible apply State.faxSend_sound | with_reducible apply State.faxReceivePage_sound | with_reducible apply State.faxEnterPage_sound | with_reducible apply State.updPort_sound | with_reducible apply State.Sound.updEntry | with_reducible apply Sound.addHistory | simp only [State.sound_mk, State.sound_fold])

@[simp] theorem State.faxBadPage_frame (s : State) :
    (s.faxBadPage).pending = s.pending ∧ (s.faxBadPage).power = s.power ∧ (s.faxBadPage).calendar = s.calendar ∧ (s.faxBadPage).settings = s.settings := by
  unfold State.faxBadPage; try dsimp only; 
  repeat' split
  all_goals simp

theorem State.faxBadPage_sound (s : State) (h : s.Sound) : (s.faxBadPage).Sound := by
  unfold State.faxBadPage; try dsimp only
  repeat' split
  all_goals repeat' (first | with_reducible exact h | exact fun _ => rfl | with_reducible apply State.faxTo_sound | with_reducible apply State.faxFrame_sound | with_reducible apply State.faxSend_sound | with_reducible apply State.faxTrimPage_sound | with_reducible apply State.updPort_sound | with_reducible apply State.Sound.updEntry | with_reducible apply Sound.addHistory | simp only [State.sound_mk, State.sound_fold])

@[simp] theorem State.faxStoreByte_frame (s : State) (b : Byte) :
    (s.faxStoreByte b).1.pending = s.pending ∧ (s.faxStoreByte b).1.power = s.power ∧ (s.faxStoreByte b).1.calendar = s.calendar ∧ (s.faxStoreByte b).1.settings = s.settings := by
  unfold State.faxStoreByte; try dsimp only; 
  repeat' split
  all_goals simp

theorem State.faxStoreByte_sound (s : State) (b : Byte) (h : s.Sound) : (s.faxStoreByte b).1.Sound := by
  unfold State.faxStoreByte; try dsimp only
  repeat' split
  all_goals repeat' (first | with_reducible exact h | exact fun _ => rfl | with_reducible apply State.appendByte_sound | with_reducible apply State.updPort_sound | with_reducible apply State.Sound.updEntry | with_reducible apply Sound.addHistory | simp only [State.sound_mk, State.sound_fold])

@[simp] theorem State.faxPageEnded_frame (s : State) :
    (s.faxPageEnded).pending = s.pending ∧ (s.faxPageEnded).power = s.power ∧ (s.faxPageEnded).calendar = s.calendar ∧ (s.faxPageEnded).settings = s.settings := by
  unfold State.faxPageEnded; try dsimp only; 
  repeat' split
  all_goals simp

theorem State.faxPageEnded_sound (s : State) (h : s.Sound) : (s.faxPageEnded).Sound := by
  unfold State.faxPageEnded; try dsimp only
  repeat' split
  all_goals repeat' (first | with_reducible exact h | exact fun _ => rfl | with_reducible apply State.faxTo_sound | with_reducible apply State.faxWait_sound | with_reducible apply State.updPort_sound | with_reducible apply State.Sound.updEntry | with_reducible apply Sound.addHistory | simp only [State.sound_mk, State.sound_fold])

@[simp] theorem State.faxFollowMarks_frame (s : State) (b : Byte) :
    (s.faxFollowMarks b).pending = s.pending ∧ (s.faxFollowMarks b).power = s.power ∧ (s.faxFollowMarks b).calendar = s.calendar ∧ (s.faxFollowMarks b).settings = s.settings := by
  unfold State.faxFollowMarks; try dsimp only; 
  repeat' split
  all_goals simp

theorem State.faxFollowMarks_sound (s : State) (b : Byte) (h : s.Sound) : (s.faxFollowMarks b).Sound := by
  unfold State.faxFollowMarks; try dsimp only
  repeat' split
  all_goals repeat' (first | with_reducible exact h | exact fun _ => rfl | with_reducible apply State.loadT2_sound | with_reducible apply State.faxPageEnded_sound | with_reducible apply State.updPort_sound | with_reducible apply State.Sound.updEntry | with_reducible apply Sound.addHistory | simp only [State.sound_mk, State.sound_fold])

@[simp] theorem State.faxBeginPage_frame (s : State) :
    (s.faxBeginPage).pending = s.pending ∧ (s.faxBeginPage).power = s.power ∧ (s.faxBeginPage).calendar = s.calendar ∧ (s.faxBeginPage).settings = s.settings := by
  unfold State.faxBeginPage; try dsimp only; 
  repeat' split
  all_goals simp

theorem State.faxBeginPage_sound (s : State) (h : s.Sound) : (s.faxBeginPage).Sound := by
  unfold State.faxBeginPage; try dsimp only
  repeat' split
  all_goals repeat' (first | with_reducible exact h | exact fun _ => rfl | with_reducible apply State.loadT2_sound | with_reducible apply State.requestData_sound | with_reducible apply State.updPort_sound | with_reducible apply State.Sound.updEntry | with_reducible apply Sound.addHistory | simp only [State.sound_mk, State.sound_fold])

@[simp] theorem State.faxSendPage_frame (s : State) :
    (s.faxSendPage).pending = s.pending ∧ (s.faxSendPage).power = s.power ∧ (s.faxSendPage).calendar = s.calendar ∧ (s.faxSendPage).settings = s.settings := by
  unfold State.faxSendPage; try dsimp only; 
  repeat' split
  all_goals simp

theorem State.faxSendPage_sound (s : State) (h : s.Sound) : (s.faxSendPage).Sound := by
  unfold State.faxSendPage; try dsimp only
  repeat' split
  all_goals repeat' (first | with_reducible exact h | exact fun _ => rfl | with_reducible apply State.reportEnd_sound | with_reducible apply State.faxTo_sound | with_reducible apply State.faxBeginPage_sound | with_reducible apply State.updPort_sound | with_reducible apply State.Sound.updEntry | with_reducible apply Sound.addHistory | simp only [State.sound_mk, State.sound_fold])

@[simp] theorem State.faxSendPageEnd_frame (s : State) (m : FaxMore) :
    (s.faxSendPageEnd m).pending = s.pending ∧ (s.faxSendPageEnd m).power = s.power ∧ (s.faxSendPageEnd m).calendar = s.calendar ∧ (s.faxSendPageEnd m).settings = s.settings := by
  unfold State.faxSendPageEnd; try dsimp only; 
  repeat' split
  all_goals simp

theorem State.faxSendPageEnd_sound (s : State) (m : FaxMore) (h : s.Sound) : (s.faxSendPageEnd m).Sound := by
  unfold State.faxSendPageEnd; try dsimp only
  repeat' split
  all_goals repeat' (first | with_reducible exact h | exact fun _ => rfl | with_reducible apply State.faxTo_sound | with_reducible apply State.faxSend_sound | with_reducible apply State.updPort_sound | with_reducible apply State.Sound.updEntry | with_reducible apply Sound.addHistory | simp only [State.sound_mk, State.sound_fold])

@[simp] theorem State.faxMarkSent_frame (s : State) :
    (s.faxMarkSent).pending = s.pending ∧ (s.faxMarkSent).power = s.power ∧ (s.faxMarkSent).calendar = s.calendar ∧ (s.faxMarkSent).settings = s.settings := by
  unfold State.faxMarkSent; try dsimp only; 
  repeat' split
  all_goals simp

theorem State.faxMarkSent_sound (s : State) (h : s.Sound) : (s.faxMarkSent).Sound := by
  unfold State.faxMarkSent; try dsimp only
  repeat' split
  all_goals repeat' (first | with_reducible exact h | exact fun _ => rfl | with_reducible apply State.loadT2_sound | with_reducible apply State.faxSendPageEnd_sound | with_reducible apply State.updPort_sound | with_reducible apply State.Sound.updEntry | with_reducible apply Sound.addHistory | simp only [State.sound_mk, State.sound_fold])

@[simp] theorem State.faxTakeByte_frame (s : State) (b : Byte) :
    (s.faxTakeByte b).pending = s.pending ∧ (s.faxTakeByte b).power = s.power ∧ (s.faxTakeByte b).calendar = s.calendar ∧ (s.faxTakeByte b).settings = s.settings := by
  unfold State.faxTakeByte; try dsimp only; 
  repeat' split
  all_goals simp

theorem State.faxTakeByte_sound (s : State) (b : Byte) (h : s.Sound) : (s.faxTakeByte b).Sound := by
  unfold State.faxTakeByte; try dsimp only
  repeat' split
  all_goals repeat' (first | with_reducible exact h | exact fun _ => rfl | with_reducible apply State.judgeCts_sound | with_reducible apply State.updPort_sound | with_reducible apply State.Sound.updEntry | with_reducible apply Sound.addHistory | simp only [State.sound_mk, State.sound_fold])

@[simp] theorem State.faxLineSent_frame (s : State) :
    (s.faxLineSent).pending = s.pending ∧ (s.faxLineSent).power = s.power ∧ (s.faxLineSent).calendar = s.calendar ∧ (s.faxLineSent).settings = s.settings := by
  unfold State.faxLineSent; try dsimp only; 
  repeat' split
  all_goals simp

theorem State.faxLineSent_sound (s : State) (h : s.Sound) : (s.faxLineSent).Sound := by
  unfold State.faxLineSent; try dsimp only
  repeat' split
  all_goals repeat' (first | with_reducible exact h | exact fun _ => rfl | with_reducible apply State.loadT2_sound | with_reducible apply State.updPort_sound | with_reducible apply State.Sound.updEntry | with_reducible apply Sound.addHistory | simp only [State.sound_mk, State.sound_fold])

@[simp] theorem State.faxSendSecond_frame (s : State) (b : Byte) :
    (s.faxSendSecond b).pending = s.pending ∧ (s.faxSendSecond b).power = s.power ∧ (s.faxSendSecond b).calendar = s.calendar ∧ (s.faxSendSecond b).settings = s.settings := by
  unfold State.faxSendSecond; try dsimp only; 
  repeat' split
  all_goals simp

theorem State.faxSendSecond_sound (s : State) (b : Byte) (h : s.Sound) : (s.faxSendSecond b).Sound := by
  unfold State.faxSendSecond; try dsimp only
  repeat' split
  all_goals repeat' (first | with_reducible exact h | exact fun _ => rfl | with_reducible apply State.faxMarkSent_sound | with_reducible apply State.faxTakeByte_sound | with_reducible apply State.faxLineSent_sound | with_reducible apply State.updPort_sound | with_reducible apply State.Sound.updEntry | with_reducible apply Sound.addHistory | simp only [State.sound_mk, State.sound_fold])

@[simp] theorem State.faxSendFirst_frame (s : State) (b : Byte) (next : Option Byte) :
    (s.faxSendFirst b next).pending = s.pending ∧ (s.faxSendFirst b next).power = s.power ∧ (s.faxSendFirst b next).calendar = s.calendar ∧ (s.faxSendFirst b next).settings = s.settings := by
  unfold State.faxSendFirst; try dsimp only; 
  repeat' split
  all_goals simp

theorem State.faxSendFirst_sound (s : State) (b : Byte) (next : Option Byte) (h : s.Sound) : (s.faxSendFirst b next).Sound := by
  unfold State.faxSendFirst; try dsimp only
  repeat' split
  all_goals repeat' (first | with_reducible exact h | exact fun _ => rfl | with_reducible apply State.faxTakeByte_sound | with_reducible apply State.updPort_sound | with_reducible apply State.Sound.updEntry | with_reducible apply Sound.addHistory | simp only [State.sound_mk, State.sound_fold])

@[simp] theorem State.faxSendByte_frame (s : State) :
    (s.faxSendByte).pending = s.pending ∧ (s.faxSendByte).power = s.power ∧ (s.faxSendByte).calendar = s.calendar ∧ (s.faxSendByte).settings = s.settings := by
  unfold State.faxSendByte; try dsimp only; 
  repeat' split
  all_goals simp

theorem State.faxSendByte_sound (s : State) (h : s.Sound) : (s.faxSendByte).Sound := by
  unfold State.faxSendByte; try dsimp only
  repeat' split
  all_goals repeat' (first | with_reducible exact h | exact fun _ => rfl | with_reducible apply State.faxMarkSent_sound | with_reducible apply State.faxSendSecond_sound | with_reducible apply State.faxSendFirst_sound | with_reducible apply State.updPort_sound | with_reducible apply State.Sound.updEntry | with_reducible apply Sound.addHistory | simp only [State.sound_mk, State.sound_fold])

@[simp] theorem State.joinOutbound_frame (s : State) (b : Byte) :
    (s.joinOutbound b).1.pending = s.pending ∧ (s.joinOutbound b).1.power = s.power ∧ (s.joinOutbound b).1.calendar = s.calendar ∧ (s.joinOutbound b).1.settings = s.settings := by
  unfold State.joinOutbound; try dsimp only; 
  repeat' split
  all_goals simp

theorem State.joinOutbound_sound (s : State) (b : Byte) (h : s.Sound) : (s.joinOutbound b).1.Sound := by
  unfold State.joinOutbound; try dsimp only
  repeat' split
  all_goals repeat' (first | with_reducible exact h | exact fun _ => rfl | with_reducible apply State.judgeCts_sound | with_reducible apply State.updPort_sound | with_reducible apply State.Sound.updEntry | with_reducible apply Sound.addHistory | simp only [State.sound_mk, State.sound_fold])

@[simp] theorem State.faxPortByte_frame (s : State) (b : Byte) :
    (s.faxPortByte b).pending = s.pending ∧ (s.faxPortByte b).power = s.power ∧ (s.faxPortByte b).calendar = s.calendar ∧ (s.faxPortByte b).settings = s.settings := by
  have hc := State.joinOutbound_frame s b
  unfold State.faxPortByte
  dsimp only
  split <;> rename_i he <;> rw [he] at hc
  · split <;> simpa using hc
  · exact hc

theorem State.faxPortByte_sound (s : State) (b : Byte) (h : s.Sound) : (s.faxPortByte b).Sound := by
  have hc := State.joinOutbound_sound s b h
  unfold State.faxPortByte
  dsimp only
  split <;> rename_i he <;> rw [he] at hc
  · split
    · exact State.toCommand_sound _ hc
    · exact hc
  · exact hc

@[simp] theorem State.takeCaps_frame (s : State) (maxRung resolutions scanMs : Byte) :
    (s.takeCaps maxRung resolutions scanMs).pending = s.pending ∧ (s.takeCaps maxRung resolutions scanMs).power = s.power ∧ (s.takeCaps maxRung resolutions scanMs).calendar = s.calendar ∧ (s.takeCaps maxRung resolutions scanMs).settings = s.settings := by
  unfold State.takeCaps; try dsimp only; 
  repeat' split
  all_goals simp

theorem State.takeCaps_sound (s : State) (maxRung resolutions scanMs : Byte) (h : s.Sound) : (s.takeCaps maxRung resolutions scanMs).Sound := by
  unfold State.takeCaps; try dsimp only
  repeat' split
  all_goals repeat' (first | with_reducible exact h | exact fun _ => rfl | with_reducible apply State.reportEnd_sound | with_reducible apply State.faxTo_sound | with_reducible apply State.faxAnswered_sound | with_reducible apply State.sendSet_sound | with_reducible apply State.updPort_sound | with_reducible apply State.Sound.updEntry | with_reducible apply Sound.addHistory | simp only [State.sound_mk, State.sound_fold])

@[simp] theorem State.takeSet_frame (s : State) (rung : Nat) (x : Resolution) (scanMs : Nat) :
    (s.takeSet rung x scanMs).pending = s.pending ∧ (s.takeSet rung x scanMs).power = s.power ∧ (s.takeSet rung x scanMs).calendar = s.calendar ∧ (s.takeSet rung x scanMs).settings = s.settings := by
  unfold State.takeSet; try dsimp only; 
  repeat' split
  all_goals simp

theorem State.takeSet_sound (s : State) (rung : Nat) (x : Resolution) (scanMs : Nat) (h : s.Sound) : (s.takeSet rung x scanMs).Sound := by
  unfold State.takeSet; try dsimp only
  repeat' split
  all_goals repeat' (first | with_reducible exact h | exact fun _ => rfl | with_reducible apply State.faxRung_sound | with_reducible apply State.faxTo_sound | with_reducible apply State.faxAnswered_sound | with_reducible apply State.updPort_sound | with_reducible apply State.Sound.updEntry | with_reducible apply Sound.addHistory | simp only [State.sound_mk, State.sound_fold])

@[simp] theorem State.checkStepDown_frame (s : State) :
    (s.checkStepDown).pending = s.pending ∧ (s.checkStepDown).power = s.power ∧ (s.checkStepDown).calendar = s.calendar ∧ (s.checkStepDown).settings = s.settings := by
  unfold State.checkStepDown; try dsimp only; 
  repeat' split
  all_goals simp

theorem State.checkStepDown_sound (s : State) (h : s.Sound) : (s.checkStepDown).Sound := by
  unfold State.checkStepDown; try dsimp only
  repeat' split
  all_goals repeat' (first | with_reducible exact h | exact fun _ => rfl | with_reducible apply State.reportEnd_sound | with_reducible apply State.sendSet_sound | with_reducible apply State.updPort_sound | with_reducible apply State.Sound.updEntry | with_reducible apply Sound.addHistory | simp only [State.sound_mk, State.sound_fold])

@[simp] theorem State.faxRepeat_frame (s : State) :
    (s.faxRepeat).pending = s.pending ∧ (s.faxRepeat).power = s.power ∧ (s.faxRepeat).calendar = s.calendar ∧ (s.faxRepeat).settings = s.settings := by
  unfold State.faxRepeat; try dsimp only; 
  repeat' split
  all_goals simp

theorem State.faxRepeat_sound (s : State) (h : s.Sound) : (s.faxRepeat).Sound := by
  unfold State.faxRepeat; try dsimp only
  repeat' split
  all_goals repeat' (first | with_reducible exact h | exact fun _ => rfl | with_reducible apply State.faxResend_sound | with_reducible apply State.updPort_sound | with_reducible apply State.Sound.updEntry | with_reducible apply Sound.addHistory | simp only [State.sound_mk, State.sound_fold])

@[simp] theorem State.judgePage_frame (s : State) (more : Bool) :
    (s.judgePage more).pending = s.pending ∧ (s.judgePage more).power = s.power ∧ (s.judgePage more).calendar = s.calendar ∧ (s.judgePage more).settings = s.settings := by
  unfold State.judgePage; try dsimp only; 
  repeat' split
  all_goals simp

theorem State.judgePage_sound (s : State) (more : Bool) (h : s.Sound) : (s.judgePage more).Sound := by
  unfold State.judgePage; try dsimp only
  repeat' split
  all_goals repeat' (first | with_reducible exact h | exact fun _ => rfl | with_reducible apply State.raiseHolder_sound | with_reducible apply State.faxAnswered_sound | with_reducible apply State.faxGoodPage_sound | with_reducible apply State.faxBadPage_sound | with_reducible apply State.updPort_sound | with_reducible apply State.Sound.updEntry | with_reducible apply Sound.addHistory | simp only [State.sound_mk, State.sound_fold])

@[simp] theorem State.pageAccepted_frame (s : State) :
    (s.pageAccepted).pending = s.pending ∧ (s.pageAccepted).power = s.power ∧ (s.pageAccepted).calendar = s.calendar ∧ (s.pageAccepted).settings = s.settings := by
  unfold State.pageAccepted; try dsimp only; 
  repeat' split
  all_goals simp

theorem State.pageAccepted_sound (s : State) (h : s.Sound) : (s.pageAccepted).Sound := by
  unfold State.pageAccepted; try dsimp only
  repeat' split
  all_goals repeat' (first | with_reducible exact h | exact fun _ => rfl | with_reducible apply State.raiseHolder_sound | with_reducible apply State.faxAnswered_sound | with_reducible apply State.updPort_sound | with_reducible apply State.Sound.updEntry | with_reducible apply Sound.addHistory | simp only [State.sound_mk, State.sound_fold])

@[simp] theorem State.resendPage_frame (s : State) :
    (s.resendPage).pending = s.pending ∧ (s.resendPage).power = s.power ∧ (s.resendPage).calendar = s.calendar ∧ (s.resendPage).settings = s.settings := by
  unfold State.resendPage; try dsimp only; 
  repeat' split
  all_goals simp

theorem State.resendPage_sound (s : State) (h : s.Sound) : (s.resendPage).Sound := by
  unfold State.resendPage; try dsimp only
  repeat' split
  all_goals repeat' (first | with_reducible exact h | exact fun _ => rfl | with_reducible apply State.faxTo_sound | with_reducible apply State.sendSet_sound | with_reducible apply State.updPort_sound | with_reducible apply State.Sound.updEntry | with_reducible apply Sound.addHistory | simp only [State.sound_mk, State.sound_fold])

@[simp] theorem takeFaxNext_frame (p : Port) (choice : Byte) (s : State) :
    (takeFaxNext p choice s).1.pending = s.pending ∧ (takeFaxNext p choice s).1.power = s.power ∧ (takeFaxNext p choice s).1.calendar = s.calendar ∧ (takeFaxNext p choice s).1.settings = s.settings := by
  unfold takeFaxNext; try dsimp only; 
  repeat' split
  all_goals simp

theorem takeFaxNext_sound (p : Port) (choice : Byte) (s : State) (h : s.Sound) : (takeFaxNext p choice s).1.Sound := by
  unfold takeFaxNext; try dsimp only
  repeat' split
  all_goals repeat' (first | with_reducible exact h | exact fun _ => rfl | with_reducible apply State.stopT2_sound | with_reducible apply refuse_sound | with_reducible apply State.faxSendPageEnd_sound | with_reducible apply State.updPort_sound | with_reducible apply State.Sound.updEntry | with_reducible apply Sound.addHistory | simp only [State.sound_mk, State.sound_fold])

@[simp] theorem takeFaxEntry_frame (id : Nat) (s : State) :
    (takeFaxEntry id s).1.pending = s.pending ∧ (takeFaxEntry id s).1.power = s.power ∧ (takeFaxEntry id s).1.calendar = s.calendar ∧ (takeFaxEntry id s).1.settings = s.settings := by
  unfold takeFaxEntry; try dsimp only; 
  repeat' split
  all_goals simp

theorem takeFaxEntry_sound (id : Nat) (s : State) (h : s.Sound) : (takeFaxEntry id s).1.Sound := by
  unfold takeFaxEntry; try dsimp only
  repeat' split
  all_goals repeat' (first | with_reducible exact h | exact fun _ => rfl | with_reducible apply refuse_sound | with_reducible apply State.hold_sound | with_reducible apply State.updPort_sound | with_reducible apply State.Sound.updEntry | with_reducible apply Sound.addHistory | simp only [State.sound_mk, State.sound_fold])

@[simp] theorem takeFaxFromStore_frame (p : Port) (id : Byte) (s : State) :
    (takeFaxFromStore p id s).1.pending = s.pending ∧ (takeFaxFromStore p id s).1.power = s.power ∧ (takeFaxFromStore p id s).1.calendar = s.calendar ∧ (takeFaxFromStore p id s).1.settings = s.settings := by
  unfold takeFaxFromStore; try dsimp only; 
  repeat' split
  all_goals simp

theorem takeFaxFromStore_sound (p : Port) (id : Byte) (s : State) (h : s.Sound) : (takeFaxFromStore p id s).1.Sound := by
  unfold takeFaxFromStore; try dsimp only
  repeat' split
  all_goals repeat' (first | with_reducible exact h | exact fun _ => rfl | with_reducible apply refuse_sound | with_reducible apply takeFaxEntry_sound | with_reducible apply State.updPort_sound | with_reducible apply State.Sound.updEntry | with_reducible apply Sound.addHistory | simp only [State.sound_mk, State.sound_fold])

@[simp] theorem State.settleCapture_frame (s : State) (middle : Bool) :
    (s.settleCapture middle).pending = s.pending ∧ (s.settleCapture middle).power = s.power ∧ (s.settleCapture middle).calendar = s.calendar ∧ (s.settleCapture middle).settings = s.settings := by
  unfold State.settleCapture; try dsimp only; 
  repeat' split
  all_goals simp

theorem State.settleCapture_sound (s : State) (middle : Bool) (h : s.Sound) : (s.settleCapture middle).Sound := by
  unfold State.settleCapture; try dsimp only
  repeat' split
  all_goals repeat' (first | with_reducible exact h | exact fun _ => rfl | with_reducible apply State.raiseBoth_sound | with_reducible apply State.updPort_sound | with_reducible apply State.Sound.updEntry | with_reducible apply Sound.addHistory | simp only [State.sound_mk, State.sound_fold])

@[simp] theorem State.dropCallDetectors_frame (s : State) (digits : Bool) :
    (s.dropCallDetectors digits).pending = s.pending ∧ (s.dropCallDetectors digits).power = s.power ∧ (s.dropCallDetectors digits).calendar = s.calendar ∧ (s.dropCallDetectors digits).settings = s.settings := by
  unfold State.dropCallDetectors; try dsimp only; 
  repeat' split
  all_goals simp

theorem State.dropCallDetectors_sound (s : State) (digits : Bool) (h : s.Sound) : (s.dropCallDetectors digits).Sound := by
  unfold State.dropCallDetectors; try dsimp only
  repeat' split
  all_goals repeat' (first | with_reducible exact h | exact fun _ => rfl | with_reducible apply State.updPort_sound | with_reducible apply State.Sound.updEntry | with_reducible apply Sound.addHistory | simp only [State.sound_mk, State.sound_fold])

@[simp] theorem State.handOver_frame (s : State) (holder : Party) (job : Job) :
    (s.handOver holder job).pending = s.pending ∧ (s.handOver holder job).power = s.power ∧ (s.handOver holder job).calendar = s.calendar ∧ (s.handOver holder job).settings = s.settings := by
  unfold State.handOver; try dsimp only; 
  repeat' split
  all_goals simp

theorem State.handOver_sound (s : State) (holder : Party) (job : Job) (h : s.Sound) : (s.handOver holder job).Sound := by
  unfold State.handOver; try dsimp only
  repeat' split
  all_goals repeat' (first | with_reducible exact h | exact fun _ => rfl | with_reducible apply State.raiseBoth_sound | with_reducible apply State.dropAuto_sound | with_reducible apply State.dropCallDetectors_sound | with_reducible apply State.updPort_sound | with_reducible apply State.Sound.updEntry | with_reducible apply Sound.addHistory | simp only [State.sound_mk, State.sound_fold])

@[simp] theorem State.faxHandOver_frame (s : State) (holder : Party) :
    (s.faxHandOver holder).pending = s.pending ∧ (s.faxHandOver holder).power = s.power ∧ (s.faxHandOver holder).calendar = s.calendar ∧ (s.faxHandOver holder).settings = s.settings := by
  unfold State.faxHandOver; try dsimp only; 
  repeat' split
  all_goals simp

theorem State.faxHandOver_sound (s : State) (holder : Party) (h : s.Sound) : (s.faxHandOver holder).Sound := by
  unfold State.faxHandOver; try dsimp only
  repeat' split
  all_goals repeat' (first | with_reducible exact h | exact fun _ => rfl | with_reducible apply State.faxStart_sound | with_reducible apply State.handOver_sound | with_reducible apply State.updPort_sound | with_reducible apply State.Sound.updEntry | with_reducible apply Sound.addHistory | simp only [State.sound_mk, State.sound_fold])

@[simp] theorem State.faxBranch_frame (s : State) :
    (s.faxBranch).pending = s.pending ∧ (s.faxBranch).power = s.power ∧ (s.faxBranch).calendar = s.calendar ∧ (s.faxBranch).settings = s.settings := by
  unfold State.faxBranch; try dsimp only; 
  repeat' split
  all_goals simp

theorem State.faxBranch_sound (s : State) (h : s.Sound) : (s.faxBranch).Sound := by
  unfold State.faxBranch; try dsimp only
  repeat' split
  all_goals repeat' (first | with_reducible exact h | exact fun _ => rfl | with_reducible apply State.cancelAuto_sound | with_reducible apply State.reportEnd_sound | with_reducible apply State.faxHandOver_sound | with_reducible apply State.updPort_sound | with_reducible apply State.Sound.updEntry | with_reducible apply Sound.addHistory | simp only [State.sound_mk, State.sound_fold])

@[simp] theorem State.dataBranch_frame (s : State) :
    (s.dataBranch).pending = s.pending ∧ (s.dataBranch).power = s.power ∧ (s.dataBranch).calendar = s.calendar ∧ (s.dataBranch).settings = s.settings := by
  unfold State.dataBranch; try dsimp only; 
  repeat' split
  all_goals simp

theorem State.dataBranch_sound (s : State) (h : s.Sound) : (s.dataBranch).Sound := by
  unfold State.dataBranch; try dsimp only
  repeat' split
  all_goals repeat' (first | with_reducible exact h | exact fun _ => rfl | with_reducible apply State.cancelAuto_sound | with_reducible apply State.reportEnd_sound | with_reducible apply State.pumpStart_sound | with_reducible apply State.handOver_sound | with_reducible apply State.updPort_sound | with_reducible apply State.Sound.updEntry | with_reducible apply Sound.addHistory | simp only [State.sound_mk, State.sound_fold])

@[simp] theorem State.discrTo_frame (s : State) (p : DiscrPhase) :
    (s.discrTo p).pending = s.pending ∧ (s.discrTo p).power = s.power ∧ (s.discrTo p).calendar = s.calendar ∧ (s.discrTo p).settings = s.settings := by
  unfold State.discrTo; try dsimp only; 
  repeat' split
  all_goals simp

theorem State.discrTo_sound (s : State) (p : DiscrPhase) (h : s.Sound) : (s.discrTo p).Sound := by
  unfold State.discrTo; try dsimp only
  repeat' split
  all_goals repeat' (first | with_reducible exact h | exact fun _ => rfl | with_reducible apply State.reportPhase_sound | with_reducible apply State.updPort_sound | with_reducible apply State.Sound.updEntry | with_reducible apply Sound.addHistory | simp only [State.sound_mk, State.sound_fold])

@[simp] theorem State.greetingEnd_frame (s : State) :
    (s.greetingEnd).pending = s.pending ∧ (s.greetingEnd).power = s.power ∧ (s.greetingEnd).calendar = s.calendar ∧ (s.greetingEnd).settings = s.settings := by
  unfold State.greetingEnd; try dsimp only; 
  repeat' split
  all_goals simp

theorem State.greetingEnd_sound (s : State) (h : s.Sound) : (s.greetingEnd).Sound := by
  unfold State.greetingEnd; try dsimp only
  repeat' split
  all_goals repeat' (first | with_reducible exact h | exact fun _ => rfl | with_reducible apply State.startBeep_sound | with_reducible apply State.reportEnd_sound | with_reducible apply State.faxBranch_sound | with_reducible apply State.discrTo_sound | with_reducible apply State.updPort_sound | with_reducible apply State.Sound.updEntry | with_reducible apply Sound.addHistory | simp only [State.sound_mk, State.sound_fold])

@[simp] theorem State.startGreeting_frame (s : State) :
    (s.startGreeting).pending = s.pending ∧ (s.startGreeting).power = s.power ∧ (s.startGreeting).calendar = s.calendar ∧ (s.startGreeting).settings = s.settings := by
  unfold State.startGreeting; try dsimp only; 
  repeat' split
  all_goals simp

theorem State.startGreeting_sound (s : State) (h : s.Sound) : (s.startGreeting).Sound := by
  unfold State.startGreeting; try dsimp only
  repeat' split
  all_goals repeat' (first | with_reducible exact h | exact fun _ => rfl | with_reducible apply State.startPlay_sound | with_reducible apply State.autoChannel_sound | with_reducible apply State.preempt_sound | with_reducible apply State.discrTo_sound | with_reducible apply State.greetingEnd_sound | with_reducible apply State.updPort_sound | with_reducible apply State.Sound.updEntry | with_reducible apply Sound.addHistory | simp only [State.sound_mk, State.sound_fold])

@[simp] theorem State.recordingDecision_frame (s : State) (kept : Bool) :
    (s.recordingDecision kept).pending = s.pending ∧ (s.recordingDecision kept).power = s.power ∧ (s.recordingDecision kept).calendar = s.calendar ∧ (s.recordingDecision kept).settings = s.settings := by
  unfold State.recordingDecision; try dsimp only; 
  repeat' split
  all_goals simp

theorem State.recordingDecision_sound (s : State) (kept : Bool) (h : s.Sound) : (s.recordingDecision kept).Sound := by
  unfold State.recordingDecision; try dsimp only
  repeat' split
  all_goals repeat' (first | with_reducible exact h | exact fun _ => rfl | with_reducible apply State.reportEnd_sound | with_reducible apply State.faxBranch_sound | with_reducible apply State.updPort_sound | with_reducible apply State.Sound.updEntry | with_reducible apply Sound.addHistory | simp only [State.sound_mk, State.sound_fold])

@[simp] theorem State.startRecording_frame (s : State) :
    (s.startRecording).pending = s.pending ∧ (s.startRecording).power = s.power ∧ (s.startRecording).calendar = s.calendar ∧ (s.startRecording).settings = s.settings := by
  have hc := State.startRecord_frame (s.discrTo .recording) .auto .voiceMsg none .line true
    s.settings.maxMessageS
  unfold State.startRecording
  split <;> rename_i he <;> rw [he] at hc <;> simpa using hc

theorem State.startRecording_sound (s : State) (h : s.Sound) : (s.startRecording).Sound := by
  have hc := State.startRecord_sound (s.discrTo .recording) .auto .voiceMsg none .line true
    s.settings.maxMessageS (State.discrTo_sound _ _ h)
  unfold State.startRecording
  split <;> rename_i he <;> rw [he] at hc
  · exact hc
  · exact State.recordingDecision_sound _ _ (State.autoChannel_sound _ hc)

@[simp] theorem State.recordingOver_frame (s : State) (r : VoiceReason) :
    (s.recordingOver r).pending = s.pending ∧ (s.recordingOver r).power = s.power ∧ (s.recordingOver r).calendar = s.calendar ∧ (s.recordingOver r).settings = s.settings := by
  unfold State.recordingOver; try dsimp only; 
  repeat' split
  all_goals simp

theorem State.recordingOver_sound (s : State) (r : VoiceReason) (h : s.Sound) : (s.recordingOver r).Sound := by
  unfold State.recordingOver; try dsimp only
  repeat' split
  all_goals repeat' (first | with_reducible exact h | exact fun _ => rfl | with_reducible apply State.endVoice_sound | with_reducible apply State.autoChannel_sound | with_reducible apply State.recordingDecision_sound | with_reducible apply State.updPort_sound | with_reducible apply State.Sound.updEntry | with_reducible apply Sound.addHistory | simp only [State.sound_mk, State.sound_fold])

@[simp] theorem State.remotePrompt_frame (s : State) (r : Remote) :
    (s.remotePrompt r).pending = s.pending ∧ (s.remotePrompt r).power = s.power ∧ (s.remotePrompt r).calendar = s.calendar ∧ (s.remotePrompt r).settings = s.settings := by
  unfold State.remotePrompt; try dsimp only; 
  repeat' split
  all_goals simp

theorem State.remotePrompt_sound (s : State) (r : Remote) (h : s.Sound) : (s.remotePrompt r).Sound := by
  unfold State.remotePrompt; try dsimp only
  repeat' split
  all_goals repeat' (first | with_reducible exact h | exact fun _ => rfl | with_reducible apply State.stopT2_sound | with_reducible apply State.startBeep_sound | with_reducible apply State.updPort_sound | with_reducible apply State.Sound.updEntry | with_reducible apply Sound.addHistory | simp only [State.sound_mk, State.sound_fold])

@[simp] theorem State.remotePlay_frame (s : State) (r : Remote) (i : Nat) :
    (s.remotePlay r i).pending = s.pending ∧ (s.remotePlay r i).power = s.power ∧ (s.remotePlay r i).calendar = s.calendar ∧ (s.remotePlay r i).settings = s.settings := by
  unfold State.remotePlay; try dsimp only; 
  repeat' split
  all_goals simp

theorem State.remotePlay_sound (s : State) (r : Remote) (i : Nat) (h : s.Sound) : (s.remotePlay r i).Sound := by
  unfold State.remotePlay; try dsimp only
  repeat' split
  all_goals repeat' (first | with_reducible exact h | exact fun _ => rfl | with_reducible apply State.stopT2_sound | with_reducible apply State.startPlay_sound | with_reducible apply State.remotePrompt_sound | with_reducible apply State.updPort_sound | with_reducible apply State.Sound.updEntry | with_reducible apply Sound.addHistory | simp only [State.sound_mk, State.sound_fold])

@[simp] theorem State.remoteStart_frame (s : State) :
    (s.remoteStart).pending = s.pending ∧ (s.remoteStart).power = s.power ∧ (s.remoteStart).calendar = s.calendar ∧ (s.remoteStart).settings = s.settings := by
  unfold State.remoteStart; try dsimp only; 
  repeat' split
  all_goals simp

theorem State.remoteStart_sound (s : State) (h : s.Sound) : (s.remoteStart).Sound := by
  unfold State.remoteStart; try dsimp only
  repeat' split
  all_goals repeat' (first | with_reducible exact h | exact fun _ => rfl | with_reducible apply State.remotePrompt_sound | with_reducible apply State.updPort_sound | with_reducible apply State.Sound.updEntry | with_reducible apply Sound.addHistory | simp only [State.sound_mk, State.sound_fold])

@[simp] theorem State.becomeRemote_frame (s : State) :
    (s.becomeRemote).pending = s.pending ∧ (s.becomeRemote).power = s.power ∧ (s.becomeRemote).calendar = s.calendar ∧ (s.becomeRemote).settings = s.settings := by
  unfold State.becomeRemote; try dsimp only; 
  repeat' split
  all_goals simp

theorem State.becomeRemote_sound (s : State) (h : s.Sound) : (s.becomeRemote).Sound := by
  unfold State.becomeRemote; try dsimp only
  repeat' split
  all_goals repeat' (first | with_reducible exact h | exact fun _ => rfl | with_reducible apply State.cancelAuto_sound | with_reducible apply State.reportPhase_sound | with_reducible apply State.dropCallDetectors_sound | with_reducible apply State.remoteStart_sound | with_reducible apply State.updPort_sound | with_reducible apply State.Sound.updEntry | with_reducible apply Sound.addHistory | simp only [State.sound_mk, State.sound_fold])

@[simp] theorem State.codeDigit_frame (s : State) (x : Symbol) :
    (s.codeDigit x).pending = s.pending ∧ (s.codeDigit x).power = s.power ∧ (s.codeDigit x).calendar = s.calendar ∧ (s.codeDigit x).settings = s.settings := by
  unfold State.codeDigit; try dsimp only; 
  repeat' split
  all_goals simp

theorem State.codeDigit_sound (s : State) (x : Symbol) (h : s.Sound) : (s.codeDigit x).Sound := by
  unfold State.codeDigit; try dsimp only
  repeat' split
  all_goals repeat' (first | with_reducible exact h | exact fun _ => rfl | with_reducible apply State.reportEnd_sound | with_reducible apply State.becomeRemote_sound | with_reducible apply State.updPort_sound | with_reducible apply State.Sound.updEntry | with_reducible apply Sound.addHistory | simp only [State.sound_mk, State.sound_fold])

@[simp] theorem State.remoteList_frame (s : State) (r : Remote) (use : ListInUse) (list : List Nat) :
    (s.remoteList r use list).pending = s.pending ∧ (s.remoteList r use list).power = s.power ∧ (s.remoteList r use list).calendar = s.calendar ∧ (s.remoteList r use list).settings = s.settings := by
  unfold State.remoteList; try dsimp only; 
  repeat' split
  all_goals simp

theorem State.remoteList_sound (s : State) (r : Remote) (use : ListInUse) (list : List Nat) (h : s.Sound) : (s.remoteList r use list).Sound := by
  unfold State.remoteList; try dsimp only
  repeat' split
  all_goals repeat' (first | with_reducible exact h | exact fun _ => rfl | with_reducible apply State.cancelAuto_sound | with_reducible apply State.remotePlay_sound | with_reducible apply State.updPort_sound | with_reducible apply State.Sound.updEntry | with_reducible apply Sound.addHistory | simp only [State.sound_mk, State.sound_fold])

@[simp] theorem State.remoteNext_frame (s : State) (r : Remote) :
    (s.remoteNext r).pending = s.pending ∧ (s.remoteNext r).power = s.power ∧ (s.remoteNext r).calendar = s.calendar ∧ (s.remoteNext r).settings = s.settings := by
  unfold State.remoteNext; try dsimp only; 
  repeat' split
  all_goals simp

theorem State.remoteNext_sound (s : State) (r : Remote) (h : s.Sound) : (s.remoteNext r).Sound := by
  unfold State.remoteNext; try dsimp only
  repeat' split
  all_goals repeat' (first | with_reducible exact h | exact fun _ => rfl | with_reducible apply State.cancelAuto_sound | with_reducible apply State.remotePlay_sound | with_reducible apply State.updPort_sound | with_reducible apply State.Sound.updEntry | with_reducible apply Sound.addHistory | simp only [State.sound_mk, State.sound_fold])

@[simp] theorem State.remoteAgain_frame (s : State) (r : Remote) :
    (s.remoteAgain r).pending = s.pending ∧ (s.remoteAgain r).power = s.power ∧ (s.remoteAgain r).calendar = s.calendar ∧ (s.remoteAgain r).settings = s.settings := by
  unfold State.remoteAgain; try dsimp only; 
  repeat' split
  all_goals simp

theorem State.remoteAgain_sound (s : State) (r : Remote) (h : s.Sound) : (s.remoteAgain r).Sound := by
  unfold State.remoteAgain; try dsimp only
  repeat' split
  all_goals repeat' (first | with_reducible exact h | exact fun _ => rfl | with_reducible apply State.updPort_sound | with_reducible apply State.Sound.updEntry | with_reducible apply Sound.addHistory | simp only [State.sound_mk, State.sound_fold])

@[simp] theorem State.remoteDelete_frame (s : State) (r : Remote) :
    (s.remoteDelete r).pending = s.pending ∧ (s.remoteDelete r).power = s.power ∧ (s.remoteDelete r).calendar = s.calendar ∧ (s.remoteDelete r).settings = s.settings := by
  unfold State.remoteDelete; try dsimp only; 
  repeat' split
  all_goals simp

theorem State.remoteDelete_sound (s : State) (r : Remote) (h : s.Sound) : (s.remoteDelete r).Sound := by
  unfold State.remoteDelete; try dsimp only
  repeat' split
  all_goals repeat' (first | with_reducible exact h | exact fun _ => rfl | with_reducible apply State.deleteRule_sound | with_reducible apply State.remoteNext_sound | with_reducible apply State.updPort_sound | with_reducible apply State.Sound.updEntry | with_reducible apply Sound.addHistory | simp only [State.sound_mk, State.sound_fold])

@[simp] theorem State.remoteDigit_frame (s : State) (x : Symbol) :
    (s.remoteDigit x).pending = s.pending ∧ (s.remoteDigit x).power = s.power ∧ (s.remoteDigit x).calendar = s.calendar ∧ (s.remoteDigit x).settings = s.settings := by
  unfold State.remoteDigit; try dsimp only; 
  repeat' split
  all_goals simp

theorem State.remoteDigit_sound (s : State) (x : Symbol) (h : s.Sound) : (s.remoteDigit x).Sound := by
  unfold State.remoteDigit; try dsimp only
  repeat' split
  all_goals repeat' (first | with_reducible exact h | exact fun _ => rfl | with_reducible apply State.reportEnd_sound | with_reducible apply State.remoteList_sound | with_reducible apply State.remoteNext_sound | with_reducible apply State.remoteAgain_sound | with_reducible apply State.remoteDelete_sound | with_reducible apply State.updPort_sound | with_reducible apply State.Sound.updEntry | with_reducible apply Sound.addHistory | simp only [State.sound_mk, State.sound_fold])

@[simp] theorem State.remoteWait_frame (s : State) (r : Remote) :
    (s.remoteWait r).pending = s.pending ∧ (s.remoteWait r).power = s.power ∧ (s.remoteWait r).calendar = s.calendar ∧ (s.remoteWait r).settings = s.settings := by
  unfold State.remoteWait; try dsimp only; 
  repeat' split
  all_goals simp

theorem State.remoteWait_sound (s : State) (r : Remote) (h : s.Sound) : (s.remoteWait r).Sound := by
  unfold State.remoteWait; try dsimp only
  repeat' split
  all_goals repeat' (first | with_reducible exact h | exact fun _ => rfl | with_reducible apply State.loadT2_sound | with_reducible apply State.updPort_sound | with_reducible apply State.Sound.updEntry | with_reducible apply Sound.addHistory | simp only [State.sound_mk, State.sound_fold])

@[simp] theorem State.startJob_frame (s : State) (job : Job) :
    (s.startJob job).pending = s.pending ∧ (s.startJob job).power = s.power ∧ (s.startJob job).calendar = s.calendar ∧ (s.startJob job).settings = s.settings := by
  unfold State.startJob; try dsimp only; 
  repeat' split
  all_goals simp

theorem State.startJob_sound (s : State) (job : Job) (h : s.Sound) : (s.startJob job).Sound := by
  unfold State.startJob; try dsimp only
  repeat' split
  all_goals repeat' (first | with_reducible exact h | exact fun _ => rfl | with_reducible apply State.pumpStart_sound | with_reducible apply State.faxStart_sound | with_reducible apply State.startGreeting_sound | with_reducible apply State.updPort_sound | with_reducible apply State.Sound.updEntry | with_reducible apply Sound.addHistory | simp only [State.sound_mk, State.sound_fold])

@[simp] theorem State.answerTaken_frame (s : State) (holder : Party) (job : Job) :
    (s.answerTaken holder job).pending = s.pending ∧ (s.answerTaken holder job).power = s.power ∧ (s.answerTaken holder job).calendar = s.calendar ∧ (s.answerTaken holder job).settings = s.settings := by
  unfold State.answerTaken; try dsimp only; 
  repeat' split
  all_goals simp

theorem State.answerTaken_sound (s : State) (holder : Party) (job : Job) (h : s.Sound) : (s.answerTaken holder job).Sound := by
  unfold State.answerTaken; try dsimp only
  repeat' split
  all_goals repeat' (first | with_reducible exact h | exact fun _ => rfl | with_reducible apply State.closeRelay_sound | with_reducible apply State.lineTo_sound | with_reducible apply State.activate_sound | with_reducible apply State.settleCapture_sound | with_reducible apply State.startJob_sound | with_reducible apply State.updPort_sound | with_reducible apply State.Sound.updEntry | with_reducible apply Sound.addHistory | simp only [State.sound_mk, State.sound_fold])

@[simp] theorem State.playToEnd_frame (s : State) :
    (s.playToEnd).pending = s.pending ∧ (s.playToEnd).power = s.power ∧ (s.playToEnd).calendar = s.calendar ∧ (s.playToEnd).settings = s.settings := by
  unfold State.playToEnd; try dsimp only; 
  repeat' split
  all_goals simp

theorem State.playToEnd_sound (s : State) (h : s.Sound) : (s.playToEnd).Sound := by
  unfold State.playToEnd; try dsimp only
  repeat' split
  all_goals repeat' (first | with_reducible exact h | exact fun _ => rfl | with_reducible apply State.clearNew_sound | with_reducible apply State.updPort_sound | with_reducible apply State.Sound.updEntry | with_reducible apply Sound.addHistory | simp only [State.sound_mk, State.sound_fold])

@[simp] theorem State.autoPlayEnded_frame (s : State) :
    (s.autoPlayEnded).pending = s.pending ∧ (s.autoPlayEnded).power = s.power ∧ (s.autoPlayEnded).calendar = s.calendar ∧ (s.autoPlayEnded).settings = s.settings := by
  unfold State.autoPlayEnded; try dsimp only; 
  repeat' split
  all_goals simp

theorem State.autoPlayEnded_sound (s : State) (h : s.Sound) : (s.autoPlayEnded).Sound := by
  unfold State.autoPlayEnded; try dsimp only
  repeat' split
  all_goals repeat' (first | with_reducible exact h | exact fun _ => rfl | with_reducible apply State.greetingEnd_sound | with_reducible apply State.remotePlay_sound | with_reducible apply State.updPort_sound | with_reducible apply State.Sound.updEntry | with_reducible apply Sound.addHistory | simp only [State.sound_mk, State.sound_fold])

@[simp] theorem State.setDeadlines_frame (s : State) (d : Deadlines) :
    (s.setDeadlines d).pending = s.pending ∧ (s.setDeadlines d).power = s.power ∧ (s.setDeadlines d).calendar = s.calendar ∧ (s.setDeadlines d).settings = s.settings := by
  unfold State.setDeadlines; try dsimp only; 
  repeat' split
  all_goals simp

theorem State.setDeadlines_sound (s : State) (d : Deadlines) (h : s.Sound) : (s.setDeadlines d).Sound := by
  unfold State.setDeadlines; try dsimp only
  repeat' split
  all_goals repeat' (first | with_reducible exact h | exact fun _ => rfl | with_reducible apply State.updPort_sound | with_reducible apply State.Sound.updEntry | with_reducible apply Sound.addHistory | simp only [State.sound_mk, State.sound_fold])

@[simp] theorem State.reachDue_frame (s : State) (due : Nat) :
    (s.reachDue due).pending = s.pending ∧ (s.reachDue due).power = s.power ∧ (s.reachDue due).calendar = s.calendar ∧ (s.reachDue due).settings = s.settings := by
  unfold State.reachDue; try dsimp only; 
  repeat' split
  all_goals simp

theorem State.reachDue_sound (s : State) (due : Nat) (h : s.Sound) : (s.reachDue due).Sound := by
  unfold State.reachDue; try dsimp only
  repeat' split
  all_goals repeat' (first | with_reducible exact h | exact fun _ => rfl | with_reducible apply State.updPort_sound | with_reducible apply State.Sound.updEntry | with_reducible apply Sound.addHistory | simp only [State.sound_mk, State.sound_fold])

@[simp] theorem State.policyAnswer_frame (s : State) (a : AnswerAction) :
    (s.policyAnswer a).pending = s.pending ∧ (s.policyAnswer a).power = s.power ∧ (s.policyAnswer a).calendar = s.calendar ∧ (s.policyAnswer a).settings = s.settings := by
  unfold State.policyAnswer; try dsimp only; 
  repeat' split
  all_goals simp

theorem State.policyAnswer_sound (s : State) (a : AnswerAction) (h : s.Sound) : (s.policyAnswer a).Sound := by
  unfold State.policyAnswer; try dsimp only
  repeat' split
  all_goals repeat' (first | with_reducible exact h | exact fun _ => rfl | with_reducible apply State.answerTaken_sound | with_reducible apply State.updPort_sound | with_reducible apply State.Sound.updEntry | with_reducible apply Sound.addHistory | simp only [State.sound_mk, State.sound_fold])

@[simp] theorem State.answerDecision_frame (s : State) :
    (s.answerDecision).pending = s.pending ∧ (s.answerDecision).power = s.power ∧ (s.answerDecision).calendar = s.calendar ∧ (s.answerDecision).settings = s.settings := by
  unfold State.answerDecision; try dsimp only; 
  repeat' split
  all_goals simp

theorem State.answerDecision_sound (s : State) (h : s.Sound) : (s.answerDecision).Sound := by
  unfold State.answerDecision; try dsimp only
  repeat' split
  all_goals repeat' (first | with_reducible exact h | exact fun _ => rfl | with_reducible apply State.policyAnswer_sound | with_reducible apply State.updPort_sound | with_reducible apply State.Sound.updEntry | with_reducible apply Sound.addHistory | simp only [State.sound_mk, State.sound_fold])

@[simp] theorem State.firstCycleEnd_frame (s : State) :
    (s.firstCycleEnd).pending = s.pending ∧ (s.firstCycleEnd).power = s.power ∧ (s.firstCycleEnd).calendar = s.calendar ∧ (s.firstCycleEnd).settings = s.settings := by
  unfold State.firstCycleEnd; try dsimp only; 
  repeat' split
  all_goals simp

theorem State.firstCycleEnd_sound (s : State) (h : s.Sound) : (s.firstCycleEnd).Sound := by
  unfold State.firstCycleEnd; try dsimp only
  repeat' split
  all_goals repeat' (first | with_reducible exact h | exact fun _ => rfl | with_reducible apply State.setDeadlines_sound | with_reducible apply State.updPort_sound | with_reducible apply State.Sound.updEntry | with_reducible apply Sound.addHistory | simp only [State.sound_mk, State.sound_fold])

@[simp] theorem State.cycleEnds_frame (s : State) :
    (s.cycleEnds).pending = s.pending ∧ (s.cycleEnds).power = s.power ∧ (s.cycleEnds).calendar = s.calendar ∧ (s.cycleEnds).settings = s.settings := by
  unfold State.cycleEnds; try dsimp only; 
  repeat' split
  all_goals simp

theorem State.cycleEnds_sound (s : State) (h : s.Sound) : (s.cycleEnds).Sound := by
  unfold State.cycleEnds; try dsimp only
  repeat' split
  all_goals repeat' (first | with_reducible exact h | exact fun _ => rfl | with_reducible apply State.raiseBoth_sound | with_reducible apply State.answerDecision_sound | with_reducible apply State.firstCycleEnd_sound | with_reducible apply State.updPort_sound | with_reducible apply State.Sound.updEntry | with_reducible apply Sound.addHistory | simp only [State.sound_mk, State.sound_fold])

@[simp] theorem State.episodeEnds_frame (s : State) :
    (s.episodeEnds).pending = s.pending ∧ (s.episodeEnds).power = s.power ∧ (s.episodeEnds).calendar = s.calendar ∧ (s.episodeEnds).settings = s.settings := by
  unfold State.episodeEnds; try dsimp only; 
  repeat' split
  all_goals simp

theorem State.episodeEnds_sound (s : State) (h : s.Sound) : (s.episodeEnds).Sound := by
  unfold State.episodeEnds; try dsimp only
  repeat' split
  all_goals repeat' (first | with_reducible exact h | exact fun _ => rfl | with_reducible apply State.lineFree_sound | with_reducible apply State.settleCapture_sound | with_reducible apply State.setDeadlines_sound | with_reducible apply State.updPort_sound | with_reducible apply State.Sound.updEntry | with_reducible apply Sound.addHistory | simp only [State.sound_mk, State.sound_fold])

@[simp] theorem State.episodeStart_frame (s : State) :
    (s.episodeStart).pending = s.pending ∧ (s.episodeStart).power = s.power ∧ (s.episodeStart).calendar = s.calendar ∧ (s.episodeStart).settings = s.settings := by
  unfold State.episodeStart; try dsimp only; 
  repeat' split
  all_goals simp

theorem State.episodeStart_sound (s : State) (h : s.Sound) : (s.episodeStart).Sound := by
  unfold State.episodeStart; try dsimp only
  repeat' split
  all_goals repeat' (first | with_reducible exact h | exact fun _ => rfl | with_reducible apply State.lineTo_sound | with_reducible apply State.updPort_sound | with_reducible apply State.Sound.updEntry | with_reducible apply Sound.addHistory | simp only [State.sound_mk, State.sound_fold])

@[simp] theorem State.closeWindowAtBurst_frame (s : State) :
    (s.closeWindowAtBurst).pending = s.pending ∧ (s.closeWindowAtBurst).power = s.power ∧ (s.closeWindowAtBurst).calendar = s.calendar ∧ (s.closeWindowAtBurst).settings = s.settings := by
  unfold State.closeWindowAtBurst; try dsimp only; 
  repeat' split
  all_goals simp

theorem State.closeWindowAtBurst_sound (s : State) (h : s.Sound) : (s.closeWindowAtBurst).Sound := by
  unfold State.closeWindowAtBurst; try dsimp only
  repeat' split
  all_goals repeat' (first | with_reducible exact h | exact fun _ => rfl | with_reducible apply State.settleCapture_sound | with_reducible apply State.updPort_sound | with_reducible apply State.Sound.updEntry | with_reducible apply Sound.addHistory | simp only [State.sound_mk, State.sound_fold])

@[simp] theorem State.burstQualified_frame (s : State) :
    (s.burstQualified).pending = s.pending ∧ (s.burstQualified).power = s.power ∧ (s.burstQualified).calendar = s.calendar ∧ (s.burstQualified).settings = s.settings := by
  unfold State.burstQualified; try dsimp only; 
  repeat' split
  all_goals simp

theorem State.burstQualified_sound (s : State) (h : s.Sound) : (s.burstQualified).Sound := by
  unfold State.burstQualified; try dsimp only
  repeat' split
  all_goals repeat' (first | with_reducible exact h | exact fun _ => rfl | with_reducible apply State.episodeStart_sound | with_reducible apply State.closeWindowAtBurst_sound | with_reducible apply State.updPort_sound | with_reducible apply State.Sound.updEntry | with_reducible apply Sound.addHistory | simp only [State.sound_mk, State.sound_fold])

@[simp] theorem State.presenceStart_frame (s : State) :
    (s.presenceStart).pending = s.pending ∧ (s.presenceStart).power = s.power ∧ (s.presenceStart).calendar = s.calendar ∧ (s.presenceStart).settings = s.settings := by
  unfold State.presenceStart; try dsimp only; 
  repeat' split
  all_goals simp

theorem State.presenceStart_sound (s : State) (h : s.Sound) : (s.presenceStart).Sound := by
  unfold State.presenceStart; try dsimp only
  repeat' split
  all_goals repeat' (first | with_reducible exact h | exact fun _ => rfl | with_reducible apply State.setDeadlines_sound | with_reducible apply State.updPort_sound | with_reducible apply State.Sound.updEntry | with_reducible apply Sound.addHistory | simp only [State.sound_mk, State.sound_fold])

@[simp] theorem State.presenceDiscarded_frame (s : State) :
    (s.presenceDiscarded).pending = s.pending ∧ (s.presenceDiscarded).power = s.power ∧ (s.presenceDiscarded).calendar = s.calendar ∧ (s.presenceDiscarded).settings = s.settings := by
  unfold State.presenceDiscarded; try dsimp only; 
  repeat' split
  all_goals simp

theorem State.presenceDiscarded_sound (s : State) (h : s.Sound) : (s.presenceDiscarded).Sound := by
  unfold State.presenceDiscarded; try dsimp only
  repeat' split
  all_goals repeat' (first | with_reducible exact h | exact fun _ => rfl | with_reducible apply State.setDeadlines_sound | with_reducible apply State.cycleEnds_sound | with_reducible apply State.episodeEnds_sound | with_reducible apply State.updPort_sound | with_reducible apply State.Sound.updEntry | with_reducible apply Sound.addHistory | simp only [State.sound_mk, State.sound_fold])

@[simp] theorem State.burstEnd_frame (s : State) :
    (s.burstEnd).pending = s.pending ∧ (s.burstEnd).power = s.power ∧ (s.burstEnd).calendar = s.calendar ∧ (s.burstEnd).settings = s.settings := by
  unfold State.burstEnd; try dsimp only; 
  repeat' split
  all_goals simp

theorem State.burstEnd_sound (s : State) (h : s.Sound) : (s.burstEnd).Sound := by
  unfold State.burstEnd; try dsimp only
  repeat' split
  all_goals repeat' (first | with_reducible exact h | exact fun _ => rfl | with_reducible apply State.setDeadlines_sound | with_reducible apply State.updPort_sound | with_reducible apply State.Sound.updEntry | with_reducible apply Sound.addHistory | simp only [State.sound_mk, State.sound_fold])

@[simp] theorem State.presenceEnd_frame (s : State) :
    (s.presenceEnd).pending = s.pending ∧ (s.presenceEnd).power = s.power ∧ (s.presenceEnd).calendar = s.calendar ∧ (s.presenceEnd).settings = s.settings := by
  unfold State.presenceEnd; try dsimp only; 
  repeat' split
  all_goals simp

theorem State.presenceEnd_sound (s : State) (h : s.Sound) : (s.presenceEnd).Sound := by
  unfold State.presenceEnd; try dsimp only
  repeat' split
  all_goals repeat' (first | with_reducible exact h | exact fun _ => rfl | with_reducible apply State.presenceDiscarded_sound | with_reducible apply State.burstEnd_sound | with_reducible apply State.updPort_sound | with_reducible apply State.Sound.updEntry | with_reducible apply Sound.addHistory | simp only [State.sound_mk, State.sound_fold])

@[simp] theorem State.judgeCaller_frame (s : State) :
    (s.judgeCaller).pending = s.pending ∧ (s.judgeCaller).power = s.power ∧ (s.judgeCaller).calendar = s.calendar ∧ (s.judgeCaller).settings = s.settings := by
  unfold State.judgeCaller; try dsimp only; 
  repeat' split
  all_goals simp

theorem State.judgeCaller_sound (s : State) (h : s.Sound) : (s.judgeCaller).Sound := by
  unfold State.judgeCaller; try dsimp only
  repeat' split
  all_goals repeat' (first | with_reducible exact h | exact fun _ => rfl | with_reducible apply State.raiseBoth_sound | with_reducible apply State.setDeadlines_sound | with_reducible apply State.updPort_sound | with_reducible apply State.Sound.updEntry | with_reducible apply Sound.addHistory | simp only [State.sound_mk, State.sound_fold])

@[simp] theorem State.callerByte_frame (s : State) (b : Byte) :
    (s.callerByte b).pending = s.pending ∧ (s.callerByte b).power = s.power ∧ (s.callerByte b).calendar = s.calendar ∧ (s.callerByte b).settings = s.settings := by
  unfold State.callerByte; try dsimp only; 
  repeat' split
  all_goals simp

theorem State.callerByte_sound (s : State) (b : Byte) (h : s.Sound) : (s.callerByte b).Sound := by
  unfold State.callerByte; try dsimp only
  repeat' split
  all_goals repeat' (first | with_reducible exact h | exact fun _ => rfl | with_reducible apply State.settleCapture_sound | with_reducible apply State.judgeCaller_sound | with_reducible apply State.updPort_sound | with_reducible apply State.Sound.updEntry | with_reducible apply Sound.addHistory | simp only [State.sound_mk, State.sound_fold])

@[simp] theorem State.writeLastMake_frame (s : State) :
    (s.writeLastMake).pending = s.pending ∧ (s.writeLastMake).power = s.power ∧ (s.writeLastMake).calendar = s.calendar ∧ (s.writeLastMake).settings = s.settings := by
  unfold State.writeLastMake; try dsimp only; 
  repeat' split
  all_goals simp

theorem State.writeLastMake_sound (s : State) (h : s.Sound) : (s.writeLastMake).Sound := by
  unfold State.writeLastMake; try dsimp only
  repeat' split
  all_goals repeat' (first | with_reducible exact h | exact fun _ => rfl | with_reducible apply State.updPort_sound | with_reducible apply State.Sound.updEntry | with_reducible apply Sound.addHistory | simp only [State.sound_mk, State.sound_fold])

@[simp] theorem State.startPulse_frame (s : State) (x : Symbol) :
    (s.startPulse x).pending = s.pending ∧ (s.startPulse x).power = s.power ∧ (s.startPulse x).calendar = s.calendar ∧ (s.startPulse x).settings = s.settings := by
  unfold State.startPulse; try dsimp only; 
  repeat' split
  all_goals simp

theorem State.startPulse_sound (s : State) (x : Symbol) (h : s.Sound) : (s.startPulse x).Sound := by
  unfold State.startPulse; try dsimp only
  repeat' split
  all_goals repeat' (first | with_reducible exact h | exact fun _ => rfl | with_reducible apply State.loadT0_sound | with_reducible apply State.writeLastMake_sound | with_reducible apply State.updPort_sound | with_reducible apply State.Sound.updEntry | with_reducible apply Sound.addHistory | simp only [State.sound_mk, State.sound_fold])

@[simp] theorem State.startTone_frame (s : State) (x : Symbol) :
    (s.startTone x).pending = s.pending ∧ (s.startTone x).power = s.power ∧ (s.startTone x).calendar = s.calendar ∧ (s.startTone x).settings = s.settings := by
  unfold State.startTone; try dsimp only; 
  repeat' split
  all_goals simp

theorem State.startTone_sound (s : State) (x : Symbol) (h : s.Sound) : (s.startTone x).Sound := by
  unfold State.startTone; try dsimp only
  repeat' split
  all_goals repeat' (first | with_reducible exact h | exact fun _ => rfl | with_reducible apply State.loadT0_sound | with_reducible apply State.updPort_sound | with_reducible apply State.Sound.updEntry | with_reducible apply Sound.addHistory | simp only [State.sound_mk, State.sound_fold])

@[simp] theorem State.startFlash_frame (s : State) :
    (s.startFlash).pending = s.pending ∧ (s.startFlash).power = s.power ∧ (s.startFlash).calendar = s.calendar ∧ (s.startFlash).settings = s.settings := by
  unfold State.startFlash; try dsimp only; 
  repeat' split
  all_goals simp

theorem State.startFlash_sound (s : State) (h : s.Sound) : (s.startFlash).Sound := by
  unfold State.startFlash; try dsimp only
  repeat' split
  all_goals repeat' (first | with_reducible exact h | exact fun _ => rfl | with_reducible apply State.loadT0_sound | with_reducible apply State.updPort_sound | with_reducible apply State.Sound.updEntry | with_reducible apply Sound.addHistory | simp only [State.sound_mk, State.sound_fold])

@[simp] theorem State.enterProgress_frame (s : State) :
    (s.enterProgress).pending = s.pending ∧ (s.enterProgress).power = s.power ∧ (s.enterProgress).calendar = s.calendar ∧ (s.enterProgress).settings = s.settings := by
  unfold State.enterProgress; try dsimp only; 
  repeat' split
  all_goals simp

theorem State.enterProgress_sound (s : State) (h : s.Sound) : (s.enterProgress).Sound := by
  unfold State.enterProgress; try dsimp only
  repeat' split
  all_goals repeat' (first | with_reducible exact h | exact fun _ => rfl | with_reducible apply State.loadT2_sound | with_reducible apply State.lineTo_sound | with_reducible apply State.updPort_sound | with_reducible apply State.Sound.updEntry | with_reducible apply Sound.addHistory | simp only [State.sound_mk, State.sound_fold])

/-- R42: an item begins. -/
@[simp] theorem State.startItem_frame (s : State) (i : DialItem) :
    (s.startItem i).pending = s.pending ∧ (s.startItem i).power = s.power ∧ (s.startItem i).calendar = s.calendar ∧ (s.startItem i).settings = s.settings := by
  cases i <;> simp [State.startItem]

theorem State.startItem_sound (s : State) (i : DialItem) (h : s.Sound) : (s.startItem i).Sound := by
  cases i
  · exact State.startTone_sound _ _ h
  · exact State.startPulse_sound _ _ h
  · exact h
  · exact h
  · exact State.startFlash_sound _ h


@[simp] theorem State.dialOn_frame (s : State) :
    (s.dialOn).pending = s.pending ∧ (s.dialOn).power = s.power ∧ (s.dialOn).calendar = s.calendar ∧ (s.dialOn).settings = s.settings := by
  unfold State.dialOn
  split <;> simp

theorem State.dialOn_sound (s : State) (h : s.Sound) : (s.dialOn).Sound := by
  unfold State.dialOn
  split
  · exact State.startItem_sound _ _ h
  · exact State.enterProgress_sound _ h

@[simp] theorem State.itemComplete_frame (s : State) :
    (s.itemComplete).pending = s.pending ∧ (s.itemComplete).power = s.power ∧ (s.itemComplete).calendar = s.calendar ∧ (s.itemComplete).settings = s.settings := by
  unfold State.itemComplete; try dsimp only; 
  repeat' split
  all_goals simp

theorem State.itemComplete_sound (s : State) (h : s.Sound) : (s.itemComplete).Sound := by
  unfold State.itemComplete; try dsimp only
  repeat' split
  all_goals repeat' (first | with_reducible exact h | exact fun _ => rfl | with_reducible apply State.dialOn_sound | with_reducible apply State.updPort_sound | with_reducible apply State.Sound.updEntry | with_reducible apply Sound.addHistory | simp only [State.sound_mk, State.sound_fold])

@[simp] theorem State.enterDialing_frame (s : State) :
    (s.enterDialing).pending = s.pending ∧ (s.enterDialing).power = s.power ∧ (s.enterDialing).calendar = s.calendar ∧ (s.enterDialing).settings = s.settings := by
  unfold State.enterDialing; try dsimp only; 
  repeat' split
  all_goals simp

theorem State.enterDialing_sound (s : State) (h : s.Sound) : (s.enterDialing).Sound := by
  unfold State.enterDialing; try dsimp only
  repeat' split
  all_goals repeat' (first | with_reducible exact h | exact fun _ => rfl | with_reducible apply State.lineTo_sound | with_reducible apply State.dialOn_sound | with_reducible apply State.updPort_sound | with_reducible apply State.Sound.updEntry | with_reducible apply Sound.addHistory | simp only [State.sound_mk, State.sound_fold])

@[simp] theorem State.dialToneHeard_frame (s : State) :
    (s.dialToneHeard).pending = s.pending ∧ (s.dialToneHeard).power = s.power ∧ (s.dialToneHeard).calendar = s.calendar ∧ (s.dialToneHeard).settings = s.settings := by
  unfold State.dialToneHeard; try dsimp only; 
  repeat' split
  all_goals simp

theorem State.dialToneHeard_sound (s : State) (h : s.Sound) : (s.dialToneHeard).Sound := by
  unfold State.dialToneHeard; try dsimp only
  repeat' split
  all_goals repeat' (first | with_reducible exact h | exact fun _ => rfl | with_reducible apply State.stopT2_sound | with_reducible apply State.itemComplete_sound | with_reducible apply State.enterDialing_sound | with_reducible apply State.updPort_sound | with_reducible apply State.Sound.updEntry | with_reducible apply Sound.addHistory | simp only [State.sound_mk, State.sound_fold])

@[simp] theorem State.generatorNext_frame (s : State) :
    (s.generatorNext).pending = s.pending ∧ (s.generatorNext).power = s.power ∧ (s.generatorNext).calendar = s.calendar ∧ (s.generatorNext).settings = s.settings := by
  unfold State.generatorNext; try dsimp only; 
  repeat' split
  all_goals simp

theorem State.generatorNext_sound (s : State) (h : s.Sound) : (s.generatorNext).Sound := by
  unfold State.generatorNext; try dsimp only
  repeat' split
  all_goals repeat' (first | with_reducible exact h | exact fun _ => rfl | with_reducible apply State.loadT0_sound | with_reducible apply State.updPort_sound | with_reducible apply State.Sound.updEntry | with_reducible apply Sound.addHistory | simp only [State.sound_mk, State.sound_fold])

@[simp] theorem State.t0HalfEnds_frame (s : State) :
    (s.t0HalfEnds).pending = s.pending ∧ (s.t0HalfEnds).power = s.power ∧ (s.t0HalfEnds).calendar = s.calendar ∧ (s.t0HalfEnds).settings = s.settings := by
  unfold State.t0HalfEnds; try dsimp only; 
  repeat' split
  all_goals simp

theorem State.t0HalfEnds_sound (s : State) (h : s.Sound) : (s.t0HalfEnds).Sound := by
  unfold State.t0HalfEnds; try dsimp only
  repeat' split
  all_goals repeat' (first | with_reducible exact h | exact fun _ => rfl | with_reducible apply State.updPort_sound | with_reducible apply State.Sound.updEntry | with_reducible apply Sound.addHistory | simp only [State.sound_mk, State.sound_fold])

@[simp] theorem State.pulseB_frame (s : State) :
    (s.pulseB).pending = s.pending ∧ (s.pulseB).power = s.power ∧ (s.pulseB).calendar = s.calendar ∧ (s.pulseB).settings = s.settings := by
  unfold State.pulseB; try dsimp only; 
  repeat' split
  all_goals simp

theorem State.pulseB_sound (s : State) (h : s.Sound) : (s.pulseB).Sound := by
  unfold State.pulseB; try dsimp only
  repeat' split
  all_goals repeat' (first | with_reducible exact h | exact fun _ => rfl | with_reducible apply State.writeLastMake_sound | with_reducible apply State.itemComplete_sound | with_reducible apply State.updPort_sound | with_reducible apply State.Sound.updEntry | with_reducible apply Sound.addHistory | simp only [State.sound_mk, State.sound_fold])

@[simp] theorem State.diallerB_frame (s : State) :
    (s.diallerB).pending = s.pending ∧ (s.diallerB).power = s.power ∧ (s.diallerB).calendar = s.calendar ∧ (s.diallerB).settings = s.settings := by
  unfold State.diallerB; try dsimp only; 
  repeat' split
  all_goals simp

theorem State.diallerB_sound (s : State) (h : s.Sound) : (s.diallerB).Sound := by
  unfold State.diallerB; try dsimp only
  repeat' split
  all_goals repeat' (first | with_reducible exact h | exact fun _ => rfl | with_reducible apply State.itemComplete_sound | with_reducible apply State.pulseB_sound | with_reducible apply State.updPort_sound | with_reducible apply State.Sound.updEntry | with_reducible apply Sound.addHistory | simp only [State.sound_mk, State.sound_fold])

@[simp] theorem State.generatorB_frame (s : State) :
    (s.generatorB).pending = s.pending ∧ (s.generatorB).power = s.power ∧ (s.generatorB).calendar = s.calendar ∧ (s.generatorB).settings = s.settings := by
  unfold State.generatorB; try dsimp only; 
  repeat' split
  all_goals simp

theorem State.generatorB_sound (s : State) (h : s.Sound) : (s.generatorB).Sound := by
  unfold State.generatorB; try dsimp only
  repeat' split
  all_goals repeat' (first | with_reducible exact h | exact fun _ => rfl | with_reducible apply State.generatorNext_sound | with_reducible apply State.updPort_sound | with_reducible apply State.Sound.updEntry | with_reducible apply Sound.addHistory | simp only [State.sound_mk, State.sound_fold])

@[simp] theorem State.guardEnds_frame (s : State) :
    (s.guardEnds).pending = s.pending ∧ (s.guardEnds).power = s.power ∧ (s.guardEnds).calendar = s.calendar ∧ (s.guardEnds).settings = s.settings := by
  unfold State.guardEnds; try dsimp only; 
  repeat' split
  all_goals simp

theorem State.guardEnds_sound (s : State) (h : s.Sound) : (s.guardEnds).Sound := by
  unfold State.guardEnds; try dsimp only
  repeat' split
  all_goals repeat' (first | with_reducible exact h | exact fun _ => rfl | with_reducible apply State.lineTo_sound | with_reducible apply State.lineFree_sound | with_reducible apply State.updPort_sound | with_reducible apply State.Sound.updEntry | with_reducible apply Sound.addHistory | simp only [State.sound_mk, State.sound_fold])

@[simp] theorem State.classified_frame (s : State) (c : CadenceClass) :
    (s.classified c).pending = s.pending ∧ (s.classified c).power = s.power ∧ (s.classified c).calendar = s.calendar ∧ (s.classified c).settings = s.settings := by
  unfold State.classified; try dsimp only; 
  repeat' split
  all_goals simp

theorem State.classified_sound (s : State) (c : CadenceClass) (h : s.Sound) : (s.classified c).Sound := by
  unfold State.classified; try dsimp only
  repeat' split
  all_goals repeat' (first | with_reducible exact h | exact fun _ => rfl | with_reducible apply State.reportEnd_sound | with_reducible apply State.dialToneHeard_sound | with_reducible apply State.updPort_sound | with_reducible apply State.Sound.updEntry | with_reducible apply Sound.addHistory | simp only [State.sound_mk, State.sound_fold])

@[simp] theorem State.classifierBlock_frame (s : State) (b : ToneBlock) :
    (s.classifierBlock b).pending = s.pending ∧ (s.classifierBlock b).power = s.power ∧ (s.classifierBlock b).calendar = s.calendar ∧ (s.classifierBlock b).settings = s.settings := by
  unfold State.classifierBlock; try dsimp only; 
  repeat' split
  all_goals simp

theorem State.classifierBlock_sound (s : State) (b : ToneBlock) (h : s.Sound) : (s.classifierBlock b).Sound := by
  unfold State.classifierBlock; try dsimp only
  repeat' split
  all_goals repeat' (first | with_reducible exact h | exact fun _ => rfl | with_reducible apply State.classified_sound | with_reducible apply State.updPort_sound | with_reducible apply State.Sound.updEntry | with_reducible apply Sound.addHistory | simp only [State.sound_mk, State.sound_fold])

@[simp] theorem State.answerBlock_frame (s : State) (b : ToneBlock) :
    (s.answerBlock b).pending = s.pending ∧ (s.answerBlock b).power = s.power ∧ (s.answerBlock b).calendar = s.calendar ∧ (s.answerBlock b).settings = s.settings := by
  unfold State.answerBlock; try dsimp only; 
  repeat' split
  all_goals simp

theorem State.answerBlock_sound (s : State) (b : ToneBlock) (h : s.Sound) : (s.answerBlock b).Sound := by
  unfold State.answerBlock; try dsimp only
  repeat' split
  all_goals repeat' (first | with_reducible exact h | exact fun _ => rfl | with_reducible apply State.connectCall_sound | with_reducible apply State.updPort_sound | with_reducible apply State.Sound.updEntry | with_reducible apply Sound.addHistory | simp only [State.sound_mk, State.sound_fold])

@[simp] theorem State.voiceBlock_frame (s : State) (b : ToneBlock) :
    (s.voiceBlock b).pending = s.pending ∧ (s.voiceBlock b).power = s.power ∧ (s.voiceBlock b).calendar = s.calendar ∧ (s.voiceBlock b).settings = s.settings := by
  unfold State.voiceBlock; try dsimp only; 
  repeat' split
  all_goals simp

theorem State.voiceBlock_sound (s : State) (b : ToneBlock) (h : s.Sound) : (s.voiceBlock b).Sound := by
  unfold State.voiceBlock; try dsimp only
  repeat' split
  all_goals repeat' (first | with_reducible exact h | exact fun _ => rfl | with_reducible apply State.connectCall_sound | with_reducible apply State.updPort_sound | with_reducible apply State.Sound.updEntry | with_reducible apply Sound.addHistory | simp only [State.sound_mk, State.sound_fold])

@[simp] theorem State.faxCallBlock_frame (s : State) (b : ToneBlock) :
    (s.faxCallBlock b).pending = s.pending ∧ (s.faxCallBlock b).power = s.power ∧ (s.faxCallBlock b).calendar = s.calendar ∧ (s.faxCallBlock b).settings = s.settings := by
  unfold State.faxCallBlock; try dsimp only; 
  repeat' split
  all_goals simp

theorem State.faxCallBlock_sound (s : State) (b : ToneBlock) (h : s.Sound) : (s.faxCallBlock b).Sound := by
  unfold State.faxCallBlock; try dsimp only
  repeat' split
  all_goals repeat' (first | with_reducible exact h | exact fun _ => rfl | with_reducible apply State.faxBranch_sound | with_reducible apply State.updPort_sound | with_reducible apply State.Sound.updEntry | with_reducible apply Sound.addHistory | simp only [State.sound_mk, State.sound_fold])

@[simp] theorem State.dataCallBlock_frame (s : State) (b : ToneBlock) :
    (s.dataCallBlock b).pending = s.pending ∧ (s.dataCallBlock b).power = s.power ∧ (s.dataCallBlock b).calendar = s.calendar ∧ (s.dataCallBlock b).settings = s.settings := by
  unfold State.dataCallBlock; try dsimp only; 
  repeat' split
  all_goals simp

theorem State.dataCallBlock_sound (s : State) (b : ToneBlock) (h : s.Sound) : (s.dataCallBlock b).Sound := by
  unfold State.dataCallBlock; try dsimp only
  repeat' split
  all_goals repeat' (first | with_reducible exact h | exact fun _ => rfl | with_reducible apply State.dataBranch_sound | with_reducible apply State.updPort_sound | with_reducible apply State.Sound.updEntry | with_reducible apply Sound.addHistory | simp only [State.sound_mk, State.sound_fold])

@[simp] theorem State.digitToMaster_frame (s : State) (p : Port) (x : Symbol) :
    (s.digitToMaster p x).pending = s.pending ∧ (s.digitToMaster p x).power = s.power ∧ (s.digitToMaster p x).calendar = s.calendar ∧ (s.digitToMaster p x).settings = s.settings := by
  unfold State.digitToMaster; try dsimp only; 
  repeat' split
  all_goals simp

theorem State.digitToMaster_sound (s : State) (p : Port) (x : Symbol) (h : s.Sound) : (s.digitToMaster p x).Sound := by
  unfold State.digitToMaster; try dsimp only
  repeat' split
  all_goals repeat' (first | with_reducible exact h | exact fun _ => rfl | with_reducible apply State.raiseAt_sound | with_reducible apply State.endVoice_sound | with_reducible apply State.updPort_sound | with_reducible apply State.Sound.updEntry | with_reducible apply Sound.addHistory | simp only [State.sound_mk, State.sound_fold])

@[simp] theorem State.routeDigit_frame (s : State) (x : Symbol) :
    (s.routeDigit x).pending = s.pending ∧ (s.routeDigit x).power = s.power ∧ (s.routeDigit x).calendar = s.calendar ∧ (s.routeDigit x).settings = s.settings := by
  unfold State.routeDigit; try dsimp only; 
  repeat' split
  all_goals simp

theorem State.routeDigit_sound (s : State) (x : Symbol) (h : s.Sound) : (s.routeDigit x).Sound := by
  unfold State.routeDigit; try dsimp only
  repeat' split
  all_goals repeat' (first | with_reducible exact h | exact fun _ => rfl | with_reducible apply State.codeDigit_sound | with_reducible apply State.remoteDigit_sound | with_reducible apply State.digitToMaster_sound | with_reducible apply State.updPort_sound | with_reducible apply State.Sound.updEntry | with_reducible apply Sound.addHistory | simp only [State.sound_mk, State.sound_fold])

@[simp] theorem State.dtmfBlock_frame (s : State) (b : ToneBlock) :
    (s.dtmfBlock b).pending = s.pending ∧ (s.dtmfBlock b).power = s.power ∧ (s.dtmfBlock b).calendar = s.calendar ∧ (s.dtmfBlock b).settings = s.settings := by
  unfold State.dtmfBlock; try dsimp only; 
  repeat' split
  all_goals simp

theorem State.dtmfBlock_sound (s : State) (b : ToneBlock) (h : s.Sound) : (s.dtmfBlock b).Sound := by
  unfold State.dtmfBlock; try dsimp only
  repeat' split
  all_goals repeat' (first | with_reducible exact h | exact fun _ => rfl | with_reducible apply State.routeDigit_sound | with_reducible apply State.updPort_sound | with_reducible apply State.Sound.updEntry | with_reducible apply Sound.addHistory | simp only [State.sound_mk, State.sound_fold])

@[simp] theorem State.toneBlock_frame (s : State) (b : ToneBlock) :
    (s.toneBlock b).pending = s.pending ∧ (s.toneBlock b).power = s.power ∧ (s.toneBlock b).calendar = s.calendar ∧ (s.toneBlock b).settings = s.settings := by
  unfold State.toneBlock; try dsimp only; 
  repeat' split
  all_goals simp

theorem State.toneBlock_sound (s : State) (b : ToneBlock) (h : s.Sound) : (s.toneBlock b).Sound := by
  unfold State.toneBlock; try dsimp only
  repeat' split
  all_goals repeat' (first | with_reducible exact h | exact fun _ => rfl | with_reducible apply State.classifierBlock_sound | with_reducible apply State.answerBlock_sound | with_reducible apply State.voiceBlock_sound | with_reducible apply State.faxCallBlock_sound | with_reducible apply State.dataCallBlock_sound | with_reducible apply State.dtmfBlock_sound | with_reducible apply State.updPort_sound | with_reducible apply State.Sound.updEntry | with_reducible apply Sound.addHistory | simp only [State.sound_mk, State.sound_fold])

@[simp] theorem State.blockRestarts_frame (s : State) (path : AudioPath) (level : Nat) :
    (s.blockRestarts path level).pending = s.pending ∧ (s.blockRestarts path level).power = s.power ∧ (s.blockRestarts path level).calendar = s.calendar ∧ (s.blockRestarts path level).settings = s.settings := by
  unfold State.blockRestarts; try dsimp only; 
  repeat' split
  all_goals simp

theorem State.blockRestarts_sound (s : State) (path : AudioPath) (level : Nat) (h : s.Sound) : (s.blockRestarts path level).Sound := by
  unfold State.blockRestarts; try dsimp only
  repeat' split
  all_goals repeat' (first | with_reducible exact h | exact fun _ => rfl | with_reducible apply State.updPort_sound | with_reducible apply State.Sound.updEntry | with_reducible apply Sound.addHistory | simp only [State.sound_mk, State.sound_fold])

@[simp] theorem State.countHeard_frame (s : State) (level : Nat) :
    (s.countHeard level).pending = s.pending ∧ (s.countHeard level).power = s.power ∧ (s.countHeard level).calendar = s.calendar ∧ (s.countHeard level).settings = s.settings := by
  unfold State.countHeard; try dsimp only; 
  repeat' split
  all_goals simp

theorem State.countHeard_sound (s : State) (level : Nat) (h : s.Sound) : (s.countHeard level).Sound := by
  unfold State.countHeard; try dsimp only
  repeat' split
  all_goals repeat' (first | with_reducible exact h | exact fun _ => rfl | with_reducible apply State.updPort_sound | with_reducible apply State.Sound.updEntry | with_reducible apply Sound.addHistory | simp only [State.sound_mk, State.sound_fold])

@[simp] theorem State.blankPasses_frame (s : State) :
    (s.blankPasses).pending = s.pending ∧ (s.blankPasses).power = s.power ∧ (s.blankPasses).calendar = s.calendar ∧ (s.blankPasses).settings = s.settings := by
  unfold State.blankPasses; try dsimp only
  repeat' split
  all_goals simp

theorem State.blankPasses_sound (s : State) (h : s.Sound) : (s.blankPasses).Sound := by
  unfold State.blankPasses; try dsimp only
  repeat' split
  all_goals repeat' (first | with_reducible exact h | exact fun _ => rfl | simp only [State.sound_mk, State.sound_fold])

@[simp] theorem State.lineBlock_frame (s : State) (b : LineBlock) :
    (s.lineBlock b).pending = s.pending ∧ (s.lineBlock b).power = s.power ∧ (s.lineBlock b).calendar = s.calendar ∧ (s.lineBlock b).settings = s.settings := by
  unfold State.lineBlock; try dsimp only; 
  repeat' split
  all_goals simp

theorem State.lineBlock_sound (s : State) (b : LineBlock) (h : s.Sound) : (s.lineBlock b).Sound := by
  unfold State.lineBlock; try dsimp only
  repeat' split
  all_goals repeat' (first | with_reducible exact h | exact fun _ => rfl | with_reducible apply State.toneBlock_sound | with_reducible apply State.blankPasses_sound | with_reducible apply State.blockRestarts_sound | with_reducible apply State.countHeard_sound | with_reducible apply State.updPort_sound | with_reducible apply State.Sound.updEntry | with_reducible apply Sound.addHistory | simp only [State.sound_mk, State.sound_fold])

@[simp] theorem State.lineSamples_frame (s : State) (xs : List Sample) (bs : List (List Sample)) :
    (s.lineSamples xs bs).pending = s.pending ∧ (s.lineSamples xs bs).power = s.power ∧ (s.lineSamples xs bs).calendar = s.calendar ∧ (s.lineSamples xs bs).settings = s.settings := by
  unfold State.lineSamples; try dsimp only; 
  repeat' split
  all_goals simp

theorem State.lineSamples_sound (s : State) (xs : List Sample) (bs : List (List Sample)) (h : s.Sound) : (s.lineSamples xs bs).Sound := by
  unfold State.lineSamples; try dsimp only
  repeat' split
  all_goals repeat' (first | with_reducible exact h | exact fun _ => rfl | with_reducible apply State.recordFrom_sound | with_reducible apply State.lineBlock_sound | with_reducible apply State.updPort_sound | with_reducible apply State.Sound.updEntry | with_reducible apply Sound.addHistory | simp only [State.sound_mk, State.sound_fold])

@[simp] theorem State.micSamples_frame (s : State) (xs : List Sample) :
    (s.micSamples xs).pending = s.pending ∧ (s.micSamples xs).power = s.power ∧ (s.micSamples xs).calendar = s.calendar ∧ (s.micSamples xs).settings = s.settings := by
  unfold State.micSamples; try dsimp only; 
  repeat' split
  all_goals simp

theorem State.micSamples_sound (s : State) (xs : List Sample) (h : s.Sound) : (s.micSamples xs).Sound := by
  unfold State.micSamples; try dsimp only
  repeat' split
  all_goals repeat' (first | with_reducible exact h | exact fun _ => rfl | with_reducible apply State.recordFrom_sound | with_reducible apply State.blockRestarts_sound | with_reducible apply State.updPort_sound | with_reducible apply State.Sound.updEntry | with_reducible apply Sound.addHistory | simp only [State.sound_mk, State.sound_fold])

@[simp] theorem takeSendDigits_frame (p : Port) (symbols : List Byte) (s : State) :
    (takeSendDigits p symbols s).1.pending = s.pending ∧ (takeSendDigits p symbols s).1.power = s.power ∧ (takeSendDigits p symbols s).1.calendar = s.calendar ∧ (takeSendDigits p symbols s).1.settings = s.settings := by
  unfold takeSendDigits; try dsimp only; 
  repeat' split
  all_goals simp

theorem takeSendDigits_sound (p : Port) (symbols : List Byte) (s : State) (h : s.Sound) : (takeSendDigits p symbols s).1.Sound := by
  unfold takeSendDigits; try dsimp only
  repeat' split
  all_goals repeat' (first | with_reducible exact h | exact fun _ => rfl | with_reducible apply refuse_sound | with_reducible apply State.generatorNext_sound | with_reducible apply State.updPort_sound | with_reducible apply State.Sound.updEntry | with_reducible apply Sound.addHistory | simp only [State.sound_mk, State.sound_fold])

@[simp] theorem takeBeep_frame (p : Port) (frequency duration : U16) (s : State) :
    (takeBeep p frequency duration s).1.pending = s.pending ∧ (takeBeep p frequency duration s).1.power = s.power ∧ (takeBeep p frequency duration s).1.calendar = s.calendar ∧ (takeBeep p frequency duration s).1.settings = s.settings := by
  unfold takeBeep; try dsimp only; 
  repeat' split
  all_goals simp

theorem takeBeep_sound (p : Port) (frequency duration : U16) (s : State) (h : s.Sound) : (takeBeep p frequency duration s).1.Sound := by
  unfold takeBeep; try dsimp only
  repeat' split
  all_goals repeat' (first | with_reducible exact h | exact fun _ => rfl | with_reducible apply State.loadT0_sound | with_reducible apply refuse_sound | with_reducible apply State.updPort_sound | with_reducible apply State.Sound.updEntry | with_reducible apply Sound.addHistory | simp only [State.sound_mk, State.sound_fold])

@[simp] theorem takeReadDigits_frame (p : Port) (count : Byte) (s : State) :
    (takeReadDigits p count s).1.pending = s.pending ∧ (takeReadDigits p count s).1.power = s.power ∧ (takeReadDigits p count s).1.calendar = s.calendar ∧ (takeReadDigits p count s).1.settings = s.settings := by
  unfold takeReadDigits; try dsimp only; 
  repeat' split
  all_goals simp

theorem takeReadDigits_sound (p : Port) (count : Byte) (s : State) (h : s.Sound) : (takeReadDigits p count s).1.Sound := by
  unfold takeReadDigits; try dsimp only
  repeat' split
  all_goals repeat' (first | with_reducible exact h | exact fun _ => rfl | with_reducible apply refuse_sound | with_reducible apply State.updPort_sound | with_reducible apply State.Sound.updEntry | with_reducible apply Sound.addHistory | simp only [State.sound_mk, State.sound_fold])

@[simp] theorem refuseClaim_frame (s : State) (x : Status) :
    (refuseClaim s x).1.pending = s.pending ∧ (refuseClaim s x).1.power = s.power ∧ (refuseClaim s x).1.calendar = s.calendar ∧ (refuseClaim s x).1.settings = s.settings := by
  unfold refuseClaim; try dsimp only; 
  repeat' split
  all_goals simp

theorem refuseClaim_sound (s : State) (x : Status) (h : s.Sound) : (refuseClaim s x).1.Sound := by
  unfold refuseClaim; try dsimp only
  repeat' split
  all_goals repeat' (first | with_reducible exact h | exact fun _ => rfl | with_reducible apply State.updPort_sound | with_reducible apply State.Sound.updEntry | with_reducible apply Sound.addHistory | simp only [State.sound_mk, State.sound_fold])

@[simp] theorem State.queueDial_frame (s : State) (c : Claim) :
    (s.queueDial c).pending = s.pending ∧ (s.queueDial c).power = s.power ∧ (s.queueDial c).calendar = s.calendar ∧ (s.queueDial c).settings = s.settings := by
  unfold State.queueDial; try dsimp only; 
  repeat' split
  all_goals simp

theorem State.queueDial_sound (s : State) (c : Claim) (h : s.Sound) : (s.queueDial c).Sound := by
  refine Sound.withClaims h ?_
  show OneEach ((s.withdraw c.master).ccu.claims ++ [c])
  have hw := OneEach.sublist h.claims (List.filter_sublist (p := fun d => decide (d.master ≠ c.master)))
  unfold OneEach State.withdraw at *
  simp only [List.map_append, List.map_cons, List.map_nil]
  refine List.nodup_append.mpr ⟨hw, by simp, ?_⟩
  intro a ha b hb hab
  obtain ⟨d, hd, rfl⟩ := List.mem_map.mp ha
  simp only [List.mem_singleton] at hb
  subst hb
  have hne := (List.mem_filter.mp hd).2
  exact absurd hab (by simpa using hne)

@[simp] theorem takeGoodDial_frame (c : Claim) (wait : Bool) (s : State) :
    (takeGoodDial c wait s).1.pending = s.pending ∧ (takeGoodDial c wait s).1.power = s.power ∧ (takeGoodDial c wait s).1.calendar = s.calendar ∧ (takeGoodDial c wait s).1.settings = s.settings := by
  unfold takeGoodDial; try dsimp only; 
  repeat' split
  all_goals simp

theorem takeGoodDial_sound (c : Claim) (wait : Bool) (s : State) (h : s.Sound) : (takeGoodDial c wait s).1.Sound := by
  unfold takeGoodDial; try dsimp only
  repeat' split
  all_goals repeat' (first | with_reducible exact h | exact fun _ => rfl | with_reducible apply State.seize_sound | with_reducible apply refuseClaim_sound | with_reducible apply State.queueDial_sound | with_reducible apply State.updPort_sound | with_reducible apply State.Sound.updEntry | with_reducible apply Sound.addHistory | simp only [State.sound_mk, State.sound_fold])

@[simp] theorem takeDial_frame (p : Port) (job flags : Byte) (items : List Byte) (s : State) :
    (takeDial p job flags items s).1.pending = s.pending ∧ (takeDial p job flags items s).1.power = s.power ∧ (takeDial p job flags items s).1.calendar = s.calendar ∧ (takeDial p job flags items s).1.settings = s.settings := by
  unfold takeDial; try dsimp only; 
  repeat' split
  all_goals simp

theorem takeDial_sound (p : Port) (job flags : Byte) (items : List Byte) (s : State) (h : s.Sound) : (takeDial p job flags items s).1.Sound := by
  unfold takeDial; try dsimp only
  repeat' split
  all_goals repeat' (first | with_reducible exact h | exact fun _ => rfl | with_reducible apply refuseClaim_sound | with_reducible apply takeGoodDial_sound | with_reducible apply State.updPort_sound | with_reducible apply State.Sound.updEntry | with_reducible apply Sound.addHistory | simp only [State.sound_mk, State.sound_fold])

@[simp] theorem takeGoodAnswer_frame (p : Port) (job : Job) (s : State) :
    (takeGoodAnswer p job s).1.pending = s.pending ∧ (takeGoodAnswer p job s).1.power = s.power ∧ (takeGoodAnswer p job s).1.calendar = s.calendar ∧ (takeGoodAnswer p job s).1.settings = s.settings := by
  unfold takeGoodAnswer; try dsimp only; 
  repeat' split
  all_goals simp

theorem takeGoodAnswer_sound (p : Port) (job : Job) (s : State) (h : s.Sound) : (takeGoodAnswer p job s).1.Sound := by
  unfold takeGoodAnswer; try dsimp only
  repeat' split
  all_goals repeat' (first | with_reducible exact h | exact fun _ => rfl | with_reducible apply State.answerTaken_sound | with_reducible apply refuseClaim_sound | with_reducible apply State.updPort_sound | with_reducible apply State.Sound.updEntry | with_reducible apply Sound.addHistory | simp only [State.sound_mk, State.sound_fold])

@[simp] theorem takeAnswer_frame (p : Port) (job : Byte) (s : State) :
    (takeAnswer p job s).1.pending = s.pending ∧ (takeAnswer p job s).1.power = s.power ∧ (takeAnswer p job s).1.calendar = s.calendar ∧ (takeAnswer p job s).1.settings = s.settings := by
  unfold takeAnswer; try dsimp only; 
  repeat' split
  all_goals simp

theorem takeAnswer_sound (p : Port) (job : Byte) (s : State) (h : s.Sound) : (takeAnswer p job s).1.Sound := by
  unfold takeAnswer; try dsimp only
  repeat' split
  all_goals repeat' (first | with_reducible exact h | exact fun _ => rfl | with_reducible apply refuseClaim_sound | with_reducible apply takeGoodAnswer_sound | with_reducible apply State.updPort_sound | with_reducible apply State.Sound.updEntry | with_reducible apply Sound.addHistory | simp only [State.sound_mk, State.sound_fold])

@[simp] theorem State.moveCall_frame (s : State) (p : Port) :
    (s.moveCall p).pending = s.pending ∧ (s.moveCall p).power = s.power ∧ (s.moveCall p).calendar = s.calendar ∧ (s.moveCall p).settings = s.settings := by
  unfold State.moveCall; try dsimp only; 
  repeat' split
  all_goals simp

theorem State.moveCall_sound (s : State) (p : Port) (h : s.Sound) : (s.moveCall p).Sound := by
  unfold State.moveCall; try dsimp only
  repeat' split
  all_goals repeat' (first | with_reducible exact h | exact fun _ => rfl | with_reducible apply State.stopT2_sound | with_reducible apply State.raiseBoth_sound | with_reducible apply State.endVoice_sound | with_reducible apply State.dropAuto_sound | with_reducible apply State.dropCallDetectors_sound | with_reducible apply State.updPort_sound | with_reducible apply State.Sound.updEntry | with_reducible apply Sound.addHistory | simp only [State.sound_mk, State.sound_fold])

@[simp] theorem takeTakeCall_frame (p : Port) (s : State) :
    (takeTakeCall p s).1.pending = s.pending ∧ (takeTakeCall p s).1.power = s.power ∧ (takeTakeCall p s).1.calendar = s.calendar ∧ (takeTakeCall p s).1.settings = s.settings := by
  unfold takeTakeCall; try dsimp only; 
  repeat' split
  all_goals simp

theorem takeTakeCall_sound (p : Port) (s : State) (h : s.Sound) : (takeTakeCall p s).1.Sound := by
  unfold takeTakeCall; try dsimp only
  repeat' split
  all_goals repeat' (first | with_reducible exact h | exact fun _ => rfl | with_reducible apply refuseClaim_sound | with_reducible apply State.moveCall_sound | with_reducible apply State.updPort_sound | with_reducible apply State.Sound.updEntry | with_reducible apply Sound.addHistory | simp only [State.sound_mk, State.sound_fold])

@[simp] theorem State.hangUpHeld_frame (s : State) :
    (s.hangUpHeld).pending = s.pending ∧ (s.hangUpHeld).power = s.power ∧ (s.hangUpHeld).calendar = s.calendar ∧ (s.hangUpHeld).settings = s.settings := by
  unfold State.hangUpHeld; try dsimp only; 
  repeat' split
  all_goals simp

theorem State.hangUpHeld_sound (s : State) (h : s.Sound) : (s.hangUpHeld).Sound := by
  unfold State.hangUpHeld; try dsimp only
  repeat' split
  all_goals repeat' (first | with_reducible exact h | exact fun _ => rfl | with_reducible apply State.callEnd_sound | with_reducible apply State.startClearing_sound | with_reducible apply State.cleardown_sound | with_reducible apply State.updPort_sound | with_reducible apply State.Sound.updEntry | with_reducible apply Sound.addHistory | simp only [State.sound_mk, State.sound_fold])

@[simp] theorem withdrawOr_frame (p : Port) (x : Status) (s : State) :
    (withdrawOr p x s).1.pending = s.pending ∧ (withdrawOr p x s).1.power = s.power ∧ (withdrawOr p x s).1.calendar = s.calendar ∧ (withdrawOr p x s).1.settings = s.settings := by
  unfold withdrawOr; try dsimp only; 
  repeat' split
  all_goals simp

theorem withdrawOr_sound (p : Port) (x : Status) (s : State) (h : s.Sound) : (withdrawOr p x s).1.Sound := by
  unfold withdrawOr; try dsimp only
  repeat' split
  all_goals repeat' (first | with_reducible exact h | exact fun _ => rfl | with_reducible apply refuse_sound | with_reducible apply State.withdraw_sound | with_reducible apply State.updPort_sound | with_reducible apply State.Sound.updEntry | with_reducible apply Sound.addHistory | simp only [State.sound_mk, State.sound_fold])

@[simp] theorem takeHangUp_frame (p : Port) (s : State) :
    (takeHangUp p s).1.pending = s.pending ∧ (takeHangUp p s).1.power = s.power ∧ (takeHangUp p s).1.calendar = s.calendar ∧ (takeHangUp p s).1.settings = s.settings := by
  unfold takeHangUp; try dsimp only; 
  repeat' split
  all_goals simp

theorem takeHangUp_sound (p : Port) (s : State) (h : s.Sound) : (takeHangUp p s).1.Sound := by
  unfold takeHangUp; try dsimp only
  repeat' split
  all_goals repeat' (first | with_reducible exact h | exact fun _ => rfl | with_reducible apply State.callEnd_sound | with_reducible apply State.hangUpHeld_sound | with_reducible apply withdrawOr_sound | with_reducible apply State.updPort_sound | with_reducible apply State.Sound.updEntry | with_reducible apply Sound.addHistory | simp only [State.sound_mk, State.sound_fold])

@[simp] theorem State.stopDialler_frame (s : State) :
    (s.stopDialler).pending = s.pending ∧ (s.stopDialler).power = s.power ∧ (s.stopDialler).calendar = s.calendar ∧ (s.stopDialler).settings = s.settings := by
  unfold State.stopDialler; try dsimp only; 
  repeat' split
  all_goals simp

theorem State.stopDialler_sound (s : State) (h : s.Sound) : (s.stopDialler).Sound := by
  unfold State.stopDialler; try dsimp only
  repeat' split
  all_goals repeat' (first | with_reducible exact h | exact fun _ => rfl | with_reducible apply State.stopT0_sound | with_reducible apply State.silence_sound | with_reducible apply State.updPort_sound | with_reducible apply State.Sound.updEntry | with_reducible apply Sound.addHistory | simp only [State.sound_mk, State.sound_fold])

@[simp] theorem takeConnect_frame (p : Port) (s : State) :
    (takeConnect p s).1.pending = s.pending ∧ (takeConnect p s).1.power = s.power ∧ (takeConnect p s).1.calendar = s.calendar ∧ (takeConnect p s).1.settings = s.settings := by
  unfold takeConnect; try dsimp only; 
  repeat' split
  all_goals simp

theorem takeConnect_sound (p : Port) (s : State) (h : s.Sound) : (takeConnect p s).1.Sound := by
  unfold takeConnect; try dsimp only
  repeat' split
  all_goals repeat' (first | with_reducible exact h | exact fun _ => rfl | with_reducible apply refuse_sound | with_reducible apply State.connectCall_sound | with_reducible apply State.stopDialler_sound | with_reducible apply State.updPort_sound | with_reducible apply State.Sound.updEntry | with_reducible apply Sound.addHistory | simp only [State.sound_mk, State.sound_fold])

@[simp] theorem State.pickup_frame (s : State) :
    (s.pickup).pending = s.pending ∧ (s.pickup).power = s.power ∧ (s.pickup).calendar = s.calendar ∧ (s.pickup).settings = s.settings := by
  unfold State.pickup; try dsimp only; 
  repeat' split
  all_goals simp

theorem State.pickup_sound (s : State) (h : s.Sound) : (s.pickup).Sound := by
  unfold State.pickup; try dsimp only
  repeat' split
  all_goals repeat' (first | with_reducible exact h | exact fun _ => rfl | with_reducible apply State.raiseBoth_sound | with_reducible apply State.reportEnd_sound | with_reducible apply State.updPort_sound | with_reducible apply State.Sound.updEntry | with_reducible apply Sound.addHistory | simp only [State.sound_mk, State.sound_fold])

@[simp] theorem takePlayEntry_frame (p : Port) (id : Nat) (start : PlayStart) (e : Endpoint) (stopOnDigit : Bool) (s : State) :
    (takePlayEntry p id start e stopOnDigit s).1.pending = s.pending ∧ (takePlayEntry p id start e stopOnDigit s).1.power = s.power ∧ (takePlayEntry p id start e stopOnDigit s).1.calendar = s.calendar ∧ (takePlayEntry p id start e stopOnDigit s).1.settings = s.settings := by
  unfold takePlayEntry; try dsimp only; 
  repeat' split
  all_goals simp

theorem takePlayEntry_sound (p : Port) (id : Nat) (start : PlayStart) (e : Endpoint) (stopOnDigit : Bool) (s : State) (h : s.Sound) : (takePlayEntry p id start e stopOnDigit s).1.Sound := by
  unfold takePlayEntry; try dsimp only
  repeat' split
  all_goals repeat' (first | with_reducible exact h | exact fun _ => rfl | with_reducible apply refuse_sound | with_reducible apply State.startPlay_sound | with_reducible apply State.updPort_sound | with_reducible apply State.Sound.updEntry | with_reducible apply Sound.addHistory | simp only [State.sound_mk, State.sound_fold])

@[simp] theorem takeGoodPlay_frame (p : Port) (id : Nat) (start : PlayStart) (e : Endpoint) (stopOnDigit : Bool) (s : State) :
    (takeGoodPlay p id start e stopOnDigit s).1.pending = s.pending ∧ (takeGoodPlay p id start e stopOnDigit s).1.power = s.power ∧ (takeGoodPlay p id start e stopOnDigit s).1.calendar = s.calendar ∧ (takeGoodPlay p id start e stopOnDigit s).1.settings = s.settings := by
  unfold takeGoodPlay; try dsimp only; 
  repeat' split
  all_goals simp

theorem takeGoodPlay_sound (p : Port) (id : Nat) (start : PlayStart) (e : Endpoint) (stopOnDigit : Bool) (s : State) (h : s.Sound) : (takeGoodPlay p id start e stopOnDigit s).1.Sound := by
  unfold takeGoodPlay; try dsimp only
  repeat' split
  all_goals repeat' (first | with_reducible exact h | exact fun _ => rfl | with_reducible apply refuse_sound | with_reducible apply takePlayEntry_sound | with_reducible apply State.updPort_sound | with_reducible apply State.Sound.updEntry | with_reducible apply Sound.addHistory | simp only [State.sound_mk, State.sound_fold])

@[simp] theorem takePlay_frame (p : Port) (id : Byte) (start : PlayStart) (endpoint stopOnDigit : Byte) (s : State) :
    (takePlay p id start endpoint stopOnDigit s).1.pending = s.pending ∧ (takePlay p id start endpoint stopOnDigit s).1.power = s.power ∧ (takePlay p id start endpoint stopOnDigit s).1.calendar = s.calendar ∧ (takePlay p id start endpoint stopOnDigit s).1.settings = s.settings := by
  unfold takePlay; try dsimp only; 
  repeat' split
  all_goals simp

theorem takePlay_sound (p : Port) (id : Byte) (start : PlayStart) (endpoint stopOnDigit : Byte) (s : State) (h : s.Sound) : (takePlay p id start endpoint stopOnDigit s).1.Sound := by
  unfold takePlay; try dsimp only
  repeat' split
  all_goals repeat' (first | with_reducible exact h | exact fun _ => rfl | with_reducible apply refuse_sound | with_reducible apply takeGoodPlay_sound | with_reducible apply State.updPort_sound | with_reducible apply State.Sound.updEntry | with_reducible apply Sound.addHistory | simp only [State.sound_mk, State.sound_fold])

@[simp] theorem takeGoodRecord_frame (p : Port) (kind : MsgKind) (slot : Option Nat) (e : Endpoint) (vox : Bool) (seconds : Nat) (s : State) :
    (takeGoodRecord p kind slot e vox seconds s).1.pending = s.pending ∧ (takeGoodRecord p kind slot e vox seconds s).1.power = s.power ∧ (takeGoodRecord p kind slot e vox seconds s).1.calendar = s.calendar ∧ (takeGoodRecord p kind slot e vox seconds s).1.settings = s.settings := by
  unfold takeGoodRecord; try dsimp only; 
  repeat' split
  all_goals simp

theorem takeGoodRecord_sound (p : Port) (kind : MsgKind) (slot : Option Nat) (e : Endpoint) (vox : Bool) (seconds : Nat) (s : State) (h : s.Sound) : (takeGoodRecord p kind slot e vox seconds s).1.Sound := by
  unfold takeGoodRecord; try dsimp only
  repeat' split
  all_goals repeat' (first | with_reducible exact h | exact fun _ => rfl | with_reducible apply refuse_sound | with_reducible apply State.startRecord_sound | with_reducible apply State.updPort_sound | with_reducible apply State.Sound.updEntry | with_reducible apply Sound.addHistory | simp only [State.sound_mk, State.sound_fold])

@[simp] theorem takeRecord_frame (p : Port) (kind slot endpoint vox : Byte) (seconds : U16) (s : State) :
    (takeRecord p kind slot endpoint vox seconds s).1.pending = s.pending ∧ (takeRecord p kind slot endpoint vox seconds s).1.power = s.power ∧ (takeRecord p kind slot endpoint vox seconds s).1.calendar = s.calendar ∧ (takeRecord p kind slot endpoint vox seconds s).1.settings = s.settings := by
  unfold takeRecord; try dsimp only; 
  repeat' split
  all_goals simp

theorem takeRecord_sound (p : Port) (kind slot endpoint vox : Byte) (seconds : U16) (s : State) (h : s.Sound) : (takeRecord p kind slot endpoint vox seconds s).1.Sound := by
  unfold takeRecord; try dsimp only
  repeat' split
  all_goals repeat' (first | with_reducible exact h | exact fun _ => rfl | with_reducible apply refuse_sound | with_reducible apply takeGoodRecord_sound | with_reducible apply State.updPort_sound | with_reducible apply State.Sound.updEntry | with_reducible apply Sound.addHistory | simp only [State.sound_mk, State.sound_fold])

@[simp] theorem State.voicePause_frame (s : State) :
    (s.voicePause).pending = s.pending ∧ (s.voicePause).power = s.power ∧ (s.voicePause).calendar = s.calendar ∧ (s.voicePause).settings = s.settings := by
  unfold State.voicePause; try dsimp only; 
  repeat' split
  all_goals simp

theorem State.voicePause_sound (s : State) (h : s.Sound) : (s.voicePause).Sound := by
  unfold State.voicePause; try dsimp only
  repeat' split
  all_goals repeat' (first | with_reducible exact h | exact fun _ => rfl | with_reducible apply State.stopT6_sound | with_reducible apply State.updPort_sound | with_reducible apply State.Sound.updEntry | with_reducible apply Sound.addHistory | simp only [State.sound_mk, State.sound_fold])

@[simp] theorem State.voiceResume_frame (s : State) :
    (s.voiceResume).pending = s.pending ∧ (s.voiceResume).power = s.power ∧ (s.voiceResume).calendar = s.calendar ∧ (s.voiceResume).settings = s.settings := by
  unfold State.voiceResume; try dsimp only; 
  repeat' split
  all_goals simp

theorem State.voiceResume_sound (s : State) (h : s.Sound) : (s.voiceResume).Sound := by
  unfold State.voiceResume; try dsimp only
  repeat' split
  all_goals repeat' (first | with_reducible exact h | exact fun _ => rfl | with_reducible apply State.loadT6_sound | with_reducible apply State.updPort_sound | with_reducible apply State.Sound.updEntry | with_reducible apply Sound.addHistory | simp only [State.sound_mk, State.sound_fold])

@[simp] theorem takeList_frame (p : Port) (first count : Byte) (s : State) :
    (takeList p first count s).1.pending = s.pending ∧ (takeList p first count s).1.power = s.power ∧ (takeList p first count s).1.calendar = s.calendar ∧ (takeList p first count s).1.settings = s.settings := by
  unfold takeList; try dsimp only; 
  repeat' split
  all_goals simp

theorem takeList_sound (p : Port) (first count : Byte) (s : State) (h : s.Sound) : (takeList p first count s).1.Sound := by
  unfold takeList; try dsimp only
  repeat' split
  all_goals repeat' (first | with_reducible exact h | exact fun _ => rfl | with_reducible apply refuse_sound | with_reducible apply State.updPort_sound | with_reducible apply State.Sound.updEntry | with_reducible apply Sound.addHistory | simp only [State.sound_mk, State.sound_fold])

@[simp] theorem takeDelete_frame (id : Byte) (s : State) :
    (takeDelete id s).1.pending = s.pending ∧ (takeDelete id s).1.power = s.power ∧ (takeDelete id s).1.calendar = s.calendar ∧ (takeDelete id s).1.settings = s.settings := by
  have hc := State.deleteRule_frame s id.toNat
  unfold takeDelete
  split <;> rename_i he <;> rw [he] at hc <;> first | exact hc | simp [refuse]

theorem takeDelete_sound (id : Byte) (s : State) (h : s.Sound) : (takeDelete id s).1.Sound := by
  have hc := State.deleteRule_sound s id.toNat h
  unfold takeDelete
  split <;> rename_i he <;> rw [he] at hc <;> first | exact hc | exact h

@[simp] theorem takeMarkHeard_frame (id : Byte) (s : State) :
    (takeMarkHeard id s).1.pending = s.pending ∧ (takeMarkHeard id s).1.power = s.power ∧ (takeMarkHeard id s).1.calendar = s.calendar ∧ (takeMarkHeard id s).1.settings = s.settings := by
  unfold takeMarkHeard; try dsimp only; 
  repeat' split
  all_goals simp

theorem takeMarkHeard_sound (id : Byte) (s : State) (h : s.Sound) : (takeMarkHeard id s).1.Sound := by
  unfold takeMarkHeard; try dsimp only
  repeat' split
  all_goals repeat' (first | with_reducible exact h | exact fun _ => rfl | with_reducible apply refuse_sound | with_reducible apply State.clearNew_sound | with_reducible apply State.updPort_sound | with_reducible apply State.Sound.updEntry | with_reducible apply Sound.addHistory | simp only [State.sound_mk, State.sound_fold])

@[simp] theorem takeFormat_frame (s : State) :
    (takeFormat s).1.pending = s.pending ∧ (takeFormat s).1.power = s.power ∧ (takeFormat s).1.calendar = s.calendar ∧ (takeFormat s).1.settings = s.settings := by
  unfold takeFormat; try dsimp only; 
  repeat' split
  all_goals simp

theorem takeFormat_sound (s : State) (h : s.Sound) : (takeFormat s).1.Sound := by
  unfold takeFormat
  split
  · exact h
  · refine State.storeAlert_sound _ _ (State.judgeLow_sound _ ?_)
    refine ⟨usable_balanced ?_, h.canonical, h.history, h.claims, h.system, h.panel⟩
    have := h.balanced.2.2
    show Config.reservedGranules ≤ s.store.installed
    omega

@[simp] theorem State.releaseChannel_frame (s : State) (p : Port) :
    (s.releaseChannel p).pending = s.pending ∧ (s.releaseChannel p).power = s.power ∧ (s.releaseChannel p).calendar = s.calendar ∧ (s.releaseChannel p).settings = s.settings := by
  unfold State.releaseChannel; try dsimp only; 
  repeat' split
  all_goals simp

theorem State.releaseChannel_sound (s : State) (p : Port) (h : s.Sound) : (s.releaseChannel p).Sound := by
  unfold State.releaseChannel; try dsimp only
  repeat' split
  all_goals repeat' (first | with_reducible exact h | exact fun _ => rfl | with_reducible apply State.release_sound | with_reducible apply State.updPort_sound | with_reducible apply State.Sound.updEntry | with_reducible apply Sound.addHistory | simp only [State.sound_mk, State.sound_fold])

@[simp] theorem State.judgeDone_frame (s : State) (p : Port) :
    (s.judgeDone p).pending = s.pending ∧ (s.judgeDone p).power = s.power ∧ (s.judgeDone p).calendar = s.calendar ∧ (s.judgeDone p).settings = s.settings := by
  unfold State.judgeDone; try dsimp only; 
  repeat' split
  all_goals simp

theorem State.judgeDone_sound (s : State) (p : Port) (h : s.Sound) : (s.judgeDone p).Sound := by
  unfold State.judgeDone
  dsimp only
  split
  · exact State.raiseAt_sound _ _ _ (State.releaseChannel_sound _ _ (State.updChannel_sound h))
  · exact h

@[simp] theorem openRead_frame (p : Port) (e : Entry) (offset count : Nat) (s : State) :
    (openRead p e offset count s).1.pending = s.pending ∧ (openRead p e offset count s).1.power = s.power ∧ (openRead p e offset count s).1.calendar = s.calendar ∧ (openRead p e offset count s).1.settings = s.settings := by
  unfold openRead; try dsimp only; 
  repeat' split
  all_goals simp

theorem openRead_sound (p : Port) (e : Entry) (offset count : Nat) (s : State) (h : s.Sound) : (openRead p e offset count s).1.Sound := by
  unfold openRead
  dsimp only
  split
  · exact h
  · exact State.judgeDone_sound _ _ (State.updChannel_sound (State.hold_sound _ _ h))

@[simp] theorem takeOpenRead_frame (p : Port) (id : Byte) (offset count : U32) (s : State) :
    (takeOpenRead p id offset count s).1.pending = s.pending ∧ (takeOpenRead p id offset count s).1.power = s.power ∧ (takeOpenRead p id offset count s).1.calendar = s.calendar ∧ (takeOpenRead p id offset count s).1.settings = s.settings := by
  unfold takeOpenRead; try dsimp only; 
  repeat' split
  all_goals simp

theorem takeOpenRead_sound (p : Port) (id : Byte) (offset count : U32) (s : State) (h : s.Sound) : (takeOpenRead p id offset count s).1.Sound := by
  unfold takeOpenRead; try dsimp only
  repeat' split
  all_goals repeat' (first | with_reducible exact h | exact fun _ => rfl | with_reducible apply refuse_sound | with_reducible apply openRead_sound | with_reducible apply State.updPort_sound | with_reducible apply State.Sound.updEntry | with_reducible apply Sound.addHistory | simp only [State.sound_mk, State.sound_fold])

@[simp] theorem State.fillFifo_frame (s : State) (p : Port) :
    (s.fillFifo p).pending = s.pending ∧ (s.fillFifo p).power = s.power ∧ (s.fillFifo p).calendar = s.calendar ∧ (s.fillFifo p).settings = s.settings := by
  unfold State.fillFifo; try dsimp only; 
  repeat' split
  all_goals simp

theorem State.fillFifo_sound (s : State) (p : Port) (h : s.Sound) : (s.fillFifo p).Sound := by
  unfold State.fillFifo
  dsimp only
  split
  · exact h
  · split
    · exact State.updChannel_sound h
    · exact h

@[simp] theorem takeReadChunk_frame (p : Port) (count : Byte) (s : State) :
    (takeReadChunk p count s).1.pending = s.pending ∧ (takeReadChunk p count s).1.power = s.power ∧ (takeReadChunk p count s).1.calendar = s.calendar ∧ (takeReadChunk p count s).1.settings = s.settings := by
  unfold takeReadChunk; try dsimp only; 
  repeat' split
  all_goals simp

theorem takeReadChunk_sound (p : Port) (count : Byte) (s : State) (h : s.Sound) : (takeReadChunk p count s).1.Sound := by
  unfold takeReadChunk
  dsimp only
  split
  · exact h
  · split
    · exact h
    · exact State.judgeDone_sound _ _ (State.updChannel_sound h)

@[simp] theorem takeGoodOpenWrite_frame (p : Port) (kind : MsgKind) (slot : Option Nat) (s : State) :
    (takeGoodOpenWrite p kind slot s).1.pending = s.pending ∧ (takeGoodOpenWrite p kind slot s).1.power = s.power ∧ (takeGoodOpenWrite p kind slot s).1.calendar = s.calendar ∧ (takeGoodOpenWrite p kind slot s).1.settings = s.settings := by
  have hc := State.create_frame s kind slot false
  unfold takeGoodOpenWrite
  split
  · simp [refuse]
  · split <;> rename_i he <;> rw [he] at hc <;> simpa using hc

theorem takeGoodOpenWrite_sound (p : Port) (kind : MsgKind) (slot : Option Nat) (s : State) (h : s.Sound) : (takeGoodOpenWrite p kind slot s).1.Sound := by
  have hc := State.create_sound s kind slot false h
  unfold takeGoodOpenWrite
  split
  · exact h
  · split <;> rename_i he <;> rw [he] at hc
    · exact hc
    · exact State.updChannel_sound hc

@[simp] theorem takeOpenWrite_frame (p : Port) (kind slot : Byte) (s : State) :
    (takeOpenWrite p kind slot s).1.pending = s.pending ∧ (takeOpenWrite p kind slot s).1.power = s.power ∧ (takeOpenWrite p kind slot s).1.calendar = s.calendar ∧ (takeOpenWrite p kind slot s).1.settings = s.settings := by
  unfold takeOpenWrite; try dsimp only; 
  repeat' split
  all_goals simp

theorem takeOpenWrite_sound (p : Port) (kind slot : Byte) (s : State) (h : s.Sound) : (takeOpenWrite p kind slot s).1.Sound := by
  unfold takeOpenWrite; try dsimp only
  repeat' split
  all_goals repeat' (first | with_reducible exact h | exact fun _ => rfl | with_reducible apply refuse_sound | with_reducible apply takeGoodOpenWrite_sound | with_reducible apply State.updPort_sound | with_reducible apply State.Sound.updEntry | with_reducible apply Sound.addHistory | simp only [State.sound_mk, State.sound_fold])

@[simp] theorem State.pageMarkTaken_frame (s : State) (p : Port) (id : Nat) :
    (s.pageMarkTaken p id).pending = s.pending ∧ (s.pageMarkTaken p id).power = s.power ∧ (s.pageMarkTaken p id).calendar = s.calendar ∧ (s.pageMarkTaken p id).settings = s.settings := by
  unfold State.pageMarkTaken; try dsimp only; 
  repeat' split
  all_goals simp

theorem State.pageMarkTaken_sound (s : State) (p : Port) (id : Nat) (h : s.Sound) : (s.pageMarkTaken p id).Sound := by
  unfold State.pageMarkTaken
  exact State.updChannel_sound (State.Sound.updEntry h _ (fun _ => rfl) (fun _ => rfl))

@[simp] theorem State.followPageMark_frame (s : State) (p : Port) (id : Nat) (b : Byte) :
    (s.followPageMark p id b).pending = s.pending ∧ (s.followPageMark p id b).power = s.power ∧ (s.followPageMark p id b).calendar = s.calendar ∧ (s.followPageMark p id b).settings = s.settings := by
  unfold State.followPageMark; try dsimp only; 
  repeat' split
  all_goals simp

theorem State.followPageMark_sound (s : State) (p : Port) (id : Nat) (b : Byte) (h : s.Sound) : (s.followPageMark p id b).Sound := by
  unfold State.followPageMark
  repeat' split
  · exact State.pageMarkTaken_sound _ _ _ h
  · exact State.updChannel_sound h
  · exact State.updChannel_sound h
  · exact h

@[simp] theorem State.writeByte_frame (s : State) (p : Port) (id : Nat) (b : Byte) :
    (s.writeByte p id b).1.pending = s.pending ∧ (s.writeByte p id b).1.power = s.power ∧ (s.writeByte p id b).1.calendar = s.calendar ∧ (s.writeByte p id b).1.settings = s.settings := by
  have hc := State.appendByte_frame s id b
  unfold State.writeByte
  split <;> rename_i he <;> rw [he] at hc <;> simpa using hc

theorem State.writeByte_sound (s : State) (p : Port) (id : Nat) (b : Byte) (h : s.Sound) : (s.writeByte p id b).1.Sound := by
  have hc := State.appendByte_sound s id b h
  unfold State.writeByte
  split <;> rename_i he <;> rw [he] at hc
  · exact State.followPageMark_sound _ _ _ _ (State.updChannel_sound hc)
  · exact State.updChannel_sound hc

/-- R171: the bytes of a chunk. -/
@[simp] theorem State.writeBytes_frame (p : Port) (id : Nat) (l : List Byte) (s : State) :
    (State.writeBytes p id l s).1.pending = s.pending ∧ (State.writeBytes p id l s).1.power = s.power ∧ (State.writeBytes p id l s).1.calendar = s.calendar ∧ (State.writeBytes p id l s).1.settings = s.settings := by
  induction l generalizing s with
  | nil => simp [State.writeBytes]
  | cons b rest ih =>
    have hc := State.writeByte_frame s p id b
    unfold State.writeBytes
    split
    · simp
    · split <;> rename_i he <;> rw [he] at hc
      · split
        rename_i hw
        have hi := ih (s.writeByte p id b).1
        rw [he, hw] at hi
        exact ⟨hi.1.trans hc.1, hi.2.1.trans hc.2.1, hi.2.2.1.trans hc.2.2.1, hi.2.2.2.trans hc.2.2.2⟩
      · exact hc

theorem State.writeBytes_sound (p : Port) (id : Nat) (l : List Byte) (s : State) (h : s.Sound) :
    (State.writeBytes p id l s).1.Sound := by
  induction l generalizing s with
  | nil => exact h
  | cons b rest ih =>
    have hc := State.writeByte_sound s p id b h
    unfold State.writeBytes
    split
    · exact h
    · split <;> rename_i he <;> rw [he] at hc
      · have hi := ih _ hc
        split
        rename_i hw
        rw [hw] at hi
        exact hi
      · exact hc


@[simp] theorem takeWriteChunk_frame (p : Port) (bytes : List Byte) (s : State) :
    (takeWriteChunk p bytes s).1.pending = s.pending ∧ (takeWriteChunk p bytes s).1.power = s.power ∧ (takeWriteChunk p bytes s).1.calendar = s.calendar ∧ (takeWriteChunk p bytes s).1.settings = s.settings := by
  unfold takeWriteChunk
  dsimp only
  split
  · simp [refuse]
  · split
    · split
      · simp [refuse]
      · exact State.writeBytes_frame p _ bytes s
    · simp [refuse]

theorem takeWriteChunk_sound (p : Port) (bytes : List Byte) (s : State) (h : s.Sound) : (takeWriteChunk p bytes s).1.Sound := by
  unfold takeWriteChunk
  dsimp only
  split
  · exact h
  · split
    · split
      · exact h
      · exact State.writeBytes_sound p _ bytes s h
    · exact h

@[simp] theorem State.idleChannel_frame (s : State) (p : Port) :
    (s.idleChannel p).pending = s.pending ∧ (s.idleChannel p).power = s.power ∧ (s.idleChannel p).calendar = s.calendar ∧ (s.idleChannel p).settings = s.settings := by
  unfold State.idleChannel; try dsimp only; 
  repeat' split
  all_goals simp

theorem State.idleChannel_sound (s : State) (p : Port) (h : s.Sound) : (s.idleChannel p).Sound := by
  exact State.updPort_sound (fun _ => rfl) h

@[simp] theorem State.closeWrite_frame (s : State) (p : Port) (id : Nat) :
    (s.closeWrite p id).pending = s.pending ∧ (s.closeWrite p id).power = s.power ∧ (s.closeWrite p id).calendar = s.calendar ∧ (s.closeWrite p id).settings = s.settings := by
  unfold State.closeWrite; try dsimp only; 
  repeat' split
  all_goals simp

theorem State.closeWrite_sound (s : State) (p : Port) (id : Nat) (h : s.Sound) : (s.closeWrite p id).Sound := by
  unfold State.closeWrite; try dsimp only
  repeat' split
  all_goals repeat' (first | with_reducible exact h | exact fun _ => rfl | with_reducible apply State.trim_sound | with_reducible apply State.complete_sound | with_reducible apply State.idleChannel_sound | with_reducible apply State.updPort_sound | with_reducible apply State.Sound.updEntry | with_reducible apply Sound.addHistory | simp only [State.sound_mk, State.sound_fold])

@[simp] theorem State.endRead_frame (s : State) (p : Port) :
    (s.endRead p).pending = s.pending ∧ (s.endRead p).power = s.power ∧ (s.endRead p).calendar = s.calendar ∧ (s.endRead p).settings = s.settings := by
  unfold State.endRead; try dsimp only; 
  repeat' split
  all_goals simp

theorem State.endRead_sound (s : State) (p : Port) (h : s.Sound) : (s.endRead p).Sound := by
  unfold State.endRead; try dsimp only
  repeat' split
  all_goals repeat' (first | with_reducible exact h | exact fun _ => rfl | with_reducible apply State.releaseChannel_sound | with_reducible apply State.idleChannel_sound | with_reducible apply State.updPort_sound | with_reducible apply State.Sound.updEntry | with_reducible apply Sound.addHistory | simp only [State.sound_mk, State.sound_fold])

@[simp] theorem takeCloseTransfer_frame (p : Port) (s : State) :
    (takeCloseTransfer p s).1.pending = s.pending ∧ (takeCloseTransfer p s).1.power = s.power ∧ (takeCloseTransfer p s).1.calendar = s.calendar ∧ (takeCloseTransfer p s).1.settings = s.settings := by
  unfold takeCloseTransfer; try dsimp only; 
  repeat' split
  all_goals simp

theorem takeCloseTransfer_sound (p : Port) (s : State) (h : s.Sound) : (takeCloseTransfer p s).1.Sound := by
  unfold takeCloseTransfer; try dsimp only
  repeat' split
  all_goals repeat' (first | with_reducible exact h | exact fun _ => rfl | with_reducible apply refuse_sound | with_reducible apply State.closeWrite_sound | with_reducible apply State.endRead_sound | with_reducible apply State.updPort_sound | with_reducible apply State.Sound.updEntry | with_reducible apply Sound.addHistory | simp only [State.sound_mk, State.sound_fold])

@[simp] theorem State.abortChannel_frame (s : State) (p : Port) :
    (s.abortChannel p).pending = s.pending ∧ (s.abortChannel p).power = s.power ∧ (s.abortChannel p).calendar = s.calendar ∧ (s.abortChannel p).settings = s.settings := by
  unfold State.abortChannel; try dsimp only; 
  repeat' split
  all_goals simp

theorem State.abortChannel_sound (s : State) (p : Port) (h : s.Sound) : (s.abortChannel p).Sound := by
  unfold State.abortChannel; try dsimp only
  repeat' split
  all_goals repeat' (first | with_reducible exact h | exact fun _ => rfl | with_reducible apply State.removeEntry_sound | with_reducible apply State.idleChannel_sound | with_reducible apply State.endRead_sound | with_reducible apply State.updPort_sound | with_reducible apply State.Sound.updEntry | with_reducible apply Sound.addHistory | simp only [State.sound_mk, State.sound_fold])

@[simp] theorem takeAbort_frame (p : Port) (s : State) :
    (takeAbort p s).1.pending = s.pending ∧ (takeAbort p s).1.power = s.power ∧ (takeAbort p s).1.calendar = s.calendar ∧ (takeAbort p s).1.settings = s.settings := by
  unfold takeAbort; try dsimp only; 
  repeat' split
  all_goals simp

theorem takeAbort_sound (p : Port) (s : State) (h : s.Sound) : (takeAbort p s).1.Sound := by
  unfold takeAbort; try dsimp only
  repeat' split
  all_goals repeat' (first | with_reducible exact h | exact fun _ => rfl | with_reducible apply refuse_sound | with_reducible apply State.abortChannel_sound | with_reducible apply State.updPort_sound | with_reducible apply State.Sound.updEntry | with_reducible apply Sound.addHistory | simp only [State.sound_mk, State.sound_fold])

@[simp] theorem takeTakeNotice_frame (p : Port) (s : State) :
    (takeTakeNotice p s).1.pending = s.pending ∧ (takeTakeNotice p s).1.power = s.power ∧ (takeTakeNotice p s).1.calendar = s.calendar ∧ (takeTakeNotice p s).1.settings = s.settings := by
  unfold takeTakeNotice; try dsimp only; 
  repeat' split
  all_goals simp

theorem takeTakeNotice_sound (p : Port) (s : State) (h : s.Sound) : (takeTakeNotice p s).1.Sound := by
  unfold takeTakeNotice
  split
  · rename_i x hx
    have hd := Controller.choice_deliverable hx
    cases p
    · exact ⟨h.balanced, h.canonical, h.history, h.claims, Controller.deliver_sound h.system hd, h.panel⟩
    · exact ⟨h.balanced, h.canonical, h.history, h.claims, h.system, Controller.deliver_sound h.panel hd⟩
  · exact h

@[simp] theorem takeNoticeDone_frame (p : Port) (s : State) :
    (takeNoticeDone p s).1.pending = s.pending ∧ (takeNoticeDone p s).1.power = s.power ∧ (takeNoticeDone p s).1.calendar = s.calendar ∧ (takeNoticeDone p s).1.settings = s.settings := by
  unfold takeNoticeDone; try dsimp only; 
  repeat' split
  all_goals simp

theorem takeNoticeDone_sound (p : Port) (s : State) (h : s.Sound) : (takeNoticeDone p s).1.Sound := by
  exact State.updNotices_sound (fun _ hc => ⟨hc.1, stackOrdered_tail hc.2⟩) h

@[simp] theorem takeClearNotice_frame (p : Port) (source : Byte) (s : State) :
    (takeClearNotice p source s).1.pending = s.pending ∧ (takeClearNotice p source s).1.power = s.power ∧ (takeClearNotice p source s).1.calendar = s.calendar ∧ (takeClearNotice p source s).1.settings = s.settings := by
  unfold takeClearNotice; try dsimp only; 
  repeat' split
  all_goals simp

theorem takeClearNotice_sound (p : Port) (source : Byte) (s : State) (h : s.Sound) : (takeClearNotice p source s).1.Sound := by
  unfold takeClearNotice
  repeat' split
  · exact h
  · exact h
  · exact State.updNotices_sound (fun _ hc => hc) h

@[simp] theorem takeMask_frame (p : Port) (entries : List (Byte × Byte)) (s : State) :
    (takeMask p entries s).1.pending = s.pending ∧ (takeMask p entries s).1.power = s.power ∧ (takeMask p entries s).1.calendar = s.calendar ∧ (takeMask p entries s).1.settings = s.settings := by
  unfold takeMask; try dsimp only; 
  repeat' split
  all_goals simp

theorem takeMask_sound (p : Port) (entries : List (Byte × Byte)) (s : State) (h : s.Sound) : (takeMask p entries s).1.Sound := by
  unfold takeMask
  split
  · exact h
  · exact State.updNotices_sound (fun _ hc => Controller.maskAll_sound hc _) h

@[simp] theorem takeGoData_frame (p : Port) (s : State) :
    (takeGoData p s).1.pending = s.pending ∧ (takeGoData p s).1.power = s.power ∧ (takeGoData p s).1.calendar = s.calendar ∧ (takeGoData p s).1.settings = s.settings := by
  unfold takeGoData; try dsimp only; 
  repeat' split
  all_goals simp

theorem takeGoData_sound (p : Port) (s : State) (h : s.Sound) : (takeGoData p s).1.Sound := by
  unfold takeGoData; try dsimp only
  repeat' split
  all_goals repeat' (first | with_reducible exact h | exact fun _ => rfl | with_reducible apply refuse_sound | with_reducible apply State.online_sound | with_reducible apply State.updPort_sound | with_reducible apply State.Sound.updEntry | with_reducible apply Sound.addHistory | simp only [State.sound_mk, State.sound_fold])

@[simp] theorem State.resetClaims_frame (s : State) (p : Port) :
    (s.resetClaims p).pending = s.pending ∧ (s.resetClaims p).power = s.power ∧ (s.resetClaims p).calendar = s.calendar ∧ (s.resetClaims p).settings = s.settings := by
  unfold State.resetClaims; try dsimp only; 
  repeat' split
  all_goals simp

theorem State.resetClaims_sound (s : State) (p : Port) (h : s.Sound) : (s.resetClaims p).Sound := by
  unfold State.resetClaims; try dsimp only
  repeat' split
  all_goals repeat' (first | with_reducible exact h | exact fun _ => rfl | with_reducible apply State.callEnd_sound | with_reducible apply State.withdraw_sound | with_reducible apply State.updPort_sound | with_reducible apply State.Sound.updEntry | with_reducible apply Sound.addHistory | simp only [State.sound_mk, State.sound_fold])

@[simp] theorem State.resetVoice_frame (s : State) (p : Port) :
    (s.resetVoice p).pending = s.pending ∧ (s.resetVoice p).power = s.power ∧ (s.resetVoice p).calendar = s.calendar ∧ (s.resetVoice p).settings = s.settings := by
  unfold State.resetVoice; try dsimp only; 
  repeat' split
  all_goals simp

theorem State.resetVoice_sound (s : State) (p : Port) (h : s.Sound) : (s.resetVoice p).Sound := by
  unfold State.resetVoice; try dsimp only
  repeat' split
  all_goals repeat' (first | with_reducible exact h | exact fun _ => rfl | with_reducible apply State.endVoice_sound | with_reducible apply State.updPort_sound | with_reducible apply State.Sound.updEntry | with_reducible apply Sound.addHistory | simp only [State.sound_mk, State.sound_fold])

@[simp] theorem State.portReset_frame (s : State) (p : Port) :
    (s.portReset p).pending = s.pending ∧ (s.portReset p).power = s.power ∧ (s.portReset p).calendar = s.calendar ∧ (s.portReset p).settings = s.settings := by
  unfold State.portReset; try dsimp only; 
  repeat' split
  all_goals simp

theorem State.portReset_sound (s : State) (p : Port) (h : s.Sound) : (s.portReset p).Sound := by
  unfold State.portReset
  have ha := State.abortChannel_sound _ p (State.resetVoice_sound _ p (State.resetClaims_sound s p h))
  cases p
  · exact ⟨ha.balanced, ha.canonical, ha.history, ha.claims, Controller.reset_sound, ha.panel⟩
  · exact ⟨ha.balanced, ha.canonical, ha.history, ha.claims, ha.system, Controller.reset_sound⟩

@[simp] theorem takePortReset_frame (p : Port) (s : State) :
    (takePortReset p s).1.pending = s.pending ∧ (takePortReset p s).1.power = s.power ∧ (takePortReset p s).1.calendar = s.calendar ∧ (takePortReset p s).1.settings = s.settings := by
  unfold takePortReset; try dsimp only; 
  repeat' split
  all_goals simp

theorem takePortReset_sound (p : Port) (s : State) (h : s.Sound) : (takePortReset p s).1.Sound := by
  unfold takePortReset; try dsimp only
  repeat' split
  all_goals repeat' (first | with_reducible exact h | exact fun _ => rfl | with_reducible apply State.portReset_sound | with_reducible apply State.updPort_sound | with_reducible apply State.Sound.updEntry | with_reducible apply Sound.addHistory | simp only [State.sound_mk, State.sound_fold])

@[simp] theorem State.afterReply_frame (s : State) (k : AnswerKind) :
    (s.afterReply k).pending = s.pending ∧ (s.afterReply k).power = s.power ∧ (s.afterReply k).calendar = s.calendar ∧ (s.afterReply k).settings = s.settings := by
  unfold State.afterReply; try dsimp only; 
  repeat' split
  all_goals simp

theorem State.afterReply_sound (s : State) (k : AnswerKind) (h : s.Sound) : (s.afterReply k).Sound := by
  unfold State.afterReply; try dsimp only
  repeat' split
  all_goals repeat' (first | with_reducible exact h | exact fun _ => rfl | with_reducible apply State.reply_sound | with_reducible apply State.enterData_sound | with_reducible apply State.updPort_sound | with_reducible apply State.Sound.updEntry | with_reducible apply Sound.addHistory | simp only [State.sound_mk, State.sound_fold])

@[simp] theorem State.panelRead_frame (s : State) (n : Nat) :
    (s.panelRead n).pending = s.pending ∧ (s.panelRead n).power = s.power ∧ (s.panelRead n).calendar = s.calendar ∧ (s.panelRead n).settings = s.settings := by
  unfold State.panelRead; try dsimp only; 
  repeat' split
  all_goals simp

theorem State.panelRead_sound (s : State) (n : Nat) (h : s.Sound) : (s.panelRead n).Sound := by
  unfold State.panelRead; try dsimp only
  repeat' split
  all_goals repeat' (first | with_reducible exact h | exact fun _ => rfl | with_reducible apply State.updPort_sound | with_reducible apply State.Sound.updEntry | with_reducible apply Sound.addHistory | simp only [State.sound_mk, State.sound_fold])

@[simp] theorem State.escapeByte_frame (s : State) (b : Byte) :
    (s.escapeByte b).pending = s.pending ∧ (s.escapeByte b).power = s.power ∧ (s.escapeByte b).calendar = s.calendar ∧ (s.escapeByte b).settings = s.settings := by
  unfold State.escapeByte; try dsimp only; 
  repeat' split
  all_goals simp

theorem State.escapeByte_sound (s : State) (b : Byte) (h : s.Sound) : (s.escapeByte b).Sound := by
  unfold State.escapeByte; try dsimp only
  repeat' split
  all_goals repeat' (first | with_reducible exact h | exact fun _ => rfl | with_reducible apply State.loadT5_sound | with_reducible apply State.updPort_sound | with_reducible apply State.Sound.updEntry | with_reducible apply Sound.addHistory | simp only [State.sound_mk, State.sound_fold])

@[simp] theorem State.commandByte_frame (s : State) (b : Byte) :
    (s.commandByte b).pending = s.pending ∧ (s.commandByte b).power = s.power ∧ (s.commandByte b).calendar = s.calendar ∧ (s.commandByte b).settings = s.settings := by
  unfold State.commandByte; try dsimp only
  repeat' split
  all_goals simp

theorem State.commandByte_sound (s : State) (b : Byte) (h : s.Sound) : (s.commandByte b).Sound := by
  unfold State.commandByte; try dsimp only
  repeat' split
  all_goals repeat' (first | with_reducible exact h | with_reducible apply State.joinOutbound_sound | simp only [State.sound_mk, State.sound_fold])

@[simp] theorem State.discardFrame_frame (s : State) (p : Port) :
    (s.discardFrame p).pending = s.pending ∧ (s.discardFrame p).power = s.power ∧ (s.discardFrame p).calendar = s.calendar ∧ (s.discardFrame p).settings = s.settings := by
  unfold State.discardFrame; try dsimp only
  repeat' split
  all_goals simp

theorem State.discardFrame_sound (s : State) (p : Port) (h : s.Sound) : (s.discardFrame p).Sound := by
  unfold State.discardFrame; try dsimp only
  repeat' split
  all_goals repeat' (first | with_reducible exact h | simp only [State.sound_mk, State.sound_fold])

@[simp] theorem State.escapeExpiry_frame (s : State) :
    (s.escapeExpiry).pending = s.pending ∧ (s.escapeExpiry).power = s.power ∧ (s.escapeExpiry).calendar = s.calendar ∧ (s.escapeExpiry).settings = s.settings := by
  unfold State.escapeExpiry; try dsimp only; 
  repeat' split
  all_goals simp

theorem State.escapeExpiry_sound (s : State) (h : s.Sound) : (s.escapeExpiry).Sound := by
  unfold State.escapeExpiry; try dsimp only
  repeat' split
  all_goals repeat' (first | with_reducible exact h | exact fun _ => rfl | with_reducible apply State.toCommand_sound | with_reducible apply State.updPort_sound | with_reducible apply State.Sound.updEntry | with_reducible apply Sound.addHistory | simp only [State.sound_mk, State.sound_fold])

@[simp] theorem State.byteRestarts_frame (s : State) :
    (s.byteRestarts).pending = s.pending ∧ (s.byteRestarts).power = s.power ∧ (s.byteRestarts).calendar = s.calendar ∧ (s.byteRestarts).settings = s.settings := by
  unfold State.byteRestarts; try dsimp only; 
  repeat' split
  all_goals simp

theorem State.byteRestarts_sound (s : State) (h : s.Sound) : (s.byteRestarts).Sound := by
  unfold State.byteRestarts; try dsimp only
  repeat' split
  all_goals repeat' (first | with_reducible exact h | exact fun _ => rfl | with_reducible apply State.updPort_sound | with_reducible apply State.Sound.updEntry | with_reducible apply Sound.addHistory | simp only [State.sound_mk, State.sound_fold])

@[simp] theorem State.portByte_frame (s : State) (b : Byte) :
    (s.portByte b).pending = s.pending ∧ (s.portByte b).power = s.power ∧ (s.portByte b).calendar = s.calendar ∧ (s.portByte b).settings = s.settings := by
  unfold State.portByte; try dsimp only; 
  repeat' split
  all_goals simp

theorem State.portByte_sound (s : State) (b : Byte) (h : s.Sound) : (s.portByte b).Sound := by
  unfold State.portByte; try dsimp only
  repeat' split
  all_goals repeat' (first | with_reducible exact h | exact fun _ => rfl | with_reducible apply State.joinOutbound_sound | with_reducible apply State.faxPortByte_sound | with_reducible apply State.escapeByte_sound | with_reducible apply State.updPort_sound | with_reducible apply State.Sound.updEntry | with_reducible apply Sound.addHistory | simp only [State.sound_mk, State.sound_fold])

@[simp] theorem State.markLeaves_frame (s : State) :
    (s.markLeaves).pending = s.pending ∧ (s.markLeaves).power = s.power ∧ (s.markLeaves).calendar = s.calendar ∧ (s.markLeaves).settings = s.settings := by
  unfold State.markLeaves; try dsimp only; 
  repeat' split
  all_goals simp

theorem State.markLeaves_sound (s : State) (h : s.Sound) : (s.markLeaves).Sound := by
  unfold State.markLeaves; try dsimp only
  repeat' split
  all_goals repeat' (first | with_reducible exact h | exact fun _ => rfl | with_reducible apply State.toCommand_sound | with_reducible apply State.updPort_sound | with_reducible apply State.Sound.updEntry | with_reducible apply Sound.addHistory | simp only [State.sound_mk, State.sound_fold])

@[simp] theorem State.inboundLeaves_frame (s : State) :
    (s.inboundLeaves).pending = s.pending ∧ (s.inboundLeaves).power = s.power ∧ (s.inboundLeaves).calendar = s.calendar ∧ (s.inboundLeaves).settings = s.settings := by
  unfold State.inboundLeaves; try dsimp only; 
  repeat' split
  all_goals simp

theorem State.inboundLeaves_sound (s : State) (h : s.Sound) : (s.inboundLeaves).Sound := by
  unfold State.inboundLeaves; try dsimp only
  repeat' split
  all_goals repeat' (first | with_reducible exact h | exact fun _ => rfl | with_reducible apply State.markLeaves_sound | with_reducible apply State.updPort_sound | with_reducible apply State.Sound.updEntry | with_reducible apply Sound.addHistory | simp only [State.sound_mk, State.sound_fold])

@[simp] theorem State.abandonEpisode_frame (s : State) :
    (s.abandonEpisode).pending = s.pending ∧ (s.abandonEpisode).power = s.power ∧ (s.abandonEpisode).calendar = s.calendar ∧ (s.abandonEpisode).settings = s.settings := by
  unfold State.abandonEpisode; try dsimp only; 
  repeat' split
  all_goals simp

theorem State.abandonEpisode_sound (s : State) (h : s.Sound) : (s.abandonEpisode).Sound := by
  unfold State.abandonEpisode; try dsimp only
  repeat' split
  all_goals repeat' (first | with_reducible exact h | exact fun _ => rfl | with_reducible apply State.setDeadlines_sound | with_reducible apply State.updPort_sound | with_reducible apply State.Sound.updEntry | with_reducible apply Sound.addHistory | simp only [State.sound_mk, State.sound_fold])

@[simp] theorem State.ccuPowerLow_frame (s : State) :
    (s.ccuPowerLow).pending = s.pending ∧ (s.ccuPowerLow).power = s.power ∧ (s.ccuPowerLow).calendar = s.calendar ∧ (s.ccuPowerLow).settings = s.settings := by
  unfold State.ccuPowerLow; try dsimp only; 
  repeat' split
  all_goals simp

theorem State.ccuPowerLow_sound (s : State) (h : s.Sound) : (s.ccuPowerLow).Sound := by
  unfold State.ccuPowerLow
  have ha := State.abandonEpisode_sound _ (State.callEnd_sound { s with ccu.claims := [] } .powerLow
    (Sound.withClaims h (by simp [OneEach])))
  dsimp only
  split
  · exact State.lineTo_sound _ _ ha
  · exact ha

end Sys2Proof.Machine
end

