-- ==== Sys2Proof/Laws/Fields.lean ====
section
/-! SUPPORT. The shared operations beside the parts of the state that they leave as they are: one lemma for each operation. -/

namespace Sys2Proof.Machine

set_option linter.unusedSimpArgs false
set_option linter.unusedTactic false
set_option linter.unreachableTactic false

@[simp] theorem State.loadT2_keeps (s : State) (use : T2Use) (ms : Nat) (restart : RestartSource) :
    (s.loadT2 use ms restart).ccu.line = s.ccu.line ∧
    (s.loadT2 use ms restart).ccu.call = s.ccu.call ∧
    (s.loadT2 use ms restart).ccu.dialler = s.ccu.dialler ∧
    (s.loadT2 use ms restart).ccu.lastNumber = s.ccu.lastNumber ∧
    (s.loadT2 use ms restart).ccu.ending = s.ccu.ending ∧
    (s.loadT2 use ms restart).ccu.blind = s.ccu.blind ∧
    (s.loadT2 use ms restart).ccu.claims = s.ccu.claims ∧
    (s.loadT2 use ms restart).ccu.history = s.ccu.history ∧
    (s.loadT2 use ms restart).timers.e0 = s.timers.e0 ∧
    (s.loadT2 use ms restart).timers.e1 = s.timers.e1 ∧
    (s.loadT2 use ms restart).timers.e3 = s.timers.e3 ∧
    (s.loadT2 use ms restart).timers.e4 = s.timers.e4 ∧
    (s.loadT2 use ms restart).timers.e5 = s.timers.e5 ∧
    (s.loadT2 use ms restart).timers.e6 = s.timers.e6 ∧
    (s.loadT2 use ms restart).timers.e7 = s.timers.e7 := by
  unfold State.loadT2; try dsimp only
  repeat' split
  all_goals simp

@[simp] theorem State.stopT2_keeps (s : State) :
    (s.stopT2).ccu.line = s.ccu.line ∧
    (s.stopT2).ccu.call = s.ccu.call ∧
    (s.stopT2).ccu.dialler = s.ccu.dialler ∧
    (s.stopT2).ccu.lastNumber = s.ccu.lastNumber ∧
    (s.stopT2).ccu.ending = s.ccu.ending ∧
    (s.stopT2).ccu.blind = s.ccu.blind ∧
    (s.stopT2).ccu.claims = s.ccu.claims ∧
    (s.stopT2).ccu.history = s.ccu.history ∧
    (s.stopT2).timers.e0 = s.timers.e0 ∧
    (s.stopT2).timers.e1 = s.timers.e1 ∧
    (s.stopT2).timers.e3 = s.timers.e3 ∧
    (s.stopT2).timers.e4 = s.timers.e4 ∧
    (s.stopT2).timers.e5 = s.timers.e5 ∧
    (s.stopT2).timers.e6 = s.timers.e6 ∧
    (s.stopT2).timers.e7 = s.timers.e7 := by
  unfold State.stopT2; try dsimp only
  repeat' split
  all_goals simp

@[simp] theorem State.loadT3_keeps (s : State) (ms : Nat) :
    (s.loadT3 ms).timers.e0 = s.timers.e0 ∧
    (s.loadT3 ms).timers.e1 = s.timers.e1 ∧
    (s.loadT3 ms).timers.e2 = s.timers.e2 ∧
    (s.loadT3 ms).timers.e4 = s.timers.e4 ∧
    (s.loadT3 ms).timers.e5 = s.timers.e5 ∧
    (s.loadT3 ms).timers.e6 = s.timers.e6 ∧
    (s.loadT3 ms).timers.e7 = s.timers.e7 := by
  unfold State.loadT3; try dsimp only
  repeat' split
  all_goals simp

@[simp] theorem State.stopT3_keeps (s : State) :
    (s.stopT3).timers.e0 = s.timers.e0 ∧
    (s.stopT3).timers.e1 = s.timers.e1 ∧
    (s.stopT3).timers.e2 = s.timers.e2 ∧
    (s.stopT3).timers.e4 = s.timers.e4 ∧
    (s.stopT3).timers.e5 = s.timers.e5 ∧
    (s.stopT3).timers.e6 = s.timers.e6 ∧
    (s.stopT3).timers.e7 = s.timers.e7 := by
  unfold State.stopT3; try dsimp only
  repeat' split
  all_goals simp

@[simp] theorem State.loadT4_keeps (s : State) :
    (s.loadT4).timers.e0 = s.timers.e0 ∧
    (s.loadT4).timers.e1 = s.timers.e1 ∧
    (s.loadT4).timers.e2 = s.timers.e2 ∧
    (s.loadT4).timers.e3 = s.timers.e3 ∧
    (s.loadT4).timers.e5 = s.timers.e5 ∧
    (s.loadT4).timers.e6 = s.timers.e6 ∧
    (s.loadT4).timers.e7 = s.timers.e7 := by
  unfold State.loadT4; try dsimp only
  repeat' split
  all_goals simp

@[simp] theorem State.stopT4_keeps (s : State) :
    (s.stopT4).timers.e0 = s.timers.e0 ∧
    (s.stopT4).timers.e1 = s.timers.e1 ∧
    (s.stopT4).timers.e2 = s.timers.e2 ∧
    (s.stopT4).timers.e3 = s.timers.e3 ∧
    (s.stopT4).timers.e5 = s.timers.e5 ∧
    (s.stopT4).timers.e6 = s.timers.e6 ∧
    (s.stopT4).timers.e7 = s.timers.e7 := by
  unfold State.stopT4; try dsimp only
  repeat' split
  all_goals simp

@[simp] theorem State.loadT5_keeps (s : State) :
    (s.loadT5).timers.e0 = s.timers.e0 ∧
    (s.loadT5).timers.e1 = s.timers.e1 ∧
    (s.loadT5).timers.e2 = s.timers.e2 ∧
    (s.loadT5).timers.e3 = s.timers.e3 ∧
    (s.loadT5).timers.e4 = s.timers.e4 ∧
    (s.loadT5).timers.e6 = s.timers.e6 ∧
    (s.loadT5).timers.e7 = s.timers.e7 := by
  unfold State.loadT5; try dsimp only
  repeat' split
  all_goals simp

@[simp] theorem State.stopT5_keeps (s : State) :
    (s.stopT5).timers.e0 = s.timers.e0 ∧
    (s.stopT5).timers.e1 = s.timers.e1 ∧
    (s.stopT5).timers.e2 = s.timers.e2 ∧
    (s.stopT5).timers.e3 = s.timers.e3 ∧
    (s.stopT5).timers.e4 = s.timers.e4 ∧
    (s.stopT5).timers.e6 = s.timers.e6 ∧
    (s.stopT5).timers.e7 = s.timers.e7 := by
  unfold State.stopT5; try dsimp only
  repeat' split
  all_goals simp

@[simp] theorem State.loadT6_keeps (s : State) (path : AudioPath) :
    (s.loadT6 path).timers.e0 = s.timers.e0 ∧
    (s.loadT6 path).timers.e1 = s.timers.e1 ∧
    (s.loadT6 path).timers.e2 = s.timers.e2 ∧
    (s.loadT6 path).timers.e3 = s.timers.e3 ∧
    (s.loadT6 path).timers.e4 = s.timers.e4 ∧
    (s.loadT6 path).timers.e5 = s.timers.e5 ∧
    (s.loadT6 path).timers.e7 = s.timers.e7 := by
  unfold State.loadT6; try dsimp only
  repeat' split
  all_goals simp

@[simp] theorem State.stopT6_keeps (s : State) :
    (s.stopT6).timers.e0 = s.timers.e0 ∧
    (s.stopT6).timers.e1 = s.timers.e1 ∧
    (s.stopT6).timers.e2 = s.timers.e2 ∧
    (s.stopT6).timers.e3 = s.timers.e3 ∧
    (s.stopT6).timers.e4 = s.timers.e4 ∧
    (s.stopT6).timers.e5 = s.timers.e5 ∧
    (s.stopT6).timers.e7 = s.timers.e7 := by
  unfold State.stopT6; try dsimp only
  repeat' split
  all_goals simp

@[simp] theorem State.loadT0_keeps (s : State) (use : OutputUse) (owner : TimerOwner) (a b : Nat) (stopB : Bool) :
    (s.loadT0 use owner a b stopB).timers.e1 = s.timers.e1 ∧
    (s.loadT0 use owner a b stopB).timers.e2 = s.timers.e2 ∧
    (s.loadT0 use owner a b stopB).timers.e3 = s.timers.e3 ∧
    (s.loadT0 use owner a b stopB).timers.e4 = s.timers.e4 ∧
    (s.loadT0 use owner a b stopB).timers.e5 = s.timers.e5 ∧
    (s.loadT0 use owner a b stopB).timers.e6 = s.timers.e6 ∧
    (s.loadT0 use owner a b stopB).timers.e7 = s.timers.e7 := by
  unfold State.loadT0; try dsimp only
  repeat' split
  all_goals simp

@[simp] theorem State.stopT0_keeps (s : State) :
    (s.stopT0).timers.e1 = s.timers.e1 ∧
    (s.stopT0).timers.e2 = s.timers.e2 ∧
    (s.stopT0).timers.e3 = s.timers.e3 ∧
    (s.stopT0).timers.e4 = s.timers.e4 ∧
    (s.stopT0).timers.e5 = s.timers.e5 ∧
    (s.stopT0).timers.e6 = s.timers.e6 ∧
    (s.stopT0).timers.e7 = s.timers.e7 := by
  unfold State.stopT0; try dsimp only
  repeat' split
  all_goals simp

@[simp] theorem State.raiseAt_keeps (s : State) (p : Port) (x : Source) :
    (s.raiseAt p x).ports.system.outgoing = s.ports.system.outgoing ∧
    (s.raiseAt p x).ports.system.digits = s.ports.system.digits ∧
    (s.raiseAt p x).ports.system.transfer = s.ports.system.transfer ∧
    (s.raiseAt p x).ports.system.alerts = s.ports.system.alerts ∧
    (s.raiseAt p x).ports.panel.outgoing = s.ports.panel.outgoing ∧
    (s.raiseAt p x).ports.panel.digits = s.ports.panel.digits ∧
    (s.raiseAt p x).ports.panel.transfer = s.ports.panel.transfer ∧
    (s.raiseAt p x).ports.panel.alerts = s.ports.panel.alerts := by
  cases p <;> unfold State.raiseAt <;> (try dsimp only) <;> (repeat' split) <;> first | (simp; done) | simp [State.updPort, PerPort.set, State.port, PerPort.get]

@[simp] theorem State.raiseBoth_keeps (s : State) (x : Source) :
    (s.raiseBoth x).ports.system.outgoing = s.ports.system.outgoing ∧
    (s.raiseBoth x).ports.system.digits = s.ports.system.digits ∧
    (s.raiseBoth x).ports.system.transfer = s.ports.system.transfer ∧
    (s.raiseBoth x).ports.system.alerts = s.ports.system.alerts ∧
    (s.raiseBoth x).ports.panel.outgoing = s.ports.panel.outgoing ∧
    (s.raiseBoth x).ports.panel.digits = s.ports.panel.digits ∧
    (s.raiseBoth x).ports.panel.transfer = s.ports.panel.transfer ∧
    (s.raiseBoth x).ports.panel.alerts = s.ports.panel.alerts := by
  unfold State.raiseBoth; try dsimp only
  repeat' split
  all_goals simp

@[simp] theorem State.raiseParty_keeps (s : State) (party : Option Party) (x : Source) :
    (s.raiseParty party x).ccu = s.ccu ∧
    (s.raiseParty party x).lif = s.lif ∧
    (s.raiseParty party x).timers = s.timers ∧
    (s.raiseParty party x).tone = s.tone ∧
    (s.raiseParty party x).rau = s.rau ∧
    (s.raiseParty party x).level = s.level ∧
    (s.raiseParty party x).pump = s.pump ∧
    (s.raiseParty party x).link = s.link ∧
    (s.raiseParty party x).fax = s.fax ∧
    (s.raiseParty party x).voice = s.voice ∧
    (s.raiseParty party x).store = s.store ∧
    (s.raiseParty party x).ports.system.outgoing = s.ports.system.outgoing ∧
    (s.raiseParty party x).ports.system.digits = s.ports.system.digits ∧
    (s.raiseParty party x).ports.system.transfer = s.ports.system.transfer ∧
    (s.raiseParty party x).ports.system.alerts = s.ports.system.alerts ∧
    (s.raiseParty party x).ports.panel.outgoing = s.ports.panel.outgoing ∧
    (s.raiseParty party x).ports.panel.digits = s.ports.panel.digits ∧
    (s.raiseParty party x).ports.panel.transfer = s.ports.panel.transfer ∧
    (s.raiseParty party x).ports.panel.alerts = s.ports.panel.alerts ∧
    (s.raiseParty party x).sys = s.sys ∧
    (s.raiseParty party x).pan = s.pan := by
  unfold State.raiseParty; try dsimp only
  repeat' split
  all_goals simp

@[simp] theorem State.raiseHolder_keeps (s : State) (x : Source) :
    (s.raiseHolder x).ccu = s.ccu ∧
    (s.raiseHolder x).lif = s.lif ∧
    (s.raiseHolder x).timers = s.timers ∧
    (s.raiseHolder x).tone = s.tone ∧
    (s.raiseHolder x).rau = s.rau ∧
    (s.raiseHolder x).level = s.level ∧
    (s.raiseHolder x).pump = s.pump ∧
    (s.raiseHolder x).link = s.link ∧
    (s.raiseHolder x).fax = s.fax ∧
    (s.raiseHolder x).voice = s.voice ∧
    (s.raiseHolder x).store = s.store ∧
    (s.raiseHolder x).ports.system.outgoing = s.ports.system.outgoing ∧
    (s.raiseHolder x).ports.system.digits = s.ports.system.digits ∧
    (s.raiseHolder x).ports.system.transfer = s.ports.system.transfer ∧
    (s.raiseHolder x).ports.system.alerts = s.ports.system.alerts ∧
    (s.raiseHolder x).ports.panel.outgoing = s.ports.panel.outgoing ∧
    (s.raiseHolder x).ports.panel.digits = s.ports.panel.digits ∧
    (s.raiseHolder x).ports.panel.transfer = s.ports.panel.transfer ∧
    (s.raiseHolder x).ports.panel.alerts = s.ports.panel.alerts ∧
    (s.raiseHolder x).sys = s.sys ∧
    (s.raiseHolder x).pan = s.pan := by
  unfold State.raiseHolder; try dsimp only
  repeat' split
  all_goals simp

@[simp] theorem State.send_keeps (s : State) (p : Port) (a : Answer) :
    (s.send p a).ports.system.notices = s.ports.system.notices ∧
    (s.send p a).ports.system.digits = s.ports.system.digits ∧
    (s.send p a).ports.system.transfer = s.ports.system.transfer ∧
    (s.send p a).ports.system.alerts = s.ports.system.alerts ∧
    (s.send p a).ports.panel.notices = s.ports.panel.notices ∧
    (s.send p a).ports.panel.digits = s.ports.panel.digits ∧
    (s.send p a).ports.panel.transfer = s.ports.panel.transfer ∧
    (s.send p a).ports.panel.alerts = s.ports.panel.alerts := by
  cases p <;> unfold State.send <;> (try dsimp only) <;> (repeat' split) <;> first | (simp; done) | simp [State.updPort, PerPort.set, State.port, PerPort.get]

@[simp] theorem State.reply_keeps (s : State) (p : Port) (code : Byte) (r : Reply) :
    (s.reply p code r).ports.system.notices = s.ports.system.notices ∧
    (s.reply p code r).ports.system.digits = s.ports.system.digits ∧
    (s.reply p code r).ports.system.transfer = s.ports.system.transfer ∧
    (s.reply p code r).ports.system.alerts = s.ports.system.alerts ∧
    (s.reply p code r).ports.panel.notices = s.ports.panel.notices ∧
    (s.reply p code r).ports.panel.digits = s.ports.panel.digits ∧
    (s.reply p code r).ports.panel.transfer = s.ports.panel.transfer ∧
    (s.reply p code r).ports.panel.alerts = s.ports.panel.alerts := by
  cases p <;> unfold State.reply <;> (try dsimp only) <;> (repeat' split) <;> first | (simp; done) | simp [State.updPort, PerPort.set, State.port, PerPort.get]

@[simp] theorem State.busyAnswer_keeps (s : State) (p : Port) (code : Byte) :
    (s.busyAnswer p code).ccu = s.ccu ∧
    (s.busyAnswer p code).lif = s.lif ∧
    (s.busyAnswer p code).timers = s.timers ∧
    (s.busyAnswer p code).tone = s.tone ∧
    (s.busyAnswer p code).rau = s.rau ∧
    (s.busyAnswer p code).level = s.level ∧
    (s.busyAnswer p code).pump = s.pump ∧
    (s.busyAnswer p code).link = s.link ∧
    (s.busyAnswer p code).fax = s.fax ∧
    (s.busyAnswer p code).voice = s.voice ∧
    (s.busyAnswer p code).store = s.store ∧
    (s.busyAnswer p code).ports.system.notices = s.ports.system.notices ∧
    (s.busyAnswer p code).ports.system.digits = s.ports.system.digits ∧
    (s.busyAnswer p code).ports.system.transfer = s.ports.system.transfer ∧
    (s.busyAnswer p code).ports.system.alerts = s.ports.system.alerts ∧
    (s.busyAnswer p code).ports.panel.notices = s.ports.panel.notices ∧
    (s.busyAnswer p code).ports.panel.digits = s.ports.panel.digits ∧
    (s.busyAnswer p code).ports.panel.transfer = s.ports.panel.transfer ∧
    (s.busyAnswer p code).ports.panel.alerts = s.ports.panel.alerts ∧
    (s.busyAnswer p code).sys = s.sys ∧
    (s.busyAnswer p code).pan = s.pan := by
  cases p <;> unfold State.busyAnswer <;> (try dsimp only) <;> (repeat' split) <;> first | (simp; done) | simp [State.updPort, PerPort.set, State.port, PerPort.get]

@[simp] theorem State.recordAlert_keeps (s : State) (k : AlertKind) (p : Port) :
    (s.recordAlert k p).ports.system.outgoing = s.ports.system.outgoing ∧
    (s.recordAlert k p).ports.system.notices = s.ports.system.notices ∧
    (s.recordAlert k p).ports.system.digits = s.ports.system.digits ∧
    (s.recordAlert k p).ports.system.transfer = s.ports.system.transfer ∧
    (s.recordAlert k p).ports.panel.outgoing = s.ports.panel.outgoing ∧
    (s.recordAlert k p).ports.panel.notices = s.ports.panel.notices ∧
    (s.recordAlert k p).ports.panel.digits = s.ports.panel.digits ∧
    (s.recordAlert k p).ports.panel.transfer = s.ports.panel.transfer := by
  cases p <;> unfold State.recordAlert <;> (try dsimp only) <;> (repeat' split) <;> first | (simp; done) | simp [State.updPort, PerPort.set, State.port, PerPort.get]

@[simp] theorem State.storeAlert_keeps (s : State) (k : AlertKind) :
    (s.storeAlert k).ports.system.outgoing = s.ports.system.outgoing ∧
    (s.storeAlert k).ports.system.digits = s.ports.system.digits ∧
    (s.storeAlert k).ports.system.transfer = s.ports.system.transfer ∧
    (s.storeAlert k).ports.panel.outgoing = s.ports.panel.outgoing ∧
    (s.storeAlert k).ports.panel.digits = s.ports.panel.digits ∧
    (s.storeAlert k).ports.panel.transfer = s.ports.panel.transfer := by
  unfold State.storeAlert; try dsimp only
  repeat' split
  all_goals simp

@[simp] theorem State.judgeLow_keeps (s : State) :
    (s.judgeLow).ccu = s.ccu ∧
    (s.judgeLow).lif = s.lif ∧
    (s.judgeLow).timers = s.timers ∧
    (s.judgeLow).tone = s.tone ∧
    (s.judgeLow).rau = s.rau ∧
    (s.judgeLow).level = s.level ∧
    (s.judgeLow).pump = s.pump ∧
    (s.judgeLow).link = s.link ∧
    (s.judgeLow).fax = s.fax ∧
    (s.judgeLow).voice = s.voice ∧
    (s.judgeLow).store.header = s.store.header ∧
    (s.judgeLow).store.installed = s.store.installed ∧
    (s.judgeLow).store.dir = s.store.dir ∧
    (s.judgeLow).store.free = s.store.free ∧
    (s.judgeLow).store.tables = s.store.tables ∧
    (s.judgeLow).store.mem = s.store.mem ∧
    (s.judgeLow).ports.system.outgoing = s.ports.system.outgoing ∧
    (s.judgeLow).ports.system.digits = s.ports.system.digits ∧
    (s.judgeLow).ports.system.transfer = s.ports.system.transfer ∧
    (s.judgeLow).ports.panel.outgoing = s.ports.panel.outgoing ∧
    (s.judgeLow).ports.panel.digits = s.ports.panel.digits ∧
    (s.judgeLow).ports.panel.transfer = s.ports.panel.transfer ∧
    (s.judgeLow).sys = s.sys ∧
    (s.judgeLow).pan = s.pan := by
  unfold State.judgeLow; try dsimp only
  repeat' split
  all_goals simp

@[simp] theorem State.create_keeps (s : State) (kind : MsgKind) (slot : Option Nat) (caller : Bool) :
    ((s.create kind slot caller).1).ccu = s.ccu ∧
    ((s.create kind slot caller).1).lif = s.lif ∧
    ((s.create kind slot caller).1).timers = s.timers ∧
    ((s.create kind slot caller).1).tone = s.tone ∧
    ((s.create kind slot caller).1).rau = s.rau ∧
    ((s.create kind slot caller).1).level = s.level ∧
    ((s.create kind slot caller).1).pump = s.pump ∧
    ((s.create kind slot caller).1).link = s.link ∧
    ((s.create kind slot caller).1).fax = s.fax ∧
    ((s.create kind slot caller).1).voice = s.voice ∧
    ((s.create kind slot caller).1).store.header.signature = s.store.header.signature ∧
    ((s.create kind slot caller).1).store.header.installed = s.store.header.installed ∧
    ((s.create kind slot caller).1).store.header.settings = s.store.header.settings ∧
    ((s.create kind slot caller).1).store.installed = s.store.installed ∧
    ((s.create kind slot caller).1).store.free = s.store.free ∧
    ((s.create kind slot caller).1).store.tables = s.store.tables ∧
    ((s.create kind slot caller).1).store.low = s.store.low ∧
    ((s.create kind slot caller).1).store.mem = s.store.mem ∧
    ((s.create kind slot caller).1).ports.system.outgoing = s.ports.system.outgoing ∧
    ((s.create kind slot caller).1).ports.system.digits = s.ports.system.digits ∧
    ((s.create kind slot caller).1).ports.system.transfer = s.ports.system.transfer ∧
    ((s.create kind slot caller).1).ports.panel.outgoing = s.ports.panel.outgoing ∧
    ((s.create kind slot caller).1).ports.panel.digits = s.ports.panel.digits ∧
    ((s.create kind slot caller).1).ports.panel.transfer = s.ports.panel.transfer ∧
    ((s.create kind slot caller).1).sys = s.sys ∧
    ((s.create kind slot caller).1).pan = s.pan := by
  unfold State.create; try dsimp only
  repeat' split
  all_goals simp

@[simp] theorem State.allocate_keeps (s : State) (id : Nat) :
    ((s.allocate id).1).ccu = s.ccu ∧
    ((s.allocate id).1).lif = s.lif ∧
    ((s.allocate id).1).timers = s.timers ∧
    ((s.allocate id).1).tone = s.tone ∧
    ((s.allocate id).1).rau = s.rau ∧
    ((s.allocate id).1).level = s.level ∧
    ((s.allocate id).1).pump = s.pump ∧
    ((s.allocate id).1).link = s.link ∧
    ((s.allocate id).1).fax = s.fax ∧
    ((s.allocate id).1).voice = s.voice ∧
    ((s.allocate id).1).ports.system.outgoing = s.ports.system.outgoing ∧
    ((s.allocate id).1).ports.system.digits = s.ports.system.digits ∧
    ((s.allocate id).1).ports.system.transfer = s.ports.system.transfer ∧
    ((s.allocate id).1).ports.panel.outgoing = s.ports.panel.outgoing ∧
    ((s.allocate id).1).ports.panel.digits = s.ports.panel.digits ∧
    ((s.allocate id).1).ports.panel.transfer = s.ports.panel.transfer ∧
    ((s.allocate id).1).sys = s.sys ∧
    ((s.allocate id).1).pan = s.pan := by
  unfold State.allocate; try dsimp only
  repeat' split
  all_goals simp

@[simp] theorem State.freeChain_keeps (s : State) (gs : List Nat) :
    (s.freeChain gs).ccu = s.ccu ∧
    (s.freeChain gs).lif = s.lif ∧
    (s.freeChain gs).timers = s.timers ∧
    (s.freeChain gs).tone = s.tone ∧
    (s.freeChain gs).rau = s.rau ∧
    (s.freeChain gs).level = s.level ∧
    (s.freeChain gs).pump = s.pump ∧
    (s.freeChain gs).link = s.link ∧
    (s.freeChain gs).fax = s.fax ∧
    (s.freeChain gs).voice = s.voice ∧
    (s.freeChain gs).store.header = s.store.header ∧
    (s.freeChain gs).store.installed = s.store.installed ∧
    (s.freeChain gs).store.dir = s.store.dir ∧
    (s.freeChain gs).store.tables = s.store.tables ∧
    (s.freeChain gs).store.mem = s.store.mem ∧
    (s.freeChain gs).ports.system.outgoing = s.ports.system.outgoing ∧
    (s.freeChain gs).ports.system.digits = s.ports.system.digits ∧
    (s.freeChain gs).ports.system.transfer = s.ports.system.transfer ∧
    (s.freeChain gs).ports.panel.outgoing = s.ports.panel.outgoing ∧
    (s.freeChain gs).ports.panel.digits = s.ports.panel.digits ∧
    (s.freeChain gs).ports.panel.transfer = s.ports.panel.transfer ∧
    (s.freeChain gs).sys = s.sys ∧
    (s.freeChain gs).pan = s.pan := by
  unfold State.freeChain; try dsimp only
  repeat' split
  all_goals simp

@[simp] theorem State.trim_keeps (s : State) (id len : Nat) :
    (s.trim id len).ccu = s.ccu ∧
    (s.trim id len).lif = s.lif ∧
    (s.trim id len).timers = s.timers ∧
    (s.trim id len).tone = s.tone ∧
    (s.trim id len).rau = s.rau ∧
    (s.trim id len).level = s.level ∧
    (s.trim id len).pump = s.pump ∧
    (s.trim id len).link = s.link ∧
    (s.trim id len).fax = s.fax ∧
    (s.trim id len).voice = s.voice ∧
    (s.trim id len).ports.system.outgoing = s.ports.system.outgoing ∧
    (s.trim id len).ports.system.digits = s.ports.system.digits ∧
    (s.trim id len).ports.system.transfer = s.ports.system.transfer ∧
    (s.trim id len).ports.panel.outgoing = s.ports.panel.outgoing ∧
    (s.trim id len).ports.panel.digits = s.ports.panel.digits ∧
    (s.trim id len).ports.panel.transfer = s.ports.panel.transfer ∧
    (s.trim id len).sys = s.sys ∧
    (s.trim id len).pan = s.pan := by
  unfold State.trim; try dsimp only
  repeat' split
  all_goals simp

@[simp] theorem State.removeEntry_keeps (s : State) (id : Nat) :
    (s.removeEntry id).ccu = s.ccu ∧
    (s.removeEntry id).lif = s.lif ∧
    (s.removeEntry id).timers = s.timers ∧
    (s.removeEntry id).tone = s.tone ∧
    (s.removeEntry id).rau = s.rau ∧
    (s.removeEntry id).level = s.level ∧
    (s.removeEntry id).pump = s.pump ∧
    (s.removeEntry id).link = s.link ∧
    (s.removeEntry id).fax = s.fax ∧
    (s.removeEntry id).voice = s.voice ∧
    (s.removeEntry id).store.header = s.store.header ∧
    (s.removeEntry id).store.installed = s.store.installed ∧
    (s.removeEntry id).store.tables = s.store.tables ∧
    (s.removeEntry id).store.mem = s.store.mem ∧
    (s.removeEntry id).ports.system.outgoing = s.ports.system.outgoing ∧
    (s.removeEntry id).ports.system.digits = s.ports.system.digits ∧
    (s.removeEntry id).ports.system.transfer = s.ports.system.transfer ∧
    (s.removeEntry id).ports.panel.outgoing = s.ports.panel.outgoing ∧
    (s.removeEntry id).ports.panel.digits = s.ports.panel.digits ∧
    (s.removeEntry id).ports.panel.transfer = s.ports.panel.transfer ∧
    (s.removeEntry id).sys = s.sys ∧
    (s.removeEntry id).pan = s.pan := by
  unfold State.removeEntry; try dsimp only
  repeat' split
  all_goals simp

@[simp] theorem State.release_keeps (s : State) (id : Nat) :
    (s.release id).ccu = s.ccu ∧
    (s.release id).lif = s.lif ∧
    (s.release id).timers = s.timers ∧
    (s.release id).tone = s.tone ∧
    (s.release id).rau = s.rau ∧
    (s.release id).level = s.level ∧
    (s.release id).pump = s.pump ∧
    (s.release id).link = s.link ∧
    (s.release id).fax = s.fax ∧
    (s.release id).voice = s.voice ∧
    (s.release id).ports.system.outgoing = s.ports.system.outgoing ∧
    (s.release id).ports.system.digits = s.ports.system.digits ∧
    (s.release id).ports.system.transfer = s.ports.system.transfer ∧
    (s.release id).ports.panel.outgoing = s.ports.panel.outgoing ∧
    (s.release id).ports.panel.digits = s.ports.panel.digits ∧
    (s.release id).ports.panel.transfer = s.ports.panel.transfer ∧
    (s.release id).sys = s.sys ∧
    (s.release id).pan = s.pan := by
  unfold State.release; try dsimp only
  repeat' split
  all_goals simp

@[simp] theorem State.deleteRule_keeps (s : State) (id : Nat) :
    ((s.deleteRule id).1).ccu = s.ccu ∧
    ((s.deleteRule id).1).lif = s.lif ∧
    ((s.deleteRule id).1).timers = s.timers ∧
    ((s.deleteRule id).1).tone = s.tone ∧
    ((s.deleteRule id).1).rau = s.rau ∧
    ((s.deleteRule id).1).level = s.level ∧
    ((s.deleteRule id).1).pump = s.pump ∧
    ((s.deleteRule id).1).link = s.link ∧
    ((s.deleteRule id).1).fax = s.fax ∧
    ((s.deleteRule id).1).voice = s.voice ∧
    ((s.deleteRule id).1).ports.system.outgoing = s.ports.system.outgoing ∧
    ((s.deleteRule id).1).ports.system.digits = s.ports.system.digits ∧
    ((s.deleteRule id).1).ports.system.transfer = s.ports.system.transfer ∧
    ((s.deleteRule id).1).ports.panel.outgoing = s.ports.panel.outgoing ∧
    ((s.deleteRule id).1).ports.panel.digits = s.ports.panel.digits ∧
    ((s.deleteRule id).1).ports.panel.transfer = s.ports.panel.transfer ∧
    ((s.deleteRule id).1).sys = s.sys ∧
    ((s.deleteRule id).1).pan = s.pan := by
  unfold State.deleteRule; try dsimp only
  repeat' split
  all_goals simp

@[simp] theorem State.replaceGreeting_keeps (s : State) (e : Entry) :
    (s.replaceGreeting e).ccu = s.ccu ∧
    (s.replaceGreeting e).lif = s.lif ∧
    (s.replaceGreeting e).timers = s.timers ∧
    (s.replaceGreeting e).tone = s.tone ∧
    (s.replaceGreeting e).rau = s.rau ∧
    (s.replaceGreeting e).level = s.level ∧
    (s.replaceGreeting e).pump = s.pump ∧
    (s.replaceGreeting e).link = s.link ∧
    (s.replaceGreeting e).fax = s.fax ∧
    (s.replaceGreeting e).voice = s.voice ∧
    (s.replaceGreeting e).ports.system.outgoing = s.ports.system.outgoing ∧
    (s.replaceGreeting e).ports.system.digits = s.ports.system.digits ∧
    (s.replaceGreeting e).ports.system.transfer = s.ports.system.transfer ∧
    (s.replaceGreeting e).ports.panel.outgoing = s.ports.panel.outgoing ∧
    (s.replaceGreeting e).ports.panel.digits = s.ports.panel.digits ∧
    (s.replaceGreeting e).ports.panel.transfer = s.ports.panel.transfer ∧
    (s.replaceGreeting e).sys = s.sys ∧
    (s.replaceGreeting e).pan = s.pan := by
  unfold State.replaceGreeting; try dsimp only
  repeat' split
  all_goals simp

@[simp] theorem State.complete_keeps (s : State) (id : Nat) (isNew : Bool) :
    (s.complete id isNew).ccu = s.ccu ∧
    (s.complete id isNew).lif = s.lif ∧
    (s.complete id isNew).timers = s.timers ∧
    (s.complete id isNew).tone = s.tone ∧
    (s.complete id isNew).rau = s.rau ∧
    (s.complete id isNew).level = s.level ∧
    (s.complete id isNew).pump = s.pump ∧
    (s.complete id isNew).link = s.link ∧
    (s.complete id isNew).fax = s.fax ∧
    (s.complete id isNew).voice = s.voice ∧
    (s.complete id isNew).ports.system.outgoing = s.ports.system.outgoing ∧
    (s.complete id isNew).ports.system.digits = s.ports.system.digits ∧
    (s.complete id isNew).ports.system.transfer = s.ports.system.transfer ∧
    (s.complete id isNew).ports.panel.outgoing = s.ports.panel.outgoing ∧
    (s.complete id isNew).ports.panel.digits = s.ports.panel.digits ∧
    (s.complete id isNew).ports.panel.transfer = s.ports.panel.transfer ∧
    (s.complete id isNew).sys = s.sys ∧
    (s.complete id isNew).pan = s.pan := by
  unfold State.complete; try dsimp only
  repeat' split
  all_goals simp

@[simp] theorem State.writeMem_keeps (s : State) (a : Nat) (b : Byte) :
    (s.writeMem a b).store.header = s.store.header ∧
    (s.writeMem a b).store.installed = s.store.installed ∧
    (s.writeMem a b).store.dir = s.store.dir ∧
    (s.writeMem a b).store.free = s.store.free ∧
    (s.writeMem a b).store.tables = s.store.tables ∧
    (s.writeMem a b).store.low = s.store.low := by
  unfold State.writeMem; try dsimp only
  repeat' split
  all_goals simp

@[simp] theorem State.putByte_keeps (s : State) (id : Nat) (b : Byte) :
    (s.putByte id b).ccu = s.ccu ∧
    (s.putByte id b).lif = s.lif ∧
    (s.putByte id b).timers = s.timers ∧
    (s.putByte id b).tone = s.tone ∧
    (s.putByte id b).rau = s.rau ∧
    (s.putByte id b).level = s.level ∧
    (s.putByte id b).pump = s.pump ∧
    (s.putByte id b).link = s.link ∧
    (s.putByte id b).fax = s.fax ∧
    (s.putByte id b).voice = s.voice ∧
    (s.putByte id b).ports = s.ports ∧
    (s.putByte id b).sys = s.sys ∧
    (s.putByte id b).pan = s.pan := by
  unfold State.putByte; try dsimp only
  repeat' split
  all_goals simp

@[simp] theorem State.appendByte_keeps (s : State) (id : Nat) (b : Byte) :
    ((s.appendByte id b).1).ccu = s.ccu ∧
    ((s.appendByte id b).1).lif = s.lif ∧
    ((s.appendByte id b).1).timers = s.timers ∧
    ((s.appendByte id b).1).tone = s.tone ∧
    ((s.appendByte id b).1).rau = s.rau ∧
    ((s.appendByte id b).1).level = s.level ∧
    ((s.appendByte id b).1).pump = s.pump ∧
    ((s.appendByte id b).1).link = s.link ∧
    ((s.appendByte id b).1).fax = s.fax ∧
    ((s.appendByte id b).1).voice = s.voice ∧
    ((s.appendByte id b).1).ports.system.outgoing = s.ports.system.outgoing ∧
    ((s.appendByte id b).1).ports.system.digits = s.ports.system.digits ∧
    ((s.appendByte id b).1).ports.system.transfer = s.ports.system.transfer ∧
    ((s.appendByte id b).1).ports.panel.outgoing = s.ports.panel.outgoing ∧
    ((s.appendByte id b).1).ports.panel.digits = s.ports.panel.digits ∧
    ((s.appendByte id b).1).ports.panel.transfer = s.ports.panel.transfer ∧
    ((s.appendByte id b).1).sys = s.sys ∧
    ((s.appendByte id b).1).pan = s.pan := by
  unfold State.appendByte; try dsimp only
  repeat' split
  all_goals simp

@[simp] theorem State.writeMemAll_keeps (s : State) (a : Nat) (l : List Byte) :
    ((s.writeMemAll a l)).ccu = s.ccu ∧
    ((s.writeMemAll a l)).lif = s.lif ∧
    ((s.writeMemAll a l)).timers = s.timers ∧
    ((s.writeMemAll a l)).tone = s.tone ∧
    ((s.writeMemAll a l)).rau = s.rau ∧
    ((s.writeMemAll a l)).level = s.level ∧
    ((s.writeMemAll a l)).pump = s.pump ∧
    ((s.writeMemAll a l)).link = s.link ∧
    ((s.writeMemAll a l)).fax = s.fax ∧
    ((s.writeMemAll a l)).voice = s.voice ∧
    ((s.writeMemAll a l)).store.header = s.store.header ∧
    ((s.writeMemAll a l)).store.installed = s.store.installed ∧
    ((s.writeMemAll a l)).store.dir = s.store.dir ∧
    ((s.writeMemAll a l)).store.free = s.store.free ∧
    ((s.writeMemAll a l)).store.tables = s.store.tables ∧
    ((s.writeMemAll a l)).store.low = s.store.low ∧
    ((s.writeMemAll a l)).ports = s.ports ∧
    ((s.writeMemAll a l)).sys = s.sys ∧
    ((s.writeMemAll a l)).pan = s.pan := by
  induction l generalizing s a with
  | nil => simp [State.writeMemAll, State.writeBytes]
  | cons b rest ih => simp [State.writeMemAll, ih]

theorem State.writeCode_keeps {s t : State} {id : Nat} {c : CodeByte} (h : s.writeCode id c = some t) :
    (t).ccu = s.ccu ∧
    (t).lif = s.lif ∧
    (t).timers = s.timers ∧
    (t).tone = s.tone ∧
    (t).rau = s.rau ∧
    (t).level = s.level ∧
    (t).pump = s.pump ∧
    (t).link = s.link ∧
    (t).fax = s.fax ∧
    (t).voice.op.state = s.voice.op.state ∧
    (t).voice.op.user = s.voice.op.user ∧
    (t).voice.op.operation = s.voice.op.operation ∧
    (t).voice.op.endpoint = s.voice.op.endpoint ∧
    (t).voice.op.message = s.voice.op.message ∧
    (t).voice.op.kind = s.voice.op.kind ∧
    (t).voice.op.slot = s.voice.op.slot ∧
    (t).voice.op.stopOnDigit = s.voice.op.stopOnDigit ∧
    (t).voice.op.vox = s.voice.op.vox ∧
    (t).voice.op.maxCode = s.voice.op.maxCode ∧
    (t).voice.op.loud = s.voice.op.loud ∧
    (t).voice.op.lastLoud = s.voice.op.lastLoud ∧
    (t).voice.op.pausedOp = s.voice.op.pausedOp ∧
    (t).voice.op.clamps = s.voice.op.clamps ∧
    (t).voice.op.codec = s.voice.op.codec ∧
    (t).voice.op.lowNext = s.voice.op.lowNext ∧
    (t).voice.op.halfByte = s.voice.op.halfByte ∧
    (t).voice.op.waiting = s.voice.op.waiting ∧
    (t).voice.op.inBlock = s.voice.op.inBlock ∧
    (t).voice.op.taken = s.voice.op.taken ∧
    (t).voice.op.blocks = s.voice.op.blocks ∧
    (t).voice.op.lastLoudByte = s.voice.op.lastLoudByte ∧
    (t).voice.op.reason = s.voice.op.reason ∧
    (t).voice.resume = s.voice.resume ∧
    (t).voice.remote = s.voice.remote ∧
    (t).ports = s.ports ∧
    (t).sys = s.sys ∧
    (t).pan = s.pan := by
  unfold State.writeCode at h
  dsimp only at h
  repeat' split at h
  all_goals first | (cases h; done) | (cases h; simp; done) | (cases h; split <;> simp)

@[simp] theorem State.flushCodes_keeps (s : State) (id : Nat) (l : List CodeByte) :
    ((s.flushCodes id l)).ccu = s.ccu ∧
    ((s.flushCodes id l)).lif = s.lif ∧
    ((s.flushCodes id l)).timers = s.timers ∧
    ((s.flushCodes id l)).tone = s.tone ∧
    ((s.flushCodes id l)).rau = s.rau ∧
    ((s.flushCodes id l)).level = s.level ∧
    ((s.flushCodes id l)).pump = s.pump ∧
    ((s.flushCodes id l)).link = s.link ∧
    ((s.flushCodes id l)).fax = s.fax ∧
    ((s.flushCodes id l)).voice.op.state = s.voice.op.state ∧
    ((s.flushCodes id l)).voice.op.user = s.voice.op.user ∧
    ((s.flushCodes id l)).voice.op.operation = s.voice.op.operation ∧
    ((s.flushCodes id l)).voice.op.endpoint = s.voice.op.endpoint ∧
    ((s.flushCodes id l)).voice.op.message = s.voice.op.message ∧
    ((s.flushCodes id l)).voice.op.kind = s.voice.op.kind ∧
    ((s.flushCodes id l)).voice.op.slot = s.voice.op.slot ∧
    ((s.flushCodes id l)).voice.op.stopOnDigit = s.voice.op.stopOnDigit ∧
    ((s.flushCodes id l)).voice.op.vox = s.voice.op.vox ∧
    ((s.flushCodes id l)).voice.op.maxCode = s.voice.op.maxCode ∧
    ((s.flushCodes id l)).voice.op.loud = s.voice.op.loud ∧
    ((s.flushCodes id l)).voice.op.lastLoud = s.voice.op.lastLoud ∧
    ((s.flushCodes id l)).voice.op.pausedOp = s.voice.op.pausedOp ∧
    ((s.flushCodes id l)).voice.op.clamps = s.voice.op.clamps ∧
    ((s.flushCodes id l)).voice.op.codec = s.voice.op.codec ∧
    ((s.flushCodes id l)).voice.op.lowNext = s.voice.op.lowNext ∧
    ((s.flushCodes id l)).voice.op.halfByte = s.voice.op.halfByte ∧
    ((s.flushCodes id l)).voice.op.inBlock = s.voice.op.inBlock ∧
    ((s.flushCodes id l)).voice.op.taken = s.voice.op.taken ∧
    ((s.flushCodes id l)).voice.op.blocks = s.voice.op.blocks ∧
    ((s.flushCodes id l)).voice.op.lastLoudByte = s.voice.op.lastLoudByte ∧
    ((s.flushCodes id l)).voice.op.reason = s.voice.op.reason ∧
    ((s.flushCodes id l)).voice.resume = s.voice.resume ∧
    ((s.flushCodes id l)).voice.remote = s.voice.remote ∧
    ((s.flushCodes id l)).ports = s.ports ∧
    ((s.flushCodes id l)).sys = s.sys ∧
    ((s.flushCodes id l)).pan = s.pan := by
  induction l generalizing s with
  | nil => simp [State.flushCodes]
  | cons c rest ih =>
    unfold State.flushCodes
    split
    · simp [ih, State.writeCode_keeps ‹_›]
    · simp

/-- R156: the judgement of blocks changes the counts of blocks and nothing else of the operation record. -/
theorem VoiceOp.foldl_judgeBlock_keeps (l : List TakenBlock) (o : VoiceOp) :
    (l.foldl VoiceOp.judgeBlock o) =
      { o with loud := (l.foldl VoiceOp.judgeBlock o).loud, lastLoud := (l.foldl VoiceOp.judgeBlock o).lastLoud,
               blocks := (l.foldl VoiceOp.judgeBlock o).blocks,
               lastLoudByte := (l.foldl VoiceOp.judgeBlock o).lastLoudByte } := by
  induction l generalizing o with
  | nil => rfl
  | cons b rest ih =>
    rw [List.foldl_cons, ih]
    unfold VoiceOp.judgeBlock
    split <;> rfl

@[simp] theorem VoiceOp.judgeWritten_keeps (o : VoiceOp) :
    o.judgeWritten.state = o.state ∧ o.judgeWritten.user = o.user ∧ o.judgeWritten.operation = o.operation ∧
    o.judgeWritten.endpoint = o.endpoint ∧ o.judgeWritten.message = o.message ∧ o.judgeWritten.kind = o.kind ∧
    o.judgeWritten.slot = o.slot ∧ o.judgeWritten.offset = o.offset ∧ o.judgeWritten.stopOnDigit = o.stopOnDigit ∧
    o.judgeWritten.vox = o.vox ∧ o.judgeWritten.maxCode = o.maxCode ∧ o.judgeWritten.written = o.written ∧
    o.judgeWritten.pausedOp = o.pausedOp ∧ o.judgeWritten.clamps = o.clamps ∧ o.judgeWritten.codec = o.codec ∧
    o.judgeWritten.lowNext = o.lowNext ∧ o.judgeWritten.halfByte = o.halfByte ∧ o.judgeWritten.waiting = o.waiting ∧
    o.judgeWritten.inBlock = o.inBlock ∧ o.judgeWritten.reason = o.reason := by
  unfold VoiceOp.judgeWritten
  rw [VoiceOp.foldl_judgeBlock_keeps]
  simp

@[simp] theorem State.flushRecording_keeps (s : State) :
    (s.flushRecording).ccu = s.ccu ∧
    (s.flushRecording).lif = s.lif ∧
    (s.flushRecording).timers = s.timers ∧
    (s.flushRecording).tone = s.tone ∧
    (s.flushRecording).rau = s.rau ∧
    (s.flushRecording).level = s.level ∧
    (s.flushRecording).pump = s.pump ∧
    (s.flushRecording).link = s.link ∧
    (s.flushRecording).fax = s.fax ∧
    (s.flushRecording).voice.op.state = s.voice.op.state ∧
    (s.flushRecording).voice.op.user = s.voice.op.user ∧
    (s.flushRecording).voice.op.operation = s.voice.op.operation ∧
    (s.flushRecording).voice.op.endpoint = s.voice.op.endpoint ∧
    (s.flushRecording).voice.op.message = s.voice.op.message ∧
    (s.flushRecording).voice.op.kind = s.voice.op.kind ∧
    (s.flushRecording).voice.op.slot = s.voice.op.slot ∧
    (s.flushRecording).voice.op.stopOnDigit = s.voice.op.stopOnDigit ∧
    (s.flushRecording).voice.op.vox = s.voice.op.vox ∧
    (s.flushRecording).voice.op.maxCode = s.voice.op.maxCode ∧
    (s.flushRecording).voice.op.pausedOp = s.voice.op.pausedOp ∧
    (s.flushRecording).voice.op.clamps = s.voice.op.clamps ∧
    (s.flushRecording).voice.op.codec = s.voice.op.codec ∧
    (s.flushRecording).voice.op.lowNext = s.voice.op.lowNext ∧
    (s.flushRecording).voice.op.halfByte = s.voice.op.halfByte ∧
    (s.flushRecording).voice.op.inBlock = s.voice.op.inBlock ∧
    (s.flushRecording).voice.op.reason = s.voice.op.reason ∧
    (s.flushRecording).voice.resume = s.voice.resume ∧
    (s.flushRecording).voice.remote = s.voice.remote ∧
    (s.flushRecording).ports = s.ports ∧
    (s.flushRecording).sys = s.sys ∧
    (s.flushRecording).pan = s.pan := by
  unfold State.flushRecording; try dsimp only
  repeat' split
  all_goals simp

@[simp] theorem State.recordFrom_keeps (s : State) (path : AudioPath) (m : PathMeter) (xs : List Sample) (level : Option Nat) :
    (s.recordFrom path m xs level).ccu = s.ccu ∧
    (s.recordFrom path m xs level).lif = s.lif ∧
    (s.recordFrom path m xs level).timers = s.timers ∧
    (s.recordFrom path m xs level).tone = s.tone ∧
    (s.recordFrom path m xs level).rau = s.rau ∧
    (s.recordFrom path m xs level).level = s.level ∧
    (s.recordFrom path m xs level).pump = s.pump ∧
    (s.recordFrom path m xs level).link = s.link ∧
    (s.recordFrom path m xs level).fax = s.fax ∧
    (s.recordFrom path m xs level).voice.resume = s.voice.resume ∧
    (s.recordFrom path m xs level).voice.remote = s.voice.remote ∧
    (s.recordFrom path m xs level).ports = s.ports ∧
    (s.recordFrom path m xs level).sys = s.sys ∧
    (s.recordFrom path m xs level).pan = s.pan := by
  unfold State.recordFrom; try dsimp only
  repeat' split
  all_goals simp

@[simp] theorem State.closeHalfByte_keeps (s : State) :
    (s.closeHalfByte).ccu = s.ccu ∧
    (s.closeHalfByte).lif = s.lif ∧
    (s.closeHalfByte).timers = s.timers ∧
    (s.closeHalfByte).tone = s.tone ∧
    (s.closeHalfByte).rau = s.rau ∧
    (s.closeHalfByte).level = s.level ∧
    (s.closeHalfByte).pump.mode = s.pump.mode ∧
    (s.closeHalfByte).pump.role = s.pump.role ∧
    (s.closeHalfByte).pump.phase = s.pump.phase ∧
    (s.closeHalfByte).pump.localCeiling = s.pump.localCeiling ∧
    (s.closeHalfByte).pump.localFloor = s.pump.localFloor ∧
    (s.closeHalfByte).pump.peerMax = s.pump.peerMax ∧
    (s.closeHalfByte).pump.negCeiling = s.pump.negCeiling ∧
    (s.closeHalfByte).pump.negFloor = s.pump.negFloor ∧
    (s.closeHalfByte).pump.below = s.pump.below ∧
    (s.closeHalfByte).pump.above = s.pump.above ∧
    (s.closeHalfByte).pump.retrains = s.pump.retrains ∧
    (s.closeHalfByte).pump.linkStarted = s.pump.linkStarted ∧
    (s.closeHalfByte).pump.request = s.pump.request ∧
    (s.closeHalfByte).pump.answerTone = s.pump.answerTone ∧
    (s.closeHalfByte).pump.heardMax = s.pump.heardMax ∧
    (s.closeHalfByte).pump.heardAck = s.pump.heardAck ∧
    (s.closeHalfByte).pump.stage = s.pump.stage ∧
    (s.closeHalfByte).pump.ownAccept = s.pump.ownAccept ∧
    (s.closeHalfByte).pump.farAccept = s.pump.farAccept ∧
    (s.closeHalfByte).pump.confirmed = s.pump.confirmed ∧
    (s.closeHalfByte).link.mode = s.link.mode ∧
    (s.closeHalfByte).link.paused = s.link.paused ∧
    (s.closeHalfByte).link.attempts = s.link.attempts ∧
    (s.closeHalfByte).link.windowSize = s.link.windowSize ∧
    (s.closeHalfByte).link.payloadSize = s.link.payloadSize ∧
    (s.closeHalfByte).link.vs = s.link.vs ∧
    (s.closeHalfByte).link.window = s.link.window ∧
    (s.closeHalfByte).link.resendMark = s.link.resendMark ∧
    (s.closeHalfByte).link.retries = s.link.retries ∧
    (s.closeHalfByte).link.peerBusy = s.link.peerBusy ∧
    (s.closeHalfByte).link.vr = s.link.vr ∧
    (s.closeHalfByte).link.rejectFlag = s.link.rejectFlag ∧
    (s.closeHalfByte).link.ackOwed = s.link.ackOwed ∧
    (s.closeHalfByte).link.busyAckOwed = s.link.busyAckOwed ∧
    (s.closeHalfByte).link.ownBusy = s.link.ownBusy ∧
    (s.closeHalfByte).link.rejectOwed = s.link.rejectOwed ∧
    (s.closeHalfByte).link.clearOwed = s.link.clearOwed ∧
    (s.closeHalfByte).link.reqDue = s.link.reqDue ∧
    (s.closeHalfByte).link.confDue = s.link.confDue ∧
    (s.closeHalfByte).link.confSetup = s.link.confSetup ∧
    (s.closeHalfByte).link.peerOffer = s.link.peerOffer ∧
    (s.closeHalfByte).link.byFarEnd = s.link.byFarEnd ∧
    (s.closeHalfByte).link.policy = s.link.policy ∧
    (s.closeHalfByte).link.offer = s.link.offer ∧
    (s.closeHalfByte).link.stats = s.link.stats ∧
    (s.closeHalfByte).link.outbound = s.link.outbound ∧
    (s.closeHalfByte).link.inbound = s.link.inbound ∧
    (s.closeHalfByte).fax = s.fax ∧
    (s.closeHalfByte).voice.op.state = s.voice.op.state ∧
    (s.closeHalfByte).voice.op.user = s.voice.op.user ∧
    (s.closeHalfByte).voice.op.operation = s.voice.op.operation ∧
    (s.closeHalfByte).voice.op.endpoint = s.voice.op.endpoint ∧
    (s.closeHalfByte).voice.op.message = s.voice.op.message ∧
    (s.closeHalfByte).voice.op.kind = s.voice.op.kind ∧
    (s.closeHalfByte).voice.op.slot = s.voice.op.slot ∧
    (s.closeHalfByte).voice.op.stopOnDigit = s.voice.op.stopOnDigit ∧
    (s.closeHalfByte).voice.op.vox = s.voice.op.vox ∧
    (s.closeHalfByte).voice.op.maxCode = s.voice.op.maxCode ∧
    (s.closeHalfByte).voice.op.pausedOp = s.voice.op.pausedOp ∧
    (s.closeHalfByte).voice.op.clamps = s.voice.op.clamps ∧
    (s.closeHalfByte).voice.op.codec = s.voice.op.codec ∧
    (s.closeHalfByte).voice.op.lowNext = s.voice.op.lowNext ∧
    (s.closeHalfByte).voice.op.inBlock = s.voice.op.inBlock ∧
    (s.closeHalfByte).voice.op.reason = s.voice.op.reason ∧
    (s.closeHalfByte).voice.resume = s.voice.resume ∧
    (s.closeHalfByte).voice.remote = s.voice.remote ∧
    (s.closeHalfByte).ports = s.ports ∧
    (s.closeHalfByte).sys = s.sys ∧
    (s.closeHalfByte).pan = s.pan := by
  unfold State.closeHalfByte; try dsimp only
  repeat' split
  all_goals simp

@[simp] theorem State.keepRecording_keeps (s : State) (id : Nat) (kind : MsgKind) (ofCall : Bool) :
    (s.keepRecording id kind ofCall).ccu.line = s.ccu.line ∧
    (s.keepRecording id kind ofCall).ccu.call.active = s.ccu.call.active ∧
    (s.keepRecording id kind ofCall).ccu.call.number = s.ccu.call.number ∧
    (s.keepRecording id kind ofCall).ccu.call.direction = s.ccu.call.direction ∧
    (s.keepRecording id kind ofCall).ccu.call.holder = s.ccu.call.holder ∧
    (s.keepRecording id kind ofCall).ccu.call.job = s.ccu.call.job ∧
    (s.keepRecording id kind ofCall).ccu.call.phase = s.ccu.call.phase ∧
    (s.keepRecording id kind ofCall).ccu.call.dialList = s.ccu.call.dialList ∧
    (s.keepRecording id kind ofCall).ccu.call.farEndRinging = s.ccu.call.farEndRinging ∧
    (s.keepRecording id kind ofCall).ccu.call.callerStatus = s.ccu.call.callerStatus ∧
    (s.keepRecording id kind ofCall).ccu.call.callerNumber = s.ccu.call.callerNumber ∧
    (s.keepRecording id kind ofCall).ccu.call.callerName = s.ccu.call.callerName ∧
    (s.keepRecording id kind ofCall).ccu.call.ringPattern = s.ccu.call.ringPattern ∧
    (s.keepRecording id kind ofCall).ccu.call.ringCount = s.ccu.call.ringCount ∧
    (s.keepRecording id kind ofCall).ccu.call.startTime = s.ccu.call.startTime ∧
    (s.keepRecording id kind ofCall).ccu.call.rung = s.ccu.call.rung ∧
    (s.keepRecording id kind ofCall).ccu.call.lastQuality = s.ccu.call.lastQuality ∧
    (s.keepRecording id kind ofCall).ccu.call.seconds = s.ccu.call.seconds ∧
    (s.keepRecording id kind ofCall).ccu.call.cause = s.ccu.call.cause ∧
    (s.keepRecording id kind ofCall).ccu.dialler = s.ccu.dialler ∧
    (s.keepRecording id kind ofCall).ccu.lastNumber = s.ccu.lastNumber ∧
    (s.keepRecording id kind ofCall).ccu.ending = s.ccu.ending ∧
    (s.keepRecording id kind ofCall).ccu.blind = s.ccu.blind ∧
    (s.keepRecording id kind ofCall).ccu.claims = s.ccu.claims ∧
    (s.keepRecording id kind ofCall).ccu.history = s.ccu.history ∧
    (s.keepRecording id kind ofCall).ccu.t2Use = s.ccu.t2Use ∧
    (s.keepRecording id kind ofCall).lif = s.lif ∧
    (s.keepRecording id kind ofCall).timers = s.timers ∧
    (s.keepRecording id kind ofCall).tone = s.tone ∧
    (s.keepRecording id kind ofCall).rau = s.rau ∧
    (s.keepRecording id kind ofCall).level = s.level ∧
    (s.keepRecording id kind ofCall).pump = s.pump ∧
    (s.keepRecording id kind ofCall).link = s.link ∧
    (s.keepRecording id kind ofCall).fax = s.fax ∧
    (s.keepRecording id kind ofCall).voice = s.voice ∧
    (s.keepRecording id kind ofCall).ports.system.outgoing = s.ports.system.outgoing ∧
    (s.keepRecording id kind ofCall).ports.system.digits = s.ports.system.digits ∧
    (s.keepRecording id kind ofCall).ports.system.transfer = s.ports.system.transfer ∧
    (s.keepRecording id kind ofCall).ports.panel.outgoing = s.ports.panel.outgoing ∧
    (s.keepRecording id kind ofCall).ports.panel.digits = s.ports.panel.digits ∧
    (s.keepRecording id kind ofCall).ports.panel.transfer = s.ports.panel.transfer ∧
    (s.keepRecording id kind ofCall).sys = s.sys ∧
    (s.keepRecording id kind ofCall).pan = s.pan := by
  unfold State.keepRecording; try dsimp only
  repeat' split
  all_goals simp

@[simp] theorem State.keepRules_keeps (s : State) :
    ((s.keepRules).1).ccu.line = s.ccu.line ∧
    ((s.keepRules).1).ccu.call.active = s.ccu.call.active ∧
    ((s.keepRules).1).ccu.call.number = s.ccu.call.number ∧
    ((s.keepRules).1).ccu.call.direction = s.ccu.call.direction ∧
    ((s.keepRules).1).ccu.call.holder = s.ccu.call.holder ∧
    ((s.keepRules).1).ccu.call.job = s.ccu.call.job ∧
    ((s.keepRules).1).ccu.call.phase = s.ccu.call.phase ∧
    ((s.keepRules).1).ccu.call.dialList = s.ccu.call.dialList ∧
    ((s.keepRules).1).ccu.call.farEndRinging = s.ccu.call.farEndRinging ∧
    ((s.keepRules).1).ccu.call.callerStatus = s.ccu.call.callerStatus ∧
    ((s.keepRules).1).ccu.call.callerNumber = s.ccu.call.callerNumber ∧
    ((s.keepRules).1).ccu.call.callerName = s.ccu.call.callerName ∧
    ((s.keepRules).1).ccu.call.ringPattern = s.ccu.call.ringPattern ∧
    ((s.keepRules).1).ccu.call.ringCount = s.ccu.call.ringCount ∧
    ((s.keepRules).1).ccu.call.startTime = s.ccu.call.startTime ∧
    ((s.keepRules).1).ccu.call.rung = s.ccu.call.rung ∧
    ((s.keepRules).1).ccu.call.lastQuality = s.ccu.call.lastQuality ∧
    ((s.keepRules).1).ccu.call.seconds = s.ccu.call.seconds ∧
    ((s.keepRules).1).ccu.call.cause = s.ccu.call.cause ∧
    ((s.keepRules).1).ccu.dialler = s.ccu.dialler ∧
    ((s.keepRules).1).ccu.lastNumber = s.ccu.lastNumber ∧
    ((s.keepRules).1).ccu.ending = s.ccu.ending ∧
    ((s.keepRules).1).ccu.blind = s.ccu.blind ∧
    ((s.keepRules).1).ccu.claims = s.ccu.claims ∧
    ((s.keepRules).1).ccu.history = s.ccu.history ∧
    ((s.keepRules).1).ccu.t2Use = s.ccu.t2Use ∧
    ((s.keepRules).1).lif = s.lif ∧
    ((s.keepRules).1).timers.e0 = s.timers.e0 ∧
    ((s.keepRules).1).timers.e1 = s.timers.e1 ∧
    ((s.keepRules).1).timers.e2 = s.timers.e2 ∧
    ((s.keepRules).1).timers.e3 = s.timers.e3 ∧
    ((s.keepRules).1).timers.e4 = s.timers.e4 ∧
    ((s.keepRules).1).timers.e5 = s.timers.e5 ∧
    ((s.keepRules).1).timers.e7 = s.timers.e7 ∧
    ((s.keepRules).1).tone = s.tone ∧
    ((s.keepRules).1).rau = s.rau ∧
    ((s.keepRules).1).level = s.level ∧
    ((s.keepRules).1).pump.mode = s.pump.mode ∧
    ((s.keepRules).1).pump.role = s.pump.role ∧
    ((s.keepRules).1).pump.phase = s.pump.phase ∧
    ((s.keepRules).1).pump.localCeiling = s.pump.localCeiling ∧
    ((s.keepRules).1).pump.localFloor = s.pump.localFloor ∧
    ((s.keepRules).1).pump.peerMax = s.pump.peerMax ∧
    ((s.keepRules).1).pump.negCeiling = s.pump.negCeiling ∧
    ((s.keepRules).1).pump.negFloor = s.pump.negFloor ∧
    ((s.keepRules).1).pump.below = s.pump.below ∧
    ((s.keepRules).1).pump.above = s.pump.above ∧
    ((s.keepRules).1).pump.retrains = s.pump.retrains ∧
    ((s.keepRules).1).pump.linkStarted = s.pump.linkStarted ∧
    ((s.keepRules).1).pump.request = s.pump.request ∧
    ((s.keepRules).1).pump.answerTone = s.pump.answerTone ∧
    ((s.keepRules).1).pump.heardMax = s.pump.heardMax ∧
    ((s.keepRules).1).pump.heardAck = s.pump.heardAck ∧
    ((s.keepRules).1).pump.stage = s.pump.stage ∧
    ((s.keepRules).1).pump.ownAccept = s.pump.ownAccept ∧
    ((s.keepRules).1).pump.farAccept = s.pump.farAccept ∧
    ((s.keepRules).1).pump.confirmed = s.pump.confirmed ∧
    ((s.keepRules).1).link.mode = s.link.mode ∧
    ((s.keepRules).1).link.paused = s.link.paused ∧
    ((s.keepRules).1).link.attempts = s.link.attempts ∧
    ((s.keepRules).1).link.windowSize = s.link.windowSize ∧
    ((s.keepRules).1).link.payloadSize = s.link.payloadSize ∧
    ((s.keepRules).1).link.vs = s.link.vs ∧
    ((s.keepRules).1).link.window = s.link.window ∧
    ((s.keepRules).1).link.resendMark = s.link.resendMark ∧
    ((s.keepRules).1).link.retries = s.link.retries ∧
    ((s.keepRules).1).link.peerBusy = s.link.peerBusy ∧
    ((s.keepRules).1).link.vr = s.link.vr ∧
    ((s.keepRules).1).link.rejectFlag = s.link.rejectFlag ∧
    ((s.keepRules).1).link.ackOwed = s.link.ackOwed ∧
    ((s.keepRules).1).link.busyAckOwed = s.link.busyAckOwed ∧
    ((s.keepRules).1).link.ownBusy = s.link.ownBusy ∧
    ((s.keepRules).1).link.rejectOwed = s.link.rejectOwed ∧
    ((s.keepRules).1).link.clearOwed = s.link.clearOwed ∧
    ((s.keepRules).1).link.reqDue = s.link.reqDue ∧
    ((s.keepRules).1).link.confDue = s.link.confDue ∧
    ((s.keepRules).1).link.confSetup = s.link.confSetup ∧
    ((s.keepRules).1).link.peerOffer = s.link.peerOffer ∧
    ((s.keepRules).1).link.byFarEnd = s.link.byFarEnd ∧
    ((s.keepRules).1).link.policy = s.link.policy ∧
    ((s.keepRules).1).link.offer = s.link.offer ∧
    ((s.keepRules).1).link.stats = s.link.stats ∧
    ((s.keepRules).1).link.outbound = s.link.outbound ∧
    ((s.keepRules).1).link.inbound = s.link.inbound ∧
    ((s.keepRules).1).fax = s.fax ∧
    ((s.keepRules).1).voice.op.state = s.voice.op.state ∧
    ((s.keepRules).1).voice.op.user = s.voice.op.user ∧
    ((s.keepRules).1).voice.op.operation = s.voice.op.operation ∧
    ((s.keepRules).1).voice.op.endpoint = s.voice.op.endpoint ∧
    ((s.keepRules).1).voice.op.kind = s.voice.op.kind ∧
    ((s.keepRules).1).voice.op.slot = s.voice.op.slot ∧
    ((s.keepRules).1).voice.op.stopOnDigit = s.voice.op.stopOnDigit ∧
    ((s.keepRules).1).voice.op.vox = s.voice.op.vox ∧
    ((s.keepRules).1).voice.op.maxCode = s.voice.op.maxCode ∧
    ((s.keepRules).1).voice.op.pausedOp = s.voice.op.pausedOp ∧
    ((s.keepRules).1).voice.op.clamps = s.voice.op.clamps ∧
    ((s.keepRules).1).voice.op.codec = s.voice.op.codec ∧
    ((s.keepRules).1).voice.op.lowNext = s.voice.op.lowNext ∧
    ((s.keepRules).1).voice.op.inBlock = s.voice.op.inBlock ∧
    ((s.keepRules).1).voice.op.reason = s.voice.op.reason ∧
    ((s.keepRules).1).voice.resume = s.voice.resume ∧
    ((s.keepRules).1).voice.remote = s.voice.remote ∧
    ((s.keepRules).1).ports.system.outgoing = s.ports.system.outgoing ∧
    ((s.keepRules).1).ports.system.digits = s.ports.system.digits ∧
    ((s.keepRules).1).ports.system.transfer = s.ports.system.transfer ∧
    ((s.keepRules).1).ports.panel.outgoing = s.ports.panel.outgoing ∧
    ((s.keepRules).1).ports.panel.digits = s.ports.panel.digits ∧
    ((s.keepRules).1).ports.panel.transfer = s.ports.panel.transfer ∧
    ((s.keepRules).1).sys = s.sys ∧
    ((s.keepRules).1).pan = s.pan := by
  unfold State.keepRules; try dsimp only
  repeat' split
  all_goals simp

@[simp] theorem State.loadHeader_keeps (s : State) (id : Nat) :
    (s.loadHeader id).ccu = s.ccu ∧
    (s.loadHeader id).lif = s.lif ∧
    (s.loadHeader id).timers = s.timers ∧
    (s.loadHeader id).tone = s.tone ∧
    (s.loadHeader id).rau = s.rau ∧
    (s.loadHeader id).level = s.level ∧
    (s.loadHeader id).pump = s.pump ∧
    (s.loadHeader id).link = s.link ∧
    (s.loadHeader id).fax = s.fax ∧
    (s.loadHeader id).voice.op.state = s.voice.op.state ∧
    (s.loadHeader id).voice.op.user = s.voice.op.user ∧
    (s.loadHeader id).voice.op.operation = s.voice.op.operation ∧
    (s.loadHeader id).voice.op.endpoint = s.voice.op.endpoint ∧
    (s.loadHeader id).voice.op.message = s.voice.op.message ∧
    (s.loadHeader id).voice.op.kind = s.voice.op.kind ∧
    (s.loadHeader id).voice.op.slot = s.voice.op.slot ∧
    (s.loadHeader id).voice.op.stopOnDigit = s.voice.op.stopOnDigit ∧
    (s.loadHeader id).voice.op.vox = s.voice.op.vox ∧
    (s.loadHeader id).voice.op.maxCode = s.voice.op.maxCode ∧
    (s.loadHeader id).voice.op.written = s.voice.op.written ∧
    (s.loadHeader id).voice.op.loud = s.voice.op.loud ∧
    (s.loadHeader id).voice.op.lastLoud = s.voice.op.lastLoud ∧
    (s.loadHeader id).voice.op.pausedOp = s.voice.op.pausedOp ∧
    (s.loadHeader id).voice.op.clamps = s.voice.op.clamps ∧
    (s.loadHeader id).voice.op.halfByte = s.voice.op.halfByte ∧
    (s.loadHeader id).voice.op.waiting = s.voice.op.waiting ∧
    (s.loadHeader id).voice.op.inBlock = s.voice.op.inBlock ∧
    (s.loadHeader id).voice.op.taken = s.voice.op.taken ∧
    (s.loadHeader id).voice.op.blocks = s.voice.op.blocks ∧
    (s.loadHeader id).voice.op.lastLoudByte = s.voice.op.lastLoudByte ∧
    (s.loadHeader id).voice.op.reason = s.voice.op.reason ∧
    (s.loadHeader id).voice.resume = s.voice.resume ∧
    (s.loadHeader id).voice.remote = s.voice.remote ∧
    (s.loadHeader id).store = s.store ∧
    (s.loadHeader id).ports = s.ports ∧
    (s.loadHeader id).sys = s.sys ∧
    (s.loadHeader id).pan = s.pan := by
  unfold State.loadHeader; try dsimp only
  repeat' split
  all_goals simp

@[simp] theorem State.playSample_keeps (s : State) :
    (s.playSample).ccu = s.ccu ∧
    (s.playSample).lif = s.lif ∧
    (s.playSample).timers = s.timers ∧
    (s.playSample).tone = s.tone ∧
    (s.playSample).rau = s.rau ∧
    (s.playSample).level = s.level ∧
    (s.playSample).pump = s.pump ∧
    (s.playSample).link = s.link ∧
    (s.playSample).fax = s.fax ∧
    (s.playSample).voice.resume = s.voice.resume ∧
    (s.playSample).voice.remote = s.voice.remote ∧
    (s.playSample).store = s.store ∧
    (s.playSample).ports = s.ports ∧
    (s.playSample).sys = s.sys ∧
    (s.playSample).pan = s.pan := by
  unfold State.playSample; try dsimp only
  repeat' split
  all_goals simp

@[simp] theorem State.playSamples_keeps (n : Nat) (s : State) :
    ((State.playSamples n s)).ccu = s.ccu ∧
    ((State.playSamples n s)).lif = s.lif ∧
    ((State.playSamples n s)).timers = s.timers ∧
    ((State.playSamples n s)).tone = s.tone ∧
    ((State.playSamples n s)).rau = s.rau ∧
    ((State.playSamples n s)).level = s.level ∧
    ((State.playSamples n s)).pump = s.pump ∧
    ((State.playSamples n s)).link = s.link ∧
    ((State.playSamples n s)).fax = s.fax ∧
    ((State.playSamples n s)).voice.resume = s.voice.resume ∧
    ((State.playSamples n s)).voice.remote = s.voice.remote ∧
    ((State.playSamples n s)).store = s.store ∧
    ((State.playSamples n s)).ports = s.ports ∧
    ((State.playSamples n s)).sys = s.sys ∧
    ((State.playSamples n s)).pan = s.pan := by
  induction n generalizing s with
  | zero => simp [State.playSamples]
  | succ n ih => simp [State.playSamples, ih]

@[simp] theorem State.playTick_keeps (s : State) :
    (s.playTick).ccu = s.ccu ∧
    (s.playTick).lif = s.lif ∧
    (s.playTick).timers = s.timers ∧
    (s.playTick).tone = s.tone ∧
    (s.playTick).rau = s.rau ∧
    (s.playTick).level = s.level ∧
    (s.playTick).pump = s.pump ∧
    (s.playTick).link = s.link ∧
    (s.playTick).fax = s.fax ∧
    (s.playTick).voice.resume = s.voice.resume ∧
    (s.playTick).voice.remote = s.voice.remote ∧
    (s.playTick).store = s.store ∧
    (s.playTick).ports = s.ports ∧
    (s.playTick).sys = s.sys ∧
    (s.playTick).pan = s.pan := by
  unfold State.playTick; try dsimp only
  repeat' split
  all_goals simp

@[simp] theorem State.startPlay_keeps (s : State) (user : Party) (id offset : Nat) (endpoint : Endpoint) (stopOnDigit : Bool) :
    (s.startPlay user id offset endpoint stopOnDigit).ccu = s.ccu ∧
    (s.startPlay user id offset endpoint stopOnDigit).lif = s.lif ∧
    (s.startPlay user id offset endpoint stopOnDigit).timers = s.timers ∧
    (s.startPlay user id offset endpoint stopOnDigit).tone = s.tone ∧
    (s.startPlay user id offset endpoint stopOnDigit).rau = s.rau ∧
    (s.startPlay user id offset endpoint stopOnDigit).level = s.level ∧
    (s.startPlay user id offset endpoint stopOnDigit).pump = s.pump ∧
    (s.startPlay user id offset endpoint stopOnDigit).link = s.link ∧
    (s.startPlay user id offset endpoint stopOnDigit).fax = s.fax ∧
    (s.startPlay user id offset endpoint stopOnDigit).voice.resume = s.voice.resume ∧
    (s.startPlay user id offset endpoint stopOnDigit).voice.remote = s.voice.remote ∧
    (s.startPlay user id offset endpoint stopOnDigit).ports = s.ports ∧
    (s.startPlay user id offset endpoint stopOnDigit).sys = s.sys ∧
    (s.startPlay user id offset endpoint stopOnDigit).pan = s.pan := by
  unfold State.startPlay; try dsimp only
  repeat' split
  all_goals simp

@[simp] theorem State.startBeep_keeps (s : State) :
    (s.startBeep).voice.resume = s.voice.resume ∧
    (s.startBeep).voice.remote = s.voice.remote := by
  unfold State.startBeep; try dsimp only
  repeat' split
  all_goals simp

@[simp] theorem State.startRecord_keeps (s : State) (user : Party) (kind : MsgKind) (slot : Option Nat) (endpoint : Endpoint) (vox : Bool) (maxSeconds : Nat) :
    ((s.startRecord user kind slot endpoint vox maxSeconds).1).ccu = s.ccu ∧
    ((s.startRecord user kind slot endpoint vox maxSeconds).1).lif = s.lif ∧
    ((s.startRecord user kind slot endpoint vox maxSeconds).1).timers.e0 = s.timers.e0 ∧
    ((s.startRecord user kind slot endpoint vox maxSeconds).1).timers.e1 = s.timers.e1 ∧
    ((s.startRecord user kind slot endpoint vox maxSeconds).1).timers.e2 = s.timers.e2 ∧
    ((s.startRecord user kind slot endpoint vox maxSeconds).1).timers.e3 = s.timers.e3 ∧
    ((s.startRecord user kind slot endpoint vox maxSeconds).1).timers.e4 = s.timers.e4 ∧
    ((s.startRecord user kind slot endpoint vox maxSeconds).1).timers.e5 = s.timers.e5 ∧
    ((s.startRecord user kind slot endpoint vox maxSeconds).1).timers.e7 = s.timers.e7 ∧
    ((s.startRecord user kind slot endpoint vox maxSeconds).1).tone = s.tone ∧
    ((s.startRecord user kind slot endpoint vox maxSeconds).1).rau = s.rau ∧
    ((s.startRecord user kind slot endpoint vox maxSeconds).1).level = s.level ∧
    ((s.startRecord user kind slot endpoint vox maxSeconds).1).pump = s.pump ∧
    ((s.startRecord user kind slot endpoint vox maxSeconds).1).link = s.link ∧
    ((s.startRecord user kind slot endpoint vox maxSeconds).1).fax = s.fax ∧
    ((s.startRecord user kind slot endpoint vox maxSeconds).1).voice.resume = s.voice.resume ∧
    ((s.startRecord user kind slot endpoint vox maxSeconds).1).voice.remote = s.voice.remote ∧
    ((s.startRecord user kind slot endpoint vox maxSeconds).1).store.header.signature = s.store.header.signature ∧
    ((s.startRecord user kind slot endpoint vox maxSeconds).1).store.header.installed = s.store.header.installed ∧
    ((s.startRecord user kind slot endpoint vox maxSeconds).1).store.header.settings = s.store.header.settings ∧
    ((s.startRecord user kind slot endpoint vox maxSeconds).1).store.installed = s.store.installed ∧
    ((s.startRecord user kind slot endpoint vox maxSeconds).1).store.free = s.store.free ∧
    ((s.startRecord user kind slot endpoint vox maxSeconds).1).store.tables = s.store.tables ∧
    ((s.startRecord user kind slot endpoint vox maxSeconds).1).store.low = s.store.low ∧
    ((s.startRecord user kind slot endpoint vox maxSeconds).1).store.mem = s.store.mem ∧
    ((s.startRecord user kind slot endpoint vox maxSeconds).1).ports.system.outgoing = s.ports.system.outgoing ∧
    ((s.startRecord user kind slot endpoint vox maxSeconds).1).ports.system.digits = s.ports.system.digits ∧
    ((s.startRecord user kind slot endpoint vox maxSeconds).1).ports.system.transfer = s.ports.system.transfer ∧
    ((s.startRecord user kind slot endpoint vox maxSeconds).1).ports.panel.outgoing = s.ports.panel.outgoing ∧
    ((s.startRecord user kind slot endpoint vox maxSeconds).1).ports.panel.digits = s.ports.panel.digits ∧
    ((s.startRecord user kind slot endpoint vox maxSeconds).1).ports.panel.transfer = s.ports.panel.transfer ∧
    ((s.startRecord user kind slot endpoint vox maxSeconds).1).sys = s.sys ∧
    ((s.startRecord user kind slot endpoint vox maxSeconds).1).pan = s.pan := by
  have hc := State.create_keeps s kind slot (decide (user = .auto))
  unfold State.startRecord
  try dsimp only
  split <;> rename_i he <;> rw [he] at hc <;> dsimp only at hc <;> (try split) <;> simp [hc]

@[simp] theorem State.saveResume_keeps (s : State) (r : VoiceReason) :
    (s.saveResume r).ccu = s.ccu ∧
    (s.saveResume r).lif = s.lif ∧
    (s.saveResume r).timers = s.timers ∧
    (s.saveResume r).tone = s.tone ∧
    (s.saveResume r).rau = s.rau ∧
    (s.saveResume r).level = s.level ∧
    (s.saveResume r).pump = s.pump ∧
    (s.saveResume r).link = s.link ∧
    (s.saveResume r).fax = s.fax ∧
    (s.saveResume r).voice.op = s.voice.op ∧
    (s.saveResume r).voice.remote = s.voice.remote ∧
    (s.saveResume r).store = s.store ∧
    (s.saveResume r).ports = s.ports ∧
    (s.saveResume r).sys = s.sys ∧
    (s.saveResume r).pan = s.pan := by
  unfold State.saveResume; try dsimp only
  repeat' split
  all_goals simp

@[simp] theorem State.endVoice_keeps (s : State) (r : VoiceReason) :
    ((s.endVoice r).1).ccu.line = s.ccu.line ∧
    ((s.endVoice r).1).ccu.call.active = s.ccu.call.active ∧
    ((s.endVoice r).1).ccu.call.number = s.ccu.call.number ∧
    ((s.endVoice r).1).ccu.call.direction = s.ccu.call.direction ∧
    ((s.endVoice r).1).ccu.call.holder = s.ccu.call.holder ∧
    ((s.endVoice r).1).ccu.call.job = s.ccu.call.job ∧
    ((s.endVoice r).1).ccu.call.phase = s.ccu.call.phase ∧
    ((s.endVoice r).1).ccu.call.dialList = s.ccu.call.dialList ∧
    ((s.endVoice r).1).ccu.call.farEndRinging = s.ccu.call.farEndRinging ∧
    ((s.endVoice r).1).ccu.call.callerStatus = s.ccu.call.callerStatus ∧
    ((s.endVoice r).1).ccu.call.callerNumber = s.ccu.call.callerNumber ∧
    ((s.endVoice r).1).ccu.call.callerName = s.ccu.call.callerName ∧
    ((s.endVoice r).1).ccu.call.ringPattern = s.ccu.call.ringPattern ∧
    ((s.endVoice r).1).ccu.call.ringCount = s.ccu.call.ringCount ∧
    ((s.endVoice r).1).ccu.call.startTime = s.ccu.call.startTime ∧
    ((s.endVoice r).1).ccu.call.rung = s.ccu.call.rung ∧
    ((s.endVoice r).1).ccu.call.lastQuality = s.ccu.call.lastQuality ∧
    ((s.endVoice r).1).ccu.call.seconds = s.ccu.call.seconds ∧
    ((s.endVoice r).1).ccu.call.cause = s.ccu.call.cause ∧
    ((s.endVoice r).1).ccu.dialler = s.ccu.dialler ∧
    ((s.endVoice r).1).ccu.lastNumber = s.ccu.lastNumber ∧
    ((s.endVoice r).1).ccu.ending = s.ccu.ending ∧
    ((s.endVoice r).1).ccu.blind = s.ccu.blind ∧
    ((s.endVoice r).1).ccu.claims = s.ccu.claims ∧
    ((s.endVoice r).1).ccu.history = s.ccu.history ∧
    ((s.endVoice r).1).ccu.t2Use = s.ccu.t2Use ∧
    ((s.endVoice r).1).lif = s.lif ∧
    ((s.endVoice r).1).timers.e0 = s.timers.e0 ∧
    ((s.endVoice r).1).timers.e1 = s.timers.e1 ∧
    ((s.endVoice r).1).timers.e2 = s.timers.e2 ∧
    ((s.endVoice r).1).timers.e3 = s.timers.e3 ∧
    ((s.endVoice r).1).timers.e4 = s.timers.e4 ∧
    ((s.endVoice r).1).timers.e5 = s.timers.e5 ∧
    ((s.endVoice r).1).timers.e7 = s.timers.e7 ∧
    ((s.endVoice r).1).tone = s.tone ∧
    ((s.endVoice r).1).rau = s.rau ∧
    ((s.endVoice r).1).level = s.level ∧
    ((s.endVoice r).1).pump.mode = s.pump.mode ∧
    ((s.endVoice r).1).pump.role = s.pump.role ∧
    ((s.endVoice r).1).pump.phase = s.pump.phase ∧
    ((s.endVoice r).1).pump.localCeiling = s.pump.localCeiling ∧
    ((s.endVoice r).1).pump.localFloor = s.pump.localFloor ∧
    ((s.endVoice r).1).pump.peerMax = s.pump.peerMax ∧
    ((s.endVoice r).1).pump.negCeiling = s.pump.negCeiling ∧
    ((s.endVoice r).1).pump.negFloor = s.pump.negFloor ∧
    ((s.endVoice r).1).pump.below = s.pump.below ∧
    ((s.endVoice r).1).pump.above = s.pump.above ∧
    ((s.endVoice r).1).pump.retrains = s.pump.retrains ∧
    ((s.endVoice r).1).pump.linkStarted = s.pump.linkStarted ∧
    ((s.endVoice r).1).pump.request = s.pump.request ∧
    ((s.endVoice r).1).pump.answerTone = s.pump.answerTone ∧
    ((s.endVoice r).1).pump.heardMax = s.pump.heardMax ∧
    ((s.endVoice r).1).pump.heardAck = s.pump.heardAck ∧
    ((s.endVoice r).1).pump.stage = s.pump.stage ∧
    ((s.endVoice r).1).pump.ownAccept = s.pump.ownAccept ∧
    ((s.endVoice r).1).pump.farAccept = s.pump.farAccept ∧
    ((s.endVoice r).1).pump.confirmed = s.pump.confirmed ∧
    ((s.endVoice r).1).link.mode = s.link.mode ∧
    ((s.endVoice r).1).link.paused = s.link.paused ∧
    ((s.endVoice r).1).link.attempts = s.link.attempts ∧
    ((s.endVoice r).1).link.windowSize = s.link.windowSize ∧
    ((s.endVoice r).1).link.payloadSize = s.link.payloadSize ∧
    ((s.endVoice r).1).link.vs = s.link.vs ∧
    ((s.endVoice r).1).link.window = s.link.window ∧
    ((s.endVoice r).1).link.resendMark = s.link.resendMark ∧
    ((s.endVoice r).1).link.retries = s.link.retries ∧
    ((s.endVoice r).1).link.peerBusy = s.link.peerBusy ∧
    ((s.endVoice r).1).link.vr = s.link.vr ∧
    ((s.endVoice r).1).link.rejectFlag = s.link.rejectFlag ∧
    ((s.endVoice r).1).link.ackOwed = s.link.ackOwed ∧
    ((s.endVoice r).1).link.busyAckOwed = s.link.busyAckOwed ∧
    ((s.endVoice r).1).link.ownBusy = s.link.ownBusy ∧
    ((s.endVoice r).1).link.rejectOwed = s.link.rejectOwed ∧
    ((s.endVoice r).1).link.clearOwed = s.link.clearOwed ∧
    ((s.endVoice r).1).link.reqDue = s.link.reqDue ∧
    ((s.endVoice r).1).link.confDue = s.link.confDue ∧
    ((s.endVoice r).1).link.confSetup = s.link.confSetup ∧
    ((s.endVoice r).1).link.peerOffer = s.link.peerOffer ∧
    ((s.endVoice r).1).link.byFarEnd = s.link.byFarEnd ∧
    ((s.endVoice r).1).link.policy = s.link.policy ∧
    ((s.endVoice r).1).link.offer = s.link.offer ∧
    ((s.endVoice r).1).link.stats = s.link.stats ∧
    ((s.endVoice r).1).link.outbound = s.link.outbound ∧
    ((s.endVoice r).1).link.inbound = s.link.inbound ∧
    ((s.endVoice r).1).fax = s.fax ∧
    ((s.endVoice r).1).voice.remote = s.voice.remote ∧
    ((s.endVoice r).1).ports.system.outgoing = s.ports.system.outgoing ∧
    ((s.endVoice r).1).ports.system.digits = s.ports.system.digits ∧
    ((s.endVoice r).1).ports.system.transfer = s.ports.system.transfer ∧
    ((s.endVoice r).1).ports.panel.outgoing = s.ports.panel.outgoing ∧
    ((s.endVoice r).1).ports.panel.digits = s.ports.panel.digits ∧
    ((s.endVoice r).1).ports.panel.transfer = s.ports.panel.transfer ∧
    ((s.endVoice r).1).sys = s.sys ∧
    ((s.endVoice r).1).pan = s.pan := by
  unfold State.endVoice; try dsimp only
  repeat' split
  all_goals simp

@[simp] theorem State.autoChannel_keeps (s : State) :
    (s.autoChannel).voice.op.state = s.voice.op.state ∧
    (s.autoChannel).voice.op.operation = s.voice.op.operation ∧
    (s.autoChannel).voice.op.endpoint = s.voice.op.endpoint ∧
    (s.autoChannel).voice.op.message = s.voice.op.message ∧
    (s.autoChannel).voice.op.kind = s.voice.op.kind ∧
    (s.autoChannel).voice.op.slot = s.voice.op.slot ∧
    (s.autoChannel).voice.op.offset = s.voice.op.offset ∧
    (s.autoChannel).voice.op.stopOnDigit = s.voice.op.stopOnDigit ∧
    (s.autoChannel).voice.op.vox = s.voice.op.vox ∧
    (s.autoChannel).voice.op.maxCode = s.voice.op.maxCode ∧
    (s.autoChannel).voice.op.written = s.voice.op.written ∧
    (s.autoChannel).voice.op.loud = s.voice.op.loud ∧
    (s.autoChannel).voice.op.lastLoud = s.voice.op.lastLoud ∧
    (s.autoChannel).voice.op.pausedOp = s.voice.op.pausedOp ∧
    (s.autoChannel).voice.op.clamps = s.voice.op.clamps ∧
    (s.autoChannel).voice.op.codec = s.voice.op.codec ∧
    (s.autoChannel).voice.op.lowNext = s.voice.op.lowNext ∧
    (s.autoChannel).voice.op.halfByte = s.voice.op.halfByte ∧
    (s.autoChannel).voice.op.waiting = s.voice.op.waiting ∧
    (s.autoChannel).voice.op.inBlock = s.voice.op.inBlock ∧
    (s.autoChannel).voice.op.taken = s.voice.op.taken ∧
    (s.autoChannel).voice.op.blocks = s.voice.op.blocks ∧
    (s.autoChannel).voice.op.lastLoudByte = s.voice.op.lastLoudByte ∧
    (s.autoChannel).voice.op.reason = s.voice.op.reason ∧
    (s.autoChannel).voice.resume = s.voice.resume ∧
    (s.autoChannel).voice.remote = s.voice.remote := by
  unfold State.autoChannel; try dsimp only
  repeat' split
  all_goals simp

@[simp] theorem State.dropAuto_keeps (s : State) :
    (s.dropAuto).ccu = s.ccu ∧
    (s.dropAuto).lif = s.lif ∧
    (s.dropAuto).timers = s.timers ∧
    (s.dropAuto).tone = s.tone ∧
    (s.dropAuto).rau = s.rau ∧
    (s.dropAuto).level = s.level ∧
    (s.dropAuto).pump = s.pump ∧
    (s.dropAuto).link = s.link ∧
    (s.dropAuto).fax = s.fax ∧
    (s.dropAuto).voice.op.state = s.voice.op.state ∧
    (s.dropAuto).voice.op.operation = s.voice.op.operation ∧
    (s.dropAuto).voice.op.endpoint = s.voice.op.endpoint ∧
    (s.dropAuto).voice.op.message = s.voice.op.message ∧
    (s.dropAuto).voice.op.kind = s.voice.op.kind ∧
    (s.dropAuto).voice.op.slot = s.voice.op.slot ∧
    (s.dropAuto).voice.op.offset = s.voice.op.offset ∧
    (s.dropAuto).voice.op.stopOnDigit = s.voice.op.stopOnDigit ∧
    (s.dropAuto).voice.op.vox = s.voice.op.vox ∧
    (s.dropAuto).voice.op.maxCode = s.voice.op.maxCode ∧
    (s.dropAuto).voice.op.written = s.voice.op.written ∧
    (s.dropAuto).voice.op.loud = s.voice.op.loud ∧
    (s.dropAuto).voice.op.lastLoud = s.voice.op.lastLoud ∧
    (s.dropAuto).voice.op.pausedOp = s.voice.op.pausedOp ∧
    (s.dropAuto).voice.op.clamps = s.voice.op.clamps ∧
    (s.dropAuto).voice.op.codec = s.voice.op.codec ∧
    (s.dropAuto).voice.op.lowNext = s.voice.op.lowNext ∧
    (s.dropAuto).voice.op.halfByte = s.voice.op.halfByte ∧
    (s.dropAuto).voice.op.waiting = s.voice.op.waiting ∧
    (s.dropAuto).voice.op.inBlock = s.voice.op.inBlock ∧
    (s.dropAuto).voice.op.taken = s.voice.op.taken ∧
    (s.dropAuto).voice.op.blocks = s.voice.op.blocks ∧
    (s.dropAuto).voice.op.lastLoudByte = s.voice.op.lastLoudByte ∧
    (s.dropAuto).voice.op.reason = s.voice.op.reason ∧
    (s.dropAuto).voice.resume = s.voice.resume ∧
    (s.dropAuto).voice.remote = s.voice.remote ∧
    (s.dropAuto).store = s.store ∧
    (s.dropAuto).ports = s.ports ∧
    (s.dropAuto).sys = s.sys ∧
    (s.dropAuto).pan = s.pan := by
  unfold State.dropAuto; try dsimp only
  repeat' split
  all_goals simp

@[simp] theorem State.preempt_keeps (s : State) :
    (s.preempt).ccu.line = s.ccu.line ∧
    (s.preempt).ccu.call.active = s.ccu.call.active ∧
    (s.preempt).ccu.call.number = s.ccu.call.number ∧
    (s.preempt).ccu.call.direction = s.ccu.call.direction ∧
    (s.preempt).ccu.call.holder = s.ccu.call.holder ∧
    (s.preempt).ccu.call.job = s.ccu.call.job ∧
    (s.preempt).ccu.call.phase = s.ccu.call.phase ∧
    (s.preempt).ccu.call.dialList = s.ccu.call.dialList ∧
    (s.preempt).ccu.call.farEndRinging = s.ccu.call.farEndRinging ∧
    (s.preempt).ccu.call.callerStatus = s.ccu.call.callerStatus ∧
    (s.preempt).ccu.call.callerNumber = s.ccu.call.callerNumber ∧
    (s.preempt).ccu.call.callerName = s.ccu.call.callerName ∧
    (s.preempt).ccu.call.ringPattern = s.ccu.call.ringPattern ∧
    (s.preempt).ccu.call.ringCount = s.ccu.call.ringCount ∧
    (s.preempt).ccu.call.startTime = s.ccu.call.startTime ∧
    (s.preempt).ccu.call.rung = s.ccu.call.rung ∧
    (s.preempt).ccu.call.lastQuality = s.ccu.call.lastQuality ∧
    (s.preempt).ccu.call.seconds = s.ccu.call.seconds ∧
    (s.preempt).ccu.call.cause = s.ccu.call.cause ∧
    (s.preempt).ccu.dialler = s.ccu.dialler ∧
    (s.preempt).ccu.lastNumber = s.ccu.lastNumber ∧
    (s.preempt).ccu.ending = s.ccu.ending ∧
    (s.preempt).ccu.blind = s.ccu.blind ∧
    (s.preempt).ccu.claims = s.ccu.claims ∧
    (s.preempt).ccu.history = s.ccu.history ∧
    (s.preempt).ccu.t2Use = s.ccu.t2Use ∧
    (s.preempt).lif = s.lif ∧
    (s.preempt).timers.e0 = s.timers.e0 ∧
    (s.preempt).timers.e1 = s.timers.e1 ∧
    (s.preempt).timers.e2 = s.timers.e2 ∧
    (s.preempt).timers.e3 = s.timers.e3 ∧
    (s.preempt).timers.e4 = s.timers.e4 ∧
    (s.preempt).timers.e5 = s.timers.e5 ∧
    (s.preempt).timers.e7 = s.timers.e7 ∧
    (s.preempt).tone = s.tone ∧
    (s.preempt).rau = s.rau ∧
    (s.preempt).level = s.level ∧
    (s.preempt).pump.mode = s.pump.mode ∧
    (s.preempt).pump.role = s.pump.role ∧
    (s.preempt).pump.phase = s.pump.phase ∧
    (s.preempt).pump.localCeiling = s.pump.localCeiling ∧
    (s.preempt).pump.localFloor = s.pump.localFloor ∧
    (s.preempt).pump.peerMax = s.pump.peerMax ∧
    (s.preempt).pump.negCeiling = s.pump.negCeiling ∧
    (s.preempt).pump.negFloor = s.pump.negFloor ∧
    (s.preempt).pump.below = s.pump.below ∧
    (s.preempt).pump.above = s.pump.above ∧
    (s.preempt).pump.retrains = s.pump.retrains ∧
    (s.preempt).pump.linkStarted = s.pump.linkStarted ∧
    (s.preempt).pump.request = s.pump.request ∧
    (s.preempt).pump.answerTone = s.pump.answerTone ∧
    (s.preempt).pump.heardMax = s.pump.heardMax ∧
    (s.preempt).pump.heardAck = s.pump.heardAck ∧
    (s.preempt).pump.stage = s.pump.stage ∧
    (s.preempt).pump.ownAccept = s.pump.ownAccept ∧
    (s.preempt).pump.farAccept = s.pump.farAccept ∧
    (s.preempt).pump.confirmed = s.pump.confirmed ∧
    (s.preempt).link.mode = s.link.mode ∧
    (s.preempt).link.paused = s.link.paused ∧
    (s.preempt).link.attempts = s.link.attempts ∧
    (s.preempt).link.windowSize = s.link.windowSize ∧
    (s.preempt).link.payloadSize = s.link.payloadSize ∧
    (s.preempt).link.vs = s.link.vs ∧
    (s.preempt).link.window = s.link.window ∧
    (s.preempt).link.resendMark = s.link.resendMark ∧
    (s.preempt).link.retries = s.link.retries ∧
    (s.preempt).link.peerBusy = s.link.peerBusy ∧
    (s.preempt).link.vr = s.link.vr ∧
    (s.preempt).link.rejectFlag = s.link.rejectFlag ∧
    (s.preempt).link.ackOwed = s.link.ackOwed ∧
    (s.preempt).link.busyAckOwed = s.link.busyAckOwed ∧
    (s.preempt).link.ownBusy = s.link.ownBusy ∧
    (s.preempt).link.rejectOwed = s.link.rejectOwed ∧
    (s.preempt).link.clearOwed = s.link.clearOwed ∧
    (s.preempt).link.reqDue = s.link.reqDue ∧
    (s.preempt).link.confDue = s.link.confDue ∧
    (s.preempt).link.confSetup = s.link.confSetup ∧
    (s.preempt).link.peerOffer = s.link.peerOffer ∧
    (s.preempt).link.byFarEnd = s.link.byFarEnd ∧
    (s.preempt).link.policy = s.link.policy ∧
    (s.preempt).link.offer = s.link.offer ∧
    (s.preempt).link.stats = s.link.stats ∧
    (s.preempt).link.outbound = s.link.outbound ∧
    (s.preempt).link.inbound = s.link.inbound ∧
    (s.preempt).fax = s.fax ∧
    (s.preempt).voice.remote = s.voice.remote ∧
    (s.preempt).ports.system.outgoing = s.ports.system.outgoing ∧
    (s.preempt).ports.system.digits = s.ports.system.digits ∧
    (s.preempt).ports.system.transfer = s.ports.system.transfer ∧
    (s.preempt).ports.panel.outgoing = s.ports.panel.outgoing ∧
    (s.preempt).ports.panel.digits = s.ports.panel.digits ∧
    (s.preempt).ports.panel.transfer = s.ports.panel.transfer ∧
    (s.preempt).sys = s.sys ∧
    (s.preempt).pan = s.pan := by
  unfold State.preempt; try dsimp only
  repeat' split
  all_goals simp

@[simp] theorem State.cancelAuto_keeps (s : State) :
    (s.cancelAuto).ccu.line = s.ccu.line ∧
    (s.cancelAuto).ccu.call.active = s.ccu.call.active ∧
    (s.cancelAuto).ccu.call.number = s.ccu.call.number ∧
    (s.cancelAuto).ccu.call.direction = s.ccu.call.direction ∧
    (s.cancelAuto).ccu.call.holder = s.ccu.call.holder ∧
    (s.cancelAuto).ccu.call.job = s.ccu.call.job ∧
    (s.cancelAuto).ccu.call.phase = s.ccu.call.phase ∧
    (s.cancelAuto).ccu.call.dialList = s.ccu.call.dialList ∧
    (s.cancelAuto).ccu.call.farEndRinging = s.ccu.call.farEndRinging ∧
    (s.cancelAuto).ccu.call.callerStatus = s.ccu.call.callerStatus ∧
    (s.cancelAuto).ccu.call.callerNumber = s.ccu.call.callerNumber ∧
    (s.cancelAuto).ccu.call.callerName = s.ccu.call.callerName ∧
    (s.cancelAuto).ccu.call.ringPattern = s.ccu.call.ringPattern ∧
    (s.cancelAuto).ccu.call.ringCount = s.ccu.call.ringCount ∧
    (s.cancelAuto).ccu.call.startTime = s.ccu.call.startTime ∧
    (s.cancelAuto).ccu.call.rung = s.ccu.call.rung ∧
    (s.cancelAuto).ccu.call.lastQuality = s.ccu.call.lastQuality ∧
    (s.cancelAuto).ccu.call.seconds = s.ccu.call.seconds ∧
    (s.cancelAuto).ccu.call.cause = s.ccu.call.cause ∧
    (s.cancelAuto).ccu.dialler = s.ccu.dialler ∧
    (s.cancelAuto).ccu.lastNumber = s.ccu.lastNumber ∧
    (s.cancelAuto).ccu.ending = s.ccu.ending ∧
    (s.cancelAuto).ccu.blind = s.ccu.blind ∧
    (s.cancelAuto).ccu.claims = s.ccu.claims ∧
    (s.cancelAuto).ccu.history = s.ccu.history ∧
    (s.cancelAuto).ccu.t2Use = s.ccu.t2Use ∧
    (s.cancelAuto).lif = s.lif ∧
    (s.cancelAuto).timers.e0 = s.timers.e0 ∧
    (s.cancelAuto).timers.e1 = s.timers.e1 ∧
    (s.cancelAuto).timers.e2 = s.timers.e2 ∧
    (s.cancelAuto).timers.e3 = s.timers.e3 ∧
    (s.cancelAuto).timers.e4 = s.timers.e4 ∧
    (s.cancelAuto).timers.e5 = s.timers.e5 ∧
    (s.cancelAuto).timers.e7 = s.timers.e7 ∧
    (s.cancelAuto).tone = s.tone ∧
    (s.cancelAuto).rau = s.rau ∧
    (s.cancelAuto).level = s.level ∧
    (s.cancelAuto).pump.mode = s.pump.mode ∧
    (s.cancelAuto).pump.role = s.pump.role ∧
    (s.cancelAuto).pump.phase = s.pump.phase ∧
    (s.cancelAuto).pump.localCeiling = s.pump.localCeiling ∧
    (s.cancelAuto).pump.localFloor = s.pump.localFloor ∧
    (s.cancelAuto).pump.peerMax = s.pump.peerMax ∧
    (s.cancelAuto).pump.negCeiling = s.pump.negCeiling ∧
    (s.cancelAuto).pump.negFloor = s.pump.negFloor ∧
    (s.cancelAuto).pump.below = s.pump.below ∧
    (s.cancelAuto).pump.above = s.pump.above ∧
    (s.cancelAuto).pump.retrains = s.pump.retrains ∧
    (s.cancelAuto).pump.linkStarted = s.pump.linkStarted ∧
    (s.cancelAuto).pump.request = s.pump.request ∧
    (s.cancelAuto).pump.answerTone = s.pump.answerTone ∧
    (s.cancelAuto).pump.heardMax = s.pump.heardMax ∧
    (s.cancelAuto).pump.heardAck = s.pump.heardAck ∧
    (s.cancelAuto).pump.stage = s.pump.stage ∧
    (s.cancelAuto).pump.ownAccept = s.pump.ownAccept ∧
    (s.cancelAuto).pump.farAccept = s.pump.farAccept ∧
    (s.cancelAuto).pump.confirmed = s.pump.confirmed ∧
    (s.cancelAuto).link.mode = s.link.mode ∧
    (s.cancelAuto).link.paused = s.link.paused ∧
    (s.cancelAuto).link.attempts = s.link.attempts ∧
    (s.cancelAuto).link.windowSize = s.link.windowSize ∧
    (s.cancelAuto).link.payloadSize = s.link.payloadSize ∧
    (s.cancelAuto).link.vs = s.link.vs ∧
    (s.cancelAuto).link.window = s.link.window ∧
    (s.cancelAuto).link.resendMark = s.link.resendMark ∧
    (s.cancelAuto).link.retries = s.link.retries ∧
    (s.cancelAuto).link.peerBusy = s.link.peerBusy ∧
    (s.cancelAuto).link.vr = s.link.vr ∧
    (s.cancelAuto).link.rejectFlag = s.link.rejectFlag ∧
    (s.cancelAuto).link.ackOwed = s.link.ackOwed ∧
    (s.cancelAuto).link.busyAckOwed = s.link.busyAckOwed ∧
    (s.cancelAuto).link.ownBusy = s.link.ownBusy ∧
    (s.cancelAuto).link.rejectOwed = s.link.rejectOwed ∧
    (s.cancelAuto).link.clearOwed = s.link.clearOwed ∧
    (s.cancelAuto).link.reqDue = s.link.reqDue ∧
    (s.cancelAuto).link.confDue = s.link.confDue ∧
    (s.cancelAuto).link.confSetup = s.link.confSetup ∧
    (s.cancelAuto).link.peerOffer = s.link.peerOffer ∧
    (s.cancelAuto).link.byFarEnd = s.link.byFarEnd ∧
    (s.cancelAuto).link.policy = s.link.policy ∧
    (s.cancelAuto).link.offer = s.link.offer ∧
    (s.cancelAuto).link.stats = s.link.stats ∧
    (s.cancelAuto).link.outbound = s.link.outbound ∧
    (s.cancelAuto).link.inbound = s.link.inbound ∧
    (s.cancelAuto).fax = s.fax ∧
    (s.cancelAuto).voice.remote = s.voice.remote ∧
    (s.cancelAuto).ports.system.outgoing = s.ports.system.outgoing ∧
    (s.cancelAuto).ports.system.digits = s.ports.system.digits ∧
    (s.cancelAuto).ports.system.transfer = s.ports.system.transfer ∧
    (s.cancelAuto).ports.panel.outgoing = s.ports.panel.outgoing ∧
    (s.cancelAuto).ports.panel.digits = s.ports.panel.digits ∧
    (s.cancelAuto).ports.panel.transfer = s.ports.panel.transfer ∧
    (s.cancelAuto).sys = s.sys ∧
    (s.cancelAuto).pan = s.pan := by
  unfold State.cancelAuto; try dsimp only
  repeat' split
  all_goals simp

@[simp] theorem State.loadT1_keeps (s : State) :
    (s.loadT1).timers.e0 = s.timers.e0 ∧
    (s.loadT1).timers.e2 = s.timers.e2 ∧
    (s.loadT1).timers.e3 = s.timers.e3 ∧
    (s.loadT1).timers.e4 = s.timers.e4 ∧
    (s.loadT1).timers.e5 = s.timers.e5 ∧
    (s.loadT1).timers.e6 = s.timers.e6 ∧
    (s.loadT1).timers.e7 = s.timers.e7 := by
  unfold State.loadT1; try dsimp only
  repeat' split
  all_goals simp

@[simp] theorem State.stopT1_keeps (s : State) :
    (s.stopT1).timers.e0 = s.timers.e0 ∧
    (s.stopT1).timers.e2 = s.timers.e2 ∧
    (s.stopT1).timers.e3 = s.timers.e3 ∧
    (s.stopT1).timers.e4 = s.timers.e4 ∧
    (s.stopT1).timers.e5 = s.timers.e5 ∧
    (s.stopT1).timers.e6 = s.timers.e6 ∧
    (s.stopT1).timers.e7 = s.timers.e7 ∧
    (s.stopT1).rau.episode = s.rau.episode ∧
    (s.stopT1).rau.caller.state = s.rau.caller.state ∧
    (s.stopT1).rau.caller.bytes = s.rau.caller.bytes ∧
    (s.stopT1).rau.caller.length = s.rau.caller.length ∧
    (s.stopT1).rau.caller.status = s.rau.caller.status ∧
    (s.stopT1).rau.caller.number = s.rau.caller.number ∧
    (s.stopT1).rau.caller.name = s.rau.caller.name ∧
    (s.stopT1).rau.discr = s.rau.discr := by
  unfold State.stopT1; try dsimp only
  repeat' split
  all_goals simp

@[simp] theorem State.closeRelay_keeps (s : State) :
    (s.closeRelay).timers.e0 = s.timers.e0 ∧
    (s.closeRelay).timers.e2 = s.timers.e2 ∧
    (s.closeRelay).timers.e3 = s.timers.e3 ∧
    (s.closeRelay).timers.e4 = s.timers.e4 ∧
    (s.closeRelay).timers.e5 = s.timers.e5 ∧
    (s.closeRelay).timers.e6 = s.timers.e6 ∧
    (s.closeRelay).timers.e7 = s.timers.e7 ∧
    (s.closeRelay).rau.episode = s.rau.episode ∧
    (s.closeRelay).rau.caller.state = s.rau.caller.state ∧
    (s.closeRelay).rau.caller.bytes = s.rau.caller.bytes ∧
    (s.closeRelay).rau.caller.length = s.rau.caller.length ∧
    (s.closeRelay).rau.caller.status = s.rau.caller.status ∧
    (s.closeRelay).rau.caller.number = s.rau.caller.number ∧
    (s.closeRelay).rau.caller.name = s.rau.caller.name ∧
    (s.closeRelay).rau.discr = s.rau.discr := by
  unfold State.closeRelay; try dsimp only
  repeat' split
  all_goals simp

@[simp] theorem State.openRelay_keeps (s : State) :
    (s.openRelay).lif.ringPresent = s.lif.ringPresent ∧
    (s.openRelay).lif.hangover = s.lif.hangover ∧
    (s.openRelay).lif.voltageBelow = s.lif.voltageBelow ∧
    (s.openRelay).lif.currentBelow = s.lif.currentBelow ∧
    (s.openRelay).lif.pickupLatch = s.lif.pickupLatch ∧
    (s.openRelay).timers.e0 = s.timers.e0 ∧
    (s.openRelay).timers.e2 = s.timers.e2 ∧
    (s.openRelay).timers.e3 = s.timers.e3 ∧
    (s.openRelay).timers.e4 = s.timers.e4 ∧
    (s.openRelay).timers.e5 = s.timers.e5 ∧
    (s.openRelay).timers.e6 = s.timers.e6 ∧
    (s.openRelay).timers.e7 = s.timers.e7 := by
  unfold State.openRelay; try dsimp only
  repeat' split
  all_goals simp

@[simp] theorem State.lineTo_keeps (s : State) (l : LineState) :
    (s.lineTo l).ccu.call = s.ccu.call ∧
    (s.lineTo l).ccu.dialler = s.ccu.dialler ∧
    (s.lineTo l).ccu.lastNumber = s.ccu.lastNumber ∧
    (s.lineTo l).ccu.ending = s.ccu.ending ∧
    (s.lineTo l).ccu.blind = s.ccu.blind ∧
    (s.lineTo l).ccu.claims = s.ccu.claims ∧
    (s.lineTo l).ccu.history = s.ccu.history ∧
    (s.lineTo l).ccu.t2Use = s.ccu.t2Use ∧
    (s.lineTo l).lif = s.lif ∧
    (s.lineTo l).timers = s.timers ∧
    (s.lineTo l).tone = s.tone ∧
    (s.lineTo l).rau = s.rau ∧
    (s.lineTo l).level = s.level ∧
    (s.lineTo l).pump = s.pump ∧
    (s.lineTo l).link = s.link ∧
    (s.lineTo l).fax = s.fax ∧
    (s.lineTo l).voice = s.voice ∧
    (s.lineTo l).store = s.store ∧
    (s.lineTo l).ports.system.outgoing = s.ports.system.outgoing ∧
    (s.lineTo l).ports.system.digits = s.ports.system.digits ∧
    (s.lineTo l).ports.system.transfer = s.ports.system.transfer ∧
    (s.lineTo l).ports.system.alerts = s.ports.system.alerts ∧
    (s.lineTo l).ports.panel.outgoing = s.ports.panel.outgoing ∧
    (s.lineTo l).ports.panel.digits = s.ports.panel.digits ∧
    (s.lineTo l).ports.panel.transfer = s.ports.panel.transfer ∧
    (s.lineTo l).ports.panel.alerts = s.ports.panel.alerts ∧
    (s.lineTo l).sys = s.sys ∧
    (s.lineTo l).pan = s.pan := by
  unfold State.lineTo; try dsimp only
  repeat' split
  all_goals simp

@[simp] theorem State.toCommand_keeps (s : State) :
    (s.toCommand).timers.e0 = s.timers.e0 ∧
    (s.toCommand).timers.e1 = s.timers.e1 ∧
    (s.toCommand).timers.e2 = s.timers.e2 ∧
    (s.toCommand).timers.e3 = s.timers.e3 ∧
    (s.toCommand).timers.e4 = s.timers.e4 ∧
    (s.toCommand).timers.e6 = s.timers.e6 ∧
    (s.toCommand).timers.e7 = s.timers.e7 ∧
    (s.toCommand).sys.ready = s.sys.ready ∧
    (s.toCommand).sys.rts = s.sys.rts ∧
    (s.toCommand).sys.rate = s.sys.rate ∧
    (s.toCommand).sys.notice = s.sys.notice ∧
    (s.toCommand).sys.escape = s.sys.escape := by
  unfold State.toCommand; try dsimp only
  repeat' split
  all_goals simp

@[simp] theorem State.clearForCall_keeps (s : State) :
    (s.clearForCall).link.mode = s.link.mode ∧
    (s.clearForCall).link.paused = s.link.paused ∧
    (s.clearForCall).link.attempts = s.link.attempts ∧
    (s.clearForCall).link.windowSize = s.link.windowSize ∧
    (s.clearForCall).link.payloadSize = s.link.payloadSize ∧
    (s.clearForCall).link.vs = s.link.vs ∧
    (s.clearForCall).link.window = s.link.window ∧
    (s.clearForCall).link.resendMark = s.link.resendMark ∧
    (s.clearForCall).link.retries = s.link.retries ∧
    (s.clearForCall).link.peerBusy = s.link.peerBusy ∧
    (s.clearForCall).link.vr = s.link.vr ∧
    (s.clearForCall).link.rejectFlag = s.link.rejectFlag ∧
    (s.clearForCall).link.ackOwed = s.link.ackOwed ∧
    (s.clearForCall).link.busyAckOwed = s.link.busyAckOwed ∧
    (s.clearForCall).link.ownBusy = s.link.ownBusy ∧
    (s.clearForCall).link.rejectOwed = s.link.rejectOwed ∧
    (s.clearForCall).link.clearOwed = s.link.clearOwed ∧
    (s.clearForCall).link.reqDue = s.link.reqDue ∧
    (s.clearForCall).link.confSetup = s.link.confSetup ∧
    (s.clearForCall).link.confDue = s.link.confDue ∧
    (s.clearForCall).link.peerOffer = s.link.peerOffer ∧
    (s.clearForCall).link.byFarEnd = s.link.byFarEnd ∧
    (s.clearForCall).link.policy = s.link.policy ∧
    (s.clearForCall).link.offer = s.link.offer ∧
    (s.clearForCall).link.outbound = s.link.outbound ∧
    (s.clearForCall).link.inbound = s.link.inbound ∧
    (s.clearForCall).link.tx = s.link.tx := by
  unfold State.clearForCall; try dsimp only
  repeat' split
  all_goals simp

@[simp] theorem State.activate_keeps (s : State) (call : CallRecord) (blind : Bool) :
    (s.activate call blind).ccu.line = s.ccu.line ∧
    (s.activate call blind).ccu.dialler = s.ccu.dialler ∧
    (s.activate call blind).ccu.claims = s.ccu.claims ∧
    (s.activate call blind).ccu.history = s.ccu.history ∧
    (s.activate call blind).ccu.t2Use = s.ccu.t2Use ∧
    (s.activate call blind).tone.generator = s.tone.generator ∧
    (s.activate call blind).link.mode = s.link.mode ∧
    (s.activate call blind).link.paused = s.link.paused ∧
    (s.activate call blind).link.attempts = s.link.attempts ∧
    (s.activate call blind).link.windowSize = s.link.windowSize ∧
    (s.activate call blind).link.payloadSize = s.link.payloadSize ∧
    (s.activate call blind).link.vs = s.link.vs ∧
    (s.activate call blind).link.window = s.link.window ∧
    (s.activate call blind).link.resendMark = s.link.resendMark ∧
    (s.activate call blind).link.retries = s.link.retries ∧
    (s.activate call blind).link.peerBusy = s.link.peerBusy ∧
    (s.activate call blind).link.vr = s.link.vr ∧
    (s.activate call blind).link.rejectFlag = s.link.rejectFlag ∧
    (s.activate call blind).link.ackOwed = s.link.ackOwed ∧
    (s.activate call blind).link.busyAckOwed = s.link.busyAckOwed ∧
    (s.activate call blind).link.ownBusy = s.link.ownBusy ∧
    (s.activate call blind).link.rejectOwed = s.link.rejectOwed ∧
    (s.activate call blind).link.clearOwed = s.link.clearOwed ∧
    (s.activate call blind).link.reqDue = s.link.reqDue ∧
    (s.activate call blind).link.confSetup = s.link.confSetup ∧
    (s.activate call blind).link.confDue = s.link.confDue ∧
    (s.activate call blind).link.peerOffer = s.link.peerOffer ∧
    (s.activate call blind).link.byFarEnd = s.link.byFarEnd ∧
    (s.activate call blind).link.policy = s.link.policy ∧
    (s.activate call blind).link.offer = s.link.offer ∧
    (s.activate call blind).link.outbound = s.link.outbound ∧
    (s.activate call blind).link.inbound = s.link.inbound ∧
    (s.activate call blind).link.tx = s.link.tx := by
  unfold State.activate; try dsimp only
  repeat' split
  all_goals simp

@[simp] theorem State.silence_keeps (s : State) :
    (s.silence).timers.e1 = s.timers.e1 ∧
    (s.silence).timers.e2 = s.timers.e2 ∧
    (s.silence).timers.e3 = s.timers.e3 ∧
    (s.silence).timers.e4 = s.timers.e4 ∧
    (s.silence).timers.e5 = s.timers.e5 ∧
    (s.silence).timers.e6 = s.timers.e6 ∧
    (s.silence).timers.e7 = s.timers.e7 ∧
    (s.silence).tone.faxCall = s.tone.faxCall ∧
    (s.silence).tone.dataCall = s.tone.dataCall ∧
    (s.silence).tone.answer = s.tone.answer ∧
    (s.silence).tone.classifier = s.tone.classifier ∧
    (s.silence).tone.voiceBlocks = s.tone.voiceBlocks := by
  unfold State.silence; try dsimp only
  repeat' split
  all_goals simp

@[simp] theorem State.resetLink_keeps (s : State) :
    (s.resetLink).timers.e0 = s.timers.e0 ∧
    (s.resetLink).timers.e1 = s.timers.e1 ∧
    (s.resetLink).timers.e2 = s.timers.e2 ∧
    (s.resetLink).timers.e4 = s.timers.e4 ∧
    (s.resetLink).timers.e5 = s.timers.e5 ∧
    (s.resetLink).timers.e6 = s.timers.e6 ∧
    (s.resetLink).timers.e7 = s.timers.e7 := by
  unfold State.resetLink; try dsimp only
  repeat' split
  all_goals simp

@[simp] theorem State.resetPump_keeps (s : State) :
    (s.resetPump).timers.e0 = s.timers.e0 ∧
    (s.resetPump).timers.e1 = s.timers.e1 ∧
    (s.resetPump).timers.e2 = s.timers.e2 ∧
    (s.resetPump).timers.e3 = s.timers.e3 ∧
    (s.resetPump).timers.e5 = s.timers.e5 ∧
    (s.resetPump).timers.e6 = s.timers.e6 ∧
    (s.resetPump).timers.e7 = s.timers.e7 := by
  unfold State.resetPump; try dsimp only
  repeat' split
  all_goals simp

@[simp] theorem State.closeFax_keeps (s : State) :
    (s.closeFax).ccu.line = s.ccu.line ∧
    (s.closeFax).ccu.call.active = s.ccu.call.active ∧
    (s.closeFax).ccu.call.number = s.ccu.call.number ∧
    (s.closeFax).ccu.call.direction = s.ccu.call.direction ∧
    (s.closeFax).ccu.call.holder = s.ccu.call.holder ∧
    (s.closeFax).ccu.call.job = s.ccu.call.job ∧
    (s.closeFax).ccu.call.phase = s.ccu.call.phase ∧
    (s.closeFax).ccu.call.dialList = s.ccu.call.dialList ∧
    (s.closeFax).ccu.call.farEndRinging = s.ccu.call.farEndRinging ∧
    (s.closeFax).ccu.call.callerStatus = s.ccu.call.callerStatus ∧
    (s.closeFax).ccu.call.callerNumber = s.ccu.call.callerNumber ∧
    (s.closeFax).ccu.call.callerName = s.ccu.call.callerName ∧
    (s.closeFax).ccu.call.ringPattern = s.ccu.call.ringPattern ∧
    (s.closeFax).ccu.call.ringCount = s.ccu.call.ringCount ∧
    (s.closeFax).ccu.call.startTime = s.ccu.call.startTime ∧
    (s.closeFax).ccu.call.rung = s.ccu.call.rung ∧
    (s.closeFax).ccu.call.lastQuality = s.ccu.call.lastQuality ∧
    (s.closeFax).ccu.call.seconds = s.ccu.call.seconds ∧
    (s.closeFax).ccu.call.cause = s.ccu.call.cause ∧
    (s.closeFax).ccu.dialler = s.ccu.dialler ∧
    (s.closeFax).ccu.lastNumber = s.ccu.lastNumber ∧
    (s.closeFax).ccu.ending = s.ccu.ending ∧
    (s.closeFax).ccu.blind = s.ccu.blind ∧
    (s.closeFax).ccu.claims = s.ccu.claims ∧
    (s.closeFax).ccu.history = s.ccu.history ∧
    (s.closeFax).ccu.t2Use = s.ccu.t2Use ∧
    (s.closeFax).lif = s.lif ∧
    (s.closeFax).timers = s.timers ∧
    (s.closeFax).tone = s.tone ∧
    (s.closeFax).rau = s.rau ∧
    (s.closeFax).level = s.level ∧
    (s.closeFax).pump = s.pump ∧
    (s.closeFax).link = s.link ∧
    (s.closeFax).fax.role = s.fax.role ∧
    (s.closeFax).fax.place = s.fax.place ∧
    (s.closeFax).fax.rung = s.fax.rung ∧
    (s.closeFax).fax.floor = s.fax.floor ∧
    (s.closeFax).fax.ceiling = s.fax.ceiling ∧
    (s.closeFax).fax.resolution = s.fax.resolution ∧
    (s.closeFax).fax.scanMs = s.fax.scanMs ∧
    (s.closeFax).fax.page = s.fax.page ∧
    (s.closeFax).fax.attempts = s.fax.attempts ∧
    (s.closeFax).fax.accepted = s.fax.accepted ∧
    (s.closeFax).fax.linkedId = s.fax.linkedId ∧
    (s.closeFax).fax.pageStart = s.fax.pageStart ∧
    (s.closeFax).fax.windows = s.fax.windows ∧
    (s.closeFax).fax.badWindows = s.fax.badWindows ∧
    (s.closeFax).fax.overflow = s.fax.overflow ∧
    (s.closeFax).fax.retries = s.fax.retries ∧
    (s.closeFax).fax.lastFrame = s.fax.lastFrame ∧
    (s.closeFax).fax.more = s.fax.more ∧
    (s.closeFax).fax.checkOverloaded = s.fax.checkOverloaded ∧
    (s.closeFax).fax.inPair = s.fax.inPair ∧
    (s.closeFax).fax.lineLength = s.fax.lineLength ∧
    (s.closeFax).fax.position = s.fax.position ∧
    (s.closeFax).fax.markOut = s.fax.markOut ∧
    (s.closeFax).fax.pageFromPort = s.fax.pageFromPort ∧
    (s.closeFax).fax.markSent = s.fax.markSent ∧
    (s.closeFax).fax.markInQueue = s.fax.markInQueue ∧
    (s.closeFax).voice = s.voice ∧
    (s.closeFax).ports.system.outgoing = s.ports.system.outgoing ∧
    (s.closeFax).ports.system.digits = s.ports.system.digits ∧
    (s.closeFax).ports.system.transfer = s.ports.system.transfer ∧
    (s.closeFax).ports.panel.outgoing = s.ports.panel.outgoing ∧
    (s.closeFax).ports.panel.digits = s.ports.panel.digits ∧
    (s.closeFax).ports.panel.transfer = s.ports.panel.transfer ∧
    (s.closeFax).sys = s.sys ∧
    (s.closeFax).pan = s.pan := by
  unfold State.closeFax; try dsimp only
  repeat' split
  all_goals simp

@[simp] theorem State.stopEngines_keeps (s : State) :
    (s.stopEngines).ccu.line = s.ccu.line ∧
    (s.stopEngines).ccu.call.active = s.ccu.call.active ∧
    (s.stopEngines).ccu.call.number = s.ccu.call.number ∧
    (s.stopEngines).ccu.call.direction = s.ccu.call.direction ∧
    (s.stopEngines).ccu.call.holder = s.ccu.call.holder ∧
    (s.stopEngines).ccu.call.job = s.ccu.call.job ∧
    (s.stopEngines).ccu.call.phase = s.ccu.call.phase ∧
    (s.stopEngines).ccu.call.dialList = s.ccu.call.dialList ∧
    (s.stopEngines).ccu.call.farEndRinging = s.ccu.call.farEndRinging ∧
    (s.stopEngines).ccu.call.callerStatus = s.ccu.call.callerStatus ∧
    (s.stopEngines).ccu.call.callerNumber = s.ccu.call.callerNumber ∧
    (s.stopEngines).ccu.call.callerName = s.ccu.call.callerName ∧
    (s.stopEngines).ccu.call.ringPattern = s.ccu.call.ringPattern ∧
    (s.stopEngines).ccu.call.ringCount = s.ccu.call.ringCount ∧
    (s.stopEngines).ccu.call.startTime = s.ccu.call.startTime ∧
    (s.stopEngines).ccu.call.rung = s.ccu.call.rung ∧
    (s.stopEngines).ccu.call.lastQuality = s.ccu.call.lastQuality ∧
    (s.stopEngines).ccu.call.seconds = s.ccu.call.seconds ∧
    (s.stopEngines).ccu.call.cause = s.ccu.call.cause ∧
    (s.stopEngines).ccu.dialler.cursor = s.ccu.dialler.cursor ∧
    (s.stopEngines).ccu.dialler.breaksEnded = s.ccu.dialler.breaksEnded ∧
    (s.stopEngines).ccu.dialler.lastMake = s.ccu.dialler.lastMake ∧
    (s.stopEngines).ccu.lastNumber = s.ccu.lastNumber ∧
    (s.stopEngines).ccu.ending = s.ccu.ending ∧
    (s.stopEngines).ccu.blind = s.ccu.blind ∧
    (s.stopEngines).ccu.claims = s.ccu.claims ∧
    (s.stopEngines).ccu.history = s.ccu.history ∧
    (s.stopEngines).lif = s.lif ∧
    (s.stopEngines).timers.e1 = s.timers.e1 ∧
    (s.stopEngines).timers.e5 = s.timers.e5 ∧
    (s.stopEngines).timers.e7 = s.timers.e7 ∧
    (s.stopEngines).rau.episode = s.rau.episode ∧
    (s.stopEngines).rau.caller = s.rau.caller ∧
    (s.stopEngines).rau.presence = s.rau.presence ∧
    (s.stopEngines).rau.deadlines = s.rau.deadlines ∧
    (s.stopEngines).fax.role = s.fax.role ∧
    (s.stopEngines).fax.place = s.fax.place ∧
    (s.stopEngines).fax.rung = s.fax.rung ∧
    (s.stopEngines).fax.floor = s.fax.floor ∧
    (s.stopEngines).fax.ceiling = s.fax.ceiling ∧
    (s.stopEngines).fax.resolution = s.fax.resolution ∧
    (s.stopEngines).fax.scanMs = s.fax.scanMs ∧
    (s.stopEngines).fax.page = s.fax.page ∧
    (s.stopEngines).fax.attempts = s.fax.attempts ∧
    (s.stopEngines).fax.accepted = s.fax.accepted ∧
    (s.stopEngines).fax.linkedId = s.fax.linkedId ∧
    (s.stopEngines).fax.pageStart = s.fax.pageStart ∧
    (s.stopEngines).fax.windows = s.fax.windows ∧
    (s.stopEngines).fax.badWindows = s.fax.badWindows ∧
    (s.stopEngines).fax.overflow = s.fax.overflow ∧
    (s.stopEngines).fax.retries = s.fax.retries ∧
    (s.stopEngines).fax.lastFrame = s.fax.lastFrame ∧
    (s.stopEngines).fax.more = s.fax.more ∧
    (s.stopEngines).fax.checkOverloaded = s.fax.checkOverloaded ∧
    (s.stopEngines).fax.inPair = s.fax.inPair ∧
    (s.stopEngines).fax.lineLength = s.fax.lineLength ∧
    (s.stopEngines).fax.position = s.fax.position ∧
    (s.stopEngines).fax.markOut = s.fax.markOut ∧
    (s.stopEngines).fax.pageFromPort = s.fax.pageFromPort ∧
    (s.stopEngines).fax.markSent = s.fax.markSent ∧
    (s.stopEngines).fax.markInQueue = s.fax.markInQueue ∧
    (s.stopEngines).ports.system.outgoing = s.ports.system.outgoing ∧
    (s.stopEngines).ports.system.digits = s.ports.system.digits ∧
    (s.stopEngines).ports.system.transfer = s.ports.system.transfer ∧
    (s.stopEngines).ports.panel.outgoing = s.ports.panel.outgoing ∧
    (s.stopEngines).ports.panel.digits = s.ports.panel.digits ∧
    (s.stopEngines).ports.panel.transfer = s.ports.panel.transfer ∧
    (s.stopEngines).sys = s.sys ∧
    (s.stopEngines).pan = s.pan := by
  unfold State.stopEngines; try dsimp only
  repeat' split
  all_goals simp

@[simp] theorem State.callEnd_keeps (s : State) (c : Cause) :
    (s.callEnd c).ccu.call.number = s.ccu.call.number ∧
    (s.callEnd c).ccu.call.direction = s.ccu.call.direction ∧
    (s.callEnd c).ccu.call.holder = s.ccu.call.holder ∧
    (s.callEnd c).ccu.call.job = s.ccu.call.job ∧
    (s.callEnd c).ccu.call.phase = s.ccu.call.phase ∧
    (s.callEnd c).ccu.call.dialList = s.ccu.call.dialList ∧
    (s.callEnd c).ccu.call.farEndRinging = s.ccu.call.farEndRinging ∧
    (s.callEnd c).ccu.call.callerStatus = s.ccu.call.callerStatus ∧
    (s.callEnd c).ccu.call.callerNumber = s.ccu.call.callerNumber ∧
    (s.callEnd c).ccu.call.callerName = s.ccu.call.callerName ∧
    (s.callEnd c).ccu.call.ringPattern = s.ccu.call.ringPattern ∧
    (s.callEnd c).ccu.call.ringCount = s.ccu.call.ringCount ∧
    (s.callEnd c).ccu.call.startTime = s.ccu.call.startTime ∧
    (s.callEnd c).ccu.call.rung = s.ccu.call.rung ∧
    (s.callEnd c).ccu.call.lastQuality = s.ccu.call.lastQuality ∧
    (s.callEnd c).ccu.call.seconds = s.ccu.call.seconds ∧
    (s.callEnd c).ccu.dialler.cursor = s.ccu.dialler.cursor ∧
    (s.callEnd c).ccu.dialler.breaksEnded = s.ccu.dialler.breaksEnded ∧
    (s.callEnd c).ccu.dialler.lastMake = s.ccu.dialler.lastMake ∧
    (s.callEnd c).ccu.lastNumber = s.ccu.lastNumber ∧
    (s.callEnd c).ccu.blind = s.ccu.blind ∧
    (s.callEnd c).ccu.claims = s.ccu.claims ∧
    (s.callEnd c).lif.ringPresent = s.lif.ringPresent ∧
    (s.callEnd c).lif.hangover = s.lif.hangover ∧
    (s.callEnd c).lif.voltageBelow = s.lif.voltageBelow ∧
    (s.callEnd c).lif.currentBelow = s.lif.currentBelow ∧
    (s.callEnd c).lif.pickupLatch = s.lif.pickupLatch ∧
    (s.callEnd c).timers.e7 = s.timers.e7 ∧
    (s.callEnd c).rau.episode = s.rau.episode ∧
    (s.callEnd c).rau.caller = s.rau.caller ∧
    (s.callEnd c).rau.presence = s.rau.presence ∧
    (s.callEnd c).rau.deadlines = s.rau.deadlines ∧
    (s.callEnd c).fax.role = s.fax.role ∧
    (s.callEnd c).fax.place = s.fax.place ∧
    (s.callEnd c).fax.rung = s.fax.rung ∧
    (s.callEnd c).fax.floor = s.fax.floor ∧
    (s.callEnd c).fax.ceiling = s.fax.ceiling ∧
    (s.callEnd c).fax.resolution = s.fax.resolution ∧
    (s.callEnd c).fax.scanMs = s.fax.scanMs ∧
    (s.callEnd c).fax.page = s.fax.page ∧
    (s.callEnd c).fax.attempts = s.fax.attempts ∧
    (s.callEnd c).fax.accepted = s.fax.accepted ∧
    (s.callEnd c).fax.linkedId = s.fax.linkedId ∧
    (s.callEnd c).fax.pageStart = s.fax.pageStart ∧
    (s.callEnd c).fax.windows = s.fax.windows ∧
    (s.callEnd c).fax.badWindows = s.fax.badWindows ∧
    (s.callEnd c).fax.overflow = s.fax.overflow ∧
    (s.callEnd c).fax.retries = s.fax.retries ∧
    (s.callEnd c).fax.lastFrame = s.fax.lastFrame ∧
    (s.callEnd c).fax.more = s.fax.more ∧
    (s.callEnd c).fax.checkOverloaded = s.fax.checkOverloaded ∧
    (s.callEnd c).fax.inPair = s.fax.inPair ∧
    (s.callEnd c).fax.lineLength = s.fax.lineLength ∧
    (s.callEnd c).fax.position = s.fax.position ∧
    (s.callEnd c).fax.pageFromPort = s.fax.pageFromPort ∧
    (s.callEnd c).fax.markSent = s.fax.markSent ∧
    (s.callEnd c).fax.markInQueue = s.fax.markInQueue ∧
    (s.callEnd c).ports.system.outgoing = s.ports.system.outgoing ∧
    (s.callEnd c).ports.system.digits = s.ports.system.digits ∧
    (s.callEnd c).ports.system.transfer = s.ports.system.transfer ∧
    (s.callEnd c).ports.panel.outgoing = s.ports.panel.outgoing ∧
    (s.callEnd c).ports.panel.digits = s.ports.panel.digits ∧
    (s.callEnd c).ports.panel.transfer = s.ports.panel.transfer ∧
    (s.callEnd c).sys.ready = s.sys.ready ∧
    (s.callEnd c).sys.rts = s.sys.rts ∧
    (s.callEnd c).sys.rate = s.sys.rate ∧
    (s.callEnd c).sys.notice = s.sys.notice ∧
    (s.callEnd c).sys.escape = s.sys.escape ∧
    (s.callEnd c).pan = s.pan := by
  unfold State.callEnd; try dsimp only
  repeat' split
  all_goals simp

@[simp] theorem State.reportEnd_keeps (s : State) (c : Cause) :
    (s.reportEnd c).ccu.call.number = s.ccu.call.number ∧
    (s.reportEnd c).ccu.call.direction = s.ccu.call.direction ∧
    (s.reportEnd c).ccu.call.holder = s.ccu.call.holder ∧
    (s.reportEnd c).ccu.call.job = s.ccu.call.job ∧
    (s.reportEnd c).ccu.call.phase = s.ccu.call.phase ∧
    (s.reportEnd c).ccu.call.dialList = s.ccu.call.dialList ∧
    (s.reportEnd c).ccu.call.farEndRinging = s.ccu.call.farEndRinging ∧
    (s.reportEnd c).ccu.call.callerStatus = s.ccu.call.callerStatus ∧
    (s.reportEnd c).ccu.call.callerNumber = s.ccu.call.callerNumber ∧
    (s.reportEnd c).ccu.call.callerName = s.ccu.call.callerName ∧
    (s.reportEnd c).ccu.call.ringPattern = s.ccu.call.ringPattern ∧
    (s.reportEnd c).ccu.call.ringCount = s.ccu.call.ringCount ∧
    (s.reportEnd c).ccu.call.startTime = s.ccu.call.startTime ∧
    (s.reportEnd c).ccu.call.rung = s.ccu.call.rung ∧
    (s.reportEnd c).ccu.call.lastQuality = s.ccu.call.lastQuality ∧
    (s.reportEnd c).ccu.call.seconds = s.ccu.call.seconds ∧
    (s.reportEnd c).ccu.dialler.cursor = s.ccu.dialler.cursor ∧
    (s.reportEnd c).ccu.dialler.breaksEnded = s.ccu.dialler.breaksEnded ∧
    (s.reportEnd c).ccu.dialler.lastMake = s.ccu.dialler.lastMake ∧
    (s.reportEnd c).ccu.lastNumber = s.ccu.lastNumber ∧
    (s.reportEnd c).ccu.blind = s.ccu.blind ∧
    (s.reportEnd c).ccu.claims = s.ccu.claims ∧
    (s.reportEnd c).lif.ringPresent = s.lif.ringPresent ∧
    (s.reportEnd c).lif.hangover = s.lif.hangover ∧
    (s.reportEnd c).lif.voltageBelow = s.lif.voltageBelow ∧
    (s.reportEnd c).lif.currentBelow = s.lif.currentBelow ∧
    (s.reportEnd c).lif.pickupLatch = s.lif.pickupLatch ∧
    (s.reportEnd c).timers.e7 = s.timers.e7 ∧
    (s.reportEnd c).rau.episode = s.rau.episode ∧
    (s.reportEnd c).rau.caller = s.rau.caller ∧
    (s.reportEnd c).rau.presence = s.rau.presence ∧
    (s.reportEnd c).rau.deadlines = s.rau.deadlines ∧
    (s.reportEnd c).fax.role = s.fax.role ∧
    (s.reportEnd c).fax.place = s.fax.place ∧
    (s.reportEnd c).fax.rung = s.fax.rung ∧
    (s.reportEnd c).fax.floor = s.fax.floor ∧
    (s.reportEnd c).fax.ceiling = s.fax.ceiling ∧
    (s.reportEnd c).fax.resolution = s.fax.resolution ∧
    (s.reportEnd c).fax.scanMs = s.fax.scanMs ∧
    (s.reportEnd c).fax.page = s.fax.page ∧
    (s.reportEnd c).fax.attempts = s.fax.attempts ∧
    (s.reportEnd c).fax.accepted = s.fax.accepted ∧
    (s.reportEnd c).fax.linkedId = s.fax.linkedId ∧
    (s.reportEnd c).fax.pageStart = s.fax.pageStart ∧
    (s.reportEnd c).fax.windows = s.fax.windows ∧
    (s.reportEnd c).fax.badWindows = s.fax.badWindows ∧
    (s.reportEnd c).fax.overflow = s.fax.overflow ∧
    (s.reportEnd c).fax.retries = s.fax.retries ∧
    (s.reportEnd c).fax.lastFrame = s.fax.lastFrame ∧
    (s.reportEnd c).fax.more = s.fax.more ∧
    (s.reportEnd c).fax.checkOverloaded = s.fax.checkOverloaded ∧
    (s.reportEnd c).fax.inPair = s.fax.inPair ∧
    (s.reportEnd c).fax.lineLength = s.fax.lineLength ∧
    (s.reportEnd c).fax.position = s.fax.position ∧
    (s.reportEnd c).fax.pageFromPort = s.fax.pageFromPort ∧
    (s.reportEnd c).fax.markSent = s.fax.markSent ∧
    (s.reportEnd c).fax.markInQueue = s.fax.markInQueue ∧
    (s.reportEnd c).ports.system.outgoing = s.ports.system.outgoing ∧
    (s.reportEnd c).ports.system.digits = s.ports.system.digits ∧
    (s.reportEnd c).ports.system.transfer = s.ports.system.transfer ∧
    (s.reportEnd c).ports.panel.outgoing = s.ports.panel.outgoing ∧
    (s.reportEnd c).ports.panel.digits = s.ports.panel.digits ∧
    (s.reportEnd c).ports.panel.transfer = s.ports.panel.transfer ∧
    (s.reportEnd c).sys.ready = s.sys.ready ∧
    (s.reportEnd c).sys.rts = s.sys.rts ∧
    (s.reportEnd c).sys.rate = s.sys.rate ∧
    (s.reportEnd c).sys.notice = s.sys.notice ∧
    (s.reportEnd c).sys.escape = s.sys.escape ∧
    (s.reportEnd c).pan = s.pan := by
  unfold State.reportEnd; try dsimp only
  repeat' split
  all_goals simp

@[simp] theorem State.reportPhase_keeps (s : State) (p : CallPhase) :
    (s.reportPhase p).ccu.line = s.ccu.line ∧
    (s.reportPhase p).ccu.call.active = s.ccu.call.active ∧
    (s.reportPhase p).ccu.call.number = s.ccu.call.number ∧
    (s.reportPhase p).ccu.call.direction = s.ccu.call.direction ∧
    (s.reportPhase p).ccu.call.holder = s.ccu.call.holder ∧
    (s.reportPhase p).ccu.call.job = s.ccu.call.job ∧
    (s.reportPhase p).ccu.call.dialList = s.ccu.call.dialList ∧
    (s.reportPhase p).ccu.call.farEndRinging = s.ccu.call.farEndRinging ∧
    (s.reportPhase p).ccu.call.callerStatus = s.ccu.call.callerStatus ∧
    (s.reportPhase p).ccu.call.callerNumber = s.ccu.call.callerNumber ∧
    (s.reportPhase p).ccu.call.callerName = s.ccu.call.callerName ∧
    (s.reportPhase p).ccu.call.ringPattern = s.ccu.call.ringPattern ∧
    (s.reportPhase p).ccu.call.ringCount = s.ccu.call.ringCount ∧
    (s.reportPhase p).ccu.call.startTime = s.ccu.call.startTime ∧
    (s.reportPhase p).ccu.call.linkedId = s.ccu.call.linkedId ∧
    (s.reportPhase p).ccu.call.rung = s.ccu.call.rung ∧
    (s.reportPhase p).ccu.call.lastQuality = s.ccu.call.lastQuality ∧
    (s.reportPhase p).ccu.call.seconds = s.ccu.call.seconds ∧
    (s.reportPhase p).ccu.call.cause = s.ccu.call.cause ∧
    (s.reportPhase p).ccu.dialler = s.ccu.dialler ∧
    (s.reportPhase p).ccu.lastNumber = s.ccu.lastNumber ∧
    (s.reportPhase p).ccu.ending = s.ccu.ending ∧
    (s.reportPhase p).ccu.blind = s.ccu.blind ∧
    (s.reportPhase p).ccu.claims = s.ccu.claims ∧
    (s.reportPhase p).ccu.history = s.ccu.history ∧
    (s.reportPhase p).ccu.t2Use = s.ccu.t2Use ∧
    (s.reportPhase p).lif = s.lif ∧
    (s.reportPhase p).timers = s.timers ∧
    (s.reportPhase p).tone = s.tone ∧
    (s.reportPhase p).rau = s.rau ∧
    (s.reportPhase p).level = s.level ∧
    (s.reportPhase p).pump = s.pump ∧
    (s.reportPhase p).link = s.link ∧
    (s.reportPhase p).fax = s.fax ∧
    (s.reportPhase p).voice = s.voice ∧
    (s.reportPhase p).store = s.store ∧
    (s.reportPhase p).ports = s.ports ∧
    (s.reportPhase p).sys = s.sys ∧
    (s.reportPhase p).pan = s.pan := by
  unfold State.reportPhase; try dsimp only
  repeat' split
  all_goals simp

@[simp] theorem State.reportRung_keeps (s : State) (r : Nat) :
    (s.reportRung r).ccu.line = s.ccu.line ∧
    (s.reportRung r).ccu.call.active = s.ccu.call.active ∧
    (s.reportRung r).ccu.call.number = s.ccu.call.number ∧
    (s.reportRung r).ccu.call.direction = s.ccu.call.direction ∧
    (s.reportRung r).ccu.call.holder = s.ccu.call.holder ∧
    (s.reportRung r).ccu.call.job = s.ccu.call.job ∧
    (s.reportRung r).ccu.call.phase = s.ccu.call.phase ∧
    (s.reportRung r).ccu.call.dialList = s.ccu.call.dialList ∧
    (s.reportRung r).ccu.call.farEndRinging = s.ccu.call.farEndRinging ∧
    (s.reportRung r).ccu.call.callerStatus = s.ccu.call.callerStatus ∧
    (s.reportRung r).ccu.call.callerNumber = s.ccu.call.callerNumber ∧
    (s.reportRung r).ccu.call.callerName = s.ccu.call.callerName ∧
    (s.reportRung r).ccu.call.ringPattern = s.ccu.call.ringPattern ∧
    (s.reportRung r).ccu.call.ringCount = s.ccu.call.ringCount ∧
    (s.reportRung r).ccu.call.startTime = s.ccu.call.startTime ∧
    (s.reportRung r).ccu.call.linkedId = s.ccu.call.linkedId ∧
    (s.reportRung r).ccu.call.lastQuality = s.ccu.call.lastQuality ∧
    (s.reportRung r).ccu.call.seconds = s.ccu.call.seconds ∧
    (s.reportRung r).ccu.call.cause = s.ccu.call.cause ∧
    (s.reportRung r).ccu.dialler = s.ccu.dialler ∧
    (s.reportRung r).ccu.lastNumber = s.ccu.lastNumber ∧
    (s.reportRung r).ccu.ending = s.ccu.ending ∧
    (s.reportRung r).ccu.blind = s.ccu.blind ∧
    (s.reportRung r).ccu.claims = s.ccu.claims ∧
    (s.reportRung r).ccu.history = s.ccu.history ∧
    (s.reportRung r).ccu.t2Use = s.ccu.t2Use ∧
    (s.reportRung r).lif = s.lif ∧
    (s.reportRung r).timers = s.timers ∧
    (s.reportRung r).tone = s.tone ∧
    (s.reportRung r).rau = s.rau ∧
    (s.reportRung r).level = s.level ∧
    (s.reportRung r).pump = s.pump ∧
    (s.reportRung r).link = s.link ∧
    (s.reportRung r).fax = s.fax ∧
    (s.reportRung r).voice = s.voice ∧
    (s.reportRung r).store = s.store ∧
    (s.reportRung r).ports = s.ports ∧
    (s.reportRung r).sys = s.sys ∧
    (s.reportRung r).pan = s.pan := by
  unfold State.reportRung; try dsimp only
  repeat' split
  all_goals simp

@[simp] theorem State.seize_keeps (s : State) (master : Port) (items : List DialItem) (job : Job) (blind : Bool) :
    (s.seize master items job blind).ccu.dialler = s.ccu.dialler ∧
    (s.seize master items job blind).ccu.claims = s.ccu.claims ∧
    (s.seize master items job blind).ccu.history = s.ccu.history ∧
    (s.seize master items job blind).timers.e0 = s.timers.e0 ∧
    (s.seize master items job blind).timers.e3 = s.timers.e3 ∧
    (s.seize master items job blind).timers.e4 = s.timers.e4 ∧
    (s.seize master items job blind).timers.e5 = s.timers.e5 ∧
    (s.seize master items job blind).timers.e6 = s.timers.e6 ∧
    (s.seize master items job blind).timers.e7 = s.timers.e7 ∧
    (s.seize master items job blind).tone.generator = s.tone.generator ∧
    (s.seize master items job blind).rau.episode = s.rau.episode ∧
    (s.seize master items job blind).rau.caller.state = s.rau.caller.state ∧
    (s.seize master items job blind).rau.caller.bytes = s.rau.caller.bytes ∧
    (s.seize master items job blind).rau.caller.length = s.rau.caller.length ∧
    (s.seize master items job blind).rau.caller.status = s.rau.caller.status ∧
    (s.seize master items job blind).rau.caller.number = s.rau.caller.number ∧
    (s.seize master items job blind).rau.caller.name = s.rau.caller.name ∧
    (s.seize master items job blind).rau.discr = s.rau.discr ∧
    (s.seize master items job blind).pump = s.pump ∧
    (s.seize master items job blind).link.mode = s.link.mode ∧
    (s.seize master items job blind).link.paused = s.link.paused ∧
    (s.seize master items job blind).link.attempts = s.link.attempts ∧
    (s.seize master items job blind).link.windowSize = s.link.windowSize ∧
    (s.seize master items job blind).link.payloadSize = s.link.payloadSize ∧
    (s.seize master items job blind).link.vs = s.link.vs ∧
    (s.seize master items job blind).link.window = s.link.window ∧
    (s.seize master items job blind).link.resendMark = s.link.resendMark ∧
    (s.seize master items job blind).link.retries = s.link.retries ∧
    (s.seize master items job blind).link.peerBusy = s.link.peerBusy ∧
    (s.seize master items job blind).link.vr = s.link.vr ∧
    (s.seize master items job blind).link.rejectFlag = s.link.rejectFlag ∧
    (s.seize master items job blind).link.ackOwed = s.link.ackOwed ∧
    (s.seize master items job blind).link.busyAckOwed = s.link.busyAckOwed ∧
    (s.seize master items job blind).link.ownBusy = s.link.ownBusy ∧
    (s.seize master items job blind).link.rejectOwed = s.link.rejectOwed ∧
    (s.seize master items job blind).link.clearOwed = s.link.clearOwed ∧
    (s.seize master items job blind).link.reqDue = s.link.reqDue ∧
    (s.seize master items job blind).link.confSetup = s.link.confSetup ∧
    (s.seize master items job blind).link.confDue = s.link.confDue ∧
    (s.seize master items job blind).link.peerOffer = s.link.peerOffer ∧
    (s.seize master items job blind).link.byFarEnd = s.link.byFarEnd ∧
    (s.seize master items job blind).link.policy = s.link.policy ∧
    (s.seize master items job blind).link.offer = s.link.offer ∧
    (s.seize master items job blind).link.outbound = s.link.outbound ∧
    (s.seize master items job blind).link.inbound = s.link.inbound ∧
    (s.seize master items job blind).link.tx = s.link.tx ∧
    (s.seize master items job blind).voice = s.voice ∧
    (s.seize master items job blind).store = s.store ∧
    (s.seize master items job blind).sys = s.sys ∧
    (s.seize master items job blind).pan = s.pan := by
  unfold State.seize; try dsimp only
  repeat' split
  all_goals simp

theorem State.serveQueue_keeps {s t : State} (h : s.serveQueue = some t) :
    (t).ccu.dialler = s.ccu.dialler ∧
    (t).ccu.history = s.ccu.history ∧
    (t).timers.e0 = s.timers.e0 ∧
    (t).timers.e3 = s.timers.e3 ∧
    (t).timers.e4 = s.timers.e4 ∧
    (t).timers.e5 = s.timers.e5 ∧
    (t).timers.e6 = s.timers.e6 ∧
    (t).timers.e7 = s.timers.e7 ∧
    (t).tone.generator = s.tone.generator ∧
    (t).rau.episode = s.rau.episode ∧
    (t).rau.caller.state = s.rau.caller.state ∧
    (t).rau.caller.bytes = s.rau.caller.bytes ∧
    (t).rau.caller.length = s.rau.caller.length ∧
    (t).rau.caller.status = s.rau.caller.status ∧
    (t).rau.caller.number = s.rau.caller.number ∧
    (t).rau.caller.name = s.rau.caller.name ∧
    (t).rau.discr = s.rau.discr ∧
    (t).pump = s.pump ∧
    (t).link.mode = s.link.mode ∧
    (t).link.paused = s.link.paused ∧
    (t).link.attempts = s.link.attempts ∧
    (t).link.windowSize = s.link.windowSize ∧
    (t).link.payloadSize = s.link.payloadSize ∧
    (t).link.vs = s.link.vs ∧
    (t).link.window = s.link.window ∧
    (t).link.resendMark = s.link.resendMark ∧
    (t).link.retries = s.link.retries ∧
    (t).link.peerBusy = s.link.peerBusy ∧
    (t).link.vr = s.link.vr ∧
    (t).link.rejectFlag = s.link.rejectFlag ∧
    (t).link.ackOwed = s.link.ackOwed ∧
    (t).link.busyAckOwed = s.link.busyAckOwed ∧
    (t).link.ownBusy = s.link.ownBusy ∧
    (t).link.rejectOwed = s.link.rejectOwed ∧
    (t).link.clearOwed = s.link.clearOwed ∧
    (t).link.reqDue = s.link.reqDue ∧
    (t).link.confSetup = s.link.confSetup ∧
    (t).link.confDue = s.link.confDue ∧
    (t).link.peerOffer = s.link.peerOffer ∧
    (t).link.byFarEnd = s.link.byFarEnd ∧
    (t).link.policy = s.link.policy ∧
    (t).link.offer = s.link.offer ∧
    (t).link.outbound = s.link.outbound ∧
    (t).link.inbound = s.link.inbound ∧
    (t).link.tx = s.link.tx ∧
    (t).voice = s.voice ∧
    (t).store = s.store ∧
    (t).sys = s.sys ∧
    (t).pan = s.pan := by
  unfold State.serveQueue at h
  repeat' split at h
  all_goals first | (cases h; done) | (cases h; simp)

@[simp] theorem State.lineFree_keeps (s : State) :
    (s.lineFree).ccu.dialler = s.ccu.dialler ∧
    (s.lineFree).ccu.history = s.ccu.history ∧
    (s.lineFree).timers.e0 = s.timers.e0 ∧
    (s.lineFree).timers.e3 = s.timers.e3 ∧
    (s.lineFree).timers.e4 = s.timers.e4 ∧
    (s.lineFree).timers.e5 = s.timers.e5 ∧
    (s.lineFree).timers.e6 = s.timers.e6 ∧
    (s.lineFree).timers.e7 = s.timers.e7 ∧
    (s.lineFree).tone.generator = s.tone.generator ∧
    (s.lineFree).rau.episode = s.rau.episode ∧
    (s.lineFree).rau.caller.state = s.rau.caller.state ∧
    (s.lineFree).rau.caller.bytes = s.rau.caller.bytes ∧
    (s.lineFree).rau.caller.length = s.rau.caller.length ∧
    (s.lineFree).rau.caller.status = s.rau.caller.status ∧
    (s.lineFree).rau.caller.number = s.rau.caller.number ∧
    (s.lineFree).rau.caller.name = s.rau.caller.name ∧
    (s.lineFree).rau.discr = s.rau.discr ∧
    (s.lineFree).pump = s.pump ∧
    (s.lineFree).link.mode = s.link.mode ∧
    (s.lineFree).link.paused = s.link.paused ∧
    (s.lineFree).link.attempts = s.link.attempts ∧
    (s.lineFree).link.windowSize = s.link.windowSize ∧
    (s.lineFree).link.payloadSize = s.link.payloadSize ∧
    (s.lineFree).link.vs = s.link.vs ∧
    (s.lineFree).link.window = s.link.window ∧
    (s.lineFree).link.resendMark = s.link.resendMark ∧
    (s.lineFree).link.retries = s.link.retries ∧
    (s.lineFree).link.peerBusy = s.link.peerBusy ∧
    (s.lineFree).link.vr = s.link.vr ∧
    (s.lineFree).link.rejectFlag = s.link.rejectFlag ∧
    (s.lineFree).link.ackOwed = s.link.ackOwed ∧
    (s.lineFree).link.busyAckOwed = s.link.busyAckOwed ∧
    (s.lineFree).link.ownBusy = s.link.ownBusy ∧
    (s.lineFree).link.rejectOwed = s.link.rejectOwed ∧
    (s.lineFree).link.clearOwed = s.link.clearOwed ∧
    (s.lineFree).link.reqDue = s.link.reqDue ∧
    (s.lineFree).link.confSetup = s.link.confSetup ∧
    (s.lineFree).link.confDue = s.link.confDue ∧
    (s.lineFree).link.peerOffer = s.link.peerOffer ∧
    (s.lineFree).link.byFarEnd = s.link.byFarEnd ∧
    (s.lineFree).link.policy = s.link.policy ∧
    (s.lineFree).link.offer = s.link.offer ∧
    (s.lineFree).link.outbound = s.link.outbound ∧
    (s.lineFree).link.inbound = s.link.inbound ∧
    (s.lineFree).link.tx = s.link.tx ∧
    (s.lineFree).voice = s.voice ∧
    (s.lineFree).store = s.store ∧
    (s.lineFree).sys = s.sys ∧
    (s.lineFree).pan = s.pan := by
  unfold State.lineFree
  cases hq : s.serveQueue with
  | none => simp
  | some t => simp [State.serveQueue_keeps hq]

@[simp] theorem State.withdraw_keeps (s : State) (p : Port) :
    (s.withdraw p).ccu.line = s.ccu.line ∧
    (s.withdraw p).ccu.call = s.ccu.call ∧
    (s.withdraw p).ccu.dialler = s.ccu.dialler ∧
    (s.withdraw p).ccu.lastNumber = s.ccu.lastNumber ∧
    (s.withdraw p).ccu.ending = s.ccu.ending ∧
    (s.withdraw p).ccu.blind = s.ccu.blind ∧
    (s.withdraw p).ccu.history = s.ccu.history ∧
    (s.withdraw p).ccu.t2Use = s.ccu.t2Use := by
  cases p <;> unfold State.withdraw <;> (try dsimp only) <;> (repeat' split) <;> first | (simp; done) | simp [State.updPort, PerPort.set, State.port, PerPort.get]

@[simp] theorem State.judgeCts_keeps (s : State) :
    (s.judgeCts).ccu = s.ccu ∧
    (s.judgeCts).lif = s.lif ∧
    (s.judgeCts).timers = s.timers ∧
    (s.judgeCts).tone = s.tone ∧
    (s.judgeCts).rau = s.rau ∧
    (s.judgeCts).level = s.level ∧
    (s.judgeCts).pump = s.pump ∧
    (s.judgeCts).link = s.link ∧
    (s.judgeCts).fax = s.fax ∧
    (s.judgeCts).voice = s.voice ∧
    (s.judgeCts).store = s.store ∧
    (s.judgeCts).ports = s.ports ∧
    (s.judgeCts).sys.data = s.sys.data ∧
    (s.judgeCts).sys.entryDue = s.sys.entryDue ∧
    (s.judgeCts).sys.goDataDue = s.sys.goDataDue ∧
    (s.judgeCts).sys.ready = s.sys.ready ∧
    (s.judgeCts).sys.rts = s.sys.rts ∧
    (s.judgeCts).sys.lastByte = s.sys.lastByte ∧
    (s.judgeCts).sys.rate = s.sys.rate ∧
    (s.judgeCts).sys.notice = s.sys.notice ∧
    (s.judgeCts).sys.escape = s.sys.escape ∧
    (s.judgeCts).pan = s.pan := by
  unfold State.judgeCts; try dsimp only
  repeat' split
  all_goals simp

@[simp] theorem State.enterData_keeps (s : State) :
    (s.enterData).ccu = s.ccu ∧
    (s.enterData).lif = s.lif ∧
    (s.enterData).timers.e0 = s.timers.e0 ∧
    (s.enterData).timers.e1 = s.timers.e1 ∧
    (s.enterData).timers.e2 = s.timers.e2 ∧
    (s.enterData).timers.e3 = s.timers.e3 ∧
    (s.enterData).timers.e4 = s.timers.e4 ∧
    (s.enterData).timers.e6 = s.timers.e6 ∧
    (s.enterData).timers.e7 = s.timers.e7 ∧
    (s.enterData).tone = s.tone ∧
    (s.enterData).rau = s.rau ∧
    (s.enterData).level = s.level ∧
    (s.enterData).pump = s.pump ∧
    (s.enterData).link = s.link ∧
    (s.enterData).fax = s.fax ∧
    (s.enterData).voice = s.voice ∧
    (s.enterData).store = s.store ∧
    (s.enterData).ports = s.ports ∧
    (s.enterData).sys.ready = s.sys.ready ∧
    (s.enterData).sys.rts = s.sys.rts ∧
    (s.enterData).sys.lastByte = s.sys.lastByte ∧
    (s.enterData).sys.rate = s.sys.rate ∧
    (s.enterData).sys.notice = s.sys.notice ∧
    (s.enterData).pan = s.pan := by
  unfold State.enterData; try dsimp only
  repeat' split
  all_goals simp

@[simp] theorem State.requestData_keeps (s : State) :
    (s.requestData).ccu = s.ccu ∧
    (s.requestData).lif = s.lif ∧
    (s.requestData).timers.e0 = s.timers.e0 ∧
    (s.requestData).timers.e1 = s.timers.e1 ∧
    (s.requestData).timers.e2 = s.timers.e2 ∧
    (s.requestData).timers.e3 = s.timers.e3 ∧
    (s.requestData).timers.e4 = s.timers.e4 ∧
    (s.requestData).timers.e6 = s.timers.e6 ∧
    (s.requestData).timers.e7 = s.timers.e7 ∧
    (s.requestData).tone = s.tone ∧
    (s.requestData).rau = s.rau ∧
    (s.requestData).level = s.level ∧
    (s.requestData).pump = s.pump ∧
    (s.requestData).link = s.link ∧
    (s.requestData).fax = s.fax ∧
    (s.requestData).voice = s.voice ∧
    (s.requestData).store = s.store ∧
    (s.requestData).ports = s.ports ∧
    (s.requestData).sys.ready = s.sys.ready ∧
    (s.requestData).sys.rts = s.sys.rts ∧
    (s.requestData).sys.lastByte = s.sys.lastByte ∧
    (s.requestData).sys.rate = s.sys.rate ∧
    (s.requestData).sys.notice = s.sys.notice ∧
    (s.requestData).pan = s.pan := by
  unfold State.requestData; try dsimp only
  repeat' split
  all_goals simp

@[simp] theorem State.online_keeps (s : State) :
    (s.online).ccu = s.ccu ∧
    (s.online).lif = s.lif ∧
    (s.online).timers.e0 = s.timers.e0 ∧
    (s.online).timers.e1 = s.timers.e1 ∧
    (s.online).timers.e2 = s.timers.e2 ∧
    (s.online).timers.e3 = s.timers.e3 ∧
    (s.online).timers.e4 = s.timers.e4 ∧
    (s.online).timers.e6 = s.timers.e6 ∧
    (s.online).timers.e7 = s.timers.e7 ∧
    (s.online).tone = s.tone ∧
    (s.online).rau = s.rau ∧
    (s.online).level = s.level ∧
    (s.online).pump = s.pump ∧
    (s.online).link = s.link ∧
    (s.online).fax = s.fax ∧
    (s.online).voice = s.voice ∧
    (s.online).store = s.store ∧
    (s.online).ports.system.outgoing = s.ports.system.outgoing ∧
    (s.online).ports.system.digits = s.ports.system.digits ∧
    (s.online).ports.system.transfer = s.ports.system.transfer ∧
    (s.online).ports.system.alerts = s.ports.system.alerts ∧
    (s.online).ports.panel.outgoing = s.ports.panel.outgoing ∧
    (s.online).ports.panel.digits = s.ports.panel.digits ∧
    (s.online).ports.panel.transfer = s.ports.panel.transfer ∧
    (s.online).ports.panel.alerts = s.ports.panel.alerts ∧
    (s.online).sys.ready = s.sys.ready ∧
    (s.online).sys.rts = s.sys.rts ∧
    (s.online).sys.lastByte = s.sys.lastByte ∧
    (s.online).sys.rate = s.sys.rate ∧
    (s.online).sys.notice = s.sys.notice ∧
    (s.online).pan = s.pan := by
  unfold State.online; try dsimp only
  repeat' split
  all_goals simp

@[simp] theorem State.enterLinked_keeps (s : State) (peer : Nat × Nat) :
    (s.enterLinked peer).ccu = s.ccu ∧
    (s.enterLinked peer).lif = s.lif ∧
    (s.enterLinked peer).timers.e0 = s.timers.e0 ∧
    (s.enterLinked peer).timers.e1 = s.timers.e1 ∧
    (s.enterLinked peer).timers.e2 = s.timers.e2 ∧
    (s.enterLinked peer).timers.e4 = s.timers.e4 ∧
    (s.enterLinked peer).timers.e6 = s.timers.e6 ∧
    (s.enterLinked peer).timers.e7 = s.timers.e7 ∧
    (s.enterLinked peer).tone = s.tone ∧
    (s.enterLinked peer).rau = s.rau ∧
    (s.enterLinked peer).level = s.level ∧
    (s.enterLinked peer).pump = s.pump ∧
    (s.enterLinked peer).link.paused = s.link.paused ∧
    (s.enterLinked peer).link.attempts = s.link.attempts ∧
    (s.enterLinked peer).link.window = s.link.window ∧
    (s.enterLinked peer).link.resendMark = s.link.resendMark ∧
    (s.enterLinked peer).link.rejectFlag = s.link.rejectFlag ∧
    (s.enterLinked peer).link.confSetup = s.link.confSetup ∧
    (s.enterLinked peer).link.confDue = s.link.confDue ∧
    (s.enterLinked peer).link.peerOffer = s.link.peerOffer ∧
    (s.enterLinked peer).link.byFarEnd = s.link.byFarEnd ∧
    (s.enterLinked peer).link.policy = s.link.policy ∧
    (s.enterLinked peer).link.offer = s.link.offer ∧
    (s.enterLinked peer).link.stats = s.link.stats ∧
    (s.enterLinked peer).link.outbound = s.link.outbound ∧
    (s.enterLinked peer).link.inbound = s.link.inbound ∧
    (s.enterLinked peer).link.tx = s.link.tx ∧
    (s.enterLinked peer).fax = s.fax ∧
    (s.enterLinked peer).voice = s.voice ∧
    (s.enterLinked peer).store = s.store ∧
    (s.enterLinked peer).ports.system.outgoing = s.ports.system.outgoing ∧
    (s.enterLinked peer).ports.system.digits = s.ports.system.digits ∧
    (s.enterLinked peer).ports.system.transfer = s.ports.system.transfer ∧
    (s.enterLinked peer).ports.system.alerts = s.ports.system.alerts ∧
    (s.enterLinked peer).ports.panel.outgoing = s.ports.panel.outgoing ∧
    (s.enterLinked peer).ports.panel.digits = s.ports.panel.digits ∧
    (s.enterLinked peer).ports.panel.transfer = s.ports.panel.transfer ∧
    (s.enterLinked peer).ports.panel.alerts = s.ports.panel.alerts ∧
    (s.enterLinked peer).sys.ready = s.sys.ready ∧
    (s.enterLinked peer).sys.rts = s.sys.rts ∧
    (s.enterLinked peer).sys.lastByte = s.sys.lastByte ∧
    (s.enterLinked peer).sys.rate = s.sys.rate ∧
    (s.enterLinked peer).sys.notice = s.sys.notice ∧
    (s.enterLinked peer).pan = s.pan := by
  unfold State.enterLinked; try dsimp only
  repeat' split
  all_goals simp

@[simp] theorem State.enterDirect_keeps (s : State) :
    (s.enterDirect).ccu = s.ccu ∧
    (s.enterDirect).lif = s.lif ∧
    (s.enterDirect).timers.e0 = s.timers.e0 ∧
    (s.enterDirect).timers.e1 = s.timers.e1 ∧
    (s.enterDirect).timers.e2 = s.timers.e2 ∧
    (s.enterDirect).timers.e4 = s.timers.e4 ∧
    (s.enterDirect).timers.e6 = s.timers.e6 ∧
    (s.enterDirect).timers.e7 = s.timers.e7 ∧
    (s.enterDirect).tone = s.tone ∧
    (s.enterDirect).rau = s.rau ∧
    (s.enterDirect).level = s.level ∧
    (s.enterDirect).pump = s.pump ∧
    (s.enterDirect).link.paused = s.link.paused ∧
    (s.enterDirect).link.attempts = s.link.attempts ∧
    (s.enterDirect).link.windowSize = s.link.windowSize ∧
    (s.enterDirect).link.payloadSize = s.link.payloadSize ∧
    (s.enterDirect).link.vs = s.link.vs ∧
    (s.enterDirect).link.window = s.link.window ∧
    (s.enterDirect).link.resendMark = s.link.resendMark ∧
    (s.enterDirect).link.retries = s.link.retries ∧
    (s.enterDirect).link.peerBusy = s.link.peerBusy ∧
    (s.enterDirect).link.vr = s.link.vr ∧
    (s.enterDirect).link.rejectFlag = s.link.rejectFlag ∧
    (s.enterDirect).link.ackOwed = s.link.ackOwed ∧
    (s.enterDirect).link.busyAckOwed = s.link.busyAckOwed ∧
    (s.enterDirect).link.ownBusy = s.link.ownBusy ∧
    (s.enterDirect).link.rejectOwed = s.link.rejectOwed ∧
    (s.enterDirect).link.clearOwed = s.link.clearOwed ∧
    (s.enterDirect).link.peerOffer = s.link.peerOffer ∧
    (s.enterDirect).link.byFarEnd = s.link.byFarEnd ∧
    (s.enterDirect).link.policy = s.link.policy ∧
    (s.enterDirect).link.offer = s.link.offer ∧
    (s.enterDirect).link.stats = s.link.stats ∧
    (s.enterDirect).link.outbound = s.link.outbound ∧
    (s.enterDirect).link.inbound = s.link.inbound ∧
    (s.enterDirect).link.tx = s.link.tx ∧
    (s.enterDirect).fax = s.fax ∧
    (s.enterDirect).voice = s.voice ∧
    (s.enterDirect).store = s.store ∧
    (s.enterDirect).ports.system.outgoing = s.ports.system.outgoing ∧
    (s.enterDirect).ports.system.digits = s.ports.system.digits ∧
    (s.enterDirect).ports.system.transfer = s.ports.system.transfer ∧
    (s.enterDirect).ports.system.alerts = s.ports.system.alerts ∧
    (s.enterDirect).ports.panel.outgoing = s.ports.panel.outgoing ∧
    (s.enterDirect).ports.panel.digits = s.ports.panel.digits ∧
    (s.enterDirect).ports.panel.transfer = s.ports.panel.transfer ∧
    (s.enterDirect).ports.panel.alerts = s.ports.panel.alerts ∧
    (s.enterDirect).sys.ready = s.sys.ready ∧
    (s.enterDirect).sys.rts = s.sys.rts ∧
    (s.enterDirect).sys.lastByte = s.sys.lastByte ∧
    (s.enterDirect).sys.rate = s.sys.rate ∧
    (s.enterDirect).sys.notice = s.sys.notice ∧
    (s.enterDirect).pan = s.pan := by
  unfold State.enterDirect; try dsimp only
  repeat' split
  all_goals simp

@[simp] theorem State.linkBegin_keeps (s : State) :
    (s.linkBegin).ccu = s.ccu ∧
    (s.linkBegin).lif = s.lif ∧
    (s.linkBegin).timers.e0 = s.timers.e0 ∧
    (s.linkBegin).timers.e1 = s.timers.e1 ∧
    (s.linkBegin).timers.e2 = s.timers.e2 ∧
    (s.linkBegin).timers.e4 = s.timers.e4 ∧
    (s.linkBegin).timers.e6 = s.timers.e6 ∧
    (s.linkBegin).timers.e7 = s.timers.e7 ∧
    (s.linkBegin).tone = s.tone ∧
    (s.linkBegin).rau = s.rau ∧
    (s.linkBegin).level = s.level ∧
    (s.linkBegin).pump = s.pump ∧
    (s.linkBegin).link.paused = s.link.paused ∧
    (s.linkBegin).link.windowSize = s.link.windowSize ∧
    (s.linkBegin).link.payloadSize = s.link.payloadSize ∧
    (s.linkBegin).link.vs = s.link.vs ∧
    (s.linkBegin).link.window = s.link.window ∧
    (s.linkBegin).link.resendMark = s.link.resendMark ∧
    (s.linkBegin).link.retries = s.link.retries ∧
    (s.linkBegin).link.peerBusy = s.link.peerBusy ∧
    (s.linkBegin).link.vr = s.link.vr ∧
    (s.linkBegin).link.rejectFlag = s.link.rejectFlag ∧
    (s.linkBegin).link.ackOwed = s.link.ackOwed ∧
    (s.linkBegin).link.busyAckOwed = s.link.busyAckOwed ∧
    (s.linkBegin).link.ownBusy = s.link.ownBusy ∧
    (s.linkBegin).link.rejectOwed = s.link.rejectOwed ∧
    (s.linkBegin).link.clearOwed = s.link.clearOwed ∧
    (s.linkBegin).link.peerOffer = s.link.peerOffer ∧
    (s.linkBegin).link.byFarEnd = s.link.byFarEnd ∧
    (s.linkBegin).link.stats = s.link.stats ∧
    (s.linkBegin).link.outbound = s.link.outbound ∧
    (s.linkBegin).link.inbound = s.link.inbound ∧
    (s.linkBegin).link.tx = s.link.tx ∧
    (s.linkBegin).fax = s.fax ∧
    (s.linkBegin).voice = s.voice ∧
    (s.linkBegin).store = s.store ∧
    (s.linkBegin).ports.system.outgoing = s.ports.system.outgoing ∧
    (s.linkBegin).ports.system.digits = s.ports.system.digits ∧
    (s.linkBegin).ports.system.transfer = s.ports.system.transfer ∧
    (s.linkBegin).ports.system.alerts = s.ports.system.alerts ∧
    (s.linkBegin).ports.panel.outgoing = s.ports.panel.outgoing ∧
    (s.linkBegin).ports.panel.digits = s.ports.panel.digits ∧
    (s.linkBegin).ports.panel.transfer = s.ports.panel.transfer ∧
    (s.linkBegin).ports.panel.alerts = s.ports.panel.alerts ∧
    (s.linkBegin).sys.ready = s.sys.ready ∧
    (s.linkBegin).sys.rts = s.sys.rts ∧
    (s.linkBegin).sys.lastByte = s.sys.lastByte ∧
    (s.linkBegin).sys.rate = s.sys.rate ∧
    (s.linkBegin).sys.notice = s.sys.notice ∧
    (s.linkBegin).pan = s.pan := by
  unfold State.linkBegin; try dsimp only
  repeat' split
  all_goals simp

@[simp] theorem State.linkPause_keeps (s : State) :
    (s.linkPause).ccu = s.ccu ∧
    (s.linkPause).lif = s.lif ∧
    (s.linkPause).timers.e0 = s.timers.e0 ∧
    (s.linkPause).timers.e1 = s.timers.e1 ∧
    (s.linkPause).timers.e2 = s.timers.e2 ∧
    (s.linkPause).timers.e4 = s.timers.e4 ∧
    (s.linkPause).timers.e5 = s.timers.e5 ∧
    (s.linkPause).timers.e6 = s.timers.e6 ∧
    (s.linkPause).timers.e7 = s.timers.e7 ∧
    (s.linkPause).tone = s.tone ∧
    (s.linkPause).rau = s.rau ∧
    (s.linkPause).level = s.level ∧
    (s.linkPause).pump = s.pump ∧
    (s.linkPause).link.mode = s.link.mode ∧
    (s.linkPause).link.attempts = s.link.attempts ∧
    (s.linkPause).link.windowSize = s.link.windowSize ∧
    (s.linkPause).link.payloadSize = s.link.payloadSize ∧
    (s.linkPause).link.vs = s.link.vs ∧
    (s.linkPause).link.window = s.link.window ∧
    (s.linkPause).link.resendMark = s.link.resendMark ∧
    (s.linkPause).link.retries = s.link.retries ∧
    (s.linkPause).link.peerBusy = s.link.peerBusy ∧
    (s.linkPause).link.vr = s.link.vr ∧
    (s.linkPause).link.rejectFlag = s.link.rejectFlag ∧
    (s.linkPause).link.ackOwed = s.link.ackOwed ∧
    (s.linkPause).link.busyAckOwed = s.link.busyAckOwed ∧
    (s.linkPause).link.ownBusy = s.link.ownBusy ∧
    (s.linkPause).link.rejectOwed = s.link.rejectOwed ∧
    (s.linkPause).link.clearOwed = s.link.clearOwed ∧
    (s.linkPause).link.reqDue = s.link.reqDue ∧
    (s.linkPause).link.confSetup = s.link.confSetup ∧
    (s.linkPause).link.confDue = s.link.confDue ∧
    (s.linkPause).link.peerOffer = s.link.peerOffer ∧
    (s.linkPause).link.byFarEnd = s.link.byFarEnd ∧
    (s.linkPause).link.policy = s.link.policy ∧
    (s.linkPause).link.offer = s.link.offer ∧
    (s.linkPause).link.stats = s.link.stats ∧
    (s.linkPause).link.outbound = s.link.outbound ∧
    (s.linkPause).link.inbound = s.link.inbound ∧
    (s.linkPause).fax = s.fax ∧
    (s.linkPause).voice = s.voice ∧
    (s.linkPause).store = s.store ∧
    (s.linkPause).ports = s.ports ∧
    (s.linkPause).sys = s.sys ∧
    (s.linkPause).pan = s.pan := by
  unfold State.linkPause; try dsimp only
  repeat' split
  all_goals simp

@[simp] theorem State.linkResume_keeps (s : State) :
    (s.linkResume).ccu = s.ccu ∧
    (s.linkResume).lif = s.lif ∧
    (s.linkResume).timers.e0 = s.timers.e0 ∧
    (s.linkResume).timers.e1 = s.timers.e1 ∧
    (s.linkResume).timers.e2 = s.timers.e2 ∧
    (s.linkResume).timers.e4 = s.timers.e4 ∧
    (s.linkResume).timers.e5 = s.timers.e5 ∧
    (s.linkResume).timers.e6 = s.timers.e6 ∧
    (s.linkResume).timers.e7 = s.timers.e7 ∧
    (s.linkResume).tone = s.tone ∧
    (s.linkResume).rau = s.rau ∧
    (s.linkResume).level = s.level ∧
    (s.linkResume).pump = s.pump ∧
    (s.linkResume).link.mode = s.link.mode ∧
    (s.linkResume).link.attempts = s.link.attempts ∧
    (s.linkResume).link.windowSize = s.link.windowSize ∧
    (s.linkResume).link.payloadSize = s.link.payloadSize ∧
    (s.linkResume).link.vs = s.link.vs ∧
    (s.linkResume).link.window = s.link.window ∧
    (s.linkResume).link.retries = s.link.retries ∧
    (s.linkResume).link.peerBusy = s.link.peerBusy ∧
    (s.linkResume).link.vr = s.link.vr ∧
    (s.linkResume).link.rejectFlag = s.link.rejectFlag ∧
    (s.linkResume).link.ackOwed = s.link.ackOwed ∧
    (s.linkResume).link.busyAckOwed = s.link.busyAckOwed ∧
    (s.linkResume).link.ownBusy = s.link.ownBusy ∧
    (s.linkResume).link.rejectOwed = s.link.rejectOwed ∧
    (s.linkResume).link.clearOwed = s.link.clearOwed ∧
    (s.linkResume).link.confSetup = s.link.confSetup ∧
    (s.linkResume).link.confDue = s.link.confDue ∧
    (s.linkResume).link.peerOffer = s.link.peerOffer ∧
    (s.linkResume).link.byFarEnd = s.link.byFarEnd ∧
    (s.linkResume).link.policy = s.link.policy ∧
    (s.linkResume).link.offer = s.link.offer ∧
    (s.linkResume).link.stats = s.link.stats ∧
    (s.linkResume).link.outbound = s.link.outbound ∧
    (s.linkResume).link.inbound = s.link.inbound ∧
    (s.linkResume).link.tx = s.link.tx ∧
    (s.linkResume).fax = s.fax ∧
    (s.linkResume).voice = s.voice ∧
    (s.linkResume).store = s.store ∧
    (s.linkResume).ports = s.ports ∧
    (s.linkResume).sys = s.sys ∧
    (s.linkResume).pan = s.pan := by
  unfold State.linkResume; try dsimp only
  repeat' split
  all_goals simp

@[simp] theorem State.takeAck_keeps (s : State) (n : Nat) :
    (s.takeAck n).ccu = s.ccu ∧
    (s.takeAck n).lif = s.lif ∧
    (s.takeAck n).timers.e0 = s.timers.e0 ∧
    (s.takeAck n).timers.e1 = s.timers.e1 ∧
    (s.takeAck n).timers.e2 = s.timers.e2 ∧
    (s.takeAck n).timers.e4 = s.timers.e4 ∧
    (s.takeAck n).timers.e5 = s.timers.e5 ∧
    (s.takeAck n).timers.e6 = s.timers.e6 ∧
    (s.takeAck n).timers.e7 = s.timers.e7 ∧
    (s.takeAck n).tone = s.tone ∧
    (s.takeAck n).rau = s.rau ∧
    (s.takeAck n).level = s.level ∧
    (s.takeAck n).pump = s.pump ∧
    (s.takeAck n).link.mode = s.link.mode ∧
    (s.takeAck n).link.paused = s.link.paused ∧
    (s.takeAck n).link.attempts = s.link.attempts ∧
    (s.takeAck n).link.windowSize = s.link.windowSize ∧
    (s.takeAck n).link.payloadSize = s.link.payloadSize ∧
    (s.takeAck n).link.vs = s.link.vs ∧
    (s.takeAck n).link.peerBusy = s.link.peerBusy ∧
    (s.takeAck n).link.vr = s.link.vr ∧
    (s.takeAck n).link.rejectFlag = s.link.rejectFlag ∧
    (s.takeAck n).link.ackOwed = s.link.ackOwed ∧
    (s.takeAck n).link.busyAckOwed = s.link.busyAckOwed ∧
    (s.takeAck n).link.ownBusy = s.link.ownBusy ∧
    (s.takeAck n).link.rejectOwed = s.link.rejectOwed ∧
    (s.takeAck n).link.clearOwed = s.link.clearOwed ∧
    (s.takeAck n).link.reqDue = s.link.reqDue ∧
    (s.takeAck n).link.confSetup = s.link.confSetup ∧
    (s.takeAck n).link.confDue = s.link.confDue ∧
    (s.takeAck n).link.peerOffer = s.link.peerOffer ∧
    (s.takeAck n).link.byFarEnd = s.link.byFarEnd ∧
    (s.takeAck n).link.policy = s.link.policy ∧
    (s.takeAck n).link.offer = s.link.offer ∧
    (s.takeAck n).link.stats = s.link.stats ∧
    (s.takeAck n).link.outbound = s.link.outbound ∧
    (s.takeAck n).link.inbound = s.link.inbound ∧
    (s.takeAck n).link.tx = s.link.tx ∧
    (s.takeAck n).fax = s.fax ∧
    (s.takeAck n).voice = s.voice ∧
    (s.takeAck n).store = s.store ∧
    (s.takeAck n).ports = s.ports ∧
    (s.takeAck n).sys = s.sys ∧
    (s.takeAck n).pan = s.pan := by
  unfold State.takeAck; try dsimp only
  repeat' split
  all_goals simp

@[simp] theorem State.startClearing_keeps (s : State) :
    (s.startClearing).ccu = s.ccu ∧
    (s.startClearing).lif = s.lif ∧
    (s.startClearing).timers.e0 = s.timers.e0 ∧
    (s.startClearing).timers.e1 = s.timers.e1 ∧
    (s.startClearing).timers.e2 = s.timers.e2 ∧
    (s.startClearing).timers.e4 = s.timers.e4 ∧
    (s.startClearing).timers.e5 = s.timers.e5 ∧
    (s.startClearing).timers.e6 = s.timers.e6 ∧
    (s.startClearing).timers.e7 = s.timers.e7 ∧
    (s.startClearing).tone = s.tone ∧
    (s.startClearing).rau = s.rau ∧
    (s.startClearing).level = s.level ∧
    (s.startClearing).pump = s.pump ∧
    (s.startClearing).fax = s.fax ∧
    (s.startClearing).voice = s.voice ∧
    (s.startClearing).store = s.store ∧
    (s.startClearing).ports = s.ports ∧
    (s.startClearing).sys.data = s.sys.data ∧
    (s.startClearing).sys.entryDue = s.sys.entryDue ∧
    (s.startClearing).sys.goDataDue = s.sys.goDataDue ∧
    (s.startClearing).sys.ready = s.sys.ready ∧
    (s.startClearing).sys.rts = s.sys.rts ∧
    (s.startClearing).sys.lastByte = s.sys.lastByte ∧
    (s.startClearing).sys.rate = s.sys.rate ∧
    (s.startClearing).sys.notice = s.sys.notice ∧
    (s.startClearing).sys.escape = s.sys.escape ∧
    (s.startClearing).pan = s.pan := by
  unfold State.startClearing; try dsimp only
  repeat' split
  all_goals simp

@[simp] theorem State.answerClear_keeps (s : State) :
    (s.answerClear).ccu = s.ccu ∧
    (s.answerClear).lif = s.lif ∧
    (s.answerClear).timers.e0 = s.timers.e0 ∧
    (s.answerClear).timers.e1 = s.timers.e1 ∧
    (s.answerClear).timers.e2 = s.timers.e2 ∧
    (s.answerClear).timers.e4 = s.timers.e4 ∧
    (s.answerClear).timers.e5 = s.timers.e5 ∧
    (s.answerClear).timers.e6 = s.timers.e6 ∧
    (s.answerClear).timers.e7 = s.timers.e7 ∧
    (s.answerClear).tone = s.tone ∧
    (s.answerClear).rau = s.rau ∧
    (s.answerClear).level = s.level ∧
    (s.answerClear).pump = s.pump ∧
    (s.answerClear).fax = s.fax ∧
    (s.answerClear).voice = s.voice ∧
    (s.answerClear).store = s.store ∧
    (s.answerClear).ports = s.ports ∧
    (s.answerClear).sys.data = s.sys.data ∧
    (s.answerClear).sys.entryDue = s.sys.entryDue ∧
    (s.answerClear).sys.goDataDue = s.sys.goDataDue ∧
    (s.answerClear).sys.ready = s.sys.ready ∧
    (s.answerClear).sys.rts = s.sys.rts ∧
    (s.answerClear).sys.lastByte = s.sys.lastByte ∧
    (s.answerClear).sys.rate = s.sys.rate ∧
    (s.answerClear).sys.notice = s.sys.notice ∧
    (s.answerClear).sys.escape = s.sys.escape ∧
    (s.answerClear).pan = s.pan := by
  unfold State.answerClear; try dsimp only
  repeat' split
  all_goals simp

@[simp] theorem State.pumpStart_keeps (s : State) (role : PumpRole) :
    (s.pumpStart role).ccu.line = s.ccu.line ∧
    (s.pumpStart role).ccu.call.active = s.ccu.call.active ∧
    (s.pumpStart role).ccu.call.number = s.ccu.call.number ∧
    (s.pumpStart role).ccu.call.direction = s.ccu.call.direction ∧
    (s.pumpStart role).ccu.call.holder = s.ccu.call.holder ∧
    (s.pumpStart role).ccu.call.job = s.ccu.call.job ∧
    (s.pumpStart role).ccu.call.dialList = s.ccu.call.dialList ∧
    (s.pumpStart role).ccu.call.farEndRinging = s.ccu.call.farEndRinging ∧
    (s.pumpStart role).ccu.call.callerStatus = s.ccu.call.callerStatus ∧
    (s.pumpStart role).ccu.call.callerNumber = s.ccu.call.callerNumber ∧
    (s.pumpStart role).ccu.call.callerName = s.ccu.call.callerName ∧
    (s.pumpStart role).ccu.call.ringPattern = s.ccu.call.ringPattern ∧
    (s.pumpStart role).ccu.call.ringCount = s.ccu.call.ringCount ∧
    (s.pumpStart role).ccu.call.startTime = s.ccu.call.startTime ∧
    (s.pumpStart role).ccu.call.linkedId = s.ccu.call.linkedId ∧
    (s.pumpStart role).ccu.call.rung = s.ccu.call.rung ∧
    (s.pumpStart role).ccu.call.lastQuality = s.ccu.call.lastQuality ∧
    (s.pumpStart role).ccu.call.seconds = s.ccu.call.seconds ∧
    (s.pumpStart role).ccu.call.cause = s.ccu.call.cause ∧
    (s.pumpStart role).ccu.dialler = s.ccu.dialler ∧
    (s.pumpStart role).ccu.lastNumber = s.ccu.lastNumber ∧
    (s.pumpStart role).ccu.ending = s.ccu.ending ∧
    (s.pumpStart role).ccu.blind = s.ccu.blind ∧
    (s.pumpStart role).ccu.claims = s.ccu.claims ∧
    (s.pumpStart role).ccu.history = s.ccu.history ∧
    (s.pumpStart role).ccu.t2Use = s.ccu.t2Use ∧
    (s.pumpStart role).lif = s.lif ∧
    (s.pumpStart role).timers = s.timers ∧
    (s.pumpStart role).tone = s.tone ∧
    (s.pumpStart role).rau = s.rau ∧
    (s.pumpStart role).level = s.level ∧
    (s.pumpStart role).link = s.link ∧
    (s.pumpStart role).fax = s.fax ∧
    (s.pumpStart role).voice = s.voice ∧
    (s.pumpStart role).store = s.store ∧
    (s.pumpStart role).ports = s.ports ∧
    (s.pumpStart role).sys = s.sys ∧
    (s.pumpStart role).pan = s.pan := by
  unfold State.pumpStart; try dsimp only
  repeat' split
  all_goals simp

@[simp] theorem State.beginTraining_keeps (s : State) :
    (s.beginTraining).ccu = s.ccu ∧
    (s.beginTraining).lif = s.lif ∧
    (s.beginTraining).timers = s.timers ∧
    (s.beginTraining).tone = s.tone ∧
    (s.beginTraining).rau = s.rau ∧
    (s.beginTraining).link = s.link ∧
    (s.beginTraining).fax = s.fax ∧
    (s.beginTraining).voice = s.voice ∧
    (s.beginTraining).store = s.store ∧
    (s.beginTraining).ports = s.ports ∧
    (s.beginTraining).sys = s.sys ∧
    (s.beginTraining).pan = s.pan := by
  unfold State.beginTraining; try dsimp only
  repeat' split
  all_goals simp

@[simp] theorem State.handshakeComplete_keeps (s : State) (m : Nat) :
    (s.handshakeComplete m).ccu.line = s.ccu.line ∧
    (s.handshakeComplete m).ccu.call.active = s.ccu.call.active ∧
    (s.handshakeComplete m).ccu.call.number = s.ccu.call.number ∧
    (s.handshakeComplete m).ccu.call.direction = s.ccu.call.direction ∧
    (s.handshakeComplete m).ccu.call.holder = s.ccu.call.holder ∧
    (s.handshakeComplete m).ccu.call.job = s.ccu.call.job ∧
    (s.handshakeComplete m).ccu.call.dialList = s.ccu.call.dialList ∧
    (s.handshakeComplete m).ccu.call.farEndRinging = s.ccu.call.farEndRinging ∧
    (s.handshakeComplete m).ccu.call.callerStatus = s.ccu.call.callerStatus ∧
    (s.handshakeComplete m).ccu.call.callerNumber = s.ccu.call.callerNumber ∧
    (s.handshakeComplete m).ccu.call.callerName = s.ccu.call.callerName ∧
    (s.handshakeComplete m).ccu.call.ringPattern = s.ccu.call.ringPattern ∧
    (s.handshakeComplete m).ccu.call.ringCount = s.ccu.call.ringCount ∧
    (s.handshakeComplete m).ccu.call.startTime = s.ccu.call.startTime ∧
    (s.handshakeComplete m).ccu.call.linkedId = s.ccu.call.linkedId ∧
    (s.handshakeComplete m).ccu.call.rung = s.ccu.call.rung ∧
    (s.handshakeComplete m).ccu.call.lastQuality = s.ccu.call.lastQuality ∧
    (s.handshakeComplete m).ccu.call.seconds = s.ccu.call.seconds ∧
    (s.handshakeComplete m).ccu.call.cause = s.ccu.call.cause ∧
    (s.handshakeComplete m).ccu.dialler = s.ccu.dialler ∧
    (s.handshakeComplete m).ccu.lastNumber = s.ccu.lastNumber ∧
    (s.handshakeComplete m).ccu.ending = s.ccu.ending ∧
    (s.handshakeComplete m).ccu.blind = s.ccu.blind ∧
    (s.handshakeComplete m).ccu.claims = s.ccu.claims ∧
    (s.handshakeComplete m).ccu.history = s.ccu.history ∧
    (s.handshakeComplete m).ccu.t2Use = s.ccu.t2Use ∧
    (s.handshakeComplete m).lif = s.lif ∧
    (s.handshakeComplete m).timers = s.timers ∧
    (s.handshakeComplete m).tone = s.tone ∧
    (s.handshakeComplete m).rau = s.rau ∧
    (s.handshakeComplete m).link = s.link ∧
    (s.handshakeComplete m).fax = s.fax ∧
    (s.handshakeComplete m).voice = s.voice ∧
    (s.handshakeComplete m).store = s.store ∧
    (s.handshakeComplete m).ports = s.ports ∧
    (s.handshakeComplete m).sys = s.sys ∧
    (s.handshakeComplete m).pan = s.pan := by
  unfold State.handshakeComplete; try dsimp only
  repeat' split
  all_goals simp

@[simp] theorem State.dataEntry_keeps (s : State) :
    (s.dataEntry).ccu.line = s.ccu.line ∧
    (s.dataEntry).ccu.call.active = s.ccu.call.active ∧
    (s.dataEntry).ccu.call.number = s.ccu.call.number ∧
    (s.dataEntry).ccu.call.direction = s.ccu.call.direction ∧
    (s.dataEntry).ccu.call.holder = s.ccu.call.holder ∧
    (s.dataEntry).ccu.call.job = s.ccu.call.job ∧
    (s.dataEntry).ccu.call.dialList = s.ccu.call.dialList ∧
    (s.dataEntry).ccu.call.farEndRinging = s.ccu.call.farEndRinging ∧
    (s.dataEntry).ccu.call.callerStatus = s.ccu.call.callerStatus ∧
    (s.dataEntry).ccu.call.callerNumber = s.ccu.call.callerNumber ∧
    (s.dataEntry).ccu.call.callerName = s.ccu.call.callerName ∧
    (s.dataEntry).ccu.call.ringPattern = s.ccu.call.ringPattern ∧
    (s.dataEntry).ccu.call.ringCount = s.ccu.call.ringCount ∧
    (s.dataEntry).ccu.call.startTime = s.ccu.call.startTime ∧
    (s.dataEntry).ccu.call.linkedId = s.ccu.call.linkedId ∧
    (s.dataEntry).ccu.call.lastQuality = s.ccu.call.lastQuality ∧
    (s.dataEntry).ccu.call.seconds = s.ccu.call.seconds ∧
    (s.dataEntry).ccu.call.cause = s.ccu.call.cause ∧
    (s.dataEntry).ccu.dialler = s.ccu.dialler ∧
    (s.dataEntry).ccu.lastNumber = s.ccu.lastNumber ∧
    (s.dataEntry).ccu.ending = s.ccu.ending ∧
    (s.dataEntry).ccu.blind = s.ccu.blind ∧
    (s.dataEntry).ccu.claims = s.ccu.claims ∧
    (s.dataEntry).ccu.history = s.ccu.history ∧
    (s.dataEntry).lif = s.lif ∧
    (s.dataEntry).timers.e0 = s.timers.e0 ∧
    (s.dataEntry).timers.e1 = s.timers.e1 ∧
    (s.dataEntry).timers.e6 = s.timers.e6 ∧
    (s.dataEntry).timers.e7 = s.timers.e7 ∧
    (s.dataEntry).tone = s.tone ∧
    (s.dataEntry).rau = s.rau ∧
    (s.dataEntry).link.windowSize = s.link.windowSize ∧
    (s.dataEntry).link.payloadSize = s.link.payloadSize ∧
    (s.dataEntry).link.vs = s.link.vs ∧
    (s.dataEntry).link.window = s.link.window ∧
    (s.dataEntry).link.retries = s.link.retries ∧
    (s.dataEntry).link.peerBusy = s.link.peerBusy ∧
    (s.dataEntry).link.vr = s.link.vr ∧
    (s.dataEntry).link.rejectFlag = s.link.rejectFlag ∧
    (s.dataEntry).link.ackOwed = s.link.ackOwed ∧
    (s.dataEntry).link.busyAckOwed = s.link.busyAckOwed ∧
    (s.dataEntry).link.ownBusy = s.link.ownBusy ∧
    (s.dataEntry).link.rejectOwed = s.link.rejectOwed ∧
    (s.dataEntry).link.clearOwed = s.link.clearOwed ∧
    (s.dataEntry).link.peerOffer = s.link.peerOffer ∧
    (s.dataEntry).link.byFarEnd = s.link.byFarEnd ∧
    (s.dataEntry).link.stats = s.link.stats ∧
    (s.dataEntry).link.outbound = s.link.outbound ∧
    (s.dataEntry).link.inbound = s.link.inbound ∧
    (s.dataEntry).link.tx = s.link.tx ∧
    (s.dataEntry).fax = s.fax ∧
    (s.dataEntry).voice = s.voice ∧
    (s.dataEntry).store = s.store ∧
    (s.dataEntry).ports.system.outgoing = s.ports.system.outgoing ∧
    (s.dataEntry).ports.system.digits = s.ports.system.digits ∧
    (s.dataEntry).ports.system.transfer = s.ports.system.transfer ∧
    (s.dataEntry).ports.system.alerts = s.ports.system.alerts ∧
    (s.dataEntry).ports.panel.outgoing = s.ports.panel.outgoing ∧
    (s.dataEntry).ports.panel.digits = s.ports.panel.digits ∧
    (s.dataEntry).ports.panel.transfer = s.ports.panel.transfer ∧
    (s.dataEntry).ports.panel.alerts = s.ports.panel.alerts ∧
    (s.dataEntry).sys.ready = s.sys.ready ∧
    (s.dataEntry).sys.rts = s.sys.rts ∧
    (s.dataEntry).sys.lastByte = s.sys.lastByte ∧
    (s.dataEntry).sys.rate = s.sys.rate ∧
    (s.dataEntry).sys.notice = s.sys.notice ∧
    (s.dataEntry).pan = s.pan := by
  unfold State.dataEntry; try dsimp only
  repeat' split
  all_goals simp

@[simp] theorem State.trainingFailed_keeps (s : State) :
    (s.trainingFailed).ccu.call.number = s.ccu.call.number ∧
    (s.trainingFailed).ccu.call.direction = s.ccu.call.direction ∧
    (s.trainingFailed).ccu.call.holder = s.ccu.call.holder ∧
    (s.trainingFailed).ccu.call.job = s.ccu.call.job ∧
    (s.trainingFailed).ccu.call.phase = s.ccu.call.phase ∧
    (s.trainingFailed).ccu.call.dialList = s.ccu.call.dialList ∧
    (s.trainingFailed).ccu.call.farEndRinging = s.ccu.call.farEndRinging ∧
    (s.trainingFailed).ccu.call.callerStatus = s.ccu.call.callerStatus ∧
    (s.trainingFailed).ccu.call.callerNumber = s.ccu.call.callerNumber ∧
    (s.trainingFailed).ccu.call.callerName = s.ccu.call.callerName ∧
    (s.trainingFailed).ccu.call.ringPattern = s.ccu.call.ringPattern ∧
    (s.trainingFailed).ccu.call.ringCount = s.ccu.call.ringCount ∧
    (s.trainingFailed).ccu.call.startTime = s.ccu.call.startTime ∧
    (s.trainingFailed).ccu.call.lastQuality = s.ccu.call.lastQuality ∧
    (s.trainingFailed).ccu.call.seconds = s.ccu.call.seconds ∧
    (s.trainingFailed).ccu.dialler.cursor = s.ccu.dialler.cursor ∧
    (s.trainingFailed).ccu.dialler.breaksEnded = s.ccu.dialler.breaksEnded ∧
    (s.trainingFailed).ccu.dialler.lastMake = s.ccu.dialler.lastMake ∧
    (s.trainingFailed).ccu.lastNumber = s.ccu.lastNumber ∧
    (s.trainingFailed).ccu.blind = s.ccu.blind ∧
    (s.trainingFailed).ccu.claims = s.ccu.claims ∧
    (s.trainingFailed).lif.ringPresent = s.lif.ringPresent ∧
    (s.trainingFailed).lif.hangover = s.lif.hangover ∧
    (s.trainingFailed).lif.voltageBelow = s.lif.voltageBelow ∧
    (s.trainingFailed).lif.currentBelow = s.lif.currentBelow ∧
    (s.trainingFailed).lif.pickupLatch = s.lif.pickupLatch ∧
    (s.trainingFailed).timers.e7 = s.timers.e7 ∧
    (s.trainingFailed).rau.episode = s.rau.episode ∧
    (s.trainingFailed).rau.caller = s.rau.caller ∧
    (s.trainingFailed).rau.presence = s.rau.presence ∧
    (s.trainingFailed).rau.deadlines = s.rau.deadlines ∧
    (s.trainingFailed).fax.role = s.fax.role ∧
    (s.trainingFailed).fax.place = s.fax.place ∧
    (s.trainingFailed).fax.rung = s.fax.rung ∧
    (s.trainingFailed).fax.floor = s.fax.floor ∧
    (s.trainingFailed).fax.ceiling = s.fax.ceiling ∧
    (s.trainingFailed).fax.resolution = s.fax.resolution ∧
    (s.trainingFailed).fax.scanMs = s.fax.scanMs ∧
    (s.trainingFailed).fax.page = s.fax.page ∧
    (s.trainingFailed).fax.attempts = s.fax.attempts ∧
    (s.trainingFailed).fax.accepted = s.fax.accepted ∧
    (s.trainingFailed).fax.linkedId = s.fax.linkedId ∧
    (s.trainingFailed).fax.pageStart = s.fax.pageStart ∧
    (s.trainingFailed).fax.windows = s.fax.windows ∧
    (s.trainingFailed).fax.badWindows = s.fax.badWindows ∧
    (s.trainingFailed).fax.overflow = s.fax.overflow ∧
    (s.trainingFailed).fax.retries = s.fax.retries ∧
    (s.trainingFailed).fax.lastFrame = s.fax.lastFrame ∧
    (s.trainingFailed).fax.more = s.fax.more ∧
    (s.trainingFailed).fax.checkOverloaded = s.fax.checkOverloaded ∧
    (s.trainingFailed).fax.inPair = s.fax.inPair ∧
    (s.trainingFailed).fax.lineLength = s.fax.lineLength ∧
    (s.trainingFailed).fax.position = s.fax.position ∧
    (s.trainingFailed).fax.pageFromPort = s.fax.pageFromPort ∧
    (s.trainingFailed).fax.markSent = s.fax.markSent ∧
    (s.trainingFailed).fax.markInQueue = s.fax.markInQueue ∧
    (s.trainingFailed).ports.system.outgoing = s.ports.system.outgoing ∧
    (s.trainingFailed).ports.system.digits = s.ports.system.digits ∧
    (s.trainingFailed).ports.system.transfer = s.ports.system.transfer ∧
    (s.trainingFailed).ports.panel.outgoing = s.ports.panel.outgoing ∧
    (s.trainingFailed).ports.panel.digits = s.ports.panel.digits ∧
    (s.trainingFailed).ports.panel.transfer = s.ports.panel.transfer ∧
    (s.trainingFailed).sys.ready = s.sys.ready ∧
    (s.trainingFailed).sys.rts = s.sys.rts ∧
    (s.trainingFailed).sys.rate = s.sys.rate ∧
    (s.trainingFailed).sys.notice = s.sys.notice ∧
    (s.trainingFailed).sys.escape = s.sys.escape ∧
    (s.trainingFailed).pan = s.pan := by
  unfold State.trainingFailed; try dsimp only
  repeat' split
  all_goals simp

@[simp] theorem State.rateChangeEntry_keeps (s : State) (rung : Nat) (confirmed : Bool) :
    (s.rateChangeEntry rung confirmed).ccu.line = s.ccu.line ∧
    (s.rateChangeEntry rung confirmed).ccu.call.active = s.ccu.call.active ∧
    (s.rateChangeEntry rung confirmed).ccu.call.number = s.ccu.call.number ∧
    (s.rateChangeEntry rung confirmed).ccu.call.direction = s.ccu.call.direction ∧
    (s.rateChangeEntry rung confirmed).ccu.call.holder = s.ccu.call.holder ∧
    (s.rateChangeEntry rung confirmed).ccu.call.job = s.ccu.call.job ∧
    (s.rateChangeEntry rung confirmed).ccu.call.dialList = s.ccu.call.dialList ∧
    (s.rateChangeEntry rung confirmed).ccu.call.farEndRinging = s.ccu.call.farEndRinging ∧
    (s.rateChangeEntry rung confirmed).ccu.call.callerStatus = s.ccu.call.callerStatus ∧
    (s.rateChangeEntry rung confirmed).ccu.call.callerNumber = s.ccu.call.callerNumber ∧
    (s.rateChangeEntry rung confirmed).ccu.call.callerName = s.ccu.call.callerName ∧
    (s.rateChangeEntry rung confirmed).ccu.call.ringPattern = s.ccu.call.ringPattern ∧
    (s.rateChangeEntry rung confirmed).ccu.call.ringCount = s.ccu.call.ringCount ∧
    (s.rateChangeEntry rung confirmed).ccu.call.startTime = s.ccu.call.startTime ∧
    (s.rateChangeEntry rung confirmed).ccu.call.linkedId = s.ccu.call.linkedId ∧
    (s.rateChangeEntry rung confirmed).ccu.call.rung = s.ccu.call.rung ∧
    (s.rateChangeEntry rung confirmed).ccu.call.lastQuality = s.ccu.call.lastQuality ∧
    (s.rateChangeEntry rung confirmed).ccu.call.seconds = s.ccu.call.seconds ∧
    (s.rateChangeEntry rung confirmed).ccu.call.cause = s.ccu.call.cause ∧
    (s.rateChangeEntry rung confirmed).ccu.dialler = s.ccu.dialler ∧
    (s.rateChangeEntry rung confirmed).ccu.lastNumber = s.ccu.lastNumber ∧
    (s.rateChangeEntry rung confirmed).ccu.ending = s.ccu.ending ∧
    (s.rateChangeEntry rung confirmed).ccu.blind = s.ccu.blind ∧
    (s.rateChangeEntry rung confirmed).ccu.claims = s.ccu.claims ∧
    (s.rateChangeEntry rung confirmed).ccu.history = s.ccu.history ∧
    (s.rateChangeEntry rung confirmed).lif = s.lif ∧
    (s.rateChangeEntry rung confirmed).timers.e0 = s.timers.e0 ∧
    (s.rateChangeEntry rung confirmed).timers.e1 = s.timers.e1 ∧
    (s.rateChangeEntry rung confirmed).timers.e5 = s.timers.e5 ∧
    (s.rateChangeEntry rung confirmed).timers.e6 = s.timers.e6 ∧
    (s.rateChangeEntry rung confirmed).timers.e7 = s.timers.e7 ∧
    (s.rateChangeEntry rung confirmed).tone = s.tone ∧
    (s.rateChangeEntry rung confirmed).rau = s.rau ∧
    (s.rateChangeEntry rung confirmed).link.mode = s.link.mode ∧
    (s.rateChangeEntry rung confirmed).link.attempts = s.link.attempts ∧
    (s.rateChangeEntry rung confirmed).link.windowSize = s.link.windowSize ∧
    (s.rateChangeEntry rung confirmed).link.payloadSize = s.link.payloadSize ∧
    (s.rateChangeEntry rung confirmed).link.vs = s.link.vs ∧
    (s.rateChangeEntry rung confirmed).link.window = s.link.window ∧
    (s.rateChangeEntry rung confirmed).link.resendMark = s.link.resendMark ∧
    (s.rateChangeEntry rung confirmed).link.retries = s.link.retries ∧
    (s.rateChangeEntry rung confirmed).link.peerBusy = s.link.peerBusy ∧
    (s.rateChangeEntry rung confirmed).link.vr = s.link.vr ∧
    (s.rateChangeEntry rung confirmed).link.rejectFlag = s.link.rejectFlag ∧
    (s.rateChangeEntry rung confirmed).link.ackOwed = s.link.ackOwed ∧
    (s.rateChangeEntry rung confirmed).link.busyAckOwed = s.link.busyAckOwed ∧
    (s.rateChangeEntry rung confirmed).link.ownBusy = s.link.ownBusy ∧
    (s.rateChangeEntry rung confirmed).link.rejectOwed = s.link.rejectOwed ∧
    (s.rateChangeEntry rung confirmed).link.clearOwed = s.link.clearOwed ∧
    (s.rateChangeEntry rung confirmed).link.reqDue = s.link.reqDue ∧
    (s.rateChangeEntry rung confirmed).link.confSetup = s.link.confSetup ∧
    (s.rateChangeEntry rung confirmed).link.confDue = s.link.confDue ∧
    (s.rateChangeEntry rung confirmed).link.peerOffer = s.link.peerOffer ∧
    (s.rateChangeEntry rung confirmed).link.byFarEnd = s.link.byFarEnd ∧
    (s.rateChangeEntry rung confirmed).link.policy = s.link.policy ∧
    (s.rateChangeEntry rung confirmed).link.offer = s.link.offer ∧
    (s.rateChangeEntry rung confirmed).link.stats = s.link.stats ∧
    (s.rateChangeEntry rung confirmed).link.outbound = s.link.outbound ∧
    (s.rateChangeEntry rung confirmed).link.inbound = s.link.inbound ∧
    (s.rateChangeEntry rung confirmed).fax = s.fax ∧
    (s.rateChangeEntry rung confirmed).voice = s.voice ∧
    (s.rateChangeEntry rung confirmed).store = s.store ∧
    (s.rateChangeEntry rung confirmed).ports.system.outgoing = s.ports.system.outgoing ∧
    (s.rateChangeEntry rung confirmed).ports.system.digits = s.ports.system.digits ∧
    (s.rateChangeEntry rung confirmed).ports.system.transfer = s.ports.system.transfer ∧
    (s.rateChangeEntry rung confirmed).ports.system.alerts = s.ports.system.alerts ∧
    (s.rateChangeEntry rung confirmed).ports.panel.outgoing = s.ports.panel.outgoing ∧
    (s.rateChangeEntry rung confirmed).ports.panel.digits = s.ports.panel.digits ∧
    (s.rateChangeEntry rung confirmed).ports.panel.transfer = s.ports.panel.transfer ∧
    (s.rateChangeEntry rung confirmed).ports.panel.alerts = s.ports.panel.alerts ∧
    (s.rateChangeEntry rung confirmed).sys = s.sys ∧
    (s.rateChangeEntry rung confirmed).pan = s.pan := by
  unfold State.rateChangeEntry; try dsimp only
  repeat' split
  all_goals simp

@[simp] theorem State.retrainEntry_keeps (s : State) (fromFarEnd : Bool) :
    (s.retrainEntry fromFarEnd).ccu.call.number = s.ccu.call.number ∧
    (s.retrainEntry fromFarEnd).ccu.call.direction = s.ccu.call.direction ∧
    (s.retrainEntry fromFarEnd).ccu.call.holder = s.ccu.call.holder ∧
    (s.retrainEntry fromFarEnd).ccu.call.job = s.ccu.call.job ∧
    (s.retrainEntry fromFarEnd).ccu.call.dialList = s.ccu.call.dialList ∧
    (s.retrainEntry fromFarEnd).ccu.call.farEndRinging = s.ccu.call.farEndRinging ∧
    (s.retrainEntry fromFarEnd).ccu.call.callerStatus = s.ccu.call.callerStatus ∧
    (s.retrainEntry fromFarEnd).ccu.call.callerNumber = s.ccu.call.callerNumber ∧
    (s.retrainEntry fromFarEnd).ccu.call.callerName = s.ccu.call.callerName ∧
    (s.retrainEntry fromFarEnd).ccu.call.ringPattern = s.ccu.call.ringPattern ∧
    (s.retrainEntry fromFarEnd).ccu.call.ringCount = s.ccu.call.ringCount ∧
    (s.retrainEntry fromFarEnd).ccu.call.startTime = s.ccu.call.startTime ∧
    (s.retrainEntry fromFarEnd).ccu.call.rung = s.ccu.call.rung ∧
    (s.retrainEntry fromFarEnd).ccu.call.lastQuality = s.ccu.call.lastQuality ∧
    (s.retrainEntry fromFarEnd).ccu.call.seconds = s.ccu.call.seconds ∧
    (s.retrainEntry fromFarEnd).ccu.dialler.cursor = s.ccu.dialler.cursor ∧
    (s.retrainEntry fromFarEnd).ccu.dialler.breaksEnded = s.ccu.dialler.breaksEnded ∧
    (s.retrainEntry fromFarEnd).ccu.dialler.lastMake = s.ccu.dialler.lastMake ∧
    (s.retrainEntry fromFarEnd).ccu.lastNumber = s.ccu.lastNumber ∧
    (s.retrainEntry fromFarEnd).ccu.blind = s.ccu.blind ∧
    (s.retrainEntry fromFarEnd).ccu.claims = s.ccu.claims ∧
    (s.retrainEntry fromFarEnd).lif.ringPresent = s.lif.ringPresent ∧
    (s.retrainEntry fromFarEnd).lif.hangover = s.lif.hangover ∧
    (s.retrainEntry fromFarEnd).lif.voltageBelow = s.lif.voltageBelow ∧
    (s.retrainEntry fromFarEnd).lif.currentBelow = s.lif.currentBelow ∧
    (s.retrainEntry fromFarEnd).lif.pickupLatch = s.lif.pickupLatch ∧
    (s.retrainEntry fromFarEnd).timers.e7 = s.timers.e7 ∧
    (s.retrainEntry fromFarEnd).rau.episode = s.rau.episode ∧
    (s.retrainEntry fromFarEnd).rau.caller = s.rau.caller ∧
    (s.retrainEntry fromFarEnd).rau.presence = s.rau.presence ∧
    (s.retrainEntry fromFarEnd).rau.deadlines = s.rau.deadlines ∧
    (s.retrainEntry fromFarEnd).fax.role = s.fax.role ∧
    (s.retrainEntry fromFarEnd).fax.place = s.fax.place ∧
    (s.retrainEntry fromFarEnd).fax.rung = s.fax.rung ∧
    (s.retrainEntry fromFarEnd).fax.floor = s.fax.floor ∧
    (s.retrainEntry fromFarEnd).fax.ceiling = s.fax.ceiling ∧
    (s.retrainEntry fromFarEnd).fax.resolution = s.fax.resolution ∧
    (s.retrainEntry fromFarEnd).fax.scanMs = s.fax.scanMs ∧
    (s.retrainEntry fromFarEnd).fax.page = s.fax.page ∧
    (s.retrainEntry fromFarEnd).fax.attempts = s.fax.attempts ∧
    (s.retrainEntry fromFarEnd).fax.accepted = s.fax.accepted ∧
    (s.retrainEntry fromFarEnd).fax.linkedId = s.fax.linkedId ∧
    (s.retrainEntry fromFarEnd).fax.pageStart = s.fax.pageStart ∧
    (s.retrainEntry fromFarEnd).fax.windows = s.fax.windows ∧
    (s.retrainEntry fromFarEnd).fax.badWindows = s.fax.badWindows ∧
    (s.retrainEntry fromFarEnd).fax.overflow = s.fax.overflow ∧
    (s.retrainEntry fromFarEnd).fax.retries = s.fax.retries ∧
    (s.retrainEntry fromFarEnd).fax.lastFrame = s.fax.lastFrame ∧
    (s.retrainEntry fromFarEnd).fax.more = s.fax.more ∧
    (s.retrainEntry fromFarEnd).fax.checkOverloaded = s.fax.checkOverloaded ∧
    (s.retrainEntry fromFarEnd).fax.inPair = s.fax.inPair ∧
    (s.retrainEntry fromFarEnd).fax.lineLength = s.fax.lineLength ∧
    (s.retrainEntry fromFarEnd).fax.position = s.fax.position ∧
    (s.retrainEntry fromFarEnd).fax.pageFromPort = s.fax.pageFromPort ∧
    (s.retrainEntry fromFarEnd).fax.markSent = s.fax.markSent ∧
    (s.retrainEntry fromFarEnd).fax.markInQueue = s.fax.markInQueue ∧
    (s.retrainEntry fromFarEnd).ports.system.outgoing = s.ports.system.outgoing ∧
    (s.retrainEntry fromFarEnd).ports.system.digits = s.ports.system.digits ∧
    (s.retrainEntry fromFarEnd).ports.system.transfer = s.ports.system.transfer ∧
    (s.retrainEntry fromFarEnd).ports.panel.outgoing = s.ports.panel.outgoing ∧
    (s.retrainEntry fromFarEnd).ports.panel.digits = s.ports.panel.digits ∧
    (s.retrainEntry fromFarEnd).ports.panel.transfer = s.ports.panel.transfer ∧
    (s.retrainEntry fromFarEnd).sys.ready = s.sys.ready ∧
    (s.retrainEntry fromFarEnd).sys.rts = s.sys.rts ∧
    (s.retrainEntry fromFarEnd).sys.rate = s.sys.rate ∧
    (s.retrainEntry fromFarEnd).sys.notice = s.sys.notice ∧
    (s.retrainEntry fromFarEnd).sys.escape = s.sys.escape ∧
    (s.retrainEntry fromFarEnd).pan = s.pan := by
  unfold State.retrainEntry; try dsimp only
  repeat' split
  all_goals simp

@[simp] theorem State.cleardown_keeps (s : State) :
    (s.cleardown).ccu.line = s.ccu.line ∧
    (s.cleardown).ccu.call = s.ccu.call ∧
    (s.cleardown).ccu.dialler = s.ccu.dialler ∧
    (s.cleardown).ccu.lastNumber = s.ccu.lastNumber ∧
    (s.cleardown).ccu.ending = s.ccu.ending ∧
    (s.cleardown).ccu.blind = s.ccu.blind ∧
    (s.cleardown).ccu.claims = s.ccu.claims ∧
    (s.cleardown).ccu.history = s.ccu.history ∧
    (s.cleardown).lif = s.lif ∧
    (s.cleardown).timers.e0 = s.timers.e0 ∧
    (s.cleardown).timers.e1 = s.timers.e1 ∧
    (s.cleardown).timers.e3 = s.timers.e3 ∧
    (s.cleardown).timers.e5 = s.timers.e5 ∧
    (s.cleardown).timers.e6 = s.timers.e6 ∧
    (s.cleardown).timers.e7 = s.timers.e7 ∧
    (s.cleardown).tone = s.tone ∧
    (s.cleardown).rau = s.rau ∧
    (s.cleardown).link = s.link ∧
    (s.cleardown).fax = s.fax ∧
    (s.cleardown).voice = s.voice ∧
    (s.cleardown).store = s.store ∧
    (s.cleardown).ports = s.ports ∧
    (s.cleardown).sys = s.sys ∧
    (s.cleardown).pan = s.pan := by
  unfold State.cleardown; try dsimp only
  repeat' split
  all_goals simp

@[simp] theorem State.rateDecision_keeps (s : State) (r : WindowReport) :
    (s.rateDecision r).ccu.call.number = s.ccu.call.number ∧
    (s.rateDecision r).ccu.call.direction = s.ccu.call.direction ∧
    (s.rateDecision r).ccu.call.holder = s.ccu.call.holder ∧
    (s.rateDecision r).ccu.call.job = s.ccu.call.job ∧
    (s.rateDecision r).ccu.call.dialList = s.ccu.call.dialList ∧
    (s.rateDecision r).ccu.call.farEndRinging = s.ccu.call.farEndRinging ∧
    (s.rateDecision r).ccu.call.callerStatus = s.ccu.call.callerStatus ∧
    (s.rateDecision r).ccu.call.callerNumber = s.ccu.call.callerNumber ∧
    (s.rateDecision r).ccu.call.callerName = s.ccu.call.callerName ∧
    (s.rateDecision r).ccu.call.ringPattern = s.ccu.call.ringPattern ∧
    (s.rateDecision r).ccu.call.ringCount = s.ccu.call.ringCount ∧
    (s.rateDecision r).ccu.call.startTime = s.ccu.call.startTime ∧
    (s.rateDecision r).ccu.call.rung = s.ccu.call.rung ∧
    (s.rateDecision r).ccu.call.lastQuality = s.ccu.call.lastQuality ∧
    (s.rateDecision r).ccu.call.seconds = s.ccu.call.seconds ∧
    (s.rateDecision r).ccu.dialler.cursor = s.ccu.dialler.cursor ∧
    (s.rateDecision r).ccu.dialler.breaksEnded = s.ccu.dialler.breaksEnded ∧
    (s.rateDecision r).ccu.dialler.lastMake = s.ccu.dialler.lastMake ∧
    (s.rateDecision r).ccu.lastNumber = s.ccu.lastNumber ∧
    (s.rateDecision r).ccu.blind = s.ccu.blind ∧
    (s.rateDecision r).ccu.claims = s.ccu.claims ∧
    (s.rateDecision r).lif.ringPresent = s.lif.ringPresent ∧
    (s.rateDecision r).lif.hangover = s.lif.hangover ∧
    (s.rateDecision r).lif.voltageBelow = s.lif.voltageBelow ∧
    (s.rateDecision r).lif.currentBelow = s.lif.currentBelow ∧
    (s.rateDecision r).lif.pickupLatch = s.lif.pickupLatch ∧
    (s.rateDecision r).timers.e7 = s.timers.e7 ∧
    (s.rateDecision r).rau.episode = s.rau.episode ∧
    (s.rateDecision r).rau.caller = s.rau.caller ∧
    (s.rateDecision r).rau.presence = s.rau.presence ∧
    (s.rateDecision r).rau.deadlines = s.rau.deadlines ∧
    (s.rateDecision r).fax.role = s.fax.role ∧
    (s.rateDecision r).fax.place = s.fax.place ∧
    (s.rateDecision r).fax.rung = s.fax.rung ∧
    (s.rateDecision r).fax.floor = s.fax.floor ∧
    (s.rateDecision r).fax.ceiling = s.fax.ceiling ∧
    (s.rateDecision r).fax.resolution = s.fax.resolution ∧
    (s.rateDecision r).fax.scanMs = s.fax.scanMs ∧
    (s.rateDecision r).fax.page = s.fax.page ∧
    (s.rateDecision r).fax.attempts = s.fax.attempts ∧
    (s.rateDecision r).fax.accepted = s.fax.accepted ∧
    (s.rateDecision r).fax.linkedId = s.fax.linkedId ∧
    (s.rateDecision r).fax.pageStart = s.fax.pageStart ∧
    (s.rateDecision r).fax.windows = s.fax.windows ∧
    (s.rateDecision r).fax.badWindows = s.fax.badWindows ∧
    (s.rateDecision r).fax.overflow = s.fax.overflow ∧
    (s.rateDecision r).fax.retries = s.fax.retries ∧
    (s.rateDecision r).fax.lastFrame = s.fax.lastFrame ∧
    (s.rateDecision r).fax.more = s.fax.more ∧
    (s.rateDecision r).fax.checkOverloaded = s.fax.checkOverloaded ∧
    (s.rateDecision r).fax.inPair = s.fax.inPair ∧
    (s.rateDecision r).fax.lineLength = s.fax.lineLength ∧
    (s.rateDecision r).fax.position = s.fax.position ∧
    (s.rateDecision r).fax.pageFromPort = s.fax.pageFromPort ∧
    (s.rateDecision r).fax.markSent = s.fax.markSent ∧
    (s.rateDecision r).fax.markInQueue = s.fax.markInQueue ∧
    (s.rateDecision r).ports.system.outgoing = s.ports.system.outgoing ∧
    (s.rateDecision r).ports.system.digits = s.ports.system.digits ∧
    (s.rateDecision r).ports.system.transfer = s.ports.system.transfer ∧
    (s.rateDecision r).ports.panel.outgoing = s.ports.panel.outgoing ∧
    (s.rateDecision r).ports.panel.digits = s.ports.panel.digits ∧
    (s.rateDecision r).ports.panel.transfer = s.ports.panel.transfer ∧
    (s.rateDecision r).sys.ready = s.sys.ready ∧
    (s.rateDecision r).sys.rts = s.sys.rts ∧
    (s.rateDecision r).sys.rate = s.sys.rate ∧
    (s.rateDecision r).sys.notice = s.sys.notice ∧
    (s.rateDecision r).sys.escape = s.sys.escape ∧
    (s.rateDecision r).pan = s.pan := by
  unfold State.rateDecision; try dsimp only
  repeat' split
  all_goals simp

@[simp] theorem State.faxWindow_keeps (s : State) (r : WindowReport) :
    (s.faxWindow r).ccu = s.ccu ∧
    (s.faxWindow r).lif = s.lif ∧
    (s.faxWindow r).timers = s.timers ∧
    (s.faxWindow r).tone = s.tone ∧
    (s.faxWindow r).rau = s.rau ∧
    (s.faxWindow r).level = s.level ∧
    (s.faxWindow r).pump = s.pump ∧
    (s.faxWindow r).link = s.link ∧
    (s.faxWindow r).fax.role = s.fax.role ∧
    (s.faxWindow r).fax.place = s.fax.place ∧
    (s.faxWindow r).fax.phase = s.fax.phase ∧
    (s.faxWindow r).fax.rung = s.fax.rung ∧
    (s.faxWindow r).fax.floor = s.fax.floor ∧
    (s.faxWindow r).fax.ceiling = s.fax.ceiling ∧
    (s.faxWindow r).fax.resolution = s.fax.resolution ∧
    (s.faxWindow r).fax.scanMs = s.fax.scanMs ∧
    (s.faxWindow r).fax.page = s.fax.page ∧
    (s.faxWindow r).fax.attempts = s.fax.attempts ∧
    (s.faxWindow r).fax.accepted = s.fax.accepted ∧
    (s.faxWindow r).fax.linkedId = s.fax.linkedId ∧
    (s.faxWindow r).fax.pageStart = s.fax.pageStart ∧
    (s.faxWindow r).fax.overflow = s.fax.overflow ∧
    (s.faxWindow r).fax.retries = s.fax.retries ∧
    (s.faxWindow r).fax.lastFrame = s.fax.lastFrame ∧
    (s.faxWindow r).fax.more = s.fax.more ∧
    (s.faxWindow r).fax.expect = s.fax.expect ∧
    (s.faxWindow r).fax.checkSending = s.fax.checkSending ∧
    (s.faxWindow r).fax.dataBegun = s.fax.dataBegun ∧
    (s.faxWindow r).fax.inPair = s.fax.inPair ∧
    (s.faxWindow r).fax.lineLength = s.fax.lineLength ∧
    (s.faxWindow r).fax.position = s.fax.position ∧
    (s.faxWindow r).fax.markOut = s.fax.markOut ∧
    (s.faxWindow r).fax.pageFromPort = s.fax.pageFromPort ∧
    (s.faxWindow r).fax.markSent = s.fax.markSent ∧
    (s.faxWindow r).fax.markInQueue = s.fax.markInQueue ∧
    (s.faxWindow r).fax.endAfter = s.fax.endAfter ∧
    (s.faxWindow r).fax.unsent = s.fax.unsent ∧
    (s.faxWindow r).fax.answered = s.fax.answered ∧
    (s.faxWindow r).voice = s.voice ∧
    (s.faxWindow r).store = s.store ∧
    (s.faxWindow r).ports = s.ports ∧
    (s.faxWindow r).sys = s.sys ∧
    (s.faxWindow r).pan = s.pan := by
  unfold State.faxWindow; try dsimp only
  repeat' split
  all_goals simp

@[simp] theorem State.reportQuality_keeps (s : State) (q : Nat) :
    (s.reportQuality q).ccu.line = s.ccu.line ∧
    (s.reportQuality q).ccu.call.active = s.ccu.call.active ∧
    (s.reportQuality q).ccu.call.number = s.ccu.call.number ∧
    (s.reportQuality q).ccu.call.direction = s.ccu.call.direction ∧
    (s.reportQuality q).ccu.call.holder = s.ccu.call.holder ∧
    (s.reportQuality q).ccu.call.job = s.ccu.call.job ∧
    (s.reportQuality q).ccu.call.phase = s.ccu.call.phase ∧
    (s.reportQuality q).ccu.call.dialList = s.ccu.call.dialList ∧
    (s.reportQuality q).ccu.call.farEndRinging = s.ccu.call.farEndRinging ∧
    (s.reportQuality q).ccu.call.callerStatus = s.ccu.call.callerStatus ∧
    (s.reportQuality q).ccu.call.callerNumber = s.ccu.call.callerNumber ∧
    (s.reportQuality q).ccu.call.callerName = s.ccu.call.callerName ∧
    (s.reportQuality q).ccu.call.ringPattern = s.ccu.call.ringPattern ∧
    (s.reportQuality q).ccu.call.ringCount = s.ccu.call.ringCount ∧
    (s.reportQuality q).ccu.call.startTime = s.ccu.call.startTime ∧
    (s.reportQuality q).ccu.call.linkedId = s.ccu.call.linkedId ∧
    (s.reportQuality q).ccu.call.rung = s.ccu.call.rung ∧
    (s.reportQuality q).ccu.call.seconds = s.ccu.call.seconds ∧
    (s.reportQuality q).ccu.call.cause = s.ccu.call.cause ∧
    (s.reportQuality q).ccu.dialler = s.ccu.dialler ∧
    (s.reportQuality q).ccu.lastNumber = s.ccu.lastNumber ∧
    (s.reportQuality q).ccu.ending = s.ccu.ending ∧
    (s.reportQuality q).ccu.blind = s.ccu.blind ∧
    (s.reportQuality q).ccu.claims = s.ccu.claims ∧
    (s.reportQuality q).ccu.history = s.ccu.history ∧
    (s.reportQuality q).ccu.t2Use = s.ccu.t2Use ∧
    (s.reportQuality q).lif = s.lif ∧
    (s.reportQuality q).timers = s.timers ∧
    (s.reportQuality q).tone = s.tone ∧
    (s.reportQuality q).rau = s.rau ∧
    (s.reportQuality q).level = s.level ∧
    (s.reportQuality q).pump = s.pump ∧
    (s.reportQuality q).link = s.link ∧
    (s.reportQuality q).fax = s.fax ∧
    (s.reportQuality q).voice = s.voice ∧
    (s.reportQuality q).store = s.store ∧
    (s.reportQuality q).ports = s.ports ∧
    (s.reportQuality q).sys = s.sys ∧
    (s.reportQuality q).pan = s.pan := by
  unfold State.reportQuality; try dsimp only
  repeat' split
  all_goals simp

@[simp] theorem State.takeReport_keeps (s : State) (r : WindowReport) :
    (s.takeReport r).ccu.call.number = s.ccu.call.number ∧
    (s.takeReport r).ccu.call.direction = s.ccu.call.direction ∧
    (s.takeReport r).ccu.call.holder = s.ccu.call.holder ∧
    (s.takeReport r).ccu.call.job = s.ccu.call.job ∧
    (s.takeReport r).ccu.call.dialList = s.ccu.call.dialList ∧
    (s.takeReport r).ccu.call.farEndRinging = s.ccu.call.farEndRinging ∧
    (s.takeReport r).ccu.call.callerStatus = s.ccu.call.callerStatus ∧
    (s.takeReport r).ccu.call.callerNumber = s.ccu.call.callerNumber ∧
    (s.takeReport r).ccu.call.callerName = s.ccu.call.callerName ∧
    (s.takeReport r).ccu.call.ringPattern = s.ccu.call.ringPattern ∧
    (s.takeReport r).ccu.call.ringCount = s.ccu.call.ringCount ∧
    (s.takeReport r).ccu.call.startTime = s.ccu.call.startTime ∧
    (s.takeReport r).ccu.call.rung = s.ccu.call.rung ∧
    (s.takeReport r).ccu.call.seconds = s.ccu.call.seconds ∧
    (s.takeReport r).ccu.dialler.cursor = s.ccu.dialler.cursor ∧
    (s.takeReport r).ccu.dialler.breaksEnded = s.ccu.dialler.breaksEnded ∧
    (s.takeReport r).ccu.dialler.lastMake = s.ccu.dialler.lastMake ∧
    (s.takeReport r).ccu.lastNumber = s.ccu.lastNumber ∧
    (s.takeReport r).ccu.blind = s.ccu.blind ∧
    (s.takeReport r).ccu.claims = s.ccu.claims ∧
    (s.takeReport r).lif.ringPresent = s.lif.ringPresent ∧
    (s.takeReport r).lif.hangover = s.lif.hangover ∧
    (s.takeReport r).lif.voltageBelow = s.lif.voltageBelow ∧
    (s.takeReport r).lif.currentBelow = s.lif.currentBelow ∧
    (s.takeReport r).lif.pickupLatch = s.lif.pickupLatch ∧
    (s.takeReport r).timers.e7 = s.timers.e7 ∧
    (s.takeReport r).rau.episode = s.rau.episode ∧
    (s.takeReport r).rau.caller = s.rau.caller ∧
    (s.takeReport r).rau.presence = s.rau.presence ∧
    (s.takeReport r).rau.deadlines = s.rau.deadlines ∧
    (s.takeReport r).fax.role = s.fax.role ∧
    (s.takeReport r).fax.place = s.fax.place ∧
    (s.takeReport r).fax.rung = s.fax.rung ∧
    (s.takeReport r).fax.floor = s.fax.floor ∧
    (s.takeReport r).fax.ceiling = s.fax.ceiling ∧
    (s.takeReport r).fax.resolution = s.fax.resolution ∧
    (s.takeReport r).fax.scanMs = s.fax.scanMs ∧
    (s.takeReport r).fax.page = s.fax.page ∧
    (s.takeReport r).fax.attempts = s.fax.attempts ∧
    (s.takeReport r).fax.accepted = s.fax.accepted ∧
    (s.takeReport r).fax.linkedId = s.fax.linkedId ∧
    (s.takeReport r).fax.pageStart = s.fax.pageStart ∧
    (s.takeReport r).fax.overflow = s.fax.overflow ∧
    (s.takeReport r).fax.retries = s.fax.retries ∧
    (s.takeReport r).fax.lastFrame = s.fax.lastFrame ∧
    (s.takeReport r).fax.more = s.fax.more ∧
    (s.takeReport r).fax.inPair = s.fax.inPair ∧
    (s.takeReport r).fax.lineLength = s.fax.lineLength ∧
    (s.takeReport r).fax.position = s.fax.position ∧
    (s.takeReport r).fax.pageFromPort = s.fax.pageFromPort ∧
    (s.takeReport r).fax.markSent = s.fax.markSent ∧
    (s.takeReport r).fax.markInQueue = s.fax.markInQueue ∧
    (s.takeReport r).ports.system.outgoing = s.ports.system.outgoing ∧
    (s.takeReport r).ports.system.digits = s.ports.system.digits ∧
    (s.takeReport r).ports.system.transfer = s.ports.system.transfer ∧
    (s.takeReport r).ports.panel.outgoing = s.ports.panel.outgoing ∧
    (s.takeReport r).ports.panel.digits = s.ports.panel.digits ∧
    (s.takeReport r).ports.panel.transfer = s.ports.panel.transfer ∧
    (s.takeReport r).sys.ready = s.sys.ready ∧
    (s.takeReport r).sys.rts = s.sys.rts ∧
    (s.takeReport r).sys.rate = s.sys.rate ∧
    (s.takeReport r).sys.notice = s.sys.notice ∧
    (s.takeReport r).sys.escape = s.sys.escape ∧
    (s.takeReport r).pan = s.pan := by
  unfold State.takeReport; try dsimp only
  repeat' split
  all_goals simp

@[simp] theorem State.formFrame_keeps (s : State) :
    (s.formFrame).ccu = s.ccu ∧
    (s.formFrame).lif = s.lif ∧
    (s.formFrame).timers.e0 = s.timers.e0 ∧
    (s.formFrame).timers.e1 = s.timers.e1 ∧
    (s.formFrame).timers.e2 = s.timers.e2 ∧
    (s.formFrame).timers.e4 = s.timers.e4 ∧
    (s.formFrame).timers.e5 = s.timers.e5 ∧
    (s.formFrame).timers.e6 = s.timers.e6 ∧
    (s.formFrame).timers.e7 = s.timers.e7 ∧
    (s.formFrame).tone = s.tone ∧
    (s.formFrame).rau = s.rau ∧
    (s.formFrame).level = s.level ∧
    (s.formFrame).pump = s.pump ∧
    (s.formFrame).fax = s.fax ∧
    (s.formFrame).voice = s.voice ∧
    (s.formFrame).store = s.store ∧
    (s.formFrame).ports = s.ports ∧
    (s.formFrame).sys.data = s.sys.data ∧
    (s.formFrame).sys.entryDue = s.sys.entryDue ∧
    (s.formFrame).sys.goDataDue = s.sys.goDataDue ∧
    (s.formFrame).sys.ready = s.sys.ready ∧
    (s.formFrame).sys.rts = s.sys.rts ∧
    (s.formFrame).sys.lastByte = s.sys.lastByte ∧
    (s.formFrame).sys.rate = s.sys.rate ∧
    (s.formFrame).sys.notice = s.sys.notice ∧
    (s.formFrame).sys.escape = s.sys.escape ∧
    (s.formFrame).pan = s.pan := by
  unfold State.formFrame; try dsimp only
  repeat' split
  all_goals simp

@[simp] theorem State.sendLinked_keeps (s : State) :
    (s.sendLinked).ccu = s.ccu ∧
    (s.sendLinked).lif = s.lif ∧
    (s.sendLinked).timers.e0 = s.timers.e0 ∧
    (s.sendLinked).timers.e1 = s.timers.e1 ∧
    (s.sendLinked).timers.e2 = s.timers.e2 ∧
    (s.sendLinked).timers.e4 = s.timers.e4 ∧
    (s.sendLinked).timers.e5 = s.timers.e5 ∧
    (s.sendLinked).timers.e6 = s.timers.e6 ∧
    (s.sendLinked).timers.e7 = s.timers.e7 ∧
    (s.sendLinked).tone = s.tone ∧
    (s.sendLinked).rau = s.rau ∧
    (s.sendLinked).level = s.level ∧
    (s.sendLinked).pump = s.pump ∧
    (s.sendLinked).fax = s.fax ∧
    (s.sendLinked).voice = s.voice ∧
    (s.sendLinked).store = s.store ∧
    (s.sendLinked).ports = s.ports ∧
    (s.sendLinked).sys.data = s.sys.data ∧
    (s.sendLinked).sys.entryDue = s.sys.entryDue ∧
    (s.sendLinked).sys.goDataDue = s.sys.goDataDue ∧
    (s.sendLinked).sys.ready = s.sys.ready ∧
    (s.sendLinked).sys.rts = s.sys.rts ∧
    (s.sendLinked).sys.lastByte = s.sys.lastByte ∧
    (s.sendLinked).sys.rate = s.sys.rate ∧
    (s.sendLinked).sys.notice = s.sys.notice ∧
    (s.sendLinked).sys.escape = s.sys.escape ∧
    (s.sendLinked).pan = s.pan := by
  unfold State.sendLinked; try dsimp only
  repeat' split
  all_goals simp

@[simp] theorem State.sendDirect_keeps (s : State) :
    (s.sendDirect).ccu = s.ccu ∧
    (s.sendDirect).lif = s.lif ∧
    (s.sendDirect).timers = s.timers ∧
    (s.sendDirect).tone = s.tone ∧
    (s.sendDirect).rau = s.rau ∧
    (s.sendDirect).level = s.level ∧
    (s.sendDirect).pump = s.pump ∧
    (s.sendDirect).link.mode = s.link.mode ∧
    (s.sendDirect).link.paused = s.link.paused ∧
    (s.sendDirect).link.attempts = s.link.attempts ∧
    (s.sendDirect).link.windowSize = s.link.windowSize ∧
    (s.sendDirect).link.payloadSize = s.link.payloadSize ∧
    (s.sendDirect).link.vs = s.link.vs ∧
    (s.sendDirect).link.window = s.link.window ∧
    (s.sendDirect).link.resendMark = s.link.resendMark ∧
    (s.sendDirect).link.retries = s.link.retries ∧
    (s.sendDirect).link.peerBusy = s.link.peerBusy ∧
    (s.sendDirect).link.vr = s.link.vr ∧
    (s.sendDirect).link.rejectFlag = s.link.rejectFlag ∧
    (s.sendDirect).link.ackOwed = s.link.ackOwed ∧
    (s.sendDirect).link.busyAckOwed = s.link.busyAckOwed ∧
    (s.sendDirect).link.ownBusy = s.link.ownBusy ∧
    (s.sendDirect).link.rejectOwed = s.link.rejectOwed ∧
    (s.sendDirect).link.clearOwed = s.link.clearOwed ∧
    (s.sendDirect).link.reqDue = s.link.reqDue ∧
    (s.sendDirect).link.confSetup = s.link.confSetup ∧
    (s.sendDirect).link.confDue = s.link.confDue ∧
    (s.sendDirect).link.peerOffer = s.link.peerOffer ∧
    (s.sendDirect).link.byFarEnd = s.link.byFarEnd ∧
    (s.sendDirect).link.policy = s.link.policy ∧
    (s.sendDirect).link.offer = s.link.offer ∧
    (s.sendDirect).link.stats = s.link.stats ∧
    (s.sendDirect).link.inbound = s.link.inbound ∧
    (s.sendDirect).fax = s.fax ∧
    (s.sendDirect).voice = s.voice ∧
    (s.sendDirect).store = s.store ∧
    (s.sendDirect).ports = s.ports ∧
    (s.sendDirect).sys.data = s.sys.data ∧
    (s.sendDirect).sys.entryDue = s.sys.entryDue ∧
    (s.sendDirect).sys.goDataDue = s.sys.goDataDue ∧
    (s.sendDirect).sys.ready = s.sys.ready ∧
    (s.sendDirect).sys.rts = s.sys.rts ∧
    (s.sendDirect).sys.lastByte = s.sys.lastByte ∧
    (s.sendDirect).sys.rate = s.sys.rate ∧
    (s.sendDirect).sys.notice = s.sys.notice ∧
    (s.sendDirect).sys.escape = s.sys.escape ∧
    (s.sendDirect).pan = s.pan := by
  unfold State.sendDirect; try dsimp only
  repeat' split
  all_goals simp

@[simp] theorem State.faxTo_keeps (s : State) (p : FaxPhase) :
    (s.faxTo p).ccu.line = s.ccu.line ∧
    (s.faxTo p).ccu.call.active = s.ccu.call.active ∧
    (s.faxTo p).ccu.call.number = s.ccu.call.number ∧
    (s.faxTo p).ccu.call.direction = s.ccu.call.direction ∧
    (s.faxTo p).ccu.call.holder = s.ccu.call.holder ∧
    (s.faxTo p).ccu.call.job = s.ccu.call.job ∧
    (s.faxTo p).ccu.call.dialList = s.ccu.call.dialList ∧
    (s.faxTo p).ccu.call.farEndRinging = s.ccu.call.farEndRinging ∧
    (s.faxTo p).ccu.call.callerStatus = s.ccu.call.callerStatus ∧
    (s.faxTo p).ccu.call.callerNumber = s.ccu.call.callerNumber ∧
    (s.faxTo p).ccu.call.callerName = s.ccu.call.callerName ∧
    (s.faxTo p).ccu.call.ringPattern = s.ccu.call.ringPattern ∧
    (s.faxTo p).ccu.call.ringCount = s.ccu.call.ringCount ∧
    (s.faxTo p).ccu.call.startTime = s.ccu.call.startTime ∧
    (s.faxTo p).ccu.call.linkedId = s.ccu.call.linkedId ∧
    (s.faxTo p).ccu.call.rung = s.ccu.call.rung ∧
    (s.faxTo p).ccu.call.lastQuality = s.ccu.call.lastQuality ∧
    (s.faxTo p).ccu.call.seconds = s.ccu.call.seconds ∧
    (s.faxTo p).ccu.call.cause = s.ccu.call.cause ∧
    (s.faxTo p).ccu.dialler = s.ccu.dialler ∧
    (s.faxTo p).ccu.lastNumber = s.ccu.lastNumber ∧
    (s.faxTo p).ccu.ending = s.ccu.ending ∧
    (s.faxTo p).ccu.blind = s.ccu.blind ∧
    (s.faxTo p).ccu.claims = s.ccu.claims ∧
    (s.faxTo p).ccu.history = s.ccu.history ∧
    (s.faxTo p).ccu.t2Use = s.ccu.t2Use ∧
    (s.faxTo p).lif = s.lif ∧
    (s.faxTo p).timers = s.timers ∧
    (s.faxTo p).tone = s.tone ∧
    (s.faxTo p).rau = s.rau ∧
    (s.faxTo p).level = s.level ∧
    (s.faxTo p).pump = s.pump ∧
    (s.faxTo p).link = s.link ∧
    (s.faxTo p).fax.role = s.fax.role ∧
    (s.faxTo p).fax.place = s.fax.place ∧
    (s.faxTo p).fax.rung = s.fax.rung ∧
    (s.faxTo p).fax.floor = s.fax.floor ∧
    (s.faxTo p).fax.ceiling = s.fax.ceiling ∧
    (s.faxTo p).fax.resolution = s.fax.resolution ∧
    (s.faxTo p).fax.scanMs = s.fax.scanMs ∧
    (s.faxTo p).fax.page = s.fax.page ∧
    (s.faxTo p).fax.attempts = s.fax.attempts ∧
    (s.faxTo p).fax.accepted = s.fax.accepted ∧
    (s.faxTo p).fax.linkedId = s.fax.linkedId ∧
    (s.faxTo p).fax.pageStart = s.fax.pageStart ∧
    (s.faxTo p).fax.windows = s.fax.windows ∧
    (s.faxTo p).fax.badWindows = s.fax.badWindows ∧
    (s.faxTo p).fax.overflow = s.fax.overflow ∧
    (s.faxTo p).fax.retries = s.fax.retries ∧
    (s.faxTo p).fax.lastFrame = s.fax.lastFrame ∧
    (s.faxTo p).fax.more = s.fax.more ∧
    (s.faxTo p).fax.expect = s.fax.expect ∧
    (s.faxTo p).fax.checkSending = s.fax.checkSending ∧
    (s.faxTo p).fax.checkOverloaded = s.fax.checkOverloaded ∧
    (s.faxTo p).fax.dataBegun = s.fax.dataBegun ∧
    (s.faxTo p).fax.inPair = s.fax.inPair ∧
    (s.faxTo p).fax.lineLength = s.fax.lineLength ∧
    (s.faxTo p).fax.position = s.fax.position ∧
    (s.faxTo p).fax.markOut = s.fax.markOut ∧
    (s.faxTo p).fax.pageFromPort = s.fax.pageFromPort ∧
    (s.faxTo p).fax.markSent = s.fax.markSent ∧
    (s.faxTo p).fax.markInQueue = s.fax.markInQueue ∧
    (s.faxTo p).fax.endAfter = s.fax.endAfter ∧
    (s.faxTo p).fax.unsent = s.fax.unsent ∧
    (s.faxTo p).fax.answered = s.fax.answered ∧
    (s.faxTo p).voice = s.voice ∧
    (s.faxTo p).store = s.store ∧
    (s.faxTo p).ports = s.ports ∧
    (s.faxTo p).sys = s.sys ∧
    (s.faxTo p).pan = s.pan := by
  unfold State.faxTo; try dsimp only
  repeat' split
  all_goals simp

@[simp] theorem State.faxWait_keeps (s : State) :
    (s.faxWait).ccu.line = s.ccu.line ∧
    (s.faxWait).ccu.call = s.ccu.call ∧
    (s.faxWait).ccu.dialler = s.ccu.dialler ∧
    (s.faxWait).ccu.lastNumber = s.ccu.lastNumber ∧
    (s.faxWait).ccu.ending = s.ccu.ending ∧
    (s.faxWait).ccu.blind = s.ccu.blind ∧
    (s.faxWait).ccu.claims = s.ccu.claims ∧
    (s.faxWait).ccu.history = s.ccu.history ∧
    (s.faxWait).timers.e0 = s.timers.e0 ∧
    (s.faxWait).timers.e1 = s.timers.e1 ∧
    (s.faxWait).timers.e3 = s.timers.e3 ∧
    (s.faxWait).timers.e4 = s.timers.e4 ∧
    (s.faxWait).timers.e5 = s.timers.e5 ∧
    (s.faxWait).timers.e6 = s.timers.e6 ∧
    (s.faxWait).timers.e7 = s.timers.e7 := by
  unfold State.faxWait; try dsimp only
  repeat' split
  all_goals simp

@[simp] theorem State.faxFrame_keeps (s : State) (f : FaxFrame) :
    (s.faxFrame f).link.mode = s.link.mode ∧
    (s.faxFrame f).link.paused = s.link.paused ∧
    (s.faxFrame f).link.attempts = s.link.attempts ∧
    (s.faxFrame f).link.windowSize = s.link.windowSize ∧
    (s.faxFrame f).link.payloadSize = s.link.payloadSize ∧
    (s.faxFrame f).link.vs = s.link.vs ∧
    (s.faxFrame f).link.window = s.link.window ∧
    (s.faxFrame f).link.resendMark = s.link.resendMark ∧
    (s.faxFrame f).link.retries = s.link.retries ∧
    (s.faxFrame f).link.peerBusy = s.link.peerBusy ∧
    (s.faxFrame f).link.vr = s.link.vr ∧
    (s.faxFrame f).link.rejectFlag = s.link.rejectFlag ∧
    (s.faxFrame f).link.ackOwed = s.link.ackOwed ∧
    (s.faxFrame f).link.busyAckOwed = s.link.busyAckOwed ∧
    (s.faxFrame f).link.ownBusy = s.link.ownBusy ∧
    (s.faxFrame f).link.rejectOwed = s.link.rejectOwed ∧
    (s.faxFrame f).link.clearOwed = s.link.clearOwed ∧
    (s.faxFrame f).link.reqDue = s.link.reqDue ∧
    (s.faxFrame f).link.confSetup = s.link.confSetup ∧
    (s.faxFrame f).link.confDue = s.link.confDue ∧
    (s.faxFrame f).link.peerOffer = s.link.peerOffer ∧
    (s.faxFrame f).link.byFarEnd = s.link.byFarEnd ∧
    (s.faxFrame f).link.policy = s.link.policy ∧
    (s.faxFrame f).link.offer = s.link.offer ∧
    (s.faxFrame f).link.stats = s.link.stats ∧
    (s.faxFrame f).link.outbound = s.link.outbound ∧
    (s.faxFrame f).link.inbound = s.link.inbound ∧
    (s.faxFrame f).fax.role = s.fax.role ∧
    (s.faxFrame f).fax.place = s.fax.place ∧
    (s.faxFrame f).fax.phase = s.fax.phase ∧
    (s.faxFrame f).fax.rung = s.fax.rung ∧
    (s.faxFrame f).fax.floor = s.fax.floor ∧
    (s.faxFrame f).fax.ceiling = s.fax.ceiling ∧
    (s.faxFrame f).fax.resolution = s.fax.resolution ∧
    (s.faxFrame f).fax.scanMs = s.fax.scanMs ∧
    (s.faxFrame f).fax.page = s.fax.page ∧
    (s.faxFrame f).fax.attempts = s.fax.attempts ∧
    (s.faxFrame f).fax.accepted = s.fax.accepted ∧
    (s.faxFrame f).fax.linkedId = s.fax.linkedId ∧
    (s.faxFrame f).fax.pageStart = s.fax.pageStart ∧
    (s.faxFrame f).fax.windows = s.fax.windows ∧
    (s.faxFrame f).fax.badWindows = s.fax.badWindows ∧
    (s.faxFrame f).fax.overflow = s.fax.overflow ∧
    (s.faxFrame f).fax.retries = s.fax.retries ∧
    (s.faxFrame f).fax.more = s.fax.more ∧
    (s.faxFrame f).fax.expect = s.fax.expect ∧
    (s.faxFrame f).fax.checkOverloaded = s.fax.checkOverloaded ∧
    (s.faxFrame f).fax.dataBegun = s.fax.dataBegun ∧
    (s.faxFrame f).fax.inPair = s.fax.inPair ∧
    (s.faxFrame f).fax.lineLength = s.fax.lineLength ∧
    (s.faxFrame f).fax.position = s.fax.position ∧
    (s.faxFrame f).fax.markOut = s.fax.markOut ∧
    (s.faxFrame f).fax.pageFromPort = s.fax.pageFromPort ∧
    (s.faxFrame f).fax.markSent = s.fax.markSent ∧
    (s.faxFrame f).fax.markInQueue = s.fax.markInQueue ∧
    (s.faxFrame f).fax.endAfter = s.fax.endAfter ∧
    (s.faxFrame f).fax.answered = s.fax.answered := by
  unfold State.faxFrame; try dsimp only
  repeat' split
  all_goals simp

@[simp] theorem State.faxSend_keeps (s : State) (f : FaxFrame) (x : FaxExpect) :
    (s.faxSend f x).ccu.line = s.ccu.line ∧
    (s.faxSend f x).ccu.call = s.ccu.call ∧
    (s.faxSend f x).ccu.dialler = s.ccu.dialler ∧
    (s.faxSend f x).ccu.lastNumber = s.ccu.lastNumber ∧
    (s.faxSend f x).ccu.ending = s.ccu.ending ∧
    (s.faxSend f x).ccu.blind = s.ccu.blind ∧
    (s.faxSend f x).ccu.claims = s.ccu.claims ∧
    (s.faxSend f x).ccu.history = s.ccu.history ∧
    (s.faxSend f x).lif = s.lif ∧
    (s.faxSend f x).timers.e0 = s.timers.e0 ∧
    (s.faxSend f x).timers.e1 = s.timers.e1 ∧
    (s.faxSend f x).timers.e3 = s.timers.e3 ∧
    (s.faxSend f x).timers.e4 = s.timers.e4 ∧
    (s.faxSend f x).timers.e5 = s.timers.e5 ∧
    (s.faxSend f x).timers.e6 = s.timers.e6 ∧
    (s.faxSend f x).timers.e7 = s.timers.e7 ∧
    (s.faxSend f x).tone = s.tone ∧
    (s.faxSend f x).rau = s.rau ∧
    (s.faxSend f x).level = s.level ∧
    (s.faxSend f x).pump = s.pump ∧
    (s.faxSend f x).link.mode = s.link.mode ∧
    (s.faxSend f x).link.paused = s.link.paused ∧
    (s.faxSend f x).link.attempts = s.link.attempts ∧
    (s.faxSend f x).link.windowSize = s.link.windowSize ∧
    (s.faxSend f x).link.payloadSize = s.link.payloadSize ∧
    (s.faxSend f x).link.vs = s.link.vs ∧
    (s.faxSend f x).link.window = s.link.window ∧
    (s.faxSend f x).link.resendMark = s.link.resendMark ∧
    (s.faxSend f x).link.retries = s.link.retries ∧
    (s.faxSend f x).link.peerBusy = s.link.peerBusy ∧
    (s.faxSend f x).link.vr = s.link.vr ∧
    (s.faxSend f x).link.rejectFlag = s.link.rejectFlag ∧
    (s.faxSend f x).link.ackOwed = s.link.ackOwed ∧
    (s.faxSend f x).link.busyAckOwed = s.link.busyAckOwed ∧
    (s.faxSend f x).link.ownBusy = s.link.ownBusy ∧
    (s.faxSend f x).link.rejectOwed = s.link.rejectOwed ∧
    (s.faxSend f x).link.clearOwed = s.link.clearOwed ∧
    (s.faxSend f x).link.reqDue = s.link.reqDue ∧
    (s.faxSend f x).link.confSetup = s.link.confSetup ∧
    (s.faxSend f x).link.confDue = s.link.confDue ∧
    (s.faxSend f x).link.peerOffer = s.link.peerOffer ∧
    (s.faxSend f x).link.byFarEnd = s.link.byFarEnd ∧
    (s.faxSend f x).link.policy = s.link.policy ∧
    (s.faxSend f x).link.offer = s.link.offer ∧
    (s.faxSend f x).link.stats = s.link.stats ∧
    (s.faxSend f x).link.outbound = s.link.outbound ∧
    (s.faxSend f x).link.inbound = s.link.inbound ∧
    (s.faxSend f x).fax.role = s.fax.role ∧
    (s.faxSend f x).fax.place = s.fax.place ∧
    (s.faxSend f x).fax.phase = s.fax.phase ∧
    (s.faxSend f x).fax.rung = s.fax.rung ∧
    (s.faxSend f x).fax.floor = s.fax.floor ∧
    (s.faxSend f x).fax.ceiling = s.fax.ceiling ∧
    (s.faxSend f x).fax.resolution = s.fax.resolution ∧
    (s.faxSend f x).fax.scanMs = s.fax.scanMs ∧
    (s.faxSend f x).fax.page = s.fax.page ∧
    (s.faxSend f x).fax.attempts = s.fax.attempts ∧
    (s.faxSend f x).fax.accepted = s.fax.accepted ∧
    (s.faxSend f x).fax.linkedId = s.fax.linkedId ∧
    (s.faxSend f x).fax.pageStart = s.fax.pageStart ∧
    (s.faxSend f x).fax.windows = s.fax.windows ∧
    (s.faxSend f x).fax.badWindows = s.fax.badWindows ∧
    (s.faxSend f x).fax.overflow = s.fax.overflow ∧
    (s.faxSend f x).fax.retries = s.fax.retries ∧
    (s.faxSend f x).fax.more = s.fax.more ∧
    (s.faxSend f x).fax.checkOverloaded = s.fax.checkOverloaded ∧
    (s.faxSend f x).fax.dataBegun = s.fax.dataBegun ∧
    (s.faxSend f x).fax.inPair = s.fax.inPair ∧
    (s.faxSend f x).fax.lineLength = s.fax.lineLength ∧
    (s.faxSend f x).fax.position = s.fax.position ∧
    (s.faxSend f x).fax.markOut = s.fax.markOut ∧
    (s.faxSend f x).fax.pageFromPort = s.fax.pageFromPort ∧
    (s.faxSend f x).fax.markSent = s.fax.markSent ∧
    (s.faxSend f x).fax.markInQueue = s.fax.markInQueue ∧
    (s.faxSend f x).fax.endAfter = s.fax.endAfter ∧
    (s.faxSend f x).fax.answered = s.fax.answered ∧
    (s.faxSend f x).voice = s.voice ∧
    (s.faxSend f x).store = s.store ∧
    (s.faxSend f x).ports = s.ports ∧
    (s.faxSend f x).sys = s.sys ∧
    (s.faxSend f x).pan = s.pan := by
  unfold State.faxSend; try dsimp only
  repeat' split
  all_goals simp

@[simp] theorem State.faxAnswered_keeps (s : State) :
    (s.faxAnswered).ccu.line = s.ccu.line ∧
    (s.faxAnswered).ccu.call = s.ccu.call ∧
    (s.faxAnswered).ccu.dialler = s.ccu.dialler ∧
    (s.faxAnswered).ccu.lastNumber = s.ccu.lastNumber ∧
    (s.faxAnswered).ccu.ending = s.ccu.ending ∧
    (s.faxAnswered).ccu.blind = s.ccu.blind ∧
    (s.faxAnswered).ccu.claims = s.ccu.claims ∧
    (s.faxAnswered).ccu.history = s.ccu.history ∧
    (s.faxAnswered).lif = s.lif ∧
    (s.faxAnswered).timers.e0 = s.timers.e0 ∧
    (s.faxAnswered).timers.e1 = s.timers.e1 ∧
    (s.faxAnswered).timers.e3 = s.timers.e3 ∧
    (s.faxAnswered).timers.e4 = s.timers.e4 ∧
    (s.faxAnswered).timers.e5 = s.timers.e5 ∧
    (s.faxAnswered).timers.e6 = s.timers.e6 ∧
    (s.faxAnswered).timers.e7 = s.timers.e7 ∧
    (s.faxAnswered).tone = s.tone ∧
    (s.faxAnswered).rau = s.rau ∧
    (s.faxAnswered).level = s.level ∧
    (s.faxAnswered).pump = s.pump ∧
    (s.faxAnswered).link = s.link ∧
    (s.faxAnswered).fax.role = s.fax.role ∧
    (s.faxAnswered).fax.place = s.fax.place ∧
    (s.faxAnswered).fax.phase = s.fax.phase ∧
    (s.faxAnswered).fax.rung = s.fax.rung ∧
    (s.faxAnswered).fax.floor = s.fax.floor ∧
    (s.faxAnswered).fax.ceiling = s.fax.ceiling ∧
    (s.faxAnswered).fax.resolution = s.fax.resolution ∧
    (s.faxAnswered).fax.scanMs = s.fax.scanMs ∧
    (s.faxAnswered).fax.page = s.fax.page ∧
    (s.faxAnswered).fax.attempts = s.fax.attempts ∧
    (s.faxAnswered).fax.accepted = s.fax.accepted ∧
    (s.faxAnswered).fax.linkedId = s.fax.linkedId ∧
    (s.faxAnswered).fax.pageStart = s.fax.pageStart ∧
    (s.faxAnswered).fax.windows = s.fax.windows ∧
    (s.faxAnswered).fax.badWindows = s.fax.badWindows ∧
    (s.faxAnswered).fax.overflow = s.fax.overflow ∧
    (s.faxAnswered).fax.lastFrame = s.fax.lastFrame ∧
    (s.faxAnswered).fax.more = s.fax.more ∧
    (s.faxAnswered).fax.checkSending = s.fax.checkSending ∧
    (s.faxAnswered).fax.checkOverloaded = s.fax.checkOverloaded ∧
    (s.faxAnswered).fax.dataBegun = s.fax.dataBegun ∧
    (s.faxAnswered).fax.inPair = s.fax.inPair ∧
    (s.faxAnswered).fax.lineLength = s.fax.lineLength ∧
    (s.faxAnswered).fax.position = s.fax.position ∧
    (s.faxAnswered).fax.markOut = s.fax.markOut ∧
    (s.faxAnswered).fax.pageFromPort = s.fax.pageFromPort ∧
    (s.faxAnswered).fax.markSent = s.fax.markSent ∧
    (s.faxAnswered).fax.markInQueue = s.fax.markInQueue ∧
    (s.faxAnswered).fax.endAfter = s.fax.endAfter ∧
    (s.faxAnswered).voice = s.voice ∧
    (s.faxAnswered).store = s.store ∧
    (s.faxAnswered).ports = s.ports ∧
    (s.faxAnswered).sys = s.sys ∧
    (s.faxAnswered).pan = s.pan := by
  unfold State.faxAnswered; try dsimp only
  repeat' split
  all_goals simp

@[simp] theorem State.faxResend_keeps (s : State) :
    (s.faxResend).ccu = s.ccu ∧
    (s.faxResend).lif = s.lif ∧
    (s.faxResend).timers = s.timers ∧
    (s.faxResend).tone = s.tone ∧
    (s.faxResend).rau = s.rau ∧
    (s.faxResend).level = s.level ∧
    (s.faxResend).pump = s.pump ∧
    (s.faxResend).link.mode = s.link.mode ∧
    (s.faxResend).link.paused = s.link.paused ∧
    (s.faxResend).link.attempts = s.link.attempts ∧
    (s.faxResend).link.windowSize = s.link.windowSize ∧
    (s.faxResend).link.payloadSize = s.link.payloadSize ∧
    (s.faxResend).link.vs = s.link.vs ∧
    (s.faxResend).link.window = s.link.window ∧
    (s.faxResend).link.resendMark = s.link.resendMark ∧
    (s.faxResend).link.retries = s.link.retries ∧
    (s.faxResend).link.peerBusy = s.link.peerBusy ∧
    (s.faxResend).link.vr = s.link.vr ∧
    (s.faxResend).link.rejectFlag = s.link.rejectFlag ∧
    (s.faxResend).link.ackOwed = s.link.ackOwed ∧
    (s.faxResend).link.busyAckOwed = s.link.busyAckOwed ∧
    (s.faxResend).link.ownBusy = s.link.ownBusy ∧
    (s.faxResend).link.rejectOwed = s.link.rejectOwed ∧
    (s.faxResend).link.clearOwed = s.link.clearOwed ∧
    (s.faxResend).link.reqDue = s.link.reqDue ∧
    (s.faxResend).link.confSetup = s.link.confSetup ∧
    (s.faxResend).link.confDue = s.link.confDue ∧
    (s.faxResend).link.peerOffer = s.link.peerOffer ∧
    (s.faxResend).link.byFarEnd = s.link.byFarEnd ∧
    (s.faxResend).link.policy = s.link.policy ∧
    (s.faxResend).link.offer = s.link.offer ∧
    (s.faxResend).link.stats = s.link.stats ∧
    (s.faxResend).link.outbound = s.link.outbound ∧
    (s.faxResend).link.inbound = s.link.inbound ∧
    (s.faxResend).fax.role = s.fax.role ∧
    (s.faxResend).fax.place = s.fax.place ∧
    (s.faxResend).fax.phase = s.fax.phase ∧
    (s.faxResend).fax.rung = s.fax.rung ∧
    (s.faxResend).fax.floor = s.fax.floor ∧
    (s.faxResend).fax.ceiling = s.fax.ceiling ∧
    (s.faxResend).fax.resolution = s.fax.resolution ∧
    (s.faxResend).fax.scanMs = s.fax.scanMs ∧
    (s.faxResend).fax.page = s.fax.page ∧
    (s.faxResend).fax.attempts = s.fax.attempts ∧
    (s.faxResend).fax.accepted = s.fax.accepted ∧
    (s.faxResend).fax.linkedId = s.fax.linkedId ∧
    (s.faxResend).fax.pageStart = s.fax.pageStart ∧
    (s.faxResend).fax.windows = s.fax.windows ∧
    (s.faxResend).fax.badWindows = s.fax.badWindows ∧
    (s.faxResend).fax.overflow = s.fax.overflow ∧
    (s.faxResend).fax.retries = s.fax.retries ∧
    (s.faxResend).fax.lastFrame = s.fax.lastFrame ∧
    (s.faxResend).fax.more = s.fax.more ∧
    (s.faxResend).fax.expect = s.fax.expect ∧
    (s.faxResend).fax.checkOverloaded = s.fax.checkOverloaded ∧
    (s.faxResend).fax.dataBegun = s.fax.dataBegun ∧
    (s.faxResend).fax.inPair = s.fax.inPair ∧
    (s.faxResend).fax.lineLength = s.fax.lineLength ∧
    (s.faxResend).fax.position = s.fax.position ∧
    (s.faxResend).fax.markOut = s.fax.markOut ∧
    (s.faxResend).fax.pageFromPort = s.fax.pageFromPort ∧
    (s.faxResend).fax.markSent = s.fax.markSent ∧
    (s.faxResend).fax.markInQueue = s.fax.markInQueue ∧
    (s.faxResend).fax.endAfter = s.fax.endAfter ∧
    (s.faxResend).fax.unsent = s.fax.unsent ∧
    (s.faxResend).fax.answered = s.fax.answered ∧
    (s.faxResend).voice = s.voice ∧
    (s.faxResend).store = s.store ∧
    (s.faxResend).ports = s.ports ∧
    (s.faxResend).sys = s.sys ∧
    (s.faxResend).pan = s.pan := by
  unfold State.faxResend; try dsimp only
  repeat' split
  all_goals simp

@[simp] theorem State.faxRung_keeps (s : State) (rung : Nat) :
    (s.faxRung rung).ccu.line = s.ccu.line ∧
    (s.faxRung rung).ccu.call.active = s.ccu.call.active ∧
    (s.faxRung rung).ccu.call.number = s.ccu.call.number ∧
    (s.faxRung rung).ccu.call.direction = s.ccu.call.direction ∧
    (s.faxRung rung).ccu.call.holder = s.ccu.call.holder ∧
    (s.faxRung rung).ccu.call.job = s.ccu.call.job ∧
    (s.faxRung rung).ccu.call.phase = s.ccu.call.phase ∧
    (s.faxRung rung).ccu.call.dialList = s.ccu.call.dialList ∧
    (s.faxRung rung).ccu.call.farEndRinging = s.ccu.call.farEndRinging ∧
    (s.faxRung rung).ccu.call.callerStatus = s.ccu.call.callerStatus ∧
    (s.faxRung rung).ccu.call.callerNumber = s.ccu.call.callerNumber ∧
    (s.faxRung rung).ccu.call.callerName = s.ccu.call.callerName ∧
    (s.faxRung rung).ccu.call.ringPattern = s.ccu.call.ringPattern ∧
    (s.faxRung rung).ccu.call.ringCount = s.ccu.call.ringCount ∧
    (s.faxRung rung).ccu.call.startTime = s.ccu.call.startTime ∧
    (s.faxRung rung).ccu.call.linkedId = s.ccu.call.linkedId ∧
    (s.faxRung rung).ccu.call.lastQuality = s.ccu.call.lastQuality ∧
    (s.faxRung rung).ccu.call.seconds = s.ccu.call.seconds ∧
    (s.faxRung rung).ccu.call.cause = s.ccu.call.cause ∧
    (s.faxRung rung).ccu.dialler = s.ccu.dialler ∧
    (s.faxRung rung).ccu.lastNumber = s.ccu.lastNumber ∧
    (s.faxRung rung).ccu.ending = s.ccu.ending ∧
    (s.faxRung rung).ccu.blind = s.ccu.blind ∧
    (s.faxRung rung).ccu.claims = s.ccu.claims ∧
    (s.faxRung rung).ccu.history = s.ccu.history ∧
    (s.faxRung rung).ccu.t2Use = s.ccu.t2Use ∧
    (s.faxRung rung).lif = s.lif ∧
    (s.faxRung rung).timers = s.timers ∧
    (s.faxRung rung).tone = s.tone ∧
    (s.faxRung rung).rau = s.rau ∧
    (s.faxRung rung).level = s.level ∧
    (s.faxRung rung).pump.mode = s.pump.mode ∧
    (s.faxRung rung).pump.role = s.pump.role ∧
    (s.faxRung rung).pump.phase = s.pump.phase ∧
    (s.faxRung rung).pump.localCeiling = s.pump.localCeiling ∧
    (s.faxRung rung).pump.localFloor = s.pump.localFloor ∧
    (s.faxRung rung).pump.peerMax = s.pump.peerMax ∧
    (s.faxRung rung).pump.negCeiling = s.pump.negCeiling ∧
    (s.faxRung rung).pump.negFloor = s.pump.negFloor ∧
    (s.faxRung rung).pump.below = s.pump.below ∧
    (s.faxRung rung).pump.above = s.pump.above ∧
    (s.faxRung rung).pump.retrains = s.pump.retrains ∧
    (s.faxRung rung).pump.linkStarted = s.pump.linkStarted ∧
    (s.faxRung rung).pump.request = s.pump.request ∧
    (s.faxRung rung).pump.answerTone = s.pump.answerTone ∧
    (s.faxRung rung).pump.heardMax = s.pump.heardMax ∧
    (s.faxRung rung).pump.heardAck = s.pump.heardAck ∧
    (s.faxRung rung).pump.stage = s.pump.stage ∧
    (s.faxRung rung).pump.ownAccept = s.pump.ownAccept ∧
    (s.faxRung rung).pump.farAccept = s.pump.farAccept ∧
    (s.faxRung rung).pump.confirmed = s.pump.confirmed ∧
    (s.faxRung rung).link = s.link ∧
    (s.faxRung rung).fax = s.fax ∧
    (s.faxRung rung).voice = s.voice ∧
    (s.faxRung rung).store = s.store ∧
    (s.faxRung rung).ports = s.ports ∧
    (s.faxRung rung).sys = s.sys ∧
    (s.faxRung rung).pan = s.pan := by
  unfold State.faxRung; try dsimp only
  repeat' split
  all_goals simp

@[simp] theorem State.sendSet_keeps (s : State) :
    (s.sendSet).ccu.line = s.ccu.line ∧
    (s.sendSet).ccu.call.active = s.ccu.call.active ∧
    (s.sendSet).ccu.call.number = s.ccu.call.number ∧
    (s.sendSet).ccu.call.direction = s.ccu.call.direction ∧
    (s.sendSet).ccu.call.holder = s.ccu.call.holder ∧
    (s.sendSet).ccu.call.job = s.ccu.call.job ∧
    (s.sendSet).ccu.call.phase = s.ccu.call.phase ∧
    (s.sendSet).ccu.call.dialList = s.ccu.call.dialList ∧
    (s.sendSet).ccu.call.farEndRinging = s.ccu.call.farEndRinging ∧
    (s.sendSet).ccu.call.callerStatus = s.ccu.call.callerStatus ∧
    (s.sendSet).ccu.call.callerNumber = s.ccu.call.callerNumber ∧
    (s.sendSet).ccu.call.callerName = s.ccu.call.callerName ∧
    (s.sendSet).ccu.call.ringPattern = s.ccu.call.ringPattern ∧
    (s.sendSet).ccu.call.ringCount = s.ccu.call.ringCount ∧
    (s.sendSet).ccu.call.startTime = s.ccu.call.startTime ∧
    (s.sendSet).ccu.call.linkedId = s.ccu.call.linkedId ∧
    (s.sendSet).ccu.call.lastQuality = s.ccu.call.lastQuality ∧
    (s.sendSet).ccu.call.seconds = s.ccu.call.seconds ∧
    (s.sendSet).ccu.call.cause = s.ccu.call.cause ∧
    (s.sendSet).ccu.dialler = s.ccu.dialler ∧
    (s.sendSet).ccu.lastNumber = s.ccu.lastNumber ∧
    (s.sendSet).ccu.ending = s.ccu.ending ∧
    (s.sendSet).ccu.blind = s.ccu.blind ∧
    (s.sendSet).ccu.claims = s.ccu.claims ∧
    (s.sendSet).ccu.history = s.ccu.history ∧
    (s.sendSet).lif = s.lif ∧
    (s.sendSet).timers.e0 = s.timers.e0 ∧
    (s.sendSet).timers.e1 = s.timers.e1 ∧
    (s.sendSet).timers.e3 = s.timers.e3 ∧
    (s.sendSet).timers.e4 = s.timers.e4 ∧
    (s.sendSet).timers.e5 = s.timers.e5 ∧
    (s.sendSet).timers.e6 = s.timers.e6 ∧
    (s.sendSet).timers.e7 = s.timers.e7 ∧
    (s.sendSet).tone = s.tone ∧
    (s.sendSet).rau = s.rau ∧
    (s.sendSet).level = s.level ∧
    (s.sendSet).pump.mode = s.pump.mode ∧
    (s.sendSet).pump.role = s.pump.role ∧
    (s.sendSet).pump.phase = s.pump.phase ∧
    (s.sendSet).pump.localCeiling = s.pump.localCeiling ∧
    (s.sendSet).pump.localFloor = s.pump.localFloor ∧
    (s.sendSet).pump.peerMax = s.pump.peerMax ∧
    (s.sendSet).pump.negCeiling = s.pump.negCeiling ∧
    (s.sendSet).pump.negFloor = s.pump.negFloor ∧
    (s.sendSet).pump.below = s.pump.below ∧
    (s.sendSet).pump.above = s.pump.above ∧
    (s.sendSet).pump.retrains = s.pump.retrains ∧
    (s.sendSet).pump.linkStarted = s.pump.linkStarted ∧
    (s.sendSet).pump.request = s.pump.request ∧
    (s.sendSet).pump.answerTone = s.pump.answerTone ∧
    (s.sendSet).pump.heardMax = s.pump.heardMax ∧
    (s.sendSet).pump.heardAck = s.pump.heardAck ∧
    (s.sendSet).pump.stage = s.pump.stage ∧
    (s.sendSet).pump.ownAccept = s.pump.ownAccept ∧
    (s.sendSet).pump.farAccept = s.pump.farAccept ∧
    (s.sendSet).pump.confirmed = s.pump.confirmed ∧
    (s.sendSet).link.mode = s.link.mode ∧
    (s.sendSet).link.paused = s.link.paused ∧
    (s.sendSet).link.attempts = s.link.attempts ∧
    (s.sendSet).link.windowSize = s.link.windowSize ∧
    (s.sendSet).link.payloadSize = s.link.payloadSize ∧
    (s.sendSet).link.vs = s.link.vs ∧
    (s.sendSet).link.window = s.link.window ∧
    (s.sendSet).link.resendMark = s.link.resendMark ∧
    (s.sendSet).link.retries = s.link.retries ∧
    (s.sendSet).link.peerBusy = s.link.peerBusy ∧
    (s.sendSet).link.vr = s.link.vr ∧
    (s.sendSet).link.rejectFlag = s.link.rejectFlag ∧
    (s.sendSet).link.ackOwed = s.link.ackOwed ∧
    (s.sendSet).link.busyAckOwed = s.link.busyAckOwed ∧
    (s.sendSet).link.ownBusy = s.link.ownBusy ∧
    (s.sendSet).link.rejectOwed = s.link.rejectOwed ∧
    (s.sendSet).link.clearOwed = s.link.clearOwed ∧
    (s.sendSet).link.reqDue = s.link.reqDue ∧
    (s.sendSet).link.confSetup = s.link.confSetup ∧
    (s.sendSet).link.confDue = s.link.confDue ∧
    (s.sendSet).link.peerOffer = s.link.peerOffer ∧
    (s.sendSet).link.byFarEnd = s.link.byFarEnd ∧
    (s.sendSet).link.policy = s.link.policy ∧
    (s.sendSet).link.offer = s.link.offer ∧
    (s.sendSet).link.stats = s.link.stats ∧
    (s.sendSet).link.outbound = s.link.outbound ∧
    (s.sendSet).link.inbound = s.link.inbound ∧
    (s.sendSet).fax.role = s.fax.role ∧
    (s.sendSet).fax.place = s.fax.place ∧
    (s.sendSet).fax.phase = s.fax.phase ∧
    (s.sendSet).fax.rung = s.fax.rung ∧
    (s.sendSet).fax.floor = s.fax.floor ∧
    (s.sendSet).fax.ceiling = s.fax.ceiling ∧
    (s.sendSet).fax.resolution = s.fax.resolution ∧
    (s.sendSet).fax.scanMs = s.fax.scanMs ∧
    (s.sendSet).fax.page = s.fax.page ∧
    (s.sendSet).fax.attempts = s.fax.attempts ∧
    (s.sendSet).fax.accepted = s.fax.accepted ∧
    (s.sendSet).fax.linkedId = s.fax.linkedId ∧
    (s.sendSet).fax.pageStart = s.fax.pageStart ∧
    (s.sendSet).fax.windows = s.fax.windows ∧
    (s.sendSet).fax.badWindows = s.fax.badWindows ∧
    (s.sendSet).fax.overflow = s.fax.overflow ∧
    (s.sendSet).fax.retries = s.fax.retries ∧
    (s.sendSet).fax.more = s.fax.more ∧
    (s.sendSet).fax.checkOverloaded = s.fax.checkOverloaded ∧
    (s.sendSet).fax.dataBegun = s.fax.dataBegun ∧
    (s.sendSet).fax.inPair = s.fax.inPair ∧
    (s.sendSet).fax.lineLength = s.fax.lineLength ∧
    (s.sendSet).fax.position = s.fax.position ∧
    (s.sendSet).fax.markOut = s.fax.markOut ∧
    (s.sendSet).fax.pageFromPort = s.fax.pageFromPort ∧
    (s.sendSet).fax.markSent = s.fax.markSent ∧
    (s.sendSet).fax.markInQueue = s.fax.markInQueue ∧
    (s.sendSet).fax.endAfter = s.fax.endAfter ∧
    (s.sendSet).fax.answered = s.fax.answered ∧
    (s.sendSet).voice = s.voice ∧
    (s.sendSet).store = s.store ∧
    (s.sendSet).ports = s.ports ∧
    (s.sendSet).sys = s.sys ∧
    (s.sendSet).pan = s.pan := by
  unfold State.sendSet; try dsimp only
  repeat' split
  all_goals simp

@[simp] theorem State.faxSendCaps_keeps (s : State) :
    (s.faxSendCaps).ccu.call.number = s.ccu.call.number ∧
    (s.faxSendCaps).ccu.call.direction = s.ccu.call.direction ∧
    (s.faxSendCaps).ccu.call.holder = s.ccu.call.holder ∧
    (s.faxSendCaps).ccu.call.job = s.ccu.call.job ∧
    (s.faxSendCaps).ccu.call.phase = s.ccu.call.phase ∧
    (s.faxSendCaps).ccu.call.dialList = s.ccu.call.dialList ∧
    (s.faxSendCaps).ccu.call.farEndRinging = s.ccu.call.farEndRinging ∧
    (s.faxSendCaps).ccu.call.callerStatus = s.ccu.call.callerStatus ∧
    (s.faxSendCaps).ccu.call.callerNumber = s.ccu.call.callerNumber ∧
    (s.faxSendCaps).ccu.call.callerName = s.ccu.call.callerName ∧
    (s.faxSendCaps).ccu.call.ringPattern = s.ccu.call.ringPattern ∧
    (s.faxSendCaps).ccu.call.ringCount = s.ccu.call.ringCount ∧
    (s.faxSendCaps).ccu.call.startTime = s.ccu.call.startTime ∧
    (s.faxSendCaps).ccu.call.rung = s.ccu.call.rung ∧
    (s.faxSendCaps).ccu.call.lastQuality = s.ccu.call.lastQuality ∧
    (s.faxSendCaps).ccu.call.seconds = s.ccu.call.seconds ∧
    (s.faxSendCaps).ccu.dialler.cursor = s.ccu.dialler.cursor ∧
    (s.faxSendCaps).ccu.dialler.breaksEnded = s.ccu.dialler.breaksEnded ∧
    (s.faxSendCaps).ccu.dialler.lastMake = s.ccu.dialler.lastMake ∧
    (s.faxSendCaps).ccu.lastNumber = s.ccu.lastNumber ∧
    (s.faxSendCaps).ccu.blind = s.ccu.blind ∧
    (s.faxSendCaps).ccu.claims = s.ccu.claims ∧
    (s.faxSendCaps).lif.ringPresent = s.lif.ringPresent ∧
    (s.faxSendCaps).lif.hangover = s.lif.hangover ∧
    (s.faxSendCaps).lif.voltageBelow = s.lif.voltageBelow ∧
    (s.faxSendCaps).lif.currentBelow = s.lif.currentBelow ∧
    (s.faxSendCaps).lif.pickupLatch = s.lif.pickupLatch ∧
    (s.faxSendCaps).timers.e7 = s.timers.e7 ∧
    (s.faxSendCaps).rau.episode = s.rau.episode ∧
    (s.faxSendCaps).rau.caller = s.rau.caller ∧
    (s.faxSendCaps).rau.presence = s.rau.presence ∧
    (s.faxSendCaps).rau.deadlines = s.rau.deadlines ∧
    (s.faxSendCaps).fax.role = s.fax.role ∧
    (s.faxSendCaps).fax.place = s.fax.place ∧
    (s.faxSendCaps).fax.rung = s.fax.rung ∧
    (s.faxSendCaps).fax.floor = s.fax.floor ∧
    (s.faxSendCaps).fax.ceiling = s.fax.ceiling ∧
    (s.faxSendCaps).fax.resolution = s.fax.resolution ∧
    (s.faxSendCaps).fax.scanMs = s.fax.scanMs ∧
    (s.faxSendCaps).fax.page = s.fax.page ∧
    (s.faxSendCaps).fax.attempts = s.fax.attempts ∧
    (s.faxSendCaps).fax.accepted = s.fax.accepted ∧
    (s.faxSendCaps).fax.linkedId = s.fax.linkedId ∧
    (s.faxSendCaps).fax.pageStart = s.fax.pageStart ∧
    (s.faxSendCaps).fax.windows = s.fax.windows ∧
    (s.faxSendCaps).fax.badWindows = s.fax.badWindows ∧
    (s.faxSendCaps).fax.overflow = s.fax.overflow ∧
    (s.faxSendCaps).fax.retries = s.fax.retries ∧
    (s.faxSendCaps).fax.more = s.fax.more ∧
    (s.faxSendCaps).fax.checkOverloaded = s.fax.checkOverloaded ∧
    (s.faxSendCaps).fax.inPair = s.fax.inPair ∧
    (s.faxSendCaps).fax.lineLength = s.fax.lineLength ∧
    (s.faxSendCaps).fax.position = s.fax.position ∧
    (s.faxSendCaps).fax.pageFromPort = s.fax.pageFromPort ∧
    (s.faxSendCaps).fax.markSent = s.fax.markSent ∧
    (s.faxSendCaps).fax.markInQueue = s.fax.markInQueue ∧
    (s.faxSendCaps).ports.system.outgoing = s.ports.system.outgoing ∧
    (s.faxSendCaps).ports.system.digits = s.ports.system.digits ∧
    (s.faxSendCaps).ports.system.transfer = s.ports.system.transfer ∧
    (s.faxSendCaps).ports.panel.outgoing = s.ports.panel.outgoing ∧
    (s.faxSendCaps).ports.panel.digits = s.ports.panel.digits ∧
    (s.faxSendCaps).ports.panel.transfer = s.ports.panel.transfer ∧
    (s.faxSendCaps).sys.ready = s.sys.ready ∧
    (s.faxSendCaps).sys.rts = s.sys.rts ∧
    (s.faxSendCaps).sys.rate = s.sys.rate ∧
    (s.faxSendCaps).sys.notice = s.sys.notice ∧
    (s.faxSendCaps).sys.escape = s.sys.escape ∧
    (s.faxSendCaps).pan = s.pan := by
  unfold State.faxSendCaps; try dsimp only
  repeat' split
  all_goals simp

@[simp] theorem State.faxStartReceiver_keeps (s : State) :
    (s.faxStartReceiver).ccu.call.number = s.ccu.call.number ∧
    (s.faxStartReceiver).ccu.call.direction = s.ccu.call.direction ∧
    (s.faxStartReceiver).ccu.call.holder = s.ccu.call.holder ∧
    (s.faxStartReceiver).ccu.call.job = s.ccu.call.job ∧
    (s.faxStartReceiver).ccu.call.phase = s.ccu.call.phase ∧
    (s.faxStartReceiver).ccu.call.dialList = s.ccu.call.dialList ∧
    (s.faxStartReceiver).ccu.call.farEndRinging = s.ccu.call.farEndRinging ∧
    (s.faxStartReceiver).ccu.call.callerStatus = s.ccu.call.callerStatus ∧
    (s.faxStartReceiver).ccu.call.callerNumber = s.ccu.call.callerNumber ∧
    (s.faxStartReceiver).ccu.call.callerName = s.ccu.call.callerName ∧
    (s.faxStartReceiver).ccu.call.ringPattern = s.ccu.call.ringPattern ∧
    (s.faxStartReceiver).ccu.call.ringCount = s.ccu.call.ringCount ∧
    (s.faxStartReceiver).ccu.call.startTime = s.ccu.call.startTime ∧
    (s.faxStartReceiver).ccu.call.rung = s.ccu.call.rung ∧
    (s.faxStartReceiver).ccu.call.lastQuality = s.ccu.call.lastQuality ∧
    (s.faxStartReceiver).ccu.call.seconds = s.ccu.call.seconds ∧
    (s.faxStartReceiver).ccu.dialler.cursor = s.ccu.dialler.cursor ∧
    (s.faxStartReceiver).ccu.dialler.breaksEnded = s.ccu.dialler.breaksEnded ∧
    (s.faxStartReceiver).ccu.dialler.lastMake = s.ccu.dialler.lastMake ∧
    (s.faxStartReceiver).ccu.lastNumber = s.ccu.lastNumber ∧
    (s.faxStartReceiver).ccu.blind = s.ccu.blind ∧
    (s.faxStartReceiver).ccu.claims = s.ccu.claims ∧
    (s.faxStartReceiver).lif.ringPresent = s.lif.ringPresent ∧
    (s.faxStartReceiver).lif.hangover = s.lif.hangover ∧
    (s.faxStartReceiver).lif.voltageBelow = s.lif.voltageBelow ∧
    (s.faxStartReceiver).lif.currentBelow = s.lif.currentBelow ∧
    (s.faxStartReceiver).lif.pickupLatch = s.lif.pickupLatch ∧
    (s.faxStartReceiver).timers.e7 = s.timers.e7 ∧
    (s.faxStartReceiver).rau.episode = s.rau.episode ∧
    (s.faxStartReceiver).rau.caller = s.rau.caller ∧
    (s.faxStartReceiver).rau.presence = s.rau.presence ∧
    (s.faxStartReceiver).rau.deadlines = s.rau.deadlines ∧
    (s.faxStartReceiver).fax.role = s.fax.role ∧
    (s.faxStartReceiver).fax.place = s.fax.place ∧
    (s.faxStartReceiver).fax.rung = s.fax.rung ∧
    (s.faxStartReceiver).fax.floor = s.fax.floor ∧
    (s.faxStartReceiver).fax.ceiling = s.fax.ceiling ∧
    (s.faxStartReceiver).fax.resolution = s.fax.resolution ∧
    (s.faxStartReceiver).fax.scanMs = s.fax.scanMs ∧
    (s.faxStartReceiver).fax.page = s.fax.page ∧
    (s.faxStartReceiver).fax.attempts = s.fax.attempts ∧
    (s.faxStartReceiver).fax.accepted = s.fax.accepted ∧
    (s.faxStartReceiver).fax.pageStart = s.fax.pageStart ∧
    (s.faxStartReceiver).fax.windows = s.fax.windows ∧
    (s.faxStartReceiver).fax.badWindows = s.fax.badWindows ∧
    (s.faxStartReceiver).fax.overflow = s.fax.overflow ∧
    (s.faxStartReceiver).fax.retries = s.fax.retries ∧
    (s.faxStartReceiver).fax.more = s.fax.more ∧
    (s.faxStartReceiver).fax.checkOverloaded = s.fax.checkOverloaded ∧
    (s.faxStartReceiver).fax.inPair = s.fax.inPair ∧
    (s.faxStartReceiver).fax.lineLength = s.fax.lineLength ∧
    (s.faxStartReceiver).fax.position = s.fax.position ∧
    (s.faxStartReceiver).fax.pageFromPort = s.fax.pageFromPort ∧
    (s.faxStartReceiver).fax.markSent = s.fax.markSent ∧
    (s.faxStartReceiver).fax.markInQueue = s.fax.markInQueue ∧
    (s.faxStartReceiver).ports.system.outgoing = s.ports.system.outgoing ∧
    (s.faxStartReceiver).ports.system.digits = s.ports.system.digits ∧
    (s.faxStartReceiver).ports.system.transfer = s.ports.system.transfer ∧
    (s.faxStartReceiver).ports.panel.outgoing = s.ports.panel.outgoing ∧
    (s.faxStartReceiver).ports.panel.digits = s.ports.panel.digits ∧
    (s.faxStartReceiver).ports.panel.transfer = s.ports.panel.transfer ∧
    (s.faxStartReceiver).sys.ready = s.sys.ready ∧
    (s.faxStartReceiver).sys.rts = s.sys.rts ∧
    (s.faxStartReceiver).sys.rate = s.sys.rate ∧
    (s.faxStartReceiver).sys.notice = s.sys.notice ∧
    (s.faxStartReceiver).sys.escape = s.sys.escape ∧
    (s.faxStartReceiver).pan = s.pan := by
  have hc := State.create_keeps s .faxIn none true
  unfold State.faxStartReceiver
  split
  · split <;> rename_i he <;> rw [he] at hc <;> dsimp only at hc <;> simp [hc]
  · simp

@[simp] theorem State.faxStartSender_keeps (s : State) :
    (s.faxStartSender).ccu.call.number = s.ccu.call.number ∧
    (s.faxStartSender).ccu.call.direction = s.ccu.call.direction ∧
    (s.faxStartSender).ccu.call.holder = s.ccu.call.holder ∧
    (s.faxStartSender).ccu.call.job = s.ccu.call.job ∧
    (s.faxStartSender).ccu.call.phase = s.ccu.call.phase ∧
    (s.faxStartSender).ccu.call.dialList = s.ccu.call.dialList ∧
    (s.faxStartSender).ccu.call.farEndRinging = s.ccu.call.farEndRinging ∧
    (s.faxStartSender).ccu.call.callerStatus = s.ccu.call.callerStatus ∧
    (s.faxStartSender).ccu.call.callerNumber = s.ccu.call.callerNumber ∧
    (s.faxStartSender).ccu.call.callerName = s.ccu.call.callerName ∧
    (s.faxStartSender).ccu.call.ringPattern = s.ccu.call.ringPattern ∧
    (s.faxStartSender).ccu.call.ringCount = s.ccu.call.ringCount ∧
    (s.faxStartSender).ccu.call.startTime = s.ccu.call.startTime ∧
    (s.faxStartSender).ccu.call.rung = s.ccu.call.rung ∧
    (s.faxStartSender).ccu.call.lastQuality = s.ccu.call.lastQuality ∧
    (s.faxStartSender).ccu.call.seconds = s.ccu.call.seconds ∧
    (s.faxStartSender).ccu.dialler.cursor = s.ccu.dialler.cursor ∧
    (s.faxStartSender).ccu.dialler.breaksEnded = s.ccu.dialler.breaksEnded ∧
    (s.faxStartSender).ccu.dialler.lastMake = s.ccu.dialler.lastMake ∧
    (s.faxStartSender).ccu.lastNumber = s.ccu.lastNumber ∧
    (s.faxStartSender).ccu.blind = s.ccu.blind ∧
    (s.faxStartSender).ccu.claims = s.ccu.claims ∧
    (s.faxStartSender).lif.ringPresent = s.lif.ringPresent ∧
    (s.faxStartSender).lif.hangover = s.lif.hangover ∧
    (s.faxStartSender).lif.voltageBelow = s.lif.voltageBelow ∧
    (s.faxStartSender).lif.currentBelow = s.lif.currentBelow ∧
    (s.faxStartSender).lif.pickupLatch = s.lif.pickupLatch ∧
    (s.faxStartSender).timers.e7 = s.timers.e7 ∧
    (s.faxStartSender).rau.episode = s.rau.episode ∧
    (s.faxStartSender).rau.caller = s.rau.caller ∧
    (s.faxStartSender).rau.presence = s.rau.presence ∧
    (s.faxStartSender).rau.deadlines = s.rau.deadlines ∧
    (s.faxStartSender).fax.role = s.fax.role ∧
    (s.faxStartSender).fax.place = s.fax.place ∧
    (s.faxStartSender).fax.rung = s.fax.rung ∧
    (s.faxStartSender).fax.floor = s.fax.floor ∧
    (s.faxStartSender).fax.ceiling = s.fax.ceiling ∧
    (s.faxStartSender).fax.resolution = s.fax.resolution ∧
    (s.faxStartSender).fax.scanMs = s.fax.scanMs ∧
    (s.faxStartSender).fax.page = s.fax.page ∧
    (s.faxStartSender).fax.attempts = s.fax.attempts ∧
    (s.faxStartSender).fax.accepted = s.fax.accepted ∧
    (s.faxStartSender).fax.linkedId = s.fax.linkedId ∧
    (s.faxStartSender).fax.pageStart = s.fax.pageStart ∧
    (s.faxStartSender).fax.windows = s.fax.windows ∧
    (s.faxStartSender).fax.badWindows = s.fax.badWindows ∧
    (s.faxStartSender).fax.overflow = s.fax.overflow ∧
    (s.faxStartSender).fax.retries = s.fax.retries ∧
    (s.faxStartSender).fax.lastFrame = s.fax.lastFrame ∧
    (s.faxStartSender).fax.more = s.fax.more ∧
    (s.faxStartSender).fax.checkOverloaded = s.fax.checkOverloaded ∧
    (s.faxStartSender).fax.inPair = s.fax.inPair ∧
    (s.faxStartSender).fax.lineLength = s.fax.lineLength ∧
    (s.faxStartSender).fax.position = s.fax.position ∧
    (s.faxStartSender).fax.pageFromPort = s.fax.pageFromPort ∧
    (s.faxStartSender).fax.markSent = s.fax.markSent ∧
    (s.faxStartSender).fax.markInQueue = s.fax.markInQueue ∧
    (s.faxStartSender).ports.system.outgoing = s.ports.system.outgoing ∧
    (s.faxStartSender).ports.system.digits = s.ports.system.digits ∧
    (s.faxStartSender).ports.system.transfer = s.ports.system.transfer ∧
    (s.faxStartSender).ports.panel.outgoing = s.ports.panel.outgoing ∧
    (s.faxStartSender).ports.panel.digits = s.ports.panel.digits ∧
    (s.faxStartSender).ports.panel.transfer = s.ports.panel.transfer ∧
    (s.faxStartSender).sys.ready = s.sys.ready ∧
    (s.faxStartSender).sys.rts = s.sys.rts ∧
    (s.faxStartSender).sys.rate = s.sys.rate ∧
    (s.faxStartSender).sys.notice = s.sys.notice ∧
    (s.faxStartSender).sys.escape = s.sys.escape ∧
    (s.faxStartSender).pan = s.pan := by
  unfold State.faxStartSender; try dsimp only
  repeat' split
  all_goals simp

@[simp] theorem State.faxStart_keeps (s : State) :
    (s.faxStart).ccu.call.number = s.ccu.call.number ∧
    (s.faxStart).ccu.call.direction = s.ccu.call.direction ∧
    (s.faxStart).ccu.call.holder = s.ccu.call.holder ∧
    (s.faxStart).ccu.call.job = s.ccu.call.job ∧
    (s.faxStart).ccu.call.dialList = s.ccu.call.dialList ∧
    (s.faxStart).ccu.call.farEndRinging = s.ccu.call.farEndRinging ∧
    (s.faxStart).ccu.call.callerStatus = s.ccu.call.callerStatus ∧
    (s.faxStart).ccu.call.callerNumber = s.ccu.call.callerNumber ∧
    (s.faxStart).ccu.call.callerName = s.ccu.call.callerName ∧
    (s.faxStart).ccu.call.ringPattern = s.ccu.call.ringPattern ∧
    (s.faxStart).ccu.call.ringCount = s.ccu.call.ringCount ∧
    (s.faxStart).ccu.call.startTime = s.ccu.call.startTime ∧
    (s.faxStart).ccu.call.rung = s.ccu.call.rung ∧
    (s.faxStart).ccu.call.lastQuality = s.ccu.call.lastQuality ∧
    (s.faxStart).ccu.call.seconds = s.ccu.call.seconds ∧
    (s.faxStart).ccu.dialler.cursor = s.ccu.dialler.cursor ∧
    (s.faxStart).ccu.dialler.breaksEnded = s.ccu.dialler.breaksEnded ∧
    (s.faxStart).ccu.dialler.lastMake = s.ccu.dialler.lastMake ∧
    (s.faxStart).ccu.lastNumber = s.ccu.lastNumber ∧
    (s.faxStart).ccu.blind = s.ccu.blind ∧
    (s.faxStart).ccu.claims = s.ccu.claims ∧
    (s.faxStart).lif.ringPresent = s.lif.ringPresent ∧
    (s.faxStart).lif.hangover = s.lif.hangover ∧
    (s.faxStart).lif.voltageBelow = s.lif.voltageBelow ∧
    (s.faxStart).lif.currentBelow = s.lif.currentBelow ∧
    (s.faxStart).lif.pickupLatch = s.lif.pickupLatch ∧
    (s.faxStart).timers.e7 = s.timers.e7 ∧
    (s.faxStart).rau.episode = s.rau.episode ∧
    (s.faxStart).rau.caller = s.rau.caller ∧
    (s.faxStart).rau.presence = s.rau.presence ∧
    (s.faxStart).rau.deadlines = s.rau.deadlines ∧
    (s.faxStart).fax.role = s.fax.role ∧
    (s.faxStart).fax.place = s.fax.place ∧
    (s.faxStart).fax.rung = s.fax.rung ∧
    (s.faxStart).fax.resolution = s.fax.resolution ∧
    (s.faxStart).fax.scanMs = s.fax.scanMs ∧
    (s.faxStart).fax.page = s.fax.page ∧
    (s.faxStart).fax.attempts = s.fax.attempts ∧
    (s.faxStart).fax.accepted = s.fax.accepted ∧
    (s.faxStart).fax.pageStart = s.fax.pageStart ∧
    (s.faxStart).fax.windows = s.fax.windows ∧
    (s.faxStart).fax.badWindows = s.fax.badWindows ∧
    (s.faxStart).fax.overflow = s.fax.overflow ∧
    (s.faxStart).fax.retries = s.fax.retries ∧
    (s.faxStart).fax.more = s.fax.more ∧
    (s.faxStart).fax.checkOverloaded = s.fax.checkOverloaded ∧
    (s.faxStart).fax.inPair = s.fax.inPair ∧
    (s.faxStart).fax.lineLength = s.fax.lineLength ∧
    (s.faxStart).fax.position = s.fax.position ∧
    (s.faxStart).fax.pageFromPort = s.fax.pageFromPort ∧
    (s.faxStart).fax.markSent = s.fax.markSent ∧
    (s.faxStart).fax.markInQueue = s.fax.markInQueue ∧
    (s.faxStart).ports.system.outgoing = s.ports.system.outgoing ∧
    (s.faxStart).ports.system.digits = s.ports.system.digits ∧
    (s.faxStart).ports.system.transfer = s.ports.system.transfer ∧
    (s.faxStart).ports.panel.outgoing = s.ports.panel.outgoing ∧
    (s.faxStart).ports.panel.digits = s.ports.panel.digits ∧
    (s.faxStart).ports.panel.transfer = s.ports.panel.transfer ∧
    (s.faxStart).sys.ready = s.sys.ready ∧
    (s.faxStart).sys.rts = s.sys.rts ∧
    (s.faxStart).sys.rate = s.sys.rate ∧
    (s.faxStart).sys.notice = s.sys.notice ∧
    (s.faxStart).sys.escape = s.sys.escape ∧
    (s.faxStart).pan = s.pan := by
  unfold State.faxStart; try dsimp only
  repeat' split
  all_goals simp

@[simp] theorem State.connectCall_keeps (s : State) :
    (s.connectCall).ccu.call.number = s.ccu.call.number ∧
    (s.connectCall).ccu.call.direction = s.ccu.call.direction ∧
    (s.connectCall).ccu.call.holder = s.ccu.call.holder ∧
    (s.connectCall).ccu.call.job = s.ccu.call.job ∧
    (s.connectCall).ccu.call.dialList = s.ccu.call.dialList ∧
    (s.connectCall).ccu.call.farEndRinging = s.ccu.call.farEndRinging ∧
    (s.connectCall).ccu.call.callerStatus = s.ccu.call.callerStatus ∧
    (s.connectCall).ccu.call.callerNumber = s.ccu.call.callerNumber ∧
    (s.connectCall).ccu.call.callerName = s.ccu.call.callerName ∧
    (s.connectCall).ccu.call.ringPattern = s.ccu.call.ringPattern ∧
    (s.connectCall).ccu.call.ringCount = s.ccu.call.ringCount ∧
    (s.connectCall).ccu.call.startTime = s.ccu.call.startTime ∧
    (s.connectCall).ccu.call.rung = s.ccu.call.rung ∧
    (s.connectCall).ccu.call.lastQuality = s.ccu.call.lastQuality ∧
    (s.connectCall).ccu.call.seconds = s.ccu.call.seconds ∧
    (s.connectCall).ccu.dialler.cursor = s.ccu.dialler.cursor ∧
    (s.connectCall).ccu.dialler.breaksEnded = s.ccu.dialler.breaksEnded ∧
    (s.connectCall).ccu.dialler.lastMake = s.ccu.dialler.lastMake ∧
    (s.connectCall).ccu.lastNumber = s.ccu.lastNumber ∧
    (s.connectCall).ccu.blind = s.ccu.blind ∧
    (s.connectCall).ccu.claims = s.ccu.claims ∧
    (s.connectCall).lif.ringPresent = s.lif.ringPresent ∧
    (s.connectCall).lif.hangover = s.lif.hangover ∧
    (s.connectCall).lif.voltageBelow = s.lif.voltageBelow ∧
    (s.connectCall).lif.currentBelow = s.lif.currentBelow ∧
    (s.connectCall).lif.pickupLatch = s.lif.pickupLatch ∧
    (s.connectCall).timers.e7 = s.timers.e7 ∧
    (s.connectCall).rau.episode = s.rau.episode ∧
    (s.connectCall).rau.caller = s.rau.caller ∧
    (s.connectCall).rau.presence = s.rau.presence ∧
    (s.connectCall).rau.deadlines = s.rau.deadlines ∧
    (s.connectCall).fax.role = s.fax.role ∧
    (s.connectCall).fax.place = s.fax.place ∧
    (s.connectCall).fax.rung = s.fax.rung ∧
    (s.connectCall).fax.resolution = s.fax.resolution ∧
    (s.connectCall).fax.scanMs = s.fax.scanMs ∧
    (s.connectCall).fax.page = s.fax.page ∧
    (s.connectCall).fax.attempts = s.fax.attempts ∧
    (s.connectCall).fax.accepted = s.fax.accepted ∧
    (s.connectCall).fax.pageStart = s.fax.pageStart ∧
    (s.connectCall).fax.windows = s.fax.windows ∧
    (s.connectCall).fax.badWindows = s.fax.badWindows ∧
    (s.connectCall).fax.overflow = s.fax.overflow ∧
    (s.connectCall).fax.retries = s.fax.retries ∧
    (s.connectCall).fax.more = s.fax.more ∧
    (s.connectCall).fax.checkOverloaded = s.fax.checkOverloaded ∧
    (s.connectCall).fax.inPair = s.fax.inPair ∧
    (s.connectCall).fax.lineLength = s.fax.lineLength ∧
    (s.connectCall).fax.position = s.fax.position ∧
    (s.connectCall).fax.pageFromPort = s.fax.pageFromPort ∧
    (s.connectCall).fax.markSent = s.fax.markSent ∧
    (s.connectCall).fax.markInQueue = s.fax.markInQueue ∧
    (s.connectCall).ports.system.outgoing = s.ports.system.outgoing ∧
    (s.connectCall).ports.system.digits = s.ports.system.digits ∧
    (s.connectCall).ports.system.transfer = s.ports.system.transfer ∧
    (s.connectCall).ports.panel.outgoing = s.ports.panel.outgoing ∧
    (s.connectCall).ports.panel.digits = s.ports.panel.digits ∧
    (s.connectCall).ports.panel.transfer = s.ports.panel.transfer ∧
    (s.connectCall).sys.ready = s.sys.ready ∧
    (s.connectCall).sys.rts = s.sys.rts ∧
    (s.connectCall).sys.rate = s.sys.rate ∧
    (s.connectCall).sys.notice = s.sys.notice ∧
    (s.connectCall).sys.escape = s.sys.escape ∧
    (s.connectCall).pan = s.pan := by
  unfold State.connectCall; try dsimp only
  repeat' split
  all_goals simp

@[simp] theorem State.faxHear_keeps (s : State) :
    (s.faxHear).ccu.call.number = s.ccu.call.number ∧
    (s.faxHear).ccu.call.direction = s.ccu.call.direction ∧
    (s.faxHear).ccu.call.holder = s.ccu.call.holder ∧
    (s.faxHear).ccu.call.job = s.ccu.call.job ∧
    (s.faxHear).ccu.call.dialList = s.ccu.call.dialList ∧
    (s.faxHear).ccu.call.farEndRinging = s.ccu.call.farEndRinging ∧
    (s.faxHear).ccu.call.callerStatus = s.ccu.call.callerStatus ∧
    (s.faxHear).ccu.call.callerNumber = s.ccu.call.callerNumber ∧
    (s.faxHear).ccu.call.callerName = s.ccu.call.callerName ∧
    (s.faxHear).ccu.call.ringPattern = s.ccu.call.ringPattern ∧
    (s.faxHear).ccu.call.ringCount = s.ccu.call.ringCount ∧
    (s.faxHear).ccu.call.startTime = s.ccu.call.startTime ∧
    (s.faxHear).ccu.call.rung = s.ccu.call.rung ∧
    (s.faxHear).ccu.call.lastQuality = s.ccu.call.lastQuality ∧
    (s.faxHear).ccu.call.seconds = s.ccu.call.seconds ∧
    (s.faxHear).ccu.dialler.cursor = s.ccu.dialler.cursor ∧
    (s.faxHear).ccu.dialler.breaksEnded = s.ccu.dialler.breaksEnded ∧
    (s.faxHear).ccu.dialler.lastMake = s.ccu.dialler.lastMake ∧
    (s.faxHear).ccu.lastNumber = s.ccu.lastNumber ∧
    (s.faxHear).ccu.blind = s.ccu.blind ∧
    (s.faxHear).ccu.claims = s.ccu.claims ∧
    (s.faxHear).lif.ringPresent = s.lif.ringPresent ∧
    (s.faxHear).lif.hangover = s.lif.hangover ∧
    (s.faxHear).lif.voltageBelow = s.lif.voltageBelow ∧
    (s.faxHear).lif.currentBelow = s.lif.currentBelow ∧
    (s.faxHear).lif.pickupLatch = s.lif.pickupLatch ∧
    (s.faxHear).timers.e7 = s.timers.e7 ∧
    (s.faxHear).rau.episode = s.rau.episode ∧
    (s.faxHear).rau.caller = s.rau.caller ∧
    (s.faxHear).rau.presence = s.rau.presence ∧
    (s.faxHear).rau.deadlines = s.rau.deadlines ∧
    (s.faxHear).fax.role = s.fax.role ∧
    (s.faxHear).fax.place = s.fax.place ∧
    (s.faxHear).fax.rung = s.fax.rung ∧
    (s.faxHear).fax.resolution = s.fax.resolution ∧
    (s.faxHear).fax.scanMs = s.fax.scanMs ∧
    (s.faxHear).fax.page = s.fax.page ∧
    (s.faxHear).fax.attempts = s.fax.attempts ∧
    (s.faxHear).fax.accepted = s.fax.accepted ∧
    (s.faxHear).fax.pageStart = s.fax.pageStart ∧
    (s.faxHear).fax.windows = s.fax.windows ∧
    (s.faxHear).fax.badWindows = s.fax.badWindows ∧
    (s.faxHear).fax.overflow = s.fax.overflow ∧
    (s.faxHear).fax.retries = s.fax.retries ∧
    (s.faxHear).fax.more = s.fax.more ∧
    (s.faxHear).fax.checkOverloaded = s.fax.checkOverloaded ∧
    (s.faxHear).fax.inPair = s.fax.inPair ∧
    (s.faxHear).fax.lineLength = s.fax.lineLength ∧
    (s.faxHear).fax.position = s.fax.position ∧
    (s.faxHear).fax.pageFromPort = s.fax.pageFromPort ∧
    (s.faxHear).fax.markSent = s.fax.markSent ∧
    (s.faxHear).fax.markInQueue = s.fax.markInQueue ∧
    (s.faxHear).ports.system.outgoing = s.ports.system.outgoing ∧
    (s.faxHear).ports.system.digits = s.ports.system.digits ∧
    (s.faxHear).ports.system.transfer = s.ports.system.transfer ∧
    (s.faxHear).ports.panel.outgoing = s.ports.panel.outgoing ∧
    (s.faxHear).ports.panel.digits = s.ports.panel.digits ∧
    (s.faxHear).ports.panel.transfer = s.ports.panel.transfer ∧
    (s.faxHear).sys.ready = s.sys.ready ∧
    (s.faxHear).sys.rts = s.sys.rts ∧
    (s.faxHear).sys.rate = s.sys.rate ∧
    (s.faxHear).sys.notice = s.sys.notice ∧
    (s.faxHear).sys.escape = s.sys.escape ∧
    (s.faxHear).pan = s.pan := by
  unfold State.faxHear; try dsimp only
  repeat' split
  all_goals simp

@[simp] theorem State.faxPortPage_keeps (s : State) :
    (s.faxPortPage).ccu = s.ccu ∧
    (s.faxPortPage).lif = s.lif ∧
    (s.faxPortPage).timers.e0 = s.timers.e0 ∧
    (s.faxPortPage).timers.e1 = s.timers.e1 ∧
    (s.faxPortPage).timers.e2 = s.timers.e2 ∧
    (s.faxPortPage).timers.e3 = s.timers.e3 ∧
    (s.faxPortPage).timers.e4 = s.timers.e4 ∧
    (s.faxPortPage).timers.e6 = s.timers.e6 ∧
    (s.faxPortPage).timers.e7 = s.timers.e7 ∧
    (s.faxPortPage).tone = s.tone ∧
    (s.faxPortPage).rau = s.rau ∧
    (s.faxPortPage).level = s.level ∧
    (s.faxPortPage).pump = s.pump ∧
    (s.faxPortPage).link = s.link ∧
    (s.faxPortPage).fax = s.fax ∧
    (s.faxPortPage).voice = s.voice ∧
    (s.faxPortPage).store = s.store ∧
    (s.faxPortPage).ports = s.ports ∧
    (s.faxPortPage).sys.ready = s.sys.ready ∧
    (s.faxPortPage).sys.rts = s.sys.rts ∧
    (s.faxPortPage).sys.lastByte = s.sys.lastByte ∧
    (s.faxPortPage).sys.rate = s.sys.rate ∧
    (s.faxPortPage).sys.notice = s.sys.notice ∧
    (s.faxPortPage).pan = s.pan := by
  unfold State.faxPortPage; try dsimp only
  repeat' split
  all_goals simp

@[simp] theorem State.faxReceivePage_keeps (s : State) :
    (s.faxReceivePage).ccu.line = s.ccu.line ∧
    (s.faxReceivePage).ccu.call.active = s.ccu.call.active ∧
    (s.faxReceivePage).ccu.call.number = s.ccu.call.number ∧
    (s.faxReceivePage).ccu.call.direction = s.ccu.call.direction ∧
    (s.faxReceivePage).ccu.call.holder = s.ccu.call.holder ∧
    (s.faxReceivePage).ccu.call.job = s.ccu.call.job ∧
    (s.faxReceivePage).ccu.call.dialList = s.ccu.call.dialList ∧
    (s.faxReceivePage).ccu.call.farEndRinging = s.ccu.call.farEndRinging ∧
    (s.faxReceivePage).ccu.call.callerStatus = s.ccu.call.callerStatus ∧
    (s.faxReceivePage).ccu.call.callerNumber = s.ccu.call.callerNumber ∧
    (s.faxReceivePage).ccu.call.callerName = s.ccu.call.callerName ∧
    (s.faxReceivePage).ccu.call.ringPattern = s.ccu.call.ringPattern ∧
    (s.faxReceivePage).ccu.call.ringCount = s.ccu.call.ringCount ∧
    (s.faxReceivePage).ccu.call.startTime = s.ccu.call.startTime ∧
    (s.faxReceivePage).ccu.call.linkedId = s.ccu.call.linkedId ∧
    (s.faxReceivePage).ccu.call.rung = s.ccu.call.rung ∧
    (s.faxReceivePage).ccu.call.lastQuality = s.ccu.call.lastQuality ∧
    (s.faxReceivePage).ccu.call.seconds = s.ccu.call.seconds ∧
    (s.faxReceivePage).ccu.call.cause = s.ccu.call.cause ∧
    (s.faxReceivePage).ccu.dialler = s.ccu.dialler ∧
    (s.faxReceivePage).ccu.lastNumber = s.ccu.lastNumber ∧
    (s.faxReceivePage).ccu.ending = s.ccu.ending ∧
    (s.faxReceivePage).ccu.blind = s.ccu.blind ∧
    (s.faxReceivePage).ccu.claims = s.ccu.claims ∧
    (s.faxReceivePage).ccu.history = s.ccu.history ∧
    (s.faxReceivePage).ccu.t2Use = s.ccu.t2Use ∧
    (s.faxReceivePage).lif = s.lif ∧
    (s.faxReceivePage).timers.e0 = s.timers.e0 ∧
    (s.faxReceivePage).timers.e1 = s.timers.e1 ∧
    (s.faxReceivePage).timers.e2 = s.timers.e2 ∧
    (s.faxReceivePage).timers.e3 = s.timers.e3 ∧
    (s.faxReceivePage).timers.e4 = s.timers.e4 ∧
    (s.faxReceivePage).timers.e6 = s.timers.e6 ∧
    (s.faxReceivePage).timers.e7 = s.timers.e7 ∧
    (s.faxReceivePage).tone = s.tone ∧
    (s.faxReceivePage).rau = s.rau ∧
    (s.faxReceivePage).level = s.level ∧
    (s.faxReceivePage).pump = s.pump ∧
    (s.faxReceivePage).link = s.link ∧
    (s.faxReceivePage).fax.role = s.fax.role ∧
    (s.faxReceivePage).fax.place = s.fax.place ∧
    (s.faxReceivePage).fax.rung = s.fax.rung ∧
    (s.faxReceivePage).fax.floor = s.fax.floor ∧
    (s.faxReceivePage).fax.ceiling = s.fax.ceiling ∧
    (s.faxReceivePage).fax.resolution = s.fax.resolution ∧
    (s.faxReceivePage).fax.scanMs = s.fax.scanMs ∧
    (s.faxReceivePage).fax.accepted = s.fax.accepted ∧
    (s.faxReceivePage).fax.linkedId = s.fax.linkedId ∧
    (s.faxReceivePage).fax.windows = s.fax.windows ∧
    (s.faxReceivePage).fax.badWindows = s.fax.badWindows ∧
    (s.faxReceivePage).fax.overflow = s.fax.overflow ∧
    (s.faxReceivePage).fax.retries = s.fax.retries ∧
    (s.faxReceivePage).fax.lastFrame = s.fax.lastFrame ∧
    (s.faxReceivePage).fax.more = s.fax.more ∧
    (s.faxReceivePage).fax.expect = s.fax.expect ∧
    (s.faxReceivePage).fax.checkSending = s.fax.checkSending ∧
    (s.faxReceivePage).fax.checkOverloaded = s.fax.checkOverloaded ∧
    (s.faxReceivePage).fax.lineLength = s.fax.lineLength ∧
    (s.faxReceivePage).fax.position = s.fax.position ∧
    (s.faxReceivePage).fax.markOut = s.fax.markOut ∧
    (s.faxReceivePage).fax.pageFromPort = s.fax.pageFromPort ∧
    (s.faxReceivePage).fax.markSent = s.fax.markSent ∧
    (s.faxReceivePage).fax.endAfter = s.fax.endAfter ∧
    (s.faxReceivePage).fax.unsent = s.fax.unsent ∧
    (s.faxReceivePage).fax.answered = s.fax.answered ∧
    (s.faxReceivePage).voice = s.voice ∧
    (s.faxReceivePage).store = s.store ∧
    (s.faxReceivePage).ports = s.ports ∧
    (s.faxReceivePage).sys.ready = s.sys.ready ∧
    (s.faxReceivePage).sys.rts = s.sys.rts ∧
    (s.faxReceivePage).sys.lastByte = s.sys.lastByte ∧
    (s.faxReceivePage).sys.rate = s.sys.rate ∧
    (s.faxReceivePage).sys.notice = s.sys.notice ∧
    (s.faxReceivePage).pan = s.pan := by
  unfold State.faxReceivePage; try dsimp only
  repeat' split
  all_goals simp

@[simp] theorem State.faxTrimPage_keeps (s : State) :
    (s.faxTrimPage).ccu = s.ccu ∧
    (s.faxTrimPage).lif = s.lif ∧
    (s.faxTrimPage).timers = s.timers ∧
    (s.faxTrimPage).tone = s.tone ∧
    (s.faxTrimPage).rau = s.rau ∧
    (s.faxTrimPage).level = s.level ∧
    (s.faxTrimPage).pump = s.pump ∧
    (s.faxTrimPage).link = s.link ∧
    (s.faxTrimPage).fax = s.fax ∧
    (s.faxTrimPage).voice = s.voice ∧
    (s.faxTrimPage).ports.system.outgoing = s.ports.system.outgoing ∧
    (s.faxTrimPage).ports.system.digits = s.ports.system.digits ∧
    (s.faxTrimPage).ports.system.transfer = s.ports.system.transfer ∧
    (s.faxTrimPage).ports.panel.outgoing = s.ports.panel.outgoing ∧
    (s.faxTrimPage).ports.panel.digits = s.ports.panel.digits ∧
    (s.faxTrimPage).ports.panel.transfer = s.ports.panel.transfer ∧
    (s.faxTrimPage).sys = s.sys ∧
    (s.faxTrimPage).pan = s.pan := by
  unfold State.faxTrimPage; try dsimp only
  repeat' split
  all_goals simp

@[simp] theorem State.faxEnterPage_keeps (s : State) :
    (s.faxEnterPage).ccu = s.ccu ∧
    (s.faxEnterPage).lif = s.lif ∧
    (s.faxEnterPage).timers = s.timers ∧
    (s.faxEnterPage).tone = s.tone ∧
    (s.faxEnterPage).rau = s.rau ∧
    (s.faxEnterPage).level = s.level ∧
    (s.faxEnterPage).pump = s.pump ∧
    (s.faxEnterPage).link = s.link ∧
    (s.faxEnterPage).fax = s.fax ∧
    (s.faxEnterPage).voice = s.voice ∧
    (s.faxEnterPage).ports = s.ports ∧
    (s.faxEnterPage).sys = s.sys ∧
    (s.faxEnterPage).pan = s.pan := by
  unfold State.faxEnterPage; try dsimp only
  repeat' split
  all_goals simp

@[simp] theorem State.faxGoodPage_keeps (s : State) (more : Bool) :
    (s.faxGoodPage more).ccu.line = s.ccu.line ∧
    (s.faxGoodPage more).ccu.call.active = s.ccu.call.active ∧
    (s.faxGoodPage more).ccu.call.number = s.ccu.call.number ∧
    (s.faxGoodPage more).ccu.call.direction = s.ccu.call.direction ∧
    (s.faxGoodPage more).ccu.call.holder = s.ccu.call.holder ∧
    (s.faxGoodPage more).ccu.call.job = s.ccu.call.job ∧
    (s.faxGoodPage more).ccu.call.dialList = s.ccu.call.dialList ∧
    (s.faxGoodPage more).ccu.call.farEndRinging = s.ccu.call.farEndRinging ∧
    (s.faxGoodPage more).ccu.call.callerStatus = s.ccu.call.callerStatus ∧
    (s.faxGoodPage more).ccu.call.callerNumber = s.ccu.call.callerNumber ∧
    (s.faxGoodPage more).ccu.call.callerName = s.ccu.call.callerName ∧
    (s.faxGoodPage more).ccu.call.ringPattern = s.ccu.call.ringPattern ∧
    (s.faxGoodPage more).ccu.call.ringCount = s.ccu.call.ringCount ∧
    (s.faxGoodPage more).ccu.call.startTime = s.ccu.call.startTime ∧
    (s.faxGoodPage more).ccu.call.linkedId = s.ccu.call.linkedId ∧
    (s.faxGoodPage more).ccu.call.rung = s.ccu.call.rung ∧
    (s.faxGoodPage more).ccu.call.lastQuality = s.ccu.call.lastQuality ∧
    (s.faxGoodPage more).ccu.call.seconds = s.ccu.call.seconds ∧
    (s.faxGoodPage more).ccu.call.cause = s.ccu.call.cause ∧
    (s.faxGoodPage more).ccu.dialler = s.ccu.dialler ∧
    (s.faxGoodPage more).ccu.lastNumber = s.ccu.lastNumber ∧
    (s.faxGoodPage more).ccu.ending = s.ccu.ending ∧
    (s.faxGoodPage more).ccu.blind = s.ccu.blind ∧
    (s.faxGoodPage more).ccu.claims = s.ccu.claims ∧
    (s.faxGoodPage more).ccu.history = s.ccu.history ∧
    (s.faxGoodPage more).lif = s.lif ∧
    (s.faxGoodPage more).timers.e0 = s.timers.e0 ∧
    (s.faxGoodPage more).timers.e1 = s.timers.e1 ∧
    (s.faxGoodPage more).timers.e3 = s.timers.e3 ∧
    (s.faxGoodPage more).timers.e4 = s.timers.e4 ∧
    (s.faxGoodPage more).timers.e6 = s.timers.e6 ∧
    (s.faxGoodPage more).timers.e7 = s.timers.e7 ∧
    (s.faxGoodPage more).tone = s.tone ∧
    (s.faxGoodPage more).rau = s.rau ∧
    (s.faxGoodPage more).level = s.level ∧
    (s.faxGoodPage more).pump = s.pump ∧
    (s.faxGoodPage more).link.mode = s.link.mode ∧
    (s.faxGoodPage more).link.paused = s.link.paused ∧
    (s.faxGoodPage more).link.attempts = s.link.attempts ∧
    (s.faxGoodPage more).link.windowSize = s.link.windowSize ∧
    (s.faxGoodPage more).link.payloadSize = s.link.payloadSize ∧
    (s.faxGoodPage more).link.vs = s.link.vs ∧
    (s.faxGoodPage more).link.window = s.link.window ∧
    (s.faxGoodPage more).link.resendMark = s.link.resendMark ∧
    (s.faxGoodPage more).link.retries = s.link.retries ∧
    (s.faxGoodPage more).link.peerBusy = s.link.peerBusy ∧
    (s.faxGoodPage more).link.vr = s.link.vr ∧
    (s.faxGoodPage more).link.rejectFlag = s.link.rejectFlag ∧
    (s.faxGoodPage more).link.ackOwed = s.link.ackOwed ∧
    (s.faxGoodPage more).link.busyAckOwed = s.link.busyAckOwed ∧
    (s.faxGoodPage more).link.ownBusy = s.link.ownBusy ∧
    (s.faxGoodPage more).link.rejectOwed = s.link.rejectOwed ∧
    (s.faxGoodPage more).link.clearOwed = s.link.clearOwed ∧
    (s.faxGoodPage more).link.reqDue = s.link.reqDue ∧
    (s.faxGoodPage more).link.confSetup = s.link.confSetup ∧
    (s.faxGoodPage more).link.confDue = s.link.confDue ∧
    (s.faxGoodPage more).link.peerOffer = s.link.peerOffer ∧
    (s.faxGoodPage more).link.byFarEnd = s.link.byFarEnd ∧
    (s.faxGoodPage more).link.policy = s.link.policy ∧
    (s.faxGoodPage more).link.offer = s.link.offer ∧
    (s.faxGoodPage more).link.stats = s.link.stats ∧
    (s.faxGoodPage more).link.outbound = s.link.outbound ∧
    (s.faxGoodPage more).link.inbound = s.link.inbound ∧
    (s.faxGoodPage more).fax.role = s.fax.role ∧
    (s.faxGoodPage more).fax.place = s.fax.place ∧
    (s.faxGoodPage more).fax.rung = s.fax.rung ∧
    (s.faxGoodPage more).fax.floor = s.fax.floor ∧
    (s.faxGoodPage more).fax.ceiling = s.fax.ceiling ∧
    (s.faxGoodPage more).fax.resolution = s.fax.resolution ∧
    (s.faxGoodPage more).fax.scanMs = s.fax.scanMs ∧
    (s.faxGoodPage more).fax.linkedId = s.fax.linkedId ∧
    (s.faxGoodPage more).fax.windows = s.fax.windows ∧
    (s.faxGoodPage more).fax.badWindows = s.fax.badWindows ∧
    (s.faxGoodPage more).fax.overflow = s.fax.overflow ∧
    (s.faxGoodPage more).fax.retries = s.fax.retries ∧
    (s.faxGoodPage more).fax.more = s.fax.more ∧
    (s.faxGoodPage more).fax.checkOverloaded = s.fax.checkOverloaded ∧
    (s.faxGoodPage more).fax.lineLength = s.fax.lineLength ∧
    (s.faxGoodPage more).fax.position = s.fax.position ∧
    (s.faxGoodPage more).fax.markOut = s.fax.markOut ∧
    (s.faxGoodPage more).fax.pageFromPort = s.fax.pageFromPort ∧
    (s.faxGoodPage more).fax.markSent = s.fax.markSent ∧
    (s.faxGoodPage more).voice = s.voice ∧
    (s.faxGoodPage more).ports = s.ports ∧
    (s.faxGoodPage more).sys.ready = s.sys.ready ∧
    (s.faxGoodPage more).sys.rts = s.sys.rts ∧
    (s.faxGoodPage more).sys.lastByte = s.sys.lastByte ∧
    (s.faxGoodPage more).sys.rate = s.sys.rate ∧
    (s.faxGoodPage more).sys.notice = s.sys.notice ∧
    (s.faxGoodPage more).pan = s.pan := by
  unfold State.faxGoodPage; try dsimp only
  repeat' split
  all_goals simp

@[simp] theorem State.faxBadPage_keeps (s : State) :
    (s.faxBadPage).ccu.line = s.ccu.line ∧
    (s.faxBadPage).ccu.call.active = s.ccu.call.active ∧
    (s.faxBadPage).ccu.call.number = s.ccu.call.number ∧
    (s.faxBadPage).ccu.call.direction = s.ccu.call.direction ∧
    (s.faxBadPage).ccu.call.holder = s.ccu.call.holder ∧
    (s.faxBadPage).ccu.call.job = s.ccu.call.job ∧
    (s.faxBadPage).ccu.call.dialList = s.ccu.call.dialList ∧
    (s.faxBadPage).ccu.call.farEndRinging = s.ccu.call.farEndRinging ∧
    (s.faxBadPage).ccu.call.callerStatus = s.ccu.call.callerStatus ∧
    (s.faxBadPage).ccu.call.callerNumber = s.ccu.call.callerNumber ∧
    (s.faxBadPage).ccu.call.callerName = s.ccu.call.callerName ∧
    (s.faxBadPage).ccu.call.ringPattern = s.ccu.call.ringPattern ∧
    (s.faxBadPage).ccu.call.ringCount = s.ccu.call.ringCount ∧
    (s.faxBadPage).ccu.call.startTime = s.ccu.call.startTime ∧
    (s.faxBadPage).ccu.call.linkedId = s.ccu.call.linkedId ∧
    (s.faxBadPage).ccu.call.rung = s.ccu.call.rung ∧
    (s.faxBadPage).ccu.call.lastQuality = s.ccu.call.lastQuality ∧
    (s.faxBadPage).ccu.call.seconds = s.ccu.call.seconds ∧
    (s.faxBadPage).ccu.call.cause = s.ccu.call.cause ∧
    (s.faxBadPage).ccu.dialler = s.ccu.dialler ∧
    (s.faxBadPage).ccu.lastNumber = s.ccu.lastNumber ∧
    (s.faxBadPage).ccu.ending = s.ccu.ending ∧
    (s.faxBadPage).ccu.blind = s.ccu.blind ∧
    (s.faxBadPage).ccu.claims = s.ccu.claims ∧
    (s.faxBadPage).ccu.history = s.ccu.history ∧
    (s.faxBadPage).lif = s.lif ∧
    (s.faxBadPage).timers.e0 = s.timers.e0 ∧
    (s.faxBadPage).timers.e1 = s.timers.e1 ∧
    (s.faxBadPage).timers.e3 = s.timers.e3 ∧
    (s.faxBadPage).timers.e4 = s.timers.e4 ∧
    (s.faxBadPage).timers.e5 = s.timers.e5 ∧
    (s.faxBadPage).timers.e6 = s.timers.e6 ∧
    (s.faxBadPage).timers.e7 = s.timers.e7 ∧
    (s.faxBadPage).tone = s.tone ∧
    (s.faxBadPage).rau = s.rau ∧
    (s.faxBadPage).level = s.level ∧
    (s.faxBadPage).pump = s.pump ∧
    (s.faxBadPage).link.mode = s.link.mode ∧
    (s.faxBadPage).link.paused = s.link.paused ∧
    (s.faxBadPage).link.attempts = s.link.attempts ∧
    (s.faxBadPage).link.windowSize = s.link.windowSize ∧
    (s.faxBadPage).link.payloadSize = s.link.payloadSize ∧
    (s.faxBadPage).link.vs = s.link.vs ∧
    (s.faxBadPage).link.window = s.link.window ∧
    (s.faxBadPage).link.resendMark = s.link.resendMark ∧
    (s.faxBadPage).link.retries = s.link.retries ∧
    (s.faxBadPage).link.peerBusy = s.link.peerBusy ∧
    (s.faxBadPage).link.vr = s.link.vr ∧
    (s.faxBadPage).link.rejectFlag = s.link.rejectFlag ∧
    (s.faxBadPage).link.ackOwed = s.link.ackOwed ∧
    (s.faxBadPage).link.busyAckOwed = s.link.busyAckOwed ∧
    (s.faxBadPage).link.ownBusy = s.link.ownBusy ∧
    (s.faxBadPage).link.rejectOwed = s.link.rejectOwed ∧
    (s.faxBadPage).link.clearOwed = s.link.clearOwed ∧
    (s.faxBadPage).link.reqDue = s.link.reqDue ∧
    (s.faxBadPage).link.confSetup = s.link.confSetup ∧
    (s.faxBadPage).link.confDue = s.link.confDue ∧
    (s.faxBadPage).link.peerOffer = s.link.peerOffer ∧
    (s.faxBadPage).link.byFarEnd = s.link.byFarEnd ∧
    (s.faxBadPage).link.policy = s.link.policy ∧
    (s.faxBadPage).link.offer = s.link.offer ∧
    (s.faxBadPage).link.stats = s.link.stats ∧
    (s.faxBadPage).link.outbound = s.link.outbound ∧
    (s.faxBadPage).link.inbound = s.link.inbound ∧
    (s.faxBadPage).fax.role = s.fax.role ∧
    (s.faxBadPage).fax.place = s.fax.place ∧
    (s.faxBadPage).fax.rung = s.fax.rung ∧
    (s.faxBadPage).fax.floor = s.fax.floor ∧
    (s.faxBadPage).fax.ceiling = s.fax.ceiling ∧
    (s.faxBadPage).fax.resolution = s.fax.resolution ∧
    (s.faxBadPage).fax.scanMs = s.fax.scanMs ∧
    (s.faxBadPage).fax.page = s.fax.page ∧
    (s.faxBadPage).fax.accepted = s.fax.accepted ∧
    (s.faxBadPage).fax.linkedId = s.fax.linkedId ∧
    (s.faxBadPage).fax.pageStart = s.fax.pageStart ∧
    (s.faxBadPage).fax.windows = s.fax.windows ∧
    (s.faxBadPage).fax.badWindows = s.fax.badWindows ∧
    (s.faxBadPage).fax.overflow = s.fax.overflow ∧
    (s.faxBadPage).fax.retries = s.fax.retries ∧
    (s.faxBadPage).fax.more = s.fax.more ∧
    (s.faxBadPage).fax.checkOverloaded = s.fax.checkOverloaded ∧
    (s.faxBadPage).fax.dataBegun = s.fax.dataBegun ∧
    (s.faxBadPage).fax.inPair = s.fax.inPair ∧
    (s.faxBadPage).fax.lineLength = s.fax.lineLength ∧
    (s.faxBadPage).fax.position = s.fax.position ∧
    (s.faxBadPage).fax.markOut = s.fax.markOut ∧
    (s.faxBadPage).fax.pageFromPort = s.fax.pageFromPort ∧
    (s.faxBadPage).fax.markSent = s.fax.markSent ∧
    (s.faxBadPage).fax.markInQueue = s.fax.markInQueue ∧
    (s.faxBadPage).voice = s.voice ∧
    (s.faxBadPage).ports.system.outgoing = s.ports.system.outgoing ∧
    (s.faxBadPage).ports.system.digits = s.ports.system.digits ∧
    (s.faxBadPage).ports.system.transfer = s.ports.system.transfer ∧
    (s.faxBadPage).ports.panel.outgoing = s.ports.panel.outgoing ∧
    (s.faxBadPage).ports.panel.digits = s.ports.panel.digits ∧
    (s.faxBadPage).ports.panel.transfer = s.ports.panel.transfer ∧
    (s.faxBadPage).sys = s.sys ∧
    (s.faxBadPage).pan = s.pan := by
  unfold State.faxBadPage; try dsimp only
  repeat' split
  all_goals simp

@[simp] theorem State.faxStoreByte_keeps (s : State) (b : Byte) :
    ((s.faxStoreByte b).1).ccu = s.ccu ∧
    ((s.faxStoreByte b).1).lif = s.lif ∧
    ((s.faxStoreByte b).1).timers = s.timers ∧
    ((s.faxStoreByte b).1).tone = s.tone ∧
    ((s.faxStoreByte b).1).rau = s.rau ∧
    ((s.faxStoreByte b).1).level = s.level ∧
    ((s.faxStoreByte b).1).pump = s.pump ∧
    ((s.faxStoreByte b).1).link.mode = s.link.mode ∧
    ((s.faxStoreByte b).1).link.paused = s.link.paused ∧
    ((s.faxStoreByte b).1).link.attempts = s.link.attempts ∧
    ((s.faxStoreByte b).1).link.windowSize = s.link.windowSize ∧
    ((s.faxStoreByte b).1).link.payloadSize = s.link.payloadSize ∧
    ((s.faxStoreByte b).1).link.vs = s.link.vs ∧
    ((s.faxStoreByte b).1).link.window = s.link.window ∧
    ((s.faxStoreByte b).1).link.resendMark = s.link.resendMark ∧
    ((s.faxStoreByte b).1).link.retries = s.link.retries ∧
    ((s.faxStoreByte b).1).link.peerBusy = s.link.peerBusy ∧
    ((s.faxStoreByte b).1).link.vr = s.link.vr ∧
    ((s.faxStoreByte b).1).link.rejectFlag = s.link.rejectFlag ∧
    ((s.faxStoreByte b).1).link.ackOwed = s.link.ackOwed ∧
    ((s.faxStoreByte b).1).link.busyAckOwed = s.link.busyAckOwed ∧
    ((s.faxStoreByte b).1).link.ownBusy = s.link.ownBusy ∧
    ((s.faxStoreByte b).1).link.rejectOwed = s.link.rejectOwed ∧
    ((s.faxStoreByte b).1).link.clearOwed = s.link.clearOwed ∧
    ((s.faxStoreByte b).1).link.reqDue = s.link.reqDue ∧
    ((s.faxStoreByte b).1).link.confSetup = s.link.confSetup ∧
    ((s.faxStoreByte b).1).link.confDue = s.link.confDue ∧
    ((s.faxStoreByte b).1).link.peerOffer = s.link.peerOffer ∧
    ((s.faxStoreByte b).1).link.byFarEnd = s.link.byFarEnd ∧
    ((s.faxStoreByte b).1).link.policy = s.link.policy ∧
    ((s.faxStoreByte b).1).link.offer = s.link.offer ∧
    ((s.faxStoreByte b).1).link.stats = s.link.stats ∧
    ((s.faxStoreByte b).1).link.outbound = s.link.outbound ∧
    ((s.faxStoreByte b).1).link.tx = s.link.tx ∧
    ((s.faxStoreByte b).1).fax.role = s.fax.role ∧
    ((s.faxStoreByte b).1).fax.place = s.fax.place ∧
    ((s.faxStoreByte b).1).fax.phase = s.fax.phase ∧
    ((s.faxStoreByte b).1).fax.rung = s.fax.rung ∧
    ((s.faxStoreByte b).1).fax.floor = s.fax.floor ∧
    ((s.faxStoreByte b).1).fax.ceiling = s.fax.ceiling ∧
    ((s.faxStoreByte b).1).fax.resolution = s.fax.resolution ∧
    ((s.faxStoreByte b).1).fax.scanMs = s.fax.scanMs ∧
    ((s.faxStoreByte b).1).fax.page = s.fax.page ∧
    ((s.faxStoreByte b).1).fax.attempts = s.fax.attempts ∧
    ((s.faxStoreByte b).1).fax.accepted = s.fax.accepted ∧
    ((s.faxStoreByte b).1).fax.linkedId = s.fax.linkedId ∧
    ((s.faxStoreByte b).1).fax.pageStart = s.fax.pageStart ∧
    ((s.faxStoreByte b).1).fax.windows = s.fax.windows ∧
    ((s.faxStoreByte b).1).fax.badWindows = s.fax.badWindows ∧
    ((s.faxStoreByte b).1).fax.retries = s.fax.retries ∧
    ((s.faxStoreByte b).1).fax.lastFrame = s.fax.lastFrame ∧
    ((s.faxStoreByte b).1).fax.more = s.fax.more ∧
    ((s.faxStoreByte b).1).fax.expect = s.fax.expect ∧
    ((s.faxStoreByte b).1).fax.checkSending = s.fax.checkSending ∧
    ((s.faxStoreByte b).1).fax.checkOverloaded = s.fax.checkOverloaded ∧
    ((s.faxStoreByte b).1).fax.dataBegun = s.fax.dataBegun ∧
    ((s.faxStoreByte b).1).fax.inPair = s.fax.inPair ∧
    ((s.faxStoreByte b).1).fax.lineLength = s.fax.lineLength ∧
    ((s.faxStoreByte b).1).fax.position = s.fax.position ∧
    ((s.faxStoreByte b).1).fax.markOut = s.fax.markOut ∧
    ((s.faxStoreByte b).1).fax.pageFromPort = s.fax.pageFromPort ∧
    ((s.faxStoreByte b).1).fax.markSent = s.fax.markSent ∧
    ((s.faxStoreByte b).1).fax.endAfter = s.fax.endAfter ∧
    ((s.faxStoreByte b).1).fax.unsent = s.fax.unsent ∧
    ((s.faxStoreByte b).1).fax.answered = s.fax.answered ∧
    ((s.faxStoreByte b).1).voice = s.voice ∧
    ((s.faxStoreByte b).1).ports.system.outgoing = s.ports.system.outgoing ∧
    ((s.faxStoreByte b).1).ports.system.digits = s.ports.system.digits ∧
    ((s.faxStoreByte b).1).ports.system.transfer = s.ports.system.transfer ∧
    ((s.faxStoreByte b).1).ports.panel.outgoing = s.ports.panel.outgoing ∧
    ((s.faxStoreByte b).1).ports.panel.digits = s.ports.panel.digits ∧
    ((s.faxStoreByte b).1).ports.panel.transfer = s.ports.panel.transfer ∧
    ((s.faxStoreByte b).1).sys = s.sys ∧
    ((s.faxStoreByte b).1).pan = s.pan := by
  unfold State.faxStoreByte; try dsimp only
  repeat' split
  all_goals simp

@[simp] theorem State.faxPageEnded_keeps (s : State) :
    (s.faxPageEnded).ccu.line = s.ccu.line ∧
    (s.faxPageEnded).ccu.call.active = s.ccu.call.active ∧
    (s.faxPageEnded).ccu.call.number = s.ccu.call.number ∧
    (s.faxPageEnded).ccu.call.direction = s.ccu.call.direction ∧
    (s.faxPageEnded).ccu.call.holder = s.ccu.call.holder ∧
    (s.faxPageEnded).ccu.call.job = s.ccu.call.job ∧
    (s.faxPageEnded).ccu.call.dialList = s.ccu.call.dialList ∧
    (s.faxPageEnded).ccu.call.farEndRinging = s.ccu.call.farEndRinging ∧
    (s.faxPageEnded).ccu.call.callerStatus = s.ccu.call.callerStatus ∧
    (s.faxPageEnded).ccu.call.callerNumber = s.ccu.call.callerNumber ∧
    (s.faxPageEnded).ccu.call.callerName = s.ccu.call.callerName ∧
    (s.faxPageEnded).ccu.call.ringPattern = s.ccu.call.ringPattern ∧
    (s.faxPageEnded).ccu.call.ringCount = s.ccu.call.ringCount ∧
    (s.faxPageEnded).ccu.call.startTime = s.ccu.call.startTime ∧
    (s.faxPageEnded).ccu.call.linkedId = s.ccu.call.linkedId ∧
    (s.faxPageEnded).ccu.call.rung = s.ccu.call.rung ∧
    (s.faxPageEnded).ccu.call.lastQuality = s.ccu.call.lastQuality ∧
    (s.faxPageEnded).ccu.call.seconds = s.ccu.call.seconds ∧
    (s.faxPageEnded).ccu.call.cause = s.ccu.call.cause ∧
    (s.faxPageEnded).ccu.dialler = s.ccu.dialler ∧
    (s.faxPageEnded).ccu.lastNumber = s.ccu.lastNumber ∧
    (s.faxPageEnded).ccu.ending = s.ccu.ending ∧
    (s.faxPageEnded).ccu.blind = s.ccu.blind ∧
    (s.faxPageEnded).ccu.claims = s.ccu.claims ∧
    (s.faxPageEnded).ccu.history = s.ccu.history ∧
    (s.faxPageEnded).lif = s.lif ∧
    (s.faxPageEnded).timers.e0 = s.timers.e0 ∧
    (s.faxPageEnded).timers.e1 = s.timers.e1 ∧
    (s.faxPageEnded).timers.e3 = s.timers.e3 ∧
    (s.faxPageEnded).timers.e4 = s.timers.e4 ∧
    (s.faxPageEnded).timers.e5 = s.timers.e5 ∧
    (s.faxPageEnded).timers.e6 = s.timers.e6 ∧
    (s.faxPageEnded).timers.e7 = s.timers.e7 ∧
    (s.faxPageEnded).tone = s.tone ∧
    (s.faxPageEnded).rau = s.rau ∧
    (s.faxPageEnded).pump = s.pump ∧
    (s.faxPageEnded).link = s.link ∧
    (s.faxPageEnded).fax.role = s.fax.role ∧
    (s.faxPageEnded).fax.place = s.fax.place ∧
    (s.faxPageEnded).fax.rung = s.fax.rung ∧
    (s.faxPageEnded).fax.floor = s.fax.floor ∧
    (s.faxPageEnded).fax.ceiling = s.fax.ceiling ∧
    (s.faxPageEnded).fax.resolution = s.fax.resolution ∧
    (s.faxPageEnded).fax.scanMs = s.fax.scanMs ∧
    (s.faxPageEnded).fax.page = s.fax.page ∧
    (s.faxPageEnded).fax.attempts = s.fax.attempts ∧
    (s.faxPageEnded).fax.accepted = s.fax.accepted ∧
    (s.faxPageEnded).fax.linkedId = s.fax.linkedId ∧
    (s.faxPageEnded).fax.pageStart = s.fax.pageStart ∧
    (s.faxPageEnded).fax.windows = s.fax.windows ∧
    (s.faxPageEnded).fax.badWindows = s.fax.badWindows ∧
    (s.faxPageEnded).fax.overflow = s.fax.overflow ∧
    (s.faxPageEnded).fax.retries = s.fax.retries ∧
    (s.faxPageEnded).fax.lastFrame = s.fax.lastFrame ∧
    (s.faxPageEnded).fax.more = s.fax.more ∧
    (s.faxPageEnded).fax.checkSending = s.fax.checkSending ∧
    (s.faxPageEnded).fax.checkOverloaded = s.fax.checkOverloaded ∧
    (s.faxPageEnded).fax.lineLength = s.fax.lineLength ∧
    (s.faxPageEnded).fax.position = s.fax.position ∧
    (s.faxPageEnded).fax.markOut = s.fax.markOut ∧
    (s.faxPageEnded).fax.pageFromPort = s.fax.pageFromPort ∧
    (s.faxPageEnded).fax.markSent = s.fax.markSent ∧
    (s.faxPageEnded).fax.markInQueue = s.fax.markInQueue ∧
    (s.faxPageEnded).fax.endAfter = s.fax.endAfter ∧
    (s.faxPageEnded).fax.unsent = s.fax.unsent ∧
    (s.faxPageEnded).fax.answered = s.fax.answered ∧
    (s.faxPageEnded).voice = s.voice ∧
    (s.faxPageEnded).store = s.store ∧
    (s.faxPageEnded).ports = s.ports ∧
    (s.faxPageEnded).sys = s.sys ∧
    (s.faxPageEnded).pan = s.pan := by
  unfold State.faxPageEnded; try dsimp only
  repeat' split
  all_goals simp

@[simp] theorem State.faxFollowMarks_keeps (s : State) (b : Byte) :
    (s.faxFollowMarks b).ccu.line = s.ccu.line ∧
    (s.faxFollowMarks b).ccu.call.active = s.ccu.call.active ∧
    (s.faxFollowMarks b).ccu.call.number = s.ccu.call.number ∧
    (s.faxFollowMarks b).ccu.call.direction = s.ccu.call.direction ∧
    (s.faxFollowMarks b).ccu.call.holder = s.ccu.call.holder ∧
    (s.faxFollowMarks b).ccu.call.job = s.ccu.call.job ∧
    (s.faxFollowMarks b).ccu.call.dialList = s.ccu.call.dialList ∧
    (s.faxFollowMarks b).ccu.call.farEndRinging = s.ccu.call.farEndRinging ∧
    (s.faxFollowMarks b).ccu.call.callerStatus = s.ccu.call.callerStatus ∧
    (s.faxFollowMarks b).ccu.call.callerNumber = s.ccu.call.callerNumber ∧
    (s.faxFollowMarks b).ccu.call.callerName = s.ccu.call.callerName ∧
    (s.faxFollowMarks b).ccu.call.ringPattern = s.ccu.call.ringPattern ∧
    (s.faxFollowMarks b).ccu.call.ringCount = s.ccu.call.ringCount ∧
    (s.faxFollowMarks b).ccu.call.startTime = s.ccu.call.startTime ∧
    (s.faxFollowMarks b).ccu.call.linkedId = s.ccu.call.linkedId ∧
    (s.faxFollowMarks b).ccu.call.rung = s.ccu.call.rung ∧
    (s.faxFollowMarks b).ccu.call.lastQuality = s.ccu.call.lastQuality ∧
    (s.faxFollowMarks b).ccu.call.seconds = s.ccu.call.seconds ∧
    (s.faxFollowMarks b).ccu.call.cause = s.ccu.call.cause ∧
    (s.faxFollowMarks b).ccu.dialler = s.ccu.dialler ∧
    (s.faxFollowMarks b).ccu.lastNumber = s.ccu.lastNumber ∧
    (s.faxFollowMarks b).ccu.ending = s.ccu.ending ∧
    (s.faxFollowMarks b).ccu.blind = s.ccu.blind ∧
    (s.faxFollowMarks b).ccu.claims = s.ccu.claims ∧
    (s.faxFollowMarks b).ccu.history = s.ccu.history ∧
    (s.faxFollowMarks b).lif = s.lif ∧
    (s.faxFollowMarks b).timers.e0 = s.timers.e0 ∧
    (s.faxFollowMarks b).timers.e1 = s.timers.e1 ∧
    (s.faxFollowMarks b).timers.e3 = s.timers.e3 ∧
    (s.faxFollowMarks b).timers.e4 = s.timers.e4 ∧
    (s.faxFollowMarks b).timers.e5 = s.timers.e5 ∧
    (s.faxFollowMarks b).timers.e6 = s.timers.e6 ∧
    (s.faxFollowMarks b).timers.e7 = s.timers.e7 ∧
    (s.faxFollowMarks b).tone = s.tone ∧
    (s.faxFollowMarks b).rau = s.rau ∧
    (s.faxFollowMarks b).pump = s.pump ∧
    (s.faxFollowMarks b).link = s.link ∧
    (s.faxFollowMarks b).fax.role = s.fax.role ∧
    (s.faxFollowMarks b).fax.place = s.fax.place ∧
    (s.faxFollowMarks b).fax.rung = s.fax.rung ∧
    (s.faxFollowMarks b).fax.floor = s.fax.floor ∧
    (s.faxFollowMarks b).fax.ceiling = s.fax.ceiling ∧
    (s.faxFollowMarks b).fax.resolution = s.fax.resolution ∧
    (s.faxFollowMarks b).fax.scanMs = s.fax.scanMs ∧
    (s.faxFollowMarks b).fax.page = s.fax.page ∧
    (s.faxFollowMarks b).fax.attempts = s.fax.attempts ∧
    (s.faxFollowMarks b).fax.accepted = s.fax.accepted ∧
    (s.faxFollowMarks b).fax.linkedId = s.fax.linkedId ∧
    (s.faxFollowMarks b).fax.pageStart = s.fax.pageStart ∧
    (s.faxFollowMarks b).fax.windows = s.fax.windows ∧
    (s.faxFollowMarks b).fax.badWindows = s.fax.badWindows ∧
    (s.faxFollowMarks b).fax.overflow = s.fax.overflow ∧
    (s.faxFollowMarks b).fax.retries = s.fax.retries ∧
    (s.faxFollowMarks b).fax.lastFrame = s.fax.lastFrame ∧
    (s.faxFollowMarks b).fax.more = s.fax.more ∧
    (s.faxFollowMarks b).fax.checkSending = s.fax.checkSending ∧
    (s.faxFollowMarks b).fax.checkOverloaded = s.fax.checkOverloaded ∧
    (s.faxFollowMarks b).fax.lineLength = s.fax.lineLength ∧
    (s.faxFollowMarks b).fax.position = s.fax.position ∧
    (s.faxFollowMarks b).fax.markOut = s.fax.markOut ∧
    (s.faxFollowMarks b).fax.pageFromPort = s.fax.pageFromPort ∧
    (s.faxFollowMarks b).fax.markSent = s.fax.markSent ∧
    (s.faxFollowMarks b).fax.markInQueue = s.fax.markInQueue ∧
    (s.faxFollowMarks b).fax.endAfter = s.fax.endAfter ∧
    (s.faxFollowMarks b).fax.unsent = s.fax.unsent ∧
    (s.faxFollowMarks b).fax.answered = s.fax.answered ∧
    (s.faxFollowMarks b).voice = s.voice ∧
    (s.faxFollowMarks b).store = s.store ∧
    (s.faxFollowMarks b).ports = s.ports ∧
    (s.faxFollowMarks b).sys = s.sys ∧
    (s.faxFollowMarks b).pan = s.pan := by
  unfold State.faxFollowMarks; try dsimp only
  repeat' split
  all_goals simp

@[simp] theorem State.faxBeginPage_keeps (s : State) :
    (s.faxBeginPage).ccu.line = s.ccu.line ∧
    (s.faxBeginPage).ccu.call = s.ccu.call ∧
    (s.faxBeginPage).ccu.dialler = s.ccu.dialler ∧
    (s.faxBeginPage).ccu.lastNumber = s.ccu.lastNumber ∧
    (s.faxBeginPage).ccu.ending = s.ccu.ending ∧
    (s.faxBeginPage).ccu.blind = s.ccu.blind ∧
    (s.faxBeginPage).ccu.claims = s.ccu.claims ∧
    (s.faxBeginPage).ccu.history = s.ccu.history ∧
    (s.faxBeginPage).lif = s.lif ∧
    (s.faxBeginPage).timers.e0 = s.timers.e0 ∧
    (s.faxBeginPage).timers.e1 = s.timers.e1 ∧
    (s.faxBeginPage).timers.e3 = s.timers.e3 ∧
    (s.faxBeginPage).timers.e4 = s.timers.e4 ∧
    (s.faxBeginPage).timers.e6 = s.timers.e6 ∧
    (s.faxBeginPage).timers.e7 = s.timers.e7 ∧
    (s.faxBeginPage).tone = s.tone ∧
    (s.faxBeginPage).rau = s.rau ∧
    (s.faxBeginPage).level = s.level ∧
    (s.faxBeginPage).pump.mode = s.pump.mode ∧
    (s.faxBeginPage).pump.role = s.pump.role ∧
    (s.faxBeginPage).pump.phase = s.pump.phase ∧
    (s.faxBeginPage).pump.localCeiling = s.pump.localCeiling ∧
    (s.faxBeginPage).pump.localFloor = s.pump.localFloor ∧
    (s.faxBeginPage).pump.peerMax = s.pump.peerMax ∧
    (s.faxBeginPage).pump.negCeiling = s.pump.negCeiling ∧
    (s.faxBeginPage).pump.negFloor = s.pump.negFloor ∧
    (s.faxBeginPage).pump.below = s.pump.below ∧
    (s.faxBeginPage).pump.above = s.pump.above ∧
    (s.faxBeginPage).pump.retrains = s.pump.retrains ∧
    (s.faxBeginPage).pump.linkStarted = s.pump.linkStarted ∧
    (s.faxBeginPage).pump.request = s.pump.request ∧
    (s.faxBeginPage).pump.answerTone = s.pump.answerTone ∧
    (s.faxBeginPage).pump.heardMax = s.pump.heardMax ∧
    (s.faxBeginPage).pump.heardAck = s.pump.heardAck ∧
    (s.faxBeginPage).pump.stage = s.pump.stage ∧
    (s.faxBeginPage).pump.ownAccept = s.pump.ownAccept ∧
    (s.faxBeginPage).pump.farAccept = s.pump.farAccept ∧
    (s.faxBeginPage).pump.confirmed = s.pump.confirmed ∧
    (s.faxBeginPage).link.mode = s.link.mode ∧
    (s.faxBeginPage).link.paused = s.link.paused ∧
    (s.faxBeginPage).link.attempts = s.link.attempts ∧
    (s.faxBeginPage).link.windowSize = s.link.windowSize ∧
    (s.faxBeginPage).link.payloadSize = s.link.payloadSize ∧
    (s.faxBeginPage).link.vs = s.link.vs ∧
    (s.faxBeginPage).link.window = s.link.window ∧
    (s.faxBeginPage).link.resendMark = s.link.resendMark ∧
    (s.faxBeginPage).link.retries = s.link.retries ∧
    (s.faxBeginPage).link.peerBusy = s.link.peerBusy ∧
    (s.faxBeginPage).link.vr = s.link.vr ∧
    (s.faxBeginPage).link.rejectFlag = s.link.rejectFlag ∧
    (s.faxBeginPage).link.ackOwed = s.link.ackOwed ∧
    (s.faxBeginPage).link.busyAckOwed = s.link.busyAckOwed ∧
    (s.faxBeginPage).link.ownBusy = s.link.ownBusy ∧
    (s.faxBeginPage).link.rejectOwed = s.link.rejectOwed ∧
    (s.faxBeginPage).link.clearOwed = s.link.clearOwed ∧
    (s.faxBeginPage).link.reqDue = s.link.reqDue ∧
    (s.faxBeginPage).link.confDue = s.link.confDue ∧
    (s.faxBeginPage).link.confSetup = s.link.confSetup ∧
    (s.faxBeginPage).link.peerOffer = s.link.peerOffer ∧
    (s.faxBeginPage).link.byFarEnd = s.link.byFarEnd ∧
    (s.faxBeginPage).link.policy = s.link.policy ∧
    (s.faxBeginPage).link.offer = s.link.offer ∧
    (s.faxBeginPage).link.stats = s.link.stats ∧
    (s.faxBeginPage).link.outbound = s.link.outbound ∧
    (s.faxBeginPage).link.inbound = s.link.inbound ∧
    (s.faxBeginPage).fax.role = s.fax.role ∧
    (s.faxBeginPage).fax.place = s.fax.place ∧
    (s.faxBeginPage).fax.phase = s.fax.phase ∧
    (s.faxBeginPage).fax.rung = s.fax.rung ∧
    (s.faxBeginPage).fax.floor = s.fax.floor ∧
    (s.faxBeginPage).fax.ceiling = s.fax.ceiling ∧
    (s.faxBeginPage).fax.resolution = s.fax.resolution ∧
    (s.faxBeginPage).fax.scanMs = s.fax.scanMs ∧
    (s.faxBeginPage).fax.page = s.fax.page ∧
    (s.faxBeginPage).fax.attempts = s.fax.attempts ∧
    (s.faxBeginPage).fax.accepted = s.fax.accepted ∧
    (s.faxBeginPage).fax.linkedId = s.fax.linkedId ∧
    (s.faxBeginPage).fax.windows = s.fax.windows ∧
    (s.faxBeginPage).fax.badWindows = s.fax.badWindows ∧
    (s.faxBeginPage).fax.overflow = s.fax.overflow ∧
    (s.faxBeginPage).fax.retries = s.fax.retries ∧
    (s.faxBeginPage).fax.lastFrame = s.fax.lastFrame ∧
    (s.faxBeginPage).fax.expect = s.fax.expect ∧
    (s.faxBeginPage).fax.checkSending = s.fax.checkSending ∧
    (s.faxBeginPage).fax.checkOverloaded = s.fax.checkOverloaded ∧
    (s.faxBeginPage).fax.dataBegun = s.fax.dataBegun ∧
    (s.faxBeginPage).fax.markInQueue = s.fax.markInQueue ∧
    (s.faxBeginPage).fax.endAfter = s.fax.endAfter ∧
    (s.faxBeginPage).fax.unsent = s.fax.unsent ∧
    (s.faxBeginPage).fax.answered = s.fax.answered ∧
    (s.faxBeginPage).voice = s.voice ∧
    (s.faxBeginPage).store = s.store ∧
    (s.faxBeginPage).ports = s.ports ∧
    (s.faxBeginPage).sys.ready = s.sys.ready ∧
    (s.faxBeginPage).sys.rts = s.sys.rts ∧
    (s.faxBeginPage).sys.rate = s.sys.rate ∧
    (s.faxBeginPage).sys.notice = s.sys.notice ∧
    (s.faxBeginPage).pan = s.pan := by
  unfold State.faxBeginPage; try dsimp only
  repeat' split
  all_goals simp

@[simp] theorem State.faxSendPage_keeps (s : State) :
    (s.faxSendPage).ccu.call.number = s.ccu.call.number ∧
    (s.faxSendPage).ccu.call.direction = s.ccu.call.direction ∧
    (s.faxSendPage).ccu.call.holder = s.ccu.call.holder ∧
    (s.faxSendPage).ccu.call.job = s.ccu.call.job ∧
    (s.faxSendPage).ccu.call.dialList = s.ccu.call.dialList ∧
    (s.faxSendPage).ccu.call.farEndRinging = s.ccu.call.farEndRinging ∧
    (s.faxSendPage).ccu.call.callerStatus = s.ccu.call.callerStatus ∧
    (s.faxSendPage).ccu.call.callerNumber = s.ccu.call.callerNumber ∧
    (s.faxSendPage).ccu.call.callerName = s.ccu.call.callerName ∧
    (s.faxSendPage).ccu.call.ringPattern = s.ccu.call.ringPattern ∧
    (s.faxSendPage).ccu.call.ringCount = s.ccu.call.ringCount ∧
    (s.faxSendPage).ccu.call.startTime = s.ccu.call.startTime ∧
    (s.faxSendPage).ccu.call.rung = s.ccu.call.rung ∧
    (s.faxSendPage).ccu.call.lastQuality = s.ccu.call.lastQuality ∧
    (s.faxSendPage).ccu.call.seconds = s.ccu.call.seconds ∧
    (s.faxSendPage).ccu.dialler.cursor = s.ccu.dialler.cursor ∧
    (s.faxSendPage).ccu.dialler.breaksEnded = s.ccu.dialler.breaksEnded ∧
    (s.faxSendPage).ccu.dialler.lastMake = s.ccu.dialler.lastMake ∧
    (s.faxSendPage).ccu.lastNumber = s.ccu.lastNumber ∧
    (s.faxSendPage).ccu.blind = s.ccu.blind ∧
    (s.faxSendPage).ccu.claims = s.ccu.claims ∧
    (s.faxSendPage).lif.ringPresent = s.lif.ringPresent ∧
    (s.faxSendPage).lif.hangover = s.lif.hangover ∧
    (s.faxSendPage).lif.voltageBelow = s.lif.voltageBelow ∧
    (s.faxSendPage).lif.currentBelow = s.lif.currentBelow ∧
    (s.faxSendPage).lif.pickupLatch = s.lif.pickupLatch ∧
    (s.faxSendPage).timers.e7 = s.timers.e7 ∧
    (s.faxSendPage).rau.episode = s.rau.episode ∧
    (s.faxSendPage).rau.caller = s.rau.caller ∧
    (s.faxSendPage).rau.presence = s.rau.presence ∧
    (s.faxSendPage).rau.deadlines = s.rau.deadlines ∧
    (s.faxSendPage).fax.role = s.fax.role ∧
    (s.faxSendPage).fax.rung = s.fax.rung ∧
    (s.faxSendPage).fax.floor = s.fax.floor ∧
    (s.faxSendPage).fax.ceiling = s.fax.ceiling ∧
    (s.faxSendPage).fax.resolution = s.fax.resolution ∧
    (s.faxSendPage).fax.scanMs = s.fax.scanMs ∧
    (s.faxSendPage).fax.accepted = s.fax.accepted ∧
    (s.faxSendPage).fax.linkedId = s.fax.linkedId ∧
    (s.faxSendPage).fax.windows = s.fax.windows ∧
    (s.faxSendPage).fax.badWindows = s.fax.badWindows ∧
    (s.faxSendPage).fax.overflow = s.fax.overflow ∧
    (s.faxSendPage).fax.retries = s.fax.retries ∧
    (s.faxSendPage).fax.lastFrame = s.fax.lastFrame ∧
    (s.faxSendPage).fax.checkOverloaded = s.fax.checkOverloaded ∧
    (s.faxSendPage).fax.markInQueue = s.fax.markInQueue ∧
    (s.faxSendPage).ports.system.outgoing = s.ports.system.outgoing ∧
    (s.faxSendPage).ports.system.digits = s.ports.system.digits ∧
    (s.faxSendPage).ports.system.transfer = s.ports.system.transfer ∧
    (s.faxSendPage).ports.panel.outgoing = s.ports.panel.outgoing ∧
    (s.faxSendPage).ports.panel.digits = s.ports.panel.digits ∧
    (s.faxSendPage).ports.panel.transfer = s.ports.panel.transfer ∧
    (s.faxSendPage).sys.ready = s.sys.ready ∧
    (s.faxSendPage).sys.rts = s.sys.rts ∧
    (s.faxSendPage).sys.rate = s.sys.rate ∧
    (s.faxSendPage).sys.notice = s.sys.notice ∧
    (s.faxSendPage).pan = s.pan := by
  unfold State.faxSendPage; try dsimp only
  repeat' split
  all_goals simp

@[simp] theorem State.faxSendPageEnd_keeps (s : State) (m : FaxMore) :
    (s.faxSendPageEnd m).ccu.line = s.ccu.line ∧
    (s.faxSendPageEnd m).ccu.call.active = s.ccu.call.active ∧
    (s.faxSendPageEnd m).ccu.call.number = s.ccu.call.number ∧
    (s.faxSendPageEnd m).ccu.call.direction = s.ccu.call.direction ∧
    (s.faxSendPageEnd m).ccu.call.holder = s.ccu.call.holder ∧
    (s.faxSendPageEnd m).ccu.call.job = s.ccu.call.job ∧
    (s.faxSendPageEnd m).ccu.call.dialList = s.ccu.call.dialList ∧
    (s.faxSendPageEnd m).ccu.call.farEndRinging = s.ccu.call.farEndRinging ∧
    (s.faxSendPageEnd m).ccu.call.callerStatus = s.ccu.call.callerStatus ∧
    (s.faxSendPageEnd m).ccu.call.callerNumber = s.ccu.call.callerNumber ∧
    (s.faxSendPageEnd m).ccu.call.callerName = s.ccu.call.callerName ∧
    (s.faxSendPageEnd m).ccu.call.ringPattern = s.ccu.call.ringPattern ∧
    (s.faxSendPageEnd m).ccu.call.ringCount = s.ccu.call.ringCount ∧
    (s.faxSendPageEnd m).ccu.call.startTime = s.ccu.call.startTime ∧
    (s.faxSendPageEnd m).ccu.call.linkedId = s.ccu.call.linkedId ∧
    (s.faxSendPageEnd m).ccu.call.rung = s.ccu.call.rung ∧
    (s.faxSendPageEnd m).ccu.call.lastQuality = s.ccu.call.lastQuality ∧
    (s.faxSendPageEnd m).ccu.call.seconds = s.ccu.call.seconds ∧
    (s.faxSendPageEnd m).ccu.call.cause = s.ccu.call.cause ∧
    (s.faxSendPageEnd m).ccu.dialler = s.ccu.dialler ∧
    (s.faxSendPageEnd m).ccu.lastNumber = s.ccu.lastNumber ∧
    (s.faxSendPageEnd m).ccu.ending = s.ccu.ending ∧
    (s.faxSendPageEnd m).ccu.blind = s.ccu.blind ∧
    (s.faxSendPageEnd m).ccu.claims = s.ccu.claims ∧
    (s.faxSendPageEnd m).ccu.history = s.ccu.history ∧
    (s.faxSendPageEnd m).lif = s.lif ∧
    (s.faxSendPageEnd m).timers.e0 = s.timers.e0 ∧
    (s.faxSendPageEnd m).timers.e1 = s.timers.e1 ∧
    (s.faxSendPageEnd m).timers.e3 = s.timers.e3 ∧
    (s.faxSendPageEnd m).timers.e4 = s.timers.e4 ∧
    (s.faxSendPageEnd m).timers.e5 = s.timers.e5 ∧
    (s.faxSendPageEnd m).timers.e6 = s.timers.e6 ∧
    (s.faxSendPageEnd m).timers.e7 = s.timers.e7 ∧
    (s.faxSendPageEnd m).tone = s.tone ∧
    (s.faxSendPageEnd m).rau = s.rau ∧
    (s.faxSendPageEnd m).level = s.level ∧
    (s.faxSendPageEnd m).pump = s.pump ∧
    (s.faxSendPageEnd m).link.mode = s.link.mode ∧
    (s.faxSendPageEnd m).link.paused = s.link.paused ∧
    (s.faxSendPageEnd m).link.attempts = s.link.attempts ∧
    (s.faxSendPageEnd m).link.windowSize = s.link.windowSize ∧
    (s.faxSendPageEnd m).link.payloadSize = s.link.payloadSize ∧
    (s.faxSendPageEnd m).link.vs = s.link.vs ∧
    (s.faxSendPageEnd m).link.window = s.link.window ∧
    (s.faxSendPageEnd m).link.resendMark = s.link.resendMark ∧
    (s.faxSendPageEnd m).link.retries = s.link.retries ∧
    (s.faxSendPageEnd m).link.peerBusy = s.link.peerBusy ∧
    (s.faxSendPageEnd m).link.vr = s.link.vr ∧
    (s.faxSendPageEnd m).link.rejectFlag = s.link.rejectFlag ∧
    (s.faxSendPageEnd m).link.ackOwed = s.link.ackOwed ∧
    (s.faxSendPageEnd m).link.busyAckOwed = s.link.busyAckOwed ∧
    (s.faxSendPageEnd m).link.ownBusy = s.link.ownBusy ∧
    (s.faxSendPageEnd m).link.rejectOwed = s.link.rejectOwed ∧
    (s.faxSendPageEnd m).link.clearOwed = s.link.clearOwed ∧
    (s.faxSendPageEnd m).link.reqDue = s.link.reqDue ∧
    (s.faxSendPageEnd m).link.confSetup = s.link.confSetup ∧
    (s.faxSendPageEnd m).link.confDue = s.link.confDue ∧
    (s.faxSendPageEnd m).link.peerOffer = s.link.peerOffer ∧
    (s.faxSendPageEnd m).link.byFarEnd = s.link.byFarEnd ∧
    (s.faxSendPageEnd m).link.policy = s.link.policy ∧
    (s.faxSendPageEnd m).link.offer = s.link.offer ∧
    (s.faxSendPageEnd m).link.stats = s.link.stats ∧
    (s.faxSendPageEnd m).link.outbound = s.link.outbound ∧
    (s.faxSendPageEnd m).link.inbound = s.link.inbound ∧
    (s.faxSendPageEnd m).fax.role = s.fax.role ∧
    (s.faxSendPageEnd m).fax.place = s.fax.place ∧
    (s.faxSendPageEnd m).fax.rung = s.fax.rung ∧
    (s.faxSendPageEnd m).fax.floor = s.fax.floor ∧
    (s.faxSendPageEnd m).fax.ceiling = s.fax.ceiling ∧
    (s.faxSendPageEnd m).fax.resolution = s.fax.resolution ∧
    (s.faxSendPageEnd m).fax.scanMs = s.fax.scanMs ∧
    (s.faxSendPageEnd m).fax.page = s.fax.page ∧
    (s.faxSendPageEnd m).fax.attempts = s.fax.attempts ∧
    (s.faxSendPageEnd m).fax.accepted = s.fax.accepted ∧
    (s.faxSendPageEnd m).fax.linkedId = s.fax.linkedId ∧
    (s.faxSendPageEnd m).fax.pageStart = s.fax.pageStart ∧
    (s.faxSendPageEnd m).fax.windows = s.fax.windows ∧
    (s.faxSendPageEnd m).fax.badWindows = s.fax.badWindows ∧
    (s.faxSendPageEnd m).fax.overflow = s.fax.overflow ∧
    (s.faxSendPageEnd m).fax.retries = s.fax.retries ∧
    (s.faxSendPageEnd m).fax.checkOverloaded = s.fax.checkOverloaded ∧
    (s.faxSendPageEnd m).fax.dataBegun = s.fax.dataBegun ∧
    (s.faxSendPageEnd m).fax.inPair = s.fax.inPair ∧
    (s.faxSendPageEnd m).fax.lineLength = s.fax.lineLength ∧
    (s.faxSendPageEnd m).fax.position = s.fax.position ∧
    (s.faxSendPageEnd m).fax.markOut = s.fax.markOut ∧
    (s.faxSendPageEnd m).fax.pageFromPort = s.fax.pageFromPort ∧
    (s.faxSendPageEnd m).fax.markSent = s.fax.markSent ∧
    (s.faxSendPageEnd m).fax.markInQueue = s.fax.markInQueue ∧
    (s.faxSendPageEnd m).fax.endAfter = s.fax.endAfter ∧
    (s.faxSendPageEnd m).fax.answered = s.fax.answered ∧
    (s.faxSendPageEnd m).voice = s.voice ∧
    (s.faxSendPageEnd m).store = s.store ∧
    (s.faxSendPageEnd m).ports = s.ports ∧
    (s.faxSendPageEnd m).sys = s.sys ∧
    (s.faxSendPageEnd m).pan = s.pan := by
  unfold State.faxSendPageEnd; try dsimp only
  repeat' split
  all_goals simp

@[simp] theorem State.faxMarkSent_keeps (s : State) :
    (s.faxMarkSent).ccu.line = s.ccu.line ∧
    (s.faxMarkSent).ccu.call.active = s.ccu.call.active ∧
    (s.faxMarkSent).ccu.call.number = s.ccu.call.number ∧
    (s.faxMarkSent).ccu.call.direction = s.ccu.call.direction ∧
    (s.faxMarkSent).ccu.call.holder = s.ccu.call.holder ∧
    (s.faxMarkSent).ccu.call.job = s.ccu.call.job ∧
    (s.faxMarkSent).ccu.call.dialList = s.ccu.call.dialList ∧
    (s.faxMarkSent).ccu.call.farEndRinging = s.ccu.call.farEndRinging ∧
    (s.faxMarkSent).ccu.call.callerStatus = s.ccu.call.callerStatus ∧
    (s.faxMarkSent).ccu.call.callerNumber = s.ccu.call.callerNumber ∧
    (s.faxMarkSent).ccu.call.callerName = s.ccu.call.callerName ∧
    (s.faxMarkSent).ccu.call.ringPattern = s.ccu.call.ringPattern ∧
    (s.faxMarkSent).ccu.call.ringCount = s.ccu.call.ringCount ∧
    (s.faxMarkSent).ccu.call.startTime = s.ccu.call.startTime ∧
    (s.faxMarkSent).ccu.call.linkedId = s.ccu.call.linkedId ∧
    (s.faxMarkSent).ccu.call.rung = s.ccu.call.rung ∧
    (s.faxMarkSent).ccu.call.lastQuality = s.ccu.call.lastQuality ∧
    (s.faxMarkSent).ccu.call.seconds = s.ccu.call.seconds ∧
    (s.faxMarkSent).ccu.call.cause = s.ccu.call.cause ∧
    (s.faxMarkSent).ccu.dialler = s.ccu.dialler ∧
    (s.faxMarkSent).ccu.lastNumber = s.ccu.lastNumber ∧
    (s.faxMarkSent).ccu.ending = s.ccu.ending ∧
    (s.faxMarkSent).ccu.blind = s.ccu.blind ∧
    (s.faxMarkSent).ccu.claims = s.ccu.claims ∧
    (s.faxMarkSent).ccu.history = s.ccu.history ∧
    (s.faxMarkSent).lif = s.lif ∧
    (s.faxMarkSent).timers.e0 = s.timers.e0 ∧
    (s.faxMarkSent).timers.e1 = s.timers.e1 ∧
    (s.faxMarkSent).timers.e3 = s.timers.e3 ∧
    (s.faxMarkSent).timers.e4 = s.timers.e4 ∧
    (s.faxMarkSent).timers.e5 = s.timers.e5 ∧
    (s.faxMarkSent).timers.e6 = s.timers.e6 ∧
    (s.faxMarkSent).timers.e7 = s.timers.e7 ∧
    (s.faxMarkSent).tone = s.tone ∧
    (s.faxMarkSent).rau = s.rau ∧
    (s.faxMarkSent).level = s.level ∧
    (s.faxMarkSent).pump.mode = s.pump.mode ∧
    (s.faxMarkSent).pump.role = s.pump.role ∧
    (s.faxMarkSent).pump.phase = s.pump.phase ∧
    (s.faxMarkSent).pump.localCeiling = s.pump.localCeiling ∧
    (s.faxMarkSent).pump.localFloor = s.pump.localFloor ∧
    (s.faxMarkSent).pump.peerMax = s.pump.peerMax ∧
    (s.faxMarkSent).pump.negCeiling = s.pump.negCeiling ∧
    (s.faxMarkSent).pump.negFloor = s.pump.negFloor ∧
    (s.faxMarkSent).pump.below = s.pump.below ∧
    (s.faxMarkSent).pump.above = s.pump.above ∧
    (s.faxMarkSent).pump.retrains = s.pump.retrains ∧
    (s.faxMarkSent).pump.linkStarted = s.pump.linkStarted ∧
    (s.faxMarkSent).pump.request = s.pump.request ∧
    (s.faxMarkSent).pump.answerTone = s.pump.answerTone ∧
    (s.faxMarkSent).pump.heardMax = s.pump.heardMax ∧
    (s.faxMarkSent).pump.heardAck = s.pump.heardAck ∧
    (s.faxMarkSent).pump.stage = s.pump.stage ∧
    (s.faxMarkSent).pump.ownAccept = s.pump.ownAccept ∧
    (s.faxMarkSent).pump.farAccept = s.pump.farAccept ∧
    (s.faxMarkSent).pump.confirmed = s.pump.confirmed ∧
    (s.faxMarkSent).link.mode = s.link.mode ∧
    (s.faxMarkSent).link.paused = s.link.paused ∧
    (s.faxMarkSent).link.attempts = s.link.attempts ∧
    (s.faxMarkSent).link.windowSize = s.link.windowSize ∧
    (s.faxMarkSent).link.payloadSize = s.link.payloadSize ∧
    (s.faxMarkSent).link.vs = s.link.vs ∧
    (s.faxMarkSent).link.window = s.link.window ∧
    (s.faxMarkSent).link.resendMark = s.link.resendMark ∧
    (s.faxMarkSent).link.retries = s.link.retries ∧
    (s.faxMarkSent).link.peerBusy = s.link.peerBusy ∧
    (s.faxMarkSent).link.vr = s.link.vr ∧
    (s.faxMarkSent).link.rejectFlag = s.link.rejectFlag ∧
    (s.faxMarkSent).link.ackOwed = s.link.ackOwed ∧
    (s.faxMarkSent).link.busyAckOwed = s.link.busyAckOwed ∧
    (s.faxMarkSent).link.ownBusy = s.link.ownBusy ∧
    (s.faxMarkSent).link.rejectOwed = s.link.rejectOwed ∧
    (s.faxMarkSent).link.clearOwed = s.link.clearOwed ∧
    (s.faxMarkSent).link.reqDue = s.link.reqDue ∧
    (s.faxMarkSent).link.confSetup = s.link.confSetup ∧
    (s.faxMarkSent).link.confDue = s.link.confDue ∧
    (s.faxMarkSent).link.peerOffer = s.link.peerOffer ∧
    (s.faxMarkSent).link.byFarEnd = s.link.byFarEnd ∧
    (s.faxMarkSent).link.policy = s.link.policy ∧
    (s.faxMarkSent).link.offer = s.link.offer ∧
    (s.faxMarkSent).link.stats = s.link.stats ∧
    (s.faxMarkSent).link.outbound = s.link.outbound ∧
    (s.faxMarkSent).link.inbound = s.link.inbound ∧
    (s.faxMarkSent).fax.role = s.fax.role ∧
    (s.faxMarkSent).fax.place = s.fax.place ∧
    (s.faxMarkSent).fax.rung = s.fax.rung ∧
    (s.faxMarkSent).fax.floor = s.fax.floor ∧
    (s.faxMarkSent).fax.ceiling = s.fax.ceiling ∧
    (s.faxMarkSent).fax.resolution = s.fax.resolution ∧
    (s.faxMarkSent).fax.scanMs = s.fax.scanMs ∧
    (s.faxMarkSent).fax.page = s.fax.page ∧
    (s.faxMarkSent).fax.attempts = s.fax.attempts ∧
    (s.faxMarkSent).fax.accepted = s.fax.accepted ∧
    (s.faxMarkSent).fax.linkedId = s.fax.linkedId ∧
    (s.faxMarkSent).fax.pageStart = s.fax.pageStart ∧
    (s.faxMarkSent).fax.windows = s.fax.windows ∧
    (s.faxMarkSent).fax.badWindows = s.fax.badWindows ∧
    (s.faxMarkSent).fax.overflow = s.fax.overflow ∧
    (s.faxMarkSent).fax.retries = s.fax.retries ∧
    (s.faxMarkSent).fax.checkOverloaded = s.fax.checkOverloaded ∧
    (s.faxMarkSent).fax.dataBegun = s.fax.dataBegun ∧
    (s.faxMarkSent).fax.inPair = s.fax.inPair ∧
    (s.faxMarkSent).fax.lineLength = s.fax.lineLength ∧
    (s.faxMarkSent).fax.position = s.fax.position ∧
    (s.faxMarkSent).fax.pageFromPort = s.fax.pageFromPort ∧
    (s.faxMarkSent).fax.markInQueue = s.fax.markInQueue ∧
    (s.faxMarkSent).fax.endAfter = s.fax.endAfter ∧
    (s.faxMarkSent).fax.answered = s.fax.answered ∧
    (s.faxMarkSent).voice = s.voice ∧
    (s.faxMarkSent).store = s.store ∧
    (s.faxMarkSent).ports = s.ports ∧
    (s.faxMarkSent).sys = s.sys ∧
    (s.faxMarkSent).pan = s.pan := by
  unfold State.faxMarkSent; try dsimp only
  repeat' split
  all_goals simp

@[simp] theorem State.faxTakeByte_keeps (s : State) (b : Byte) :
    (s.faxTakeByte b).ccu = s.ccu ∧
    (s.faxTakeByte b).lif = s.lif ∧
    (s.faxTakeByte b).timers = s.timers ∧
    (s.faxTakeByte b).tone = s.tone ∧
    (s.faxTakeByte b).rau = s.rau ∧
    (s.faxTakeByte b).level = s.level ∧
    (s.faxTakeByte b).pump = s.pump ∧
    (s.faxTakeByte b).link.mode = s.link.mode ∧
    (s.faxTakeByte b).link.paused = s.link.paused ∧
    (s.faxTakeByte b).link.attempts = s.link.attempts ∧
    (s.faxTakeByte b).link.windowSize = s.link.windowSize ∧
    (s.faxTakeByte b).link.payloadSize = s.link.payloadSize ∧
    (s.faxTakeByte b).link.vs = s.link.vs ∧
    (s.faxTakeByte b).link.window = s.link.window ∧
    (s.faxTakeByte b).link.resendMark = s.link.resendMark ∧
    (s.faxTakeByte b).link.retries = s.link.retries ∧
    (s.faxTakeByte b).link.peerBusy = s.link.peerBusy ∧
    (s.faxTakeByte b).link.vr = s.link.vr ∧
    (s.faxTakeByte b).link.rejectFlag = s.link.rejectFlag ∧
    (s.faxTakeByte b).link.ackOwed = s.link.ackOwed ∧
    (s.faxTakeByte b).link.busyAckOwed = s.link.busyAckOwed ∧
    (s.faxTakeByte b).link.ownBusy = s.link.ownBusy ∧
    (s.faxTakeByte b).link.rejectOwed = s.link.rejectOwed ∧
    (s.faxTakeByte b).link.clearOwed = s.link.clearOwed ∧
    (s.faxTakeByte b).link.reqDue = s.link.reqDue ∧
    (s.faxTakeByte b).link.confSetup = s.link.confSetup ∧
    (s.faxTakeByte b).link.confDue = s.link.confDue ∧
    (s.faxTakeByte b).link.peerOffer = s.link.peerOffer ∧
    (s.faxTakeByte b).link.byFarEnd = s.link.byFarEnd ∧
    (s.faxTakeByte b).link.policy = s.link.policy ∧
    (s.faxTakeByte b).link.offer = s.link.offer ∧
    (s.faxTakeByte b).link.stats = s.link.stats ∧
    (s.faxTakeByte b).link.inbound = s.link.inbound ∧
    (s.faxTakeByte b).fax.role = s.fax.role ∧
    (s.faxTakeByte b).fax.place = s.fax.place ∧
    (s.faxTakeByte b).fax.phase = s.fax.phase ∧
    (s.faxTakeByte b).fax.rung = s.fax.rung ∧
    (s.faxTakeByte b).fax.floor = s.fax.floor ∧
    (s.faxTakeByte b).fax.ceiling = s.fax.ceiling ∧
    (s.faxTakeByte b).fax.resolution = s.fax.resolution ∧
    (s.faxTakeByte b).fax.scanMs = s.fax.scanMs ∧
    (s.faxTakeByte b).fax.page = s.fax.page ∧
    (s.faxTakeByte b).fax.attempts = s.fax.attempts ∧
    (s.faxTakeByte b).fax.accepted = s.fax.accepted ∧
    (s.faxTakeByte b).fax.linkedId = s.fax.linkedId ∧
    (s.faxTakeByte b).fax.pageStart = s.fax.pageStart ∧
    (s.faxTakeByte b).fax.windows = s.fax.windows ∧
    (s.faxTakeByte b).fax.badWindows = s.fax.badWindows ∧
    (s.faxTakeByte b).fax.overflow = s.fax.overflow ∧
    (s.faxTakeByte b).fax.retries = s.fax.retries ∧
    (s.faxTakeByte b).fax.lastFrame = s.fax.lastFrame ∧
    (s.faxTakeByte b).fax.more = s.fax.more ∧
    (s.faxTakeByte b).fax.expect = s.fax.expect ∧
    (s.faxTakeByte b).fax.checkSending = s.fax.checkSending ∧
    (s.faxTakeByte b).fax.checkOverloaded = s.fax.checkOverloaded ∧
    (s.faxTakeByte b).fax.dataBegun = s.fax.dataBegun ∧
    (s.faxTakeByte b).fax.inPair = s.fax.inPair ∧
    (s.faxTakeByte b).fax.markOut = s.fax.markOut ∧
    (s.faxTakeByte b).fax.pageFromPort = s.fax.pageFromPort ∧
    (s.faxTakeByte b).fax.markSent = s.fax.markSent ∧
    (s.faxTakeByte b).fax.markInQueue = s.fax.markInQueue ∧
    (s.faxTakeByte b).fax.endAfter = s.fax.endAfter ∧
    (s.faxTakeByte b).fax.unsent = s.fax.unsent ∧
    (s.faxTakeByte b).fax.answered = s.fax.answered ∧
    (s.faxTakeByte b).voice = s.voice ∧
    (s.faxTakeByte b).store = s.store ∧
    (s.faxTakeByte b).ports = s.ports ∧
    (s.faxTakeByte b).sys.data = s.sys.data ∧
    (s.faxTakeByte b).sys.entryDue = s.sys.entryDue ∧
    (s.faxTakeByte b).sys.goDataDue = s.sys.goDataDue ∧
    (s.faxTakeByte b).sys.ready = s.sys.ready ∧
    (s.faxTakeByte b).sys.rts = s.sys.rts ∧
    (s.faxTakeByte b).sys.lastByte = s.sys.lastByte ∧
    (s.faxTakeByte b).sys.rate = s.sys.rate ∧
    (s.faxTakeByte b).sys.notice = s.sys.notice ∧
    (s.faxTakeByte b).sys.escape = s.sys.escape ∧
    (s.faxTakeByte b).pan = s.pan := by
  unfold State.faxTakeByte; try dsimp only
  repeat' split
  all_goals simp

@[simp] theorem State.faxLineSent_keeps (s : State) :
    (s.faxLineSent).ccu.line = s.ccu.line ∧
    (s.faxLineSent).ccu.call = s.ccu.call ∧
    (s.faxLineSent).ccu.dialler = s.ccu.dialler ∧
    (s.faxLineSent).ccu.lastNumber = s.ccu.lastNumber ∧
    (s.faxLineSent).ccu.ending = s.ccu.ending ∧
    (s.faxLineSent).ccu.blind = s.ccu.blind ∧
    (s.faxLineSent).ccu.claims = s.ccu.claims ∧
    (s.faxLineSent).ccu.history = s.ccu.history ∧
    (s.faxLineSent).lif = s.lif ∧
    (s.faxLineSent).timers.e0 = s.timers.e0 ∧
    (s.faxLineSent).timers.e1 = s.timers.e1 ∧
    (s.faxLineSent).timers.e3 = s.timers.e3 ∧
    (s.faxLineSent).timers.e4 = s.timers.e4 ∧
    (s.faxLineSent).timers.e5 = s.timers.e5 ∧
    (s.faxLineSent).timers.e6 = s.timers.e6 ∧
    (s.faxLineSent).timers.e7 = s.timers.e7 ∧
    (s.faxLineSent).tone = s.tone ∧
    (s.faxLineSent).rau = s.rau ∧
    (s.faxLineSent).level = s.level ∧
    (s.faxLineSent).pump = s.pump ∧
    (s.faxLineSent).link = s.link ∧
    (s.faxLineSent).fax.role = s.fax.role ∧
    (s.faxLineSent).fax.place = s.fax.place ∧
    (s.faxLineSent).fax.phase = s.fax.phase ∧
    (s.faxLineSent).fax.rung = s.fax.rung ∧
    (s.faxLineSent).fax.floor = s.fax.floor ∧
    (s.faxLineSent).fax.ceiling = s.fax.ceiling ∧
    (s.faxLineSent).fax.resolution = s.fax.resolution ∧
    (s.faxLineSent).fax.scanMs = s.fax.scanMs ∧
    (s.faxLineSent).fax.page = s.fax.page ∧
    (s.faxLineSent).fax.attempts = s.fax.attempts ∧
    (s.faxLineSent).fax.accepted = s.fax.accepted ∧
    (s.faxLineSent).fax.linkedId = s.fax.linkedId ∧
    (s.faxLineSent).fax.pageStart = s.fax.pageStart ∧
    (s.faxLineSent).fax.windows = s.fax.windows ∧
    (s.faxLineSent).fax.badWindows = s.fax.badWindows ∧
    (s.faxLineSent).fax.overflow = s.fax.overflow ∧
    (s.faxLineSent).fax.retries = s.fax.retries ∧
    (s.faxLineSent).fax.lastFrame = s.fax.lastFrame ∧
    (s.faxLineSent).fax.more = s.fax.more ∧
    (s.faxLineSent).fax.expect = s.fax.expect ∧
    (s.faxLineSent).fax.checkSending = s.fax.checkSending ∧
    (s.faxLineSent).fax.checkOverloaded = s.fax.checkOverloaded ∧
    (s.faxLineSent).fax.dataBegun = s.fax.dataBegun ∧
    (s.faxLineSent).fax.inPair = s.fax.inPair ∧
    (s.faxLineSent).fax.position = s.fax.position ∧
    (s.faxLineSent).fax.markOut = s.fax.markOut ∧
    (s.faxLineSent).fax.pageFromPort = s.fax.pageFromPort ∧
    (s.faxLineSent).fax.markSent = s.fax.markSent ∧
    (s.faxLineSent).fax.markInQueue = s.fax.markInQueue ∧
    (s.faxLineSent).fax.endAfter = s.fax.endAfter ∧
    (s.faxLineSent).fax.unsent = s.fax.unsent ∧
    (s.faxLineSent).fax.answered = s.fax.answered ∧
    (s.faxLineSent).voice = s.voice ∧
    (s.faxLineSent).store = s.store ∧
    (s.faxLineSent).ports = s.ports ∧
    (s.faxLineSent).sys = s.sys ∧
    (s.faxLineSent).pan = s.pan := by
  unfold State.faxLineSent; try dsimp only
  repeat' split
  all_goals simp

@[simp] theorem State.faxSendSecond_keeps (s : State) (b : Byte) :
    (s.faxSendSecond b).ccu.line = s.ccu.line ∧
    (s.faxSendSecond b).ccu.call.active = s.ccu.call.active ∧
    (s.faxSendSecond b).ccu.call.number = s.ccu.call.number ∧
    (s.faxSendSecond b).ccu.call.direction = s.ccu.call.direction ∧
    (s.faxSendSecond b).ccu.call.holder = s.ccu.call.holder ∧
    (s.faxSendSecond b).ccu.call.job = s.ccu.call.job ∧
    (s.faxSendSecond b).ccu.call.dialList = s.ccu.call.dialList ∧
    (s.faxSendSecond b).ccu.call.farEndRinging = s.ccu.call.farEndRinging ∧
    (s.faxSendSecond b).ccu.call.callerStatus = s.ccu.call.callerStatus ∧
    (s.faxSendSecond b).ccu.call.callerNumber = s.ccu.call.callerNumber ∧
    (s.faxSendSecond b).ccu.call.callerName = s.ccu.call.callerName ∧
    (s.faxSendSecond b).ccu.call.ringPattern = s.ccu.call.ringPattern ∧
    (s.faxSendSecond b).ccu.call.ringCount = s.ccu.call.ringCount ∧
    (s.faxSendSecond b).ccu.call.startTime = s.ccu.call.startTime ∧
    (s.faxSendSecond b).ccu.call.linkedId = s.ccu.call.linkedId ∧
    (s.faxSendSecond b).ccu.call.rung = s.ccu.call.rung ∧
    (s.faxSendSecond b).ccu.call.lastQuality = s.ccu.call.lastQuality ∧
    (s.faxSendSecond b).ccu.call.seconds = s.ccu.call.seconds ∧
    (s.faxSendSecond b).ccu.call.cause = s.ccu.call.cause ∧
    (s.faxSendSecond b).ccu.dialler = s.ccu.dialler ∧
    (s.faxSendSecond b).ccu.lastNumber = s.ccu.lastNumber ∧
    (s.faxSendSecond b).ccu.ending = s.ccu.ending ∧
    (s.faxSendSecond b).ccu.blind = s.ccu.blind ∧
    (s.faxSendSecond b).ccu.claims = s.ccu.claims ∧
    (s.faxSendSecond b).ccu.history = s.ccu.history ∧
    (s.faxSendSecond b).lif = s.lif ∧
    (s.faxSendSecond b).timers.e0 = s.timers.e0 ∧
    (s.faxSendSecond b).timers.e1 = s.timers.e1 ∧
    (s.faxSendSecond b).timers.e3 = s.timers.e3 ∧
    (s.faxSendSecond b).timers.e4 = s.timers.e4 ∧
    (s.faxSendSecond b).timers.e5 = s.timers.e5 ∧
    (s.faxSendSecond b).timers.e6 = s.timers.e6 ∧
    (s.faxSendSecond b).timers.e7 = s.timers.e7 ∧
    (s.faxSendSecond b).tone = s.tone ∧
    (s.faxSendSecond b).rau = s.rau ∧
    (s.faxSendSecond b).level = s.level ∧
    (s.faxSendSecond b).pump.mode = s.pump.mode ∧
    (s.faxSendSecond b).pump.role = s.pump.role ∧
    (s.faxSendSecond b).pump.phase = s.pump.phase ∧
    (s.faxSendSecond b).pump.localCeiling = s.pump.localCeiling ∧
    (s.faxSendSecond b).pump.localFloor = s.pump.localFloor ∧
    (s.faxSendSecond b).pump.peerMax = s.pump.peerMax ∧
    (s.faxSendSecond b).pump.negCeiling = s.pump.negCeiling ∧
    (s.faxSendSecond b).pump.negFloor = s.pump.negFloor ∧
    (s.faxSendSecond b).pump.below = s.pump.below ∧
    (s.faxSendSecond b).pump.above = s.pump.above ∧
    (s.faxSendSecond b).pump.retrains = s.pump.retrains ∧
    (s.faxSendSecond b).pump.linkStarted = s.pump.linkStarted ∧
    (s.faxSendSecond b).pump.request = s.pump.request ∧
    (s.faxSendSecond b).pump.answerTone = s.pump.answerTone ∧
    (s.faxSendSecond b).pump.heardMax = s.pump.heardMax ∧
    (s.faxSendSecond b).pump.heardAck = s.pump.heardAck ∧
    (s.faxSendSecond b).pump.stage = s.pump.stage ∧
    (s.faxSendSecond b).pump.ownAccept = s.pump.ownAccept ∧
    (s.faxSendSecond b).pump.farAccept = s.pump.farAccept ∧
    (s.faxSendSecond b).pump.confirmed = s.pump.confirmed ∧
    (s.faxSendSecond b).link.mode = s.link.mode ∧
    (s.faxSendSecond b).link.paused = s.link.paused ∧
    (s.faxSendSecond b).link.attempts = s.link.attempts ∧
    (s.faxSendSecond b).link.windowSize = s.link.windowSize ∧
    (s.faxSendSecond b).link.payloadSize = s.link.payloadSize ∧
    (s.faxSendSecond b).link.vs = s.link.vs ∧
    (s.faxSendSecond b).link.window = s.link.window ∧
    (s.faxSendSecond b).link.resendMark = s.link.resendMark ∧
    (s.faxSendSecond b).link.retries = s.link.retries ∧
    (s.faxSendSecond b).link.peerBusy = s.link.peerBusy ∧
    (s.faxSendSecond b).link.vr = s.link.vr ∧
    (s.faxSendSecond b).link.rejectFlag = s.link.rejectFlag ∧
    (s.faxSendSecond b).link.ackOwed = s.link.ackOwed ∧
    (s.faxSendSecond b).link.busyAckOwed = s.link.busyAckOwed ∧
    (s.faxSendSecond b).link.ownBusy = s.link.ownBusy ∧
    (s.faxSendSecond b).link.rejectOwed = s.link.rejectOwed ∧
    (s.faxSendSecond b).link.clearOwed = s.link.clearOwed ∧
    (s.faxSendSecond b).link.reqDue = s.link.reqDue ∧
    (s.faxSendSecond b).link.confSetup = s.link.confSetup ∧
    (s.faxSendSecond b).link.confDue = s.link.confDue ∧
    (s.faxSendSecond b).link.peerOffer = s.link.peerOffer ∧
    (s.faxSendSecond b).link.byFarEnd = s.link.byFarEnd ∧
    (s.faxSendSecond b).link.policy = s.link.policy ∧
    (s.faxSendSecond b).link.offer = s.link.offer ∧
    (s.faxSendSecond b).link.stats = s.link.stats ∧
    (s.faxSendSecond b).link.inbound = s.link.inbound ∧
    (s.faxSendSecond b).fax.role = s.fax.role ∧
    (s.faxSendSecond b).fax.place = s.fax.place ∧
    (s.faxSendSecond b).fax.rung = s.fax.rung ∧
    (s.faxSendSecond b).fax.floor = s.fax.floor ∧
    (s.faxSendSecond b).fax.ceiling = s.fax.ceiling ∧
    (s.faxSendSecond b).fax.resolution = s.fax.resolution ∧
    (s.faxSendSecond b).fax.scanMs = s.fax.scanMs ∧
    (s.faxSendSecond b).fax.page = s.fax.page ∧
    (s.faxSendSecond b).fax.attempts = s.fax.attempts ∧
    (s.faxSendSecond b).fax.accepted = s.fax.accepted ∧
    (s.faxSendSecond b).fax.linkedId = s.fax.linkedId ∧
    (s.faxSendSecond b).fax.pageStart = s.fax.pageStart ∧
    (s.faxSendSecond b).fax.windows = s.fax.windows ∧
    (s.faxSendSecond b).fax.badWindows = s.fax.badWindows ∧
    (s.faxSendSecond b).fax.overflow = s.fax.overflow ∧
    (s.faxSendSecond b).fax.retries = s.fax.retries ∧
    (s.faxSendSecond b).fax.checkSending = s.fax.checkSending ∧
    (s.faxSendSecond b).fax.checkOverloaded = s.fax.checkOverloaded ∧
    (s.faxSendSecond b).fax.dataBegun = s.fax.dataBegun ∧
    (s.faxSendSecond b).fax.pageFromPort = s.fax.pageFromPort ∧
    (s.faxSendSecond b).fax.markInQueue = s.fax.markInQueue ∧
    (s.faxSendSecond b).fax.endAfter = s.fax.endAfter ∧
    (s.faxSendSecond b).fax.unsent = s.fax.unsent ∧
    (s.faxSendSecond b).fax.answered = s.fax.answered ∧
    (s.faxSendSecond b).voice = s.voice ∧
    (s.faxSendSecond b).store = s.store ∧
    (s.faxSendSecond b).ports = s.ports ∧
    (s.faxSendSecond b).sys.data = s.sys.data ∧
    (s.faxSendSecond b).sys.entryDue = s.sys.entryDue ∧
    (s.faxSendSecond b).sys.goDataDue = s.sys.goDataDue ∧
    (s.faxSendSecond b).sys.ready = s.sys.ready ∧
    (s.faxSendSecond b).sys.rts = s.sys.rts ∧
    (s.faxSendSecond b).sys.rate = s.sys.rate ∧
    (s.faxSendSecond b).sys.notice = s.sys.notice ∧
    (s.faxSendSecond b).sys.escape = s.sys.escape ∧
    (s.faxSendSecond b).pan = s.pan := by
  unfold State.faxSendSecond; try dsimp only
  repeat' split
  all_goals simp

@[simp] theorem State.faxSendFirst_keeps (s : State) (b : Byte) (next : Option Byte) :
    (s.faxSendFirst b next).ccu = s.ccu ∧
    (s.faxSendFirst b next).lif = s.lif ∧
    (s.faxSendFirst b next).timers = s.timers ∧
    (s.faxSendFirst b next).tone = s.tone ∧
    (s.faxSendFirst b next).rau = s.rau ∧
    (s.faxSendFirst b next).level = s.level ∧
    (s.faxSendFirst b next).pump = s.pump ∧
    (s.faxSendFirst b next).link.mode = s.link.mode ∧
    (s.faxSendFirst b next).link.paused = s.link.paused ∧
    (s.faxSendFirst b next).link.attempts = s.link.attempts ∧
    (s.faxSendFirst b next).link.windowSize = s.link.windowSize ∧
    (s.faxSendFirst b next).link.payloadSize = s.link.payloadSize ∧
    (s.faxSendFirst b next).link.vs = s.link.vs ∧
    (s.faxSendFirst b next).link.window = s.link.window ∧
    (s.faxSendFirst b next).link.resendMark = s.link.resendMark ∧
    (s.faxSendFirst b next).link.retries = s.link.retries ∧
    (s.faxSendFirst b next).link.peerBusy = s.link.peerBusy ∧
    (s.faxSendFirst b next).link.vr = s.link.vr ∧
    (s.faxSendFirst b next).link.rejectFlag = s.link.rejectFlag ∧
    (s.faxSendFirst b next).link.ackOwed = s.link.ackOwed ∧
    (s.faxSendFirst b next).link.busyAckOwed = s.link.busyAckOwed ∧
    (s.faxSendFirst b next).link.ownBusy = s.link.ownBusy ∧
    (s.faxSendFirst b next).link.rejectOwed = s.link.rejectOwed ∧
    (s.faxSendFirst b next).link.clearOwed = s.link.clearOwed ∧
    (s.faxSendFirst b next).link.reqDue = s.link.reqDue ∧
    (s.faxSendFirst b next).link.confSetup = s.link.confSetup ∧
    (s.faxSendFirst b next).link.confDue = s.link.confDue ∧
    (s.faxSendFirst b next).link.peerOffer = s.link.peerOffer ∧
    (s.faxSendFirst b next).link.byFarEnd = s.link.byFarEnd ∧
    (s.faxSendFirst b next).link.policy = s.link.policy ∧
    (s.faxSendFirst b next).link.offer = s.link.offer ∧
    (s.faxSendFirst b next).link.stats = s.link.stats ∧
    (s.faxSendFirst b next).link.inbound = s.link.inbound ∧
    (s.faxSendFirst b next).fax.role = s.fax.role ∧
    (s.faxSendFirst b next).fax.place = s.fax.place ∧
    (s.faxSendFirst b next).fax.phase = s.fax.phase ∧
    (s.faxSendFirst b next).fax.rung = s.fax.rung ∧
    (s.faxSendFirst b next).fax.floor = s.fax.floor ∧
    (s.faxSendFirst b next).fax.ceiling = s.fax.ceiling ∧
    (s.faxSendFirst b next).fax.resolution = s.fax.resolution ∧
    (s.faxSendFirst b next).fax.scanMs = s.fax.scanMs ∧
    (s.faxSendFirst b next).fax.page = s.fax.page ∧
    (s.faxSendFirst b next).fax.attempts = s.fax.attempts ∧
    (s.faxSendFirst b next).fax.accepted = s.fax.accepted ∧
    (s.faxSendFirst b next).fax.linkedId = s.fax.linkedId ∧
    (s.faxSendFirst b next).fax.pageStart = s.fax.pageStart ∧
    (s.faxSendFirst b next).fax.windows = s.fax.windows ∧
    (s.faxSendFirst b next).fax.badWindows = s.fax.badWindows ∧
    (s.faxSendFirst b next).fax.overflow = s.fax.overflow ∧
    (s.faxSendFirst b next).fax.retries = s.fax.retries ∧
    (s.faxSendFirst b next).fax.lastFrame = s.fax.lastFrame ∧
    (s.faxSendFirst b next).fax.more = s.fax.more ∧
    (s.faxSendFirst b next).fax.expect = s.fax.expect ∧
    (s.faxSendFirst b next).fax.checkSending = s.fax.checkSending ∧
    (s.faxSendFirst b next).fax.checkOverloaded = s.fax.checkOverloaded ∧
    (s.faxSendFirst b next).fax.dataBegun = s.fax.dataBegun ∧
    (s.faxSendFirst b next).fax.markOut = s.fax.markOut ∧
    (s.faxSendFirst b next).fax.pageFromPort = s.fax.pageFromPort ∧
    (s.faxSendFirst b next).fax.markSent = s.fax.markSent ∧
    (s.faxSendFirst b next).fax.markInQueue = s.fax.markInQueue ∧
    (s.faxSendFirst b next).fax.endAfter = s.fax.endAfter ∧
    (s.faxSendFirst b next).fax.unsent = s.fax.unsent ∧
    (s.faxSendFirst b next).fax.answered = s.fax.answered ∧
    (s.faxSendFirst b next).voice = s.voice ∧
    (s.faxSendFirst b next).store = s.store ∧
    (s.faxSendFirst b next).ports = s.ports ∧
    (s.faxSendFirst b next).sys.data = s.sys.data ∧
    (s.faxSendFirst b next).sys.entryDue = s.sys.entryDue ∧
    (s.faxSendFirst b next).sys.goDataDue = s.sys.goDataDue ∧
    (s.faxSendFirst b next).sys.ready = s.sys.ready ∧
    (s.faxSendFirst b next).sys.rts = s.sys.rts ∧
    (s.faxSendFirst b next).sys.lastByte = s.sys.lastByte ∧
    (s.faxSendFirst b next).sys.rate = s.sys.rate ∧
    (s.faxSendFirst b next).sys.notice = s.sys.notice ∧
    (s.faxSendFirst b next).sys.escape = s.sys.escape ∧
    (s.faxSendFirst b next).pan = s.pan := by
  unfold State.faxSendFirst; try dsimp only
  repeat' split
  all_goals simp

@[simp] theorem State.faxSendByte_keeps (s : State) :
    (s.faxSendByte).ccu.line = s.ccu.line ∧
    (s.faxSendByte).ccu.call.active = s.ccu.call.active ∧
    (s.faxSendByte).ccu.call.number = s.ccu.call.number ∧
    (s.faxSendByte).ccu.call.direction = s.ccu.call.direction ∧
    (s.faxSendByte).ccu.call.holder = s.ccu.call.holder ∧
    (s.faxSendByte).ccu.call.job = s.ccu.call.job ∧
    (s.faxSendByte).ccu.call.dialList = s.ccu.call.dialList ∧
    (s.faxSendByte).ccu.call.farEndRinging = s.ccu.call.farEndRinging ∧
    (s.faxSendByte).ccu.call.callerStatus = s.ccu.call.callerStatus ∧
    (s.faxSendByte).ccu.call.callerNumber = s.ccu.call.callerNumber ∧
    (s.faxSendByte).ccu.call.callerName = s.ccu.call.callerName ∧
    (s.faxSendByte).ccu.call.ringPattern = s.ccu.call.ringPattern ∧
    (s.faxSendByte).ccu.call.ringCount = s.ccu.call.ringCount ∧
    (s.faxSendByte).ccu.call.startTime = s.ccu.call.startTime ∧
    (s.faxSendByte).ccu.call.linkedId = s.ccu.call.linkedId ∧
    (s.faxSendByte).ccu.call.rung = s.ccu.call.rung ∧
    (s.faxSendByte).ccu.call.lastQuality = s.ccu.call.lastQuality ∧
    (s.faxSendByte).ccu.call.seconds = s.ccu.call.seconds ∧
    (s.faxSendByte).ccu.call.cause = s.ccu.call.cause ∧
    (s.faxSendByte).ccu.dialler = s.ccu.dialler ∧
    (s.faxSendByte).ccu.lastNumber = s.ccu.lastNumber ∧
    (s.faxSendByte).ccu.ending = s.ccu.ending ∧
    (s.faxSendByte).ccu.blind = s.ccu.blind ∧
    (s.faxSendByte).ccu.claims = s.ccu.claims ∧
    (s.faxSendByte).ccu.history = s.ccu.history ∧
    (s.faxSendByte).lif = s.lif ∧
    (s.faxSendByte).timers.e0 = s.timers.e0 ∧
    (s.faxSendByte).timers.e1 = s.timers.e1 ∧
    (s.faxSendByte).timers.e3 = s.timers.e3 ∧
    (s.faxSendByte).timers.e4 = s.timers.e4 ∧
    (s.faxSendByte).timers.e5 = s.timers.e5 ∧
    (s.faxSendByte).timers.e6 = s.timers.e6 ∧
    (s.faxSendByte).timers.e7 = s.timers.e7 ∧
    (s.faxSendByte).tone = s.tone ∧
    (s.faxSendByte).rau = s.rau ∧
    (s.faxSendByte).level = s.level ∧
    (s.faxSendByte).pump.mode = s.pump.mode ∧
    (s.faxSendByte).pump.role = s.pump.role ∧
    (s.faxSendByte).pump.phase = s.pump.phase ∧
    (s.faxSendByte).pump.localCeiling = s.pump.localCeiling ∧
    (s.faxSendByte).pump.localFloor = s.pump.localFloor ∧
    (s.faxSendByte).pump.peerMax = s.pump.peerMax ∧
    (s.faxSendByte).pump.negCeiling = s.pump.negCeiling ∧
    (s.faxSendByte).pump.negFloor = s.pump.negFloor ∧
    (s.faxSendByte).pump.below = s.pump.below ∧
    (s.faxSendByte).pump.above = s.pump.above ∧
    (s.faxSendByte).pump.retrains = s.pump.retrains ∧
    (s.faxSendByte).pump.linkStarted = s.pump.linkStarted ∧
    (s.faxSendByte).pump.request = s.pump.request ∧
    (s.faxSendByte).pump.answerTone = s.pump.answerTone ∧
    (s.faxSendByte).pump.heardMax = s.pump.heardMax ∧
    (s.faxSendByte).pump.heardAck = s.pump.heardAck ∧
    (s.faxSendByte).pump.stage = s.pump.stage ∧
    (s.faxSendByte).pump.ownAccept = s.pump.ownAccept ∧
    (s.faxSendByte).pump.farAccept = s.pump.farAccept ∧
    (s.faxSendByte).pump.confirmed = s.pump.confirmed ∧
    (s.faxSendByte).link.mode = s.link.mode ∧
    (s.faxSendByte).link.paused = s.link.paused ∧
    (s.faxSendByte).link.attempts = s.link.attempts ∧
    (s.faxSendByte).link.windowSize = s.link.windowSize ∧
    (s.faxSendByte).link.payloadSize = s.link.payloadSize ∧
    (s.faxSendByte).link.vs = s.link.vs ∧
    (s.faxSendByte).link.window = s.link.window ∧
    (s.faxSendByte).link.resendMark = s.link.resendMark ∧
    (s.faxSendByte).link.retries = s.link.retries ∧
    (s.faxSendByte).link.peerBusy = s.link.peerBusy ∧
    (s.faxSendByte).link.vr = s.link.vr ∧
    (s.faxSendByte).link.rejectFlag = s.link.rejectFlag ∧
    (s.faxSendByte).link.ackOwed = s.link.ackOwed ∧
    (s.faxSendByte).link.busyAckOwed = s.link.busyAckOwed ∧
    (s.faxSendByte).link.ownBusy = s.link.ownBusy ∧
    (s.faxSendByte).link.rejectOwed = s.link.rejectOwed ∧
    (s.faxSendByte).link.clearOwed = s.link.clearOwed ∧
    (s.faxSendByte).link.reqDue = s.link.reqDue ∧
    (s.faxSendByte).link.confSetup = s.link.confSetup ∧
    (s.faxSendByte).link.confDue = s.link.confDue ∧
    (s.faxSendByte).link.peerOffer = s.link.peerOffer ∧
    (s.faxSendByte).link.byFarEnd = s.link.byFarEnd ∧
    (s.faxSendByte).link.policy = s.link.policy ∧
    (s.faxSendByte).link.offer = s.link.offer ∧
    (s.faxSendByte).link.stats = s.link.stats ∧
    (s.faxSendByte).link.inbound = s.link.inbound ∧
    (s.faxSendByte).fax.role = s.fax.role ∧
    (s.faxSendByte).fax.place = s.fax.place ∧
    (s.faxSendByte).fax.rung = s.fax.rung ∧
    (s.faxSendByte).fax.floor = s.fax.floor ∧
    (s.faxSendByte).fax.ceiling = s.fax.ceiling ∧
    (s.faxSendByte).fax.resolution = s.fax.resolution ∧
    (s.faxSendByte).fax.scanMs = s.fax.scanMs ∧
    (s.faxSendByte).fax.page = s.fax.page ∧
    (s.faxSendByte).fax.attempts = s.fax.attempts ∧
    (s.faxSendByte).fax.accepted = s.fax.accepted ∧
    (s.faxSendByte).fax.linkedId = s.fax.linkedId ∧
    (s.faxSendByte).fax.pageStart = s.fax.pageStart ∧
    (s.faxSendByte).fax.windows = s.fax.windows ∧
    (s.faxSendByte).fax.badWindows = s.fax.badWindows ∧
    (s.faxSendByte).fax.overflow = s.fax.overflow ∧
    (s.faxSendByte).fax.retries = s.fax.retries ∧
    (s.faxSendByte).fax.checkOverloaded = s.fax.checkOverloaded ∧
    (s.faxSendByte).fax.dataBegun = s.fax.dataBegun ∧
    (s.faxSendByte).fax.pageFromPort = s.fax.pageFromPort ∧
    (s.faxSendByte).fax.markInQueue = s.fax.markInQueue ∧
    (s.faxSendByte).fax.endAfter = s.fax.endAfter ∧
    (s.faxSendByte).fax.answered = s.fax.answered ∧
    (s.faxSendByte).voice = s.voice ∧
    (s.faxSendByte).store = s.store ∧
    (s.faxSendByte).ports = s.ports ∧
    (s.faxSendByte).sys.data = s.sys.data ∧
    (s.faxSendByte).sys.entryDue = s.sys.entryDue ∧
    (s.faxSendByte).sys.goDataDue = s.sys.goDataDue ∧
    (s.faxSendByte).sys.ready = s.sys.ready ∧
    (s.faxSendByte).sys.rts = s.sys.rts ∧
    (s.faxSendByte).sys.rate = s.sys.rate ∧
    (s.faxSendByte).sys.notice = s.sys.notice ∧
    (s.faxSendByte).sys.escape = s.sys.escape ∧
    (s.faxSendByte).pan = s.pan := by
  unfold State.faxSendByte; try dsimp only
  repeat' split
  all_goals simp

@[simp] theorem State.joinOutbound_keeps (s : State) (b : Byte) :
    ((s.joinOutbound b).1).ccu = s.ccu ∧
    ((s.joinOutbound b).1).lif = s.lif ∧
    ((s.joinOutbound b).1).timers = s.timers ∧
    ((s.joinOutbound b).1).tone = s.tone ∧
    ((s.joinOutbound b).1).rau = s.rau ∧
    ((s.joinOutbound b).1).level = s.level ∧
    ((s.joinOutbound b).1).pump = s.pump ∧
    ((s.joinOutbound b).1).link.mode = s.link.mode ∧
    ((s.joinOutbound b).1).link.paused = s.link.paused ∧
    ((s.joinOutbound b).1).link.attempts = s.link.attempts ∧
    ((s.joinOutbound b).1).link.windowSize = s.link.windowSize ∧
    ((s.joinOutbound b).1).link.payloadSize = s.link.payloadSize ∧
    ((s.joinOutbound b).1).link.vs = s.link.vs ∧
    ((s.joinOutbound b).1).link.window = s.link.window ∧
    ((s.joinOutbound b).1).link.resendMark = s.link.resendMark ∧
    ((s.joinOutbound b).1).link.retries = s.link.retries ∧
    ((s.joinOutbound b).1).link.peerBusy = s.link.peerBusy ∧
    ((s.joinOutbound b).1).link.vr = s.link.vr ∧
    ((s.joinOutbound b).1).link.rejectFlag = s.link.rejectFlag ∧
    ((s.joinOutbound b).1).link.ackOwed = s.link.ackOwed ∧
    ((s.joinOutbound b).1).link.busyAckOwed = s.link.busyAckOwed ∧
    ((s.joinOutbound b).1).link.ownBusy = s.link.ownBusy ∧
    ((s.joinOutbound b).1).link.rejectOwed = s.link.rejectOwed ∧
    ((s.joinOutbound b).1).link.clearOwed = s.link.clearOwed ∧
    ((s.joinOutbound b).1).link.reqDue = s.link.reqDue ∧
    ((s.joinOutbound b).1).link.confSetup = s.link.confSetup ∧
    ((s.joinOutbound b).1).link.confDue = s.link.confDue ∧
    ((s.joinOutbound b).1).link.peerOffer = s.link.peerOffer ∧
    ((s.joinOutbound b).1).link.byFarEnd = s.link.byFarEnd ∧
    ((s.joinOutbound b).1).link.policy = s.link.policy ∧
    ((s.joinOutbound b).1).link.offer = s.link.offer ∧
    ((s.joinOutbound b).1).link.inbound = s.link.inbound ∧
    ((s.joinOutbound b).1).link.tx = s.link.tx ∧
    ((s.joinOutbound b).1).fax = s.fax ∧
    ((s.joinOutbound b).1).voice = s.voice ∧
    ((s.joinOutbound b).1).store = s.store ∧
    ((s.joinOutbound b).1).ports = s.ports ∧
    ((s.joinOutbound b).1).sys.data = s.sys.data ∧
    ((s.joinOutbound b).1).sys.entryDue = s.sys.entryDue ∧
    ((s.joinOutbound b).1).sys.goDataDue = s.sys.goDataDue ∧
    ((s.joinOutbound b).1).sys.ready = s.sys.ready ∧
    ((s.joinOutbound b).1).sys.rts = s.sys.rts ∧
    ((s.joinOutbound b).1).sys.lastByte = s.sys.lastByte ∧
    ((s.joinOutbound b).1).sys.rate = s.sys.rate ∧
    ((s.joinOutbound b).1).sys.notice = s.sys.notice ∧
    ((s.joinOutbound b).1).sys.escape = s.sys.escape ∧
    ((s.joinOutbound b).1).pan = s.pan := by
  unfold State.joinOutbound; try dsimp only
  repeat' split
  all_goals simp

@[simp] theorem State.faxPortByte_keeps (s : State) (b : Byte) :
    (s.faxPortByte b).ccu = s.ccu ∧
    (s.faxPortByte b).lif = s.lif ∧
    (s.faxPortByte b).timers.e0 = s.timers.e0 ∧
    (s.faxPortByte b).timers.e1 = s.timers.e1 ∧
    (s.faxPortByte b).timers.e2 = s.timers.e2 ∧
    (s.faxPortByte b).timers.e3 = s.timers.e3 ∧
    (s.faxPortByte b).timers.e4 = s.timers.e4 ∧
    (s.faxPortByte b).timers.e6 = s.timers.e6 ∧
    (s.faxPortByte b).timers.e7 = s.timers.e7 ∧
    (s.faxPortByte b).tone = s.tone ∧
    (s.faxPortByte b).rau = s.rau ∧
    (s.faxPortByte b).level = s.level ∧
    (s.faxPortByte b).pump.mode = s.pump.mode ∧
    (s.faxPortByte b).pump.role = s.pump.role ∧
    (s.faxPortByte b).pump.phase = s.pump.phase ∧
    (s.faxPortByte b).pump.localCeiling = s.pump.localCeiling ∧
    (s.faxPortByte b).pump.localFloor = s.pump.localFloor ∧
    (s.faxPortByte b).pump.peerMax = s.pump.peerMax ∧
    (s.faxPortByte b).pump.negCeiling = s.pump.negCeiling ∧
    (s.faxPortByte b).pump.negFloor = s.pump.negFloor ∧
    (s.faxPortByte b).pump.below = s.pump.below ∧
    (s.faxPortByte b).pump.above = s.pump.above ∧
    (s.faxPortByte b).pump.retrains = s.pump.retrains ∧
    (s.faxPortByte b).pump.linkStarted = s.pump.linkStarted ∧
    (s.faxPortByte b).pump.request = s.pump.request ∧
    (s.faxPortByte b).pump.answerTone = s.pump.answerTone ∧
    (s.faxPortByte b).pump.heardMax = s.pump.heardMax ∧
    (s.faxPortByte b).pump.heardAck = s.pump.heardAck ∧
    (s.faxPortByte b).pump.stage = s.pump.stage ∧
    (s.faxPortByte b).pump.ownAccept = s.pump.ownAccept ∧
    (s.faxPortByte b).pump.farAccept = s.pump.farAccept ∧
    (s.faxPortByte b).pump.confirmed = s.pump.confirmed ∧
    (s.faxPortByte b).link.mode = s.link.mode ∧
    (s.faxPortByte b).link.paused = s.link.paused ∧
    (s.faxPortByte b).link.attempts = s.link.attempts ∧
    (s.faxPortByte b).link.windowSize = s.link.windowSize ∧
    (s.faxPortByte b).link.payloadSize = s.link.payloadSize ∧
    (s.faxPortByte b).link.vs = s.link.vs ∧
    (s.faxPortByte b).link.window = s.link.window ∧
    (s.faxPortByte b).link.resendMark = s.link.resendMark ∧
    (s.faxPortByte b).link.retries = s.link.retries ∧
    (s.faxPortByte b).link.peerBusy = s.link.peerBusy ∧
    (s.faxPortByte b).link.vr = s.link.vr ∧
    (s.faxPortByte b).link.rejectFlag = s.link.rejectFlag ∧
    (s.faxPortByte b).link.ackOwed = s.link.ackOwed ∧
    (s.faxPortByte b).link.busyAckOwed = s.link.busyAckOwed ∧
    (s.faxPortByte b).link.ownBusy = s.link.ownBusy ∧
    (s.faxPortByte b).link.rejectOwed = s.link.rejectOwed ∧
    (s.faxPortByte b).link.clearOwed = s.link.clearOwed ∧
    (s.faxPortByte b).link.reqDue = s.link.reqDue ∧
    (s.faxPortByte b).link.confSetup = s.link.confSetup ∧
    (s.faxPortByte b).link.confDue = s.link.confDue ∧
    (s.faxPortByte b).link.peerOffer = s.link.peerOffer ∧
    (s.faxPortByte b).link.byFarEnd = s.link.byFarEnd ∧
    (s.faxPortByte b).link.policy = s.link.policy ∧
    (s.faxPortByte b).link.offer = s.link.offer ∧
    (s.faxPortByte b).link.inbound = s.link.inbound ∧
    (s.faxPortByte b).link.tx = s.link.tx ∧
    (s.faxPortByte b).fax.role = s.fax.role ∧
    (s.faxPortByte b).fax.place = s.fax.place ∧
    (s.faxPortByte b).fax.phase = s.fax.phase ∧
    (s.faxPortByte b).fax.rung = s.fax.rung ∧
    (s.faxPortByte b).fax.floor = s.fax.floor ∧
    (s.faxPortByte b).fax.ceiling = s.fax.ceiling ∧
    (s.faxPortByte b).fax.resolution = s.fax.resolution ∧
    (s.faxPortByte b).fax.scanMs = s.fax.scanMs ∧
    (s.faxPortByte b).fax.page = s.fax.page ∧
    (s.faxPortByte b).fax.attempts = s.fax.attempts ∧
    (s.faxPortByte b).fax.accepted = s.fax.accepted ∧
    (s.faxPortByte b).fax.linkedId = s.fax.linkedId ∧
    (s.faxPortByte b).fax.pageStart = s.fax.pageStart ∧
    (s.faxPortByte b).fax.windows = s.fax.windows ∧
    (s.faxPortByte b).fax.badWindows = s.fax.badWindows ∧
    (s.faxPortByte b).fax.overflow = s.fax.overflow ∧
    (s.faxPortByte b).fax.retries = s.fax.retries ∧
    (s.faxPortByte b).fax.lastFrame = s.fax.lastFrame ∧
    (s.faxPortByte b).fax.more = s.fax.more ∧
    (s.faxPortByte b).fax.expect = s.fax.expect ∧
    (s.faxPortByte b).fax.checkSending = s.fax.checkSending ∧
    (s.faxPortByte b).fax.checkOverloaded = s.fax.checkOverloaded ∧
    (s.faxPortByte b).fax.dataBegun = s.fax.dataBegun ∧
    (s.faxPortByte b).fax.inPair = s.fax.inPair ∧
    (s.faxPortByte b).fax.lineLength = s.fax.lineLength ∧
    (s.faxPortByte b).fax.position = s.fax.position ∧
    (s.faxPortByte b).fax.markSent = s.fax.markSent ∧
    (s.faxPortByte b).fax.markInQueue = s.fax.markInQueue ∧
    (s.faxPortByte b).fax.endAfter = s.fax.endAfter ∧
    (s.faxPortByte b).fax.unsent = s.fax.unsent ∧
    (s.faxPortByte b).fax.answered = s.fax.answered ∧
    (s.faxPortByte b).voice = s.voice ∧
    (s.faxPortByte b).store = s.store ∧
    (s.faxPortByte b).ports = s.ports ∧
    (s.faxPortByte b).sys.ready = s.sys.ready ∧
    (s.faxPortByte b).sys.rts = s.sys.rts ∧
    (s.faxPortByte b).sys.rate = s.sys.rate ∧
    (s.faxPortByte b).sys.notice = s.sys.notice ∧
    (s.faxPortByte b).sys.escape = s.sys.escape ∧
    (s.faxPortByte b).pan = s.pan := by
  have hc := State.joinOutbound_keeps s b
  unfold State.faxPortByte
  try dsimp only
  split <;> rename_i he <;> rw [he] at hc <;> dsimp only at hc <;> (try split) <;> simp [hc]

@[simp] theorem State.takeCaps_keeps (s : State) (maxRung resolutions scanMs : Byte) :
    (s.takeCaps maxRung resolutions scanMs).ccu.call.number = s.ccu.call.number ∧
    (s.takeCaps maxRung resolutions scanMs).ccu.call.direction = s.ccu.call.direction ∧
    (s.takeCaps maxRung resolutions scanMs).ccu.call.holder = s.ccu.call.holder ∧
    (s.takeCaps maxRung resolutions scanMs).ccu.call.job = s.ccu.call.job ∧
    (s.takeCaps maxRung resolutions scanMs).ccu.call.dialList = s.ccu.call.dialList ∧
    (s.takeCaps maxRung resolutions scanMs).ccu.call.farEndRinging = s.ccu.call.farEndRinging ∧
    (s.takeCaps maxRung resolutions scanMs).ccu.call.callerStatus = s.ccu.call.callerStatus ∧
    (s.takeCaps maxRung resolutions scanMs).ccu.call.callerNumber = s.ccu.call.callerNumber ∧
    (s.takeCaps maxRung resolutions scanMs).ccu.call.callerName = s.ccu.call.callerName ∧
    (s.takeCaps maxRung resolutions scanMs).ccu.call.ringPattern = s.ccu.call.ringPattern ∧
    (s.takeCaps maxRung resolutions scanMs).ccu.call.ringCount = s.ccu.call.ringCount ∧
    (s.takeCaps maxRung resolutions scanMs).ccu.call.startTime = s.ccu.call.startTime ∧
    (s.takeCaps maxRung resolutions scanMs).ccu.call.lastQuality = s.ccu.call.lastQuality ∧
    (s.takeCaps maxRung resolutions scanMs).ccu.call.seconds = s.ccu.call.seconds ∧
    (s.takeCaps maxRung resolutions scanMs).ccu.dialler.cursor = s.ccu.dialler.cursor ∧
    (s.takeCaps maxRung resolutions scanMs).ccu.dialler.breaksEnded = s.ccu.dialler.breaksEnded ∧
    (s.takeCaps maxRung resolutions scanMs).ccu.dialler.lastMake = s.ccu.dialler.lastMake ∧
    (s.takeCaps maxRung resolutions scanMs).ccu.lastNumber = s.ccu.lastNumber ∧
    (s.takeCaps maxRung resolutions scanMs).ccu.blind = s.ccu.blind ∧
    (s.takeCaps maxRung resolutions scanMs).ccu.claims = s.ccu.claims ∧
    (s.takeCaps maxRung resolutions scanMs).lif.ringPresent = s.lif.ringPresent ∧
    (s.takeCaps maxRung resolutions scanMs).lif.hangover = s.lif.hangover ∧
    (s.takeCaps maxRung resolutions scanMs).lif.voltageBelow = s.lif.voltageBelow ∧
    (s.takeCaps maxRung resolutions scanMs).lif.currentBelow = s.lif.currentBelow ∧
    (s.takeCaps maxRung resolutions scanMs).lif.pickupLatch = s.lif.pickupLatch ∧
    (s.takeCaps maxRung resolutions scanMs).timers.e7 = s.timers.e7 ∧
    (s.takeCaps maxRung resolutions scanMs).rau.episode = s.rau.episode ∧
    (s.takeCaps maxRung resolutions scanMs).rau.caller = s.rau.caller ∧
    (s.takeCaps maxRung resolutions scanMs).rau.presence = s.rau.presence ∧
    (s.takeCaps maxRung resolutions scanMs).rau.deadlines = s.rau.deadlines ∧
    (s.takeCaps maxRung resolutions scanMs).fax.role = s.fax.role ∧
    (s.takeCaps maxRung resolutions scanMs).fax.place = s.fax.place ∧
    (s.takeCaps maxRung resolutions scanMs).fax.floor = s.fax.floor ∧
    (s.takeCaps maxRung resolutions scanMs).fax.ceiling = s.fax.ceiling ∧
    (s.takeCaps maxRung resolutions scanMs).fax.page = s.fax.page ∧
    (s.takeCaps maxRung resolutions scanMs).fax.attempts = s.fax.attempts ∧
    (s.takeCaps maxRung resolutions scanMs).fax.accepted = s.fax.accepted ∧
    (s.takeCaps maxRung resolutions scanMs).fax.linkedId = s.fax.linkedId ∧
    (s.takeCaps maxRung resolutions scanMs).fax.pageStart = s.fax.pageStart ∧
    (s.takeCaps maxRung resolutions scanMs).fax.windows = s.fax.windows ∧
    (s.takeCaps maxRung resolutions scanMs).fax.badWindows = s.fax.badWindows ∧
    (s.takeCaps maxRung resolutions scanMs).fax.overflow = s.fax.overflow ∧
    (s.takeCaps maxRung resolutions scanMs).fax.more = s.fax.more ∧
    (s.takeCaps maxRung resolutions scanMs).fax.checkOverloaded = s.fax.checkOverloaded ∧
    (s.takeCaps maxRung resolutions scanMs).fax.inPair = s.fax.inPair ∧
    (s.takeCaps maxRung resolutions scanMs).fax.lineLength = s.fax.lineLength ∧
    (s.takeCaps maxRung resolutions scanMs).fax.position = s.fax.position ∧
    (s.takeCaps maxRung resolutions scanMs).fax.pageFromPort = s.fax.pageFromPort ∧
    (s.takeCaps maxRung resolutions scanMs).fax.markSent = s.fax.markSent ∧
    (s.takeCaps maxRung resolutions scanMs).fax.markInQueue = s.fax.markInQueue ∧
    (s.takeCaps maxRung resolutions scanMs).ports.system.outgoing = s.ports.system.outgoing ∧
    (s.takeCaps maxRung resolutions scanMs).ports.system.digits = s.ports.system.digits ∧
    (s.takeCaps maxRung resolutions scanMs).ports.system.transfer = s.ports.system.transfer ∧
    (s.takeCaps maxRung resolutions scanMs).ports.panel.outgoing = s.ports.panel.outgoing ∧
    (s.takeCaps maxRung resolutions scanMs).ports.panel.digits = s.ports.panel.digits ∧
    (s.takeCaps maxRung resolutions scanMs).ports.panel.transfer = s.ports.panel.transfer ∧
    (s.takeCaps maxRung resolutions scanMs).sys.ready = s.sys.ready ∧
    (s.takeCaps maxRung resolutions scanMs).sys.rts = s.sys.rts ∧
    (s.takeCaps maxRung resolutions scanMs).sys.rate = s.sys.rate ∧
    (s.takeCaps maxRung resolutions scanMs).sys.notice = s.sys.notice ∧
    (s.takeCaps maxRung resolutions scanMs).sys.escape = s.sys.escape ∧
    (s.takeCaps maxRung resolutions scanMs).pan = s.pan := by
  unfold State.takeCaps; try dsimp only
  repeat' split
  all_goals simp

@[simp] theorem State.takeSet_keeps (s : State) (rung : Nat) (x : Resolution) (scanMs : Nat) :
    (s.takeSet rung x scanMs).ccu.line = s.ccu.line ∧
    (s.takeSet rung x scanMs).ccu.call.active = s.ccu.call.active ∧
    (s.takeSet rung x scanMs).ccu.call.number = s.ccu.call.number ∧
    (s.takeSet rung x scanMs).ccu.call.direction = s.ccu.call.direction ∧
    (s.takeSet rung x scanMs).ccu.call.holder = s.ccu.call.holder ∧
    (s.takeSet rung x scanMs).ccu.call.job = s.ccu.call.job ∧
    (s.takeSet rung x scanMs).ccu.call.dialList = s.ccu.call.dialList ∧
    (s.takeSet rung x scanMs).ccu.call.farEndRinging = s.ccu.call.farEndRinging ∧
    (s.takeSet rung x scanMs).ccu.call.callerStatus = s.ccu.call.callerStatus ∧
    (s.takeSet rung x scanMs).ccu.call.callerNumber = s.ccu.call.callerNumber ∧
    (s.takeSet rung x scanMs).ccu.call.callerName = s.ccu.call.callerName ∧
    (s.takeSet rung x scanMs).ccu.call.ringPattern = s.ccu.call.ringPattern ∧
    (s.takeSet rung x scanMs).ccu.call.ringCount = s.ccu.call.ringCount ∧
    (s.takeSet rung x scanMs).ccu.call.startTime = s.ccu.call.startTime ∧
    (s.takeSet rung x scanMs).ccu.call.linkedId = s.ccu.call.linkedId ∧
    (s.takeSet rung x scanMs).ccu.call.lastQuality = s.ccu.call.lastQuality ∧
    (s.takeSet rung x scanMs).ccu.call.seconds = s.ccu.call.seconds ∧
    (s.takeSet rung x scanMs).ccu.call.cause = s.ccu.call.cause ∧
    (s.takeSet rung x scanMs).ccu.dialler = s.ccu.dialler ∧
    (s.takeSet rung x scanMs).ccu.lastNumber = s.ccu.lastNumber ∧
    (s.takeSet rung x scanMs).ccu.ending = s.ccu.ending ∧
    (s.takeSet rung x scanMs).ccu.blind = s.ccu.blind ∧
    (s.takeSet rung x scanMs).ccu.claims = s.ccu.claims ∧
    (s.takeSet rung x scanMs).ccu.history = s.ccu.history ∧
    (s.takeSet rung x scanMs).lif = s.lif ∧
    (s.takeSet rung x scanMs).timers.e0 = s.timers.e0 ∧
    (s.takeSet rung x scanMs).timers.e1 = s.timers.e1 ∧
    (s.takeSet rung x scanMs).timers.e3 = s.timers.e3 ∧
    (s.takeSet rung x scanMs).timers.e4 = s.timers.e4 ∧
    (s.takeSet rung x scanMs).timers.e5 = s.timers.e5 ∧
    (s.takeSet rung x scanMs).timers.e6 = s.timers.e6 ∧
    (s.takeSet rung x scanMs).timers.e7 = s.timers.e7 ∧
    (s.takeSet rung x scanMs).tone = s.tone ∧
    (s.takeSet rung x scanMs).rau = s.rau ∧
    (s.takeSet rung x scanMs).pump.mode = s.pump.mode ∧
    (s.takeSet rung x scanMs).pump.role = s.pump.role ∧
    (s.takeSet rung x scanMs).pump.phase = s.pump.phase ∧
    (s.takeSet rung x scanMs).pump.localCeiling = s.pump.localCeiling ∧
    (s.takeSet rung x scanMs).pump.localFloor = s.pump.localFloor ∧
    (s.takeSet rung x scanMs).pump.peerMax = s.pump.peerMax ∧
    (s.takeSet rung x scanMs).pump.negCeiling = s.pump.negCeiling ∧
    (s.takeSet rung x scanMs).pump.negFloor = s.pump.negFloor ∧
    (s.takeSet rung x scanMs).pump.below = s.pump.below ∧
    (s.takeSet rung x scanMs).pump.above = s.pump.above ∧
    (s.takeSet rung x scanMs).pump.retrains = s.pump.retrains ∧
    (s.takeSet rung x scanMs).pump.linkStarted = s.pump.linkStarted ∧
    (s.takeSet rung x scanMs).pump.request = s.pump.request ∧
    (s.takeSet rung x scanMs).pump.answerTone = s.pump.answerTone ∧
    (s.takeSet rung x scanMs).pump.heardMax = s.pump.heardMax ∧
    (s.takeSet rung x scanMs).pump.heardAck = s.pump.heardAck ∧
    (s.takeSet rung x scanMs).pump.stage = s.pump.stage ∧
    (s.takeSet rung x scanMs).pump.ownAccept = s.pump.ownAccept ∧
    (s.takeSet rung x scanMs).pump.farAccept = s.pump.farAccept ∧
    (s.takeSet rung x scanMs).pump.confirmed = s.pump.confirmed ∧
    (s.takeSet rung x scanMs).link = s.link ∧
    (s.takeSet rung x scanMs).fax.role = s.fax.role ∧
    (s.takeSet rung x scanMs).fax.place = s.fax.place ∧
    (s.takeSet rung x scanMs).fax.floor = s.fax.floor ∧
    (s.takeSet rung x scanMs).fax.ceiling = s.fax.ceiling ∧
    (s.takeSet rung x scanMs).fax.page = s.fax.page ∧
    (s.takeSet rung x scanMs).fax.attempts = s.fax.attempts ∧
    (s.takeSet rung x scanMs).fax.accepted = s.fax.accepted ∧
    (s.takeSet rung x scanMs).fax.linkedId = s.fax.linkedId ∧
    (s.takeSet rung x scanMs).fax.pageStart = s.fax.pageStart ∧
    (s.takeSet rung x scanMs).fax.windows = s.fax.windows ∧
    (s.takeSet rung x scanMs).fax.badWindows = s.fax.badWindows ∧
    (s.takeSet rung x scanMs).fax.overflow = s.fax.overflow ∧
    (s.takeSet rung x scanMs).fax.lastFrame = s.fax.lastFrame ∧
    (s.takeSet rung x scanMs).fax.more = s.fax.more ∧
    (s.takeSet rung x scanMs).fax.checkSending = s.fax.checkSending ∧
    (s.takeSet rung x scanMs).fax.dataBegun = s.fax.dataBegun ∧
    (s.takeSet rung x scanMs).fax.inPair = s.fax.inPair ∧
    (s.takeSet rung x scanMs).fax.lineLength = s.fax.lineLength ∧
    (s.takeSet rung x scanMs).fax.position = s.fax.position ∧
    (s.takeSet rung x scanMs).fax.markOut = s.fax.markOut ∧
    (s.takeSet rung x scanMs).fax.pageFromPort = s.fax.pageFromPort ∧
    (s.takeSet rung x scanMs).fax.markSent = s.fax.markSent ∧
    (s.takeSet rung x scanMs).fax.markInQueue = s.fax.markInQueue ∧
    (s.takeSet rung x scanMs).fax.endAfter = s.fax.endAfter ∧
    (s.takeSet rung x scanMs).voice = s.voice ∧
    (s.takeSet rung x scanMs).store = s.store ∧
    (s.takeSet rung x scanMs).ports = s.ports ∧
    (s.takeSet rung x scanMs).sys = s.sys ∧
    (s.takeSet rung x scanMs).pan = s.pan := by
  unfold State.takeSet; try dsimp only
  repeat' split
  all_goals simp

@[simp] theorem State.checkStepDown_keeps (s : State) :
    (s.checkStepDown).ccu.call.number = s.ccu.call.number ∧
    (s.checkStepDown).ccu.call.direction = s.ccu.call.direction ∧
    (s.checkStepDown).ccu.call.holder = s.ccu.call.holder ∧
    (s.checkStepDown).ccu.call.job = s.ccu.call.job ∧
    (s.checkStepDown).ccu.call.phase = s.ccu.call.phase ∧
    (s.checkStepDown).ccu.call.dialList = s.ccu.call.dialList ∧
    (s.checkStepDown).ccu.call.farEndRinging = s.ccu.call.farEndRinging ∧
    (s.checkStepDown).ccu.call.callerStatus = s.ccu.call.callerStatus ∧
    (s.checkStepDown).ccu.call.callerNumber = s.ccu.call.callerNumber ∧
    (s.checkStepDown).ccu.call.callerName = s.ccu.call.callerName ∧
    (s.checkStepDown).ccu.call.ringPattern = s.ccu.call.ringPattern ∧
    (s.checkStepDown).ccu.call.ringCount = s.ccu.call.ringCount ∧
    (s.checkStepDown).ccu.call.startTime = s.ccu.call.startTime ∧
    (s.checkStepDown).ccu.call.lastQuality = s.ccu.call.lastQuality ∧
    (s.checkStepDown).ccu.call.seconds = s.ccu.call.seconds ∧
    (s.checkStepDown).ccu.dialler.cursor = s.ccu.dialler.cursor ∧
    (s.checkStepDown).ccu.dialler.breaksEnded = s.ccu.dialler.breaksEnded ∧
    (s.checkStepDown).ccu.dialler.lastMake = s.ccu.dialler.lastMake ∧
    (s.checkStepDown).ccu.lastNumber = s.ccu.lastNumber ∧
    (s.checkStepDown).ccu.blind = s.ccu.blind ∧
    (s.checkStepDown).ccu.claims = s.ccu.claims ∧
    (s.checkStepDown).lif.ringPresent = s.lif.ringPresent ∧
    (s.checkStepDown).lif.hangover = s.lif.hangover ∧
    (s.checkStepDown).lif.voltageBelow = s.lif.voltageBelow ∧
    (s.checkStepDown).lif.currentBelow = s.lif.currentBelow ∧
    (s.checkStepDown).lif.pickupLatch = s.lif.pickupLatch ∧
    (s.checkStepDown).timers.e7 = s.timers.e7 ∧
    (s.checkStepDown).rau.episode = s.rau.episode ∧
    (s.checkStepDown).rau.caller = s.rau.caller ∧
    (s.checkStepDown).rau.presence = s.rau.presence ∧
    (s.checkStepDown).rau.deadlines = s.rau.deadlines ∧
    (s.checkStepDown).fax.role = s.fax.role ∧
    (s.checkStepDown).fax.place = s.fax.place ∧
    (s.checkStepDown).fax.floor = s.fax.floor ∧
    (s.checkStepDown).fax.ceiling = s.fax.ceiling ∧
    (s.checkStepDown).fax.resolution = s.fax.resolution ∧
    (s.checkStepDown).fax.scanMs = s.fax.scanMs ∧
    (s.checkStepDown).fax.page = s.fax.page ∧
    (s.checkStepDown).fax.attempts = s.fax.attempts ∧
    (s.checkStepDown).fax.accepted = s.fax.accepted ∧
    (s.checkStepDown).fax.linkedId = s.fax.linkedId ∧
    (s.checkStepDown).fax.pageStart = s.fax.pageStart ∧
    (s.checkStepDown).fax.windows = s.fax.windows ∧
    (s.checkStepDown).fax.badWindows = s.fax.badWindows ∧
    (s.checkStepDown).fax.overflow = s.fax.overflow ∧
    (s.checkStepDown).fax.retries = s.fax.retries ∧
    (s.checkStepDown).fax.more = s.fax.more ∧
    (s.checkStepDown).fax.checkOverloaded = s.fax.checkOverloaded ∧
    (s.checkStepDown).fax.inPair = s.fax.inPair ∧
    (s.checkStepDown).fax.lineLength = s.fax.lineLength ∧
    (s.checkStepDown).fax.position = s.fax.position ∧
    (s.checkStepDown).fax.pageFromPort = s.fax.pageFromPort ∧
    (s.checkStepDown).fax.markSent = s.fax.markSent ∧
    (s.checkStepDown).fax.markInQueue = s.fax.markInQueue ∧
    (s.checkStepDown).ports.system.outgoing = s.ports.system.outgoing ∧
    (s.checkStepDown).ports.system.digits = s.ports.system.digits ∧
    (s.checkStepDown).ports.system.transfer = s.ports.system.transfer ∧
    (s.checkStepDown).ports.panel.outgoing = s.ports.panel.outgoing ∧
    (s.checkStepDown).ports.panel.digits = s.ports.panel.digits ∧
    (s.checkStepDown).ports.panel.transfer = s.ports.panel.transfer ∧
    (s.checkStepDown).sys.ready = s.sys.ready ∧
    (s.checkStepDown).sys.rts = s.sys.rts ∧
    (s.checkStepDown).sys.rate = s.sys.rate ∧
    (s.checkStepDown).sys.notice = s.sys.notice ∧
    (s.checkStepDown).sys.escape = s.sys.escape ∧
    (s.checkStepDown).pan = s.pan := by
  unfold State.checkStepDown; try dsimp only
  repeat' split
  all_goals simp

@[simp] theorem State.faxRepeat_keeps (s : State) :
    (s.faxRepeat).ccu = s.ccu ∧
    (s.faxRepeat).lif = s.lif ∧
    (s.faxRepeat).timers = s.timers ∧
    (s.faxRepeat).tone = s.tone ∧
    (s.faxRepeat).rau = s.rau ∧
    (s.faxRepeat).level = s.level ∧
    (s.faxRepeat).pump = s.pump ∧
    (s.faxRepeat).link.mode = s.link.mode ∧
    (s.faxRepeat).link.paused = s.link.paused ∧
    (s.faxRepeat).link.attempts = s.link.attempts ∧
    (s.faxRepeat).link.windowSize = s.link.windowSize ∧
    (s.faxRepeat).link.payloadSize = s.link.payloadSize ∧
    (s.faxRepeat).link.vs = s.link.vs ∧
    (s.faxRepeat).link.window = s.link.window ∧
    (s.faxRepeat).link.resendMark = s.link.resendMark ∧
    (s.faxRepeat).link.retries = s.link.retries ∧
    (s.faxRepeat).link.peerBusy = s.link.peerBusy ∧
    (s.faxRepeat).link.vr = s.link.vr ∧
    (s.faxRepeat).link.rejectFlag = s.link.rejectFlag ∧
    (s.faxRepeat).link.ackOwed = s.link.ackOwed ∧
    (s.faxRepeat).link.busyAckOwed = s.link.busyAckOwed ∧
    (s.faxRepeat).link.ownBusy = s.link.ownBusy ∧
    (s.faxRepeat).link.rejectOwed = s.link.rejectOwed ∧
    (s.faxRepeat).link.clearOwed = s.link.clearOwed ∧
    (s.faxRepeat).link.reqDue = s.link.reqDue ∧
    (s.faxRepeat).link.confSetup = s.link.confSetup ∧
    (s.faxRepeat).link.confDue = s.link.confDue ∧
    (s.faxRepeat).link.peerOffer = s.link.peerOffer ∧
    (s.faxRepeat).link.byFarEnd = s.link.byFarEnd ∧
    (s.faxRepeat).link.policy = s.link.policy ∧
    (s.faxRepeat).link.offer = s.link.offer ∧
    (s.faxRepeat).link.stats = s.link.stats ∧
    (s.faxRepeat).link.outbound = s.link.outbound ∧
    (s.faxRepeat).link.inbound = s.link.inbound ∧
    (s.faxRepeat).fax.role = s.fax.role ∧
    (s.faxRepeat).fax.place = s.fax.place ∧
    (s.faxRepeat).fax.phase = s.fax.phase ∧
    (s.faxRepeat).fax.rung = s.fax.rung ∧
    (s.faxRepeat).fax.floor = s.fax.floor ∧
    (s.faxRepeat).fax.ceiling = s.fax.ceiling ∧
    (s.faxRepeat).fax.resolution = s.fax.resolution ∧
    (s.faxRepeat).fax.scanMs = s.fax.scanMs ∧
    (s.faxRepeat).fax.page = s.fax.page ∧
    (s.faxRepeat).fax.attempts = s.fax.attempts ∧
    (s.faxRepeat).fax.accepted = s.fax.accepted ∧
    (s.faxRepeat).fax.linkedId = s.fax.linkedId ∧
    (s.faxRepeat).fax.pageStart = s.fax.pageStart ∧
    (s.faxRepeat).fax.windows = s.fax.windows ∧
    (s.faxRepeat).fax.badWindows = s.fax.badWindows ∧
    (s.faxRepeat).fax.overflow = s.fax.overflow ∧
    (s.faxRepeat).fax.retries = s.fax.retries ∧
    (s.faxRepeat).fax.lastFrame = s.fax.lastFrame ∧
    (s.faxRepeat).fax.more = s.fax.more ∧
    (s.faxRepeat).fax.expect = s.fax.expect ∧
    (s.faxRepeat).fax.checkOverloaded = s.fax.checkOverloaded ∧
    (s.faxRepeat).fax.dataBegun = s.fax.dataBegun ∧
    (s.faxRepeat).fax.inPair = s.fax.inPair ∧
    (s.faxRepeat).fax.lineLength = s.fax.lineLength ∧
    (s.faxRepeat).fax.position = s.fax.position ∧
    (s.faxRepeat).fax.markOut = s.fax.markOut ∧
    (s.faxRepeat).fax.pageFromPort = s.fax.pageFromPort ∧
    (s.faxRepeat).fax.markSent = s.fax.markSent ∧
    (s.faxRepeat).fax.markInQueue = s.fax.markInQueue ∧
    (s.faxRepeat).fax.endAfter = s.fax.endAfter ∧
    (s.faxRepeat).fax.unsent = s.fax.unsent ∧
    (s.faxRepeat).fax.answered = s.fax.answered ∧
    (s.faxRepeat).voice = s.voice ∧
    (s.faxRepeat).store = s.store ∧
    (s.faxRepeat).ports = s.ports ∧
    (s.faxRepeat).sys = s.sys ∧
    (s.faxRepeat).pan = s.pan := by
  unfold State.faxRepeat; try dsimp only
  repeat' split
  all_goals simp

@[simp] theorem State.judgePage_keeps (s : State) (more : Bool) :
    (s.judgePage more).ccu.line = s.ccu.line ∧
    (s.judgePage more).ccu.call.active = s.ccu.call.active ∧
    (s.judgePage more).ccu.call.number = s.ccu.call.number ∧
    (s.judgePage more).ccu.call.direction = s.ccu.call.direction ∧
    (s.judgePage more).ccu.call.holder = s.ccu.call.holder ∧
    (s.judgePage more).ccu.call.job = s.ccu.call.job ∧
    (s.judgePage more).ccu.call.dialList = s.ccu.call.dialList ∧
    (s.judgePage more).ccu.call.farEndRinging = s.ccu.call.farEndRinging ∧
    (s.judgePage more).ccu.call.callerStatus = s.ccu.call.callerStatus ∧
    (s.judgePage more).ccu.call.callerNumber = s.ccu.call.callerNumber ∧
    (s.judgePage more).ccu.call.callerName = s.ccu.call.callerName ∧
    (s.judgePage more).ccu.call.ringPattern = s.ccu.call.ringPattern ∧
    (s.judgePage more).ccu.call.ringCount = s.ccu.call.ringCount ∧
    (s.judgePage more).ccu.call.startTime = s.ccu.call.startTime ∧
    (s.judgePage more).ccu.call.linkedId = s.ccu.call.linkedId ∧
    (s.judgePage more).ccu.call.rung = s.ccu.call.rung ∧
    (s.judgePage more).ccu.call.lastQuality = s.ccu.call.lastQuality ∧
    (s.judgePage more).ccu.call.seconds = s.ccu.call.seconds ∧
    (s.judgePage more).ccu.call.cause = s.ccu.call.cause ∧
    (s.judgePage more).ccu.dialler = s.ccu.dialler ∧
    (s.judgePage more).ccu.lastNumber = s.ccu.lastNumber ∧
    (s.judgePage more).ccu.ending = s.ccu.ending ∧
    (s.judgePage more).ccu.blind = s.ccu.blind ∧
    (s.judgePage more).ccu.claims = s.ccu.claims ∧
    (s.judgePage more).ccu.history = s.ccu.history ∧
    (s.judgePage more).lif = s.lif ∧
    (s.judgePage more).timers.e0 = s.timers.e0 ∧
    (s.judgePage more).timers.e1 = s.timers.e1 ∧
    (s.judgePage more).timers.e3 = s.timers.e3 ∧
    (s.judgePage more).timers.e4 = s.timers.e4 ∧
    (s.judgePage more).timers.e6 = s.timers.e6 ∧
    (s.judgePage more).timers.e7 = s.timers.e7 ∧
    (s.judgePage more).tone = s.tone ∧
    (s.judgePage more).rau = s.rau ∧
    (s.judgePage more).level = s.level ∧
    (s.judgePage more).pump = s.pump ∧
    (s.judgePage more).link.mode = s.link.mode ∧
    (s.judgePage more).link.paused = s.link.paused ∧
    (s.judgePage more).link.attempts = s.link.attempts ∧
    (s.judgePage more).link.windowSize = s.link.windowSize ∧
    (s.judgePage more).link.payloadSize = s.link.payloadSize ∧
    (s.judgePage more).link.vs = s.link.vs ∧
    (s.judgePage more).link.window = s.link.window ∧
    (s.judgePage more).link.resendMark = s.link.resendMark ∧
    (s.judgePage more).link.retries = s.link.retries ∧
    (s.judgePage more).link.peerBusy = s.link.peerBusy ∧
    (s.judgePage more).link.vr = s.link.vr ∧
    (s.judgePage more).link.rejectFlag = s.link.rejectFlag ∧
    (s.judgePage more).link.ackOwed = s.link.ackOwed ∧
    (s.judgePage more).link.busyAckOwed = s.link.busyAckOwed ∧
    (s.judgePage more).link.ownBusy = s.link.ownBusy ∧
    (s.judgePage more).link.rejectOwed = s.link.rejectOwed ∧
    (s.judgePage more).link.clearOwed = s.link.clearOwed ∧
    (s.judgePage more).link.reqDue = s.link.reqDue ∧
    (s.judgePage more).link.confSetup = s.link.confSetup ∧
    (s.judgePage more).link.confDue = s.link.confDue ∧
    (s.judgePage more).link.peerOffer = s.link.peerOffer ∧
    (s.judgePage more).link.byFarEnd = s.link.byFarEnd ∧
    (s.judgePage more).link.policy = s.link.policy ∧
    (s.judgePage more).link.offer = s.link.offer ∧
    (s.judgePage more).link.stats = s.link.stats ∧
    (s.judgePage more).link.outbound = s.link.outbound ∧
    (s.judgePage more).link.inbound = s.link.inbound ∧
    (s.judgePage more).fax.role = s.fax.role ∧
    (s.judgePage more).fax.place = s.fax.place ∧
    (s.judgePage more).fax.rung = s.fax.rung ∧
    (s.judgePage more).fax.floor = s.fax.floor ∧
    (s.judgePage more).fax.ceiling = s.fax.ceiling ∧
    (s.judgePage more).fax.resolution = s.fax.resolution ∧
    (s.judgePage more).fax.scanMs = s.fax.scanMs ∧
    (s.judgePage more).fax.linkedId = s.fax.linkedId ∧
    (s.judgePage more).fax.windows = s.fax.windows ∧
    (s.judgePage more).fax.badWindows = s.fax.badWindows ∧
    (s.judgePage more).fax.overflow = s.fax.overflow ∧
    (s.judgePage more).fax.more = s.fax.more ∧
    (s.judgePage more).fax.checkOverloaded = s.fax.checkOverloaded ∧
    (s.judgePage more).fax.lineLength = s.fax.lineLength ∧
    (s.judgePage more).fax.position = s.fax.position ∧
    (s.judgePage more).fax.markOut = s.fax.markOut ∧
    (s.judgePage more).fax.pageFromPort = s.fax.pageFromPort ∧
    (s.judgePage more).fax.markSent = s.fax.markSent ∧
    (s.judgePage more).voice = s.voice ∧
    (s.judgePage more).ports.system.outgoing = s.ports.system.outgoing ∧
    (s.judgePage more).ports.system.digits = s.ports.system.digits ∧
    (s.judgePage more).ports.system.transfer = s.ports.system.transfer ∧
    (s.judgePage more).ports.panel.outgoing = s.ports.panel.outgoing ∧
    (s.judgePage more).ports.panel.digits = s.ports.panel.digits ∧
    (s.judgePage more).ports.panel.transfer = s.ports.panel.transfer ∧
    (s.judgePage more).sys.ready = s.sys.ready ∧
    (s.judgePage more).sys.rts = s.sys.rts ∧
    (s.judgePage more).sys.lastByte = s.sys.lastByte ∧
    (s.judgePage more).sys.rate = s.sys.rate ∧
    (s.judgePage more).sys.notice = s.sys.notice ∧
    (s.judgePage more).pan = s.pan := by
  unfold State.judgePage; try dsimp only
  repeat' split
  all_goals simp

@[simp] theorem State.pageAccepted_keeps (s : State) :
    (s.pageAccepted).ccu.line = s.ccu.line ∧
    (s.pageAccepted).ccu.call = s.ccu.call ∧
    (s.pageAccepted).ccu.dialler = s.ccu.dialler ∧
    (s.pageAccepted).ccu.lastNumber = s.ccu.lastNumber ∧
    (s.pageAccepted).ccu.ending = s.ccu.ending ∧
    (s.pageAccepted).ccu.blind = s.ccu.blind ∧
    (s.pageAccepted).ccu.claims = s.ccu.claims ∧
    (s.pageAccepted).ccu.history = s.ccu.history ∧
    (s.pageAccepted).lif = s.lif ∧
    (s.pageAccepted).timers.e0 = s.timers.e0 ∧
    (s.pageAccepted).timers.e1 = s.timers.e1 ∧
    (s.pageAccepted).timers.e3 = s.timers.e3 ∧
    (s.pageAccepted).timers.e4 = s.timers.e4 ∧
    (s.pageAccepted).timers.e5 = s.timers.e5 ∧
    (s.pageAccepted).timers.e6 = s.timers.e6 ∧
    (s.pageAccepted).timers.e7 = s.timers.e7 ∧
    (s.pageAccepted).tone = s.tone ∧
    (s.pageAccepted).rau = s.rau ∧
    (s.pageAccepted).level = s.level ∧
    (s.pageAccepted).pump = s.pump ∧
    (s.pageAccepted).link = s.link ∧
    (s.pageAccepted).fax.role = s.fax.role ∧
    (s.pageAccepted).fax.place = s.fax.place ∧
    (s.pageAccepted).fax.phase = s.fax.phase ∧
    (s.pageAccepted).fax.rung = s.fax.rung ∧
    (s.pageAccepted).fax.floor = s.fax.floor ∧
    (s.pageAccepted).fax.ceiling = s.fax.ceiling ∧
    (s.pageAccepted).fax.resolution = s.fax.resolution ∧
    (s.pageAccepted).fax.scanMs = s.fax.scanMs ∧
    (s.pageAccepted).fax.page = s.fax.page ∧
    (s.pageAccepted).fax.attempts = s.fax.attempts ∧
    (s.pageAccepted).fax.linkedId = s.fax.linkedId ∧
    (s.pageAccepted).fax.pageStart = s.fax.pageStart ∧
    (s.pageAccepted).fax.windows = s.fax.windows ∧
    (s.pageAccepted).fax.badWindows = s.fax.badWindows ∧
    (s.pageAccepted).fax.overflow = s.fax.overflow ∧
    (s.pageAccepted).fax.lastFrame = s.fax.lastFrame ∧
    (s.pageAccepted).fax.more = s.fax.more ∧
    (s.pageAccepted).fax.checkSending = s.fax.checkSending ∧
    (s.pageAccepted).fax.checkOverloaded = s.fax.checkOverloaded ∧
    (s.pageAccepted).fax.dataBegun = s.fax.dataBegun ∧
    (s.pageAccepted).fax.inPair = s.fax.inPair ∧
    (s.pageAccepted).fax.lineLength = s.fax.lineLength ∧
    (s.pageAccepted).fax.position = s.fax.position ∧
    (s.pageAccepted).fax.markOut = s.fax.markOut ∧
    (s.pageAccepted).fax.pageFromPort = s.fax.pageFromPort ∧
    (s.pageAccepted).fax.markSent = s.fax.markSent ∧
    (s.pageAccepted).fax.markInQueue = s.fax.markInQueue ∧
    (s.pageAccepted).fax.endAfter = s.fax.endAfter ∧
    (s.pageAccepted).voice = s.voice ∧
    (s.pageAccepted).store = s.store ∧
    (s.pageAccepted).ports.system.outgoing = s.ports.system.outgoing ∧
    (s.pageAccepted).ports.system.digits = s.ports.system.digits ∧
    (s.pageAccepted).ports.system.transfer = s.ports.system.transfer ∧
    (s.pageAccepted).ports.system.alerts = s.ports.system.alerts ∧
    (s.pageAccepted).ports.panel.outgoing = s.ports.panel.outgoing ∧
    (s.pageAccepted).ports.panel.digits = s.ports.panel.digits ∧
    (s.pageAccepted).ports.panel.transfer = s.ports.panel.transfer ∧
    (s.pageAccepted).ports.panel.alerts = s.ports.panel.alerts ∧
    (s.pageAccepted).sys = s.sys ∧
    (s.pageAccepted).pan = s.pan := by
  unfold State.pageAccepted; try dsimp only
  repeat' split
  all_goals simp

@[simp] theorem State.resendPage_keeps (s : State) :
    (s.resendPage).ccu.line = s.ccu.line ∧
    (s.resendPage).ccu.call.active = s.ccu.call.active ∧
    (s.resendPage).ccu.call.number = s.ccu.call.number ∧
    (s.resendPage).ccu.call.direction = s.ccu.call.direction ∧
    (s.resendPage).ccu.call.holder = s.ccu.call.holder ∧
    (s.resendPage).ccu.call.job = s.ccu.call.job ∧
    (s.resendPage).ccu.call.dialList = s.ccu.call.dialList ∧
    (s.resendPage).ccu.call.farEndRinging = s.ccu.call.farEndRinging ∧
    (s.resendPage).ccu.call.callerStatus = s.ccu.call.callerStatus ∧
    (s.resendPage).ccu.call.callerNumber = s.ccu.call.callerNumber ∧
    (s.resendPage).ccu.call.callerName = s.ccu.call.callerName ∧
    (s.resendPage).ccu.call.ringPattern = s.ccu.call.ringPattern ∧
    (s.resendPage).ccu.call.ringCount = s.ccu.call.ringCount ∧
    (s.resendPage).ccu.call.startTime = s.ccu.call.startTime ∧
    (s.resendPage).ccu.call.linkedId = s.ccu.call.linkedId ∧
    (s.resendPage).ccu.call.lastQuality = s.ccu.call.lastQuality ∧
    (s.resendPage).ccu.call.seconds = s.ccu.call.seconds ∧
    (s.resendPage).ccu.call.cause = s.ccu.call.cause ∧
    (s.resendPage).ccu.dialler = s.ccu.dialler ∧
    (s.resendPage).ccu.lastNumber = s.ccu.lastNumber ∧
    (s.resendPage).ccu.ending = s.ccu.ending ∧
    (s.resendPage).ccu.blind = s.ccu.blind ∧
    (s.resendPage).ccu.claims = s.ccu.claims ∧
    (s.resendPage).ccu.history = s.ccu.history ∧
    (s.resendPage).lif = s.lif ∧
    (s.resendPage).timers.e0 = s.timers.e0 ∧
    (s.resendPage).timers.e1 = s.timers.e1 ∧
    (s.resendPage).timers.e3 = s.timers.e3 ∧
    (s.resendPage).timers.e4 = s.timers.e4 ∧
    (s.resendPage).timers.e5 = s.timers.e5 ∧
    (s.resendPage).timers.e6 = s.timers.e6 ∧
    (s.resendPage).timers.e7 = s.timers.e7 ∧
    (s.resendPage).tone = s.tone ∧
    (s.resendPage).rau = s.rau ∧
    (s.resendPage).level = s.level ∧
    (s.resendPage).pump.mode = s.pump.mode ∧
    (s.resendPage).pump.role = s.pump.role ∧
    (s.resendPage).pump.phase = s.pump.phase ∧
    (s.resendPage).pump.localCeiling = s.pump.localCeiling ∧
    (s.resendPage).pump.localFloor = s.pump.localFloor ∧
    (s.resendPage).pump.peerMax = s.pump.peerMax ∧
    (s.resendPage).pump.negCeiling = s.pump.negCeiling ∧
    (s.resendPage).pump.negFloor = s.pump.negFloor ∧
    (s.resendPage).pump.below = s.pump.below ∧
    (s.resendPage).pump.above = s.pump.above ∧
    (s.resendPage).pump.retrains = s.pump.retrains ∧
    (s.resendPage).pump.linkStarted = s.pump.linkStarted ∧
    (s.resendPage).pump.request = s.pump.request ∧
    (s.resendPage).pump.answerTone = s.pump.answerTone ∧
    (s.resendPage).pump.heardMax = s.pump.heardMax ∧
    (s.resendPage).pump.heardAck = s.pump.heardAck ∧
    (s.resendPage).pump.stage = s.pump.stage ∧
    (s.resendPage).pump.ownAccept = s.pump.ownAccept ∧
    (s.resendPage).pump.farAccept = s.pump.farAccept ∧
    (s.resendPage).pump.confirmed = s.pump.confirmed ∧
    (s.resendPage).link.mode = s.link.mode ∧
    (s.resendPage).link.paused = s.link.paused ∧
    (s.resendPage).link.attempts = s.link.attempts ∧
    (s.resendPage).link.windowSize = s.link.windowSize ∧
    (s.resendPage).link.payloadSize = s.link.payloadSize ∧
    (s.resendPage).link.vs = s.link.vs ∧
    (s.resendPage).link.window = s.link.window ∧
    (s.resendPage).link.resendMark = s.link.resendMark ∧
    (s.resendPage).link.retries = s.link.retries ∧
    (s.resendPage).link.peerBusy = s.link.peerBusy ∧
    (s.resendPage).link.vr = s.link.vr ∧
    (s.resendPage).link.rejectFlag = s.link.rejectFlag ∧
    (s.resendPage).link.ackOwed = s.link.ackOwed ∧
    (s.resendPage).link.busyAckOwed = s.link.busyAckOwed ∧
    (s.resendPage).link.ownBusy = s.link.ownBusy ∧
    (s.resendPage).link.rejectOwed = s.link.rejectOwed ∧
    (s.resendPage).link.clearOwed = s.link.clearOwed ∧
    (s.resendPage).link.reqDue = s.link.reqDue ∧
    (s.resendPage).link.confSetup = s.link.confSetup ∧
    (s.resendPage).link.confDue = s.link.confDue ∧
    (s.resendPage).link.peerOffer = s.link.peerOffer ∧
    (s.resendPage).link.byFarEnd = s.link.byFarEnd ∧
    (s.resendPage).link.policy = s.link.policy ∧
    (s.resendPage).link.offer = s.link.offer ∧
    (s.resendPage).link.stats = s.link.stats ∧
    (s.resendPage).link.outbound = s.link.outbound ∧
    (s.resendPage).link.inbound = s.link.inbound ∧
    (s.resendPage).fax.role = s.fax.role ∧
    (s.resendPage).fax.place = s.fax.place ∧
    (s.resendPage).fax.floor = s.fax.floor ∧
    (s.resendPage).fax.ceiling = s.fax.ceiling ∧
    (s.resendPage).fax.resolution = s.fax.resolution ∧
    (s.resendPage).fax.scanMs = s.fax.scanMs ∧
    (s.resendPage).fax.page = s.fax.page ∧
    (s.resendPage).fax.accepted = s.fax.accepted ∧
    (s.resendPage).fax.linkedId = s.fax.linkedId ∧
    (s.resendPage).fax.pageStart = s.fax.pageStart ∧
    (s.resendPage).fax.windows = s.fax.windows ∧
    (s.resendPage).fax.badWindows = s.fax.badWindows ∧
    (s.resendPage).fax.overflow = s.fax.overflow ∧
    (s.resendPage).fax.retries = s.fax.retries ∧
    (s.resendPage).fax.more = s.fax.more ∧
    (s.resendPage).fax.checkOverloaded = s.fax.checkOverloaded ∧
    (s.resendPage).fax.dataBegun = s.fax.dataBegun ∧
    (s.resendPage).fax.inPair = s.fax.inPair ∧
    (s.resendPage).fax.lineLength = s.fax.lineLength ∧
    (s.resendPage).fax.position = s.fax.position ∧
    (s.resendPage).fax.pageFromPort = s.fax.pageFromPort ∧
    (s.resendPage).fax.markSent = s.fax.markSent ∧
    (s.resendPage).fax.markInQueue = s.fax.markInQueue ∧
    (s.resendPage).fax.endAfter = s.fax.endAfter ∧
    (s.resendPage).fax.answered = s.fax.answered ∧
    (s.resendPage).voice = s.voice ∧
    (s.resendPage).store = s.store ∧
    (s.resendPage).ports = s.ports ∧
    (s.resendPage).sys = s.sys ∧
    (s.resendPage).pan = s.pan := by
  unfold State.resendPage; try dsimp only
  repeat' split
  all_goals simp

@[simp] theorem State.settleCapture_keeps (s : State) (middle : Bool) :
    (s.settleCapture middle).ccu = s.ccu ∧
    (s.settleCapture middle).lif = s.lif ∧
    (s.settleCapture middle).timers = s.timers ∧
    (s.settleCapture middle).tone = s.tone ∧
    (s.settleCapture middle).rau.episode = s.rau.episode ∧
    (s.settleCapture middle).rau.presence = s.rau.presence ∧
    (s.settleCapture middle).rau.deadlines = s.rau.deadlines ∧
    (s.settleCapture middle).rau.discr = s.rau.discr ∧
    (s.settleCapture middle).level = s.level ∧
    (s.settleCapture middle).pump = s.pump ∧
    (s.settleCapture middle).link = s.link ∧
    (s.settleCapture middle).fax = s.fax ∧
    (s.settleCapture middle).voice = s.voice ∧
    (s.settleCapture middle).store = s.store ∧
    (s.settleCapture middle).ports.system.outgoing = s.ports.system.outgoing ∧
    (s.settleCapture middle).ports.system.digits = s.ports.system.digits ∧
    (s.settleCapture middle).ports.system.transfer = s.ports.system.transfer ∧
    (s.settleCapture middle).ports.system.alerts = s.ports.system.alerts ∧
    (s.settleCapture middle).ports.panel.outgoing = s.ports.panel.outgoing ∧
    (s.settleCapture middle).ports.panel.digits = s.ports.panel.digits ∧
    (s.settleCapture middle).ports.panel.transfer = s.ports.panel.transfer ∧
    (s.settleCapture middle).ports.panel.alerts = s.ports.panel.alerts ∧
    (s.settleCapture middle).sys = s.sys ∧
    (s.settleCapture middle).pan = s.pan := by
  unfold State.settleCapture; try dsimp only
  repeat' split
  all_goals simp

@[simp] theorem State.dropCallDetectors_keeps (s : State) (digits : Bool) :
    (s.dropCallDetectors digits).tone.generator = s.tone.generator ∧
    (s.dropCallDetectors digits).tone.answer = s.tone.answer ∧
    (s.dropCallDetectors digits).tone.classifier = s.tone.classifier ∧
    (s.dropCallDetectors digits).tone.voiceBlocks = s.tone.voiceBlocks := by
  unfold State.dropCallDetectors; try dsimp only
  repeat' split
  all_goals simp

@[simp] theorem State.handOver_keeps (s : State) (holder : Party) (job : Job) :
    (s.handOver holder job).ccu.line = s.ccu.line ∧
    (s.handOver holder job).ccu.call.active = s.ccu.call.active ∧
    (s.handOver holder job).ccu.call.number = s.ccu.call.number ∧
    (s.handOver holder job).ccu.call.direction = s.ccu.call.direction ∧
    (s.handOver holder job).ccu.call.phase = s.ccu.call.phase ∧
    (s.handOver holder job).ccu.call.dialList = s.ccu.call.dialList ∧
    (s.handOver holder job).ccu.call.farEndRinging = s.ccu.call.farEndRinging ∧
    (s.handOver holder job).ccu.call.callerStatus = s.ccu.call.callerStatus ∧
    (s.handOver holder job).ccu.call.callerNumber = s.ccu.call.callerNumber ∧
    (s.handOver holder job).ccu.call.callerName = s.ccu.call.callerName ∧
    (s.handOver holder job).ccu.call.ringPattern = s.ccu.call.ringPattern ∧
    (s.handOver holder job).ccu.call.ringCount = s.ccu.call.ringCount ∧
    (s.handOver holder job).ccu.call.startTime = s.ccu.call.startTime ∧
    (s.handOver holder job).ccu.call.linkedId = s.ccu.call.linkedId ∧
    (s.handOver holder job).ccu.call.rung = s.ccu.call.rung ∧
    (s.handOver holder job).ccu.call.lastQuality = s.ccu.call.lastQuality ∧
    (s.handOver holder job).ccu.call.seconds = s.ccu.call.seconds ∧
    (s.handOver holder job).ccu.call.cause = s.ccu.call.cause ∧
    (s.handOver holder job).ccu.dialler = s.ccu.dialler ∧
    (s.handOver holder job).ccu.lastNumber = s.ccu.lastNumber ∧
    (s.handOver holder job).ccu.ending = s.ccu.ending ∧
    (s.handOver holder job).ccu.blind = s.ccu.blind ∧
    (s.handOver holder job).ccu.claims = s.ccu.claims ∧
    (s.handOver holder job).ccu.history = s.ccu.history ∧
    (s.handOver holder job).ccu.t2Use = s.ccu.t2Use ∧
    (s.handOver holder job).lif = s.lif ∧
    (s.handOver holder job).timers = s.timers ∧
    (s.handOver holder job).tone.generator = s.tone.generator ∧
    (s.handOver holder job).tone.answer = s.tone.answer ∧
    (s.handOver holder job).tone.classifier = s.tone.classifier ∧
    (s.handOver holder job).tone.voiceBlocks = s.tone.voiceBlocks ∧
    (s.handOver holder job).rau.episode = s.rau.episode ∧
    (s.handOver holder job).rau.caller = s.rau.caller ∧
    (s.handOver holder job).rau.presence = s.rau.presence ∧
    (s.handOver holder job).rau.deadlines = s.rau.deadlines ∧
    (s.handOver holder job).level = s.level ∧
    (s.handOver holder job).pump = s.pump ∧
    (s.handOver holder job).link = s.link ∧
    (s.handOver holder job).fax = s.fax ∧
    (s.handOver holder job).voice.op.state = s.voice.op.state ∧
    (s.handOver holder job).voice.op.operation = s.voice.op.operation ∧
    (s.handOver holder job).voice.op.endpoint = s.voice.op.endpoint ∧
    (s.handOver holder job).voice.op.message = s.voice.op.message ∧
    (s.handOver holder job).voice.op.kind = s.voice.op.kind ∧
    (s.handOver holder job).voice.op.slot = s.voice.op.slot ∧
    (s.handOver holder job).voice.op.offset = s.voice.op.offset ∧
    (s.handOver holder job).voice.op.stopOnDigit = s.voice.op.stopOnDigit ∧
    (s.handOver holder job).voice.op.vox = s.voice.op.vox ∧
    (s.handOver holder job).voice.op.maxCode = s.voice.op.maxCode ∧
    (s.handOver holder job).voice.op.written = s.voice.op.written ∧
    (s.handOver holder job).voice.op.loud = s.voice.op.loud ∧
    (s.handOver holder job).voice.op.lastLoud = s.voice.op.lastLoud ∧
    (s.handOver holder job).voice.op.pausedOp = s.voice.op.pausedOp ∧
    (s.handOver holder job).voice.op.clamps = s.voice.op.clamps ∧
    (s.handOver holder job).voice.op.codec = s.voice.op.codec ∧
    (s.handOver holder job).voice.op.lowNext = s.voice.op.lowNext ∧
    (s.handOver holder job).voice.op.halfByte = s.voice.op.halfByte ∧
    (s.handOver holder job).voice.op.waiting = s.voice.op.waiting ∧
    (s.handOver holder job).voice.op.inBlock = s.voice.op.inBlock ∧
    (s.handOver holder job).voice.op.taken = s.voice.op.taken ∧
    (s.handOver holder job).voice.op.blocks = s.voice.op.blocks ∧
    (s.handOver holder job).voice.op.lastLoudByte = s.voice.op.lastLoudByte ∧
    (s.handOver holder job).voice.op.reason = s.voice.op.reason ∧
    (s.handOver holder job).voice.resume = s.voice.resume ∧
    (s.handOver holder job).voice.remote = s.voice.remote ∧
    (s.handOver holder job).store = s.store ∧
    (s.handOver holder job).ports.system.outgoing = s.ports.system.outgoing ∧
    (s.handOver holder job).ports.system.digits = s.ports.system.digits ∧
    (s.handOver holder job).ports.system.transfer = s.ports.system.transfer ∧
    (s.handOver holder job).ports.system.alerts = s.ports.system.alerts ∧
    (s.handOver holder job).ports.panel.outgoing = s.ports.panel.outgoing ∧
    (s.handOver holder job).ports.panel.digits = s.ports.panel.digits ∧
    (s.handOver holder job).ports.panel.transfer = s.ports.panel.transfer ∧
    (s.handOver holder job).ports.panel.alerts = s.ports.panel.alerts ∧
    (s.handOver holder job).sys = s.sys ∧
    (s.handOver holder job).pan = s.pan := by
  unfold State.handOver; try dsimp only
  repeat' split
  all_goals simp

@[simp] theorem State.faxHandOver_keeps (s : State) (holder : Party) :
    (s.faxHandOver holder).ccu.call.number = s.ccu.call.number ∧
    (s.faxHandOver holder).ccu.call.direction = s.ccu.call.direction ∧
    (s.faxHandOver holder).ccu.call.dialList = s.ccu.call.dialList ∧
    (s.faxHandOver holder).ccu.call.farEndRinging = s.ccu.call.farEndRinging ∧
    (s.faxHandOver holder).ccu.call.callerStatus = s.ccu.call.callerStatus ∧
    (s.faxHandOver holder).ccu.call.callerNumber = s.ccu.call.callerNumber ∧
    (s.faxHandOver holder).ccu.call.callerName = s.ccu.call.callerName ∧
    (s.faxHandOver holder).ccu.call.ringPattern = s.ccu.call.ringPattern ∧
    (s.faxHandOver holder).ccu.call.ringCount = s.ccu.call.ringCount ∧
    (s.faxHandOver holder).ccu.call.startTime = s.ccu.call.startTime ∧
    (s.faxHandOver holder).ccu.call.rung = s.ccu.call.rung ∧
    (s.faxHandOver holder).ccu.call.lastQuality = s.ccu.call.lastQuality ∧
    (s.faxHandOver holder).ccu.call.seconds = s.ccu.call.seconds ∧
    (s.faxHandOver holder).ccu.dialler.cursor = s.ccu.dialler.cursor ∧
    (s.faxHandOver holder).ccu.dialler.breaksEnded = s.ccu.dialler.breaksEnded ∧
    (s.faxHandOver holder).ccu.dialler.lastMake = s.ccu.dialler.lastMake ∧
    (s.faxHandOver holder).ccu.lastNumber = s.ccu.lastNumber ∧
    (s.faxHandOver holder).ccu.blind = s.ccu.blind ∧
    (s.faxHandOver holder).ccu.claims = s.ccu.claims ∧
    (s.faxHandOver holder).lif.ringPresent = s.lif.ringPresent ∧
    (s.faxHandOver holder).lif.hangover = s.lif.hangover ∧
    (s.faxHandOver holder).lif.voltageBelow = s.lif.voltageBelow ∧
    (s.faxHandOver holder).lif.currentBelow = s.lif.currentBelow ∧
    (s.faxHandOver holder).lif.pickupLatch = s.lif.pickupLatch ∧
    (s.faxHandOver holder).timers.e7 = s.timers.e7 ∧
    (s.faxHandOver holder).rau.episode = s.rau.episode ∧
    (s.faxHandOver holder).rau.caller = s.rau.caller ∧
    (s.faxHandOver holder).rau.presence = s.rau.presence ∧
    (s.faxHandOver holder).rau.deadlines = s.rau.deadlines ∧
    (s.faxHandOver holder).ports.system.outgoing = s.ports.system.outgoing ∧
    (s.faxHandOver holder).ports.system.digits = s.ports.system.digits ∧
    (s.faxHandOver holder).ports.system.transfer = s.ports.system.transfer ∧
    (s.faxHandOver holder).ports.panel.outgoing = s.ports.panel.outgoing ∧
    (s.faxHandOver holder).ports.panel.digits = s.ports.panel.digits ∧
    (s.faxHandOver holder).ports.panel.transfer = s.ports.panel.transfer ∧
    (s.faxHandOver holder).sys.ready = s.sys.ready ∧
    (s.faxHandOver holder).sys.rts = s.sys.rts ∧
    (s.faxHandOver holder).sys.rate = s.sys.rate ∧
    (s.faxHandOver holder).sys.notice = s.sys.notice ∧
    (s.faxHandOver holder).sys.escape = s.sys.escape ∧
    (s.faxHandOver holder).pan = s.pan := by
  unfold State.faxHandOver; try dsimp only
  repeat' split
  all_goals simp

@[simp] theorem State.faxBranch_keeps (s : State) :
    (s.faxBranch).ccu.call.number = s.ccu.call.number ∧
    (s.faxBranch).ccu.call.direction = s.ccu.call.direction ∧
    (s.faxBranch).ccu.call.dialList = s.ccu.call.dialList ∧
    (s.faxBranch).ccu.call.farEndRinging = s.ccu.call.farEndRinging ∧
    (s.faxBranch).ccu.call.callerStatus = s.ccu.call.callerStatus ∧
    (s.faxBranch).ccu.call.callerNumber = s.ccu.call.callerNumber ∧
    (s.faxBranch).ccu.call.callerName = s.ccu.call.callerName ∧
    (s.faxBranch).ccu.call.ringPattern = s.ccu.call.ringPattern ∧
    (s.faxBranch).ccu.call.ringCount = s.ccu.call.ringCount ∧
    (s.faxBranch).ccu.call.startTime = s.ccu.call.startTime ∧
    (s.faxBranch).ccu.call.rung = s.ccu.call.rung ∧
    (s.faxBranch).ccu.call.lastQuality = s.ccu.call.lastQuality ∧
    (s.faxBranch).ccu.call.seconds = s.ccu.call.seconds ∧
    (s.faxBranch).ccu.dialler.cursor = s.ccu.dialler.cursor ∧
    (s.faxBranch).ccu.dialler.breaksEnded = s.ccu.dialler.breaksEnded ∧
    (s.faxBranch).ccu.dialler.lastMake = s.ccu.dialler.lastMake ∧
    (s.faxBranch).ccu.lastNumber = s.ccu.lastNumber ∧
    (s.faxBranch).ccu.blind = s.ccu.blind ∧
    (s.faxBranch).ccu.claims = s.ccu.claims ∧
    (s.faxBranch).lif.ringPresent = s.lif.ringPresent ∧
    (s.faxBranch).lif.hangover = s.lif.hangover ∧
    (s.faxBranch).lif.voltageBelow = s.lif.voltageBelow ∧
    (s.faxBranch).lif.currentBelow = s.lif.currentBelow ∧
    (s.faxBranch).lif.pickupLatch = s.lif.pickupLatch ∧
    (s.faxBranch).timers.e7 = s.timers.e7 ∧
    (s.faxBranch).rau.episode = s.rau.episode ∧
    (s.faxBranch).rau.caller = s.rau.caller ∧
    (s.faxBranch).rau.presence = s.rau.presence ∧
    (s.faxBranch).rau.deadlines = s.rau.deadlines ∧
    (s.faxBranch).ports.system.outgoing = s.ports.system.outgoing ∧
    (s.faxBranch).ports.system.digits = s.ports.system.digits ∧
    (s.faxBranch).ports.system.transfer = s.ports.system.transfer ∧
    (s.faxBranch).ports.panel.outgoing = s.ports.panel.outgoing ∧
    (s.faxBranch).ports.panel.digits = s.ports.panel.digits ∧
    (s.faxBranch).ports.panel.transfer = s.ports.panel.transfer ∧
    (s.faxBranch).sys.ready = s.sys.ready ∧
    (s.faxBranch).sys.rts = s.sys.rts ∧
    (s.faxBranch).sys.rate = s.sys.rate ∧
    (s.faxBranch).sys.notice = s.sys.notice ∧
    (s.faxBranch).sys.escape = s.sys.escape ∧
    (s.faxBranch).pan = s.pan := by
  unfold State.faxBranch; try dsimp only
  repeat' split
  all_goals simp

@[simp] theorem State.dataBranch_keeps (s : State) :
    (s.dataBranch).ccu.call.number = s.ccu.call.number ∧
    (s.dataBranch).ccu.call.direction = s.ccu.call.direction ∧
    (s.dataBranch).ccu.call.dialList = s.ccu.call.dialList ∧
    (s.dataBranch).ccu.call.farEndRinging = s.ccu.call.farEndRinging ∧
    (s.dataBranch).ccu.call.callerStatus = s.ccu.call.callerStatus ∧
    (s.dataBranch).ccu.call.callerNumber = s.ccu.call.callerNumber ∧
    (s.dataBranch).ccu.call.callerName = s.ccu.call.callerName ∧
    (s.dataBranch).ccu.call.ringPattern = s.ccu.call.ringPattern ∧
    (s.dataBranch).ccu.call.ringCount = s.ccu.call.ringCount ∧
    (s.dataBranch).ccu.call.startTime = s.ccu.call.startTime ∧
    (s.dataBranch).ccu.call.rung = s.ccu.call.rung ∧
    (s.dataBranch).ccu.call.lastQuality = s.ccu.call.lastQuality ∧
    (s.dataBranch).ccu.call.seconds = s.ccu.call.seconds ∧
    (s.dataBranch).ccu.dialler.cursor = s.ccu.dialler.cursor ∧
    (s.dataBranch).ccu.dialler.breaksEnded = s.ccu.dialler.breaksEnded ∧
    (s.dataBranch).ccu.dialler.lastMake = s.ccu.dialler.lastMake ∧
    (s.dataBranch).ccu.lastNumber = s.ccu.lastNumber ∧
    (s.dataBranch).ccu.blind = s.ccu.blind ∧
    (s.dataBranch).ccu.claims = s.ccu.claims ∧
    (s.dataBranch).lif.ringPresent = s.lif.ringPresent ∧
    (s.dataBranch).lif.hangover = s.lif.hangover ∧
    (s.dataBranch).lif.voltageBelow = s.lif.voltageBelow ∧
    (s.dataBranch).lif.currentBelow = s.lif.currentBelow ∧
    (s.dataBranch).lif.pickupLatch = s.lif.pickupLatch ∧
    (s.dataBranch).timers.e7 = s.timers.e7 ∧
    (s.dataBranch).rau.episode = s.rau.episode ∧
    (s.dataBranch).rau.caller = s.rau.caller ∧
    (s.dataBranch).rau.presence = s.rau.presence ∧
    (s.dataBranch).rau.deadlines = s.rau.deadlines ∧
    (s.dataBranch).fax.role = s.fax.role ∧
    (s.dataBranch).fax.place = s.fax.place ∧
    (s.dataBranch).fax.rung = s.fax.rung ∧
    (s.dataBranch).fax.floor = s.fax.floor ∧
    (s.dataBranch).fax.ceiling = s.fax.ceiling ∧
    (s.dataBranch).fax.resolution = s.fax.resolution ∧
    (s.dataBranch).fax.scanMs = s.fax.scanMs ∧
    (s.dataBranch).fax.page = s.fax.page ∧
    (s.dataBranch).fax.attempts = s.fax.attempts ∧
    (s.dataBranch).fax.accepted = s.fax.accepted ∧
    (s.dataBranch).fax.linkedId = s.fax.linkedId ∧
    (s.dataBranch).fax.pageStart = s.fax.pageStart ∧
    (s.dataBranch).fax.windows = s.fax.windows ∧
    (s.dataBranch).fax.badWindows = s.fax.badWindows ∧
    (s.dataBranch).fax.overflow = s.fax.overflow ∧
    (s.dataBranch).fax.retries = s.fax.retries ∧
    (s.dataBranch).fax.lastFrame = s.fax.lastFrame ∧
    (s.dataBranch).fax.more = s.fax.more ∧
    (s.dataBranch).fax.checkOverloaded = s.fax.checkOverloaded ∧
    (s.dataBranch).fax.inPair = s.fax.inPair ∧
    (s.dataBranch).fax.lineLength = s.fax.lineLength ∧
    (s.dataBranch).fax.position = s.fax.position ∧
    (s.dataBranch).fax.pageFromPort = s.fax.pageFromPort ∧
    (s.dataBranch).fax.markSent = s.fax.markSent ∧
    (s.dataBranch).fax.markInQueue = s.fax.markInQueue ∧
    (s.dataBranch).ports.system.outgoing = s.ports.system.outgoing ∧
    (s.dataBranch).ports.system.digits = s.ports.system.digits ∧
    (s.dataBranch).ports.system.transfer = s.ports.system.transfer ∧
    (s.dataBranch).ports.panel.outgoing = s.ports.panel.outgoing ∧
    (s.dataBranch).ports.panel.digits = s.ports.panel.digits ∧
    (s.dataBranch).ports.panel.transfer = s.ports.panel.transfer ∧
    (s.dataBranch).sys.ready = s.sys.ready ∧
    (s.dataBranch).sys.rts = s.sys.rts ∧
    (s.dataBranch).sys.rate = s.sys.rate ∧
    (s.dataBranch).sys.notice = s.sys.notice ∧
    (s.dataBranch).sys.escape = s.sys.escape ∧
    (s.dataBranch).pan = s.pan := by
  unfold State.dataBranch; try dsimp only
  repeat' split
  all_goals simp

@[simp] theorem State.discrTo_keeps (s : State) (p : DiscrPhase) :
    (s.discrTo p).ccu.line = s.ccu.line ∧
    (s.discrTo p).ccu.call.active = s.ccu.call.active ∧
    (s.discrTo p).ccu.call.number = s.ccu.call.number ∧
    (s.discrTo p).ccu.call.direction = s.ccu.call.direction ∧
    (s.discrTo p).ccu.call.holder = s.ccu.call.holder ∧
    (s.discrTo p).ccu.call.job = s.ccu.call.job ∧
    (s.discrTo p).ccu.call.dialList = s.ccu.call.dialList ∧
    (s.discrTo p).ccu.call.farEndRinging = s.ccu.call.farEndRinging ∧
    (s.discrTo p).ccu.call.callerStatus = s.ccu.call.callerStatus ∧
    (s.discrTo p).ccu.call.callerNumber = s.ccu.call.callerNumber ∧
    (s.discrTo p).ccu.call.callerName = s.ccu.call.callerName ∧
    (s.discrTo p).ccu.call.ringPattern = s.ccu.call.ringPattern ∧
    (s.discrTo p).ccu.call.ringCount = s.ccu.call.ringCount ∧
    (s.discrTo p).ccu.call.startTime = s.ccu.call.startTime ∧
    (s.discrTo p).ccu.call.linkedId = s.ccu.call.linkedId ∧
    (s.discrTo p).ccu.call.rung = s.ccu.call.rung ∧
    (s.discrTo p).ccu.call.lastQuality = s.ccu.call.lastQuality ∧
    (s.discrTo p).ccu.call.seconds = s.ccu.call.seconds ∧
    (s.discrTo p).ccu.call.cause = s.ccu.call.cause ∧
    (s.discrTo p).ccu.dialler = s.ccu.dialler ∧
    (s.discrTo p).ccu.lastNumber = s.ccu.lastNumber ∧
    (s.discrTo p).ccu.ending = s.ccu.ending ∧
    (s.discrTo p).ccu.blind = s.ccu.blind ∧
    (s.discrTo p).ccu.claims = s.ccu.claims ∧
    (s.discrTo p).ccu.history = s.ccu.history ∧
    (s.discrTo p).ccu.t2Use = s.ccu.t2Use ∧
    (s.discrTo p).lif = s.lif ∧
    (s.discrTo p).timers = s.timers ∧
    (s.discrTo p).tone = s.tone ∧
    (s.discrTo p).rau.episode = s.rau.episode ∧
    (s.discrTo p).rau.caller = s.rau.caller ∧
    (s.discrTo p).rau.presence = s.rau.presence ∧
    (s.discrTo p).rau.deadlines = s.rau.deadlines ∧
    (s.discrTo p).level = s.level ∧
    (s.discrTo p).pump = s.pump ∧
    (s.discrTo p).link = s.link ∧
    (s.discrTo p).fax = s.fax ∧
    (s.discrTo p).voice = s.voice ∧
    (s.discrTo p).store = s.store ∧
    (s.discrTo p).ports = s.ports ∧
    (s.discrTo p).sys = s.sys ∧
    (s.discrTo p).pan = s.pan := by
  unfold State.discrTo; try dsimp only
  repeat' split
  all_goals simp

@[simp] theorem State.greetingEnd_keeps (s : State) :
    (s.greetingEnd).ccu.call.number = s.ccu.call.number ∧
    (s.greetingEnd).ccu.call.direction = s.ccu.call.direction ∧
    (s.greetingEnd).ccu.call.dialList = s.ccu.call.dialList ∧
    (s.greetingEnd).ccu.call.farEndRinging = s.ccu.call.farEndRinging ∧
    (s.greetingEnd).ccu.call.callerStatus = s.ccu.call.callerStatus ∧
    (s.greetingEnd).ccu.call.callerNumber = s.ccu.call.callerNumber ∧
    (s.greetingEnd).ccu.call.callerName = s.ccu.call.callerName ∧
    (s.greetingEnd).ccu.call.ringPattern = s.ccu.call.ringPattern ∧
    (s.greetingEnd).ccu.call.ringCount = s.ccu.call.ringCount ∧
    (s.greetingEnd).ccu.call.startTime = s.ccu.call.startTime ∧
    (s.greetingEnd).ccu.call.rung = s.ccu.call.rung ∧
    (s.greetingEnd).ccu.call.lastQuality = s.ccu.call.lastQuality ∧
    (s.greetingEnd).ccu.call.seconds = s.ccu.call.seconds ∧
    (s.greetingEnd).ccu.dialler.cursor = s.ccu.dialler.cursor ∧
    (s.greetingEnd).ccu.dialler.breaksEnded = s.ccu.dialler.breaksEnded ∧
    (s.greetingEnd).ccu.dialler.lastMake = s.ccu.dialler.lastMake ∧
    (s.greetingEnd).ccu.lastNumber = s.ccu.lastNumber ∧
    (s.greetingEnd).ccu.blind = s.ccu.blind ∧
    (s.greetingEnd).ccu.claims = s.ccu.claims ∧
    (s.greetingEnd).lif.ringPresent = s.lif.ringPresent ∧
    (s.greetingEnd).lif.hangover = s.lif.hangover ∧
    (s.greetingEnd).lif.voltageBelow = s.lif.voltageBelow ∧
    (s.greetingEnd).lif.currentBelow = s.lif.currentBelow ∧
    (s.greetingEnd).lif.pickupLatch = s.lif.pickupLatch ∧
    (s.greetingEnd).timers.e7 = s.timers.e7 ∧
    (s.greetingEnd).rau.episode = s.rau.episode ∧
    (s.greetingEnd).rau.caller = s.rau.caller ∧
    (s.greetingEnd).rau.presence = s.rau.presence ∧
    (s.greetingEnd).rau.deadlines = s.rau.deadlines ∧
    (s.greetingEnd).ports.system.outgoing = s.ports.system.outgoing ∧
    (s.greetingEnd).ports.system.digits = s.ports.system.digits ∧
    (s.greetingEnd).ports.system.transfer = s.ports.system.transfer ∧
    (s.greetingEnd).ports.panel.outgoing = s.ports.panel.outgoing ∧
    (s.greetingEnd).ports.panel.digits = s.ports.panel.digits ∧
    (s.greetingEnd).ports.panel.transfer = s.ports.panel.transfer ∧
    (s.greetingEnd).sys.ready = s.sys.ready ∧
    (s.greetingEnd).sys.rts = s.sys.rts ∧
    (s.greetingEnd).sys.rate = s.sys.rate ∧
    (s.greetingEnd).sys.notice = s.sys.notice ∧
    (s.greetingEnd).sys.escape = s.sys.escape ∧
    (s.greetingEnd).pan = s.pan := by
  unfold State.greetingEnd; try dsimp only
  repeat' split
  all_goals simp

@[simp] theorem State.startGreeting_keeps (s : State) :
    (s.startGreeting).ccu.call.number = s.ccu.call.number ∧
    (s.startGreeting).ccu.call.direction = s.ccu.call.direction ∧
    (s.startGreeting).ccu.call.dialList = s.ccu.call.dialList ∧
    (s.startGreeting).ccu.call.farEndRinging = s.ccu.call.farEndRinging ∧
    (s.startGreeting).ccu.call.callerStatus = s.ccu.call.callerStatus ∧
    (s.startGreeting).ccu.call.callerNumber = s.ccu.call.callerNumber ∧
    (s.startGreeting).ccu.call.callerName = s.ccu.call.callerName ∧
    (s.startGreeting).ccu.call.ringPattern = s.ccu.call.ringPattern ∧
    (s.startGreeting).ccu.call.ringCount = s.ccu.call.ringCount ∧
    (s.startGreeting).ccu.call.startTime = s.ccu.call.startTime ∧
    (s.startGreeting).ccu.call.rung = s.ccu.call.rung ∧
    (s.startGreeting).ccu.call.lastQuality = s.ccu.call.lastQuality ∧
    (s.startGreeting).ccu.call.seconds = s.ccu.call.seconds ∧
    (s.startGreeting).ccu.dialler.cursor = s.ccu.dialler.cursor ∧
    (s.startGreeting).ccu.dialler.breaksEnded = s.ccu.dialler.breaksEnded ∧
    (s.startGreeting).ccu.dialler.lastMake = s.ccu.dialler.lastMake ∧
    (s.startGreeting).ccu.lastNumber = s.ccu.lastNumber ∧
    (s.startGreeting).ccu.blind = s.ccu.blind ∧
    (s.startGreeting).ccu.claims = s.ccu.claims ∧
    (s.startGreeting).lif.ringPresent = s.lif.ringPresent ∧
    (s.startGreeting).lif.hangover = s.lif.hangover ∧
    (s.startGreeting).lif.voltageBelow = s.lif.voltageBelow ∧
    (s.startGreeting).lif.currentBelow = s.lif.currentBelow ∧
    (s.startGreeting).lif.pickupLatch = s.lif.pickupLatch ∧
    (s.startGreeting).timers.e7 = s.timers.e7 ∧
    (s.startGreeting).rau.episode = s.rau.episode ∧
    (s.startGreeting).rau.caller = s.rau.caller ∧
    (s.startGreeting).rau.presence = s.rau.presence ∧
    (s.startGreeting).rau.deadlines = s.rau.deadlines ∧
    (s.startGreeting).ports.system.outgoing = s.ports.system.outgoing ∧
    (s.startGreeting).ports.system.digits = s.ports.system.digits ∧
    (s.startGreeting).ports.system.transfer = s.ports.system.transfer ∧
    (s.startGreeting).ports.panel.outgoing = s.ports.panel.outgoing ∧
    (s.startGreeting).ports.panel.digits = s.ports.panel.digits ∧
    (s.startGreeting).ports.panel.transfer = s.ports.panel.transfer ∧
    (s.startGreeting).sys.ready = s.sys.ready ∧
    (s.startGreeting).sys.rts = s.sys.rts ∧
    (s.startGreeting).sys.rate = s.sys.rate ∧
    (s.startGreeting).sys.notice = s.sys.notice ∧
    (s.startGreeting).sys.escape = s.sys.escape ∧
    (s.startGreeting).pan = s.pan := by
  unfold State.startGreeting; try dsimp only
  repeat' split
  all_goals simp

@[simp] theorem State.recordingDecision_keeps (s : State) (kept : Bool) :
    (s.recordingDecision kept).ccu.call.number = s.ccu.call.number ∧
    (s.recordingDecision kept).ccu.call.direction = s.ccu.call.direction ∧
    (s.recordingDecision kept).ccu.call.dialList = s.ccu.call.dialList ∧
    (s.recordingDecision kept).ccu.call.farEndRinging = s.ccu.call.farEndRinging ∧
    (s.recordingDecision kept).ccu.call.callerStatus = s.ccu.call.callerStatus ∧
    (s.recordingDecision kept).ccu.call.callerNumber = s.ccu.call.callerNumber ∧
    (s.recordingDecision kept).ccu.call.callerName = s.ccu.call.callerName ∧
    (s.recordingDecision kept).ccu.call.ringPattern = s.ccu.call.ringPattern ∧
    (s.recordingDecision kept).ccu.call.ringCount = s.ccu.call.ringCount ∧
    (s.recordingDecision kept).ccu.call.startTime = s.ccu.call.startTime ∧
    (s.recordingDecision kept).ccu.call.rung = s.ccu.call.rung ∧
    (s.recordingDecision kept).ccu.call.lastQuality = s.ccu.call.lastQuality ∧
    (s.recordingDecision kept).ccu.call.seconds = s.ccu.call.seconds ∧
    (s.recordingDecision kept).ccu.dialler.cursor = s.ccu.dialler.cursor ∧
    (s.recordingDecision kept).ccu.dialler.breaksEnded = s.ccu.dialler.breaksEnded ∧
    (s.recordingDecision kept).ccu.dialler.lastMake = s.ccu.dialler.lastMake ∧
    (s.recordingDecision kept).ccu.lastNumber = s.ccu.lastNumber ∧
    (s.recordingDecision kept).ccu.blind = s.ccu.blind ∧
    (s.recordingDecision kept).ccu.claims = s.ccu.claims ∧
    (s.recordingDecision kept).lif.ringPresent = s.lif.ringPresent ∧
    (s.recordingDecision kept).lif.hangover = s.lif.hangover ∧
    (s.recordingDecision kept).lif.voltageBelow = s.lif.voltageBelow ∧
    (s.recordingDecision kept).lif.currentBelow = s.lif.currentBelow ∧
    (s.recordingDecision kept).lif.pickupLatch = s.lif.pickupLatch ∧
    (s.recordingDecision kept).timers.e7 = s.timers.e7 ∧
    (s.recordingDecision kept).rau.episode = s.rau.episode ∧
    (s.recordingDecision kept).rau.caller = s.rau.caller ∧
    (s.recordingDecision kept).rau.presence = s.rau.presence ∧
    (s.recordingDecision kept).rau.deadlines = s.rau.deadlines ∧
    (s.recordingDecision kept).ports.system.outgoing = s.ports.system.outgoing ∧
    (s.recordingDecision kept).ports.system.digits = s.ports.system.digits ∧
    (s.recordingDecision kept).ports.system.transfer = s.ports.system.transfer ∧
    (s.recordingDecision kept).ports.panel.outgoing = s.ports.panel.outgoing ∧
    (s.recordingDecision kept).ports.panel.digits = s.ports.panel.digits ∧
    (s.recordingDecision kept).ports.panel.transfer = s.ports.panel.transfer ∧
    (s.recordingDecision kept).sys.ready = s.sys.ready ∧
    (s.recordingDecision kept).sys.rts = s.sys.rts ∧
    (s.recordingDecision kept).sys.rate = s.sys.rate ∧
    (s.recordingDecision kept).sys.notice = s.sys.notice ∧
    (s.recordingDecision kept).sys.escape = s.sys.escape ∧
    (s.recordingDecision kept).pan = s.pan := by
  unfold State.recordingDecision; try dsimp only
  repeat' split
  all_goals simp

@[simp] theorem State.startRecording_keeps (s : State) :
    (s.startRecording).ccu.call.number = s.ccu.call.number ∧
    (s.startRecording).ccu.call.direction = s.ccu.call.direction ∧
    (s.startRecording).ccu.call.dialList = s.ccu.call.dialList ∧
    (s.startRecording).ccu.call.farEndRinging = s.ccu.call.farEndRinging ∧
    (s.startRecording).ccu.call.callerStatus = s.ccu.call.callerStatus ∧
    (s.startRecording).ccu.call.callerNumber = s.ccu.call.callerNumber ∧
    (s.startRecording).ccu.call.callerName = s.ccu.call.callerName ∧
    (s.startRecording).ccu.call.ringPattern = s.ccu.call.ringPattern ∧
    (s.startRecording).ccu.call.ringCount = s.ccu.call.ringCount ∧
    (s.startRecording).ccu.call.startTime = s.ccu.call.startTime ∧
    (s.startRecording).ccu.call.rung = s.ccu.call.rung ∧
    (s.startRecording).ccu.call.lastQuality = s.ccu.call.lastQuality ∧
    (s.startRecording).ccu.call.seconds = s.ccu.call.seconds ∧
    (s.startRecording).ccu.dialler.cursor = s.ccu.dialler.cursor ∧
    (s.startRecording).ccu.dialler.breaksEnded = s.ccu.dialler.breaksEnded ∧
    (s.startRecording).ccu.dialler.lastMake = s.ccu.dialler.lastMake ∧
    (s.startRecording).ccu.lastNumber = s.ccu.lastNumber ∧
    (s.startRecording).ccu.blind = s.ccu.blind ∧
    (s.startRecording).ccu.claims = s.ccu.claims ∧
    (s.startRecording).lif.ringPresent = s.lif.ringPresent ∧
    (s.startRecording).lif.hangover = s.lif.hangover ∧
    (s.startRecording).lif.voltageBelow = s.lif.voltageBelow ∧
    (s.startRecording).lif.currentBelow = s.lif.currentBelow ∧
    (s.startRecording).lif.pickupLatch = s.lif.pickupLatch ∧
    (s.startRecording).timers.e7 = s.timers.e7 ∧
    (s.startRecording).rau.episode = s.rau.episode ∧
    (s.startRecording).rau.caller = s.rau.caller ∧
    (s.startRecording).rau.presence = s.rau.presence ∧
    (s.startRecording).rau.deadlines = s.rau.deadlines ∧
    (s.startRecording).ports.system.outgoing = s.ports.system.outgoing ∧
    (s.startRecording).ports.system.digits = s.ports.system.digits ∧
    (s.startRecording).ports.system.transfer = s.ports.system.transfer ∧
    (s.startRecording).ports.panel.outgoing = s.ports.panel.outgoing ∧
    (s.startRecording).ports.panel.digits = s.ports.panel.digits ∧
    (s.startRecording).ports.panel.transfer = s.ports.panel.transfer ∧
    (s.startRecording).sys.ready = s.sys.ready ∧
    (s.startRecording).sys.rts = s.sys.rts ∧
    (s.startRecording).sys.rate = s.sys.rate ∧
    (s.startRecording).sys.notice = s.sys.notice ∧
    (s.startRecording).sys.escape = s.sys.escape ∧
    (s.startRecording).pan = s.pan := by
  have hc := State.startRecord_keeps (s.discrTo .recording) .auto .voiceMsg none .line true s.settings.maxMessageS
  unfold State.startRecording
  try dsimp only
  split <;> rename_i he <;> rw [he] at hc <;> dsimp only at hc <;> (try split) <;> simp [hc]

@[simp] theorem State.recordingOver_keeps (s : State) (r : VoiceReason) :
    (s.recordingOver r).ccu.call.number = s.ccu.call.number ∧
    (s.recordingOver r).ccu.call.direction = s.ccu.call.direction ∧
    (s.recordingOver r).ccu.call.dialList = s.ccu.call.dialList ∧
    (s.recordingOver r).ccu.call.farEndRinging = s.ccu.call.farEndRinging ∧
    (s.recordingOver r).ccu.call.callerStatus = s.ccu.call.callerStatus ∧
    (s.recordingOver r).ccu.call.callerNumber = s.ccu.call.callerNumber ∧
    (s.recordingOver r).ccu.call.callerName = s.ccu.call.callerName ∧
    (s.recordingOver r).ccu.call.ringPattern = s.ccu.call.ringPattern ∧
    (s.recordingOver r).ccu.call.ringCount = s.ccu.call.ringCount ∧
    (s.recordingOver r).ccu.call.startTime = s.ccu.call.startTime ∧
    (s.recordingOver r).ccu.call.rung = s.ccu.call.rung ∧
    (s.recordingOver r).ccu.call.lastQuality = s.ccu.call.lastQuality ∧
    (s.recordingOver r).ccu.call.seconds = s.ccu.call.seconds ∧
    (s.recordingOver r).ccu.dialler.cursor = s.ccu.dialler.cursor ∧
    (s.recordingOver r).ccu.dialler.breaksEnded = s.ccu.dialler.breaksEnded ∧
    (s.recordingOver r).ccu.dialler.lastMake = s.ccu.dialler.lastMake ∧
    (s.recordingOver r).ccu.lastNumber = s.ccu.lastNumber ∧
    (s.recordingOver r).ccu.blind = s.ccu.blind ∧
    (s.recordingOver r).ccu.claims = s.ccu.claims ∧
    (s.recordingOver r).lif.ringPresent = s.lif.ringPresent ∧
    (s.recordingOver r).lif.hangover = s.lif.hangover ∧
    (s.recordingOver r).lif.voltageBelow = s.lif.voltageBelow ∧
    (s.recordingOver r).lif.currentBelow = s.lif.currentBelow ∧
    (s.recordingOver r).lif.pickupLatch = s.lif.pickupLatch ∧
    (s.recordingOver r).timers.e7 = s.timers.e7 ∧
    (s.recordingOver r).rau.episode = s.rau.episode ∧
    (s.recordingOver r).rau.caller = s.rau.caller ∧
    (s.recordingOver r).rau.presence = s.rau.presence ∧
    (s.recordingOver r).rau.deadlines = s.rau.deadlines ∧
    (s.recordingOver r).ports.system.outgoing = s.ports.system.outgoing ∧
    (s.recordingOver r).ports.system.digits = s.ports.system.digits ∧
    (s.recordingOver r).ports.system.transfer = s.ports.system.transfer ∧
    (s.recordingOver r).ports.panel.outgoing = s.ports.panel.outgoing ∧
    (s.recordingOver r).ports.panel.digits = s.ports.panel.digits ∧
    (s.recordingOver r).ports.panel.transfer = s.ports.panel.transfer ∧
    (s.recordingOver r).sys.ready = s.sys.ready ∧
    (s.recordingOver r).sys.rts = s.sys.rts ∧
    (s.recordingOver r).sys.rate = s.sys.rate ∧
    (s.recordingOver r).sys.notice = s.sys.notice ∧
    (s.recordingOver r).sys.escape = s.sys.escape ∧
    (s.recordingOver r).pan = s.pan := by
  unfold State.recordingOver; try dsimp only
  repeat' split
  all_goals simp

@[simp] theorem State.remotePrompt_keeps (s : State) (r : Remote) :
    (s.remotePrompt r).ccu.line = s.ccu.line ∧
    (s.remotePrompt r).ccu.call = s.ccu.call ∧
    (s.remotePrompt r).ccu.dialler = s.ccu.dialler ∧
    (s.remotePrompt r).ccu.lastNumber = s.ccu.lastNumber ∧
    (s.remotePrompt r).ccu.ending = s.ccu.ending ∧
    (s.remotePrompt r).ccu.blind = s.ccu.blind ∧
    (s.remotePrompt r).ccu.claims = s.ccu.claims ∧
    (s.remotePrompt r).ccu.history = s.ccu.history ∧
    (s.remotePrompt r).lif = s.lif ∧
    (s.remotePrompt r).timers.e0 = s.timers.e0 ∧
    (s.remotePrompt r).timers.e1 = s.timers.e1 ∧
    (s.remotePrompt r).timers.e3 = s.timers.e3 ∧
    (s.remotePrompt r).timers.e4 = s.timers.e4 ∧
    (s.remotePrompt r).timers.e5 = s.timers.e5 ∧
    (s.remotePrompt r).timers.e6 = s.timers.e6 ∧
    (s.remotePrompt r).timers.e7 = s.timers.e7 ∧
    (s.remotePrompt r).tone = s.tone ∧
    (s.remotePrompt r).rau = s.rau ∧
    (s.remotePrompt r).level = s.level ∧
    (s.remotePrompt r).pump = s.pump ∧
    (s.remotePrompt r).link = s.link ∧
    (s.remotePrompt r).fax = s.fax ∧
    (s.remotePrompt r).voice.resume = s.voice.resume ∧
    (s.remotePrompt r).store = s.store ∧
    (s.remotePrompt r).ports = s.ports ∧
    (s.remotePrompt r).sys = s.sys ∧
    (s.remotePrompt r).pan = s.pan := by
  unfold State.remotePrompt; try dsimp only
  repeat' split
  all_goals simp

@[simp] theorem State.remotePlay_keeps (s : State) (r : Remote) (i : Nat) :
    (s.remotePlay r i).ccu.line = s.ccu.line ∧
    (s.remotePlay r i).ccu.call = s.ccu.call ∧
    (s.remotePlay r i).ccu.dialler = s.ccu.dialler ∧
    (s.remotePlay r i).ccu.lastNumber = s.ccu.lastNumber ∧
    (s.remotePlay r i).ccu.ending = s.ccu.ending ∧
    (s.remotePlay r i).ccu.blind = s.ccu.blind ∧
    (s.remotePlay r i).ccu.claims = s.ccu.claims ∧
    (s.remotePlay r i).ccu.history = s.ccu.history ∧
    (s.remotePlay r i).lif = s.lif ∧
    (s.remotePlay r i).timers.e0 = s.timers.e0 ∧
    (s.remotePlay r i).timers.e1 = s.timers.e1 ∧
    (s.remotePlay r i).timers.e3 = s.timers.e3 ∧
    (s.remotePlay r i).timers.e4 = s.timers.e4 ∧
    (s.remotePlay r i).timers.e5 = s.timers.e5 ∧
    (s.remotePlay r i).timers.e6 = s.timers.e6 ∧
    (s.remotePlay r i).timers.e7 = s.timers.e7 ∧
    (s.remotePlay r i).tone = s.tone ∧
    (s.remotePlay r i).rau = s.rau ∧
    (s.remotePlay r i).level = s.level ∧
    (s.remotePlay r i).pump = s.pump ∧
    (s.remotePlay r i).link = s.link ∧
    (s.remotePlay r i).fax = s.fax ∧
    (s.remotePlay r i).voice.resume = s.voice.resume ∧
    (s.remotePlay r i).ports = s.ports ∧
    (s.remotePlay r i).sys = s.sys ∧
    (s.remotePlay r i).pan = s.pan := by
  unfold State.remotePlay; try dsimp only
  repeat' split
  all_goals simp

@[simp] theorem State.remoteStart_keeps (s : State) :
    (s.remoteStart).ccu.line = s.ccu.line ∧
    (s.remoteStart).ccu.call = s.ccu.call ∧
    (s.remoteStart).ccu.dialler = s.ccu.dialler ∧
    (s.remoteStart).ccu.lastNumber = s.ccu.lastNumber ∧
    (s.remoteStart).ccu.ending = s.ccu.ending ∧
    (s.remoteStart).ccu.blind = s.ccu.blind ∧
    (s.remoteStart).ccu.claims = s.ccu.claims ∧
    (s.remoteStart).ccu.history = s.ccu.history ∧
    (s.remoteStart).lif = s.lif ∧
    (s.remoteStart).timers.e0 = s.timers.e0 ∧
    (s.remoteStart).timers.e1 = s.timers.e1 ∧
    (s.remoteStart).timers.e3 = s.timers.e3 ∧
    (s.remoteStart).timers.e4 = s.timers.e4 ∧
    (s.remoteStart).timers.e5 = s.timers.e5 ∧
    (s.remoteStart).timers.e6 = s.timers.e6 ∧
    (s.remoteStart).timers.e7 = s.timers.e7 ∧
    (s.remoteStart).tone = s.tone ∧
    (s.remoteStart).rau = s.rau ∧
    (s.remoteStart).level = s.level ∧
    (s.remoteStart).pump = s.pump ∧
    (s.remoteStart).link = s.link ∧
    (s.remoteStart).fax = s.fax ∧
    (s.remoteStart).voice.resume = s.voice.resume ∧
    (s.remoteStart).store = s.store ∧
    (s.remoteStart).ports = s.ports ∧
    (s.remoteStart).sys = s.sys ∧
    (s.remoteStart).pan = s.pan := by
  unfold State.remoteStart; try dsimp only
  repeat' split
  all_goals simp

@[simp] theorem State.becomeRemote_keeps (s : State) :
    (s.becomeRemote).ccu.line = s.ccu.line ∧
    (s.becomeRemote).ccu.call.active = s.ccu.call.active ∧
    (s.becomeRemote).ccu.call.number = s.ccu.call.number ∧
    (s.becomeRemote).ccu.call.direction = s.ccu.call.direction ∧
    (s.becomeRemote).ccu.call.holder = s.ccu.call.holder ∧
    (s.becomeRemote).ccu.call.dialList = s.ccu.call.dialList ∧
    (s.becomeRemote).ccu.call.farEndRinging = s.ccu.call.farEndRinging ∧
    (s.becomeRemote).ccu.call.callerStatus = s.ccu.call.callerStatus ∧
    (s.becomeRemote).ccu.call.callerNumber = s.ccu.call.callerNumber ∧
    (s.becomeRemote).ccu.call.callerName = s.ccu.call.callerName ∧
    (s.becomeRemote).ccu.call.ringPattern = s.ccu.call.ringPattern ∧
    (s.becomeRemote).ccu.call.ringCount = s.ccu.call.ringCount ∧
    (s.becomeRemote).ccu.call.startTime = s.ccu.call.startTime ∧
    (s.becomeRemote).ccu.call.rung = s.ccu.call.rung ∧
    (s.becomeRemote).ccu.call.lastQuality = s.ccu.call.lastQuality ∧
    (s.becomeRemote).ccu.call.seconds = s.ccu.call.seconds ∧
    (s.becomeRemote).ccu.call.cause = s.ccu.call.cause ∧
    (s.becomeRemote).ccu.dialler = s.ccu.dialler ∧
    (s.becomeRemote).ccu.lastNumber = s.ccu.lastNumber ∧
    (s.becomeRemote).ccu.ending = s.ccu.ending ∧
    (s.becomeRemote).ccu.blind = s.ccu.blind ∧
    (s.becomeRemote).ccu.claims = s.ccu.claims ∧
    (s.becomeRemote).ccu.history = s.ccu.history ∧
    (s.becomeRemote).lif = s.lif ∧
    (s.becomeRemote).timers.e0 = s.timers.e0 ∧
    (s.becomeRemote).timers.e1 = s.timers.e1 ∧
    (s.becomeRemote).timers.e3 = s.timers.e3 ∧
    (s.becomeRemote).timers.e4 = s.timers.e4 ∧
    (s.becomeRemote).timers.e5 = s.timers.e5 ∧
    (s.becomeRemote).timers.e7 = s.timers.e7 ∧
    (s.becomeRemote).tone.generator = s.tone.generator ∧
    (s.becomeRemote).tone.answer = s.tone.answer ∧
    (s.becomeRemote).tone.classifier = s.tone.classifier ∧
    (s.becomeRemote).tone.voiceBlocks = s.tone.voiceBlocks ∧
    (s.becomeRemote).rau.episode = s.rau.episode ∧
    (s.becomeRemote).rau.caller = s.rau.caller ∧
    (s.becomeRemote).rau.presence = s.rau.presence ∧
    (s.becomeRemote).rau.deadlines = s.rau.deadlines ∧
    (s.becomeRemote).level = s.level ∧
    (s.becomeRemote).pump.mode = s.pump.mode ∧
    (s.becomeRemote).pump.role = s.pump.role ∧
    (s.becomeRemote).pump.phase = s.pump.phase ∧
    (s.becomeRemote).pump.localCeiling = s.pump.localCeiling ∧
    (s.becomeRemote).pump.localFloor = s.pump.localFloor ∧
    (s.becomeRemote).pump.peerMax = s.pump.peerMax ∧
    (s.becomeRemote).pump.negCeiling = s.pump.negCeiling ∧
    (s.becomeRemote).pump.negFloor = s.pump.negFloor ∧
    (s.becomeRemote).pump.below = s.pump.below ∧
    (s.becomeRemote).pump.above = s.pump.above ∧
    (s.becomeRemote).pump.retrains = s.pump.retrains ∧
    (s.becomeRemote).pump.linkStarted = s.pump.linkStarted ∧
    (s.becomeRemote).pump.request = s.pump.request ∧
    (s.becomeRemote).pump.answerTone = s.pump.answerTone ∧
    (s.becomeRemote).pump.heardMax = s.pump.heardMax ∧
    (s.becomeRemote).pump.heardAck = s.pump.heardAck ∧
    (s.becomeRemote).pump.stage = s.pump.stage ∧
    (s.becomeRemote).pump.ownAccept = s.pump.ownAccept ∧
    (s.becomeRemote).pump.farAccept = s.pump.farAccept ∧
    (s.becomeRemote).pump.confirmed = s.pump.confirmed ∧
    (s.becomeRemote).link.mode = s.link.mode ∧
    (s.becomeRemote).link.paused = s.link.paused ∧
    (s.becomeRemote).link.attempts = s.link.attempts ∧
    (s.becomeRemote).link.windowSize = s.link.windowSize ∧
    (s.becomeRemote).link.payloadSize = s.link.payloadSize ∧
    (s.becomeRemote).link.vs = s.link.vs ∧
    (s.becomeRemote).link.window = s.link.window ∧
    (s.becomeRemote).link.resendMark = s.link.resendMark ∧
    (s.becomeRemote).link.retries = s.link.retries ∧
    (s.becomeRemote).link.peerBusy = s.link.peerBusy ∧
    (s.becomeRemote).link.vr = s.link.vr ∧
    (s.becomeRemote).link.rejectFlag = s.link.rejectFlag ∧
    (s.becomeRemote).link.ackOwed = s.link.ackOwed ∧
    (s.becomeRemote).link.busyAckOwed = s.link.busyAckOwed ∧
    (s.becomeRemote).link.ownBusy = s.link.ownBusy ∧
    (s.becomeRemote).link.rejectOwed = s.link.rejectOwed ∧
    (s.becomeRemote).link.clearOwed = s.link.clearOwed ∧
    (s.becomeRemote).link.reqDue = s.link.reqDue ∧
    (s.becomeRemote).link.confDue = s.link.confDue ∧
    (s.becomeRemote).link.confSetup = s.link.confSetup ∧
    (s.becomeRemote).link.peerOffer = s.link.peerOffer ∧
    (s.becomeRemote).link.byFarEnd = s.link.byFarEnd ∧
    (s.becomeRemote).link.policy = s.link.policy ∧
    (s.becomeRemote).link.offer = s.link.offer ∧
    (s.becomeRemote).link.stats = s.link.stats ∧
    (s.becomeRemote).link.outbound = s.link.outbound ∧
    (s.becomeRemote).link.inbound = s.link.inbound ∧
    (s.becomeRemote).fax = s.fax ∧
    (s.becomeRemote).ports.system.outgoing = s.ports.system.outgoing ∧
    (s.becomeRemote).ports.system.digits = s.ports.system.digits ∧
    (s.becomeRemote).ports.system.transfer = s.ports.system.transfer ∧
    (s.becomeRemote).ports.panel.outgoing = s.ports.panel.outgoing ∧
    (s.becomeRemote).ports.panel.digits = s.ports.panel.digits ∧
    (s.becomeRemote).ports.panel.transfer = s.ports.panel.transfer ∧
    (s.becomeRemote).sys = s.sys ∧
    (s.becomeRemote).pan = s.pan := by
  unfold State.becomeRemote; try dsimp only
  repeat' split
  all_goals simp

@[simp] theorem State.codeDigit_keeps (s : State) (x : Symbol) :
    (s.codeDigit x).ccu.call.number = s.ccu.call.number ∧
    (s.codeDigit x).ccu.call.direction = s.ccu.call.direction ∧
    (s.codeDigit x).ccu.call.holder = s.ccu.call.holder ∧
    (s.codeDigit x).ccu.call.dialList = s.ccu.call.dialList ∧
    (s.codeDigit x).ccu.call.farEndRinging = s.ccu.call.farEndRinging ∧
    (s.codeDigit x).ccu.call.callerStatus = s.ccu.call.callerStatus ∧
    (s.codeDigit x).ccu.call.callerNumber = s.ccu.call.callerNumber ∧
    (s.codeDigit x).ccu.call.callerName = s.ccu.call.callerName ∧
    (s.codeDigit x).ccu.call.ringPattern = s.ccu.call.ringPattern ∧
    (s.codeDigit x).ccu.call.ringCount = s.ccu.call.ringCount ∧
    (s.codeDigit x).ccu.call.startTime = s.ccu.call.startTime ∧
    (s.codeDigit x).ccu.call.rung = s.ccu.call.rung ∧
    (s.codeDigit x).ccu.call.lastQuality = s.ccu.call.lastQuality ∧
    (s.codeDigit x).ccu.call.seconds = s.ccu.call.seconds ∧
    (s.codeDigit x).ccu.dialler.cursor = s.ccu.dialler.cursor ∧
    (s.codeDigit x).ccu.dialler.breaksEnded = s.ccu.dialler.breaksEnded ∧
    (s.codeDigit x).ccu.dialler.lastMake = s.ccu.dialler.lastMake ∧
    (s.codeDigit x).ccu.lastNumber = s.ccu.lastNumber ∧
    (s.codeDigit x).ccu.blind = s.ccu.blind ∧
    (s.codeDigit x).ccu.claims = s.ccu.claims ∧
    (s.codeDigit x).lif.ringPresent = s.lif.ringPresent ∧
    (s.codeDigit x).lif.hangover = s.lif.hangover ∧
    (s.codeDigit x).lif.voltageBelow = s.lif.voltageBelow ∧
    (s.codeDigit x).lif.currentBelow = s.lif.currentBelow ∧
    (s.codeDigit x).lif.pickupLatch = s.lif.pickupLatch ∧
    (s.codeDigit x).timers.e7 = s.timers.e7 ∧
    (s.codeDigit x).rau.episode = s.rau.episode ∧
    (s.codeDigit x).rau.caller = s.rau.caller ∧
    (s.codeDigit x).rau.presence = s.rau.presence ∧
    (s.codeDigit x).rau.deadlines = s.rau.deadlines ∧
    (s.codeDigit x).fax.role = s.fax.role ∧
    (s.codeDigit x).fax.place = s.fax.place ∧
    (s.codeDigit x).fax.rung = s.fax.rung ∧
    (s.codeDigit x).fax.floor = s.fax.floor ∧
    (s.codeDigit x).fax.ceiling = s.fax.ceiling ∧
    (s.codeDigit x).fax.resolution = s.fax.resolution ∧
    (s.codeDigit x).fax.scanMs = s.fax.scanMs ∧
    (s.codeDigit x).fax.page = s.fax.page ∧
    (s.codeDigit x).fax.attempts = s.fax.attempts ∧
    (s.codeDigit x).fax.accepted = s.fax.accepted ∧
    (s.codeDigit x).fax.linkedId = s.fax.linkedId ∧
    (s.codeDigit x).fax.pageStart = s.fax.pageStart ∧
    (s.codeDigit x).fax.windows = s.fax.windows ∧
    (s.codeDigit x).fax.badWindows = s.fax.badWindows ∧
    (s.codeDigit x).fax.overflow = s.fax.overflow ∧
    (s.codeDigit x).fax.retries = s.fax.retries ∧
    (s.codeDigit x).fax.lastFrame = s.fax.lastFrame ∧
    (s.codeDigit x).fax.more = s.fax.more ∧
    (s.codeDigit x).fax.checkOverloaded = s.fax.checkOverloaded ∧
    (s.codeDigit x).fax.inPair = s.fax.inPair ∧
    (s.codeDigit x).fax.lineLength = s.fax.lineLength ∧
    (s.codeDigit x).fax.position = s.fax.position ∧
    (s.codeDigit x).fax.pageFromPort = s.fax.pageFromPort ∧
    (s.codeDigit x).fax.markSent = s.fax.markSent ∧
    (s.codeDigit x).fax.markInQueue = s.fax.markInQueue ∧
    (s.codeDigit x).ports.system.outgoing = s.ports.system.outgoing ∧
    (s.codeDigit x).ports.system.digits = s.ports.system.digits ∧
    (s.codeDigit x).ports.system.transfer = s.ports.system.transfer ∧
    (s.codeDigit x).ports.panel.outgoing = s.ports.panel.outgoing ∧
    (s.codeDigit x).ports.panel.digits = s.ports.panel.digits ∧
    (s.codeDigit x).ports.panel.transfer = s.ports.panel.transfer ∧
    (s.codeDigit x).sys.ready = s.sys.ready ∧
    (s.codeDigit x).sys.rts = s.sys.rts ∧
    (s.codeDigit x).sys.rate = s.sys.rate ∧
    (s.codeDigit x).sys.notice = s.sys.notice ∧
    (s.codeDigit x).sys.escape = s.sys.escape ∧
    (s.codeDigit x).pan = s.pan := by
  unfold State.codeDigit; try dsimp only
  repeat' split
  all_goals simp

@[simp] theorem State.remoteList_keeps (s : State) (r : Remote) (use : ListInUse) (list : List Nat) :
    (s.remoteList r use list).ccu.line = s.ccu.line ∧
    (s.remoteList r use list).ccu.call.active = s.ccu.call.active ∧
    (s.remoteList r use list).ccu.call.number = s.ccu.call.number ∧
    (s.remoteList r use list).ccu.call.direction = s.ccu.call.direction ∧
    (s.remoteList r use list).ccu.call.holder = s.ccu.call.holder ∧
    (s.remoteList r use list).ccu.call.job = s.ccu.call.job ∧
    (s.remoteList r use list).ccu.call.phase = s.ccu.call.phase ∧
    (s.remoteList r use list).ccu.call.dialList = s.ccu.call.dialList ∧
    (s.remoteList r use list).ccu.call.farEndRinging = s.ccu.call.farEndRinging ∧
    (s.remoteList r use list).ccu.call.callerStatus = s.ccu.call.callerStatus ∧
    (s.remoteList r use list).ccu.call.callerNumber = s.ccu.call.callerNumber ∧
    (s.remoteList r use list).ccu.call.callerName = s.ccu.call.callerName ∧
    (s.remoteList r use list).ccu.call.ringPattern = s.ccu.call.ringPattern ∧
    (s.remoteList r use list).ccu.call.ringCount = s.ccu.call.ringCount ∧
    (s.remoteList r use list).ccu.call.startTime = s.ccu.call.startTime ∧
    (s.remoteList r use list).ccu.call.rung = s.ccu.call.rung ∧
    (s.remoteList r use list).ccu.call.lastQuality = s.ccu.call.lastQuality ∧
    (s.remoteList r use list).ccu.call.seconds = s.ccu.call.seconds ∧
    (s.remoteList r use list).ccu.call.cause = s.ccu.call.cause ∧
    (s.remoteList r use list).ccu.dialler = s.ccu.dialler ∧
    (s.remoteList r use list).ccu.lastNumber = s.ccu.lastNumber ∧
    (s.remoteList r use list).ccu.ending = s.ccu.ending ∧
    (s.remoteList r use list).ccu.blind = s.ccu.blind ∧
    (s.remoteList r use list).ccu.claims = s.ccu.claims ∧
    (s.remoteList r use list).ccu.history = s.ccu.history ∧
    (s.remoteList r use list).lif = s.lif ∧
    (s.remoteList r use list).timers.e0 = s.timers.e0 ∧
    (s.remoteList r use list).timers.e1 = s.timers.e1 ∧
    (s.remoteList r use list).timers.e3 = s.timers.e3 ∧
    (s.remoteList r use list).timers.e4 = s.timers.e4 ∧
    (s.remoteList r use list).timers.e5 = s.timers.e5 ∧
    (s.remoteList r use list).timers.e7 = s.timers.e7 ∧
    (s.remoteList r use list).tone = s.tone ∧
    (s.remoteList r use list).rau = s.rau ∧
    (s.remoteList r use list).level = s.level ∧
    (s.remoteList r use list).pump.mode = s.pump.mode ∧
    (s.remoteList r use list).pump.role = s.pump.role ∧
    (s.remoteList r use list).pump.phase = s.pump.phase ∧
    (s.remoteList r use list).pump.localCeiling = s.pump.localCeiling ∧
    (s.remoteList r use list).pump.localFloor = s.pump.localFloor ∧
    (s.remoteList r use list).pump.peerMax = s.pump.peerMax ∧
    (s.remoteList r use list).pump.negCeiling = s.pump.negCeiling ∧
    (s.remoteList r use list).pump.negFloor = s.pump.negFloor ∧
    (s.remoteList r use list).pump.below = s.pump.below ∧
    (s.remoteList r use list).pump.above = s.pump.above ∧
    (s.remoteList r use list).pump.retrains = s.pump.retrains ∧
    (s.remoteList r use list).pump.linkStarted = s.pump.linkStarted ∧
    (s.remoteList r use list).pump.request = s.pump.request ∧
    (s.remoteList r use list).pump.answerTone = s.pump.answerTone ∧
    (s.remoteList r use list).pump.heardMax = s.pump.heardMax ∧
    (s.remoteList r use list).pump.heardAck = s.pump.heardAck ∧
    (s.remoteList r use list).pump.stage = s.pump.stage ∧
    (s.remoteList r use list).pump.ownAccept = s.pump.ownAccept ∧
    (s.remoteList r use list).pump.farAccept = s.pump.farAccept ∧
    (s.remoteList r use list).pump.confirmed = s.pump.confirmed ∧
    (s.remoteList r use list).link.mode = s.link.mode ∧
    (s.remoteList r use list).link.paused = s.link.paused ∧
    (s.remoteList r use list).link.attempts = s.link.attempts ∧
    (s.remoteList r use list).link.windowSize = s.link.windowSize ∧
    (s.remoteList r use list).link.payloadSize = s.link.payloadSize ∧
    (s.remoteList r use list).link.vs = s.link.vs ∧
    (s.remoteList r use list).link.window = s.link.window ∧
    (s.remoteList r use list).link.resendMark = s.link.resendMark ∧
    (s.remoteList r use list).link.retries = s.link.retries ∧
    (s.remoteList r use list).link.peerBusy = s.link.peerBusy ∧
    (s.remoteList r use list).link.vr = s.link.vr ∧
    (s.remoteList r use list).link.rejectFlag = s.link.rejectFlag ∧
    (s.remoteList r use list).link.ackOwed = s.link.ackOwed ∧
    (s.remoteList r use list).link.busyAckOwed = s.link.busyAckOwed ∧
    (s.remoteList r use list).link.ownBusy = s.link.ownBusy ∧
    (s.remoteList r use list).link.rejectOwed = s.link.rejectOwed ∧
    (s.remoteList r use list).link.clearOwed = s.link.clearOwed ∧
    (s.remoteList r use list).link.reqDue = s.link.reqDue ∧
    (s.remoteList r use list).link.confDue = s.link.confDue ∧
    (s.remoteList r use list).link.confSetup = s.link.confSetup ∧
    (s.remoteList r use list).link.peerOffer = s.link.peerOffer ∧
    (s.remoteList r use list).link.byFarEnd = s.link.byFarEnd ∧
    (s.remoteList r use list).link.policy = s.link.policy ∧
    (s.remoteList r use list).link.offer = s.link.offer ∧
    (s.remoteList r use list).link.stats = s.link.stats ∧
    (s.remoteList r use list).link.outbound = s.link.outbound ∧
    (s.remoteList r use list).link.inbound = s.link.inbound ∧
    (s.remoteList r use list).fax = s.fax ∧
    (s.remoteList r use list).ports.system.outgoing = s.ports.system.outgoing ∧
    (s.remoteList r use list).ports.system.digits = s.ports.system.digits ∧
    (s.remoteList r use list).ports.system.transfer = s.ports.system.transfer ∧
    (s.remoteList r use list).ports.panel.outgoing = s.ports.panel.outgoing ∧
    (s.remoteList r use list).ports.panel.digits = s.ports.panel.digits ∧
    (s.remoteList r use list).ports.panel.transfer = s.ports.panel.transfer ∧
    (s.remoteList r use list).sys = s.sys ∧
    (s.remoteList r use list).pan = s.pan := by
  unfold State.remoteList; try dsimp only
  repeat' split
  all_goals simp

@[simp] theorem State.remoteNext_keeps (s : State) (r : Remote) :
    (s.remoteNext r).ccu.line = s.ccu.line ∧
    (s.remoteNext r).ccu.call.active = s.ccu.call.active ∧
    (s.remoteNext r).ccu.call.number = s.ccu.call.number ∧
    (s.remoteNext r).ccu.call.direction = s.ccu.call.direction ∧
    (s.remoteNext r).ccu.call.holder = s.ccu.call.holder ∧
    (s.remoteNext r).ccu.call.job = s.ccu.call.job ∧
    (s.remoteNext r).ccu.call.phase = s.ccu.call.phase ∧
    (s.remoteNext r).ccu.call.dialList = s.ccu.call.dialList ∧
    (s.remoteNext r).ccu.call.farEndRinging = s.ccu.call.farEndRinging ∧
    (s.remoteNext r).ccu.call.callerStatus = s.ccu.call.callerStatus ∧
    (s.remoteNext r).ccu.call.callerNumber = s.ccu.call.callerNumber ∧
    (s.remoteNext r).ccu.call.callerName = s.ccu.call.callerName ∧
    (s.remoteNext r).ccu.call.ringPattern = s.ccu.call.ringPattern ∧
    (s.remoteNext r).ccu.call.ringCount = s.ccu.call.ringCount ∧
    (s.remoteNext r).ccu.call.startTime = s.ccu.call.startTime ∧
    (s.remoteNext r).ccu.call.rung = s.ccu.call.rung ∧
    (s.remoteNext r).ccu.call.lastQuality = s.ccu.call.lastQuality ∧
    (s.remoteNext r).ccu.call.seconds = s.ccu.call.seconds ∧
    (s.remoteNext r).ccu.call.cause = s.ccu.call.cause ∧
    (s.remoteNext r).ccu.dialler = s.ccu.dialler ∧
    (s.remoteNext r).ccu.lastNumber = s.ccu.lastNumber ∧
    (s.remoteNext r).ccu.ending = s.ccu.ending ∧
    (s.remoteNext r).ccu.blind = s.ccu.blind ∧
    (s.remoteNext r).ccu.claims = s.ccu.claims ∧
    (s.remoteNext r).ccu.history = s.ccu.history ∧
    (s.remoteNext r).lif = s.lif ∧
    (s.remoteNext r).timers.e0 = s.timers.e0 ∧
    (s.remoteNext r).timers.e1 = s.timers.e1 ∧
    (s.remoteNext r).timers.e3 = s.timers.e3 ∧
    (s.remoteNext r).timers.e4 = s.timers.e4 ∧
    (s.remoteNext r).timers.e5 = s.timers.e5 ∧
    (s.remoteNext r).timers.e7 = s.timers.e7 ∧
    (s.remoteNext r).tone = s.tone ∧
    (s.remoteNext r).rau = s.rau ∧
    (s.remoteNext r).level = s.level ∧
    (s.remoteNext r).pump.mode = s.pump.mode ∧
    (s.remoteNext r).pump.role = s.pump.role ∧
    (s.remoteNext r).pump.phase = s.pump.phase ∧
    (s.remoteNext r).pump.localCeiling = s.pump.localCeiling ∧
    (s.remoteNext r).pump.localFloor = s.pump.localFloor ∧
    (s.remoteNext r).pump.peerMax = s.pump.peerMax ∧
    (s.remoteNext r).pump.negCeiling = s.pump.negCeiling ∧
    (s.remoteNext r).pump.negFloor = s.pump.negFloor ∧
    (s.remoteNext r).pump.below = s.pump.below ∧
    (s.remoteNext r).pump.above = s.pump.above ∧
    (s.remoteNext r).pump.retrains = s.pump.retrains ∧
    (s.remoteNext r).pump.linkStarted = s.pump.linkStarted ∧
    (s.remoteNext r).pump.request = s.pump.request ∧
    (s.remoteNext r).pump.answerTone = s.pump.answerTone ∧
    (s.remoteNext r).pump.heardMax = s.pump.heardMax ∧
    (s.remoteNext r).pump.heardAck = s.pump.heardAck ∧
    (s.remoteNext r).pump.stage = s.pump.stage ∧
    (s.remoteNext r).pump.ownAccept = s.pump.ownAccept ∧
    (s.remoteNext r).pump.farAccept = s.pump.farAccept ∧
    (s.remoteNext r).pump.confirmed = s.pump.confirmed ∧
    (s.remoteNext r).link.mode = s.link.mode ∧
    (s.remoteNext r).link.paused = s.link.paused ∧
    (s.remoteNext r).link.attempts = s.link.attempts ∧
    (s.remoteNext r).link.windowSize = s.link.windowSize ∧
    (s.remoteNext r).link.payloadSize = s.link.payloadSize ∧
    (s.remoteNext r).link.vs = s.link.vs ∧
    (s.remoteNext r).link.window = s.link.window ∧
    (s.remoteNext r).link.resendMark = s.link.resendMark ∧
    (s.remoteNext r).link.retries = s.link.retries ∧
    (s.remoteNext r).link.peerBusy = s.link.peerBusy ∧
    (s.remoteNext r).link.vr = s.link.vr ∧
    (s.remoteNext r).link.rejectFlag = s.link.rejectFlag ∧
    (s.remoteNext r).link.ackOwed = s.link.ackOwed ∧
    (s.remoteNext r).link.busyAckOwed = s.link.busyAckOwed ∧
    (s.remoteNext r).link.ownBusy = s.link.ownBusy ∧
    (s.remoteNext r).link.rejectOwed = s.link.rejectOwed ∧
    (s.remoteNext r).link.clearOwed = s.link.clearOwed ∧
    (s.remoteNext r).link.reqDue = s.link.reqDue ∧
    (s.remoteNext r).link.confDue = s.link.confDue ∧
    (s.remoteNext r).link.confSetup = s.link.confSetup ∧
    (s.remoteNext r).link.peerOffer = s.link.peerOffer ∧
    (s.remoteNext r).link.byFarEnd = s.link.byFarEnd ∧
    (s.remoteNext r).link.policy = s.link.policy ∧
    (s.remoteNext r).link.offer = s.link.offer ∧
    (s.remoteNext r).link.stats = s.link.stats ∧
    (s.remoteNext r).link.outbound = s.link.outbound ∧
    (s.remoteNext r).link.inbound = s.link.inbound ∧
    (s.remoteNext r).fax = s.fax ∧
    (s.remoteNext r).ports.system.outgoing = s.ports.system.outgoing ∧
    (s.remoteNext r).ports.system.digits = s.ports.system.digits ∧
    (s.remoteNext r).ports.system.transfer = s.ports.system.transfer ∧
    (s.remoteNext r).ports.panel.outgoing = s.ports.panel.outgoing ∧
    (s.remoteNext r).ports.panel.digits = s.ports.panel.digits ∧
    (s.remoteNext r).ports.panel.transfer = s.ports.panel.transfer ∧
    (s.remoteNext r).sys = s.sys ∧
    (s.remoteNext r).pan = s.pan := by
  unfold State.remoteNext; try dsimp only
  repeat' split
  all_goals simp

@[simp] theorem State.remoteAgain_keeps (s : State) (r : Remote) :
    (s.remoteAgain r).ccu = s.ccu ∧
    (s.remoteAgain r).lif = s.lif ∧
    (s.remoteAgain r).timers = s.timers ∧
    (s.remoteAgain r).tone = s.tone ∧
    (s.remoteAgain r).rau = s.rau ∧
    (s.remoteAgain r).level = s.level ∧
    (s.remoteAgain r).pump = s.pump ∧
    (s.remoteAgain r).link = s.link ∧
    (s.remoteAgain r).fax = s.fax ∧
    (s.remoteAgain r).voice.op.message = s.voice.op.message ∧
    (s.remoteAgain r).voice.resume = s.voice.resume ∧
    (s.remoteAgain r).store = s.store ∧
    (s.remoteAgain r).ports = s.ports ∧
    (s.remoteAgain r).sys = s.sys ∧
    (s.remoteAgain r).pan = s.pan := by
  unfold State.remoteAgain; try dsimp only
  repeat' split
  all_goals simp

@[simp] theorem State.remoteDelete_keeps (s : State) (r : Remote) :
    (s.remoteDelete r).ccu.line = s.ccu.line ∧
    (s.remoteDelete r).ccu.call.active = s.ccu.call.active ∧
    (s.remoteDelete r).ccu.call.number = s.ccu.call.number ∧
    (s.remoteDelete r).ccu.call.direction = s.ccu.call.direction ∧
    (s.remoteDelete r).ccu.call.holder = s.ccu.call.holder ∧
    (s.remoteDelete r).ccu.call.job = s.ccu.call.job ∧
    (s.remoteDelete r).ccu.call.phase = s.ccu.call.phase ∧
    (s.remoteDelete r).ccu.call.dialList = s.ccu.call.dialList ∧
    (s.remoteDelete r).ccu.call.farEndRinging = s.ccu.call.farEndRinging ∧
    (s.remoteDelete r).ccu.call.callerStatus = s.ccu.call.callerStatus ∧
    (s.remoteDelete r).ccu.call.callerNumber = s.ccu.call.callerNumber ∧
    (s.remoteDelete r).ccu.call.callerName = s.ccu.call.callerName ∧
    (s.remoteDelete r).ccu.call.ringPattern = s.ccu.call.ringPattern ∧
    (s.remoteDelete r).ccu.call.ringCount = s.ccu.call.ringCount ∧
    (s.remoteDelete r).ccu.call.startTime = s.ccu.call.startTime ∧
    (s.remoteDelete r).ccu.call.rung = s.ccu.call.rung ∧
    (s.remoteDelete r).ccu.call.lastQuality = s.ccu.call.lastQuality ∧
    (s.remoteDelete r).ccu.call.seconds = s.ccu.call.seconds ∧
    (s.remoteDelete r).ccu.call.cause = s.ccu.call.cause ∧
    (s.remoteDelete r).ccu.dialler = s.ccu.dialler ∧
    (s.remoteDelete r).ccu.lastNumber = s.ccu.lastNumber ∧
    (s.remoteDelete r).ccu.ending = s.ccu.ending ∧
    (s.remoteDelete r).ccu.blind = s.ccu.blind ∧
    (s.remoteDelete r).ccu.claims = s.ccu.claims ∧
    (s.remoteDelete r).ccu.history = s.ccu.history ∧
    (s.remoteDelete r).lif = s.lif ∧
    (s.remoteDelete r).timers.e0 = s.timers.e0 ∧
    (s.remoteDelete r).timers.e1 = s.timers.e1 ∧
    (s.remoteDelete r).timers.e3 = s.timers.e3 ∧
    (s.remoteDelete r).timers.e4 = s.timers.e4 ∧
    (s.remoteDelete r).timers.e5 = s.timers.e5 ∧
    (s.remoteDelete r).timers.e7 = s.timers.e7 ∧
    (s.remoteDelete r).tone = s.tone ∧
    (s.remoteDelete r).rau = s.rau ∧
    (s.remoteDelete r).level = s.level ∧
    (s.remoteDelete r).pump.mode = s.pump.mode ∧
    (s.remoteDelete r).pump.role = s.pump.role ∧
    (s.remoteDelete r).pump.phase = s.pump.phase ∧
    (s.remoteDelete r).pump.localCeiling = s.pump.localCeiling ∧
    (s.remoteDelete r).pump.localFloor = s.pump.localFloor ∧
    (s.remoteDelete r).pump.peerMax = s.pump.peerMax ∧
    (s.remoteDelete r).pump.negCeiling = s.pump.negCeiling ∧
    (s.remoteDelete r).pump.negFloor = s.pump.negFloor ∧
    (s.remoteDelete r).pump.below = s.pump.below ∧
    (s.remoteDelete r).pump.above = s.pump.above ∧
    (s.remoteDelete r).pump.retrains = s.pump.retrains ∧
    (s.remoteDelete r).pump.linkStarted = s.pump.linkStarted ∧
    (s.remoteDelete r).pump.request = s.pump.request ∧
    (s.remoteDelete r).pump.answerTone = s.pump.answerTone ∧
    (s.remoteDelete r).pump.heardMax = s.pump.heardMax ∧
    (s.remoteDelete r).pump.heardAck = s.pump.heardAck ∧
    (s.remoteDelete r).pump.stage = s.pump.stage ∧
    (s.remoteDelete r).pump.ownAccept = s.pump.ownAccept ∧
    (s.remoteDelete r).pump.farAccept = s.pump.farAccept ∧
    (s.remoteDelete r).pump.confirmed = s.pump.confirmed ∧
    (s.remoteDelete r).link.mode = s.link.mode ∧
    (s.remoteDelete r).link.paused = s.link.paused ∧
    (s.remoteDelete r).link.attempts = s.link.attempts ∧
    (s.remoteDelete r).link.windowSize = s.link.windowSize ∧
    (s.remoteDelete r).link.payloadSize = s.link.payloadSize ∧
    (s.remoteDelete r).link.vs = s.link.vs ∧
    (s.remoteDelete r).link.window = s.link.window ∧
    (s.remoteDelete r).link.resendMark = s.link.resendMark ∧
    (s.remoteDelete r).link.retries = s.link.retries ∧
    (s.remoteDelete r).link.peerBusy = s.link.peerBusy ∧
    (s.remoteDelete r).link.vr = s.link.vr ∧
    (s.remoteDelete r).link.rejectFlag = s.link.rejectFlag ∧
    (s.remoteDelete r).link.ackOwed = s.link.ackOwed ∧
    (s.remoteDelete r).link.busyAckOwed = s.link.busyAckOwed ∧
    (s.remoteDelete r).link.ownBusy = s.link.ownBusy ∧
    (s.remoteDelete r).link.rejectOwed = s.link.rejectOwed ∧
    (s.remoteDelete r).link.clearOwed = s.link.clearOwed ∧
    (s.remoteDelete r).link.reqDue = s.link.reqDue ∧
    (s.remoteDelete r).link.confDue = s.link.confDue ∧
    (s.remoteDelete r).link.confSetup = s.link.confSetup ∧
    (s.remoteDelete r).link.peerOffer = s.link.peerOffer ∧
    (s.remoteDelete r).link.byFarEnd = s.link.byFarEnd ∧
    (s.remoteDelete r).link.policy = s.link.policy ∧
    (s.remoteDelete r).link.offer = s.link.offer ∧
    (s.remoteDelete r).link.stats = s.link.stats ∧
    (s.remoteDelete r).link.outbound = s.link.outbound ∧
    (s.remoteDelete r).link.inbound = s.link.inbound ∧
    (s.remoteDelete r).fax = s.fax ∧
    (s.remoteDelete r).ports.system.outgoing = s.ports.system.outgoing ∧
    (s.remoteDelete r).ports.system.digits = s.ports.system.digits ∧
    (s.remoteDelete r).ports.system.transfer = s.ports.system.transfer ∧
    (s.remoteDelete r).ports.panel.outgoing = s.ports.panel.outgoing ∧
    (s.remoteDelete r).ports.panel.digits = s.ports.panel.digits ∧
    (s.remoteDelete r).ports.panel.transfer = s.ports.panel.transfer ∧
    (s.remoteDelete r).sys = s.sys ∧
    (s.remoteDelete r).pan = s.pan := by
  unfold State.remoteDelete; try dsimp only
  repeat' split
  all_goals simp

@[simp] theorem State.remoteDigit_keeps (s : State) (x : Symbol) :
    (s.remoteDigit x).ccu.call.number = s.ccu.call.number ∧
    (s.remoteDigit x).ccu.call.direction = s.ccu.call.direction ∧
    (s.remoteDigit x).ccu.call.holder = s.ccu.call.holder ∧
    (s.remoteDigit x).ccu.call.job = s.ccu.call.job ∧
    (s.remoteDigit x).ccu.call.phase = s.ccu.call.phase ∧
    (s.remoteDigit x).ccu.call.dialList = s.ccu.call.dialList ∧
    (s.remoteDigit x).ccu.call.farEndRinging = s.ccu.call.farEndRinging ∧
    (s.remoteDigit x).ccu.call.callerStatus = s.ccu.call.callerStatus ∧
    (s.remoteDigit x).ccu.call.callerNumber = s.ccu.call.callerNumber ∧
    (s.remoteDigit x).ccu.call.callerName = s.ccu.call.callerName ∧
    (s.remoteDigit x).ccu.call.ringPattern = s.ccu.call.ringPattern ∧
    (s.remoteDigit x).ccu.call.ringCount = s.ccu.call.ringCount ∧
    (s.remoteDigit x).ccu.call.startTime = s.ccu.call.startTime ∧
    (s.remoteDigit x).ccu.call.rung = s.ccu.call.rung ∧
    (s.remoteDigit x).ccu.call.lastQuality = s.ccu.call.lastQuality ∧
    (s.remoteDigit x).ccu.call.seconds = s.ccu.call.seconds ∧
    (s.remoteDigit x).ccu.dialler.cursor = s.ccu.dialler.cursor ∧
    (s.remoteDigit x).ccu.dialler.breaksEnded = s.ccu.dialler.breaksEnded ∧
    (s.remoteDigit x).ccu.dialler.lastMake = s.ccu.dialler.lastMake ∧
    (s.remoteDigit x).ccu.lastNumber = s.ccu.lastNumber ∧
    (s.remoteDigit x).ccu.blind = s.ccu.blind ∧
    (s.remoteDigit x).ccu.claims = s.ccu.claims ∧
    (s.remoteDigit x).lif.ringPresent = s.lif.ringPresent ∧
    (s.remoteDigit x).lif.hangover = s.lif.hangover ∧
    (s.remoteDigit x).lif.voltageBelow = s.lif.voltageBelow ∧
    (s.remoteDigit x).lif.currentBelow = s.lif.currentBelow ∧
    (s.remoteDigit x).lif.pickupLatch = s.lif.pickupLatch ∧
    (s.remoteDigit x).timers.e7 = s.timers.e7 ∧
    (s.remoteDigit x).rau.episode = s.rau.episode ∧
    (s.remoteDigit x).rau.caller = s.rau.caller ∧
    (s.remoteDigit x).rau.presence = s.rau.presence ∧
    (s.remoteDigit x).rau.deadlines = s.rau.deadlines ∧
    (s.remoteDigit x).fax.role = s.fax.role ∧
    (s.remoteDigit x).fax.place = s.fax.place ∧
    (s.remoteDigit x).fax.rung = s.fax.rung ∧
    (s.remoteDigit x).fax.floor = s.fax.floor ∧
    (s.remoteDigit x).fax.ceiling = s.fax.ceiling ∧
    (s.remoteDigit x).fax.resolution = s.fax.resolution ∧
    (s.remoteDigit x).fax.scanMs = s.fax.scanMs ∧
    (s.remoteDigit x).fax.page = s.fax.page ∧
    (s.remoteDigit x).fax.attempts = s.fax.attempts ∧
    (s.remoteDigit x).fax.accepted = s.fax.accepted ∧
    (s.remoteDigit x).fax.linkedId = s.fax.linkedId ∧
    (s.remoteDigit x).fax.pageStart = s.fax.pageStart ∧
    (s.remoteDigit x).fax.windows = s.fax.windows ∧
    (s.remoteDigit x).fax.badWindows = s.fax.badWindows ∧
    (s.remoteDigit x).fax.overflow = s.fax.overflow ∧
    (s.remoteDigit x).fax.retries = s.fax.retries ∧
    (s.remoteDigit x).fax.lastFrame = s.fax.lastFrame ∧
    (s.remoteDigit x).fax.more = s.fax.more ∧
    (s.remoteDigit x).fax.checkOverloaded = s.fax.checkOverloaded ∧
    (s.remoteDigit x).fax.inPair = s.fax.inPair ∧
    (s.remoteDigit x).fax.lineLength = s.fax.lineLength ∧
    (s.remoteDigit x).fax.position = s.fax.position ∧
    (s.remoteDigit x).fax.pageFromPort = s.fax.pageFromPort ∧
    (s.remoteDigit x).fax.markSent = s.fax.markSent ∧
    (s.remoteDigit x).fax.markInQueue = s.fax.markInQueue ∧
    (s.remoteDigit x).ports.system.outgoing = s.ports.system.outgoing ∧
    (s.remoteDigit x).ports.system.digits = s.ports.system.digits ∧
    (s.remoteDigit x).ports.system.transfer = s.ports.system.transfer ∧
    (s.remoteDigit x).ports.panel.outgoing = s.ports.panel.outgoing ∧
    (s.remoteDigit x).ports.panel.digits = s.ports.panel.digits ∧
    (s.remoteDigit x).ports.panel.transfer = s.ports.panel.transfer ∧
    (s.remoteDigit x).sys.ready = s.sys.ready ∧
    (s.remoteDigit x).sys.rts = s.sys.rts ∧
    (s.remoteDigit x).sys.rate = s.sys.rate ∧
    (s.remoteDigit x).sys.notice = s.sys.notice ∧
    (s.remoteDigit x).sys.escape = s.sys.escape ∧
    (s.remoteDigit x).pan = s.pan := by
  unfold State.remoteDigit; try dsimp only
  repeat' split
  all_goals simp

@[simp] theorem State.remoteWait_keeps (s : State) (r : Remote) :
    (s.remoteWait r).ccu.line = s.ccu.line ∧
    (s.remoteWait r).ccu.call = s.ccu.call ∧
    (s.remoteWait r).ccu.dialler = s.ccu.dialler ∧
    (s.remoteWait r).ccu.lastNumber = s.ccu.lastNumber ∧
    (s.remoteWait r).ccu.ending = s.ccu.ending ∧
    (s.remoteWait r).ccu.blind = s.ccu.blind ∧
    (s.remoteWait r).ccu.claims = s.ccu.claims ∧
    (s.remoteWait r).ccu.history = s.ccu.history ∧
    (s.remoteWait r).lif = s.lif ∧
    (s.remoteWait r).timers.e0 = s.timers.e0 ∧
    (s.remoteWait r).timers.e1 = s.timers.e1 ∧
    (s.remoteWait r).timers.e3 = s.timers.e3 ∧
    (s.remoteWait r).timers.e4 = s.timers.e4 ∧
    (s.remoteWait r).timers.e5 = s.timers.e5 ∧
    (s.remoteWait r).timers.e6 = s.timers.e6 ∧
    (s.remoteWait r).timers.e7 = s.timers.e7 ∧
    (s.remoteWait r).tone = s.tone ∧
    (s.remoteWait r).rau = s.rau ∧
    (s.remoteWait r).level = s.level ∧
    (s.remoteWait r).pump = s.pump ∧
    (s.remoteWait r).link = s.link ∧
    (s.remoteWait r).fax = s.fax ∧
    (s.remoteWait r).voice.op = s.voice.op ∧
    (s.remoteWait r).voice.resume = s.voice.resume ∧
    (s.remoteWait r).store = s.store ∧
    (s.remoteWait r).ports = s.ports ∧
    (s.remoteWait r).sys = s.sys ∧
    (s.remoteWait r).pan = s.pan := by
  unfold State.remoteWait; try dsimp only
  repeat' split
  all_goals simp

@[simp] theorem State.startJob_keeps (s : State) (job : Job) :
    (s.startJob job).ccu.call.number = s.ccu.call.number ∧
    (s.startJob job).ccu.call.direction = s.ccu.call.direction ∧
    (s.startJob job).ccu.call.dialList = s.ccu.call.dialList ∧
    (s.startJob job).ccu.call.farEndRinging = s.ccu.call.farEndRinging ∧
    (s.startJob job).ccu.call.callerStatus = s.ccu.call.callerStatus ∧
    (s.startJob job).ccu.call.callerNumber = s.ccu.call.callerNumber ∧
    (s.startJob job).ccu.call.callerName = s.ccu.call.callerName ∧
    (s.startJob job).ccu.call.ringPattern = s.ccu.call.ringPattern ∧
    (s.startJob job).ccu.call.ringCount = s.ccu.call.ringCount ∧
    (s.startJob job).ccu.call.startTime = s.ccu.call.startTime ∧
    (s.startJob job).ccu.call.rung = s.ccu.call.rung ∧
    (s.startJob job).ccu.call.lastQuality = s.ccu.call.lastQuality ∧
    (s.startJob job).ccu.call.seconds = s.ccu.call.seconds ∧
    (s.startJob job).ccu.dialler.cursor = s.ccu.dialler.cursor ∧
    (s.startJob job).ccu.dialler.breaksEnded = s.ccu.dialler.breaksEnded ∧
    (s.startJob job).ccu.dialler.lastMake = s.ccu.dialler.lastMake ∧
    (s.startJob job).ccu.lastNumber = s.ccu.lastNumber ∧
    (s.startJob job).ccu.blind = s.ccu.blind ∧
    (s.startJob job).ccu.claims = s.ccu.claims ∧
    (s.startJob job).lif.ringPresent = s.lif.ringPresent ∧
    (s.startJob job).lif.hangover = s.lif.hangover ∧
    (s.startJob job).lif.voltageBelow = s.lif.voltageBelow ∧
    (s.startJob job).lif.currentBelow = s.lif.currentBelow ∧
    (s.startJob job).lif.pickupLatch = s.lif.pickupLatch ∧
    (s.startJob job).timers.e7 = s.timers.e7 ∧
    (s.startJob job).rau.episode = s.rau.episode ∧
    (s.startJob job).rau.caller = s.rau.caller ∧
    (s.startJob job).rau.presence = s.rau.presence ∧
    (s.startJob job).rau.deadlines = s.rau.deadlines ∧
    (s.startJob job).ports.system.outgoing = s.ports.system.outgoing ∧
    (s.startJob job).ports.system.digits = s.ports.system.digits ∧
    (s.startJob job).ports.system.transfer = s.ports.system.transfer ∧
    (s.startJob job).ports.panel.outgoing = s.ports.panel.outgoing ∧
    (s.startJob job).ports.panel.digits = s.ports.panel.digits ∧
    (s.startJob job).ports.panel.transfer = s.ports.panel.transfer ∧
    (s.startJob job).sys.ready = s.sys.ready ∧
    (s.startJob job).sys.rts = s.sys.rts ∧
    (s.startJob job).sys.rate = s.sys.rate ∧
    (s.startJob job).sys.notice = s.sys.notice ∧
    (s.startJob job).sys.escape = s.sys.escape ∧
    (s.startJob job).pan = s.pan := by
  unfold State.startJob; try dsimp only
  repeat' split
  all_goals simp

@[simp] theorem State.answerTaken_keeps (s : State) (holder : Party) (job : Job) :
    (s.answerTaken holder job).ccu.dialler.cursor = s.ccu.dialler.cursor ∧
    (s.answerTaken holder job).ccu.dialler.breaksEnded = s.ccu.dialler.breaksEnded ∧
    (s.answerTaken holder job).ccu.dialler.lastMake = s.ccu.dialler.lastMake ∧
    (s.answerTaken holder job).ccu.claims = s.ccu.claims ∧
    (s.answerTaken holder job).timers.e7 = s.timers.e7 ∧
    (s.answerTaken holder job).rau.episode.firstInProgress = s.rau.episode.firstInProgress ∧
    (s.answerTaken holder job).rau.episode.inCycle = s.rau.episode.inCycle ∧
    (s.answerTaken holder job).rau.episode.firstBursts = s.rau.episode.firstBursts ∧
    (s.answerTaken holder job).rau.episode.pattern = s.rau.episode.pattern ∧
    (s.answerTaken holder job).rau.episode.ringCount = s.rau.episode.ringCount ∧
    (s.answerTaken holder job).rau.episode.startTime = s.rau.episode.startTime ∧
    (s.answerTaken holder job).rau.episode.seconds = s.rau.episode.seconds ∧
    (s.answerTaken holder job).rau.episode.threshold = s.rau.episode.threshold ∧
    (s.answerTaken holder job).sys.ready = s.sys.ready ∧
    (s.answerTaken holder job).sys.rts = s.sys.rts ∧
    (s.answerTaken holder job).sys.rate = s.sys.rate ∧
    (s.answerTaken holder job).sys.notice = s.sys.notice ∧
    (s.answerTaken holder job).sys.escape = s.sys.escape ∧
    (s.answerTaken holder job).pan = s.pan := by
  unfold State.answerTaken; try dsimp only
  repeat' split
  all_goals simp

@[simp] theorem State.playToEnd_keeps (s : State) :
    (s.playToEnd).ccu = s.ccu ∧
    (s.playToEnd).lif = s.lif ∧
    (s.playToEnd).timers = s.timers ∧
    (s.playToEnd).tone = s.tone ∧
    (s.playToEnd).rau = s.rau ∧
    (s.playToEnd).level = s.level ∧
    (s.playToEnd).pump = s.pump ∧
    (s.playToEnd).link = s.link ∧
    (s.playToEnd).fax = s.fax ∧
    (s.playToEnd).voice.op.state = s.voice.op.state ∧
    (s.playToEnd).voice.op.user = s.voice.op.user ∧
    (s.playToEnd).voice.op.operation = s.voice.op.operation ∧
    (s.playToEnd).voice.op.endpoint = s.voice.op.endpoint ∧
    (s.playToEnd).voice.op.message = s.voice.op.message ∧
    (s.playToEnd).voice.op.kind = s.voice.op.kind ∧
    (s.playToEnd).voice.op.slot = s.voice.op.slot ∧
    (s.playToEnd).voice.op.stopOnDigit = s.voice.op.stopOnDigit ∧
    (s.playToEnd).voice.op.vox = s.voice.op.vox ∧
    (s.playToEnd).voice.op.maxCode = s.voice.op.maxCode ∧
    (s.playToEnd).voice.op.written = s.voice.op.written ∧
    (s.playToEnd).voice.op.loud = s.voice.op.loud ∧
    (s.playToEnd).voice.op.lastLoud = s.voice.op.lastLoud ∧
    (s.playToEnd).voice.op.pausedOp = s.voice.op.pausedOp ∧
    (s.playToEnd).voice.op.clamps = s.voice.op.clamps ∧
    (s.playToEnd).voice.op.codec = s.voice.op.codec ∧
    (s.playToEnd).voice.op.lowNext = s.voice.op.lowNext ∧
    (s.playToEnd).voice.op.halfByte = s.voice.op.halfByte ∧
    (s.playToEnd).voice.op.waiting = s.voice.op.waiting ∧
    (s.playToEnd).voice.op.inBlock = s.voice.op.inBlock ∧
    (s.playToEnd).voice.op.taken = s.voice.op.taken ∧
    (s.playToEnd).voice.op.blocks = s.voice.op.blocks ∧
    (s.playToEnd).voice.op.lastLoudByte = s.voice.op.lastLoudByte ∧
    (s.playToEnd).voice.op.reason = s.voice.op.reason ∧
    (s.playToEnd).voice.resume = s.voice.resume ∧
    (s.playToEnd).voice.remote = s.voice.remote ∧
    (s.playToEnd).ports = s.ports ∧
    (s.playToEnd).sys = s.sys ∧
    (s.playToEnd).pan = s.pan := by
  unfold State.playToEnd; try dsimp only
  repeat' split
  all_goals simp

@[simp] theorem State.autoPlayEnded_keeps (s : State) :
    (s.autoPlayEnded).ccu.call.number = s.ccu.call.number ∧
    (s.autoPlayEnded).ccu.call.direction = s.ccu.call.direction ∧
    (s.autoPlayEnded).ccu.call.dialList = s.ccu.call.dialList ∧
    (s.autoPlayEnded).ccu.call.farEndRinging = s.ccu.call.farEndRinging ∧
    (s.autoPlayEnded).ccu.call.callerStatus = s.ccu.call.callerStatus ∧
    (s.autoPlayEnded).ccu.call.callerNumber = s.ccu.call.callerNumber ∧
    (s.autoPlayEnded).ccu.call.callerName = s.ccu.call.callerName ∧
    (s.autoPlayEnded).ccu.call.ringPattern = s.ccu.call.ringPattern ∧
    (s.autoPlayEnded).ccu.call.ringCount = s.ccu.call.ringCount ∧
    (s.autoPlayEnded).ccu.call.startTime = s.ccu.call.startTime ∧
    (s.autoPlayEnded).ccu.call.rung = s.ccu.call.rung ∧
    (s.autoPlayEnded).ccu.call.lastQuality = s.ccu.call.lastQuality ∧
    (s.autoPlayEnded).ccu.call.seconds = s.ccu.call.seconds ∧
    (s.autoPlayEnded).ccu.dialler.cursor = s.ccu.dialler.cursor ∧
    (s.autoPlayEnded).ccu.dialler.breaksEnded = s.ccu.dialler.breaksEnded ∧
    (s.autoPlayEnded).ccu.dialler.lastMake = s.ccu.dialler.lastMake ∧
    (s.autoPlayEnded).ccu.lastNumber = s.ccu.lastNumber ∧
    (s.autoPlayEnded).ccu.blind = s.ccu.blind ∧
    (s.autoPlayEnded).ccu.claims = s.ccu.claims ∧
    (s.autoPlayEnded).lif.ringPresent = s.lif.ringPresent ∧
    (s.autoPlayEnded).lif.hangover = s.lif.hangover ∧
    (s.autoPlayEnded).lif.voltageBelow = s.lif.voltageBelow ∧
    (s.autoPlayEnded).lif.currentBelow = s.lif.currentBelow ∧
    (s.autoPlayEnded).lif.pickupLatch = s.lif.pickupLatch ∧
    (s.autoPlayEnded).timers.e7 = s.timers.e7 ∧
    (s.autoPlayEnded).rau.episode = s.rau.episode ∧
    (s.autoPlayEnded).rau.caller = s.rau.caller ∧
    (s.autoPlayEnded).rau.presence = s.rau.presence ∧
    (s.autoPlayEnded).rau.deadlines = s.rau.deadlines ∧
    (s.autoPlayEnded).ports.system.outgoing = s.ports.system.outgoing ∧
    (s.autoPlayEnded).ports.system.digits = s.ports.system.digits ∧
    (s.autoPlayEnded).ports.system.transfer = s.ports.system.transfer ∧
    (s.autoPlayEnded).ports.panel.outgoing = s.ports.panel.outgoing ∧
    (s.autoPlayEnded).ports.panel.digits = s.ports.panel.digits ∧
    (s.autoPlayEnded).ports.panel.transfer = s.ports.panel.transfer ∧
    (s.autoPlayEnded).sys.ready = s.sys.ready ∧
    (s.autoPlayEnded).sys.rts = s.sys.rts ∧
    (s.autoPlayEnded).sys.rate = s.sys.rate ∧
    (s.autoPlayEnded).sys.notice = s.sys.notice ∧
    (s.autoPlayEnded).sys.escape = s.sys.escape ∧
    (s.autoPlayEnded).pan = s.pan := by
  unfold State.autoPlayEnded; try dsimp only
  repeat' split
  all_goals simp

@[simp] theorem State.setDeadlines_keeps (s : State) (d : Deadlines) :
    (s.setDeadlines d).timers.e0 = s.timers.e0 ∧
    (s.setDeadlines d).timers.e2 = s.timers.e2 ∧
    (s.setDeadlines d).timers.e3 = s.timers.e3 ∧
    (s.setDeadlines d).timers.e4 = s.timers.e4 ∧
    (s.setDeadlines d).timers.e5 = s.timers.e5 ∧
    (s.setDeadlines d).timers.e6 = s.timers.e6 ∧
    (s.setDeadlines d).timers.e7 = s.timers.e7 ∧
    (s.setDeadlines d).rau.episode = s.rau.episode ∧
    (s.setDeadlines d).rau.caller = s.rau.caller ∧
    (s.setDeadlines d).rau.presence = s.rau.presence ∧
    (s.setDeadlines d).rau.discr = s.rau.discr := by
  unfold State.setDeadlines; try dsimp only
  repeat' split
  all_goals simp

@[simp] theorem State.reachDue_keeps (s : State) (due : Nat) :
    (s.reachDue due).timers.e0 = s.timers.e0 ∧
    (s.reachDue due).timers.e2 = s.timers.e2 ∧
    (s.reachDue due).timers.e3 = s.timers.e3 ∧
    (s.reachDue due).timers.e4 = s.timers.e4 ∧
    (s.reachDue due).timers.e5 = s.timers.e5 ∧
    (s.reachDue due).timers.e6 = s.timers.e6 ∧
    (s.reachDue due).timers.e7 = s.timers.e7 := by
  unfold State.reachDue; try dsimp only
  repeat' split
  all_goals simp

@[simp] theorem State.policyAnswer_keeps (s : State) (a : AnswerAction) :
    (s.policyAnswer a).ccu.dialler.cursor = s.ccu.dialler.cursor ∧
    (s.policyAnswer a).ccu.dialler.breaksEnded = s.ccu.dialler.breaksEnded ∧
    (s.policyAnswer a).ccu.dialler.lastMake = s.ccu.dialler.lastMake ∧
    (s.policyAnswer a).ccu.claims = s.ccu.claims ∧
    (s.policyAnswer a).timers.e7 = s.timers.e7 ∧
    (s.policyAnswer a).rau.episode.firstInProgress = s.rau.episode.firstInProgress ∧
    (s.policyAnswer a).rau.episode.inCycle = s.rau.episode.inCycle ∧
    (s.policyAnswer a).rau.episode.firstBursts = s.rau.episode.firstBursts ∧
    (s.policyAnswer a).rau.episode.pattern = s.rau.episode.pattern ∧
    (s.policyAnswer a).rau.episode.ringCount = s.rau.episode.ringCount ∧
    (s.policyAnswer a).rau.episode.startTime = s.rau.episode.startTime ∧
    (s.policyAnswer a).rau.episode.seconds = s.rau.episode.seconds ∧
    (s.policyAnswer a).rau.episode.threshold = s.rau.episode.threshold ∧
    (s.policyAnswer a).sys.ready = s.sys.ready ∧
    (s.policyAnswer a).sys.rts = s.sys.rts ∧
    (s.policyAnswer a).sys.rate = s.sys.rate ∧
    (s.policyAnswer a).sys.notice = s.sys.notice ∧
    (s.policyAnswer a).sys.escape = s.sys.escape ∧
    (s.policyAnswer a).pan = s.pan := by
  unfold State.policyAnswer; try dsimp only
  repeat' split
  all_goals simp

@[simp] theorem State.answerDecision_keeps (s : State) :
    (s.answerDecision).ccu.dialler.cursor = s.ccu.dialler.cursor ∧
    (s.answerDecision).ccu.dialler.breaksEnded = s.ccu.dialler.breaksEnded ∧
    (s.answerDecision).ccu.dialler.lastMake = s.ccu.dialler.lastMake ∧
    (s.answerDecision).ccu.claims = s.ccu.claims ∧
    (s.answerDecision).timers.e7 = s.timers.e7 ∧
    (s.answerDecision).rau.episode.firstInProgress = s.rau.episode.firstInProgress ∧
    (s.answerDecision).rau.episode.inCycle = s.rau.episode.inCycle ∧
    (s.answerDecision).rau.episode.firstBursts = s.rau.episode.firstBursts ∧
    (s.answerDecision).rau.episode.pattern = s.rau.episode.pattern ∧
    (s.answerDecision).rau.episode.ringCount = s.rau.episode.ringCount ∧
    (s.answerDecision).rau.episode.startTime = s.rau.episode.startTime ∧
    (s.answerDecision).rau.episode.seconds = s.rau.episode.seconds ∧
    (s.answerDecision).sys.ready = s.sys.ready ∧
    (s.answerDecision).sys.rts = s.sys.rts ∧
    (s.answerDecision).sys.rate = s.sys.rate ∧
    (s.answerDecision).sys.notice = s.sys.notice ∧
    (s.answerDecision).sys.escape = s.sys.escape ∧
    (s.answerDecision).pan = s.pan := by
  unfold State.answerDecision; try dsimp only
  repeat' split
  all_goals simp

@[simp] theorem State.firstCycleEnd_keeps (s : State) :
    (s.firstCycleEnd).ccu = s.ccu ∧
    (s.firstCycleEnd).lif = s.lif ∧
    (s.firstCycleEnd).timers.e0 = s.timers.e0 ∧
    (s.firstCycleEnd).timers.e2 = s.timers.e2 ∧
    (s.firstCycleEnd).timers.e3 = s.timers.e3 ∧
    (s.firstCycleEnd).timers.e4 = s.timers.e4 ∧
    (s.firstCycleEnd).timers.e5 = s.timers.e5 ∧
    (s.firstCycleEnd).timers.e6 = s.timers.e6 ∧
    (s.firstCycleEnd).timers.e7 = s.timers.e7 ∧
    (s.firstCycleEnd).tone = s.tone ∧
    (s.firstCycleEnd).rau.episode.active = s.rau.episode.active ∧
    (s.firstCycleEnd).rau.episode.inCycle = s.rau.episode.inCycle ∧
    (s.firstCycleEnd).rau.episode.firstBursts = s.rau.episode.firstBursts ∧
    (s.firstCycleEnd).rau.episode.ringCount = s.rau.episode.ringCount ∧
    (s.firstCycleEnd).rau.episode.startTime = s.rau.episode.startTime ∧
    (s.firstCycleEnd).rau.episode.seconds = s.rau.episode.seconds ∧
    (s.firstCycleEnd).rau.episode.threshold = s.rau.episode.threshold ∧
    (s.firstCycleEnd).rau.caller = s.rau.caller ∧
    (s.firstCycleEnd).rau.presence = s.rau.presence ∧
    (s.firstCycleEnd).rau.discr = s.rau.discr ∧
    (s.firstCycleEnd).level = s.level ∧
    (s.firstCycleEnd).pump = s.pump ∧
    (s.firstCycleEnd).link = s.link ∧
    (s.firstCycleEnd).fax = s.fax ∧
    (s.firstCycleEnd).voice = s.voice ∧
    (s.firstCycleEnd).store = s.store ∧
    (s.firstCycleEnd).ports = s.ports ∧
    (s.firstCycleEnd).sys = s.sys ∧
    (s.firstCycleEnd).pan = s.pan := by
  unfold State.firstCycleEnd; try dsimp only
  repeat' split
  all_goals simp

@[simp] theorem State.cycleEnds_keeps (s : State) :
    (s.cycleEnds).ccu.dialler.cursor = s.ccu.dialler.cursor ∧
    (s.cycleEnds).ccu.dialler.breaksEnded = s.ccu.dialler.breaksEnded ∧
    (s.cycleEnds).ccu.dialler.lastMake = s.ccu.dialler.lastMake ∧
    (s.cycleEnds).ccu.claims = s.ccu.claims ∧
    (s.cycleEnds).timers.e7 = s.timers.e7 ∧
    (s.cycleEnds).rau.episode.firstBursts = s.rau.episode.firstBursts ∧
    (s.cycleEnds).rau.episode.startTime = s.rau.episode.startTime ∧
    (s.cycleEnds).rau.episode.seconds = s.rau.episode.seconds ∧
    (s.cycleEnds).sys.ready = s.sys.ready ∧
    (s.cycleEnds).sys.rts = s.sys.rts ∧
    (s.cycleEnds).sys.rate = s.sys.rate ∧
    (s.cycleEnds).sys.notice = s.sys.notice ∧
    (s.cycleEnds).sys.escape = s.sys.escape ∧
    (s.cycleEnds).pan = s.pan := by
  unfold State.cycleEnds; try dsimp only
  repeat' split
  all_goals simp

@[simp] theorem State.episodeEnds_keeps (s : State) :
    (s.episodeEnds).ccu.dialler = s.ccu.dialler ∧
    (s.episodeEnds).timers.e0 = s.timers.e0 ∧
    (s.episodeEnds).timers.e3 = s.timers.e3 ∧
    (s.episodeEnds).timers.e4 = s.timers.e4 ∧
    (s.episodeEnds).timers.e5 = s.timers.e5 ∧
    (s.episodeEnds).timers.e6 = s.timers.e6 ∧
    (s.episodeEnds).timers.e7 = s.timers.e7 ∧
    (s.episodeEnds).tone.generator = s.tone.generator ∧
    (s.episodeEnds).rau.episode.firstInProgress = s.rau.episode.firstInProgress ∧
    (s.episodeEnds).rau.episode.inCycle = s.rau.episode.inCycle ∧
    (s.episodeEnds).rau.episode.firstBursts = s.rau.episode.firstBursts ∧
    (s.episodeEnds).rau.episode.pattern = s.rau.episode.pattern ∧
    (s.episodeEnds).rau.episode.ringCount = s.rau.episode.ringCount ∧
    (s.episodeEnds).rau.episode.startTime = s.rau.episode.startTime ∧
    (s.episodeEnds).rau.episode.seconds = s.rau.episode.seconds ∧
    (s.episodeEnds).rau.episode.threshold = s.rau.episode.threshold ∧
    (s.episodeEnds).rau.discr = s.rau.discr ∧
    (s.episodeEnds).pump = s.pump ∧
    (s.episodeEnds).link.mode = s.link.mode ∧
    (s.episodeEnds).link.paused = s.link.paused ∧
    (s.episodeEnds).link.attempts = s.link.attempts ∧
    (s.episodeEnds).link.windowSize = s.link.windowSize ∧
    (s.episodeEnds).link.payloadSize = s.link.payloadSize ∧
    (s.episodeEnds).link.vs = s.link.vs ∧
    (s.episodeEnds).link.window = s.link.window ∧
    (s.episodeEnds).link.resendMark = s.link.resendMark ∧
    (s.episodeEnds).link.retries = s.link.retries ∧
    (s.episodeEnds).link.peerBusy = s.link.peerBusy ∧
    (s.episodeEnds).link.vr = s.link.vr ∧
    (s.episodeEnds).link.rejectFlag = s.link.rejectFlag ∧
    (s.episodeEnds).link.ackOwed = s.link.ackOwed ∧
    (s.episodeEnds).link.busyAckOwed = s.link.busyAckOwed ∧
    (s.episodeEnds).link.ownBusy = s.link.ownBusy ∧
    (s.episodeEnds).link.rejectOwed = s.link.rejectOwed ∧
    (s.episodeEnds).link.clearOwed = s.link.clearOwed ∧
    (s.episodeEnds).link.reqDue = s.link.reqDue ∧
    (s.episodeEnds).link.confSetup = s.link.confSetup ∧
    (s.episodeEnds).link.confDue = s.link.confDue ∧
    (s.episodeEnds).link.peerOffer = s.link.peerOffer ∧
    (s.episodeEnds).link.byFarEnd = s.link.byFarEnd ∧
    (s.episodeEnds).link.policy = s.link.policy ∧
    (s.episodeEnds).link.offer = s.link.offer ∧
    (s.episodeEnds).link.outbound = s.link.outbound ∧
    (s.episodeEnds).link.inbound = s.link.inbound ∧
    (s.episodeEnds).link.tx = s.link.tx ∧
    (s.episodeEnds).voice = s.voice ∧
    (s.episodeEnds).store = s.store ∧
    (s.episodeEnds).sys = s.sys ∧
    (s.episodeEnds).pan = s.pan := by
  unfold State.episodeEnds; try dsimp only
  repeat' split
  all_goals simp

@[simp] theorem State.episodeStart_keeps (s : State) :
    (s.episodeStart).ccu.call = s.ccu.call ∧
    (s.episodeStart).ccu.dialler = s.ccu.dialler ∧
    (s.episodeStart).ccu.lastNumber = s.ccu.lastNumber ∧
    (s.episodeStart).ccu.ending = s.ccu.ending ∧
    (s.episodeStart).ccu.blind = s.ccu.blind ∧
    (s.episodeStart).ccu.claims = s.ccu.claims ∧
    (s.episodeStart).ccu.history = s.ccu.history ∧
    (s.episodeStart).ccu.t2Use = s.ccu.t2Use ∧
    (s.episodeStart).lif = s.lif ∧
    (s.episodeStart).timers = s.timers ∧
    (s.episodeStart).tone = s.tone ∧
    (s.episodeStart).rau.episode.threshold = s.rau.episode.threshold ∧
    (s.episodeStart).rau.presence = s.rau.presence ∧
    (s.episodeStart).rau.deadlines = s.rau.deadlines ∧
    (s.episodeStart).rau.discr = s.rau.discr ∧
    (s.episodeStart).level = s.level ∧
    (s.episodeStart).pump = s.pump ∧
    (s.episodeStart).link = s.link ∧
    (s.episodeStart).fax = s.fax ∧
    (s.episodeStart).voice = s.voice ∧
    (s.episodeStart).store = s.store ∧
    (s.episodeStart).ports.system.outgoing = s.ports.system.outgoing ∧
    (s.episodeStart).ports.system.digits = s.ports.system.digits ∧
    (s.episodeStart).ports.system.transfer = s.ports.system.transfer ∧
    (s.episodeStart).ports.system.alerts = s.ports.system.alerts ∧
    (s.episodeStart).ports.panel.outgoing = s.ports.panel.outgoing ∧
    (s.episodeStart).ports.panel.digits = s.ports.panel.digits ∧
    (s.episodeStart).ports.panel.transfer = s.ports.panel.transfer ∧
    (s.episodeStart).ports.panel.alerts = s.ports.panel.alerts ∧
    (s.episodeStart).sys = s.sys ∧
    (s.episodeStart).pan = s.pan := by
  unfold State.episodeStart; try dsimp only
  repeat' split
  all_goals simp

@[simp] theorem State.closeWindowAtBurst_keeps (s : State) :
    (s.closeWindowAtBurst).ccu = s.ccu ∧
    (s.closeWindowAtBurst).lif = s.lif ∧
    (s.closeWindowAtBurst).timers = s.timers ∧
    (s.closeWindowAtBurst).tone = s.tone ∧
    (s.closeWindowAtBurst).rau.episode = s.rau.episode ∧
    (s.closeWindowAtBurst).rau.presence = s.rau.presence ∧
    (s.closeWindowAtBurst).rau.deadlines = s.rau.deadlines ∧
    (s.closeWindowAtBurst).rau.discr = s.rau.discr ∧
    (s.closeWindowAtBurst).level = s.level ∧
    (s.closeWindowAtBurst).pump = s.pump ∧
    (s.closeWindowAtBurst).link = s.link ∧
    (s.closeWindowAtBurst).fax = s.fax ∧
    (s.closeWindowAtBurst).voice = s.voice ∧
    (s.closeWindowAtBurst).store = s.store ∧
    (s.closeWindowAtBurst).ports.system.outgoing = s.ports.system.outgoing ∧
    (s.closeWindowAtBurst).ports.system.digits = s.ports.system.digits ∧
    (s.closeWindowAtBurst).ports.system.transfer = s.ports.system.transfer ∧
    (s.closeWindowAtBurst).ports.system.alerts = s.ports.system.alerts ∧
    (s.closeWindowAtBurst).ports.panel.outgoing = s.ports.panel.outgoing ∧
    (s.closeWindowAtBurst).ports.panel.digits = s.ports.panel.digits ∧
    (s.closeWindowAtBurst).ports.panel.transfer = s.ports.panel.transfer ∧
    (s.closeWindowAtBurst).ports.panel.alerts = s.ports.panel.alerts ∧
    (s.closeWindowAtBurst).sys = s.sys ∧
    (s.closeWindowAtBurst).pan = s.pan := by
  unfold State.closeWindowAtBurst; try dsimp only
  repeat' split
  all_goals simp

@[simp] theorem State.burstQualified_keeps (s : State) :
    (s.burstQualified).ccu.call = s.ccu.call ∧
    (s.burstQualified).ccu.dialler = s.ccu.dialler ∧
    (s.burstQualified).ccu.lastNumber = s.ccu.lastNumber ∧
    (s.burstQualified).ccu.ending = s.ccu.ending ∧
    (s.burstQualified).ccu.blind = s.ccu.blind ∧
    (s.burstQualified).ccu.claims = s.ccu.claims ∧
    (s.burstQualified).ccu.history = s.ccu.history ∧
    (s.burstQualified).ccu.t2Use = s.ccu.t2Use ∧
    (s.burstQualified).lif = s.lif ∧
    (s.burstQualified).timers = s.timers ∧
    (s.burstQualified).tone = s.tone ∧
    (s.burstQualified).rau.presence = s.rau.presence ∧
    (s.burstQualified).rau.deadlines = s.rau.deadlines ∧
    (s.burstQualified).rau.discr = s.rau.discr ∧
    (s.burstQualified).level = s.level ∧
    (s.burstQualified).pump = s.pump ∧
    (s.burstQualified).link = s.link ∧
    (s.burstQualified).fax = s.fax ∧
    (s.burstQualified).voice = s.voice ∧
    (s.burstQualified).store = s.store ∧
    (s.burstQualified).ports.system.outgoing = s.ports.system.outgoing ∧
    (s.burstQualified).ports.system.digits = s.ports.system.digits ∧
    (s.burstQualified).ports.system.transfer = s.ports.system.transfer ∧
    (s.burstQualified).ports.system.alerts = s.ports.system.alerts ∧
    (s.burstQualified).ports.panel.outgoing = s.ports.panel.outgoing ∧
    (s.burstQualified).ports.panel.digits = s.ports.panel.digits ∧
    (s.burstQualified).ports.panel.transfer = s.ports.panel.transfer ∧
    (s.burstQualified).ports.panel.alerts = s.ports.panel.alerts ∧
    (s.burstQualified).sys = s.sys ∧
    (s.burstQualified).pan = s.pan := by
  unfold State.burstQualified; try dsimp only
  repeat' split
  all_goals simp

@[simp] theorem State.presenceStart_keeps (s : State) :
    (s.presenceStart).ccu = s.ccu ∧
    (s.presenceStart).lif = s.lif ∧
    (s.presenceStart).timers.e0 = s.timers.e0 ∧
    (s.presenceStart).timers.e2 = s.timers.e2 ∧
    (s.presenceStart).timers.e3 = s.timers.e3 ∧
    (s.presenceStart).timers.e4 = s.timers.e4 ∧
    (s.presenceStart).timers.e5 = s.timers.e5 ∧
    (s.presenceStart).timers.e6 = s.timers.e6 ∧
    (s.presenceStart).timers.e7 = s.timers.e7 ∧
    (s.presenceStart).tone = s.tone ∧
    (s.presenceStart).rau.episode = s.rau.episode ∧
    (s.presenceStart).rau.caller = s.rau.caller ∧
    (s.presenceStart).rau.discr = s.rau.discr ∧
    (s.presenceStart).level = s.level ∧
    (s.presenceStart).pump = s.pump ∧
    (s.presenceStart).link = s.link ∧
    (s.presenceStart).fax = s.fax ∧
    (s.presenceStart).voice = s.voice ∧
    (s.presenceStart).store = s.store ∧
    (s.presenceStart).ports = s.ports ∧
    (s.presenceStart).sys = s.sys ∧
    (s.presenceStart).pan = s.pan := by
  unfold State.presenceStart; try dsimp only
  repeat' split
  all_goals simp

@[simp] theorem State.presenceDiscarded_keeps (s : State) :
    (s.presenceDiscarded).ccu.dialler.cursor = s.ccu.dialler.cursor ∧
    (s.presenceDiscarded).ccu.dialler.breaksEnded = s.ccu.dialler.breaksEnded ∧
    (s.presenceDiscarded).ccu.dialler.lastMake = s.ccu.dialler.lastMake ∧
    (s.presenceDiscarded).timers.e7 = s.timers.e7 ∧
    (s.presenceDiscarded).rau.episode.firstBursts = s.rau.episode.firstBursts ∧
    (s.presenceDiscarded).rau.episode.startTime = s.rau.episode.startTime ∧
    (s.presenceDiscarded).rau.episode.seconds = s.rau.episode.seconds ∧
    (s.presenceDiscarded).sys.ready = s.sys.ready ∧
    (s.presenceDiscarded).sys.rts = s.sys.rts ∧
    (s.presenceDiscarded).sys.rate = s.sys.rate ∧
    (s.presenceDiscarded).sys.notice = s.sys.notice ∧
    (s.presenceDiscarded).sys.escape = s.sys.escape ∧
    (s.presenceDiscarded).pan = s.pan := by
  unfold State.presenceDiscarded; try dsimp only
  repeat' split
  all_goals simp

@[simp] theorem State.burstEnd_keeps (s : State) :
    (s.burstEnd).ccu = s.ccu ∧
    (s.burstEnd).lif = s.lif ∧
    (s.burstEnd).timers.e0 = s.timers.e0 ∧
    (s.burstEnd).timers.e2 = s.timers.e2 ∧
    (s.burstEnd).timers.e3 = s.timers.e3 ∧
    (s.burstEnd).timers.e4 = s.timers.e4 ∧
    (s.burstEnd).timers.e5 = s.timers.e5 ∧
    (s.burstEnd).timers.e6 = s.timers.e6 ∧
    (s.burstEnd).timers.e7 = s.timers.e7 ∧
    (s.burstEnd).tone = s.tone ∧
    (s.burstEnd).rau.episode = s.rau.episode ∧
    (s.burstEnd).rau.caller = s.rau.caller ∧
    (s.burstEnd).rau.presence = s.rau.presence ∧
    (s.burstEnd).rau.discr = s.rau.discr ∧
    (s.burstEnd).level = s.level ∧
    (s.burstEnd).pump = s.pump ∧
    (s.burstEnd).link = s.link ∧
    (s.burstEnd).fax = s.fax ∧
    (s.burstEnd).voice = s.voice ∧
    (s.burstEnd).store = s.store ∧
    (s.burstEnd).ports = s.ports ∧
    (s.burstEnd).sys = s.sys ∧
    (s.burstEnd).pan = s.pan := by
  unfold State.burstEnd; try dsimp only
  repeat' split
  all_goals simp

@[simp] theorem State.presenceEnd_keeps (s : State) :
    (s.presenceEnd).ccu.dialler.cursor = s.ccu.dialler.cursor ∧
    (s.presenceEnd).ccu.dialler.breaksEnded = s.ccu.dialler.breaksEnded ∧
    (s.presenceEnd).ccu.dialler.lastMake = s.ccu.dialler.lastMake ∧
    (s.presenceEnd).timers.e7 = s.timers.e7 ∧
    (s.presenceEnd).rau.episode.firstBursts = s.rau.episode.firstBursts ∧
    (s.presenceEnd).rau.episode.startTime = s.rau.episode.startTime ∧
    (s.presenceEnd).rau.episode.seconds = s.rau.episode.seconds ∧
    (s.presenceEnd).sys.ready = s.sys.ready ∧
    (s.presenceEnd).sys.rts = s.sys.rts ∧
    (s.presenceEnd).sys.rate = s.sys.rate ∧
    (s.presenceEnd).sys.notice = s.sys.notice ∧
    (s.presenceEnd).sys.escape = s.sys.escape ∧
    (s.presenceEnd).pan = s.pan := by
  unfold State.presenceEnd; try dsimp only
  repeat' split
  all_goals simp

@[simp] theorem State.judgeCaller_keeps (s : State) :
    (s.judgeCaller).ccu = s.ccu ∧
    (s.judgeCaller).lif = s.lif ∧
    (s.judgeCaller).timers.e0 = s.timers.e0 ∧
    (s.judgeCaller).timers.e2 = s.timers.e2 ∧
    (s.judgeCaller).timers.e3 = s.timers.e3 ∧
    (s.judgeCaller).timers.e4 = s.timers.e4 ∧
    (s.judgeCaller).timers.e5 = s.timers.e5 ∧
    (s.judgeCaller).timers.e6 = s.timers.e6 ∧
    (s.judgeCaller).timers.e7 = s.timers.e7 ∧
    (s.judgeCaller).tone = s.tone ∧
    (s.judgeCaller).rau.episode = s.rau.episode ∧
    (s.judgeCaller).rau.presence = s.rau.presence ∧
    (s.judgeCaller).rau.discr = s.rau.discr ∧
    (s.judgeCaller).level = s.level ∧
    (s.judgeCaller).pump = s.pump ∧
    (s.judgeCaller).link = s.link ∧
    (s.judgeCaller).fax = s.fax ∧
    (s.judgeCaller).voice = s.voice ∧
    (s.judgeCaller).store = s.store ∧
    (s.judgeCaller).ports.system.outgoing = s.ports.system.outgoing ∧
    (s.judgeCaller).ports.system.digits = s.ports.system.digits ∧
    (s.judgeCaller).ports.system.transfer = s.ports.system.transfer ∧
    (s.judgeCaller).ports.system.alerts = s.ports.system.alerts ∧
    (s.judgeCaller).ports.panel.outgoing = s.ports.panel.outgoing ∧
    (s.judgeCaller).ports.panel.digits = s.ports.panel.digits ∧
    (s.judgeCaller).ports.panel.transfer = s.ports.panel.transfer ∧
    (s.judgeCaller).ports.panel.alerts = s.ports.panel.alerts ∧
    (s.judgeCaller).sys = s.sys ∧
    (s.judgeCaller).pan = s.pan := by
  unfold State.judgeCaller; try dsimp only
  repeat' split
  all_goals simp

@[simp] theorem State.callerByte_keeps (s : State) (b : Byte) :
    (s.callerByte b).ccu = s.ccu ∧
    (s.callerByte b).lif = s.lif ∧
    (s.callerByte b).timers.e0 = s.timers.e0 ∧
    (s.callerByte b).timers.e2 = s.timers.e2 ∧
    (s.callerByte b).timers.e3 = s.timers.e3 ∧
    (s.callerByte b).timers.e4 = s.timers.e4 ∧
    (s.callerByte b).timers.e5 = s.timers.e5 ∧
    (s.callerByte b).timers.e6 = s.timers.e6 ∧
    (s.callerByte b).timers.e7 = s.timers.e7 ∧
    (s.callerByte b).tone = s.tone ∧
    (s.callerByte b).rau.episode = s.rau.episode ∧
    (s.callerByte b).rau.presence = s.rau.presence ∧
    (s.callerByte b).rau.discr = s.rau.discr ∧
    (s.callerByte b).level = s.level ∧
    (s.callerByte b).pump = s.pump ∧
    (s.callerByte b).link = s.link ∧
    (s.callerByte b).fax = s.fax ∧
    (s.callerByte b).voice = s.voice ∧
    (s.callerByte b).store = s.store ∧
    (s.callerByte b).ports.system.outgoing = s.ports.system.outgoing ∧
    (s.callerByte b).ports.system.digits = s.ports.system.digits ∧
    (s.callerByte b).ports.system.transfer = s.ports.system.transfer ∧
    (s.callerByte b).ports.system.alerts = s.ports.system.alerts ∧
    (s.callerByte b).ports.panel.outgoing = s.ports.panel.outgoing ∧
    (s.callerByte b).ports.panel.digits = s.ports.panel.digits ∧
    (s.callerByte b).ports.panel.transfer = s.ports.panel.transfer ∧
    (s.callerByte b).ports.panel.alerts = s.ports.panel.alerts ∧
    (s.callerByte b).sys = s.sys ∧
    (s.callerByte b).pan = s.pan := by
  unfold State.callerByte; try dsimp only
  repeat' split
  all_goals simp

@[simp] theorem State.writeLastMake_keeps (s : State) :
    (s.writeLastMake).ccu = s.ccu ∧
    (s.writeLastMake).lif = s.lif ∧
    (s.writeLastMake).timers.e1 = s.timers.e1 ∧
    (s.writeLastMake).timers.e2 = s.timers.e2 ∧
    (s.writeLastMake).timers.e3 = s.timers.e3 ∧
    (s.writeLastMake).timers.e4 = s.timers.e4 ∧
    (s.writeLastMake).timers.e5 = s.timers.e5 ∧
    (s.writeLastMake).timers.e6 = s.timers.e6 ∧
    (s.writeLastMake).timers.e7 = s.timers.e7 ∧
    (s.writeLastMake).tone = s.tone ∧
    (s.writeLastMake).rau = s.rau ∧
    (s.writeLastMake).level = s.level ∧
    (s.writeLastMake).pump = s.pump ∧
    (s.writeLastMake).link = s.link ∧
    (s.writeLastMake).fax = s.fax ∧
    (s.writeLastMake).voice = s.voice ∧
    (s.writeLastMake).store = s.store ∧
    (s.writeLastMake).ports = s.ports ∧
    (s.writeLastMake).sys = s.sys ∧
    (s.writeLastMake).pan = s.pan := by
  unfold State.writeLastMake; try dsimp only
  repeat' split
  all_goals simp

@[simp] theorem State.startPulse_keeps (s : State) (x : Symbol) :
    (s.startPulse x).ccu.line = s.ccu.line ∧
    (s.startPulse x).ccu.call = s.ccu.call ∧
    (s.startPulse x).ccu.dialler.cursor = s.ccu.dialler.cursor ∧
    (s.startPulse x).ccu.lastNumber = s.ccu.lastNumber ∧
    (s.startPulse x).ccu.ending = s.ccu.ending ∧
    (s.startPulse x).ccu.blind = s.ccu.blind ∧
    (s.startPulse x).ccu.claims = s.ccu.claims ∧
    (s.startPulse x).ccu.history = s.ccu.history ∧
    (s.startPulse x).ccu.t2Use = s.ccu.t2Use ∧
    (s.startPulse x).timers.e1 = s.timers.e1 ∧
    (s.startPulse x).timers.e2 = s.timers.e2 ∧
    (s.startPulse x).timers.e3 = s.timers.e3 ∧
    (s.startPulse x).timers.e4 = s.timers.e4 ∧
    (s.startPulse x).timers.e5 = s.timers.e5 ∧
    (s.startPulse x).timers.e6 = s.timers.e6 ∧
    (s.startPulse x).timers.e7 = s.timers.e7 ∧
    (s.startPulse x).tone = s.tone ∧
    (s.startPulse x).rau = s.rau ∧
    (s.startPulse x).level = s.level ∧
    (s.startPulse x).pump = s.pump ∧
    (s.startPulse x).link = s.link ∧
    (s.startPulse x).fax = s.fax ∧
    (s.startPulse x).voice = s.voice ∧
    (s.startPulse x).store = s.store ∧
    (s.startPulse x).ports = s.ports ∧
    (s.startPulse x).sys = s.sys ∧
    (s.startPulse x).pan = s.pan := by
  unfold State.startPulse; try dsimp only
  repeat' split
  all_goals simp

@[simp] theorem State.startTone_keeps (s : State) (x : Symbol) :
    (s.startTone x).ccu.line = s.ccu.line ∧
    (s.startTone x).ccu.call = s.ccu.call ∧
    (s.startTone x).ccu.dialler.cursor = s.ccu.dialler.cursor ∧
    (s.startTone x).ccu.dialler.breaksEnded = s.ccu.dialler.breaksEnded ∧
    (s.startTone x).ccu.dialler.lastMake = s.ccu.dialler.lastMake ∧
    (s.startTone x).ccu.lastNumber = s.ccu.lastNumber ∧
    (s.startTone x).ccu.ending = s.ccu.ending ∧
    (s.startTone x).ccu.blind = s.ccu.blind ∧
    (s.startTone x).ccu.claims = s.ccu.claims ∧
    (s.startTone x).ccu.history = s.ccu.history ∧
    (s.startTone x).ccu.t2Use = s.ccu.t2Use ∧
    (s.startTone x).lif = s.lif ∧
    (s.startTone x).timers.e1 = s.timers.e1 ∧
    (s.startTone x).timers.e2 = s.timers.e2 ∧
    (s.startTone x).timers.e3 = s.timers.e3 ∧
    (s.startTone x).timers.e4 = s.timers.e4 ∧
    (s.startTone x).timers.e5 = s.timers.e5 ∧
    (s.startTone x).timers.e6 = s.timers.e6 ∧
    (s.startTone x).timers.e7 = s.timers.e7 ∧
    (s.startTone x).tone.faxCall = s.tone.faxCall ∧
    (s.startTone x).tone.dataCall = s.tone.dataCall ∧
    (s.startTone x).tone.answer = s.tone.answer ∧
    (s.startTone x).tone.dtmf = s.tone.dtmf ∧
    (s.startTone x).tone.classifier = s.tone.classifier ∧
    (s.startTone x).tone.voiceBlocks = s.tone.voiceBlocks ∧
    (s.startTone x).rau = s.rau ∧
    (s.startTone x).level = s.level ∧
    (s.startTone x).pump = s.pump ∧
    (s.startTone x).link = s.link ∧
    (s.startTone x).fax = s.fax ∧
    (s.startTone x).voice = s.voice ∧
    (s.startTone x).store = s.store ∧
    (s.startTone x).ports = s.ports ∧
    (s.startTone x).sys = s.sys ∧
    (s.startTone x).pan = s.pan := by
  unfold State.startTone; try dsimp only
  repeat' split
  all_goals simp

@[simp] theorem State.startFlash_keeps (s : State) :
    (s.startFlash).ccu.line = s.ccu.line ∧
    (s.startFlash).ccu.call = s.ccu.call ∧
    (s.startFlash).ccu.dialler.cursor = s.ccu.dialler.cursor ∧
    (s.startFlash).ccu.dialler.breaksEnded = s.ccu.dialler.breaksEnded ∧
    (s.startFlash).ccu.dialler.lastMake = s.ccu.dialler.lastMake ∧
    (s.startFlash).ccu.lastNumber = s.ccu.lastNumber ∧
    (s.startFlash).ccu.ending = s.ccu.ending ∧
    (s.startFlash).ccu.blind = s.ccu.blind ∧
    (s.startFlash).ccu.claims = s.ccu.claims ∧
    (s.startFlash).ccu.history = s.ccu.history ∧
    (s.startFlash).ccu.t2Use = s.ccu.t2Use ∧
    (s.startFlash).timers.e1 = s.timers.e1 ∧
    (s.startFlash).timers.e2 = s.timers.e2 ∧
    (s.startFlash).timers.e3 = s.timers.e3 ∧
    (s.startFlash).timers.e4 = s.timers.e4 ∧
    (s.startFlash).timers.e5 = s.timers.e5 ∧
    (s.startFlash).timers.e6 = s.timers.e6 ∧
    (s.startFlash).timers.e7 = s.timers.e7 ∧
    (s.startFlash).tone = s.tone ∧
    (s.startFlash).rau = s.rau ∧
    (s.startFlash).level = s.level ∧
    (s.startFlash).pump = s.pump ∧
    (s.startFlash).link = s.link ∧
    (s.startFlash).fax = s.fax ∧
    (s.startFlash).voice = s.voice ∧
    (s.startFlash).store = s.store ∧
    (s.startFlash).ports = s.ports ∧
    (s.startFlash).sys = s.sys ∧
    (s.startFlash).pan = s.pan := by
  unfold State.startFlash; try dsimp only
  repeat' split
  all_goals simp

@[simp] theorem State.enterProgress_keeps (s : State) :
    (s.enterProgress).ccu.call = s.ccu.call ∧
    (s.enterProgress).ccu.dialler.cursor = s.ccu.dialler.cursor ∧
    (s.enterProgress).ccu.dialler.breaksEnded = s.ccu.dialler.breaksEnded ∧
    (s.enterProgress).ccu.dialler.lastMake = s.ccu.dialler.lastMake ∧
    (s.enterProgress).ccu.lastNumber = s.ccu.lastNumber ∧
    (s.enterProgress).ccu.ending = s.ccu.ending ∧
    (s.enterProgress).ccu.blind = s.ccu.blind ∧
    (s.enterProgress).ccu.claims = s.ccu.claims ∧
    (s.enterProgress).ccu.history = s.ccu.history ∧
    (s.enterProgress).lif = s.lif ∧
    (s.enterProgress).timers.e0 = s.timers.e0 ∧
    (s.enterProgress).timers.e1 = s.timers.e1 ∧
    (s.enterProgress).timers.e3 = s.timers.e3 ∧
    (s.enterProgress).timers.e4 = s.timers.e4 ∧
    (s.enterProgress).timers.e5 = s.timers.e5 ∧
    (s.enterProgress).timers.e6 = s.timers.e6 ∧
    (s.enterProgress).timers.e7 = s.timers.e7 ∧
    (s.enterProgress).tone.generator = s.tone.generator ∧
    (s.enterProgress).tone.faxCall = s.tone.faxCall ∧
    (s.enterProgress).tone.dataCall = s.tone.dataCall ∧
    (s.enterProgress).tone.dtmf = s.tone.dtmf ∧
    (s.enterProgress).rau = s.rau ∧
    (s.enterProgress).level = s.level ∧
    (s.enterProgress).pump = s.pump ∧
    (s.enterProgress).link = s.link ∧
    (s.enterProgress).fax = s.fax ∧
    (s.enterProgress).voice = s.voice ∧
    (s.enterProgress).store = s.store ∧
    (s.enterProgress).ports.system.outgoing = s.ports.system.outgoing ∧
    (s.enterProgress).ports.system.digits = s.ports.system.digits ∧
    (s.enterProgress).ports.system.transfer = s.ports.system.transfer ∧
    (s.enterProgress).ports.system.alerts = s.ports.system.alerts ∧
    (s.enterProgress).ports.panel.outgoing = s.ports.panel.outgoing ∧
    (s.enterProgress).ports.panel.digits = s.ports.panel.digits ∧
    (s.enterProgress).ports.panel.transfer = s.ports.panel.transfer ∧
    (s.enterProgress).ports.panel.alerts = s.ports.panel.alerts ∧
    (s.enterProgress).sys = s.sys ∧
    (s.enterProgress).pan = s.pan := by
  unfold State.enterProgress; try dsimp only
  repeat' split
  all_goals simp

@[simp] theorem State.startItem_keeps (s : State) (i : DialItem) :
    ((s.startItem i)).ccu.line = s.ccu.line ∧
    ((s.startItem i)).ccu.call = s.ccu.call ∧
    ((s.startItem i)).ccu.dialler.cursor = s.ccu.dialler.cursor ∧
    ((s.startItem i)).ccu.lastNumber = s.ccu.lastNumber ∧
    ((s.startItem i)).ccu.ending = s.ccu.ending ∧
    ((s.startItem i)).ccu.blind = s.ccu.blind ∧
    ((s.startItem i)).ccu.claims = s.ccu.claims ∧
    ((s.startItem i)).ccu.history = s.ccu.history ∧
    ((s.startItem i)).timers.e1 = s.timers.e1 ∧
    ((s.startItem i)).timers.e3 = s.timers.e3 ∧
    ((s.startItem i)).timers.e4 = s.timers.e4 ∧
    ((s.startItem i)).timers.e5 = s.timers.e5 ∧
    ((s.startItem i)).timers.e6 = s.timers.e6 ∧
    ((s.startItem i)).timers.e7 = s.timers.e7 ∧
    ((s.startItem i)).tone.faxCall = s.tone.faxCall ∧
    ((s.startItem i)).tone.dataCall = s.tone.dataCall ∧
    ((s.startItem i)).tone.answer = s.tone.answer ∧
    ((s.startItem i)).tone.dtmf = s.tone.dtmf ∧
    ((s.startItem i)).tone.voiceBlocks = s.tone.voiceBlocks ∧
    ((s.startItem i)).rau = s.rau ∧
    ((s.startItem i)).level = s.level ∧
    ((s.startItem i)).pump = s.pump ∧
    ((s.startItem i)).link = s.link ∧
    ((s.startItem i)).fax = s.fax ∧
    ((s.startItem i)).voice = s.voice ∧
    ((s.startItem i)).store = s.store ∧
    ((s.startItem i)).ports = s.ports ∧
    ((s.startItem i)).sys = s.sys ∧
    ((s.startItem i)).pan = s.pan := by
  cases i <;> simp [State.startItem]

@[simp] theorem State.dialOn_keeps (s : State) :
    (s.dialOn).ccu.call = s.ccu.call ∧
    (s.dialOn).ccu.dialler.cursor = s.ccu.dialler.cursor ∧
    (s.dialOn).ccu.lastNumber = s.ccu.lastNumber ∧
    (s.dialOn).ccu.ending = s.ccu.ending ∧
    (s.dialOn).ccu.blind = s.ccu.blind ∧
    (s.dialOn).ccu.claims = s.ccu.claims ∧
    (s.dialOn).ccu.history = s.ccu.history ∧
    (s.dialOn).timers.e1 = s.timers.e1 ∧
    (s.dialOn).timers.e3 = s.timers.e3 ∧
    (s.dialOn).timers.e4 = s.timers.e4 ∧
    (s.dialOn).timers.e5 = s.timers.e5 ∧
    (s.dialOn).timers.e6 = s.timers.e6 ∧
    (s.dialOn).timers.e7 = s.timers.e7 ∧
    (s.dialOn).tone.faxCall = s.tone.faxCall ∧
    (s.dialOn).tone.dataCall = s.tone.dataCall ∧
    (s.dialOn).tone.dtmf = s.tone.dtmf ∧
    (s.dialOn).rau = s.rau ∧
    (s.dialOn).level = s.level ∧
    (s.dialOn).pump = s.pump ∧
    (s.dialOn).link = s.link ∧
    (s.dialOn).fax = s.fax ∧
    (s.dialOn).voice = s.voice ∧
    (s.dialOn).store = s.store ∧
    (s.dialOn).ports.system.outgoing = s.ports.system.outgoing ∧
    (s.dialOn).ports.system.digits = s.ports.system.digits ∧
    (s.dialOn).ports.system.transfer = s.ports.system.transfer ∧
    (s.dialOn).ports.system.alerts = s.ports.system.alerts ∧
    (s.dialOn).ports.panel.outgoing = s.ports.panel.outgoing ∧
    (s.dialOn).ports.panel.digits = s.ports.panel.digits ∧
    (s.dialOn).ports.panel.transfer = s.ports.panel.transfer ∧
    (s.dialOn).ports.panel.alerts = s.ports.panel.alerts ∧
    (s.dialOn).sys = s.sys ∧
    (s.dialOn).pan = s.pan := by
  unfold State.dialOn; try dsimp only
  repeat' split
  all_goals simp

@[simp] theorem State.itemComplete_keeps (s : State) :
    (s.itemComplete).ccu.call = s.ccu.call ∧
    (s.itemComplete).ccu.lastNumber = s.ccu.lastNumber ∧
    (s.itemComplete).ccu.ending = s.ccu.ending ∧
    (s.itemComplete).ccu.blind = s.ccu.blind ∧
    (s.itemComplete).ccu.claims = s.ccu.claims ∧
    (s.itemComplete).ccu.history = s.ccu.history ∧
    (s.itemComplete).timers.e1 = s.timers.e1 ∧
    (s.itemComplete).timers.e3 = s.timers.e3 ∧
    (s.itemComplete).timers.e4 = s.timers.e4 ∧
    (s.itemComplete).timers.e5 = s.timers.e5 ∧
    (s.itemComplete).timers.e6 = s.timers.e6 ∧
    (s.itemComplete).timers.e7 = s.timers.e7 ∧
    (s.itemComplete).tone.faxCall = s.tone.faxCall ∧
    (s.itemComplete).tone.dataCall = s.tone.dataCall ∧
    (s.itemComplete).tone.dtmf = s.tone.dtmf ∧
    (s.itemComplete).rau = s.rau ∧
    (s.itemComplete).level = s.level ∧
    (s.itemComplete).pump = s.pump ∧
    (s.itemComplete).link = s.link ∧
    (s.itemComplete).fax = s.fax ∧
    (s.itemComplete).voice = s.voice ∧
    (s.itemComplete).store = s.store ∧
    (s.itemComplete).ports.system.outgoing = s.ports.system.outgoing ∧
    (s.itemComplete).ports.system.digits = s.ports.system.digits ∧
    (s.itemComplete).ports.system.transfer = s.ports.system.transfer ∧
    (s.itemComplete).ports.system.alerts = s.ports.system.alerts ∧
    (s.itemComplete).ports.panel.outgoing = s.ports.panel.outgoing ∧
    (s.itemComplete).ports.panel.digits = s.ports.panel.digits ∧
    (s.itemComplete).ports.panel.transfer = s.ports.panel.transfer ∧
    (s.itemComplete).ports.panel.alerts = s.ports.panel.alerts ∧
    (s.itemComplete).sys = s.sys ∧
    (s.itemComplete).pan = s.pan := by
  unfold State.itemComplete; try dsimp only
  repeat' split
  all_goals simp

@[simp] theorem State.enterDialing_keeps (s : State) :
    (s.enterDialing).ccu.call = s.ccu.call ∧
    (s.enterDialing).ccu.lastNumber = s.ccu.lastNumber ∧
    (s.enterDialing).ccu.ending = s.ccu.ending ∧
    (s.enterDialing).ccu.blind = s.ccu.blind ∧
    (s.enterDialing).ccu.claims = s.ccu.claims ∧
    (s.enterDialing).ccu.history = s.ccu.history ∧
    (s.enterDialing).timers.e1 = s.timers.e1 ∧
    (s.enterDialing).timers.e3 = s.timers.e3 ∧
    (s.enterDialing).timers.e4 = s.timers.e4 ∧
    (s.enterDialing).timers.e5 = s.timers.e5 ∧
    (s.enterDialing).timers.e6 = s.timers.e6 ∧
    (s.enterDialing).timers.e7 = s.timers.e7 ∧
    (s.enterDialing).tone.faxCall = s.tone.faxCall ∧
    (s.enterDialing).tone.dataCall = s.tone.dataCall ∧
    (s.enterDialing).tone.dtmf = s.tone.dtmf ∧
    (s.enterDialing).rau = s.rau ∧
    (s.enterDialing).level = s.level ∧
    (s.enterDialing).pump = s.pump ∧
    (s.enterDialing).link = s.link ∧
    (s.enterDialing).fax = s.fax ∧
    (s.enterDialing).voice = s.voice ∧
    (s.enterDialing).store = s.store ∧
    (s.enterDialing).ports.system.outgoing = s.ports.system.outgoing ∧
    (s.enterDialing).ports.system.digits = s.ports.system.digits ∧
    (s.enterDialing).ports.system.transfer = s.ports.system.transfer ∧
    (s.enterDialing).ports.system.alerts = s.ports.system.alerts ∧
    (s.enterDialing).ports.panel.outgoing = s.ports.panel.outgoing ∧
    (s.enterDialing).ports.panel.digits = s.ports.panel.digits ∧
    (s.enterDialing).ports.panel.transfer = s.ports.panel.transfer ∧
    (s.enterDialing).ports.panel.alerts = s.ports.panel.alerts ∧
    (s.enterDialing).sys = s.sys ∧
    (s.enterDialing).pan = s.pan := by
  unfold State.enterDialing; try dsimp only
  repeat' split
  all_goals simp

@[simp] theorem State.dialToneHeard_keeps (s : State) :
    (s.dialToneHeard).ccu.call = s.ccu.call ∧
    (s.dialToneHeard).ccu.lastNumber = s.ccu.lastNumber ∧
    (s.dialToneHeard).ccu.ending = s.ccu.ending ∧
    (s.dialToneHeard).ccu.blind = s.ccu.blind ∧
    (s.dialToneHeard).ccu.claims = s.ccu.claims ∧
    (s.dialToneHeard).ccu.history = s.ccu.history ∧
    (s.dialToneHeard).timers.e1 = s.timers.e1 ∧
    (s.dialToneHeard).timers.e3 = s.timers.e3 ∧
    (s.dialToneHeard).timers.e4 = s.timers.e4 ∧
    (s.dialToneHeard).timers.e5 = s.timers.e5 ∧
    (s.dialToneHeard).timers.e6 = s.timers.e6 ∧
    (s.dialToneHeard).timers.e7 = s.timers.e7 ∧
    (s.dialToneHeard).tone.faxCall = s.tone.faxCall ∧
    (s.dialToneHeard).tone.dataCall = s.tone.dataCall ∧
    (s.dialToneHeard).tone.dtmf = s.tone.dtmf ∧
    (s.dialToneHeard).rau = s.rau ∧
    (s.dialToneHeard).level = s.level ∧
    (s.dialToneHeard).pump = s.pump ∧
    (s.dialToneHeard).link = s.link ∧
    (s.dialToneHeard).fax = s.fax ∧
    (s.dialToneHeard).voice = s.voice ∧
    (s.dialToneHeard).store = s.store ∧
    (s.dialToneHeard).ports.system.outgoing = s.ports.system.outgoing ∧
    (s.dialToneHeard).ports.system.digits = s.ports.system.digits ∧
    (s.dialToneHeard).ports.system.transfer = s.ports.system.transfer ∧
    (s.dialToneHeard).ports.system.alerts = s.ports.system.alerts ∧
    (s.dialToneHeard).ports.panel.outgoing = s.ports.panel.outgoing ∧
    (s.dialToneHeard).ports.panel.digits = s.ports.panel.digits ∧
    (s.dialToneHeard).ports.panel.transfer = s.ports.panel.transfer ∧
    (s.dialToneHeard).ports.panel.alerts = s.ports.panel.alerts ∧
    (s.dialToneHeard).sys = s.sys ∧
    (s.dialToneHeard).pan = s.pan := by
  unfold State.dialToneHeard; try dsimp only
  repeat' split
  all_goals simp

@[simp] theorem State.generatorNext_keeps (s : State) :
    (s.generatorNext).ccu = s.ccu ∧
    (s.generatorNext).lif = s.lif ∧
    (s.generatorNext).timers.e1 = s.timers.e1 ∧
    (s.generatorNext).timers.e2 = s.timers.e2 ∧
    (s.generatorNext).timers.e3 = s.timers.e3 ∧
    (s.generatorNext).timers.e4 = s.timers.e4 ∧
    (s.generatorNext).timers.e5 = s.timers.e5 ∧
    (s.generatorNext).timers.e6 = s.timers.e6 ∧
    (s.generatorNext).timers.e7 = s.timers.e7 ∧
    (s.generatorNext).tone.faxCall = s.tone.faxCall ∧
    (s.generatorNext).tone.dataCall = s.tone.dataCall ∧
    (s.generatorNext).tone.answer = s.tone.answer ∧
    (s.generatorNext).tone.dtmf = s.tone.dtmf ∧
    (s.generatorNext).tone.classifier = s.tone.classifier ∧
    (s.generatorNext).tone.voiceBlocks = s.tone.voiceBlocks ∧
    (s.generatorNext).rau = s.rau ∧
    (s.generatorNext).level = s.level ∧
    (s.generatorNext).pump = s.pump ∧
    (s.generatorNext).link = s.link ∧
    (s.generatorNext).fax = s.fax ∧
    (s.generatorNext).voice = s.voice ∧
    (s.generatorNext).store = s.store ∧
    (s.generatorNext).ports = s.ports ∧
    (s.generatorNext).sys = s.sys ∧
    (s.generatorNext).pan = s.pan := by
  unfold State.generatorNext; try dsimp only
  repeat' split
  all_goals simp

@[simp] theorem State.t0HalfEnds_keeps (s : State) :
    (s.t0HalfEnds).ccu = s.ccu ∧
    (s.t0HalfEnds).timers = s.timers ∧
    (s.t0HalfEnds).tone.generator = s.tone.generator ∧
    (s.t0HalfEnds).tone.faxCall = s.tone.faxCall ∧
    (s.t0HalfEnds).tone.dataCall = s.tone.dataCall ∧
    (s.t0HalfEnds).tone.answer = s.tone.answer ∧
    (s.t0HalfEnds).tone.classifier = s.tone.classifier ∧
    (s.t0HalfEnds).tone.voiceBlocks = s.tone.voiceBlocks ∧
    (s.t0HalfEnds).rau = s.rau ∧
    (s.t0HalfEnds).level = s.level ∧
    (s.t0HalfEnds).pump = s.pump ∧
    (s.t0HalfEnds).link = s.link ∧
    (s.t0HalfEnds).fax = s.fax ∧
    (s.t0HalfEnds).voice = s.voice ∧
    (s.t0HalfEnds).store = s.store ∧
    (s.t0HalfEnds).ports = s.ports ∧
    (s.t0HalfEnds).sys = s.sys ∧
    (s.t0HalfEnds).pan = s.pan := by
  unfold State.t0HalfEnds; try dsimp only
  repeat' split
  all_goals simp

@[simp] theorem State.pulseB_keeps (s : State) :
    (s.pulseB).ccu.call = s.ccu.call ∧
    (s.pulseB).ccu.lastNumber = s.ccu.lastNumber ∧
    (s.pulseB).ccu.ending = s.ccu.ending ∧
    (s.pulseB).ccu.blind = s.ccu.blind ∧
    (s.pulseB).ccu.claims = s.ccu.claims ∧
    (s.pulseB).ccu.history = s.ccu.history ∧
    (s.pulseB).timers.e1 = s.timers.e1 ∧
    (s.pulseB).timers.e3 = s.timers.e3 ∧
    (s.pulseB).timers.e4 = s.timers.e4 ∧
    (s.pulseB).timers.e5 = s.timers.e5 ∧
    (s.pulseB).timers.e6 = s.timers.e6 ∧
    (s.pulseB).timers.e7 = s.timers.e7 ∧
    (s.pulseB).tone.faxCall = s.tone.faxCall ∧
    (s.pulseB).tone.dataCall = s.tone.dataCall ∧
    (s.pulseB).tone.dtmf = s.tone.dtmf ∧
    (s.pulseB).rau = s.rau ∧
    (s.pulseB).level = s.level ∧
    (s.pulseB).pump = s.pump ∧
    (s.pulseB).link = s.link ∧
    (s.pulseB).fax = s.fax ∧
    (s.pulseB).voice = s.voice ∧
    (s.pulseB).store = s.store ∧
    (s.pulseB).ports.system.outgoing = s.ports.system.outgoing ∧
    (s.pulseB).ports.system.digits = s.ports.system.digits ∧
    (s.pulseB).ports.system.transfer = s.ports.system.transfer ∧
    (s.pulseB).ports.system.alerts = s.ports.system.alerts ∧
    (s.pulseB).ports.panel.outgoing = s.ports.panel.outgoing ∧
    (s.pulseB).ports.panel.digits = s.ports.panel.digits ∧
    (s.pulseB).ports.panel.transfer = s.ports.panel.transfer ∧
    (s.pulseB).ports.panel.alerts = s.ports.panel.alerts ∧
    (s.pulseB).sys = s.sys ∧
    (s.pulseB).pan = s.pan := by
  unfold State.pulseB; try dsimp only
  repeat' split
  all_goals simp

@[simp] theorem State.diallerB_keeps (s : State) :
    (s.diallerB).ccu.call = s.ccu.call ∧
    (s.diallerB).ccu.lastNumber = s.ccu.lastNumber ∧
    (s.diallerB).ccu.ending = s.ccu.ending ∧
    (s.diallerB).ccu.blind = s.ccu.blind ∧
    (s.diallerB).ccu.claims = s.ccu.claims ∧
    (s.diallerB).ccu.history = s.ccu.history ∧
    (s.diallerB).timers.e1 = s.timers.e1 ∧
    (s.diallerB).timers.e3 = s.timers.e3 ∧
    (s.diallerB).timers.e4 = s.timers.e4 ∧
    (s.diallerB).timers.e5 = s.timers.e5 ∧
    (s.diallerB).timers.e6 = s.timers.e6 ∧
    (s.diallerB).timers.e7 = s.timers.e7 ∧
    (s.diallerB).tone.faxCall = s.tone.faxCall ∧
    (s.diallerB).tone.dataCall = s.tone.dataCall ∧
    (s.diallerB).tone.dtmf = s.tone.dtmf ∧
    (s.diallerB).rau = s.rau ∧
    (s.diallerB).level = s.level ∧
    (s.diallerB).pump = s.pump ∧
    (s.diallerB).link = s.link ∧
    (s.diallerB).fax = s.fax ∧
    (s.diallerB).voice = s.voice ∧
    (s.diallerB).store = s.store ∧
    (s.diallerB).ports.system.outgoing = s.ports.system.outgoing ∧
    (s.diallerB).ports.system.digits = s.ports.system.digits ∧
    (s.diallerB).ports.system.transfer = s.ports.system.transfer ∧
    (s.diallerB).ports.system.alerts = s.ports.system.alerts ∧
    (s.diallerB).ports.panel.outgoing = s.ports.panel.outgoing ∧
    (s.diallerB).ports.panel.digits = s.ports.panel.digits ∧
    (s.diallerB).ports.panel.transfer = s.ports.panel.transfer ∧
    (s.diallerB).ports.panel.alerts = s.ports.panel.alerts ∧
    (s.diallerB).sys = s.sys ∧
    (s.diallerB).pan = s.pan := by
  unfold State.diallerB; try dsimp only
  repeat' split
  all_goals simp

@[simp] theorem State.generatorB_keeps (s : State) :
    (s.generatorB).ccu = s.ccu ∧
    (s.generatorB).lif = s.lif ∧
    (s.generatorB).timers.e1 = s.timers.e1 ∧
    (s.generatorB).timers.e2 = s.timers.e2 ∧
    (s.generatorB).timers.e3 = s.timers.e3 ∧
    (s.generatorB).timers.e4 = s.timers.e4 ∧
    (s.generatorB).timers.e5 = s.timers.e5 ∧
    (s.generatorB).timers.e6 = s.timers.e6 ∧
    (s.generatorB).timers.e7 = s.timers.e7 ∧
    (s.generatorB).tone.faxCall = s.tone.faxCall ∧
    (s.generatorB).tone.dataCall = s.tone.dataCall ∧
    (s.generatorB).tone.answer = s.tone.answer ∧
    (s.generatorB).tone.dtmf = s.tone.dtmf ∧
    (s.generatorB).tone.classifier = s.tone.classifier ∧
    (s.generatorB).tone.voiceBlocks = s.tone.voiceBlocks ∧
    (s.generatorB).rau = s.rau ∧
    (s.generatorB).level = s.level ∧
    (s.generatorB).pump = s.pump ∧
    (s.generatorB).link = s.link ∧
    (s.generatorB).fax = s.fax ∧
    (s.generatorB).voice = s.voice ∧
    (s.generatorB).store = s.store ∧
    (s.generatorB).ports = s.ports ∧
    (s.generatorB).sys = s.sys ∧
    (s.generatorB).pan = s.pan := by
  unfold State.generatorB; try dsimp only
  repeat' split
  all_goals simp

@[simp] theorem State.guardEnds_keeps (s : State) :
    (s.guardEnds).ccu.dialler = s.ccu.dialler ∧
    (s.guardEnds).ccu.history = s.ccu.history ∧
    (s.guardEnds).timers.e0 = s.timers.e0 ∧
    (s.guardEnds).timers.e3 = s.timers.e3 ∧
    (s.guardEnds).timers.e4 = s.timers.e4 ∧
    (s.guardEnds).timers.e5 = s.timers.e5 ∧
    (s.guardEnds).timers.e6 = s.timers.e6 ∧
    (s.guardEnds).timers.e7 = s.timers.e7 ∧
    (s.guardEnds).tone.generator = s.tone.generator ∧
    (s.guardEnds).rau.episode = s.rau.episode ∧
    (s.guardEnds).rau.caller.state = s.rau.caller.state ∧
    (s.guardEnds).rau.caller.bytes = s.rau.caller.bytes ∧
    (s.guardEnds).rau.caller.length = s.rau.caller.length ∧
    (s.guardEnds).rau.caller.status = s.rau.caller.status ∧
    (s.guardEnds).rau.caller.number = s.rau.caller.number ∧
    (s.guardEnds).rau.caller.name = s.rau.caller.name ∧
    (s.guardEnds).rau.discr = s.rau.discr ∧
    (s.guardEnds).pump = s.pump ∧
    (s.guardEnds).link.mode = s.link.mode ∧
    (s.guardEnds).link.paused = s.link.paused ∧
    (s.guardEnds).link.attempts = s.link.attempts ∧
    (s.guardEnds).link.windowSize = s.link.windowSize ∧
    (s.guardEnds).link.payloadSize = s.link.payloadSize ∧
    (s.guardEnds).link.vs = s.link.vs ∧
    (s.guardEnds).link.window = s.link.window ∧
    (s.guardEnds).link.resendMark = s.link.resendMark ∧
    (s.guardEnds).link.retries = s.link.retries ∧
    (s.guardEnds).link.peerBusy = s.link.peerBusy ∧
    (s.guardEnds).link.vr = s.link.vr ∧
    (s.guardEnds).link.rejectFlag = s.link.rejectFlag ∧
    (s.guardEnds).link.ackOwed = s.link.ackOwed ∧
    (s.guardEnds).link.busyAckOwed = s.link.busyAckOwed ∧
    (s.guardEnds).link.ownBusy = s.link.ownBusy ∧
    (s.guardEnds).link.rejectOwed = s.link.rejectOwed ∧
    (s.guardEnds).link.clearOwed = s.link.clearOwed ∧
    (s.guardEnds).link.reqDue = s.link.reqDue ∧
    (s.guardEnds).link.confSetup = s.link.confSetup ∧
    (s.guardEnds).link.confDue = s.link.confDue ∧
    (s.guardEnds).link.peerOffer = s.link.peerOffer ∧
    (s.guardEnds).link.byFarEnd = s.link.byFarEnd ∧
    (s.guardEnds).link.policy = s.link.policy ∧
    (s.guardEnds).link.offer = s.link.offer ∧
    (s.guardEnds).link.outbound = s.link.outbound ∧
    (s.guardEnds).link.inbound = s.link.inbound ∧
    (s.guardEnds).link.tx = s.link.tx ∧
    (s.guardEnds).voice = s.voice ∧
    (s.guardEnds).store = s.store ∧
    (s.guardEnds).sys = s.sys ∧
    (s.guardEnds).pan = s.pan := by
  unfold State.guardEnds; try dsimp only
  repeat' split
  all_goals simp

@[simp] theorem State.classified_keeps (s : State) (c : CadenceClass) :
    (s.classified c).ccu.call.number = s.ccu.call.number ∧
    (s.classified c).ccu.call.direction = s.ccu.call.direction ∧
    (s.classified c).ccu.call.holder = s.ccu.call.holder ∧
    (s.classified c).ccu.call.job = s.ccu.call.job ∧
    (s.classified c).ccu.call.phase = s.ccu.call.phase ∧
    (s.classified c).ccu.call.dialList = s.ccu.call.dialList ∧
    (s.classified c).ccu.call.callerStatus = s.ccu.call.callerStatus ∧
    (s.classified c).ccu.call.callerNumber = s.ccu.call.callerNumber ∧
    (s.classified c).ccu.call.callerName = s.ccu.call.callerName ∧
    (s.classified c).ccu.call.ringPattern = s.ccu.call.ringPattern ∧
    (s.classified c).ccu.call.ringCount = s.ccu.call.ringCount ∧
    (s.classified c).ccu.call.startTime = s.ccu.call.startTime ∧
    (s.classified c).ccu.call.rung = s.ccu.call.rung ∧
    (s.classified c).ccu.call.lastQuality = s.ccu.call.lastQuality ∧
    (s.classified c).ccu.call.seconds = s.ccu.call.seconds ∧
    (s.classified c).ccu.lastNumber = s.ccu.lastNumber ∧
    (s.classified c).ccu.blind = s.ccu.blind ∧
    (s.classified c).ccu.claims = s.ccu.claims ∧
    (s.classified c).timers.e7 = s.timers.e7 ∧
    (s.classified c).rau.episode = s.rau.episode ∧
    (s.classified c).rau.caller = s.rau.caller ∧
    (s.classified c).rau.presence = s.rau.presence ∧
    (s.classified c).rau.deadlines = s.rau.deadlines ∧
    (s.classified c).fax.role = s.fax.role ∧
    (s.classified c).fax.place = s.fax.place ∧
    (s.classified c).fax.rung = s.fax.rung ∧
    (s.classified c).fax.floor = s.fax.floor ∧
    (s.classified c).fax.ceiling = s.fax.ceiling ∧
    (s.classified c).fax.resolution = s.fax.resolution ∧
    (s.classified c).fax.scanMs = s.fax.scanMs ∧
    (s.classified c).fax.page = s.fax.page ∧
    (s.classified c).fax.attempts = s.fax.attempts ∧
    (s.classified c).fax.accepted = s.fax.accepted ∧
    (s.classified c).fax.linkedId = s.fax.linkedId ∧
    (s.classified c).fax.pageStart = s.fax.pageStart ∧
    (s.classified c).fax.windows = s.fax.windows ∧
    (s.classified c).fax.badWindows = s.fax.badWindows ∧
    (s.classified c).fax.overflow = s.fax.overflow ∧
    (s.classified c).fax.retries = s.fax.retries ∧
    (s.classified c).fax.lastFrame = s.fax.lastFrame ∧
    (s.classified c).fax.more = s.fax.more ∧
    (s.classified c).fax.checkOverloaded = s.fax.checkOverloaded ∧
    (s.classified c).fax.inPair = s.fax.inPair ∧
    (s.classified c).fax.lineLength = s.fax.lineLength ∧
    (s.classified c).fax.position = s.fax.position ∧
    (s.classified c).fax.pageFromPort = s.fax.pageFromPort ∧
    (s.classified c).fax.markSent = s.fax.markSent ∧
    (s.classified c).fax.markInQueue = s.fax.markInQueue ∧
    (s.classified c).ports.system.outgoing = s.ports.system.outgoing ∧
    (s.classified c).ports.system.digits = s.ports.system.digits ∧
    (s.classified c).ports.system.transfer = s.ports.system.transfer ∧
    (s.classified c).ports.panel.outgoing = s.ports.panel.outgoing ∧
    (s.classified c).ports.panel.digits = s.ports.panel.digits ∧
    (s.classified c).ports.panel.transfer = s.ports.panel.transfer ∧
    (s.classified c).sys.ready = s.sys.ready ∧
    (s.classified c).sys.rts = s.sys.rts ∧
    (s.classified c).sys.rate = s.sys.rate ∧
    (s.classified c).sys.notice = s.sys.notice ∧
    (s.classified c).sys.escape = s.sys.escape ∧
    (s.classified c).pan = s.pan := by
  unfold State.classified; try dsimp only
  repeat' split
  all_goals simp

@[simp] theorem State.classifierBlock_keeps (s : State) (b : ToneBlock) :
    (s.classifierBlock b).ccu.call.number = s.ccu.call.number ∧
    (s.classifierBlock b).ccu.call.direction = s.ccu.call.direction ∧
    (s.classifierBlock b).ccu.call.holder = s.ccu.call.holder ∧
    (s.classifierBlock b).ccu.call.job = s.ccu.call.job ∧
    (s.classifierBlock b).ccu.call.phase = s.ccu.call.phase ∧
    (s.classifierBlock b).ccu.call.dialList = s.ccu.call.dialList ∧
    (s.classifierBlock b).ccu.call.callerStatus = s.ccu.call.callerStatus ∧
    (s.classifierBlock b).ccu.call.callerNumber = s.ccu.call.callerNumber ∧
    (s.classifierBlock b).ccu.call.callerName = s.ccu.call.callerName ∧
    (s.classifierBlock b).ccu.call.ringPattern = s.ccu.call.ringPattern ∧
    (s.classifierBlock b).ccu.call.ringCount = s.ccu.call.ringCount ∧
    (s.classifierBlock b).ccu.call.startTime = s.ccu.call.startTime ∧
    (s.classifierBlock b).ccu.call.rung = s.ccu.call.rung ∧
    (s.classifierBlock b).ccu.call.lastQuality = s.ccu.call.lastQuality ∧
    (s.classifierBlock b).ccu.call.seconds = s.ccu.call.seconds ∧
    (s.classifierBlock b).ccu.lastNumber = s.ccu.lastNumber ∧
    (s.classifierBlock b).ccu.blind = s.ccu.blind ∧
    (s.classifierBlock b).ccu.claims = s.ccu.claims ∧
    (s.classifierBlock b).timers.e7 = s.timers.e7 ∧
    (s.classifierBlock b).rau.episode = s.rau.episode ∧
    (s.classifierBlock b).rau.caller = s.rau.caller ∧
    (s.classifierBlock b).rau.presence = s.rau.presence ∧
    (s.classifierBlock b).rau.deadlines = s.rau.deadlines ∧
    (s.classifierBlock b).fax.role = s.fax.role ∧
    (s.classifierBlock b).fax.place = s.fax.place ∧
    (s.classifierBlock b).fax.rung = s.fax.rung ∧
    (s.classifierBlock b).fax.floor = s.fax.floor ∧
    (s.classifierBlock b).fax.ceiling = s.fax.ceiling ∧
    (s.classifierBlock b).fax.resolution = s.fax.resolution ∧
    (s.classifierBlock b).fax.scanMs = s.fax.scanMs ∧
    (s.classifierBlock b).fax.page = s.fax.page ∧
    (s.classifierBlock b).fax.attempts = s.fax.attempts ∧
    (s.classifierBlock b).fax.accepted = s.fax.accepted ∧
    (s.classifierBlock b).fax.linkedId = s.fax.linkedId ∧
    (s.classifierBlock b).fax.pageStart = s.fax.pageStart ∧
    (s.classifierBlock b).fax.windows = s.fax.windows ∧
    (s.classifierBlock b).fax.badWindows = s.fax.badWindows ∧
    (s.classifierBlock b).fax.overflow = s.fax.overflow ∧
    (s.classifierBlock b).fax.retries = s.fax.retries ∧
    (s.classifierBlock b).fax.lastFrame = s.fax.lastFrame ∧
    (s.classifierBlock b).fax.more = s.fax.more ∧
    (s.classifierBlock b).fax.checkOverloaded = s.fax.checkOverloaded ∧
    (s.classifierBlock b).fax.inPair = s.fax.inPair ∧
    (s.classifierBlock b).fax.lineLength = s.fax.lineLength ∧
    (s.classifierBlock b).fax.position = s.fax.position ∧
    (s.classifierBlock b).fax.pageFromPort = s.fax.pageFromPort ∧
    (s.classifierBlock b).fax.markSent = s.fax.markSent ∧
    (s.classifierBlock b).fax.markInQueue = s.fax.markInQueue ∧
    (s.classifierBlock b).ports.system.outgoing = s.ports.system.outgoing ∧
    (s.classifierBlock b).ports.system.digits = s.ports.system.digits ∧
    (s.classifierBlock b).ports.system.transfer = s.ports.system.transfer ∧
    (s.classifierBlock b).ports.panel.outgoing = s.ports.panel.outgoing ∧
    (s.classifierBlock b).ports.panel.digits = s.ports.panel.digits ∧
    (s.classifierBlock b).ports.panel.transfer = s.ports.panel.transfer ∧
    (s.classifierBlock b).sys.ready = s.sys.ready ∧
    (s.classifierBlock b).sys.rts = s.sys.rts ∧
    (s.classifierBlock b).sys.rate = s.sys.rate ∧
    (s.classifierBlock b).sys.notice = s.sys.notice ∧
    (s.classifierBlock b).sys.escape = s.sys.escape ∧
    (s.classifierBlock b).pan = s.pan := by
  unfold State.classifierBlock; try dsimp only
  repeat' split
  all_goals simp

@[simp] theorem State.answerBlock_keeps (s : State) (b : ToneBlock) :
    (s.answerBlock b).ccu.call.number = s.ccu.call.number ∧
    (s.answerBlock b).ccu.call.direction = s.ccu.call.direction ∧
    (s.answerBlock b).ccu.call.holder = s.ccu.call.holder ∧
    (s.answerBlock b).ccu.call.job = s.ccu.call.job ∧
    (s.answerBlock b).ccu.call.dialList = s.ccu.call.dialList ∧
    (s.answerBlock b).ccu.call.farEndRinging = s.ccu.call.farEndRinging ∧
    (s.answerBlock b).ccu.call.callerStatus = s.ccu.call.callerStatus ∧
    (s.answerBlock b).ccu.call.callerNumber = s.ccu.call.callerNumber ∧
    (s.answerBlock b).ccu.call.callerName = s.ccu.call.callerName ∧
    (s.answerBlock b).ccu.call.ringPattern = s.ccu.call.ringPattern ∧
    (s.answerBlock b).ccu.call.ringCount = s.ccu.call.ringCount ∧
    (s.answerBlock b).ccu.call.startTime = s.ccu.call.startTime ∧
    (s.answerBlock b).ccu.call.rung = s.ccu.call.rung ∧
    (s.answerBlock b).ccu.call.lastQuality = s.ccu.call.lastQuality ∧
    (s.answerBlock b).ccu.call.seconds = s.ccu.call.seconds ∧
    (s.answerBlock b).ccu.dialler.cursor = s.ccu.dialler.cursor ∧
    (s.answerBlock b).ccu.dialler.breaksEnded = s.ccu.dialler.breaksEnded ∧
    (s.answerBlock b).ccu.dialler.lastMake = s.ccu.dialler.lastMake ∧
    (s.answerBlock b).ccu.lastNumber = s.ccu.lastNumber ∧
    (s.answerBlock b).ccu.blind = s.ccu.blind ∧
    (s.answerBlock b).ccu.claims = s.ccu.claims ∧
    (s.answerBlock b).lif.ringPresent = s.lif.ringPresent ∧
    (s.answerBlock b).lif.hangover = s.lif.hangover ∧
    (s.answerBlock b).lif.voltageBelow = s.lif.voltageBelow ∧
    (s.answerBlock b).lif.currentBelow = s.lif.currentBelow ∧
    (s.answerBlock b).lif.pickupLatch = s.lif.pickupLatch ∧
    (s.answerBlock b).timers.e7 = s.timers.e7 ∧
    (s.answerBlock b).rau.episode = s.rau.episode ∧
    (s.answerBlock b).rau.caller = s.rau.caller ∧
    (s.answerBlock b).rau.presence = s.rau.presence ∧
    (s.answerBlock b).rau.deadlines = s.rau.deadlines ∧
    (s.answerBlock b).fax.role = s.fax.role ∧
    (s.answerBlock b).fax.place = s.fax.place ∧
    (s.answerBlock b).fax.rung = s.fax.rung ∧
    (s.answerBlock b).fax.resolution = s.fax.resolution ∧
    (s.answerBlock b).fax.scanMs = s.fax.scanMs ∧
    (s.answerBlock b).fax.page = s.fax.page ∧
    (s.answerBlock b).fax.attempts = s.fax.attempts ∧
    (s.answerBlock b).fax.accepted = s.fax.accepted ∧
    (s.answerBlock b).fax.pageStart = s.fax.pageStart ∧
    (s.answerBlock b).fax.windows = s.fax.windows ∧
    (s.answerBlock b).fax.badWindows = s.fax.badWindows ∧
    (s.answerBlock b).fax.overflow = s.fax.overflow ∧
    (s.answerBlock b).fax.retries = s.fax.retries ∧
    (s.answerBlock b).fax.more = s.fax.more ∧
    (s.answerBlock b).fax.checkOverloaded = s.fax.checkOverloaded ∧
    (s.answerBlock b).fax.inPair = s.fax.inPair ∧
    (s.answerBlock b).fax.lineLength = s.fax.lineLength ∧
    (s.answerBlock b).fax.position = s.fax.position ∧
    (s.answerBlock b).fax.pageFromPort = s.fax.pageFromPort ∧
    (s.answerBlock b).fax.markSent = s.fax.markSent ∧
    (s.answerBlock b).fax.markInQueue = s.fax.markInQueue ∧
    (s.answerBlock b).ports.system.outgoing = s.ports.system.outgoing ∧
    (s.answerBlock b).ports.system.digits = s.ports.system.digits ∧
    (s.answerBlock b).ports.system.transfer = s.ports.system.transfer ∧
    (s.answerBlock b).ports.panel.outgoing = s.ports.panel.outgoing ∧
    (s.answerBlock b).ports.panel.digits = s.ports.panel.digits ∧
    (s.answerBlock b).ports.panel.transfer = s.ports.panel.transfer ∧
    (s.answerBlock b).sys.ready = s.sys.ready ∧
    (s.answerBlock b).sys.rts = s.sys.rts ∧
    (s.answerBlock b).sys.rate = s.sys.rate ∧
    (s.answerBlock b).sys.notice = s.sys.notice ∧
    (s.answerBlock b).sys.escape = s.sys.escape ∧
    (s.answerBlock b).pan = s.pan := by
  unfold State.answerBlock; try dsimp only
  repeat' split
  all_goals simp

@[simp] theorem State.voiceBlock_keeps (s : State) (b : ToneBlock) :
    (s.voiceBlock b).ccu.call.number = s.ccu.call.number ∧
    (s.voiceBlock b).ccu.call.direction = s.ccu.call.direction ∧
    (s.voiceBlock b).ccu.call.holder = s.ccu.call.holder ∧
    (s.voiceBlock b).ccu.call.job = s.ccu.call.job ∧
    (s.voiceBlock b).ccu.call.dialList = s.ccu.call.dialList ∧
    (s.voiceBlock b).ccu.call.farEndRinging = s.ccu.call.farEndRinging ∧
    (s.voiceBlock b).ccu.call.callerStatus = s.ccu.call.callerStatus ∧
    (s.voiceBlock b).ccu.call.callerNumber = s.ccu.call.callerNumber ∧
    (s.voiceBlock b).ccu.call.callerName = s.ccu.call.callerName ∧
    (s.voiceBlock b).ccu.call.ringPattern = s.ccu.call.ringPattern ∧
    (s.voiceBlock b).ccu.call.ringCount = s.ccu.call.ringCount ∧
    (s.voiceBlock b).ccu.call.startTime = s.ccu.call.startTime ∧
    (s.voiceBlock b).ccu.call.rung = s.ccu.call.rung ∧
    (s.voiceBlock b).ccu.call.lastQuality = s.ccu.call.lastQuality ∧
    (s.voiceBlock b).ccu.call.seconds = s.ccu.call.seconds ∧
    (s.voiceBlock b).ccu.dialler.cursor = s.ccu.dialler.cursor ∧
    (s.voiceBlock b).ccu.dialler.breaksEnded = s.ccu.dialler.breaksEnded ∧
    (s.voiceBlock b).ccu.dialler.lastMake = s.ccu.dialler.lastMake ∧
    (s.voiceBlock b).ccu.lastNumber = s.ccu.lastNumber ∧
    (s.voiceBlock b).ccu.blind = s.ccu.blind ∧
    (s.voiceBlock b).ccu.claims = s.ccu.claims ∧
    (s.voiceBlock b).lif.ringPresent = s.lif.ringPresent ∧
    (s.voiceBlock b).lif.hangover = s.lif.hangover ∧
    (s.voiceBlock b).lif.voltageBelow = s.lif.voltageBelow ∧
    (s.voiceBlock b).lif.currentBelow = s.lif.currentBelow ∧
    (s.voiceBlock b).lif.pickupLatch = s.lif.pickupLatch ∧
    (s.voiceBlock b).timers.e7 = s.timers.e7 ∧
    (s.voiceBlock b).rau.episode = s.rau.episode ∧
    (s.voiceBlock b).rau.caller = s.rau.caller ∧
    (s.voiceBlock b).rau.presence = s.rau.presence ∧
    (s.voiceBlock b).rau.deadlines = s.rau.deadlines ∧
    (s.voiceBlock b).fax.role = s.fax.role ∧
    (s.voiceBlock b).fax.place = s.fax.place ∧
    (s.voiceBlock b).fax.rung = s.fax.rung ∧
    (s.voiceBlock b).fax.resolution = s.fax.resolution ∧
    (s.voiceBlock b).fax.scanMs = s.fax.scanMs ∧
    (s.voiceBlock b).fax.page = s.fax.page ∧
    (s.voiceBlock b).fax.attempts = s.fax.attempts ∧
    (s.voiceBlock b).fax.accepted = s.fax.accepted ∧
    (s.voiceBlock b).fax.pageStart = s.fax.pageStart ∧
    (s.voiceBlock b).fax.windows = s.fax.windows ∧
    (s.voiceBlock b).fax.badWindows = s.fax.badWindows ∧
    (s.voiceBlock b).fax.overflow = s.fax.overflow ∧
    (s.voiceBlock b).fax.retries = s.fax.retries ∧
    (s.voiceBlock b).fax.more = s.fax.more ∧
    (s.voiceBlock b).fax.checkOverloaded = s.fax.checkOverloaded ∧
    (s.voiceBlock b).fax.inPair = s.fax.inPair ∧
    (s.voiceBlock b).fax.lineLength = s.fax.lineLength ∧
    (s.voiceBlock b).fax.position = s.fax.position ∧
    (s.voiceBlock b).fax.pageFromPort = s.fax.pageFromPort ∧
    (s.voiceBlock b).fax.markSent = s.fax.markSent ∧
    (s.voiceBlock b).fax.markInQueue = s.fax.markInQueue ∧
    (s.voiceBlock b).ports.system.outgoing = s.ports.system.outgoing ∧
    (s.voiceBlock b).ports.system.digits = s.ports.system.digits ∧
    (s.voiceBlock b).ports.system.transfer = s.ports.system.transfer ∧
    (s.voiceBlock b).ports.panel.outgoing = s.ports.panel.outgoing ∧
    (s.voiceBlock b).ports.panel.digits = s.ports.panel.digits ∧
    (s.voiceBlock b).ports.panel.transfer = s.ports.panel.transfer ∧
    (s.voiceBlock b).sys.ready = s.sys.ready ∧
    (s.voiceBlock b).sys.rts = s.sys.rts ∧
    (s.voiceBlock b).sys.rate = s.sys.rate ∧
    (s.voiceBlock b).sys.notice = s.sys.notice ∧
    (s.voiceBlock b).sys.escape = s.sys.escape ∧
    (s.voiceBlock b).pan = s.pan := by
  unfold State.voiceBlock; try dsimp only
  repeat' split
  all_goals simp

@[simp] theorem State.faxCallBlock_keeps (s : State) (b : ToneBlock) :
    (s.faxCallBlock b).ccu.call.number = s.ccu.call.number ∧
    (s.faxCallBlock b).ccu.call.direction = s.ccu.call.direction ∧
    (s.faxCallBlock b).ccu.call.dialList = s.ccu.call.dialList ∧
    (s.faxCallBlock b).ccu.call.farEndRinging = s.ccu.call.farEndRinging ∧
    (s.faxCallBlock b).ccu.call.callerStatus = s.ccu.call.callerStatus ∧
    (s.faxCallBlock b).ccu.call.callerNumber = s.ccu.call.callerNumber ∧
    (s.faxCallBlock b).ccu.call.callerName = s.ccu.call.callerName ∧
    (s.faxCallBlock b).ccu.call.ringPattern = s.ccu.call.ringPattern ∧
    (s.faxCallBlock b).ccu.call.ringCount = s.ccu.call.ringCount ∧
    (s.faxCallBlock b).ccu.call.startTime = s.ccu.call.startTime ∧
    (s.faxCallBlock b).ccu.call.rung = s.ccu.call.rung ∧
    (s.faxCallBlock b).ccu.call.lastQuality = s.ccu.call.lastQuality ∧
    (s.faxCallBlock b).ccu.call.seconds = s.ccu.call.seconds ∧
    (s.faxCallBlock b).ccu.dialler.cursor = s.ccu.dialler.cursor ∧
    (s.faxCallBlock b).ccu.dialler.breaksEnded = s.ccu.dialler.breaksEnded ∧
    (s.faxCallBlock b).ccu.dialler.lastMake = s.ccu.dialler.lastMake ∧
    (s.faxCallBlock b).ccu.lastNumber = s.ccu.lastNumber ∧
    (s.faxCallBlock b).ccu.blind = s.ccu.blind ∧
    (s.faxCallBlock b).ccu.claims = s.ccu.claims ∧
    (s.faxCallBlock b).lif.ringPresent = s.lif.ringPresent ∧
    (s.faxCallBlock b).lif.hangover = s.lif.hangover ∧
    (s.faxCallBlock b).lif.voltageBelow = s.lif.voltageBelow ∧
    (s.faxCallBlock b).lif.currentBelow = s.lif.currentBelow ∧
    (s.faxCallBlock b).lif.pickupLatch = s.lif.pickupLatch ∧
    (s.faxCallBlock b).timers.e7 = s.timers.e7 ∧
    (s.faxCallBlock b).rau.episode = s.rau.episode ∧
    (s.faxCallBlock b).rau.caller = s.rau.caller ∧
    (s.faxCallBlock b).rau.presence = s.rau.presence ∧
    (s.faxCallBlock b).rau.deadlines = s.rau.deadlines ∧
    (s.faxCallBlock b).ports.system.outgoing = s.ports.system.outgoing ∧
    (s.faxCallBlock b).ports.system.digits = s.ports.system.digits ∧
    (s.faxCallBlock b).ports.system.transfer = s.ports.system.transfer ∧
    (s.faxCallBlock b).ports.panel.outgoing = s.ports.panel.outgoing ∧
    (s.faxCallBlock b).ports.panel.digits = s.ports.panel.digits ∧
    (s.faxCallBlock b).ports.panel.transfer = s.ports.panel.transfer ∧
    (s.faxCallBlock b).sys.ready = s.sys.ready ∧
    (s.faxCallBlock b).sys.rts = s.sys.rts ∧
    (s.faxCallBlock b).sys.rate = s.sys.rate ∧
    (s.faxCallBlock b).sys.notice = s.sys.notice ∧
    (s.faxCallBlock b).sys.escape = s.sys.escape ∧
    (s.faxCallBlock b).pan = s.pan := by
  unfold State.faxCallBlock; try dsimp only
  repeat' split
  all_goals simp

@[simp] theorem State.dataCallBlock_keeps (s : State) (b : ToneBlock) :
    (s.dataCallBlock b).ccu.call.number = s.ccu.call.number ∧
    (s.dataCallBlock b).ccu.call.direction = s.ccu.call.direction ∧
    (s.dataCallBlock b).ccu.call.dialList = s.ccu.call.dialList ∧
    (s.dataCallBlock b).ccu.call.farEndRinging = s.ccu.call.farEndRinging ∧
    (s.dataCallBlock b).ccu.call.callerStatus = s.ccu.call.callerStatus ∧
    (s.dataCallBlock b).ccu.call.callerNumber = s.ccu.call.callerNumber ∧
    (s.dataCallBlock b).ccu.call.callerName = s.ccu.call.callerName ∧
    (s.dataCallBlock b).ccu.call.ringPattern = s.ccu.call.ringPattern ∧
    (s.dataCallBlock b).ccu.call.ringCount = s.ccu.call.ringCount ∧
    (s.dataCallBlock b).ccu.call.startTime = s.ccu.call.startTime ∧
    (s.dataCallBlock b).ccu.call.rung = s.ccu.call.rung ∧
    (s.dataCallBlock b).ccu.call.lastQuality = s.ccu.call.lastQuality ∧
    (s.dataCallBlock b).ccu.call.seconds = s.ccu.call.seconds ∧
    (s.dataCallBlock b).ccu.dialler.cursor = s.ccu.dialler.cursor ∧
    (s.dataCallBlock b).ccu.dialler.breaksEnded = s.ccu.dialler.breaksEnded ∧
    (s.dataCallBlock b).ccu.dialler.lastMake = s.ccu.dialler.lastMake ∧
    (s.dataCallBlock b).ccu.lastNumber = s.ccu.lastNumber ∧
    (s.dataCallBlock b).ccu.blind = s.ccu.blind ∧
    (s.dataCallBlock b).ccu.claims = s.ccu.claims ∧
    (s.dataCallBlock b).lif.ringPresent = s.lif.ringPresent ∧
    (s.dataCallBlock b).lif.hangover = s.lif.hangover ∧
    (s.dataCallBlock b).lif.voltageBelow = s.lif.voltageBelow ∧
    (s.dataCallBlock b).lif.currentBelow = s.lif.currentBelow ∧
    (s.dataCallBlock b).lif.pickupLatch = s.lif.pickupLatch ∧
    (s.dataCallBlock b).timers.e7 = s.timers.e7 ∧
    (s.dataCallBlock b).rau.episode = s.rau.episode ∧
    (s.dataCallBlock b).rau.caller = s.rau.caller ∧
    (s.dataCallBlock b).rau.presence = s.rau.presence ∧
    (s.dataCallBlock b).rau.deadlines = s.rau.deadlines ∧
    (s.dataCallBlock b).fax.role = s.fax.role ∧
    (s.dataCallBlock b).fax.place = s.fax.place ∧
    (s.dataCallBlock b).fax.rung = s.fax.rung ∧
    (s.dataCallBlock b).fax.floor = s.fax.floor ∧
    (s.dataCallBlock b).fax.ceiling = s.fax.ceiling ∧
    (s.dataCallBlock b).fax.resolution = s.fax.resolution ∧
    (s.dataCallBlock b).fax.scanMs = s.fax.scanMs ∧
    (s.dataCallBlock b).fax.page = s.fax.page ∧
    (s.dataCallBlock b).fax.attempts = s.fax.attempts ∧
    (s.dataCallBlock b).fax.accepted = s.fax.accepted ∧
    (s.dataCallBlock b).fax.linkedId = s.fax.linkedId ∧
    (s.dataCallBlock b).fax.pageStart = s.fax.pageStart ∧
    (s.dataCallBlock b).fax.windows = s.fax.windows ∧
    (s.dataCallBlock b).fax.badWindows = s.fax.badWindows ∧
    (s.dataCallBlock b).fax.overflow = s.fax.overflow ∧
    (s.dataCallBlock b).fax.retries = s.fax.retries ∧
    (s.dataCallBlock b).fax.lastFrame = s.fax.lastFrame ∧
    (s.dataCallBlock b).fax.more = s.fax.more ∧
    (s.dataCallBlock b).fax.checkOverloaded = s.fax.checkOverloaded ∧
    (s.dataCallBlock b).fax.inPair = s.fax.inPair ∧
    (s.dataCallBlock b).fax.lineLength = s.fax.lineLength ∧
    (s.dataCallBlock b).fax.position = s.fax.position ∧
    (s.dataCallBlock b).fax.pageFromPort = s.fax.pageFromPort ∧
    (s.dataCallBlock b).fax.markSent = s.fax.markSent ∧
    (s.dataCallBlock b).fax.markInQueue = s.fax.markInQueue ∧
    (s.dataCallBlock b).ports.system.outgoing = s.ports.system.outgoing ∧
    (s.dataCallBlock b).ports.system.digits = s.ports.system.digits ∧
    (s.dataCallBlock b).ports.system.transfer = s.ports.system.transfer ∧
    (s.dataCallBlock b).ports.panel.outgoing = s.ports.panel.outgoing ∧
    (s.dataCallBlock b).ports.panel.digits = s.ports.panel.digits ∧
    (s.dataCallBlock b).ports.panel.transfer = s.ports.panel.transfer ∧
    (s.dataCallBlock b).sys.ready = s.sys.ready ∧
    (s.dataCallBlock b).sys.rts = s.sys.rts ∧
    (s.dataCallBlock b).sys.rate = s.sys.rate ∧
    (s.dataCallBlock b).sys.notice = s.sys.notice ∧
    (s.dataCallBlock b).sys.escape = s.sys.escape ∧
    (s.dataCallBlock b).pan = s.pan := by
  unfold State.dataCallBlock; try dsimp only
  repeat' split
  all_goals simp

@[simp] theorem State.digitToMaster_keeps (s : State) (p : Port) (x : Symbol) :
    (s.digitToMaster p x).ccu.line = s.ccu.line ∧
    (s.digitToMaster p x).ccu.call.active = s.ccu.call.active ∧
    (s.digitToMaster p x).ccu.call.number = s.ccu.call.number ∧
    (s.digitToMaster p x).ccu.call.direction = s.ccu.call.direction ∧
    (s.digitToMaster p x).ccu.call.holder = s.ccu.call.holder ∧
    (s.digitToMaster p x).ccu.call.job = s.ccu.call.job ∧
    (s.digitToMaster p x).ccu.call.phase = s.ccu.call.phase ∧
    (s.digitToMaster p x).ccu.call.dialList = s.ccu.call.dialList ∧
    (s.digitToMaster p x).ccu.call.farEndRinging = s.ccu.call.farEndRinging ∧
    (s.digitToMaster p x).ccu.call.callerStatus = s.ccu.call.callerStatus ∧
    (s.digitToMaster p x).ccu.call.callerNumber = s.ccu.call.callerNumber ∧
    (s.digitToMaster p x).ccu.call.callerName = s.ccu.call.callerName ∧
    (s.digitToMaster p x).ccu.call.ringPattern = s.ccu.call.ringPattern ∧
    (s.digitToMaster p x).ccu.call.ringCount = s.ccu.call.ringCount ∧
    (s.digitToMaster p x).ccu.call.startTime = s.ccu.call.startTime ∧
    (s.digitToMaster p x).ccu.call.rung = s.ccu.call.rung ∧
    (s.digitToMaster p x).ccu.call.lastQuality = s.ccu.call.lastQuality ∧
    (s.digitToMaster p x).ccu.call.seconds = s.ccu.call.seconds ∧
    (s.digitToMaster p x).ccu.call.cause = s.ccu.call.cause ∧
    (s.digitToMaster p x).ccu.dialler = s.ccu.dialler ∧
    (s.digitToMaster p x).ccu.lastNumber = s.ccu.lastNumber ∧
    (s.digitToMaster p x).ccu.ending = s.ccu.ending ∧
    (s.digitToMaster p x).ccu.blind = s.ccu.blind ∧
    (s.digitToMaster p x).ccu.claims = s.ccu.claims ∧
    (s.digitToMaster p x).ccu.history = s.ccu.history ∧
    (s.digitToMaster p x).ccu.t2Use = s.ccu.t2Use ∧
    (s.digitToMaster p x).lif = s.lif ∧
    (s.digitToMaster p x).timers.e0 = s.timers.e0 ∧
    (s.digitToMaster p x).timers.e1 = s.timers.e1 ∧
    (s.digitToMaster p x).timers.e2 = s.timers.e2 ∧
    (s.digitToMaster p x).timers.e3 = s.timers.e3 ∧
    (s.digitToMaster p x).timers.e4 = s.timers.e4 ∧
    (s.digitToMaster p x).timers.e5 = s.timers.e5 ∧
    (s.digitToMaster p x).timers.e7 = s.timers.e7 ∧
    (s.digitToMaster p x).tone = s.tone ∧
    (s.digitToMaster p x).rau = s.rau ∧
    (s.digitToMaster p x).level = s.level ∧
    (s.digitToMaster p x).pump.mode = s.pump.mode ∧
    (s.digitToMaster p x).pump.role = s.pump.role ∧
    (s.digitToMaster p x).pump.phase = s.pump.phase ∧
    (s.digitToMaster p x).pump.localCeiling = s.pump.localCeiling ∧
    (s.digitToMaster p x).pump.localFloor = s.pump.localFloor ∧
    (s.digitToMaster p x).pump.peerMax = s.pump.peerMax ∧
    (s.digitToMaster p x).pump.negCeiling = s.pump.negCeiling ∧
    (s.digitToMaster p x).pump.negFloor = s.pump.negFloor ∧
    (s.digitToMaster p x).pump.below = s.pump.below ∧
    (s.digitToMaster p x).pump.above = s.pump.above ∧
    (s.digitToMaster p x).pump.retrains = s.pump.retrains ∧
    (s.digitToMaster p x).pump.linkStarted = s.pump.linkStarted ∧
    (s.digitToMaster p x).pump.request = s.pump.request ∧
    (s.digitToMaster p x).pump.answerTone = s.pump.answerTone ∧
    (s.digitToMaster p x).pump.heardMax = s.pump.heardMax ∧
    (s.digitToMaster p x).pump.heardAck = s.pump.heardAck ∧
    (s.digitToMaster p x).pump.stage = s.pump.stage ∧
    (s.digitToMaster p x).pump.ownAccept = s.pump.ownAccept ∧
    (s.digitToMaster p x).pump.farAccept = s.pump.farAccept ∧
    (s.digitToMaster p x).pump.confirmed = s.pump.confirmed ∧
    (s.digitToMaster p x).link.mode = s.link.mode ∧
    (s.digitToMaster p x).link.paused = s.link.paused ∧
    (s.digitToMaster p x).link.attempts = s.link.attempts ∧
    (s.digitToMaster p x).link.windowSize = s.link.windowSize ∧
    (s.digitToMaster p x).link.payloadSize = s.link.payloadSize ∧
    (s.digitToMaster p x).link.vs = s.link.vs ∧
    (s.digitToMaster p x).link.window = s.link.window ∧
    (s.digitToMaster p x).link.resendMark = s.link.resendMark ∧
    (s.digitToMaster p x).link.retries = s.link.retries ∧
    (s.digitToMaster p x).link.peerBusy = s.link.peerBusy ∧
    (s.digitToMaster p x).link.vr = s.link.vr ∧
    (s.digitToMaster p x).link.rejectFlag = s.link.rejectFlag ∧
    (s.digitToMaster p x).link.ackOwed = s.link.ackOwed ∧
    (s.digitToMaster p x).link.busyAckOwed = s.link.busyAckOwed ∧
    (s.digitToMaster p x).link.ownBusy = s.link.ownBusy ∧
    (s.digitToMaster p x).link.rejectOwed = s.link.rejectOwed ∧
    (s.digitToMaster p x).link.clearOwed = s.link.clearOwed ∧
    (s.digitToMaster p x).link.reqDue = s.link.reqDue ∧
    (s.digitToMaster p x).link.confDue = s.link.confDue ∧
    (s.digitToMaster p x).link.confSetup = s.link.confSetup ∧
    (s.digitToMaster p x).link.peerOffer = s.link.peerOffer ∧
    (s.digitToMaster p x).link.byFarEnd = s.link.byFarEnd ∧
    (s.digitToMaster p x).link.policy = s.link.policy ∧
    (s.digitToMaster p x).link.offer = s.link.offer ∧
    (s.digitToMaster p x).link.stats = s.link.stats ∧
    (s.digitToMaster p x).link.outbound = s.link.outbound ∧
    (s.digitToMaster p x).link.inbound = s.link.inbound ∧
    (s.digitToMaster p x).fax = s.fax ∧
    (s.digitToMaster p x).voice.remote = s.voice.remote ∧
    (s.digitToMaster p x).ports.system.outgoing = s.ports.system.outgoing ∧
    (s.digitToMaster p x).ports.system.transfer = s.ports.system.transfer ∧
    (s.digitToMaster p x).ports.panel.outgoing = s.ports.panel.outgoing ∧
    (s.digitToMaster p x).ports.panel.transfer = s.ports.panel.transfer ∧
    (s.digitToMaster p x).sys = s.sys ∧
    (s.digitToMaster p x).pan = s.pan := by
  cases p <;> unfold State.digitToMaster <;> (try dsimp only) <;> (repeat' split) <;> first | (simp; done) | simp [State.updPort, PerPort.set, State.port, PerPort.get]

@[simp] theorem State.routeDigit_keeps (s : State) (x : Symbol) :
    (s.routeDigit x).ccu.call.number = s.ccu.call.number ∧
    (s.routeDigit x).ccu.call.direction = s.ccu.call.direction ∧
    (s.routeDigit x).ccu.call.holder = s.ccu.call.holder ∧
    (s.routeDigit x).ccu.call.dialList = s.ccu.call.dialList ∧
    (s.routeDigit x).ccu.call.farEndRinging = s.ccu.call.farEndRinging ∧
    (s.routeDigit x).ccu.call.callerStatus = s.ccu.call.callerStatus ∧
    (s.routeDigit x).ccu.call.callerNumber = s.ccu.call.callerNumber ∧
    (s.routeDigit x).ccu.call.callerName = s.ccu.call.callerName ∧
    (s.routeDigit x).ccu.call.ringPattern = s.ccu.call.ringPattern ∧
    (s.routeDigit x).ccu.call.ringCount = s.ccu.call.ringCount ∧
    (s.routeDigit x).ccu.call.startTime = s.ccu.call.startTime ∧
    (s.routeDigit x).ccu.call.rung = s.ccu.call.rung ∧
    (s.routeDigit x).ccu.call.lastQuality = s.ccu.call.lastQuality ∧
    (s.routeDigit x).ccu.call.seconds = s.ccu.call.seconds ∧
    (s.routeDigit x).ccu.dialler.cursor = s.ccu.dialler.cursor ∧
    (s.routeDigit x).ccu.dialler.breaksEnded = s.ccu.dialler.breaksEnded ∧
    (s.routeDigit x).ccu.dialler.lastMake = s.ccu.dialler.lastMake ∧
    (s.routeDigit x).ccu.lastNumber = s.ccu.lastNumber ∧
    (s.routeDigit x).ccu.blind = s.ccu.blind ∧
    (s.routeDigit x).ccu.claims = s.ccu.claims ∧
    (s.routeDigit x).lif.ringPresent = s.lif.ringPresent ∧
    (s.routeDigit x).lif.hangover = s.lif.hangover ∧
    (s.routeDigit x).lif.voltageBelow = s.lif.voltageBelow ∧
    (s.routeDigit x).lif.currentBelow = s.lif.currentBelow ∧
    (s.routeDigit x).lif.pickupLatch = s.lif.pickupLatch ∧
    (s.routeDigit x).timers.e7 = s.timers.e7 ∧
    (s.routeDigit x).rau.episode = s.rau.episode ∧
    (s.routeDigit x).rau.caller = s.rau.caller ∧
    (s.routeDigit x).rau.presence = s.rau.presence ∧
    (s.routeDigit x).rau.deadlines = s.rau.deadlines ∧
    (s.routeDigit x).fax.role = s.fax.role ∧
    (s.routeDigit x).fax.place = s.fax.place ∧
    (s.routeDigit x).fax.rung = s.fax.rung ∧
    (s.routeDigit x).fax.floor = s.fax.floor ∧
    (s.routeDigit x).fax.ceiling = s.fax.ceiling ∧
    (s.routeDigit x).fax.resolution = s.fax.resolution ∧
    (s.routeDigit x).fax.scanMs = s.fax.scanMs ∧
    (s.routeDigit x).fax.page = s.fax.page ∧
    (s.routeDigit x).fax.attempts = s.fax.attempts ∧
    (s.routeDigit x).fax.accepted = s.fax.accepted ∧
    (s.routeDigit x).fax.linkedId = s.fax.linkedId ∧
    (s.routeDigit x).fax.pageStart = s.fax.pageStart ∧
    (s.routeDigit x).fax.windows = s.fax.windows ∧
    (s.routeDigit x).fax.badWindows = s.fax.badWindows ∧
    (s.routeDigit x).fax.overflow = s.fax.overflow ∧
    (s.routeDigit x).fax.retries = s.fax.retries ∧
    (s.routeDigit x).fax.lastFrame = s.fax.lastFrame ∧
    (s.routeDigit x).fax.more = s.fax.more ∧
    (s.routeDigit x).fax.checkOverloaded = s.fax.checkOverloaded ∧
    (s.routeDigit x).fax.inPair = s.fax.inPair ∧
    (s.routeDigit x).fax.lineLength = s.fax.lineLength ∧
    (s.routeDigit x).fax.position = s.fax.position ∧
    (s.routeDigit x).fax.pageFromPort = s.fax.pageFromPort ∧
    (s.routeDigit x).fax.markSent = s.fax.markSent ∧
    (s.routeDigit x).fax.markInQueue = s.fax.markInQueue ∧
    (s.routeDigit x).ports.system.outgoing = s.ports.system.outgoing ∧
    (s.routeDigit x).ports.system.transfer = s.ports.system.transfer ∧
    (s.routeDigit x).ports.panel.outgoing = s.ports.panel.outgoing ∧
    (s.routeDigit x).ports.panel.transfer = s.ports.panel.transfer ∧
    (s.routeDigit x).sys.ready = s.sys.ready ∧
    (s.routeDigit x).sys.rts = s.sys.rts ∧
    (s.routeDigit x).sys.rate = s.sys.rate ∧
    (s.routeDigit x).sys.notice = s.sys.notice ∧
    (s.routeDigit x).sys.escape = s.sys.escape ∧
    (s.routeDigit x).pan = s.pan := by
  unfold State.routeDigit; try dsimp only
  repeat' split
  all_goals simp

@[simp] theorem State.dtmfBlock_keeps (s : State) (b : ToneBlock) :
    (s.dtmfBlock b).ccu.call.number = s.ccu.call.number ∧
    (s.dtmfBlock b).ccu.call.direction = s.ccu.call.direction ∧
    (s.dtmfBlock b).ccu.call.holder = s.ccu.call.holder ∧
    (s.dtmfBlock b).ccu.call.dialList = s.ccu.call.dialList ∧
    (s.dtmfBlock b).ccu.call.farEndRinging = s.ccu.call.farEndRinging ∧
    (s.dtmfBlock b).ccu.call.callerStatus = s.ccu.call.callerStatus ∧
    (s.dtmfBlock b).ccu.call.callerNumber = s.ccu.call.callerNumber ∧
    (s.dtmfBlock b).ccu.call.callerName = s.ccu.call.callerName ∧
    (s.dtmfBlock b).ccu.call.ringPattern = s.ccu.call.ringPattern ∧
    (s.dtmfBlock b).ccu.call.ringCount = s.ccu.call.ringCount ∧
    (s.dtmfBlock b).ccu.call.startTime = s.ccu.call.startTime ∧
    (s.dtmfBlock b).ccu.call.rung = s.ccu.call.rung ∧
    (s.dtmfBlock b).ccu.call.lastQuality = s.ccu.call.lastQuality ∧
    (s.dtmfBlock b).ccu.call.seconds = s.ccu.call.seconds ∧
    (s.dtmfBlock b).ccu.dialler.cursor = s.ccu.dialler.cursor ∧
    (s.dtmfBlock b).ccu.dialler.breaksEnded = s.ccu.dialler.breaksEnded ∧
    (s.dtmfBlock b).ccu.dialler.lastMake = s.ccu.dialler.lastMake ∧
    (s.dtmfBlock b).ccu.lastNumber = s.ccu.lastNumber ∧
    (s.dtmfBlock b).ccu.blind = s.ccu.blind ∧
    (s.dtmfBlock b).ccu.claims = s.ccu.claims ∧
    (s.dtmfBlock b).lif.ringPresent = s.lif.ringPresent ∧
    (s.dtmfBlock b).lif.hangover = s.lif.hangover ∧
    (s.dtmfBlock b).lif.voltageBelow = s.lif.voltageBelow ∧
    (s.dtmfBlock b).lif.currentBelow = s.lif.currentBelow ∧
    (s.dtmfBlock b).lif.pickupLatch = s.lif.pickupLatch ∧
    (s.dtmfBlock b).timers.e7 = s.timers.e7 ∧
    (s.dtmfBlock b).rau.episode = s.rau.episode ∧
    (s.dtmfBlock b).rau.caller = s.rau.caller ∧
    (s.dtmfBlock b).rau.presence = s.rau.presence ∧
    (s.dtmfBlock b).rau.deadlines = s.rau.deadlines ∧
    (s.dtmfBlock b).fax.role = s.fax.role ∧
    (s.dtmfBlock b).fax.place = s.fax.place ∧
    (s.dtmfBlock b).fax.rung = s.fax.rung ∧
    (s.dtmfBlock b).fax.floor = s.fax.floor ∧
    (s.dtmfBlock b).fax.ceiling = s.fax.ceiling ∧
    (s.dtmfBlock b).fax.resolution = s.fax.resolution ∧
    (s.dtmfBlock b).fax.scanMs = s.fax.scanMs ∧
    (s.dtmfBlock b).fax.page = s.fax.page ∧
    (s.dtmfBlock b).fax.attempts = s.fax.attempts ∧
    (s.dtmfBlock b).fax.accepted = s.fax.accepted ∧
    (s.dtmfBlock b).fax.linkedId = s.fax.linkedId ∧
    (s.dtmfBlock b).fax.pageStart = s.fax.pageStart ∧
    (s.dtmfBlock b).fax.windows = s.fax.windows ∧
    (s.dtmfBlock b).fax.badWindows = s.fax.badWindows ∧
    (s.dtmfBlock b).fax.overflow = s.fax.overflow ∧
    (s.dtmfBlock b).fax.retries = s.fax.retries ∧
    (s.dtmfBlock b).fax.lastFrame = s.fax.lastFrame ∧
    (s.dtmfBlock b).fax.more = s.fax.more ∧
    (s.dtmfBlock b).fax.checkOverloaded = s.fax.checkOverloaded ∧
    (s.dtmfBlock b).fax.inPair = s.fax.inPair ∧
    (s.dtmfBlock b).fax.lineLength = s.fax.lineLength ∧
    (s.dtmfBlock b).fax.position = s.fax.position ∧
    (s.dtmfBlock b).fax.pageFromPort = s.fax.pageFromPort ∧
    (s.dtmfBlock b).fax.markSent = s.fax.markSent ∧
    (s.dtmfBlock b).fax.markInQueue = s.fax.markInQueue ∧
    (s.dtmfBlock b).ports.system.outgoing = s.ports.system.outgoing ∧
    (s.dtmfBlock b).ports.system.transfer = s.ports.system.transfer ∧
    (s.dtmfBlock b).ports.panel.outgoing = s.ports.panel.outgoing ∧
    (s.dtmfBlock b).ports.panel.transfer = s.ports.panel.transfer ∧
    (s.dtmfBlock b).sys.ready = s.sys.ready ∧
    (s.dtmfBlock b).sys.rts = s.sys.rts ∧
    (s.dtmfBlock b).sys.rate = s.sys.rate ∧
    (s.dtmfBlock b).sys.notice = s.sys.notice ∧
    (s.dtmfBlock b).sys.escape = s.sys.escape ∧
    (s.dtmfBlock b).pan = s.pan := by
  unfold State.dtmfBlock; try dsimp only
  repeat' split
  all_goals simp

@[simp] theorem State.toneBlock_keeps (s : State) (b : ToneBlock) :
    (s.toneBlock b).ccu.call.number = s.ccu.call.number ∧
    (s.toneBlock b).ccu.call.direction = s.ccu.call.direction ∧
    (s.toneBlock b).ccu.call.dialList = s.ccu.call.dialList ∧
    (s.toneBlock b).ccu.call.callerStatus = s.ccu.call.callerStatus ∧
    (s.toneBlock b).ccu.call.callerNumber = s.ccu.call.callerNumber ∧
    (s.toneBlock b).ccu.call.callerName = s.ccu.call.callerName ∧
    (s.toneBlock b).ccu.call.ringPattern = s.ccu.call.ringPattern ∧
    (s.toneBlock b).ccu.call.ringCount = s.ccu.call.ringCount ∧
    (s.toneBlock b).ccu.call.startTime = s.ccu.call.startTime ∧
    (s.toneBlock b).ccu.call.rung = s.ccu.call.rung ∧
    (s.toneBlock b).ccu.call.lastQuality = s.ccu.call.lastQuality ∧
    (s.toneBlock b).ccu.call.seconds = s.ccu.call.seconds ∧
    (s.toneBlock b).ccu.lastNumber = s.ccu.lastNumber ∧
    (s.toneBlock b).ccu.blind = s.ccu.blind ∧
    (s.toneBlock b).ccu.claims = s.ccu.claims ∧
    (s.toneBlock b).timers.e7 = s.timers.e7 ∧
    (s.toneBlock b).rau.episode = s.rau.episode ∧
    (s.toneBlock b).rau.caller = s.rau.caller ∧
    (s.toneBlock b).rau.presence = s.rau.presence ∧
    (s.toneBlock b).rau.deadlines = s.rau.deadlines ∧
    (s.toneBlock b).ports.system.outgoing = s.ports.system.outgoing ∧
    (s.toneBlock b).ports.system.transfer = s.ports.system.transfer ∧
    (s.toneBlock b).ports.panel.outgoing = s.ports.panel.outgoing ∧
    (s.toneBlock b).ports.panel.transfer = s.ports.panel.transfer ∧
    (s.toneBlock b).sys.ready = s.sys.ready ∧
    (s.toneBlock b).sys.rts = s.sys.rts ∧
    (s.toneBlock b).sys.rate = s.sys.rate ∧
    (s.toneBlock b).sys.notice = s.sys.notice ∧
    (s.toneBlock b).sys.escape = s.sys.escape ∧
    (s.toneBlock b).pan = s.pan := by
  unfold State.toneBlock; try dsimp only
  repeat' split
  all_goals simp

@[simp] theorem State.countHeard_keeps (s : State) (level : Nat) :
    (s.countHeard level).ccu = s.ccu ∧
    (s.countHeard level).lif = s.lif ∧
    (s.countHeard level).timers = s.timers ∧
    (s.countHeard level).tone = s.tone ∧
    (s.countHeard level).rau.episode = s.rau.episode ∧
    (s.countHeard level).rau.caller = s.rau.caller ∧
    (s.countHeard level).rau.presence = s.rau.presence ∧
    (s.countHeard level).rau.deadlines = s.rau.deadlines ∧
    (s.countHeard level).level = s.level ∧
    (s.countHeard level).pump = s.pump ∧
    (s.countHeard level).link = s.link ∧
    (s.countHeard level).fax = s.fax ∧
    (s.countHeard level).voice = s.voice ∧
    (s.countHeard level).store = s.store ∧
    (s.countHeard level).ports = s.ports ∧
    (s.countHeard level).sys = s.sys ∧
    (s.countHeard level).pan = s.pan := by
  unfold State.countHeard; try dsimp only
  repeat' split
  all_goals simp

@[simp] theorem State.blankPasses_keeps (s : State) :
    (s.blankPasses).ccu = s.ccu ∧
    (s.blankPasses).lif = s.lif ∧
    (s.blankPasses).timers = s.timers ∧
    (s.blankPasses).tone.generator = s.tone.generator ∧
    (s.blankPasses).tone.faxCall = s.tone.faxCall ∧
    (s.blankPasses).tone.dataCall = s.tone.dataCall ∧
    (s.blankPasses).tone.answer = s.tone.answer ∧
    (s.blankPasses).tone.dtmf = s.tone.dtmf ∧
    (s.blankPasses).tone.classifier = s.tone.classifier ∧
    (s.blankPasses).tone.voiceBlocks = s.tone.voiceBlocks ∧
    (s.blankPasses).rau = s.rau ∧
    (s.blankPasses).level = s.level ∧
    (s.blankPasses).pump = s.pump ∧
    (s.blankPasses).link = s.link ∧
    (s.blankPasses).fax = s.fax ∧
    (s.blankPasses).voice = s.voice ∧
    (s.blankPasses).store = s.store ∧
    (s.blankPasses).ports = s.ports ∧
    (s.blankPasses).sys = s.sys ∧
    (s.blankPasses).pan = s.pan := by
  unfold State.blankPasses; try dsimp only
  repeat' split
  all_goals simp

@[simp] theorem State.lineBlock_keeps (s : State) (b : LineBlock) :
    (s.lineBlock b).ccu.call.number = s.ccu.call.number ∧
    (s.lineBlock b).ccu.call.direction = s.ccu.call.direction ∧
    (s.lineBlock b).ccu.call.dialList = s.ccu.call.dialList ∧
    (s.lineBlock b).ccu.call.callerStatus = s.ccu.call.callerStatus ∧
    (s.lineBlock b).ccu.call.callerNumber = s.ccu.call.callerNumber ∧
    (s.lineBlock b).ccu.call.callerName = s.ccu.call.callerName ∧
    (s.lineBlock b).ccu.call.ringPattern = s.ccu.call.ringPattern ∧
    (s.lineBlock b).ccu.call.ringCount = s.ccu.call.ringCount ∧
    (s.lineBlock b).ccu.call.startTime = s.ccu.call.startTime ∧
    (s.lineBlock b).ccu.call.rung = s.ccu.call.rung ∧
    (s.lineBlock b).ccu.call.lastQuality = s.ccu.call.lastQuality ∧
    (s.lineBlock b).ccu.call.seconds = s.ccu.call.seconds ∧
    (s.lineBlock b).ccu.lastNumber = s.ccu.lastNumber ∧
    (s.lineBlock b).ccu.blind = s.ccu.blind ∧
    (s.lineBlock b).ccu.claims = s.ccu.claims ∧
    (s.lineBlock b).rau.episode = s.rau.episode ∧
    (s.lineBlock b).rau.caller = s.rau.caller ∧
    (s.lineBlock b).rau.presence = s.rau.presence ∧
    (s.lineBlock b).rau.deadlines = s.rau.deadlines ∧
    (s.lineBlock b).ports.system.outgoing = s.ports.system.outgoing ∧
    (s.lineBlock b).ports.system.transfer = s.ports.system.transfer ∧
    (s.lineBlock b).ports.panel.outgoing = s.ports.panel.outgoing ∧
    (s.lineBlock b).ports.panel.transfer = s.ports.panel.transfer ∧
    (s.lineBlock b).sys.ready = s.sys.ready ∧
    (s.lineBlock b).sys.rts = s.sys.rts ∧
    (s.lineBlock b).sys.rate = s.sys.rate ∧
    (s.lineBlock b).sys.notice = s.sys.notice ∧
    (s.lineBlock b).sys.escape = s.sys.escape ∧
    (s.lineBlock b).pan = s.pan := by
  unfold State.lineBlock; try dsimp only
  repeat' split
  all_goals simp

@[simp] theorem State.lineSamples_keeps (s : State) (xs : List Sample) (bs : List (List Sample)) :
    (s.lineSamples xs bs).ccu.call.number = s.ccu.call.number ∧
    (s.lineSamples xs bs).ccu.call.direction = s.ccu.call.direction ∧
    (s.lineSamples xs bs).ccu.call.dialList = s.ccu.call.dialList ∧
    (s.lineSamples xs bs).ccu.call.callerStatus = s.ccu.call.callerStatus ∧
    (s.lineSamples xs bs).ccu.call.callerNumber = s.ccu.call.callerNumber ∧
    (s.lineSamples xs bs).ccu.call.callerName = s.ccu.call.callerName ∧
    (s.lineSamples xs bs).ccu.call.ringPattern = s.ccu.call.ringPattern ∧
    (s.lineSamples xs bs).ccu.call.ringCount = s.ccu.call.ringCount ∧
    (s.lineSamples xs bs).ccu.call.startTime = s.ccu.call.startTime ∧
    (s.lineSamples xs bs).ccu.call.rung = s.ccu.call.rung ∧
    (s.lineSamples xs bs).ccu.call.lastQuality = s.ccu.call.lastQuality ∧
    (s.lineSamples xs bs).ccu.call.seconds = s.ccu.call.seconds ∧
    (s.lineSamples xs bs).ccu.lastNumber = s.ccu.lastNumber ∧
    (s.lineSamples xs bs).ccu.blind = s.ccu.blind ∧
    (s.lineSamples xs bs).ccu.claims = s.ccu.claims ∧
    (s.lineSamples xs bs).rau.episode = s.rau.episode ∧
    (s.lineSamples xs bs).rau.caller = s.rau.caller ∧
    (s.lineSamples xs bs).rau.presence = s.rau.presence ∧
    (s.lineSamples xs bs).rau.deadlines = s.rau.deadlines ∧
    (s.lineSamples xs bs).ports.system.outgoing = s.ports.system.outgoing ∧
    (s.lineSamples xs bs).ports.system.transfer = s.ports.system.transfer ∧
    (s.lineSamples xs bs).ports.panel.outgoing = s.ports.panel.outgoing ∧
    (s.lineSamples xs bs).ports.panel.transfer = s.ports.panel.transfer ∧
    (s.lineSamples xs bs).sys.ready = s.sys.ready ∧
    (s.lineSamples xs bs).sys.rts = s.sys.rts ∧
    (s.lineSamples xs bs).sys.rate = s.sys.rate ∧
    (s.lineSamples xs bs).sys.notice = s.sys.notice ∧
    (s.lineSamples xs bs).sys.escape = s.sys.escape ∧
    (s.lineSamples xs bs).pan = s.pan := by
  unfold State.lineSamples; try dsimp only
  repeat' split
  all_goals simp

@[simp] theorem State.micSamples_keeps (s : State) (xs : List Sample) :
    (s.micSamples xs).ccu = s.ccu ∧
    (s.micSamples xs).lif = s.lif ∧
    (s.micSamples xs).tone = s.tone ∧
    (s.micSamples xs).rau = s.rau ∧
    (s.micSamples xs).pump = s.pump ∧
    (s.micSamples xs).link = s.link ∧
    (s.micSamples xs).fax = s.fax ∧
    (s.micSamples xs).voice.resume = s.voice.resume ∧
    (s.micSamples xs).voice.remote = s.voice.remote ∧
    (s.micSamples xs).ports = s.ports ∧
    (s.micSamples xs).sys = s.sys ∧
    (s.micSamples xs).pan = s.pan := by
  unfold State.micSamples; try dsimp only
  repeat' split
  all_goals simp

@[simp] theorem State.queueDial_keeps (s : State) (c : Claim) :
    (s.queueDial c).ccu.line = s.ccu.line ∧
    (s.queueDial c).ccu.call = s.ccu.call ∧
    (s.queueDial c).ccu.dialler = s.ccu.dialler ∧
    (s.queueDial c).ccu.lastNumber = s.ccu.lastNumber ∧
    (s.queueDial c).ccu.ending = s.ccu.ending ∧
    (s.queueDial c).ccu.blind = s.ccu.blind ∧
    (s.queueDial c).ccu.history = s.ccu.history ∧
    (s.queueDial c).ccu.t2Use = s.ccu.t2Use := by
  unfold State.queueDial; try dsimp only
  repeat' split
  all_goals simp

@[simp] theorem State.moveCall_keeps (s : State) (p : Port) :
    (s.moveCall p).ccu.line = s.ccu.line ∧
    (s.moveCall p).ccu.call.active = s.ccu.call.active ∧
    (s.moveCall p).ccu.call.number = s.ccu.call.number ∧
    (s.moveCall p).ccu.call.direction = s.ccu.call.direction ∧
    (s.moveCall p).ccu.call.dialList = s.ccu.call.dialList ∧
    (s.moveCall p).ccu.call.farEndRinging = s.ccu.call.farEndRinging ∧
    (s.moveCall p).ccu.call.callerStatus = s.ccu.call.callerStatus ∧
    (s.moveCall p).ccu.call.callerNumber = s.ccu.call.callerNumber ∧
    (s.moveCall p).ccu.call.callerName = s.ccu.call.callerName ∧
    (s.moveCall p).ccu.call.ringPattern = s.ccu.call.ringPattern ∧
    (s.moveCall p).ccu.call.ringCount = s.ccu.call.ringCount ∧
    (s.moveCall p).ccu.call.startTime = s.ccu.call.startTime ∧
    (s.moveCall p).ccu.call.rung = s.ccu.call.rung ∧
    (s.moveCall p).ccu.call.lastQuality = s.ccu.call.lastQuality ∧
    (s.moveCall p).ccu.call.seconds = s.ccu.call.seconds ∧
    (s.moveCall p).ccu.call.cause = s.ccu.call.cause ∧
    (s.moveCall p).ccu.dialler = s.ccu.dialler ∧
    (s.moveCall p).ccu.lastNumber = s.ccu.lastNumber ∧
    (s.moveCall p).ccu.ending = s.ccu.ending ∧
    (s.moveCall p).ccu.blind = s.ccu.blind ∧
    (s.moveCall p).ccu.claims = s.ccu.claims ∧
    (s.moveCall p).ccu.history = s.ccu.history ∧
    (s.moveCall p).lif = s.lif ∧
    (s.moveCall p).timers.e0 = s.timers.e0 ∧
    (s.moveCall p).timers.e1 = s.timers.e1 ∧
    (s.moveCall p).timers.e3 = s.timers.e3 ∧
    (s.moveCall p).timers.e4 = s.timers.e4 ∧
    (s.moveCall p).timers.e5 = s.timers.e5 ∧
    (s.moveCall p).timers.e7 = s.timers.e7 ∧
    (s.moveCall p).tone.generator = s.tone.generator ∧
    (s.moveCall p).tone.answer = s.tone.answer ∧
    (s.moveCall p).tone.classifier = s.tone.classifier ∧
    (s.moveCall p).tone.voiceBlocks = s.tone.voiceBlocks ∧
    (s.moveCall p).rau.episode = s.rau.episode ∧
    (s.moveCall p).rau.caller = s.rau.caller ∧
    (s.moveCall p).rau.presence = s.rau.presence ∧
    (s.moveCall p).rau.deadlines = s.rau.deadlines ∧
    (s.moveCall p).level = s.level ∧
    (s.moveCall p).pump.mode = s.pump.mode ∧
    (s.moveCall p).pump.role = s.pump.role ∧
    (s.moveCall p).pump.phase = s.pump.phase ∧
    (s.moveCall p).pump.localCeiling = s.pump.localCeiling ∧
    (s.moveCall p).pump.localFloor = s.pump.localFloor ∧
    (s.moveCall p).pump.peerMax = s.pump.peerMax ∧
    (s.moveCall p).pump.negCeiling = s.pump.negCeiling ∧
    (s.moveCall p).pump.negFloor = s.pump.negFloor ∧
    (s.moveCall p).pump.below = s.pump.below ∧
    (s.moveCall p).pump.above = s.pump.above ∧
    (s.moveCall p).pump.retrains = s.pump.retrains ∧
    (s.moveCall p).pump.linkStarted = s.pump.linkStarted ∧
    (s.moveCall p).pump.request = s.pump.request ∧
    (s.moveCall p).pump.answerTone = s.pump.answerTone ∧
    (s.moveCall p).pump.heardMax = s.pump.heardMax ∧
    (s.moveCall p).pump.heardAck = s.pump.heardAck ∧
    (s.moveCall p).pump.stage = s.pump.stage ∧
    (s.moveCall p).pump.ownAccept = s.pump.ownAccept ∧
    (s.moveCall p).pump.farAccept = s.pump.farAccept ∧
    (s.moveCall p).pump.confirmed = s.pump.confirmed ∧
    (s.moveCall p).link.mode = s.link.mode ∧
    (s.moveCall p).link.paused = s.link.paused ∧
    (s.moveCall p).link.attempts = s.link.attempts ∧
    (s.moveCall p).link.windowSize = s.link.windowSize ∧
    (s.moveCall p).link.payloadSize = s.link.payloadSize ∧
    (s.moveCall p).link.vs = s.link.vs ∧
    (s.moveCall p).link.window = s.link.window ∧
    (s.moveCall p).link.resendMark = s.link.resendMark ∧
    (s.moveCall p).link.retries = s.link.retries ∧
    (s.moveCall p).link.peerBusy = s.link.peerBusy ∧
    (s.moveCall p).link.vr = s.link.vr ∧
    (s.moveCall p).link.rejectFlag = s.link.rejectFlag ∧
    (s.moveCall p).link.ackOwed = s.link.ackOwed ∧
    (s.moveCall p).link.busyAckOwed = s.link.busyAckOwed ∧
    (s.moveCall p).link.ownBusy = s.link.ownBusy ∧
    (s.moveCall p).link.rejectOwed = s.link.rejectOwed ∧
    (s.moveCall p).link.clearOwed = s.link.clearOwed ∧
    (s.moveCall p).link.reqDue = s.link.reqDue ∧
    (s.moveCall p).link.confDue = s.link.confDue ∧
    (s.moveCall p).link.confSetup = s.link.confSetup ∧
    (s.moveCall p).link.peerOffer = s.link.peerOffer ∧
    (s.moveCall p).link.byFarEnd = s.link.byFarEnd ∧
    (s.moveCall p).link.policy = s.link.policy ∧
    (s.moveCall p).link.offer = s.link.offer ∧
    (s.moveCall p).link.stats = s.link.stats ∧
    (s.moveCall p).link.outbound = s.link.outbound ∧
    (s.moveCall p).link.inbound = s.link.inbound ∧
    (s.moveCall p).fax = s.fax ∧
    (s.moveCall p).ports.system.outgoing = s.ports.system.outgoing ∧
    (s.moveCall p).ports.system.transfer = s.ports.system.transfer ∧
    (s.moveCall p).ports.panel.outgoing = s.ports.panel.outgoing ∧
    (s.moveCall p).ports.panel.transfer = s.ports.panel.transfer ∧
    (s.moveCall p).sys = s.sys ∧
    (s.moveCall p).pan = s.pan := by
  cases p <;> unfold State.moveCall <;> (try dsimp only) <;> (repeat' split) <;> first | (simp; done) | simp [State.updPort, PerPort.set, State.port, PerPort.get]

@[simp] theorem State.hangUpHeld_keeps (s : State) :
    (s.hangUpHeld).ccu.call.number = s.ccu.call.number ∧
    (s.hangUpHeld).ccu.call.direction = s.ccu.call.direction ∧
    (s.hangUpHeld).ccu.call.holder = s.ccu.call.holder ∧
    (s.hangUpHeld).ccu.call.job = s.ccu.call.job ∧
    (s.hangUpHeld).ccu.call.phase = s.ccu.call.phase ∧
    (s.hangUpHeld).ccu.call.dialList = s.ccu.call.dialList ∧
    (s.hangUpHeld).ccu.call.farEndRinging = s.ccu.call.farEndRinging ∧
    (s.hangUpHeld).ccu.call.callerStatus = s.ccu.call.callerStatus ∧
    (s.hangUpHeld).ccu.call.callerNumber = s.ccu.call.callerNumber ∧
    (s.hangUpHeld).ccu.call.callerName = s.ccu.call.callerName ∧
    (s.hangUpHeld).ccu.call.ringPattern = s.ccu.call.ringPattern ∧
    (s.hangUpHeld).ccu.call.ringCount = s.ccu.call.ringCount ∧
    (s.hangUpHeld).ccu.call.startTime = s.ccu.call.startTime ∧
    (s.hangUpHeld).ccu.call.rung = s.ccu.call.rung ∧
    (s.hangUpHeld).ccu.call.lastQuality = s.ccu.call.lastQuality ∧
    (s.hangUpHeld).ccu.call.seconds = s.ccu.call.seconds ∧
    (s.hangUpHeld).ccu.dialler.cursor = s.ccu.dialler.cursor ∧
    (s.hangUpHeld).ccu.dialler.breaksEnded = s.ccu.dialler.breaksEnded ∧
    (s.hangUpHeld).ccu.dialler.lastMake = s.ccu.dialler.lastMake ∧
    (s.hangUpHeld).ccu.lastNumber = s.ccu.lastNumber ∧
    (s.hangUpHeld).ccu.blind = s.ccu.blind ∧
    (s.hangUpHeld).ccu.claims = s.ccu.claims ∧
    (s.hangUpHeld).lif.ringPresent = s.lif.ringPresent ∧
    (s.hangUpHeld).lif.hangover = s.lif.hangover ∧
    (s.hangUpHeld).lif.voltageBelow = s.lif.voltageBelow ∧
    (s.hangUpHeld).lif.currentBelow = s.lif.currentBelow ∧
    (s.hangUpHeld).lif.pickupLatch = s.lif.pickupLatch ∧
    (s.hangUpHeld).timers.e7 = s.timers.e7 ∧
    (s.hangUpHeld).rau.episode = s.rau.episode ∧
    (s.hangUpHeld).rau.caller = s.rau.caller ∧
    (s.hangUpHeld).rau.presence = s.rau.presence ∧
    (s.hangUpHeld).rau.deadlines = s.rau.deadlines ∧
    (s.hangUpHeld).fax.role = s.fax.role ∧
    (s.hangUpHeld).fax.place = s.fax.place ∧
    (s.hangUpHeld).fax.rung = s.fax.rung ∧
    (s.hangUpHeld).fax.floor = s.fax.floor ∧
    (s.hangUpHeld).fax.ceiling = s.fax.ceiling ∧
    (s.hangUpHeld).fax.resolution = s.fax.resolution ∧
    (s.hangUpHeld).fax.scanMs = s.fax.scanMs ∧
    (s.hangUpHeld).fax.page = s.fax.page ∧
    (s.hangUpHeld).fax.attempts = s.fax.attempts ∧
    (s.hangUpHeld).fax.accepted = s.fax.accepted ∧
    (s.hangUpHeld).fax.linkedId = s.fax.linkedId ∧
    (s.hangUpHeld).fax.pageStart = s.fax.pageStart ∧
    (s.hangUpHeld).fax.windows = s.fax.windows ∧
    (s.hangUpHeld).fax.badWindows = s.fax.badWindows ∧
    (s.hangUpHeld).fax.overflow = s.fax.overflow ∧
    (s.hangUpHeld).fax.retries = s.fax.retries ∧
    (s.hangUpHeld).fax.lastFrame = s.fax.lastFrame ∧
    (s.hangUpHeld).fax.more = s.fax.more ∧
    (s.hangUpHeld).fax.checkOverloaded = s.fax.checkOverloaded ∧
    (s.hangUpHeld).fax.inPair = s.fax.inPair ∧
    (s.hangUpHeld).fax.lineLength = s.fax.lineLength ∧
    (s.hangUpHeld).fax.position = s.fax.position ∧
    (s.hangUpHeld).fax.pageFromPort = s.fax.pageFromPort ∧
    (s.hangUpHeld).fax.markSent = s.fax.markSent ∧
    (s.hangUpHeld).fax.markInQueue = s.fax.markInQueue ∧
    (s.hangUpHeld).ports.system.outgoing = s.ports.system.outgoing ∧
    (s.hangUpHeld).ports.system.digits = s.ports.system.digits ∧
    (s.hangUpHeld).ports.system.transfer = s.ports.system.transfer ∧
    (s.hangUpHeld).ports.panel.outgoing = s.ports.panel.outgoing ∧
    (s.hangUpHeld).ports.panel.digits = s.ports.panel.digits ∧
    (s.hangUpHeld).ports.panel.transfer = s.ports.panel.transfer ∧
    (s.hangUpHeld).sys.ready = s.sys.ready ∧
    (s.hangUpHeld).sys.rts = s.sys.rts ∧
    (s.hangUpHeld).sys.rate = s.sys.rate ∧
    (s.hangUpHeld).sys.notice = s.sys.notice ∧
    (s.hangUpHeld).sys.escape = s.sys.escape ∧
    (s.hangUpHeld).pan = s.pan := by
  unfold State.hangUpHeld; try dsimp only
  repeat' split
  all_goals simp

@[simp] theorem State.stopDialler_keeps (s : State) :
    (s.stopDialler).ccu.line = s.ccu.line ∧
    (s.stopDialler).ccu.call = s.ccu.call ∧
    (s.stopDialler).ccu.dialler.cursor = s.ccu.dialler.cursor ∧
    (s.stopDialler).ccu.dialler.breaksEnded = s.ccu.dialler.breaksEnded ∧
    (s.stopDialler).ccu.dialler.lastMake = s.ccu.dialler.lastMake ∧
    (s.stopDialler).ccu.lastNumber = s.ccu.lastNumber ∧
    (s.stopDialler).ccu.ending = s.ccu.ending ∧
    (s.stopDialler).ccu.blind = s.ccu.blind ∧
    (s.stopDialler).ccu.claims = s.ccu.claims ∧
    (s.stopDialler).ccu.history = s.ccu.history ∧
    (s.stopDialler).ccu.t2Use = s.ccu.t2Use ∧
    (s.stopDialler).timers.e1 = s.timers.e1 ∧
    (s.stopDialler).timers.e2 = s.timers.e2 ∧
    (s.stopDialler).timers.e3 = s.timers.e3 ∧
    (s.stopDialler).timers.e4 = s.timers.e4 ∧
    (s.stopDialler).timers.e5 = s.timers.e5 ∧
    (s.stopDialler).timers.e6 = s.timers.e6 ∧
    (s.stopDialler).timers.e7 = s.timers.e7 ∧
    (s.stopDialler).tone.faxCall = s.tone.faxCall ∧
    (s.stopDialler).tone.dataCall = s.tone.dataCall ∧
    (s.stopDialler).tone.answer = s.tone.answer ∧
    (s.stopDialler).tone.classifier = s.tone.classifier ∧
    (s.stopDialler).tone.voiceBlocks = s.tone.voiceBlocks ∧
    (s.stopDialler).rau = s.rau ∧
    (s.stopDialler).level = s.level ∧
    (s.stopDialler).pump = s.pump ∧
    (s.stopDialler).link = s.link ∧
    (s.stopDialler).fax = s.fax ∧
    (s.stopDialler).voice = s.voice ∧
    (s.stopDialler).store = s.store ∧
    (s.stopDialler).ports = s.ports ∧
    (s.stopDialler).sys = s.sys ∧
    (s.stopDialler).pan = s.pan := by
  unfold State.stopDialler; try dsimp only
  repeat' split
  all_goals simp

@[simp] theorem State.pickup_keeps (s : State) :
    (s.pickup).ccu.call.number = s.ccu.call.number ∧
    (s.pickup).ccu.call.direction = s.ccu.call.direction ∧
    (s.pickup).ccu.call.holder = s.ccu.call.holder ∧
    (s.pickup).ccu.call.job = s.ccu.call.job ∧
    (s.pickup).ccu.call.phase = s.ccu.call.phase ∧
    (s.pickup).ccu.call.dialList = s.ccu.call.dialList ∧
    (s.pickup).ccu.call.farEndRinging = s.ccu.call.farEndRinging ∧
    (s.pickup).ccu.call.callerStatus = s.ccu.call.callerStatus ∧
    (s.pickup).ccu.call.callerNumber = s.ccu.call.callerNumber ∧
    (s.pickup).ccu.call.callerName = s.ccu.call.callerName ∧
    (s.pickup).ccu.call.ringPattern = s.ccu.call.ringPattern ∧
    (s.pickup).ccu.call.ringCount = s.ccu.call.ringCount ∧
    (s.pickup).ccu.call.startTime = s.ccu.call.startTime ∧
    (s.pickup).ccu.call.rung = s.ccu.call.rung ∧
    (s.pickup).ccu.call.lastQuality = s.ccu.call.lastQuality ∧
    (s.pickup).ccu.call.seconds = s.ccu.call.seconds ∧
    (s.pickup).ccu.dialler.cursor = s.ccu.dialler.cursor ∧
    (s.pickup).ccu.dialler.breaksEnded = s.ccu.dialler.breaksEnded ∧
    (s.pickup).ccu.dialler.lastMake = s.ccu.dialler.lastMake ∧
    (s.pickup).ccu.lastNumber = s.ccu.lastNumber ∧
    (s.pickup).ccu.blind = s.ccu.blind ∧
    (s.pickup).ccu.claims = s.ccu.claims ∧
    (s.pickup).lif.ringPresent = s.lif.ringPresent ∧
    (s.pickup).lif.hangover = s.lif.hangover ∧
    (s.pickup).lif.voltageBelow = s.lif.voltageBelow ∧
    (s.pickup).lif.currentBelow = s.lif.currentBelow ∧
    (s.pickup).lif.pickupLatch = s.lif.pickupLatch ∧
    (s.pickup).timers.e7 = s.timers.e7 ∧
    (s.pickup).rau.episode = s.rau.episode ∧
    (s.pickup).rau.caller = s.rau.caller ∧
    (s.pickup).rau.presence = s.rau.presence ∧
    (s.pickup).rau.deadlines = s.rau.deadlines ∧
    (s.pickup).fax.role = s.fax.role ∧
    (s.pickup).fax.place = s.fax.place ∧
    (s.pickup).fax.rung = s.fax.rung ∧
    (s.pickup).fax.floor = s.fax.floor ∧
    (s.pickup).fax.ceiling = s.fax.ceiling ∧
    (s.pickup).fax.resolution = s.fax.resolution ∧
    (s.pickup).fax.scanMs = s.fax.scanMs ∧
    (s.pickup).fax.page = s.fax.page ∧
    (s.pickup).fax.attempts = s.fax.attempts ∧
    (s.pickup).fax.accepted = s.fax.accepted ∧
    (s.pickup).fax.linkedId = s.fax.linkedId ∧
    (s.pickup).fax.pageStart = s.fax.pageStart ∧
    (s.pickup).fax.windows = s.fax.windows ∧
    (s.pickup).fax.badWindows = s.fax.badWindows ∧
    (s.pickup).fax.overflow = s.fax.overflow ∧
    (s.pickup).fax.retries = s.fax.retries ∧
    (s.pickup).fax.lastFrame = s.fax.lastFrame ∧
    (s.pickup).fax.more = s.fax.more ∧
    (s.pickup).fax.checkOverloaded = s.fax.checkOverloaded ∧
    (s.pickup).fax.inPair = s.fax.inPair ∧
    (s.pickup).fax.lineLength = s.fax.lineLength ∧
    (s.pickup).fax.position = s.fax.position ∧
    (s.pickup).fax.pageFromPort = s.fax.pageFromPort ∧
    (s.pickup).fax.markSent = s.fax.markSent ∧
    (s.pickup).fax.markInQueue = s.fax.markInQueue ∧
    (s.pickup).ports.system.outgoing = s.ports.system.outgoing ∧
    (s.pickup).ports.system.digits = s.ports.system.digits ∧
    (s.pickup).ports.system.transfer = s.ports.system.transfer ∧
    (s.pickup).ports.panel.outgoing = s.ports.panel.outgoing ∧
    (s.pickup).ports.panel.digits = s.ports.panel.digits ∧
    (s.pickup).ports.panel.transfer = s.ports.panel.transfer ∧
    (s.pickup).sys.ready = s.sys.ready ∧
    (s.pickup).sys.rts = s.sys.rts ∧
    (s.pickup).sys.rate = s.sys.rate ∧
    (s.pickup).sys.notice = s.sys.notice ∧
    (s.pickup).sys.escape = s.sys.escape ∧
    (s.pickup).pan = s.pan := by
  unfold State.pickup; try dsimp only
  repeat' split
  all_goals simp

@[simp] theorem State.voicePause_keeps (s : State) :
    (s.voicePause).ccu = s.ccu ∧
    (s.voicePause).lif = s.lif ∧
    (s.voicePause).timers.e0 = s.timers.e0 ∧
    (s.voicePause).timers.e1 = s.timers.e1 ∧
    (s.voicePause).timers.e2 = s.timers.e2 ∧
    (s.voicePause).timers.e3 = s.timers.e3 ∧
    (s.voicePause).timers.e4 = s.timers.e4 ∧
    (s.voicePause).timers.e5 = s.timers.e5 ∧
    (s.voicePause).timers.e7 = s.timers.e7 ∧
    (s.voicePause).tone = s.tone ∧
    (s.voicePause).rau = s.rau ∧
    (s.voicePause).level = s.level ∧
    (s.voicePause).pump = s.pump ∧
    (s.voicePause).link = s.link ∧
    (s.voicePause).fax = s.fax ∧
    (s.voicePause).voice.op.user = s.voice.op.user ∧
    (s.voicePause).voice.op.operation = s.voice.op.operation ∧
    (s.voicePause).voice.op.endpoint = s.voice.op.endpoint ∧
    (s.voicePause).voice.op.message = s.voice.op.message ∧
    (s.voicePause).voice.op.kind = s.voice.op.kind ∧
    (s.voicePause).voice.op.slot = s.voice.op.slot ∧
    (s.voicePause).voice.op.offset = s.voice.op.offset ∧
    (s.voicePause).voice.op.stopOnDigit = s.voice.op.stopOnDigit ∧
    (s.voicePause).voice.op.vox = s.voice.op.vox ∧
    (s.voicePause).voice.op.maxCode = s.voice.op.maxCode ∧
    (s.voicePause).voice.op.written = s.voice.op.written ∧
    (s.voicePause).voice.op.loud = s.voice.op.loud ∧
    (s.voicePause).voice.op.lastLoud = s.voice.op.lastLoud ∧
    (s.voicePause).voice.op.clamps = s.voice.op.clamps ∧
    (s.voicePause).voice.op.codec = s.voice.op.codec ∧
    (s.voicePause).voice.op.lowNext = s.voice.op.lowNext ∧
    (s.voicePause).voice.op.halfByte = s.voice.op.halfByte ∧
    (s.voicePause).voice.op.waiting = s.voice.op.waiting ∧
    (s.voicePause).voice.op.inBlock = s.voice.op.inBlock ∧
    (s.voicePause).voice.op.taken = s.voice.op.taken ∧
    (s.voicePause).voice.op.blocks = s.voice.op.blocks ∧
    (s.voicePause).voice.op.lastLoudByte = s.voice.op.lastLoudByte ∧
    (s.voicePause).voice.op.reason = s.voice.op.reason ∧
    (s.voicePause).voice.resume = s.voice.resume ∧
    (s.voicePause).voice.remote = s.voice.remote ∧
    (s.voicePause).store = s.store ∧
    (s.voicePause).ports = s.ports ∧
    (s.voicePause).sys = s.sys ∧
    (s.voicePause).pan = s.pan := by
  unfold State.voicePause; try dsimp only
  repeat' split
  all_goals simp

@[simp] theorem State.voiceResume_keeps (s : State) :
    (s.voiceResume).ccu = s.ccu ∧
    (s.voiceResume).lif = s.lif ∧
    (s.voiceResume).timers.e0 = s.timers.e0 ∧
    (s.voiceResume).timers.e1 = s.timers.e1 ∧
    (s.voiceResume).timers.e2 = s.timers.e2 ∧
    (s.voiceResume).timers.e3 = s.timers.e3 ∧
    (s.voiceResume).timers.e4 = s.timers.e4 ∧
    (s.voiceResume).timers.e5 = s.timers.e5 ∧
    (s.voiceResume).timers.e7 = s.timers.e7 ∧
    (s.voiceResume).tone = s.tone ∧
    (s.voiceResume).rau = s.rau ∧
    (s.voiceResume).level = s.level ∧
    (s.voiceResume).pump = s.pump ∧
    (s.voiceResume).link = s.link ∧
    (s.voiceResume).fax = s.fax ∧
    (s.voiceResume).voice.op.user = s.voice.op.user ∧
    (s.voiceResume).voice.op.operation = s.voice.op.operation ∧
    (s.voiceResume).voice.op.endpoint = s.voice.op.endpoint ∧
    (s.voiceResume).voice.op.message = s.voice.op.message ∧
    (s.voiceResume).voice.op.kind = s.voice.op.kind ∧
    (s.voiceResume).voice.op.slot = s.voice.op.slot ∧
    (s.voiceResume).voice.op.offset = s.voice.op.offset ∧
    (s.voiceResume).voice.op.stopOnDigit = s.voice.op.stopOnDigit ∧
    (s.voiceResume).voice.op.vox = s.voice.op.vox ∧
    (s.voiceResume).voice.op.maxCode = s.voice.op.maxCode ∧
    (s.voiceResume).voice.op.written = s.voice.op.written ∧
    (s.voiceResume).voice.op.loud = s.voice.op.loud ∧
    (s.voiceResume).voice.op.lastLoud = s.voice.op.lastLoud ∧
    (s.voiceResume).voice.op.clamps = s.voice.op.clamps ∧
    (s.voiceResume).voice.op.codec = s.voice.op.codec ∧
    (s.voiceResume).voice.op.lowNext = s.voice.op.lowNext ∧
    (s.voiceResume).voice.op.halfByte = s.voice.op.halfByte ∧
    (s.voiceResume).voice.op.waiting = s.voice.op.waiting ∧
    (s.voiceResume).voice.op.taken = s.voice.op.taken ∧
    (s.voiceResume).voice.op.blocks = s.voice.op.blocks ∧
    (s.voiceResume).voice.op.lastLoudByte = s.voice.op.lastLoudByte ∧
    (s.voiceResume).voice.op.reason = s.voice.op.reason ∧
    (s.voiceResume).voice.resume = s.voice.resume ∧
    (s.voiceResume).voice.remote = s.voice.remote ∧
    (s.voiceResume).store = s.store ∧
    (s.voiceResume).ports = s.ports ∧
    (s.voiceResume).sys = s.sys ∧
    (s.voiceResume).pan = s.pan := by
  unfold State.voiceResume; try dsimp only
  repeat' split
  all_goals simp

@[simp] theorem State.releaseChannel_keeps (s : State) (p : Port) :
    (s.releaseChannel p).ccu = s.ccu ∧
    (s.releaseChannel p).lif = s.lif ∧
    (s.releaseChannel p).timers = s.timers ∧
    (s.releaseChannel p).tone = s.tone ∧
    (s.releaseChannel p).rau = s.rau ∧
    (s.releaseChannel p).level = s.level ∧
    (s.releaseChannel p).pump = s.pump ∧
    (s.releaseChannel p).link = s.link ∧
    (s.releaseChannel p).fax = s.fax ∧
    (s.releaseChannel p).voice = s.voice ∧
    (s.releaseChannel p).ports.system.outgoing = s.ports.system.outgoing ∧
    (s.releaseChannel p).ports.system.digits = s.ports.system.digits ∧
    (s.releaseChannel p).ports.system.transfer = s.ports.system.transfer ∧
    (s.releaseChannel p).ports.panel.outgoing = s.ports.panel.outgoing ∧
    (s.releaseChannel p).ports.panel.digits = s.ports.panel.digits ∧
    (s.releaseChannel p).ports.panel.transfer = s.ports.panel.transfer ∧
    (s.releaseChannel p).sys = s.sys ∧
    (s.releaseChannel p).pan = s.pan := by
  cases p <;> unfold State.releaseChannel <;> (try dsimp only) <;> (repeat' split) <;> first | (simp; done) | simp [State.updPort, PerPort.set, State.port, PerPort.get]

@[simp] theorem State.judgeDone_keeps (s : State) (p : Port) :
    (s.judgeDone p).ccu = s.ccu ∧
    (s.judgeDone p).lif = s.lif ∧
    (s.judgeDone p).timers = s.timers ∧
    (s.judgeDone p).tone = s.tone ∧
    (s.judgeDone p).rau = s.rau ∧
    (s.judgeDone p).level = s.level ∧
    (s.judgeDone p).pump = s.pump ∧
    (s.judgeDone p).link = s.link ∧
    (s.judgeDone p).fax = s.fax ∧
    (s.judgeDone p).voice = s.voice ∧
    (s.judgeDone p).sys = s.sys ∧
    (s.judgeDone p).pan = s.pan := by
  cases p <;> unfold State.judgeDone <;> (try dsimp only) <;> (repeat' split) <;> first | (simp; done) | simp [State.updPort, PerPort.set, State.port, PerPort.get]

@[simp] theorem State.fillFifo_keeps (s : State) (p : Port) :
    (s.fillFifo p).ccu = s.ccu ∧
    (s.fillFifo p).lif = s.lif ∧
    (s.fillFifo p).timers = s.timers ∧
    (s.fillFifo p).tone = s.tone ∧
    (s.fillFifo p).rau = s.rau ∧
    (s.fillFifo p).level = s.level ∧
    (s.fillFifo p).pump = s.pump ∧
    (s.fillFifo p).link = s.link ∧
    (s.fillFifo p).fax = s.fax ∧
    (s.fillFifo p).voice = s.voice ∧
    (s.fillFifo p).store = s.store ∧
    (s.fillFifo p).sys = s.sys ∧
    (s.fillFifo p).pan = s.pan := by
  cases p <;> unfold State.fillFifo <;> (try dsimp only) <;> (repeat' split) <;> first | (simp; done) | simp [State.updPort, PerPort.set, State.port, PerPort.get]

@[simp] theorem State.pageMarkTaken_keeps (s : State) (p : Port) (id : Nat) :
    (s.pageMarkTaken p id).ccu = s.ccu ∧
    (s.pageMarkTaken p id).lif = s.lif ∧
    (s.pageMarkTaken p id).timers = s.timers ∧
    (s.pageMarkTaken p id).tone = s.tone ∧
    (s.pageMarkTaken p id).rau = s.rau ∧
    (s.pageMarkTaken p id).level = s.level ∧
    (s.pageMarkTaken p id).pump = s.pump ∧
    (s.pageMarkTaken p id).link = s.link ∧
    (s.pageMarkTaken p id).fax = s.fax ∧
    (s.pageMarkTaken p id).voice = s.voice ∧
    (s.pageMarkTaken p id).sys = s.sys ∧
    (s.pageMarkTaken p id).pan = s.pan := by
  cases p <;> unfold State.pageMarkTaken <;> (try dsimp only) <;> (repeat' split) <;> first | (simp; done) | simp [State.updPort, PerPort.set, State.port, PerPort.get]

@[simp] theorem State.followPageMark_keeps (s : State) (p : Port) (id : Nat) (b : Byte) :
    (s.followPageMark p id b).ccu = s.ccu ∧
    (s.followPageMark p id b).lif = s.lif ∧
    (s.followPageMark p id b).timers = s.timers ∧
    (s.followPageMark p id b).tone = s.tone ∧
    (s.followPageMark p id b).rau = s.rau ∧
    (s.followPageMark p id b).level = s.level ∧
    (s.followPageMark p id b).pump = s.pump ∧
    (s.followPageMark p id b).link = s.link ∧
    (s.followPageMark p id b).fax = s.fax ∧
    (s.followPageMark p id b).voice = s.voice ∧
    (s.followPageMark p id b).sys = s.sys ∧
    (s.followPageMark p id b).pan = s.pan := by
  cases p <;> unfold State.followPageMark <;> (try dsimp only) <;> (repeat' split) <;> first | (simp; done) | simp [State.updPort, PerPort.set, State.port, PerPort.get]

@[simp] theorem State.writeByte_keeps (s : State) (p : Port) (id : Nat) (b : Byte) :
    ((s.writeByte p id b).1).ccu = s.ccu ∧
    ((s.writeByte p id b).1).lif = s.lif ∧
    ((s.writeByte p id b).1).timers = s.timers ∧
    ((s.writeByte p id b).1).tone = s.tone ∧
    ((s.writeByte p id b).1).rau = s.rau ∧
    ((s.writeByte p id b).1).level = s.level ∧
    ((s.writeByte p id b).1).pump = s.pump ∧
    ((s.writeByte p id b).1).link = s.link ∧
    ((s.writeByte p id b).1).fax = s.fax ∧
    ((s.writeByte p id b).1).voice = s.voice ∧
    ((s.writeByte p id b).1).sys = s.sys ∧
    ((s.writeByte p id b).1).pan = s.pan := by
  have hc := State.appendByte_keeps s id b
  unfold State.writeByte
  try dsimp only
  split <;> rename_i he <;> rw [he] at hc <;> dsimp only at hc <;> (try split) <;> simp [hc]

@[simp] theorem State.writeBytes_keeps (p : Port) (id : Nat) (l : List Byte) (s : State) :
    ((State.writeBytes p id l s).1).ccu = s.ccu ∧
    ((State.writeBytes p id l s).1).lif = s.lif ∧
    ((State.writeBytes p id l s).1).timers = s.timers ∧
    ((State.writeBytes p id l s).1).tone = s.tone ∧
    ((State.writeBytes p id l s).1).rau = s.rau ∧
    ((State.writeBytes p id l s).1).level = s.level ∧
    ((State.writeBytes p id l s).1).pump = s.pump ∧
    ((State.writeBytes p id l s).1).link = s.link ∧
    ((State.writeBytes p id l s).1).fax = s.fax ∧
    ((State.writeBytes p id l s).1).voice = s.voice ∧
    ((State.writeBytes p id l s).1).sys = s.sys ∧
    ((State.writeBytes p id l s).1).pan = s.pan := by
  induction l generalizing s with
  | nil => simp [State.writeMemAll, State.writeBytes]
  | cons b rest ih =>
    have hc := State.writeByte_keeps s p id b
    unfold State.writeBytes
    split
    · first | rfl | simp
    · split <;> rename_i he <;> rw [he] at hc <;> dsimp only at hc
      · split
        rename_i hw
        have hi := ih (s.writeByte p id b).1
        rw [he, hw] at hi
        dsimp only at hi
        simp [hi, hc]
      · simp [hc]

@[simp] theorem State.closeWrite_keeps (s : State) (p : Port) (id : Nat) :
    (s.closeWrite p id).ccu = s.ccu ∧
    (s.closeWrite p id).lif = s.lif ∧
    (s.closeWrite p id).timers = s.timers ∧
    (s.closeWrite p id).tone = s.tone ∧
    (s.closeWrite p id).rau = s.rau ∧
    (s.closeWrite p id).level = s.level ∧
    (s.closeWrite p id).pump = s.pump ∧
    (s.closeWrite p id).link = s.link ∧
    (s.closeWrite p id).fax = s.fax ∧
    (s.closeWrite p id).voice = s.voice ∧
    (s.closeWrite p id).sys = s.sys ∧
    (s.closeWrite p id).pan = s.pan := by
  cases p <;> unfold State.closeWrite <;> (try dsimp only) <;> (repeat' split) <;> first | (simp; done) | simp [State.updPort, PerPort.set, State.port, PerPort.get]

@[simp] theorem State.endRead_keeps (s : State) (p : Port) :
    (s.endRead p).ccu = s.ccu ∧
    (s.endRead p).lif = s.lif ∧
    (s.endRead p).timers = s.timers ∧
    (s.endRead p).tone = s.tone ∧
    (s.endRead p).rau = s.rau ∧
    (s.endRead p).level = s.level ∧
    (s.endRead p).pump = s.pump ∧
    (s.endRead p).link = s.link ∧
    (s.endRead p).fax = s.fax ∧
    (s.endRead p).voice = s.voice ∧
    (s.endRead p).sys = s.sys ∧
    (s.endRead p).pan = s.pan := by
  cases p <;> unfold State.endRead <;> (try dsimp only) <;> (repeat' split) <;> first | (simp; done) | simp [State.updPort, PerPort.set, State.port, PerPort.get]

@[simp] theorem State.abortChannel_keeps (s : State) (p : Port) :
    (s.abortChannel p).ccu = s.ccu ∧
    (s.abortChannel p).lif = s.lif ∧
    (s.abortChannel p).timers = s.timers ∧
    (s.abortChannel p).tone = s.tone ∧
    (s.abortChannel p).rau = s.rau ∧
    (s.abortChannel p).level = s.level ∧
    (s.abortChannel p).pump = s.pump ∧
    (s.abortChannel p).link = s.link ∧
    (s.abortChannel p).fax = s.fax ∧
    (s.abortChannel p).voice = s.voice ∧
    (s.abortChannel p).sys = s.sys ∧
    (s.abortChannel p).pan = s.pan := by
  cases p <;> unfold State.abortChannel <;> (try dsimp only) <;> (repeat' split) <;> first | (simp; done) | simp [State.updPort, PerPort.set, State.port, PerPort.get]

@[simp] theorem State.resetClaims_keeps (s : State) (p : Port) :
    (s.resetClaims p).ccu.call.number = s.ccu.call.number ∧
    (s.resetClaims p).ccu.call.direction = s.ccu.call.direction ∧
    (s.resetClaims p).ccu.call.holder = s.ccu.call.holder ∧
    (s.resetClaims p).ccu.call.job = s.ccu.call.job ∧
    (s.resetClaims p).ccu.call.phase = s.ccu.call.phase ∧
    (s.resetClaims p).ccu.call.dialList = s.ccu.call.dialList ∧
    (s.resetClaims p).ccu.call.farEndRinging = s.ccu.call.farEndRinging ∧
    (s.resetClaims p).ccu.call.callerStatus = s.ccu.call.callerStatus ∧
    (s.resetClaims p).ccu.call.callerNumber = s.ccu.call.callerNumber ∧
    (s.resetClaims p).ccu.call.callerName = s.ccu.call.callerName ∧
    (s.resetClaims p).ccu.call.ringPattern = s.ccu.call.ringPattern ∧
    (s.resetClaims p).ccu.call.ringCount = s.ccu.call.ringCount ∧
    (s.resetClaims p).ccu.call.startTime = s.ccu.call.startTime ∧
    (s.resetClaims p).ccu.call.rung = s.ccu.call.rung ∧
    (s.resetClaims p).ccu.call.lastQuality = s.ccu.call.lastQuality ∧
    (s.resetClaims p).ccu.call.seconds = s.ccu.call.seconds ∧
    (s.resetClaims p).ccu.dialler.cursor = s.ccu.dialler.cursor ∧
    (s.resetClaims p).ccu.dialler.breaksEnded = s.ccu.dialler.breaksEnded ∧
    (s.resetClaims p).ccu.dialler.lastMake = s.ccu.dialler.lastMake ∧
    (s.resetClaims p).ccu.lastNumber = s.ccu.lastNumber ∧
    (s.resetClaims p).ccu.blind = s.ccu.blind ∧
    (s.resetClaims p).lif.ringPresent = s.lif.ringPresent ∧
    (s.resetClaims p).lif.hangover = s.lif.hangover ∧
    (s.resetClaims p).lif.voltageBelow = s.lif.voltageBelow ∧
    (s.resetClaims p).lif.currentBelow = s.lif.currentBelow ∧
    (s.resetClaims p).lif.pickupLatch = s.lif.pickupLatch ∧
    (s.resetClaims p).timers.e7 = s.timers.e7 ∧
    (s.resetClaims p).rau.episode = s.rau.episode ∧
    (s.resetClaims p).rau.caller = s.rau.caller ∧
    (s.resetClaims p).rau.presence = s.rau.presence ∧
    (s.resetClaims p).rau.deadlines = s.rau.deadlines ∧
    (s.resetClaims p).fax.role = s.fax.role ∧
    (s.resetClaims p).fax.place = s.fax.place ∧
    (s.resetClaims p).fax.rung = s.fax.rung ∧
    (s.resetClaims p).fax.floor = s.fax.floor ∧
    (s.resetClaims p).fax.ceiling = s.fax.ceiling ∧
    (s.resetClaims p).fax.resolution = s.fax.resolution ∧
    (s.resetClaims p).fax.scanMs = s.fax.scanMs ∧
    (s.resetClaims p).fax.page = s.fax.page ∧
    (s.resetClaims p).fax.attempts = s.fax.attempts ∧
    (s.resetClaims p).fax.accepted = s.fax.accepted ∧
    (s.resetClaims p).fax.linkedId = s.fax.linkedId ∧
    (s.resetClaims p).fax.pageStart = s.fax.pageStart ∧
    (s.resetClaims p).fax.windows = s.fax.windows ∧
    (s.resetClaims p).fax.badWindows = s.fax.badWindows ∧
    (s.resetClaims p).fax.overflow = s.fax.overflow ∧
    (s.resetClaims p).fax.retries = s.fax.retries ∧
    (s.resetClaims p).fax.lastFrame = s.fax.lastFrame ∧
    (s.resetClaims p).fax.more = s.fax.more ∧
    (s.resetClaims p).fax.checkOverloaded = s.fax.checkOverloaded ∧
    (s.resetClaims p).fax.inPair = s.fax.inPair ∧
    (s.resetClaims p).fax.lineLength = s.fax.lineLength ∧
    (s.resetClaims p).fax.position = s.fax.position ∧
    (s.resetClaims p).fax.pageFromPort = s.fax.pageFromPort ∧
    (s.resetClaims p).fax.markSent = s.fax.markSent ∧
    (s.resetClaims p).fax.markInQueue = s.fax.markInQueue ∧
    (s.resetClaims p).ports.system.outgoing = s.ports.system.outgoing ∧
    (s.resetClaims p).ports.system.digits = s.ports.system.digits ∧
    (s.resetClaims p).ports.system.transfer = s.ports.system.transfer ∧
    (s.resetClaims p).ports.panel.outgoing = s.ports.panel.outgoing ∧
    (s.resetClaims p).ports.panel.digits = s.ports.panel.digits ∧
    (s.resetClaims p).ports.panel.transfer = s.ports.panel.transfer ∧
    (s.resetClaims p).sys.ready = s.sys.ready ∧
    (s.resetClaims p).sys.rts = s.sys.rts ∧
    (s.resetClaims p).sys.rate = s.sys.rate ∧
    (s.resetClaims p).sys.notice = s.sys.notice ∧
    (s.resetClaims p).sys.escape = s.sys.escape ∧
    (s.resetClaims p).pan = s.pan := by
  cases p <;> unfold State.resetClaims <;> (try dsimp only) <;> (repeat' split) <;> first | (simp; done) | simp [State.updPort, PerPort.set, State.port, PerPort.get]

@[simp] theorem State.resetVoice_keeps (s : State) (p : Port) :
    (s.resetVoice p).ccu.line = s.ccu.line ∧
    (s.resetVoice p).ccu.call.active = s.ccu.call.active ∧
    (s.resetVoice p).ccu.call.number = s.ccu.call.number ∧
    (s.resetVoice p).ccu.call.direction = s.ccu.call.direction ∧
    (s.resetVoice p).ccu.call.holder = s.ccu.call.holder ∧
    (s.resetVoice p).ccu.call.job = s.ccu.call.job ∧
    (s.resetVoice p).ccu.call.phase = s.ccu.call.phase ∧
    (s.resetVoice p).ccu.call.dialList = s.ccu.call.dialList ∧
    (s.resetVoice p).ccu.call.farEndRinging = s.ccu.call.farEndRinging ∧
    (s.resetVoice p).ccu.call.callerStatus = s.ccu.call.callerStatus ∧
    (s.resetVoice p).ccu.call.callerNumber = s.ccu.call.callerNumber ∧
    (s.resetVoice p).ccu.call.callerName = s.ccu.call.callerName ∧
    (s.resetVoice p).ccu.call.ringPattern = s.ccu.call.ringPattern ∧
    (s.resetVoice p).ccu.call.ringCount = s.ccu.call.ringCount ∧
    (s.resetVoice p).ccu.call.startTime = s.ccu.call.startTime ∧
    (s.resetVoice p).ccu.call.rung = s.ccu.call.rung ∧
    (s.resetVoice p).ccu.call.lastQuality = s.ccu.call.lastQuality ∧
    (s.resetVoice p).ccu.call.seconds = s.ccu.call.seconds ∧
    (s.resetVoice p).ccu.call.cause = s.ccu.call.cause ∧
    (s.resetVoice p).ccu.dialler = s.ccu.dialler ∧
    (s.resetVoice p).ccu.lastNumber = s.ccu.lastNumber ∧
    (s.resetVoice p).ccu.ending = s.ccu.ending ∧
    (s.resetVoice p).ccu.blind = s.ccu.blind ∧
    (s.resetVoice p).ccu.claims = s.ccu.claims ∧
    (s.resetVoice p).ccu.history = s.ccu.history ∧
    (s.resetVoice p).ccu.t2Use = s.ccu.t2Use ∧
    (s.resetVoice p).lif = s.lif ∧
    (s.resetVoice p).timers.e0 = s.timers.e0 ∧
    (s.resetVoice p).timers.e1 = s.timers.e1 ∧
    (s.resetVoice p).timers.e2 = s.timers.e2 ∧
    (s.resetVoice p).timers.e3 = s.timers.e3 ∧
    (s.resetVoice p).timers.e4 = s.timers.e4 ∧
    (s.resetVoice p).timers.e5 = s.timers.e5 ∧
    (s.resetVoice p).timers.e7 = s.timers.e7 ∧
    (s.resetVoice p).tone = s.tone ∧
    (s.resetVoice p).rau = s.rau ∧
    (s.resetVoice p).level = s.level ∧
    (s.resetVoice p).pump.mode = s.pump.mode ∧
    (s.resetVoice p).pump.role = s.pump.role ∧
    (s.resetVoice p).pump.phase = s.pump.phase ∧
    (s.resetVoice p).pump.localCeiling = s.pump.localCeiling ∧
    (s.resetVoice p).pump.localFloor = s.pump.localFloor ∧
    (s.resetVoice p).pump.peerMax = s.pump.peerMax ∧
    (s.resetVoice p).pump.negCeiling = s.pump.negCeiling ∧
    (s.resetVoice p).pump.negFloor = s.pump.negFloor ∧
    (s.resetVoice p).pump.below = s.pump.below ∧
    (s.resetVoice p).pump.above = s.pump.above ∧
    (s.resetVoice p).pump.retrains = s.pump.retrains ∧
    (s.resetVoice p).pump.linkStarted = s.pump.linkStarted ∧
    (s.resetVoice p).pump.request = s.pump.request ∧
    (s.resetVoice p).pump.answerTone = s.pump.answerTone ∧
    (s.resetVoice p).pump.heardMax = s.pump.heardMax ∧
    (s.resetVoice p).pump.heardAck = s.pump.heardAck ∧
    (s.resetVoice p).pump.stage = s.pump.stage ∧
    (s.resetVoice p).pump.ownAccept = s.pump.ownAccept ∧
    (s.resetVoice p).pump.farAccept = s.pump.farAccept ∧
    (s.resetVoice p).pump.confirmed = s.pump.confirmed ∧
    (s.resetVoice p).link.mode = s.link.mode ∧
    (s.resetVoice p).link.paused = s.link.paused ∧
    (s.resetVoice p).link.attempts = s.link.attempts ∧
    (s.resetVoice p).link.windowSize = s.link.windowSize ∧
    (s.resetVoice p).link.payloadSize = s.link.payloadSize ∧
    (s.resetVoice p).link.vs = s.link.vs ∧
    (s.resetVoice p).link.window = s.link.window ∧
    (s.resetVoice p).link.resendMark = s.link.resendMark ∧
    (s.resetVoice p).link.retries = s.link.retries ∧
    (s.resetVoice p).link.peerBusy = s.link.peerBusy ∧
    (s.resetVoice p).link.vr = s.link.vr ∧
    (s.resetVoice p).link.rejectFlag = s.link.rejectFlag ∧
    (s.resetVoice p).link.ackOwed = s.link.ackOwed ∧
    (s.resetVoice p).link.busyAckOwed = s.link.busyAckOwed ∧
    (s.resetVoice p).link.ownBusy = s.link.ownBusy ∧
    (s.resetVoice p).link.rejectOwed = s.link.rejectOwed ∧
    (s.resetVoice p).link.clearOwed = s.link.clearOwed ∧
    (s.resetVoice p).link.reqDue = s.link.reqDue ∧
    (s.resetVoice p).link.confDue = s.link.confDue ∧
    (s.resetVoice p).link.confSetup = s.link.confSetup ∧
    (s.resetVoice p).link.peerOffer = s.link.peerOffer ∧
    (s.resetVoice p).link.byFarEnd = s.link.byFarEnd ∧
    (s.resetVoice p).link.policy = s.link.policy ∧
    (s.resetVoice p).link.offer = s.link.offer ∧
    (s.resetVoice p).link.stats = s.link.stats ∧
    (s.resetVoice p).link.outbound = s.link.outbound ∧
    (s.resetVoice p).link.inbound = s.link.inbound ∧
    (s.resetVoice p).fax = s.fax ∧
    (s.resetVoice p).voice.remote = s.voice.remote ∧
    (s.resetVoice p).ports.system.outgoing = s.ports.system.outgoing ∧
    (s.resetVoice p).ports.system.digits = s.ports.system.digits ∧
    (s.resetVoice p).ports.system.transfer = s.ports.system.transfer ∧
    (s.resetVoice p).ports.panel.outgoing = s.ports.panel.outgoing ∧
    (s.resetVoice p).ports.panel.digits = s.ports.panel.digits ∧
    (s.resetVoice p).ports.panel.transfer = s.ports.panel.transfer ∧
    (s.resetVoice p).sys = s.sys ∧
    (s.resetVoice p).pan = s.pan := by
  cases p <;> unfold State.resetVoice <;> (try dsimp only) <;> (repeat' split) <;> first | (simp; done) | simp [State.updPort, PerPort.set, State.port, PerPort.get]

@[simp] theorem State.portReset_keeps (s : State) (p : Port) :
    (s.portReset p).ccu.call.number = s.ccu.call.number ∧
    (s.portReset p).ccu.call.direction = s.ccu.call.direction ∧
    (s.portReset p).ccu.call.holder = s.ccu.call.holder ∧
    (s.portReset p).ccu.call.job = s.ccu.call.job ∧
    (s.portReset p).ccu.call.phase = s.ccu.call.phase ∧
    (s.portReset p).ccu.call.dialList = s.ccu.call.dialList ∧
    (s.portReset p).ccu.call.farEndRinging = s.ccu.call.farEndRinging ∧
    (s.portReset p).ccu.call.callerStatus = s.ccu.call.callerStatus ∧
    (s.portReset p).ccu.call.callerNumber = s.ccu.call.callerNumber ∧
    (s.portReset p).ccu.call.callerName = s.ccu.call.callerName ∧
    (s.portReset p).ccu.call.ringPattern = s.ccu.call.ringPattern ∧
    (s.portReset p).ccu.call.ringCount = s.ccu.call.ringCount ∧
    (s.portReset p).ccu.call.startTime = s.ccu.call.startTime ∧
    (s.portReset p).ccu.call.rung = s.ccu.call.rung ∧
    (s.portReset p).ccu.call.lastQuality = s.ccu.call.lastQuality ∧
    (s.portReset p).ccu.call.seconds = s.ccu.call.seconds ∧
    (s.portReset p).ccu.dialler.cursor = s.ccu.dialler.cursor ∧
    (s.portReset p).ccu.dialler.breaksEnded = s.ccu.dialler.breaksEnded ∧
    (s.portReset p).ccu.dialler.lastMake = s.ccu.dialler.lastMake ∧
    (s.portReset p).ccu.lastNumber = s.ccu.lastNumber ∧
    (s.portReset p).ccu.blind = s.ccu.blind ∧
    (s.portReset p).lif.ringPresent = s.lif.ringPresent ∧
    (s.portReset p).lif.hangover = s.lif.hangover ∧
    (s.portReset p).lif.voltageBelow = s.lif.voltageBelow ∧
    (s.portReset p).lif.currentBelow = s.lif.currentBelow ∧
    (s.portReset p).lif.pickupLatch = s.lif.pickupLatch ∧
    (s.portReset p).timers.e7 = s.timers.e7 ∧
    (s.portReset p).rau.episode = s.rau.episode ∧
    (s.portReset p).rau.caller = s.rau.caller ∧
    (s.portReset p).rau.presence = s.rau.presence ∧
    (s.portReset p).rau.deadlines = s.rau.deadlines ∧
    (s.portReset p).fax.role = s.fax.role ∧
    (s.portReset p).fax.place = s.fax.place ∧
    (s.portReset p).fax.rung = s.fax.rung ∧
    (s.portReset p).fax.floor = s.fax.floor ∧
    (s.portReset p).fax.ceiling = s.fax.ceiling ∧
    (s.portReset p).fax.resolution = s.fax.resolution ∧
    (s.portReset p).fax.scanMs = s.fax.scanMs ∧
    (s.portReset p).fax.page = s.fax.page ∧
    (s.portReset p).fax.attempts = s.fax.attempts ∧
    (s.portReset p).fax.accepted = s.fax.accepted ∧
    (s.portReset p).fax.linkedId = s.fax.linkedId ∧
    (s.portReset p).fax.pageStart = s.fax.pageStart ∧
    (s.portReset p).fax.windows = s.fax.windows ∧
    (s.portReset p).fax.badWindows = s.fax.badWindows ∧
    (s.portReset p).fax.overflow = s.fax.overflow ∧
    (s.portReset p).fax.retries = s.fax.retries ∧
    (s.portReset p).fax.lastFrame = s.fax.lastFrame ∧
    (s.portReset p).fax.more = s.fax.more ∧
    (s.portReset p).fax.checkOverloaded = s.fax.checkOverloaded ∧
    (s.portReset p).fax.inPair = s.fax.inPair ∧
    (s.portReset p).fax.lineLength = s.fax.lineLength ∧
    (s.portReset p).fax.position = s.fax.position ∧
    (s.portReset p).fax.pageFromPort = s.fax.pageFromPort ∧
    (s.portReset p).fax.markSent = s.fax.markSent ∧
    (s.portReset p).fax.markInQueue = s.fax.markInQueue ∧
    (s.portReset p).sys.ready = s.sys.ready ∧
    (s.portReset p).sys.rts = s.sys.rts ∧
    (s.portReset p).sys.rate = s.sys.rate ∧
    (s.portReset p).sys.notice = s.sys.notice ∧
    (s.portReset p).sys.escape = s.sys.escape ∧
    (s.portReset p).pan = s.pan := by
  cases p <;> unfold State.portReset <;> (try dsimp only) <;> (repeat' split) <;> first | (simp; done) | simp [State.updPort, PerPort.set, State.port, PerPort.get]

@[simp] theorem State.afterReply_keeps (s : State) (k : AnswerKind) :
    (s.afterReply k).ccu = s.ccu ∧
    (s.afterReply k).lif = s.lif ∧
    (s.afterReply k).timers.e0 = s.timers.e0 ∧
    (s.afterReply k).timers.e1 = s.timers.e1 ∧
    (s.afterReply k).timers.e2 = s.timers.e2 ∧
    (s.afterReply k).timers.e3 = s.timers.e3 ∧
    (s.afterReply k).timers.e4 = s.timers.e4 ∧
    (s.afterReply k).timers.e6 = s.timers.e6 ∧
    (s.afterReply k).timers.e7 = s.timers.e7 ∧
    (s.afterReply k).tone = s.tone ∧
    (s.afterReply k).rau = s.rau ∧
    (s.afterReply k).level = s.level ∧
    (s.afterReply k).pump = s.pump ∧
    (s.afterReply k).link = s.link ∧
    (s.afterReply k).fax = s.fax ∧
    (s.afterReply k).voice = s.voice ∧
    (s.afterReply k).store = s.store ∧
    (s.afterReply k).ports = s.ports ∧
    (s.afterReply k).sys.ready = s.sys.ready ∧
    (s.afterReply k).sys.rts = s.sys.rts ∧
    (s.afterReply k).sys.lastByte = s.sys.lastByte ∧
    (s.afterReply k).sys.rate = s.sys.rate ∧
    (s.afterReply k).sys.notice = s.sys.notice ∧
    (s.afterReply k).pan = s.pan := by
  unfold State.afterReply; try dsimp only
  repeat' split
  all_goals simp

@[simp] theorem State.panelRead_keeps (s : State) (n : Nat) :
    (s.panelRead n).ccu = s.ccu ∧
    (s.panelRead n).lif = s.lif ∧
    (s.panelRead n).timers = s.timers ∧
    (s.panelRead n).tone = s.tone ∧
    (s.panelRead n).rau = s.rau ∧
    (s.panelRead n).level = s.level ∧
    (s.panelRead n).pump = s.pump ∧
    (s.panelRead n).link = s.link ∧
    (s.panelRead n).fax = s.fax ∧
    (s.panelRead n).voice = s.voice ∧
    (s.panelRead n).store = s.store ∧
    (s.panelRead n).ports.system = s.ports.system ∧
    (s.panelRead n).ports.panel.notices = s.ports.panel.notices ∧
    (s.panelRead n).ports.panel.digits = s.ports.panel.digits ∧
    (s.panelRead n).ports.panel.transfer = s.ports.panel.transfer ∧
    (s.panelRead n).ports.panel.alerts = s.ports.panel.alerts ∧
    (s.panelRead n).sys = s.sys := by
  unfold State.panelRead; try dsimp only
  repeat' split
  all_goals simp

@[simp] theorem State.escapeByte_keeps (s : State) (b : Byte) :
    (s.escapeByte b).ccu = s.ccu ∧
    (s.escapeByte b).lif = s.lif ∧
    (s.escapeByte b).timers.e0 = s.timers.e0 ∧
    (s.escapeByte b).timers.e1 = s.timers.e1 ∧
    (s.escapeByte b).timers.e2 = s.timers.e2 ∧
    (s.escapeByte b).timers.e3 = s.timers.e3 ∧
    (s.escapeByte b).timers.e4 = s.timers.e4 ∧
    (s.escapeByte b).timers.e6 = s.timers.e6 ∧
    (s.escapeByte b).timers.e7 = s.timers.e7 ∧
    (s.escapeByte b).tone = s.tone ∧
    (s.escapeByte b).rau = s.rau ∧
    (s.escapeByte b).level = s.level ∧
    (s.escapeByte b).pump = s.pump ∧
    (s.escapeByte b).link = s.link ∧
    (s.escapeByte b).fax = s.fax ∧
    (s.escapeByte b).voice = s.voice ∧
    (s.escapeByte b).store = s.store ∧
    (s.escapeByte b).ports = s.ports ∧
    (s.escapeByte b).sys.data = s.sys.data ∧
    (s.escapeByte b).sys.entryDue = s.sys.entryDue ∧
    (s.escapeByte b).sys.goDataDue = s.sys.goDataDue ∧
    (s.escapeByte b).sys.ready = s.sys.ready ∧
    (s.escapeByte b).sys.rts = s.sys.rts ∧
    (s.escapeByte b).sys.cts = s.sys.cts ∧
    (s.escapeByte b).sys.lastByte = s.sys.lastByte ∧
    (s.escapeByte b).sys.rate = s.sys.rate ∧
    (s.escapeByte b).sys.notice = s.sys.notice ∧
    (s.escapeByte b).pan = s.pan := by
  unfold State.escapeByte; try dsimp only
  repeat' split
  all_goals simp

@[simp] theorem State.escapeExpiry_keeps (s : State) :
    (s.escapeExpiry).ccu = s.ccu ∧
    (s.escapeExpiry).lif = s.lif ∧
    (s.escapeExpiry).timers.e0 = s.timers.e0 ∧
    (s.escapeExpiry).timers.e1 = s.timers.e1 ∧
    (s.escapeExpiry).timers.e2 = s.timers.e2 ∧
    (s.escapeExpiry).timers.e3 = s.timers.e3 ∧
    (s.escapeExpiry).timers.e4 = s.timers.e4 ∧
    (s.escapeExpiry).timers.e6 = s.timers.e6 ∧
    (s.escapeExpiry).timers.e7 = s.timers.e7 ∧
    (s.escapeExpiry).tone = s.tone ∧
    (s.escapeExpiry).rau = s.rau ∧
    (s.escapeExpiry).level = s.level ∧
    (s.escapeExpiry).pump.mode = s.pump.mode ∧
    (s.escapeExpiry).pump.role = s.pump.role ∧
    (s.escapeExpiry).pump.phase = s.pump.phase ∧
    (s.escapeExpiry).pump.localCeiling = s.pump.localCeiling ∧
    (s.escapeExpiry).pump.localFloor = s.pump.localFloor ∧
    (s.escapeExpiry).pump.peerMax = s.pump.peerMax ∧
    (s.escapeExpiry).pump.negCeiling = s.pump.negCeiling ∧
    (s.escapeExpiry).pump.negFloor = s.pump.negFloor ∧
    (s.escapeExpiry).pump.below = s.pump.below ∧
    (s.escapeExpiry).pump.above = s.pump.above ∧
    (s.escapeExpiry).pump.retrains = s.pump.retrains ∧
    (s.escapeExpiry).pump.linkStarted = s.pump.linkStarted ∧
    (s.escapeExpiry).pump.request = s.pump.request ∧
    (s.escapeExpiry).pump.answerTone = s.pump.answerTone ∧
    (s.escapeExpiry).pump.heardMax = s.pump.heardMax ∧
    (s.escapeExpiry).pump.heardAck = s.pump.heardAck ∧
    (s.escapeExpiry).pump.stage = s.pump.stage ∧
    (s.escapeExpiry).pump.ownAccept = s.pump.ownAccept ∧
    (s.escapeExpiry).pump.farAccept = s.pump.farAccept ∧
    (s.escapeExpiry).pump.confirmed = s.pump.confirmed ∧
    (s.escapeExpiry).link.mode = s.link.mode ∧
    (s.escapeExpiry).link.paused = s.link.paused ∧
    (s.escapeExpiry).link.attempts = s.link.attempts ∧
    (s.escapeExpiry).link.windowSize = s.link.windowSize ∧
    (s.escapeExpiry).link.payloadSize = s.link.payloadSize ∧
    (s.escapeExpiry).link.vs = s.link.vs ∧
    (s.escapeExpiry).link.window = s.link.window ∧
    (s.escapeExpiry).link.resendMark = s.link.resendMark ∧
    (s.escapeExpiry).link.retries = s.link.retries ∧
    (s.escapeExpiry).link.peerBusy = s.link.peerBusy ∧
    (s.escapeExpiry).link.vr = s.link.vr ∧
    (s.escapeExpiry).link.rejectFlag = s.link.rejectFlag ∧
    (s.escapeExpiry).link.ackOwed = s.link.ackOwed ∧
    (s.escapeExpiry).link.busyAckOwed = s.link.busyAckOwed ∧
    (s.escapeExpiry).link.ownBusy = s.link.ownBusy ∧
    (s.escapeExpiry).link.rejectOwed = s.link.rejectOwed ∧
    (s.escapeExpiry).link.clearOwed = s.link.clearOwed ∧
    (s.escapeExpiry).link.reqDue = s.link.reqDue ∧
    (s.escapeExpiry).link.confDue = s.link.confDue ∧
    (s.escapeExpiry).link.confSetup = s.link.confSetup ∧
    (s.escapeExpiry).link.peerOffer = s.link.peerOffer ∧
    (s.escapeExpiry).link.byFarEnd = s.link.byFarEnd ∧
    (s.escapeExpiry).link.policy = s.link.policy ∧
    (s.escapeExpiry).link.offer = s.link.offer ∧
    (s.escapeExpiry).link.stats = s.link.stats ∧
    (s.escapeExpiry).link.outbound = s.link.outbound ∧
    (s.escapeExpiry).link.inbound = s.link.inbound ∧
    (s.escapeExpiry).fax = s.fax ∧
    (s.escapeExpiry).voice = s.voice ∧
    (s.escapeExpiry).store = s.store ∧
    (s.escapeExpiry).ports = s.ports ∧
    (s.escapeExpiry).sys.ready = s.sys.ready ∧
    (s.escapeExpiry).sys.rts = s.sys.rts ∧
    (s.escapeExpiry).sys.rate = s.sys.rate ∧
    (s.escapeExpiry).sys.notice = s.sys.notice ∧
    (s.escapeExpiry).pan = s.pan := by
  unfold State.escapeExpiry; try dsimp only
  repeat' split
  all_goals simp

@[simp] theorem State.portByte_keeps (s : State) (b : Byte) :
    (s.portByte b).ccu = s.ccu ∧
    (s.portByte b).lif = s.lif ∧
    (s.portByte b).timers.e0 = s.timers.e0 ∧
    (s.portByte b).timers.e1 = s.timers.e1 ∧
    (s.portByte b).timers.e2 = s.timers.e2 ∧
    (s.portByte b).timers.e3 = s.timers.e3 ∧
    (s.portByte b).timers.e4 = s.timers.e4 ∧
    (s.portByte b).timers.e6 = s.timers.e6 ∧
    (s.portByte b).timers.e7 = s.timers.e7 ∧
    (s.portByte b).tone = s.tone ∧
    (s.portByte b).rau = s.rau ∧
    (s.portByte b).level = s.level ∧
    (s.portByte b).pump.mode = s.pump.mode ∧
    (s.portByte b).pump.role = s.pump.role ∧
    (s.portByte b).pump.phase = s.pump.phase ∧
    (s.portByte b).pump.localCeiling = s.pump.localCeiling ∧
    (s.portByte b).pump.localFloor = s.pump.localFloor ∧
    (s.portByte b).pump.peerMax = s.pump.peerMax ∧
    (s.portByte b).pump.negCeiling = s.pump.negCeiling ∧
    (s.portByte b).pump.negFloor = s.pump.negFloor ∧
    (s.portByte b).pump.below = s.pump.below ∧
    (s.portByte b).pump.above = s.pump.above ∧
    (s.portByte b).pump.retrains = s.pump.retrains ∧
    (s.portByte b).pump.linkStarted = s.pump.linkStarted ∧
    (s.portByte b).pump.request = s.pump.request ∧
    (s.portByte b).pump.answerTone = s.pump.answerTone ∧
    (s.portByte b).pump.heardMax = s.pump.heardMax ∧
    (s.portByte b).pump.heardAck = s.pump.heardAck ∧
    (s.portByte b).pump.stage = s.pump.stage ∧
    (s.portByte b).pump.ownAccept = s.pump.ownAccept ∧
    (s.portByte b).pump.farAccept = s.pump.farAccept ∧
    (s.portByte b).pump.confirmed = s.pump.confirmed ∧
    (s.portByte b).link.mode = s.link.mode ∧
    (s.portByte b).link.paused = s.link.paused ∧
    (s.portByte b).link.attempts = s.link.attempts ∧
    (s.portByte b).link.windowSize = s.link.windowSize ∧
    (s.portByte b).link.payloadSize = s.link.payloadSize ∧
    (s.portByte b).link.vs = s.link.vs ∧
    (s.portByte b).link.window = s.link.window ∧
    (s.portByte b).link.resendMark = s.link.resendMark ∧
    (s.portByte b).link.retries = s.link.retries ∧
    (s.portByte b).link.peerBusy = s.link.peerBusy ∧
    (s.portByte b).link.vr = s.link.vr ∧
    (s.portByte b).link.rejectFlag = s.link.rejectFlag ∧
    (s.portByte b).link.ackOwed = s.link.ackOwed ∧
    (s.portByte b).link.busyAckOwed = s.link.busyAckOwed ∧
    (s.portByte b).link.ownBusy = s.link.ownBusy ∧
    (s.portByte b).link.rejectOwed = s.link.rejectOwed ∧
    (s.portByte b).link.clearOwed = s.link.clearOwed ∧
    (s.portByte b).link.reqDue = s.link.reqDue ∧
    (s.portByte b).link.confSetup = s.link.confSetup ∧
    (s.portByte b).link.confDue = s.link.confDue ∧
    (s.portByte b).link.peerOffer = s.link.peerOffer ∧
    (s.portByte b).link.byFarEnd = s.link.byFarEnd ∧
    (s.portByte b).link.policy = s.link.policy ∧
    (s.portByte b).link.offer = s.link.offer ∧
    (s.portByte b).link.inbound = s.link.inbound ∧
    (s.portByte b).link.tx = s.link.tx ∧
    (s.portByte b).fax.role = s.fax.role ∧
    (s.portByte b).fax.place = s.fax.place ∧
    (s.portByte b).fax.phase = s.fax.phase ∧
    (s.portByte b).fax.rung = s.fax.rung ∧
    (s.portByte b).fax.floor = s.fax.floor ∧
    (s.portByte b).fax.ceiling = s.fax.ceiling ∧
    (s.portByte b).fax.resolution = s.fax.resolution ∧
    (s.portByte b).fax.scanMs = s.fax.scanMs ∧
    (s.portByte b).fax.page = s.fax.page ∧
    (s.portByte b).fax.attempts = s.fax.attempts ∧
    (s.portByte b).fax.accepted = s.fax.accepted ∧
    (s.portByte b).fax.linkedId = s.fax.linkedId ∧
    (s.portByte b).fax.pageStart = s.fax.pageStart ∧
    (s.portByte b).fax.windows = s.fax.windows ∧
    (s.portByte b).fax.badWindows = s.fax.badWindows ∧
    (s.portByte b).fax.overflow = s.fax.overflow ∧
    (s.portByte b).fax.retries = s.fax.retries ∧
    (s.portByte b).fax.lastFrame = s.fax.lastFrame ∧
    (s.portByte b).fax.more = s.fax.more ∧
    (s.portByte b).fax.expect = s.fax.expect ∧
    (s.portByte b).fax.checkSending = s.fax.checkSending ∧
    (s.portByte b).fax.checkOverloaded = s.fax.checkOverloaded ∧
    (s.portByte b).fax.dataBegun = s.fax.dataBegun ∧
    (s.portByte b).fax.inPair = s.fax.inPair ∧
    (s.portByte b).fax.lineLength = s.fax.lineLength ∧
    (s.portByte b).fax.position = s.fax.position ∧
    (s.portByte b).fax.markSent = s.fax.markSent ∧
    (s.portByte b).fax.markInQueue = s.fax.markInQueue ∧
    (s.portByte b).fax.endAfter = s.fax.endAfter ∧
    (s.portByte b).fax.unsent = s.fax.unsent ∧
    (s.portByte b).fax.answered = s.fax.answered ∧
    (s.portByte b).voice = s.voice ∧
    (s.portByte b).store = s.store ∧
    (s.portByte b).ports = s.ports ∧
    (s.portByte b).sys.ready = s.sys.ready ∧
    (s.portByte b).sys.rts = s.sys.rts ∧
    (s.portByte b).sys.rate = s.sys.rate ∧
    (s.portByte b).sys.notice = s.sys.notice ∧
    (s.portByte b).pan = s.pan := by
  unfold State.portByte; try dsimp only
  repeat' split
  all_goals simp

@[simp] theorem State.markLeaves_keeps (s : State) :
    (s.markLeaves).ccu = s.ccu ∧
    (s.markLeaves).lif = s.lif ∧
    (s.markLeaves).timers.e0 = s.timers.e0 ∧
    (s.markLeaves).timers.e1 = s.timers.e1 ∧
    (s.markLeaves).timers.e2 = s.timers.e2 ∧
    (s.markLeaves).timers.e3 = s.timers.e3 ∧
    (s.markLeaves).timers.e4 = s.timers.e4 ∧
    (s.markLeaves).timers.e6 = s.timers.e6 ∧
    (s.markLeaves).timers.e7 = s.timers.e7 ∧
    (s.markLeaves).tone = s.tone ∧
    (s.markLeaves).rau = s.rau ∧
    (s.markLeaves).level = s.level ∧
    (s.markLeaves).pump.mode = s.pump.mode ∧
    (s.markLeaves).pump.role = s.pump.role ∧
    (s.markLeaves).pump.phase = s.pump.phase ∧
    (s.markLeaves).pump.localCeiling = s.pump.localCeiling ∧
    (s.markLeaves).pump.localFloor = s.pump.localFloor ∧
    (s.markLeaves).pump.peerMax = s.pump.peerMax ∧
    (s.markLeaves).pump.negCeiling = s.pump.negCeiling ∧
    (s.markLeaves).pump.negFloor = s.pump.negFloor ∧
    (s.markLeaves).pump.below = s.pump.below ∧
    (s.markLeaves).pump.above = s.pump.above ∧
    (s.markLeaves).pump.retrains = s.pump.retrains ∧
    (s.markLeaves).pump.linkStarted = s.pump.linkStarted ∧
    (s.markLeaves).pump.request = s.pump.request ∧
    (s.markLeaves).pump.answerTone = s.pump.answerTone ∧
    (s.markLeaves).pump.heardMax = s.pump.heardMax ∧
    (s.markLeaves).pump.heardAck = s.pump.heardAck ∧
    (s.markLeaves).pump.stage = s.pump.stage ∧
    (s.markLeaves).pump.ownAccept = s.pump.ownAccept ∧
    (s.markLeaves).pump.farAccept = s.pump.farAccept ∧
    (s.markLeaves).pump.confirmed = s.pump.confirmed ∧
    (s.markLeaves).link.mode = s.link.mode ∧
    (s.markLeaves).link.paused = s.link.paused ∧
    (s.markLeaves).link.attempts = s.link.attempts ∧
    (s.markLeaves).link.windowSize = s.link.windowSize ∧
    (s.markLeaves).link.payloadSize = s.link.payloadSize ∧
    (s.markLeaves).link.vs = s.link.vs ∧
    (s.markLeaves).link.window = s.link.window ∧
    (s.markLeaves).link.resendMark = s.link.resendMark ∧
    (s.markLeaves).link.retries = s.link.retries ∧
    (s.markLeaves).link.peerBusy = s.link.peerBusy ∧
    (s.markLeaves).link.vr = s.link.vr ∧
    (s.markLeaves).link.rejectFlag = s.link.rejectFlag ∧
    (s.markLeaves).link.ackOwed = s.link.ackOwed ∧
    (s.markLeaves).link.busyAckOwed = s.link.busyAckOwed ∧
    (s.markLeaves).link.ownBusy = s.link.ownBusy ∧
    (s.markLeaves).link.rejectOwed = s.link.rejectOwed ∧
    (s.markLeaves).link.clearOwed = s.link.clearOwed ∧
    (s.markLeaves).link.reqDue = s.link.reqDue ∧
    (s.markLeaves).link.confDue = s.link.confDue ∧
    (s.markLeaves).link.confSetup = s.link.confSetup ∧
    (s.markLeaves).link.peerOffer = s.link.peerOffer ∧
    (s.markLeaves).link.byFarEnd = s.link.byFarEnd ∧
    (s.markLeaves).link.policy = s.link.policy ∧
    (s.markLeaves).link.offer = s.link.offer ∧
    (s.markLeaves).link.stats = s.link.stats ∧
    (s.markLeaves).link.outbound = s.link.outbound ∧
    (s.markLeaves).link.inbound = s.link.inbound ∧
    (s.markLeaves).fax.role = s.fax.role ∧
    (s.markLeaves).fax.place = s.fax.place ∧
    (s.markLeaves).fax.phase = s.fax.phase ∧
    (s.markLeaves).fax.rung = s.fax.rung ∧
    (s.markLeaves).fax.floor = s.fax.floor ∧
    (s.markLeaves).fax.ceiling = s.fax.ceiling ∧
    (s.markLeaves).fax.resolution = s.fax.resolution ∧
    (s.markLeaves).fax.scanMs = s.fax.scanMs ∧
    (s.markLeaves).fax.page = s.fax.page ∧
    (s.markLeaves).fax.attempts = s.fax.attempts ∧
    (s.markLeaves).fax.accepted = s.fax.accepted ∧
    (s.markLeaves).fax.linkedId = s.fax.linkedId ∧
    (s.markLeaves).fax.pageStart = s.fax.pageStart ∧
    (s.markLeaves).fax.windows = s.fax.windows ∧
    (s.markLeaves).fax.badWindows = s.fax.badWindows ∧
    (s.markLeaves).fax.overflow = s.fax.overflow ∧
    (s.markLeaves).fax.retries = s.fax.retries ∧
    (s.markLeaves).fax.lastFrame = s.fax.lastFrame ∧
    (s.markLeaves).fax.more = s.fax.more ∧
    (s.markLeaves).fax.expect = s.fax.expect ∧
    (s.markLeaves).fax.checkSending = s.fax.checkSending ∧
    (s.markLeaves).fax.checkOverloaded = s.fax.checkOverloaded ∧
    (s.markLeaves).fax.dataBegun = s.fax.dataBegun ∧
    (s.markLeaves).fax.inPair = s.fax.inPair ∧
    (s.markLeaves).fax.lineLength = s.fax.lineLength ∧
    (s.markLeaves).fax.position = s.fax.position ∧
    (s.markLeaves).fax.pageFromPort = s.fax.pageFromPort ∧
    (s.markLeaves).fax.markSent = s.fax.markSent ∧
    (s.markLeaves).fax.endAfter = s.fax.endAfter ∧
    (s.markLeaves).fax.unsent = s.fax.unsent ∧
    (s.markLeaves).fax.answered = s.fax.answered ∧
    (s.markLeaves).voice = s.voice ∧
    (s.markLeaves).store = s.store ∧
    (s.markLeaves).ports = s.ports ∧
    (s.markLeaves).sys.ready = s.sys.ready ∧
    (s.markLeaves).sys.rts = s.sys.rts ∧
    (s.markLeaves).sys.rate = s.sys.rate ∧
    (s.markLeaves).sys.notice = s.sys.notice ∧
    (s.markLeaves).sys.escape = s.sys.escape ∧
    (s.markLeaves).pan = s.pan := by
  unfold State.markLeaves; try dsimp only
  repeat' split
  all_goals simp

@[simp] theorem State.inboundLeaves_keeps (s : State) :
    (s.inboundLeaves).ccu = s.ccu ∧
    (s.inboundLeaves).lif = s.lif ∧
    (s.inboundLeaves).timers.e0 = s.timers.e0 ∧
    (s.inboundLeaves).timers.e1 = s.timers.e1 ∧
    (s.inboundLeaves).timers.e2 = s.timers.e2 ∧
    (s.inboundLeaves).timers.e3 = s.timers.e3 ∧
    (s.inboundLeaves).timers.e4 = s.timers.e4 ∧
    (s.inboundLeaves).timers.e6 = s.timers.e6 ∧
    (s.inboundLeaves).timers.e7 = s.timers.e7 ∧
    (s.inboundLeaves).tone = s.tone ∧
    (s.inboundLeaves).rau = s.rau ∧
    (s.inboundLeaves).level = s.level ∧
    (s.inboundLeaves).pump.mode = s.pump.mode ∧
    (s.inboundLeaves).pump.role = s.pump.role ∧
    (s.inboundLeaves).pump.phase = s.pump.phase ∧
    (s.inboundLeaves).pump.localCeiling = s.pump.localCeiling ∧
    (s.inboundLeaves).pump.localFloor = s.pump.localFloor ∧
    (s.inboundLeaves).pump.peerMax = s.pump.peerMax ∧
    (s.inboundLeaves).pump.negCeiling = s.pump.negCeiling ∧
    (s.inboundLeaves).pump.negFloor = s.pump.negFloor ∧
    (s.inboundLeaves).pump.below = s.pump.below ∧
    (s.inboundLeaves).pump.above = s.pump.above ∧
    (s.inboundLeaves).pump.retrains = s.pump.retrains ∧
    (s.inboundLeaves).pump.linkStarted = s.pump.linkStarted ∧
    (s.inboundLeaves).pump.request = s.pump.request ∧
    (s.inboundLeaves).pump.answerTone = s.pump.answerTone ∧
    (s.inboundLeaves).pump.heardMax = s.pump.heardMax ∧
    (s.inboundLeaves).pump.heardAck = s.pump.heardAck ∧
    (s.inboundLeaves).pump.stage = s.pump.stage ∧
    (s.inboundLeaves).pump.ownAccept = s.pump.ownAccept ∧
    (s.inboundLeaves).pump.farAccept = s.pump.farAccept ∧
    (s.inboundLeaves).pump.confirmed = s.pump.confirmed ∧
    (s.inboundLeaves).fax.role = s.fax.role ∧
    (s.inboundLeaves).fax.place = s.fax.place ∧
    (s.inboundLeaves).fax.phase = s.fax.phase ∧
    (s.inboundLeaves).fax.rung = s.fax.rung ∧
    (s.inboundLeaves).fax.floor = s.fax.floor ∧
    (s.inboundLeaves).fax.ceiling = s.fax.ceiling ∧
    (s.inboundLeaves).fax.resolution = s.fax.resolution ∧
    (s.inboundLeaves).fax.scanMs = s.fax.scanMs ∧
    (s.inboundLeaves).fax.page = s.fax.page ∧
    (s.inboundLeaves).fax.attempts = s.fax.attempts ∧
    (s.inboundLeaves).fax.accepted = s.fax.accepted ∧
    (s.inboundLeaves).fax.linkedId = s.fax.linkedId ∧
    (s.inboundLeaves).fax.pageStart = s.fax.pageStart ∧
    (s.inboundLeaves).fax.windows = s.fax.windows ∧
    (s.inboundLeaves).fax.badWindows = s.fax.badWindows ∧
    (s.inboundLeaves).fax.overflow = s.fax.overflow ∧
    (s.inboundLeaves).fax.retries = s.fax.retries ∧
    (s.inboundLeaves).fax.lastFrame = s.fax.lastFrame ∧
    (s.inboundLeaves).fax.more = s.fax.more ∧
    (s.inboundLeaves).fax.expect = s.fax.expect ∧
    (s.inboundLeaves).fax.checkSending = s.fax.checkSending ∧
    (s.inboundLeaves).fax.checkOverloaded = s.fax.checkOverloaded ∧
    (s.inboundLeaves).fax.dataBegun = s.fax.dataBegun ∧
    (s.inboundLeaves).fax.inPair = s.fax.inPair ∧
    (s.inboundLeaves).fax.lineLength = s.fax.lineLength ∧
    (s.inboundLeaves).fax.position = s.fax.position ∧
    (s.inboundLeaves).fax.pageFromPort = s.fax.pageFromPort ∧
    (s.inboundLeaves).fax.markSent = s.fax.markSent ∧
    (s.inboundLeaves).fax.endAfter = s.fax.endAfter ∧
    (s.inboundLeaves).fax.unsent = s.fax.unsent ∧
    (s.inboundLeaves).fax.answered = s.fax.answered ∧
    (s.inboundLeaves).voice = s.voice ∧
    (s.inboundLeaves).store = s.store ∧
    (s.inboundLeaves).ports = s.ports ∧
    (s.inboundLeaves).sys.ready = s.sys.ready ∧
    (s.inboundLeaves).sys.rts = s.sys.rts ∧
    (s.inboundLeaves).sys.rate = s.sys.rate ∧
    (s.inboundLeaves).sys.notice = s.sys.notice ∧
    (s.inboundLeaves).sys.escape = s.sys.escape ∧
    (s.inboundLeaves).pan = s.pan := by
  unfold State.inboundLeaves; try dsimp only
  repeat' split
  all_goals simp

@[simp] theorem State.abandonEpisode_keeps (s : State) :
    (s.abandonEpisode).ccu = s.ccu ∧
    (s.abandonEpisode).lif = s.lif ∧
    (s.abandonEpisode).timers.e0 = s.timers.e0 ∧
    (s.abandonEpisode).timers.e2 = s.timers.e2 ∧
    (s.abandonEpisode).timers.e3 = s.timers.e3 ∧
    (s.abandonEpisode).timers.e4 = s.timers.e4 ∧
    (s.abandonEpisode).timers.e5 = s.timers.e5 ∧
    (s.abandonEpisode).timers.e6 = s.timers.e6 ∧
    (s.abandonEpisode).timers.e7 = s.timers.e7 ∧
    (s.abandonEpisode).tone = s.tone ∧
    (s.abandonEpisode).rau.episode.firstInProgress = s.rau.episode.firstInProgress ∧
    (s.abandonEpisode).rau.episode.inCycle = s.rau.episode.inCycle ∧
    (s.abandonEpisode).rau.episode.firstBursts = s.rau.episode.firstBursts ∧
    (s.abandonEpisode).rau.episode.pattern = s.rau.episode.pattern ∧
    (s.abandonEpisode).rau.episode.ringCount = s.rau.episode.ringCount ∧
    (s.abandonEpisode).rau.episode.startTime = s.rau.episode.startTime ∧
    (s.abandonEpisode).rau.episode.seconds = s.rau.episode.seconds ∧
    (s.abandonEpisode).rau.episode.threshold = s.rau.episode.threshold ∧
    (s.abandonEpisode).rau.caller.bytes = s.rau.caller.bytes ∧
    (s.abandonEpisode).rau.caller.length = s.rau.caller.length ∧
    (s.abandonEpisode).rau.caller.status = s.rau.caller.status ∧
    (s.abandonEpisode).rau.caller.number = s.rau.caller.number ∧
    (s.abandonEpisode).rau.caller.name = s.rau.caller.name ∧
    (s.abandonEpisode).rau.presence = s.rau.presence ∧
    (s.abandonEpisode).rau.discr = s.rau.discr ∧
    (s.abandonEpisode).level = s.level ∧
    (s.abandonEpisode).pump = s.pump ∧
    (s.abandonEpisode).link = s.link ∧
    (s.abandonEpisode).fax = s.fax ∧
    (s.abandonEpisode).voice = s.voice ∧
    (s.abandonEpisode).store = s.store ∧
    (s.abandonEpisode).ports = s.ports ∧
    (s.abandonEpisode).sys = s.sys ∧
    (s.abandonEpisode).pan = s.pan := by
  unfold State.abandonEpisode; try dsimp only
  repeat' split
  all_goals simp

@[simp] theorem State.ccuPowerLow_keeps (s : State) :
    (s.ccuPowerLow).ccu.call.number = s.ccu.call.number ∧
    (s.ccuPowerLow).ccu.call.direction = s.ccu.call.direction ∧
    (s.ccuPowerLow).ccu.call.holder = s.ccu.call.holder ∧
    (s.ccuPowerLow).ccu.call.job = s.ccu.call.job ∧
    (s.ccuPowerLow).ccu.call.phase = s.ccu.call.phase ∧
    (s.ccuPowerLow).ccu.call.dialList = s.ccu.call.dialList ∧
    (s.ccuPowerLow).ccu.call.farEndRinging = s.ccu.call.farEndRinging ∧
    (s.ccuPowerLow).ccu.call.callerStatus = s.ccu.call.callerStatus ∧
    (s.ccuPowerLow).ccu.call.callerNumber = s.ccu.call.callerNumber ∧
    (s.ccuPowerLow).ccu.call.callerName = s.ccu.call.callerName ∧
    (s.ccuPowerLow).ccu.call.ringPattern = s.ccu.call.ringPattern ∧
    (s.ccuPowerLow).ccu.call.ringCount = s.ccu.call.ringCount ∧
    (s.ccuPowerLow).ccu.call.startTime = s.ccu.call.startTime ∧
    (s.ccuPowerLow).ccu.call.rung = s.ccu.call.rung ∧
    (s.ccuPowerLow).ccu.call.lastQuality = s.ccu.call.lastQuality ∧
    (s.ccuPowerLow).ccu.call.seconds = s.ccu.call.seconds ∧
    (s.ccuPowerLow).ccu.dialler.cursor = s.ccu.dialler.cursor ∧
    (s.ccuPowerLow).ccu.dialler.breaksEnded = s.ccu.dialler.breaksEnded ∧
    (s.ccuPowerLow).ccu.dialler.lastMake = s.ccu.dialler.lastMake ∧
    (s.ccuPowerLow).ccu.lastNumber = s.ccu.lastNumber ∧
    (s.ccuPowerLow).ccu.blind = s.ccu.blind ∧
    (s.ccuPowerLow).lif.ringPresent = s.lif.ringPresent ∧
    (s.ccuPowerLow).lif.hangover = s.lif.hangover ∧
    (s.ccuPowerLow).lif.voltageBelow = s.lif.voltageBelow ∧
    (s.ccuPowerLow).lif.currentBelow = s.lif.currentBelow ∧
    (s.ccuPowerLow).lif.pickupLatch = s.lif.pickupLatch ∧
    (s.ccuPowerLow).timers.e7 = s.timers.e7 ∧
    (s.ccuPowerLow).rau.episode.firstInProgress = s.rau.episode.firstInProgress ∧
    (s.ccuPowerLow).rau.episode.inCycle = s.rau.episode.inCycle ∧
    (s.ccuPowerLow).rau.episode.firstBursts = s.rau.episode.firstBursts ∧
    (s.ccuPowerLow).rau.episode.pattern = s.rau.episode.pattern ∧
    (s.ccuPowerLow).rau.episode.ringCount = s.rau.episode.ringCount ∧
    (s.ccuPowerLow).rau.episode.startTime = s.rau.episode.startTime ∧
    (s.ccuPowerLow).rau.episode.seconds = s.rau.episode.seconds ∧
    (s.ccuPowerLow).rau.episode.threshold = s.rau.episode.threshold ∧
    (s.ccuPowerLow).rau.caller.bytes = s.rau.caller.bytes ∧
    (s.ccuPowerLow).rau.caller.length = s.rau.caller.length ∧
    (s.ccuPowerLow).rau.caller.status = s.rau.caller.status ∧
    (s.ccuPowerLow).rau.caller.number = s.rau.caller.number ∧
    (s.ccuPowerLow).rau.caller.name = s.rau.caller.name ∧
    (s.ccuPowerLow).rau.presence = s.rau.presence ∧
    (s.ccuPowerLow).fax.role = s.fax.role ∧
    (s.ccuPowerLow).fax.place = s.fax.place ∧
    (s.ccuPowerLow).fax.rung = s.fax.rung ∧
    (s.ccuPowerLow).fax.floor = s.fax.floor ∧
    (s.ccuPowerLow).fax.ceiling = s.fax.ceiling ∧
    (s.ccuPowerLow).fax.resolution = s.fax.resolution ∧
    (s.ccuPowerLow).fax.scanMs = s.fax.scanMs ∧
    (s.ccuPowerLow).fax.page = s.fax.page ∧
    (s.ccuPowerLow).fax.attempts = s.fax.attempts ∧
    (s.ccuPowerLow).fax.accepted = s.fax.accepted ∧
    (s.ccuPowerLow).fax.linkedId = s.fax.linkedId ∧
    (s.ccuPowerLow).fax.pageStart = s.fax.pageStart ∧
    (s.ccuPowerLow).fax.windows = s.fax.windows ∧
    (s.ccuPowerLow).fax.badWindows = s.fax.badWindows ∧
    (s.ccuPowerLow).fax.overflow = s.fax.overflow ∧
    (s.ccuPowerLow).fax.retries = s.fax.retries ∧
    (s.ccuPowerLow).fax.lastFrame = s.fax.lastFrame ∧
    (s.ccuPowerLow).fax.more = s.fax.more ∧
    (s.ccuPowerLow).fax.checkOverloaded = s.fax.checkOverloaded ∧
    (s.ccuPowerLow).fax.inPair = s.fax.inPair ∧
    (s.ccuPowerLow).fax.lineLength = s.fax.lineLength ∧
    (s.ccuPowerLow).fax.position = s.fax.position ∧
    (s.ccuPowerLow).fax.pageFromPort = s.fax.pageFromPort ∧
    (s.ccuPowerLow).fax.markSent = s.fax.markSent ∧
    (s.ccuPowerLow).fax.markInQueue = s.fax.markInQueue ∧
    (s.ccuPowerLow).ports.system.outgoing = s.ports.system.outgoing ∧
    (s.ccuPowerLow).ports.system.digits = s.ports.system.digits ∧
    (s.ccuPowerLow).ports.system.transfer = s.ports.system.transfer ∧
    (s.ccuPowerLow).ports.panel.outgoing = s.ports.panel.outgoing ∧
    (s.ccuPowerLow).ports.panel.digits = s.ports.panel.digits ∧
    (s.ccuPowerLow).ports.panel.transfer = s.ports.panel.transfer ∧
    (s.ccuPowerLow).sys.ready = s.sys.ready ∧
    (s.ccuPowerLow).sys.rts = s.sys.rts ∧
    (s.ccuPowerLow).sys.rate = s.sys.rate ∧
    (s.ccuPowerLow).sys.notice = s.sys.notice ∧
    (s.ccuPowerLow).sys.escape = s.sys.escape ∧
    (s.ccuPowerLow).pan = s.pan := by
  unfold State.ccuPowerLow; try dsimp only
  repeat' split
  all_goals simp

end Sys2Proof.Machine
end

