-- ==== Sys2Proof/Laws/Parts.lean ====
section
/-! SUPPORT. What the end of a step and the taking of a command leave, in the parts of the state that frames name. -/

namespace Sys2Proof.Machine

/-! ### Frames -/

/-- A state agrees with itself in every part. -/
theorem SameBut.refl (parts : List Part) (s : State) : SameBut parts s s := by
  intro x _ _
  cases x <;> simp [Part.Same]

/-- Frames compose. -/
theorem SameBut.trans {parts : List Part} {s t u : State} (h : SameBut parts s t) (h' : SameBut parts t u) :
    SameBut parts s u := by
  intro x hx hn
  have h1 := h x hx hn
  have h2 := h' x hx hn
  cases x <;> simp_all [Part.Same]

/-- A frame that names fewer parts says more. -/
theorem SameBut.mono {parts more : List Part} {s t : State} (h : SameBut parts s t) (hs : parts ⊆ more) :
    SameBut more s t :=
  fun x hx hn => h x (fun hm => hx (hs hm)) hn

/-! ### The end of a step (R181) -/

/-- At the end of a step only the System Port's controller and its notice frame can change. -/
theorem State.deliverSystem_eq (s : State) :
    ∃ c n, s.deliverSystem = { s with ports.system.notices := c, sys.notice := n } := by
  unfold State.deliverSystem
  repeat' split
  · exact ⟨_, _, rfl⟩
  · exact ⟨_, _, rfl⟩
  · exact ⟨_, _, rfl⟩

@[simp] theorem State.deliverSystem_ccu (s : State) : s.deliverSystem.ccu = s.ccu := by
  obtain ⟨c, n, h⟩ := s.deliverSystem_eq
  rw [h]

@[simp] theorem State.deliverSystem_lif (s : State) : s.deliverSystem.lif = s.lif := by
  obtain ⟨c, n, h⟩ := s.deliverSystem_eq
  rw [h]

@[simp] theorem State.deliverSystem_timers (s : State) : s.deliverSystem.timers = s.timers := by
  obtain ⟨c, n, h⟩ := s.deliverSystem_eq
  rw [h]

@[simp] theorem State.deliverSystem_calendar (s : State) : s.deliverSystem.calendar = s.calendar := by
  obtain ⟨c, n, h⟩ := s.deliverSystem_eq
  rw [h]

@[simp] theorem State.deliverSystem_tone (s : State) : s.deliverSystem.tone = s.tone := by
  obtain ⟨c, n, h⟩ := s.deliverSystem_eq
  rw [h]

@[simp] theorem State.deliverSystem_rau (s : State) : s.deliverSystem.rau = s.rau := by
  obtain ⟨c, n, h⟩ := s.deliverSystem_eq
  rw [h]

@[simp] theorem State.deliverSystem_level (s : State) : s.deliverSystem.level = s.level := by
  obtain ⟨c, n, h⟩ := s.deliverSystem_eq
  rw [h]

@[simp] theorem State.deliverSystem_pump (s : State) : s.deliverSystem.pump = s.pump := by
  obtain ⟨c, n, h⟩ := s.deliverSystem_eq
  rw [h]

@[simp] theorem State.deliverSystem_link (s : State) : s.deliverSystem.link = s.link := by
  obtain ⟨c, n, h⟩ := s.deliverSystem_eq
  rw [h]

@[simp] theorem State.deliverSystem_fax (s : State) : s.deliverSystem.fax = s.fax := by
  obtain ⟨c, n, h⟩ := s.deliverSystem_eq
  rw [h]

@[simp] theorem State.deliverSystem_voice (s : State) : s.deliverSystem.voice = s.voice := by
  obtain ⟨c, n, h⟩ := s.deliverSystem_eq
  rw [h]

@[simp] theorem State.deliverSystem_settings (s : State) : s.deliverSystem.settings = s.settings := by
  obtain ⟨c, n, h⟩ := s.deliverSystem_eq
  rw [h]

@[simp] theorem State.deliverSystem_store (s : State) : s.deliverSystem.store = s.store := by
  obtain ⟨c, n, h⟩ := s.deliverSystem_eq
  rw [h]

@[simp] theorem State.deliverSystem_pan (s : State) : s.deliverSystem.pan = s.pan := by
  obtain ⟨c, n, h⟩ := s.deliverSystem_eq
  rw [h]

@[simp] theorem State.deliverSystem_power (s : State) : s.deliverSystem.power = s.power := by
  obtain ⟨c, n, h⟩ := s.deliverSystem_eq
  rw [h]

@[simp] theorem State.deliverSystem_pending (s : State) : s.deliverSystem.pending = s.pending := by
  obtain ⟨c, n, h⟩ := s.deliverSystem_eq
  rw [h]

@[simp] theorem State.deliverSystem_sys_data (s : State) : s.deliverSystem.sys.data = s.sys.data := by
  obtain ⟨c, n, h⟩ := s.deliverSystem_eq
  rw [h]

@[simp] theorem State.deliverSystem_sys_entryDue (s : State) : s.deliverSystem.sys.entryDue = s.sys.entryDue := by
  obtain ⟨c, n, h⟩ := s.deliverSystem_eq
  rw [h]

@[simp] theorem State.deliverSystem_sys_goDataDue (s : State) : s.deliverSystem.sys.goDataDue = s.sys.goDataDue := by
  obtain ⟨c, n, h⟩ := s.deliverSystem_eq
  rw [h]

@[simp] theorem State.deliverSystem_sys_ready (s : State) : s.deliverSystem.sys.ready = s.sys.ready := by
  obtain ⟨c, n, h⟩ := s.deliverSystem_eq
  rw [h]

@[simp] theorem State.deliverSystem_sys_rts (s : State) : s.deliverSystem.sys.rts = s.sys.rts := by
  obtain ⟨c, n, h⟩ := s.deliverSystem_eq
  rw [h]

@[simp] theorem State.deliverSystem_sys_cts (s : State) : s.deliverSystem.sys.cts = s.sys.cts := by
  obtain ⟨c, n, h⟩ := s.deliverSystem_eq
  rw [h]

@[simp] theorem State.deliverSystem_sys_lastByte (s : State) : s.deliverSystem.sys.lastByte = s.sys.lastByte := by
  obtain ⟨c, n, h⟩ := s.deliverSystem_eq
  rw [h]

@[simp] theorem State.deliverSystem_sys_rate (s : State) : s.deliverSystem.sys.rate = s.sys.rate := by
  obtain ⟨c, n, h⟩ := s.deliverSystem_eq
  rw [h]

@[simp] theorem State.deliverSystem_sys_escape (s : State) : s.deliverSystem.sys.escape = s.sys.escape := by
  obtain ⟨c, n, h⟩ := s.deliverSystem_eq
  rw [h]

@[simp] theorem State.deliverSystem_system_outgoing (s : State) : s.deliverSystem.ports.system.outgoing = s.ports.system.outgoing := by
  obtain ⟨c, n, h⟩ := s.deliverSystem_eq
  rw [h]

@[simp] theorem State.deliverSystem_system_digits (s : State) : s.deliverSystem.ports.system.digits = s.ports.system.digits := by
  obtain ⟨c, n, h⟩ := s.deliverSystem_eq
  rw [h]

@[simp] theorem State.deliverSystem_system_transfer (s : State) : s.deliverSystem.ports.system.transfer = s.ports.system.transfer := by
  obtain ⟨c, n, h⟩ := s.deliverSystem_eq
  rw [h]

@[simp] theorem State.deliverSystem_system_alerts (s : State) : s.deliverSystem.ports.system.alerts = s.ports.system.alerts := by
  obtain ⟨c, n, h⟩ := s.deliverSystem_eq
  rw [h]

@[simp] theorem State.deliverSystem_panel (s : State) : s.deliverSystem.ports.panel = s.ports.panel := by
  obtain ⟨c, n, h⟩ := s.deliverSystem_eq
  rw [h]
/-- The end of a step changes no part that frames look at. -/
theorem State.deliverSystem_same (s : State) : SameBut [] s s.deliverSystem := by
  obtain ⟨c, n, h⟩ := s.deliverSystem_eq
  intro x _ hn
  rw [h]
  cases x with
  | notices p => cases p <;> simp_all [Part.Same, State.port, PerPort.get]
  | outgoing p => cases p <;> rfl
  | digits p => cases p <;> rfl
  | transfer p => cases p <;> rfl
  | alerts p => cases p <;> rfl
  | _ => simp [Part.Same]

/-- A frame up to the end of the step. -/
theorem SameBut.finish {parts : List Part} {s t : State} (h : SameBut parts s t) : SameBut parts s t.deliverSystem :=
  h.trans (t.deliverSystem_same.mono (List.nil_subset _))

/-! ### Taking a command (R177, R178) -/

/-- A command that the port takes: its body's effect, and the reply that is then owed. -/
theorem command_taken {f : Frame} {code : Byte} {s : State} (h : s.Takes f code) (body : State → State × Reply) :
    command f code s body = .next ((body s).1.reply f.port code (body s).2).deliverSystem := by
  unfold command takeFrame Machine.finish
  obtain ⟨hears, free, powered, known, sized⟩ := h
  simp [hears, free, powered, known, sized]

/-- The reply stands last among what the port has to send. -/
theorem State.reply_answers {s t : State} {p : Port} {code : Byte} {r : Reply}
    (h : (t.port p).outgoing = (s.port p).outgoing) : Answered s (t.reply p code r).deliverSystem p code r.status r.results := by
  cases p <;> simp_all [Answered, State.reply, State.send, State.updPort, State.port, PerPort.get, PerPort.set]

/-- A reply changes nothing but what the port has to send. -/
theorem State.reply_same (s : State) (p : Port) (code : Byte) (r : Reply) :
    SameBut [.outgoing p] s (s.reply p code r) := by
  intro x hx _
  cases x with
  | notices q => cases p <;> cases q <;> rfl
  | outgoing q => cases p <;> cases q <;> simp_all [Part.Same] <;> rfl
  | digits q => cases p <;> cases q <;> rfl
  | transfer q => cases p <;> cases q <;> rfl
  | alerts q => cases p <;> cases q <;> rfl
  | memory => intro a; rfl
  | _ => simp [Part.Same]

/-! ### Occurrences (R180, R181) -/

@[simp] theorem SourceTable.get_set_self (t : SourceTable) (x : Source) (r : SourceRecord) : (t.set x r).get x = r := by
  cases x <;> rfl

theorem SourceTable.get_set_of_ne (t : SourceTable) {x y : Source} (r : SourceRecord) (h : y ≠ x) :
    (t.set x r).get y = t.get y := by
  cases x <;> cases y <;> first | rfl | exact absurd rfl h

/-- R180: a source is pending after its occurrence. -/
theorem SourceRecord.occur_pending (r : SourceRecord) : r.occur.pending = true := by
  unfold SourceRecord.occur; split <;> simp_all

/-- R180: an occurrence leaves what is pending, and what is being sent, as it is. -/
theorem State.Noticed.raiseAt {s : State} {p : Port} {x : Source} (h : s.Noticed p x) (q : Port) (y : Source) :
    (s.raiseAt q y).Noticed p x := by
  unfold State.Noticed at *
  rcases h with h | ⟨rfl, n, h⟩
  · left
    by_cases hy : x = y
    · subst hy
      cases p <;> cases q <;> simp_all [State.raiseAt, State.updPort, State.port, PerPort.get, PerPort.set, Controller.occur, SourceRecord.occur_pending]
    · cases p <;> cases q <;>
        simp_all [State.raiseAt, State.updPort, State.port, PerPort.get, PerPort.set, Controller.occur, SourceTable.get_set_of_ne]
  · right; exact ⟨rfl, n, by cases q <;> simpa [State.raiseAt, State.updPort] using h⟩

/-- R180: an occurrence at a port is noticed there. -/
theorem State.raiseAt_noticed (s : State) (p : Port) (x : Source) : (s.raiseAt p x).Noticed p x := by
  left
  cases p <;> simp [State.raiseAt, State.updPort, State.port, PerPort.get, PerPort.set, Controller.occur, SourceRecord.occur_pending]

/-- R180: an occurrence routed to both ports is noticed at each. -/
theorem State.raiseBoth_noticed (s : State) (x : Source) (p : Port) : (s.raiseBoth x).Noticed p x := by
  cases p
  · exact (s.raiseAt_noticed .system x).raiseAt .panel x
  · exact State.raiseAt_noticed _ _ _

/-- R180: an occurrence routed to the holder is noticed at the holder's port. -/
theorem State.raiseHolder_noticed {s : State} {p : Port} (h : s.holder = some p.party) (x : Source) :
    (s.raiseHolder x).Noticed p x := by
  unfold State.raiseHolder State.raiseParty
  rw [h]
  cases p <;> exact State.raiseAt_noticed _ _ _

/-- R181: what is noticed before the end of a step is noticed after it: pending still, or its notice is begun. -/
theorem State.Noticed.deliverSystem {s : State} {p : Port} {x : Source} (h : s.Noticed p x) : s.deliverSystem.Noticed p x := by
  unfold State.deliverSystem
  split
  · rename_i hb
    split
    · exact h
    · rename_i y hy
      rcases h with h | ⟨rfl, n, h⟩
      · cases p
        · by_cases hxy : x = y
          · subst hxy; exact .inr ⟨rfl, _, rfl⟩
          · left; simpa [State.port, PerPort.get, Controller.deliver, SourceTable.get_set_of_ne _ _ hxy] using h
        · left; simpa [State.port, PerPort.get] using h
      · simp [hb.2.2.2.2.1] at h
  · exact h

/-! ### The close of a window (R91, R92, R94, R95) -/

/-- R91, R92, R94: the close of a window leaves the Level Meter so. -/
theorem LevelMeter.closeWindow_closed (m : LevelMeter) (c : ClosingWindow) : m.Closed (m.closeWindow c) c := by
  unfold LevelMeter.closeWindow
  split <;> exact ⟨rfl, rfl, rfl, rfl, rfl, rfl, rfl⟩

/-- R95: a stop of the feed changes nothing of that. -/
theorem LevelMeter.Closed.stopFeed {m n : LevelMeter} {c : ClosingWindow} (h : m.Closed n c) : m.Closed n.stopFeed c := by
  obtain ⟨h1, h2, h3, h4⟩ := h
  unfold LevelMeter.stopFeed
  repeat' split
  all_goals exact ⟨h1, h2, h3, h4⟩

/-! ### Blocks and recordings -/

/-- A block whose samples no recording takes leaves the parts of a recording out of account. -/
theorem recordParts_eq_nil {s : State} {p : AudioPath} (h : ¬s.recordsFrom p) : recordParts s p = [] := by
  simp [recordParts, h]

/-- R85: line samples that close a block with no recording are such a measured block. -/
theorem State.LineBlockCloses.measured_block {s : State} {xs : List Sample} {bands : List (List Sample)} {b : ToneBlock}
    (h : s.LineBlockCloses xs bands b) : s.LineBlockMeasured xs bands b :=
  h.toLineBlockMeasured

/-! ### The automatic answerer's operation (R80 to R82) -/

/-- Where nothing runs, the stop leaves the directory and the free list. -/
theorem State.autoStopped_none {s : State} (h : s.voice.op.operation = none) :
    s.autoStopped = some (s.store.dir, s.store.free) := by
  simp [State.autoStopped, h]

/-- A beep holds nothing. -/
theorem State.autoStopped_tone {s : State} (h : s.voice.op.operation = some .tone) :
    s.autoStopped = some (s.store.dir, s.store.free) := by
  simp [State.autoStopped, h]

/-! ### Fields of a caller data message (R71) -/

@[simp] theorem fieldBytes_nil : fieldBytes [] = [] := rfl

@[simp] theorem fieldBytes_cons (f : Byte × List Byte) (fs : List (Byte × List Byte)) :
    fieldBytes (f :: fs) = f.1 :: BitVec.ofNat 8 f.2.length :: (f.2 ++ fieldBytes fs) := by
  simp [fieldBytes]

@[simp] theorem firstField_nil (tag : Byte) : firstField [] tag = none := rfl

theorem firstField_cons (f : Byte × List Byte) (fs : List (Byte × List Byte)) (tag : Byte) :
    firstField (f :: fs) tag = if f.1 = tag then some f.2 else firstField fs tag := by
  unfold firstField
  by_cases h : f.1 = tag <;> simp [h]

/-! ### The detectors at the end of a call (R49) -/

/-- R49: the stop of a job's engines drops what the detectors hold. -/
theorem State.stopEngines_detectors (s : State) :
    s.stopEngines.tone.faxCall = .zero ∧ s.stopEngines.tone.dataCall = .zero ∧ s.stopEngines.tone.answer = .zero ∧
      s.stopEngines.tone.dtmf = .zero ∧ s.stopEngines.tone.classifier = .zero :=
  ⟨rfl, rfl, rfl, rfl, rfl⟩

end Sys2Proof.Machine
end

