-- ==== Sys2Proof/Laws/PerInstr.lean ====
section
/-! SUPPORT. One lemma for each constructor of Instr: the code of a command frame is one that its port knows (R178,
12.1). -/

namespace Sys2Proof.Laws.Known

open Sys2Proof.Machine

/-- R178 and 12.1: the command code of a frame that carries this command is one of the codes that its port knows: on the Panel
Port each of them, on the System Port each but TAKE NOTICE. A row that is no command of a master carries no code. -/
def Statement (i : Instr) : Prop :=
  ∀ (f : Frame) (code : Byte), i.command = some (f, code) →
    portKnows .panel code = true ∧ portKnows .system code = !(code == 0x70#8)

/-- A command whose code is in the list. -/
theorem of_code {i : Instr} {f : Frame} {c : Byte} (h : i.command = some (f, c))
    (known : portKnows .panel c = true ∧ portKnows .system c = !(c == 0x70#8)) : Statement i := by
  intro f' c' h'
  rw [h] at h'
  cases h'
  exact known

/-- A row that is no command. -/
theorem of_none {i : Instr} (h : i.command = none) : Statement i := by
  intro f' c' h'
  rw [h] at h'
  cases h'

theorem dial (f : Frame) (job flags : Byte) (items : List Byte) : Statement (Instr.dial f job flags items) :=
  of_code rfl (by decide)
theorem answer (f : Frame) (job : Byte) : Statement (Instr.answer f job) := of_code rfl (by decide)
theorem takeCall (f : Frame) : Statement (Instr.takeCall f) := of_code rfl (by decide)
theorem hangUp (f : Frame) : Statement (Instr.hangUp f) := of_code rfl (by decide)
theorem connect (f : Frame) : Statement (Instr.connect f) := of_code rfl (by decide)
theorem sendDigits (f : Frame) (symbols : List Byte) : Statement (Instr.sendDigits f symbols) :=
  of_code rfl (by decide)
theorem beep (f : Frame) (frequency duration : U16) : Statement (Instr.beep f frequency duration) :=
  of_code rfl (by decide)
theorem readCall (f : Frame) : Statement (Instr.readCall f) := of_code rfl (by decide)
theorem readHistory (f : Frame) (first count : Byte) : Statement (Instr.readHistory f first count) :=
  of_code rfl (by decide)
theorem readLevels (f : Frame) : Statement (Instr.readLevels f) := of_code rfl (by decide)
theorem readLinkStats (f : Frame) : Statement (Instr.readLinkStats f) := of_code rfl (by decide)
theorem readTimers (f : Frame) : Statement (Instr.readTimers f) := of_code rfl (by decide)
theorem readDigits (f : Frame) (count : Byte) : Statement (Instr.readDigits f count) :=
  of_code rfl (by decide)
theorem readClock (f : Frame) : Statement (Instr.readClock f) := of_code rfl (by decide)
theorem setClock (f : Frame) (day hour minute second : Byte) :
    Statement (Instr.setClock f day hour minute second) :=
  of_code rfl (by decide)
theorem setSetting (f : Frame) (id : Byte) (value : List Byte) : Statement (Instr.setSetting f id value) :=
  of_code rfl (by decide)
theorem readSetting (f : Frame) (id : Byte) : Statement (Instr.readSetting f id) := of_code rfl (by decide)
theorem play (f : Frame) (id : Byte) (start : PlayStart) (endpoint stopOnDigit : Byte) :
    Statement (Instr.play f id start endpoint stopOnDigit) :=
  of_code rfl (by decide)
theorem record (f : Frame) (kind slot endpoint vox : Byte) (seconds : U16) :
    Statement (Instr.record f kind slot endpoint vox seconds) :=
  of_code rfl (by decide)
theorem pause (f : Frame) : Statement (Instr.pause f) := of_code rfl (by decide)
theorem resume (f : Frame) : Statement (Instr.resume f) := of_code rfl (by decide)
theorem stop (f : Frame) : Statement (Instr.stop f) := of_code rfl (by decide)
theorem list (f : Frame) (first count : Byte) : Statement (Instr.list f first count) :=
  of_code rfl (by decide)
theorem readEntry (f : Frame) (id : Byte) : Statement (Instr.readEntry f id) := of_code rfl (by decide)
theorem delete (f : Frame) (id : Byte) : Statement (Instr.delete f id) := of_code rfl (by decide)
theorem markHeard (f : Frame) (id : Byte) : Statement (Instr.markHeard f id) := of_code rfl (by decide)
theorem format (f : Frame) : Statement (Instr.format f) := of_code rfl (by decide)
theorem openTransferRead (f : Frame) (head : TransferHead) (offset count : U32) :
    Statement (Instr.openTransferRead f head offset count) :=
  of_code rfl (by decide)
theorem openTransferWrite (f : Frame) (head : TransferHead) (slot : Byte) :
    Statement (Instr.openTransferWrite f head slot) :=
  of_code rfl (by decide)
theorem readChunk (f : Frame) (count : Byte) : Statement (Instr.readChunk f count) := of_code rfl (by decide)
theorem writeChunk (f : Frame) (bytes : List Byte) : Statement (Instr.writeChunk f bytes) :=
  of_code rfl (by decide)
theorem closeTransfer (f : Frame) : Statement (Instr.closeTransfer f) := of_code rfl (by decide)
theorem abort (f : Frame) : Statement (Instr.abort f) := of_code rfl (by decide)
theorem faxNext (f : Frame) (choice : Byte) : Statement (Instr.faxNext f choice) := of_code rfl (by decide)
theorem faxNextFromStore (f : Frame) (id : Byte) : Statement (Instr.faxNextFromStore f id) :=
  of_code rfl (by decide)
theorem takeNotice (f : Frame) : Statement (Instr.takeNotice f) := of_code rfl (by decide)
theorem noticeDone (f : Frame) : Statement (Instr.noticeDone f) := of_code rfl (by decide)
theorem clearNotice (f : Frame) (source : Byte) : Statement (Instr.clearNotice f source) :=
  of_code rfl (by decide)
theorem mask (f : Frame) (entries : List (Byte × Byte)) : Statement (Instr.mask f entries) :=
  of_code rfl (by decide)
theorem goData (f : Frame) : Statement (Instr.goData f) := of_code rfl (by decide)
theorem portReset (f : Frame) : Statement (Instr.portReset f) := of_code rfl (by decide)
theorem badFrame (p : Port) (bytes : List Byte) : Statement (Instr.badFrame p bytes) := of_none rfl
theorem frameWhileReplyOwed (p : Port) (code : Byte) : Statement (Instr.frameWhileReplyOwed p code) :=
  of_none rfl
theorem unknownCommand (p : Port) (code : Byte) : Statement (Instr.unknownCommand p code) := of_none rfl
theorem replySent : Statement (Instr.replySent) := of_none rfl
theorem panelReadPeriod (clocks : Nat) : Statement (Instr.panelReadPeriod clocks) := of_none rfl
theorem noticeFrameSent : Statement (Instr.noticeFrameSent) := of_none rfl
theorem dataStateEntry : Statement (Instr.dataStateEntry) := of_none rfl
theorem portDataByteReceived (b : Byte) : Statement (Instr.portDataByteReceived b) := of_none rfl
theorem inboundByteSent : Statement (Instr.inboundByteSent) := of_none rfl
theorem readyDeasserted : Statement (Instr.readyDeasserted) := of_none rfl
theorem readyAsserted : Statement (Instr.readyAsserted) := of_none rfl
theorem rtsDeasserted : Statement (Instr.rtsDeasserted) := of_none rfl
theorem rtsAsserted : Statement (Instr.rtsAsserted) := of_none rfl
theorem deviceReset (dram : DramSize) (rate : PortRate) : Statement (Instr.deviceReset dram rate) :=
  of_none rfl
theorem powerLow : Statement (Instr.powerLow) := of_none rfl
theorem timerTick : Statement (Instr.timerTick) := of_none rfl
theorem secondEvent : Statement (Instr.secondEvent) := of_none rfl
theorem t0AEvent : Statement (Instr.t0AEvent) := of_none rfl
theorem t0BEvent : Statement (Instr.t0BEvent) := of_none rfl
theorem settleExpiry : Statement (Instr.settleExpiry) := of_none rfl
theorem dialToneWaitExpiry : Statement (Instr.dialToneWaitExpiry) := of_none rfl
theorem pauseItemExpiry : Statement (Instr.pauseItemExpiry) := of_none rfl
theorem noAnswerExpiry : Statement (Instr.noAnswerExpiry) := of_none rfl
theorem guardExpiry : Statement (Instr.guardExpiry) := of_none rfl
theorem lineVoltageSenseChange (below : Bool) : Statement (Instr.lineVoltageSenseChange below) := of_none rfl
theorem lineInUseRunExpiry : Statement (Instr.lineInUseRunExpiry) := of_none rfl
theorem loopCurrentSenseChange (below : Bool) : Statement (Instr.loopCurrentSenseChange below) := of_none rfl
theorem extensionPickup : Statement (Instr.extensionPickup) := of_none rfl
theorem ringDetectorEdge : Statement (Instr.ringDetectorEdge) := of_none rfl
theorem presenceHangoverExpiry : Statement (Instr.presenceHangoverExpiry) := of_none rfl
theorem qualifyDeadline : Statement (Instr.qualifyDeadline) := of_none rfl
theorem windowOpen : Statement (Instr.windowOpen) := of_none rfl
theorem cycleEnd : Statement (Instr.cycleEnd) := of_none rfl
theorem windowClose : Statement (Instr.windowClose) := of_none rfl
theorem episodeEnd : Statement (Instr.episodeEnd) := of_none rfl
theorem callerDataByte (b : Byte) : Statement (Instr.callerDataByte b) := of_none rfl
theorem callerByteFramingError : Statement (Instr.callerByteFramingError) := of_none rfl
theorem blockEvent (path : AudioPath) (samples : List Sample) (bands : List (List Sample)) :
    Statement (Instr.blockEvent path samples bands) :=
  of_none rfl
theorem autoBeepEnd : Statement (Instr.autoBeepEnd) := of_none rfl
theorem promptBeepEnd : Statement (Instr.promptBeepEnd) := of_none rfl
theorem playEnd : Statement (Instr.playEnd) := of_none rfl
theorem voxExpiry : Statement (Instr.voxExpiry) := of_none rfl
theorem maxLengthReached : Statement (Instr.maxLengthReached) := of_none rfl
theorem remoteInactivityExpiry : Statement (Instr.remoteInactivityExpiry) := of_none rfl
theorem transferFifoFill (p : Port) : Statement (Instr.transferFifoFill p) := of_none rfl
theorem decisionError (e : U16) : Statement (Instr.decisionError e) := of_none rfl
theorem qualityWindowClose : Statement (Instr.qualityWindowClose) := of_none rfl
theorem answerToneEnd : Statement (Instr.answerToneEnd) := of_none rfl
theorem handshakeSignalReceived (signal : HandshakeSignal) : Statement (Instr.handshakeSignalReceived signal) :=
  of_none rfl
theorem handshakeTimeout : Statement (Instr.handshakeTimeout) := of_none rfl
theorem trainingSymbolsEnd : Statement (Instr.trainingSymbolsEnd) := of_none rfl
theorem farEndVerdictReceived (accept : Bool) : Statement (Instr.farEndVerdictReceived accept) := of_none rfl
theorem verdictExchangeEnd : Statement (Instr.verdictExchangeEnd) := of_none rfl
theorem farEndRateRequest (rung : Byte) : Statement (Instr.farEndRateRequest rung) := of_none rfl
theorem farEndRetrainRequest : Statement (Instr.farEndRetrainRequest) := of_none rfl
theorem rateConfirmReceived : Statement (Instr.rateConfirmReceived) := of_none rfl
theorem resyncEnd : Statement (Instr.resyncEnd) := of_none rfl
theorem rateConfirmTimeout : Statement (Instr.rateConfirmTimeout) := of_none rfl
theorem retrainRequestSent : Statement (Instr.retrainRequestSent) := of_none rfl
theorem retrainStableExpiry : Statement (Instr.retrainStableExpiry) := of_none rfl
theorem carrierLossExpiry : Statement (Instr.carrierLossExpiry) := of_none rfl
theorem linkReqTimerExpiry : Statement (Instr.linkReqTimerExpiry) := of_none rfl
theorem linkReqReceived (window payload : Byte) : Statement (Instr.linkReqReceived window payload) :=
  of_none rfl
theorem linkConfReceived (window payload : Byte) : Statement (Instr.linkConfReceived window payload) :=
  of_none rfl
theorem linkConfSent : Statement (Instr.linkConfSent) := of_none rfl
theorem invalidLinkFrame (run : List Byte) : Statement (Instr.invalidLinkFrame run) := of_none rfl
theorem dataFrameReceived (seq ack : BitVec 4) (payload : List Byte) :
    Statement (Instr.dataFrameReceived seq ack payload) :=
  of_none rfl
theorem ackReceived (ack : BitVec 4) (busy : Bool) : Statement (Instr.ackReceived ack busy) := of_none rfl
theorem rejectReceived (expected : BitVec 4) : Statement (Instr.rejectReceived expected) := of_none rfl
theorem clearReceived : Statement (Instr.clearReceived) := of_none rfl
theorem transmitterReady : Statement (Instr.transmitterReady) := of_none rfl
theorem clearReplySent : Statement (Instr.clearReplySent) := of_none rfl
theorem linkTimerExpiry : Statement (Instr.linkTimerExpiry) := of_none rfl
theorem clearingWaitExpiry : Statement (Instr.clearingWaitExpiry) := of_none rfl
theorem directByteReceived (b : Byte) : Statement (Instr.directByteReceived b) := of_none rfl
theorem escapeGuardExpiry : Statement (Instr.escapeGuardExpiry) := of_none rfl
theorem faxInvalidControlFrame (run : List Byte) : Statement (Instr.faxInvalidControlFrame run) := of_none rfl
theorem capsReceived (maxRung resolutions scanMs : Byte) :
    Statement (Instr.capsReceived maxRung resolutions scanMs) :=
  of_none rfl
theorem setReceived (rung resolution scanMs : Byte) : Statement (Instr.setReceived rung resolution scanMs) :=
  of_none rfl
theorem faxCheckSent : Statement (Instr.faxCheckSent) := of_none rfl
theorem faxCheckEnd : Statement (Instr.faxCheckEnd) := of_none rfl
theorem checkOkReceived : Statement (Instr.checkOkReceived) := of_none rfl
theorem checkFailReceived : Statement (Instr.checkFailReceived) := of_none rfl
theorem pageDataStart : Statement (Instr.pageDataStart) := of_none rfl
theorem faxPageByteReceived (b : Byte) : Statement (Instr.faxPageByteReceived b) := of_none rfl
theorem faxPageByteSent : Statement (Instr.faxPageByteSent) := of_none rfl
theorem faxPageStallExpiry : Statement (Instr.faxPageStallExpiry) := of_none rfl
theorem faxNextDecisionExpiry : Statement (Instr.faxNextDecisionExpiry) := of_none rfl
theorem faxControlReplyExpiry : Statement (Instr.faxControlReplyExpiry) := of_none rfl
theorem pageEndReceived (more : Byte) : Statement (Instr.pageEndReceived more) := of_none rfl
theorem pageOkReceived : Statement (Instr.pageOkReceived) := of_none rfl
theorem pageBadReceived : Statement (Instr.pageBadReceived) := of_none rfl
theorem refuseReceived : Statement (Instr.refuseReceived) := of_none rfl
theorem doneReceived : Statement (Instr.doneReceived) := of_none rfl
theorem faxControlFrameSent : Statement (Instr.faxControlFrameSent) := of_none rfl
theorem pickupSuspensionEnd : Statement (Instr.pickupSuspensionEnd) := of_none rfl
theorem recordingGranuleNeeded : Statement (Instr.recordingGranuleNeeded) := of_none rfl

end Sys2Proof.Laws.Known
end

