-- ==== Sys2Proof/WellFormed.lean ====
section
/-! DEFINITION. Which commands can arrive: what a frame can hold (R177), what a block of samples can bring (R85), and what
the line's framing lets through (R186, R187). A meaning does not ask for it: every command is taken in every state. -/

namespace Sys2Proof

/-- R177: the parameters of a frame of at most 255 bytes. -/
abbrev paramMax : Nat := 250

/-- R85: samples that reach at most one block boundary, with the twelve band signals beside line samples and none beside
microphone samples. -/
def samplesOk (path : AudioPath) (samples : List Sample) (bands : List (List Sample)) : Bool :=
  decide (samples.length ≤ 128) &&
    match path with
    | .line => decide (bands.length = 12) && bands.all (fun b => decide (b.length = samples.length))
    | .mic => bands.isEmpty

/-- R186: a run between two flags that is checked as a frame. -/
def runOk (run : List Byte) : Bool := decide (3 ≤ run.length)

/-- The command can arrive. -/
def Instr.wellFormed : Instr → Bool
  | .dial _ _ _ items => decide (items.length + 3 ≤ paramMax)
  | .sendDigits _ symbols => decide (symbols.length + 1 ≤ paramMax)
  | .setSetting _ _ value => decide (value.length + 1 ≤ paramMax)
  | .writeChunk _ bytes => decide (bytes.length + 1 ≤ paramMax)
  | .mask _ entries => decide (2 * entries.length + 1 ≤ paramMax)
  | .badFrame _ bytes => decide (1 ≤ bytes.length)
  | .blockEvent path samples bands => samplesOk path samples bands
  | .dataFrameReceived _ _ payload => decide (payload.length ≤ 255)
  | .invalidLinkFrame run => runOk run
  | .faxInvalidControlFrame run => runOk run
  | .answer _ _ => true
  | .takeCall _ => true
  | .hangUp _ => true
  | .connect _ => true
  | .beep _ _ _ => true
  | .readCall _ => true
  | .readHistory _ _ _ => true
  | .readLevels _ => true
  | .readLinkStats _ => true
  | .readTimers _ => true
  | .readDigits _ _ => true
  | .readClock _ => true
  | .setClock _ _ _ _ _ => true
  | .readSetting _ _ => true
  | .play _ _ _ _ _ => true
  | .record _ _ _ _ _ _ => true
  | .pause _ => true
  | .resume _ => true
  | .stop _ => true
  | .list _ _ _ => true
  | .readEntry _ _ => true
  | .delete _ _ => true
  | .markHeard _ _ => true
  | .format _ => true
  | .openTransferRead _ head _ _ => decide (head.direction = 0#8)
  | .openTransferWrite _ head _ => decide (head.direction = 1#8)
  | .readChunk _ _ => true
  | .closeTransfer _ => true
  | .abort _ => true
  | .faxNext _ _ => true
  | .faxNextFromStore _ _ => true
  | .takeNotice _ => true
  | .noticeDone _ => true
  | .clearNotice _ _ => true
  | .goData _ => true
  | .portReset _ => true
  | .frameWhileReplyOwed _ _ => true
  | .unknownCommand _ _ => true
  | .replySent => true
  | .panelReadPeriod _ => true
  | .noticeFrameSent => true
  | .dataStateEntry => true
  | .portDataByteReceived _ => true
  | .inboundByteSent => true
  | .readyDeasserted => true
  | .readyAsserted => true
  | .rtsDeasserted => true
  | .rtsAsserted => true
  | .deviceReset _ _ => true
  | .powerLow => true
  | .timerTick => true
  | .secondEvent => true
  | .t0AEvent => true
  | .t0BEvent => true
  | .settleExpiry => true
  | .dialToneWaitExpiry => true
  | .pauseItemExpiry => true
  | .noAnswerExpiry => true
  | .guardExpiry => true
  | .lineVoltageSenseChange _ => true
  | .lineInUseRunExpiry => true
  | .loopCurrentSenseChange _ => true
  | .extensionPickup => true
  | .ringDetectorEdge => true
  | .presenceHangoverExpiry => true
  | .qualifyDeadline => true
  | .windowOpen => true
  | .cycleEnd => true
  | .windowClose => true
  | .episodeEnd => true
  | .callerDataByte _ => true
  | .callerByteFramingError => true
  | .autoBeepEnd => true
  | .promptBeepEnd => true
  | .playEnd => true
  | .voxExpiry => true
  | .maxLengthReached => true
  | .remoteInactivityExpiry => true
  | .transferFifoFill _ => true
  | .decisionError _ => true
  | .qualityWindowClose => true
  | .answerToneEnd => true
  | .handshakeSignalReceived _ => true
  | .handshakeTimeout => true
  | .trainingSymbolsEnd => true
  | .farEndVerdictReceived _ => true
  | .verdictExchangeEnd => true
  | .farEndRateRequest _ => true
  | .farEndRetrainRequest => true
  | .rateConfirmReceived => true
  | .resyncEnd => true
  | .rateConfirmTimeout => true
  | .retrainRequestSent => true
  | .retrainStableExpiry => true
  | .carrierLossExpiry => true
  | .linkReqTimerExpiry => true
  | .linkReqReceived _ _ => true
  | .linkConfReceived _ _ => true
  | .linkConfSent => true
  | .ackReceived _ _ => true
  | .rejectReceived _ => true
  | .clearReceived => true
  | .transmitterReady => true
  | .clearReplySent => true
  | .linkTimerExpiry => true
  | .clearingWaitExpiry => true
  | .directByteReceived _ => true
  | .escapeGuardExpiry => true
  | .capsReceived _ _ _ => true
  | .setReceived _ _ _ => true
  | .faxCheckSent => true
  | .faxCheckEnd => true
  | .checkOkReceived => true
  | .checkFailReceived => true
  | .pageDataStart => true
  | .faxPageByteReceived _ => true
  | .faxPageByteSent => true
  | .faxPageStallExpiry => true
  | .faxNextDecisionExpiry => true
  | .faxControlReplyExpiry => true
  | .pageEndReceived _ => true
  | .pageOkReceived => true
  | .pageBadReceived => true
  | .refuseReceived => true
  | .doneReceived => true
  | .faxControlFrameSent => true
  | .pickupSuspensionEnd => true
  | .recordingGranuleNeeded => true

end Sys2Proof
end

