-- ==== Sys2Proof/Tests/Slice0.lean ====
section
/-! SUPPORT. The model's own tests: the checks of WellFormed refuse ill-formed terms, worked cases of the manual, and for each
statement of Obligations concrete states and operands that meet the hypotheses of each of its clauses. -/

set_option linter.unusedVariables false
set_option maxRecDepth 8000

namespace Sys2Proof.Tests

open Sys2Proof Sys2Proof.Machine

/-! ### A small state -/

/-- A command frame at the System Port whose parameters have their size. -/
def sysFrame : Frame := ⟨.system, true⟩

/-- A command frame at the Panel Port whose parameters have their size. -/
def panFrame : Frame := ⟨.panel, true⟩

/-- A directory entry with the given granules. -/
def entry (id : Nat) (kind : MsgKind) (state : EntryState) (length : Nat) (granules : List Nat) : Entry :=
  { id := id, kind := kind, state := state, isNew := false, slot := none, created := .zero, length := length,
    granules := granules, callerStatus := none, callerNumber := none, callerName := none, callNumber := none,
    pageCount := 0, pageTable := [], holds := 0 }

/-- A complete memo of four bytes. -/
def memo1 : Entry := entry 1 .memo .complete 4 [16]

/-- A memo that is being written, with its granule full to the last byte but one. -/
def memo2 : Entry := entry 2 .memo .opened 1023 [17]

/-- A fax message of one page for a sender. -/
def faxOut3 : Entry := { entry 3 .faxOut .complete 8 [18] with pageCount := 1, pageTable := [0] }

/-- The state after reset with a store of 24 granules that holds three entries. -/
def t0 : State :=
  { State.reset with store :=
      { State.reset.store with installed := 24, dir := [memo1, memo2, faxOut3], free := [19, 20, 21, 22, 23] } }

/-- A discrimination that records. -/
def discr1 : Discrimination := { phase := .recording, greeting := none, heard := 0, code := [1, 2, 3], codeDigits := 3, wrong := 2 }

/-- A remote session that prompts. -/
def remote1 : Remote := { state := .prompting, newList := [1], inUse := none, list := [], cursor := none, prompts := 0 }

/-- A block of the meter that one more silent sample closes, with a mean of 1024. -/
def loudMeter : PathMeter := ⟨131072, 127, 0⟩

/-- A state whose line block is one sample short, with sound on the line and in the bands listed. -/
def toneState (l : List Nat) : State :=
  { t0 with
    level.line := loudMeter, level.bandsOn := true,
    level.bands := (List.range 12).map (fun k => if k ∈ l then loudMeter else ⟨0, 127, 0⟩) }

/-- The block that a silent sample closes in `toneState`, judged for a digit. -/
def toneOf (l : List Nat) : ToneBlock :=
  ⟨40, (List.range 12).map (fun k => if k ∈ l then ⟨40, 1024⟩ else ⟨0, 0⟩), true⟩

/-! ### WellFormed refuses an ill-formed term for each check, and takes one at its limit -/

theorem test_dial_too_long : (Instr.dial sysFrame 3#8 0#8 (List.replicate 248 0x40#8)).wellFormed = false := by decide
theorem test_dial_at_limit : (Instr.dial sysFrame 3#8 0#8 (List.replicate 247 0x40#8)).wellFormed = true := by decide
theorem test_sendDigits_too_long : (Instr.sendDigits sysFrame (List.replicate 250 1#8)).wellFormed = false := by decide
theorem test_setSetting_too_long : (Instr.setSetting sysFrame 1#8 (List.replicate 250 1#8)).wellFormed = false := by
  decide
theorem test_writeChunk_too_long : (Instr.writeChunk sysFrame (List.replicate 250 1#8)).wellFormed = false := by decide
theorem test_mask_too_long : (Instr.mask sysFrame (List.replicate 125 (1#8, 0#8))).wellFormed = false := by decide
theorem test_badFrame_empty : (Instr.badFrame .panel []).wellFormed = false := by decide
theorem test_block_too_long : (Instr.blockEvent .mic (List.replicate 129 0#16) []).wellFormed = false := by decide
theorem test_openTransferRead_direction : (Instr.openTransferRead sysFrame ⟨1#8, 1#8⟩ 0#32 0#32).wellFormed = false := by
  decide
theorem test_openTransferWrite_direction : (Instr.openTransferWrite sysFrame ⟨0#8, 1#8⟩ 0#8).wellFormed = false := by decide
theorem test_line_block_without_bands : (Instr.blockEvent .line [0#16] []).wellFormed = false := by decide
theorem test_mic_block_with_bands : (Instr.blockEvent .mic [0#16] [[0#16]]).wellFormed = false := by decide
theorem test_data_frame_too_long : (Instr.dataFrameReceived 0#4 0#4 (List.replicate 256 0#8)).wellFormed = false := by
  decide
theorem test_link_run_too_short : (Instr.invalidLinkFrame [1#8, 2#8]).wellFormed = false := by decide
theorem test_fax_run_too_short : (Instr.faxInvalidControlFrame [1#8, 2#8]).wellFormed = false := by decide

/-! ### Worked cases of the manual -/

/-- 05, Worked values. -/
theorem test_log_codes :
    [1, 2, 3, 10, 25, 488, 4095, 1048576].map logCode = [0, 4, 6, 13, 18, 35, 47, 80] := by decide

/-- 05, Worked figures: block levels (the mean of a row is its accumulator over 128). -/
theorem test_sample_terms :
    [31#16, 32#16, 1024#16, 1000#16, BitVec.ofInt 16 (-4096), 0x8000#16].map sampleTerm =
      [0, 1, 1024, 976, 16384, 1048576] := by decide

/-- 05, Worked sequence: a burst of noise at rung 6. -/
theorem test_track_average : trackAverage 272 29 = 262 ∧ trackAverage 262 0 = 196 ∧ trackAverage 196 0 = 147 := by decide

/-- 09, Worked case: three samples. -/
theorem test_encode_samples :
    encodeSample ⟨0, 0⟩ 100 = 7 ∧ encodeSample ⟨60, 6⟩ 180 = 7 ∧ encodeSample ⟨172, 12⟩ 150 = 8 := by decide

/-- 09, Worked case: three samples. -/
theorem test_decode_codes :
    decodeCode ⟨0, 0⟩ 7 = ⟨60, 6⟩ ∧ decodeCode ⟨60, 6⟩ 7 = ⟨172, 12⟩ ∧ decodeCode ⟨172, 12⟩ 8 = ⟨158, 11⟩ := by decide

/-- 09, Worked case: the saturation. -/
theorem test_decode_clamps :
    decodeCode ⟨32700, 47⟩ 7 = ⟨32767, 47⟩ ∧ decodeClamps ⟨32700, 47⟩ 7 = true := by decide

/-- 12, R186: over the nine bytes "123456789" the CRC is 0x906E, sent as 0x6E then 0x90. -/
theorem test_crc_check_value :
    crcBytes [0x31#8, 0x32#8, 0x33#8, 0x34#8, 0x35#8, 0x36#8, 0x37#8, 0x38#8, 0x39#8] = [0x6E#8, 0x90#8] := by
  decide

/-- R55: the digit 5 is the pair of 770 Hz and 1336 Hz. -/
theorem test_digit_pair : Tone.hertz (.pair 5) = [770, 1336] := by decide

/-- R186: a CLEAR frame stands between two flags of 0xF5, and its run is read back as it. -/
theorem test_clear_frame :
    (lineFrame LinkFrame.clear.body).head? = some 0xF5#8 ∧ (lineFrame LinkFrame.clear.body).getLast? = some 0xF5#8 ∧
      judgeRun 64 (frameBytes LinkFrame.clear.body) = .valid .clear := by decide

/-- R10: a DIAL in IDLE seizes the line. -/
theorem test_dial_seizes :
    (match exec (.dial sysFrame 3#8 0#8 [0x05#8]) t0 with
      | .next t => (t.ccu.line, t.lif.relayClosed, t.ccu.call.number)
      | _ => (.idle, false, 0)) = (.seizing, true, 1) := by decide

/-- R40: SET CLOCK refuses a day of 7. -/
theorem test_set_clock_refuses :
    (match exec (.setClock sysFrame 7#8 0#8 0#8 0#8) t0 with
      | .next t => (t.calendar.isSet, (t.ports.system.outgoing.map Answer.status))
      | _ => (true, [])) = (false, [.badParameter]) := by decide

/-- R39: the second event carries from the last second of the week. -/
theorem test_week_wraps :
    (match exec .secondEvent
        { t0 with calendar := ⟨⟨6, 23, 59, 59⟩, true⟩, timers.e7.signalA := true } with
      | .next t => t.calendar
      | _ => ⟨⟨9, 9, 9, 9⟩, false⟩) = ⟨⟨0, 0, 0, 0⟩, true⟩ := by decide

/-- R24: the free granules come back at the tail of the free list when an entry is deleted. -/
theorem test_delete_returns_granules :
    (match exec (.delete sysFrame 1#8) t0 with
      | .next t => (t.store.free, t.store.dir.length)
      | _ => ([], 0)) = ([19, 20, 21, 22, 23, 16], 2) := by decide

/-- R30: a deadline that works out as 0 is written as 1. -/
theorem test_due_count_zero : ({ t0 with timers.e1.count := 65336 } : State).dueIn 200 = 1 := by decide

/-- R135: a PAGE_END that repeats the last page's is ignored once the data of the next page has begun, and gets its verdict
again before that. -/
theorem test_page_end_repeat :
    [true, false].map (fun begun =>
      match exec (.pageEndReceived 0#8)
          { t0 with
            ccu.line := .connected, ccu.call.active := true, ccu.call.job := .fax, fax.role := some .receiver,
            fax.phase := some .page, fax.dataBegun := begun, fax.lastFrame := some .pageOk } with
      | .next t => t.link.tx
      | _ => .resync 9) = [.idleFill, .fax .pageOk] := by decide

/-- R49: the DTMF detector's state is dropped as the call ends. -/
theorem test_call_end_drops_digit :
    (match exec (.hangUp sysFrame)
        { t0 with
          ccu.line := .connected, ccu.call.active := true, ccu.call.holder := some .system, ccu.call.job := .voice,
          tone.dtmf := ⟨some 5, 3, some 5, 0⟩ } with
      | .next t => (t.ccu.line, t.tone.dtmf)
      | _ => (.idle, ⟨none, 9, none, 9⟩)) = (.releasing, .zero) := by decide

/-- R71: of two fields with one tag the first counts, and an unknown tag is skipped. -/
theorem test_caller_fields :
    fieldsOutcome [(0x77#8, []), (0x11#8, [0x31#8, 0x32#8]), (0x13#8, [1#8]), (0x11#8, [])] =
      (.received, some [1, 2], none) := by decide

/-- R180: an unmasked store alert is what the arbiter of a cold start chooses. -/
theorem test_cold_start_notice : t0.ports.panel.notices.choice = some .storeAlert := by decide

/-- 10, R163: the byte of an offset lies in its granule. -/
theorem test_entry_address :
    (entry 1 .memo .complete 2000 [16, 40]).address 1024 = 40 * 1024 ∧
      (entry 1 .memo .complete 2000 [16, 40]).address 5 = 16 * 1024 + 5 := by decide

/-! ### The invariants hold somewhere -/

theorem witness_StepKeepsSound : ∃ s t : State, s.Sound ∧ step s = .next t :=
  ⟨t0, t0,
    ⟨⟨by decide, by decide, by decide⟩, by decide, by decide, by unfold OneEach; decide,
      ⟨by unfold prioritiesOk; decide, by decide⟩, ⟨by unfold prioritiesOk; decide, by decide⟩⟩, rfl⟩

theorem witness_StepKeepsLineAndCall : ∃ s t : State, s.LineSound ∧ step s = .next t :=
  ⟨t0, t0, ⟨by decide, by decide, by decide⟩, rfl⟩

/-! ### The hypotheses of the statements are met -/

theorem witness_AnswerGranted :
    (∃ (f : Frame) (job : Byte) (s : State), s.Takes f 17#8 ∧ jobFor f.port job = none) ∧
    (∃ (f : Frame) (job : Byte) (s : State) (j : Job), s.Takes f 17#8 ∧ jobFor f.port job = some j ∧
      s.ccu.line = LineState.ringing ∧ s.lif.lineInUse = true) ∧
    (∃ (f : Frame) (job : Byte) (s : State) (j : Job), s.Takes f 17#8 ∧ jobFor f.port job = some j ∧
      s.ccu.line ≠ LineState.ringing ∧ s.holder = none) ∧
    (∃ (f : Frame) (job : Byte) (s : State) (j : Job), s.Takes f 17#8 ∧ jobFor f.port job = some j ∧
      s.ccu.line ≠ LineState.ringing ∧ s.holder = some Party.auto) ∧
    (∃ (f : Frame) (job : Byte) (s : State) (j : Job) (p : Port), s.Takes f 17#8 ∧ jobFor f.port job = some j ∧
      s.ccu.line ≠ LineState.ringing ∧ s.holder = some p.party) ∧
    (∃ (f : Frame) (job : Byte) (j : Job) (s : State), s.Takes f 17#8 ∧ jobFor f.port job = some j ∧
      s.ccu.line = LineState.ringing ∧ s.lif.lineInUse = false ∧
      (j = Job.fax → max 2 s.settings.rungFloor ≤ min 7 s.settings.rungCeiling ∧
      (f.port = Port.panel → s.canCreate = true))) :=
  ⟨⟨sysFrame, 9#8, t0, by decide⟩,
   ⟨sysFrame, 3#8, { t0 with ccu.line := LineState.ringing, lif.lineInUse := true }, .voice, by decide⟩,
   ⟨sysFrame, 3#8, { t0 with ccu.call.active := false }, .voice, by decide⟩,
   ⟨sysFrame, 3#8, { t0 with ccu.call.active := true, ccu.call.holder := some Party.auto }, .voice, by decide⟩,
   ⟨sysFrame, 3#8, { t0 with
       ccu.call.active := true, ccu.call.holder := some (Port.party .panel) }, .voice, .panel, by decide⟩,
   ⟨sysFrame, 2#8, .fax, { t0 with ccu.line := LineState.ringing, lif.lineInUse := false }, by decide⟩⟩

theorem witness_ArbiterChoosesMostUrgent :
    (∃ (c : Controller) (x : Source), c.choice = some x) ∧
    (∃ (c : Controller) (x : Source) (y : Source), c.choice = some x ∧ c.deliverable y = true) ∧
    (∃ (c : Controller) (y : Source), c.choice = none) :=
  ⟨⟨{ Controller.reset with sources := Controller.reset.sources.set .digit ⟨true, false, 0⟩ }, .digit, by decide⟩,
   ⟨{ Controller.reset with sources := Controller.reset.sources.set .digit ⟨true, false, 0⟩ }, .digit, .digit,
       by decide⟩,
   ⟨Controller.reset, .storeAlert, by decide⟩⟩

theorem witness_BlocksMeasured :
    (∃ (xs : List Sample) (s : State) (bands : List (List Sample)), s.power.retention = false ∧
      ¬s.recordsFrom AudioPath.line ∧ ¬s.recordsFrom AudioPath.mic ∧ s.level.line.count + xs.length < 128 ∧
      s.level.bandsOn = false) ∧
    (∃ (xs : List Sample) (s : State) (bands : List (List Sample)), s.power.retention = false ∧
      ¬s.recordsFrom AudioPath.line ∧ ¬s.recordsFrom AudioPath.mic ∧ s.level.mic.count + xs.length < 128) ∧
    (∃ (xs : List Sample) (s : State) (bands : List (List Sample)), s.power.retention = false ∧
      ¬s.recordsFrom AudioPath.line ∧ ¬s.recordsFrom AudioPath.mic ∧ s.level.mic.count + xs.length = 128) ∧
    (∃ (xs : List Sample) (s : State) (bands : List (List Sample)), s.power.retention = false ∧
      ¬s.recordsFrom AudioPath.line ∧ ¬s.recordsFrom AudioPath.mic ∧ s.level.line.count + xs.length = 128 ∧
      s.level.bandsOn = false) ∧
    (∃ (xs : List Sample) (s : State) (bands : List (List Sample)), s.power.retention = false ∧
      ¬s.recordsFrom AudioPath.line ∧ ¬s.recordsFrom AudioPath.mic ∧ bands.length = s.level.bands.length ∧
      (∀ (b : List Sample), b ∈ bands → b.length = xs.length) ∧ s.level.line.count + xs.length < 128 ∧
      s.level.bandsOn = true) ∧
    (∃ (xs : List Sample) (bands : List (List Sample)) (b : ToneBlock) (d : Discrimination) (s : State) (j : Dtmf × Option Symbol),
      s.LineBlockCloses xs bands b ∧ s.rau.discr = some d ∧ s.ccu.line = LineState.connected ∧
      s.ccu.call.job = Job.discriminate ∧ s.tone.faxCall.recognises (b.present s 1) = false ∧
      s.tone.dataCall.recognises (b.present s 2) = false ∧
      (j = if s.judgesDigit then s.tone.dtmf.judge (digitOf s.settings.toneLevel b.whole b.bands) else (s.tone.dtmf.skip,
      none)) ∧ j.snd = none) ∧
    (∃ (xs : List Sample) (bands : List (List Sample)) (b : ToneBlock) (p : Port) (s : State),
      s.LineBlockCloses xs bands b ∧ s.rau.discr = none ∧ s.ccu.line = LineState.connected ∧
      s.ccu.call.job = Job.voice ∧ s.holder = some p.party ∧ ¬s.judgesDigit) ∧
    (∃ (xs : List Sample) (bands : List (List Sample)) (b : ToneBlock) (p : Port) (s : State) (j : Dtmf × Option Symbol),
      s.LineBlockCloses xs bands b ∧ s.rau.discr = none ∧ s.ccu.line = LineState.connected ∧
      s.ccu.call.job = Job.voice ∧ s.holder = some p.party ∧ s.judgesDigit ∧
      j = s.tone.dtmf.judge (digitOf s.settings.toneLevel b.whole b.bands) ∧ j.snd = none) ∧
    (∃ (xs : List Sample) (bands : List (List Sample)) (b : ToneBlock) (p : Port) (s : State) (j : Dtmf × Option Symbol) (x : Symbol),
      s.LineBlockCloses xs bands b ∧ s.rau.discr = none ∧ s.ccu.line = LineState.connected ∧
      s.ccu.call.job = Job.voice ∧ s.holder = some p.party ∧ s.judgesDigit ∧
      j = s.tone.dtmf.judge (digitOf s.settings.toneLevel b.whole b.bands) ∧ j.snd = some x) :=
  ⟨⟨[1#16, 2#16, 3#16], { t0 with
       power.retention := false, level.bandsOn := false, level.line.count := 124 }, [], by decide⟩,
   ⟨[1#16, 2#16, 3#16], { t0 with power.retention := false, level.mic.count := 124 }, [], by decide⟩,
   ⟨[1#16, 2#16, 3#16], { t0 with power.retention := false, level.mic.count := 125 }, [], by decide⟩,
   ⟨[1#16, 2#16, 3#16], { t0 with
       power.retention := false, level.bandsOn := false, level.line.count := 125 }, [], by decide⟩,
   ⟨[1#16, 2#16, 3#16], { t0 with
       power.retention := false, level.bandsOn := true, level.line.count := 124 }, List.replicate 12 [1#16, 1#16,
       1#16], by decide⟩,
   ⟨[0#16], List.replicate 12 [0#16], toneOf [], discr1, { toneState [] with
       rau.discr := some (discr1), ccu.line := LineState.connected, ccu.call.job := Job.discriminate,
       tone.faxCall := ⟨5, false⟩ }, (Dtmf.zero.judge none),
       ⟨⟨by decide, by decide, by decide, by decide, by decide, by decide, by decide⟩, by decide⟩, by decide,
       by decide, by decide, by decide, by decide, by decide, by decide⟩,
   ⟨[0#16], List.replicate 12 [0#16], { toneOf [] with judged := false }, .panel, { toneState [] with
       rau.discr := none, ccu.line := LineState.connected, ccu.call.job := Job.voice, ccu.call.active := true,
       ccu.call.holder := some (Port.party .panel), tone.blank := 2, tone.faxCall := ⟨25, true⟩,
       tone.dataCall := ⟨25, true⟩ }, ⟨⟨by decide, by decide, by decide, by decide, by decide, by decide, by decide⟩,
       by decide⟩, by decide⟩,
   ⟨[0#16], List.replicate 12 [0#16], toneOf [], .panel, { toneState [] with
       rau.discr := none, ccu.line := LineState.connected, ccu.call.job := Job.voice, ccu.call.active := true,
       ccu.call.holder := some (Port.party .panel) }, (Dtmf.zero.judge none),
       ⟨⟨by decide, by decide, by decide, by decide, by decide, by decide, by decide⟩, by decide⟩, by decide⟩,
   ⟨[0#16], List.replicate 12 [0#16], toneOf [5, 9], .panel, { toneState [5, 9] with
       rau.discr := none, ccu.line := LineState.connected, ccu.call.job := Job.voice, ccu.call.active := true,
       ccu.call.holder := some (Port.party .panel), tone.dtmf := ⟨some 5, 2, none, 0⟩ },
       ((⟨some 5, 2, none, 0⟩ : Dtmf).judge (some 5)), 5,
       ⟨⟨by decide, by decide, by decide, by decide, by decide, by decide, by decide⟩, by decide⟩, by decide⟩⟩

theorem witness_CallerDataTaken :
    (∃ (s : State), s.receivesCaller ∧ s.rau.caller.state = CaptureState.listening) ∧
    (∃ (s : State) (b : BitVec 8), s.receivesCaller ∧ s.rau.caller.state = CaptureState.listening ∧ b ≠ 144#8) ∧
    (∃ (s : State) (b : Byte), s.receivesCaller ∧ s.rau.caller.state = CaptureState.receiving ∧
      s.rau.caller.bytes.length = 1) ∧
    (∃ (s : State) (b : Byte), s.receivesCaller ∧ s.rau.caller.state = CaptureState.receiving ∧
      2 ≤ s.rau.caller.bytes.length ∧ s.rau.caller.bytes.length < 64 ∧
      Option.map (fun x => x + 3) s.rau.caller.length ≠ some (s.rau.caller.bytes.length + 1)) ∧
    (∃ (s : State) (b : Byte), s.receivesCaller ∧ s.rau.caller.state = CaptureState.receiving ∧
      64 ≤ s.rau.caller.bytes.length) ∧
    (∃ (s : State) (b : Byte) (m : Byte) (n : Byte) (fields : List (Byte × List Byte)) (rest : List Byte) (x : CallerStatus) (number : Option (List Nat)) (name : Option (List Byte)),
      s.receivesCaller ∧ s.rau.caller.state = CaptureState.receiving ∧
      s.rau.caller.bytes = m :: n :: (fieldBytes fields ++ rest) ∧ s.rau.caller.bytes.length < 64 ∧
      Option.map (fun x => x + 3) s.rau.caller.length = some (s.rau.caller.bytes.length + 1) ∧
      (byteSum (s.rau.caller.bytes ++ [b]) = 0#8 → rest = [] ∨ cutShort rest = true) ∧ ((x, number,
      name) = if byteSum (s.rau.caller.bytes ++ [b]) = 0#8 ∧
      rest = [] then fieldsOutcome fields else (CallerStatus.corrupt, none, none))) ∧
    (∃ (s : State), s.receivesCaller ∧ s.rau.caller.state = CaptureState.receiving) ∧
    (∃ (s : State) (b : Byte), ¬s.receivesCaller) :=
  ⟨⟨{ t0 with
       rau.caller.windowOpen := true, lif.ringPresent := false, rau.caller.state := CaptureState.listening },
       by decide⟩,
   ⟨{ t0 with
       rau.caller.windowOpen := true, lif.ringPresent := false, rau.caller.state := CaptureState.listening }, 1#8,
       by decide⟩,
   ⟨{ t0 with
       rau.caller.windowOpen := true, lif.ringPresent := false, rau.caller.state := CaptureState.receiving,
       rau.caller.bytes := [144#8] }, 14#8, by decide⟩,
   ⟨{ t0 with
       rau.caller.windowOpen := true, lif.ringPresent := false, rau.caller.state := CaptureState.receiving,
       rau.caller.bytes := [144#8, 9#8], rau.caller.length := some 9 }, 1#8, by decide⟩,
   ⟨{ t0 with
       rau.caller.windowOpen := true, lif.ringPresent := false, rau.caller.state := CaptureState.receiving,
       rau.caller.bytes := List.replicate 64 1#8, rau.caller.length := some 200 }, 1#8, by decide⟩,
   ⟨{ t0 with
       rau.caller.windowOpen := true, lif.ringPresent := false, rau.caller.state := CaptureState.receiving,
       rau.caller.bytes := [0x90#8, 13#8, 0x12#8, 1#8, 0x41#8, 0x11#8, 2#8, 0x31#8, 0x32#8, 0x77#8, 0#8, 0x11#8, 1#8, 0x39#8],
       rau.caller.length := some 12 },
       BitVec.ofNat 8 (256 - (0x90 + 13 + 0x12 + 1 + 0x41 + 0x11 + 2 + 0x31 + 0x32 + 0x77 + 0 + 0x11 + 1 + 0x39) % 256),
       0x90#8, 13#8, [(0x12#8, [0x41#8]), (0x11#8, [0x31#8, 0x32#8]), (0x77#8, []), (0x11#8, [0x39#8])], [],
       .received, some [1, 2], some [0x41#8], by decide⟩,
   ⟨{ t0 with
       rau.caller.windowOpen := true, lif.ringPresent := false, rau.caller.state := CaptureState.receiving },
       by decide⟩,
   ⟨t0, 1#8, by decide⟩⟩

theorem witness_CodecFollows :
    (∃ (i : Nat), i < 47) ∧
    (∃ (c : Codec) (code : Nat), code < 16 ∧ c.index ≤ 47) ∧
    (∃ (c : Codec) (code : Nat) (d : Int), code < 16 ∧ c.index ≤ 47 ∧
      d = ↑((2 * (code % 8) + 1) * stepSize c.index / 4) ∧ -32768 ≤ c.predicted ∧ c.predicted ≤ 32767 ∧ code < 8) ∧
    (∃ (c : Codec) (code : Nat) (d : Int), code < 16 ∧ c.index ≤ 47 ∧
      d = ↑((2 * (code % 8) + 1) * stepSize c.index / 4) ∧ -32768 ≤ c.predicted ∧ c.predicted ≤ 32767 ∧ 8 ≤ code) ∧
    (∃ (c : Codec) (x : Sample) (m : Nat), c.index ≤ 47 ∧ m = encodeSample c (BitVec.toInt x) % 8) ∧
    (∃ (c : Codec) (x : Sample) (m : Nat), c.index ≤ 47 ∧ m = encodeSample c (BitVec.toInt x) % 8 ∧ m < 7) ∧
    (∃ (c : Codec) (x : Sample) (m : Nat), c.index ≤ 47 ∧ m = encodeSample c (BitVec.toInt x) % 8 ∧
      BitVec.toInt x = c.predicted) ∧
    (∃ (o : VoiceOp) (x : Sample), o.codesMade < o.maxCode) ∧
    (∃ (o : VoiceOp) (x : Sample) (h : CodeByte), o.codesMade < o.maxCode ∧ o.halfByte = some h) ∧
    (∃ (o : VoiceOp) (x : Sample), o.codesMade < o.maxCode ∧ o.halfByte = none) ∧
    (∃ (id : Nat) (g : Nat) (e : Entry) (o : VoiceOp) (s : State), o = s.voice.op ∧ o.message = some id ∧
      s.store.find id = some e ∧ g = o.offset / 1024 * 1024 ∧ e.length ≤ max o.offset (g + 4)) ∧
    (∃ (id : Nat) (g : Nat) (e : Entry) (o : VoiceOp) (s : State), o = s.voice.op ∧ o.message = some id ∧
      s.store.find id = some e ∧ g = o.offset / 1024 * 1024 ∧ o.offset < e.length ∧ 4 ≤ o.offset % 1024 ∧
      o.lowNext = false) ∧
    (∃ (id : Nat) (g : Nat) (e : Entry) (o : VoiceOp) (s : State), o = s.voice.op ∧ o.message = some id ∧
      s.store.find id = some e ∧ g = o.offset / 1024 * 1024 ∧ o.offset < e.length ∧ 4 ≤ o.offset % 1024 ∧
      o.lowNext = true) ∧
    (∃ (id : Nat) (g : Nat) (e : Entry) (o : VoiceOp) (s : State) (p : Int) (i : Nat), o = s.voice.op ∧
      o.message = some id ∧ s.store.find id = some e ∧ g = o.offset / 1024 * 1024 ∧
      p = (BitVec.ofNat 16 (BitVec.toNat (s.store.entryByte e g) + 256 * BitVec.toNat (s.store.entryByte e (g + 1)))).toInt ∧
      i = min 47 (BitVec.toNat (s.store.entryByte e (g + 2))) ∧ o.offset % 1024 < 4 ∧ g + 4 < e.length) :=
  ⟨⟨1, by decide⟩,
   ⟨⟨0, 0⟩, 1, by decide⟩,
   ⟨⟨32767, 47⟩, 7, 12690, by decide⟩,
   ⟨⟨-32768, 47⟩, 15, 12690, by decide⟩,
   ⟨⟨0, 47⟩, 0x7FFF#16, 7, by decide⟩,
   ⟨⟨0, 0⟩, 55#16, 6, by decide⟩,
   ⟨⟨55, 0⟩, 55#16, 0, by decide⟩,
   ⟨{ VoiceOp.reset with maxCode := 4 }, 0#16, by decide⟩,
   ⟨{ VoiceOp.reset with maxCode := 4, halfByte := some ⟨⟨0, 0⟩, 7⟩ }, 0#16, ⟨⟨0, 0⟩, 7⟩, by decide⟩,
   ⟨{ VoiceOp.reset with maxCode := 4 }, 0#16, by decide⟩,
   ⟨1, 1024, { memo1 with length := 1027, granules := [16, 17] },
       { VoiceOp.reset with message := some 1, offset := 1024, lowNext := false }, { t0 with
       store.dir := [{ memo1 with length := 1027, granules := [16, 17] }], voice.op.message := some 1,
       voice.op.offset := 1024, voice.op.lowNext := false }, by decide⟩,
   ⟨1, 1024, { memo1 with length := 1030, granules := [16, 17] },
       { VoiceOp.reset with message := some 1, offset := 1029, lowNext := false }, { t0 with
       store.dir := [{ memo1 with length := 1030, granules := [16, 17] }], voice.op.message := some 1,
       voice.op.offset := 1029, voice.op.lowNext := false }, by decide⟩,
   ⟨1, 1024, { memo1 with length := 1030, granules := [16, 17] },
       { VoiceOp.reset with message := some 1, offset := 1029, lowNext := true }, { t0 with
       store.dir := [{ memo1 with length := 1030, granules := [16, 17] }], voice.op.message := some 1,
       voice.op.offset := 1029, voice.op.lowNext := true }, by decide⟩,
   ⟨1, 1024, { memo1 with length := 1030, granules := [16, 17] },
       { VoiceOp.reset with message := some 1, offset := 1024, lowNext := false }, { t0 with
       store.dir := [{ memo1 with length := 1030, granules := [16, 17] }], voice.op.message := some 1,
       voice.op.offset := 1024, voice.op.lowNext := false }, 0, 0, by decide⟩⟩

theorem witness_ConditionsEndTheCall :
    (∃ (s : State), s.ccu.call.active = true ∧ s.ccu.ending = none ∧
      (s.DueT2 T2Use.dialToneWait ∨ s.DueT2 T2Use.waitTone)) ∧
    (∃ (s : State), s.ccu.call.active = true ∧ s.ccu.ending = none ∧ s.DueT2 T2Use.noAnswer ∧
      s.ccu.line = LineState.progress) ∧
    (∃ (s : State), s.ccu.call.active = true ∧ s.ccu.ending = none ∧ s.timers.e4.Due ∧
      (s.pump.phase = PumpPhase.data ∨ s.pump.phase = PumpPhase.retrain)) ∧
    (∃ (s : State), s.ccu.call.active = true ∧ s.ccu.ending = none ∧ s.pump.phase = PumpPhase.handshake ∧
      s.pump.answerTone = false) ∧
    (∃ (s : State), s.ccu.call.active = true ∧ s.ccu.ending = none ∧ s.DueT2 T2Use.faxStall ∧
      s.fax.phase = some FaxPhase.page) ∧
    (∃ (s : State), s.ccu.call.active = true ∧ s.ccu.ending = none ∧ s.DueT2 T2Use.faxDecision ∧
      s.fax.phase = some FaxPhase.page) :=
  ⟨⟨{ t0 with
       ccu.call.active := true, ccu.ending := none, ccu.t2Use := T2Use.dialToneWait, timers.e2.mode := .oneShot },
       by decide⟩,
   ⟨{ t0 with
       ccu.call.active := true, ccu.ending := none, ccu.t2Use := T2Use.noAnswer, timers.e2.mode := .oneShot,
       ccu.line := LineState.progress }, by decide⟩,
   ⟨{ t0 with
       ccu.call.active := true, ccu.ending := none, timers.e4.mode := .oneShot, pump.phase := PumpPhase.data },
       by decide⟩,
   ⟨{ t0 with
       ccu.call.active := true, ccu.ending := none, pump.phase := PumpPhase.handshake, pump.answerTone := false },
       by decide⟩,
   ⟨{ t0 with
       ccu.call.active := true, ccu.ending := none, ccu.t2Use := T2Use.faxStall, timers.e2.mode := .oneShot,
       fax.phase := some FaxPhase.page }, by decide⟩,
   ⟨{ t0 with
       ccu.call.active := true, ccu.ending := none, ccu.t2Use := T2Use.faxDecision, timers.e2.mode := .oneShot,
       fax.phase := some FaxPhase.page }, by decide⟩⟩

theorem witness_DataEntered :
    (∃ (c : Instr) (s : State), s.pump.mode = PumpMode.data ∧ (c = Instr.verdictExchangeEnd ∧
      (s.pump.phase = PumpPhase.training ∨ s.pump.phase = PumpPhase.retrain) ∧
      s.pump.stage = TrainingStage.verdicts ∧ s.pump.ownAccept = true ∧
      s.pump.farAccept = some true ∨ c = Instr.resyncEnd ∧ s.pump.phase = PumpPhase.rateChange ∧
      s.pump.confirmed = true) ∧ s.pump.linkStarted = false ∧ s.settings.linkPolicy ≠ LinkPolicy.directOnly) ∧
    (∃ (c : Instr) (s : State), s.pump.mode = PumpMode.data ∧ (c = Instr.verdictExchangeEnd ∧
      (s.pump.phase = PumpPhase.training ∨ s.pump.phase = PumpPhase.retrain) ∧
      s.pump.stage = TrainingStage.verdicts ∧ s.pump.ownAccept = true ∧
      s.pump.farAccept = some true ∨ c = Instr.resyncEnd ∧ s.pump.phase = PumpPhase.rateChange ∧
      s.pump.confirmed = true) ∧ s.pump.linkStarted = false ∧ s.settings.linkPolicy = LinkPolicy.directOnly) ∧
    (∃ (c : Instr) (s : State), s.pump.mode = PumpMode.data ∧ (c = Instr.verdictExchangeEnd ∧
      (s.pump.phase = PumpPhase.training ∨ s.pump.phase = PumpPhase.retrain) ∧
      s.pump.stage = TrainingStage.verdicts ∧ s.pump.ownAccept = true ∧
      s.pump.farAccept = some true ∨ c = Instr.resyncEnd ∧ s.pump.phase = PumpPhase.rateChange ∧
      s.pump.confirmed = true) ∧ s.pump.linkStarted = true ∧ s.link.mode = LinkMode.linked) ∧
    (∃ (c : Instr) (s : State), s.pump.mode = PumpMode.data ∧ (c = Instr.verdictExchangeEnd ∧
      (s.pump.phase = PumpPhase.training ∨ s.pump.phase = PumpPhase.retrain) ∧
      s.pump.stage = TrainingStage.verdicts ∧ s.pump.ownAccept = true ∧
      s.pump.farAccept = some true ∨ c = Instr.resyncEnd ∧ s.pump.phase = PumpPhase.rateChange ∧
      s.pump.confirmed = true) ∧ s.pump.linkStarted = true ∧ s.link.mode = LinkMode.setup) ∧
    (∃ (c : Instr) (s : State), s.pump.mode = PumpMode.data ∧ (c = Instr.verdictExchangeEnd ∧
      (s.pump.phase = PumpPhase.training ∨ s.pump.phase = PumpPhase.retrain) ∧
      s.pump.stage = TrainingStage.verdicts ∧ s.pump.ownAccept = true ∧
      s.pump.farAccept = some true ∨ c = Instr.resyncEnd ∧ s.pump.phase = PumpPhase.rateChange ∧
      s.pump.confirmed = true) ∧ s.pump.linkStarted = true ∧ s.link.mode = LinkMode.direct) :=
  ⟨⟨.verdictExchangeEnd, { t0 with
       pump.mode := PumpMode.data, pump.phase := .training, pump.stage := TrainingStage.verdicts,
       pump.ownAccept := true, pump.farAccept := some true, pump.linkStarted := false }, by decide⟩,
   ⟨.verdictExchangeEnd, { t0 with
       pump.mode := PumpMode.data, pump.phase := .training, pump.stage := TrainingStage.verdicts,
       pump.ownAccept := true, pump.farAccept := some true, pump.linkStarted := false,
       settings.linkPolicy := LinkPolicy.directOnly }, by decide⟩,
   ⟨.verdictExchangeEnd, { t0 with
       pump.mode := PumpMode.data, pump.phase := .training, pump.stage := TrainingStage.verdicts,
       pump.ownAccept := true, pump.farAccept := some true, pump.linkStarted := true, link.mode := LinkMode.linked },
       by decide⟩,
   ⟨.verdictExchangeEnd, { t0 with
       pump.mode := PumpMode.data, pump.phase := .training, pump.stage := TrainingStage.verdicts,
       pump.ownAccept := true, pump.farAccept := some true, pump.linkStarted := true, link.mode := .setup },
       by decide⟩,
   ⟨.verdictExchangeEnd, { t0 with
       pump.mode := PumpMode.data, pump.phase := .training, pump.stage := TrainingStage.verdicts,
       pump.ownAccept := true, pump.farAccept := some true, pump.linkStarted := true, link.mode := .direct },
       by decide⟩⟩

theorem witness_DataStateBytes :
    (∃ (b : Byte) (s : State), s.sys.data = true ∧ s.ccu.call.job = Job.data ∧ s.timers.e5.signalA = false) ∧
    (∃ (b : Byte) (s : State), s.sys.data = true ∧ s.ccu.call.job = Job.data ∧ s.timers.e5.signalA = true) ∧
    (∃ (b : Byte) (s : State), s.sys.data = true ∧ s.ccu.call.job = Job.fax ∧ s.fax.role = some FaxRole.sender ∧
      s.link.outbound.length < 1024 ∧ (b ≠ 12#8 ∨ pairOpen s.fax.inPair s.link.outbound = false)) ∧
    (∃ (b : Byte) (s : State), s.sys.data = true ∧ s.ccu.call.job = Job.fax ∧ s.fax.role = some FaxRole.sender ∧
      s.link.outbound.length < 1024 ∧ pairOpen s.fax.inPair s.link.outbound = true) ∧
    (∃ (b : Byte) (s : State), s.sys.data = true ∧ s.ccu.call.job = Job.fax ∧ s.fax.role = some FaxRole.sender ∧
      1024 ≤ s.link.outbound.length) ∧
    (∃ (b : Byte) (s : State), s.sys.data = true ∧ s.ccu.call.job = Job.fax ∧ s.fax.role = some FaxRole.receiver) ∧
    (∃ (b : Byte) (s : State), s.sys.data = false) ∧
    (∃ (b : Byte) (rest : List Byte) (s : State), s.sys.data = true ∧ (s.sys.rts = true ∨ s.sys.lastByte = true) ∧
      s.link.inbound = b :: rest ∧ s.fax.markInQueue = none) ∧
    (∃ (b : Byte) (rest : List Byte) (n : Nat) (s : State), s.sys.data = true ∧
      (s.sys.rts = true ∨ s.sys.lastByte = true) ∧ s.link.inbound = b :: rest ∧ s.fax.markInQueue = some (n + 2)) ∧
    (∃ (b : Byte) (rest : List Byte) (s : State), s.sys.data = true ∧ (s.sys.rts = true ∨ s.sys.lastByte = true) ∧
      s.link.inbound = b :: rest ∧ s.fax.markInQueue = some 1) :=
  ⟨⟨1#8, { t0 with sys.data := true, ccu.call.job := Job.data, timers.e5.signalA := false }, by decide⟩,
   ⟨1#8, { t0 with sys.data := true, ccu.call.job := Job.data, timers.e5.signalA := true }, by decide⟩,
   ⟨1#8, { t0 with sys.data := true, ccu.call.job := Job.fax, fax.role := some FaxRole.sender }, by decide⟩,
   ⟨1#8, { t0 with
       sys.data := true, ccu.call.job := Job.fax, fax.role := some FaxRole.sender, link.outbound := [0x10#8] },
       by decide⟩,
   ⟨1#8, { t0 with
       sys.data := true, ccu.call.job := Job.fax, fax.role := some FaxRole.sender,
       link.outbound := List.replicate 1024 1#8 }, by decide, by decide, by decide,
       Nat.le_of_eq List.length_replicate.symm⟩,
   ⟨1#8, { t0 with sys.data := true, ccu.call.job := Job.fax, fax.role := some FaxRole.receiver }, by decide⟩,
   ⟨1#8, { t0 with sys.data := false }, by decide⟩,
   ⟨1#8, [], { t0 with
       sys.data := true, sys.rts := true, link.inbound := (1#8) :: ([]), fax.markInQueue := none }, by decide⟩,
   ⟨1#8, [], 1, { t0 with
       sys.data := true, sys.rts := true, link.inbound := (1#8) :: ([]), fax.markInQueue := some ((1) + 2) },
       by decide⟩,
   ⟨1#8, [], { t0 with
       sys.data := true, sys.rts := true, link.inbound := (1#8) :: ([]), fax.markInQueue := some 1 }, by decide⟩⟩

theorem witness_DataStateEntered :
    (∃ (f : Frame) (s : State), s.Takes f 120#8 ∧ s.ccu.call.active = true ∧ s.ccu.call.job = Job.data ∧
      s.ccu.call.holder = some f.port.party ∧ (s.link.mode = LinkMode.linked ∨ s.link.mode = LinkMode.direct)) ∧
    (∃ (a : Answer) (rest : List Answer) (s : State), s.ports.system.outgoing = a :: rest ∧ s.replyLeaves ∧
      s.sys.goDataDue = true ∧ a.kind = AnswerKind.reply ∧ s.ccu.call.job = Job.data) ∧
    (∃ (a : Answer) (rest : List Answer) (s : State), s.ports.system.outgoing = a :: rest ∧ s.replyLeaves ∧
      s.sys.goDataDue = false) ∧
    (∃ (n : Source × Nat) (s : State), s.sys.notice = some n ∧ s.sys.ready = true ∧ s.sys.rts = true ∧
      s.ports.system.notices.choice = none) ∧
    (∃ (n : Source × Nat) (s : State) (x : Source), s.sys.notice = some n ∧ s.sys.ready = true ∧ s.sys.rts = true ∧
      s.ports.system.notices.choice = some x ∧ s.power.low = false ∧ s.sys.data = false ∧ s.sys.entryDue = false ∧
      s.ports.system.outgoing = []) ∧
    (∃ (s : State), s.sys.entryDue = true ∧ s.ports.system.outgoing = [] ∧ s.sys.notice = none ∧
      s.ccu.call.job = Job.data) ∧
    (∃ (s : State), s.sys.entryDue = true ∧ s.ports.system.outgoing = [] ∧ s.sys.notice = none ∧
      s.ccu.call.job = Job.fax) :=
  ⟨⟨sysFrame, { t0 with
       ccu.call.active := true, ccu.call.job := Job.data, ccu.call.holder := some (Port.party .system),
       link.mode := LinkMode.linked }, by decide⟩,
   ⟨⟨.reply, .ok, 0x78#8, []⟩, [], { t0 with
       ports.system.outgoing := (⟨.reply, .ok, 0x78#8, []⟩) :: ([]), sys.goDataDue := true,
       ccu.call.job := Job.data }, by decide⟩,
   ⟨⟨.reply, .ok, 0x78#8, []⟩, [], { t0 with
       ports.system.outgoing := (⟨.reply, .ok, 0x78#8, []⟩) :: ([]), sys.goDataDue := false }, by decide⟩,
   ⟨(.digit, 0), { t0 with
       sys.notice := some ((.digit, 0)), sys.ready := true, sys.rts := true,
       ports.system.notices.stack := [(.ring, 1)] }, by decide⟩,
   ⟨(.digit, 0), { t0 with
       sys.notice := some ((.digit, 0)), sys.ready := true, sys.rts := true, power.low := false, sys.data := false,
       sys.entryDue := false, ports.system.outgoing := [] }, .storeAlert, by decide⟩,
   ⟨{ t0 with
       sys.entryDue := true, ports.system.outgoing := [], sys.notice := none, ccu.call.job := Job.data }, by decide⟩,
   ⟨{ t0 with
       sys.entryDue := true, ports.system.outgoing := [], sys.notice := none, ccu.call.job := Job.fax }, by decide⟩⟩

theorem witness_DialTaken :
    (∃ (f : Frame) (job : Byte) (flags : Byte) (items : List Byte) (j : Job) (l : List DialItem) (s : State),
      s.Takes f 16#8 ∧ jobFor f.port job = some j ∧ dialListOf s.settings.dialPulse items = some l ∧
      s.ccu.line = LineState.idle ∧ s.lif.lineInUse = false) ∧
    (∃ (f : Frame) (job : Byte) (flags : Byte) (items : List Byte) (s : State) (j : Job) (l : List DialItem),
      s.Takes f 16#8 ∧ jobFor f.port job = some j ∧ dialListOf s.settings.dialPulse items = some l ∧
      ¬(s.ccu.line = LineState.idle ∧ s.lif.lineInUse = false) ∧ BitVec.getLsbD flags 1 = true) ∧
    (∃ (f : Frame) (job : Byte) (flags : Byte) (items : List Byte) (s : State) (j : Job) (l : List DialItem),
      s.Takes f 16#8 ∧ jobFor f.port job = some j ∧ dialListOf s.settings.dialPulse items = some l ∧
      ¬(s.ccu.line = LineState.idle ∧ s.lif.lineInUse = false) ∧ BitVec.getLsbD flags 1 = false) ∧
    (∃ (f : Frame) (job : Byte) (flags : Byte) (items : List Byte) (s : State), s.Takes f 16#8 ∧
      (jobFor f.port job = none ∨ dialListOf s.settings.dialPulse items = none)) :=
  ⟨⟨sysFrame, 3#8, 1#8, [0x40#8, 0x15#8], .voice, [.pause, .tone 5], { t0 with
       ccu.line := LineState.idle, lif.lineInUse := false }, by decide⟩,
   ⟨sysFrame, 3#8, 2#8, [0x40#8], { t0 with lif.lineInUse := true }, .voice, [.pause], by decide⟩,
   ⟨sysFrame, 3#8, 1#8, [0x40#8], { t0 with ccu.line := .ringing }, .voice, [.pause], by decide⟩,
   ⟨sysFrame, 1#8, 1#8, [], t0, by decide⟩⟩

theorem witness_DialWaitsEnd :
    (∃ (s : State), s.DueT2 T2Use.settle ∧ s.ccu.line = LineState.seizing ∧ s.ccu.blind = false) ∧
    (∃ (s : State) (i : DialItem), s.DueT2 T2Use.settle ∧ s.ccu.line = LineState.seizing ∧ s.ccu.blind = true ∧
      s.dialItems[0]? = some i) ∧
    (∃ (s : State), s.DueT2 T2Use.pauseItem ∧ s.ccu.dialler.item = ItemState.pausing ∧
      s.ccu.line = LineState.dialing ∧ s.dialItems[s.ccu.dialler.cursor + 1]? = none) ∧
    (∃ (s : State) (i : DialItem), s.DueT2 T2Use.pauseItem ∧ s.ccu.dialler.item = ItemState.pausing ∧
      s.ccu.line = LineState.dialing ∧ s.dialItems[s.ccu.dialler.cursor + 1]? = some i) ∧
    (∃ (s : State), s.DueT2 T2Use.guard ∧ s.ccu.line = LineState.releasing ∧ s.power.low = false ∧
      s.rau.episode.active = true) ∧
    (∃ (s : State), s.DueT2 T2Use.guard ∧ s.ccu.line = LineState.releasing ∧
      (s.power.low = true ∨ s.rau.episode.active = false ∧ (s.ccu.claims = [] ∨ s.lif.lineInUse = true))) ∧
    (∃ (s : State) (c : Claim) (rest : List Claim), s.DueT2 T2Use.guard ∧ s.ccu.line = LineState.releasing ∧
      s.power.low = false ∧ s.rau.episode.active = false ∧ s.ccu.claims = c :: rest ∧ s.lif.lineInUse = false) :=
  ⟨⟨{ t0 with
       ccu.t2Use := T2Use.settle, timers.e2.mode := .oneShot, ccu.line := LineState.seizing, ccu.blind := false },
       by decide⟩,
   ⟨{ t0 with
       ccu.t2Use := T2Use.settle, timers.e2.mode := .oneShot, ccu.line := LineState.seizing, ccu.blind := true,
       ccu.call.dialList := some [.tone 5] }, .tone 5, by decide⟩,
   ⟨{ t0 with
       ccu.t2Use := T2Use.pauseItem, timers.e2.mode := .oneShot, ccu.dialler.item := ItemState.pausing,
       ccu.line := LineState.dialing, ccu.call.dialList := some [.pause] }, by decide⟩,
   ⟨{ t0 with
       ccu.t2Use := T2Use.pauseItem, timers.e2.mode := .oneShot, ccu.dialler.item := ItemState.pausing,
       ccu.line := LineState.dialing, ccu.call.dialList := some [.pause, .flash] }, .flash, by decide⟩,
   ⟨{ t0 with
       ccu.t2Use := T2Use.guard, timers.e2.mode := .oneShot, ccu.line := LineState.releasing, power.low := false,
       rau.episode.active := true }, by decide⟩,
   ⟨{ t0 with
       ccu.t2Use := T2Use.guard, timers.e2.mode := .oneShot, ccu.line := LineState.releasing, power.low := true },
       by decide⟩,
   ⟨{ t0 with
       ccu.t2Use := T2Use.guard, timers.e2.mode := .oneShot, ccu.line := LineState.releasing, power.low := false,
       rau.episode.active := false, ccu.claims := (⟨.panel, [], .voice, false⟩) :: ([]), lif.lineInUse := false },
       ⟨.panel, [], .voice, false⟩, [], by decide⟩⟩

theorem witness_DirectoryCommands :
    (∃ (f : Frame) (first : Byte) (count : Byte) (s : State), s.Takes f 80#8 ∧ 1 ≤ BitVec.toNat count ∧
      BitVec.toNat count ≤ 16) ∧
    (∃ (f : Frame) (first : Byte) (count : Byte) (s : State), s.Takes f 80#8 ∧
      (BitVec.toNat count < 1 ∨ 16 < BitVec.toNat count)) ∧
    (∃ (f : Frame) (id : Byte) (s : State) (e : Entry), s.Takes f 82#8 ∧ s.store.find (BitVec.toNat id) = some e ∧
      e.state = EntryState.complete ∧ e.holds = 0) ∧
    (∃ (f : Frame) (id : Byte) (s : State) (e : Entry), s.Takes f 82#8 ∧ s.store.find (BitVec.toNat id) = some e ∧
      e.state = EntryState.complete ∧ 0 < e.holds) ∧
    (∃ (f : Frame) (id : Byte) (s : State) (e : Entry), s.Takes f 83#8 ∧ s.store.find (BitVec.toNat id) = some e ∧
      e.state = EntryState.complete) ∧
    (∃ (f : Frame) (id : Byte) (s : State) (e : Entry), s.store.find (BitVec.toNat id) = some e ∧
      e.state = EntryState.opened ∧ s.Takes f 82#8) ∧
    (∃ (f : Frame) (id : Byte) (s : State) (e : Entry), s.store.find (BitVec.toNat id) = some e ∧
      e.state = EntryState.opened ∧ s.Takes f 83#8) ∧
    (∃ (f : Frame) (id : Byte) (s : State), (s.store.find (BitVec.toNat id) = none ∨ ∃ e,
      s.store.find (BitVec.toNat id) = some e ∧ e.state = EntryState.doomed) ∧ s.Takes f 82#8) ∧
    (∃ (f : Frame) (id : Byte) (s : State), (s.store.find (BitVec.toNat id) = none ∨ ∃ e,
      s.store.find (BitVec.toNat id) = some e ∧ e.state = EntryState.doomed) ∧ s.Takes f 83#8) :=
  ⟨⟨sysFrame, 1#8, 1#8, t0, by decide⟩,
   ⟨sysFrame, 1#8, 17#8, t0, by decide⟩,
   ⟨sysFrame, 1#8, t0, memo1, by decide⟩,
   ⟨sysFrame, 1#8, { t0 with store.dir := [{ memo1 with holds := 1 }] }, { memo1 with holds := 1 }, by decide⟩,
   ⟨sysFrame, 1#8, t0, memo1, by decide⟩,
   ⟨sysFrame, 2#8, t0, memo2, by decide⟩,
   ⟨sysFrame, 2#8, t0, memo2, by decide⟩,
   ⟨sysFrame, 9#8, t0, .inl (by decide), by decide⟩,
   ⟨sysFrame, 9#8, t0, .inl (by decide), by decide⟩⟩

theorem witness_EpisodeCountsAndEnds :
    (∃ (c : Instr) (n : Nat) (p : Nat) (s : State), ((c = Instr.cycleEnd ∧ ∃ due,
      s.rau.deadlines.cycleEnd = some due ∧
      (s.rau.presence = Presence.none ∨ ¬s.startedBefore due)) ∨ c = Instr.presenceHangoverExpiry ∧
      s.lif.ringPresent = true ∧ s.timers.e1.mode = TimerMode.capture ∧ s.rau.presence = Presence.pending ∧
      s.rau.deadlines.heldCycleEnd = true ∧ s.rau.deadlines.heldEpisodeEnd = false) ∧ s.rau.episode.active = true ∧
      (p = if s.rau.episode.firstInProgress = true then min 3 s.rau.episode.firstBursts else s.rau.episode.pattern) ∧
      (n = if s.settings.tollSaver = true ∧ ∃ e, e ∈ s.store.dir ∧ e.state = EntryState.complete ∧ e.isNew = true ∧
      (e.kind = MsgKind.voiceMsg ∨ e.kind = MsgKind.faxIn) then s.settings.tollSaverRings else s.settings.ringsToAnswer.get p) ∧
      (s.ccu.line ≠ LineState.ringing ∨ s.lif.lineInUse = true ∨ s.power.low = true ∨ bump 65535 s.rau.episode.ringCount < n ∨ s.settings.answerAction.get p = AnswerAction.ignore ∨ s.settings.answerAction.get p = AnswerAction.data ∧
      s.sys.ready = false ∨ s.settings.answerAction.get p = AnswerAction.fax ∧
      (s.settings.faxToStore = true ∨ s.sys.ready = false) ∧ s.storeHasRoom = false)) ∧
    (∃ (c : Instr) (n : Nat) (p : Nat) (s : State), ((c = Instr.cycleEnd ∧ ∃ due,
      s.rau.deadlines.cycleEnd = some due ∧
      (s.rau.presence = Presence.none ∨ ¬s.startedBefore due)) ∨ c = Instr.presenceHangoverExpiry ∧
      s.lif.ringPresent = true ∧ s.timers.e1.mode = TimerMode.capture ∧ s.rau.presence = Presence.pending ∧
      s.rau.deadlines.heldCycleEnd = true ∧ s.rau.deadlines.heldEpisodeEnd = false) ∧ s.rau.episode.active = true ∧
      (p = if s.rau.episode.firstInProgress = true then min 3 s.rau.episode.firstBursts else s.rau.episode.pattern) ∧
      (n = if s.settings.tollSaver = true ∧ ∃ e, e ∈ s.store.dir ∧ e.state = EntryState.complete ∧ e.isNew = true ∧
      (e.kind = MsgKind.voiceMsg ∨ e.kind = MsgKind.faxIn) then s.settings.tollSaverRings else s.settings.ringsToAnswer.get p) ∧
      s.ccu.line = LineState.ringing ∧ s.lif.lineInUse = false ∧ s.power.low = false ∧
      n ≤ bump 65535 s.rau.episode.ringCount ∧ s.settings.answerAction.get p = AnswerAction.data ∧
      s.sys.ready = true) ∧
    (∃ (c : Instr) (n : Nat) (p : Nat) (s : State), ((c = Instr.cycleEnd ∧ ∃ due,
      s.rau.deadlines.cycleEnd = some due ∧
      (s.rau.presence = Presence.none ∨ ¬s.startedBefore due)) ∨ c = Instr.presenceHangoverExpiry ∧
      s.lif.ringPresent = true ∧ s.timers.e1.mode = TimerMode.capture ∧ s.rau.presence = Presence.pending ∧
      s.rau.deadlines.heldCycleEnd = true ∧ s.rau.deadlines.heldEpisodeEnd = false) ∧ s.rau.episode.active = true ∧
      (p = if s.rau.episode.firstInProgress = true then min 3 s.rau.episode.firstBursts else s.rau.episode.pattern) ∧
      (n = if s.settings.tollSaver = true ∧ ∃ e, e ∈ s.store.dir ∧ e.state = EntryState.complete ∧ e.isNew = true ∧
      (e.kind = MsgKind.voiceMsg ∨ e.kind = MsgKind.faxIn) then s.settings.tollSaverRings else s.settings.ringsToAnswer.get p) ∧
      s.ccu.line = LineState.ringing ∧ s.lif.lineInUse = false ∧ s.power.low = false ∧
      n ≤ bump 65535 s.rau.episode.ringCount ∧ s.settings.answerAction.get p = AnswerAction.fax ∧
      max 2 s.settings.rungFloor ≤ min 7 s.settings.rungCeiling ∧ s.settings.faxToStore = false ∧ s.sys.ready = true) ∧
    (∃ (c : Instr) (n : Nat) (p : Nat) (s : State), ((c = Instr.cycleEnd ∧ ∃ due,
      s.rau.deadlines.cycleEnd = some due ∧
      (s.rau.presence = Presence.none ∨ ¬s.startedBefore due)) ∨ c = Instr.presenceHangoverExpiry ∧
      s.lif.ringPresent = true ∧ s.timers.e1.mode = TimerMode.capture ∧ s.rau.presence = Presence.pending ∧
      s.rau.deadlines.heldCycleEnd = true ∧ s.rau.deadlines.heldEpisodeEnd = false) ∧ s.rau.episode.active = true ∧
      (p = if s.rau.episode.firstInProgress = true then min 3 s.rau.episode.firstBursts else s.rau.episode.pattern) ∧
      (n = if s.settings.tollSaver = true ∧ ∃ e, e ∈ s.store.dir ∧ e.state = EntryState.complete ∧ e.isNew = true ∧
      (e.kind = MsgKind.voiceMsg ∨ e.kind = MsgKind.faxIn) then s.settings.tollSaverRings else s.settings.ringsToAnswer.get p) ∧
      s.ccu.line = LineState.ringing ∧ s.lif.lineInUse = false ∧ s.power.low = false ∧
      n ≤ bump 65535 s.rau.episode.ringCount ∧ s.settings.answerAction.get p = AnswerAction.fax ∧
      max 2 s.settings.rungFloor ≤ min 7 s.settings.rungCeiling ∧
      (s.settings.faxToStore = true ∨ s.sys.ready = false) ∧ s.storeHasRoom = true ∧ s.canCreate = true) ∧
    (∃ (c : Instr) (n : Nat) (p : Nat) (s : State) (id : Nat), ((c = Instr.cycleEnd ∧ ∃ due,
      s.rau.deadlines.cycleEnd = some due ∧
      (s.rau.presence = Presence.none ∨ ¬s.startedBefore due)) ∨ c = Instr.presenceHangoverExpiry ∧
      s.lif.ringPresent = true ∧ s.timers.e1.mode = TimerMode.capture ∧ s.rau.presence = Presence.pending ∧
      s.rau.deadlines.heldCycleEnd = true ∧ s.rau.deadlines.heldEpisodeEnd = false) ∧ s.rau.episode.active = true ∧
      (p = if s.rau.episode.firstInProgress = true then min 3 s.rau.episode.firstBursts else s.rau.episode.pattern) ∧
      (n = if s.settings.tollSaver = true ∧ ∃ e, e ∈ s.store.dir ∧ e.state = EntryState.complete ∧ e.isNew = true ∧
      (e.kind = MsgKind.voiceMsg ∨ e.kind = MsgKind.faxIn) then s.settings.tollSaverRings else s.settings.ringsToAnswer.get p) ∧
      s.ccu.line = LineState.ringing ∧ s.lif.lineInUse = false ∧ s.power.low = false ∧
      n ≤ bump 65535 s.rau.episode.ringCount ∧ s.settings.answerAction.get p = AnswerAction.discriminate ∧
      s.voice.op.operation = none ∧ s.voice.op.user = none ∧ s.store.greetingFor p = some id) ∧
    (∃ (c : Instr) (n : Nat) (p : Nat) (s : State), ((c = Instr.cycleEnd ∧ ∃ due,
      s.rau.deadlines.cycleEnd = some due ∧
      (s.rau.presence = Presence.none ∨ ¬s.startedBefore due)) ∨ c = Instr.presenceHangoverExpiry ∧
      s.lif.ringPresent = true ∧ s.timers.e1.mode = TimerMode.capture ∧ s.rau.presence = Presence.pending ∧
      s.rau.deadlines.heldCycleEnd = true ∧ s.rau.deadlines.heldEpisodeEnd = false) ∧ s.rau.episode.active = true ∧
      (p = if s.rau.episode.firstInProgress = true then min 3 s.rau.episode.firstBursts else s.rau.episode.pattern) ∧
      (n = if s.settings.tollSaver = true ∧ ∃ e, e ∈ s.store.dir ∧ e.state = EntryState.complete ∧ e.isNew = true ∧
      (e.kind = MsgKind.voiceMsg ∨ e.kind = MsgKind.faxIn) then s.settings.tollSaverRings else s.settings.ringsToAnswer.get p) ∧
      s.ccu.line = LineState.ringing ∧ s.lif.lineInUse = false ∧ s.power.low = false ∧
      n ≤ bump 65535 s.rau.episode.ringCount ∧ s.settings.answerAction.get p = AnswerAction.discriminate ∧
      s.voice.op.operation = none ∧ s.voice.op.user = none ∧ s.store.greetingFor p = none ∧ s.storeHasRoom = true) ∧
    (∃ (c : Instr) (n : Nat) (p : Nat) (s : State), ((c = Instr.cycleEnd ∧ ∃ due,
      s.rau.deadlines.cycleEnd = some due ∧
      (s.rau.presence = Presence.none ∨ ¬s.startedBefore due)) ∨ c = Instr.presenceHangoverExpiry ∧
      s.lif.ringPresent = true ∧ s.timers.e1.mode = TimerMode.capture ∧ s.rau.presence = Presence.pending ∧
      s.rau.deadlines.heldCycleEnd = true ∧ s.rau.deadlines.heldEpisodeEnd = false) ∧ s.rau.episode.active = true ∧
      (p = if s.rau.episode.firstInProgress = true then min 3 s.rau.episode.firstBursts else s.rau.episode.pattern) ∧
      (n = if s.settings.tollSaver = true ∧ ∃ e, e ∈ s.store.dir ∧ e.state = EntryState.complete ∧ e.isNew = true ∧
      (e.kind = MsgKind.voiceMsg ∨ e.kind = MsgKind.faxIn) then s.settings.tollSaverRings else s.settings.ringsToAnswer.get p) ∧
      s.ccu.line = LineState.ringing ∧ s.lif.lineInUse = false ∧ s.power.low = false ∧
      n ≤ bump 65535 s.rau.episode.ringCount ∧ s.settings.answerAction.get p = AnswerAction.discriminate ∧
      s.voice.op.operation = none ∧ s.voice.op.user = none ∧ s.store.greetingFor p = none ∧ s.storeHasRoom = false ∧
      s.settings.quietHangsUp = false ∧ s.settings.faxToStore = false ∧ s.sys.ready = true ∧
      max 2 s.settings.rungFloor ≤ min 7 s.settings.rungCeiling) ∧
    (∃ (c : Instr) (n : Nat) (p : Nat) (s : State), ((c = Instr.cycleEnd ∧ ∃ due,
      s.rau.deadlines.cycleEnd = some due ∧
      (s.rau.presence = Presence.none ∨ ¬s.startedBefore due)) ∨ c = Instr.presenceHangoverExpiry ∧
      s.lif.ringPresent = true ∧ s.timers.e1.mode = TimerMode.capture ∧ s.rau.presence = Presence.pending ∧
      s.rau.deadlines.heldCycleEnd = true ∧ s.rau.deadlines.heldEpisodeEnd = false) ∧ s.rau.episode.active = true ∧
      (p = if s.rau.episode.firstInProgress = true then min 3 s.rau.episode.firstBursts else s.rau.episode.pattern) ∧
      (n = if s.settings.tollSaver = true ∧ ∃ e, e ∈ s.store.dir ∧ e.state = EntryState.complete ∧ e.isNew = true ∧
      (e.kind = MsgKind.voiceMsg ∨ e.kind = MsgKind.faxIn) then s.settings.tollSaverRings else s.settings.ringsToAnswer.get p) ∧
      s.ccu.line = LineState.ringing ∧ s.lif.lineInUse = false ∧ s.power.low = false ∧
      n ≤ bump 65535 s.rau.episode.ringCount ∧ s.settings.answerAction.get p = AnswerAction.discriminate ∧
      s.voice.op.operation = none ∧ s.voice.op.user = none ∧ s.store.greetingFor p = none ∧ s.storeHasRoom = false ∧
      s.settings.quietHangsUp = false ∧ (s.settings.faxToStore = true ∨ s.sys.ready = false)) ∧
    (∃ (c : Instr) (n : Nat) (p : Nat) (s : State), ((c = Instr.cycleEnd ∧ ∃ due,
      s.rau.deadlines.cycleEnd = some due ∧
      (s.rau.presence = Presence.none ∨ ¬s.startedBefore due)) ∨ c = Instr.presenceHangoverExpiry ∧
      s.lif.ringPresent = true ∧ s.timers.e1.mode = TimerMode.capture ∧ s.rau.presence = Presence.pending ∧
      s.rau.deadlines.heldCycleEnd = true ∧ s.rau.deadlines.heldEpisodeEnd = false) ∧ s.rau.episode.active = true ∧
      (p = if s.rau.episode.firstInProgress = true then min 3 s.rau.episode.firstBursts else s.rau.episode.pattern) ∧
      (n = if s.settings.tollSaver = true ∧ ∃ e, e ∈ s.store.dir ∧ e.state = EntryState.complete ∧ e.isNew = true ∧
      (e.kind = MsgKind.voiceMsg ∨ e.kind = MsgKind.faxIn) then s.settings.tollSaverRings else s.settings.ringsToAnswer.get p) ∧
      s.ccu.line = LineState.ringing ∧ s.lif.lineInUse = false ∧ s.power.low = false ∧
      n ≤ bump 65535 s.rau.episode.ringCount ∧ s.settings.answerAction.get p = AnswerAction.discriminate ∧
      s.voice.op.operation = none ∧ s.voice.op.user = none ∧ s.store.greetingFor p = none ∧ s.storeHasRoom = false ∧
      s.settings.quietHangsUp = true) ∧
    (∃ (c : Instr) (n : Nat) (p : Nat) (s : State), ((c = Instr.cycleEnd ∧ ∃ due,
      s.rau.deadlines.cycleEnd = some due ∧
      (s.rau.presence = Presence.none ∨ ¬s.startedBefore due)) ∨ c = Instr.presenceHangoverExpiry ∧
      s.lif.ringPresent = true ∧ s.timers.e1.mode = TimerMode.capture ∧ s.rau.presence = Presence.pending ∧
      s.rau.deadlines.heldCycleEnd = true ∧ s.rau.deadlines.heldEpisodeEnd = false) ∧ s.rau.episode.active = true ∧
      (p = if s.rau.episode.firstInProgress = true then min 3 s.rau.episode.firstBursts else s.rau.episode.pattern) ∧
      (n = if s.settings.tollSaver = true ∧ ∃ e, e ∈ s.store.dir ∧ e.state = EntryState.complete ∧ e.isNew = true ∧
      (e.kind = MsgKind.voiceMsg ∨ e.kind = MsgKind.faxIn) then s.settings.tollSaverRings else s.settings.ringsToAnswer.get p) ∧
      s.ccu.line = LineState.ringing ∧ s.lif.lineInUse = false ∧ s.power.low = false ∧
      n ≤ bump 65535 s.rau.episode.ringCount ∧ s.settings.answerAction.get p = AnswerAction.fax ∧
      min 7 s.settings.rungCeiling < max 2 s.settings.rungFloor ∧ (s.settings.faxToStore = false ∧
      s.sys.ready = true ∨ s.storeHasRoom = true ∧ s.canCreate = true)) ∧
    (∃ (c : Instr) (n : Nat) (p : Nat) (s : State) (u : Port) (id : Nat) (m : Nat) (x : Entry),
      ((c = Instr.cycleEnd ∧ ∃ due, s.rau.deadlines.cycleEnd = some due ∧
      (s.rau.presence = Presence.none ∨ ¬s.startedBefore due)) ∨ c = Instr.presenceHangoverExpiry ∧
      s.lif.ringPresent = true ∧ s.timers.e1.mode = TimerMode.capture ∧ s.rau.presence = Presence.pending ∧
      s.rau.deadlines.heldCycleEnd = true ∧ s.rau.deadlines.heldEpisodeEnd = false) ∧ s.rau.episode.active = true ∧
      (p = if s.rau.episode.firstInProgress = true then min 3 s.rau.episode.firstBursts else s.rau.episode.pattern) ∧
      (n = if s.settings.tollSaver = true ∧ ∃ e, e ∈ s.store.dir ∧ e.state = EntryState.complete ∧ e.isNew = true ∧
      (e.kind = MsgKind.voiceMsg ∨ e.kind = MsgKind.faxIn) then s.settings.tollSaverRings else s.settings.ringsToAnswer.get p) ∧
      s.ccu.line = LineState.ringing ∧ s.lif.lineInUse = false ∧ s.power.low = false ∧
      n ≤ bump 65535 s.rau.episode.ringCount ∧ s.settings.answerAction.get p = AnswerAction.discriminate ∧
      s.store.greetingFor p = some id ∧ s.voice.op.user = some u.party ∧ s.voice.op.endpoint = some Endpoint.local ∧
      s.voice.op.message = some m ∧ s.store.find m = some x ∧ id ≠ m ∧
      s.voice.op.operation = some VoiceOperation.play ∧ x.state ≠ EntryState.doomed) ∧
    (∃ (c : Instr) (n : Nat) (p : Nat) (s : State) (u : Port) (id : Nat) (m : Nat) (x : Entry),
      ((c = Instr.cycleEnd ∧ ∃ due, s.rau.deadlines.cycleEnd = some due ∧
      (s.rau.presence = Presence.none ∨ ¬s.startedBefore due)) ∨ c = Instr.presenceHangoverExpiry ∧
      s.lif.ringPresent = true ∧ s.timers.e1.mode = TimerMode.capture ∧ s.rau.presence = Presence.pending ∧
      s.rau.deadlines.heldCycleEnd = true ∧ s.rau.deadlines.heldEpisodeEnd = false) ∧ s.rau.episode.active = true ∧
      (p = if s.rau.episode.firstInProgress = true then min 3 s.rau.episode.firstBursts else s.rau.episode.pattern) ∧
      (n = if s.settings.tollSaver = true ∧ ∃ e, e ∈ s.store.dir ∧ e.state = EntryState.complete ∧ e.isNew = true ∧
      (e.kind = MsgKind.voiceMsg ∨ e.kind = MsgKind.faxIn) then s.settings.tollSaverRings else s.settings.ringsToAnswer.get p) ∧
      s.ccu.line = LineState.ringing ∧ s.lif.lineInUse = false ∧ s.power.low = false ∧
      n ≤ bump 65535 s.rau.episode.ringCount ∧ s.settings.answerAction.get p = AnswerAction.discriminate ∧
      s.store.greetingFor p = some id ∧ s.voice.op.user = some u.party ∧ s.voice.op.endpoint = some Endpoint.local ∧
      s.voice.op.message = some m ∧ s.store.find m = some x ∧ id ≠ m ∧
      s.voice.op.operation = some VoiceOperation.record ∧ s.voice.op.lastLoud = none ∧ (∀ (b : TakenBlock),
      b ∈ s.voice.op.taken → b.loud = false)) ∧
    (∃ (due : Nat) (s : State), s.rau.deadlines.episodeEnd = some due ∧
      (s.rau.presence = Presence.none ∨ ¬s.startedBefore due) ∧ s.rau.episode.active = true ∧
      (s.ccu.line ≠ LineState.ringing ∨ s.ccu.claims = [] ∨ s.lif.lineInUse = true)) ∧
    (∃ (due : Nat) (s : State) (c : Claim) (rest : List Claim), s.rau.deadlines.episodeEnd = some due ∧
      (s.rau.presence = Presence.none ∨ ¬s.startedBefore due) ∧ s.rau.episode.active = true ∧
      s.ccu.line = LineState.ringing ∧ s.ccu.claims = c :: rest ∧ s.lif.lineInUse = false ∧ s.power.low = false) :=
  ⟨⟨.cycleEnd, 2, 1, { t0 with
       rau.presence := .none, rau.episode.active := true, rau.deadlines.cycleEnd := some 5,
       settings.ringsToAnswer := ⟨2, 2, 2⟩, rau.episode.ringCount := 1, rau.episode.pattern := 1,
       ccu.line := .ringing, settings.answerAction := ⟨.data, .data, .data⟩, sys.ready := false }, by decide⟩,
   ⟨.cycleEnd, 2, 1, { t0 with
       rau.presence := .none, rau.episode.active := true, ccu.line := .ringing, lif.lineInUse := false,
       power.low := false, sys.ready := true, rau.deadlines.cycleEnd := some 5, settings.ringsToAnswer := ⟨2, 2, 2⟩,
       rau.episode.ringCount := 1, rau.episode.pattern := 1, settings.answerAction := ⟨.data, .data, .data⟩ },
       by decide⟩,
   ⟨.cycleEnd, 2, 1, { t0 with
       rau.presence := .none, rau.episode.active := true, ccu.line := .ringing, lif.lineInUse := false,
       power.low := false, settings.faxToStore := false, sys.ready := true, rau.deadlines.cycleEnd := some 5,
       settings.ringsToAnswer := ⟨2, 2, 2⟩, rau.episode.ringCount := 1, rau.episode.pattern := 1,
       settings.answerAction := ⟨.fax, .fax, .fax⟩ }, by decide⟩,
   ⟨.cycleEnd, 2, 1, { t0 with
       rau.presence := .none, rau.episode.active := true, ccu.line := .ringing, lif.lineInUse := false,
       power.low := false, settings.faxToStore := true, rau.deadlines.cycleEnd := some 5,
       settings.ringsToAnswer := ⟨2, 2, 2⟩, rau.episode.ringCount := 1, rau.episode.pattern := 1,
       settings.lowSpaceGranules := 2, settings.answerAction := ⟨.fax, .fax, .fax⟩ }, by decide⟩,
   ⟨.cycleEnd, 2, 1, { t0 with
       rau.presence := .none, rau.episode.active := true, ccu.line := .ringing, lif.lineInUse := false,
       power.low := false, voice.op.operation := none, voice.op.user := none, rau.deadlines.cycleEnd := some 5,
       settings.ringsToAnswer := ⟨2, 2, 2⟩, rau.episode.ringCount := 1, rau.episode.pattern := 1,
       store.dir := [{ entry 9 .greeting .complete 40 [18] with slot := some 0 }] }, 9, by decide⟩,
   ⟨.cycleEnd, 2, 1, { t0 with
       rau.presence := .none, rau.episode.active := true, ccu.line := .ringing, lif.lineInUse := false,
       power.low := false, voice.op.operation := none, voice.op.user := none, rau.deadlines.cycleEnd := some 5,
       settings.ringsToAnswer := ⟨2, 2, 2⟩, rau.episode.ringCount := 1, rau.episode.pattern := 1,
       settings.lowSpaceGranules := 2 }, by decide⟩,
   ⟨.cycleEnd, 2, 1, { t0 with
       rau.presence := .none, rau.episode.active := true, ccu.line := .ringing, lif.lineInUse := false,
       power.low := false, voice.op.operation := none, voice.op.user := none, settings.quietHangsUp := false,
       settings.faxToStore := false, sys.ready := true, rau.deadlines.cycleEnd := some 5,
       settings.ringsToAnswer := ⟨2, 2, 2⟩, rau.episode.ringCount := 1, rau.episode.pattern := 1, store.free := [] },
       by decide⟩,
   ⟨.cycleEnd, 2, 1, { t0 with
       rau.presence := .none, rau.episode.active := true, ccu.line := .ringing, lif.lineInUse := false,
       power.low := false, voice.op.operation := none, voice.op.user := none, settings.quietHangsUp := false,
       settings.faxToStore := true, rau.deadlines.cycleEnd := some 5, settings.ringsToAnswer := ⟨2, 2, 2⟩,
       rau.episode.ringCount := 1, rau.episode.pattern := 1, store.free := [] }, by decide⟩,
   ⟨.cycleEnd, 2, 1, { t0 with
       rau.presence := .none, rau.episode.active := true, ccu.line := .ringing, lif.lineInUse := false,
       power.low := false, voice.op.operation := none, voice.op.user := none, settings.quietHangsUp := true,
       rau.deadlines.cycleEnd := some 5, settings.ringsToAnswer := ⟨2, 2, 2⟩, rau.episode.ringCount := 1,
       rau.episode.pattern := 1, store.free := [] }, by decide⟩,
   ⟨.cycleEnd, 2, 1, { t0 with
       rau.presence := .none, rau.episode.active := true, ccu.line := .ringing, lif.lineInUse := false,
       power.low := false, settings.faxToStore := false, sys.ready := true, rau.deadlines.cycleEnd := some 5,
       settings.ringsToAnswer := ⟨2, 2, 2⟩, rau.episode.ringCount := 1, rau.episode.pattern := 1,
       settings.answerAction := ⟨.fax, .fax, .fax⟩, settings.rungFloor := 4, settings.rungCeiling := 1 }, by decide⟩,
   ⟨.cycleEnd, 2, 1, { t0 with
       rau.presence := .none, rau.episode.active := true, ccu.line := .ringing, lif.lineInUse := false,
       power.low := false, voice.op.user := some (Port.party .panel), voice.op.endpoint := some Endpoint.local,
       voice.op.message := some (1), voice.op.operation := some VoiceOperation.play,
       rau.deadlines.cycleEnd := some 5, settings.ringsToAnswer := ⟨2, 2, 2⟩, rau.episode.ringCount := 1,
       rau.episode.pattern := 1,
       store.dir := [{ entry 9 .greeting .complete 40 [18] with slot := some 0 }, memo1, memo2] }, .panel, 9, 1,
       memo1, by decide⟩,
   ⟨.cycleEnd, 2, 1, { t0 with
       rau.presence := .none, rau.episode.active := true, ccu.line := .ringing, lif.lineInUse := false,
       power.low := false, voice.op.user := some (Port.party .panel), voice.op.endpoint := some Endpoint.local,
       voice.op.message := some (2), voice.op.operation := some VoiceOperation.record, voice.op.lastLoud := none,
       rau.deadlines.cycleEnd := some 5, settings.ringsToAnswer := ⟨2, 2, 2⟩, rau.episode.ringCount := 1,
       rau.episode.pattern := 1,
       store.dir := [{ entry 9 .greeting .complete 40 [18] with slot := some 0 }, memo1, memo2] }, .panel, 9, 2,
       memo2, by decide⟩,
   ⟨1, { t0 with
       rau.deadlines.episodeEnd := some (1), rau.presence := Presence.none, rau.episode.active := true }, by decide⟩,
   ⟨1, { t0 with
       rau.deadlines.episodeEnd := some (1), rau.presence := Presence.none, rau.episode.active := true,
       ccu.line := LineState.ringing, ccu.claims := (⟨.panel, [], .voice, false⟩) :: ([]), lif.lineInUse := false,
       power.low := false, settings.answerAction := ⟨.data, .data, .data⟩, settings.ringsToAnswer := ⟨2, 2, 2⟩,
       rau.episode.ringCount := 1, rau.episode.pattern := 1 }, ⟨.panel, [], .voice, false⟩, [], by decide⟩⟩

theorem witness_FaxNextDecides :
    (∃ (f : Frame) (s : State) (choice : Byte) (m : FaxMore), s.Takes f 96#8 ∧ s.outgoingFax ∧
      s.holder = some f.port.party ∧ moreOf choice = some m ∧ s.fax.place = FaxPlace.port ∧
      s.fax.phase = some FaxPhase.page ∧ s.fax.pageFromPort = true ∧ s.ccu.ending = none ∧ s.fax.markSent = true) ∧
    (∃ (f : Frame) (s : State) (choice : Byte) (m : FaxMore), s.Takes f 96#8 ∧ s.outgoingFax ∧
      s.holder = some f.port.party ∧ moreOf choice = some m ∧ s.fax.place = FaxPlace.port ∧
      s.fax.phase = some FaxPhase.page ∧ s.fax.pageFromPort = true ∧ s.ccu.ending = none ∧ s.fax.markSent = false) ∧
    (∃ (f : Frame) (s : State) (id : Byte) (e : Entry), s.Takes f 96#8 ∧ s.outgoingFax ∧
      s.holder = some f.port.party ∧ s.fax.place = FaxPlace.undecided ∧ s.store.visible (BitVec.toNat id) = some e ∧
      e.state = EntryState.complete ∧ e.kind = MsgKind.faxOut ∧ e.pageCount ≠ 0) :=
  ⟨⟨sysFrame, { t0 with
       ccu.call.active := true, ccu.call.job := .fax, ccu.call.direction := .outgoing,
       ccu.call.holder := some (Port.party .system), fax.place := FaxPlace.port, fax.phase := some FaxPhase.page,
       fax.pageFromPort := true, ccu.ending := none, fax.markSent := true }, 0#8, .more, by decide⟩,
   ⟨sysFrame, { t0 with
       ccu.call.active := true, ccu.call.job := .fax, ccu.call.direction := .outgoing,
       ccu.call.holder := some (Port.party .system), fax.place := FaxPlace.port, fax.phase := some FaxPhase.page,
       fax.pageFromPort := true, ccu.ending := none, fax.markSent := false }, 0#8, .more, by decide⟩,
   ⟨sysFrame, { t0 with
       ccu.call.active := true, ccu.call.job := .fax, ccu.call.direction := .outgoing,
       ccu.call.holder := some (Port.party .system), fax.place := FaxPlace.undecided }, 3#8, faxOut3, by decide⟩⟩

theorem witness_FaxPageSent :
    (∃ (s : State), s.faxRole FaxRole.sender ∧ s.fax.phase = some FaxPhase.page ∧ s.fax.markSent = false ∧
      s.fax.place = FaxPlace.port ∧ s.fax.markOut = false ∧ (s.link.outbound = [] ∨ s.link.outbound = [16#8] ∧
      s.fax.inPair = false)) ∧
    (∃ (s : State) (b : Byte) (rest : List Byte), s.faxRole FaxRole.sender ∧ s.fax.phase = some FaxPhase.page ∧
      s.fax.markSent = false ∧ s.fax.place = FaxPlace.port ∧ s.fax.markOut = false ∧ s.link.outbound = b :: rest ∧
      s.fax.inPair = false ∧ b ≠ 16#8) ∧
    (∃ (s : State) (c : BitVec 8) (rest : List (BitVec 8)), s.faxRole FaxRole.sender ∧
      s.fax.phase = some FaxPhase.page ∧ s.fax.markSent = false ∧ s.fax.place = FaxPlace.port ∧
      s.fax.markOut = false ∧ s.link.outbound = 16#8 :: c :: rest ∧ s.fax.inPair = false ∧ c = 10#8 ∧
      s.fax.lineLength + 2 < minLineLength (s.fax.rung.getD 0) s.fax.scanMs) ∧
    (∃ (s : State) (c : BitVec 8) (rest : List (BitVec 8)), s.faxRole FaxRole.sender ∧
      s.fax.phase = some FaxPhase.page ∧ s.fax.markSent = false ∧ s.fax.place = FaxPlace.port ∧
      s.fax.markOut = false ∧ s.link.outbound = 16#8 :: c :: rest ∧ s.fax.inPair = false ∧
      (c ≠ 10#8 ∨ minLineLength (s.fax.rung.getD 0) s.fax.scanMs ≤ s.fax.lineLength + 2)) ∧
    (∃ (s : State) (b : Byte) (rest : List Byte), s.faxRole FaxRole.sender ∧ s.fax.phase = some FaxPhase.page ∧
      s.fax.markSent = false ∧ s.fax.place = FaxPlace.port ∧ s.fax.markOut = false ∧ s.link.outbound = b :: rest ∧
      s.fax.inPair = true ∧ b ≠ 10#8) ∧
    (∃ (s : State) (b : Byte) (rest : List Byte), s.faxRole FaxRole.sender ∧ s.fax.phase = some FaxPhase.page ∧
      s.fax.markSent = false ∧ s.fax.place = FaxPlace.port ∧ s.fax.markOut = false ∧ s.link.outbound = b :: rest ∧
      s.fax.inPair = true ∧ b = 10#8) ∧
    (∃ (s : State), s.faxRole FaxRole.sender ∧ s.fax.phase = some FaxPhase.page ∧ s.fax.markSent = false ∧
      s.fax.place = FaxPlace.port ∧ s.fax.markOut = true ∧ s.fax.more = none) ∧
    (∃ (s : State) (m : FaxMore), s.faxRole FaxRole.sender ∧ s.fax.phase = some FaxPhase.page ∧
      s.fax.markSent = false ∧ s.fax.place = FaxPlace.port ∧ s.fax.markOut = true ∧ s.fax.more = some m) ∧
    (∃ (s : State) (e : Entry) (b : Byte), s.faxRole FaxRole.sender ∧ s.fax.phase = some FaxPhase.page ∧
      s.fax.markSent = false ∧ s.fax.place = FaxPlace.store ∧ s.faxOut = some e ∧ s.fax.markOut = false ∧
      s.fax.position < e.pageEndOf s.fax.page ∧ Mem.read s.store.mem (e.address s.fax.position) = b ∧
      s.fax.inPair = false ∧ b ≠ 16#8) ∧
    (∃ (s : State) (e : Entry) (b : Byte), s.faxRole FaxRole.sender ∧ s.fax.phase = some FaxPhase.page ∧
      s.fax.markSent = false ∧ s.fax.place = FaxPlace.store ∧ s.faxOut = some e ∧ s.fax.markOut = false ∧
      s.fax.position < e.pageEndOf s.fax.page ∧ Mem.read s.store.mem (e.address s.fax.position) = b ∧
      s.fax.inPair = false ∧ b = 16#8 ∧ s.fax.position + 1 < e.pageEndOf s.fax.page ∧
      Mem.read s.store.mem (e.address (s.fax.position + 1)) = 10#8 ∧
      s.fax.lineLength + 2 < minLineLength (s.fax.rung.getD 0) s.fax.scanMs) ∧
    (∃ (s : State) (e : Entry) (b : Byte), s.faxRole FaxRole.sender ∧ s.fax.phase = some FaxPhase.page ∧
      s.fax.markSent = false ∧ s.fax.place = FaxPlace.store ∧ s.faxOut = some e ∧ s.fax.markOut = false ∧
      s.fax.position < e.pageEndOf s.fax.page ∧ Mem.read s.store.mem (e.address s.fax.position) = b ∧
      s.fax.inPair = false ∧ b = 16#8 ∧
      (e.pageEndOf s.fax.page ≤ s.fax.position + 1 ∨ Mem.read s.store.mem (e.address (s.fax.position + 1)) ≠ 10#8 ∨ minLineLength (s.fax.rung.getD 0) s.fax.scanMs ≤ s.fax.lineLength + 2)) ∧
    (∃ (s : State) (e : Entry) (b : Byte), s.faxRole FaxRole.sender ∧ s.fax.phase = some FaxPhase.page ∧
      s.fax.markSent = false ∧ s.fax.place = FaxPlace.store ∧ s.faxOut = some e ∧ s.fax.markOut = false ∧
      s.fax.position < e.pageEndOf s.fax.page ∧ Mem.read s.store.mem (e.address s.fax.position) = b ∧
      s.fax.inPair = true) ∧
    (∃ (s : State) (e : Entry), s.faxRole FaxRole.sender ∧ s.fax.phase = some FaxPhase.page ∧
      s.fax.markSent = false ∧ s.fax.place = FaxPlace.store ∧ s.faxOut = some e ∧
      (s.fax.markOut = true ∨ e.pageEndOf s.fax.page ≤ s.fax.position)) :=
  ⟨⟨{ t0 with
       ccu.call.active := true, ccu.call.job := .fax, fax.role := some FaxRole.sender,
       fax.phase := some FaxPhase.page, fax.markSent := false, fax.place := FaxPlace.port, fax.markOut := false,
       link.outbound := [] }, by decide⟩,
   ⟨{ t0 with
       ccu.call.active := true, ccu.call.job := .fax, fax.role := some FaxRole.sender,
       fax.phase := some FaxPhase.page, fax.markSent := false, fax.place := FaxPlace.port, fax.markOut := false,
       link.outbound := (1#8) :: ([]), fax.inPair := false }, 1#8, [], by decide⟩,
   ⟨{ t0 with
       ccu.call.active := true, ccu.call.job := .fax, fax.role := some FaxRole.sender,
       fax.phase := some FaxPhase.page, fax.markSent := false, fax.place := FaxPlace.port, fax.markOut := false,
       link.outbound := 16#8 :: (10#8) :: ([]), fax.inPair := false, fax.rung := some 7, fax.scanMs := 20 }, 10#8,
       [], by decide⟩,
   ⟨{ t0 with
       ccu.call.active := true, ccu.call.job := .fax, fax.role := some FaxRole.sender,
       fax.phase := some FaxPhase.page, fax.markSent := false, fax.place := FaxPlace.port, fax.markOut := false,
       link.outbound := 16#8 :: (1#8) :: ([]), fax.inPair := false }, 1#8, [], by decide⟩,
   ⟨{ t0 with
       ccu.call.active := true, ccu.call.job := .fax, fax.role := some FaxRole.sender,
       fax.phase := some FaxPhase.page, fax.markSent := false, fax.place := FaxPlace.port, fax.markOut := false,
       link.outbound := (1#8) :: ([]), fax.inPair := true }, 1#8, [], by decide⟩,
   ⟨{ t0 with
       ccu.call.active := true, ccu.call.job := .fax, fax.role := some FaxRole.sender,
       fax.phase := some FaxPhase.page, fax.markSent := false, fax.place := FaxPlace.port, fax.markOut := false,
       link.outbound := (10#8) :: ([]), fax.inPair := true }, 10#8, [], by decide⟩,
   ⟨{ t0 with
       ccu.call.active := true, ccu.call.job := .fax, fax.role := some FaxRole.sender,
       fax.phase := some FaxPhase.page, fax.markSent := false, fax.place := FaxPlace.port, fax.markOut := true,
       fax.more := none }, by decide⟩,
   ⟨{ t0 with
       ccu.call.active := true, ccu.call.job := .fax, fax.role := some FaxRole.sender,
       fax.phase := some FaxPhase.page, fax.markSent := false, fax.place := FaxPlace.port, fax.markOut := true,
       fax.more := some (.more) }, .more, by decide⟩,
   ⟨{ t0 with
       ccu.call.active := true, ccu.call.job := .fax, fax.role := some FaxRole.sender,
       fax.phase := some FaxPhase.page, fax.markSent := false, fax.place := FaxPlace.store, fax.markOut := false,
       fax.inPair := false, fax.linkedId := some 3, fax.page := 1, fax.position := 2 }, faxOut3, 0#8, by decide⟩,
   ⟨{ t0 with
       ccu.call.active := true, ccu.call.job := .fax, fax.role := some FaxRole.sender,
       fax.phase := some FaxPhase.page, fax.markSent := false, fax.place := FaxPlace.store, fax.markOut := false,
       fax.inPair := false, fax.linkedId := some 3, fax.page := 1, fax.position := 5,
       store.mem := [(18 * 1024 + 5, 0x10#8), (18 * 1024 + 6, 0x0A#8), (18 * 1024 + 7, 0x10#8)], fax.rung := some 7,
       fax.scanMs := 20 }, faxOut3, 16#8, by decide⟩,
   ⟨{ t0 with
       ccu.call.active := true, ccu.call.job := .fax, fax.role := some FaxRole.sender,
       fax.phase := some FaxPhase.page, fax.markSent := false, fax.place := FaxPlace.store, fax.markOut := false,
       fax.inPair := false, fax.linkedId := some 3, fax.page := 1, fax.position := 7,
       store.mem := [(18 * 1024 + 5, 0x10#8), (18 * 1024 + 6, 0x0A#8), (18 * 1024 + 7, 0x10#8)] }, faxOut3, 16#8,
       by decide⟩,
   ⟨{ t0 with
       ccu.call.active := true, ccu.call.job := .fax, fax.role := some FaxRole.sender,
       fax.phase := some FaxPhase.page, fax.markSent := false, fax.place := FaxPlace.store, fax.markOut := false,
       fax.inPair := true, fax.linkedId := some 3, fax.page := 1, fax.position := 6,
       store.mem := [(18 * 1024 + 5, 0x10#8), (18 * 1024 + 6, 0x0A#8), (18 * 1024 + 7, 0x10#8)] }, faxOut3, 10#8,
       by decide⟩,
   ⟨{ t0 with
       ccu.call.active := true, ccu.call.job := .fax, fax.role := some FaxRole.sender,
       fax.phase := some FaxPhase.page, fax.markSent := false, fax.place := FaxPlace.store, fax.markOut := false,
       fax.linkedId := some 3, fax.page := 1, fax.position := 8 }, faxOut3, by decide⟩⟩

theorem witness_FaxPageTaken :
    (∃ (s : State), s.faxRole FaxRole.receiver ∧ s.fax.phase = some FaxPhase.page ∧ s.fax.dataBegun = false) ∧
    (∃ (s : State) (b : Byte), s.faxRole FaxRole.receiver ∧ s.fax.phase = some FaxPhase.page ∧
      s.fax.dataBegun = true ∧ s.fax.place = FaxPlace.port ∧ s.fax.inPair = false ∧ s.link.inbound.length < 1024) ∧
    (∃ (s : State) (b : Byte), s.faxRole FaxRole.receiver ∧ s.fax.phase = some FaxPhase.page ∧
      s.fax.dataBegun = true ∧ s.fax.place = FaxPlace.port ∧ s.fax.inPair = false ∧ 1024 ≤ s.link.inbound.length) ∧
    (∃ (s : State), s.faxRole FaxRole.receiver ∧ s.fax.phase = some FaxPhase.page ∧ s.fax.dataBegun = true ∧
      s.fax.place = FaxPlace.port ∧ s.fax.inPair = true ∧ 1024 ≤ s.link.inbound.length) ∧
    (∃ (s : State) (b : Byte), s.faxRole FaxRole.receiver ∧ s.fax.phase = some FaxPhase.page ∧
      s.fax.dataBegun = true ∧ s.fax.place = FaxPlace.port ∧ s.fax.inPair = true ∧ b ≠ 10#8 ∧ b ≠ 12#8) ∧
    (∃ (s : State), s.faxRole FaxRole.receiver ∧ s.fax.phase = some FaxPhase.page ∧ s.fax.dataBegun = true ∧
      s.fax.place = FaxPlace.port ∧ s.fax.inPair = true ∧ s.link.inbound.length < 1024) ∧
    (∃ (s : State) (b : Byte) (id : Nat) (e : Entry), s.faxRole FaxRole.receiver ∧ s.fax.phase = some FaxPhase.page ∧
      s.fax.dataBegun = true ∧ s.fax.place = FaxPlace.store ∧ s.fax.linkedId = some id ∧ s.store.find id = some e ∧
      e.length < e.granules.length * 1024 ∧ s.fax.inPair = false ∧ Mem.wf s.store.mem = true) ∧
    (∃ (s : State) (b : Byte) (id : Nat) (e : Entry), s.faxRole FaxRole.receiver ∧ s.fax.phase = some FaxPhase.page ∧
      s.fax.dataBegun = true ∧ s.fax.place = FaxPlace.store ∧ s.fax.linkedId = some id ∧ s.store.find id = some e ∧
      e.length < e.granules.length * 1024 ∧ s.fax.inPair = true ∧ Mem.wf s.store.mem = true) ∧
    (∃ (s : State) (b : Byte) (id : Nat) (e : Entry) (g : Nat) (rest : List Nat), s.faxRole FaxRole.receiver ∧
      s.fax.phase = some FaxPhase.page ∧ s.fax.dataBegun = true ∧ s.fax.place = FaxPlace.store ∧
      s.fax.linkedId = some id ∧ s.store.find id = some e ∧ e.length = e.granules.length * 1024 ∧
      s.fax.inPair = false ∧ Mem.wf s.store.mem = true ∧ s.store.free = g :: rest) ∧
    (∃ (s : State) (b : Byte) (id : Nat) (e : Entry) (o : Nat), s.faxRole FaxRole.receiver ∧
      s.fax.phase = some FaxPhase.page ∧ s.fax.dataBegun = true ∧ s.fax.place = FaxPlace.store ∧
      s.fax.linkedId = some id ∧ s.store.find id = some e ∧ e.length = e.granules.length * 1024 ∧
      s.fax.inPair = false ∧ Mem.wf s.store.mem = true ∧ s.store.free = [] ∧ s.fax.pageStart = some o ∧
      s.ccu.ending = none ∧ s.voice.op.operation = none ∧ e.kind = MsgKind.faxIn) :=
  ⟨⟨{ t0 with
       ccu.call.active := true, ccu.call.job := .fax, fax.role := some FaxRole.receiver,
       fax.phase := some FaxPhase.page, fax.dataBegun := false }, by decide⟩,
   ⟨{ t0 with
       ccu.call.active := true, ccu.call.job := .fax, fax.role := some FaxRole.receiver,
       fax.phase := some FaxPhase.page, fax.dataBegun := true, fax.place := FaxPlace.port, fax.inPair := false },
       1#8, by decide⟩,
   ⟨{ t0 with
       ccu.call.active := true, ccu.call.job := .fax, fax.role := some FaxRole.receiver,
       fax.phase := some FaxPhase.page, fax.dataBegun := true, fax.place := FaxPlace.port, fax.inPair := false,
       link.inbound := List.replicate 1024 1#8 }, 1#8, by decide, by decide, by decide, by decide, by decide,
       Nat.le_of_eq List.length_replicate.symm⟩,
   ⟨{ t0 with
       ccu.call.active := true, ccu.call.job := .fax, fax.role := some FaxRole.receiver,
       fax.phase := some FaxPhase.page, fax.dataBegun := true, fax.place := FaxPlace.port, fax.inPair := true,
       link.inbound := List.replicate 1024 1#8 }, by decide, by decide, by decide, by decide, by decide,
       Nat.le_of_eq List.length_replicate.symm⟩,
   ⟨{ t0 with
       ccu.call.active := true, ccu.call.job := .fax, fax.role := some FaxRole.receiver,
       fax.phase := some FaxPhase.page, fax.dataBegun := true, fax.place := FaxPlace.port, fax.inPair := true }, 1#8,
       by decide⟩,
   ⟨{ t0 with
       ccu.call.active := true, ccu.call.job := .fax, fax.role := some FaxRole.receiver,
       fax.phase := some FaxPhase.page, fax.dataBegun := true, fax.place := FaxPlace.port, fax.inPair := true },
       by decide⟩,
   ⟨{ t0 with
       ccu.call.active := true, ccu.call.job := .fax, fax.role := some FaxRole.receiver,
       fax.phase := some FaxPhase.page, fax.dataBegun := true, fax.place := FaxPlace.store, fax.linkedId := some (1),
       fax.inPair := false }, 1#8, 1, memo1, by decide⟩,
   ⟨{ t0 with
       ccu.call.active := true, ccu.call.job := .fax, fax.role := some FaxRole.receiver,
       fax.phase := some FaxPhase.page, fax.dataBegun := true, fax.place := FaxPlace.store, fax.linkedId := some (1),
       fax.inPair := true }, 1#8, 1, memo1, by decide⟩,
   ⟨{ t0 with
       ccu.call.active := true, ccu.call.job := .fax, fax.role := some FaxRole.receiver,
       fax.phase := some FaxPhase.page, fax.dataBegun := true, fax.place := FaxPlace.store, fax.linkedId := some (4),
       fax.inPair := false, store.free := (19) :: ([20, 21]),
       store.dir := [{ entry 4 .faxIn .opened 1024 [17] with pageTable := [0] }] }, 1#8, 4,
       { entry 4 .faxIn .opened 1024 [17] with pageTable := [0] }, 19, [20, 21], by decide⟩,
   ⟨{ t0 with
       ccu.call.active := true, ccu.call.job := .fax, fax.role := some FaxRole.receiver,
       fax.phase := some FaxPhase.page, fax.dataBegun := true, fax.place := FaxPlace.store, fax.linkedId := some (4),
       fax.inPair := false, store.free := [], fax.pageStart := some (0), ccu.ending := none,
       voice.op.operation := none, store.dir := [{ entry 4 .faxIn .opened 1024 [17] with pageTable := [0] }] }, 1#8,
       4, { entry 4 .faxIn .opened 1024 [17] with pageTable := [0] }, 0, by decide⟩⟩

theorem witness_FaxSetUp :
    (∃ (s : State) (m : Byte) (r : Byte) (x : Byte), s.ccu.call.active = true ∧ s.ccu.call.job = Job.fax ∧
      s.fax.role = some FaxRole.sender ∧ s.fax.listens ∧ s.ccu.line = LineState.connected ∧
      s.fax.phase = some FaxPhase.setup ∧ s.fax.expect = FaxExpect.caps ∧
      s.fax.floor ≤ min (min 7 (BitVec.toNat m)) s.fax.ceiling) ∧
    (∃ (s : State) (m : Byte) (r : Byte) (x : Byte), s.ccu.call.active = true ∧ s.ccu.call.job = Job.fax ∧
      s.fax.role = some FaxRole.sender ∧ s.fax.listens ∧ s.ccu.line = LineState.connected ∧
      s.fax.phase = some FaxPhase.setup ∧ s.fax.expect = FaxExpect.caps ∧
      min (min 7 (BitVec.toNat m)) s.fax.ceiling < s.fax.floor ∧ s.ccu.ending = none) ∧
    (∃ (s : State), s.ccu.call.active = true ∧ s.ccu.call.job = Job.fax ∧ s.fax.role = some FaxRole.sender ∧
      s.fax.listens ∧ s.ccu.line = LineState.connected ∧ s.fax.phase = some FaxPhase.check ∧ s.fax.stale) ∧
    (∃ (s : State), s.ccu.call.active = true ∧ s.ccu.call.job = Job.fax ∧ s.fax.role = some FaxRole.sender ∧
      s.fax.listens ∧ s.ccu.line = LineState.connected ∧ s.fax.phase = some FaxPhase.check ∧ ¬s.fax.stale ∧
      s.fax.place = FaxPlace.store) ∧
    (∃ (s : State), s.ccu.call.active = true ∧ s.ccu.call.job = Job.fax ∧ s.fax.role = some FaxRole.sender ∧
      s.fax.listens ∧ s.ccu.line = LineState.connected ∧ s.fax.phase = some FaxPhase.check ∧ ¬s.fax.stale ∧
      s.fax.place = FaxPlace.port) ∧
    (∃ (s : State), s.ccu.call.active = true ∧ s.ccu.call.job = Job.fax ∧ s.fax.role = some FaxRole.sender ∧
      s.fax.listens ∧ s.ccu.line = LineState.connected ∧ s.fax.phase = some FaxPhase.check ∧ ¬s.fax.stale ∧
      s.fax.place = FaxPlace.undecided ∧ s.ccu.call.holder = some Party.system) ∧
    (∃ (s : State), s.ccu.call.active = true ∧ s.ccu.call.job = Job.fax ∧ s.fax.role = some FaxRole.sender ∧
      s.fax.listens ∧ s.ccu.line = LineState.connected ∧ s.fax.phase = some FaxPhase.check ∧ ¬s.fax.stale ∧
      s.fax.place = FaxPlace.undecided ∧ s.ccu.call.holder ≠ some Party.system ∧ s.ccu.ending = none) ∧
    (∃ (s : State), s.ccu.call.active = true ∧ s.ccu.call.job = Job.fax ∧ s.fax.role = some FaxRole.sender ∧
      s.fax.listens ∧ s.ccu.line = LineState.connected ∧ s.fax.phase = some FaxPhase.check ∧ ¬s.fax.stale ∧
      s.fax.floor ≤ s.fax.rung.getD 0 - 1) ∧
    (∃ (s : State), s.ccu.call.active = true ∧ s.ccu.call.job = Job.fax ∧ s.fax.role = some FaxRole.sender ∧
      s.fax.listens ∧ s.ccu.line = LineState.connected ∧ s.fax.phase = some FaxPhase.check ∧ ¬s.fax.stale ∧
      s.fax.rung.getD 0 - 1 < s.fax.floor ∧ s.ccu.ending = none) ∧
    (∃ (s : State) (m : Byte) (r : Byte) (x : Byte), s.ccu.call.active = true ∧ s.ccu.call.job = Job.fax ∧
      s.fax.role = some FaxRole.sender ∧ s.ccu.line = LineState.progress ∧ s.fax.phase = none ∧
      s.fax.checkSending = false ∧ max 2 s.settings.rungFloor ≤ min 7 s.settings.rungCeiling ∧
      max 2 s.settings.rungFloor ≤ BitVec.toNat m) ∧
    (∃ (s : State), s.ccu.call.active = true ∧ s.ccu.call.job = Job.fax ∧ s.fax.checkSending = true) ∧
    (∃ (s : State) (g : Byte) (r : Byte) (x : Byte), s.ccu.call.active = true ∧ s.ccu.call.job = Job.fax ∧
      s.fax.role = some FaxRole.receiver ∧ s.ccu.line = LineState.connected ∧ s.fax.listens ∧
      s.fax.phase = some FaxPhase.setup ∧ ¬s.fax.stale ∧ BitVec.toNat r < 2) ∧
    (∃ (s : State) (f : FaxFrame) (g : Byte) (r : Byte) (x : Byte), s.ccu.call.active = true ∧
      s.ccu.call.job = Job.fax ∧ s.fax.role = some FaxRole.receiver ∧ s.ccu.line = LineState.connected ∧
      s.fax.listens ∧ BitVec.toNat r < 2 ∧
      (s.fax.phase = some FaxPhase.check ∨ s.fax.phase = some FaxPhase.page ∨ s.fax.phase = some FaxPhase.postpage ∨ s.fax.phase = some FaxPhase.clearing ∨ s.fax.phase = some FaxPhase.setup ∧
      s.fax.stale) ∧ s.fax.lastFrame = some f) ∧
    (∃ (s : State) (g : Byte) (r : Byte) (x : Byte), s.ccu.call.active = true ∧ s.ccu.call.job = Job.fax ∧
      s.fax.role = some FaxRole.receiver ∧ s.ccu.line = LineState.connected ∧ 2 ≤ BitVec.toNat r) ∧
    (∃ (s : State) (q : Nat), s.ccu.call.active = true ∧ s.ccu.call.job = Job.fax ∧
      s.fax.role = some FaxRole.receiver ∧ s.ccu.line = LineState.connected ∧ s.fax.phase = some FaxPhase.check ∧
      (s.level.windowFull = false ∧ q = s.level.trainingQ.getD 0 ∨ s.level.windowFull = true ∧
      q = 47 - logCode (s.level.window.acc / 256)) ∧ s.fax.floor ≤ s.fax.rung.getD 0 ∧
      s.fax.rung.getD 0 ≤ s.fax.ceiling ∧ s.fax.checkOverloaded = false ∧
      (s.level.windowFull = false ∨ s.level.window.saturated = false) ∧
      s.fall (s.fax.rung.getD 0) + s.settings.faxMargin ≤ 8 * q) ∧
    (∃ (s : State) (q : Nat), s.ccu.call.active = true ∧ s.ccu.call.job = Job.fax ∧
      s.fax.role = some FaxRole.receiver ∧ s.ccu.line = LineState.connected ∧ s.fax.phase = some FaxPhase.check ∧
      (s.level.windowFull = false ∧ q = s.level.trainingQ.getD 0 ∨ s.level.windowFull = true ∧
      q = 47 - logCode (s.level.window.acc / 256)) ∧
      (s.fax.rung.getD 0 < s.fax.floor ∨ s.fax.ceiling < s.fax.rung.getD 0 ∨ s.fax.checkOverloaded = true ∨ s.level.windowFull = true ∧
      s.level.window.saturated = true ∨ 8 * q < s.fall (s.fax.rung.getD 0) + s.settings.faxMargin)) ∧
    (∃ (s : State) (run : List Byte), s.ccu.call.active = true ∧ s.ccu.call.job = Job.fax) :=
  ⟨⟨{ t0 with
       ccu.call.active := true, ccu.call.job := Job.fax, fax.role := some FaxRole.sender,
       ccu.line := LineState.connected, fax.phase := some FaxPhase.setup, fax.expect := FaxExpect.caps }, 2#8, 1#8,
       1#8, by decide⟩,
   ⟨{ t0 with
       ccu.call.active := true, ccu.call.job := Job.fax, fax.role := some FaxRole.sender,
       ccu.line := LineState.connected, fax.phase := some FaxPhase.setup, fax.expect := FaxExpect.caps,
       ccu.ending := none }, 1#8, 1#8, 1#8, by decide⟩,
   ⟨{ t0 with
       ccu.call.active := true, ccu.call.job := Job.fax, fax.role := some FaxRole.sender,
       ccu.line := LineState.connected, fax.phase := some .check, fax.unsent := true, fax.expect := .checkVerdict,
       fax.answered := [.caps, .checkVerdict] }, by decide⟩,
   ⟨{ t0 with
       ccu.call.active := true, ccu.call.job := Job.fax, fax.role := some FaxRole.sender,
       ccu.line := LineState.connected, fax.phase := some FaxPhase.check, fax.place := FaxPlace.store }, by decide⟩,
   ⟨{ t0 with
       ccu.call.active := true, ccu.call.job := Job.fax, fax.role := some FaxRole.sender,
       ccu.line := LineState.connected, fax.phase := some FaxPhase.check, fax.place := FaxPlace.port }, by decide⟩,
   ⟨{ t0 with
       ccu.call.active := true, ccu.call.job := Job.fax, fax.role := some FaxRole.sender,
       ccu.line := LineState.connected, fax.phase := some FaxPhase.check, fax.place := FaxPlace.undecided,
       ccu.call.holder := some Party.system }, by decide⟩,
   ⟨{ t0 with
       ccu.call.active := true, ccu.call.job := Job.fax, fax.role := some FaxRole.sender,
       ccu.line := LineState.connected, fax.phase := some FaxPhase.check, fax.place := FaxPlace.undecided,
       ccu.ending := none }, by decide⟩,
   ⟨{ t0 with
       ccu.call.active := true, ccu.call.job := Job.fax, fax.role := some FaxRole.sender,
       ccu.line := LineState.connected, fax.phase := some FaxPhase.check, fax.rung := some 3 }, by decide⟩,
   ⟨{ t0 with
       ccu.call.active := true, ccu.call.job := Job.fax, fax.role := some FaxRole.sender,
       ccu.line := LineState.connected, fax.phase := some FaxPhase.check, ccu.ending := none }, by decide⟩,
   ⟨{ t0 with
       ccu.call.active := true, ccu.call.job := Job.fax, fax.role := some FaxRole.sender,
       ccu.line := LineState.progress, fax.phase := none, fax.checkSending := false }, 2#8, 1#8, 1#8, by decide⟩,
   ⟨{ t0 with ccu.call.active := true, ccu.call.job := Job.fax, fax.checkSending := true }, by decide⟩,
   ⟨{ t0 with
       ccu.call.active := true, ccu.call.job := Job.fax, fax.role := some FaxRole.receiver,
       ccu.line := LineState.connected, fax.phase := some FaxPhase.setup }, 1#8, 1#8, 1#8, by decide⟩,
   ⟨{ t0 with
       ccu.call.active := true, ccu.call.job := Job.fax, fax.role := some FaxRole.receiver,
       ccu.line := LineState.connected, fax.phase := some FaxPhase.check, fax.lastFrame := some (.done) }, .done,
       1#8, 1#8, 1#8, by decide⟩,
   ⟨{ t0 with
       ccu.call.active := true, ccu.call.job := Job.fax, fax.role := some FaxRole.receiver,
       ccu.line := LineState.connected }, 3#8, 2#8, 1#8, by decide⟩,
   ⟨{ t0 with
       ccu.call.active := true, ccu.call.job := Job.fax, fax.role := some FaxRole.receiver,
       ccu.line := LineState.connected, fax.phase := some FaxPhase.check, fax.checkOverloaded := false,
       fax.rung := some 3, fax.floor := 2, fax.ceiling := 7, level.trainingQ := some 47 }, 47, by decide⟩,
   ⟨{ t0 with
       ccu.call.active := true, ccu.call.job := Job.fax, fax.role := some FaxRole.receiver,
       ccu.line := LineState.connected, fax.phase := some FaxPhase.check, fax.rung := some 2,
       level.trainingQ := some 1 }, 1, by decide⟩,
   ⟨{ t0 with ccu.call.active := true, ccu.call.job := Job.fax }, [], by decide⟩⟩

theorem witness_FaxVerdicts :
    (∃ (s : State) (id : Nat) (o : Nat), s.ccu.call.active = true ∧ s.ccu.call.job = Job.fax ∧
      s.ccu.line = LineState.connected ∧ s.fax.role = some FaxRole.receiver ∧ s.fax.phase = some FaxPhase.postpage ∧
      s.fax.expect = FaxExpect.pageEnd ∧ s.fax.checkSending = false ∧ s.fax.pageGood ∧ s.fax.place = FaxPlace.store ∧
      s.fax.linkedId = some id ∧ s.fax.pageStart = some o) ∧
    (∃ (s : State) (id : Nat) (o : Nat) (e : Entry), s.ccu.call.active = true ∧ s.ccu.call.job = Job.fax ∧
      s.ccu.line = LineState.connected ∧ s.fax.role = some FaxRole.receiver ∧ s.fax.phase = some FaxPhase.postpage ∧
      s.fax.expect = FaxExpect.pageEnd ∧ s.fax.checkSending = false ∧ s.fax.pageGood ∧ s.fax.place = FaxPlace.store ∧
      s.fax.linkedId = some id ∧ s.fax.pageStart = some o ∧ s.store.find id = some e ∧ s.fax.page ≠ 32) ∧
    (∃ (s : State), s.ccu.call.active = true ∧ s.ccu.call.job = Job.fax ∧ s.ccu.line = LineState.connected ∧
      s.fax.role = some FaxRole.receiver ∧ s.fax.phase = some FaxPhase.postpage ∧ s.fax.expect = FaxExpect.pageEnd ∧
      s.fax.checkSending = false ∧ s.fax.pageGood ∧ s.fax.place = FaxPlace.port) ∧
    (∃ (s : State), s.ccu.call.active = true ∧ s.ccu.call.job = Job.fax ∧ s.ccu.line = LineState.connected ∧
      s.fax.role = some FaxRole.receiver ∧ s.fax.phase = some FaxPhase.postpage ∧ s.fax.expect = FaxExpect.pageEnd ∧
      s.fax.checkSending = false ∧ ¬s.fax.pageGood ∧ s.fax.place = FaxPlace.port ∧ s.fax.attempts < 3) ∧
    (∃ (s : State) (id : Nat) (o : Nat) (e : Entry) (more : Byte), s.ccu.call.active = true ∧
      s.ccu.call.job = Job.fax ∧ s.ccu.line = LineState.connected ∧ s.fax.role = some FaxRole.receiver ∧
      s.fax.phase = some FaxPhase.postpage ∧ s.fax.expect = FaxExpect.pageEnd ∧ s.fax.checkSending = false ∧
      ¬s.fax.pageGood ∧ s.fax.place = FaxPlace.store ∧ s.fax.linkedId = some id ∧ s.fax.pageStart = some o ∧
      s.store.find id = some e ∧ BitVec.toNat more ≤ 1) ∧
    (∃ (s : State), s.ccu.call.active = true ∧ s.ccu.call.job = Job.fax ∧ s.ccu.line = LineState.connected ∧
      s.fax.role = some FaxRole.receiver ∧ s.fax.phase = some FaxPhase.postpage ∧ s.fax.expect = FaxExpect.pageEnd ∧
      s.fax.checkSending = false ∧ ¬s.fax.pageGood ∧ s.fax.place = FaxPlace.port ∧ 3 ≤ s.fax.attempts) ∧
    (∃ (s : State) (id : Nat) (o : Nat), s.ccu.call.active = true ∧ s.ccu.call.job = Job.fax ∧
      s.ccu.line = LineState.connected ∧ s.fax.role = some FaxRole.receiver ∧ s.fax.phase = some FaxPhase.postpage ∧
      s.fax.expect = FaxExpect.pageEnd ∧ s.fax.checkSending = false ∧ s.fax.pageGood ∧ s.fax.place = FaxPlace.store ∧
      s.fax.linkedId = some id ∧ s.fax.pageStart = some o ∧ s.fax.page = 32) ∧
    (∃ (s : State) (f : FaxFrame) (more : Byte), s.ccu.call.active = true ∧ s.ccu.call.job = Job.fax ∧
      s.ccu.line = LineState.connected ∧ s.fax.role = some FaxRole.receiver ∧ s.fax.listens ∧ BitVec.toNat more ≤ 1 ∧
      ¬(s.fax.phase = some FaxPhase.postpage ∧ s.fax.expect = FaxExpect.pageEnd) ∧ s.fax.lastFrame = some f ∧
      s.fax.dataBegun = false ∧ (f = FaxFrame.pageOk ∨ f = FaxFrame.pageBad ∨ f = FaxFrame.refuse)) ∧
    (∃ (s : State) (f : FaxFrame) (more : Byte), s.ccu.call.active = true ∧ s.ccu.call.job = Job.fax ∧
      s.ccu.line = LineState.connected ∧ s.fax.role = some FaxRole.receiver ∧ s.fax.listens ∧ BitVec.toNat more ≤ 1 ∧
      ¬(s.fax.phase = some FaxPhase.postpage ∧ s.fax.expect = FaxExpect.pageEnd) ∧ s.fax.lastFrame = some f ∧
      (s.fax.dataBegun = true ∨ f ≠ FaxFrame.pageOk ∧ f ≠ FaxFrame.pageBad ∧ f ≠ FaxFrame.refuse)) ∧
    (∃ (s : State), s.ccu.call.active = true ∧ s.ccu.call.job = Job.fax ∧ s.ccu.line = LineState.connected ∧
      s.fax.role = some FaxRole.sender ∧ s.fax.phase = some FaxPhase.postpage ∧
      s.fax.expect = FaxExpect.pageVerdict ∧ s.fax.stale) ∧
    (∃ (s : State), s.ccu.call.active = true ∧ s.ccu.call.job = Job.fax ∧ s.ccu.line = LineState.connected ∧
      s.fax.role = some FaxRole.sender ∧ s.fax.phase = some FaxPhase.postpage ∧
      s.fax.expect = FaxExpect.pageVerdict ∧ ¬s.fax.stale ∧ s.fax.more = some FaxMore.last) ∧
    (∃ (s : State), s.ccu.call.active = true ∧ s.ccu.call.job = Job.fax ∧ s.ccu.line = LineState.connected ∧
      s.fax.role = some FaxRole.sender ∧ s.fax.phase = some FaxPhase.postpage ∧
      s.fax.expect = FaxExpect.pageVerdict ∧ ¬s.fax.stale ∧ s.fax.more = some FaxMore.more ∧
      s.fax.place = FaxPlace.store) ∧
    (∃ (s : State), s.ccu.call.active = true ∧ s.ccu.call.job = Job.fax ∧ s.ccu.line = LineState.connected ∧
      s.fax.role = some FaxRole.sender ∧ s.fax.phase = some FaxPhase.postpage ∧
      s.fax.expect = FaxExpect.pageVerdict ∧ ¬s.fax.stale ∧ s.fax.more = some FaxMore.more ∧
      s.fax.place = FaxPlace.port) ∧
    (∃ (s : State), s.ccu.call.active = true ∧ s.ccu.call.job = Job.fax ∧ s.ccu.line = LineState.connected ∧
      s.fax.role = some FaxRole.sender ∧ s.fax.phase = some FaxPhase.postpage ∧
      s.fax.expect = FaxExpect.pageVerdict ∧ ¬s.fax.stale ∧ s.fax.attempts < 3) ∧
    (∃ (s : State), s.ccu.call.active = true ∧ s.ccu.call.job = Job.fax ∧ s.ccu.line = LineState.connected ∧
      s.fax.role = some FaxRole.sender ∧ s.fax.phase = some FaxPhase.postpage ∧
      s.fax.expect = FaxExpect.pageVerdict ∧ ¬s.fax.stale ∧ 3 ≤ s.fax.attempts ∧ s.ccu.ending = none) ∧
    (∃ (s : State), s.ccu.call.active = true ∧ s.ccu.call.job = Job.fax ∧ s.ccu.line = LineState.connected ∧
      s.fax.role = some FaxRole.sender ∧ s.fax.phase = some FaxPhase.postpage ∧
      s.fax.expect = FaxExpect.pageVerdict ∧ ¬s.fax.stale ∧ s.ccu.ending = none) ∧
    (∃ (s : State), s.ccu.call.active = true ∧ s.ccu.call.job = Job.fax ∧ s.ccu.line = LineState.connected ∧
      s.fax.phase = some FaxPhase.clearing ∧ s.fax.expect = FaxExpect.done ∧ s.fax.role = some FaxRole.sender ∧
      s.ccu.ending = none) ∧
    (∃ (s : State), s.ccu.call.active = true ∧ s.ccu.call.job = Job.fax ∧ s.ccu.line = LineState.connected ∧
      s.fax.phase = some FaxPhase.clearing ∧ s.fax.expect = FaxExpect.done ∧ s.fax.role = some FaxRole.receiver) ∧
    (∃ (s : State) (f : FaxFrame), s.ccu.call.active = true ∧ s.ccu.call.job = Job.fax ∧
      s.ccu.line = LineState.connected ∧ s.link.tx = Transmission.fax f ∧ s.fax.endAfter = none) ∧
    (∃ (s : State) (f : FaxFrame) (c : Cause), s.ccu.call.active = true ∧ s.ccu.call.job = Job.fax ∧
      s.ccu.line = LineState.connected ∧ s.link.tx = Transmission.fax f ∧ s.fax.endAfter = some c ∧
      s.ccu.ending = none) ∧
    (∃ (s : State) (f : FaxFrame), s.ccu.call.active = true ∧ s.ccu.call.job = Job.fax ∧
      s.ccu.line = LineState.connected ∧ s.DueT2 T2Use.faxReply ∧ s.fax.lastFrame = some f ∧ s.fax.retries < 3 ∧
      s.fax.expect ≠ FaxExpect.pageEnd ∧ s.fax.expect ≠ FaxExpect.caps) ∧
    (∃ (s : State), s.ccu.call.active = true ∧ s.ccu.call.job = Job.fax ∧ s.ccu.line = LineState.connected ∧
      s.DueT2 T2Use.faxReply ∧ s.fax.retries < 3 ∧
      (s.fax.expect = FaxExpect.pageEnd ∨ s.fax.expect = FaxExpect.caps)) ∧
    (∃ (s : State), s.ccu.call.active = true ∧ s.ccu.call.job = Job.fax ∧ s.ccu.line = LineState.connected ∧
      s.DueT2 T2Use.faxReply ∧ 3 ≤ s.fax.retries ∧ s.ccu.ending = none) :=
  ⟨⟨{ t0 with
       ccu.call.active := true, ccu.call.job := Job.fax, ccu.line := LineState.connected,
       fax.role := some FaxRole.receiver, fax.phase := some FaxPhase.postpage, fax.expect := FaxExpect.pageEnd,
       fax.checkSending := false, fax.place := FaxPlace.store, fax.linkedId := some (1), fax.pageStart := some (1) },
       1, 1, by decide⟩,
   ⟨{ t0 with
       ccu.call.active := true, ccu.call.job := Job.fax, ccu.line := LineState.connected,
       fax.role := some FaxRole.receiver, fax.phase := some FaxPhase.postpage, fax.expect := FaxExpect.pageEnd,
       fax.checkSending := false, fax.place := FaxPlace.store, fax.linkedId := some (1), fax.pageStart := some (1) },
       1, 1, memo1, by decide⟩,
   ⟨{ t0 with
       ccu.call.active := true, ccu.call.job := Job.fax, ccu.line := LineState.connected,
       fax.role := some FaxRole.receiver, fax.phase := some FaxPhase.postpage, fax.expect := FaxExpect.pageEnd,
       fax.checkSending := false, fax.place := FaxPlace.port }, by decide⟩,
   ⟨{ t0 with
       ccu.call.active := true, ccu.call.job := Job.fax, ccu.line := LineState.connected,
       fax.role := some FaxRole.receiver, fax.phase := some FaxPhase.postpage, fax.expect := FaxExpect.pageEnd,
       fax.checkSending := false, fax.place := FaxPlace.port, fax.overflow := true, fax.attempts := 2 }, by decide⟩,
   ⟨{ t0 with
       ccu.call.active := true, ccu.call.job := Job.fax, ccu.line := LineState.connected,
       fax.role := some FaxRole.receiver, fax.phase := some FaxPhase.postpage, fax.expect := FaxExpect.pageEnd,
       fax.checkSending := false, fax.place := FaxPlace.store, fax.linkedId := some (2), fax.pageStart := some (1),
       fax.overflow := true }, 2, 1, memo2, 1#8, by decide⟩,
   ⟨{ t0 with
       ccu.call.active := true, ccu.call.job := Job.fax, ccu.line := LineState.connected,
       fax.role := some FaxRole.receiver, fax.phase := some FaxPhase.postpage, fax.expect := FaxExpect.pageEnd,
       fax.checkSending := false, fax.place := FaxPlace.port, fax.overflow := true, fax.attempts := 3 }, by decide⟩,
   ⟨{ t0 with
       ccu.call.active := true, ccu.call.job := Job.fax, ccu.line := LineState.connected,
       fax.role := some FaxRole.receiver, fax.phase := some FaxPhase.postpage, fax.expect := FaxExpect.pageEnd,
       fax.checkSending := false, fax.place := FaxPlace.store, fax.linkedId := some (1), fax.pageStart := some (1),
       fax.page := 32 }, 1, 1, by decide⟩,
   ⟨{ t0 with
       ccu.call.active := true, ccu.call.job := Job.fax, ccu.line := LineState.connected,
       fax.role := some FaxRole.receiver, fax.lastFrame := some (.pageOk), fax.dataBegun := false,
       fax.phase := some .page }, .pageOk, 1#8, by decide⟩,
   ⟨{ t0 with
       ccu.call.active := true, ccu.call.job := Job.fax, ccu.line := LineState.connected,
       fax.role := some FaxRole.receiver, fax.lastFrame := some (.pageOk), fax.dataBegun := true,
       fax.phase := some .page }, .pageOk, 1#8, by decide⟩,
   ⟨{ t0 with
       ccu.call.active := true, ccu.call.job := Job.fax, ccu.line := LineState.connected,
       fax.role := some FaxRole.sender, fax.phase := some FaxPhase.postpage, fax.expect := FaxExpect.pageVerdict,
       fax.unsent := true, fax.answered := [.caps, .checkVerdict, .pageVerdict] }, by decide⟩,
   ⟨{ t0 with
       ccu.call.active := true, ccu.call.job := Job.fax, ccu.line := LineState.connected,
       fax.role := some FaxRole.sender, fax.phase := some FaxPhase.postpage, fax.expect := FaxExpect.pageVerdict,
       fax.more := some FaxMore.last }, by decide⟩,
   ⟨{ t0 with
       ccu.call.active := true, ccu.call.job := Job.fax, ccu.line := LineState.connected,
       fax.role := some FaxRole.sender, fax.phase := some FaxPhase.postpage, fax.expect := FaxExpect.pageVerdict,
       fax.more := some FaxMore.more, fax.place := FaxPlace.store }, by decide⟩,
   ⟨{ t0 with
       ccu.call.active := true, ccu.call.job := Job.fax, ccu.line := LineState.connected,
       fax.role := some FaxRole.sender, fax.phase := some FaxPhase.postpage, fax.expect := FaxExpect.pageVerdict,
       fax.more := some FaxMore.more, fax.place := FaxPlace.port }, by decide⟩,
   ⟨{ t0 with
       ccu.call.active := true, ccu.call.job := Job.fax, ccu.line := LineState.connected,
       fax.role := some FaxRole.sender, fax.phase := some FaxPhase.postpage, fax.expect := FaxExpect.pageVerdict },
       by decide⟩,
   ⟨{ t0 with
       ccu.call.active := true, ccu.call.job := Job.fax, ccu.line := LineState.connected,
       fax.role := some FaxRole.sender, fax.phase := some FaxPhase.postpage, fax.expect := FaxExpect.pageVerdict,
       ccu.ending := none, fax.attempts := 3 }, by decide⟩,
   ⟨{ t0 with
       ccu.call.active := true, ccu.call.job := Job.fax, ccu.line := LineState.connected,
       fax.role := some FaxRole.sender, fax.phase := some FaxPhase.postpage, fax.expect := FaxExpect.pageVerdict,
       ccu.ending := none }, by decide⟩,
   ⟨{ t0 with
       ccu.call.active := true, ccu.call.job := Job.fax, ccu.line := LineState.connected,
       fax.phase := some FaxPhase.clearing, fax.expect := FaxExpect.done, fax.role := some FaxRole.sender,
       ccu.ending := none }, by decide⟩,
   ⟨{ t0 with
       ccu.call.active := true, ccu.call.job := Job.fax, ccu.line := LineState.connected,
       fax.phase := some FaxPhase.clearing, fax.expect := FaxExpect.done, fax.role := some FaxRole.receiver },
       by decide⟩,
   ⟨{ t0 with
       ccu.call.active := true, ccu.call.job := Job.fax, ccu.line := LineState.connected,
       link.tx := Transmission.fax (.done), fax.endAfter := none }, .done, by decide⟩,
   ⟨{ t0 with
       ccu.call.active := true, ccu.call.job := Job.fax, ccu.line := LineState.connected,
       link.tx := Transmission.fax (.done), fax.endAfter := some (.faxPageFailed), ccu.ending := none }, .done,
       .faxPageFailed, by decide⟩,
   ⟨{ t0 with
       ccu.call.active := true, ccu.call.job := Job.fax, ccu.line := LineState.connected,
       ccu.t2Use := T2Use.faxReply, timers.e2.mode := .oneShot, fax.lastFrame := some (.done) }, .done, by decide⟩,
   ⟨{ t0 with
       ccu.call.active := true, ccu.call.job := Job.fax, ccu.line := LineState.connected,
       ccu.t2Use := T2Use.faxReply, timers.e2.mode := .oneShot, fax.expect := FaxExpect.pageEnd }, by decide⟩,
   ⟨{ t0 with
       ccu.call.active := true, ccu.call.job := Job.fax, ccu.line := LineState.connected,
       ccu.t2Use := T2Use.faxReply, timers.e2.mode := .oneShot, ccu.ending := none, fax.retries := 3 }, by decide⟩⟩

theorem witness_FormatEmpties :
    (∃ (f : Frame) (s : State), s.Takes f 84#8 ∧ ∃ e, e ∈ s.store.dir ∧ (e.state = EntryState.opened ∨ 0 < e.holds)) ∧
    (∃ (f : Frame) (s : State), s.Takes f 84#8 ∧ (∀ (e : Entry), e ∈ s.store.dir → e.state ≠ EntryState.opened ∧
      e.holds = 0)) :=
  ⟨⟨sysFrame, t0, by decide⟩,
   ⟨sysFrame, { t0 with store.dir := [memo1, faxOut3] }, by decide⟩⟩

theorem witness_GateEvents :
    (∃ (s : State), (s.timers.e0.signalA = true ∨ s.timers.e0.mode = TimerMode.alternate ∧
      s.timers.e0.active = Half.a) ∧ s.timers.e0.use = OutputUse.relayBreak) ∧
    (∃ (s : State), (s.timers.e0.signalA = true ∨ s.timers.e0.mode = TimerMode.alternate ∧
      s.timers.e0.active = Half.a) ∧ s.timers.e0.use = OutputUse.generatorEnable) ∧
    (∃ (s : State), (s.timers.e0.signalB = true ∨ s.timers.e0.mode = TimerMode.alternate ∧
      s.timers.e0.active = Half.b) ∧ s.timers.e0.owner = TimerOwner.dialler ∧ s.ccu.line = LineState.dialing ∧
      (s.ccu.dialler.item = ItemState.toning ∨ s.ccu.dialler.item = ItemState.flashing ∨ s.ccu.dialler.item = ItemState.pulsing ∧
      (s.timers.e0.signalB = true ∧ s.timers.e0.mode = TimerMode.off ∨ s.timers.e0.signalB = false ∧
      s.timers.e0.stopAfterB = true))) ∧
    (∃ (s : State) (x : Symbol), (s.timers.e0.signalB = true ∨ s.timers.e0.mode = TimerMode.alternate ∧
      s.timers.e0.active = Half.b) ∧ s.timers.e0.owner = TimerOwner.dialler ∧
      s.ccu.dialler.item = ItemState.pulsing ∧ s.timers.e0.mode = TimerMode.alternate ∧
      (s.timers.e0.signalB = true ∨ s.timers.e0.stopAfterB = false) ∧ s.itemInHand = some (DialItem.pulse x)) ∧
    (∃ (s : State), (s.timers.e0.signalB = true ∨ s.timers.e0.mode = TimerMode.alternate ∧
      s.timers.e0.active = Half.b) ∧ s.timers.e0.owner = TimerOwner.tnu ∧
      s.tone.generator.state = GeneratorState.sending) ∧
    (∃ (s : State), (s.timers.e0.signalB = true ∨ s.timers.e0.mode = TimerMode.alternate ∧
      s.timers.e0.active = Half.b) ∧ s.timers.e0.owner = TimerOwner.tnu ∧
      s.tone.generator.state = GeneratorState.beeping) :=
  ⟨⟨{ t0 with timers.e0.signalA := true, timers.e0.use := OutputUse.relayBreak }, by decide⟩,
   ⟨{ t0 with timers.e0.signalA := true, timers.e0.use := OutputUse.generatorEnable }, by decide⟩,
   ⟨{ t0 with
       timers.e0.signalB := true, timers.e0.owner := TimerOwner.dialler, ccu.line := LineState.dialing,
       ccu.dialler.item := ItemState.toning }, by decide⟩,
   ⟨{ t0 with
       timers.e0.signalB := true, timers.e0.owner := TimerOwner.dialler, ccu.dialler.item := ItemState.pulsing,
       timers.e0.mode := TimerMode.alternate, ccu.call.dialList := some [.pulse 5] }, 5, by decide⟩,
   ⟨{ t0 with
       timers.e0.signalB := true, timers.e0.owner := TimerOwner.tnu,
       tone.generator.state := GeneratorState.sending }, by decide⟩,
   ⟨{ t0 with
       timers.e0.signalB := true, timers.e0.owner := TimerOwner.tnu,
       tone.generator.state := GeneratorState.beeping }, by decide⟩⟩

theorem witness_HandshakeAndTraining :
    (∃ (s : State), s.pump.phase = PumpPhase.handshake ∧ (s.pump.heardMax = none ∨ s.pump.heardAck = false)) ∧
    (∃ (s : State) (r : Byte), s.pump.phase = PumpPhase.handshake ∧
      (s.pump.heardAck = false ∨ s.pump.answerTone = true)) ∧
    (∃ (s : State), s.pump.phase = PumpPhase.handshake ∧ (s.pump.heardMax = none ∨ s.pump.answerTone = true)) ∧
    (∃ (s : State) (c : Instr) (m : Nat), s.pump.phase = PumpPhase.handshake ∧ (c = Instr.answerToneEnd ∧
      s.pump.heardMax = some m ∧
      s.pump.heardAck = true ∨ c = Instr.handshakeSignalReceived HandshakeSignal.acknowledge ∧
      s.pump.heardMax = some m ∧ s.pump.answerTone = false ∨ ∃ r,
      c = Instr.handshakeSignalReceived (HandshakeSignal.maximum r) ∧ m = min 7 (BitVec.toNat r) ∧
      s.pump.heardAck = true ∧ s.pump.answerTone = false)) ∧
    (∃ (s : State) (q : Nat), (s.pump.phase = PumpPhase.training ∨ s.pump.phase = PumpPhase.retrain) ∧
      s.pump.stage = TrainingStage.symbols ∧ (s.level.windowFull = false ∧
      q = s.level.trainingQ.getD 0 ∨ s.level.windowFull = true ∧ q = 47 - logCode (s.level.window.acc / 256))) ∧
    (∃ (s : State) (v : Bool), (s.pump.phase = PumpPhase.training ∨ s.pump.phase = PumpPhase.retrain) ∧
      s.pump.stage = TrainingStage.verdicts) ∧
    (∃ (s : State), (s.pump.phase = PumpPhase.training ∨ s.pump.phase = PumpPhase.retrain) ∧
      s.pump.stage = TrainingStage.verdicts ∧ ¬(s.pump.ownAccept = true ∧ s.pump.farAccept = some true) ∧
      s.pump.negFloor.getD 0 < s.pump.rung.getD 0) ∧
    (∃ (s : State), (s.pump.phase = PumpPhase.training ∨ s.pump.phase = PumpPhase.retrain) ∧
      s.pump.stage = TrainingStage.verdicts ∧ ¬(s.pump.ownAccept = true ∧ s.pump.farAccept = some true) ∧
      s.pump.rung.getD 0 ≤ s.pump.negFloor.getD 0 ∧ s.ccu.call.active = true ∧ s.ccu.ending = none) :=
  ⟨⟨{ t0 with pump.phase := PumpPhase.handshake, pump.heardMax := none }, by decide⟩,
   ⟨{ t0 with pump.phase := PumpPhase.handshake, pump.heardAck := false }, 1#8, by decide⟩,
   ⟨{ t0 with pump.phase := PumpPhase.handshake, pump.heardMax := none }, by decide⟩,
   ⟨{ t0 with
       pump.phase := PumpPhase.handshake, pump.heardMax := some (1), pump.heardAck := true }, .answerToneEnd, 1,
       by decide⟩,
   ⟨{ t0 with
       pump.phase := PumpPhase.training, pump.stage := TrainingStage.symbols, level.trainingQ := some 12 }, 12,
       by decide⟩,
   ⟨{ t0 with pump.phase := PumpPhase.training, pump.stage := TrainingStage.verdicts }, true, by decide⟩,
   ⟨{ t0 with
       pump.phase := PumpPhase.training, pump.stage := TrainingStage.verdicts, pump.rung := some 1,
       pump.negFloor := some 0 }, by decide⟩,
   ⟨{ t0 with
       pump.phase := PumpPhase.training, pump.stage := TrainingStage.verdicts, ccu.call.active := true,
       ccu.ending := none }, by decide⟩⟩

theorem witness_HangUpEnds :
    (∃ (f : Frame) (s : State), s.Takes f 19#8 ∧ s.holder = some f.port.party ∧ s.ccu.ending = none ∧
      s.link.mode ≠ LinkMode.linked ∧ s.link.mode ≠ LinkMode.clearing) ∧
    (∃ (f : Frame) (s : State), s.Takes f 19#8 ∧ s.holder = some Party.auto ∧ s.ccu.ending = none) ∧
    (∃ (f : Frame) (s : State), s.Takes f 19#8 ∧ s.holder = some f.port.party ∧ s.ccu.ending = none ∧
      s.link.mode = LinkMode.linked) ∧
    (∃ (f : Frame) (s : State), s.Takes f 19#8 ∧ s.holder = some f.port.party ∧ s.ccu.ending = none ∧
      s.link.mode = LinkMode.clearing) ∧
    (∃ (f : Frame) (s : State), s.Takes f 19#8 ∧ s.holder = some f.port.party ∧ s.ccu.ending ≠ none) ∧
    (∃ (f : Frame) (s : State), s.Takes f 19#8 ∧ s.holder ≠ some f.port.party ∧ s.holder ≠ some Party.auto ∧
      (s.ccu.claims.any fun c => c.master == f.port) = true) ∧
    (∃ (f : Frame) (s : State), s.Takes f 19#8 ∧ s.holder ≠ some f.port.party ∧ s.holder ≠ some Party.auto ∧
      (s.ccu.claims.any fun c => c.master == f.port) = false) :=
  ⟨⟨sysFrame, { t0 with
       ccu.call.active := true, ccu.call.holder := some (Port.party .system), ccu.ending := none }, by decide⟩,
   ⟨sysFrame, { t0 with ccu.call.active := true, ccu.call.holder := some Party.auto, ccu.ending := none }, by decide⟩,
   ⟨sysFrame, { t0 with
       ccu.call.active := true, ccu.call.holder := some (Port.party .system), ccu.ending := none,
       link.mode := LinkMode.linked }, by decide⟩,
   ⟨sysFrame, { t0 with
       ccu.call.active := true, ccu.call.holder := some (Port.party .system), ccu.ending := none,
       link.mode := LinkMode.clearing }, by decide⟩,
   ⟨sysFrame, { t0 with
       ccu.call.active := true, ccu.call.holder := some (Port.party .system), ccu.ending := some .normal,
       ccu.line := .connected }, by decide⟩,
   ⟨sysFrame, { t0 with ccu.claims := [⟨.system, [.pause], .voice, false⟩] }, by decide⟩,
   ⟨sysFrame, t0, by decide⟩⟩

theorem witness_InactivityPrompts :
    (∃ (r : Remote) (s : State), s.DueT2 T2Use.inactivity ∧ s.voice.remote = some r ∧ r.state = RemoteState.waiting ∧
      r.prompts < 3) ∧
    (∃ (r : Remote) (s : State), s.DueT2 T2Use.inactivity ∧ s.voice.remote = some r ∧ r.state = RemoteState.waiting ∧
      3 ≤ r.prompts ∧ s.ccu.call.active = true ∧ s.ccu.ending = none) ∧
    (∃ (xs : List Sample) (bands : List (List Sample)) (b : ToneBlock) (x : Symbol) (d : Discrimination) (code : List Symbol) (n : Nat) (h : Nat) (s : State),
      s.LineBlockMeasured xs bands b ∧ s.ccu.line = LineState.connected ∧ s.holder = some Party.auto ∧
      s.ccu.ending = none ∧ s.judgesDigit ∧
      (s.tone.dtmf.judge (digitOf s.settings.toneLevel b.whole b.bands)).snd = some x ∧
      s.ccu.call.job = Job.discriminate ∧ s.tone.faxCall.recognises (b.present s 1) = false ∧
      s.tone.dataCall.recognises (b.present s 2) = false ∧ s.rau.discr = some d ∧ d.code.length ≤ 4 ∧
      (code = (if d.code.length = 4 then List.drop 1 d.code else d.code) ++ [x]) ∧ n = bump 65535 d.codeDigits ∧
      (h = if d.phase ≠ DiscrPhase.beep ∧ s.settings.silenceLevel ≤ b.whole then bump 65535 d.heard else d.heard) ∧
      s.settings.remoteEnable = false) ∧
    (∃ (xs : List Sample) (bands : List (List Sample)) (b : ToneBlock) (x : Symbol) (d : Discrimination) (code : List Symbol) (n : Nat) (h : Nat) (s : State),
      s.LineBlockMeasured xs bands b ∧ s.ccu.line = LineState.connected ∧ s.holder = some Party.auto ∧
      s.ccu.ending = none ∧ s.judgesDigit ∧
      (s.tone.dtmf.judge (digitOf s.settings.toneLevel b.whole b.bands)).snd = some x ∧
      s.ccu.call.job = Job.discriminate ∧ s.tone.faxCall.recognises (b.present s 1) = false ∧
      s.tone.dataCall.recognises (b.present s 2) = false ∧ s.rau.discr = some d ∧ d.code.length ≤ 4 ∧
      (code = (if d.code.length = 4 then List.drop 1 d.code else d.code) ++ [x]) ∧ n = bump 65535 d.codeDigits ∧
      (h = if d.phase ≠ DiscrPhase.beep ∧ s.settings.silenceLevel ≤ b.whole then bump 65535 d.heard else d.heard) ∧
      s.settings.remoteEnable = true ∧ (code.length < 4 ∨ s.settings.remoteCode ≠ some (List.map Fin.val code) ∧
      (n % 4 ≠ 0 ∨ d.wrong < 2))) ∧
    (∃ (xs : List Sample) (bands : List (List Sample)) (b : ToneBlock) (x : Symbol) (d : Discrimination) (code : List Symbol) (n : Nat) (h : Nat) (s : State),
      s.LineBlockMeasured xs bands b ∧ s.ccu.line = LineState.connected ∧ s.holder = some Party.auto ∧
      s.ccu.ending = none ∧ s.judgesDigit ∧
      (s.tone.dtmf.judge (digitOf s.settings.toneLevel b.whole b.bands)).snd = some x ∧
      s.ccu.call.job = Job.discriminate ∧ s.tone.faxCall.recognises (b.present s 1) = false ∧
      s.tone.dataCall.recognises (b.present s 2) = false ∧ s.rau.discr = some d ∧ d.code.length ≤ 4 ∧
      (code = (if d.code.length = 4 then List.drop 1 d.code else d.code) ++ [x]) ∧ n = bump 65535 d.codeDigits ∧
      (h = if d.phase ≠ DiscrPhase.beep ∧ s.settings.silenceLevel ≤ b.whole then bump 65535 d.heard else d.heard) ∧
      s.settings.remoteEnable = true ∧ code.length = 4 ∧ s.settings.remoteCode ≠ some (List.map Fin.val code) ∧
      n % 4 = 0 ∧ 2 ≤ d.wrong) ∧
    (∃ (xs : List Sample) (bands : List (List Sample)) (b : ToneBlock) (x : Symbol) (d : Discrimination) (code : List Symbol) (n : Nat) (h : Nat) (s : State) (dir : List Entry) (free : List Nat) (ids : List Nat),
      s.LineBlockMeasured xs bands b ∧ s.ccu.line = LineState.connected ∧ s.holder = some Party.auto ∧
      s.ccu.ending = none ∧ s.judgesDigit ∧
      (s.tone.dtmf.judge (digitOf s.settings.toneLevel b.whole b.bands)).snd = some x ∧
      s.ccu.call.job = Job.discriminate ∧ s.tone.faxCall.recognises (b.present s 1) = false ∧
      s.tone.dataCall.recognises (b.present s 2) = false ∧ s.rau.discr = some d ∧ d.code.length ≤ 4 ∧
      (code = (if d.code.length = 4 then List.drop 1 d.code else d.code) ++ [x]) ∧ n = bump 65535 d.codeDigits ∧
      (h = if d.phase ≠ DiscrPhase.beep ∧ s.settings.silenceLevel ≤ b.whole then bump 65535 d.heard else d.heard) ∧
      s.settings.remoteEnable = true ∧ code.length = 4 ∧ s.settings.remoteCode = some (List.map Fin.val code) ∧
      s.autoStopped = some (dir, free) ∧
      ids = List.map Entry.id (List.filter (fun e => decide (e.kind = MsgKind.voiceMsg ∧
      e.state = EntryState.complete ∧ e.isNew = true)) dir)) ∧
    (∃ (xs : List Sample) (bands : List (List Sample)) (b : ToneBlock) (x : Symbol) (s : State) (r : Remote),
      s.LineBlockCloses xs bands b ∧ s.ccu.line = LineState.connected ∧ s.holder = some Party.auto ∧
      s.ccu.ending = none ∧ s.judgesDigit ∧
      (s.tone.dtmf.judge (digitOf s.settings.toneLevel b.whole b.bands)).snd = some x ∧ s.ccu.call.job = Job.remote ∧
      s.rau.discr = none ∧ s.voice.remote = some r ∧ ↑x = 9 ∧
      (s.voice.op.operation = none ∨ s.voice.op.operation = some VoiceOperation.tone)) ∧
    (∃ (xs : List Sample) (bands : List (List Sample)) (b : ToneBlock) (x : Symbol) (s : State) (r : Remote) (u : ListInUse) (ids : List Nat) (id : Nat) (k : Nat),
      s.LineBlockCloses xs bands b ∧ s.ccu.line = LineState.connected ∧ s.holder = some Party.auto ∧
      s.ccu.ending = none ∧ s.judgesDigit ∧
      (s.tone.dtmf.judge (digitOf s.settings.toneLevel b.whole b.bands)).snd = some x ∧ s.ccu.call.job = Job.remote ∧
      s.rau.discr = none ∧ s.voice.remote = some r ∧
      (s.voice.op.operation = none ∨ s.voice.op.operation = some VoiceOperation.tone) ∧ (↑x = 1 ∧ u = ListInUse.new ∧
      ids = r.newList ∨ ↑x = 2 ∧ u = ListInUse.all ∧
      ids = List.map Entry.id (List.filter (fun e => decide (e.kind = MsgKind.voiceMsg ∧
      e.state = EntryState.complete)) s.store.dir)) ∧ nextPlayable s.store ids 0 = some (id, k)) ∧
    (∃ (xs : List Sample) (bands : List (List Sample)) (b : ToneBlock) (x : Symbol) (s : State) (r : Remote) (u : ListInUse) (ids : List Nat),
      s.LineBlockCloses xs bands b ∧ s.ccu.line = LineState.connected ∧ s.holder = some Party.auto ∧
      s.ccu.ending = none ∧ s.judgesDigit ∧
      (s.tone.dtmf.judge (digitOf s.settings.toneLevel b.whole b.bands)).snd = some x ∧ s.ccu.call.job = Job.remote ∧
      s.rau.discr = none ∧ s.voice.remote = some r ∧
      (s.voice.op.operation = none ∨ s.voice.op.operation = some VoiceOperation.tone) ∧ (↑x = 1 ∧ u = ListInUse.new ∧
      ids = r.newList ∨ ↑x = 2 ∧ u = ListInUse.all ∧
      ids = List.map Entry.id (List.filter (fun e => decide (e.kind = MsgKind.voiceMsg ∧
      e.state = EntryState.complete)) s.store.dir)) ∧ nextPlayable s.store ids 0 = none) ∧
    (∃ (xs : List Sample) (bands : List (List Sample)) (b : ToneBlock) (x : Symbol) (s : State) (r : Remote) (id : Nat) (e : Entry),
      s.LineBlockCloses xs bands b ∧ s.ccu.line = LineState.connected ∧ s.holder = some Party.auto ∧
      s.ccu.ending = none ∧ s.judgesDigit ∧
      (s.tone.dtmf.judge (digitOf s.settings.toneLevel b.whole b.bands)).snd = some x ∧ s.ccu.call.job = Job.remote ∧
      s.rau.discr = none ∧ s.voice.remote = some r ∧ r.state = RemoteState.playing ∧
      s.voice.op.operation = some VoiceOperation.play ∧ s.voice.op.user = some Party.auto ∧
      s.voice.op.message = some id ∧ s.store.find id = some e ∧ ↑x = 4) ∧
    (∃ (xs : List Sample) (bands : List (List Sample)) (b : ToneBlock) (x : Symbol) (s : State) (r : Remote) (id : Nat) (e : Entry) (next : Nat) (k : Nat),
      s.LineBlockCloses xs bands b ∧ s.ccu.line = LineState.connected ∧ s.holder = some Party.auto ∧
      s.ccu.ending = none ∧ s.judgesDigit ∧
      (s.tone.dtmf.judge (digitOf s.settings.toneLevel b.whole b.bands)).snd = some x ∧ s.ccu.call.job = Job.remote ∧
      s.rau.discr = none ∧ s.voice.remote = some r ∧ r.state = RemoteState.playing ∧
      s.voice.op.operation = some VoiceOperation.play ∧ s.voice.op.user = some Party.auto ∧
      s.voice.op.message = some id ∧ s.store.find id = some e ∧ ↑x = 3 ∧ e.state ≠ EntryState.doomed ∧
      nextPlayable s.store r.list (r.cursor.getD 0 + 1) = some (next, k)) ∧
    (∃ (xs : List Sample) (bands : List (List Sample)) (b : ToneBlock) (x : Symbol) (s : State) (r : Remote) (id : Nat) (e : Entry),
      s.LineBlockCloses xs bands b ∧ s.ccu.line = LineState.connected ∧ s.holder = some Party.auto ∧
      s.ccu.ending = none ∧ s.judgesDigit ∧
      (s.tone.dtmf.judge (digitOf s.settings.toneLevel b.whole b.bands)).snd = some x ∧ s.ccu.call.job = Job.remote ∧
      s.rau.discr = none ∧ s.voice.remote = some r ∧ r.state = RemoteState.playing ∧
      s.voice.op.operation = some VoiceOperation.play ∧ s.voice.op.user = some Party.auto ∧
      s.voice.op.message = some id ∧ s.store.find id = some e ∧ ↑x = 3 ∧ e.state ≠ EntryState.doomed ∧
      nextPlayable s.store r.list (r.cursor.getD 0 + 1) = none) ∧
    (∃ (xs : List Sample) (bands : List (List Sample)) (b : ToneBlock) (x : Symbol) (s : State) (r : Remote) (id : Nat) (e : Entry) (next : Nat) (k : Nat),
      s.LineBlockCloses xs bands b ∧ s.ccu.line = LineState.connected ∧ s.holder = some Party.auto ∧
      s.ccu.ending = none ∧ s.judgesDigit ∧
      (s.tone.dtmf.judge (digitOf s.settings.toneLevel b.whole b.bands)).snd = some x ∧ s.ccu.call.job = Job.remote ∧
      s.rau.discr = none ∧ s.voice.remote = some r ∧ r.state = RemoteState.playing ∧
      s.voice.op.operation = some VoiceOperation.play ∧ s.voice.op.user = some Party.auto ∧
      s.voice.op.message = some id ∧ s.store.find id = some e ∧ ↑x = 7 ∧ e.state = EntryState.complete ∧
      e.holds = 1 ∧
      nextPlayable { s.store with dir := List.filter (fun y => decide (y.id ≠ id)) s.store.dir } r.list (r.cursor.getD 0 + 1) = some (next,
      k)) ∧
    (∃ (xs : List Sample) (bands : List (List Sample)) (b : ToneBlock) (x : Symbol) (s : State) (r : Remote) (id : Nat) (e : Entry),
      s.LineBlockCloses xs bands b ∧ s.ccu.line = LineState.connected ∧ s.holder = some Party.auto ∧
      s.ccu.ending = none ∧ s.judgesDigit ∧
      (s.tone.dtmf.judge (digitOf s.settings.toneLevel b.whole b.bands)).snd = some x ∧ s.ccu.call.job = Job.remote ∧
      s.rau.discr = none ∧ s.voice.remote = some r ∧ r.state = RemoteState.playing ∧
      s.voice.op.operation = some VoiceOperation.play ∧ s.voice.op.user = some Party.auto ∧
      s.voice.op.message = some id ∧ s.store.find id = some e ∧ ↑x = 7 ∧ e.state = EntryState.complete ∧
      e.holds = 1 ∧
      nextPlayable { s.store with dir := List.filter (fun y => decide (y.id ≠ id)) s.store.dir } r.list (r.cursor.getD 0 + 1) = none) ∧
    (∃ (xs : List Sample) (bands : List (List Sample)) (b : ToneBlock) (x : Symbol) (s : State) (r : Remote),
      s.LineBlockCloses xs bands b ∧ s.ccu.line = LineState.connected ∧ s.holder = some Party.auto ∧
      s.ccu.ending = none ∧ s.judgesDigit ∧
      (s.tone.dtmf.judge (digitOf s.settings.toneLevel b.whole b.bands)).snd = some x ∧ s.ccu.call.job = Job.remote ∧
      s.rau.discr = none ∧ s.voice.remote = some r ∧ ¬↑x ∈ [1, 2, 9] ∧ (¬↑x ∈ [3, 4,
      7] ∨ r.state ≠ RemoteState.playing)) :=
  ⟨⟨{ remote1 with state := .waiting, prompts := 2 }, { t0 with
       ccu.t2Use := T2Use.inactivity, timers.e2.mode := .oneShot,
       voice.remote := some { remote1 with state := .waiting, prompts := 2 } }, by decide⟩,
   ⟨{ remote1 with state := .waiting, prompts := 3 }, { t0 with
       ccu.t2Use := T2Use.inactivity, timers.e2.mode := .oneShot,
       voice.remote := some { remote1 with state := .waiting, prompts := 3 }, ccu.call.active := true,
       ccu.ending := none }, by decide⟩,
   ⟨[0#16], List.replicate 12 [0#16], toneOf [5, 9], 5, discr1, [1, 2, 3, 5], 4, 1, { toneState [5, 9] with
       ccu.line := LineState.connected, ccu.call.active := true, ccu.call.holder := some Party.auto,
       ccu.ending := none, ccu.call.job := Job.discriminate, rau.discr := some discr1,
       settings.remoteEnable := false, tone.dtmf := ⟨some 5, 2, none, 0⟩ }, ⟨by decide, by decide, by decide,
       by decide, by decide, by decide, by decide⟩, by decide⟩,
   ⟨[0#16], List.replicate 12 [0#16], toneOf [5, 9], 5, { discr1 with code := [1, 2, 3, 4], codeDigits := 8 },
       [2, 3, 4, 5], 9, 1, { toneState [5, 9] with
       ccu.line := LineState.connected, ccu.call.active := true, ccu.call.holder := some Party.auto,
       ccu.ending := none, ccu.call.job := Job.discriminate,
       rau.discr := some { discr1 with code := [1, 2, 3, 4], codeDigits := 8 }, settings.remoteEnable := true,
       tone.dtmf := ⟨some 5, 2, none, 0⟩, settings.remoteCode := none }, ⟨by decide, by decide, by decide, by decide,
       by decide, by decide, by decide⟩, by decide⟩,
   ⟨[0#16], List.replicate 12 [0#16], toneOf [5, 9], 5, { discr1 with code := [1, 2, 3, 4], codeDigits := 11 },
       [2, 3, 4, 5], 12, 1, { toneState [5, 9] with
       ccu.line := LineState.connected, ccu.call.active := true, ccu.call.holder := some Party.auto,
       ccu.ending := none, ccu.call.job := Job.discriminate,
       rau.discr := some { discr1 with code := [1, 2, 3, 4], codeDigits := 11 }, settings.remoteEnable := true,
       tone.dtmf := ⟨some 5, 2, none, 0⟩, settings.remoteCode := some [1, 2, 3, 4] }, ⟨by decide, by decide,
       by decide, by decide, by decide, by decide, by decide⟩, by decide⟩,
   ⟨[0#16], List.replicate 12 [0#16], toneOf [5, 9], 5, { discr1 with code := [1, 2, 3, 4], codeDigits := 9 },
       [2, 3, 4, 5], 10, 1, { toneState [5, 9] with
       ccu.line := LineState.connected, ccu.call.active := true, ccu.call.holder := some Party.auto,
       ccu.ending := none, ccu.call.job := Job.discriminate,
       rau.discr := some { discr1 with code := [1, 2, 3, 4], codeDigits := 9 }, settings.remoteEnable := true,
       settings.remoteCode := some [2, 3, 4, 5], tone.dtmf := ⟨some 5, 2, none, 0⟩,
       voice.op.operation := some .record, voice.op.message := some 2, store.dir := [memo1, memo2],
       store.free := [19] }, [memo1], [19, 17], [], ⟨by decide, by decide, by decide, by decide, by decide,
       by decide, by decide⟩, by decide⟩,
   ⟨[0#16], List.replicate 12 [0#16], toneOf [6, 10], 9, { toneState [6, 10] with
       ccu.line := LineState.connected, ccu.call.active := true, ccu.call.holder := some Party.auto,
       ccu.ending := none, ccu.call.job := Job.remote, rau.discr := none, voice.remote := some (remote1),
       voice.op.operation := none, tone.dtmf := ⟨some 9, 2, none, 0⟩ }, remote1,
       ⟨⟨by decide, by decide, by decide, by decide, by decide, by decide, by decide⟩, by decide⟩, by decide⟩,
   ⟨[0#16], List.replicate 12 [0#16], toneOf [4, 8], 1, { toneState [4, 8] with
       ccu.line := LineState.connected, ccu.call.active := true, ccu.call.holder := some Party.auto,
       ccu.ending := none, ccu.call.job := Job.remote, rau.discr := none, voice.remote := some (remote1),
       voice.op.operation := none, tone.dtmf := ⟨some 1, 2, none, 0⟩ }, remote1, .new, [1], 1, 0,
       ⟨⟨by decide, by decide, by decide, by decide, by decide, by decide, by decide⟩, by decide⟩, by decide⟩,
   ⟨[0#16], List.replicate 12 [0#16], toneOf [4, 8], 1, { toneState [4, 8] with
       ccu.line := LineState.connected, ccu.call.active := true, ccu.call.holder := some Party.auto,
       ccu.ending := none, ccu.call.job := Job.remote, rau.discr := none, voice.remote := some (remote1),
       voice.op.operation := none, tone.dtmf := ⟨some 1, 2, none, 0⟩, store.dir := [memo2] }, remote1, .new, [1],
       ⟨⟨by decide, by decide, by decide, by decide, by decide, by decide, by decide⟩, by decide⟩, by decide⟩,
   ⟨[0#16], List.replicate 12 [0#16], toneOf [5, 8], 4, { toneState [5, 8] with
       ccu.line := LineState.connected, ccu.call.active := true, ccu.call.holder := some Party.auto,
       ccu.ending := none, ccu.call.job := Job.remote, rau.discr := none,
       voice.remote := some { remote1 with state := .playing, list := [1, 3], cursor := some 0 },
       voice.op.operation := some VoiceOperation.play, voice.op.user := some Party.auto, voice.op.message := some 1,
       tone.dtmf := ⟨some 4, 2, none, 0⟩, store.dir := [{ memo1 with holds := 1 }, faxOut3] },
       { remote1 with state := .playing, list := [1, 3], cursor := some 0 }, 1, { memo1 with holds := 1 },
       ⟨⟨by decide, by decide, by decide, by decide, by decide, by decide, by decide⟩, by decide⟩, by decide⟩,
   ⟨[0#16], List.replicate 12 [0#16], toneOf [4, 10], 3, { toneState [4, 10] with
       ccu.line := LineState.connected, ccu.call.active := true, ccu.call.holder := some Party.auto,
       ccu.ending := none, ccu.call.job := Job.remote, rau.discr := none,
       voice.remote := some { remote1 with state := .playing, list := [1, 3], cursor := some 0 },
       voice.op.operation := some VoiceOperation.play, voice.op.user := some Party.auto, voice.op.message := some 1,
       tone.dtmf := ⟨some 3, 2, none, 0⟩, store.dir := [{ memo1 with holds := 1 }, faxOut3] },
       { remote1 with state := .playing, list := [1, 3], cursor := some 0 }, 1, { memo1 with holds := 1 }, 3, 1,
       ⟨⟨by decide, by decide, by decide, by decide, by decide, by decide, by decide⟩, by decide⟩, by decide⟩,
   ⟨[0#16], List.replicate 12 [0#16], toneOf [4, 10], 3, { toneState [4, 10] with
       ccu.line := LineState.connected, ccu.call.active := true, ccu.call.holder := some Party.auto,
       ccu.ending := none, ccu.call.job := Job.remote, rau.discr := none,
       voice.remote := some { remote1 with state := .playing, list := [1], cursor := some 0 },
       voice.op.operation := some VoiceOperation.play, voice.op.user := some Party.auto, voice.op.message := some 1,
       tone.dtmf := ⟨some 3, 2, none, 0⟩, store.dir := [{ memo1 with holds := 1 }, faxOut3] },
       { remote1 with state := .playing, list := [1], cursor := some 0 }, 1, { memo1 with holds := 1 },
       ⟨⟨by decide, by decide, by decide, by decide, by decide, by decide, by decide⟩, by decide⟩, by decide⟩,
   ⟨[0#16], List.replicate 12 [0#16], toneOf [6, 8], 7, { toneState [6, 8] with
       ccu.line := LineState.connected, ccu.call.active := true, ccu.call.holder := some Party.auto,
       ccu.ending := none, ccu.call.job := Job.remote, rau.discr := none,
       voice.remote := some { remote1 with state := .playing, list := [1, 3], cursor := some 0 },
       voice.op.operation := some VoiceOperation.play, voice.op.user := some Party.auto, voice.op.message := some 1,
       tone.dtmf := ⟨some 7, 2, none, 0⟩, store.dir := [{ memo1 with holds := 1 }, faxOut3] },
       { remote1 with state := .playing, list := [1, 3], cursor := some 0 }, 1, { memo1 with holds := 1 }, 3, 1,
       ⟨⟨by decide, by decide, by decide, by decide, by decide, by decide, by decide⟩, by decide⟩, by decide⟩,
   ⟨[0#16], List.replicate 12 [0#16], toneOf [6, 8], 7, { toneState [6, 8] with
       ccu.line := LineState.connected, ccu.call.active := true, ccu.call.holder := some Party.auto,
       ccu.ending := none, ccu.call.job := Job.remote, rau.discr := none,
       voice.remote := some { remote1 with state := .playing, list := [1], cursor := some 0 },
       voice.op.operation := some VoiceOperation.play, voice.op.user := some Party.auto, voice.op.message := some 1,
       tone.dtmf := ⟨some 7, 2, none, 0⟩, store.dir := [{ memo1 with holds := 1 }, faxOut3] },
       { remote1 with state := .playing, list := [1], cursor := some 0 }, 1, { memo1 with holds := 1 },
       ⟨⟨by decide, by decide, by decide, by decide, by decide, by decide, by decide⟩, by decide⟩, by decide⟩,
   ⟨[0#16], List.replicate 12 [0#16], toneOf [5, 9], 5, { toneState [5, 9] with
       ccu.line := LineState.connected, ccu.call.active := true, ccu.call.holder := some Party.auto,
       ccu.ending := none, ccu.call.job := Job.remote, rau.discr := none, voice.remote := some (remote1),
       tone.dtmf := ⟨some 5, 2, none, 0⟩ }, remote1,
       ⟨⟨by decide, by decide, by decide, by decide, by decide, by decide, by decide⟩, by decide⟩, by decide⟩⟩

theorem witness_LineFramesTaken :
    (∃ (s : State) (n : BitVec 4) (busy : Bool), s.link.mode = LinkMode.linked ∧ s.link.paused = false ∧
      s.link.ackInRange n.toNat = true ∧ s.link.ackDistance n.toNat ≠ 0) ∧
    (∃ (s : State) (n : BitVec 4) (busy : Bool), s.link.mode = LinkMode.linked ∧ s.link.paused = false ∧
      (s.link.ackInRange n.toNat = false ∨ s.link.ackDistance n.toNat = 0)) ∧
    (∃ (s : State) (n : BitVec 4) (busy : Bool), s.link.mode = LinkMode.linked ∧ s.link.paused = false ∧
      s.link.ackInRange n.toNat = true) ∧
    (∃ (s : State) (n : BitVec 4) (busy : Bool), s.link.mode = LinkMode.linked ∧ s.link.paused = false ∧
      s.link.ackInRange n.toNat = false) ∧
    (∃ (s : State) (run : List Byte), s.link.framed ∧ 3 ≤ run.length ∧ endsInEscape false run = false ∧
      crcIntact (unescapeFrom false run) = false) ∧
    (∃ (s : State) (run : List Byte), (run.length < 3 ∨ endsInEscape false run = true)) ∧
    (∃ (s : State) (b : Byte), s.link.mode = LinkMode.direct ∧ s.link.paused = false ∧ s.link.inbound.length < 1024) ∧
    (∃ (s : State) (b : Byte), s.link.mode = LinkMode.direct ∧ s.link.paused = false ∧ 1024 ≤ s.link.inbound.length) ∧
    (∃ (seq : BitVec 4) (ack : BitVec 4) (payload : List Byte) (s : State), s.link.mode = LinkMode.linked ∧
      s.link.paused = false ∧ s.link.validPayload payload ∧
      (s.link.ackInRange ack.toNat = false ∨ s.link.ackDistance ack.toNat = 0) ∧ s.link.vr < 16 ∧
      seq.toNat = s.link.vr ∧ payload.length ≤ s.link.inboundFree) ∧
    (∃ (seq : BitVec 4) (ack : BitVec 4) (payload : List Byte) (s : State), s.link.mode = LinkMode.linked ∧
      s.link.paused = false ∧ s.link.validPayload payload ∧
      (s.link.ackInRange ack.toNat = false ∨ s.link.ackDistance ack.toNat = 0) ∧ s.link.vr < 16 ∧
      seq.toNat = s.link.vr ∧ s.link.inboundFree < payload.length) ∧
    (∃ (seq : BitVec 4) (ack : BitVec 4) (payload : List Byte) (s : State), s.link.mode = LinkMode.linked ∧
      s.link.paused = false ∧ s.link.validPayload payload ∧
      (s.link.ackInRange ack.toNat = false ∨ s.link.ackDistance ack.toNat = 0) ∧ s.link.vr < 16 ∧ ∃ k, 1 ≤ k ∧
      k ≤ 7 ∧ (seq.toNat + k) % 16 = s.link.vr) ∧
    (∃ (seq : BitVec 4) (ack : BitVec 4) (payload : List Byte) (s : State), s.link.mode = LinkMode.linked ∧
      s.link.paused = false ∧ s.link.validPayload payload ∧
      (s.link.ackInRange ack.toNat = false ∨ s.link.ackDistance ack.toNat = 0) ∧ s.link.vr < 16 ∧ ∃ k, 8 ≤ k ∧
      k ≤ 15 ∧ (seq.toNat + k) % 16 = s.link.vr) :=
  ⟨⟨{ t0 with
       link.mode := LinkMode.linked, link.paused := false, link.vs := 3, link.window := [⟨1, [1#8]⟩, ⟨2, [2#8]⟩] },
       3#4, true, by decide⟩,
   ⟨{ t0 with link.mode := LinkMode.linked, link.paused := false }, 0#4, true, by decide⟩,
   ⟨{ t0 with link.mode := LinkMode.linked, link.paused := false }, 0#4, true, by decide⟩,
   ⟨{ t0 with
       link.mode := LinkMode.linked, link.paused := false, link.vs := 3, link.window := [⟨1, [1#8]⟩, ⟨2, [2#8]⟩] },
       4#4, true, by decide⟩,
   ⟨{ t0 with link.mode := .linked }, [1#8, 2#8, 3#8], by decide, by decide, by decide, by decide⟩,
   ⟨t0, [], by decide⟩,
   ⟨{ t0 with link.mode := LinkMode.direct, link.paused := false }, 1#8, by decide⟩,
   ⟨{ t0 with
       link.mode := LinkMode.direct, link.paused := false, link.inbound := List.replicate 1024 1#8 }, 1#8, by decide,
       by decide, Nat.le_of_eq List.length_replicate.symm⟩,
   ⟨0#4, 0#4, [1#8], { t0 with link.mode := LinkMode.linked, link.paused := false }, by decide⟩,
   ⟨0#4, 0#4, [1#8, 2#8], { t0 with
       link.mode := LinkMode.linked, link.paused := false, link.inbound := List.replicate 1023 1#8 }, by decide,
       by decide, by decide, by decide, by decide, by decide,
       (by rw [Link.inboundFree, List.length_replicate]; decide)⟩,
   ⟨9#4, 0#4, [1#8], { t0 with
       link.mode := LinkMode.linked, link.paused := false }, by decide, by decide, by decide, by decide, by decide,
       7, by decide⟩,
   ⟨8#4, 0#4, [1#8], { t0 with
       link.mode := LinkMode.linked, link.paused := false }, by decide, by decide, by decide, by decide, by decide,
       8, by decide⟩⟩

theorem witness_LineSensed :
    (∃ (s : State) (below : Bool), s.lif.voltageBelow ≠ below) ∧
    (∃ (s : State), s.lif.relayClosed = false ∧ s.lif.ringPresent = false ∧ s.lif.voltageBelow ≠ s.lif.lineInUse ∧
      (s.lif.lineInUse = false ∨ s.ccu.line ≠ LineState.idle ∨ s.ccu.claims = [])) ∧
    (∃ (s : State) (c : Claim) (rest : List Claim), s.lif.relayClosed = false ∧ s.lif.ringPresent = false ∧
      s.lif.voltageBelow ≠ s.lif.lineInUse ∧ s.lif.lineInUse = true ∧ s.ccu.line = LineState.idle ∧
      s.ccu.claims = c :: rest ∧ s.power.low = false) ∧
    (∃ (s : State) (below : Bool), s.lif.currentBelow ≠ below) ∧
    (∃ (s : State), s.lif.currentRunOn ∧ s.ccu.ending = none ∧ s.holder = some Party.auto) ∧
    (∃ (s : State) (p : Port), s.lif.currentRunOn ∧ s.ccu.ending = none ∧ s.holder = some p.party ∧
      s.settings.pickupHangsUp = true) ∧
    (∃ (s : State) (p : Port), s.lif.currentRunOn ∧ s.ccu.ending = none ∧ s.holder = some p.party ∧
      s.settings.pickupHangsUp = false) ∧
    (∃ (s : State), s.lif.suspended = true ∧ s.inBreak = false) :=
  ⟨⟨t0, true, by decide⟩,
   ⟨{ t0 with
       lif.relayClosed := false, lif.ringPresent := false, lif.lineInUse := false, lif.voltageBelow := true },
       by decide⟩,
   ⟨{ t0 with
       lif.relayClosed := false, lif.ringPresent := false, lif.lineInUse := true, ccu.line := LineState.idle,
       ccu.claims := (⟨.panel, [], .voice, false⟩) :: ([]), power.low := false }, ⟨.panel, [], .voice, false⟩, [],
       by decide⟩,
   ⟨t0, true, by decide⟩,
   ⟨{ t0 with
       ccu.ending := none, ccu.call.active := true, ccu.call.holder := some Party.auto, lif.relayClosed := true,
       lif.suspended := false, lif.currentBelow := true, lif.pickupLatch := false }, by decide⟩,
   ⟨{ t0 with
       ccu.ending := none, ccu.call.active := true, ccu.call.holder := some (Port.party .panel),
       settings.pickupHangsUp := true, lif.relayClosed := true, lif.suspended := false, lif.currentBelow := true,
       lif.pickupLatch := false }, .panel, by decide⟩,
   ⟨{ t0 with
       ccu.ending := none, ccu.call.active := true, ccu.call.holder := some (Port.party .panel),
       settings.pickupHangsUp := false, lif.relayClosed := true, lif.suspended := false, lif.currentBelow := true,
       lif.pickupLatch := false }, .panel, by decide⟩,
   ⟨{ t0 with lif.suspended := true }, by decide⟩⟩

theorem witness_LinkFailsAndClears :
    (∃ (s : State), s.link.mode = LinkMode.linked ∧ s.timers.e3.Due ∧
      (s.link.peerBusy = true ∨ s.link.retries + 1 ≤ s.settings.linkRetryLimit) ∧ s.link.retries < 31 ∧
      (s.link.window = [] ∨ s.link.paused = true)) ∧
    (∃ (s : State), s.link.mode = LinkMode.linked ∧ s.timers.e3.Due ∧
      (s.link.peerBusy = true ∨ s.link.retries + 1 ≤ s.settings.linkRetryLimit) ∧ s.link.retries < 31 ∧
      s.link.window ≠ [] ∧ s.link.paused = false) ∧
    (∃ (s : State), s.link.mode = LinkMode.linked ∧ s.timers.e3.Due ∧ s.link.peerBusy = false ∧
      s.settings.linkRetryLimit ≤ s.link.retries ∧ s.link.retries < 31 ∧ s.ccu.call.active = true ∧
      s.ccu.ending = none) ∧
    (∃ (s : State), s.link.paused = false ∧ s.link.mode = LinkMode.linked) ∧
    (∃ (s : State), s.link.paused = false ∧ s.link.mode = LinkMode.clearing ∧ s.link.byFarEnd = true) ∧
    (∃ (s : State), s.link.mode = LinkMode.clearing ∧ s.ccu.call.active = true ∧ s.link.byFarEnd = true ∧
      s.link.tx = Transmission.link LinkFrame.clear ∧ s.ccu.ending = none) ∧
    (∃ (s : State), s.link.mode = LinkMode.clearing ∧ s.ccu.call.active = true ∧ s.link.byFarEnd = false ∧
      s.timers.e3.Due ∧ (s.ccu.ending = none ∨ s.ccu.ending = some Cause.normal)) ∧
    (∃ (s : State), s.link.mode = LinkMode.clearing ∧ s.ccu.call.active = true ∧ s.link.byFarEnd = false ∧
      s.link.paused = false ∧ (s.ccu.ending = none ∨ s.ccu.ending = some Cause.normal)) :=
  ⟨⟨{ t0 with
       link.mode := LinkMode.linked, timers.e3.mode := .oneShot, link.peerBusy := true, link.window := [] },
       by decide⟩,
   ⟨{ t0 with
       link.mode := LinkMode.linked, timers.e3.mode := .oneShot, link.peerBusy := true, link.paused := false,
       link.window := [⟨3, [1#8]⟩], link.vs := 4 }, by decide⟩,
   ⟨{ t0 with
       link.mode := LinkMode.linked, timers.e3.mode := .oneShot, link.peerBusy := false, ccu.call.active := true,
       ccu.ending := none, link.retries := 10 }, by decide⟩,
   ⟨{ t0 with link.paused := false, link.mode := LinkMode.linked }, by decide⟩,
   ⟨{ t0 with link.paused := false, link.mode := LinkMode.clearing, link.byFarEnd := true }, by decide⟩,
   ⟨{ t0 with
       link.mode := LinkMode.clearing, ccu.call.active := true, link.byFarEnd := true,
       link.tx := Transmission.link LinkFrame.clear, ccu.ending := none }, by decide⟩,
   ⟨{ t0 with
       link.mode := LinkMode.clearing, ccu.call.active := true, link.byFarEnd := false, timers.e3.mode := .oneShot,
       ccu.ending := none }, by decide⟩,
   ⟨{ t0 with
       link.mode := LinkMode.clearing, ccu.call.active := true, link.byFarEnd := false, link.paused := false,
       ccu.ending := none }, by decide⟩⟩

theorem witness_LinkSetUp :
    (∃ (s : State), s.link.mode = LinkMode.setup ∧ s.timers.e3.Due ∧ s.link.attempts < 3) ∧
    (∃ (s : State), s.link.mode = LinkMode.setup ∧ s.timers.e3.Due ∧ 3 ≤ s.link.attempts ∧
      s.link.policy ≠ LinkPolicy.require) ∧
    (∃ (s : State), s.link.mode = LinkMode.setup ∧ s.timers.e3.Due ∧ 3 ≤ s.link.attempts ∧
      s.link.policy = LinkPolicy.require ∧ s.ccu.call.active = true ∧ s.ccu.ending = none) ∧
    (∃ (s : State) (w : Byte) (p : Byte), s.link.mode = LinkMode.setup ∧ s.link.paused = false) ∧
    (∃ (s : State) (w : Nat) (p : Nat), s.link.mode = LinkMode.setup ∧
      s.link.tx = Transmission.link (LinkFrame.linkConf w p)) :=
  ⟨⟨{ t0 with link.mode := LinkMode.setup, timers.e3.mode := .oneShot }, by decide⟩,
   ⟨{ t0 with link.mode := LinkMode.setup, timers.e3.mode := .oneShot, link.attempts := 3 }, by decide⟩,
   ⟨{ t0 with
       link.mode := LinkMode.setup, timers.e3.mode := .oneShot, link.policy := LinkPolicy.require,
       ccu.call.active := true, ccu.ending := none, link.attempts := 3 }, by decide⟩,
   ⟨{ t0 with link.mode := LinkMode.setup, link.paused := false }, 1#8, 1#8, by decide⟩,
   ⟨{ t0 with
       link.mode := LinkMode.setup, link.tx := Transmission.link (LinkFrame.linkConf (1) (1)) }, 1, 1, by decide⟩⟩

theorem witness_LogCodeRises :
    (∃ (k : Nat) (f : Nat) (v : Nat), f < 4 ∧ (4 + f) * 2 ^ k ≤ 4 * v ∧ 4 * v < (5 + f) * 2 ^ k) ∧
    (∃ (v : Nat) (w : Nat), v ≤ w) ∧
    (∃ (v : Nat), 1 ≤ v) ∧
    (∃ (v : Nat), 2 ≤ v) ∧
    (∃ (v : Nat), v ≤ 2097152) :=
  ⟨⟨3, 1, 10, by decide⟩,
   ⟨1, 1, by decide⟩,
   ⟨1, by decide⟩,
   ⟨2, by decide⟩,
   ⟨1, by decide⟩⟩

theorem witness_NoticesServed :
    (∃ (f : Frame) (x : Source) (s : State), s.Takes f 112#8 ∧ s.ports.panel.notices.choice = some x) ∧
    (∃ (f : Frame) (s : State), s.Takes f 112#8 ∧ s.ports.panel.notices.choice = none) ∧
    (∃ (f : Frame) (s : State), s.Takes f 113#8) ∧
    (∃ (f : Frame) (source : Byte) (x : Source) (s : State), s.Takes f 114#8 ∧
      Source.ofCode (BitVec.toNat source) = some x ∧ ¬(f.port = Port.panel ∧
      (x = Source.linkState ∨ x = Source.rateChange))) ∧
    (∃ (f : Frame) (source : Byte) (x : Source) (m : Bool) (s : State), s.Takes f 115#8 ∧
      Source.ofCode (BitVec.toNat source) = some x) :=
  ⟨⟨panFrame, .storeAlert, { t0 with sys.ready := true }, by decide⟩,
   ⟨panFrame, { t0 with ports.panel.notices.stack := [(.ring, 1)] }, by decide⟩,
   ⟨sysFrame, t0, by decide⟩,
   ⟨sysFrame, 7#8, .linkState, t0, by decide⟩,
   ⟨sysFrame, 14#8, .storeAlert, true, t0, by decide⟩⟩

theorem witness_PlayAndRecordStart :
    (∃ (f : Frame) (id : Byte) (start : PlayStart) (endpoint : Byte) (stopOnDigit : Byte) (e : Endpoint) (d : Bool) (entry : Entry) (s : State),
      s.Takes f 64#8 ∧ endpointOf endpoint = some e ∧ flagOf stopOnDigit = some d ∧ id ≠ 0#8 ∧
      s.store.visible (BitVec.toNat id) = some entry ∧ entry.state ≠ EntryState.opened ∧
      (entry.kind = MsgKind.voiceMsg ∨ entry.kind = MsgKind.greeting ∨ entry.kind = MsgKind.memo) ∧
      s.voice.op.state = VoiceState.idle ∧ s.voice.op.user ≠ some Party.auto ∧
      (e = Endpoint.line → s.hasVoiceLine f.port ∧ s.tone.generator.state ≠ GeneratorState.sending ∧
      s.tone.generator.state ≠ GeneratorState.beeping) ∧ s.playOffset (BitVec.toNat id) start < entry.length) ∧
    (∃ (f : Frame) (kind : Byte) (slot : Byte) (endpoint : Byte) (vox : Byte) (seconds : U16) (k : MsgKind × Option Nat) (e : Endpoint) (v : Bool) (s : State),
      s.Takes f 65#8 ∧ recordKind kind slot = some k ∧ endpointOf endpoint = some e ∧ flagOf vox = some v ∧
      s.voice.op.state = VoiceState.idle ∧ s.voice.op.user ≠ some Party.auto ∧
      (e = Endpoint.line → s.hasVoiceLine f.port) ∧ s.canCreate = true) ∧
    (∃ (f : Frame) (kind : Byte) (slot : Byte) (endpoint : Byte) (vox : Byte) (seconds : U16) (k : MsgKind × Option Nat) (e : Endpoint) (v : Bool) (s : State),
      s.Takes f 65#8 ∧ recordKind kind slot = some k ∧ endpointOf endpoint = some e ∧ flagOf vox = some v ∧
      s.voice.op.state = VoiceState.idle ∧ s.voice.op.user ≠ some Party.auto ∧
      (e = Endpoint.line → s.hasVoiceLine f.port) ∧ s.canCreate = false) :=
  ⟨⟨sysFrame, 1#8, .offset 0#32, 1#8, 1#8, .local, true, memo1, { t0 with
       voice.op.state := VoiceState.idle }, by decide⟩,
   ⟨sysFrame, 1#8, 3#8, 1#8, 1#8, 1#16, (.greeting, some 3), .local, true, { t0 with
       voice.op.state := VoiceState.idle }, by decide⟩,
   ⟨sysFrame, 2#8, 1#8, 1#8, 1#8, 1#16, (.memo, none), .local, true, { t0 with
       voice.op.state := VoiceState.idle, store.free := [] }, by decide⟩⟩

theorem witness_PlaysAndBeepsEnd :
    (∃ (s : State) (d : Discrimination), s.voice.op.autoTone ∧ s.rau.discr = some d ∧ d.phase = DiscrPhase.beep ∧
      s.canCreate = true) ∧
    (∃ (s : State) (r : Remote), s.voice.op.autoTone ∧ s.voice.remote = some r ∧ r.state = RemoteState.prompting) ∧
    (∃ (s : State) (p : Port) (id : Nat) (e : Entry), s.voice.op.state = VoiceState.playing ∧
      s.voice.op.operation = some VoiceOperation.play ∧ s.voice.op.user = some p.party ∧
      s.voice.op.message = some id ∧ s.store.find id = some e ∧ e.state ≠ EntryState.doomed) ∧
    (∃ (s : State) (id : Nat) (e : Entry) (d : Discrimination), s.voice.op.state = VoiceState.playing ∧
      s.voice.op.operation = some VoiceOperation.play ∧ s.voice.op.user = some Party.auto ∧
      s.voice.op.message = some id ∧ s.store.find id = some e ∧ e.state ≠ EntryState.doomed ∧ s.rau.discr = some d ∧
      s.storeHasRoom = true) ∧
    (∃ (s : State) (id : Nat) (e : Entry) (d : Discrimination), s.voice.op.state = VoiceState.playing ∧
      s.voice.op.operation = some VoiceOperation.play ∧ s.voice.op.user = some Party.auto ∧
      s.voice.op.message = some id ∧ s.store.find id = some e ∧ e.state ≠ EntryState.doomed ∧ s.rau.discr = some d ∧
      s.storeHasRoom = false ∧ s.holder = some Party.auto ∧ s.ccu.ending = none ∧
      (d.heard ≠ 0 ∨ s.settings.quietHangsUp = true ∨ s.settings.faxToStore = true ∨ s.sys.ready = false)) ∧
    (∃ (s : State) (id : Nat) (e : Entry) (d : Discrimination), s.voice.op.state = VoiceState.playing ∧
      s.voice.op.operation = some VoiceOperation.play ∧ s.voice.op.user = some Party.auto ∧
      s.voice.op.message = some id ∧ s.store.find id = some e ∧ e.state ≠ EntryState.doomed ∧ s.rau.discr = some d ∧
      s.storeHasRoom = false ∧ s.holder = some Party.auto ∧ s.ccu.ending = none ∧ d.heard = 0 ∧
      s.settings.quietHangsUp = false ∧ s.settings.faxToStore = false ∧ s.sys.ready = true ∧
      max 2 s.settings.rungFloor ≤ min 7 s.settings.rungCeiling) ∧
    (∃ (s : State) (id : Nat) (e : Entry) (r : Remote) (next : Nat) (k : Nat),
      s.voice.op.state = VoiceState.playing ∧ s.voice.op.operation = some VoiceOperation.play ∧
      s.voice.op.user = some Party.auto ∧ s.voice.op.message = some id ∧ s.store.find id = some e ∧
      e.state ≠ EntryState.doomed ∧ s.rau.discr = none ∧ s.voice.remote = some r ∧
      nextPlayable s.store r.list (r.cursor.getD 0 + 1) = some (next, k)) ∧
    (∃ (xs : List Sample) (bands : List (List Sample)) (b : ToneBlock) (d : Discrimination) (dir : List Entry) (free : List Nat) (s : State),
      s.LineBlockMeasured xs bands b ∧ s.ccu.line = LineState.connected ∧ s.holder = some Party.auto ∧
      s.ccu.ending = none ∧ s.ccu.call.job = Job.discriminate ∧ s.rau.discr = some d ∧ s.autoStopped = some (dir,
      free) ∧ b.present s 1 = true ∧ s.tone.faxCall.run = 24 ∧
      max 2 s.settings.rungFloor ≤ min 7 s.settings.rungCeiling ∧ s.settings.faxToStore = false ∧ s.sys.ready = true) ∧
    (∃ (xs : List Sample) (bands : List (List Sample)) (b : ToneBlock) (d : Discrimination) (dir : List Entry) (free : List Nat) (s : State),
      s.LineBlockMeasured xs bands b ∧ s.ccu.line = LineState.connected ∧ s.holder = some Party.auto ∧
      s.ccu.ending = none ∧ s.ccu.call.job = Job.discriminate ∧ s.rau.discr = some d ∧ s.autoStopped = some (dir,
      free) ∧ b.present s 1 = true ∧ s.tone.faxCall.run = 24 ∧
      max 2 s.settings.rungFloor ≤ min 7 s.settings.rungCeiling ∧
      (s.settings.faxToStore = true ∨ s.sys.ready = false) ∧ s.settings.lowSpaceGranules ≤ free.length ∧
      dir.length < 96 ∧ 1 ≤ free.length) ∧
    (∃ (xs : List Sample) (bands : List (List Sample)) (b : ToneBlock) (d : Discrimination) (dir : List Entry) (free : List Nat) (s : State),
      s.LineBlockMeasured xs bands b ∧ s.ccu.line = LineState.connected ∧ s.holder = some Party.auto ∧
      s.ccu.ending = none ∧ s.ccu.call.job = Job.discriminate ∧ s.rau.discr = some d ∧ s.autoStopped = some (dir,
      free) ∧ b.present s 1 = true ∧ s.tone.faxCall.run = 24 ∧
      max 2 s.settings.rungFloor ≤ min 7 s.settings.rungCeiling ∧
      (s.settings.faxToStore = true ∨ s.sys.ready = false) ∧
      (free.length < s.settings.lowSpaceGranules ∨ 96 ≤ dir.length)) ∧
    (∃ (xs : List Sample) (bands : List (List Sample)) (b : ToneBlock) (d : Discrimination) (dir : List Entry) (free : List Nat) (s : State),
      s.LineBlockMeasured xs bands b ∧ s.ccu.line = LineState.connected ∧ s.holder = some Party.auto ∧
      s.ccu.ending = none ∧ s.ccu.call.job = Job.discriminate ∧ s.rau.discr = some d ∧ s.autoStopped = some (dir,
      free) ∧ b.present s 1 = false ∧ b.present s 2 = true ∧ s.tone.dataCall.run = 24 ∧ s.sys.ready = true) ∧
    (∃ (xs : List Sample) (bands : List (List Sample)) (b : ToneBlock) (d : Discrimination) (dir : List Entry) (free : List Nat) (s : State),
      s.LineBlockMeasured xs bands b ∧ s.ccu.line = LineState.connected ∧ s.holder = some Party.auto ∧
      s.ccu.ending = none ∧ s.ccu.call.job = Job.discriminate ∧ s.rau.discr = some d ∧ s.autoStopped = some (dir,
      free) ∧ b.present s 1 = false ∧ b.present s 2 = true ∧ s.tone.dataCall.run = 24 ∧ s.sys.ready = false) :=
  ⟨⟨{ t0 with
       rau.discr := some { discr1 with phase := .beep }, voice.op.state := .playing,
       voice.op.operation := some .tone, voice.op.user := some .auto }, { discr1 with phase := .beep }, by decide⟩,
   ⟨{ t0 with
       voice.remote := some (remote1), voice.op.state := .playing, voice.op.operation := some .tone,
       voice.op.user := some .auto }, remote1, by decide⟩,
   ⟨{ t0 with
       voice.op.state := VoiceState.playing, voice.op.operation := some VoiceOperation.play,
       voice.op.user := some (Port.party .panel), voice.op.message := some (1) }, .panel, 1, memo1, by decide⟩,
   ⟨{ t0 with
       voice.op.state := VoiceState.playing, voice.op.operation := some VoiceOperation.play,
       voice.op.user := some Party.auto, voice.op.message := some (1), rau.discr := some (discr1),
       settings.lowSpaceGranules := 5 }, 1, memo1, discr1, by decide⟩,
   ⟨{ t0 with
       voice.op.state := VoiceState.playing, voice.op.operation := some VoiceOperation.play,
       voice.op.user := some Party.auto, voice.op.message := some (1), rau.discr := some (discr1),
       ccu.call.active := true, ccu.call.holder := some Party.auto, ccu.ending := none, store.free := [] }, 1, memo1,
       discr1, by decide⟩,
   ⟨{ t0 with
       voice.op.state := VoiceState.playing, voice.op.operation := some VoiceOperation.play,
       voice.op.user := some Party.auto, voice.op.message := some (1), rau.discr := some { discr1 with heard := 0 },
       ccu.call.active := true, ccu.call.holder := some Party.auto, ccu.ending := none,
       settings.quietHangsUp := false, settings.faxToStore := false, sys.ready := true, store.free := [] }, 1, memo1,
       { discr1 with heard := 0 }, by decide⟩,
   ⟨{ t0 with
       voice.op.state := VoiceState.playing, voice.op.operation := some VoiceOperation.play,
       voice.op.user := some Party.auto, voice.op.message := some (1), rau.discr := none,
       voice.remote := some { remote1 with list := [1, 3], cursor := some 0 } }, 1, memo1,
       { remote1 with list := [1, 3], cursor := some 0 }, 3, 1, by decide⟩,
   ⟨[0#16], List.replicate 12 [0#16], toneOf [1], discr1, [memo1], [19, 17], { toneState [1] with
       ccu.line := LineState.connected, ccu.call.active := true, ccu.call.holder := some Party.auto,
       ccu.ending := none, ccu.call.job := Job.discriminate, rau.discr := some (discr1), tone.faxCall.run := 24,
       settings.faxToStore := false, sys.ready := true, voice.op.operation := some .record,
       voice.op.message := some 2, store.dir := [memo1, memo2], store.free := [19] }, ⟨by decide, by decide,
       by decide, by decide, by decide, by decide, by decide⟩, by decide⟩,
   ⟨[0#16], List.replicate 12 [0#16], toneOf [1], discr1, [memo1], [19, 17], { toneState [1] with
       ccu.line := LineState.connected, ccu.call.active := true, ccu.call.holder := some Party.auto,
       ccu.ending := none, ccu.call.job := Job.discriminate, rau.discr := some (discr1), tone.faxCall.run := 24,
       settings.faxToStore := true, settings.lowSpaceGranules := 2, voice.op.operation := some .record,
       voice.op.message := some 2, store.dir := [memo1, memo2], store.free := [19] }, ⟨by decide, by decide,
       by decide, by decide, by decide, by decide, by decide⟩, by decide⟩,
   ⟨[0#16], List.replicate 12 [0#16], toneOf [1], discr1, [{ memo1 with holds := 0 }], [19], { toneState [1] with
       ccu.line := LineState.connected, ccu.call.active := true, ccu.call.holder := some Party.auto,
       ccu.ending := none, ccu.call.job := Job.discriminate, rau.discr := some (discr1), tone.faxCall.run := 24,
       settings.faxToStore := true, voice.op.operation := some .play, voice.op.user := some .auto,
       voice.op.message := some 1, store.dir := [{ memo1 with holds := 1 }], store.free := [19] }, ⟨by decide,
       by decide, by decide, by decide, by decide, by decide, by decide⟩, by decide⟩,
   ⟨[0#16], List.replicate 12 [0#16], toneOf [2], discr1, [memo1], [19, 17], { toneState [2] with
       ccu.line := LineState.connected, ccu.call.active := true, ccu.call.holder := some Party.auto,
       ccu.ending := none, ccu.call.job := Job.discriminate, rau.discr := some (discr1), tone.dataCall.run := 24,
       sys.ready := true, voice.op.operation := some .record, voice.op.message := some 2,
       store.dir := [memo1, memo2], store.free := [19] }, ⟨by decide, by decide, by decide, by decide, by decide,
       by decide, by decide⟩, by decide⟩,
   ⟨[0#16], List.replicate 12 [0#16], toneOf [2], discr1, [{ memo1 with holds := 0 }], [19], { toneState [2] with
       ccu.line := LineState.connected, ccu.call.active := true, ccu.call.holder := some Party.auto,
       ccu.ending := none, ccu.call.job := Job.discriminate, rau.discr := some (discr1), tone.dataCall.run := 24,
       sys.ready := false, voice.op.operation := some .play, voice.op.user := some .auto, voice.op.message := some 1,
       store.dir := [{ memo1 with holds := 1 }], store.free := [19] }, ⟨by decide, by decide, by decide, by decide,
       by decide, by decide, by decide⟩, by decide⟩⟩

theorem witness_PortFrames :
    (∃ (bytes : List Byte) (s : State), s.deaf Port.panel = false ∧ bytes.head? = some 195#8 ∧
      (lengthField bytes < 5 ∨ 255 < lengthField bytes ∨ bytes.length ≠ lengthField bytes ∨ byteSum bytes ≠ 0#8)) ∧
    (∃ (bytes : List Byte) (more : List Byte) (s : State), s.deaf Port.system = false ∧ bytes.head? = some 195#8 ∧
      3 ≤ bytes.length ∧ (lengthField bytes < 5 ∨ 255 < lengthField bytes)) ∧
    (∃ (bytes : List Byte) (more : List Byte) (s : State), s.deaf Port.system = false ∧ bytes.head? = some 195#8 ∧
      5 ≤ lengthField bytes ∧ lengthField bytes ≤ 255 ∧ bytes.length = lengthField bytes ∧ byteSum bytes ≠ 0#8) ∧
    (∃ (bytes : List Byte) (more : List Byte) (s : State), s.deaf Port.system = false ∧ bytes.head? = some 195#8 ∧
      (bytes.length < 3 ∨ 5 ≤ lengthField bytes ∧ lengthField bytes ≤ 255 ∧ bytes.length < lengthField bytes)) ∧
    (∃ (p : Port) (code : Byte) (s : State), s.deaf p = false ∧ s.occupied p = true) ∧
    (∃ (p : Port) (code : Byte) (s : State), s.deaf p = false ∧ s.occupied p = false ∧ s.power.low = false ∧
      portKnows p code = false) ∧
    (∃ (n : Nat) (s : State) (a : Answer) (rest : List Answer), s.ports.panel.outgoing = a :: rest ∧
      s.pan.readBytes + n < a.bytes.length) ∧
    (∃ (n : Nat) (s : State) (a : Answer) (rest : List Answer), s.ports.panel.outgoing = a :: rest ∧
      a.bytes.length ≤ s.pan.readBytes + n) ∧
    (∃ (n : Nat) (s : State), s.ports.panel.outgoing = []) :=
  ⟨⟨[195#8, 6#8, 0#8, 1#8], t0, by decide⟩,
   ⟨[195#8, 4#8, 0#8], [], t0, by decide⟩,
   ⟨[195#8, 5#8, 0#8, 0x20#8, 1#8], [], t0, by decide⟩,
   ⟨[195#8, 5#8], [], t0, by decide⟩,
   ⟨.panel, 1#8, { t0 with ports.panel.outgoing := [⟨.reply, .ok, 0x78#8, []⟩] }, by decide⟩,
   ⟨.panel, 1#8, { t0 with power.low := false }, by decide⟩,
   ⟨1, { t0 with
       ports.panel.outgoing := (⟨.reply, .ok, 0x78#8, []⟩) :: ([]) }, ⟨.reply, .ok, 0x78#8, []⟩, [], by decide⟩,
   ⟨6, { t0 with
       ports.panel.outgoing := (⟨.reply, .ok, 0x78#8, []⟩) :: ([]) }, ⟨.reply, .ok, 0x78#8, []⟩, [], by decide⟩,
   ⟨1, { t0 with ports.panel.outgoing := [] }, by decide⟩⟩

theorem witness_PortResetClears :
    (∃ (f : Frame) (s : State), s.Takes f 121#8) :=
  ⟨sysFrame, t0, by decide⟩

theorem witness_PowerLowClosesOut :
    (∃ (s : State), s.power.low = false) :=
  ⟨{ t0 with power.low := false }, by decide⟩

theorem witness_ReadChannelMoves :
    (∃ (p : Port) (id : Nat) (e : Entry) (s : State), (s.channel p).direction = TransferDirection.read ∧
      (s.channel p).state = TransferState.active ∧ (s.channel p).message = some id ∧ s.store.find id = some e ∧
      0 < min (s.channel p).remaining (256 - (s.channel p).fifo.length)) ∧
    (∃ (f : Frame) (count : Byte) (s : State), s.Takes f 86#8 ∧ 1 ≤ BitVec.toNat count ∧ BitVec.toNat count ≤ 128 ∧
      (s.channel f.port).direction = TransferDirection.read ∧ (s.channel f.port).state = TransferState.active ∧
      (BitVec.toNat count < (s.channel f.port).fifo.length ∨ 0 < (s.channel f.port).remaining)) ∧
    (∃ (f : Frame) (count : Byte) (id : Nat) (e : Entry) (s : State), s.Takes f 86#8 ∧ 1 ≤ BitVec.toNat count ∧
      BitVec.toNat count ≤ 128 ∧ (s.channel f.port).direction = TransferDirection.read ∧
      (s.channel f.port).state = TransferState.active ∧ (s.channel f.port).fifo.length ≤ BitVec.toNat count ∧
      (s.channel f.port).remaining = 0 ∧ (s.channel f.port).message = some id ∧ s.store.find id = some e ∧
      e.state ≠ EntryState.doomed) :=
  ⟨⟨.panel, 1, memo1, { t0 with
       ports.panel.transfer.direction := .read, ports.panel.transfer.state := .active,
       ports.panel.transfer.message := some 1, ports.panel.transfer.remaining := 4 }, by decide⟩,
   ⟨sysFrame, 128#8, { t0 with
       ports.system.transfer.direction := TransferDirection.read,
       ports.system.transfer.state := TransferState.active, ports.system.transfer.remaining := 1 }, by decide⟩,
   ⟨sysFrame, 1#8, 1, memo1, { t0 with
       ports.system.transfer.direction := TransferDirection.read,
       ports.system.transfer.state := TransferState.active, ports.system.transfer.remaining := 0,
       ports.system.transfer.message := some (1) }, by decide⟩⟩

theorem witness_ReadsChangeNothing :
    (∃ (f : Frame) (s : State), s.Takes f 32#8) ∧
    (∃ (f : Frame) (s : State) (first : Byte) (count : Byte), s.Takes f 33#8) ∧
    (∃ (f : Frame) (s : State), s.Takes f 34#8) ∧
    (∃ (f : Frame) (s : State), s.Takes f 35#8) ∧
    (∃ (f : Frame) (s : State), s.Takes f 36#8) ∧
    (∃ (f : Frame) (s : State) (id : Byte), s.Takes f 50#8) ∧
    (∃ (f : Frame) (s : State) (id : Byte), s.Takes f 81#8) :=
  ⟨⟨sysFrame, t0, by decide⟩,
   ⟨sysFrame, t0, 1#8, 1#8, by decide⟩,
   ⟨sysFrame, t0, by decide⟩,
   ⟨sysFrame, t0, by decide⟩,
   ⟨sysFrame, t0, by decide⟩,
   ⟨sysFrame, t0, 1#8, by decide⟩,
   ⟨sysFrame, t0, 1#8, by decide⟩⟩

theorem witness_RecognitionsMade :
    (∃ (n : Nat) (d : Detector), d = Nat.repeat (fun x => x.judge true) n Detector.zero) ∧
    (∃ (x : Symbol) (d : Dtmf), d.reported = none ∧ d.candidate ≠ some x) ∧
    (∃ (xs : List Sample) (bands : List (List Sample)) (b : ToneBlock) (s : State), s.LineBlockCloses xs bands b ∧
      s.rau.discr = none ∧ s.ccu.line = LineState.progress ∧ (s.ccu.call.job = Job.data ∨ s.ccu.call.job = Job.fax) ∧
      b.present s 0 = false ∧ b.present s 3 = false) ∧
    (∃ (xs : List Sample) (bands : List (List Sample)) (b : ToneBlock) (s : State), s.LineBlockCloses xs bands b ∧
      s.rau.discr = none ∧ s.ccu.line = LineState.progress ∧ (s.ccu.call.job = Job.data ∨ s.ccu.call.job = Job.fax) ∧
      b.present s 0 = false ∧ b.present s 3 = true ∧ s.tone.answer.run < 24) ∧
    (∃ (xs : List Sample) (bands : List (List Sample)) (b : ToneBlock) (s : State), s.LineBlockCloses xs bands b ∧
      s.rau.discr = none ∧ s.ccu.line = LineState.progress ∧ (s.ccu.call.job = Job.data ∨ s.ccu.call.job = Job.fax) ∧
      b.present s 0 = false ∧ b.present s 3 = true ∧ s.tone.answer.run = 24 ∧ s.ccu.call.job = Job.data) ∧
    (∃ (xs : List Sample) (bands : List (List Sample)) (b : ToneBlock) (s : State), s.LineBlockCloses xs bands b ∧
      s.rau.discr = none ∧ s.ccu.line = LineState.progress ∧ (s.ccu.call.job = Job.data ∨ s.ccu.call.job = Job.fax) ∧
      b.present s 0 = false ∧ b.present s 3 = true ∧ s.tone.answer.run = 24 ∧ s.ccu.call.job = Job.fax ∧
      s.fax.role = some FaxRole.sender ∧ max 2 s.settings.rungFloor ≤ min 7 s.settings.rungCeiling) ∧
    (∃ (xs : List Sample) (bands : List (List Sample)) (b : ToneBlock) (s : State), s.LineBlockCloses xs bands b ∧
      s.rau.discr = none ∧ s.ccu.line = LineState.progress ∧ s.ccu.call.job = Job.voice ∧
      s.ccu.call.farEndRinging = true ∧ b.present s 0 = false ∧ s.settings.silenceLevel ≤ b.whole ∧
      9 ≤ s.tone.voiceBlocks) ∧
    (∃ (xs : List Sample) (bands : List (List Sample)) (b : ToneBlock) (s : State), s.LineBlockCloses xs bands b ∧
      s.rau.discr = none ∧ s.ccu.line = LineState.progress ∧ s.ccu.call.job = Job.voice ∧
      s.ccu.call.farEndRinging = true ∧ b.present s 0 = false ∧ s.settings.silenceLevel ≤ b.whole ∧
      s.tone.voiceBlocks < 9) ∧
    (∃ (xs : List Sample) (bands : List (List Sample)) (b : ToneBlock) (s : State), s.LineBlockCloses xs bands b ∧
      s.rau.discr = none ∧ s.ccu.line = LineState.progress ∧ s.ccu.call.job = Job.voice ∧
      s.ccu.call.farEndRinging = true ∧ b.present s 0 = false ∧ b.whole < s.settings.silenceLevel) ∧
    (∃ (xs : List Sample) (bands : List (List Sample)) (b : ToneBlock) (s : State) (j : Classifier × Option CadenceClass),
      s.LineBlockCloses xs bands b ∧ s.rau.discr = none ∧ s.ccu.line = LineState.progress ∧
      j = s.tone.classifier.judge s.settings.cadence (b.present s 0) ∧
      (j.snd = some CadenceClass.busy ∨ j.snd = some CadenceClass.congestion) ∧ s.ccu.call.active = true ∧
      s.ccu.ending = none) ∧
    (∃ (xs : List Sample) (bands : List (List Sample)) (b : ToneBlock) (s : State) (j : Classifier × Option CadenceClass),
      s.LineBlockCloses xs bands b ∧ s.rau.discr = none ∧ s.ccu.line = LineState.progress ∧
      j = s.tone.classifier.judge s.settings.cadence (b.present s 0) ∧ (s.ccu.call.job = Job.voice ∧
      s.ccu.call.farEndRinging = false ∨ s.ccu.call.job ≠ Job.voice ∧ b.present s 3 = false) ∧
      j.snd = some CadenceClass.ringback) ∧
    (∃ (xs : List Sample) (bands : List (List Sample)) (b : ToneBlock) (s : State) (j : Classifier × Option CadenceClass),
      s.LineBlockCloses xs bands b ∧ s.rau.discr = none ∧ s.ccu.line = LineState.progress ∧
      j = s.tone.classifier.judge s.settings.cadence (b.present s 0) ∧ (s.ccu.call.job = Job.voice ∧
      s.ccu.call.farEndRinging = false ∨ s.ccu.call.job ≠ Job.voice ∧ b.present s 3 = false) ∧ j.snd = none) ∧
    (∃ (xs : List Sample) (bands : List (List Sample)) (b : ToneBlock) (i : DialItem) (s : State),
      s.LineBlockCloses xs bands b ∧ s.rau.discr = none ∧ s.ccu.line = LineState.seizing ∧
      s.ccu.t2Use = T2Use.dialToneWait ∧
      (s.tone.classifier.judge s.settings.cadence (b.present s 0)).snd = some CadenceClass.dial ∧
      s.dialItems[0]? = some i) ∧
    (∃ (xs : List Sample) (bands : List (List Sample)) (b : ToneBlock) (s : State), s.LineBlockCloses xs bands b ∧
      s.rau.discr = none ∧ s.ccu.line = LineState.dialing ∧ s.ccu.dialler.item = ItemState.waiting ∧
      (s.tone.classifier.judge s.settings.cadence (b.present s 0)).snd = some CadenceClass.dial) :=
  ⟨⟨0, .zero, by decide⟩,
   ⟨5, .zero, by decide⟩,
   ⟨[0#16], List.replicate 12 [0#16], toneOf [], { toneState [] with
       rau.discr := none, ccu.line := LineState.progress, ccu.call.job := Job.data },
       ⟨⟨by decide, by decide, by decide, by decide, by decide, by decide, by decide⟩, by decide⟩, by decide⟩,
   ⟨[0#16], List.replicate 12 [0#16], toneOf [3], { toneState [3] with
       rau.discr := none, ccu.line := LineState.progress, ccu.call.job := Job.data },
       ⟨⟨by decide, by decide, by decide, by decide, by decide, by decide, by decide⟩, by decide⟩, by decide⟩,
   ⟨[0#16], List.replicate 12 [0#16], toneOf [3], { toneState [3] with
       rau.discr := none, ccu.line := LineState.progress, ccu.call.job := Job.data, tone.answer.run := 24 },
       ⟨⟨by decide, by decide, by decide, by decide, by decide, by decide, by decide⟩, by decide⟩, by decide⟩,
   ⟨[0#16], List.replicate 12 [0#16], toneOf [3], { toneState [3] with
       rau.discr := none, ccu.line := LineState.progress, ccu.call.job := Job.fax, tone.answer.run := 24,
       fax.role := some FaxRole.sender },
       ⟨⟨by decide, by decide, by decide, by decide, by decide, by decide, by decide⟩, by decide⟩, by decide⟩,
   ⟨[0#16], List.replicate 12 [0#16], toneOf [], { toneState [] with
       rau.discr := none, ccu.line := LineState.progress, ccu.call.job := Job.voice, ccu.call.farEndRinging := true,
       tone.voiceBlocks := 9 }, ⟨⟨by decide, by decide, by decide, by decide, by decide, by decide, by decide⟩,
       by decide⟩, by decide⟩,
   ⟨[0#16], List.replicate 12 [0#16], toneOf [], { toneState [] with
       rau.discr := none, ccu.line := LineState.progress, ccu.call.job := Job.voice,
       ccu.call.farEndRinging := true },
       ⟨⟨by decide, by decide, by decide, by decide, by decide, by decide, by decide⟩, by decide⟩, by decide⟩,
   ⟨[0#16], List.replicate 12 [0#16], toneOf [], { toneState [] with
       rau.discr := none, ccu.line := LineState.progress, ccu.call.job := Job.voice, ccu.call.farEndRinging := true,
       settings.silenceLevel := 41 }, ⟨⟨by decide, by decide, by decide, by decide, by decide, by decide, by decide⟩,
       by decide⟩, by decide⟩,
   ⟨[0#16], List.replicate 12 [0#16], toneOf [0], { toneState [0] with
       rau.discr := none, ccu.line := LineState.progress, ccu.call.active := true, ccu.ending := none,
       tone.classifier := (⟨.off, 31, 31, ⟨9, 9, 9, 9, 9, 9⟩⟩ : Classifier) },
       ((⟨.off, 31, 31, ⟨9, 9, 9, 9, 9, 9⟩⟩ : Classifier).judge t0.settings.cadence true),
       ⟨⟨by decide, by decide, by decide, by decide, by decide, by decide, by decide⟩, by decide⟩, by decide⟩,
   ⟨[0#16], List.replicate 12 [0#16], toneOf [0], { toneState [0] with
       rau.discr := none, ccu.line := LineState.progress, ccu.call.job := Job.voice, ccu.call.farEndRinging := false,
       tone.classifier := (⟨.off, 250, 62, ⟨9, 9, 9, 9, 9, 9⟩⟩ : Classifier) },
       ((⟨.off, 250, 62, ⟨9, 9, 9, 9, 9, 9⟩⟩ : Classifier).judge t0.settings.cadence true),
       ⟨⟨by decide, by decide, by decide, by decide, by decide, by decide, by decide⟩, by decide⟩, by decide⟩,
   ⟨[0#16], List.replicate 12 [0#16], toneOf [], { toneState [] with
       rau.discr := none, ccu.line := LineState.progress, ccu.call.job := Job.voice,
       ccu.call.farEndRinging := false }, (Classifier.zero.judge t0.settings.cadence false),
       ⟨⟨by decide, by decide, by decide, by decide, by decide, by decide, by decide⟩, by decide⟩, by decide⟩,
   ⟨[0#16], List.replicate 12 [0#16], toneOf [0], .tone 5, { toneState [0] with
       rau.discr := none, ccu.line := LineState.seizing, ccu.t2Use := T2Use.dialToneWait,
       tone.classifier := (⟨.on, 62, 0, ⟨0, 0, 0, 0, 0, 0⟩⟩ : Classifier), ccu.call.dialList := some [.tone 5] },
       ⟨⟨by decide, by decide, by decide, by decide, by decide, by decide, by decide⟩, by decide⟩, by decide⟩,
   ⟨[0#16], List.replicate 12 [0#16], toneOf [0], { toneState [0] with
       rau.discr := none, ccu.line := LineState.dialing, ccu.dialler.item := ItemState.waiting,
       tone.classifier := (⟨.on, 62, 0, ⟨0, 0, 0, 0, 0, 0⟩⟩ : Classifier),
       ccu.call.dialList := some [.waitTone, .tone 5] },
       ⟨⟨by decide, by decide, by decide, by decide, by decide, by decide, by decide⟩, by decide⟩, by decide⟩⟩

theorem witness_RecordingsRunAndEnd :
    (∃ (id : Nat) (e : Entry) (s : State) (ep : Endpoint) (xs : List Sample) (bands : List (List Sample)),
      s.voice.op.state = VoiceState.recording ∧ s.voice.op.operation = some VoiceOperation.record ∧
      s.voice.op.message = some id ∧ s.store.find id = some e ∧ Mem.wf s.store.mem = true ∧
      s.power.retention = false ∧ s.voice.op.endpoint = some ep ∧ s.voice.op.taken = [] ∧
      (s.level.pathOf ep.path).count + xs.length < 128 ∧ s.voice.op.inBlock = false ∧
      (s.level.pathOf ep.path).count ≠ 0) ∧
    (∃ (id : Nat) (e : Entry) (s : State) (ep : Endpoint) (xs : List Sample) (bands : List (List Sample)),
      s.voice.op.state = VoiceState.recording ∧ s.voice.op.operation = some VoiceOperation.record ∧
      s.voice.op.message = some id ∧ s.store.find id = some e ∧ Mem.wf s.store.mem = true ∧
      s.power.retention = false ∧ s.voice.op.endpoint = some ep ∧ s.voice.op.taken = [] ∧
      (s.level.pathOf ep.path).count + xs.length < 128 ∧
      (s.voice.op.inBlock = true ∨ (s.level.pathOf ep.path).count = 0) ∧
      (s.voice.op.written = 1020 * e.granules.length ∨ (List.foldl VoiceOp.recordSample s.voice.op xs).waiting = [])) ∧
    (∃ (id : Nat) (e : Entry) (s : State) (ep : Endpoint) (xs : List Sample) (bands : List (List Sample)) (c : CodeByte),
      s.voice.op.state = VoiceState.recording ∧ s.voice.op.operation = some VoiceOperation.record ∧
      s.voice.op.message = some id ∧ s.store.find id = some e ∧ Mem.wf s.store.mem = true ∧
      s.power.retention = false ∧ s.voice.op.endpoint = some ep ∧ s.voice.op.taken = [] ∧
      (s.level.pathOf ep.path).count + xs.length < 128 ∧
      (s.voice.op.inBlock = true ∨ (s.level.pathOf ep.path).count = 0) ∧ s.voice.op.written % 1020 ≠ 0 ∧
      s.voice.op.written / 1020 < e.granules.length ∧ (List.foldl VoiceOp.recordSample s.voice.op xs).waiting = [c]) ∧
    (∃ (id : Nat) (e : Entry) (s : State) (ep : Endpoint) (xs : List Sample) (bands : List (List Sample)) (o : VoiceOp) (v : Nat) (b : ToneBlock),
      s.voice.op.state = VoiceState.recording ∧ s.voice.op.operation = some VoiceOperation.record ∧
      s.voice.op.message = some id ∧ s.store.find id = some e ∧ Mem.wf s.store.mem = true ∧
      s.power.retention = false ∧ s.voice.op.endpoint = some ep ∧ s.voice.op.taken = [] ∧
      (s.level.pathOf ep.path).count + xs.length = 128 ∧
      (ep = Endpoint.line → s.level.bandsOn = true → s.LineBlockMeasured xs bands b ∧ s.BlockQuiet b) ∧
      s.voice.op.inBlock = true ∧ v = logCode (blockMean (s.level.pathOf ep.path) xs) ∧
      o = List.foldl VoiceOp.recordSample s.voice.op xs ∧ o.samplesTaken = s.voice.op.samplesTaken + xs.length ∧
      s.voice.op.written = 1020 * e.granules.length ∧ o.waiting ≠ []) ∧
    (∃ (id : Nat) (e : Entry) (s : State) (ep : Endpoint) (xs : List Sample) (bands : List (List Sample)) (o : VoiceOp) (v : Nat) (b : ToneBlock),
      s.voice.op.state = VoiceState.recording ∧ s.voice.op.operation = some VoiceOperation.record ∧
      s.voice.op.message = some id ∧ s.store.find id = some e ∧ Mem.wf s.store.mem = true ∧
      s.power.retention = false ∧ s.voice.op.endpoint = some ep ∧ s.voice.op.taken = [] ∧
      (s.level.pathOf ep.path).count + xs.length = 128 ∧
      (ep = Endpoint.line → s.level.bandsOn = true → s.LineBlockMeasured xs bands b ∧ s.BlockQuiet b) ∧
      s.voice.op.inBlock = true ∧ v = logCode (blockMean (s.level.pathOf ep.path) xs) ∧
      o = List.foldl VoiceOp.recordSample s.voice.op xs ∧ o.samplesTaken = s.voice.op.samplesTaken + xs.length ∧
      o.waiting = []) ∧
    (∃ (id : Nat) (e : Entry) (s : State) (p : Port), s.voice.op.state = VoiceState.recording ∧
      s.voice.op.operation = some VoiceOperation.record ∧ s.voice.op.message = some id ∧ s.store.find id = some e ∧
      Mem.wf s.store.mem = true ∧ s.timers.e6.Due ∧ s.voice.op.vox = true ∧ s.voice.op.user = some p.party ∧
      s.voice.op.lastLoud = none ∧ (∀ (b : TakenBlock), b ∈ s.voice.op.taken → b.loud = false)) ∧
    (∃ (id : Nat) (e : Entry) (s : State) (p : Port) (len : Nat), s.voice.op.state = VoiceState.recording ∧
      s.voice.op.operation = some VoiceOperation.record ∧ s.voice.op.message = some id ∧ s.store.find id = some e ∧
      Mem.wf s.store.mem = true ∧ s.timers.e6.Due ∧ s.voice.op.vox = true ∧ s.voice.op.user = some p.party ∧
      s.voice.op.lastLoud.isSome = true ∧ minLoudBlocks s.settings.minMessageS ≤ s.voice.op.loud ∧
      s.voice.op.halfByte = none ∧ s.voice.op.kind = some e.kind ∧ e.kind ≠ MsgKind.greeting ∧
      len = min e.length ((s.voice.op.lastLoudByte / 1020 + 1) * 1024)) ∧
    (∃ (id : Nat) (e : Entry) (s : State) (c : Instr) (len : Nat), s.voice.op.state = VoiceState.recording ∧
      s.voice.op.operation = some VoiceOperation.record ∧ s.voice.op.message = some id ∧ s.store.find id = some e ∧
      Mem.wf s.store.mem = true ∧ (c = Instr.voxExpiry ∧ s.timers.e6.Due ∧
      s.voice.op.vox = true ∨ c = Instr.maxLengthReached ∧ s.voice.op.maxCode ≤ s.voice.op.written) ∧
      s.voice.op.user = some Party.auto ∧ s.voice.op.endpoint = some Endpoint.line ∧
      s.voice.op.kind = some MsgKind.voiceMsg ∧ e.kind = MsgKind.voiceMsg ∧ s.ccu.call.active = true ∧
      s.ccu.ending = none ∧ s.ccu.call.job = Job.discriminate ∧ s.voice.op.lastLoud.isSome = true ∧
      minLoudBlocks s.settings.minMessageS ≤ s.voice.op.loud ∧ s.heard ≠ 0 ∧
      len = min e.length ((s.voice.op.lastLoudByte / 1020 + 1) * 1024)) ∧
    (∃ (id : Nat) (e : Entry) (s : State) (c : Instr) (len : Nat), s.voice.op.state = VoiceState.recording ∧
      s.voice.op.operation = some VoiceOperation.record ∧ s.voice.op.message = some id ∧ s.store.find id = some e ∧
      Mem.wf s.store.mem = true ∧ (c = Instr.voxExpiry ∧ s.timers.e6.Due ∧
      s.voice.op.vox = true ∨ c = Instr.maxLengthReached ∧ s.voice.op.maxCode ≤ s.voice.op.written) ∧
      s.voice.op.user = some Party.auto ∧ s.voice.op.endpoint = some Endpoint.line ∧
      s.voice.op.kind = some MsgKind.voiceMsg ∧ e.kind = MsgKind.voiceMsg ∧ s.ccu.call.active = true ∧
      s.ccu.ending = none ∧ s.ccu.call.job = Job.discriminate ∧ s.voice.op.halfByte = none ∧
      (s.voice.op.lastLoud = none ∨ s.voice.op.loud < minLoudBlocks s.settings.minMessageS) ∧
      (s.heard ≠ 0 ∨ s.settings.quietHangsUp = true)) ∧
    (∃ (id : Nat) (e : Entry) (s : State) (g : Nat) (rest : List Nat), s.voice.op.state = VoiceState.recording ∧
      s.voice.op.operation = some VoiceOperation.record ∧ s.voice.op.message = some id ∧ s.store.find id = some e ∧
      Mem.wf s.store.mem = true ∧ s.voice.op.written = 1020 * e.granules.length ∧
      s.voice.op.written < s.voice.op.maxCode ∧ s.store.free = g :: rest ∧ s.voice.op.waiting = [] ∧
      s.voice.op.taken = []) ∧
    (∃ (id : Nat) (e : Entry) (s : State) (g : Nat) (rest : List Nat) (c : CodeByte) (cs : List CodeByte),
      s.voice.op.state = VoiceState.recording ∧ s.voice.op.operation = some VoiceOperation.record ∧
      s.voice.op.message = some id ∧ s.store.find id = some e ∧ Mem.wf s.store.mem = true ∧
      s.voice.op.written = 1020 * e.granules.length ∧ s.voice.op.written < s.voice.op.maxCode ∧
      s.store.free = g :: rest ∧ s.voice.op.waiting = c :: cs ∧ cs.length < 1020) ∧
    (∃ (id : Nat) (e : Entry) (s : State) (p : Port), s.voice.op.state = VoiceState.recording ∧
      s.voice.op.operation = some VoiceOperation.record ∧ s.voice.op.message = some id ∧ s.store.find id = some e ∧
      Mem.wf s.store.mem = true ∧ s.voice.op.user = some p.party ∧ s.voice.op.lastLoud = none ∧ (∀ (b : TakenBlock),
      b ∈ s.voice.op.taken → b.loud = false) ∧ s.voice.op.written = 1020 * e.granules.length ∧
      s.voice.op.written < s.voice.op.maxCode ∧ s.store.free = []) :=
  ⟨⟨1, memo1, { t0 with
       voice.op.state := VoiceState.recording, voice.op.operation := some VoiceOperation.record,
       voice.op.message := some (1), power.retention := false, voice.op.endpoint := some (.local),
       voice.op.taken := [], voice.op.inBlock := false, level.mic.count := 124 }, .local, [1#16, 2#16], [],
       by decide⟩,
   ⟨1, memo1, { t0 with
       voice.op.state := VoiceState.recording, voice.op.operation := some VoiceOperation.record,
       voice.op.message := some (1), power.retention := false, voice.op.endpoint := some (.local),
       voice.op.taken := [], voice.op.inBlock := true, voice.op.written := 1020 * (memo1).granules.length }, .local,
       [], [], by decide⟩,
   ⟨1, memo1, { t0 with
       voice.op.state := VoiceState.recording, voice.op.operation := some VoiceOperation.record,
       voice.op.message := some (1), power.retention := false, voice.op.endpoint := some (.local),
       voice.op.taken := [], voice.op.inBlock := true, voice.op.written := 5, voice.op.maxCode := 1020 }, .local,
       [0#16, 0#16], [], ⟨⟨0, 0⟩, 8⟩, by decide⟩,
   ⟨1, memo1, { toneState [3] with
       voice.op.state := VoiceState.recording, voice.op.operation := some VoiceOperation.record,
       voice.op.message := some (1), power.retention := false, voice.op.endpoint := some .line, voice.op.taken := [],
       voice.op.inBlock := true, voice.op.written := 1020, voice.op.maxCode := 2040,
       voice.op.halfByte := some ⟨⟨0, 0⟩, 0⟩, ccu.line := .connected }, .line, [0#16], List.replicate 12 [0#16],
       (([0#16] : List Sample).foldl VoiceOp.recordSample { VoiceOp.reset with state := .recording, operation := some .record, message := some 1, endpoint := some .line, inBlock := true, written := 1020, maxCode := 2040, halfByte := some ⟨⟨0, 0⟩, 0⟩ }),
       40, toneOf [3], by decide, by decide, by decide, by decide, by decide, by decide, by decide, by decide,
       by decide,
       (fun _ _ => ⟨⟨by decide, by decide, by decide, by decide, by decide, by decide, by decide⟩, by decide⟩),
       by decide⟩,
   ⟨1, memo1, { toneState [3] with
       voice.op.state := VoiceState.recording, voice.op.operation := some VoiceOperation.record,
       voice.op.message := some (1), power.retention := false, voice.op.endpoint := some .line, voice.op.taken := [],
       voice.op.inBlock := true, voice.op.written := 1020, voice.op.maxCode := 2040, ccu.line := .connected }, .line,
       [0#16], List.replicate 12 [0#16],
       (([0#16] : List Sample).foldl VoiceOp.recordSample { VoiceOp.reset with state := .recording, operation := some .record, message := some 1, endpoint := some .line, inBlock := true, written := 1020, maxCode := 2040 }),
       40, toneOf [3], by decide, by decide, by decide, by decide, by decide, by decide, by decide, by decide,
       by decide,
       (fun _ _ => ⟨⟨by decide, by decide, by decide, by decide, by decide, by decide, by decide⟩, by decide⟩),
       by decide⟩,
   ⟨1, memo1, { t0 with
       voice.op.state := VoiceState.recording, voice.op.operation := some VoiceOperation.record,
       voice.op.message := some (1), timers.e6.mode := .oneShot, voice.op.vox := true,
       voice.op.user := some (Port.party .panel), voice.op.lastLoud := none }, .panel, by decide⟩,
   ⟨1, entry 1 .voiceMsg .opened 2048 [16, 17], { t0 with
       voice.op.state := VoiceState.recording, voice.op.operation := some VoiceOperation.record,
       voice.op.message := some (1), timers.e6.mode := .oneShot, voice.op.vox := true,
       voice.op.user := some (Port.party .panel), voice.op.halfByte := none,
       voice.op.kind := some (entry 1 .voiceMsg .opened 2048 [16, 17]).kind,
       store.dir := [entry 1 .voiceMsg .opened 2048 [16, 17]], voice.op.loud := 125, voice.op.lastLoud := some 9,
       voice.op.lastLoudByte := 639 }, .panel, 1024, by decide⟩,
   ⟨1, entry 1 .voiceMsg .opened 1024 [16], { t0 with
       voice.op.state := VoiceState.recording, voice.op.operation := some VoiceOperation.record,
       voice.op.message := some (1), timers.e6.mode := .oneShot, voice.op.vox := true,
       voice.op.user := some Party.auto, voice.op.endpoint := some Endpoint.line,
       voice.op.kind := some MsgKind.voiceMsg, ccu.call.active := true, ccu.ending := none,
       ccu.call.job := Job.discriminate, store.dir := [entry 1 .voiceMsg .opened 1024 [16]],
       voice.op.maxCode := 1020, voice.op.written := 1020, voice.op.loud := 125, voice.op.lastLoud := some 900,
       rau.discr := some { discr1 with heard := 1 } }, .maxLengthReached, 1024, by decide⟩,
   ⟨1, entry 1 .voiceMsg .opened 1024 [16], { t0 with
       voice.op.state := VoiceState.recording, voice.op.operation := some VoiceOperation.record,
       voice.op.message := some (1), timers.e6.mode := .oneShot, voice.op.vox := true,
       voice.op.user := some Party.auto, voice.op.endpoint := some Endpoint.line,
       voice.op.kind := some MsgKind.voiceMsg, ccu.call.active := true, ccu.ending := none,
       ccu.call.job := Job.discriminate, voice.op.halfByte := none, voice.op.lastLoud := none,
       store.dir := [entry 1 .voiceMsg .opened 1024 [16]], rau.discr := some { discr1 with heard := 1 } },
       .voxExpiry, 1, by decide⟩,
   ⟨1, memo1, { t0 with
       voice.op.state := VoiceState.recording, voice.op.operation := some VoiceOperation.record,
       voice.op.message := some (1), voice.op.written := 1020, store.free := [20, 21], voice.op.waiting := [],
       voice.op.taken := [], voice.op.maxCode := 2040 }, 20, [21], by decide⟩,
   ⟨1, memo1, { t0 with
       voice.op.state := VoiceState.recording, voice.op.operation := some VoiceOperation.record,
       voice.op.message := some (1), voice.op.written := 1020, store.free := [20, 21],
       voice.op.waiting := (⟨⟨0, 0⟩, 0x77⟩) :: ([]), voice.op.maxCode := 2040 }, 20, [21], ⟨⟨0, 0⟩, 0x77⟩, [],
       by decide⟩,
   ⟨1, memo1, { t0 with
       voice.op.state := VoiceState.recording, voice.op.operation := some VoiceOperation.record,
       voice.op.message := some (1), voice.op.user := some (Port.party .panel), voice.op.lastLoud := none,
       voice.op.written := 1020 * (memo1).granules.length, store.free := [], voice.op.maxCode := 1021 }, .panel,
       by decide⟩⟩

theorem witness_RepeatFiresEveryN :
    (∃ (own : Nat) (n : Nat) (k : Nat) (j : Nat) (c : Channel), 1 ≤ n ∧ n ≤ 65535 ∧ c.mode = TimerMode.repeat ∧
      c.compareA = n ∧ c.count = 0 ∧ j < n) :=
  ⟨1, 3, 2, 2, { Channel.reset with mode := .repeat, compareA := 3 }, by decide⟩

theorem witness_RingingFollowed :
    (∃ (s : State), s.lif.ringPresent = false ∧ s.timers.e1.mode = TimerMode.capture) ∧
    (∃ (s : State), s.lif.ringPresent = true) ∧
    (∃ (s : State), s.lif.ringPresent = true ∧ s.timers.e1.mode = TimerMode.capture ∧
      s.rau.presence = Presence.qualified) ∧
    (∃ (s : State), s.lif.ringPresent = true ∧ s.timers.e1.mode = TimerMode.capture ∧
      s.rau.presence = Presence.pending ∧ (s.rau.deadlines.heldCycleEnd = false ∧
      s.rau.deadlines.heldEpisodeEnd = false ∨ s.rau.episode.active = false)) ∧
    (∃ (s : State), s.lif.ringPresent = true ∧ s.timers.e1.mode = TimerMode.capture ∧
      s.rau.presence = Presence.pending ∧ s.rau.episode.active = true ∧ s.rau.deadlines.heldCycleEnd = true ∧
      s.rau.deadlines.heldEpisodeEnd = false ∧
      (s.ccu.line ≠ LineState.ringing ∨ s.lif.lineInUse = true ∨ s.power.low = true)) ∧
    (∃ (s : State), s.lif.ringPresent = true ∧ s.timers.e1.mode = TimerMode.capture ∧
      s.rau.presence = Presence.pending ∧ s.rau.episode.active = true ∧ s.rau.deadlines.heldEpisodeEnd = true ∧
      (s.ccu.line ≠ LineState.ringing ∨ s.lif.lineInUse = true ∨ s.rau.deadlines.heldCycleEnd = false ∧
      s.ccu.claims = [])) ∧
    (∃ (s : State) (due : Nat), s.rau.deadlines.qualify = some due ∧ s.rau.presence = Presence.pending ∧
      s.rau.episode.active = false ∧ s.power.low = false ∧ s.ccu.line = LineState.idle) ∧
    (∃ (s : State) (due : Nat), s.rau.deadlines.qualify = some due ∧ s.rau.presence = Presence.pending ∧
      s.rau.episode.active = true) ∧
    (∃ (s : State) (due : Nat), s.startedBefore due ∧ s.rau.deadlines.cycleEnd = some due ∧
      s.rau.presence = Presence.pending) ∧
    (∃ (s : State) (due : Nat), s.startedBefore due ∧ s.rau.deadlines.cycleEnd = some due ∧
      s.rau.presence = Presence.qualified) ∧
    (∃ (s : State) (due : Nat), s.startedBefore due ∧ s.rau.deadlines.episodeEnd = some due ∧
      s.rau.presence = Presence.pending) ∧
    (∃ (s : State) (due : Nat), s.startedBefore due ∧ s.rau.deadlines.episodeEnd = some due ∧
      s.rau.presence = Presence.qualified) ∧
    (∃ (s : State) (due : Nat), s.rau.deadlines.windowOpen = some due ∧ s.rau.caller.state ≠ CaptureState.ended) ∧
    (∃ (s : State) (due : Nat), s.rau.deadlines.windowClose = some due) :=
  ⟨⟨{ t0 with lif.ringPresent := false, timers.e1.mode := TimerMode.capture }, by decide⟩,
   ⟨{ t0 with lif.ringPresent := true }, by decide⟩,
   ⟨{ t0 with
       lif.ringPresent := true, timers.e1.mode := TimerMode.capture, rau.presence := Presence.qualified }, by decide⟩,
   ⟨{ t0 with
       lif.ringPresent := true, timers.e1.mode := TimerMode.capture, rau.presence := Presence.pending,
       rau.deadlines.heldCycleEnd := false, rau.deadlines.heldEpisodeEnd := false }, by decide⟩,
   ⟨{ t0 with
       lif.ringPresent := true, timers.e1.mode := TimerMode.capture, rau.presence := Presence.pending,
       rau.episode.active := true, rau.deadlines.heldCycleEnd := true, rau.deadlines.heldEpisodeEnd := false },
       by decide⟩,
   ⟨{ t0 with
       lif.ringPresent := true, timers.e1.mode := TimerMode.capture, rau.presence := Presence.pending,
       rau.episode.active := true, rau.deadlines.heldEpisodeEnd := true }, by decide⟩,
   ⟨{ t0 with
       rau.deadlines.qualify := some (1), rau.presence := Presence.pending, rau.episode.active := false,
       power.low := false, ccu.line := LineState.idle }, 1, by decide⟩,
   ⟨{ t0 with
       rau.deadlines.qualify := some (1), rau.presence := Presence.pending, rau.episode.active := true }, 1,
       by decide⟩,
   ⟨{ t0 with rau.deadlines.cycleEnd := some (1), rau.presence := Presence.pending }, 1, by decide⟩,
   ⟨{ t0 with rau.deadlines.cycleEnd := some (1), rau.presence := Presence.qualified }, 1, by decide⟩,
   ⟨{ t0 with rau.deadlines.episodeEnd := some (1), rau.presence := Presence.pending }, 1, by decide⟩,
   ⟨{ t0 with rau.deadlines.episodeEnd := some (1), rau.presence := Presence.qualified }, 1, by decide⟩,
   ⟨{ t0 with rau.deadlines.windowOpen := some (1), rau.caller.state := .receiving }, 1, by decide⟩,
   ⟨{ t0 with rau.deadlines.windowClose := some (1) }, 1, by decide⟩⟩

theorem witness_RungsChanged :
    (∃ (a : Nat) (s : State), s.level.feed = FeedKind.tracking ∧ s.level.closing = [] ∧
      s.level.window.symbols = 256 ∧ s.pump.mode = PumpMode.data ∧ s.pump.phase = PumpPhase.data ∧
      (Option.map (fun x => trackAverage x (47 - logCode (s.level.window.acc / 256))) s.level.average).getD 0 = a ∧
      (s.level.window.saturated = false ∨ s.level.window.overloadRun = 0) ∧
      (s.fall (s.pump.rung.getD 0) ≤ a ∨ s.pump.below < 3) ∧
      (a < s.rise (s.pump.rung.getD 0) ∨ s.pump.above < 15 ∨ s.pump.negCeiling.getD 7 ≤ s.pump.rung.getD 0)) ∧
    (∃ (a : Nat) (s : State), s.level.feed = FeedKind.tracking ∧ s.level.closing = [] ∧
      s.level.window.symbols = 256 ∧ s.pump.mode = PumpMode.data ∧ s.pump.phase = PumpPhase.data ∧
      (Option.map (fun x => trackAverage x (47 - logCode (s.level.window.acc / 256))) s.level.average).getD 0 = a ∧
      (s.level.window.saturated = false ∨ s.level.window.overloadRun = 0) ∧
      (s.fall (s.pump.rung.getD 0) ≤ a ∨ s.pump.below < 3) ∧ s.rise (s.pump.rung.getD 0) ≤ a ∧ 15 ≤ s.pump.above ∧
      s.pump.rung.getD 0 < s.pump.negCeiling.getD 7) ∧
    (∃ (a : Nat) (s : State), s.level.feed = FeedKind.tracking ∧ s.level.closing = [] ∧
      s.level.window.symbols = 256 ∧ s.pump.mode = PumpMode.data ∧ s.pump.phase = PumpPhase.data ∧
      (Option.map (fun x => trackAverage x (47 - logCode (s.level.window.acc / 256))) s.level.average).getD 0 = a ∧
      (s.level.window.saturated = false ∨ s.level.window.overloadRun = 0) ∧ a < s.fall (s.pump.rung.getD 0) ∧
      3 ≤ s.pump.below ∧ s.pump.negFloor.getD 0 < s.pump.rung.getD 0) ∧
    (∃ (a : Nat) (s : State), s.level.feed = FeedKind.tracking ∧ s.level.closing = [] ∧
      s.level.window.symbols = 256 ∧ s.pump.mode = PumpMode.data ∧ s.pump.phase = PumpPhase.data ∧
      (Option.map (fun x => trackAverage x (47 - logCode (s.level.window.acc / 256))) s.level.average).getD 0 = a ∧
      (s.level.window.saturated = true ∧ 1 ≤ s.level.window.overloadRun ∨ a < s.fall (s.pump.rung.getD 0) ∧
      3 ≤ s.pump.below ∧ s.pump.rung.getD 0 ≤ s.pump.negFloor.getD 0) ∧ s.pump.retrains < 3) ∧
    (∃ (a : Nat) (s : State), s.level.feed = FeedKind.tracking ∧ s.level.closing = [] ∧
      s.level.window.symbols = 256 ∧ s.pump.mode = PumpMode.data ∧ s.pump.phase = PumpPhase.data ∧
      (Option.map (fun x => trackAverage x (47 - logCode (s.level.window.acc / 256))) s.level.average).getD 0 = a ∧
      (s.level.window.saturated = true ∧ 1 ≤ s.level.window.overloadRun ∨ a < s.fall (s.pump.rung.getD 0) ∧
      3 ≤ s.pump.below ∧ s.pump.rung.getD 0 ≤ s.pump.negFloor.getD 0) ∧ 3 ≤ s.pump.retrains ∧
      s.ccu.call.active = true ∧ s.ccu.ending = none) ∧
    (∃ (s : State) (m : Byte), s.pump.phase = PumpPhase.data) ∧
    (∃ (s : State) (n : Nat) (m : Byte), s.pump.phase = PumpPhase.rateChange ∧ s.pump.request = PumpRequest.rate n ∧
      s.pump.confirmed = false) ∧
    (∃ (s : State), (s.pump.phase = PumpPhase.data ∨ s.pump.phase = PumpPhase.rateChange) ∧ s.pump.retrains < 3) ∧
    (∃ (s : State), (s.pump.phase = PumpPhase.data ∨ s.pump.phase = PumpPhase.rateChange) ∧ 3 ≤ s.pump.retrains ∧
      s.ccu.call.active = true ∧ s.ccu.ending = none) ∧
    (∃ (s : State), s.pump.phase = PumpPhase.rateChange ∧ s.pump.confirmed = false ∧ s.pump.retrains < 3) ∧
    (∃ (s : State), s.pump.phase = PumpPhase.rateChange ∧ s.pump.confirmed = false ∧ 3 ≤ s.pump.retrains ∧
      s.ccu.call.active = true ∧ s.ccu.ending = none) ∧
    (∃ (s : State), s.pump.phase = PumpPhase.retrain ∧ s.pump.request = PumpRequest.retrain) ∧
    (∃ (s : State), s.DueT2 T2Use.stable ∧ s.pump.phase = PumpPhase.data) :=
  ⟨⟨190, { t0 with
       level.feed := FeedKind.tracking, level.closing := [], level.window.symbols := 256, pump.mode := PumpMode.data,
       pump.phase := PumpPhase.data, level.window.saturated := false, level.average := some 128 }, by decide⟩,
   ⟨190, { t0 with
       level.feed := FeedKind.tracking, level.closing := [], level.window.symbols := 256, pump.mode := PumpMode.data,
       pump.phase := PumpPhase.data, level.window.saturated := false, level.average := some 128, pump.rung := some 3,
       pump.negCeiling := some 4, pump.above := 15 }, by decide⟩,
   ⟨190, { t0 with
       level.feed := FeedKind.tracking, level.closing := [], level.window.symbols := 256, pump.mode := PumpMode.data,
       pump.phase := PumpPhase.data, level.window.saturated := false, level.average := some 128, pump.rung := some 5,
       pump.negFloor := some 4, pump.below := 3 }, by decide⟩,
   ⟨190, { t0 with
       level.feed := FeedKind.tracking, level.closing := [], level.window.symbols := 256, pump.mode := PumpMode.data,
       pump.phase := PumpPhase.data, level.window.saturated := true, level.average := some 128,
       level.window.overloadRun := 1, pump.retrains := 2 }, by decide⟩,
   ⟨190, { t0 with
       level.feed := FeedKind.tracking, level.closing := [], level.window.symbols := 256, pump.mode := PumpMode.data,
       pump.phase := PumpPhase.data, level.window.saturated := true, ccu.call.active := true, ccu.ending := none,
       level.average := some 128, level.window.overloadRun := 1, pump.retrains := 3 }, by decide⟩,
   ⟨{ t0 with pump.phase := PumpPhase.data }, 1#8, by decide⟩,
   ⟨{ t0 with
       pump.phase := PumpPhase.rateChange, pump.request := PumpRequest.rate (1), pump.confirmed := false }, 1, 1#8,
       by decide⟩,
   ⟨{ t0 with pump.phase := PumpPhase.data }, by decide⟩,
   ⟨{ t0 with
       pump.phase := PumpPhase.data, ccu.call.active := true, ccu.ending := none, pump.retrains := 4 }, by decide⟩,
   ⟨{ t0 with pump.phase := PumpPhase.rateChange, pump.confirmed := false }, by decide⟩,
   ⟨{ t0 with
       pump.phase := PumpPhase.rateChange, pump.confirmed := false, ccu.call.active := true, ccu.ending := none,
       pump.retrains := 3 }, by decide⟩,
   ⟨{ t0 with pump.phase := PumpPhase.retrain, pump.request := PumpRequest.retrain }, by decide⟩,
   ⟨{ t0 with ccu.t2Use := T2Use.stable, timers.e2.mode := .oneShot, pump.phase := PumpPhase.data }, by decide⟩⟩

theorem witness_SetClockWrites :
    (∃ (f : Frame) (s : State) (day : Byte) (hour : Byte) (minute : Byte) (second : Byte), s.Takes f 48#8 ∧
      BitVec.toNat day ≤ 6 ∧ BitVec.toNat hour ≤ 23 ∧ BitVec.toNat minute ≤ 59 ∧ BitVec.toNat second ≤ 59) ∧
    (∃ (f : Frame) (s : State) (day : Byte) (hour : Byte) (minute : Byte) (second : Byte), s.Takes f 48#8 ∧
      (6 < BitVec.toNat day ∨ 23 < BitVec.toNat hour ∨ 59 < BitVec.toNat minute ∨ 59 < BitVec.toNat second)) ∧
    (∃ (f : Frame) (s : State), s.Takes f 38#8) :=
  ⟨⟨sysFrame, t0, 6#8, 23#8, 59#8, 59#8, by decide⟩,
   ⟨sysFrame, t0, 1#8, 1#8, 1#8, 60#8, by decide⟩,
   ⟨sysFrame, t0, by decide⟩⟩

theorem witness_SettingsTaken :
    (∃ (f : Frame) (s : State) (id : Byte) (lo : Byte) (hi : Byte) (x : NumSetting), s.Takes f 49#8 ∧
      numSettingOf (BitVec.toNat id) = some x) ∧
    (∃ (f : Frame) (s : State) (id : Byte) (b : Byte) (x : EnumSetting), s.Takes f 49#8 ∧
      enumSettingOf (BitVec.toNat id) = some x) ∧
    (∃ (f : Frame) (s : State) (r : Nat) (f0 : Byte) (f1 : Byte) (r0 : Byte) (r1 : Byte), s.Takes f 49#8 ∧ r < 8) ∧
    (∃ (f : Frame) (s : State) (g : Nat) (lo : Byte) (hi : Byte), s.Takes f 49#8 ∧ g < 6) ∧
    (∃ (f : Frame) (s : State) (i : Nat) (k : Byte) (a0 : Byte) (a1 : Byte) (b0 : Byte) (b1 : Byte) (c0 : Byte) (c1 : Byte) (d0 : Byte) (d1 : Byte) (n : Byte) (cls : CadenceClass) (e : CadenceEntry),
      s.Takes f 49#8 ∧ i < 6 ∧ cadenceClassOf k = some cls ∧ e = ⟨cls,
      clamp 16 8000 (BitVec.toNat a0 + 256 * BitVec.toNat a1),
      clamp 16 8000 (BitVec.toNat b0 + 256 * BitVec.toNat b1),
      clamp 16 8000 (BitVec.toNat c0 + 256 * BitVec.toNat c1),
      clamp 16 8000 (BitVec.toNat d0 + 256 * BitVec.toNat d1), clamp 1 4 (BitVec.toNat n)⟩) ∧
    (∃ (f : Frame) (s : State) (i : Nat) (k : Byte) (a0 : Byte) (a1 : Byte) (b0 : Byte) (b1 : Byte) (c0 : Byte) (c1 : Byte) (d0 : Byte) (d1 : Byte) (n : Byte),
      s.Takes f 49#8 ∧ i < 6 ∧ cadenceClassOf k = none) ∧
    (∃ (f : Frame) (s : State) (b : Byte), s.Takes f 49#8) ∧
    (∃ (f : Frame) (s : State) (v : List Byte) (c : Option (List Nat)), s.Takes f 49#8 ∧ (v = [255#8, 255#8, 255#8,
      255#8] ∧ s.settings.remoteEnable = false ∧ c = none ∨ v.length = 4 ∧ (∀ (b : Byte),
      b ∈ v → BitVec.toNat b ≤ 9) ∧ c = some (List.map BitVec.toNat v))) ∧
    (∃ (f : Frame) (s : State) (v : List Byte), s.Takes f 49#8 ∧ (v = [255#8, 255#8, 255#8, 255#8] ∧
      s.settings.remoteEnable = true ∨ v ≠ [255#8, 255#8, 255#8, 255#8] ∧ (v.length ≠ 4 ∨ ∃ b, b ∈ v ∧
      9 < BitVec.toNat b))) ∧
    (∃ (f : Frame) (s : State) (lo : Byte) (hi : Byte) (n : Nat), s.Takes f 49#8 ∧
      n = BitVec.toNat lo + 256 * BitVec.toNat hi) ∧
    (∃ (f : Frame) (s : State) (id : Byte) (v : List Byte), s.Takes f 49#8 ∧
      settingItems f.port (BitVec.toNat id) s = none) ∧
    (∃ (f : Frame) (id : Byte) (value : List Byte) (items : List Item) (s : State) (t : State), s.Takes f 49#8 ∧
      exec (Instr.setSetting f id value) s = Host.Outcome.next t ∧ Answered s t f.port (49#8) Status.ok items) :=
  ⟨⟨sysFrame, t0, 0x03#8, 255#8, 255#8, _, by decide, rfl⟩,
   ⟨sysFrame, t0, 0x20#8, 4#8, _, by decide, rfl⟩,
   ⟨sysFrame, t0, 1, 1#8, 1#8, 1#8, 1#8, by decide⟩,
   ⟨sysFrame, t0, 1, 1#8, 1#8, by decide⟩,
   ⟨sysFrame, t0, 5, 1#8, 100#8, 0#8, 200#8, 0#8, 44#8, 1#8, 144#8, 1#8, 2#8, .busy, ⟨.busy, 100, 200, 300, 400, 2⟩,
       by decide⟩,
   ⟨sysFrame, t0, 0, 5#8, 1#8, 1#8, 1#8, 1#8, 1#8, 1#8, 1#8, 1#8, 1#8, by decide⟩,
   ⟨sysFrame, t0, 1#8, by decide⟩,
   ⟨sysFrame, { t0 with
       settings.remoteEnable := false }, [1#8, 2#8, 3#8, 9#8], some [1, 2, 3, 9], by decide, .inr (by decide)⟩,
   ⟨sysFrame, { t0 with settings.remoteEnable := true }, [], by decide⟩,
   ⟨sysFrame, t0, 7#8, 0#8, 7, by decide⟩,
   ⟨sysFrame, t0, 0x7F#8, [], by decide⟩,
   ⟨sysFrame, 0x10#8, [26#8, 0#8], [.u16 26], t0, _, by decide, rfl, rfl⟩⟩

theorem witness_StepTakesFront :
    (∃ (c : Instr) (rest : List Instr) (s : State), s.pending = c :: rest) ∧
    (∃ (c : Instr) (rest : List Instr) (s : State), s.pending = []) :=
  ⟨⟨.timerTick, [.timerTick], { t0 with pending := [.timerTick, .timerTick] }, by decide⟩,
   ⟨.timerTick, [], t0, by decide⟩⟩

theorem witness_SystemPortLines :
    (∃ (s : State), s.holder ≠ some Party.system) ∧
    (∃ (s : State), s.holder = some Party.system ∧ s.ccu.ending = none ∧ s.link.mode ≠ LinkMode.linked ∧
      s.link.mode ≠ LinkMode.clearing) ∧
    (∃ (s : State), s.holder = some Party.system ∧ s.ccu.ending = none ∧ s.link.mode = LinkMode.linked) ∧
    (∃ (s : State), s.sys.rts = true) ∧
    (∃ (s : State), s.sys.expiryTaken = true) ∧
    (∃ (s : State), s.timers.e5.Due ∧ s.sys.expiryTaken = false ∧ s.sys.data = true ∧ s.ccu.call.job = Job.data ∧
      s.sys.escape = EscapeState.three) ∧
    (∃ (s : State), s.timers.e5.Due ∧ s.sys.expiryTaken = false ∧ s.sys.data = true ∧ s.ccu.call.job = Job.data ∧
      s.sys.escape ≠ EscapeState.three) :=
  ⟨⟨t0, by decide⟩,
   ⟨{ t0 with ccu.call.active := true, ccu.call.holder := some Party.system, ccu.ending := none }, by decide⟩,
   ⟨{ t0 with
       ccu.call.active := true, ccu.call.holder := some Party.system, ccu.ending := none,
       link.mode := LinkMode.linked }, by decide⟩,
   ⟨{ t0 with sys.rts := true }, by decide⟩,
   ⟨{ t0 with sys.expiryTaken := true }, by decide⟩,
   ⟨{ t0 with
       timers.e5.mode := .oneShot, sys.expiryTaken := false, sys.data := true, ccu.call.job := Job.data,
       sys.escape := EscapeState.three }, by decide⟩,
   ⟨{ t0 with
       timers.e5.mode := .oneShot, sys.expiryTaken := false, sys.data := true, ccu.call.job := Job.data }, by decide⟩⟩

theorem witness_TakeCallMoves :
    (∃ (f : Frame) (s : State), s.Takes f 18#8 ∧ s.holder = some Party.auto ∧
      (s.ccu.call.job = Job.discriminate ∨ s.ccu.call.job = Job.remote)) ∧
    (∃ (f : Frame) (s : State), s.Takes f 18#8 ∧ s.holder = some Party.auto ∧ s.ccu.call.job ≠ Job.discriminate ∧
      s.ccu.call.job ≠ Job.remote) ∧
    (∃ (f : Frame) (s : State), s.Takes f 18#8 ∧ s.holder = some f.port.party) ∧
    (∃ (f : Frame) (s : State) (q : Port), s.Takes f 18#8 ∧ q ≠ f.port ∧ s.holder = some q.party) ∧
    (∃ (f : Frame) (s : State), s.Takes f 18#8 ∧ s.holder = none) :=
  ⟨⟨sysFrame, { t0 with
       ccu.call.active := true, ccu.call.holder := some Party.auto, ccu.call.job := Job.discriminate }, by decide⟩,
   ⟨sysFrame, { t0 with ccu.call.active := true, ccu.call.holder := some Party.auto }, by decide⟩,
   ⟨sysFrame, { t0 with ccu.call.active := true, ccu.call.holder := some (Port.party .system) }, by decide⟩,
   ⟨sysFrame, { t0 with ccu.call.active := true, ccu.call.holder := some (Port.party .panel) }, .panel, by decide⟩,
   ⟨sysFrame, { t0 with ccu.call.active := false }, by decide⟩⟩

theorem witness_TimePasses :
    (∃ (s : State), s.timers.e7.signalA = false ∧ s.timers.e7.firesNext = false) ∧
    (∃ (s : State), (s.timers.e7.signalA = true ∨ s.timers.e7.mode = TimerMode.repeat ∧
      s.timers.e7.firesNext = true)) :=
  ⟨⟨{ t0 with timers.e7.signalA := false, timers.e7.count := 0, timers.e7.mode := .repeat }, by decide⟩,
   ⟨{ t0 with timers.e7.signalA := true }, by decide⟩⟩

theorem witness_TransferChannels :
    (∃ (f : Frame) (s : State) (id : Byte) (offset : U32) (count : U32) (e : Entry), s.Takes f 85#8 ∧
      (s.channel f.port).busy = false ∧ s.store.visible (BitVec.toNat id) = some e ∧ e.state = EntryState.complete ∧
      BitVec.toNat offset < e.length ∧ count ≠ 0#32) ∧
    (∃ (f : Frame) (s : State) (id : Byte) (offset : U32) (count : U32) (e : Entry), s.Takes f 85#8 ∧
      (s.channel f.port).busy = false ∧ s.store.visible (BitVec.toNat id) = some e ∧ e.state = EntryState.complete ∧
      BitVec.toNat offset ≤ e.length ∧ (count = 0#32 ∨ BitVec.toNat offset = e.length)) ∧
    (∃ (f : Frame) (s : State) (id : Byte) (offset : U32) (count : U32) (e : Entry), s.Takes f 85#8 ∧
      (s.channel f.port).busy = false ∧ s.store.visible (BitVec.toNat id) = some e ∧ e.state = EntryState.complete ∧
      e.length < BitVec.toNat offset) ∧
    (∃ (f : Frame) (s : State) (kind : Byte) (slot : Byte) (k : MsgKind × Option Nat), s.Takes f 85#8 ∧
      (s.channel f.port).busy = false ∧ writeKind kind slot = some k ∧ s.canCreate = true) ∧
    (∃ (f : Frame) (s : State) (kind : Byte) (slot : Byte) (k : MsgKind × Option Nat), s.Takes f 85#8 ∧
      (s.channel f.port).busy = false ∧ writeKind kind slot = some k ∧ s.canCreate = false) ∧
    (∃ (f : Frame) (s : State) (id : Byte) (offset : U32) (count : U32), s.Takes f 85#8 ∧
      (s.channel f.port).busy = true) ∧
    (∃ (f : Frame) (s : State) (kind : Byte) (slot : Byte) (k : MsgKind × Option Nat), s.Takes f 85#8 ∧
      (s.channel f.port).busy = true ∧ writeKind kind slot = some k) ∧
    (∃ (f : Frame) (s : State) (direction : Byte) (id : Byte) (offset : U32) (count : U32), s.Takes f 85#8 ∧
      direction ≠ 0#8) ∧
    (∃ (f : Frame) (s : State) (direction : Byte) (kind : Byte) (slot : Byte), s.Takes f 85#8 ∧ direction ≠ 1#8) ∧
    (∃ (f : Frame) (id : Nat) (e : Entry) (s : State), (s.channel f.port).message = some id ∧
      s.store.find id = some e ∧ s.Takes f 88#8 ∧ (s.channel f.port).state ≠ TransferState.idle ∧
      (s.channel f.port).direction = TransferDirection.write ∧ e.kind = MsgKind.memo) ∧
    (∃ (f : Frame) (id : Nat) (e : Entry) (s : State), (s.channel f.port).message = some id ∧
      s.store.find id = some e ∧ s.Takes f 88#8 ∧ (s.channel f.port).state ≠ TransferState.idle ∧
      (s.channel f.port).direction = TransferDirection.write ∧ e.kind = MsgKind.faxOut) ∧
    (∃ (f : Frame) (id : Nat) (e : Entry) (s : State) (n : Nat), (s.channel f.port).message = some id ∧
      s.store.find id = some e ∧ s.Takes f 88#8 ∧ (s.channel f.port).state ≠ TransferState.idle ∧
      (s.channel f.port).direction = TransferDirection.write ∧ e.kind = MsgKind.greeting ∧ e.slot = some n ∧
      s.store.greeting n = none) ∧
    (∃ (f : Frame) (id : Nat) (e : Entry) (s : State) (n : Nat) (o : Entry), (s.channel f.port).message = some id ∧
      s.store.find id = some e ∧ s.Takes f 88#8 ∧ (s.channel f.port).state ≠ TransferState.idle ∧
      (s.channel f.port).direction = TransferDirection.write ∧ e.kind = MsgKind.greeting ∧ e.slot = some n ∧
      s.store.greeting n = some o ∧ s.store.find o.id = some o ∧ o.id ≠ id) ∧
    (∃ (f : Frame) (id : Nat) (e : Entry) (s : State), (s.channel f.port).message = some id ∧
      s.store.find id = some e ∧ s.Takes f 88#8 ∧ (s.channel f.port).state = TransferState.active ∧
      (s.channel f.port).direction = TransferDirection.read ∧ e.state ≠ EntryState.doomed) ∧
    (∃ (f : Frame) (id : Nat) (e : Entry) (s : State), (s.channel f.port).message = some id ∧
      s.store.find id = some e ∧ s.Takes f 89#8 ∧ (s.channel f.port).state = TransferState.active ∧
      (s.channel f.port).direction = TransferDirection.read ∧ e.state ≠ EntryState.doomed) ∧
    (∃ (f : Frame) (id : Nat) (e : Entry) (s : State), (s.channel f.port).message = some id ∧
      s.store.find id = some e ∧ (s.channel f.port).state = TransferState.done ∧
      (s.channel f.port).direction = TransferDirection.read ∧ s.Takes f 88#8) ∧
    (∃ (f : Frame) (id : Nat) (e : Entry) (s : State), (s.channel f.port).message = some id ∧
      s.store.find id = some e ∧ (s.channel f.port).state = TransferState.done ∧
      (s.channel f.port).direction = TransferDirection.read ∧ s.Takes f 89#8) ∧
    (∃ (f : Frame) (id : Nat) (e : Entry) (s : State), (s.channel f.port).message = some id ∧
      s.store.find id = some e ∧ s.Takes f 89#8 ∧ (s.channel f.port).state ≠ TransferState.idle ∧
      (s.channel f.port).direction = TransferDirection.write) ∧
    (∃ (f : Frame) (id : Nat) (e : Entry) (s : State), (s.channel f.port).message = some id ∧
      s.store.find id = some e ∧ (s.channel f.port).state = TransferState.idle ∧ s.Takes f 88#8) ∧
    (∃ (f : Frame) (id : Nat) (e : Entry) (s : State), (s.channel f.port).message = some id ∧
      s.store.find id = some e ∧ (s.channel f.port).state = TransferState.idle ∧ s.Takes f 89#8) :=
  ⟨⟨sysFrame, t0, 1#8, 1#32, 1#32, memo1, by decide⟩,
   ⟨sysFrame, { t0 with store.dir := [memo1] }, 1#8, 4#32, 1#32, memo1, by decide⟩,
   ⟨sysFrame, { t0 with store.dir := [memo1] }, 1#8, 5#32, 1#32, memo1, by decide⟩,
   ⟨sysFrame, t0, 4#8, 1#8, (.faxOut, none), by decide⟩,
   ⟨sysFrame, { t0 with store.free := [] }, 2#8, 1#8, (.memo, none), by decide⟩,
   ⟨sysFrame, { t0 with ports.system.transfer.state := .full }, 1#8, 1#32, 1#32, by decide⟩,
   ⟨sysFrame, { t0 with ports.system.transfer.state := .full }, 2#8, 1#8, (.memo, none), by decide⟩,
   ⟨sysFrame, t0, 1#8, 1#8, 1#32, 1#32, by decide⟩,
   ⟨sysFrame, t0, 0#8, 1#8, 1#8, by decide⟩,
   ⟨sysFrame, 2, memo2, { t0 with
       ports.system.transfer.message := some (2), ports.system.transfer.direction := TransferDirection.write,
       ports.system.transfer.state := .full }, by decide⟩,
   ⟨sysFrame, 3, faxOut3, { t0 with
       ports.system.transfer.message := some (3), ports.system.transfer.direction := TransferDirection.write,
       ports.system.transfer.state := .active }, by decide⟩,
   ⟨sysFrame, 9, { entry 9 .greeting .opened 40 [18] with slot := some 1 }, { t0 with
       ports.system.transfer.message := some (9), ports.system.transfer.direction := TransferDirection.write,
       ports.system.transfer.state := .active,
       store.dir := [{ entry 9 .greeting .opened 40 [18] with slot := some 1 }] }, 1, by decide⟩,
   ⟨sysFrame, 9, { entry 9 .greeting .opened 40 [18] with slot := some 1 }, { t0 with
       ports.system.transfer.message := some (9), ports.system.transfer.direction := TransferDirection.write,
       ports.system.transfer.state := .active,
       store.dir := [{ entry 9 .greeting .opened 40 [18] with slot := some 1 }, { entry 8 .greeting .complete 40 [17] with slot := some 1 }] },
       1, { entry 8 .greeting .complete 40 [17] with slot := some 1 }, by decide⟩,
   ⟨sysFrame, 1, memo1, { t0 with
       ports.system.transfer.message := some (1), ports.system.transfer.state := TransferState.active,
       ports.system.transfer.direction := TransferDirection.read }, by decide⟩,
   ⟨sysFrame, 1, memo1, { t0 with
       ports.system.transfer.message := some (1), ports.system.transfer.state := TransferState.active,
       ports.system.transfer.direction := TransferDirection.read }, by decide⟩,
   ⟨sysFrame, 1, memo1, { t0 with
       ports.system.transfer.message := some (1), ports.system.transfer.state := TransferState.done,
       ports.system.transfer.direction := TransferDirection.read }, by decide⟩,
   ⟨sysFrame, 1, memo1, { t0 with
       ports.system.transfer.message := some (1), ports.system.transfer.state := TransferState.done,
       ports.system.transfer.direction := TransferDirection.read }, by decide⟩,
   ⟨sysFrame, 2, memo2, { t0 with
       ports.system.transfer.message := some (2), ports.system.transfer.direction := TransferDirection.write,
       ports.system.transfer.state := .active }, by decide⟩,
   ⟨sysFrame, 1, memo1, { t0 with
       ports.system.transfer.message := some (1), ports.system.transfer.state := TransferState.idle }, by decide⟩,
   ⟨sysFrame, 1, memo1, { t0 with
       ports.system.transfer.message := some (1), ports.system.transfer.state := TransferState.idle }, by decide⟩⟩

theorem witness_TransmitterChooses :
    (∃ (s : State), s.link.paused = false ∧ (s.link.mode = LinkMode.setup ∨ s.link.mode = LinkMode.linked) ∧
      s.link.confDue = true) ∧
    (∃ (s : State), s.link.paused = false ∧ (s.link.mode = LinkMode.setup ∧ s.link.confDue = false ∧
      s.link.reqDue = false ∨ s.link.mode = LinkMode.clearing ∧
      s.link.clearOwed = false ∨ s.link.mode = LinkMode.direct ∧ s.link.outbound = [])) ∧
    (∃ (s : State), s.link.paused = false ∧ s.link.mode = LinkMode.setup ∧ s.link.confDue = false ∧
      s.link.reqDue = true) ∧
    (∃ (s : State), s.link.paused = false ∧ s.link.mode = LinkMode.clearing ∧ s.link.clearOwed = true) ∧
    (∃ (s : State) (b : Byte) (rest : List Byte), s.link.paused = false ∧ s.link.mode = LinkMode.direct ∧
      s.link.outbound = b :: rest) ∧
    (∃ (s : State), s.link.paused = false ∧ s.link.mode = LinkMode.linked ∧ s.link.confDue = false ∧
      s.link.rejectOwed = true) ∧
    (∃ (s : State), s.link.paused = false ∧ s.link.mode = LinkMode.linked ∧ s.link.confDue = false ∧
      s.link.rejectOwed = false ∧ s.link.busyAckOwed = true) ∧
    (∃ (s : State) (m : Nat) (f : SentFrame), s.link.paused = false ∧ s.link.mode = LinkMode.linked ∧
      s.link.confDue = false ∧ s.link.rejectOwed = false ∧ s.link.busyAckOwed = false ∧ s.link.resendMark = some m ∧
      s.link.frameAt m = some f) ∧
    (∃ (s : State), s.link.paused = false ∧ s.link.mode = LinkMode.linked ∧ s.link.confDue = false ∧
      s.link.rejectOwed = false ∧ s.link.busyAckOwed = false ∧ s.link.resendMark = none ∧ s.link.outbound ≠ [] ∧
      s.link.window.length < s.link.windowSize ∧ s.link.peerBusy = false) ∧
    (∃ (s : State), s.link.paused = false ∧ s.link.mode = LinkMode.linked ∧ s.link.confDue = false ∧
      s.link.rejectOwed = false ∧ s.link.busyAckOwed = false ∧ s.link.resendMark = none ∧
      (s.link.outbound = [] ∨ s.link.windowSize ≤ s.link.window.length ∨ s.link.peerBusy = true)) :=
  ⟨⟨{ t0 with link.paused := false, link.mode := LinkMode.setup, link.confDue := true }, by decide⟩,
   ⟨{ t0 with
       link.paused := false, link.mode := LinkMode.setup, link.confDue := false, link.reqDue := false }, by decide⟩,
   ⟨{ t0 with
       link.paused := false, link.mode := LinkMode.setup, link.confDue := false, link.reqDue := true }, by decide⟩,
   ⟨{ t0 with link.paused := false, link.mode := LinkMode.clearing, link.clearOwed := true }, by decide⟩,
   ⟨{ t0 with
       link.paused := false, link.mode := LinkMode.direct, link.outbound := (1#8) :: ([]) }, 1#8, [], by decide⟩,
   ⟨{ t0 with
       link.paused := false, link.mode := LinkMode.linked, link.confDue := false, link.rejectOwed := true },
       by decide⟩,
   ⟨{ t0 with
       link.paused := false, link.mode := LinkMode.linked, link.confDue := false, link.rejectOwed := false,
       link.busyAckOwed := true }, by decide⟩,
   ⟨{ t0 with
       link.paused := false, link.mode := LinkMode.linked, link.confDue := false, link.rejectOwed := false,
       link.busyAckOwed := false, link.resendMark := some (1), link.vs := 3,
       link.window := [⟨1, [1#8]⟩, ⟨2, [2#8]⟩] }, 1, ⟨1, [1#8]⟩, by decide⟩,
   ⟨{ t0 with
       link.paused := false, link.mode := LinkMode.linked, link.confDue := false, link.rejectOwed := false,
       link.busyAckOwed := false, link.resendMark := none, link.peerBusy := false, link.outbound := [1#8] },
       by decide⟩,
   ⟨{ t0 with
       link.paused := false, link.mode := LinkMode.linked, link.confDue := false, link.rejectOwed := false,
       link.busyAckOwed := false, link.resendMark := none, link.outbound := [] }, by decide⟩⟩

theorem witness_UntakenCommands :
    (∃ (c : Instr) (f : Frame) (code : Byte) (s : State), c.command = some (f, code) ∧ s.deaf f.port = true) ∧
    (∃ (c : Instr) (f : Frame) (code : Byte) (s : State), c.command = some (f, code) ∧ s.deaf f.port = false ∧
      s.occupied f.port = true) ∧
    (∃ (c : Instr) (f : Frame) (code : Byte) (s : State), c.command = some (f, code) ∧ s.deaf f.port = false ∧
      s.occupied f.port = false ∧ s.power.low = true) ∧
    (∃ (c : Instr) (f : Frame) (code : Byte) (s : State), c.command = some (f, code) ∧ s.deaf f.port = false ∧
      s.occupied f.port = false ∧ s.power.low = false ∧ f.port = Port.system ∧ code = 112#8) ∧
    (∃ (c : Instr) (f : Frame) (code : Byte) (s : State), c.command = some (f, code) ∧ s.deaf f.port = false ∧
      s.occupied f.port = false ∧ s.power.low = false ∧ ¬(f.port = Port.system ∧ code = 112#8) ∧ f.sized = false) :=
  ⟨⟨.hangUp sysFrame, sysFrame, 0x13#8, { t0 with sys.data := true }, by decide⟩,
   ⟨.hangUp sysFrame, sysFrame, 0x13#8, { t0 with ports.system.outgoing := [⟨.reply, .ok, 0x78#8, []⟩] }, by decide⟩,
   ⟨.hangUp sysFrame, sysFrame, 0x13#8, { t0 with power.low := true }, by decide⟩,
   ⟨.takeNotice sysFrame, sysFrame, 0x70#8, { t0 with power.low := false }, by decide⟩,
   ⟨.takeNotice ⟨.panel, false⟩, ⟨.panel, false⟩, 0x70#8, { t0 with power.low := false }, by decide⟩⟩

theorem witness_VoiceCallCommands :
    (∃ (f : Frame) (s : State), s.Takes f 20#8 ∧ s.holder = some f.port.party ∧ s.ccu.call.job = Job.voice ∧
      s.ccu.line.connectable = true) ∧
    (∃ (f : Frame) (s : State), s.Takes f 20#8 ∧ s.holder = some f.port.party ∧ s.ccu.call.job = Job.voice ∧
      s.ccu.line.connectable = false) ∧
    (∃ (f : Frame) (s : State) (b : Byte) (rest : List Byte) (x : Symbol) (xs : List Symbol),
      s.ccu.call.active = true ∧ s.ccu.call.job = Job.voice ∧ s.ccu.line = LineState.connected ∧
      s.holder = some f.port.party ∧ s.tone.generator.state = GeneratorState.idle ∧ ¬s.voice.op.playsToLine ∧
      s.Takes f 21#8 ∧ symbolsOf (b :: rest) = some (x :: xs) ∧ rest.length < 32) ∧
    (∃ (f : Frame) (s : State) (frequency : U16) (duration : U16), s.ccu.call.active = true ∧
      s.ccu.call.job = Job.voice ∧ s.ccu.line = LineState.connected ∧ s.holder = some f.port.party ∧
      s.tone.generator.state = GeneratorState.idle ∧ ¬s.voice.op.playsToLine ∧ s.Takes f 22#8) ∧
    (∃ (f : Frame) (count : Byte) (s : State), s.Takes f 37#8 ∧ 1 ≤ BitVec.toNat count ∧ BitVec.toNat count ≤ 16) ∧
    (∃ (f : Frame) (count : Byte) (s : State), s.Takes f 37#8 ∧ (BitVec.toNat count < 1 ∨ 16 < BitVec.toNat count)) :=
  ⟨⟨sysFrame, { t0 with
       ccu.call.active := true, ccu.call.holder := some (Port.party .system), ccu.call.job := Job.voice,
       ccu.line := .dialing }, by decide⟩,
   ⟨sysFrame, { t0 with
       ccu.call.active := true, ccu.call.holder := some (Port.party .system), ccu.call.job := Job.voice }, by decide⟩,
   ⟨sysFrame, { t0 with
       ccu.call.active := true, ccu.call.job := Job.voice, ccu.line := LineState.connected,
       ccu.call.holder := some (Port.party .system), tone.generator.state := GeneratorState.idle }, 15#8, [0#8], 15,
       [0], by decide⟩,
   ⟨sysFrame, { t0 with
       ccu.call.active := true, ccu.call.job := Job.voice, ccu.line := LineState.connected,
       ccu.call.holder := some (Port.party .system), tone.generator.state := GeneratorState.idle }, 1#16, 1#16,
       by decide⟩,
   ⟨sysFrame, 1#8, t0, by decide⟩,
   ⟨sysFrame, 0#8, t0, by decide⟩⟩

theorem witness_VoiceControlled :
    (∃ (f : Frame) (s : State), s.voice.op.user = some f.port.party ∧ s.voice.op.endpoint = some Endpoint.local ∧
      s.Takes f 66#8 ∧ (s.voice.op.state = VoiceState.playing ∨ s.voice.op.state = VoiceState.recording)) ∧
    (∃ (f : Frame) (s : State), s.voice.op.user = some f.port.party ∧ s.voice.op.endpoint = some Endpoint.local ∧
      s.Takes f 67#8 ∧ s.voice.op.state = VoiceState.paused ∧ s.voice.op.pausedOp = some VoiceOperation.play) ∧
    (∃ (f : Frame) (s : State), s.voice.op.user = some f.port.party ∧ s.voice.op.endpoint = some Endpoint.local ∧
      s.Takes f 67#8 ∧ s.voice.op.state = VoiceState.paused ∧ s.voice.op.pausedOp = some VoiceOperation.record) ∧
    (∃ (f : Frame) (id : Nat) (e : Entry) (s : State), s.Takes f 68#8 ∧ s.voice.op.user = some f.port.party ∧
      s.voice.op.state ≠ VoiceState.idle ∧ s.voice.op.message = some id ∧ s.store.find id = some e ∧
      s.voice.op.operation = some VoiceOperation.play ∧ e.state ≠ EntryState.doomed) ∧
    (∃ (f : Frame) (id : Nat) (e : Entry) (s : State), s.Takes f 68#8 ∧ s.voice.op.user = some f.port.party ∧
      s.voice.op.state ≠ VoiceState.idle ∧ s.voice.op.message = some id ∧ s.store.find id = some e ∧
      s.voice.op.operation = some VoiceOperation.record ∧ s.voice.op.lastLoud = none ∧ (∀ (b : TakenBlock),
      b ∈ s.voice.op.taken → b.loud = false)) ∧
    (∃ (f : Frame) (id : Nat) (e : Entry) (s : State), s.Takes f 68#8 ∧ s.voice.op.user = some f.port.party ∧
      s.voice.op.state ≠ VoiceState.idle ∧ s.voice.op.message = some id ∧ s.store.find id = some e ∧
      s.voice.op.operation = some VoiceOperation.record ∧ s.voice.op.lastLoud.isSome = true ∧
      s.voice.op.kind = some e.kind ∧
      (e.kind = MsgKind.memo ∨ e.kind = MsgKind.voiceMsg ∨ e.kind = MsgKind.greeting) ∧ (∀ (n : Nat) (o : Entry),
      e.slot = some n → s.store.greeting n = some o → s.store.find o.id = some o ∧ o.id ≠ id) ∧
      minLoudBlocks s.settings.minMessageS ≤ s.voice.op.loud) :=
  ⟨⟨sysFrame, { t0 with
       voice.op.user := some (Port.party .system), voice.op.endpoint := some Endpoint.local,
       voice.op.state := VoiceState.playing }, by decide⟩,
   ⟨sysFrame, { t0 with
       voice.op.user := some (Port.party .system), voice.op.endpoint := some Endpoint.local,
       voice.op.state := VoiceState.paused, voice.op.pausedOp := some VoiceOperation.play }, by decide⟩,
   ⟨sysFrame, { t0 with
       voice.op.user := some (Port.party .system), voice.op.endpoint := some Endpoint.local,
       voice.op.state := VoiceState.paused, voice.op.pausedOp := some VoiceOperation.record }, by decide⟩,
   ⟨sysFrame, 1, memo1, { t0 with
       voice.op.user := some (Port.party .system), voice.op.message := some (1),
       voice.op.operation := some VoiceOperation.play, voice.op.state := .recording }, by decide⟩,
   ⟨sysFrame, 2, memo2, { t0 with
       voice.op.user := some (Port.party .system), voice.op.message := some (2),
       voice.op.operation := some VoiceOperation.record, voice.op.lastLoud := none, voice.op.state := .recording },
       by decide⟩,
   ⟨sysFrame, 1, memo1, { t0 with
       voice.op.user := some (Port.party .system), voice.op.message := some (1),
       voice.op.operation := some VoiceOperation.record, voice.op.kind := some (memo1).kind,
       voice.op.state := .recording, voice.op.lastLoud := some 3, voice.op.loud := 125 }, by decide, by decide,
       by decide, by decide, by decide, by decide, by decide, by decide, by decide, (fun _ _ h => nomatch h),
       by decide⟩⟩

theorem witness_WindowsMeasured :
    (∃ (s : State) (e : U16), s.power.retention = false ∧ s.level.feed ≠ FeedKind.off ∧ s.level.window.symbols < 256) ∧
    (∃ (s : State) (c : ClosingWindow), s.ClosesWindow c) ∧
    (∃ (s : State) (c : ClosingWindow) (q : Nat), q = 47 - logCode (c.window.acc / 256) ∧ s.ClosesWindow c ∧
      ¬(s.pump.mode = PumpMode.data ∧ s.pump.phase = PumpPhase.data)) :=
  ⟨⟨{ t0 with power.retention := false, level.feed := .training, level.window.symbols := 255 }, 1#16, by decide⟩,
   ⟨{ t0 with
       level.closing := [⟨.training, ⟨700, 256, false, 2⟩⟩] }, ⟨.training, ⟨700, 256, false, 2⟩⟩, Or.inr ⟨_, rfl⟩⟩,
   ⟨{ t0 with
       level.closing := [⟨.tracking, ⟨5000, 256, false, 1⟩⟩] }, ⟨.tracking, ⟨5000, 256, false, 1⟩⟩, 31, by decide,
       .inr ⟨[], rfl⟩, by decide⟩⟩

theorem witness_WriteChunkStores :
    (∃ (f : Frame) (id : Nat) (e : Entry) (s : State) (bytes : List Byte), s.Takes f 87#8 ∧
      (s.channel f.port).message = some id ∧ (s.channel f.port).direction = TransferDirection.write ∧
      (s.channel f.port).state = TransferState.active ∧ s.store.find id = some e ∧ Mem.wf s.store.mem = true ∧
      1 ≤ bytes.length ∧ bytes.length ≤ 128 ∧ e.kind ≠ MsgKind.faxOut ∧ e.length % 1024 + bytes.length ≤ 1024 ∧
      e.length + bytes.length ≤ e.granules.length * 1024) ∧
    (∃ (f : Frame) (id : Nat) (e : Entry) (s : State) (b : Byte) (g : Nat) (rest : List Nat), s.Takes f 87#8 ∧
      (s.channel f.port).message = some id ∧ (s.channel f.port).direction = TransferDirection.write ∧
      (s.channel f.port).state = TransferState.active ∧ s.store.find id = some e ∧ Mem.wf s.store.mem = true ∧
      e.granules.length * 1024 = e.length ∧ s.store.free = g :: rest ∧ e.kind ≠ MsgKind.faxOut) ∧
    (∃ (f : Frame) (id : Nat) (e : Entry) (s : State) (b : Byte), s.Takes f 87#8 ∧
      (s.channel f.port).message = some id ∧ (s.channel f.port).direction = TransferDirection.write ∧
      (s.channel f.port).state = TransferState.active ∧ s.store.find id = some e ∧ Mem.wf s.store.mem = true ∧
      e.granules.length * 1024 ≤ e.length ∧ s.store.free = []) ∧
    (∃ (f : Frame) (id : Nat) (e : Entry) (s : State), s.Takes f 87#8 ∧ (s.channel f.port).message = some id ∧
      (s.channel f.port).direction = TransferDirection.write ∧ (s.channel f.port).state = TransferState.active ∧
      s.store.find id = some e ∧ Mem.wf s.store.mem = true ∧ e.kind = MsgKind.faxOut ∧
      (s.channel f.port).mark = true ∧ e.length < e.granules.length * 1024) :=
  ⟨⟨sysFrame, 2, memo2, { t0 with
       ports.system.transfer.message := some (2), ports.system.transfer.direction := TransferDirection.write,
       ports.system.transfer.state := TransferState.active }, [7#8], by decide⟩,
   ⟨sysFrame, 2, { memo2 with length := 1024 }, { t0 with
       ports.system.transfer.message := some (2), ports.system.transfer.direction := TransferDirection.write,
       ports.system.transfer.state := TransferState.active, store.free := [20, 21],
       store.dir := [{ memo2 with length := 1024 }] }, 1#8, 20, [21], by decide⟩,
   ⟨sysFrame, 2, { memo2 with length := 1024 }, { t0 with
       ports.system.transfer.message := some (2), ports.system.transfer.direction := TransferDirection.write,
       ports.system.transfer.state := TransferState.active, store.free := [],
       store.dir := [{ memo2 with length := 1024 }] }, 1#8, by decide⟩,
   ⟨sysFrame, 3, faxOut3, { t0 with
       ports.system.transfer.message := some (3), ports.system.transfer.direction := TransferDirection.write,
       ports.system.transfer.state := TransferState.active, ports.system.transfer.mark := true }, by decide⟩⟩

end Sys2Proof.Tests
end

section
/-! PROOFS. The Timer Bank's channels (Chapter 2): a stop (R33) and the REPEAT mode (R27). -/

namespace Sys2Proof.Machine

/-! ### A stopped channel (R33) -/

/-- R26: a channel that is OFF counts no tick, and so meets no compare. -/
theorem Channel.tick_off {c : Channel} (own : Nat) (hoff : c.mode = .off) : c.tick own = c := by
  simp [Channel.tick, Channel.counted, Channel.meets, hoff]

/-- R32: no restart event reaches a channel that is OFF. -/
theorem Channel.restarted_off {c : Channel} (hoff : c.mode = .off) : c.restarted = c := by
  simp [Channel.restarted, hoff]

/-- R33: the owner of a channel that is OFF takes only a compare A event that has fired. -/
theorem Channel.takeA_off {c : Channel} (own : Nat) (hoff : c.mode = .off) :
    c.takeA own = if c.signalA = true then some { c with signalA := false } else none := by
  simp [Channel.takeA, hoff]

/-- R33: the owner of a channel that is OFF takes only a compare B event that has fired. -/
theorem Channel.takeB_off {c : Channel} (own : Nat) (hoff : c.mode = .off) :
    c.takeB own = if c.signalB = true then some { c with signalB := false } else none := by
  simp [Channel.takeB, hoff]

@[simp] theorem Channel.stop_mode (c : Channel) : c.stop.mode = .off := rfl

/-- Settles O32: the fields are those of the stop's record, and what follows the stop is what an OFF channel does. -/
theorem channelStops : Obligations.ChannelStops := by
  intro n c
  have hoff : c.stop.mode = .off := c.stop_mode
  exact ⟨hoff, rfl, rfl, rfl, rfl, rfl, rfl, rfl, rfl, rfl, rfl, rfl, rfl, rfl, rfl,
    Channel.tick_off n hoff, Channel.restarted_off hoff, Channel.takeA_off n hoff, Channel.takeB_off n hoff⟩

/-! ### A REPEAT channel (R27) -/

/-- R26, R27: short of compare A, a tick of a REPEAT channel only counts. -/
theorem Channel.tick_repeat_of_lt {c : Channel} (own : Nat) (hmode : c.mode = .repeat)
    (hlt : c.count + 1 < c.compareA) : c.tick own = { c with count := c.count + 1 } := by
  simp [Channel.tick, Channel.counted, Channel.meets, Channel.activeCompare, hmode, hlt]

/-- R27: the tick whose count meets compare A fires the A event and starts the count again from 0. -/
theorem Channel.tick_repeat_of_le {c : Channel} (own : Nat) (hmode : c.mode = .repeat)
    (hle : c.compareA ≤ c.count + 1) : c.tick own = { c with count := 0, signalA := true } := by
  simp [Channel.tick, Channel.counted, Channel.meets, Channel.activeCompare, Channel.fire, Channel.nextEvent,
    Channel.signal, hmode, hle]

/-- R27: from an instant `m` at which the count of a REPEAT channel is 0, it counts the ticks up to the next event. -/
theorem Channel.ticks_repeat_within_period {own m : Nat} {c : Channel} {fired : Bool} (hmode : c.mode = .repeat)
    (hstart : Nat.repeat (Channel.tick own) m c = { c with count := 0, signalA := fired }) (j : Nat)
    (hj : j < c.compareA) :
    Nat.repeat (Channel.tick own) (m + j) c = { c with count := j, signalA := fired } := by
  induction j with
  | zero => exact hstart
  | succ j ih =>
    change Channel.tick own (Nat.repeat (Channel.tick own) (m + j) c) = _
    rw [ih (by omega)]
    exact Channel.tick_repeat_of_lt own hmode hj

/-- R27: a REPEAT channel that counts from 0 is at 0 again after every whole number of periods, and from the first on an event
has fired. -/
theorem Channel.ticks_repeat_periods {own : Nat} {c : Channel} (hmode : c.mode = .repeat) (hcount : c.count = 0)
    (hpos : 1 ≤ c.compareA) (k : Nat) :
    Nat.repeat (Channel.tick own) (k * c.compareA) c =
      { c with count := 0, signalA := c.signalA || decide (0 < k) } := by
  induction k with
  | zero =>
    have hself : c = { c with count := 0 } := by rw [← hcount]
    simpa [Nat.repeat] using hself
  | succ k ih =>
    have hlast := Channel.ticks_repeat_within_period hmode ih (c.compareA - 1) (by omega)
    have hticks : (k + 1) * c.compareA = (k * c.compareA + (c.compareA - 1)) + 1 := by
      rw [Nat.succ_mul]; omega
    have hmeets : c.compareA ≤ (c.compareA - 1) + 1 := by omega
    calc Nat.repeat (Channel.tick own) ((k + 1) * c.compareA) c
        = Channel.tick own (Nat.repeat (Channel.tick own) (k * c.compareA + (c.compareA - 1)) c) := by rw [hticks]; rfl
      _ = Channel.tick own { c with count := c.compareA - 1, signalA := c.signalA || decide (0 < k) } := by rw [hlast]
      _ = { c with count := 0, signalA := true } := Channel.tick_repeat_of_le own hmode hmeets
      _ = { c with count := 0, signalA := c.signalA || decide (0 < k + 1) } := by simp

/-- Settles O33: `k` whole periods by induction on their number, then `j` ticks of the next. -/
theorem repeatFiresEveryN : Obligations.RepeatFiresEveryN := by
  rintro own _ k j c hpos - hmode rfl hcount hj
  exact Channel.ticks_repeat_within_period hmode (Channel.ticks_repeat_periods hmode hcount hpos k) j hj

end Sys2Proof.Machine
end

section
/-! PROOFS. FORMAT of the Message Store (R169), with what its alerts and its judgement of the low flag leave (R173). -/

namespace Sys2Proof.Machine

/-! ### Alerts (R173) -/

/-- R173: an alert changes the kinds recorded at the ports and their notice controllers. -/
theorem State.storeAlert_same (s : State) (k : AlertKind) :
    SameBut [.alerts .system, .alerts .panel, .notices .panel] s (s.storeAlert k) := by
  intro x named hn
  cases x with
  | alerts p => cases p <;> simp at named
  | notices p => cases p <;> simp at named hn
  | outgoing p => cases p <;> simp [Part.Same, State.port, PerPort.get]
  | digits p => cases p <;> simp [Part.Same, State.port, PerPort.get]
  | transfer p => cases p <;> simp [Part.Same, State.port, PerPort.get]
  | _ => simp [Part.Same]

/-- R173: an alert records its kind at each port for the next LIST. -/
theorem State.storeAlert_alerts (s : State) (k : AlertKind) (p : Port) :
    ((s.storeAlert k).port p).alerts = (s.port p).alerts.add k := by
  cases p <;> rfl

/-- R173: an alert is noticed at each port. -/
theorem State.storeAlert_noticed (s : State) (k : AlertKind) (p : Port) : (s.storeAlert k).Noticed p .storeAlert :=
  State.raiseBoth_noticed _ _ p

/-- R173: the judgement of the low flag changes that flag and, where it rises, gives an alert. -/
theorem State.judgeLow_same (s : State) :
    SameBut [.freeList, .alerts .system, .alerts .panel, .notices .panel] s s.judgeLow := by
  have hflag (low : Bool) : SameBut [.freeList, .alerts .system, .alerts .panel, .notices .panel] s
      { s with store.low := low } := by
    intro x named _
    cases x with
    | freeList => simp at named
    | memory => exact fun _ => rfl
    | _ => simp [Part.Same, State.port]
  unfold State.judgeLow
  split
  · split
    · exact SameBut.refl _ s
    · exact (hflag true).trans ((State.storeAlert_same _ _).mono (by simp))
  · exact hflag false

/-! ### The reply of a command (R177) -/

/-- R180: a reply takes no notice away. -/
theorem State.Noticed.reply {s : State} {p : Port} {x : Source} (h : s.Noticed p x) (q : Port) (code : Byte) (r : Reply) :
    (s.reply q code r).Noticed p x := by
  unfold State.Noticed at *
  cases p <;> simpa [State.port, PerPort.get] using h

/-- R173: the reply and the end of the step leave the kinds recorded at a port. -/
theorem State.reply_deliver_alerts (s : State) (q p : Port) (code : Byte) (r : Reply) :
    ((s.reply q code r).deliverSystem.port p).alerts = (s.port p).alerts := by
  cases p <;> simp [State.port, PerPort.get]

/-- R178: a taken command that is refused answers the status and has no other effect. -/
theorem command_refused {f : Frame} {code : Byte} {s : State} {body : State → State × Reply} {x : Status}
    (h : s.Takes f code) (hbody : body s = refuse s x) :
    ∃ t, command f code s body = .next t ∧ Answered s t f.port code x [] ∧ SameBut [.outgoing f.port] s t := by
  refine ⟨_, command_taken h body, ?_, ?_⟩ <;> rw [hbody]
  · exact State.reply_answers rfl
  · exact (State.reply_same s f.port code _).finish

/-! ### FORMAT (R169) -/

/-- R169: FORMAT is the frame of its code with the effect of `takeFormat`. -/
theorem exec_format (f : Frame) (s : State) : exec (.format f) s = command f 0x54#8 s takeFormat := rfl

/-- R169: what stands in the way of FORMAT is an entry that is OPEN or held. -/
theorem Entry.inUse_iff (e : Entry) : e.inUse = true ↔ e.state = .opened ∨ 0 < e.holds := by
  simp [Entry.inUse]

/-- R169: with an entry in use, FORMAT is refused. -/
theorem takeFormat_refused {s : State} (h : ∃ e ∈ s.store.dir, e.state = .opened ∨ 0 < e.holds) :
    takeFormat s = refuse s .inUse := by
  have hany : s.store.dir.any Entry.inUse = true := by simpa only [List.any_eq_true, Entry.inUse_iff] using h
  simp [takeFormat, hany]

/-- R169: the state between the formatting of the store and the alerts. -/
def State.storeFormatted (s : State) : State := { s with store := s.store.formatted, voice.resume := none }

/-- R169, steps 1 to 4: formatting touches the resume record, the header, the directory and the free list. -/
theorem State.storeFormatted_same (s : State) : SameBut [.resume, .header, .directory, .freeList] s s.storeFormatted := by
  intro x named _
  cases x with
  | resume | header | directory | freeList => simp at named
  | memory => exact fun _ => rfl
  | _ => simp [Part.Same, State.storeFormatted, State.port]

/-- R169: the state that a taken FORMAT leaves to its reply. -/
def State.formatAlerted (s : State) : State := s.storeFormatted.judgeLow.storeAlert .formatted

/-- R169: with no entry in use, the store is formatted, the low flag is judged, and FORMATTED is raised. -/
theorem takeFormat_taken {s : State} (h : ∀ e ∈ s.store.dir, e.state ≠ .opened ∧ e.holds = 0) :
    takeFormat s = (s.formatAlerted, .plain .ok) := by
  have hany : ¬ s.store.dir.any Entry.inUse = true := by
    simp only [List.any_eq_true, Entry.inUse_iff]
    rintro ⟨e, he, hopen | hheld⟩
    · exact (h e he).1 hopen
    · exact hheld.ne' (h e he).2
  unfold takeFormat
  rw [if_neg hany]
  rfl

/-- R169: all that a taken FORMAT touches before its reply. -/
theorem State.formatAlerted_same (s : State) :
    SameBut [.resume, .header, .directory, .freeList, .alerts .system, .alerts .panel, .notices .panel] s
      s.formatAlerted :=
  (s.storeFormatted_same.mono (by simp)).trans
    ((s.storeFormatted.judgeLow_same.mono (by simp)).trans ((State.storeAlert_same _ _).mono (by simp)))

/-- R169, R173: the alerts leave the formatted store as it is, but for the low flag. -/
theorem State.formatAlerted_store (s : State) : s.formatAlerted.store = s.storeFormatted.judgeLow.store :=
  State.storeAlert_store _ _

/-- R169: the alerts leave the resume record absent. -/
theorem State.formatAlerted_resume (s : State) : s.formatAlerted.voice.resume = none := by
  simp [State.formatAlerted, State.storeFormatted]

/-- R169, step 5: FORMATTED is recorded at each port. -/
theorem State.formatAlerted_formatted (s : State) (p : Port) : (s.formatAlerted.port p).alerts.formatted = true := by
  rw [State.formatAlerted, State.storeAlert_alerts]
  rfl

/-- R169, step 5: STORE_ALERT is noticed at each port. -/
theorem State.formatAlerted_noticed (s : State) (p : Port) : s.formatAlerted.Noticed p .storeAlert :=
  State.storeAlert_noticed _ _ p

/-- Settles O18: the store's items are those that the formatting wrote, which the judgement of the low flag, the alerts and
the reply leave; the frame is composed of theirs. -/
theorem formatEmpties : Obligations.FormatEmpties := by
  intro f s htakes
  rw [exec_format]
  refine ⟨fun hused => command_refused htakes (takeFormat_refused hused), fun hunused => ?_⟩
  refine ⟨_, command_taken htakes takeFormat, ?_⟩
  rw [takeFormat_taken hunused]
  have houtgoing : (s.formatAlerted.port f.port).outgoing = (s.port f.port).outgoing :=
    s.formatAlerted_same (.outgoing f.port) (by simp) (by simp)
  have hframe (r : Reply) := (State.reply_same s.formatAlerted f.port 0x54#8 r).finish
  simp only [State.deliverSystem_store, State.deliverSystem_voice, State.reply_store, State.reply_voice,
    State.reply_deliver_alerts, State.formatAlerted_store, State.judgeLow_keeps]
  exact ⟨rfl, rfl, rfl, rfl, rfl, rfl, rfl, s.formatAlerted_resume, s.formatAlerted_formatted,
    fun p => ((s.formatAlerted_noticed p).reply _ _ _).deliverSystem, State.reply_answers houtgoing,
    (s.formatAlerted_same.mono (by simp)).trans ((hframe _).mono (by simp))⟩

end Sys2Proof.Machine
end

section
/-! PROOFS. What every row does with a step: it answers a next state. -/

namespace Sys2Proof.Machine

/-- A row answers a next state with a property. -/
def Answers (o : Step) (P : State → Prop) : Prop := ∃ t, o = .next t ∧ P t

/-- A property that neither the end of a step nor an answer that joins those of a port changes. -/
structure Stable (P : State → Prop) : Prop where
  deliver : ∀ s : State, P s → P s.deliverSystem
  send : ∀ (s : State) (p : Port) (a : Answer), P s → P (s.send p a)

/-- The end of a step answers a state with a stable property. -/
theorem Stable.finish {P : State → Prop} (hP : Stable P) {s : State} (h : P s) : Answers (finish s) P :=
  ⟨_, rfl, hP.deliver s h⟩

/-- R177: a frame that is not taken leaves a stable property, and one that is taken does so where its body does. -/
theorem Stable.takeFrame {P : State → Prop} (hP : Stable P) {f : Frame} {code : Byte} {s : State}
    {body : State → State × Reply} (h : P s) (hb : P (body s).1) : P (takeFrame f code s body) := by
  have hbusy : P (s.busyAnswer f.port code) := by
    unfold State.busyAnswer
    split
    · exact h
    · exact hP.send _ _ _ h
  unfold Machine.takeFrame
  split
  · exact h
  split
  · exact hbusy
  split
  · exact hP.send _ _ _ h
  split
  · exact hP.send _ _ _ h
  split
  · exact hP.send _ _ _ h
  · exact hP.send _ _ _ hb

/-- A command answers a state with a stable property where its body leaves one. -/
theorem Stable.command {P : State → Prop} (hP : Stable P) {f : Frame} {code : Byte} {s : State}
    {body : State → State × Reply} (h : P s) (hb : P (body s).1) : Answers (command f code s body) P :=
  hP.finish (hP.takeFrame h hb)

/-! ### One step (log 4) -/

/-- Settles O1: `step` is its two branches. -/
theorem stepTakesFront : Obligations.StepTakesFront := by
  intro c rest s
  constructor <;> intro h <;> simp [step, h]

/-! ### Reset -/

/-- Settles O4: the reset state is written out in full, and its items are read off; the free list of the cold store is the
one list of the statement that is not written out. -/
theorem resetLeaves : Obligations.ResetLeaves := by
  have hfree : State.reset.store.free.length = 1008 := by
    simp [State.reset, State.afterReset, Store.cold, usableGranules, Config.reservedGranules]
  have hsound : State.reset.Sound :=
    { balanced := usable_balanced (by decide)
      canonical := rfl
      history := by decide
      claims := by simp [OneEach, State.reset, State.afterReset, Ccu.reset]
      system := Controller.reset_sound
      panel := Controller.reset_sound }
  have hline : State.reset.LineSound := ⟨rfl, nofun, fun h => absurd rfl h⟩
  refine ⟨hsound, hline, rfl, rfl, rfl, rfl, rfl, rfl, rfl, rfl, rfl, rfl, rfl, rfl, rfl, rfl, rfl, rfl, rfl, rfl,
    rfl, hfree, rfl, fun p => ?_, rfl, rfl, rfl⟩
  cases p <;> exact ⟨rfl, rfl, rfl, rfl⟩

end Sys2Proof.Machine
end

section
/-! PROOFS. The few rows that write the Calendar, the settings and the power flags. -/

namespace Sys2Proof.Machine

/-! ### Expiries that an owner takes (R35, log 1) -/

/-- R35: what the taking of T2's expiry leaves: every field but T2 itself. -/
theorem State.takeT2_eq_some {s t : State} {use : T2Use} : s.takeT2 use = some t ↔
    s.ccu.t2Use = use ∧ ∃ c, s.timers.e2.takeA 2 = some c ∧ t = { s with timers.e2 := c } := by
  simp [State.takeT2, eq_comm]

/-- R120: what the taking of T3's expiry leaves: every field but T3 itself. -/
theorem State.takeT3_eq_some {s t : State} : s.takeT3 = some t ↔
    ∃ c, s.timers.e3.takeA 3 = some c ∧ t = { s with timers.e3 := c } := by
  simp [State.takeT3, eq_comm]

/-! ### The parts with few writers -/

/-- The waiting commands, the power flags, the Calendar and the settings in force are the same in two states. -/
def Steady (s t : State) : Prop :=
  t.pending = s.pending ∧ t.power = s.power ∧ t.calendar = s.calendar ∧ t.settings = s.settings

theorem Steady.trans {s t u : State} (h : Steady s t) (h' : Steady t u) : Steady s u := by
  simp_all [Steady]

theorem steady_stable {s₀ : State} : Stable (Steady s₀) where
  deliver s h := by simpa [Steady] using h
  send s p a h := by simpa [Steady] using h

theorem State.takeT2_steady {s t : State} {use : T2Use} (h : s.takeT2 use = some t) : Steady s t := by
  obtain ⟨-, c, -, rfl⟩ := State.takeT2_eq_some.1 h
  exact ⟨rfl, rfl, rfl, rfl⟩

theorem State.takeT3_steady {s t : State} (h : s.takeT3 = some t) : Steady s t := by
  obtain ⟨c, -, rfl⟩ := State.takeT3_eq_some.1 h
  exact ⟨rfl, rfl, rfl, rfl⟩

theorem State.takeToneWait_steady {s t : State} (h : s.takeToneWait = some t) : Steady s t := by
  simp only [State.takeToneWait, Option.orElse_eq_orElse, Option.orElse_eq_or, Option.or_eq_some_iff] at h
  rcases h with h | ⟨-, h⟩ <;> exact State.takeT2_steady h

theorem voiceControl_steady {s : State} {p : Port} {b : Bool} {act : State → State} (h : Steady s (act s)) :
    Steady s (voiceControl p b act s).1 := by
  unfold voiceControl
  split
  · exact ⟨rfl, rfl, rfl, rfl⟩
  · exact h

theorem openTransfer_steady {s : State} {d : TransferDirection} {b : Byte} {body : State → State × Reply}
    (h : Steady s (body s).1) : Steady s (openTransfer d b body s).1 := by
  unfold openTransfer
  split
  · exact h
  · exact ⟨rfl, rfl, rfl, rfl⟩

theorem State.expiryFirst_steady (s : State) : Steady s s.expiryFirst := by
  unfold State.expiryFirst
  split <;> simp [Steady]

theorem State.byteReceived_steady (s : State) (b : Byte) : Steady s (s.byteReceived b) := by
  unfold State.byteReceived
  split <;> simp [Steady]

theorem State.closeOut_steady (s : State) :
    s.closeOut.pending = s.pending ∧ s.closeOut.calendar = s.calendar ∧ s.closeOut.settings = s.settings := by
  simp [State.closeOut, State.writeHeader]

/-- R36, R40, R175, R178: the rows that write the Calendar, the settings in force or the power flags. -/
def Instr.ownsGlobals : Instr → Bool
  | .setClock _ _ _ _ _ | .secondEvent | .deviceReset _ _ | .setSetting _ _ _ | .powerLow => true
  | _ => false

/-- Every other row leaves them, and the waiting commands, as they are: a command by the lemma of its body, an event by those
of the operations between which it chooses. -/
theorem exec_steady {c : Instr} (hc : Instr.ownsGlobals c = false) (s : State) : Answers (exec c s) (Steady s) := by
  have hs : Steady s s := ⟨rfl, rfl, rfl, rfl⟩
  cases c with
  | setClock | secondEvent | deviceReset | setSetting | powerLow => cases hc
  | dial => exact steady_stable.command hs (takeDial_frame ..)
  | answer => exact steady_stable.command hs (takeAnswer_frame ..)
  | takeCall => exact steady_stable.command hs (takeTakeCall_frame ..)
  | hangUp => exact steady_stable.command hs (takeHangUp_frame ..)
  | connect => exact steady_stable.command hs (takeConnect_frame ..)
  | sendDigits => exact steady_stable.command hs (takeSendDigits_frame ..)
  | beep => exact steady_stable.command hs (takeBeep_frame ..)
  | readCall => exact steady_stable.command hs (readOnly_frame ..)
  | readHistory => exact steady_stable.command hs (readOnly_frame ..)
  | readLevels => exact steady_stable.command hs (readOnly_frame ..)
  | readLinkStats => exact steady_stable.command hs (readOnly_frame ..)
  | readTimers => exact steady_stable.command hs (readOnly_frame ..)
  | readDigits => exact steady_stable.command hs (takeReadDigits_frame ..)
  | readClock => exact steady_stable.command hs (readOnly_frame ..)
  | readSetting => exact steady_stable.command hs (readOnly_frame ..)
  | play => exact steady_stable.command hs (takePlay_frame ..)
  | record => exact steady_stable.command hs (takeRecord_frame ..)
  | pause => exact steady_stable.command hs (voiceControl_steady (by simp [Steady]))
  | resume => exact steady_stable.command hs (voiceControl_steady (by simp [Steady]))
  | stop => exact steady_stable.command hs (voiceControl_steady (by simp [Steady]))
  | list => exact steady_stable.command hs (takeList_frame ..)
  | readEntry => exact steady_stable.command hs (readOnly_frame ..)
  | delete => exact steady_stable.command hs (takeDelete_frame ..)
  | markHeard => exact steady_stable.command hs (takeMarkHeard_frame ..)
  | format => exact steady_stable.command hs (takeFormat_frame ..)
  | openTransferRead => exact steady_stable.command hs (openTransfer_steady (by simp [Steady]))
  | openTransferWrite => exact steady_stable.command hs (openTransfer_steady (by simp [Steady]))
  | readChunk => exact steady_stable.command hs (takeReadChunk_frame ..)
  | writeChunk => exact steady_stable.command hs (takeWriteChunk_frame ..)
  | closeTransfer => exact steady_stable.command hs (takeCloseTransfer_frame ..)
  | abort => exact steady_stable.command hs (takeAbort_frame ..)
  | faxNext => exact steady_stable.command hs (takeFaxNext_frame ..)
  | faxNextFromStore => exact steady_stable.command hs (takeFaxFromStore_frame ..)
  | takeNotice => exact steady_stable.command hs (takeTakeNotice_frame ..)
  | noticeDone => exact steady_stable.command hs (takeNoticeDone_frame ..)
  | clearNotice => exact steady_stable.command hs (takeClearNotice_frame ..)
  | mask => exact steady_stable.command hs (takeMask_frame ..)
  | goData => exact steady_stable.command hs (takeGoData_frame ..)
  | portReset => exact steady_stable.command hs (takePortReset_frame ..)
  | unknownCommand p code =>
    refine steady_stable.finish ?_
    split
    · exact hs
    · exact steady_stable.takeFrame hs hs
  | portDataByteReceived b =>
    exact steady_stable.finish (s.expiryFirst_steady.trans (State.byteReceived_steady _ b))
  | lineInUseRunExpiry =>
    refine steady_stable.finish ?_
    split
    · dsimp only
      split
      · generalize hq : State.serveQueue _ = q
        cases q with
        | none => simp [Steady]
        | some t => simpa [Steady] using State.serveQueue_frame hq
      · simp [Steady]
    · exact hs
  | dialToneWaitExpiry =>
    refine steady_stable.finish ?_
    split
    · exact hs
    · next t ht => exact (State.takeToneWait_steady ht).trans (by simp [Steady])
  | faxPageByteReceived b =>
    refine steady_stable.finish ?_
    split
    · have hb := State.faxStoreByte_frame s b
      split <;> simp_all [Steady]
    · exact hs
  | recordingGranuleNeeded =>
    refine steady_stable.finish ?_
    split
    · have ha := State.allocate_frame s (s.voice.op.message.getD 0)
      split <;> simp_all [Steady]
    · exact hs
  | settleExpiry | pauseItemExpiry | noAnswerExpiry | guardExpiry | remoteInactivityExpiry | faxControlReplyExpiry =>
    refine steady_stable.finish ?_
    split
    · exact hs
    · next t ht =>
      refine (State.takeT2_steady ht).trans ?_
      repeat' split
      all_goals simp [Steady]
  | retrainStableExpiry | faxPageStallExpiry | faxNextDecisionExpiry =>
    refine steady_stable.finish ?_
    split
    · next t ht => exact (State.takeT2_steady ht).trans (by split <;> simp [Steady])
    · exact hs
  | linkReqTimerExpiry | linkTimerExpiry =>
    refine steady_stable.finish ?_
    split
    · split
      · exact hs
      · next t ht =>
        refine (State.takeT3_steady ht).trans ?_
        try dsimp only
        repeat' (split <;> try dsimp only)
        all_goals simp [Steady]
    · exact hs
  | clearingWaitExpiry =>
    refine steady_stable.finish ?_
    split
    · split
      · next t ht => exact (State.takeT3_steady ht).trans (by simp [Steady])
      · exact hs
    · exact hs
  | setReceived | pageEndReceived =>
    dsimp only [exec, execSetReceived, execPageEndReceived]
    split
    · exact steady_stable.finish hs
    · refine steady_stable.finish ?_
      repeat' split
      all_goals simp [Steady]
  | _ =>
    refine steady_stable.finish ?_
    repeat' (split <;> try dsimp only)
    all_goals simp [Steady]

/-! ### SET SETTING (R178) -/

/-- R178: where a value is taken, or refused: what SET SETTING can leave, by the form of the setting. -/
theorem setSetting_leaves {P : State → Prop} {s : State} {p : Port} (id : Nat) (v : List Byte) (hsame : P s)
    (hsave : ∀ t, P (s.saveSettings t)) (hjudge : ∀ t, P (s.saveSettings t).judgeLow)
    (hcounts : ∀ t c, P (State.saveSettings { s with tone.classifier.counts := c } t))
    (hpriority : ∀ g n, n ≤ 7 →
      P (s.updPort p (fun q => { q with notices.priorities := q.notices.priorities.set g n }))) :
    P (setSetting p id v s).1 := by
  have hnumber (x : NumSetting) : P (judgeLowAfter id (setNumber x v s)).1 := by
    unfold setNumber judgeLowAfter
    split
    · split
      · next h => cases h.2
      · exact hsame
    · split
      · exact hjudge _
      · exact hsave _
  have henum (x : EnumSetting) : P (setEnum x v s).1 := by
    unfold setEnum
    repeat' split
    exacts [hsame, hsave _, hsame]
  have hcadence (i : Nat) : P (setCadence i v s).1 := by
    unfold setCadence
    repeat' split
    exacts [hsame, hcounts _ _, hsame]
  have hpair (r : Nat) : P (setLadder r v s).1 := by
    unfold setLadder
    split
    · exact hsame
    · dsimp only
      split
      exacts [hsave _, hsame]
  have henable : P (setRemoteEnable v s).1 := by
    unfold setRemoteEnable
    repeat' split
    exacts [hsame, hsave _, hsave _, hsame]
  have hcode : P (setRemoteCode v s).1 := by
    unfold setRemoteCode
    repeat' split
    exacts [hsame, hsave _, hsave _, hsame]
  have hfloor : P (setRungFloor v s).1 := by
    unfold setRungFloor
    repeat' split
    exacts [hsame, hsame, hsave _]
  have hceiling : P (setRungCeiling v s).1 := by
    unfold setRungCeiling
    repeat' split
    exacts [hsame, hsame, hsave _]
  have hescape : P (setEscapeByte v s).1 := by
    unfold setEscapeByte
    repeat' split
    exacts [hsame, hsame, hsave _]
  have hgroup (g : Nat) : P (setPriority p g v s).1 := by
    unfold setPriority
    split
    · exact hsame
    · exact hpriority _ _ (by simp only [clamp]; omega)
  unfold setSetting
  repeat' split
  exacts [hnumber _, henum _, hcadence _, henable, hcode, hpair _, hfloor, hceiling, hescape, hgroup _, hsame]

/-- R178: SET SETTING leaves the waiting commands, the Calendar and the power flags as they are. -/
theorem setSetting_globals (p : Port) (id : Nat) (v : List Byte) (s : State) :
    (setSetting p id v s).1.pending = s.pending ∧ (setSetting p id v s).1.calendar = s.calendar ∧
      (setSetting p id v s).1.power = s.power := by
  refine setSetting_leaves (P := fun t => t.pending = s.pending ∧ t.calendar = s.calendar ∧ t.power = s.power) id v ?_ ?_
    ?_ ?_ ?_
  all_goals simp [State.saveSettings]

theorem takeSetClock_globals (a b c d : Byte) (s : State) :
    (takeSetClock a b c d s).1.pending = s.pending ∧ (takeSetClock a b c d s).1.settings = s.settings ∧
      (takeSetClock a b c d s).1.power = s.power := by
  unfold takeSetClock
  split <;> simp [refuse]

theorem globals_stable {P : State → Prop} (h : ∀ s t, Steady s t → P s → P t) : Stable P where
  deliver s hs := h s _ (steady_stable.deliver s ⟨rfl, rfl, rfl, rfl⟩) hs
  send s p a hs := h s _ (steady_stable.send s p a ⟨rfl, rfl, rfl, rfl⟩) hs

/-- R174: device reset leaves the waiting commands. -/
theorem State.deviceReset_pending (s : State) (dram : DramSize) (rate : PortRate) :
    (s.deviceReset dram rate).pending = s.pending := by
  unfold State.deviceReset
  dsimp only
  split <;> rfl

/-- Settles O5: the five rows that write one of the three, and the others by `exec_steady`. -/
theorem oneOwnerEach : Obligations.OneOwnerEach := by
  intro c s
  cases hc : Instr.ownsGlobals c with
  | false =>
    obtain ⟨t, ht, hpending, hpower, hcalendar, hsettings⟩ := exec_steady hc s
    refine ⟨t, ht, hpending, ?_, ?_, ?_⟩
    · split <;> trivial
    · split <;> trivial
    · split <;> trivial
  | true =>
    cases c with
    | setClock f day hour minute second =>
      have hP : Stable (fun t => t.pending = s.pending ∧ t.settings = s.settings ∧ t.power = s.power) :=
        globals_stable (by simp_all [Steady])
      obtain ⟨t, ht, hpending, hsettings, hpower⟩ := hP.command (f := f) (code := 0x30#8) ⟨rfl, rfl, rfl⟩
        (takeSetClock_globals day hour minute second s)
      exact ⟨t, ht, hpending, trivial, hsettings, hpower⟩
    | setSetting f id value =>
      have hP : Stable (fun t => t.pending = s.pending ∧ t.calendar = s.calendar ∧ t.power = s.power) :=
        globals_stable (by simp_all [Steady])
      obtain ⟨t, ht, hpending, hcalendar, hpower⟩ := hP.command (f := f) (code := 0x31#8) ⟨rfl, rfl, rfl⟩
        (setSetting_globals f.port id.toNat value s)
      exact ⟨t, ht, hpending, hcalendar, trivial, hpower⟩
    | secondEvent =>
      refine ⟨_, rfl, ?_⟩
      split <;> simp [State.second]
    | deviceReset dram rate =>
      exact ⟨_, rfl, by simp [State.deviceReset_pending], trivial, trivial, trivial⟩
    | powerLow =>
      refine ⟨_, rfl, ?_⟩
      split <;> simp [State.closeOut_steady]
    | _ => cases hc

end Sys2Proof.Machine
end

section
/-! PROOFS. A command frame that the port does not take (R177, R178). -/

namespace Sys2Proof.Machine

/-- A command is the frame of its code with a body of its own. -/
theorem exec_command {c : Instr} {f : Frame} {code : Byte} (h : c.command = some (f, code)) (s : State) :
    ∃ body, exec c s = command f code s body := by
  cases c <;> cases h <;> exact ⟨_, rfl⟩

/-- R178 and 12.1: the Panel Port knows every command, the System Port every one but TAKE NOTICE. -/
theorem command_known {c : Instr} {f : Frame} {code : Byte} (h : c.command = some (f, code)) (p : Port) :
    portKnows p code = true ↔ ¬(p = .system ∧ code = 0x70#8) := by
  have hcode : portKnows .panel code = true ∧ portKnows .system code = !(code == 0x70#8) := by
    cases c <;> cases h <;> decide
  cases p <;> simp [hcode]

/-- An answer that a port has still to send changes nothing but what it has to send. -/
theorem State.send_same (s : State) (p : Port) (a : Answer) : SameBut [.outgoing p] s (s.send p a) := by
  intro x hx _
  cases x with
  | outgoing q => cases p <;> cases q <;> simp_all [Part.Same] <;> rfl
  | notices q | digits q | transfer q | alerts q => cases p <;> cases q <;> rfl
  | memory => exact fun _ => rfl
  | _ => simp [Part.Same]

/-- An answer joins the end of what its port has to send. -/
theorem State.send_outgoing (s : State) (p : Port) (a : Answer) :
    ((s.send p a).deliverSystem.port p).outgoing = (s.port p).outgoing ++ [a] := by
  cases p <;> simp [State.send, State.updPort, State.port, PerPort.get, PerPort.set]

/-- R177: a frame that is answered with one status, without results, has no other effect. -/
theorem State.reply_plain (s : State) (p : Port) (code : Byte) (x : Status) :
    SameBut [.outgoing p] s (s.reply p code (.plain x)).deliverSystem ∧
      Answered s (s.reply p code (.plain x)).deliverSystem p code x [] :=
  ⟨(State.reply_same s p code _).finish, State.send_outgoing s p _⟩

/-- Settles O6: the frame of a command is judged by `takeFrame`, whose branches are those of the statement. -/
theorem untakenCommands : Obligations.UntakenCommands := by
  intro c f code s hc
  obtain ⟨body, hexec⟩ := exec_command hc s
  have hknown := command_known hc f.port
  simp only [hexec, command, takeFrame]
  refine ⟨fun hdeaf => ?_, fun hdeaf hoccupied => ?_, fun hdeaf hoccupied hlow => ?_,
    fun hdeaf hoccupied hlow hport hcode => ?_,
    fun hdeaf hoccupied hlow hport hsized => ?_⟩
  · exact ⟨_, rfl, by simpa [hdeaf] using s.deliverSystem_same⟩
  · refine ⟨_, rfl, ?_⟩
    simp only [hdeaf, hoccupied, State.busyAnswer, Bool.false_eq_true, if_false, if_true]
    split
    · exact ⟨s.deliverSystem_same.mono (by simp), by cases hp : f.port <;> simp [State.port, PerPort.get]⟩
    · exact ⟨(s.send_same f.port _).finish, s.send_outgoing f.port _⟩
  · exact ⟨_, rfl, by simpa [hdeaf, hoccupied, hlow] using s.reply_plain f.port code .retained⟩
  · have hunknown : portKnows f.port code = false := by
      simpa [hport, hcode] using hknown
    exact ⟨_, rfl, by simpa [hdeaf, hoccupied, hlow, hunknown] using s.reply_plain f.port code .unknownCommand⟩
  · exact ⟨_, rfl, by simpa [hdeaf, hoccupied, hlow, hknown.2 hport, hsized] using s.reply_plain f.port code .badParameter⟩

end Sys2Proof.Machine
end

section
/-! PROOFS. Every step keeps a sound state sound (R164, R165, R19, R12, R180, R181). -/

namespace Sys2Proof.Machine

/-- R181: the delivery that ends a step keeps the System Port's controller sound. -/
theorem State.deliverSystem_sound {s : State} (h : s.Sound) : s.deliverSystem.Sound := by
  unfold State.deliverSystem
  split
  · split
    · exact h
    · next x hx =>
      exact ⟨h.balanced, h.canonical, h.history, h.claims,
        Controller.deliver_sound h.system (Controller.choice_deliverable hx), h.panel⟩
  · exact h

theorem sound_stable : Stable State.Sound where
  deliver _ h := State.deliverSystem_sound h
  send s p a h := State.send_sound s p a h

theorem State.takeT2_sound {s t : State} {use : T2Use} (h : s.Sound) (ht : s.takeT2 use = some t) : t.Sound := by
  obtain ⟨-, c, -, rfl⟩ := State.takeT2_eq_some.1 ht
  exact h

theorem State.takeT3_sound {s t : State} (h : s.Sound) (ht : s.takeT3 = some t) : t.Sound := by
  obtain ⟨c, -, rfl⟩ := State.takeT3_eq_some.1 ht
  exact h

theorem State.takeToneWait_sound {s t : State} (h : s.Sound) (ht : s.takeToneWait = some t) : t.Sound := by
  simp only [State.takeToneWait, Option.orElse_eq_orElse, Option.orElse_eq_or, Option.or_eq_some_iff] at ht
  rcases ht with ht | ⟨-, ht⟩ <;> exact State.takeT2_sound h ht

theorem voiceControl_sound {s : State} {p : Port} {b : Bool} {act : State → State} (h' : (act s).Sound) (h : s.Sound) :
    (voiceControl p b act s).1.Sound := by
  unfold voiceControl
  split
  exacts [h, h']

theorem openTransfer_sound {s : State} {d : TransferDirection} {b : Byte} {body : State → State × Reply}
    (h' : (body s).1.Sound) (h : s.Sound) : (openTransfer d b body s).1.Sound := by
  unfold openTransfer
  split
  exacts [h', h]

theorem takeSetClock_sound (a b c d : Byte) (s : State) (h : s.Sound) : (takeSetClock a b c d s).1.Sound := by
  unfold takeSetClock
  split
  · exact h
  · exact refuse_sound _ _ h

/-- R180: a group's priority written within 0 to 7. -/
theorem prioritiesOk_set {t : Six Nat} (h : prioritiesOk t) (g : Nat) {n : Nat} (hn : n ≤ 7) : prioritiesOk (t.set g n) := by
  obtain ⟨h0, h1, h2, h3, h4, h5⟩ := h
  unfold Six.set
  split <;> exact ⟨by assumption, by assumption, by assumption, by assumption, by assumption, by assumption⟩

/-- R178, R180: SET SETTING writes the settings, the low flag, match counts or a priority of 0 to 7. -/
theorem setSetting_sound (p : Port) (id : Nat) (v : List Byte) (s : State) (h : s.Sound) : (setSetting p id v s).1.Sound :=
  setSetting_leaves id v h (fun _ => h) (fun t => State.judgeLow_sound _ (show (s.saveSettings t).Sound from h))
    (fun _ _ => h)
    (fun g n hn => State.updNotices_sound (g := fun c => { c with priorities := c.priorities.set g n })
      (fun _ hc => ⟨prioritiesOk_set hc.1 g hn, hc.2⟩) h)

theorem State.expiryFirst_sound {s : State} (h : s.Sound) : s.expiryFirst.Sound := by
  unfold State.expiryFirst
  split
  · exact State.escapeExpiry_sound _ h
  · exact h

theorem State.byteReceived_sound {s : State} (h : s.Sound) (b : Byte) : (s.byteReceived b).Sound := by
  unfold State.byteReceived
  split
  · exact State.portByte_sound _ _ (State.byteRestarts_sound _ h)
  · exact State.commandByte_sound _ _ (State.byteRestarts_sound _ h)

/-- R174: the examination of recorded tables leaves the bytes of the DRAM. -/
theorem Store.found_mem {t f : Store} (h : t.found = some f) : f.mem = t.mem := by
  unfold Store.found at h
  split at h
  · cases h; rfl
  · split at h
    · cases h; rfl
    · cases h

/-- R174: a warm start keeps what the check has found sound, and a cold start leaves an empty store. -/
theorem State.deviceReset_sound {s : State} (h : s.Sound) (dram : DramSize) (rate : PortRate) :
    (s.deviceReset dram rate).Sound := by
  unfold State.deviceReset
  dsimp only
  split
  · next f hf =>
    obtain ⟨hfound, hsound⟩ := Store.kept_some hf
    refine ⟨Store.warm_balanced hsound, ?_, Nat.zero_le _, List.nodup_nil, Controller.reset_sound, Controller.reset_sound⟩
    exact (Store.found_mem hfound).symm ▸ h.canonical
  · exact ⟨usable_balanced (by cases dram <;> decide), h.canonical, Nat.zero_le _, List.nodup_nil, Controller.reset_sound,
      Controller.reset_sound⟩

/-- R175: the close-out. -/
theorem State.closeOut_sound {s : State} (h : s.Sound) : s.closeOut.Sound :=
  State.abortChannel_sound _ _ (State.abortChannel_sound _ _ (State.dropAuto_sound _ (State.endVoice_sound _ _
    (State.ccuPowerLow_sound _ (show State.Sound { s with power.low := true } from h)))))

/-- Every row answers a sound state from a sound one: a command by the lemma of its body, an event by those of the operations
between which it chooses. -/
theorem exec_sound (c : Instr) {s : State} (hs : s.Sound) : Answers (exec c s) State.Sound := by
  cases c with
  | dial => exact sound_stable.command hs (takeDial_sound _ _ _ _ _ hs)
  | answer => exact sound_stable.command hs (takeAnswer_sound _ _ _ hs)
  | takeCall => exact sound_stable.command hs (takeTakeCall_sound _ _ hs)
  | hangUp => exact sound_stable.command hs (takeHangUp_sound _ _ hs)
  | connect => exact sound_stable.command hs (takeConnect_sound _ _ hs)
  | sendDigits => exact sound_stable.command hs (takeSendDigits_sound _ _ _ hs)
  | beep => exact sound_stable.command hs (takeBeep_sound _ _ _ _ hs)
  | readCall => exact sound_stable.command hs (readOnly_sound _ _ hs)
  | readHistory => exact sound_stable.command hs (readOnly_sound _ _ hs)
  | readLevels => exact sound_stable.command hs (readOnly_sound _ _ hs)
  | readLinkStats => exact sound_stable.command hs (readOnly_sound _ _ hs)
  | readTimers => exact sound_stable.command hs (readOnly_sound _ _ hs)
  | readDigits => exact sound_stable.command hs (takeReadDigits_sound _ _ _ hs)
  | readClock => exact sound_stable.command hs (readOnly_sound _ _ hs)
  | readSetting => exact sound_stable.command hs (readOnly_sound _ _ hs)
  | play => exact sound_stable.command hs (takePlay_sound _ _ _ _ _ _ hs)
  | record => exact sound_stable.command hs (takeRecord_sound _ _ _ _ _ _ _ hs)
  | pause => exact sound_stable.command hs (voiceControl_sound (State.voicePause_sound _ hs) hs)
  | resume => exact sound_stable.command hs (voiceControl_sound (State.voiceResume_sound _ hs) hs)
  | stop => exact sound_stable.command hs (voiceControl_sound (State.endVoice_sound _ _ hs) hs)
  | list => exact sound_stable.command hs (takeList_sound _ _ _ _ hs)
  | readEntry => exact sound_stable.command hs (readOnly_sound _ _ hs)
  | delete => exact sound_stable.command hs (takeDelete_sound _ _ hs)
  | markHeard => exact sound_stable.command hs (takeMarkHeard_sound _ _ hs)
  | format => exact sound_stable.command hs (takeFormat_sound _ hs)
  | openTransferRead => exact sound_stable.command hs (openTransfer_sound (takeOpenRead_sound _ _ _ _ _ hs) hs)
  | openTransferWrite => exact sound_stable.command hs (openTransfer_sound (takeOpenWrite_sound _ _ _ _ hs) hs)
  | readChunk => exact sound_stable.command hs (takeReadChunk_sound _ _ _ hs)
  | writeChunk => exact sound_stable.command hs (takeWriteChunk_sound _ _ _ hs)
  | closeTransfer => exact sound_stable.command hs (takeCloseTransfer_sound _ _ hs)
  | abort => exact sound_stable.command hs (takeAbort_sound _ _ hs)
  | faxNext => exact sound_stable.command hs (takeFaxNext_sound _ _ _ hs)
  | faxNextFromStore => exact sound_stable.command hs (takeFaxFromStore_sound _ _ _ hs)
  | takeNotice => exact sound_stable.command hs (takeTakeNotice_sound _ _ hs)
  | noticeDone => exact sound_stable.command hs (takeNoticeDone_sound _ _ hs)
  | clearNotice => exact sound_stable.command hs (takeClearNotice_sound _ _ _ hs)
  | mask => exact sound_stable.command hs (takeMask_sound _ _ _ hs)
  | goData => exact sound_stable.command hs (takeGoData_sound _ _ hs)
  | portReset => exact sound_stable.command hs (takePortReset_sound _ _ hs)
  | setClock => exact sound_stable.command hs (takeSetClock_sound _ _ _ _ _ hs)
  | setSetting => exact sound_stable.command hs (setSetting_sound _ _ _ _ hs)
  | deviceReset => exact sound_stable.finish (State.deviceReset_sound hs _ _)
  | powerLow => exact sound_stable.finish (iteInduction (fun _ => hs) fun _ => State.closeOut_sound hs)
  | unknownCommand p code =>
    exact sound_stable.finish (iteInduction (fun _ => hs) fun _ => sound_stable.takeFrame hs hs)
  | portDataByteReceived b =>
    exact sound_stable.finish (State.byteReceived_sound (State.expiryFirst_sound hs) b)
  | secondEvent => 
    refine sound_stable.finish ?_
    split
    exacts [hs, hs]
  | settleExpiry =>
    refine sound_stable.finish ?_
    split
    · exact hs
    · next t ht =>
      have h := State.takeT2_sound hs ht
      exact iteInduction (fun _ => h) fun _ => iteInduction (fun _ => State.enterDialing_sound _ h) fun _ => h
  | dialToneWaitExpiry =>
    refine sound_stable.finish ?_
    split
    · exact hs
    · next t ht => exact State.reportEnd_sound _ _ (State.takeToneWait_sound hs ht)
  | pauseItemExpiry =>
    refine sound_stable.finish ?_
    split
    · exact hs
    · next t ht =>
      have h := State.takeT2_sound hs ht
      exact iteInduction (fun _ => State.itemComplete_sound _ h) fun _ => h
  | noAnswerExpiry =>
    refine sound_stable.finish ?_
    split
    · exact hs
    · next t ht =>
      have h := State.takeT2_sound hs ht
      exact iteInduction (fun _ => State.reportEnd_sound _ _ h) fun _ => h
  | guardExpiry =>
    refine sound_stable.finish ?_
    split
    · exact hs
    · next t ht =>
      have h := State.takeT2_sound hs ht
      exact iteInduction (fun _ => State.guardEnds_sound _ h) fun _ => h
  | lineInUseRunExpiry =>
    refine sound_stable.finish (iteInduction (fun _ => ?_) fun _ => hs)
    have h := State.raiseBoth_sound
      ({ s with lif.lineInUse := s.lif.voltageBelow, lif.voltageRun := 0 } : State) .lineAlert hs
    dsimp only
    split
    · generalize hq : State.serveQueue _ = q
      cases q with
      | none => exact h
      | some t => exact State.serveQueue_sound h hq
    · exact h
  | cycleEnd =>
    refine sound_stable.finish ?_
    split
    · exact hs
    · next due _ =>
      have h := State.setDeadlines_sound _ { (s.reachDue due).rau.deadlines with cycleEnd := none }
        (State.reachDue_sound s due hs)
      exact iteInduction (fun _ => State.cycleEnds_sound _ h) fun _ => iteInduction (fun _ => h) fun _ => h
  | windowClose =>
    refine sound_stable.finish ?_
    split
    · exact hs
    · exact State.settleCapture_sound _ _ (State.setDeadlines_sound _ _ (State.reachDue_sound _ _ hs))
  | episodeEnd =>
    refine sound_stable.finish ?_
    split
    · exact hs
    · next due _ =>
      have h := State.setDeadlines_sound _ { (s.reachDue due).rau.deadlines with episodeEnd := none }
        (State.reachDue_sound s due hs)
      exact iteInduction (fun _ => State.episodeEnds_sound _ h) fun _ => iteInduction (fun _ => h) fun _ => h
  | autoBeepEnd =>
    exact sound_stable.finish (iteInduction (fun _ => State.startRecording_sound _ (State.autoChannel_sound _
      (State.endVoice_sound _ _ hs))) fun _ => hs)
  | promptBeepEnd =>
    refine sound_stable.finish ?_
    have h := State.autoChannel_sound _ (State.endVoice_sound s .ended hs)
    split
    · exact hs
    · exact iteInduction (fun _ => iteInduction (fun _ => State.remoteWait_sound _ _ h) fun _ => h) fun _ => hs
  | playEnd =>
    have h := State.endVoice_sound _ .ended (State.playToEnd_sound s hs)
    exact sound_stable.finish (iteInduction (fun _ => iteInduction
      (fun _ => State.autoPlayEnded_sound _ (State.autoChannel_sound _ h)) fun _ => h) fun _ => hs)
  | remoteInactivityExpiry =>
    refine sound_stable.finish ?_
    split
    · exact hs
    · next t ht =>
      have h := State.takeT2_sound hs ht
      split
      · exact h
      · exact iteInduction (fun _ => h) fun _ => iteInduction (fun _ => State.reportEnd_sound _ _ h) fun _ =>
          State.startBeep_sound _ h
  | retrainStableExpiry =>
    refine sound_stable.finish ?_
    split
    · next t ht =>
      have h := State.takeT2_sound hs ht
      exact iteInduction (fun _ => h) fun _ => h
    · exact hs
  | faxPageStallExpiry | faxNextDecisionExpiry =>
    refine sound_stable.finish ?_
    split
    · next t ht =>
      have h := State.takeT2_sound hs ht
      exact iteInduction (fun _ => State.reportEnd_sound _ _ h) fun _ => h
    · exact hs
  | faxControlReplyExpiry =>
    refine sound_stable.finish ?_
    split
    · exact hs
    · next t ht =>
      have h := State.takeT2_sound hs ht
      exact iteInduction (fun _ => State.faxWait_sound _ (State.faxRepeat_sound _ h)) fun _ => State.reportEnd_sound _ _ h
  | linkReqTimerExpiry =>
    refine sound_stable.finish (iteInduction (fun _ => ?_) fun _ => hs)
    split
    · exact hs
    · next t ht =>
      have h := State.takeT3_sound hs ht
      exact iteInduction (fun _ => State.loadReq_sound _ h) fun _ => iteInduction (fun _ => State.reportEnd_sound _ _ h)
        fun _ => State.enterDirect_sound _ h
  | linkTimerExpiry =>
    refine sound_stable.finish (iteInduction (fun _ => ?_) fun _ => hs)
    split
    · exact hs
    · next t ht =>
      have h := State.takeT3_sound hs ht
      exact iteInduction (fun _ => State.resendWindow_sound _ h) fun _ =>
        iteInduction (fun _ => State.reportEnd_sound _ _ h) fun _ => State.resendWindow_sound _ h
  | clearingWaitExpiry =>
    refine sound_stable.finish (iteInduction (fun _ => ?_) fun _ => hs)
    split
    · next t ht => exact State.callEnd_sound _ _ (State.takeT3_sound hs ht)
    · exact hs
  | setReceived rung resolution scanMs =>
    have h := State.faxHear_sound s hs
    dsimp only [exec, execSetReceived]
    split
    · exact sound_stable.finish hs
    · exact sound_stable.finish (iteInduction (fun _ => iteInduction (fun _ => State.takeSet_sound _ _ _ _ h)
        fun _ => iteInduction (fun _ => State.faxResend_sound _ h) fun _ => h) fun _ => h)
  | pageEndReceived more =>
    have h := State.faxHear_sound s hs
    dsimp only [exec, execPageEndReceived]
    split
    · exact sound_stable.finish hs
    · exact sound_stable.finish (iteInduction (fun _ => iteInduction (fun _ => State.judgePage_sound _ _ h)
        fun _ => iteInduction (fun _ => State.faxResend_sound _ h) fun _ => h) fun _ => h)
  | checkOkReceived =>
    have h := State.faxHear_sound s hs
    exact sound_stable.finish (iteInduction (fun _ => State.faxSendPage_sound _ (State.faxAnswered_sound _ h)) fun _ => h)
  | checkFailReceived =>
    have h := State.faxHear_sound s hs
    exact sound_stable.finish (iteInduction (fun _ => State.checkStepDown_sound _ (State.faxAnswered_sound _ h)) fun _ => h)
  | faxPageByteReceived b =>
    refine sound_stable.finish (iteInduction (fun _ => ?_) fun _ => hs)
    have h := State.faxStoreByte_sound s b hs
    split
    · next t ht => exact State.faxFollowMarks_sound _ _ (ht ▸ h :)
    · next t ht => exact State.reportEnd_sound _ _ (State.faxTrimPage_sound _ (ht ▸ h :))
  | pageOkReceived =>
    have h := State.faxHear_sound s hs
    have hp := State.pageAccepted_sound _ h
    exact sound_stable.finish (iteInduction (fun _ => iteInduction (fun _ => State.faxSendPage_sound _ hp) fun _ =>
      State.faxTo_sound _ _ (State.faxSend_sound _ _ _ hp)) fun _ => h)
  | pageBadReceived =>
    have h := State.faxHear_sound s hs
    have hr := State.raiseHolder_sound _ .faxPage (State.faxAnswered_sound _ h)
    exact sound_stable.finish (iteInduction (fun _ => iteInduction (fun _ => State.reportEnd_sound _ _ hr) fun _ =>
      State.resendPage_sound _ hr) fun _ => h)
  | refuseReceived =>
    have h := State.faxHear_sound s hs
    exact sound_stable.finish (iteInduction (fun _ => State.reportEnd_sound _ _ (State.pageAccepted_sound _ h)) fun _ => h)
  | doneReceived =>
    have h := State.faxHear_sound s hs
    have ha := State.faxAnswered_sound _ h
    exact sound_stable.finish (iteInduction (fun _ => iteInduction (fun _ => State.reportEnd_sound _ _ ha) fun _ =>
      iteInduction (fun _ => State.faxFrame_sound _ _ ha) fun _ => h) fun _ => h)
  | recordingGranuleNeeded =>
    refine sound_stable.finish (iteInduction (fun _ => ?_) fun _ => hs)
    have h := State.allocate_sound s (s.voice.op.message.getD 0) hs
    split
    · next t ht => exact State.flushRecording_sound _ (ht ▸ h :)
    · next t ht => exact State.recordingOver_sound _ _ (ht ▸ h :)
  | _ =>
    refine sound_stable.finish ?_
    repeat' (split <;> try dsimp only)
    all_goals simp [State.sound_mk, State.sound_fold, hs,
      State.afterReply_sound, State.answerClear_sound,
      State.beginTraining_sound, State.burstQualified_sound, State.busyAnswer_sound,
      State.callEnd_sound, State.callerByte_sound,
      State.dataEntry_sound, State.diallerB_sound, State.discardFrame_sound,
      State.enterData_sound, State.enterLinked_sound,
      State.escapeExpiry_sound,
      State.faxHear_sound, State.faxReceivePage_sound,
      State.faxResend_sound, State.faxSendByte_sound, State.faxSend_sound,
      State.faxTo_sound,
      State.fillFifo_sound, State.generatorB_sound,
      State.hangUpHeld_sound, State.inboundLeaves_sound, State.judgeDone_sound,
      State.judgeHandshake_sound, State.lineSamples_sound,
      State.loadT2_sound, State.micSamples_sound, State.panelRead_sound,
      State.pickup_sound, State.playTick_sound, State.presenceEnd_sound,
      State.presenceStart_sound, State.rateChangeEntry_sound,
      State.reachDue_sound, State.recordingOver_sound, State.reportEnd_sound,
      State.retrainEntry_sound, State.sendDirect_sound,
      State.sendLinked_sound, State.send_sound, State.setDeadlines_sound,
      State.settleCapture_sound, State.stopT3_sound,
      State.t0HalfEnds_sound, State.takeCaps_sound, State.takeReport_sound,
      State.trainingFailed_sound, State.withdraw_sound]

/-- Settles O2: a step with a command in front is its row, which keeps a sound state sound. -/
theorem stepKeepsSound : Obligations.StepKeepsSound := by
  intro s t hs hstep
  cases hq : s.pending with
  | nil =>
    rw [step, hq] at hstep
    cases hstep
    exact hs
  | cons c rest =>
    obtain ⟨u, hu, hsound⟩ := exec_sound c (s := { s with pending := rest }) hs
    rw [step, hq] at hstep
    cases hu.symm.trans hstep
    exact hsound

end Sys2Proof.Machine
end

section
/-! PROOFS. The line state and the Call Record go together (R1, R2, R42): the operations that change either. -/

namespace Sys2Proof.Machine

/-- What leaves the line state, the activity of the Call Record, the relay and the item in hand keeps them together. -/
theorem State.LineSound.congr {s t : State} (h : s.LineSound)
    (hsame : t.ccu.line = s.ccu.line ∧ t.ccu.call.active = s.ccu.call.active ∧
      t.lif.relayClosed = s.lif.relayClosed ∧ t.ccu.dialler.item = s.ccu.dialler.item) : t.LineSound := by
  obtain ⟨hline, hactive, hrelay, hitem⟩ := hsame
  exact ⟨by rw [hactive, hline, h.together], by rw [hrelay, hactive]; exact h.relay, by rw [hitem, hline]; exact h.dialler⟩

/-- R42: outside DIALING the Dialler has no item in hand. -/
theorem State.LineSound.item_none {s : State} (h : s.LineSound) (hline : s.ccu.line ≠ .dialing) :
    s.ccu.dialler.item = .none :=
  Decidable.not_not.1 fun hitem => hline (h.dialler hitem)

/-- R1: where no call is active, the relay is open. -/
theorem State.LineSound.relay_open {s : State} (h : s.LineSound) (hcall : s.ccu.call.active = false) :
    s.lif.relayClosed = false := by
  cases hr : s.lif.relayClosed with
  | false => rfl
  | true => exact absurd (h.relay hr) (by simp [hcall])

/-- R1: outside the off-hook states no call is active. -/
theorem State.LineSound.not_active {s : State} (h : s.LineSound) (hline : s.ccu.line.offHook = false) :
    s.ccu.call.active = false := h.together.trans hline

/-! ### The end of a call (R18) -/

/-- R42: the stop of a job's engines stops the item in hand. -/
theorem State.stopEngines_item (s : State) : s.stopEngines.ccu.dialler.item = .none := by
  unfold State.stopEngines
  dsimp only
  repeat' split
  all_goals simp

/-- R18: what the end of an active call leaves of the line. -/
theorem State.callEnd_line {s : State} (hactive : s.ccu.call.active = true) (c : Cause) :
    (s.callEnd c).ccu.line = .releasing ∧ (s.callEnd c).ccu.call.active = false ∧
      (s.callEnd c).lif.relayClosed = false ∧ (s.callEnd c).ccu.dialler.item = .none := by
  simp [State.callEnd, hactive, State.openRelay, State.stopEngines_item]

theorem State.callEnd_lineSound {s : State} (h : s.LineSound) (c : Cause) : (s.callEnd c).LineSound := by
  by_cases hactive : s.ccu.call.active = true
  · obtain ⟨hline, hcall, hrelay, hitem⟩ := State.callEnd_line hactive c
    exact ⟨by rw [hcall, hline]; rfl, by rw [hrelay]; nofun, fun hi => absurd hitem hi⟩
  · simpa [State.callEnd, hactive] using h

theorem State.reportEnd_lineSound {s : State} (h : s.LineSound) (c : Cause) : (s.reportEnd c).LineSound :=
  iteInduction (fun _ => State.callEnd_lineSound h c) fun _ => h

/-! ### Line states -/

@[simp] theorem State.lineTo_line (s : State) (l : LineState) : (s.lineTo l).ccu.line = l := by
  unfold State.lineTo
  split
  · assumption
  · simp

/-- R1: a change between off-hook states of a call with no item in hand. -/
theorem State.LineSound.lineTo {s : State} (h : s.LineSound) {l : LineState} (hl : l.offHook = s.ccu.line.offHook)
    (hitem : s.ccu.dialler.item = .none) : (s.lineTo l).LineSound :=
  ⟨by simp [h.together, hl], by simpa using h.relay, by simp [hitem]⟩

/-- R1, R2: a line on hook, with the relay open and no item in hand. -/
theorem State.LineSound.onHook {s : State} (hline : s.ccu.line.offHook = false) (hcall : s.ccu.call.active = false)
    (hrelay : s.lif.relayClosed = false) (hitem : s.ccu.dialler.item = .none) : s.LineSound :=
  ⟨hcall.trans hline.symm, by simp [hrelay], by simp [hitem]⟩

/-- R1, R2: a line off hook whose call is active, with no item in hand. -/
theorem State.LineSound.offHook {s : State} (hline : s.ccu.line.offHook = true) (hcall : s.ccu.call.active = true)
    (hitem : s.ccu.dialler.item = .none) : s.LineSound :=
  ⟨hcall.trans hline.symm, fun _ => hcall, by simp [hitem]⟩

/-! ### The seizure of the line (R3, R12) -/

/-- R3: a line with no item in hand is seized. -/
theorem State.seize_lineSound {s : State} (hitem : s.ccu.dialler.item = .none) (m : Port) (l : List DialItem) (j : Job)
    (blind : Bool) : (s.seize m l j blind).LineSound :=
  .offHook (by simp [State.seize, LineState.offHook]) (by simp [State.seize, State.activate]) (by simp [hitem])

theorem State.serveQueue_lineSound {s t : State} (hitem : s.ccu.dialler.item = .none) (ht : s.serveQueue = some t) :
    t.LineSound := by
  unfold State.serveQueue at ht
  split at ht
  · split at ht
    · cases ht
    · cases ht
      exact State.seize_lineSound (by simpa using hitem) _ _ _ _
  · cases ht

/-- R5, R6: from a line on hook, the line becomes free. -/
theorem State.lineFree_lineSound {s : State} (h : s.LineSound) (hline : s.ccu.line.offHook = false) :
    s.lineFree.LineSound := by
  have hitem : s.ccu.dialler.item = .none := h.item_none (by rintro hd; simp [hd, LineState.offHook] at hline)
  unfold State.lineFree
  cases hq : s.serveQueue with
  | none => exact h.lineTo (by simp [hline]; rfl) hitem
  | some t => exact State.serveQueue_lineSound hitem hq

theorem State.guardEnds_lineSound {s : State} (h : s.LineSound) (hline : s.ccu.line = .releasing) :
    s.guardEnds.LineSound := by
  have hitem := h.item_none (by simp [hline])
  exact iteInduction (fun _ => h.lineTo (by simp [hline]; rfl) hitem) fun _ =>
    iteInduction (fun _ => h.lineTo (by simp [hline]; rfl) hitem) fun _ =>
      State.lineFree_lineSound h (by simp [hline, LineState.offHook])

/-! ### The Dialler (R42 to R46) -/

/-- R42: an item starts in DIALING. -/
theorem State.startItem_lineSound {s : State} (h : s.LineSound) (hline : s.ccu.line = .dialing) (i : DialItem) :
    (s.startItem i).LineSound := by
  have hactive : (s.startItem i).ccu.call.active = true := by simp [h.together, hline, LineState.offHook]
  have hdialing : (s.startItem i).ccu.line = .dialing := by simp [hline]
  exact ⟨by rw [hactive, hdialing]; rfl, fun _ => hactive, fun _ => hdialing⟩

theorem State.dialOn_lineSound {s : State} (h : s.LineSound) (hline : s.ccu.line = .dialing) : s.dialOn.LineSound := by
  unfold State.dialOn
  split
  · exact State.startItem_lineSound h hline _
  · exact .offHook (by simp [State.enterProgress, LineState.offHook])
      (by simp [State.enterProgress, h.together, hline, LineState.offHook]) (by simp [State.enterProgress])

theorem State.itemComplete_lineSound {s : State} (h : s.LineSound) (hline : s.ccu.line = .dialing) :
    s.itemComplete.LineSound :=
  State.dialOn_lineSound (s := { s with ccu.dialler.cursor := s.ccu.dialler.cursor + 1 }) ⟨h.together, h.relay, h.dialler⟩
    hline

theorem State.enterDialing_lineSound {s : State} (h : s.LineSound) (hline : s.ccu.line = .seizing) :
    s.enterDialing.LineSound :=
  State.dialOn_lineSound (.offHook (by simp [LineState.offHook])
    (by simp [h.together, hline, LineState.offHook]) (by simp [Dialler.reset])) (by simp)

theorem State.dialToneHeard_lineSound {s : State} (h : s.LineSound) : s.dialToneHeard.LineSound := by
  have hstop : State.LineSound { s.stopT2 with tone.classifier := .zero } := h.congr (by simp)
  unfold State.dialToneHeard
  split
  · next hw => exact State.enterDialing_lineSound hstop (by simp [hw.1])
  · split
    · next hw => exact State.itemComplete_lineSound hstop (by simp [hw.1])
    · exact h

theorem State.pulseB_lineSound {s : State} (h : s.LineSound) (hline : s.ccu.line = .dialing) : s.pulseB.LineSound := by
  have hended : State.LineSound { s with ccu.dialler.breaksEnded := s.ccu.dialler.breaksEnded + 1 } := h.congr (by simp)
  unfold State.pulseB
  dsimp only
  split
  · exact State.itemComplete_lineSound hended hline
  · split
    · split
      · exact h.congr (by simp [Lif.openForBreak, Lif.suspend])
      · exact h.congr (by simp [Lif.openForBreak, Lif.suspend])
    · exact h.congr (by simp [Lif.openForBreak, Lif.suspend])

theorem State.diallerB_lineSound {s : State} (h : s.LineSound) : s.diallerB.LineSound := by
  have hline (hitem : s.ccu.dialler.item ≠ .none) := h.dialler hitem
  unfold State.diallerB
  split
  · next hi => exact State.pulseB_lineSound h (hline (by simp [hi]))
  · next hi =>
      exact State.itemComplete_lineSound (s := { s with tone.generator := .idle })
        (h.congr (by simp)) (hline (by simp [hi]))
  · next hi => exact State.itemComplete_lineSound h (hline (by simp [hi]))
  · exact h

/-! ### The jobs of a connected call (R4, R56, R112, R132) -/

theorem State.faxSendCaps_lineSound {s : State} (h : s.LineSound) : s.faxSendCaps.LineSound :=
  iteInduction (fun _ => State.reportEnd_lineSound h _) fun _ => h.congr (by simp)

theorem State.faxStartReceiver_lineSound {s : State} (h : s.LineSound) : s.faxStartReceiver.LineSound := by
  have hcreate : (s.create .faxIn none true).1.LineSound := h.congr (by simp)
  unfold State.faxStartReceiver
  split
  · split
    · next t ht => exact State.reportEnd_lineSound (ht ▸ hcreate :) _
    · next t id ht =>
      have ht : t.LineSound := (ht ▸ hcreate :)
      exact State.faxSendCaps_lineSound (ht.congr (by simp))
  · exact State.faxSendCaps_lineSound h

theorem State.faxStart_lineSound {s : State} (h : s.LineSound) : s.faxStart.LineSound :=
  iteInduction (fun _ => State.faxStartReceiver_lineSound (h.congr (by simp)))
    fun _ => iteInduction (fun _ => State.reportEnd_lineSound (h.congr (by simp)) _) fun _ => h.congr (by simp [State.faxWait])

theorem State.pumpStart_lineSound {s : State} (h : s.LineSound) (r : PumpRole) : (s.pumpStart r).LineSound := h.congr (by simp)

/-- R56: a call with no item in hand is connected. -/
theorem State.connectCall_lineSound {s : State} (h : s.LineSound) (hactive : s.ccu.call.active = true)
    (hitem : s.ccu.dialler.item = .none) : s.connectCall.LineSound := by
  have hconnected (u : State) (hu : u.ccu.call.active = true ∧ u.ccu.dialler.item = .none) :
      (u.lineTo .connected).LineSound :=
    .offHook (by simp [LineState.offHook]) (by simp [hu.1]) (by simp [hu.2])
  have hl := hconnected { s.stopT2 with tone.answer := .zero, tone.classifier := .zero, tone.voiceBlocks := 0,
                                        tone.dtmf := .zero } (by simp [hactive, hitem])
  unfold State.connectCall
  dsimp only
  split
  · exact State.pumpStart_lineSound hl _
  · exact State.faxStart_lineSound hl
  · exact hl

/-- R56: a fax call in PROGRESS, which has no item in hand, is connected by what it hears. -/
theorem State.faxHear_lineSound {s : State} (h : s.LineSound) : s.faxHear.LineSound :=
  iteInduction (fun hc => State.connectCall_lineSound h hc.1 (h.item_none (by simp [hc.2.2]))) fun _ => h

/-! ### The Data Pump's and the Fax Engine's ends (R102 to R112, R136 to R142) -/

theorem State.trainingFailed_lineSound {s : State} (h : s.LineSound) : s.trainingFailed.LineSound :=
  iteInduction (fun _ => h.congr (by simp)) fun _ => State.reportEnd_lineSound h _

theorem State.retrainEntry_lineSound {s : State} (h : s.LineSound) (b : Bool) : (s.retrainEntry b).LineSound := by
  unfold State.retrainEntry
  dsimp only
  repeat' split
  · exact State.reportEnd_lineSound h _
  all_goals exact h.congr (by simp)

theorem State.rateDecision_lineSound {s : State} (h : s.LineSound) (r : WindowReport) : (s.rateDecision r).LineSound := by
  unfold State.rateDecision
  dsimp only
  repeat' split
  · exact State.retrainEntry_lineSound h _
  · exact h.congr (by simp)
  · exact State.retrainEntry_lineSound (h.congr (by simp)) _
  · exact h.congr (by simp)
  · exact h.congr (by simp)

theorem State.takeReport_lineSound {s : State} (h : s.LineSound) (r : WindowReport) : (s.takeReport r).LineSound := by
  have hraised : State.LineSound (if r.overloaded = true then s.raiseHolder .qualityAlert else s) :=
    iteInduction (fun _ => h.congr (by simp)) fun _ => h
  unfold State.takeReport
  dsimp only
  split
  · exact iteInduction (fun _ => State.rateDecision_lineSound (hraised.congr (by simp)) r) fun _ => hraised.congr (by simp)
  · exact hraised.congr (by simp)
  · exact hraised.congr (by simp)

theorem State.takeCaps_lineSound {s : State} (h : s.LineSound) (a b c : Byte) : (s.takeCaps a b c).LineSound :=
  iteInduction (fun _ => State.reportEnd_lineSound (h.congr (by simp)) _) fun _ => h.congr (by simp)

theorem State.checkStepDown_lineSound {s : State} (h : s.LineSound) : s.checkStepDown.LineSound :=
  iteInduction (fun _ => State.reportEnd_lineSound h _) fun _ => h.congr (by simp)

theorem State.faxSendPage_lineSound {s : State} (h : s.LineSound) : s.faxSendPage.LineSound :=
  iteInduction (fun _ => iteInduction (fun _ => h.congr (by simp))
    fun _ => State.reportEnd_lineSound (h.congr (by simp)) _) fun _ => h.congr (by simp)

/-! ### The automatic answerer (R76 to R82, R159 to R161) -/

theorem State.faxHandOver_lineSound {s : State} (h : s.LineSound) (p : Party) : (s.faxHandOver p).LineSound :=
  State.faxStart_lineSound (h.congr (by simp))

theorem State.faxBranch_lineSound {s : State} (h : s.LineSound) : s.faxBranch.LineSound :=
  iteInduction (fun _ => State.faxHandOver_lineSound (h.congr (by simp)) _) fun _ =>
    iteInduction (fun _ => State.faxHandOver_lineSound (h.congr (by simp)) _)
      fun _ => State.reportEnd_lineSound (h.congr (by simp)) _

theorem State.dataBranch_lineSound {s : State} (h : s.LineSound) : s.dataBranch.LineSound :=
  iteInduction (fun _ => h.congr (by simp)) fun _ => State.reportEnd_lineSound (h.congr (by simp)) _

theorem State.greetingEnd_lineSound {s : State} (h : s.LineSound) : s.greetingEnd.LineSound :=
  iteInduction (fun _ => h.congr (by simp)) fun _ => iteInduction (fun _ => State.faxBranch_lineSound h) fun _ =>
    State.reportEnd_lineSound h _

theorem State.startGreeting_lineSound {s : State} (h : s.LineSound) : s.startGreeting.LineSound := by
  unfold State.startGreeting
  dsimp only
  split
  · exact h.congr (by simp)
  · exact State.greetingEnd_lineSound (h.congr (by simp))

theorem State.recordingDecision_lineSound {s : State} (h : s.LineSound) (kept : Bool) :
    (s.recordingDecision kept).LineSound :=
  iteInduction (fun _ => iteInduction (fun _ => State.faxBranch_lineSound h) fun _ => State.reportEnd_lineSound h _)
    fun _ => State.reportEnd_lineSound h _

theorem State.startRecording_lineSound {s : State} (h : s.LineSound) : s.startRecording.LineSound := by
  have hstart : ((s.discrTo .recording).startRecord .auto .voiceMsg none .line true s.settings.maxMessageS).1.LineSound :=
    h.congr (by simp)
  unfold State.startRecording
  split
  · next t ht => exact (ht ▸ hstart :)
  · next t ht =>
    have ht : t.LineSound := (ht ▸ hstart :)
    exact State.recordingDecision_lineSound (ht.congr (by simp)) _

theorem State.recordingOver_lineSound {s : State} (h : s.LineSound) (r : VoiceReason) : (s.recordingOver r).LineSound :=
  iteInduction (fun _ => State.recordingDecision_lineSound (h.congr (by simp)) _) fun _ => h.congr (by simp)

theorem State.codeDigit_lineSound {s : State} (h : s.LineSound) (x : Symbol) : (s.codeDigit x).LineSound := by
  unfold State.codeDigit
  dsimp only
  repeat' split
  · exact h
  · exact h
  · exact h.congr (by simp)
  · exact h.congr (by simp)
  · exact State.reportEnd_lineSound (h.congr (by simp)) _
  · exact h.congr (by simp)
  · exact h.congr (by simp)

theorem State.remoteDigit_lineSound {s : State} (h : s.LineSound) (x : Symbol) : (s.remoteDigit x).LineSound := by
  unfold State.remoteDigit
  split
  · exact h
  · split
    · exact h.congr (by simp)
    · exact h.congr (by simp)
    · exact iteInduction (fun _ => h.congr (by simp)) fun _ => h
    · exact iteInduction (fun _ => h.congr (by simp)) fun _ => h
    · exact iteInduction (fun _ => h.congr (by simp)) fun _ => h
    · exact State.reportEnd_lineSound h _
    · exact h

theorem State.startJob_lineSound {s : State} (h : s.LineSound) (j : Job) : (s.startJob j).LineSound := by
  unfold State.startJob
  split
  · exact State.pumpStart_lineSound h _
  · exact State.faxStart_lineSound h
  · exact State.startGreeting_lineSound h
  · exact h

/-- R4, R68: an answer is taken from a line with no item in hand. -/
theorem State.answerTaken_lineSound {s : State} (hitem : s.ccu.dialler.item = .none) (p : Party) (j : Job) :
    (s.answerTaken p j).LineSound :=
  State.startJob_lineSound (.offHook (by simp [LineState.offHook]) (by simp [State.activate]) (by simp [hitem])) j

theorem State.autoPlayEnded_lineSound {s : State} (h : s.LineSound) : s.autoPlayEnded.LineSound := by
  unfold State.autoPlayEnded
  split
  · exact State.greetingEnd_lineSound h
  · exact h.congr (by simp)
  · exact h

/-! ### Ringing (R66 to R68, R74, R75) -/

theorem State.policyAnswer_lineSound {s : State} (h : s.LineSound) (hline : s.ccu.line = .ringing) (a : AnswerAction) :
    (s.policyAnswer a).LineSound := by
  have hitem := h.item_none (by simp [hline])
  unfold State.policyAnswer
  split
  · exact h
  · exact State.answerTaken_lineSound hitem _ _
  · exact iteInduction (fun _ => State.answerTaken_lineSound hitem _ _) fun _ => h
  · exact iteInduction (fun _ => State.answerTaken_lineSound hitem _ _) fun _ =>
      iteInduction (fun _ => State.answerTaken_lineSound hitem _ _) fun _ => h

theorem State.answerDecision_lineSound {s : State} (h : s.LineSound) : s.answerDecision.LineSound := by
  have hnoted : State.LineSound { s with rau.episode.threshold := some s.threshold } := h.congr (by simp)
  exact iteInduction (fun hm => State.policyAnswer_lineSound hnoted hm.2.1 _) fun _ => hnoted

theorem State.cycleEnds_lineSound {s : State} (h : s.LineSound) : s.cycleEnds.LineSound :=
  iteInduction (fun _ => State.answerDecision_lineSound (h.congr (by simp))) fun _ => h

theorem State.episodeEnds_lineSound {s : State} (h : s.LineSound) : s.episodeEnds.LineSound :=
  iteInduction (fun _ => iteInduction
    (fun hr => State.lineFree_lineSound (h.congr (by simp [State.setDeadlines])) (by rw [hr]; rfl))
    fun _ => h.congr (by simp [State.setDeadlines])) fun _ => h

theorem State.episodeStart_lineSound {s : State} (h : s.LineSound) : s.episodeStart.LineSound :=
  iteInduction (fun hidle => State.LineSound.lineTo (h.congr (by simp)) (by rw [hidle]; rfl)
    (h.item_none (by simp [show s.ccu.line = .idle from hidle])))
    fun _ => h.congr (by simp)

theorem State.burstQualified_lineSound {s : State} (h : s.LineSound) : s.burstQualified.LineSound :=
  iteInduction (fun _ => h.congr (by simp)) fun _ => iteInduction (fun _ => h) fun _ => State.episodeStart_lineSound h

theorem State.setDeadlines_lineSound {s : State} (h : s.LineSound) (d : Deadlines) : (s.setDeadlines d).LineSound :=
  h.congr (by simp)

theorem State.presenceDiscarded_lineSound {s : State} (h : s.LineSound) : s.presenceDiscarded.LineSound := by
  have hd := State.setDeadlines_lineSound h
    { s.rau.deadlines with qualify := none, heldCycleEnd := false, heldEpisodeEnd := false }
  unfold State.presenceDiscarded
  dsimp only
  repeat' split
  · exact State.episodeEnds_lineSound (State.cycleEnds_lineSound hd)
  · exact State.episodeEnds_lineSound hd
  · exact State.cycleEnds_lineSound hd
  · exact hd

theorem State.presenceEnd_lineSound {s : State} (h : s.LineSound) : s.presenceEnd.LineSound := by
  have he : State.LineSound { s with timers.e1 := s.timers.e1.capture .deasserted, rau.presence := .none } := h.congr (by simp)
  unfold State.presenceEnd
  dsimp only
  split
  · split
    · exact he
    · exact State.presenceDiscarded_lineSound he
    · exact State.setDeadlines_lineSound he _
  · exact h

/-! ### Blocks (R49 to R59) -/

theorem State.classified_lineSound {s : State} (h : s.LineSound) (c : CadenceClass) : (s.classified c).LineSound := by
  unfold State.classified
  split
  · split
    · exact State.reportEnd_lineSound h _
    · exact State.reportEnd_lineSound h _
    · exact h.congr (by simp)
    · exact h
  · exact iteInduction (fun _ => State.dialToneHeard_lineSound h) fun _ => h

theorem State.classifierBlock_lineSound {s : State} (h : s.LineSound) (b : ToneBlock) : (s.classifierBlock b).LineSound := by
  unfold State.classifierBlock
  dsimp only
  repeat' split
  · exact State.classified_lineSound (h.congr (by simp)) _
  · exact h.congr (by simp)
  · exact h

/-- R3: a call in PROGRESS is connected. -/
theorem State.connectCall_of_progress {s : State} (h : s.LineSound) (hline : s.ccu.line = .progress) :
    s.connectCall.LineSound :=
  State.connectCall_lineSound h (by simp [h.together, hline, LineState.offHook]) (h.item_none (by simp [hline]))

theorem State.answerBlock_lineSound {s : State} (h : s.LineSound) (b : ToneBlock) : (s.answerBlock b).LineSound :=
  iteInduction (fun ha => iteInduction
    (fun _ => State.connectCall_of_progress (h.congr (by simp)) ha.1) fun _ => h.congr (by simp)) fun _ => h

theorem State.voiceBlock_lineSound {s : State} (h : s.LineSound) (b : ToneBlock) : (s.voiceBlock b).LineSound :=
  iteInduction (fun ha => iteInduction (fun _ => iteInduction (fun _ => State.connectCall_of_progress (h.congr (by simp)) ha.1)
    fun _ => h.congr (by simp)) fun _ => h.congr (by simp)) fun _ => h

theorem State.faxCallBlock_lineSound {s : State} (h : s.LineSound) (b : ToneBlock) : (s.faxCallBlock b).LineSound :=
  iteInduction (fun _ => iteInduction
    (fun _ => State.faxBranch_lineSound (h.congr (by simp))) fun _ => h.congr (by simp)) fun _ => h

theorem State.dataCallBlock_lineSound {s : State} (h : s.LineSound) (b : ToneBlock) : (s.dataCallBlock b).LineSound :=
  iteInduction (fun _ => iteInduction
    (fun _ => State.dataBranch_lineSound (h.congr (by simp))) fun _ => h.congr (by simp)) fun _ => h

theorem State.routeDigit_lineSound {s : State} (h : s.LineSound) (x : Symbol) : (s.routeDigit x).LineSound := by
  unfold State.routeDigit
  split
  · exact State.codeDigit_lineSound h x
  · exact State.remoteDigit_lineSound h x
  · exact h.congr (by simp)
  · exact h.congr (by simp)
  · exact h

theorem State.dtmfBlock_lineSound {s : State} (h : s.LineSound) (b : ToneBlock) : (s.dtmfBlock b).LineSound := by
  unfold State.dtmfBlock
  dsimp only
  repeat' split
  · exact h.congr (by simp)
  · exact State.routeDigit_lineSound (h.congr (by simp)) _
  · exact h.congr (by simp)
  · exact h

theorem State.toneBlock_lineSound {s : State} (h : s.LineSound) (b : ToneBlock) : (s.toneBlock b).LineSound := by
  have hc := State.classifierBlock_lineSound h b
  unfold State.toneBlock
  dsimp only
  repeat' split
  · exact State.dtmfBlock_lineSound (State.dataCallBlock_lineSound (State.faxCallBlock_lineSound h b) b) b
  · exact State.voiceBlock_lineSound (State.answerBlock_lineSound hc b) b
  · exact State.voiceBlock_lineSound hc b
  · exact State.answerBlock_lineSound hc b
  · exact hc

theorem State.lineBlock_lineSound {s : State} (h : s.LineSound) (b : LineBlock) : (s.lineBlock b).LineSound := by
  have hp : ((s.blockRestarts .line b.level).countHeard b.level).blankPasses.LineSound := h.congr (by simp)
  unfold State.lineBlock
  dsimp only
  split
  · exact State.toneBlock_lineSound hp _
  · exact hp

theorem State.lineSamples_lineSound {s : State} (h : s.LineSound) (xs : List Sample) (bs : List (List Sample)) :
    (s.lineSamples xs bs).LineSound := by
  unfold State.lineSamples
  dsimp only
  split
  · exact State.lineBlock_lineSound (h.congr (by simp)) _
  · exact h.congr (by simp)

/-! ### The masters and the power (R14 to R16, R21, R22, R57) -/

theorem State.hangUpHeld_lineSound {s : State} (h : s.LineSound) : s.hangUpHeld.LineSound := by
  unfold State.hangUpHeld
  repeat' split
  · exact h
  · exact h.congr (by simp)
  · exact h.congr (by simp)
  · exact State.callEnd_lineSound h _

theorem State.pickup_lineSound {s : State} (h : s.LineSound) : s.pickup.LineSound := by
  unfold State.pickup
  repeat' split
  · exact h
  · exact h
  · exact State.reportEnd_lineSound h _
  · exact State.reportEnd_lineSound h _
  · exact h.congr (by simp)

theorem State.portReset_lineSound {s : State} (h : s.LineSound) (p : Port) : (s.portReset p).LineSound := by
  have hw : (s.withdraw p).LineSound := h.congr (by simp)
  have hc : (s.resetClaims p).LineSound := iteInduction (fun _ => State.callEnd_lineSound hw _) fun _ => hw
  unfold State.portReset
  generalize s.resetClaims p = u at hc
  exact hc.congr (by simp)

theorem State.ccuPowerLow_lineSound {s : State} (h : s.LineSound) : s.ccuPowerLow.LineSound := by
  have hc : State.LineSound (State.callEnd { s with ccu.claims := [] } .powerLow) :=
    State.callEnd_lineSound (h.congr (by simp)) _
  have ha : (State.abandonEpisode (State.callEnd { s with ccu.claims := [] } .powerLow)).LineSound := hc.congr (by simp)
  exact iteInduction (fun hr => ha.lineTo (by rw [hr]; rfl) (ha.item_none (by rw [hr]; nofun))) fun _ => ha

theorem State.closeOut_lineSound {s : State} (h : s.LineSound) : s.closeOut.LineSound := by
  have hc := State.ccuPowerLow_lineSound (s := { s with power.low := true }) (h.congr (by simp))
  unfold State.closeOut State.writeHeader
  dsimp only
  generalize State.ccuPowerLow _ = u at hc
  exact hc.congr (by simp)

theorem State.deviceReset_lineSound (s : State) (dram : DramSize) (rate : PortRate) :
    (s.deviceReset dram rate).LineSound := by
  unfold State.deviceReset
  dsimp only
  split <;> exact .onHook rfl rfl rfl rfl

/-! ### Commands -/

/-- The delivery of a notice and an answer leave the line and the call. -/
theorem lineSound_stable : Stable State.LineSound where
  deliver _ h := h.congr (by simp)
  send _ _ _ h := h.congr (by simp)

theorem State.stopDialler_item (s : State) : s.stopDialler.ccu.dialler.item = .none := by
  unfold State.stopDialler
  split <;> rfl

theorem State.stopDialler_relayClosed (s : State) : s.stopDialler.lif.relayClosed = s.lif.relayClosed := by
  unfold State.stopDialler
  dsimp only
  split
  · split <;> rfl
  · split <;> rfl
  · simp
  · rfl

theorem State.stopDialler_lineSound {s : State} (h : s.LineSound) : s.stopDialler.LineSound :=
  ⟨by simp [h.together], by simpa [State.stopDialler_relayClosed] using h.relay, fun hi => absurd s.stopDialler_item hi⟩

theorem takeDial_lineSound {s : State} (h : s.LineSound) (p : Port) (job flags : Byte) (items : List Byte) :
    (takeDial p job flags items s).1.LineSound := by
  unfold takeDial takeGoodDial
  split
  · split
    · next hidle => exact State.seize_lineSound (h.item_none (by simp [hidle.1])) _ _ _ _
    · exact iteInduction (motive := fun r : State × Reply => r.1.LineSound) (fun _ => h.congr (by simp)) fun _ => h
  · exact h

theorem takeAnswer_lineSound {s : State} (h : s.LineSound) (p : Port) (job : Byte) :
    (takeAnswer p job s).1.LineSound := by
  unfold takeAnswer takeGoodAnswer
  split
  · split
    · next hring =>
      split
      · exact h
      · exact State.answerTaken_lineSound (h.item_none (by simp [hring])) _ _
    · split <;> exact h
  · exact h

@[simp] theorem refuseClaim_state (s : State) (x : Status) : (refuseClaim s x).1 = s := rfl

theorem takeTakeCall_lineSound {s : State} (h : s.LineSound) (p : Port) : (takeTakeCall p s).1.LineSound := by
  unfold takeTakeCall
  repeat' split
  all_goals exact h.congr (by simp)

theorem withdrawOr_lineSound {s : State} (h : s.LineSound) (p : Port) (x : Status) :
    (withdrawOr p x s).1.LineSound := by
  unfold withdrawOr
  split
  · exact h.congr (by simp)
  · exact h

theorem takeHangUp_lineSound {s : State} (h : s.LineSound) (p : Port) : (takeHangUp p s).1.LineSound := by
  unfold takeHangUp
  split
  · exact withdrawOr_lineSound h _ _
  · exact State.callEnd_lineSound h _
  · split
    · exact State.hangUpHeld_lineSound h
    · exact withdrawOr_lineSound h _ _

theorem LineState.offHook_of_connectable {l : LineState} : l.connectable = true → l.offHook = true := by
  cases l <;> decide

theorem takeConnect_lineSound {s : State} (h : s.LineSound) (p : Port) : (takeConnect p s).1.LineSound := by
  unfold takeConnect
  split
  · exact h
  split
  · exact h
  split
  · exact h
  split
  · next hline =>
    have hactive : s.ccu.call.active = true := by
      rw [h.together]
      exact LineState.offHook_of_connectable hline
    exact State.connectCall_lineSound (State.stopDialler_lineSound h) (by simpa using hactive)
      (State.stopDialler_item _)
  · exact h

@[simp] theorem refuse_state (s : State) (x : Status) : (refuse s x).1 = s := rfl

theorem takeDelete_lineSound {s : State} (h : s.LineSound) (id : Byte) : (takeDelete id s).1.LineSound := by
  have hd : (s.deleteRule id.toNat).1.LineSound := h.congr (by simp)
  unfold takeDelete
  split
  · next ht => exact (ht ▸ hd :)
  · next ht => exact (ht ▸ hd :)
  · exact h
  · exact h

theorem takeOpenWrite_lineSound {s : State} (h : s.LineSound) (p : Port) (kind slot : Byte) :
    (takeOpenWrite p kind slot s).1.LineSound := by
  unfold takeOpenWrite
  split
  · next k _ =>
    have hc : (s.create k.1 k.2 false).1.LineSound := h.congr (by simp)
    unfold takeGoodOpenWrite
    split
    · exact h
    split
    · next ht => exact (ht ▸ hc :)
    · next ht => exact State.LineSound.congr (ht ▸ hc :) (by simp)
  · exact h

theorem takeWriteChunk_lineSound {s : State} (h : s.LineSound) (p : Port) (bytes : List Byte) :
    (takeWriteChunk p bytes s).1.LineSound := by
  unfold takeWriteChunk
  dsimp only
  split
  · exact h
  split
  · next id _ =>
    have hw : (State.writeBytes p id bytes s).1.LineSound := h.congr (by simp)
    split
    · exact h
    · exact hw
  · exact h

theorem voiceControl_lineSound {s : State} (h : s.LineSound) (p : Port) (localOnly : Bool) {act : State → State}
    (hact : (act s).LineSound) : (voiceControl p localOnly act s).1.LineSound := by
  unfold voiceControl
  split
  · exact h
  · exact hact

theorem State.takeT2_lineSound {s t : State} {use : T2Use} (h : s.LineSound) (ht : s.takeT2 use = some t) :
    t.LineSound := by
  obtain ⟨-, c, -, rfl⟩ := State.takeT2_eq_some.1 ht
  exact h.congr (by simp)

theorem State.takeT3_lineSound {s t : State} (h : s.LineSound) (ht : s.takeT3 = some t) : t.LineSound := by
  obtain ⟨c, -, rfl⟩ := State.takeT3_eq_some.1 ht
  exact h.congr (by simp)

theorem State.takeToneWait_lineSound {s t : State} (h : s.LineSound) (ht : s.takeToneWait = some t) : t.LineSound := by
  simp only [State.takeToneWait, Option.orElse_eq_orElse, Option.orElse_eq_or, Option.or_eq_some_iff] at ht
  rcases ht with ht | ⟨-, ht⟩ <;> exact State.takeT2_lineSound h ht

theorem State.reachDue_lineSound {s : State} (h : s.LineSound) (due : Nat) : (s.reachDue due).LineSound :=
  h.congr ⟨rfl, rfl, rfl, rfl⟩

/-! ### Events -/

@[simp] theorem Lif.tick_relayClosed (l : Lif) (inBreak : Bool) : (l.tick inBreak).relayClosed = l.relayClosed := by
  unfold Lif.tick Lif.suspensionTick
  split <;> rfl

theorem State.expiryFirst_lineSound {s : State} (h : s.LineSound) : s.expiryFirst.LineSound := by
  unfold State.expiryFirst
  split
  · exact h.congr (by simp)
  · exact h

theorem State.byteReceived_lineSound {s : State} (h : s.LineSound) (b : Byte) : (s.byteReceived b).LineSound := by
  unfold State.byteReceived State.portByte State.commandByte
  repeat' split
  all_goals exact h.congr (by simp)

theorem State.second_lineSound {s : State} (h : s.LineSound) : s.second.LineSound :=
  h.congr ⟨rfl, rfl, rfl, rfl⟩

theorem execTimerTick_lineSound {s : State} (hs : s.LineSound) :
    Answers (execTimerTick s) State.LineSound := by
  have h : State.LineSound { s with timers := Timers.tick s.timers, lif := s.lif.tick s.inBreak, sys.lateByte := false,
                                    sys.expiryTaken := false } := hs.congr (by simp)
  exact lineSound_stable.finish (h.congr (by simp))

theorem execReadyDeasserted_lineSound {s : State} (hs : s.LineSound) :
    Answers (execReadyDeasserted s) State.LineSound := by
  have h : State.LineSound (State.withdraw
    { s with
      sys := { s.sys with ready := false, goDataDue := false, assembler := [],
                          lastByte := if s.sys.data = true then s.sys.lastByte else false },
      ports.system.outgoing := [] } .system) := hs.congr (by simp)
  exact lineSound_stable.finish (iteInduction (fun _ => State.hangUpHeld_lineSound h) fun _ => h)

theorem execLineInUseRunExpiry_lineSound {s : State} (hs : s.LineSound) :
    Answers (execLineInUseRunExpiry s) State.LineSound := by
  have h : State.LineSound (State.raiseBoth { s with lif.lineInUse := s.lif.voltageBelow, lif.voltageRun := 0 }
    .lineAlert) := hs.congr (by simp)
  refine lineSound_stable.finish (iteInduction (fun _ => iteInduction (fun hfree => ?_) fun _ => h) fun _ => hs)
  generalize hq : State.serveQueue _ = q
  cases q with
  | none => exact h
  | some t => exact State.serveQueue_lineSound (h.item_none (by rw [hfree.2]; nofun)) hq

theorem execBadFrame_lineSound (p : Port) (bytes : List Byte) {s : State} (hs : s.LineSound) :
    Answers (execBadFrame p bytes s) State.LineSound := by
  refine lineSound_stable.finish (iteInduction (fun _ => ?_) fun _ => hs)
  have h : (s.discardFrame p).LineSound := by
    cases p
    exacts [hs.congr ⟨rfl, rfl, rfl, rfl⟩, hs]
  split
  · exact iteInduction (fun _ => lineSound_stable.send _ _ _ h) fun _ => hs
  · exact hs

theorem execBlockEvent_lineSound (path : AudioPath) (samples : List Sample) (bands : List (List Sample))
    {s : State} (hs : s.LineSound) :
    Answers (execBlockEvent path samples bands s) State.LineSound := by
  refine lineSound_stable.finish (iteInduction (fun _ => hs) fun _ => ?_)
  split
  · exact State.lineSamples_lineSound hs _ _
  · exact hs.congr (by simp)

theorem execT0AEvent_lineSound {s : State} (hs : s.LineSound) :
    Answers (execT0AEvent s) State.LineSound := by
  refine lineSound_stable.finish ?_
  split
  · exact hs
  · next c _ =>
    have h : State.LineSound { s with timers.e0 := c } := hs.congr (by simp)
    generalize State.mk .. = u at h ⊢
    unfold State.t0HalfEnds
    split
    · exact h.congr ⟨rfl, rfl, rfl, rfl⟩
    · exact h.congr ⟨rfl, rfl, rfl, rfl⟩
    · exact h

theorem execT0BEvent_lineSound {s : State} (hs : s.LineSound) :
    Answers (execT0BEvent s) State.LineSound := by
  refine lineSound_stable.finish ?_
  split
  · exact hs
  · next c _ =>
    have h : State.LineSound { s with timers.e0 := c } := hs.congr (by simp)
    dsimp only
    split
    · exact State.diallerB_lineSound h
    · exact h.congr (by simp)
    · exact h

theorem execSettleExpiry_lineSound {s : State} (hs : s.LineSound) :
    Answers (execSettleExpiry s) State.LineSound := by
  refine lineSound_stable.finish ?_
  split
  · exact hs
  · next t ht =>
    have h := State.takeT2_lineSound hs ht
    exact iteInduction (fun _ => h) fun hline => iteInduction
      (fun _ => State.enterDialing_lineSound h (Decidable.not_not.1 hline)) fun _ => h.congr (by simp)

theorem execDialToneWaitExpiry_lineSound {s : State} (hs : s.LineSound) :
    Answers (execDialToneWaitExpiry s) State.LineSound := by
  refine lineSound_stable.finish ?_
  split
  · exact hs
  · next t ht => exact State.reportEnd_lineSound (State.takeToneWait_lineSound hs ht) _

theorem execPauseItemExpiry_lineSound {s : State} (hs : s.LineSound) :
    Answers (execPauseItemExpiry s) State.LineSound := by
  refine lineSound_stable.finish ?_
  split
  · exact hs
  · next t ht =>
    have h := State.takeT2_lineSound hs ht
    exact iteInduction (fun hitem => State.itemComplete_lineSound h (h.dialler (by rw [hitem]; nofun))) fun _ => h

theorem execNoAnswerExpiry_lineSound {s : State} (hs : s.LineSound) :
    Answers (execNoAnswerExpiry s) State.LineSound := by
  refine lineSound_stable.finish ?_
  split
  · exact hs
  · next t ht =>
    have h := State.takeT2_lineSound hs ht
    exact iteInduction (fun _ => State.reportEnd_lineSound h _) fun _ => h

theorem execGuardExpiry_lineSound {s : State} (hs : s.LineSound) :
    Answers (execGuardExpiry s) State.LineSound := by
  refine lineSound_stable.finish ?_
  split
  · exact hs
  · next t ht =>
    have h := State.takeT2_lineSound hs ht
    exact iteInduction (fun hline => State.guardEnds_lineSound h hline) fun _ => h

theorem execQualifyDeadline_lineSound {s : State} (hs : s.LineSound) :
    Answers (execQualifyDeadline s) State.LineSound := by
  refine lineSound_stable.finish ?_
  split
  · exact hs
  · exact iteInduction (fun _ => State.burstQualified_lineSound (State.setDeadlines_lineSound (s :=
      { s.reachDue _ with rau.presence := .qualified }) (hs.congr ⟨rfl, rfl, rfl, rfl⟩) _)) fun _ => hs

theorem execWindowOpen_lineSound {s : State} (hs : s.LineSound) :
    Answers (execWindowOpen s) State.LineSound := by
  refine lineSound_stable.finish ?_
  split
  · exact hs
  · next due _ =>
    have h := State.setDeadlines_lineSound (State.reachDue_lineSound hs due)
      { (s.reachDue due).rau.deadlines with windowOpen := none }
    exact iteInduction (fun _ => h) fun _ => h.congr ⟨rfl, rfl, rfl, rfl⟩

theorem execCycleEnd_lineSound {s : State} (hs : s.LineSound) :
    Answers (execCycleEnd s) State.LineSound := by
  refine lineSound_stable.finish ?_
  split
  · exact hs
  · next due _ =>
    have h := State.setDeadlines_lineSound (State.reachDue_lineSound hs due)
      { (s.reachDue due).rau.deadlines with cycleEnd := none }
    exact iteInduction (fun _ => State.cycleEnds_lineSound h) fun _ =>
      iteInduction (fun _ => h.congr ⟨rfl, rfl, rfl, rfl⟩) fun _ => h

theorem execWindowClose_lineSound {s : State} (hs : s.LineSound) :
    Answers (execWindowClose s) State.LineSound := by
  refine lineSound_stable.finish ?_
  split
  · exact hs
  · next due _ =>
    exact (State.setDeadlines_lineSound (State.reachDue_lineSound hs due)
      { (s.reachDue due).rau.deadlines with windowClose := none }).congr (by simp)

theorem execEpisodeEnd_lineSound {s : State} (hs : s.LineSound) :
    Answers (execEpisodeEnd s) State.LineSound := by
  refine lineSound_stable.finish ?_
  split
  · exact hs
  · next due _ =>
    have h := State.setDeadlines_lineSound (State.reachDue_lineSound hs due)
      { (s.reachDue due).rau.deadlines with episodeEnd := none }
    exact iteInduction (fun _ => State.episodeEnds_lineSound h) fun _ =>
      iteInduction (fun _ => h.congr ⟨rfl, rfl, rfl, rfl⟩) fun _ => h

theorem execAutoBeepEnd_lineSound {s : State} (hs : s.LineSound) :
    Answers (execAutoBeepEnd s) State.LineSound := by
  have h : (s.endVoice .ended).1.LineSound := hs.congr (by simp)
  exact lineSound_stable.finish (iteInduction (fun _ => State.startRecording_lineSound (h.congr (by simp)))
    fun _ => hs)

theorem execPromptBeepEnd_lineSound {s : State} (hs : s.LineSound) :
    Answers (execPromptBeepEnd s) State.LineSound := by
  have h : (s.endVoice .ended).1.LineSound := hs.congr (by simp)
  refine lineSound_stable.finish ?_
  split
  · exact hs
  · exact iteInduction (fun _ => iteInduction (fun _ => h.congr (by simp))
      fun _ => h.congr (by simp)) fun _ => hs

theorem execPlayEnd_lineSound {s : State} (hs : s.LineSound) :
    Answers (execPlayEnd s) State.LineSound := by
  have h : (s.playToEnd.endVoice .ended).1.LineSound := hs.congr (by simp)
  exact lineSound_stable.finish (iteInduction (fun _ => iteInduction
    (fun _ => State.autoPlayEnded_lineSound (h.congr (by simp))) fun _ => h) fun _ => hs)

theorem execVoxExpiry_lineSound {s : State} (hs : s.LineSound) :
    Answers (execVoxExpiry s) State.LineSound := by
  refine lineSound_stable.finish ?_
  split
  · exact hs
  · next c _ =>
    have h : State.LineSound { s with timers.e6 := c } := hs.congr (by simp)
    exact iteInduction (fun _ => State.recordingOver_lineSound h _) fun _ => h

theorem execRecordingGranuleNeeded_lineSound {s : State} (hs : s.LineSound) :
    Answers (execRecordingGranuleNeeded s) State.LineSound := by
  have h : (s.allocate (s.voice.op.message.getD 0)).1.LineSound := hs.congr (by simp)
  refine lineSound_stable.finish (iteInduction (fun _ => ?_) fun _ => hs)
  split
  · next t ht => exact State.LineSound.congr (ht ▸ h :) (by simp)
  · next t ht => exact State.recordingOver_lineSound (ht ▸ h :) _

theorem execRemoteInactivityExpiry_lineSound {s : State} (hs : s.LineSound) :
    Answers (execRemoteInactivityExpiry s) State.LineSound := by
  refine lineSound_stable.finish ?_
  split
  · exact hs
  · next t ht =>
    have h := State.takeT2_lineSound hs ht
    split
    · exact h
    · next r _ =>
      have hp : State.LineSound { t with voice.remote := some { r with prompts := r.prompts + 1 } } := h.congr (by simp)
      exact iteInduction (fun _ => h) fun _ => iteInduction (fun _ => State.reportEnd_lineSound h _) fun _ => hp.congr (by simp)

theorem execFarEndRetrainRequest_lineSound {s : State} (hs : s.LineSound) :
    Answers (execFarEndRetrainRequest s) State.LineSound := by
  exact lineSound_stable.finish (iteInduction (fun _ => State.retrainEntry_lineSound hs _) fun _ => hs)

theorem execRateConfirmTimeout_lineSound {s : State} (hs : s.LineSound) :
    Answers (execRateConfirmTimeout s) State.LineSound := by
  exact lineSound_stable.finish (iteInduction (fun _ => State.retrainEntry_lineSound hs _) fun _ => hs)

theorem execRetrainStableExpiry_lineSound {s : State} (hs : s.LineSound) :
    Answers (execRetrainStableExpiry s) State.LineSound := by
  refine lineSound_stable.finish ?_
  split
  · next t ht =>
    have h := State.takeT2_lineSound hs ht
    exact iteInduction (fun _ => h.congr (by simp)) fun _ => h
  · exact hs

theorem execCarrierLossExpiry_lineSound {s : State} (hs : s.LineSound) :
    Answers (execCarrierLossExpiry s) State.LineSound := by
  refine lineSound_stable.finish ?_
  split
  · next c _ =>
    have h : State.LineSound { s with timers.e4 := c } := hs.congr (by simp)
    exact iteInduction (fun _ => State.reportEnd_lineSound h _) fun _ => h
  · exact hs

theorem execQualityWindowClose_lineSound {s : State} (hs : s.LineSound) :
    Answers (execQualityWindowClose s) State.LineSound := by
  refine lineSound_stable.finish ?_
  split
  · exact hs
  · next c _ =>
    have h : State.LineSound { s with level := s.level.closeWindow c } := hs.congr (by simp)
    exact State.takeReport_lineSound h _

theorem State.judgeHandshake_lineSound {s : State} (h : s.LineSound) : s.judgeHandshake.LineSound := by
  unfold State.judgeHandshake
  split
  · exact h.congr (by simp)
  · exact h

theorem State.loadReq_lineSound {s : State} (h : s.LineSound) : s.loadReq.LineSound :=
  iteInduction (fun _ => h) fun _ => h.congr (by simp)

theorem State.resendWindow_lineSound {s : State} (h : s.LineSound) : s.resendWindow.LineSound := by
  have hm : State.LineSound { s with link.resendMark := some s.link.va } := h.congr (by simp)
  exact iteInduction (fun _ => h) fun _ => iteInduction (fun _ => hm) fun _ => hm.congr ⟨rfl, rfl, rfl, rfl⟩

theorem execLinkReqTimerExpiry_lineSound {s : State} (hs : s.LineSound) :
    Answers (execLinkReqTimerExpiry s) State.LineSound := by
  refine lineSound_stable.finish (iteInduction (fun _ => ?_) fun _ => hs)
  split
  · exact hs
  · next t ht =>
    have h := State.takeT3_lineSound hs ht
    have hr : State.LineSound { t with link.reqDue := true, link.attempts := t.link.attempts + 1 } := h.congr (by simp)
    exact iteInduction (fun _ => State.loadReq_lineSound hr) fun _ =>
      iteInduction (fun _ => State.reportEnd_lineSound h _) fun _ => h.congr (by simp)

theorem execLinkTimerExpiry_lineSound {s : State} (hs : s.LineSound) :
    Answers (execLinkTimerExpiry s) State.LineSound := by
  refine lineSound_stable.finish (iteInduction (fun _ => ?_) fun _ => hs)
  split
  · exact hs
  · next t ht =>
    have h := State.takeT3_lineSound hs ht
    have hx : State.LineSound { t with link.stats.expiries := count16 t.link.stats.expiries } := h.congr (by simp)
    have hn : State.LineSound { t with link := { t.link with stats.expiries := count16 t.link.stats.expiries,
                                                             retries := bump 31 t.link.retries } } := h.congr (by simp)
    exact iteInduction (fun _ => State.resendWindow_lineSound hx) fun _ =>
      iteInduction (fun _ => State.reportEnd_lineSound hn _) fun _ => State.resendWindow_lineSound hn

theorem execClearReceived_lineSound {s : State} (hs : s.LineSound) :
    Answers (execClearReceived s) State.LineSound := by
  refine lineSound_stable.finish (iteInduction (fun _ => hs) fun _ => ?_)
  have h : State.LineSound { s with link := s.link.countGood } := hs.congr (by simp)
  have ht : State.LineSound (State.stopT3 { s with link := s.link.countGood }) := h.congr (by simp)
  split
  · exact h.congr (by simp)
  · exact iteInduction (fun _ => h) fun _ => State.callEnd_lineSound ht _
  · exact hs

theorem execClearingWaitExpiry_lineSound {s : State} (hs : s.LineSound) :
    Answers (execClearingWaitExpiry s) State.LineSound := by
  refine lineSound_stable.finish (iteInduction (fun _ => ?_) fun _ => hs)
  split
  · next t ht => exact State.callEnd_lineSound (State.takeT3_lineSound hs ht) _
  · exact hs

theorem execCapsReceived_lineSound (maxRung resolutions scanMs : Byte) {s : State} (hs : s.LineSound) :
    Answers (execCapsReceived maxRung resolutions scanMs s) State.LineSound := by
  have h := State.faxHear_lineSound hs
  exact lineSound_stable.finish (iteInduction (fun _ => iteInduction (fun _ => State.takeCaps_lineSound h _ _ _)
    fun _ => iteInduction (fun _ => h.congr (by simp)) fun _ => h) fun _ => h)

theorem execSetReceived_lineSound (rung resolution scanMs : Byte) {s : State} (hs : s.LineSound) :
    Answers (execSetReceived rung resolution scanMs s) State.LineSound := by
  have h := State.faxHear_lineSound hs
  dsimp only [execSetReceived]
  split
  · exact lineSound_stable.finish hs
  · exact lineSound_stable.finish (iteInduction (fun _ => iteInduction (fun _ => h.congr (by simp))
      fun _ => iteInduction (fun _ => h.congr (by simp)) fun _ => h) fun _ => h)

theorem execPageEndReceived_lineSound (more : Byte) {s : State} (hs : s.LineSound) :
    Answers (execPageEndReceived more s) State.LineSound := by
  have h := State.faxHear_lineSound hs
  dsimp only [execPageEndReceived]
  split
  · exact lineSound_stable.finish hs
  · exact lineSound_stable.finish (iteInduction (fun _ => iteInduction (fun _ => h.congr (by simp))
      fun _ => iteInduction (fun _ => h.congr (by simp)) fun _ => h) fun _ => h)

theorem execCheckOkReceived_lineSound {s : State} (hs : s.LineSound) :
    Answers (execCheckOkReceived s) State.LineSound := by
  have h := State.faxHear_lineSound hs
  exact lineSound_stable.finish (iteInduction (fun _ => State.faxSendPage_lineSound (s := (State.faxHear s).faxAnswered)
    (h.congr (by simp))) fun _ => h)

theorem execCheckFailReceived_lineSound {s : State} (hs : s.LineSound) :
    Answers (execCheckFailReceived s) State.LineSound := by
  have h := State.faxHear_lineSound hs
  exact lineSound_stable.finish (iteInduction (fun _ => State.checkStepDown_lineSound (s :=
    (State.faxHear s).faxAnswered) (h.congr (by simp))) fun _ => h)

theorem execFaxPageByteReceived_lineSound (b : Byte) {s : State} (hs : s.LineSound) :
    Answers (execFaxPageByteReceived b s) State.LineSound := by
  have h : (s.faxStoreByte b).1.LineSound := hs.congr (by simp)
  refine lineSound_stable.finish (iteInduction (fun _ => ?_) fun _ => hs)
  split
  · next t ht => exact State.LineSound.congr (ht ▸ h :) (by simp)
  · next t ht => exact State.reportEnd_lineSound (s := t.faxTrimPage) (State.LineSound.congr (ht ▸ h :) (by simp)) _

theorem execFaxPageStallExpiry_lineSound {s : State} (hs : s.LineSound) :
    Answers (execFaxPageStallExpiry s) State.LineSound := by
  refine lineSound_stable.finish ?_
  split
  · next t ht =>
    have h := State.takeT2_lineSound hs ht
    exact iteInduction (fun _ => State.reportEnd_lineSound h _) fun _ => h
  · exact hs

theorem execFaxNextDecisionExpiry_lineSound {s : State} (hs : s.LineSound) :
    Answers (execFaxNextDecisionExpiry s) State.LineSound := by
  refine lineSound_stable.finish ?_
  split
  · next t ht =>
    have h := State.takeT2_lineSound hs ht
    exact iteInduction (fun _ => State.reportEnd_lineSound h _) fun _ => h
  · exact hs

theorem execFaxControlReplyExpiry_lineSound {s : State} (hs : s.LineSound) :
    Answers (execFaxControlReplyExpiry s) State.LineSound := by
  refine lineSound_stable.finish ?_
  split
  · exact hs
  · next t ht =>
    have h := State.takeT2_lineSound hs ht
    have hr : State.LineSound { t.faxRepeat with fax.retries := t.fax.retries + 1, fax.unsent := false } := h.congr (by simp)
    exact iteInduction (fun _ => hr.congr ⟨rfl, rfl, rfl, rfl⟩) fun _ => State.reportEnd_lineSound h _

theorem execPageOkReceived_lineSound {s : State} (hs : s.LineSound) :
    Answers (execPageOkReceived s) State.LineSound := by
  have h : s.faxHear.pageAccepted.LineSound := (State.faxHear_lineSound hs).congr (by simp)
  exact lineSound_stable.finish (iteInduction (fun _ => iteInduction (fun _ => State.faxSendPage_lineSound (s :=
    { s.faxHear.pageAccepted with fax.page := _, fax.attempts := 1 }) (h.congr (by simp))) fun _ => h.congr (by simp))
    fun _ => State.faxHear_lineSound hs)

theorem execPageBadReceived_lineSound {s : State} (hs : s.LineSound) :
    Answers (execPageBadReceived s) State.LineSound := by
  have h : (s.faxHear.faxAnswered.raiseHolder .faxPage).LineSound := (State.faxHear_lineSound hs).congr (by simp)
  exact lineSound_stable.finish (iteInduction (fun _ => iteInduction (fun _ => State.reportEnd_lineSound h _) fun _ =>
    h.congr (by simp)) fun _ => State.faxHear_lineSound hs)

theorem execRefuseReceived_lineSound {s : State} (hs : s.LineSound) :
    Answers (execRefuseReceived s) State.LineSound := by
  have h : s.faxHear.pageAccepted.LineSound := (State.faxHear_lineSound hs).congr (by simp)
  exact lineSound_stable.finish (iteInduction (fun _ => State.reportEnd_lineSound h _)
    fun _ => State.faxHear_lineSound hs)

theorem execDoneReceived_lineSound {s : State} (hs : s.LineSound) :
    Answers (execDoneReceived s) State.LineSound := by
  have h := State.faxHear_lineSound hs
  have ha : s.faxHear.faxAnswered.LineSound := h.congr (by simp)
  exact lineSound_stable.finish (iteInduction (fun _ => iteInduction (fun _ => State.reportEnd_lineSound ha _) fun _ =>
    iteInduction (fun _ => ha.congr ⟨rfl, rfl, rfl, rfl⟩) fun _ => h) fun _ => h)

theorem execFaxControlFrameSent_lineSound {s : State} (hs : s.LineSound) :
    Answers (execFaxControlFrameSent s) State.LineSound := by
  refine lineSound_stable.finish ?_
  split
  · next f _ =>
    have h : State.LineSound { s with link.tx := afterFrame f, fax.checkSending := f.hasCheck, fax.unsent := false } :=
      hs.congr (by simp)
    dsimp only
    split
    · exact State.reportEnd_lineSound h _
    · exact h
  · exact hs

/-- Every row keeps the line state and the Call Record together. -/
theorem exec_lineSound (c : Instr) {s : State} (hs : s.LineSound) : Answers (exec c s) State.LineSound := by
  cases c with
  | dial => exact lineSound_stable.command hs (takeDial_lineSound hs _ _ _ _)
  | answer => exact lineSound_stable.command hs (takeAnswer_lineSound hs _ _)
  | takeCall => exact lineSound_stable.command hs (takeTakeCall_lineSound hs _)
  | hangUp => exact lineSound_stable.command hs (takeHangUp_lineSound hs _)
  | connect => exact lineSound_stable.command hs (takeConnect_lineSound hs _)
  | readCall | readHistory | readLevels | readLinkStats | readTimers | readClock | readSetting | readEntry =>
    exact lineSound_stable.command hs hs
  | pause | resume | stop => exact lineSound_stable.command hs (voiceControl_lineSound hs _ _ (hs.congr (by simp)))
  | delete => exact lineSound_stable.command hs (takeDelete_lineSound hs _)
  | openTransferWrite =>
    exact lineSound_stable.command hs (iteInduction (motive := fun r : State × Reply => r.1.LineSound)
      (fun _ => takeOpenWrite_lineSound hs _ _ _) fun _ => hs)
  | writeChunk => exact lineSound_stable.command hs (takeWriteChunk_lineSound hs _ _)
  | portReset => exact lineSound_stable.command hs (State.portReset_lineSound hs _)
  | setSetting =>
    refine lineSound_stable.command hs ?_
    apply setSetting_leaves
    all_goals intros; exact hs.congr (by simp)
  | openTransferRead =>
    refine lineSound_stable.command hs (iteInduction (motive := fun r : State × Reply => r.1.LineSound) (fun _ => ?_)
      fun _ => hs)
    unfold takeOpenRead openRead
    dsimp only
    repeat' split
    all_goals exact hs.congr (by simp)
  | sendDigits =>
    refine lineSound_stable.command hs ?_
    unfold takeSendDigits
    repeat' split
    all_goals exact hs.congr (by simp)
  | beep =>
    refine lineSound_stable.command hs ?_
    unfold takeBeep
    repeat' split
    all_goals exact hs.congr (by simp)
  | readDigits =>
    refine lineSound_stable.command hs ?_
    unfold takeReadDigits
    repeat' split
    all_goals exact hs.congr (by simp)
  | setClock =>
    refine lineSound_stable.command hs ?_
    unfold takeSetClock
    repeat' split
    all_goals exact hs.congr (by simp)
  | play =>
    refine lineSound_stable.command hs ?_
    unfold takePlay takeGoodPlay takePlayEntry
    repeat' split
    all_goals exact hs.congr (by simp)
  | record =>
    refine lineSound_stable.command hs ?_
    unfold takeRecord takeGoodRecord
    repeat' split
    all_goals exact hs.congr (by simp)
  | list =>
    refine lineSound_stable.command hs ?_
    unfold takeList
    repeat' split
    all_goals exact hs.congr (by simp)
  | markHeard =>
    refine lineSound_stable.command hs ?_
    unfold takeMarkHeard
    repeat' split
    all_goals exact hs.congr (by simp)
  | format =>
    refine lineSound_stable.command hs ?_
    unfold takeFormat
    repeat' split
    all_goals exact hs.congr (by simp)
  | readChunk =>
    refine lineSound_stable.command hs ?_
    unfold takeReadChunk
    dsimp only
    repeat' split
    all_goals exact hs.congr (by simp)
  | closeTransfer =>
    refine lineSound_stable.command hs ?_
    unfold takeCloseTransfer
    dsimp only
    repeat' split
    all_goals exact hs.congr (by simp)
  | abort =>
    refine lineSound_stable.command hs ?_
    unfold takeAbort
    repeat' split
    all_goals exact hs.congr (by simp)
  | faxNext =>
    refine lineSound_stable.command hs ?_
    unfold takeFaxNext
    repeat' split
    all_goals exact hs.congr (by simp)
  | faxNextFromStore =>
    refine lineSound_stable.command hs ?_
    unfold takeFaxFromStore takeFaxEntry
    repeat' split
    all_goals exact hs.congr (by simp)
  | takeNotice =>
    refine lineSound_stable.command hs ?_
    unfold takeTakeNotice
    repeat' split
    all_goals exact hs.congr (by simp)
  | noticeDone =>
    refine lineSound_stable.command hs ?_
    unfold takeNoticeDone
    exact hs.congr (by simp)
  | clearNotice =>
    refine lineSound_stable.command hs ?_
    unfold takeClearNotice
    repeat' split
    all_goals exact hs.congr (by simp)
  | mask =>
    refine lineSound_stable.command hs ?_
    unfold takeMask
    repeat' split
    all_goals exact hs.congr (by simp)
  | goData =>
    refine lineSound_stable.command hs ?_
    unfold takeGoData
    repeat' split
    all_goals exact hs.congr (by simp)
  | frameWhileReplyOwed p code =>
    refine lineSound_stable.finish (iteInduction (fun _ => ?_) fun _ => hs)
    unfold State.busyAnswer
    split
    · exact hs
    · exact lineSound_stable.send _ _ _ hs
  | answerToneEnd =>
    exact lineSound_stable.finish (iteInduction (fun _ => State.judgeHandshake_lineSound
      (s := { s with pump.answerTone := false }) (hs.congr ⟨rfl, rfl, rfl, rfl⟩)) fun _ => hs)
  | handshakeSignalReceived x =>
    exact lineSound_stable.finish (iteInduction (fun _ => State.judgeHandshake_lineSound
      (s := { s with pump := s.pump.hear x }) (hs.congr ⟨rfl, rfl, rfl, rfl⟩)) fun _ => hs)
  | deviceReset => exact lineSound_stable.finish (State.deviceReset_lineSound _ _ _)
  | powerLow => exact lineSound_stable.finish (iteInduction (fun _ => hs) fun _ => State.closeOut_lineSound hs)
  | unknownCommand p code =>
    exact lineSound_stable.finish (iteInduction (fun _ => hs) fun _ => lineSound_stable.takeFrame hs hs)
  | portDataByteReceived b =>
    exact lineSound_stable.finish (State.byteReceived_lineSound (State.expiryFirst_lineSound hs) b)
  | timerTick => exact execTimerTick_lineSound hs
  | secondEvent =>
    refine lineSound_stable.finish ?_
    split
    · exact hs
    · exact hs.congr ⟨rfl, rfl, rfl, rfl⟩
  | readyDeasserted => exact execReadyDeasserted_lineSound hs
  | lineInUseRunExpiry => exact execLineInUseRunExpiry_lineSound hs
  | extensionPickup =>
    exact lineSound_stable.finish (iteInduction (fun _ => State.pickup_lineSound (s :=
      { s with lif.pickupLatch := true, lif.currentRun := 0 }) (hs.congr (by simp))) fun _ => hs)
  | badFrame => exact execBadFrame_lineSound _ _ hs
  | blockEvent => exact execBlockEvent_lineSound _ _ _ hs
  | t0AEvent => exact execT0AEvent_lineSound hs
  | t0BEvent => exact execT0BEvent_lineSound hs
  | settleExpiry => exact execSettleExpiry_lineSound hs
  | dialToneWaitExpiry => exact execDialToneWaitExpiry_lineSound hs
  | pauseItemExpiry => exact execPauseItemExpiry_lineSound hs
  | noAnswerExpiry => exact execNoAnswerExpiry_lineSound hs
  | guardExpiry => exact execGuardExpiry_lineSound hs
  | presenceHangoverExpiry =>
    exact lineSound_stable.finish (iteInduction (fun _ => State.presenceEnd_lineSound (s :=
      { s with lif.ringPresent := false, lif.hangover := 0 }) (hs.congr (by simp))) fun _ => hs)
  | qualifyDeadline => exact execQualifyDeadline_lineSound hs
  | windowOpen => exact execWindowOpen_lineSound hs
  | cycleEnd => exact execCycleEnd_lineSound hs
  | windowClose => exact execWindowClose_lineSound hs
  | episodeEnd => exact execEpisodeEnd_lineSound hs
  | autoBeepEnd => exact execAutoBeepEnd_lineSound hs
  | promptBeepEnd => exact execPromptBeepEnd_lineSound hs
  | playEnd => exact execPlayEnd_lineSound hs
  | voxExpiry => exact execVoxExpiry_lineSound hs
  | maxLengthReached =>
    exact lineSound_stable.finish (iteInduction (fun _ => State.recordingOver_lineSound hs _) fun _ => hs)
  | recordingGranuleNeeded => exact execRecordingGranuleNeeded_lineSound hs
  | remoteInactivityExpiry => exact execRemoteInactivityExpiry_lineSound hs
  | handshakeTimeout =>
    exact lineSound_stable.finish (iteInduction (fun _ => State.reportEnd_lineSound hs _) fun _ => hs)
  | verdictExchangeEnd =>
    exact lineSound_stable.finish (iteInduction (fun _ => iteInduction (fun _ => hs.congr (by simp))
      fun _ => State.trainingFailed_lineSound hs) fun _ => hs)
  | farEndRetrainRequest => exact execFarEndRetrainRequest_lineSound hs
  | rateConfirmTimeout => exact execRateConfirmTimeout_lineSound hs
  | retrainStableExpiry => exact execRetrainStableExpiry_lineSound hs
  | carrierLossExpiry => exact execCarrierLossExpiry_lineSound hs
  | qualityWindowClose => exact execQualityWindowClose_lineSound hs
  | linkReqTimerExpiry => exact execLinkReqTimerExpiry_lineSound hs
  | linkTimerExpiry => exact execLinkTimerExpiry_lineSound hs
  | clearReceived => exact execClearReceived_lineSound hs
  | clearReplySent =>
    exact lineSound_stable.finish (iteInduction (fun _ => State.callEnd_lineSound hs _) fun _ => hs)
  | clearingWaitExpiry => exact execClearingWaitExpiry_lineSound hs
  | capsReceived => exact execCapsReceived_lineSound _ _ _ hs
  | setReceived => exact execSetReceived_lineSound _ _ _ hs
  | pageEndReceived => exact execPageEndReceived_lineSound _ hs
  | checkOkReceived => exact execCheckOkReceived_lineSound hs
  | checkFailReceived => exact execCheckFailReceived_lineSound hs
  | faxPageByteReceived => exact execFaxPageByteReceived_lineSound _ hs
  | faxPageStallExpiry => exact execFaxPageStallExpiry_lineSound hs
  | faxNextDecisionExpiry => exact execFaxNextDecisionExpiry_lineSound hs
  | faxControlReplyExpiry => exact execFaxControlReplyExpiry_lineSound hs
  | pageOkReceived => exact execPageOkReceived_lineSound hs
  | pageBadReceived => exact execPageBadReceived_lineSound hs
  | refuseReceived => exact execRefuseReceived_lineSound hs
  | doneReceived => exact execDoneReceived_lineSound hs
  | faxControlFrameSent => exact execFaxControlFrameSent_lineSound hs
  | _ =>
    refine lineSound_stable.finish ?_
    repeat' (split <;> try dsimp only)
    all_goals exact hs.congr (by simp)

/-- Settles O3: a step with a command in front is its row, which keeps the line state and the Call Record together. -/
theorem stepKeepsLineAndCall : Obligations.StepKeepsLineAndCall := by
  intro s t hs hstep
  cases hq : s.pending with
  | nil =>
    rw [step, hq] at hstep
    cases hstep
    exact hs
  | cons c rest =>
    have hrest : State.LineSound { s with pending := rest } := hs.congr ⟨rfl, rfl, rfl, rfl⟩
    obtain ⟨u, hu, hsound⟩ := exec_lineSound c hrest
    rw [step, hq] at hstep
    cases hu.symm.trans hstep
    exact hsound

end Sys2Proof.Machine
end

section
/-! PROOFS. What a command that a port takes answers and leaves (R177, R178): the reading commands, the clock, the directory
commands and the digits. -/

namespace Sys2Proof.Machine

/-! ### Frames -/

/-- A frame, part by part: each part is named or is the same. -/
theorem SameBut.of_parts {parts : List Part} {s t : State} (hparts :
      (.line ∈ parts ∨ t.ccu.line = s.ccu.line) ∧
      (.call ∈ parts ∨ t.ccu.call = s.ccu.call) ∧
      (.claims ∈ parts ∨ t.ccu.claims = s.ccu.claims) ∧
      (.history ∈ parts ∨ t.ccu.history = s.ccu.history) ∧
      (.ccuRest ∈ parts ∨ (t.ccu.lastNumber = s.ccu.lastNumber ∧ t.ccu.ending = s.ccu.ending ∧ t.ccu.blind =
        s.ccu.blind ∧ t.ccu.t2Use = s.ccu.t2Use)) ∧
      (.dialler ∈ parts ∨ t.ccu.dialler = s.ccu.dialler) ∧
      (.lif ∈ parts ∨ t.lif = s.lif) ∧
      (.timer 0 ∈ parts ∨ t.timers.e0 = s.timers.e0) ∧
      (.timer 1 ∈ parts ∨ t.timers.e1 = s.timers.e1) ∧
      (.timer 2 ∈ parts ∨ t.timers.e2 = s.timers.e2) ∧
      (.timer 3 ∈ parts ∨ t.timers.e3 = s.timers.e3) ∧
      (.timer 4 ∈ parts ∨ t.timers.e4 = s.timers.e4) ∧
      (.timer 5 ∈ parts ∨ t.timers.e5 = s.timers.e5) ∧
      (.timer 6 ∈ parts ∨ t.timers.e6 = s.timers.e6) ∧
      (.timer 7 ∈ parts ∨ t.timers.e7 = s.timers.e7) ∧
      (.calendar ∈ parts ∨ t.calendar = s.calendar) ∧
      (.generator ∈ parts ∨ t.tone.generator = s.tone.generator) ∧
      (.detectors ∈ parts ∨ (t.tone.faxCall = s.tone.faxCall ∧ t.tone.dataCall = s.tone.dataCall ∧ t.tone.answer =
        s.tone.answer ∧ t.tone.dtmf = s.tone.dtmf ∧ t.tone.blank = s.tone.blank ∧ t.tone.classifier =
        s.tone.classifier ∧ t.tone.voiceBlocks = s.tone.voiceBlocks)) ∧
      (.ringing ∈ parts ∨ (t.rau.presence = s.rau.presence ∧ t.rau.deadlines = s.rau.deadlines)) ∧
      (.episode ∈ parts ∨ t.rau.episode = s.rau.episode) ∧
      (.caller ∈ parts ∨ t.rau.caller = s.rau.caller) ∧
      (.discr ∈ parts ∨ t.rau.discr = s.rau.discr) ∧
      (.level ∈ parts ∨ t.level = s.level) ∧
      (.pump ∈ parts ∨ t.pump = s.pump) ∧
      (.link ∈ parts ∨ ({ t.link with outbound := [], inbound := [], stats := .zero } =
        { s.link with outbound := [], inbound := [], stats := .zero })) ∧
      (.stats ∈ parts ∨ t.link.stats = s.link.stats) ∧
      (.outbound ∈ parts ∨ t.link.outbound = s.link.outbound) ∧
      (.inbound ∈ parts ∨ t.link.inbound = s.link.inbound) ∧
      (.fax ∈ parts ∨ t.fax = s.fax) ∧
      (.voiceOp ∈ parts ∨ t.voice.op = s.voice.op) ∧
      (.resume ∈ parts ∨ t.voice.resume = s.voice.resume) ∧
      (.remote ∈ parts ∨ t.voice.remote = s.voice.remote) ∧
      (.settings ∈ parts ∨ t.settings = s.settings) ∧
      (.header ∈ parts ∨ (t.store.installed = s.store.installed ∧ t.store.header = s.store.header ∧ t.store.tables =
        s.store.tables)) ∧
      (.directory ∈ parts ∨ t.store.dir = s.store.dir) ∧
      (.freeList ∈ parts ∨ (t.store.free = s.store.free ∧ t.store.low = s.store.low)) ∧
      (.memory ∈ parts ∨ t.store.mem = s.store.mem) ∧
      (.outgoing .system ∈ parts ∨ t.ports.system.outgoing = s.ports.system.outgoing) ∧
      (.digits .system ∈ parts ∨ t.ports.system.digits = s.ports.system.digits) ∧
      (.transfer .system ∈ parts ∨ t.ports.system.transfer = s.ports.system.transfer) ∧
      (.alerts .system ∈ parts ∨ t.ports.system.alerts = s.ports.system.alerts) ∧
      (.outgoing .panel ∈ parts ∨ t.ports.panel.outgoing = s.ports.panel.outgoing) ∧
      (.notices .panel ∈ parts ∨ t.ports.panel.notices = s.ports.panel.notices) ∧
      (.digits .panel ∈ parts ∨ t.ports.panel.digits = s.ports.panel.digits) ∧
      (.transfer .panel ∈ parts ∨ t.ports.panel.transfer = s.ports.panel.transfer) ∧
      (.alerts .panel ∈ parts ∨ t.ports.panel.alerts = s.ports.panel.alerts) ∧
      (.systemPort ∈ parts ∨ ({ t.sys with notice := none } = { s.sys with notice := none })) ∧
      (.panelPort ∈ parts ∨ t.pan = s.pan) ∧
      (.power ∈ parts ∨ t.power = s.power) ∧
      (.queue ∈ parts ∨ t.pending = s.pending)) :
    SameBut parts s t := by
  obtain ⟨line, call, claims, history, ccuRest, dialler, lif, timer0, timer1, timer2, timer3, timer4, timer5, timer6,
        timer7, calendar, generator, detectors, ringing, episode, caller, discr, level, pump, link, stats, outbound,
        inbound, fax, voiceOp, resume, remote, settings, header, directory, freeList, memory, outgoingSystem,
        digitsSystem, transferSystem, alertsSystem, outgoingPanel, noticesPanel, digitsPanel, transferPanel,
        alertsPanel, systemPort, panelPort, power, queue⟩ := hparts
  intro x hx hn
  cases x with
  | line => exact line.resolve_left hx
  | call => exact call.resolve_left hx
  | claims => exact claims.resolve_left hx
  | history => exact history.resolve_left hx
  | ccuRest => exact ccuRest.resolve_left hx
  | dialler => exact dialler.resolve_left hx
  | lif => exact lif.resolve_left hx
  | timer n =>
    match n with
    | 0 => exact timer0.resolve_left hx
    | 1 => exact timer1.resolve_left hx
    | 2 => exact timer2.resolve_left hx
    | 3 => exact timer3.resolve_left hx
    | 4 => exact timer4.resolve_left hx
    | 5 => exact timer5.resolve_left hx
    | 6 => exact timer6.resolve_left hx
    | 7 => exact timer7.resolve_left hx
  | calendar => exact calendar.resolve_left hx
  | generator => exact generator.resolve_left hx
  | detectors => exact detectors.resolve_left hx
  | ringing => exact ringing.resolve_left hx
  | episode => exact episode.resolve_left hx
  | caller => exact caller.resolve_left hx
  | discr => exact discr.resolve_left hx
  | level => exact level.resolve_left hx
  | pump => exact pump.resolve_left hx
  | link => exact link.resolve_left hx
  | stats => exact stats.resolve_left hx
  | outbound => exact outbound.resolve_left hx
  | inbound => exact inbound.resolve_left hx
  | fax => exact fax.resolve_left hx
  | voiceOp => exact voiceOp.resolve_left hx
  | resume => exact resume.resolve_left hx
  | remote => exact remote.resolve_left hx
  | settings => exact settings.resolve_left hx
  | header => exact header.resolve_left hx
  | directory => exact directory.resolve_left hx
  | freeList => exact freeList.resolve_left hx
  | memory => exact fun a => by rw [memory.resolve_left hx]
  | outgoing p =>
    cases p
    exacts [outgoingSystem.resolve_left hx, outgoingPanel.resolve_left hx]
  | digits p =>
    cases p
    exacts [digitsSystem.resolve_left hx, digitsPanel.resolve_left hx]
  | transfer p =>
    cases p
    exacts [transferSystem.resolve_left hx, transferPanel.resolve_left hx]
  | alerts p =>
    cases p
    exacts [alertsSystem.resolve_left hx, alertsPanel.resolve_left hx]
  | notices p =>
    cases p
    exacts [absurd rfl hn, noticesPanel.resolve_left hx]
  | systemPort => exact systemPort.resolve_left hx
  | panelPort => exact panelPort.resolve_left hx
  | power => exact power.resolve_left hx
  | queue => exact queue.resolve_left hx

/-! ### A taken command -/

@[simp] theorem Reply.plain_status (x : Status) : (Reply.plain x).status = x := rfl

@[simp] theorem Reply.plain_results (x : Status) : (Reply.plain x).results = [] := rfl


/-- R177: the frame of a command's body, with the answer that it adds. -/
theorem SameBut.reply {parts more : List Part} {s t : State} (h : SameBut parts s t) (p : Port) (code : Byte) (r : Reply)
    (hmore : parts ⊆ more ∧ .outgoing p ∈ more) :
    SameBut more s (t.reply p code r).deliverSystem :=
  ((h.mono hmore.1).trans ((t.reply_same p code r).mono (by simpa using hmore.2))).finish

/-- R177: a body that leaves what its port has to send is answered. -/
theorem SameBut.answered {parts : List Part} {s t : State} (h : SameBut parts s t) (p : Port) (code : Byte) (r : Reply)
    (hout : .outgoing p ∉ parts) : Answered s (t.reply p code r).deliverSystem p code r.status r.results :=
  State.reply_answers (h _ hout (by simp))

/-- R177: a taken command that only answers. -/
theorem command_answers {f : Frame} {code : Byte} {s : State} {body : State → State × Reply} {r : Reply}
    (h : s.Takes f code) (hbody : body s = (s, r)) :
    ∃ t, command f code s body = .next t ∧ Answered s t f.port code r.status r.results ∧
      SameBut [.outgoing f.port] s t := by
  refine ⟨_, command_taken h body, ?_⟩
  rw [hbody]
  exact ⟨(SameBut.refl [] s).answered _ _ _ (by simp), (SameBut.refl [] s).reply _ _ _ (by simp)⟩

/-- R178: a reading command answers from the state and leaves it. -/
theorem readOnly_answers {f : Frame} {code : Byte} {s : State} (reply : State → Reply) (h : s.Takes f code) :
    ∃ t, command f code s (readOnly reply) = .next t ∧ SameBut [.outgoing f.port] s t ∧
      Answered s t f.port code (reply s).status (reply s).results := by
  obtain ⟨t, ht, hanswer, hsame⟩ := command_answers (body := readOnly reply) h rfl
  exact ⟨t, ht, hsame, hanswer⟩

/-- Settles O12: each of the seven is a reading command; three of them choose their reply. -/
theorem readsChangeNothing : Obligations.ReadsChangeNothing := by
  intro f s
  refine ⟨readOnly_answers _, fun first count h => ?_, readOnly_answers _, readOnly_answers _, readOnly_answers _,
    fun id h => ?_, fun id h => ?_⟩
  · obtain ⟨t, ht, hsame, hanswer⟩ := readOnly_answers (historyReply first count) h
    refine ⟨t, ht, hsame, ?_⟩
    unfold historyReply at hanswer
    split
    · next hc => simpa only [hc, if_true, Reply.plain_status, Reply.plain_results] using hanswer
    · next hc => simpa only [hc, if_false] using hanswer
  · obtain ⟨t, ht, hsame, hanswer⟩ := readOnly_answers (settingReply f.port id.toNat) h
    refine ⟨t, ht, hsame, ?_⟩
    unfold settingReply at hanswer
    split <;> next hi => simpa only [hi, Reply.plain_status, Reply.plain_results] using hanswer
  · obtain ⟨t, ht, hsame, hanswer⟩ := readOnly_answers (readEntry id) h
    refine ⟨t, ht, hsame, ?_⟩
    unfold readEntry at hanswer
    split <;> next hi => simpa only [hi, Reply.plain_status, Reply.plain_results] using hanswer

/-! ### The clock (R40) -/

/-- R40: a clock set within its ranges. -/
theorem takeSetClock_good {day hour minute second : Byte} (s : State)
    (h : day.toNat ≤ 6 ∧ hour.toNat ≤ 23 ∧ minute.toNat ≤ 59 ∧ second.toNat ≤ 59) :
    takeSetClock day hour minute second s =
      ({ s with
         calendar := ⟨⟨day.toNat, hour.toNat, minute.toNat, second.toNat⟩, true⟩,
         timers.e7 := { s.timers.e7 with count := 0, signalA := false } }, .plain .ok) := if_pos h

/-- R40: a clock with a field outside its range is refused. -/
theorem takeSetClock_bad {day hour minute second : Byte} (s : State)
    (h : 6 < day.toNat ∨ 23 < hour.toNat ∨ 59 < minute.toNat ∨ 59 < second.toNat) :
    takeSetClock day hour minute second s = refuse s .badParameter := if_neg (by omega)

/-- Settles O13: SET CLOCK by its two cases, READ CLOCK as a reading command. -/
theorem setClockWrites : Obligations.SetClockWrites := by
  intro f s
  refine ⟨fun day hour minute second h => ⟨fun hgood => ?_, fun hbad => command_refused h (takeSetClock_bad s hbad)⟩,
    fun h => ?_⟩
  · refine ⟨_, command_taken h _, ?_⟩
    rw [takeSetClock_good s hgood]
    generalize ht : ({ s with calendar := _, timers.e7 := _ } : State) = t
    have hsame : SameBut [.calendar, .timer 7] s t := by
      subst ht
      exact .of_parts (by simp)
    refine ⟨?_, ?_, hsame.answered _ _ _ (by simp), hsame.reply _ _ _ (by simp)⟩ <;> simp [← ht]
  · obtain ⟨t, ht, hsame, hanswer⟩ :=
      readOnly_answers (fun s => ⟨.ok, s.calendar.time.items ++ [flagItem s.calendar.isSet]⟩) h
    exact ⟨t, ht, hanswer, hsame⟩

end Sys2Proof.Machine
end

section
/-! PROOFS. Fields that the shared operations leave, beside those of the model's own laws: the header, the tables and the bytes
of the store, the pump and link records, and the ports as a whole. -/

namespace Sys2Proof.Machine

@[simp] theorem State.updEntry_leaves (s : State) (id : Nat) (g : Entry → Entry) :
    (s.updEntry id g).store.header = s.store.header ∧ (s.updEntry id g).store.installed = s.store.installed ∧
    (s.updEntry id g).store.tables = s.store.tables ∧ (s.updEntry id g).store.mem = s.store.mem ∧
    (s.updEntry id g).store.free = s.store.free ∧ (s.updEntry id g).store.low = s.store.low :=
  ⟨rfl, rfl, rfl, rfl, rfl, rfl⟩

@[simp] theorem State.hold_leaves (s : State) (id : Nat) :
    (s.hold id).store.header = s.store.header ∧ (s.hold id).store.installed = s.store.installed ∧
    (s.hold id).store.tables = s.store.tables ∧ (s.hold id).store.mem = s.store.mem ∧
    (s.hold id).store.free = s.store.free ∧ (s.hold id).store.low = s.store.low :=
  ⟨rfl, rfl, rfl, rfl, rfl, rfl⟩

@[simp] theorem State.clearNew_leaves (s : State) (id : Nat) :
    (s.clearNew id).store.header = s.store.header ∧ (s.clearNew id).store.installed = s.store.installed ∧
    (s.clearNew id).store.tables = s.store.tables ∧ (s.clearNew id).store.mem = s.store.mem ∧
    (s.clearNew id).store.free = s.store.free ∧ (s.clearNew id).store.low = s.store.low :=
  ⟨rfl, rfl, rfl, rfl, rfl, rfl⟩

theorem State.writeCode_leaves {s t : State} {id : Nat} {c : CodeByte} (h : s.writeCode id c = some t) :
    t.store.header = s.store.header ∧ t.store.installed = s.store.installed ∧ t.store.tables = s.store.tables ∧
    t.store.free = s.store.free ∧ t.store.low = s.store.low := by
  unfold State.writeCode at h
  split at h
  · cases h
  dsimp only at h
  split at h
  · cases h
    split <;> simp
  · cases h

@[simp] theorem State.flushCodes_leaves (id : Nat) (cs : List CodeByte) (s : State) :
    (s.flushCodes id cs).store.header = s.store.header ∧ (s.flushCodes id cs).store.installed = s.store.installed ∧
    (s.flushCodes id cs).store.tables = s.store.tables ∧ (s.flushCodes id cs).store.free = s.store.free ∧
    (s.flushCodes id cs).store.low = s.store.low := by
  induction cs generalizing s with
  | nil => simp [State.flushCodes]
  | cons c rest ih =>
    unfold State.flushCodes
    split
    · next t ht => simp [ih, State.writeCode_leaves ht]
    · simp

@[simp] theorem State.allocate_leaves (s : State) (id : Nat) :
    ((s.allocate id).1).store.header = s.store.header ∧
    ((s.allocate id).1).store.installed = s.store.installed ∧
    ((s.allocate id).1).store.tables = s.store.tables ∧ ((s.allocate id).1).store.mem = s.store.mem := by
  unfold State.allocate
  dsimp only
  repeat' split
  all_goals simp

@[simp] theorem State.trim_leaves (s : State) (id len : Nat) :
    (s.trim id len).store.header = s.store.header ∧ (s.trim id len).store.installed = s.store.installed ∧
    (s.trim id len).store.tables = s.store.tables ∧ (s.trim id len).store.mem = s.store.mem := by
  unfold State.trim
  dsimp only
  repeat' split
  all_goals simp

@[simp] theorem State.release_leaves (s : State) (id : Nat) :
    (s.release id).store.header = s.store.header ∧ (s.release id).store.installed = s.store.installed ∧
    (s.release id).store.tables = s.store.tables ∧ (s.release id).store.mem = s.store.mem := by
  unfold State.release
  repeat' split
  all_goals simp

@[simp] theorem State.deleteRule_leaves (s : State) (id : Nat) :
    ((s.deleteRule id).1).store.header = s.store.header ∧
    ((s.deleteRule id).1).store.installed = s.store.installed ∧
    ((s.deleteRule id).1).store.tables = s.store.tables ∧ ((s.deleteRule id).1).store.mem = s.store.mem := by
  unfold State.deleteRule
  repeat' split
  all_goals simp

@[simp] theorem State.replaceGreeting_leaves (s : State) (e : Entry) :
    (s.replaceGreeting e).store.header = s.store.header ∧
    (s.replaceGreeting e).store.installed = s.store.installed ∧
    (s.replaceGreeting e).store.tables = s.store.tables ∧ (s.replaceGreeting e).store.mem = s.store.mem := by
  unfold State.replaceGreeting
  repeat' split
  all_goals simp

@[simp] theorem State.complete_leaves (s : State) (id : Nat) (isNew : Bool) :
    (s.complete id isNew).store.header = s.store.header ∧
    (s.complete id isNew).store.installed = s.store.installed ∧
    (s.complete id isNew).store.tables = s.store.tables ∧ (s.complete id isNew).store.mem = s.store.mem := by
  unfold State.complete
  repeat' split
  all_goals simp

@[simp] theorem State.putByte_leaves (s : State) (id : Nat) (b : Byte) :
    (s.putByte id b).store.header = s.store.header ∧ (s.putByte id b).store.installed = s.store.installed ∧
    (s.putByte id b).store.tables = s.store.tables ∧ (s.putByte id b).store.free = s.store.free ∧
    (s.putByte id b).store.low = s.store.low := by
  unfold State.putByte
  repeat' split
  all_goals simp

@[simp] theorem State.appendByte_leaves (s : State) (id : Nat) (b : Byte) :
    ((s.appendByte id b).1).store.header = s.store.header ∧
    ((s.appendByte id b).1).store.installed = s.store.installed ∧
    ((s.appendByte id b).1).store.tables = s.store.tables := by
  unfold State.appendByte
  repeat' split
  all_goals simp

@[simp] theorem State.flushRecording_leaves (s : State) :
    (s.flushRecording).store.header = s.store.header ∧
    (s.flushRecording).store.installed = s.store.installed ∧
    (s.flushRecording).store.tables = s.store.tables ∧ (s.flushRecording).store.free = s.store.free ∧
    (s.flushRecording).store.low = s.store.low := by
  unfold State.flushRecording
  dsimp only
  repeat' split
  all_goals simp

@[simp] theorem State.recordFrom_leaves (s : State) (path : AudioPath) (m : PathMeter) (xs : List Sample) (level : Option Nat) :
    (s.recordFrom path m xs level).store.header = s.store.header ∧
    (s.recordFrom path m xs level).store.installed = s.store.installed ∧
    (s.recordFrom path m xs level).store.tables = s.store.tables ∧
    (s.recordFrom path m xs level).store.free = s.store.free ∧
    (s.recordFrom path m xs level).store.low = s.store.low := by
  unfold State.recordFrom
  dsimp only
  repeat' split
  all_goals simp

@[simp] theorem State.closeHalfByte_leaves (s : State) :
    (s.closeHalfByte).store.header = s.store.header ∧ (s.closeHalfByte).store.installed = s.store.installed ∧
    (s.closeHalfByte).store.tables = s.store.tables ∧ (s.closeHalfByte).store.free = s.store.free ∧
    (s.closeHalfByte).store.low = s.store.low ∧ (s.closeHalfByte).pump = s.pump ∧
    (s.closeHalfByte).link = s.link := by
  unfold State.closeHalfByte
  dsimp only
  repeat' split
  all_goals simp

@[simp] theorem State.keepRecording_leaves (s : State) (id : Nat) (kind : MsgKind) (ofCall : Bool) :
    (s.keepRecording id kind ofCall).store.header = s.store.header ∧
    (s.keepRecording id kind ofCall).store.installed = s.store.installed ∧
    (s.keepRecording id kind ofCall).store.tables = s.store.tables ∧
    (s.keepRecording id kind ofCall).store.mem = s.store.mem := by
  unfold State.keepRecording
  dsimp only
  repeat' split
  all_goals simp

@[simp] theorem State.keepRules_leaves (s : State) :
    ((s.keepRules).1).store.header = s.store.header ∧ ((s.keepRules).1).store.installed = s.store.installed ∧
    ((s.keepRules).1).store.tables = s.store.tables ∧ ((s.keepRules).1).pump = s.pump ∧
    ((s.keepRules).1).link = s.link := by
  unfold State.keepRules
  dsimp only
  repeat' split
  all_goals simp

@[simp] theorem State.startPlay_leaves (s : State) (user : Party) (id offset : Nat) (endpoint : Endpoint) (stopOnDigit : Bool) :
    (s.startPlay user id offset endpoint stopOnDigit).store.header = s.store.header ∧
    (s.startPlay user id offset endpoint stopOnDigit).store.installed = s.store.installed ∧
    (s.startPlay user id offset endpoint stopOnDigit).store.tables = s.store.tables ∧
    (s.startPlay user id offset endpoint stopOnDigit).store.free = s.store.free ∧
    (s.startPlay user id offset endpoint stopOnDigit).store.low = s.store.low ∧
    (s.startPlay user id offset endpoint stopOnDigit).store.mem = s.store.mem := by
  unfold State.startPlay
  dsimp only
  all_goals simp

@[simp] theorem State.endVoice_leaves (s : State) (r : VoiceReason) :
    ((s.endVoice r).1).store.header = s.store.header ∧
    ((s.endVoice r).1).store.installed = s.store.installed ∧
    ((s.endVoice r).1).store.tables = s.store.tables ∧ ((s.endVoice r).1).pump = s.pump ∧
    ((s.endVoice r).1).link = s.link := by
  unfold State.endVoice
  dsimp only
  repeat' split
  all_goals simp

@[simp] theorem State.preempt_leaves (s : State) :
    (s.preempt).store.header = s.store.header ∧ (s.preempt).store.installed = s.store.installed ∧
    (s.preempt).store.tables = s.store.tables ∧ (s.preempt).pump = s.pump ∧ (s.preempt).link = s.link := by
  unfold State.preempt
  repeat' split
  all_goals simp

@[simp] theorem State.cancelAuto_leaves (s : State) :
    (s.cancelAuto).store.header = s.store.header ∧ (s.cancelAuto).store.installed = s.store.installed ∧
    (s.cancelAuto).store.tables = s.store.tables ∧ (s.cancelAuto).pump = s.pump ∧ (s.cancelAuto).link = s.link := by
  unfold State.cancelAuto
  dsimp only
  repeat' split
  all_goals simp

@[simp] theorem State.closeFax_leaves (s : State) :
    (s.closeFax).store.header = s.store.header ∧ (s.closeFax).store.installed = s.store.installed ∧
    (s.closeFax).store.tables = s.store.tables ∧ (s.closeFax).store.mem = s.store.mem := by
  unfold State.closeFax
  dsimp only
  repeat' split
  all_goals simp

@[simp] theorem State.stopEngines_leaves (s : State) :
    (s.stopEngines).store.header = s.store.header ∧ (s.stopEngines).store.installed = s.store.installed ∧
    (s.stopEngines).store.tables = s.store.tables := by
  unfold State.stopEngines
  dsimp only
  repeat' split
  all_goals simp

@[simp] theorem State.callEnd_leaves (s : State) (c : Cause) :
    (s.callEnd c).store.header = s.store.header ∧ (s.callEnd c).store.installed = s.store.installed ∧
    (s.callEnd c).store.tables = s.store.tables := by
  unfold State.callEnd
  dsimp only
  repeat' split
  all_goals simp

@[simp] theorem State.reportEnd_leaves (s : State) (c : Cause) :
    (s.reportEnd c).store.header = s.store.header ∧ (s.reportEnd c).store.installed = s.store.installed ∧
    (s.reportEnd c).store.tables = s.store.tables := by
  unfold State.reportEnd
  repeat' split
  all_goals simp

@[simp] theorem State.trainingFailed_leaves (s : State) :
    (s.trainingFailed).store.header = s.store.header ∧
    (s.trainingFailed).store.installed = s.store.installed ∧ (s.trainingFailed).store.tables = s.store.tables := by
  unfold State.trainingFailed
  dsimp only
  repeat' split
  all_goals simp

@[simp] theorem State.retrainEntry_leaves (s : State) (fromFarEnd : Bool) :
    (s.retrainEntry fromFarEnd).store.header = s.store.header ∧
    (s.retrainEntry fromFarEnd).store.installed = s.store.installed ∧
    (s.retrainEntry fromFarEnd).store.tables = s.store.tables := by
  unfold State.retrainEntry
  dsimp only
  repeat' split
  all_goals simp

@[simp] theorem State.rateDecision_leaves (s : State) (r : WindowReport) :
    (s.rateDecision r).store.header = s.store.header ∧
    (s.rateDecision r).store.installed = s.store.installed ∧ (s.rateDecision r).store.tables = s.store.tables := by
  unfold State.rateDecision
  dsimp only
  repeat' split
  all_goals simp

@[simp] theorem State.takeReport_leaves (s : State) (r : WindowReport) :
    (s.takeReport r).store.header = s.store.header ∧ (s.takeReport r).store.installed = s.store.installed ∧
    (s.takeReport r).store.tables = s.store.tables := by
  unfold State.takeReport
  dsimp only
  repeat' split
  all_goals simp

@[simp] theorem State.faxTrimPage_leaves (s : State) :
    (s.faxTrimPage).store.header = s.store.header ∧ (s.faxTrimPage).store.installed = s.store.installed ∧
    (s.faxTrimPage).store.tables = s.store.tables ∧ (s.faxTrimPage).store.mem = s.store.mem := by
  unfold State.faxTrimPage
  repeat' split
  all_goals simp

@[simp] theorem State.faxEnterPage_leaves (s : State) :
    (s.faxEnterPage).store.header = s.store.header ∧ (s.faxEnterPage).store.installed = s.store.installed ∧
    (s.faxEnterPage).store.tables = s.store.tables ∧ (s.faxEnterPage).store.free = s.store.free ∧
    (s.faxEnterPage).store.low = s.store.low ∧ (s.faxEnterPage).store.mem = s.store.mem := by
  unfold State.faxEnterPage
  repeat' split
  all_goals simp

@[simp] theorem State.faxGoodPage_leaves (s : State) (more : Bool) :
    (s.faxGoodPage more).store.header = s.store.header ∧
    (s.faxGoodPage more).store.installed = s.store.installed ∧
    (s.faxGoodPage more).store.tables = s.store.tables ∧ (s.faxGoodPage more).store.free = s.store.free ∧
    (s.faxGoodPage more).store.low = s.store.low ∧ (s.faxGoodPage more).store.mem = s.store.mem := by
  unfold State.faxGoodPage
  dsimp only
  repeat' split
  all_goals simp

@[simp] theorem State.faxBadPage_leaves (s : State) :
    (s.faxBadPage).store.header = s.store.header ∧ (s.faxBadPage).store.installed = s.store.installed ∧
    (s.faxBadPage).store.tables = s.store.tables ∧ (s.faxBadPage).store.mem = s.store.mem := by
  unfold State.faxBadPage
  dsimp only
  repeat' split
  all_goals simp

@[simp] theorem State.faxStoreByte_leaves (s : State) (b : Byte) :
    ((s.faxStoreByte b).1).store.header = s.store.header ∧
    ((s.faxStoreByte b).1).store.installed = s.store.installed ∧
    ((s.faxStoreByte b).1).store.tables = s.store.tables := by
  unfold State.faxStoreByte
  dsimp only
  repeat' split
  all_goals simp

@[simp] theorem State.faxBeginPage_leaves (s : State) :
    (s.faxBeginPage).pump = s.pump := by
  unfold State.faxBeginPage
  dsimp only
  repeat' split
  all_goals simp

@[simp] theorem State.faxSendPage_leaves (s : State) :
    (s.faxSendPage).store.header = s.store.header ∧ (s.faxSendPage).store.installed = s.store.installed ∧
    (s.faxSendPage).store.tables = s.store.tables := by
  unfold State.faxSendPage
  dsimp only
  repeat' split
  all_goals simp

@[simp] theorem State.faxMarkSent_leaves (s : State) :
    (s.faxMarkSent).pump = s.pump := by
  unfold State.faxMarkSent
  dsimp only
  repeat' split
  all_goals simp

@[simp] theorem State.faxSendSecond_leaves (s : State) (b : Byte) :
    (s.faxSendSecond b).pump = s.pump := by
  unfold State.faxSendSecond
  dsimp only
  repeat' split
  all_goals simp

@[simp] theorem State.faxSendByte_leaves (s : State) :
    (s.faxSendByte).pump = s.pump := by
  unfold State.faxSendByte
  dsimp only
  repeat' split
  all_goals simp

@[simp] theorem State.faxPortByte_leaves (s : State) (b : Byte) :
    (s.faxPortByte b).pump = s.pump := by
  have hc := State.joinOutbound_keeps s b
  unfold State.faxPortByte
  dsimp only
  split <;> rename_i he <;> rw [he] at hc <;> dsimp only at hc <;> (try split) <;> simp [hc]

@[simp] theorem State.takeCaps_leaves (s : State) (maxRung resolutions scanMs : Byte) :
    (s.takeCaps maxRung resolutions scanMs).store.header = s.store.header ∧
    (s.takeCaps maxRung resolutions scanMs).store.installed = s.store.installed ∧
    (s.takeCaps maxRung resolutions scanMs).store.tables = s.store.tables := by
  unfold State.takeCaps
  dsimp only
  repeat' split
  all_goals simp

@[simp] theorem State.checkStepDown_leaves (s : State) :
    (s.checkStepDown).store.header = s.store.header ∧ (s.checkStepDown).store.installed = s.store.installed ∧
    (s.checkStepDown).store.tables = s.store.tables := by
  unfold State.checkStepDown
  dsimp only
  repeat' split
  all_goals simp

@[simp] theorem State.judgePage_leaves (s : State) (more : Bool) :
    (s.judgePage more).store.header = s.store.header ∧
    (s.judgePage more).store.installed = s.store.installed ∧
    (s.judgePage more).store.tables = s.store.tables ∧ (s.judgePage more).store.mem = s.store.mem := by
  unfold State.judgePage
  dsimp only
  repeat' split
  all_goals simp

@[simp] theorem State.dataBranch_leaves (s : State) :
    (s.dataBranch).store.header = s.store.header ∧ (s.dataBranch).store.installed = s.store.installed ∧
    (s.dataBranch).store.tables = s.store.tables := by
  unfold State.dataBranch
  dsimp only
  repeat' split
  all_goals simp

@[simp] theorem State.remotePlay_leaves (s : State) (r : Remote) (i : Nat) :
    (s.remotePlay r i).store.header = s.store.header ∧
    (s.remotePlay r i).store.installed = s.store.installed ∧
    (s.remotePlay r i).store.tables = s.store.tables ∧ (s.remotePlay r i).store.free = s.store.free ∧
    (s.remotePlay r i).store.low = s.store.low ∧ (s.remotePlay r i).store.mem = s.store.mem := by
  unfold State.remotePlay
  dsimp only
  repeat' split
  all_goals simp

@[simp] theorem State.becomeRemote_leaves (s : State) :
    (s.becomeRemote).store.header = s.store.header ∧ (s.becomeRemote).store.installed = s.store.installed ∧
    (s.becomeRemote).store.tables = s.store.tables ∧ (s.becomeRemote).pump = s.pump ∧
    (s.becomeRemote).link = s.link := by
  unfold State.becomeRemote
  dsimp only
  all_goals simp

@[simp] theorem State.codeDigit_leaves (s : State) (x : Symbol) :
    (s.codeDigit x).store.header = s.store.header ∧ (s.codeDigit x).store.installed = s.store.installed ∧
    (s.codeDigit x).store.tables = s.store.tables := by
  unfold State.codeDigit
  dsimp only
  repeat' split
  all_goals simp

@[simp] theorem State.remoteList_leaves (s : State) (r : Remote) (use : ListInUse) (list : List Nat) :
    (s.remoteList r use list).store.header = s.store.header ∧
    (s.remoteList r use list).store.installed = s.store.installed ∧
    (s.remoteList r use list).store.tables = s.store.tables ∧ (s.remoteList r use list).pump = s.pump ∧
    (s.remoteList r use list).link = s.link := by
  unfold State.remoteList
  all_goals simp

@[simp] theorem State.remoteNext_leaves (s : State) (r : Remote) :
    (s.remoteNext r).store.header = s.store.header ∧ (s.remoteNext r).store.installed = s.store.installed ∧
    (s.remoteNext r).store.tables = s.store.tables ∧ (s.remoteNext r).pump = s.pump ∧
    (s.remoteNext r).link = s.link := by
  unfold State.remoteNext
  all_goals simp

@[simp] theorem State.remoteDelete_leaves (s : State) (r : Remote) :
    (s.remoteDelete r).store.header = s.store.header ∧
    (s.remoteDelete r).store.installed = s.store.installed ∧
    (s.remoteDelete r).store.tables = s.store.tables ∧ (s.remoteDelete r).pump = s.pump ∧
    (s.remoteDelete r).link = s.link := by
  unfold State.remoteDelete
  repeat' split
  all_goals simp

@[simp] theorem State.remoteDigit_leaves (s : State) (x : Symbol) :
    (s.remoteDigit x).store.header = s.store.header ∧ (s.remoteDigit x).store.installed = s.store.installed ∧
    (s.remoteDigit x).store.tables = s.store.tables := by
  unfold State.remoteDigit
  repeat' split
  all_goals simp

@[simp] theorem State.playToEnd_leaves (s : State) :
    (s.playToEnd).store.header = s.store.header ∧ (s.playToEnd).store.installed = s.store.installed ∧
    (s.playToEnd).store.tables = s.store.tables ∧ (s.playToEnd).store.free = s.store.free ∧
    (s.playToEnd).store.low = s.store.low ∧ (s.playToEnd).store.mem = s.store.mem := by
  unfold State.playToEnd
  dsimp only
  repeat' split
  all_goals simp

@[simp] theorem State.classified_leaves (s : State) (c : CadenceClass) :
    (s.classified c).store.header = s.store.header ∧ (s.classified c).store.installed = s.store.installed ∧
    (s.classified c).store.tables = s.store.tables := by
  unfold State.classified
  dsimp only
  repeat' split
  all_goals simp

@[simp] theorem State.digitToMaster_leaves (s : State) (p : Port) (x : Symbol) :
    (s.digitToMaster p x).store.header = s.store.header ∧
    (s.digitToMaster p x).store.installed = s.store.installed ∧
    (s.digitToMaster p x).store.tables = s.store.tables ∧ (s.digitToMaster p x).pump = s.pump ∧
    (s.digitToMaster p x).link = s.link := by
  unfold State.digitToMaster
  dsimp only
  repeat' split
  all_goals simp

@[simp] theorem State.micSamples_leaves (s : State) (xs : List Sample) :
    (s.micSamples xs).store.header = s.store.header ∧ (s.micSamples xs).store.installed = s.store.installed ∧
    (s.micSamples xs).store.tables = s.store.tables ∧ (s.micSamples xs).store.free = s.store.free ∧
    (s.micSamples xs).store.low = s.store.low := by
  unfold State.micSamples
  dsimp only
  repeat' split
  all_goals simp

@[simp] theorem State.moveCall_leaves (s : State) (p : Port) :
    (s.moveCall p).store.header = s.store.header ∧ (s.moveCall p).store.installed = s.store.installed ∧
    (s.moveCall p).store.tables = s.store.tables ∧ (s.moveCall p).pump = s.pump ∧ (s.moveCall p).link = s.link := by
  unfold State.moveCall
  dsimp only
  repeat' split
  all_goals simp

@[simp] theorem State.hangUpHeld_leaves (s : State) :
    (s.hangUpHeld).store.header = s.store.header ∧ (s.hangUpHeld).store.installed = s.store.installed ∧
    (s.hangUpHeld).store.tables = s.store.tables := by
  unfold State.hangUpHeld
  dsimp only
  repeat' split
  all_goals simp

@[simp] theorem State.pickup_leaves (s : State) :
    (s.pickup).store.header = s.store.header ∧ (s.pickup).store.installed = s.store.installed ∧
    (s.pickup).store.tables = s.store.tables := by
  unfold State.pickup
  repeat' split
  all_goals simp

@[simp] theorem State.releaseChannel_leaves (s : State) (p : Port) :
    (s.releaseChannel p).store.header = s.store.header ∧
    (s.releaseChannel p).store.installed = s.store.installed ∧
    (s.releaseChannel p).store.tables = s.store.tables ∧ (s.releaseChannel p).store.mem = s.store.mem := by
  unfold State.releaseChannel
  repeat' split
  all_goals simp

@[simp] theorem State.judgeDone_leaves (s : State) (p : Port) :
    (s.judgeDone p).store.header = s.store.header ∧ (s.judgeDone p).store.installed = s.store.installed ∧
    (s.judgeDone p).store.tables = s.store.tables ∧ (s.judgeDone p).store.mem = s.store.mem := by
  unfold State.judgeDone
  dsimp only
  repeat' split
  all_goals simp

@[simp] theorem State.pageMarkTaken_leaves (s : State) (p : Port) (id : Nat) :
    (s.pageMarkTaken p id).store.header = s.store.header ∧
    (s.pageMarkTaken p id).store.installed = s.store.installed ∧
    (s.pageMarkTaken p id).store.tables = s.store.tables ∧ (s.pageMarkTaken p id).store.free = s.store.free ∧
    (s.pageMarkTaken p id).store.low = s.store.low ∧ (s.pageMarkTaken p id).store.mem = s.store.mem := by
  unfold State.pageMarkTaken
  dsimp only
  repeat' split
  all_goals simp

@[simp] theorem State.followPageMark_leaves (s : State) (p : Port) (id : Nat) (b : Byte) :
    (s.followPageMark p id b).store.header = s.store.header ∧
    (s.followPageMark p id b).store.installed = s.store.installed ∧
    (s.followPageMark p id b).store.tables = s.store.tables ∧
    (s.followPageMark p id b).store.free = s.store.free ∧ (s.followPageMark p id b).store.low = s.store.low ∧
    (s.followPageMark p id b).store.mem = s.store.mem := by
  unfold State.followPageMark
  repeat' split
  all_goals simp

@[simp] theorem State.closeWrite_leaves (s : State) (p : Port) (id : Nat) :
    (s.closeWrite p id).store.header = s.store.header ∧
    (s.closeWrite p id).store.installed = s.store.installed ∧
    (s.closeWrite p id).store.tables = s.store.tables ∧ (s.closeWrite p id).store.mem = s.store.mem := by
  unfold State.closeWrite
  dsimp only
  repeat' split
  all_goals simp

@[simp] theorem State.endRead_leaves (s : State) (p : Port) :
    (s.endRead p).store.header = s.store.header ∧ (s.endRead p).store.installed = s.store.installed ∧
    (s.endRead p).store.tables = s.store.tables ∧ (s.endRead p).store.mem = s.store.mem := by
  unfold State.endRead
  repeat' split
  all_goals simp

@[simp] theorem State.abortChannel_leaves (s : State) (p : Port) :
    (s.abortChannel p).store.header = s.store.header ∧
    (s.abortChannel p).store.installed = s.store.installed ∧
    (s.abortChannel p).store.tables = s.store.tables ∧ (s.abortChannel p).store.mem = s.store.mem := by
  unfold State.abortChannel
  dsimp only
  repeat' split
  all_goals simp

@[simp] theorem State.resetClaims_leaves (s : State) (p : Port) :
    (s.resetClaims p).store.header = s.store.header ∧ (s.resetClaims p).store.installed = s.store.installed ∧
    (s.resetClaims p).store.tables = s.store.tables := by
  unfold State.resetClaims
  dsimp only
  repeat' split
  all_goals simp

@[simp] theorem State.resetVoice_leaves (s : State) (p : Port) :
    (s.resetVoice p).store.header = s.store.header ∧ (s.resetVoice p).store.installed = s.store.installed ∧
    (s.resetVoice p).store.tables = s.store.tables ∧ (s.resetVoice p).pump = s.pump ∧
    (s.resetVoice p).link = s.link := by
  unfold State.resetVoice
  repeat' split
  all_goals simp

@[simp] theorem State.portReset_leaves (s : State) (p : Port) :
    (s.portReset p).store.header = s.store.header ∧ (s.portReset p).store.installed = s.store.installed ∧
    (s.portReset p).store.tables = s.store.tables := by
  unfold State.portReset
  all_goals simp

@[simp] theorem State.escapeExpiry_leaves (s : State) :
    (s.escapeExpiry).pump = s.pump ∧ (s.escapeExpiry).link = s.link := by
  unfold State.escapeExpiry
  dsimp only
  repeat' split
  all_goals simp

@[simp] theorem State.portByte_leaves (s : State) (b : Byte) :
    (s.portByte b).pump = s.pump := by
  unfold State.portByte
  repeat' split
  all_goals simp

@[simp] theorem State.markLeaves_leaves (s : State) :
    (s.markLeaves).pump = s.pump ∧ (s.markLeaves).link = s.link := by
  unfold State.markLeaves
  dsimp only
  repeat' split
  all_goals simp

@[simp] theorem State.inboundLeaves_leaves (s : State) :
    (s.inboundLeaves).pump = s.pump := by
  unfold State.inboundLeaves
  dsimp only
  all_goals simp

@[simp] theorem State.ccuPowerLow_leaves (s : State) :
    (s.ccuPowerLow).store.header = s.store.header ∧ (s.ccuPowerLow).store.installed = s.store.installed ∧
    (s.ccuPowerLow).store.tables = s.store.tables := by
  unfold State.ccuPowerLow
  dsimp only
  repeat' split
  all_goals simp

end Sys2Proof.Machine
end

section
/-! PROOFS. What the end of a voice operation and the end of a call leave (R18, R154 to R158). -/

namespace Sys2Proof.Machine

/-! ### The bytes that a recording writes (R151, R156) -/

/-- A write leaves what stands at every other address. -/
theorem Mem.read_write_of_ne {a x : Nat} (hx : x ≠ a) (m : List Host.Cell) (b : Byte) :
    Mem.read (Mem.write m a b) x = Mem.read m x := by
  have hax : ¬a = x := fun h => hx h.symm
  induction m with
  | nil =>
    unfold Mem.write
    split <;> simp [Mem.read, hax]
  | cons c rest ih =>
    unfold Mem.write
    split
    · split <;> simp [Mem.read, hax]
    split
    · next hc => split <;> simp [Mem.read, hax, ← hc]
    · simp only [Mem.read, ih]

/-- Two memories agree outside the granules of a list. -/
def SameOutside (gs : List Nat) (s t : State) : Prop :=
  ∀ a, a / 1024 ∉ gs → Mem.read t.store.mem a = Mem.read s.store.mem a

theorem SameOutside.of_mem {gs : List Nat} {s t : State} (h : t.store.mem = s.store.mem) : SameOutside gs s t :=
  fun _ _ => by rw [h]

theorem SameOutside.trans {gs : List Nat} {s t u : State} (h : SameOutside gs s t) (h' : SameOutside gs t u) :
    SameOutside gs s u :=
  fun a ha => (h' a ha).trans (h a ha)

theorem State.writeMem_outside {gs : List Nat} {s : State} {a : Nat} (ha : a / 1024 ∈ gs) (b : Byte) :
    SameOutside gs s (s.writeMem a b) :=
  fun _ hx => Mem.read_write_of_ne (fun hxa => hx (by rw [hxa]; exact ha)) _ _

theorem State.writeMemAll_outside {gs : List Nat} (bs : List Byte) {s : State} {a : Nat}
    (ha : ∀ i < bs.length, (a + i) / 1024 ∈ gs) : SameOutside gs s (s.writeMemAll a bs) := by
  induction bs generalizing s a with
  | nil => exact .of_mem rfl
  | cons b rest ih =>
    have hfirst := State.writeMem_outside (s := s) (ha 0 (by simp)) b
    refine hfirst.trans (ih fun i hi => ?_)
    rw [Nat.add_assoc, Nat.add_comm 1 i]
    exact ha (i + 1) (by simpa using hi)

/-- A byte of an entry stands in one of its granules, with those that follow it in the granule. -/
theorem Entry.address_granule {e : Entry} {o i : Nat} (ho : o / 1024 < e.granules.length) (hi : o % 1024 + i < 1024) :
    (e.address o + i) / 1024 ∈ e.granules := by
  have hg : (e.address o + i) / 1024 = e.granules.getD (o / 1024) 0 := by
    simp only [Entry.address, granuleAddress, Config.granuleBytes]
    omega
  rw [hg, List.getD_eq_getElem _ _ ho]
  exact List.getElem_mem ho

/-- R151: the header of a granule is four bytes. -/
theorem codecHeader_length (c : Codec) : (codecHeader c).length = 4 := by
  simp [codecHeader, leBytes]

/-- R165: an entry changed under its id is found as it now is. -/
theorem State.updEntry_find (s : State) (id : Nat) {g : Entry → Entry} (hg : ∀ e, (g e).id = e.id) :
    (s.updEntry id g).store.find id = (s.store.find id).map g := by
  have hid (e : Entry) : (if e.id = id then g e else e).id = e.id := by split <;> simp [hg]
  simp only [State.updEntry, Store.find]
  induction s.store.dir with
  | nil => rfl
  | cons e rest ih =>
    by_cases he : e.id = id
    · simp [he, hg]
    · simpa [he, hid] using ih

/-- The granules that a recording in hand writes to are those of its entry. -/
def State.writesIn (s : State) (id : Nat) (gs : List Nat) : Prop := ∀ e, s.store.find id = some e → e.granules = gs

/-- R151: each granule holds 1020 code bytes. -/
theorem codeOffset_div (n : Nat) : codeOffset n / 1024 = n / 1020 := by
  simp only [codeOffset, Config.granuleCodes, Config.granuleBytes, Config.codecHeaderBytes]
  omega

/-- R151: a byte of code, with the length that it gives the entry, is written within the entry. -/
theorem State.codeByte_outside {s : State} {id n : Nat} {e : Entry} {gs : List Nat} (hgs : s.writesIn id gs)
    (hgran : e.granules = gs) (hroom : n / Config.granuleCodes < e.granules.length) (b : Byte) (o : Nat) :
    SameOutside gs s ((s.writeMem (e.address (codeOffset n)) b).updEntry id (fun e => { e with length := o })) ∧
      ((s.writeMem (e.address (codeOffset n)) b).updEntry id (fun e => { e with length := o })).writesIn id gs := by
  constructor
  · have hgranule := Entry.address_granule (e := e) (o := codeOffset n) (i := 0) (by simpa [codeOffset_div] using hroom)
      (by omega)
    rw [Nat.add_zero, hgran] at hgranule
    exact fun a ha => Mem.read_write_of_ne (fun hxa => ha (by rw [hxa]; exact hgranule)) _ _
  · intro e' he'
    rw [State.updEntry_find _ _ (by simp)] at he'
    obtain ⟨e0, he0, rfl⟩ := Option.map_eq_some_iff.1 he'
    exact hgs e0 he0

/-- R151: a code byte, and the header before it, are written within the entry. -/
theorem State.writeCode_outside {s t : State} {id : Nat} {c : CodeByte} {gs : List Nat} (hgs : s.writesIn id gs)
    (h : s.writeCode id c = some t) : SameOutside gs s t ∧ t.writesIn id gs := by
  unfold State.writeCode at h
  split at h
  · cases h
  next e he =>
  have hgran := hgs e he
  dsimp only at h
  split at h
  next hroom =>
    generalize hu : (if s.voice.op.written % Config.granuleCodes = 0 then
      s.writeMemAll (e.address (s.voice.op.written / Config.granuleCodes * Config.granuleBytes)) (codecHeader c.before)
      else s) = u at h
    have hheader : SameOutside gs s u ∧ u.writesIn id gs := by
      subst hu
      split
      · refine ⟨State.writeMemAll_outside _ fun i hi => ?_, fun e' he' => hgs e' ?_⟩
        · rw [codecHeader_length] at hi
          rw [← hgran]
          exact Entry.address_granule (by simpa using hroom) (by simp; omega)
        · simpa [Store.find] using he'
      · exact ⟨.of_mem rfl, hgs⟩
    have hbyte := State.codeByte_outside hheader.2 hgran hroom (BitVec.ofNat 8 c.code) (codeOffset s.voice.op.written + 1)
    generalize State.updEntry _ id _ = v at h hbyte
    cases h
    exact ⟨hheader.1.trans (hbyte.1.trans (.of_mem rfl)), hbyte.2⟩
  · cases h

theorem State.flushCodes_outside {id : Nat} {gs : List Nat} (cs : List CodeByte) {s : State} (hgs : s.writesIn id gs) :
    SameOutside gs s (s.flushCodes id cs) := by
  induction cs generalizing s with
  | nil => exact .of_mem rfl
  | cons c rest ih =>
    unfold State.flushCodes
    split
    · next t ht =>
      obtain ⟨hout, hin⟩ := State.writeCode_outside hgs ht
      exact hout.trans (ih hin)
    · exact .of_mem rfl

/-- The granules of the message that the voice operation has in hand are all in a list. -/
def State.recordsIn (s : State) (gs : List Nat) : Prop := ∀ id, s.voice.op.message = some id → s.writesIn id gs

theorem State.flushRecording_outside {s : State} {gs : List Nat} (h : s.recordsIn gs) : SameOutside gs s s.flushRecording := by
  unfold State.flushRecording
  split
  · next id hid => exact (State.flushCodes_outside _ (h id hid)).trans (.of_mem rfl)
  · exact .of_mem rfl

theorem State.closeHalfByte_outside {s : State} {gs : List Nat} (h : s.recordsIn gs) : SameOutside gs s s.closeHalfByte := by
  unfold State.closeHalfByte
  split
  · exact .of_mem rfl
  · next x _ =>
    exact State.flushRecording_outside
      (s := { s with voice.op.halfByte := none, voice.op.waiting := s.voice.op.waiting ++ [x] }) h

theorem State.keepRules_outside {s : State} {gs : List Nat} (h : s.recordsIn gs) : SameOutside gs s s.keepRules.1 := by
  have hclosed : SameOutside gs s s.stopT6.closeHalfByte := State.closeHalfByte_outside (s := s.stopT6) h
  refine hclosed.trans (.of_mem ?_)
  unfold State.keepRules
  dsimp only
  repeat' split
  all_goals simp

/-- R156: the end of a voice operation writes within the message in hand. -/
theorem State.endVoice_outside {s : State} {gs : List Nat} (h : s.recordsIn gs) (r : VoiceReason) :
    SameOutside gs s (s.endVoice r).1 := by
  unfold State.endVoice
  dsimp only
  split
  · exact .of_mem rfl
  · exact (State.keepRules_outside h).trans (.of_mem (by simp))
  · refine .of_mem ?_
    split <;> simp
  · exact .of_mem rfl

theorem bytesKept_of_outside {s t : State} (h : ∀ gs, s.recordsIn gs → SameOutside gs s t) : BytesKept s t := by
  intro a ha
  refine h (((s.voice.op.message.bind s.store.find).map Entry.granules).getD []) ?_ a ?_
  · intro id hid e he
    simp [hid, he]
  · cases hm : s.voice.op.message.bind s.store.find with
    | none => simp
    | some e =>
      obtain ⟨id, hid, he⟩ := Option.bind_eq_some_iff.1 hm
      exact ha id e hid he

theorem BytesKept.trans_mem {s t u : State} (h : BytesKept s t) (hmem : u.store.mem = t.store.mem) : BytesKept s u :=
  fun a ha => by rw [hmem]; exact h a ha

/-- R156: the end of a voice operation leaves the bytes outside the message in hand. -/
theorem State.endVoice_bytes (s : State) (r : VoiceReason) : BytesKept s (s.endVoice r).1 :=
  bytesKept_of_outside fun _ h => State.endVoice_outside h r

/-! ### The end of a voice operation -/

theorem State.endVoice_none {s : State} (h : s.voice.op.operation = none) (r : VoiceReason) : (s.endVoice r).1 = s := by
  simp [State.endVoice, h]

/-- R154 to R158: the parts that the end of a voice operation may change. -/
theorem State.endVoice_same (s : State) (r : VoiceReason) : SameBut (.voiceOp :: voiceEndParts s) s (s.endVoice r).1 := by
  by_cases h : s.voice.op.operation = none
  · rw [State.endVoice_none h]
    exact .refl _ s
  · simp only [voiceEndParts, h, if_false]
    exact .of_parts (by simp)

/-! ### The end of a call (R18) -/

/-- R152: the end of an operation leaves none in hand. -/
theorem State.endVoice_operation (s : State) (r : VoiceReason) : (s.endVoice r).1.voice.op.operation = none := by
  unfold State.endVoice
  dsimp only
  split
  · assumption
  · simp [VoiceOp.ended]
  · simp [VoiceOp.ended]
  · rfl

@[simp] theorem State.dropAuto_user (s : State) : s.dropAuto.voice.op.user ≠ some .auto := by
  unfold State.dropAuto
  split
  · simp
  · assumption

@[simp] theorem State.stopT0_off (s : State) : s.stopT0.timers.e0.mode = .off ∧ s.stopT0.timers.e0.high = false :=
  ⟨rfl, rfl⟩

@[simp] theorem State.stopT2_off (s : State) : s.stopT2.timers.e2.mode = .off ∧ s.stopT2.ccu.t2Use = .none := ⟨rfl, rfl⟩

@[simp] theorem State.stopT3_off (s : State) : s.stopT3.timers.e3.mode = .off := rfl

@[simp] theorem State.stopT4_off (s : State) : s.stopT4.timers.e4.mode = .off := rfl

/-- R35: a load of T2 leaves it loaded. -/
theorem State.loadT2_loaded (s : State) (use : T2Use) (ms : Nat) (restart : RestartSource) :
    (s.loadT2 use ms restart).LoadedT2 use ms restart := ⟨rfl, rfl, rfl, rfl, rfl, rfl⟩

/-- R18: what the stop of a job's engines leaves of them. -/
theorem State.stopEngines_engines (s : State) :
    s.stopEngines.pump = .idle ∧ s.stopEngines.link = .idle s.link.stats ∧ s.stopEngines.tone.generator = .idle ∧
      s.stopEngines.ccu.dialler.item = .none ∧ s.stopEngines.level.feed = .off ∧ s.stopEngines.timers.e0.mode = .off ∧
      s.stopEngines.rau.discr = none ∧ s.stopEngines.voice.remote = none ∧ s.stopEngines.voice.op.user ≠ some .auto := by
  unfold State.stopEngines
  dsimp only
  split <;> split <;> simp [State.resetPump, State.resetLink, State.silence, LevelMeter.stopFeed]

/-- R131: the close of a fax session leaves it in no phase. -/
@[simp] theorem State.closeFax_phase (s : State) : s.closeFax.fax.phase = none := rfl

/-- R131: a fax session ends with its call, and another call leaves the record. -/
theorem State.stopEngines_fax (s : State) :
    s.stopEngines.fax.phase = if s.ccu.call.job = .fax then none else s.fax.phase := by
  unfold State.stopEngines
  dsimp only
  split
  · by_cases hjob : s.ccu.call.job = .fax <;> simp [hjob, State.resetPump, State.resetLink, State.silence]
  · by_cases hjob : s.ccu.call.job = .fax <;> simp [hjob, State.resetPump, State.resetLink, State.silence]

/-- R18: an operation to the line ends with the call. -/
theorem State.stopEngines_voice {s : State} (h : s.voice.op.endpoint = some .line) :
    s.stopEngines.voice.op.operation = none := by
  have hended : (s.endVoice .stopped).1.dropAuto.voice.op.operation = none := by
    unfold State.dropAuto
    split <;> exact State.endVoice_operation _ _
  unfold State.stopEngines
  dsimp only
  rw [if_pos (show s.voice.op.endpoint = some .line ∨ s.voice.op.user = some .auto from .inl h)]
  split <;> simpa [State.resetPump, State.resetLink, State.silence] using hended

/-- R18: without a voice operation and a fax, the stop of the engines leaves the store and the linked message. -/
theorem State.stopEngines_store {s : State} (hvoice : s.voice.op.operation = none) (hjob : s.ccu.call.job ≠ .fax) :
    s.stopEngines.store = s.store ∧ s.stopEngines.ports = s.ports ∧ s.stopEngines.voice.resume = s.voice.resume ∧
      s.stopEngines.ccu.call.linkedId = s.ccu.call.linkedId := by
  unfold State.stopEngines
  dsimp only
  split <;> simp [State.endVoice_none hvoice, hjob, State.resetPump, State.resetLink, State.silence]

theorem State.stopEngines_bytes (s : State) : BytesKept s s.stopEngines := by
  unfold State.stopEngines
  dsimp only
  split
  · refine (State.endVoice_bytes s .stopped).trans_mem ?_
    split <;> simp [State.resetPump, State.resetLink, State.silence]
  · refine (show BytesKept s s from fun _ _ => rfl).trans_mem ?_
    split <;> simp [State.resetPump, State.resetLink, State.silence]

/-- R17: the record of a call whose engines have been stopped differs at most in its linked message. -/
theorem State.stopEngines_call (s : State) :
    s.stopEngines.ccu.call = { s.ccu.call with linkedId := s.stopEngines.ccu.call.linkedId } := by
  have hkept := s.stopEngines_keeps
  generalize s.stopEngines.ccu.call = r at hkept ⊢
  cases r
  simp_all

/-- R18, step 1: the cause of the call is fixed. -/
def State.causeFixed (s : State) (c : Cause) : State := { s with ccu.call.cause := some c, ccu.ending := none }

theorem State.causeFixed_same (s : State) (c : Cause) : SameBut (endParts s) s (s.causeFixed c) := by
  unfold State.causeFixed
  exact .of_parts (by simp [endParts])

/-- R18: what the end of a call does once the engines have been stopped. -/
def State.released (u : State) (c : Cause) : State :=
  let v := State.loadT2 { u.openRelay with ccu.line := .releasing } .guard Config.guardMs .none
  (State.raiseBoth { v with ccu.call.active := false,
                            ccu.history := addHistory v.ccu.history (v.ccu.call.historyEntry c) } .callState).toCommand

/-- R18: an active call ends with the cause that stands. -/
theorem State.callEnd_eq {s : State} (hactive : s.ccu.call.active = true) (c : Cause) :
    s.callEnd c = (s.causeFixed (s.finalCause c)).stopEngines.released (s.finalCause c) := by
  simp [State.callEnd, hactive, State.released, State.causeFixed]

theorem State.released_ccu (u : State) (c : Cause) :
    (u.released c).ccu =
      { u.ccu with line := .releasing, call := { u.ccu.call with active := false }, t2Use := .guard,
                   history := addHistory u.ccu.history (u.ccu.call.historyEntry c) } := rfl

/-- R18: the parts that the release of the line changes. -/
theorem State.released_same (u : State) (c : Cause) :
    SameBut [.line, .call, .history, .ccuRest, .lif, .timer 1, .timer 2, .timer 5, .level, .notices .panel, .systemPort] u
      (u.released c) := by
  unfold State.released
  exact .of_parts (by simp)

/-- R154: only a master's LOCAL play leaves a resume record. -/
theorem State.saveResume_line {s : State} (h : s.voice.op.endpoint = some .line ∨ s.voice.op.user = some .auto)
    (r : VoiceReason) : s.saveResume r = s := by
  unfold State.saveResume
  split
  · rfl
  · next hlocal _ => simp_all
  · rfl

theorem State.endVoice_resume {s : State} (h : s.voice.op.endpoint = some .line ∨ s.voice.op.user = some .auto)
    (r : VoiceReason) : (s.endVoice r).1.voice.resume = s.voice.resume := by
  unfold State.endVoice
  dsimp only
  split
  · rfl
  · simp
  · rw [State.saveResume_line h]
    split <;> simp
  · rfl

theorem State.stopEngines_resume (s : State) : s.stopEngines.voice.resume = s.voice.resume := by
  unfold State.stopEngines
  dsimp only
  split
  · next h => split <;> simp [State.endVoice_resume h]
  · split <;> simp

/-- R18: the parts that the stop of a job's engines changes. -/
theorem State.stopEngines_same (s : State) : SameBut (endParts s) s s.stopEngines := by
  have hresume := s.stopEngines_resume
  have hlink := (s.stopEngines_engines).2.1
  by_cases h : s.voice.op.operation = none ∧ s.ccu.call.job ≠ .fax
  · obtain ⟨hstore, hports, -, -⟩ := State.stopEngines_store h.1 h.2
    simp only [endParts, if_pos h, List.append_nil]
    exact .of_parts (by simp [hlink, Link.idle, hresume, hstore, hports])
  · simp only [endParts, if_neg h]
    exact .of_parts (by simp [hlink, Link.idle, hresume])

/-- R18: the end of the active call. -/
theorem State.callEnd_final {s : State} (hactive : s.ccu.call.active = true) (c : Cause) :
    CallEnded [] s (s.callEnd c) (s.finalCause c) := by
  rw [State.callEnd_eq hactive]
  generalize s.finalCause c = c
  obtain ⟨hpump, hlink, hgen, hitem, hfeed, hzero, hdiscr, hremote, huser⟩ :=
    State.stopEngines_engines (s.causeFixed c)
  have hcall := State.stopEngines_call (s.causeFixed c)
  refine
    { line := rfl
      relay := ⟨rfl, hzero⟩
      call := ⟨?_, ?_⟩
      linked := fun hjob hvoice => ?_
      history := ?_
      guard := State.loadT2_loaded _ _ _ _
      engines := ⟨hpump, hlink, hgen, hitem, ?_, ?_⟩
      answering := ⟨hdiscr, hremote, huser⟩
      voice := fun hendpoint _ => ?_
      detectors := ?_
      port := ⟨rfl, rfl, rfl⟩
      notice := fun p => ?_
      bytes := ?_
      frame := ?_ }
  · rw [State.released_ccu, hcall]
    rfl
  · simp [State.released_ccu, State.causeFixed]
  · rw [State.released_ccu]
    exact (State.stopEngines_store (s := s.causeFixed c) hvoice hjob).2.2.2
  · rw [State.released_ccu]
    simp [State.causeFixed, addHistory, CallRecord.historyEntry, CallRecord.endedEntry]
  · exact hfeed
  · exact State.stopEngines_fax (s.causeFixed c)
  · exact State.stopEngines_voice (s := s.causeFixed c) hendpoint
  · exact State.stopEngines_detectors (s.causeFixed c)
  · exact State.raiseBoth_noticed _ .callState p
  · exact (State.stopEngines_bytes (s.causeFixed c)).trans_mem rfl
  · rw [List.append_nil]
    exact ((s.causeFixed_same c).trans (State.stopEngines_same (s.causeFixed c))).trans
      ((State.released_same _ _).mono (by simp [endParts]))

/-- R18: with no end in progress the cause is the one given. -/
theorem State.callEnd_ended {s : State} (hactive : s.ccu.call.active = true) (hending : s.ccu.ending = none) (c : Cause) :
    CallEnded [] s (s.callEnd c) c := by
  have h := State.callEnd_final hactive c
  rwa [State.finalCause, hending] at h

/-- R18: an engine's report ends the call while no end is in progress. -/
theorem State.reportEnd_ended {s : State} (hactive : s.ccu.call.active = true) (hending : s.ccu.ending = none) (c : Cause) :
    CallEnded [] s (s.reportEnd c) c := by
  rw [State.reportEnd, if_pos hending]
  exact State.callEnd_ended hactive hending c

/-- R181: an ended call has ended when the step's notice has been delivered. -/
theorem CallEnded.finish {more : List Part} {s t : State} {c : Cause} (h : CallEnded more s t c) :
    CallEnded more s t.deliverSystem c where
  line := by simpa using h.line
  relay := by simpa using h.relay
  call := by simpa using h.call
  linked := by simpa using h.linked
  history := by simpa using h.history
  guard := by simpa [State.LoadedT2] using h.guard
  engines := by simpa using h.engines
  answering := by simpa using h.answering
  voice := by simpa using h.voice
  detectors := by simpa using h.detectors
  port := by simpa using h.port
  notice p := (h.notice p).deliverSystem
  bytes := h.bytes.trans_mem (by simp)
  frame := h.frame.finish

/-- R177: the reply to the command that ended the call. -/
theorem CallEnded.reply {s t : State} {c : Cause} (h : CallEnded [] s t c) (p : Port) (code : Byte) (r : Reply) :
    CallEnded [.outgoing p] s (t.reply p code r) c where
  line := h.line
  relay := h.relay
  call := h.call
  linked := h.linked
  history := h.history
  guard := h.guard
  engines := h.engines
  answering := h.answering
  voice := h.voice
  detectors := h.detectors
  port := h.port
  notice q := (h.notice q).reply p code r
  bytes := h.bytes.trans_mem rfl
  frame := (h.frame.mono (by simp)).trans ((t.reply_same p code r).mono (by simp))

/-- A call that has ended, seen from a state before it with the same call, statistics and operation. -/
theorem CallEnded.of_before {more : List Part} {s s' t : State} {c : Cause} (h : CallEnded [] s' t c)
    (hsame : SameBut (endParts s ++ more) s s')
    (hcall : s'.ccu.call = s.ccu.call) (hhistory : s'.ccu.history = s.ccu.history)
    (hstats : s'.link.stats = s.link.stats) (hop : s'.voice.op = s.voice.op)
    (hdir : s'.store.dir = s.store.dir)
    (hmem : ∀ a, Mem.read s'.store.mem a = Mem.read s.store.mem a)
    (hfax : s'.ccu.call.job = .fax ∨ s'.fax.phase = s.fax.phase) :
    CallEnded more s t c where
  line := h.line
  relay := h.relay
  call := hcall ▸ h.call
  linked := by simpa only [hcall, hop] using h.linked
  history := by simpa only [hcall, hhistory] using h.history
  guard := h.guard
  engines := by
    obtain ⟨h1, h2, h3, h4, h5, h6⟩ := h.engines
    refine ⟨h1, by rw [h2, hstats], h3, h4, h5, ?_⟩
    rw [h6, hcall]
    rcases hfax with hjob | hphase
    · simp [← hcall, hjob]
    · rw [hphase]
  answering := h.answering
  voice := by simpa only [hop] using h.voice
  detectors := h.detectors
  port := h.port
  notice := h.notice
  bytes := by
    intro a ha
    rw [h.bytes a (by simpa only [hop, Store.find, hdir] using ha), hmem]
  frame := by
    have hparts : endParts s' ++ [] ⊆ endParts s ++ more := by
      rw [List.append_nil, endParts, endParts, hop, hcall]
      exact List.subset_append_left _ _
    exact hsame.trans (h.frame.mono hparts)

/-- A call that has ended after a step that leaves the call, the history, the statistics, the session, the operation and the
store's entries and bytes. -/
theorem CallEnded.after {early : List Part} {s s' t : State} {c : Cause} (h : CallEnded [] s' t c)
    (hsame : SameBut early s s') {more : List Part} (hearly : early ⊆ endParts s ++ more)
    (hkeeps : ∀ x ∈ [Part.call, .history, .stats, .fax, .voiceOp, .directory, .memory], x ∉ early) :
    CallEnded more s t c :=
  have hpart (x : Part) (hx : x ∈ [Part.call, .history, .stats, .fax, .voiceOp, .directory, .memory])
      (hn : x ≠ .notices .system) : x.Same s s' := hsame x (hkeeps x hx) hn
  h.of_before (hsame.mono hearly) (hpart .call (by simp) (by simp)) (hpart .history (by simp) (by simp))
    (hpart .stats (by simp) (by simp)) (hpart .voiceOp (by simp) (by simp)) (hpart .directory (by simp) (by simp))
    (hpart .memory (by simp) (by simp)) (.inr (congrArg Fax.phase (hpart .fax (by simp) (by simp))))

end Sys2Proof.Machine
end

section
/-! PROOFS. The events of the Timer Bank that the dialling and the calls wait for (R3, R5, R18, R28, R42 to R46, R60). -/

namespace Sys2Proof.Machine

/-! ### Events taken -/

/-- R26: a one-shot's event is there for its owner. -/
theorem Channel.takeA_of_due {c : Channel} (h : c.Due) (own : Nat) : ∃ d, c.takeA own = some d := by
  unfold Channel.takeA
  rcases h with h | h
  · simp [h]
  · by_cases hs : c.signalA = true <;> simp [h, hs, Channel.nextEvent]

/-- R35: T2's event for the use last loaded is taken. -/
theorem State.takeT2_of_due {s : State} {use : T2Use} (h : s.DueT2 use) :
    ∃ c, s.takeT2 use = some { s with timers.e2 := c } := by
  obtain ⟨huse, hdue⟩ := h
  obtain ⟨c, hc⟩ := Channel.takeA_of_due hdue 2
  exact ⟨c, by simp [State.takeT2, huse, hc]⟩

/-- R3, R46: so is that of either wait for dial tone. -/
theorem State.takeToneWait_of_due {s : State} (h : s.DueT2 .dialToneWait ∨ s.DueT2 .waitTone) :
    ∃ c, s.takeToneWait = some { s with timers.e2 := c } := by
  rcases h with h | h
  · obtain ⟨c, hc⟩ := State.takeT2_of_due h
    exact ⟨c, by simp [State.takeToneWait, hc]⟩
  · obtain ⟨c, hc⟩ := State.takeT2_of_due h
    refine ⟨c, ?_⟩
    have hnone : s.takeT2 .dialToneWait = none := by simp [State.takeT2, h.1]
    simp [State.takeToneWait, hnone, hc]

/-! ### The expiries that end a call (R18) -/

/-- R18: a call whose timer's expiry has been taken ends, seen from before. -/
theorem State.reportEnd_taken {s u : State} (hactive : s.ccu.call.active = true) (hending : s.ccu.ending = none)
    (hsame : SameBut [.timer 2, .timer 4] s u) (cause : Cause) :
    CallEnded [] s (u.reportEnd cause).deliverSystem cause := by
  have hcall : u.ccu.call = s.ccu.call := hsame .call (by simp) (by simp)
  have hrest := hsame .ccuRest (by simp) (by simp)
  have hended := State.reportEnd_ended (s := u) (by rw [hcall, hactive]) (by rw [hrest.2.1, hending]) cause
  exact (hended.after hsame (by simp [endParts]) (by simp)).finish

/-- R18, R35: the expiry of T2 has been taken. -/
theorem State.takenT2_same (s : State) (c : Channel) : SameBut [.timer 2] s { s with timers.e2 := c } := .of_parts (by simp)

/-- Settles O37: each expiry is taken, and its row reports the end with its cause. -/
theorem conditionsEndTheCall : Obligations.ConditionsEndTheCall := by
  intro s hactive hending
  have hend {u : State} := State.reportEnd_taken (u := u) hactive hending
  refine ⟨fun hdue => ?_, fun hdue hline => ?_, fun hdue hphase => ?_, fun hphase htone => ?_, fun hdue hphase => ?_,
    fun hdue hphase => ?_⟩
  · obtain ⟨c, hc⟩ := State.takeToneWait_of_due hdue
    refine ⟨_, ?_, hend ((s.takenT2_same c).mono (by simp)) .noDialTone⟩
    show execDialToneWaitExpiry s = _
    simp [execDialToneWaitExpiry, hc, Machine.finish]
  · obtain ⟨c, hc⟩ := State.takeT2_of_due hdue
    refine ⟨_, ?_, hend ((s.takenT2_same c).mono (by simp)) .noAnswer⟩
    show execNoAnswerExpiry s = _
    simp [execNoAnswerExpiry, hc, hline, Machine.finish]
  · obtain ⟨c, hc⟩ := Channel.takeA_of_due hdue 4
    refine ⟨_, ?_, hend (u := { s with timers.e4 := c }) (.of_parts (by simp)) .carrierLost⟩
    show execCarrierLossExpiry s = _
    simp [execCarrierLossExpiry, hc, hphase, Machine.finish]
  · refine ⟨_, ?_, hend (.refl _ s) .lineTooNoisy⟩
    show execHandshakeTimeout s = _
    simp [execHandshakeTimeout, hphase, htone, Machine.finish]
  · obtain ⟨c, hc⟩ := State.takeT2_of_due hdue
    refine ⟨_, ?_, hend ((s.takenT2_same c).mono (by simp)) .faxPageFailed⟩
    show execFaxPageStallExpiry s = _
    simp [execFaxPageStallExpiry, hc, hphase, Machine.finish]
  · obtain ⟨c, hc⟩ := State.takeT2_of_due hdue
    refine ⟨_, ?_, hend ((s.takenT2_same c).mono (by simp)) .faxPageFailed⟩
    show execFaxNextDecisionExpiry s = _
    simp [execFaxNextDecisionExpiry, hc, hphase, Machine.finish]

/-! ### Dial items (R42 to R46) -/

/-- R42: what the start of an item leaves is judged by the settings only. -/
theorem State.ItemStarted.congr {s u t : State} {i : Option DialItem} (h : u.ItemStarted t i)
    (hsettings : s.settings = u.settings) : s.ItemStarted t i := by
  unfold State.ItemStarted at *
  rw [hsettings]
  exact h

/-- R181: the delivery of a notice changes nothing of that. -/
theorem State.ItemStarted.finish {s t : State} {i : Option DialItem} (h : s.ItemStarted t i) :
    s.ItemStarted t.deliverSystem i := by
  unfold State.ItemStarted State.relayNow at *
  simpa [State.LoadedT2] using h

/-- R43: the one break of a pulse digit 1. -/
theorem breaksOf_eq_one (x : Symbol) : breaksOf x = 1 ↔ x.val = 1 := by
  unfold breaksOf
  split <;> omega

/-- R43 to R46: an item starts. -/
theorem State.startItem_started (s : State) (i : DialItem) : s.ItemStarted (s.startItem i) (some i) := by
  cases i with
  | pulse x =>
    by_cases hx : x.val = 1
    · simp [State.ItemStarted, State.startItem, State.startPulse, breaksOf_eq_one, hx, State.writeLastMake, State.loadT0,
        Channel.load, Channel.writePreloadB, State.relayNow, Lif.openForBreak, Lif.suspend]
    · simp [State.ItemStarted, State.startItem, State.startPulse, breaksOf_eq_one, hx, State.loadT0, Channel.load,
        State.relayNow, Lif.openForBreak, Lif.suspend]
  | tone x => simp [State.ItemStarted, State.startItem, State.startTone, State.loadT0, Channel.load]
  | pause => exact ⟨rfl, State.loadT2_loaded _ _ _ _⟩
  | waitTone => exact ⟨rfl, State.loadT2_loaded _ _ _ _, rfl⟩
  | flash =>
    simp [State.ItemStarted, State.startItem, State.startFlash, State.loadT0, Channel.load, State.relayNow,
      Lif.openForBreak, Lif.suspend]

/-- R43 to R46: the parts that the start of an item changes. -/
theorem State.startItem_same (s : State) (i : DialItem) : SameBut (itemParts (some i)) s (s.startItem i) := by
  cases i with
  | pulse x =>
    unfold State.startItem State.startPulse itemParts
    dsimp only
    split
    · unfold State.writeLastMake
      exact .of_parts (by simp)
    · exact .of_parts (by simp)
  | tone x =>
    unfold State.startItem State.startTone itemParts
    exact .of_parts (by simp)
  | flash =>
    unfold State.startItem State.startFlash itemParts
    exact .of_parts (by simp)
  | pause | waitTone =>
    unfold State.startItem itemParts
    exact .of_parts (by simp)

/-- R3, R42: the line enters PROGRESS. -/
theorem State.enterProgress_started (s : State) : s.ItemStarted s.enterProgress none := by
  refine ⟨?_, ?_, State.loadT2_loaded _ _ _ _, ?_⟩ <;> simp [State.enterProgress]

theorem State.enterProgress_same (s : State) : SameBut (itemParts none) s s.enterProgress := by
  unfold State.enterProgress State.lineTo itemParts
  dsimp only
  split <;> exact .of_parts (by simp)

/-- R42: the item at the cursor starts, or the list is at its end. -/
theorem State.dialOn_started (s : State) : s.ItemStarted s.dialOn s.itemInHand := by
  unfold State.dialOn
  split
  · next i hi => exact hi ▸ s.startItem_started i
  · next hi => exact hi ▸ s.enterProgress_started

theorem State.dialOn_same (s : State) : SameBut (itemParts s.itemInHand) s s.dialOn := by
  unfold State.dialOn
  split
  · next i hi => exact hi ▸ s.startItem_same i
  · next hi => exact hi ▸ s.enterProgress_same

theorem State.startItem_cursor (s : State) (i : DialItem) : (s.startItem i).ccu.dialler.cursor = s.ccu.dialler.cursor := by
  cases i with
  | pulse x =>
    unfold State.startItem State.startPulse
    dsimp only
    split <;> rfl
  | tone | flash | pause | waitTone => rfl

theorem State.dialOn_cursor (s : State) : s.dialOn.ccu.dialler.cursor = s.ccu.dialler.cursor := by
  unfold State.dialOn
  split
  · exact s.startItem_cursor _
  · simp [State.enterProgress]

/-- R42: the last item of the list completes. -/
theorem State.itemComplete_end {s : State} (h : s.dialItems[s.ccu.dialler.cursor + 1]? = none) :
    s.itemComplete = State.enterProgress { s with ccu.dialler.cursor := s.ccu.dialler.cursor + 1 } := by
  have hhand : State.itemInHand { s with ccu.dialler.cursor := s.ccu.dialler.cursor + 1 } = none := h
  rw [State.itemComplete, State.dialOn, hhand]

/-- R42: the item in hand completes; the one after it starts. -/
theorem State.itemComplete_started (s : State) :
    s.ItemStarted s.itemComplete s.dialItems[s.ccu.dialler.cursor + 1]? ∧
      s.itemComplete.ccu.dialler.cursor = s.ccu.dialler.cursor + 1 :=
  ⟨(State.dialOn_started _).congr rfl, State.dialOn_cursor _⟩

theorem dialler_mem_itemParts (i : Option DialItem) : .dialler ∈ itemParts i := by
  cases i with
  | none => simp [itemParts]
  | some i => cases i <;> simp [itemParts]

theorem State.itemComplete_same (s : State) :
    SameBut (itemParts s.dialItems[s.ccu.dialler.cursor + 1]?) s s.itemComplete := by
  have hnext : SameBut [.dialler] s { s with ccu.dialler.cursor := s.ccu.dialler.cursor + 1 } := .of_parts (by simp)
  have hon := State.dialOn_same { s with ccu.dialler.cursor := s.ccu.dialler.cursor + 1 }
  exact (hnext.mono (by simpa using dialler_mem_itemParts _)).trans hon

/-! ### The line state and its notices (R1) -/

/-- R180: what is pending or being sent depends on the ports only. -/
theorem State.Noticed.congr {s t : State} {p : Port} {x : Source} (h : s.Noticed p x)
    (hports : ∀ q, (t.port q).notices = (s.port q).notices) (hnotice : t.sys.notice = s.sys.notice) : t.Noticed p x := by
  unfold State.Noticed at *
  rwa [hports, hnotice]

/-- R1: a change of the line state is noticed. -/
theorem State.lineTo_noticed {s : State} {l : LineState} (h : s.ccu.line ≠ l) (p : Port) :
    (s.lineTo l).Noticed p .callState := by
  rw [State.lineTo, if_neg h]
  exact State.raiseBoth_noticed _ _ p

/-- R1: the parts that a change of the line state changes. -/
theorem State.lineTo_same (s : State) (l : LineState) : SameBut [.line, .notices .panel] s (s.lineTo l) := by
  unfold State.lineTo
  split <;> exact .of_parts (by simp)

theorem State.enterProgress_noticed {s : State} (h : s.ccu.line ≠ .progress) (p : Port) :
    s.enterProgress.Noticed p .callState :=
  (State.lineTo_noticed (s := { s with
      ccu.dialler.item := .none
      tone := { s.tone with classifier := .zero, answer := .zero, voiceBlocks := 0 } }) h p).congr (fun _ => rfl) rfl

/-! ### The waits of dialling (R3, R42, R45) -/

/-- R3: the settle has ended. -/
theorem exec_settleExpiry {s : State} {c : Channel} (h : s.takeT2 .settle = some { s with timers.e2 := c })
    (hline : s.ccu.line = .seizing) :
    exec .settleExpiry s = .next (if s.ccu.blind = true then State.enterDialing { s with timers.e2 := c }
      else State.loadT2 { s with timers.e2 := c, tone.classifier := .zero } .dialToneWait s.settings.dialToneWaitMs
        .none).deliverSystem := by
  show execSettleExpiry s = _
  simp [execSettleExpiry, h, hline, Machine.finish]

/-- R3: DIALING begins with the first item. -/
theorem State.enterDialing_started {s : State} {i : DialItem} (hi : s.dialItems[0]? = some i) :
    s.enterDialing = ((State.lineTo { s with ccu.dialler := .reset } .dialing).startItem i) := by
  have hhand : (State.lineTo { s with ccu.dialler := .reset } .dialing).itemInHand = some i := by
    simpa [State.itemInHand, State.dialItems, Dialler.reset] using hi
  simp only [State.enterDialing, State.dialOn, hhand]

/-- R45: the end of a pause. -/
theorem exec_pauseItemExpiry {s : State} {c : Channel} (h : s.takeT2 .pauseItem = some { s with timers.e2 := c })
    (hitem : s.ccu.dialler.item = .pausing) :
    exec .pauseItemExpiry s = .next (State.itemComplete { s with timers.e2 := c }).deliverSystem := by
  show execPauseItemExpiry s = _
  simp [execPauseItemExpiry, h, hitem, Machine.finish]

/-- R5: the end of the guard. -/
theorem exec_guardExpiry {s : State} {c : Channel} (h : s.takeT2 .guard = some { s with timers.e2 := c })
    (hline : s.ccu.line = .releasing) :
    exec .guardExpiry s = .next (State.guardEnds { s with timers.e2 := c }).deliverSystem := by
  show execGuardExpiry s = _
  simp [execGuardExpiry, h, hline, Machine.finish]

/-! ### The grant of a queued dial (R3, R12) -/

/-- R17: the activation clears nothing of the ports but their digits. -/
@[simp] theorem State.activate_ports (s : State) (call : CallRecord) (blind : Bool) :
    (s.activate call blind).ports.system = { s.ports.system with digits := ⟨[], false⟩ } ∧
      (s.activate call blind).ports.panel = { s.ports.panel with digits := ⟨[], false⟩ } := ⟨rfl, rfl⟩

/-- R3: what the grant of a dial leaves. -/
theorem State.seize_call (s : State) (p : Port) (items : List DialItem) (job : Job) (blind : Bool) :
    (s.seize p items job blind).ccu.line = .seizing ∧ (s.seize p items job blind).lif.relayClosed = true ∧
      (s.seize p items job blind).ccu.call = { dialRecord p items job with
        active := true, number := s.nextNumber, startTime := s.calendar.time, seconds := 0 } ∧
      (s.seize p items job blind).ccu.blind = blind ∧ (s.seize p items job blind).LoadedT2 .settle 300 .none := by
  refine ⟨?_, ?_, ?_, ?_, State.loadT2_loaded _ _ _ _⟩
  all_goals simp [State.seize, State.activate, State.closeRelay, Lif.suspend, State.nextNumber]

/-- R3, R17: the parts that the grant of a dial changes. -/
theorem State.seize_same (s : State) (p : Port) (items : List DialItem) (job : Job) (blind : Bool) :
    SameBut [.line, .call, .ccuRest, .lif, .timer 1, .timer 2, .ringing, .caller, .detectors, .level, .stats, .fax,
      .digits .system, .digits .panel, .notices .panel] s (s.seize p items job blind) := by
  unfold State.seize State.lineTo
  split <;> exact .of_parts (by simp)

/-- R3: with the line not in SEIZING, a grant is noticed as a call state. -/
theorem State.seize_noticed {s : State} {p : Port} {x : Source} (h : s.Noticed p x) (q : Port) (items : List DialItem)
    (job : Job) (blind : Bool) : (s.seize q items job blind).Noticed p x := by
  unfold State.seize State.lineTo
  split
  · refine h.congr (fun r => ?_) rfl
    cases r <;> rfl
  · have hactivated : ((s.activate (dialRecord q items job) blind).closeRelay).Noticed p x :=
      h.congr (fun r => by cases r <;> rfl) rfl
    exact (((hactivated.congr (fun _ => rfl) rfl).raiseAt .system .callState).raiseAt .panel .callState)

/-- R12: the oldest queued dial is granted. -/
theorem State.lineFree_grants {s : State} {c : Claim} {rest : List Claim} (hpower : s.power.low = false)
    (hclaims : s.ccu.claims = c :: rest) (hfree : s.lif.lineInUse = false) :
    s.lineFree = ((({ s with ccu.claims := rest }).raiseAt c.master .claimGranted).seize c.master c.items c.job
      c.blind) := by
  simp [State.lineFree, State.serveQueue, hpower, hclaims, hfree]

/-- R12: with no queued dial, or the line in use, the line is IDLE. -/
theorem State.lineFree_idle {s : State} (h : s.ccu.claims = [] ∨ s.lif.lineInUse = true) : s.lineFree = s.lineTo .idle := by
  rcases h with h | h
  · simp [State.lineFree, State.serveQueue, h]
  · simp [State.lineFree, State.serveQueue, h]

/-- Settles O36: each wait by its row, with the start of an item, the change of the line state and the grant of a queued
dial. -/
theorem dialWaitsEnd : Obligations.DialWaitsEnd := by
  refine ⟨⟨fun s hdue hline => ?_, fun s hdue hitem hline => ?_⟩, fun s hdue hline => ?_⟩
  · obtain ⟨c, hc⟩ := State.takeT2_of_due hdue
    rw [exec_settleExpiry hc hline]
    refine ⟨fun hblind => ⟨_, rfl, ?_⟩, fun i hblind hi => ⟨_, rfl, ?_⟩⟩
    · rw [if_neg (by simp [hblind])]
      exact ⟨by simpa [State.LoadedT2] using State.loadT2_loaded _ _ _ _, by simp, SameBut.finish (.of_parts (by simp))⟩
    · rw [if_pos hblind, State.enterDialing_started (by exact hi)]
      have hsame : SameBut ([.line, .timer 2, .notices .panel] ++ itemParts (some i)) s
          (State.lineTo { s with timers.e2 := c, ccu.dialler := .reset } .dialing) :=
        SameBut.trans (t := { s with timers.e2 := c, ccu.dialler := .reset })
          (.of_parts (by simp [dialler_mem_itemParts]))
          ((State.lineTo_same _ _).mono (by simp))
      have hnoticed (p : Port) :=
        State.lineTo_noticed (s := { s with timers.e2 := c, ccu.dialler := .reset }) (l := .dialing) (by simp [hline]) p
      generalize hu : State.lineTo { s with timers.e2 := c, ccu.dialler := .reset } .dialing = u at *
      refine ⟨?_, ?_, ((u.startItem_started i).congr ?_).finish, fun p => ?_, ?_⟩
      · simp [← hu]
      · simp [← hu, Dialler.reset]
      · simp [← hu]
      · exact ((hnoticed p).congr (fun q => by cases q <;> simp [State.port, PerPort.get]) (by simp)).deliverSystem
      · exact (hsame.trans ((u.startItem_same i).mono (List.subset_append_right _ _))).finish
  · obtain ⟨c, hc⟩ := State.takeT2_of_due hdue
    rw [exec_pauseItemExpiry hc hitem]
    obtain ⟨hstarted, hcursor⟩ := State.itemComplete_started { s with timers.e2 := c }
    have hsame := ((s.takenT2_same c).mono (by simp)).trans
      ((State.itemComplete_same { s with timers.e2 := c }).mono (List.subset_cons_self (.timer 2) _))
    refine ⟨fun hnone => ⟨_, rfl, ?_⟩, fun i hi => ⟨_, rfl, ?_⟩⟩
    · have hnoticed (p : Port) : (State.itemComplete { s with timers.e2 := c }).Noticed p .callState := by
        rw [State.itemComplete_end (by exact hnone)]
        exact State.enterProgress_noticed (by simp [hline]) p
      have hend : s.ItemStarted (State.itemComplete { s with timers.e2 := c }).deliverSystem none :=
        (hnone ▸ hstarted.congr rfl).finish
      obtain ⟨hprogress, hitem, hloaded, hclassifier⟩ := hend
      have hparts : SameBut (.timer 2 :: itemParts none) s (State.itemComplete { s with timers.e2 := c }) := hnone ▸ hsame
      exact ⟨hprogress, hitem, hloaded, hclassifier, fun p => (hnoticed p).deliverSystem,
        (hparts.mono (by simp [itemParts])).finish⟩
    · have hparts : SameBut (.timer 2 :: itemParts (some i)) s (State.itemComplete { s with timers.e2 := c }) := hi ▸ hsame
      exact ⟨by simpa using hcursor, (hi ▸ hstarted.congr rfl).finish, hparts.finish⟩
  · obtain ⟨c, hc⟩ := State.takeT2_of_due hdue
    rw [exec_guardExpiry hc hline]
    refine ⟨fun hpower hepisode => ⟨_, rfl, ?_⟩, fun hidle => ⟨_, rfl, ?_⟩,
      fun q rest hpower hepisode hclaims hfree => ⟨_, rfl, ?_⟩⟩
    · have hring : State.guardEnds { s with timers.e2 := c } = State.lineTo { s with timers.e2 := c } .ringing := by
        simp [State.guardEnds, hpower, hepisode]
      rw [hring]
      exact ⟨by simp, (((s.takenT2_same c).mono (by simp)).trans ((State.lineTo_same _ _).mono (by simp))).finish⟩
    · have hfree : State.guardEnds { s with timers.e2 := c } = State.lineTo { s with timers.e2 := c } .idle := by
        unfold State.guardEnds
        rcases hidle with hlow | ⟨hepisode, hidle⟩
        · rw [if_pos (by exact hlow)]
        · rw [State.lineFree_idle (by exact hidle)]
          simp [hepisode]
      rw [hfree]
      exact ⟨by simp, (((s.takenT2_same c).mono (by simp)).trans ((State.lineTo_same _ _).mono (by simp))).finish⟩
    · have hgrant : State.guardEnds { s with timers.e2 := c } =
          ((({ s with timers.e2 := c, ccu.claims := rest } : State).raiseAt q.master .claimGranted).seize q.master
            q.items q.job q.blind) := by
        rw [State.guardEnds, if_neg (by simp [hpower]), if_neg (by simp [hepisode])]
        exact State.lineFree_grants hpower hclaims hfree
      rw [hgrant]
      generalize hu : ({ s with timers.e2 := c, ccu.claims := rest } : State).raiseAt q.master .claimGranted = u
      have hsame : SameBut [.claims, .timer 2, .notices .panel] s u := by
        subst hu
        exact .of_parts (by simp)
      have hnoticed : u.Noticed q.master .claimGranted := hu ▸ State.raiseAt_noticed _ _ _
      have hnumber : u.nextNumber = s.nextNumber := by simp [← hu, State.nextNumber]
      have hclaims : (u.seize q.master q.items q.job q.blind).ccu.claims = rest := by
        simp [← hu, State.seize, State.activate, State.closeRelay]
      obtain ⟨hline, hrelay, hcall, hblind, hloaded⟩ := u.seize_call q.master q.items q.job q.blind
      simp only [State.deliverSystem_ccu, State.deliverSystem_lif, hcall, hnumber]
      exact ⟨hline, hrelay, hclaims, trivial, rfl, rfl, rfl, trivial, hblind, by simpa [State.LoadedT2] using hloaded,
        (State.seize_noticed hnoticed _ _ _ _).deliverSystem,
        ((hsame.mono (by simp)).trans ((u.seize_same _ _ _ _).mono (by simp))).finish⟩

end Sys2Proof.Machine
end

section
/-! PROOFS. The events of T0 and the passing of time (R7, R17, R26, R28, R36, R39, R42 to R45, R51, R60, R61, R65). -/

namespace Sys2Proof.Machine

/-! ### The A event (R28) -/

/-- R28: T0's A event is there for its owner; one that has not fired at a tick fires now. -/
theorem Channel.takeA_alternate {c : Channel} (h : c.signalA = true ∨ (c.mode = .alternate ∧ c.active = .a)) (own : Nat) :
    ∃ d, c.takeA own = some d ∧ d.use = c.use ∧
      (c.signalA = false → d.high = !c.high ∧ d.active = .b ∧
        (c.pendingB = true → d.compareB = c.preloadB ∧ d.pendingB = false) ∧
        (c.pendingB = false → d.compareB = c.compareB)) := by
  unfold Channel.takeA
  by_cases hs : c.signalA = true
  · simp [hs]
  · obtain ⟨hmode, hactive⟩ := h.resolve_left hs
    simp +contextual [hs, hmode, hactive, Channel.nextEvent, Channel.fire]

/-- R28: the row of the A event. -/
theorem exec_t0AEvent {s : State} {c : Channel} (h : s.timers.e0.takeA 0 = some c) :
    exec .t0AEvent s = .next (State.t0HalfEnds { s with timers.e0 := c }).deliverSystem := by
  show execT0AEvent s = _
  simp [execT0AEvent, h, Machine.finish]

/-! ### The B event (R28, R43 to R45, R60, R61) -/

/-- R28: T0's B event is there for its owner: one that has fired is taken off, or else the channel fires now. -/
theorem Channel.takeB_alternate {c : Channel} (h : c.signalB = true ∨ (c.mode = .alternate ∧ c.active = .b)) (own : Nat) :
    c.takeB own = some (if c.signalB = true then { c with signalB := false }
      else if c.stopAfterB = true then
        { c with count := max c.count c.compareB, mode := .off, high := false, pendingA := false, pendingB := false }
      else { c with high := !c.high, count := 0, active := .a,
                    compareA := if c.pendingA = true then c.preloadA else c.compareA, pendingA := false }) := by
  unfold Channel.takeB
  by_cases hs : c.signalB = true
  · simp [hs]
  · obtain ⟨hmode, hactive⟩ := h.resolve_left hs
    by_cases hstop : c.stopAfterB = true <;> simp [hs, hmode, hactive, hstop, Channel.fire]

/-- R28: what the taking of a B event leaves of the channel. -/
structure Channel.TakenB (c d : Channel) : Prop where
  owner : d.owner = c.owner
  preload : d.preloadB = c.preloadB
  stop : d.stopAfterB = c.stopAfterB
  off : d.mode = .off ↔ (c.signalB = true ∧ c.mode = .off) ∨ (c.signalB = false ∧ c.stopAfterB = true)
  pending : c.signalB = true ∨ c.stopAfterB = false → d.pendingB = c.pendingB

theorem Channel.takeB_taken {c : Channel} (h : c.signalB = true ∨ (c.mode = .alternate ∧ c.active = .b)) (own : Nat) :
    ∃ d, c.takeB own = some d ∧ c.TakenB d := by
  refine ⟨_, Channel.takeB_alternate h own, ?_⟩
  by_cases hs : c.signalB = true
  · constructor <;> simp [hs]
  · obtain ⟨hmode, -⟩ := h.resolve_left hs
    by_cases hstop : c.stopAfterB = true <;> constructor <;> simp [hs, hmode, hstop]

/-- R28: the row of the B event goes to the owner of T0. -/
theorem exec_t0BEvent {s : State} {c : Channel} (h : s.timers.e0.takeB 0 = some c) :
    (c.owner = .dialler → exec .t0BEvent s = .next (State.diallerB { s with timers.e0 := c }).deliverSystem) ∧
      (c.owner = .tnu → exec .t0BEvent s = .next (State.generatorB { s with timers.e0 := c }).deliverSystem) := by
  constructor <;> intro howner <;> (show execT0BEvent s = _) <;> simp [execT0BEvent, h, howner, Machine.finish]

theorem State.takenT0_same (s : State) (c : Channel) : SameBut [.timer 0] s { s with timers.e0 := c } := .of_parts (by simp)

/-- R42, R44, R45, R43: a B event that ends the item in hand. -/
theorem State.diallerB_completes {s : State}
    (h : s.ccu.dialler.item = .toning ∨ s.ccu.dialler.item = .flashing ∨
      (s.ccu.dialler.item = .pulsing ∧ s.timers.e0.mode = .off)) :
    ∃ u, s.diallerB = u.itemComplete ∧ u.ccu.call = s.ccu.call ∧ u.settings = s.settings ∧
      u.ccu.dialler.cursor = s.ccu.dialler.cursor ∧
      SameBut (.dialler :: if s.ccu.dialler.item = .toning then [.generator] else []) s u := by
  unfold State.diallerB
  rcases h with h | h | ⟨h, hoff⟩
  · refine ⟨{ s with tone.generator := .idle }, by simp only [h], rfl, rfl, rfl, ?_⟩
    rw [if_pos h]
    exact .of_parts (by simp)
  · refine ⟨s, by simp only [h], rfl, rfl, rfl, .refl _ s⟩
  · refine ⟨{ s with ccu.dialler.breaksEnded := s.ccu.dialler.breaksEnded + 1 }, ?_, rfl, rfl, rfl, .of_parts (by simp)⟩
    simp only [h, State.pulseB, hoff, if_true]

/-- R43: a B event that goes on to the next break of a pulse digit. -/
theorem State.diallerB_goesOn {s : State} {x : Symbol} (hitem : s.ccu.dialler.item = .pulsing)
    (hmode : s.timers.e0.mode ≠ .off) (hhand : s.itemInHand = some (.pulse x)) :
    s.diallerB =
      let u : State := { s with ccu.dialler.breaksEnded := s.ccu.dialler.breaksEnded + 1, lif := s.lif.openForBreak }
      if s.ccu.dialler.breaksEnded + 2 = breaksOf x then u.writeLastMake else u := by
  have hhand' : State.itemInHand { s with ccu.dialler.breaksEnded := s.ccu.dialler.breaksEnded + 1,
                                          lif := s.lif.openForBreak } = some (.pulse x) := hhand
  have hpulse : s.diallerB = s.pulseB := by simp only [State.diallerB, hitem]
  rw [hpulse, State.pulseB]
  dsimp only
  rw [if_neg hmode, hhand']

/-- R42 to R45: the B event that ends the item in hand starts the next one. -/
theorem t0BEvent_completes {s : State} {c : Channel} (hc : s.timers.e0.takeB 0 = some c) (htaken : s.timers.e0.TakenB c)
    (howner : s.timers.e0.owner = .dialler)
    (hitem : s.ccu.dialler.item = .toning ∨ s.ccu.dialler.item = .flashing ∨ (s.ccu.dialler.item = .pulsing ∧ c.mode = .off)) :
    ∃ t, exec .t0BEvent s = .next t ∧ t.ccu.dialler.cursor = s.ccu.dialler.cursor + 1 ∧
      s.ItemStarted t s.dialItems[s.ccu.dialler.cursor + 1]? ∧
      SameBut ([.timer 0, .dialler] ++ (if s.ccu.dialler.item = .toning then [.generator] else []) ++
        itemParts s.dialItems[s.ccu.dialler.cursor + 1]?) s t := by
  rw [(exec_t0BEvent hc).1 (htaken.owner.trans howner)]
  obtain ⟨u, hu, hcall, hsettings, hcursor, hsame⟩ := State.diallerB_completes (s := { s with timers.e0 := c }) hitem
  have hitems : u.dialItems[u.ccu.dialler.cursor + 1]? = s.dialItems[s.ccu.dialler.cursor + 1]? := by
    rw [State.dialItems, hcall, hcursor, State.dialItems]
  obtain ⟨hstarted, hnext⟩ := u.itemComplete_started
  have hlast := u.itemComplete_same
  rw [hitems] at hstarted hlast
  rw [hu]
  refine ⟨_, rfl, ?_, (hstarted.congr hsettings.symm).finish, ?_⟩
  · rw [State.deliverSystem_ccu, hnext, hcursor]
  · refine ((((s.takenT0_same c).mono ?_).trans (hsame.mono ?_)).trans (hlast.mono ?_)).finish
    · simp
    · intro p hp
      simp only [List.mem_cons, List.mem_append] at hp ⊢
      tauto
    · exact List.subset_append_right _ _

/-- R43: the B event of a pulse digit that is not its last one starts the next break. -/
theorem t0BEvent_goesOn {s : State} {c : Channel} {x : Symbol} (hc : s.timers.e0.takeB 0 = some c)
    (htaken : s.timers.e0.TakenB c) (howner : s.timers.e0.owner = .dialler) (hitem : s.ccu.dialler.item = .pulsing)
    (hmode : s.timers.e0.mode = .alternate) (hgo : s.timers.e0.signalB = true ∨ s.timers.e0.stopAfterB = false)
    (hhand : s.itemInHand = some (.pulse x)) :
    ∃ t, exec .t0BEvent s = .next t ∧ t.ccu.dialler.breaksEnded = s.ccu.dialler.breaksEnded + 1 ∧
      t.ccu.dialler.item = .pulsing ∧
      (t.timers.e0.stopAfterB = true ↔ s.timers.e0.stopAfterB = true ∨ s.ccu.dialler.breaksEnded + 2 = breaksOf x) ∧
      (if s.ccu.dialler.breaksEnded + 2 = breaksOf x then
        t.timers.e0.preloadB = compareClamp s.ccu.dialler.lastMake ∧ t.timers.e0.pendingB = true
       else t.timers.e0.preloadB = s.timers.e0.preloadB ∧ t.timers.e0.pendingB = s.timers.e0.pendingB) ∧
      t.ccu.dialler.lastMake = s.ccu.dialler.lastMake ∧
      t.lif = { s.lif with suspended := true, suspendLeft := 0, currentRun := 0 } ∧
      SameBut [.timer 0, .lif, .dialler] s t := by
  have hon : c.mode ≠ .off := by
    simp only [ne_eq, htaken.off, hmode]
    rcases hgo with h | h <;> simp [h]
  rw [(exec_t0BEvent hc).1 (htaken.owner.trans howner),
    State.diallerB_goesOn (s := { s with timers.e0 := c }) hitem hon hhand]
  refine ⟨_, rfl, ?_⟩
  by_cases hlast : s.ccu.dialler.breaksEnded + 2 = breaksOf x
  · simp only [hlast, if_true]
    exact ⟨by simp [State.writeLastMake], by simp [State.writeLastMake, hitem],
      by simp [State.writeLastMake, Channel.writePreloadB], by simp [State.writeLastMake, Channel.writePreloadB],
      by simp [State.writeLastMake], by simp [State.writeLastMake, Lif.openForBreak, Lif.suspend],
      SameBut.finish (by unfold State.writeLastMake; exact .of_parts (by simp))⟩
  · simp only [hlast, if_false]
    exact ⟨by simp, by simp [hitem], by simp [htaken.stop], by simp [htaken.preload, htaken.pending hgo], by simp,
      by simp [Lif.openForBreak, Lif.suspend], SameBut.finish (.of_parts (by simp))⟩

/-- R60: the B event of the generator's burst sends the next symbol. -/
theorem t0BEvent_sends {s : State} {c : Channel} (hc : s.timers.e0.takeB 0 = some c) (htaken : s.timers.e0.TakenB c)
    (howner : s.timers.e0.owner = .tnu) (hgen : s.tone.generator.state = .sending) :
    ∃ t, exec .t0BEvent s = .next t ∧
      (∀ x rest, s.tone.generator.list = x :: rest → t.tone.generator = ⟨.sending, rest, some (.pair x)⟩ ∧
        t.timers.e0.mode = .alternate ∧ t.timers.e0.high = true ∧ t.timers.e0.count = 0) ∧
      (s.tone.generator.list = [] → t.tone.generator = ⟨.idle, [], none⟩) ∧
      SameBut [.timer 0, .generator] s t := by
  have hnext : State.generatorB { s with timers.e0 := c } = State.generatorNext { s with timers.e0 := c } := by
    simp only [State.generatorB, hgen]
  rw [(exec_t0BEvent hc).2 (htaken.owner.trans howner), hnext]
  refine ⟨_, rfl, fun x rest hlist => ?_, fun hlist => ?_, ?_⟩
  · simp [State.generatorNext, hlist, State.loadT0, Channel.load]
  · simp [State.generatorNext, hlist, Generator.idle]
  · unfold State.generatorNext
    split <;> exact SameBut.finish (.of_parts (by simp))

/-- R61: the B event of a beep ends it. -/
theorem t0BEvent_beeped {s : State} {c : Channel} (hc : s.timers.e0.takeB 0 = some c) (htaken : s.timers.e0.TakenB c)
    (howner : s.timers.e0.owner = .tnu) (hgen : s.tone.generator.state = .beeping) :
    ∃ t, exec .t0BEvent s = .next t ∧ t.tone.generator = ⟨.idle, [], none⟩ ∧
      SameBut [.timer 0, .generator] s t := by
  have hidle : State.generatorB { s with timers.e0 := c } = { s with timers.e0 := c, tone.generator := .idle } := by
    simp [State.generatorB, hgen]
  rw [(exec_t0BEvent hc).2 (htaken.owner.trans howner), hidle]
  exact ⟨_, rfl, by simp [Generator.idle], SameBut.finish (.of_parts (by simp))⟩

/-- Settles O35: the A event by the output's use, the B event by T0's owner and the item in hand. -/
theorem gateEvents : Obligations.GateEvents := by
  refine ⟨fun s hdue => ?_, fun s hdue => ?_⟩
  · obtain ⟨c, hc, huse, hfires⟩ := Channel.takeA_alternate hdue 0
    rw [exec_t0AEvent hc]
    refine ⟨fun hbreak => ⟨_, rfl, ?_⟩, fun htone => ⟨_, rfl, ?_⟩⟩
    · have hhalf : State.t0HalfEnds { s with timers.e0 := c } =
          { s with timers.e0 := c, lif := s.lif.suspend Config.breakSuspendMs } := by
        simp [State.t0HalfEnds, huse, hbreak]
      rw [hhalf]
      exact ⟨by simp [Lif.suspend], by simpa using hfires, SameBut.finish (.of_parts (by simp))⟩
    · have hhalf : State.t0HalfEnds { s with timers.e0 := c } = { s with timers.e0 := c, tone.blank := 2 } := by
        simp [State.t0HalfEnds, huse, htone]
      rw [hhalf]
      exact ⟨by simp, by simp, SameBut.finish (.of_parts (by simp))⟩
  · obtain ⟨c, hc, htaken⟩ := Channel.takeB_taken hdue 0
    exact ⟨fun howner _ hitem =>
        t0BEvent_completes hc htaken howner (hitem.imp_right (Or.imp_right (And.imp_right htaken.off.2))),
      fun _ howner hitem hmode hgo hhand => t0BEvent_goesOn hc htaken howner hitem hmode hgo hhand,
      t0BEvent_sends hc htaken, t0BEvent_beeped hc htaken⟩

end Sys2Proof.Machine
end

section
/-! PROOFS. The tick and the second (R7, R8, R17, R26, R32, R36, R39, R62, R65). -/

namespace Sys2Proof.Machine

/-! ### The channels (R26, R32) -/

theorem Eight.get_mapIdx {α β : Type} (t : Eight α) (f : Nat → α → β) (n : Fin 8) : (t.mapIdx f).get n = f n (t.get n) := by
  fin_cases n <;> rfl

theorem Channel.fire_restart (own : Nat) (c : Channel) : (c.fire own).restart = c.restart := by
  unfold Channel.fire
  repeat' split
  all_goals rfl

theorem Channel.counted_restart (c : Channel) : c.counted.restart = c.restart := by
  unfold Channel.counted
  split <;> rfl

/-- R26: a tick leaves the restart source. -/
theorem Channel.tick_restart (own : Nat) (c : Channel) : (c.tick own).restart = c.restart := by
  unfold Channel.tick
  split
  · cases hx : c.counted.nextEvent <;> simp [Channel.signal, Channel.fire_restart, Channel.counted_restart]
  · exact c.counted_restart

/-- R26, R32: a channel after the tick of the bank. -/
theorem Timers.tick_get (t : Eight Channel) (n : Fin 8) :
    (Timers.tick t).get n =
      restartByCompare ((List.range 8).filter (fun i => (t.get i).firesNext)) n ((t.get n).tick n) := by
  simp only [Timers.tick, Eight.get_mapIdx]

/-- R32: no other channel's event restarts a channel that names none. -/
theorem Timers.tick_get_own {t : Eight Channel} {n : Fin 8}
    (h : ∀ m : Fin 8, (t.get n).restart = .compare m → m = n) : (Timers.tick t).get n = (t.get n).tick n := by
  rw [Timers.tick_get]
  unfold restartByCompare
  split
  · next m hm =>
    rw [Channel.tick_restart] at hm
    refine if_neg fun hmem => ?_
    obtain ⟨hne, hfired⟩ := hmem
    have hlt : m < 8 := by simpa using List.mem_of_mem_filter hfired
    exact hne (congrArg Fin.val (h ⟨m, hlt⟩ hm))
  · rfl

/-- R32: a channel that names another is restarted where that one fires. -/
theorem Timers.tick_get_other {t : Eight Channel} {n m : Fin 8} (hne : m ≠ n) (h : (t.get n).restart = .compare m) :
    (Timers.tick t).get n =
      if (t.get m).firesNext = true then ((t.get n).tick n).restarted else (t.get n).tick n := by
  have hval : (m : Nat) ≠ n := fun he => hne (Fin.ext he)
  have hlt : (m : Nat) < 8 := m.isLt
  rw [Timers.tick_get, restartByCompare, Channel.tick_restart, h]
  simp [hval, hlt]

/-- R32: a one-shot that names its own event fires and runs on from 0. -/
theorem Channel.tick_runsOn {c : Channel} {own : Nat} (hmode : c.mode = .oneShot) (hrestart : c.restart = .compare own)
    (hcompare : c.compareA ≤ c.count + 1) : c.tick own = { c with count := 0, signalA := true } := by
  simp [Channel.tick, Channel.counted, Channel.meets, Channel.activeCompare, Channel.fire, Channel.nextEvent,
    Channel.signal, hmode, hrestart, hcompare]

/-! ### The play (R154) -/

/-- R151: so does the codec state taken from a header. -/
theorem State.loadHeader_op_congr {s t : State} (hop : t.voice.op = s.voice.op) (hstore : t.store = s.store) (id : Nat) :
    (t.loadHeader id).voice.op = (s.loadHeader id).voice.op := by
  unfold State.loadHeader
  dsimp only
  rw [hop, hstore]
  split
  · rfl
  · exact hop

/-- R149, R154: a sample that is played looks at the operation and the store only. -/
theorem State.playSample_op_congr {s t : State} (hop : t.voice.op = s.voice.op) (hstore : t.store = s.store) :
    t.playSample.voice.op = s.playSample.voice.op := by
  unfold State.playSample
  rw [hop, hstore]
  split
  · exact hop
  · split
    · exact hop
    · dsimp only
      rw [State.loadHeader_op_congr hop hstore]
      simp only [State.loadHeader_keeps, hstore]
      split <;> rfl

theorem State.playSamples_op_congr (n : Nat) {s t : State} (hop : t.voice.op = s.voice.op) (hstore : t.store = s.store) :
    (t.playSamples n).voice.op = (s.playSamples n).voice.op := by
  induction n generalizing s t with
  | zero => exact hop
  | succ n ih => exact ih (State.playSample_op_congr hop hstore) (by simp [hstore])

/-! ### The line senses (R7, R8, R62) -/

theorem Lif.tick_voltageRun (l : Lif) (inBreak : Bool) : (l.tick inBreak).voltageRun =
    if l.relayClosed = true ∨ l.voltageBelow = l.lineInUse then 0
    else if l.ringPresent = true then l.voltageRun else bump 200 l.voltageRun := by
  cases inBreak <;> rfl

theorem Lif.tick_currentRun (l : Lif) (inBreak : Bool) :
    (l.tick inBreak).currentRun = if l.currentRunOn then bump 200 l.currentRun else 0 := by
  cases inBreak <;> rfl

theorem Lif.tick_hangover (l : Lif) (inBreak : Bool) :
    (l.tick inBreak).hangover = if l.ringPresent = true then bump 50 l.hangover else 0 := by
  cases inBreak <;> rfl

/-! ### The second (R39) -/

/-- R39: the time fields advance by one second of the week. -/
theorem ClockTime.advance_second {c : ClockTime} (hday : c.day ≤ 6) (hhour : c.hour ≤ 23) (hminute : c.minute ≤ 59)
    (hsecond : c.second ≤ 59) :
    ((c.advance.day * 24 + c.advance.hour) * 60 + c.advance.minute) * 60 + c.advance.second =
        ((((c.day * 24 + c.hour) * 60 + c.minute) * 60 + c.second) + 1) % 604800 ∧
      c.advance.day ≤ 6 ∧ c.advance.hour ≤ 23 ∧ c.advance.minute ≤ 59 ∧ c.advance.second ≤ 59 := by
  unfold ClockTime.advance
  split
  · dsimp only; omega
  · split
    · dsimp only; omega
    · split
      · dsimp only; omega
      · dsimp only; split <;> omega

/-- R40: T7's event is there: it has fired, or fires at the next tick. -/
theorem Channel.takeDue_some_of {c : Channel} (own : Nat)
    (h : c.signalA = true ∨ (c.mode = .repeat ∧ c.firesNext = true)) : ∃ d, c.takeDue own = some d := by
  have hdue : c.signalA = true ∨ c.firesNext = true := h.imp_right And.right
  rw [Channel.takeDue, if_pos hdue, Channel.takeA]
  by_cases hs : c.signalA = true
  · simp [hs]
  · obtain ⟨hmode, -⟩ := h.resolve_left hs
    simp [hs, hmode, Channel.nextEvent]

/-- The state once the tick has passed, before the play goes on. -/
def State.ticked (s : State) : State :=
  { s with timers := Timers.tick s.timers, lif := s.lif.tick s.inBreak, sys.lateByte := false, sys.expiryTaken := false }

/-- R154: the parts that the play changes. -/
theorem State.playTick_same (s : State) :
    SameBut (if s.voice.op.state = .playing ∧ s.voice.op.operation = some .play then [.voiceOp] else []) s s.playTick := by
  unfold State.playTick
  split
  · exact .of_parts (by simp)
  · exact .refl _ s

theorem State.ticked_same (s : State) : SameBut ([.lif, .systemPort] ++ allTimers) s s.ticked := by
  unfold State.ticked allTimers
  exact .of_parts (by simp)

/-- R26, R154: the row of the tick. -/
theorem timerTick_passes (s : State) : ∃ t, exec .timerTick s = .next t ∧
    (∀ n : Fin 8, t.timers.get n = (Timers.tick s.timers).get n) ∧ t.lif = s.lif.tick s.inBreak ∧
    (∃ n, t.sys = { s.sys with lateByte := false, expiryTaken := false, notice := n }) ∧
    (s.voice.op.state = .playing → s.voice.op.operation = some .play → t.voice.op = (State.playSamples 8 s).voice.op) ∧
    SameBut ([.lif, .systemPort] ++ allTimers ++
      if s.voice.op.state = .playing ∧ s.voice.op.operation = some .play then [.voiceOp] else []) s t := by
  refine ⟨s.ticked.playTick.deliverSystem, rfl, ?_, ?_, ?_, fun hstate hop => ?_, ?_⟩
  · simp [State.ticked]
  · simp [State.ticked]
  · obtain ⟨c, n, h⟩ := s.ticked.playTick.deliverSystem_eq
    exact ⟨n, by rw [h]; simp [State.ticked]⟩
  · rw [State.deliverSystem_voice, State.playTick, if_pos (by exact ⟨hstate, hop⟩)]
    exact State.playSamples_op_congr 8 rfl rfl
  · exact ((s.ticked_same.mono (List.subset_append_left _ _)).trans
      (s.ticked.playTick_same.mono (List.subset_append_right _ _))).finish

/-- Settles O34: the tick of the bank channel by channel, and the second by the taking of T7's event. -/
theorem timePasses : Obligations.TimePasses := by
  refine ⟨fun s => ?_, fun s hfired hnext => ?_, fun s hdue => ?_⟩
  · obtain ⟨t, ht, htimers, hlif, hsys, hplay, hsame⟩ := timerTick_passes s
    refine ⟨t, ht, fun n h => ?_, fun n m hne h => ?_, fun n hmode hrestart hcompare => ?_, ?_, ?_, ?_, ?_, hsys, hplay,
      hsame⟩
    · rw [htimers, Timers.tick_get_own h]
    · rw [htimers, Timers.tick_get_other hne h]
    · rw [htimers, Timers.tick_get_own, Channel.tick_runsOn hmode hrestart hcompare]
      intro m hm
      rw [hrestart] at hm
      exact (Fin.ext (RestartSource.compare.inj hm)).symm
    · intro hrelay hring hvoltage
      rw [hlif, Lif.tick_voltageRun, if_neg (by simp [hrelay, hvoltage]), if_neg (by simp [hring])]
    · intro hvoltage
      rw [hlif, Lif.tick_voltageRun, if_pos (.inr hvoltage)]
    · intro hrelay hsuspended hbelow hlatch
      rw [hlif, Lif.tick_currentRun, if_pos ⟨hrelay, hsuspended, hbelow, hlatch⟩]
    · intro hring
      rw [hlif, Lif.tick_hangover, if_pos hring]
  · refine ⟨s.deliverSystem, ?_, (SameBut.refl [] s).finish⟩
    show execSecondEvent s = _
    simp [execSecondEvent, Channel.takeDue, hfired, hnext, Machine.finish]
  · obtain ⟨c, hc⟩ := Channel.takeDue_some_of 7 hdue
    refine ⟨(State.second { s with timers.e7 := c }).deliverSystem, ?_, fun hday hhour hminute hsecond => ?_, ?_, ?_, ?_, ?_⟩
    · show execSecondEvent s = _
      simp [execSecondEvent, hc, Machine.finish]
    · simpa [State.second] using ClockTime.advance_second hday hhour hminute hsecond
    · simp [State.second]
    · simp [State.second, CallRecord.second, bump]
    · simp [State.second, Episode.second, bump]
    · unfold State.second
      exact SameBut.finish (.of_parts (by simp))

end Sys2Proof.Machine
end

section
/-! PROOFS. The claims and the calls of the masters (R3, R4, R10 to R15, R42, R57 to R61). -/

namespace Sys2Proof.Machine

/-! ### Claims (R10) -/

/-- R177: a taken command's effect is its body's state, with its reply owed. -/
theorem command_does {f : Frame} {code : Byte} {s u : State} {body : State → State × Reply} {r : Reply}
    (h : s.Takes f code) (hbody : body s = (u, r)) :
    command f code s body = .next (u.reply f.port code r).deliverSystem := by
  rw [command_taken h, hbody]

/-- R10: a refused claim answers the status and the holder found, and has no other effect. -/
theorem claim_refused {f : Frame} {code : Byte} {s : State} {body : State → State × Reply} {x : Status}
    (h : s.Takes f code) (hbody : body s = refuseClaim s x) :
    ∃ t, command f code s body = .next t ∧ Answered s t f.port code x [.u8 (holderCode s.holder)] ∧
      SameBut [.outgoing f.port] s t :=
  command_answers h hbody

/-- R10: the holder found, where it is known. -/
theorem claim_refused_by {f : Frame} {code : Byte} {s : State} {body : State → State × Reply} {x : Status}
    {found : Option Party} (h : s.Takes f code) (hfound : s.holder = found) (hbody : body s = refuseClaim s x) :
    ∃ t, command f code s body = .next t ∧ Answered s t f.port code x [.u8 (holderCode found)] ∧
      SameBut [.outgoing f.port] s t := by
  subst hfound
  exact claim_refused h hbody

/-! ### A change at one port -/

@[simp] theorem State.updPort_system (s : State) (g : PortState → PortState) :
    (s.updPort .system g).ports.system = g s.ports.system ∧ (s.updPort .system g).ports.panel = s.ports.panel := ⟨rfl, rfl⟩

@[simp] theorem State.updPort_panel (s : State) (g : PortState → PortState) :
    (s.updPort .panel g).ports.system = s.ports.system ∧ (s.updPort .panel g).ports.panel = g s.ports.panel := ⟨rfl, rfl⟩

@[simp] theorem State.updPort_port (s : State) (p : Port) (g : PortState → PortState) :
    (s.updPort p g).port p = g (s.port p) := by
  cases p <;> rfl

/-! ### DIAL (R11) -/

/-- R11: a DIAL with good parameters. -/
theorem takeDial_good {p : Port} {job flags : Byte} {items : List Byte} {j : Job} {l : List DialItem} {s : State}
    (hjob : jobFor p job = some j) (hitems : dialListOf s.settings.dialPulse items = some l) :
    takeDial p job flags items s =
      takeGoodDial { master := p, items := l, job := j, blind := flags.getLsbD 0 } (flags.getLsbD 1) s := by
  simp [takeDial, hjob, hitems]

/-- R10: a DIAL with bad ones. -/
theorem takeDial_bad {p : Port} {job flags : Byte} {items : List Byte} {s : State}
    (h : jobFor p job = none ∨ dialListOf s.settings.dialPulse items = none) :
    takeDial p job flags items s = refuseClaim s .badParameter := by
  unfold takeDial
  split
  · next j l hj hl => simp [hj, hl] at h
  · rfl

/-- R11: a DIAL while the line is free is granted. -/
theorem takeGoodDial_granted {s : State} (c : Claim) (wait : Bool) (h : s.ccu.line = .idle ∧ s.lif.lineInUse = false) :
    takeGoodDial c wait s = (s.seize c.master c.items c.job c.blind, claimReply s.holder 0 []) := if_pos h

/-- R11: else it is queued where it may wait. -/
theorem takeGoodDial_queued {s : State} (c : Claim) (h : ¬(s.ccu.line = .idle ∧ s.lif.lineInUse = false)) :
    takeGoodDial c true s = (s.queueDial c, claimReply s.holder 1 [flagItem (s.hasQueued c.master)]) := by
  simp [takeGoodDial, h]

/-- R11: and refused where it may not. -/
theorem takeGoodDial_refused {s : State} (c : Claim) (h : ¬(s.ccu.line = .idle ∧ s.lif.lineInUse = false)) :
    takeGoodDial c false s = refuseClaim s (if s.ccu.line = .idle then .lineInUse else .lineBusy) := by
  simp [takeGoodDial, h]

/-- Settles O7: by the parameters, the line state and the wait option. -/
theorem dialTaken : Obligations.DialTaken := by
  refine ⟨fun f job flags items j l s h hjob hitems hline hfree => ?_, fun f job flags items s h => ⟨?_, ?_, ?_⟩⟩
  · refine ⟨_, command_does h ((takeDial_good hjob hitems).trans (takeGoodDial_granted _ _ ⟨hline, hfree⟩)), ?_⟩
    dsimp only
    obtain ⟨hseized, hrelay, hcall, hblind, hloaded⟩ := s.seize_call f.port l j (flags.getLsbD 0)
    have hsame := s.seize_same f.port l j (flags.getLsbD 0)
    refine ⟨?_, ?_, ?_, ?_, ?_, hsame.answered _ _ _ (by simp), hsame.reply _ _ _ (by simp)⟩
    · simpa using hseized
    · simpa using hrelay
    · simpa [dialRecord, CallRecord.reset] using hcall
    · simpa using hblind
    · simpa [State.LoadedT2] using hloaded
  · intro j l hjob hitems hbusy hwait
    refine ⟨_, command_does h ((takeDial_good hjob hitems).trans (hwait ▸ takeGoodDial_queued _ hbusy)), ?_⟩
    have hsame : SameBut [.claims] s (s.queueDial ⟨f.port, l, j, flags.getLsbD 0⟩) := by
      unfold State.queueDial
      exact .of_parts (by simp)
    exact ⟨by simp [State.queueDial, State.withdraw], hsame.answered _ _ _ (by simp), hsame.reply _ _ _ (by simp)⟩
  · intro j l hjob hitems hbusy hwait
    exact claim_refused h ((takeDial_good hjob hitems).trans (hwait ▸ takeGoodDial_refused _ hbusy))
  · exact fun hbad => claim_refused h (takeDial_bad hbad)

/-! ### TAKE CALL (R14) -/

/-- R14: T2 is stopped for the inactivity of a remote session only. -/
def State.sessionTimerStopped (s : State) : State := if s.ccu.call.job = .remote then s.stopT2 else s

theorem State.sessionTimerStopped_same (s : State) : SameBut [.ccuRest, .timer 2] s s.sessionTimerStopped := by
  unfold State.sessionTimerStopped
  split
  · exact .of_parts (by simp)
  · exact .refl _ s

/-- R14, step by step: the record of the call once the operation in hand has ended. -/
def State.callTaken (u : State) (p : Port) : State :=
  { u.dropAuto with
    rau.discr := none, voice.remote := none, ccu.call.holder := some p.party, ccu.call.job := .voice,
    ccu.call.phase := none,
    tone := { u.dropAuto.tone with faxCall := .zero, dataCall := .zero } }

/-- R14: the move of a call in its steps. -/
theorem State.moveCall_eq (s : State) (p : Port) :
    s.moveCall p = (((s.sessionTimerStopped.endVoice .stopped).1.callTaken p).updPort p
      (fun q => { q with digits := ⟨[], false⟩ })).raiseBoth .callState := rfl

theorem State.callTaken_same (u : State) (p : Port) :
    SameBut [.call, .voiceOp, .remote, .discr, .detectors] u (u.callTaken p) := by
  unfold State.callTaken
  exact .of_parts (by simp)

/-- R59: a port's digit queue is emptied. -/
theorem State.updPort_digits_same (s : State) (p : Port) (d : DigitQueue) :
    SameBut [.digits p] s (s.updPort p (fun q => { q with digits := d })) := by
  cases p <;> exact .of_parts (by simp)

theorem State.raiseBoth_same (s : State) (x : Source) : SameBut [.notices .panel] s (s.raiseBoth x) := .of_parts (by simp)

/-- R14: the parts that the move of a call changes. -/
theorem State.moveCall_same (s : State) (p : Port) :
    SameBut [.call, .ccuRest, .timer 2, .timer 6, .voiceOp, .resume, .remote, .discr, .detectors, .directory,
      .freeList, .memory, .alerts .system, .alerts .panel, .notices .panel, .digits p] s (s.moveCall p) := by
  rw [State.moveCall_eq]
  refine ((((s.sessionTimerStopped_same.mono ?_).trans ((State.endVoice_same _ _).mono ?_)).trans
    ((State.callTaken_same _ p).mono ?_)).trans ((State.updPort_digits_same _ p _).mono ?_)).trans
    ((State.raiseBoth_same _ _).mono ?_)
  · simp
  · unfold voiceEndParts
    split <;> simp
  · simp
  · simp
  · simp

/-- R14, R59, R180: what the move of a call leaves. -/
theorem State.moveCall_call (s : State) (p : Port) :
    (s.moveCall p).ccu.line = s.ccu.line ∧ (s.moveCall p).ccu.call.active = s.ccu.call.active ∧
      (s.moveCall p).ccu.call.number = s.ccu.call.number ∧ (s.moveCall p).ccu.call.holder = some p.party ∧
      (s.moveCall p).ccu.call.job = .voice ∧ (s.moveCall p).ccu.call.phase = none ∧ (s.moveCall p).rau.discr = none ∧
      (s.moveCall p).voice.remote = none ∧ (s.moveCall p).voice.op.operation = none ∧
      (s.moveCall p).voice.op.user ≠ some .auto ∧ ((s.moveCall p).port p).digits = ⟨[], false⟩ := by
  have hcall : s.sessionTimerStopped.ccu.call = s.ccu.call ∧ s.sessionTimerStopped.ccu.line = s.ccu.line := by
    unfold State.sessionTimerStopped
    split <;> simp
  rw [State.moveCall_eq]
  refine ⟨?_, ?_, ?_, ?_, ?_, ?_, ?_, ?_, ?_, ?_, ?_⟩
  case refine_11 => cases p <;> rfl
  case refine_9 => simpa [State.callTaken] using State.endVoice_operation _ _
  all_goals simp [State.callTaken, hcall]

/-- R156, R14: no byte of the DRAM changes but those of a recording in hand. -/
theorem State.moveCall_bytes (s : State) (p : Port) : BytesKept s (s.moveCall p) := by
  have hbytes := (s.sessionTimerStopped.endVoice_bytes .stopped).trans_mem
    (u := s.moveCall p) (by rw [State.moveCall_eq]; simp [State.callTaken])
  unfold State.sessionTimerStopped at hbytes
  split at hbytes <;> exact hbytes

/-- R10: the holder found of a call is its record's. -/
theorem State.holder_some {s : State} {h : Party} : s.holder = some h ↔ s.ccu.call.active = true ∧ s.ccu.call.holder = some h := by
  simp [State.holder]

theorem Port.party_inj {p q : Port} : p.party = q.party ↔ p = q := by
  cases p <;> cases q <;> simp [Port.party]

theorem Port.party_ne_auto (p : Port) : p.party ≠ .auto := by cases p <;> simp [Port.party]

/-- Settles O9: by the holder found, and by the job of the automatic answerer's call. -/
theorem takeCallMoves : Obligations.TakeCallMoves := by
  intro f s h
  refine ⟨fun hauto hjob => ?_, fun hauto hdiscr hremote => ?_, fun hown => ?_, fun q hq hother => ?_, fun hnone => ?_⟩
  · have hbody : takeTakeCall f.port s = (s.moveCall f.port, claimReply (some .auto) 0 []) := by
      simp [takeTakeCall, hauto, hjob]
    refine ⟨_, command_does h hbody, ?_⟩
    obtain ⟨hline, hactive, hnumber, hholder, hvoice, hphase, hdiscr, hremote, hop, huser, hdigits⟩ :=
      s.moveCall_call f.port
    have hsame := s.moveCall_same f.port
    have hnotice (p : Port) : (s.moveCall f.port).Noticed p .callState := by
      rw [State.moveCall_eq]
      exact State.raiseBoth_noticed _ _ p
    refine ⟨by simpa using hline, ?_, by simpa using hnumber, by simpa using hholder, by simpa using hvoice,
      by simpa using hphase, by simpa using hdiscr, by simpa using hremote, by simpa using hop, by simpa using huser, ?_,
      fun p => ((hnotice p).reply _ _ _).deliverSystem, hsame.answered _ _ _ (by simp),
      (s.moveCall_bytes f.port).trans_mem (by simp), hsame.reply _ _ _ (by simp)⟩
    · simpa [hactive] using (State.holder_some.1 hauto).1
    · cases hp : f.port <;> simpa [hp, State.port, PerPort.get] using hdigits
  · exact claim_refused_by h hauto (by simp [takeTakeCall, hauto, hdiscr, hremote])
  · refine command_answers h (r := claimReply s.holder 0 []) ?_
    unfold takeTakeCall
    cases hp : f.port <;> simp [hown, hp, Port.party]
  · refine claim_refused h ?_
    unfold takeTakeCall
    rw [hother]
    cases hp : f.port <;> cases hr : q <;> simp_all [Port.party]
  · exact claim_refused_by h hnone (by simp [takeTakeCall, hnone])

/-! ### HANG UP (R15) -/

/-- R111: the parts that CLEARDOWN changes. -/
theorem State.cleardown_same (s : State) : SameBut [.ccuRest, .timer 2, .timer 4, .pump, .level] s s.cleardown := by
  unfold State.cleardown
  split
  all_goals first | exact .refl _ s | exact .of_parts (by simp)

/-- R111: the pump carries the clearing frames, with its timers and the feed stopped. -/
theorem State.cleardown_stops {s : State}
    (h : s.pump.phase = .data ∨ s.pump.phase = .rateChange ∨ s.pump.phase = .retrain) :
    s.cleardown.pump.phase = .cleardown ∧ s.cleardown.timers.e4.mode = .off ∧ s.cleardown.timers.e2.mode = .off ∧
      s.cleardown.level.feed = .off := by
  unfold State.cleardown
  rcases h with h | h | h <;> simp only [h] <;> exact ⟨rfl, rfl, rfl, rfl⟩

/-- R125: the clearing that the 2814 begins, with its cause fixed. -/
def State.clears (s : State) : State := State.startClearing { s with ccu.ending := some .normal }

theorem State.clears_same (s : State) : SameBut [.ccuRest, .timer 3, .link, .outbound, .systemPort] s s.clears := by
  unfold State.clears State.startClearing
  exact .of_parts (by simp [Link.beginClearing])

theorem State.clears_link (s : State) :
    s.clears.ccu.ending = some .normal ∧ s.clears.link = s.link.beginClearing ∧ s.clears.timers.e3.Runs .lke 2000 .none ∧
      s.clears.pump = s.pump := by
  unfold State.clears State.startClearing
  simp only [State.judgeCts_keeps]
  exact ⟨rfl, rfl, ⟨rfl, rfl, rfl, rfl, rfl⟩, rfl⟩

/-- R15: a call that is not linked ends. -/
theorem State.hangUpHeld_ends {s : State} (hending : s.ccu.ending = none) (hlinked : s.link.mode ≠ .linked)
    (hclearing : s.link.mode ≠ .clearing) : s.hangUpHeld = s.callEnd .normal := by
  unfold State.hangUpHeld
  rw [if_neg (by simp [hending])]
  split
  · contradiction
  · contradiction
  · rfl

/-- R15, R125: a linked call clears first. -/
theorem State.hangUpHeld_linked {s : State} (hending : s.ccu.ending = none) (hlinked : s.link.mode = .linked) :
    s.hangUpHeld = s.clears.cleardown := by
  simp [State.hangUpHeld, hending, hlinked, State.clears]

/-- R15: so does one whose far end has begun to clear. -/
theorem State.hangUpHeld_clearing {s : State} (hending : s.ccu.ending = none) (hclearing : s.link.mode = .clearing) :
    s.hangUpHeld = State.cleardown { s with ccu.ending := some .normal, link.paused := false } := by
  simp [State.hangUpHeld, hending, hclearing]

/-- R15: with an end in progress nothing follows. -/
theorem State.hangUpHeld_ending {s : State} (hending : s.ccu.ending ≠ none) : s.hangUpHeld = s := by
  rw [State.hangUpHeld, if_pos (Option.isSome_iff_ne_none.2 hending)]

/-- R18: only a System Port that is in its data state drops what its assembler holds. -/
theorem State.callEnd_assembler {s : State} (h : s.sys.data = false) (c : Cause) :
    (s.callEnd c).sys.assembler = s.sys.assembler := by
  by_cases hactive : s.ccu.call.active = true
  · rw [State.callEnd_eq hactive]
    simp [State.released, State.toCommand, State.causeFixed, h]
  · simp [State.callEnd, hactive]

/-- R15: what HANG UP does for the holder. -/
theorem takeHangUp_holder {p : Port} {s : State} (h : s.holder = some p.party) :
    takeHangUp p s = (s.hangUpHeld, ⟨.ok, [flagItem false]⟩) := by
  cases p <;> simp_all [takeHangUp, Port.party]

/-- R15: and where it ends nothing. -/
theorem takeHangUp_other {p : Port} {s : State} (hown : s.holder ≠ some p.party) (hauto : s.holder ≠ some .auto) :
    takeHangUp p s = withdrawOr p (if s.holder = none then .wrongPhase else .notHolder) s := by
  unfold takeHangUp
  split
  · next h => simp [h]
  · contradiction
  · next q _ h =>
    have hq : q ≠ p.party := fun he => hown (he ▸ h)
    simp [h, hq]

theorem deliverSystem_assembler (s : State) : s.deliverSystem.sys.assembler = s.sys.assembler := by
  obtain ⟨c, n, h⟩ := s.deliverSystem_eq
  rw [h]

/-- R18, R177: a call that a command ends, with its reply. -/
theorem command_endsCall {f : Frame} {code : Byte} {s : State} {body : State → State × Reply} {c : Cause} {r : Reply}
    (h : s.Takes f code) (hactive : s.ccu.call.active = true) (hending : s.ccu.ending = none)
    (hbody : body s = (s.callEnd c, r)) :
    ∃ t, command f code s body = .next t ∧ CallEnded [.outgoing f.port] s t c ∧
      (s.sys.data = false → t.sys.assembler = s.sys.assembler) ∧ Answered s t f.port code r.status r.results := by
  have hended := State.callEnd_ended hactive hending c
  refine ⟨_, command_does h hbody, (hended.reply _ _ _).finish, fun hdata => ?_, ?_⟩
  · rw [deliverSystem_assembler]
    simpa using State.callEnd_assembler hdata c
  · refine hended.frame.answered _ _ _ ?_
    unfold endParts
    split <;> simp

/-- Settles O10: by the holder found, the end in progress and the mode of the link. -/
theorem hangUpEnds : Obligations.HangUpEnds := by
  intro f s h
  refine ⟨fun hown hending hlinked hclearing => ?_, fun hauto hending => ?_, fun hown hending hlinked => ?_,
    fun hown hending hclearing => ?_, fun hown hending => ?_, fun hown hauto hqueued => ?_, fun hown hauto hqueued => ?_⟩
  · have hbody : takeHangUp f.port s = (s.callEnd .normal, ⟨.ok, [flagItem false]⟩) := by
      rw [takeHangUp_holder hown, State.hangUpHeld_ends hending hlinked hclearing]
    exact command_endsCall h (State.holder_some.1 hown).1 hending hbody
  · have hbody : takeHangUp f.port s = (s.callEnd (stopCause f.port), ⟨.ok, [flagItem false]⟩) := by
      simp [takeHangUp, hauto]
    exact command_endsCall h (State.holder_some.1 hauto).1 hending hbody
  · refine ⟨_, command_does h ((takeHangUp_holder hown).trans (by rw [State.hangUpHeld_linked hending hlinked])), ?_⟩
    obtain ⟨hfixed, hlink, hruns, hpump⟩ := s.clears_link
    have hsame := (s.clears_same.mono (by simp)).trans (s.clears.cleardown_same.mono
      (more := [.ccuRest, .timer 2, .timer 3, .timer 4, .pump, .link, .outbound, .level, .systemPort]) (by simp))
    refine ⟨by simpa using hfixed, ?_, ?_, ?_, ?_, by simpa using hruns, fun hphase => ?_, hsame.answered _ _ _ (by simp),
      hsame.reply _ _ _ (by simp)⟩
    · simp [hlink, Link.beginClearing]
    · simp [hlink, Link.beginClearing]
    · simp [hlink, Link.beginClearing]
    · simp [hlink, Link.beginClearing]
    · simpa using State.cleardown_stops (s := s.clears) (.inl (hpump ▸ hphase))
  · refine ⟨_, command_does h ((takeHangUp_holder hown).trans (by rw [State.hangUpHeld_clearing hending hclearing])), ?_⟩
    have hfixed : SameBut [.ccuRest, .link] s { s with ccu.ending := some .normal, link.paused := false } := .of_parts (by simp)
    have hsame := (hfixed.mono (by simp)).trans ((State.cleardown_same _).mono
      (more := [.ccuRest, .timer 2, .timer 4, .pump, .link, .level]) (by simp))
    refine ⟨by simp, by simp, fun hphase => ?_, hsame.answered _ _ _ (by simp), hsame.reply _ _ _ (by simp)⟩
    simpa using State.cleardown_stops (s := { s with ccu.ending := some .normal, link.paused := false }) hphase
  · exact command_answers h ((takeHangUp_holder hown).trans (by rw [State.hangUpHeld_ending hending]))
  · have hbody : takeHangUp f.port s = (s.withdraw f.port, ⟨.ok, [flagItem true]⟩) := by
      rw [takeHangUp_other hown hauto, withdrawOr, if_pos (by exact hqueued)]
    have hsame : SameBut [.claims] s (s.withdraw f.port) := by
      unfold State.withdraw
      exact .of_parts (by simp)
    refine ⟨_, command_does h hbody, by simp [State.withdraw], hsame.answered _ _ _ (by simp), hsame.reply _ _ _ (by simp)⟩
  · refine command_refused h ?_
    rw [takeHangUp_other hown hauto, withdrawOr, if_neg (by simp [State.hasQueued, hqueued])]

/-! ### CONNECT (R57) -/

/-- R42, R51: what the stop of the Dialler leaves. -/
theorem State.stopDialler_stops (s : State) :
    s.stopDialler.ccu.dialler.item = .none ∧
      s.stopDialler.tone.blank = (if s.ccu.dialler.item = .toning ∧ s.inBurst then 2 else s.tone.blank) ∧
      (s.ccu.dialler.item = .pulsing ∨ s.ccu.dialler.item = .toning ∨ s.ccu.dialler.item = .flashing →
        s.stopDialler.timers.e0.mode = .off ∧ s.stopDialler.timers.e0.high = false) := by
  unfold State.stopDialler
  split
  · next h => simp [h]
  · next h => simp [h]
  · next h => simp [h, State.silence]
  · next hpulsing hflashing htoning =>
    have hnone : s.ccu.dialler.item ≠ .toning := htoning
    refine ⟨rfl, by simp [hnone], fun h => ?_⟩
    rcases h with h | h | h
    exacts [(hpulsing h).elim, (htoning h).elim, (hflashing h).elim]

/-- R42: the parts that the stop of the Dialler changes. -/
theorem State.stopDialler_same (s : State) :
    SameBut [.dialler, .lif, .timer 0, .generator, .detectors] s s.stopDialler := by
  unfold State.stopDialler
  split <;> exact .of_parts (by simp)

/-- R57: a call's line is connected, before its engine starts. -/
def State.lineConnected (s : State) : State :=
  State.lineTo { s.stopT2 with
    tone := { s.tone with answer := .zero, classifier := .zero, voiceBlocks := 0, dtmf := .zero } } .connected

/-- R57: the engine of the job starts on the connected line. -/
theorem State.connectCall_eq (s : State) :
    s.connectCall = match s.ccu.call.job with
      | .data => s.lineConnected.pumpStart .caller
      | .fax => s.lineConnected.faxStart
      | _ => s.lineConnected := by
  unfold State.connectCall
  simp only [State.lineTo_keeps, State.stopT2_keeps]
  rfl

theorem State.lineConnected_same (s : State) :
    SameBut [.line, .ccuRest, .timer 2, .detectors, .notices .panel] s s.lineConnected := by
  unfold State.lineConnected
  refine SameBut.trans ?_ ((State.lineTo_same _ _).mono (by simp))
  exact .of_parts (by simp)

/-- R57: a connected line, with no T2 and its detectors afresh. -/
theorem State.lineConnected_leaves (s : State) :
    s.lineConnected.ccu.line = .connected ∧ s.lineConnected.timers.e2.mode = .off ∧ s.lineConnected.tone.dtmf = .zero ∧
      s.lineConnected.ccu.dialler = s.ccu.dialler ∧ s.lineConnected.tone.blank = s.tone.blank ∧
      s.lineConnected.timers.e0 = s.timers.e0 ∧ s.lineConnected.ccu.call = s.ccu.call := by
  unfold State.lineConnected
  simp

/-- R57: a connection is noticed. -/
theorem State.lineConnected_noticed {s : State} (h : s.ccu.line ≠ .connected) (p : Port) :
    s.lineConnected.Noticed p .callState :=
  State.lineTo_noticed (by exact h) p

/-! ### The generator on a voice call (R60, R61) -/

/-- R60, R61: the generator may be used. -/
theorem generatorRefusal_none {p : Port} {s : State} (hactive : s.ccu.call.active = true) (hjob : s.ccu.call.job = .voice)
    (hline : s.ccu.line = .connected) (hholder : s.holder = some p.party) (hidle : s.tone.generator.state = .idle)
    (hplay : ¬s.voice.op.playsToLine) : generatorRefusal p s = none := by
  simp [generatorRefusal, hactive, hjob, hline, hholder, hidle, hplay]

theorem symbolsOf_length {bs : List Byte} {xs : List Symbol} (h : symbolsOf bs = some xs) : xs.length = bs.length := by
  induction bs generalizing xs with
  | nil => simp_all [symbolsOf]
  | cons b rest ih =>
    unfold symbolsOf at h
    split at h
    · next ys hys =>
      split at h
      · cases h
        simp [ih hys]
      · cases h
    · cases h

/-- R60: the generator starts on the first symbol of a list. -/
theorem State.generatorNext_cons {s : State} {x : Symbol} {xs : List Symbol} (h : s.tone.generator.list = x :: xs) :
    s.generatorNext = { s.loadT0 .generatorEnable .tnu s.settings.dtmfOnMs s.settings.dtmfOffMs true with
      tone.generator := { state := .sending, list := xs, tone := some (.pair x) } } := by
  simp only [State.generatorNext, h]

/-- R61: a length within the range of BEEP is a compare as it stands. -/
theorem compareClamp_beep (n : Nat) : compareClamp (clamp 50 2000 n) = clamp 50 2000 n := by
  unfold compareClamp clamp Config.max16
  omega

/-- R61: BEEP with the generator free. -/
theorem takeBeep_good {p : Port} {s : State} (frequency duration : U16) (h : generatorRefusal p s = none) :
    takeBeep p frequency duration s =
      ({ s.loadT0 .generatorEnable .tnu (clamp 50 2000 duration.toNat) 1 true with
         tone.generator := { state := .beeping, list := [], tone := some (.single (clamp 300 3000 frequency.toNat)) } },
       ⟨.ok, [.u16 (clamp 300 3000 frequency.toNat), .u16 (clamp 50 2000 duration.toNat)]⟩) := by
  unfold takeBeep
  rw [h]

/-- R59, R177: the reply and the end of the step leave a port's digits. -/
theorem State.reply_deliver_digits (s : State) (q p : Port) (code : Byte) (r : Reply) :
    ((s.reply q code r).deliverSystem.port p).digits = (s.port p).digits := by
  cases p <;> simp [State.port, PerPort.get]

/-- R57: CONNECT by the holder of a VOICE call. -/
theorem takeConnect_holder {p : Port} {s : State} (hholder : s.holder = some p.party) (hjob : s.ccu.call.job = .voice) :
    takeConnect p s = (if s.ccu.line.connectable = true then s.stopDialler.connectCall else s, .plain .ok) := by
  unfold takeConnect
  rw [hholder]
  simp only [ne_eq, not_true_eq_false, if_false, hjob]
  split <;> rfl

/-- Settles O11: each command by its body. -/
theorem voiceCallCommands : Obligations.VoiceCallCommands := by
  refine ⟨fun f s h hholder hjob => ⟨fun hline => ?_, fun hline => ?_⟩,
    fun f s hactive hjob hline hholder hidle hplay => ⟨fun b rest x xs h hxs hlen => ?_, fun frequency duration h => ?_⟩,
    fun f count s h => ⟨fun hlo hhi => ?_, fun hbad => ?_⟩⟩
  · have hbody : takeConnect f.port s = (s.stopDialler.lineConnected, .plain .ok) := by
      rw [takeConnect_holder hholder hjob, if_pos hline, State.connectCall_eq]
      simp [State.stopDialler_keeps, hjob]
    refine ⟨_, command_does h hbody, ?_⟩
    obtain ⟨hitem, hblank, hoff⟩ := s.stopDialler_stops
    obtain ⟨hconnected, ht2, hdtmf, hdialler, hblank', ht0, hcall⟩ := s.stopDialler.lineConnected_leaves
    have hsame := (s.stopDialler_same.mono (by simp)).trans (s.stopDialler.lineConnected_same.mono
      (more := [.line, .ccuRest, .dialler, .lif, .timer 0, .timer 2, .generator, .detectors, .notices .panel]) (by simp))
    have hunconnected : s.stopDialler.ccu.line ≠ .connected := by
      intro he
      rw [State.stopDialler_keeps s |>.1] at he
      simp [he, LineState.connectable] at hline
    refine ⟨by simpa using hconnected, by simpa [hdialler] using hitem, by simpa using ht2, by simpa using hdtmf,
      by simpa [hblank'] using hblank, by simpa [ht0] using hoff, ?_,
      fun p => ((State.lineConnected_noticed hunconnected p).reply _ _ _).deliverSystem, hsame.answered _ _ _ (by simp),
      hsame.reply _ _ _ (by simp)⟩
    simp [hcall]
  · exact command_answers h ((takeConnect_holder hholder hjob).trans (by rw [if_neg (by simp [hline])]))
  · have hlength := symbolsOf_length hxs
    have hbody : takeSendDigits f.port (b :: rest) s =
        (State.generatorNext { s with tone.generator.list := x :: xs }, .plain .ok) := by
      unfold takeSendDigits
      rw [hxs]
      dsimp only
      rw [if_neg (by simp only [List.length_cons] at *; omega),
        generatorRefusal_none hactive hjob hline hholder hidle hplay]
    refine ⟨_, command_does h hbody, ?_⟩
    rw [State.generatorNext_cons rfl]
    generalize hu : ({ State.loadT0 _ _ _ _ _ _ with tone.generator := _ } : State) = u
    have hsame : SameBut [.timer 0, .generator] s u := by
      subst hu
      exact .of_parts (by simp)
    refine ⟨?_, ?_, ?_, ?_, ?_, ?_, ?_, ?_, ?_, hsame.answered _ _ _ (by simp), hsame.reply _ _ _ (by simp)⟩ <;>
      simp [← hu, State.loadT0, Channel.load]
  · have hbody := takeBeep_good frequency duration
      (generatorRefusal_none hactive hjob hline hholder hidle hplay)
    refine ⟨_, command_does h hbody, ?_⟩
    generalize hu : ({ State.loadT0 _ _ _ _ _ _ with tone.generator := _ } : State) = u
    have hsame : SameBut [.timer 0, .generator] s u := by
      subst hu
      exact .of_parts (by simp)
    refine ⟨?_, ?_, ?_, ?_, ?_, ?_, ?_, hsame.answered _ _ _ (by simp), hsame.reply _ _ _ (by simp)⟩ <;>
      simp [← hu, State.loadT0, Channel.load, compareClamp_beep]
  · refine ⟨_, command_does h (if_neg (by omega)), ?_⟩
    have hsame := s.updPort_digits_same f.port ⟨(s.port f.port).digits.digits.drop count.toNat, false⟩
    refine ⟨?_, hsame.answered _ _ _ (by simp), hsame.reply _ _ _ (by simp)⟩
    rw [State.reply_deliver_digits, State.updPort_port]
  · exact command_refused h (if_pos hbad)

end Sys2Proof.Machine
end

section
/-! PROOFS. The start of a call's engine (R4, R101, R132) and the taking of an answer (R4, R13). -/

namespace Sys2Proof.Machine

/-! ### Reports of phases (R17) -/

/-- R17: a phase report writes the phase of the Call Record only. -/
theorem State.reportPhase_call (s : State) (p : CallPhase) :
    ∃ x, (s.reportPhase p).ccu.call = { s.ccu.call with phase := x } := by
  unfold State.reportPhase
  split
  · exact ⟨some p, rfl⟩
  · exact ⟨s.ccu.call.phase, rfl⟩

theorem State.reportPhase_same (s : State) (p : CallPhase) : SameBut [.call] s (s.reportPhase p) := by
  unfold State.reportPhase
  split
  · exact .of_parts (by simp)
  · exact .refl _ s

/-! ### The pump's start (R101) -/

/-- R101: the pump has started in a role. -/
structure State.Pumps (t : State) (role : PumpRole) : Prop where
  mode : t.pump.mode = .data
  inRole : t.pump.role = some role
  phase : t.pump.phase = .handshake
  tone : t.pump.answerTone = decide (role = .answerer)

theorem State.pumpStart_pumps (s : State) (role : PumpRole) :
    (s.pumpStart role).Pumps role ∧ (s.pumpStart role).pump.localCeiling = s.settings.rungCeiling := by
  unfold State.pumpStart
  exact ⟨⟨by simp, by simp, by simp, by simp⟩, by simp⟩

theorem State.pumpStart_same (s : State) (role : PumpRole) : SameBut [.call, .pump] s (s.pumpStart role) := by
  unfold State.pumpStart
  exact SameBut.trans (.of_parts (by simp)) ((State.reportPhase_same _ _).mono (by simp))

theorem State.pumpStart_call (s : State) (role : PumpRole) :
    ∃ x, (s.pumpStart role).ccu.call = { s.ccu.call with phase := x } :=
  State.reportPhase_call _ _

/-! ### The fax session's start (R132) -/

/-- R132: a fax session has begun at its receiver, whose CAPS is being sent. -/
structure State.Receives (t : State) (place : FaxPlace) (ceiling : Nat) : Prop where
  role : t.fax.role = some .receiver
  place : t.fax.place = place
  phase : t.fax.phase = some .setup
  expect : t.fax.expect = .set
  mode : t.pump.mode = .fax
  caps : t.fax.ceiling = ceiling ∧ t.link.tx = .fax (.caps ceiling 3 0)
  waits : t.LoadedT2 .faxReply 3000 .none

/-- R132: the session's bounds as read at its start. -/
def State.faxBounded (s : State) : State :=
  State.faxTo
    { s with
      pump := { Pump.idle with mode := .fax },
      fax := { s.fax with floor := max 2 s.settings.rungFloor, ceiling := min 7 s.settings.rungCeiling } } .setup

theorem State.faxBounded_same (s : State) : SameBut [.call, .pump, .fax] s s.faxBounded := by
  unfold State.faxBounded State.faxTo
  refine SameBut.trans ?_ ((State.reportPhase_same _ _).mono (by simp))
  exact .of_parts (by simp)

theorem State.faxBounded_leaves (s : State) :
    s.faxBounded.fax = { s.fax with floor := max 2 s.settings.rungFloor, ceiling := min 7 s.settings.rungCeiling,
                                    phase := some .setup } ∧
      s.faxBounded.pump.mode = .fax ∧ s.faxBounded.settings = s.settings ∧ s.faxBounded.store = s.store ∧
      (∃ x, s.faxBounded.ccu.call = { s.ccu.call with phase := x }) := by
  unfold State.faxBounded State.faxTo
  refine ⟨by simp, by simp, by simp, by simp, State.reportPhase_call _ _⟩

theorem State.faxStart_receiver {s : State} (h : s.fax.role = some .receiver) :
    s.faxStart = s.faxBounded.faxStartReceiver := by
  unfold State.faxStart
  have hrole : s.faxBounded.fax.role = some .receiver := by rw [s.faxBounded_leaves.1, h]
  exact if_pos hrole

theorem State.faxStart_sender {s : State} (h : s.fax.role ≠ some .receiver) :
    s.faxStart = s.faxBounded.faxStartSender := by
  unfold State.faxStart
  have hrole : s.faxBounded.fax.role ≠ some .receiver := by rw [s.faxBounded_leaves.1]; exact h
  exact if_neg hrole

/-- R132: CAPS is sent within bounds that leave a rung. -/
theorem State.faxSendCaps_bounded {s : State} (h : s.fax.floor ≤ s.fax.ceiling) :
    s.faxSendCaps = s.faxSend (.caps s.fax.ceiling 3 0) .set := if_neg (by omega)

theorem State.faxSend_same (s : State) (f : FaxFrame) (x : FaxExpect) :
    SameBut [.ccuRest, .timer 2, .fax, .link] s (s.faxSend f x) := by
  unfold State.faxSend State.faxFrame State.faxWait
  exact .of_parts (by simp)

/-- R134: a frame that expects an answer is with the pump, and T2 runs. -/
theorem State.faxSend_leaves (s : State) (f : FaxFrame) (x : FaxExpect) :
    (s.faxSend f x).fax = { s.fax with expect := x, lastFrame := some f, checkSending := false, unsent := true } ∧
      (s.faxSend f x).link = { s.link with tx := .fax f } ∧ (s.faxSend f x).LoadedT2 .faxReply 3000 .none :=
  ⟨rfl, rfl, State.loadT2_loaded _ _ _ _⟩

/-- R132: a session that goes to the System Port starts. -/
theorem State.faxStart_port {s : State} (hrole : s.fax.role = some .receiver) (hplace : s.fax.place = .port)
    (hbounds : max 2 s.settings.rungFloor ≤ min 7 s.settings.rungCeiling) :
    s.faxStart.Receives .port (min 7 s.settings.rungCeiling) ∧ s.faxStart.store = s.store ∧
      (∃ x, s.faxStart.ccu.call = { s.ccu.call with phase := x }) ∧
      SameBut [.call, .ccuRest, .timer 2, .fax, .pump, .link] s s.faxStart := by
  obtain ⟨hfax, hmode, hsettings, hstore, hcall⟩ := s.faxBounded_leaves
  have hcaps : s.faxStart = s.faxBounded.faxSend (.caps (min 7 s.settings.rungCeiling) 3 0) .set := by
    rw [State.faxStart_receiver hrole, State.faxStartReceiver]
    simp only [hfax, hplace]
    rw [State.faxSendCaps_bounded (by rw [hfax]; exact hbounds), hfax]
  obtain ⟨hsent, hlink, hloaded⟩ := s.faxBounded.faxSend_leaves (.caps (min 7 s.settings.rungCeiling) 3 0) .set
  have hsame := (s.faxBounded_same.mono (by simp)).trans ((s.faxBounded.faxSend_same
    (.caps (min 7 s.settings.rungCeiling) 3 0) .set).mono (more := [.call, .ccuRest, .timer 2, .fax, .pump, .link]) (by simp))
  rw [hcaps]
  refine ⟨⟨?_, ?_, ?_, ?_, hmode, ⟨?_, ?_⟩, hloaded⟩, hstore, hcall, hsame⟩
  · rw [hsent, hfax, ← hrole]
  · rw [hsent, hfax, ← hplace]
  · rw [hsent, hfax]
  · rw [hsent]
  · rw [hsent, hfax]
  · rw [hlink]

/-- R165: a creation where one can be made. -/
theorem State.create_some {s : State} (h : s.canCreate = true) (kind : MsgKind) (slot : Option Nat) (caller : Bool) :
    s.create kind slot caller =
      ({ s with store.dir := s.store.dir ++ [s.newEntry kind slot caller],
                store.header.lastId := (s.newEntry kind slot caller).id }, some (s.newEntry kind slot caller).id) := if_pos h

/-- R132: the FAX_IN entry of a session that stores its pages has been created. -/
def State.faxEntryCreated (s : State) : State :=
  let e := s.newEntry .faxIn none true
  { s with store.dir := s.store.dir ++ [e], store.header.lastId := e.id, fax.linkedId := some e.id,
           ccu.call.linkedId := some e.id }

theorem State.faxEntryCreated_same (s : State) : SameBut [.call, .fax, .header, .directory] s s.faxEntryCreated := by
  unfold State.faxEntryCreated
  exact .of_parts (by simp)

/-- R132: a receiver that stores its pages creates its entry, and sends its CAPS. -/
theorem State.faxStartReceiver_store {s : State} (hplace : s.fax.place = .store) (hbounds : s.fax.floor ≤ s.fax.ceiling)
    (hcreate : s.canCreate = true) :
    s.faxStartReceiver = s.faxEntryCreated.faxSend (.caps s.fax.ceiling 3 0) .set := by
  have hcaps : s.faxEntryCreated.faxSendCaps = s.faxEntryCreated.faxSend (.caps s.fax.ceiling 3 0) .set :=
    State.faxSendCaps_bounded hbounds
  rw [State.faxStartReceiver, hplace, State.create_some hcreate]
  exact hcaps

/-- R132: a session that stores its pages starts with its entry created. -/
theorem State.faxStart_store {s : State} (hrole : s.fax.role = some .receiver) (hplace : s.fax.place = .store)
    (hbounds : max 2 s.settings.rungFloor ≤ min 7 s.settings.rungCeiling) (hcreate : s.canCreate = true) :
    s.faxStart.Receives .store (min 7 s.settings.rungCeiling) ∧
      (∃ e : Entry, s.faxStart.store.dir = s.store.dir ++ [e] ∧ e.kind = .faxIn ∧ e.state = .opened ∧
        s.faxStart.fax.linkedId = some e.id ∧ s.faxStart.ccu.call.linkedId = some e.id) ∧
      (∃ x y, s.faxStart.ccu.call = { s.ccu.call with phase := x, linkedId := y }) ∧
      SameBut [.call, .ccuRest, .timer 2, .fax, .pump, .link, .header, .directory] s s.faxStart := by
  obtain ⟨hfax, hmode, hsettings, hstore, x, hcall⟩ := s.faxBounded_leaves
  have hcreate' : s.faxBounded.canCreate = true := by
    unfold State.canCreate State.freeCount at *
    rwa [hstore]
  have hcaps : s.faxStart = s.faxBounded.faxEntryCreated.faxSend (.caps (min 7 s.settings.rungCeiling) 3 0) .set := by
    rw [State.faxStart_receiver hrole, State.faxStartReceiver_store (by rw [hfax]; exact hplace)
      (by rw [hfax]; exact hbounds) hcreate', hfax]
  obtain ⟨hsent, hlink, hloaded⟩ :=
    s.faxBounded.faxEntryCreated.faxSend_leaves (.caps (min 7 s.settings.rungCeiling) 3 0) .set
  have hsame := ((s.faxBounded_same.mono (by simp)).trans (s.faxBounded.faxEntryCreated_same.mono (by simp))).trans
    ((State.faxSend_same _ (.caps (min 7 s.settings.rungCeiling) 3 0) .set).mono
      (more := [.call, .ccuRest, .timer 2, .fax, .pump, .link, .header, .directory]) (by simp))
  have hcreated : s.faxBounded.faxEntryCreated.fax = { s.fax with
      floor := max 2 s.settings.rungFloor, ceiling := min 7 s.settings.rungCeiling, phase := some .setup,
      linkedId := some (s.faxBounded.newEntry .faxIn none true).id } := by
    rw [State.faxEntryCreated, hfax]
  rw [hcaps]
  refine ⟨⟨?_, ?_, ?_, ?_, hmode, ⟨?_, ?_⟩, hloaded⟩,
    ⟨s.faxBounded.newEntry .faxIn none true, ?_, rfl, rfl, ?_, rfl⟩,
    ⟨x, some (s.faxBounded.newEntry .faxIn none true).id, ?_⟩, hsame⟩
  · rw [hsent, hcreated, ← hrole]
  · rw [hsent, hcreated, ← hplace]
  · rw [hsent, hcreated]
  · rw [hsent]
  · rw [hsent, hcreated]
  · rw [hlink]
  · rw [← hstore]; rfl
  · rw [hsent, hcreated]
  · exact congrArg (fun c : CallRecord => { c with linkedId := some (s.faxBounded.newEntry .faxIn none true).id }) hcall

/-! ### The taking of an answer (R4) -/

/-- R4: the answered call before its engine starts. -/
def State.answered (s : State) (holder : Party) (job : Job) : State :=
  State.lineTo
    { ((s.settleCapture false).activate
        (answerRecord (s.settleCapture false).rau.episode (s.settleCapture false).rau.caller holder job) false).closeRelay with
      rau.episode.active := false } .connected

theorem State.answerTaken_eq (s : State) (holder : Party) (job : Job) :
    s.answerTaken holder job = (s.answered holder job).startJob job := rfl

/-- R72: the parts that the settlement of a capture changes. -/
theorem State.settleCapture_same (s : State) (middle : Bool) :
    SameBut [.caller, .notices .panel] s (s.settleCapture middle) := by
  unfold State.settleCapture
  split
  · exact .of_parts (by simp)
  · split <;> exact .of_parts (by simp)
  · exact .of_parts (by simp)

theorem State.answered_same (s : State) (holder : Party) (job : Job) :
    SameBut [.line, .call, .ccuRest, .lif, .timer 1, .ringing, .episode, .caller, .detectors, .level, .stats, .fax,
      .digits .system, .digits .panel, .notices .panel] s (s.answered holder job) := by
  unfold State.answered
  refine ((s.settleCapture_same false).mono (by simp)).trans (SameBut.trans ?_ ((State.lineTo_same _ _).mono (by simp)))
  exact .of_parts (by simp)

/-- R4, R17: what an answer leaves, before its engine starts. -/
theorem State.answered_leaves (s : State) (holder : Party) (job : Job) :
    (s.answered holder job).ccu.line = .connected ∧ (s.answered holder job).lif.relayClosed = true ∧
      (s.answered holder job).rau.episode.active = false ∧
      (s.answered holder job).ccu.call = { answerRecord s.rau.episode (s.settleCapture false).rau.caller holder job with
        active := true, number := s.nextNumber, startTime := s.calendar.time, seconds := 0 } ∧
      (s.answered holder job).fax = faxSetup .incoming holder job ∧ (s.answered holder job).ccu.ending = none := by
  unfold State.answered
  refine ⟨by simp, ?_, by simp, ?_, ?_, ?_⟩ <;>
    simp [State.closeRelay, Lif.suspend, State.activate, answerRecord, State.nextNumber]

/-! ### ANSWER (R13) -/

/-- R13: an ANSWER with a good job in RINGING, with the line free. -/
theorem takeAnswer_granted {p : Port} {job : Byte} {j : Job} {s : State} (hjob : jobFor p job = some j)
    (hline : s.ccu.line = .ringing) (hfree : s.lif.lineInUse = false) :
    takeAnswer p job s = (s.answerTaken p.party j, claimReply s.holder 0 []) := by
  simp [takeAnswer, hjob, takeGoodAnswer, hline, hfree]

/-- R13: an ANSWER with a good job goes by the line state and the holder found. -/
theorem takeAnswer_good {p : Port} {job : Byte} {j : Job} (s : State) (hjob : jobFor p job = some j) :
    takeAnswer p job s = takeGoodAnswer p j s := by
  simp [takeAnswer, hjob]

/-- R10: the jobs a claim may carry. -/
theorem jobFor_cases {p : Port} {job : Byte} {j : Job} (h : jobFor p job = some j) : j = .data ∨ j = .fax ∨ j = .voice := by
  unfold jobFor at h
  have hclaim : claimJob job = some j := by
    split at h
    · split at h
      · cases h
      · next hd _ => rw [hd, h]
    · exact h
  unfold claimJob at hclaim
  split at hclaim
  · exact .inl (Option.some.inj hclaim).symm
  · split at hclaim
    · exact .inr (.inl (Option.some.inj hclaim).symm)
    · split at hclaim
      · exact .inr (.inr (Option.some.inj hclaim).symm)
      · cases hclaim

/-- R131: the session record of a master's answered call. -/
theorem faxSetup_incoming (p : Port) :
    (faxSetup .incoming p.party .fax).role = some .receiver ∧
      (faxSetup .incoming p.party .fax).place = (if p = .system then .port else .store) := by
  cases p <;> exact ⟨rfl, rfl⟩

theorem State.canCreate_congr {s t : State} (hdir : t.store.dir = s.store.dir) (hfree : t.store.free = s.store.free) :
    t.canCreate = s.canCreate := by
  unfold State.canCreate State.freeCount
  rw [hdir, hfree]

/-- R13: the parts that the engine of a granted answer may change beside those of the answer. -/
def engineParts : Job → List Part
  | .data => [.pump]
  | .fax => [.pump, .link, .timer 2, .header, .directory]
  | _ => []

/-- R4, R13: what a granted ANSWER leaves. -/
structure AnswerTaken (s t : State) (p : Port) (j : Job) : Prop where
  line : t.ccu.line = .connected
  relay : t.lif.relayClosed = true
  episode : t.rau.episode.active = false
  call : ∃ x y, t.ccu.call = { answerRecord s.rau.episode (s.settleCapture false).rau.caller p.party j with
    active := true, number := s.nextNumber, startTime := s.calendar.time, seconds := 0, phase := x, linkedId := y }
  pump : j = .data → t.Pumps .answerer ∧ t.pump.localCeiling = s.settings.rungCeiling
  fax : j = .fax → t.Receives (if p = .system then .port else .store) (min 7 s.settings.rungCeiling) ∧
    (p = .system → t.store.dir = s.store.dir) ∧
    (p = .panel → ∃ e : Entry, t.store.dir = s.store.dir ++ [e] ∧ e.kind = .faxIn ∧ e.state = .opened ∧
      t.fax.linkedId = some e.id ∧ t.ccu.call.linkedId = some e.id)
  frame : SameBut ([.line, .call, .ccuRest, .lif, .timer 1, .ringing, .episode, .caller, .detectors, .level, .stats, .fax,
    .digits .system, .digits .panel, .notices .panel] ++ engineParts j) s t

/-- R4: what the start of an engine leaves of an answered call. -/
theorem AnswerTaken.of_engine {s t : State} {p : Port} {j : Job} {parts : List Part}
    (hsame : SameBut parts (s.answered p.party j) t) (hparts : parts ⊆ [.call, .ccuRest, .fax] ++ engineParts j)
    (hcall : ∃ x y, t.ccu.call = { (s.answered p.party j).ccu.call with phase := x, linkedId := y })
    (hpump : j = .data → t.Pumps .answerer ∧ t.pump.localCeiling = s.settings.rungCeiling)
    (hfax : j = .fax → t.Receives (if p = .system then .port else .store) (min 7 s.settings.rungCeiling) ∧
      (p = .system → t.store.dir = s.store.dir) ∧
      (p = .panel → ∃ e : Entry, t.store.dir = s.store.dir ++ [e] ∧ e.kind = .faxIn ∧ e.state = .opened ∧
        t.fax.linkedId = some e.id ∧ t.ccu.call.linkedId = some e.id))
    (hout : .line ∉ parts ∧ .lif ∉ parts ∧ .episode ∉ parts) : AnswerTaken s t p j := by
  obtain ⟨hline, hrelay, hepisode, hrecord, -, -⟩ := s.answered_leaves p.party j
  have heq : t.ccu.line = (s.answered p.party j).ccu.line := hsame .line hout.1 (by simp)
  have hlif : t.lif = (s.answered p.party j).lif := hsame .lif hout.2.1 (by simp)
  have hep : t.rau.episode = (s.answered p.party j).rau.episode := hsame .episode hout.2.2 (by simp)
  exact
    { line := by rw [heq, hline]
      relay := by rw [hlif, hrelay]
      episode := by rw [hep, hepisode]
      call := hcall.imp fun x => Exists.imp fun y h => by rw [h, hrecord]
      pump := hpump
      fax := hfax
      frame := ((s.answered_same _ _).mono (List.subset_append_left _ _)).trans
        (hsame.mono (List.Subset.trans hparts (List.append_subset.2
        ⟨List.subset_append_of_subset_left _ (by simp), List.subset_append_right _ _⟩))) }

/-- R4, R13: a granted ANSWER starts the engine of its job. -/
theorem State.answerTaken_taken {s : State} {p : Port} {j : Job} (hj : j = .data ∨ j = .fax ∨ j = .voice)
    (hfax : j = .fax → max 2 s.settings.rungFloor ≤ min 7 s.settings.rungCeiling ∧ (p = .panel → s.canCreate = true)) :
    AnswerTaken s (s.answerTaken p.party j) p j := by
  have hsettings (j : Job) : (s.answered p.party j).settings = s.settings :=
    (s.answered_same p.party j) .settings (by simp) (by simp)
  have hdir (j : Job) : (s.answered p.party j).store.dir = s.store.dir :=
    (s.answered_same p.party j) .directory (by simp) (by simp)
  have hfree (j : Job) : (s.answered p.party j).store.free = s.store.free :=
    ((s.answered_same p.party j) .freeList (by simp) (by simp)).1
  rw [State.answerTaken_eq]
  rcases hj with rfl | rfl | rfl
  · obtain ⟨hpumps, hceiling⟩ := (s.answered p.party .data).pumpStart_pumps .answerer
    obtain ⟨x, hcall⟩ := (s.answered p.party .data).pumpStart_call .answerer
    exact .of_engine (State.pumpStart_same _ _) (by simp [engineParts]) ⟨x, _, hcall⟩
      (fun _ => ⟨hpumps, hceiling.trans (by rw [hsettings])⟩) (by simp) (by simp)
  · obtain ⟨hbounds, hpanel⟩ := hfax rfl
    obtain ⟨hrole, hplace⟩ := faxSetup_incoming p
    have hrecord := (s.answered_leaves p.party .fax).2.2.2.2.1
    rw [← hrecord] at hrole hplace
    rw [← hsettings .fax] at hbounds
    cases p with
    | system =>
      obtain ⟨hreceives, hstore, ⟨x, hcall⟩, hsame⟩ := State.faxStart_port hrole hplace hbounds
      rw [hsettings] at hreceives
      exact .of_engine hsame (by simp [engineParts]) ⟨x, _, hcall⟩ (by simp)
        (fun _ => ⟨hreceives, fun _ => (congrArg Store.dir hstore).trans (hdir _), by simp⟩) (by simp)
    | panel =>
      have hcreate := (State.canCreate_congr (hdir .fax) (hfree .fax)).trans (hpanel rfl)
      obtain ⟨hreceives, hentry, ⟨x, y, hcall⟩, hsame⟩ := State.faxStart_store hrole hplace hbounds hcreate
      rw [hsettings] at hreceives
      rw [hdir] at hentry
      exact .of_engine hsame (by simp [engineParts]) ⟨x, y, hcall⟩ (by simp)
        (fun _ => ⟨hreceives, by simp, fun _ => hentry⟩) (by simp)
  · exact .of_engine (.refl [] _) (by simp) ⟨_, _, rfl⟩ (by simp) (by simp) (by simp)

/-- Settles O8: the refusals by the job, the line state and the holder found, and the grant by its job. -/
theorem answerGranted : Obligations.AnswerGranted := by
  refine ⟨fun f job s h => ⟨fun hjob => ?_, fun j hjob hline hused => ?_, fun j hjob hline hholder => ?_,
    fun j hjob hline hholder => ?_, fun j p hjob hline hholder => ?_⟩, fun f job j s h hjob hline hfree hfax => ?_⟩
  · exact claim_refused h (by simp [takeAnswer, hjob])
  · exact claim_refused h (by simp [takeAnswer_good s hjob, takeGoodAnswer, hline, hused])
  · exact claim_refused_by h hholder (by simp [takeAnswer_good s hjob, takeGoodAnswer, hline, hholder])
  · exact claim_refused_by h hholder (by simp [takeAnswer_good s hjob, takeGoodAnswer, hline, hholder])
  · refine claim_refused h ?_
    rw [takeAnswer_good s hjob, takeGoodAnswer, if_neg hline, hholder]
    cases p <;> rfl
  · refine ⟨_, command_does h (takeAnswer_granted hjob hline hfree), ?_⟩
    have htaken := State.answerTaken_taken (s := s) (p := f.port) (jobFor_cases hjob) hfax
    obtain ⟨x, y, hcall⟩ := htaken.call
    generalize s.answerTaken f.port.party j = u at htaken hcall
    have hframe := htaken.frame
    have hparts : engineParts j = match j with
        | .data => [.pump]
        | .fax => [.pump, .link, .timer 2, .header, .directory]
        | _ => [] := by
      cases j <;> rfl
    rw [hparts] at hframe
    simp only [State.deliverSystem_ccu, State.reply_ccu, State.deliverSystem_lif, State.reply_lif, State.deliverSystem_rau,
      State.reply_rau, State.deliverSystem_pump, State.reply_pump, State.deliverSystem_fax, State.reply_fax,
      State.deliverSystem_link, State.reply_link, State.deliverSystem_store, State.reply_store, State.LoadedT2,
      State.deliverSystem_timers, State.reply_timers]
    refine ⟨htaken.line, htaken.relay, htaken.episode, ?_, ?_, ?_, ?_, ?_, ?_, ?_, ?_, ?_, fun hj => ?_, fun hj => ?_,
      hframe.answered _ _ _ (by cases j <;> simp), hframe.reply _ _ _ ⟨?_, by simp⟩⟩
    case refine_12 => cases j <;> simp
    case refine_10 =>
      obtain ⟨hpumps, hceiling⟩ := htaken.pump hj
      exact ⟨hpumps.mode, hpumps.inRole, hpumps.phase, hpumps.tone, hceiling⟩
    case refine_11 =>
      obtain ⟨hreceives, hsystem, hpanel⟩ := htaken.fax hj
      obtain ⟨hceiling, hcaps⟩ := hreceives.caps
      refine ⟨hreceives.mode, hreceives.role, hreceives.phase, hreceives.expect, by rw [hceiling, hcaps],
        hreceives.waits, fun hp => ⟨?_, hsystem hp⟩, fun hp => ⟨?_, hpanel hp⟩⟩
      · rw [hreceives.place, if_pos hp]
      · rw [hreceives.place, if_neg (by simp [hp])]
    all_goals simp [hcall, answerRecord]

end Sys2Proof.Machine
end

section
/-! PROOFS. SET SETTING (R52, R73, R99, R100, R130, R163, R173, R178, R180, 12.6). -/

namespace Sys2Proof.Machine

/-! ### The settings index (12.6) -/

theorem callNumSetting_get_set {id : Nat} {x : NumSetting} (h : callNumSetting id = some x) (t : Settings) (n : Nat) :
    x.get (x.set t n) = n := by
  unfold callNumSetting at h
  split at h
  all_goals cases h
  all_goals rfl

theorem engineNumSetting_get_set {id : Nat} {x : NumSetting} (h : engineNumSetting id = some x) (t : Settings) (n : Nat) :
    x.get (x.set t n) = n := by
  unfold engineNumSetting at h
  split at h
  all_goals cases h
  all_goals rfl

/-- 12.6: a number belongs to the call or to an engine. -/
theorem numSettingOf_cases {id : Nat} {x : NumSetting} (h : numSettingOf id = some x) :
    callNumSetting id = some x ∨ engineNumSetting id = some x := by
  unfold numSettingOf at h
  rcases hcall : callNumSetting id with _ | y
  · exact .inr (by simpa [hcall] using h)
  · exact .inl (by simpa [hcall] using h)

/-- 12.6: a number that is written is the number that is read. -/
theorem numSettingOf_get_set {id : Nat} {x : NumSetting} (h : numSettingOf id = some x) (t : Settings) (n : Nat) :
    x.get (x.set t n) = n := by
  rcases numSettingOf_cases h with h | h
  · exact callNumSetting_get_set h t n
  · exact engineNumSetting_get_set h t n

/-- 12.6: so is one of an enumeration's values. -/
theorem enumSettingOf_get_set {id : Nat} {x : EnumSetting} (h : enumSettingOf id = some x) (t : Settings) {n : Nat}
    (hn : n < x.n) : x.get (x.set t n) = n := by
  unfold enumSettingOf at h
  split at h
  all_goals cases h
  all_goals
    dsimp only at hn
    interval_cases n <;> rfl

/-- 12.6: an id of an enumeration is none of a number. -/
theorem numSettingOf_of_enum {id : Nat} {x : EnumSetting} (h : enumSettingOf id = some x) : numSettingOf id = none := by
  unfold enumSettingOf at h
  split at h
  all_goals first | rfl | cases h

/-! ### The setters by id -/

theorem setSetting_num {id : Nat} {x : NumSetting} (h : numSettingOf id = some x) (p : Port) (v : List Byte) (s : State) :
    setSetting p id v s = judgeLowAfter id (setNumber x v s) := by
  unfold setSetting
  rw [h]

theorem setSetting_enum {id : Nat} {x : EnumSetting} (h : enumSettingOf id = some x) (p : Port) (v : List Byte) (s : State) :
    setSetting p id v s = setEnum x v s := by
  unfold setSetting
  rw [numSettingOf_of_enum h, h]

theorem setSetting_cadence {i : Nat} (hi : i < 6) (p : Port) (v : List Byte) (s : State) :
    setSetting p (0x11 + i) v s = setCadence i v s := by
  interval_cases i <;> rfl

theorem setSetting_ladder {r : Nat} (hr : r < 8) (p : Port) (v : List Byte) (s : State) :
    setSetting p (0x30 + r) v s = setLadder r v s := by
  interval_cases r <;> rfl

theorem setSetting_priority {g : Nat} (hg : g < 6) (p : Port) (v : List Byte) (s : State) :
    setSetting p (0x70 + g) v s = setPriority p g v s := by
  interval_cases g <;> rfl

/-- 12.6: what an id is. -/
inductive SettingId (id : Nat) : Prop
  | num (x : NumSetting) (h : numSettingOf id = some x)
  | enum (x : EnumSetting) (h : enumSettingOf id = some x)
  | cadence (i : Nat) (hi : i < 6) (h : id = 0x11 + i)
  | remoteEnable (h : id = 0x2A)
  | remoteCode (h : id = 0x2B)
  | ladder (r : Nat) (hr : r < 8) (h : id = 0x30 + r)
  | rungFloor (h : id = 0x38)
  | rungCeiling (h : id = 0x39)
  | escapeByte (h : id = 0x46)
  | priority (g : Nat) (hg : g < 6) (h : id = 0x70 + g)
  | unowned (hset : ∀ p v s, setSetting p id v s = refuse s .badParameter)

/-- 12.6: every id is a setting's or is owned by no block. -/
theorem settingId (id : Nat) : SettingId id := by
  rcases hn : numSettingOf id with _ | x
  · rcases he : enumSettingOf id with _ | x
    · by_cases hc : 0x11 ≤ id ∧ id ≤ 0x16
      · exact .cadence (id - 0x11) (by omega) (by omega)
      by_cases hl : 0x30 ≤ id ∧ id ≤ 0x37
      · exact .ladder (id - 0x30) (by omega) (by omega)
      by_cases hp : 0x70 ≤ id ∧ id ≤ 0x75
      · exact .priority (id - 0x70) (by omega) (by omega)
      by_cases h1 : id = 0x2A
      · exact .remoteEnable h1
      by_cases h2 : id = 0x2B
      · exact .remoteCode h2
      by_cases h3 : id = 0x38
      · exact .rungFloor h3
      by_cases h4 : id = 0x39
      · exact .rungCeiling h4
      by_cases h5 : id = 0x46
      · exact .escapeByte h5
      refine .unowned fun p v s => ?_
      simp only [setSetting, hn, he, hc, hl, hp, h1, h2, h3, h4, h5, if_false]
    · exact .enum x he
  · exact .num x hn

/-! ### Values taken and refused -/

theorem takeValue_same (s : State) (t : Settings) (items : List Item) :
    SameBut [.settings, .header] s (takeValue s t items).1 := by
  unfold takeValue State.saveSettings
  exact .of_parts (by simp)

/-- R163: a value that is taken is in force, saved and reported. -/
theorem setSetting_takes {f : Frame} {id : Byte} {v : List Byte} {s : State} {t : Settings} {items : List Item}
    (h : s.Takes f 0x31#8) (hbody : setSetting f.port id.toNat v s = takeValue s t items) :
    ∃ u, exec (.setSetting f id v) s = .next u ∧ u.settings = t ∧ u.store.header.settings = u.settings ∧
      Answered s u f.port 0x31#8 .ok items ∧ SameBut [.settings, .header, .outgoing f.port] s u := by
  have hsame := takeValue_same s t items
  refine ⟨_, command_does h hbody, ?_, ?_, hsame.answered _ _ _ (by simp), hsame.reply _ _ _ (by simp)⟩ <;>
    simp [State.saveSettings]

theorem setSetting_refuses {f : Frame} {id : Byte} {v : List Byte} {s : State} {x : Status} (h : s.Takes f 0x31#8)
    (hbody : setSetting f.port id.toNat v s = refuse s x) :
    ∃ u, exec (.setSetting f id v) s = .next u ∧ Answered s u f.port 0x31#8 x [] ∧ SameBut [.outgoing f.port] s u :=
  command_refused h hbody

theorem ofNat_toNat_of_lt {n : Nat} (h : n < 256) : (BitVec.ofNat 8 n).toNat = n := by
  simp; omega

/-! ### The value that is read back (R178) -/

/-- R178: what READ SETTING then gives is what SET SETTING reported. -/
def ReadsBack (p : Port) (id : Nat) (r : State × Reply) : Prop :=
  r.2.status = .ok → settingItems p id r.1 = some r.2.results

theorem readsBack_refuse (p : Port) (id : Nat) (s : State) {x : Status} (hx : x ≠ .ok) : ReadsBack p id (refuse s x) :=
  fun h => absurd h hx

/-- 12.6: a saved setting is read from the settings in force. -/
theorem readsBack_takeValue (p : Port) {id : Nat} (hid : ¬(0x70 ≤ id ∧ id ≤ 0x75)) (s : State) {t : Settings}
    {items : List Item} (h : savedItems t id = some items) : ReadsBack p id (takeValue s t items) := by
  intro _
  simp only [settingItems, if_neg hid]
  exact h

theorem numSettingOf_bound {id : Nat} {x : NumSetting} (h : numSettingOf id = some x) : id ≤ 0x60 := by
  rcases numSettingOf_cases h with h | h
  · unfold callNumSetting at h
    split at h
    all_goals first | decide | cases h
  · unfold engineNumSetting at h
    split at h
    all_goals first | decide | cases h

theorem enumSettingOf_bound {id : Nat} {x : EnumSetting} (h : enumSettingOf id = some x) : id ≤ 0x51 := by
  unfold enumSettingOf at h
  split at h
  all_goals first | decide | cases h

theorem savedItems_num {id : Nat} {x : NumSetting} (h : numSettingOf id = some x) (t : Settings) :
    savedItems t id = some [.u16 (x.get t)] := by
  unfold savedItems
  rw [h]

theorem savedItems_enum {id : Nat} {x : EnumSetting} (h : enumSettingOf id = some x) (t : Settings) :
    savedItems t id = some [.u8 (x.get t)] := by
  unfold savedItems
  rw [numSettingOf_of_enum h, h]

theorem readsBack_number {p : Port} {id : Nat} {x : NumSetting} (h : numSettingOf id = some x) (v : List Byte) (s : State) :
    ReadsBack p id (setNumber x v s) := by
  unfold setNumber
  split
  · exact readsBack_refuse p id s (by simp)
  · refine readsBack_takeValue p (by have := numSettingOf_bound h; omega) s ?_
    rw [savedItems_num h, numSettingOf_get_set h]

/-- R173: the judgement of the low flag leaves the settings. -/
theorem readsBack_judgeLowAfter {p : Port} {id : Nat} {r : State × Reply} (h : ReadsBack p id r) :
    ReadsBack p id (judgeLowAfter id r) := by
  unfold judgeLowAfter
  split
  · next hlow =>
    intro hok
    have hread := h hok
    obtain ⟨rfl, -⟩ := hlow
    simpa [settingItems] using hread
  · exact h

theorem readsBack_enum {p : Port} {id : Nat} {x : EnumSetting} (h : enumSettingOf id = some x) (v : List Byte) (s : State) :
    ReadsBack p id (setEnum x v s) := by
  unfold setEnum
  split
  · exact readsBack_refuse p id s (by simp)
  · split
    · next hn =>
      refine readsBack_takeValue p (by have := enumSettingOf_bound h; omega) s ?_
      rw [savedItems_enum h, enumSettingOf_get_set h _ hn]
    · exact readsBack_refuse p id s (by simp)

theorem savedItems_cadence {i : Nat} (hi : i < 6) (t : Settings) :
    savedItems t (0x11 + i) = some (t.cadence.get i).items := by
  interval_cases i <;> rfl

theorem savedItems_ladder {r : Nat} (hr : r < 8) (t : Settings) :
    savedItems t (0x30 + r) = some (t.ladder.get r).items := by
  interval_cases r <;> rfl

theorem Six.get_set {α : Type} (t : Six α) {i : Nat} (hi : i < 6) (a : α) : (t.set i a).get i = a := by
  interval_cases i <;> rfl

theorem Eight.get_set {α : Type} (t : Eight α) {i : Nat} (hi : i < 8) (a : α) : (t.set i a).get i = a := by
  interval_cases i <;> rfl

theorem readsBack_cadence {p : Port} {i : Nat} (hi : i < 6) (v : List Byte) (s : State) :
    ReadsBack p (0x11 + i) (setCadence i v s) := by
  unfold setCadence
  split
  · exact readsBack_refuse p _ s (by simp)
  · split
    · refine readsBack_takeValue p (by omega) _ ?_
      rw [savedItems_cadence hi, Six.get_set _ hi]
    · exact readsBack_refuse p _ s (by simp)

theorem readsBack_ladder {p : Port} {r : Nat} (hr : r < 8) (v : List Byte) (s : State) :
    ReadsBack p (0x30 + r) (setLadder r v s) := by
  unfold setLadder
  split
  · exact readsBack_refuse p _ s (by simp)
  · dsimp only
    split
    · refine readsBack_takeValue p (by omega) _ ?_
      rw [savedItems_ladder hr, Eight.get_set _ hr]
    · exact readsBack_refuse p _ s (by simp)

theorem readsBack_remoteEnable (p : Port) (v : List Byte) (s : State) : ReadsBack p 0x2A (setRemoteEnable v s) := by
  unfold setRemoteEnable
  split
  · split
    · exact readsBack_refuse p _ s (by simp)
    · exact readsBack_takeValue p (by omega) _ rfl
  · exact readsBack_takeValue p (by omega) _ rfl
  · exact readsBack_refuse p _ s (by simp)

theorem readsBack_remoteCode (p : Port) (v : List Byte) (s : State) : ReadsBack p 0x2B (setRemoteCode v s) := by
  unfold setRemoteCode
  split
  · split
    · exact readsBack_refuse p _ s (by simp)
    · exact readsBack_takeValue p (by omega) _ rfl
  · split
    · exact readsBack_takeValue p (by omega) _ rfl
    · exact readsBack_refuse p _ s (by simp)

theorem readsBack_rungFloor (p : Port) (v : List Byte) (s : State) : ReadsBack p 0x38 (setRungFloor v s) := by
  unfold setRungFloor
  split
  · exact readsBack_refuse p _ s (by simp)
  · split
    · exact readsBack_refuse p _ s (by simp)
    · exact readsBack_takeValue p (by omega) _ rfl

theorem readsBack_rungCeiling (p : Port) (v : List Byte) (s : State) : ReadsBack p 0x39 (setRungCeiling v s) := by
  unfold setRungCeiling
  split
  · exact readsBack_refuse p _ s (by simp)
  · split
    · exact readsBack_refuse p _ s (by simp)
    · exact readsBack_takeValue p (by omega) _ rfl

theorem readsBack_escapeByte (p : Port) (v : List Byte) (s : State) : ReadsBack p 0x46 (setEscapeByte v s) := by
  unfold setEscapeByte
  split
  · exact readsBack_refuse p _ s (by simp)
  · split
    · exact readsBack_refuse p _ s (by simp)
    · exact readsBack_takeValue p (by omega) _ rfl

theorem readsBack_priority {p : Port} {g : Nat} (hg : g < 6) (v : List Byte) (s : State) :
    ReadsBack p (0x70 + g) (setPriority p g v s) := by
  unfold setPriority
  split
  · exact readsBack_refuse p _ s (by simp)
  · intro _
    simp only [settingItems, State.updPort_port]
    rw [if_pos (by omega), Nat.add_sub_cancel_left, Six.get_set _ hg]

/-- R178: for every id. -/
theorem setSetting_readsBack (p : Port) (id : Nat) (v : List Byte) (s : State) : ReadsBack p id (setSetting p id v s) := by
  cases settingId id with
  | num x h => rw [setSetting_num h]; exact readsBack_judgeLowAfter (readsBack_number h v s)
  | enum x h => rw [setSetting_enum h]; exact readsBack_enum h v s
  | cadence i hi h => rw [h, setSetting_cadence hi]; exact readsBack_cadence hi v s
  | remoteEnable h => rw [h]; exact readsBack_remoteEnable p v s
  | remoteCode h => rw [h]; exact readsBack_remoteCode p v s
  | ladder r hr h => rw [h, setSetting_ladder hr]; exact readsBack_ladder hr v s
  | rungFloor h => rw [h]; exact readsBack_rungFloor p v s
  | rungCeiling h => rw [h]; exact readsBack_rungCeiling p v s
  | escapeByte h => rw [h]; exact readsBack_escapeByte p v s
  | priority g hg h => rw [h, setSetting_priority hg]; exact readsBack_priority hg v s
  | unowned h => rw [h]; exact readsBack_refuse p id s (by simp)

/-- R181: the delivery of a notice leaves the priorities. -/
theorem State.deliverSystem_priorities (s : State) (p : Port) :
    (s.deliverSystem.port p).notices.priorities = (s.port p).notices.priorities := by
  unfold State.deliverSystem
  repeat' split
  all_goals cases p <;> rfl

/-- R177: so does a reply. -/
theorem State.reply_priorities (s : State) (p q : Port) (code : Byte) (r : Reply) :
    ((s.reply q code r).port p).notices.priorities = (s.port p).notices.priorities := by
  cases p <;> cases q <;> rfl

/-- R178: the reply and the end of the step leave what READ SETTING gives. -/
theorem settingItems_replied (p : Port) (id : Nat) (u : State) (q : Port) (code : Byte) (r : Reply) :
    settingItems p id (u.reply q code r).deliverSystem = settingItems p id u := by
  have hpriorities : ((u.reply q code r).deliverSystem.port p).notices.priorities = (u.port p).notices.priorities := by
    rw [State.deliverSystem_priorities, State.reply_priorities]
  unfold settingItems
  rw [hpriorities]
  simp

/-! ### SET SETTING by the kind of its id -/

/-- 12.6, R173: a number. -/
theorem setSetting_number {f : Frame} {s : State} (h : s.Takes f 0x31#8) {id lo hi : Byte} {x : NumSetting}
    (hx : numSettingOf id.toNat = some x) {n : Nat} (hn : n = clamp x.lo x.hi (lo.toNat + 256 * hi.toNat)) :
    ∃ t, exec (.setSetting f id [lo, hi]) s = .next t ∧ t.settings = x.set s.settings n ∧
      t.store.header.settings = t.settings ∧ x.get t.settings = n ∧ Answered s t f.port 0x31#8 .ok [.u16 n] ∧
      SameBut ([.settings, .header, .outgoing f.port] ++
        if id = 0x60#8 then [.freeList, .alerts .system, .alerts .panel, .notices .panel] else []) s t := by
  have htaken : setNumber x [lo, hi] s = takeValue s (x.set s.settings n) [.u16 n] := by simp [setNumber, numberForm, hn]
  have hget : x.get (x.set s.settings n) = n := numSettingOf_get_set hx _ _
  by_cases hid : id = 0x60#8
  · have hbody : setSetting f.port id.toNat [lo, hi] s =
        ((s.saveSettings (x.set s.settings n)).judgeLow, ⟨.ok, [.u16 n]⟩) := by
      rw [setSetting_num hx, htaken, hid]
      rfl
    have hsame : SameBut ([.settings, .header] ++ [.freeList, .alerts .system, .alerts .panel, .notices .panel]) s
        (s.saveSettings (x.set s.settings n)).judgeLow :=
      ((takeValue_same s (x.set s.settings n) []).mono (by simp)).trans ((State.judgeLow_same _).mono (by simp))
    refine ⟨_, command_does h hbody, ?_, ?_, ?_, hsame.answered _ _ _ (by simp), hsame.reply _ _ _ (by simp [hid])⟩
    · simp [State.saveSettings]
    · simp [State.saveSettings]
    · simpa [State.saveSettings] using hget
  · have hne : id.toNat ≠ 0x60 := fun heq => hid (BitVec.eq_of_toNat_eq heq)
    have hbody : setSetting f.port id.toNat [lo, hi] s = takeValue s (x.set s.settings n) [.u16 n] := by
      rw [setSetting_num hx, htaken, judgeLowAfter, if_neg (fun hc => hne hc.1)]
    obtain ⟨t, hexec, hsettings, hheader, hanswer, hsame⟩ := setSetting_takes h hbody
    exact ⟨t, hexec, hsettings, hheader, by rw [hsettings, hget], hanswer, by simpa [hid] using hsame⟩

/-- 12.6: an enumeration. -/
theorem setSetting_enumeration {f : Frame} {s : State} (h : s.Takes f 0x31#8) {id : Byte} {x : EnumSetting}
    (hx : enumSettingOf id.toNat = some x) (b : Byte) :
    ∃ t, exec (.setSetting f id [b]) s = .next t ∧
      (b.toNat < x.n → t.settings = x.set s.settings b.toNat ∧ x.get t.settings = b.toNat ∧
        t.store.header.settings = t.settings ∧ Answered s t f.port 0x31#8 .ok [.u8 b.toNat] ∧
        SameBut [.settings, .header, .outgoing f.port] s t) ∧
      (x.n ≤ b.toNat → Answered s t f.port 0x31#8 .badParameter [] ∧ SameBut [.outgoing f.port] s t) := by
  by_cases hb : b.toNat < x.n
  · have hbody : setSetting f.port id.toNat [b] s = takeValue s (x.set s.settings b.toNat) [.u8 b.toNat] := by
      simp [setSetting_enum hx, setEnum, enumForm, hb]
    obtain ⟨t, hexec, hsettings, hheader, hanswer, hsame⟩ := setSetting_takes h hbody
    exact ⟨t, hexec, fun _ => ⟨hsettings, by rw [hsettings, enumSettingOf_get_set hx _ hb], hheader, hanswer, hsame⟩,
      fun hge => absurd hb (Nat.not_lt.2 hge)⟩
  · have hbody : setSetting f.port id.toNat [b] s = refuse s .badParameter := by
      simp [setSetting_enum hx, setEnum, enumForm, hb]
    obtain ⟨t, hexec, hanswer, hsame⟩ := setSetting_refuses h hbody
    exact ⟨t, hexec, fun hlt => absurd hlt hb, fun _ => ⟨hanswer, hsame⟩⟩

/-- R163, R178: a value that is taken under a condition, and refused without it. -/
theorem setSetting_decides {f : Frame} {id : Byte} {v : List Byte} {s : State} {t : Settings} {items : List Item}
    {x : Status} {c : Prop} [Decidable c] (h : s.Takes f 0x31#8)
    (hbody : setSetting f.port id.toNat v s = if c then takeValue s t items else refuse s x) :
    ∃ u, exec (.setSetting f id v) s = .next u ∧
      (if c then u.settings = t ∧ u.store.header.settings = u.settings ∧ Answered s u f.port 0x31#8 .ok items ∧
          SameBut [.settings, .header, .outgoing f.port] s u
       else Answered s u f.port 0x31#8 x [] ∧ SameBut [.outgoing f.port] s u) := by
  by_cases hc : c
  · simp only [if_pos hc] at hbody ⊢
    exact setSetting_takes h hbody
  · simp only [if_neg hc] at hbody ⊢
    exact setSetting_refuses h hbody

/-- R99: a ladder pair. -/
theorem setSetting_pair {f : Frame} {s : State} (h : s.Takes f 0x31#8) {r : Nat} (hr : r < 8) (f0 f1 r0 r1 : Byte)
    {q : LadderPair} (hq : q = ⟨f0.toNat + 256 * f1.toNat, r0.toNat + 256 * r1.toNat⟩) :
    ∃ t, exec (.setSetting f (BitVec.ofNat 8 (0x30 + r)) [f0, f1, r0, r1]) s = .next t ∧
      (if ladderValid (s.settings.ladder.set r q) = true then
        t.settings = { s.settings with ladder := s.settings.ladder.set r q } ∧ t.store.header.settings = t.settings ∧
          Answered s t f.port 0x31#8 .ok q.items ∧ SameBut [.settings, .header, .outgoing f.port] s t
       else Answered s t f.port 0x31#8 .badLadder [] ∧ SameBut [.outgoing f.port] s t) := by
  refine setSetting_decides h ?_
  rw [ofNat_toNat_of_lt (by omega), setSetting_ladder hr, hq]
  rfl

/-- R180: a priority. -/
theorem setSetting_group {f : Frame} {s : State} (h : s.Takes f 0x31#8) {g : Nat} (hg : g < 6) (lo hi : Byte) :
    ∃ t, exec (.setSetting f (BitVec.ofNat 8 (0x70 + g)) [lo, hi]) s = .next t ∧
      (t.port f.port).notices.priorities.get g = clamp 0 7 (lo.toNat + 256 * hi.toNat) ∧
      Answered s t f.port 0x31#8 .ok [.u16 (clamp 0 7 (lo.toNat + 256 * hi.toNat))] ∧
      SameBut [.notices f.port, .outgoing f.port] s t := by
  set n := clamp 0 7 (lo.toNat + 256 * hi.toNat) with hn
  have hbody : setSetting f.port (BitVec.ofNat 8 (0x70 + g)).toNat [lo, hi] s =
      (s.updPort f.port (fun q => { q with notices.priorities := q.notices.priorities.set g n }), ⟨.ok, [.u16 n]⟩) := by
    rw [ofNat_toNat_of_lt (by omega), setSetting_priority hg, hn]
    rfl
  have hsame : SameBut [.notices f.port] s
      (s.updPort f.port (fun q => { q with notices.priorities := q.notices.priorities.set g n })) := by
    cases f.port
    all_goals exact .of_parts (by simp)
  refine ⟨_, command_does h hbody, ?_, hsame.answered _ _ _ (by simp), hsame.reply _ _ _ (by simp)⟩
  rw [State.deliverSystem_priorities, State.reply_priorities, State.updPort_port]
  exact Six.get_set _ hg _

/-- R52: a cadence entry of one of the five classes. -/
theorem setSetting_entry {f : Frame} {s : State} (h : s.Takes f 0x31#8) {i : Nat} (hi : i < 6)
    {v : List Byte} {e : CadenceEntry} (he : cadenceForm v = some e) :
    ∃ t, exec (.setSetting f (BitVec.ofNat 8 (0x11 + i)) v) s = .next t ∧
      (if e.onMin ≤ e.onMax ∧ e.offMin ≤ e.offMax then
        t.settings = { s.settings with cadence := s.settings.cadence.set i e } ∧ t.store.header.settings = t.settings ∧
          t.tone = { s.tone with classifier := { s.tone.classifier with counts := s.tone.classifier.counts.set i 0 } } ∧
          Answered s t f.port 0x31#8 .ok e.items ∧ SameBut [.settings, .header, .detectors, .outgoing f.port] s t
       else Answered s t f.port 0x31#8 .badParameter [] ∧ SameBut [.outgoing f.port] s t) := by
  by_cases hrange : e.onMin ≤ e.onMax ∧ e.offMin ≤ e.offMax
  · simp only [if_pos hrange]
    have hbody : setSetting f.port (BitVec.ofNat 8 (0x11 + i)).toNat v s =
        takeValue { s with tone.classifier.counts := s.tone.classifier.counts.set i 0 }
          { s.settings with cadence := s.settings.cadence.set i e } e.items := by
      rw [ofNat_toNat_of_lt (by omega), setSetting_cadence hi]
      simp only [setCadence, he, if_pos hrange]
    have hsame : SameBut [.settings, .header, .detectors] s
        (takeValue { s with tone.classifier.counts := s.tone.classifier.counts.set i 0 }
          { s.settings with cadence := s.settings.cadence.set i e } e.items).1 := by
      unfold takeValue State.saveSettings
      exact .of_parts (by simp)
    refine ⟨_, command_does h hbody, ?_, ?_, ?_, hsame.answered _ _ _ (by simp), hsame.reply _ _ _ (by simp)⟩ <;>
      simp [State.saveSettings]
  · simp only [if_neg hrange]
    refine setSetting_refuses h ?_
    rw [ofNat_toNat_of_lt (by omega), setSetting_cadence hi]
    simp only [setCadence, he, if_neg hrange]

/-- R52: a class outside the five. -/
theorem setSetting_noClass {f : Frame} {s : State} (h : s.Takes f 0x31#8) {i : Nat} (hi : i < 6) {v : List Byte}
    (he : cadenceForm v = none) :
    ∃ t, exec (.setSetting f (BitVec.ofNat 8 (0x11 + i)) v) s = .next t ∧ Answered s t f.port 0x31#8 .badParameter [] ∧
      SameBut [.outgoing f.port] s t := by
  refine setSetting_refuses h ?_
  rw [ofNat_toNat_of_lt (by omega), setSetting_cadence hi]
  simp only [setCadence, he]

/-- R52, 12.6: the code of a class is its byte. -/
theorem cadenceClassOf_code {k : Byte} {c : CadenceClass} (h : cadenceClassOf k = some c) : c.code = k.toNat := by
  unfold cadenceClassOf at h
  split_ifs at h with hk hk hk hk hk <;> cases h <;> simp [hk, CadenceClass.code]

/-- R73: `remote_enable`. -/
theorem setSetting_enable {f : Frame} {s : State} (h : s.Takes f 0x31#8) (b : Byte) :
    ∃ t, exec (.setSetting f 0x2A#8 [b]) s = .next t ∧
      (if b = 1#8 ∨ (b = 0#8 ∧ s.settings.remoteCode.isSome = true) then
        t.settings = { s.settings with remoteEnable := decide (b = 0#8) } ∧ t.store.header.settings = t.settings ∧
          Answered s t f.port 0x31#8 .ok [.u8 b.toNat] ∧ SameBut [.settings, .header, .outgoing f.port] s t
       else Answered s t f.port 0x31#8 .badParameter [] ∧ SameBut [.outgoing f.port] s t) := by
  refine setSetting_decides h ?_
  show setRemoteEnable [b] s = _
  by_cases h0 : b = 0#8
  · subst h0
    cases hcode : s.settings.remoteCode with
    | none => simp [setRemoteEnable, enumForm, hcode]
    | some c => simp [setRemoteEnable, enumForm, hcode]
  by_cases h1 : b = 1#8
  · subst h1
    simp [setRemoteEnable, enumForm]
  have hn0 : b.toNat ≠ 0 := fun hc => h0 (BitVec.eq_of_toNat_eq hc)
  have hn1 : b.toNat ≠ 1 := fun hc => h1 (BitVec.eq_of_toNat_eq hc)
  simp [setRemoteEnable, enumForm, h0, h1, hn0, hn1]

/-- R73, 12.6: a `remote_code` that is taken. -/
theorem setSetting_code {f : Frame} {s : State} (h : s.Takes f 0x31#8) {v : List Byte} {c : Option (List Nat)}
    (hv : (v = [0xFF#8, 0xFF#8, 0xFF#8, 0xFF#8] ∧ s.settings.remoteEnable = false ∧ c = none) ∨
      (v.length = 4 ∧ (∀ b ∈ v, b.toNat ≤ 9) ∧ c = some (v.map BitVec.toNat))) :
    ∃ t, exec (.setSetting f 0x2B#8 v) s = .next t ∧ t.settings = { s.settings with remoteCode := c } ∧
      t.store.header.settings = t.settings ∧ Answered s t f.port 0x31#8 .ok (v.map (fun b => .u8 b.toNat)) ∧
      SameBut [.settings, .header, .outgoing f.port] s t := by
  refine setSetting_takes h ?_
  show setRemoteCode v s = _
  rcases hv with ⟨rfl, henable, rfl⟩ | ⟨hlength, hdigits, rfl⟩
  · simp [setRemoteCode, henable, remoteCodeItems]
  · have hne : v ≠ [0xFF#8, 0xFF#8, 0xFF#8, 0xFF#8] := by
      rintro rfl
      exact absurd (hdigits 0xFF#8 (by simp)) (by decide)
    have hall : v.all (fun b => decide (b.toNat ≤ 9)) = true := by simpa using hdigits
    simp only [setRemoteCode, if_neg hne, if_pos (And.intro hlength hall), remoteCodeItems, List.map_map, Function.comp_def]

/-- R73, 12.6: a `remote_code` that is refused. -/
theorem setSetting_codeRefused {f : Frame} {s : State} (h : s.Takes f 0x31#8) {v : List Byte}
    (hv : (v = [0xFF#8, 0xFF#8, 0xFF#8, 0xFF#8] ∧ s.settings.remoteEnable = true) ∨
      (v ≠ [0xFF#8, 0xFF#8, 0xFF#8, 0xFF#8] ∧ (v.length ≠ 4 ∨ ∃ b ∈ v, 9 < b.toNat))) :
    ∃ t, exec (.setSetting f 0x2B#8 v) s = .next t ∧ Answered s t f.port 0x31#8 .badParameter [] ∧
      SameBut [.outgoing f.port] s t := by
  refine setSetting_refuses h ?_
  show setRemoteCode v s = _
  rcases hv with ⟨rfl, henable⟩ | ⟨hne, hbad⟩
  · simp [setRemoteCode, henable]
  · have hform : ¬(v.length = 4 ∧ v.all (fun b => decide (b.toNat ≤ 9)) = true) := by
      rintro ⟨hlength, hall⟩
      rcases hbad with hlen | ⟨b, hb, hbig⟩
      · exact hlen hlength
      · exact absurd (of_decide_eq_true (List.all_eq_true.1 hall b hb)) (Nat.not_le.2 hbig)
    simp only [setRemoteCode, if_neg hne, if_neg hform]

/-- R100: `rung_floor`. -/
theorem setSetting_floor {f : Frame} {s : State} (h : s.Takes f 0x31#8) {lo hi : Byte} {n : Nat}
    (hn : n = lo.toNat + 256 * hi.toNat) :
    ∃ t, exec (.setSetting f 0x38#8 [lo, hi]) s = .next t ∧
      (if n ≤ 7 ∧ n ≤ s.settings.rungCeiling then
        t.settings = { s.settings with rungFloor := n } ∧ t.store.header.settings = t.settings ∧
          Answered s t f.port 0x31#8 .ok [.u16 n] ∧ SameBut [.settings, .header, .outgoing f.port] s t
       else Answered s t f.port 0x31#8 .badParameter [] ∧ SameBut [.outgoing f.port] s t) := by
  refine setSetting_decides h ?_
  show setRungFloor [lo, hi] s = _
  simp only [setRungFloor, numberForm, ← hn, ← Nat.not_le, ← not_and_or, ite_not]

/-- R100: `rung_ceiling`. -/
theorem setSetting_ceiling {f : Frame} {s : State} (h : s.Takes f 0x31#8) {lo hi : Byte} {n : Nat}
    (hn : n = lo.toNat + 256 * hi.toNat) :
    ∃ t, exec (.setSetting f 0x39#8 [lo, hi]) s = .next t ∧
      (if n ≤ 7 ∧ s.settings.rungFloor ≤ n then
        t.settings = { s.settings with rungCeiling := n } ∧ t.store.header.settings = t.settings ∧
          Answered s t f.port 0x31#8 .ok [.u16 n] ∧ SameBut [.settings, .header, .outgoing f.port] s t
       else Answered s t f.port 0x31#8 .badParameter [] ∧ SameBut [.outgoing f.port] s t) := by
  refine setSetting_decides h ?_
  show setRungCeiling [lo, hi] s = _
  simp only [setRungCeiling, numberForm, ← hn, ← Nat.not_le, ← not_and_or, ite_not]

/-- R130: `escape_byte`. -/
theorem setSetting_escape {f : Frame} {s : State} (h : s.Takes f 0x31#8) {lo hi : Byte} {n : Nat}
    (hn : n = lo.toNat + 256 * hi.toNat) :
    ∃ t, exec (.setSetting f 0x46#8 [lo, hi]) s = .next t ∧
      (if n ≤ 255 then
        t.settings = { s.settings with escapeByte := n } ∧ t.store.header.settings = t.settings ∧
          Answered s t f.port 0x31#8 .ok [.u16 n] ∧ SameBut [.settings, .header, .outgoing f.port] s t
       else Answered s t f.port 0x31#8 .badParameter [] ∧ SameBut [.outgoing f.port] s t) := by
  refine setSetting_decides h ?_
  show setEscapeByte [lo, hi] s = _
  simp only [setEscapeByte, numberForm, ← hn, ← Nat.not_le, ite_not]

/-- R178: an id that READ SETTING does not know is not taken. -/
theorem setSetting_unowned {p : Port} {id : Nat} {s : State} (h : settingItems p id s = none) (v : List Byte) :
    setSetting p id v s = refuse s .badParameter := by
  cases settingId id with
  | unowned hset => exact hset p v s
  | num x hx =>
    have := numSettingOf_bound hx
    simp only [settingItems, savedItems_num hx] at h
    split at h
    all_goals cases h
  | enum x hx =>
    simp only [settingItems, savedItems_enum hx] at h
    split at h
    all_goals cases h
  | cadence i hi hid => subst hid; interval_cases i <;> cases h
  | ladder i hi hid => subst hid; interval_cases i <;> cases h
  | priority i hi hid => subst hid; interval_cases i <;> cases h
  | remoteEnable hid => subst hid; cases h
  | remoteCode hid => subst hid; cases h
  | rungFloor hid => subst hid; cases h
  | rungCeiling hid => subst hid; cases h
  | escapeByte hid => subst hid; cases h

/-- R178: an answer says one thing. -/
theorem Answered.inj {s t : State} {p : Port} {code : Byte} {x y : Status} {a b : List Item}
    (hx : Answered s t p code x a) (hy : Answered s t p code y b) : x = y ∧ a = b := by
  have heq := List.append_cancel_left (hx.symm.trans hy)
  simp only [List.cons.injEq, and_true] at heq
  injection heq with _ hstatus _ hresults
  exact ⟨hstatus, hresults⟩

/-- R178: the reported value is the one that is then read. -/
theorem setSetting_readBack {f : Frame} {id : Byte} {v : List Byte} {items : List Item} {s t : State}
    (h : s.Takes f 0x31#8) (hexec : exec (.setSetting f id v) s = .next t) (hanswer : Answered s t f.port 0x31#8 .ok items) :
    settingItems f.port id.toNat t = some items := by
  rcases hbody : setSetting f.port id.toNat v s with ⟨u, r⟩
  have hout : (u.port f.port).outgoing = (s.port f.port).outgoing := by
    have hleaves := setSetting_leaves (P := fun t => (t.port f.port).outgoing = (s.port f.port).outgoing) (p := f.port)
      id.toNat v rfl (fun _ => rfl) (fun t => ((State.judgeLow_same _) (.outgoing f.port) (by simp) (by simp)))
      (fun _ _ => rfl) (fun g n _ => by rw [State.updPort_port])
    rwa [hbody] at hleaves
  have hreads := setSetting_readsBack f.port id.toNat v s
  rw [hbody] at hreads
  have hnext := hexec.symm.trans (command_does h hbody)
  injection hnext with ht
  subst ht
  obtain ⟨hok, hitems⟩ := Answered.inj (State.reply_answers hout) hanswer
  rw [settingItems_replied, hreads hok, hitems]

/-- Settles O14: the index's numbers, enumerations, ladder, priorities, cadence entries, remote pair, rung bounds and escape
byte, each by its own setter. -/
theorem settingsTaken : Obligations.SettingsTaken := by
  refine ⟨fun f s h => ⟨fun id lo hi x hx => setSetting_number h hx rfl, fun id b x hx => setSetting_enumeration h hx b,
    fun r f0 f1 r0 r1 hr => setSetting_pair h hr f0 f1 r0 r1 rfl, fun g lo hi hg => setSetting_group h hg lo hi,
    fun i k a0 a1 b0 b1 c0 c1 d0 d1 n hi => ⟨fun cls e hcls he => ?_, fun hcls => ?_⟩, setSetting_enable h,
    fun v c hv => setSetting_code h hv, fun v hv => setSetting_codeRefused h hv,
    fun lo hi n hn => ⟨setSetting_floor h hn, setSetting_ceiling h hn, setSetting_escape h hn⟩,
    fun id v hitems => setSetting_refuses h (setSetting_unowned hitems v)⟩,
    fun f id v items s t h hexec hanswer => setSetting_readBack h hexec hanswer⟩
  · have hentry := setSetting_entry h hi (v := [k, a0, a1, b0, b1, c0, c1, d0, d1, n]) (e := e)
      (by simp only [cadenceForm, hcls, Option.map_some, he])
    simpa only [CadenceEntry.items, show e.cls.code = k.toNat by rw [he]; exact cadenceClassOf_code hcls] using hentry
  · exact setSetting_noClass h hi (by simp only [cadenceForm, hcls, Option.map_none])

end Sys2Proof.Machine
end

section
/-! PROOFS. The operations of the Message Store (R164 to R167), and LIST, DELETE and MARK HEARD (R167, R168). -/

namespace Sys2Proof.Machine

/-! ### Entries and chains (R164 to R167) -/

theorem State.updEntry_same (s : State) (id : Nat) (g : Entry → Entry) : SameBut [.directory] s (s.updEntry id g) := by
  unfold State.updEntry
  exact .of_parts (by simp)

theorem State.freeChain_same (s : State) (gs : List Nat) :
    SameBut [.freeList, .alerts .system, .alerts .panel, .notices .panel] s (s.freeChain gs) := by
  have hfreed : SameBut [.freeList, .alerts .system, .alerts .panel, .notices .panel] s
      { s with store.free := s.store.free ++ gs } := .of_parts (by simp)
  unfold State.freeChain
  split
  · exact .refl _ s
  · exact hfreed.trans (State.judgeLow_same _)

/-- R164: the chain joins the end of the free list. -/
@[simp] theorem State.freeChain_free (s : State) (gs : List Nat) : (s.freeChain gs).store.free = s.store.free ++ gs := by
  unfold State.freeChain
  split
  · next h => simp [h]
  · simp

@[simp] theorem State.freeChain_dir (s : State) (gs : List Nat) : (s.freeChain gs).store.dir = s.store.dir := by
  unfold State.freeChain
  split
  · rfl
  · simp

/-- R165: an entry that is removed leaves the directory and frees its chain. -/
theorem State.removeEntry_found {s : State} {id : Nat} {e : Entry} (h : s.store.find id = some e) :
    (s.removeEntry id).store.dir = s.store.dir.filter (fun x => x.id ≠ id) ∧
      (s.removeEntry id).store.free = s.store.free ++ e.granules := by
  simp [State.removeEntry, h]

theorem State.removeEntry_same (s : State) (id : Nat) :
    SameBut [.directory, .freeList, .alerts .system, .alerts .panel, .notices .panel] s (s.removeEntry id) := by
  have hfiltered : SameBut [.directory] s { s with store.dir := s.store.dir.filter (fun e => e.id ≠ id) } :=
    .of_parts (by simp)
  unfold State.removeEntry
  split
  · exact .refl _ s
  · exact (hfiltered.mono (by simp)).trans ((State.freeChain_same _ _).mono (by simp))

/-- R166, R167: a release of an entry that lives on takes one hold from it. -/
theorem State.release_live {s : State} {id : Nat} {e : Entry} (h : s.store.find id = some e) (hlive : e.state ≠ .doomed) :
    s.release id = s.updEntry id (fun e => { e with holds := e.holds - 1 }) := by
  simp [State.release, h, hlive]

/-- R167: the id of a live entry that is not DOOMED is visible. -/
theorem Store.visible_some {t : Store} {id : Nat} {e : Entry} :
    t.visible id = some e ↔ t.find id = some e ∧ e.state ≠ .doomed := by
  unfold Store.visible
  cases hfind : t.find id with
  | none => simp
  | some x =>
    by_cases hdoomed : x.state = .doomed
    · simp [hdoomed]
      rintro rfl
      exact hdoomed
    · simp [hdoomed]
      rintro rfl
      exact hdoomed

/-- R167: an id that no entry has, or a DOOMED one, is not visible. -/
theorem Store.visible_none {t : Store} {id : Nat}
    (h : t.find id = none ∨ ∃ e, t.find id = some e ∧ e.state = .doomed) : t.visible id = none := by
  unfold Store.visible
  rcases h with h | ⟨e, h, hdoomed⟩
  · rw [h]
  · simp [h, hdoomed]

/-! ### A taken command that changes the state -/

/-- R177: a state after the body of a taken command, its answer and the end of its step. -/
structure State.Replies (u t : State) : Prop where
  store : t.store = u.store
  voice : t.voice = u.voice
  fax : t.fax = u.fax
  link : t.link = u.link
  ccu : t.ccu = u.ccu
  timers : t.timers = u.timers
  channel (p : Port) : (t.channel p) = (u.channel p)
  alerts (p : Port) : (t.port p).alerts = (u.port p).alerts
  notice (p : Port) (x : Source) : u.Noticed p x → t.Noticed p x

theorem State.replies (u : State) (p : Port) (code : Byte) (r : Reply) : u.Replies (u.reply p code r).deliverSystem where
  store := by simp
  voice := by simp
  fax := by simp
  link := by simp
  ccu := by simp
  timers := by simp
  channel q := by cases q <;> simp [State.channel, State.port, PerPort.get]
  alerts q := State.reply_deliver_alerts u p q code r
  notice q x h := (h.reply p code r).deliverSystem

/-- R177: a body that answers and changes only the named parts. -/
theorem command_changes {f : Frame} {code : Byte} {s u : State} {body : State → State × Reply} {r : Reply}
    {parts : List Part} (h : s.Takes f code) (hbody : body s = (u, r)) (hsame : SameBut parts s u)
    (hout : .outgoing f.port ∉ parts) :
    ∃ t, command f code s body = .next t ∧ u.Replies t ∧ Answered s t f.port code r.status r.results ∧
      SameBut (parts ++ [.outgoing f.port]) s t :=
  ⟨_, command_does h hbody, u.replies _ _ _, hsame.answered f.port code r hout, hsame.reply _ _ _ (by simp)⟩

/-! ### LIST, DELETE and MARK HEARD -/

/-- R168: the size of the store summary in LIST's reply. -/
theorem itemsSize_summary (s : State) (p : Port) : itemsSize (summaryItems s p) = 9 := rfl

/-- R168: LIST. -/
theorem list_taken {f : Frame} {s : State} (h : s.Takes f 0x50#8) {first count : Byte} (hlow : 1 ≤ count.toNat)
    (hhigh : count.toNat ≤ 16) :
    ∃ t, exec (.list f first count) s = .next t ∧ (t.port f.port).alerts = ⟨false, false, false, false⟩ ∧
      Answered s t f.port 0x50#8 .ok
        (fittedList 9 ((((s.store.dir.filter (fun e => decide (e.state ≠ .doomed))).drop first.toNat).take
            count.toNat).map Entry.listed) ++
          [.u16 s.store.installed, .u16 s.store.free.length, .u8 s.store.dir.length,
           flagItem (s.port f.port).alerts.full, flagItem (s.port f.port).alerts.low,
           flagItem (s.port f.port).alerts.lost, flagItem (s.port f.port).alerts.formatted]) ∧
      SameBut [.alerts f.port, .outgoing f.port] s t := by
  have hbody : takeList f.port first count s = (s.updPort f.port (fun q => { q with alerts := .none }), _) := if_pos ⟨hlow, hhigh⟩
  have hsame : SameBut [.alerts f.port] s (s.updPort f.port (fun q => { q with alerts := .none })) := by
    cases f.port
    all_goals exact .of_parts (by simp)
  refine ⟨_, command_does h hbody, ?_, ?_, hsame.reply _ _ _ (by simp)⟩
  · rw [State.reply_deliver_alerts, State.updPort_port]
    rfl
  · exact hsame.answered f.port 0x50#8 _ (by simp)

/-- R167: the delete rule by what stands under the id. -/
theorem takeDelete_removes {s : State} {id : Byte} {e : Entry} (hfind : s.store.find id.toNat = some e)
    (hcomplete : e.state = .complete) (hholds : e.holds = 0) : takeDelete id s = (s.removeEntry id.toNat, ⟨.ok, [.u8 0]⟩) := by
  simp [takeDelete, State.deleteRule, hfind, hcomplete, hholds]

theorem takeDelete_dooms {s : State} {id : Byte} {e : Entry} (hfind : s.store.find id.toNat = some e)
    (hcomplete : e.state = .complete) (hholds : 0 < e.holds) :
    takeDelete id s = (s.updEntry id.toNat (fun e => { e with state := .doomed, isNew := false }), ⟨.ok, [.u8 1]⟩) := by
  simp [takeDelete, State.deleteRule, hfind, hcomplete, hholds.ne']

theorem takeDelete_open {s : State} {id : Byte} {e : Entry} (hfind : s.store.find id.toNat = some e)
    (hopen : e.state = .opened) : takeDelete id s = refuse s .msgOpen := by
  simp [takeDelete, State.deleteRule, hfind, hopen]

theorem takeDelete_absent {s : State} {id : Byte}
    (h : s.store.find id.toNat = none ∨ ∃ e, s.store.find id.toNat = some e ∧ e.state = .doomed) :
    takeDelete id s = refuse s .noSuchMessage := by
  rcases h with h | ⟨e, h, hdoomed⟩
  · simp [takeDelete, State.deleteRule, h]
  · simp [takeDelete, State.deleteRule, h, hdoomed]

/-- R168: MARK HEARD of a COMPLETE entry. -/
theorem takeMarkHeard_clears {s : State} {id : Byte} {e : Entry} (hfind : s.store.find id.toNat = some e)
    (hcomplete : e.state = .complete) : takeMarkHeard id s = (s.clearNew id.toNat, ⟨.ok, []⟩) := by
  have hvisible : s.store.visible id.toNat = some e := Store.visible_some.2 ⟨hfind, by simp [hcomplete]⟩
  simp [takeMarkHeard, hvisible, hcomplete, Reply.plain]

theorem takeMarkHeard_open {s : State} {id : Byte} {e : Entry} (hfind : s.store.find id.toNat = some e)
    (hopen : e.state = .opened) : takeMarkHeard id s = refuse s .msgOpen := by
  have hvisible : s.store.visible id.toNat = some e := Store.visible_some.2 ⟨hfind, by simp [hopen]⟩
  simp [takeMarkHeard, hvisible, hopen]

/-- Settles O17: LIST by its count, DELETE and MARK HEARD by the state and the holds of the entry. -/
theorem directoryCommands : Obligations.DirectoryCommands := by
  refine ⟨fun f first count s h => ⟨fun hlow hhigh => list_taken h hlow hhigh, fun hbad => ?_⟩,
    fun f id s => ⟨fun e h hfind hcomplete hholds => ?_, fun e h hfind hcomplete hholds => ?_,
      fun e h hfind hcomplete => ?_, fun e hfind hopen => ⟨fun h => ?_, fun h => ?_⟩,
      fun hnone => ⟨fun h => ?_, fun h => ?_⟩⟩⟩
  · exact command_refused h (if_neg (by omega))
  · obtain ⟨t, hexec, hafter, hanswer, hsame⟩ :=
      command_changes h (takeDelete_removes hfind hcomplete hholds) (s.removeEntry_same _) (by simp)
    obtain ⟨hdir, hfree⟩ := State.removeEntry_found hfind
    exact ⟨t, hexec, by rw [hafter.store, hdir], by rw [hafter.store, hfree], hanswer, hsame⟩
  · obtain ⟨t, hexec, hafter, hanswer, hsame⟩ :=
      command_changes h (takeDelete_dooms hfind hcomplete hholds) (s.updEntry_same _ _) (by simp)
    exact ⟨t, hexec, by rw [hafter.store]; rfl, hanswer, hsame⟩
  · obtain ⟨t, hexec, hafter, hanswer, hsame⟩ :=
      command_changes h (takeMarkHeard_clears hfind hcomplete) (s.updEntry_same _ _) (by simp)
    exact ⟨t, hexec, by rw [hafter.store]; rfl, hanswer, hsame⟩
  · obtain ⟨t, hexec, hanswer, hsame⟩ := command_refused h (takeDelete_open hfind hopen)
    exact ⟨t, hexec, hsame, hanswer⟩
  · obtain ⟨t, hexec, hanswer, hsame⟩ := command_refused h (takeMarkHeard_open hfind hopen)
    exact ⟨t, hexec, hsame, hanswer⟩
  · obtain ⟨t, hexec, hanswer, hsame⟩ := command_refused h (takeDelete_absent hnone)
    exact ⟨t, hexec, hsame, hanswer⟩
  · have hbody : takeMarkHeard id s = refuse s .noSuchMessage := by simp [takeMarkHeard, Store.visible_none hnone]
    obtain ⟨t, hexec, hanswer, hsame⟩ := command_refused h hbody
    exact ⟨t, hexec, hsame, hanswer⟩

end Sys2Proof.Machine
end

section
/-! PROOFS. Transfer channels that read (R166, R170, R172). -/

namespace Sys2Proof.Machine

/-! ### The channel of a port -/

@[simp] theorem State.updChannel_channel (s : State) (p : Port) (g : Transfer → Transfer) :
    (s.updChannel p g).channel p = g (s.channel p) := by
  cases p <;> rfl

@[simp] theorem State.updEntry_channel (s : State) (id : Nat) (g : Entry → Entry) (p : Port) :
    (s.updEntry id g).channel p = s.channel p := rfl

@[simp] theorem State.raiseAt_channel (s : State) (q : Port) (x : Source) (p : Port) :
    (s.raiseAt q x).channel p = s.channel p := by
  cases p <;> cases q <;> rfl

theorem State.updChannel_same (s : State) (p : Port) (g : Transfer → Transfer) :
    SameBut [.transfer p] s (s.updChannel p g) := by
  cases p
  all_goals
    unfold State.updChannel
    exact .of_parts (by simp)

theorem State.raiseAt_same (s : State) (p : Port) (x : Source) : SameBut [.notices .panel] s (s.raiseAt p x) := by
  cases p
  all_goals exact .of_parts (by simp)

/-- The channel of a port is one of its parts. -/
theorem SameBut.channel {parts : List Part} {s t : State} (h : SameBut parts s t) {p : Port} (hp : .transfer p ∉ parts) :
    t.channel p = s.channel p :=
  h (.transfer p) hp (by simp)

theorem State.release_same {s : State} {id : Nat} {e : Entry} (h : s.store.find id = some e) (hlive : e.state ≠ .doomed) :
    SameBut [.directory] s (s.release id) := by
  rw [State.release_live h hlive]
  exact State.updEntry_same _ _ _

/-! ### The end of a READ (R170) -/

/-- R170: a channel with bytes to come, or bytes in its FIFO, is not DONE. -/
theorem State.judgeDone_active {s : State} {p : Port} (h : (s.channel p).remaining ≠ 0 ∨ (s.channel p).fifo ≠ []) :
    s.judgeDone p = s := by
  refine if_neg ?_
  rintro ⟨-, -, hremaining, hfifo⟩
  exact h.elim (· hremaining) (· hfifo)

/-- R166, R170: with nothing left the channel is DONE, the hold is released, and it is noticed. -/
theorem State.judgeDone_done {s : State} {p : Port} {id : Nat} {e : Entry} (hread : (s.channel p).direction = .read)
    (hactive : (s.channel p).state = .active) (hremaining : (s.channel p).remaining = 0) (hfifo : (s.channel p).fifo = [])
    (hmessage : (s.channel p).message = some id) (hfind : s.store.find id = some e) (hlive : e.state ≠ .doomed) :
    (s.judgeDone p).channel p = { s.channel p with state := .done } ∧
      (s.judgeDone p).store.dir = s.store.dir.map (fun x => if x.id = id then { x with holds := x.holds - 1 } else x) ∧
      (s.judgeDone p).Noticed p .transferDone ∧ SameBut [.directory, .transfer p, .notices .panel] s (s.judgeDone p) := by
  have heq : s.judgeDone p = (((s.updChannel p (fun t => { t with state := .done })).updEntry id
      (fun e => { e with holds := e.holds - 1 })).raiseAt p .transferDone) := by
    have hfind' : (s.updChannel p (fun t => { t with state := .done })).store.find id = some e := by simpa using hfind
    simp only [State.judgeDone, hread, hactive, hremaining, hfifo, and_self, if_true, State.releaseChannel,
      State.updChannel_channel, hmessage, State.release_live hfind' hlive]
  rw [heq]
  refine ⟨by simp, by simp [State.updEntry], State.raiseAt_noticed _ _ _, ?_⟩
  exact ((State.updChannel_same _ _ _).mono (by simp)).trans
    (((State.updEntry_same _ _ _).mono (by simp)).trans ((State.raiseAt_same _ _ _).mono (by simp)))

/-! ### READ CHUNK and the FIFO (R170) -/

/-- R170: a fill moves the bytes that are left and have room. -/
theorem State.fillFifo_eq {s : State} {p : Port} {id : Nat} {e : Entry} (hread : (s.channel p).direction = .read)
    (hactive : (s.channel p).state = .active) (hmessage : (s.channel p).message = some id)
    (hfind : s.store.find id = some e) :
    s.fillFifo p = s.updChannel p (fun t =>
      { t with fifo := t.fifo ++ s.store.entryBytes e t.offset t.fillCount, offset := t.offset + t.fillCount,
               remaining := t.remaining - t.fillCount }) := by
  simp [State.fillFifo, hmessage, hfind, hread, hactive]

theorem transferFifoFill_moves {p : Port} {id : Nat} {e : Entry} {s : State} {n : Nat}
    (hread : (s.channel p).direction = .read) (hactive : (s.channel p).state = .active)
    (hmessage : (s.channel p).message = some id) (hfind : s.store.find id = some e)
    (hn : n = min (s.channel p).remaining (256 - (s.channel p).fifo.length)) (hpos : 0 < n) :
    ∃ t, exec (.transferFifoFill p) s = .next t ∧
      (t.channel p).fifo = (s.channel p).fifo ++
        (List.range n).map (fun k => Mem.read s.store.mem (e.address ((s.channel p).offset + k))) ∧
      (t.channel p).remaining = (s.channel p).remaining - n ∧ (t.channel p).offset = (s.channel p).offset + n ∧
      (t.channel p).state = .active ∧ SameBut [.transfer p] s t := by
  have hcount : (s.channel p).fillCount = n := hn.symm
  have hfilled := State.fillFifo_eq hread hactive hmessage hfind
  have hchannel : (s.fillFifo p).channel p = { s.channel p with
      fifo := (s.channel p).fifo ++ s.store.entryBytes e (s.channel p).offset n, offset := (s.channel p).offset + n,
      remaining := (s.channel p).remaining - n } := by
    rw [hfilled, State.updChannel_channel, hcount]
  have hbytes : s.store.entryBytes e (s.channel p).offset n ≠ [] := by
    simpa [Store.entryBytes] using hpos.ne'
  have hjudged : (s.fillFifo p).judgeDone p = s.fillFifo p :=
    State.judgeDone_active (.inr (by rw [hchannel]; simp [hbytes]))
  have hsame : SameBut [.transfer p] s (s.fillFifo p) := by
    rw [hfilled]
    exact State.updChannel_same _ _ _
  have hstep : ((s.fillFifo p).deliverSystem).channel p = (s.fillFifo p).channel p :=
    (State.deliverSystem_same _).channel (by simp)
  refine ⟨_, congrArg (fun t => Host.Outcome.next (State.deliverSystem t)) hjudged, ?_⟩
  rw [hstep, hchannel]
  exact ⟨rfl, rfl, rfl, hactive, hsame.finish⟩

/-- R170: READ CHUNK, by what it leaves. -/
theorem takeReadChunk_eq {p : Port} {count : Byte} {s u : State} (hlow : 1 ≤ count.toNat) (hhigh : count.toNat ≤ 128)
    (hread : (s.channel p).direction = .read) (hstate : (s.channel p).state ≠ .idle)
    (hu : u = (s.updChannel p (fun t => { t with fifo := t.fifo.drop count.toNat })).judgeDone p) :
    takeReadChunk p count s = (u, ⟨.ok, listItems (fun b => [.u8 b.toNat]) ((s.channel p).fifo.take count.toNat) ++
      [.u32 (s.channel p).remaining, .u8 (u.channel p).state.code]⟩) := by
  have hsize : ¬(count.toNat < 1 ∨ Config.chunkMax < count.toNat) := by
    simp only [Config.chunkMax]
    omega
  simp only [takeReadChunk, if_neg hsize, hread, hstate, hu, reduceCtorEq, or_self, if_false]

/-- Settles O20: a fill leaves bytes in the FIFO, so the channel is not DONE; a READ CHUNK leaves some, or the last are gone
and the channel is DONE. -/
theorem readChannelMoves : Obligations.ReadChannelMoves := by
  refine ⟨fun p id e s hread hactive hmessage hfind hpos => transferFifoFill_moves hread hactive hmessage hfind rfl hpos,
    fun f count s h hlow hhigh hread hactive hleft => ?_,
    fun f count id e s h hlow hhigh hread hactive hfifo hremaining hmessage hfind hlive => ?_⟩
  · have hchannel := s.updChannel_channel f.port (fun t => { t with fifo := t.fifo.drop count.toNat })
    have hjudged := State.judgeDone_active
      (s := s.updChannel f.port (fun t => { t with fifo := t.fifo.drop count.toNat })) (p := f.port) (by
        rw [hchannel]
        rcases hleft with hmore | hmore
        · exact .inr (by simpa using hmore)
        · exact .inl hmore.ne')
    obtain ⟨t, hexec, hafter, hanswer, hsame⟩ := command_changes h
      (takeReadChunk_eq hlow hhigh hread (by simp [hactive]) hjudged.symm) (s.updChannel_same _ _) (by simp)
    rw [hchannel] at hanswer
    refine ⟨t, hexec, ?_, ?_, by simpa [hactive, TransferState.code] using hanswer, hsame⟩ <;> simp [hafter.channel, hactive]
  · have hchannel := s.updChannel_channel f.port (fun t => { t with fifo := t.fifo.drop count.toNat })
    obtain ⟨hdone, hdir, hnotice, hsame⟩ := State.judgeDone_done
      (s := s.updChannel f.port (fun t => { t with fifo := t.fifo.drop count.toNat })) (p := f.port)
      (by rw [hchannel]; exact hread) (by rw [hchannel]; exact hactive) (by rw [hchannel]; exact hremaining)
      (by rw [hchannel]; exact List.drop_eq_nil_of_le hfifo) (by rw [hchannel]; exact hmessage)
      (by simpa using hfind) hlive
    obtain ⟨t, hexec, hafter, hanswer, hframe⟩ := command_changes h
      (takeReadChunk_eq hlow hhigh hread (by simp [hactive]) rfl)
      (((s.updChannel_same _ _).mono (by simp)).trans hsame) (by simp)
    rw [hdone, hremaining] at hanswer
    refine ⟨t, hexec, ?_, ?_, by rw [hafter.store, hdir]; simp, hafter.notice _ _ hnotice, hanswer, hframe⟩
    · rw [hafter.channel, hdone, hchannel]
      exact List.drop_eq_nil_of_le hfifo
    · rw [hafter.channel, hdone]

end Sys2Proof.Machine
end

section
/-! PROOFS. OPEN TRANSFER, CLOSE TRANSFER and ABORT (R170 to R172). -/

namespace Sys2Proof.Machine

/-! ### Directories (R165 to R167) -/

/-- R165: an entry that is removed leaves the others. -/
theorem State.removeEntry_find {s : State} {old id : Nat} (hne : id ≠ old) :
    (s.removeEntry old).store.find id = s.store.find id := by
  cases hfind : s.store.find old with
  | none => simp [State.removeEntry, hfind]
  | some o =>
    rw [Store.find, (State.removeEntry_found hfind).1, List.find?_filter]
    refine congrArg (fun q => List.find? q s.store.dir) (funext fun e => ?_)
    by_cases he : e.id = id
    · simp [he, hne]
    · simp [he]

/-- A change of one entry leaves the others. -/
theorem State.updEntry_find_ne (s : State) {old id : Nat} {g : Entry → Entry} (hne : id ≠ old)
    (hg : ∀ e, (g e).id = e.id) : (s.updEntry old g).store.find id = s.store.find id := by
  have hid (e : Entry) : (if e.id = old then g e else e).id = e.id := by split <;> simp [hg]
  simp only [State.updEntry, Store.find]
  induction s.store.dir with
  | nil => rfl
  | cons e rest ih =>
    by_cases he : e.id = id
    · simp [he, hne]
    · simpa [he, hid] using ih

/-- R167: an entry that no earlier GREETING stands in the way of. -/
theorem State.replaceGreeting_none {s : State} {e : Entry}
    (h : e.kind ≠ .greeting ∨ ∃ n, e.slot = some n ∧ s.store.greeting n = none) : s.replaceGreeting e = s := by
  unfold State.replaceGreeting
  split
  · next n hkind hslot =>
    rcases h with h | ⟨m, hm, hnone⟩
    · exact absurd hkind h
    · rw [hslot] at hm
      cases hm
      rw [hnone]
  · rfl

/-- R157, R167: the earlier COMPLETE GREETING of the slot goes. -/
theorem State.replaceGreeting_some {s : State} {e o : Entry} {n : Nat} (hkind : e.kind = .greeting) (hslot : e.slot = some n)
    (hold : s.store.greeting n = some o) (hfind : s.store.find o.id = some o) :
    s.replaceGreeting e = if o.holds = 0 then s.removeEntry o.id
      else s.updEntry o.id (fun x => { x with state := .doomed, isNew := false }) := by
  have hcomplete : o.state = .complete := by
    have hmatches := List.find?_some hold
    simp only [Bool.and_eq_true, beq_iff_eq] at hmatches
    exact hmatches.1.2
  simp only [State.replaceGreeting, hkind, hslot, hold, State.deleteRule, hfind, hcomplete]
  split <;> rfl

theorem State.complete_found {s : State} {id : Nat} {e : Entry} (h : s.store.find id = some e) (isNew : Bool) :
    s.complete id isNew = (s.replaceGreeting e).updEntry id (fun x => { x with state := .complete, isNew := isNew }) := by
  simp [State.complete, h]

/-- Two changes of an entry, one after the other. -/
theorem State.updEntry_updEntry (s : State) (id : Nat) {g g' : Entry → Entry} (hg : ∀ e, (g e).id = e.id) :
    (s.updEntry id g).updEntry id g' = s.updEntry id (fun e => g' (g e)) := by
  unfold State.updEntry
  simp only [List.map_map]
  congr 2
  refine congrArg (fun q => List.map q s.store.dir) (funext fun e => ?_)
  by_cases he : e.id = id
  · simp [he, hg]
  · simp [he]

/-- R164: an entry that is trimmed. -/
theorem State.trim_found {s : State} {id len : Nat} {e : Entry} (h : s.store.find id = some e) :
    s.trim id len = (s.updEntry id (fun e =>
      { e with granules := e.granules.take (ceilDiv len 1024), length := len })).freeChain
        (e.granules.drop (ceilDiv len 1024)) := by
  simp [State.trim, h, Config.granuleBytes]

/-! ### OPEN TRANSFER READ (R170) -/

/-- R170: the channel that a READ opens. -/
def Transfer.opened (t : Transfer) (id offset n : Nat) : Transfer :=
  { t with direction := .read, message := some id, offset := offset, remaining := n, state := .active, fifo := [] }

theorem takeOpenRead_eq {p : Port} {id : Byte} {offset count : U32} {e : Entry} {s : State} {n : Nat}
    (hbusy : (s.channel p).busy = false) (hvisible : s.store.visible id.toNat = some e) (hcomplete : e.state = .complete)
    (hoffset : offset.toNat ≤ e.length) (hn : n = min count.toNat (e.length - offset.toNat)) :
    openTransfer .read 0#8 (takeOpenRead p id offset count) s =
      (((s.hold e.id).updChannel p (fun t => t.opened e.id offset.toNat n)).judgeDone p, ⟨.ok, [.u32 n]⟩) := by
  have hdirection : directionOf 0#8 = some .read := rfl
  simp only [openTransfer, hdirection, if_true, takeOpenRead, hbusy, hvisible, hcomplete, openRead,
    Nat.not_lt.2 hoffset, if_false, ← hn, Bool.false_eq_true, reduceCtorEq]
  rfl

theorem hold_opened_same (s : State) (id : Nat) (p : Port) (g : Transfer → Transfer) :
    SameBut [.directory, .transfer p] s ((s.hold id).updChannel p g) :=
  ((State.updEntry_same s id _).mono (by simp)).trans ((State.updChannel_same _ _ _).mono (by simp))

theorem openRead_active {f : Frame} {s : State} (h : s.Takes f 0x55#8) {id : Byte} {offset count : U32} {e : Entry}
    (hbusy : (s.channel f.port).busy = false) (hvisible : s.store.visible id.toNat = some e)
    (hcomplete : e.state = .complete) (hoffset : offset.toNat < e.length) (hcount : count ≠ 0#32) :
    ∃ t, exec (.openTransferRead f ⟨0#8, id⟩ offset count) s = .next t ∧
      (t.channel f.port).direction = .read ∧ (t.channel f.port).message = some e.id ∧
      (t.channel f.port).offset = offset.toNat ∧ (t.channel f.port).state = .active ∧
      (t.channel f.port).remaining = min count.toNat (e.length - offset.toNat) ∧ (t.channel f.port).fifo = [] ∧
      t.store.dir = s.store.dir.map (fun x => if x.id = e.id then { x with holds := x.holds + 1 } else x) ∧
      Answered s t f.port 0x55#8 .ok [.u32 (min count.toNat (e.length - offset.toNat))] ∧
      SameBut [.directory, .transfer f.port, .outgoing f.port] s t := by
  have hpos : count.toNat ≠ 0 := fun hc => hcount (BitVec.eq_of_toNat_eq hc)
  have hbody := takeOpenRead_eq hbusy hvisible hcomplete hoffset.le rfl (count := count)
  rw [State.judgeDone_active (.inl (by simp only [State.updChannel_channel, Transfer.opened]; omega))] at hbody
  obtain ⟨t, hexec, hafter, hanswer, hsame⟩ := command_changes h hbody (hold_opened_same _ _ _ _) (by simp)
  refine ⟨t, hexec, ?_, ?_, ?_, ?_, ?_, ?_, by rw [hafter.store]; simp [State.hold, State.updEntry], hanswer, hsame⟩ <;>
    rw [hafter.channel, State.updChannel_channel] <;> rfl

/-- R166: a hold that is released again leaves the directory as it was. -/
theorem dir_hold_release (dir : List Entry) (id : Nat) :
    (dir.map (fun x => if x.id = id then { x with holds := x.holds + 1 } else x)).map
      (fun x => if x.id = id then { x with holds := x.holds - 1 } else x) = dir := by
  rw [List.map_map]
  refine (List.map_congr_left fun x _ => ?_).trans (List.map_id dir)
  by_cases hx : x.id = id
  · subst hx
    simp
  · simp [hx]

theorem openRead_done {f : Frame} {s : State} (h : s.Takes f 0x55#8) {id : Byte} {offset count : U32} {e : Entry}
    (hbusy : (s.channel f.port).busy = false) (hvisible : s.store.visible id.toNat = some e)
    (hcomplete : e.state = .complete) (hoffset : offset.toNat ≤ e.length) (hnone : count = 0#32 ∨ offset.toNat = e.length) :
    ∃ t, exec (.openTransferRead f ⟨0#8, id⟩ offset count) s = .next t ∧
      (t.channel f.port).direction = .read ∧ (t.channel f.port).message = some e.id ∧
      (t.channel f.port).offset = offset.toNat ∧ (t.channel f.port).state = .done ∧
      (t.channel f.port).remaining = 0 ∧ (t.channel f.port).fifo = [] ∧ t.store.dir = s.store.dir ∧
      t.Noticed f.port .transferDone ∧ Answered s t f.port 0x55#8 .ok [.u32 0] ∧
      SameBut [.transfer f.port, .notices .panel, .outgoing f.port] s t := by
  have hn : 0 = min count.toNat (e.length - offset.toNat) := by
    rcases hnone with rfl | heq
    · simp
    · omega
  obtain ⟨hfind, -⟩ := Store.visible_some.1 hvisible
  have hid : e.id = id.toNat := by simpa using List.find?_some hfind
  have hheld : (s.hold e.id).store.find e.id = some { e with holds := e.holds + 1 } := by
    have hfound : s.store.find e.id = some e := by rw [hid, hfind]
    rw [State.hold, State.updEntry_find s _ (fun _ => by rfl), hfound]
    rfl
  have hbody := takeOpenRead_eq hbusy hvisible hcomplete hoffset hn
  set u := (s.hold e.id).updChannel f.port (fun t => t.opened e.id offset.toNat 0) with hu
  have hchannel : u.channel f.port = (s.channel f.port).opened e.id offset.toNat 0 := by
    rw [hu, State.updChannel_channel]
    rfl
  obtain ⟨hdone, hdir, hnotice, hsame⟩ := State.judgeDone_done (s := u) (p := f.port) (by rw [hchannel]; rfl)
    (by rw [hchannel]; rfl) (by rw [hchannel]; rfl) (by rw [hchannel]; rfl) (by rw [hchannel]; rfl)
    (by rw [hu, State.updChannel_store]; exact hheld) (by simp [hcomplete])
  have hrestored : (u.judgeDone f.port).store.dir = s.store.dir := by
    rw [hdir, hu, State.updChannel_store]
    exact dir_hold_release _ _
  have hframe : SameBut [.transfer f.port, .notices .panel] s (u.judgeDone f.port) := by
    intro x hx hn
    by_cases hd : x = .directory
    · rw [hd]
      exact hrestored
    · exact ((hold_opened_same s e.id f.port _).mono (by simp)).trans hsame x (by simpa [hd] using hx) hn
  obtain ⟨t, hexec, hafter, hanswer, hframe⟩ := command_changes h hbody hframe (by simp)
  refine ⟨t, hexec, ?_, ?_, ?_, ?_, ?_, ?_, by rw [hafter.store, hrestored], hafter.notice _ _ hnotice, hanswer, hframe⟩ <;>
    rw [hafter.channel, hdone, hchannel] <;> rfl

theorem openRead_refused {f : Frame} {s : State} (h : s.Takes f 0x55#8) {id : Byte} {offset count : U32} {e : Entry}
    (hbusy : (s.channel f.port).busy = false) (hvisible : s.store.visible id.toNat = some e)
    (hcomplete : e.state = .complete) (hoffset : e.length < offset.toNat) :
    ∃ t, exec (.openTransferRead f ⟨0#8, id⟩ offset count) s = .next t ∧ Answered s t f.port 0x55#8 .badParameter [] ∧
      SameBut [.outgoing f.port] s t := by
  refine command_refused h ?_
  have hdirection : directionOf 0#8 = some .read := rfl
  simp only [openTransfer, hdirection, if_true, takeOpenRead, hbusy, hvisible, hcomplete, openRead, hoffset,
    Bool.false_eq_true, reduceCtorEq, if_false]

/-! ### OPEN TRANSFER WRITE (R171) -/

theorem openWrite_opens {f : Frame} {s : State} (h : s.Takes f 0x55#8) {kind slot : Byte} {k : MsgKind × Option Nat}
    (hbusy : (s.channel f.port).busy = false) (hkind : writeKind kind slot = some k) (hcreate : s.canCreate = true) :
    ∃ t, exec (.openTransferWrite f ⟨1#8, kind⟩ slot) s = .next t ∧
      ∃ x : Entry, t.store.dir = s.store.dir ++ [x] ∧ x.kind = k.1 ∧ x.slot = k.2 ∧ x.state = .opened ∧
        x.length = 0 ∧ x.granules = [] ∧ t.store.header.lastId = x.id ∧
        (t.channel f.port).direction = .write ∧ (t.channel f.port).message = some x.id ∧
        (t.channel f.port).state = .active ∧ (t.channel f.port).mark = false ∧
        Answered s t f.port 0x55#8 .ok [.u8 x.id] ∧
        SameBut [.header, .directory, .transfer f.port, .outgoing f.port] s t := by
  have hdirection : directionOf 1#8 = some .write := rfl
  set x := s.newEntry k.1 k.2 false with hx
  set u : State := { s with store.dir := s.store.dir ++ [x], store.header.lastId := x.id } with hu
  have hbody : openTransfer .write 1#8 (takeOpenWrite f.port kind slot) s =
      (u.updChannel f.port (fun c =>
        { c with direction := .write, message := some x.id, offset := 0, remaining := 0, state := .active,
                 mark := false, pageStart := 0, fifo := [] }), ⟨.ok, [.u8 x.id]⟩) := by
    simp only [openTransfer, hdirection, if_true, takeOpenWrite, hkind, takeGoodOpenWrite, hbusy, Bool.false_eq_true,
      if_false, State.create_some hcreate, hu, hx]
  have hcreated : SameBut [.header, .directory] s u := by
    rw [hu]
    exact .of_parts (by simp)
  obtain ⟨t, hexec, hafter, hanswer, hsame⟩ := command_changes h hbody
    ((hcreated.mono (by simp)).trans ((State.updChannel_same _ _ _).mono (by simp)) :
      SameBut [.header, .directory, .transfer f.port] s _) (by simp)
  refine ⟨t, hexec, x, ?_, rfl, rfl, rfl, rfl, rfl, ?_, ?_, ?_, ?_, ?_, hanswer, hsame⟩
  · rw [hafter.store, State.updChannel_store]
  · rw [hafter.store, State.updChannel_store]
  all_goals
    rw [hafter.channel, State.updChannel_channel]

theorem openWrite_storeFull {f : Frame} {s : State} (h : s.Takes f 0x55#8) {kind slot : Byte} {k : MsgKind × Option Nat}
    (hbusy : (s.channel f.port).busy = false) (hkind : writeKind kind slot = some k) (hcreate : s.canCreate = false) :
    ∃ t, exec (.openTransferWrite f ⟨1#8, kind⟩ slot) s = .next t ∧ Answered s t f.port 0x55#8 .storeFull [] ∧
      (∀ p, (t.port p).alerts.full = true) ∧
      SameBut [.alerts .system, .alerts .panel, .notices .panel, .outgoing f.port] s t := by
  have hdirection : directionOf 1#8 = some .write := rfl
  have hbody : openTransfer .write 1#8 (takeOpenWrite f.port kind slot) s = (s.storeAlert .full, .plain .storeFull) := by
    simp only [openTransfer, hdirection, if_true, takeOpenWrite, hkind, takeGoodOpenWrite, hbusy, Bool.false_eq_true,
      if_false, State.create, hcreate]
  obtain ⟨t, hexec, hafter, hanswer, hsame⟩ := command_changes h hbody (s.storeAlert_same _) (by simp)
  exact ⟨t, hexec, hanswer, fun p => by rw [hafter.alerts, State.storeAlert_alerts]; rfl, hsame⟩

/-- R170, R171: a channel that is ACTIVE or FULL refuses another OPEN TRANSFER. -/
theorem openTransfer_busy {f : Frame} {s : State} (h : s.Takes f 0x55#8) (hbusy : (s.channel f.port).busy = true) :
    (∀ id offset count, ∃ t, exec (.openTransferRead f ⟨0#8, id⟩ offset count) s = .next t ∧
      Answered s t f.port 0x55#8 .channelBusy [] ∧ SameBut [.outgoing f.port] s t) ∧
    (∀ kind slot k, writeKind kind slot = some k → ∃ t, exec (.openTransferWrite f ⟨1#8, kind⟩ slot) s = .next t ∧
      Answered s t f.port 0x55#8 .channelBusy [] ∧ SameBut [.outgoing f.port] s t) := by
  have hread : directionOf 0#8 = some .read := rfl
  have hwrite : directionOf 1#8 = some .write := rfl
  refine ⟨fun id offset count => command_refused h ?_, fun kind slot k hkind => command_refused h ?_⟩
  · simp only [openTransfer, hread, if_true, takeOpenRead, hbusy]
  · simp only [openTransfer, hwrite, if_true, takeOpenWrite, hkind, takeGoodOpenWrite, hbusy]

/-- R178, R184: a direction that is not that of the parameters. -/
theorem openTransfer_direction {f : Frame} {s : State} (h : s.Takes f 0x55#8) (direction : Byte) :
    (direction ≠ 0#8 → ∀ id offset count, ∃ t, exec (.openTransferRead f ⟨direction, id⟩ offset count) s = .next t ∧
      Answered s t f.port 0x55#8 .badParameter [] ∧ SameBut [.outgoing f.port] s t) ∧
    (direction ≠ 1#8 → ∀ kind slot, ∃ t, exec (.openTransferWrite f ⟨direction, kind⟩ slot) s = .next t ∧
      Answered s t f.port 0x55#8 .badParameter [] ∧ SameBut [.outgoing f.port] s t) := by
  refine ⟨fun hne id offset count => command_refused h (if_neg ?_), fun hne kind slot => command_refused h (if_neg ?_)⟩
  · unfold directionOf
    split <;> simp_all
  · unfold directionOf
    split <;> simp_all

/-! ### CLOSE TRANSFER and ABORT (R172) -/

@[simp] theorem State.idleChannel_channel (s : State) (p : Port) :
    (s.idleChannel p).channel p = { s.channel p with state := .idle, fifo := [] } := by
  simp [State.idleChannel]

theorem State.idleChannel_same (s : State) (p : Port) : SameBut [.transfer p] s (s.idleChannel p) :=
  State.updChannel_same _ _ _

/-- R172: a command after which its port's channel is IDLE and empty. -/
theorem command_idles {f : Frame} {code : Byte} {s u : State} {body : State → State × Reply} {r : Reply}
    {parts : List Part} (h : s.Takes f code) (hbody : body s = (u.idleChannel f.port, r)) (hsame : SameBut parts s u)
    (hout : .outgoing f.port ∉ parts) :
    ∃ t, command f code s body = .next t ∧ (t.channel f.port).state = .idle ∧ (t.channel f.port).fifo = [] ∧
      t.store = u.store ∧ Answered s t f.port code r.status r.results ∧
      SameBut (parts ++ [.transfer f.port] ++ [.outgoing f.port]) s t := by
  obtain ⟨t, hexec, hafter, hanswer, hsame⟩ := command_changes h hbody
    ((hsame.mono (List.subset_append_left _ [.transfer f.port])).trans ((u.idleChannel_same f.port).mono (by simp)))
    (by simpa using hout)
  exact ⟨t, hexec, by rw [hafter.channel]; simp, by rw [hafter.channel]; simp, by rw [hafter.store]; simp, hanswer, hsame⟩

/-- R172: CLOSE TRANSFER of a WRITE. -/
theorem takeCloseTransfer_write {p : Port} {id : Nat} {s : State} (hmessage : (s.channel p).message = some id)
    (hstate : (s.channel p).state ≠ .idle) (hwrite : (s.channel p).direction = .write) :
    takeCloseTransfer p s = (s.closeWrite p id, ⟨.ok, closeItems (s.closeWrite p id) id⟩) := by
  unfold takeCloseTransfer
  dsimp only
  rw [hmessage, hwrite]
  cases hs : (s.channel p).state with
  | idle => exact absurd hs hstate
  | _ => rfl

/-- R172: CLOSE TRANSFER of a READ. -/
theorem takeCloseTransfer_read {p : Port} {s : State} (hstate : (s.channel p).state ≠ .idle)
    (hread : (s.channel p).direction = .read) : takeCloseTransfer p s = (s.endRead p, .plain .ok) := by
  unfold takeCloseTransfer
  dsimp only
  rw [hread]
  cases hs : (s.channel p).state with
  | idle => exact absurd hs hstate
  | _ => rfl

/-- R172: ABORT of a READ. -/
theorem State.abortChannel_read {p : Port} {s : State} (hstate : (s.channel p).state ≠ .idle)
    (hread : (s.channel p).direction = .read) : s.abortChannel p = s.endRead p := by
  unfold State.abortChannel
  dsimp only
  rw [hread]
  cases hs : (s.channel p).state with
  | idle => exact absurd hs hstate
  | _ => rfl

/-- R172: ABORT of a WRITE. -/
theorem State.abortChannel_write {p : Port} {id : Nat} {s : State} (hmessage : (s.channel p).message = some id)
    (hstate : (s.channel p).state ≠ .idle) (hwrite : (s.channel p).direction = .write) :
    s.abortChannel p = (s.removeEntry id).idleChannel p := by
  unfold State.abortChannel
  dsimp only
  rw [hmessage, hwrite]
  cases hs : (s.channel p).state with
  | idle => exact absurd hs hstate
  | _ => rfl

theorem takeAbort_taken {p : Port} {s : State} (hstate : (s.channel p).state ≠ .idle) :
    takeAbort p s = (s.abortChannel p, .plain .ok) := if_neg hstate

/-- R172: an ACTIVE READ ends with its hold released. -/
theorem State.endRead_active {p : Port} {id : Nat} {e : Entry} {s : State} (hmessage : (s.channel p).message = some id)
    (hactive : (s.channel p).state = .active) (hfind : s.store.find id = some e) (hlive : e.state ≠ .doomed) :
    s.endRead p = (s.updEntry id (fun e => { e with holds := e.holds - 1 })).idleChannel p := by
  simp only [State.endRead, hactive, if_true, State.releaseChannel, hmessage, State.release_live hfind hlive]

/-- R172: a READ that is DONE has no hold to release. -/
theorem State.endRead_done {p : Port} {s : State} (hdone : (s.channel p).state = .done) :
    s.endRead p = s.idleChannel p := by
  simp [State.endRead, hdone]

/-- R172: what CLOSE TRANSFER of a WRITE reports of its entry. -/
theorem closeItems_of_find {s : State} {id : Nat} {e : Entry} (h : s.store.find id = some e) :
    closeItems s id = [.u8 id, .u32 e.length] ++ if e.kind = .faxOut then [.u8 e.pageCount] else [] := by
  simp [closeItems, State.isFaxOut, State.pagesOf, h]

/-- R172: CLOSE TRANSFER of a WRITE that is not a FAX_OUT. -/
theorem closeTransfer_completes {f : Frame} {id : Nat} {e : Entry} {s : State} {parts : List Part} (h : s.Takes f 0x58#8)
    (hmessage : (s.channel f.port).message = some id) (hfind : s.store.find id = some e)
    (hstate : (s.channel f.port).state ≠ .idle) (hwrite : (s.channel f.port).direction = .write) (hkind : e.kind ≠ .faxOut)
    (hkept : (s.replaceGreeting e).store.find id = some e) (hsame : SameBut parts s (s.replaceGreeting e))
    (hout : .outgoing f.port ∉ parts) :
    ∃ t, exec (.closeTransfer f) s = .next t ∧ (t.channel f.port).state = .idle ∧ (t.channel f.port).fifo = [] ∧
      t.store.dir = (s.replaceGreeting e).store.dir.map
        (fun x => if x.id = id then { x with state := .complete, isNew := false } else x) ∧
      t.store.free = (s.replaceGreeting e).store.free ∧
      Answered s t f.port 0x58#8 .ok [.u8 id, .u32 e.length] ∧
      SameBut (parts ++ [.directory] ++ [.transfer f.port] ++ [.outgoing f.port]) s t := by
  have hclosed : s.closeWrite f.port id = ((s.replaceGreeting e).updEntry id
      (fun x => { x with state := .complete, isNew := false })).idleChannel f.port := by
    simp [State.closeWrite, State.isFaxOut, hfind, hkind, State.complete_found hfind]
  have hfound : (s.closeWrite f.port id).store.find id = some { e with state := .complete, isNew := false } := by
    rw [hclosed, State.idleChannel_store, State.updEntry_find, hkept]
    · rfl
    · exact fun _ => rfl
  have hbody := takeCloseTransfer_write hmessage hstate hwrite
  rw [closeItems_of_find hfound, hclosed] at hbody
  obtain ⟨t, hexec, hidle, hfifo, hstore, hanswer, hframe⟩ := command_idles h hbody
    ((hsame.mono (List.subset_append_left _ [.directory])).trans ((State.updEntry_same _ _ _).mono (by simp)))
    (by simpa using hout)
  exact ⟨t, hexec, hidle, hfifo, by rw [hstore]; rfl, by rw [hstore]; rfl, by simpa [hkind] using hanswer, hframe⟩

/-- R172: CLOSE TRANSFER of a FAX_OUT. -/
theorem closeTransfer_faxOut {f : Frame} {id : Nat} {e : Entry} {s : State} (h : s.Takes f 0x58#8)
    (hmessage : (s.channel f.port).message = some id) (hfind : s.store.find id = some e)
    (hstate : (s.channel f.port).state ≠ .idle) (hwrite : (s.channel f.port).direction = .write) (hkind : e.kind = .faxOut) :
    ∃ t, exec (.closeTransfer f) s = .next t ∧ (t.channel f.port).state = .idle ∧ (t.channel f.port).fifo = [] ∧
      t.store.dir = s.store.dir.map (fun x => if x.id = id then
        { x with granules := x.granules.take (ceilDiv (s.channel f.port).pageStart 1024),
                 length := (s.channel f.port).pageStart, state := .complete, isNew := false } else x) ∧
      t.store.free = s.store.free ++ e.granules.drop (ceilDiv (s.channel f.port).pageStart 1024) ∧
      Answered s t f.port 0x58#8 .ok [.u8 id, .u32 (s.channel f.port).pageStart, .u8 e.pageCount] ∧
      SameBut [.directory, .freeList, .alerts .system, .alerts .panel, .notices .panel, .transfer f.port,
        .outgoing f.port] s t := by
  set len := (s.channel f.port).pageStart with hlen
  set g : Entry → Entry := fun e => { e with granules := e.granules.take (ceilDiv len 1024), length := len } with hg
  set u := (s.updEntry id g).freeChain (e.granules.drop (ceilDiv len 1024)) with hu
  have htrim : s.trim id len = u := State.trim_found hfind
  have hdir : u.store.dir = (s.updEntry id g).store.dir := State.freeChain_dir _ _
  have hfound : u.store.find id = some (g e) := by
    rw [Store.find, hdir]
    exact (State.updEntry_find s id (g := g) (fun _ => rfl)).trans (by rw [hfind]; rfl)
  have hclosed : s.closeWrite f.port id =
      (u.updEntry id (fun x => { x with state := .complete, isNew := false })).idleChannel f.port := by
    have hreplace : u.replaceGreeting (g e) = u := State.replaceGreeting_none (.inl (by simp [hg, hkind]))
    have hfax : s.isFaxOut id = true := by simp [State.isFaxOut, hfind, hkind]
    rw [State.closeWrite, if_pos hfax, ← hlen, htrim, State.complete_found hfound, hreplace]
  have hclosedFind : (s.closeWrite f.port id).store.find id = some { g e with state := .complete, isNew := false } := by
    rw [hclosed, State.idleChannel_store, State.updEntry_find, hfound]
    · rfl
    · exact fun _ => rfl
  have hbody := takeCloseTransfer_write hmessage hstate hwrite
  rw [closeItems_of_find hclosedFind, hclosed] at hbody
  have hsame : SameBut [.directory, .freeList, .alerts .system, .alerts .panel, .notices .panel] s
      (u.updEntry id (fun x => { x with state := .complete, isNew := false })) :=
    ((State.updEntry_same s id g).mono (by simp)).trans
      (((State.freeChain_same _ _).mono (by simp)).trans ((State.updEntry_same _ _ _).mono (by simp)))
  obtain ⟨t, hexec, hidle, hfifo, hstore, hanswer, hframe⟩ := command_idles h hbody hsame (by simp)
  refine ⟨t, hexec, hidle, hfifo, ?_, ?_, by simpa [hg, hkind] using hanswer, hframe⟩
  · have htwice := congrArg (fun v => v.store.dir)
      (State.updEntry_updEntry s id (g := g) (g' := fun x => { x with state := .complete, isNew := false }) (fun _ => rfl))
    rw [hstore]
    simp only [State.updEntry, hdir] at htwice ⊢
    exact htwice
  · rw [hstore]
    simp [hu]

/-- R166, R172: a READ that is ACTIVE is closed or aborted with its hold released. -/
theorem endRead_releases {f : Frame} {code : Byte} {id : Nat} {e : Entry} {s : State} {body : State → State × Reply}
    (h : s.Takes f code) (hmessage : (s.channel f.port).message = some id) (hfind : s.store.find id = some e)
    (hactive : (s.channel f.port).state = .active) (hlive : e.state ≠ .doomed)
    (hbody : body s = (s.endRead f.port, .plain .ok)) :
    ∃ t, command f code s body = .next t ∧ (t.channel f.port).state = .idle ∧ (t.channel f.port).fifo = [] ∧
      t.store.dir = s.store.dir.map (fun x => if x.id = id then { x with holds := x.holds - 1 } else x) ∧
      Answered s t f.port code .ok [] ∧ SameBut [.directory, .transfer f.port, .outgoing f.port] s t := by
  rw [State.endRead_active hmessage hactive hfind hlive] at hbody
  obtain ⟨t, hexec, hidle, hfifo, hstore, hanswer, hframe⟩ := command_idles h hbody (State.updEntry_same _ _ _) (by simp)
  exact ⟨t, hexec, hidle, hfifo, by rw [hstore]; rfl, hanswer, hframe⟩

/-- R172: a READ that is DONE is closed or aborted. -/
theorem endRead_closes {f : Frame} {code : Byte} {s : State} {body : State → State × Reply} (h : s.Takes f code)
    (hdone : (s.channel f.port).state = .done) (hbody : body s = (s.endRead f.port, .plain .ok)) :
    ∃ t, command f code s body = .next t ∧ (t.channel f.port).state = .idle ∧ (t.channel f.port).fifo = [] ∧
      t.store.dir = s.store.dir ∧ Answered s t f.port code .ok [] ∧ SameBut [.transfer f.port, .outgoing f.port] s t := by
  rw [State.endRead_done hdone] at hbody
  obtain ⟨t, hexec, hidle, hfifo, hstore, hanswer, hframe⟩ := command_idles h hbody (.refl [] s) (by simp)
  exact ⟨t, hexec, hidle, hfifo, by rw [hstore], hanswer, hframe⟩

/-- R167, R172: CLOSE TRANSFER of a GREETING that takes the place of an earlier one. -/
theorem closeTransfer_greeting {f : Frame} {id n : Nat} {e o : Entry} {s : State} (h : s.Takes f 0x58#8)
    (hmessage : (s.channel f.port).message = some id) (hfind : s.store.find id = some e)
    (hstate : (s.channel f.port).state ≠ .idle) (hwrite : (s.channel f.port).direction = .write) (hkind : e.kind = .greeting)
    (hslot : e.slot = some n) (hold : s.store.greeting n = some o) (hofind : s.store.find o.id = some o) (hne : o.id ≠ id) :
    ∃ t, exec (.closeTransfer f) s = .next t ∧ (t.channel f.port).state = .idle ∧ (t.channel f.port).fifo = [] ∧
      t.store.dir = (if o.holds = 0 then s.store.dir.filter (fun x => x.id ≠ o.id)
        else s.store.dir.map (fun x => if x.id = o.id then { x with state := .doomed, isNew := false } else x)).map
          (fun x => if x.id = id then { x with state := .complete, isNew := false } else x) ∧
      t.store.free = (if o.holds = 0 then s.store.free ++ o.granules else s.store.free) ∧
      Answered s t f.port 0x58#8 .ok [.u8 id, .u32 e.length] ∧
      SameBut [.directory, .freeList, .alerts .system, .alerts .panel, .notices .panel, .transfer f.port,
        .outgoing f.port] s t := by
  have hreplace := State.replaceGreeting_some hkind hslot hold hofind
  have hnotFax : e.kind ≠ .faxOut := by simp [hkind]
  by_cases hholds : o.holds = 0
  · simp only [if_pos hholds] at hreplace ⊢
    obtain ⟨hdir, hfree⟩ := State.removeEntry_found hofind
    obtain ⟨t, hexec, hidle, hfifo, htdir, htfree, hanswer, hframe⟩ := closeTransfer_completes h hmessage hfind hstate hwrite
      hnotFax (by rw [hreplace, State.removeEntry_find hne.symm, hfind])
      (by rw [hreplace]; exact State.removeEntry_same _ _) (by simp)
    exact ⟨t, hexec, hidle, hfifo, by rw [htdir, hreplace, hdir], by rw [htfree, hreplace, hfree], hanswer,
      hframe.mono (by simp)⟩
  · simp only [if_neg hholds] at hreplace ⊢
    have hfind' : (s.updEntry o.id (fun x => { x with state := .doomed, isNew := false })).store.find id = some e :=
      (State.updEntry_find_ne s hne.symm (fun _ => by rfl)).trans hfind
    obtain ⟨t, hexec, hidle, hfifo, htdir, htfree, hanswer, hframe⟩ := closeTransfer_completes h hmessage hfind hstate hwrite
      hnotFax (by rw [hreplace, hfind']) (by rw [hreplace]; exact State.updEntry_same _ _ _) (by simp)
    exact ⟨t, hexec, hidle, hfifo, by rw [htdir, hreplace]; rfl, by rw [htfree, hreplace]; rfl, hanswer,
      hframe.mono (by simp)⟩

/-- Settles O19: OPEN TRANSFER by direction and by what there is to read or to write, CLOSE TRANSFER and ABORT by the
direction and the state of the channel and the kind of the entry. -/
theorem transferChannels : Obligations.TransferChannels := by
  refine ⟨fun f s h => ⟨fun id offset count e hbusy hvisible hcomplete hoffset hcount =>
      openRead_active h hbusy hvisible hcomplete hoffset hcount,
    fun id offset count e hbusy hvisible hcomplete hoffset hnone => openRead_done h hbusy hvisible hcomplete hoffset hnone,
    fun id offset count e hbusy hvisible hcomplete hoffset => openRead_refused h hbusy hvisible hcomplete hoffset,
    fun kind slot k hbusy hkind hcreate => openWrite_opens h hbusy hkind hcreate,
    fun kind slot k hbusy hkind hcreate => openWrite_storeFull h hbusy hkind hcreate, openTransfer_busy h,
    openTransfer_direction h⟩, fun f id e s hmessage hfind => ⟨fun h hstate hwrite hkind => ?_,
    fun h hstate hwrite hkind => closeTransfer_faxOut h hmessage hfind hstate hwrite hkind,
    fun n h hstate hwrite hkind hslot => ⟨fun hnone => ?_, fun o hold hofind hne =>
      closeTransfer_greeting h hmessage hfind hstate hwrite hkind hslot hold hofind hne⟩,
    fun h hactive hread hlive => endRead_releases h hmessage hfind hactive hlive
      (takeCloseTransfer_read (by simp [hactive]) hread),
    fun h hactive hread hlive => endRead_releases h hmessage hfind hactive hlive
      ((takeAbort_taken (by simp [hactive])).trans (by rw [State.abortChannel_read (by simp [hactive]) hread])),
    fun hdone hread => ⟨fun h => endRead_closes h hdone (takeCloseTransfer_read (by simp [hdone]) hread),
      fun h => endRead_closes h hdone
        ((takeAbort_taken (by simp [hdone])).trans (by rw [State.abortChannel_read (by simp [hdone]) hread]))⟩,
    fun h hstate hwrite => ?_, fun hidle => ⟨fun h => command_refused h ?_, fun h => command_refused h (if_pos hidle)⟩⟩⟩
  · have hreplace : s.replaceGreeting e = s := State.replaceGreeting_none (.inl (by simp [hkind]))
    obtain ⟨t, hexec, hidle, hfifo, hdir, -, hanswer, hframe⟩ := closeTransfer_completes h hmessage hfind hstate hwrite
      (by simp [hkind]) (by rw [hreplace, hfind]) (by rw [hreplace]; exact .refl [] s) (by simp)
    exact ⟨t, hexec, hidle, hfifo, by rw [hdir, hreplace], hanswer, hframe⟩
  · have hreplace : s.replaceGreeting e = s := State.replaceGreeting_none (.inr ⟨n, hslot, hnone⟩)
    obtain ⟨t, hexec, hidle, hfifo, hdir, -, hanswer, hframe⟩ := closeTransfer_completes h hmessage hfind hstate hwrite
      (by simp [hkind]) (by rw [hreplace, hfind]) (by rw [hreplace]; exact .refl [] s) (by simp)
    exact ⟨t, hexec, hidle, hfifo, by rw [hdir, hreplace], hanswer, hframe⟩
  · have hbody := takeAbort_taken hstate
    rw [State.abortChannel_write hmessage hstate hwrite] at hbody
    obtain ⟨t, hexec, hidle, hfifo, hstore, hanswer, hframe⟩ :=
      command_idles h hbody (State.removeEntry_same _ _) (by simp)
    obtain ⟨hdir, hfree⟩ := State.removeEntry_found hfind
    exact ⟨t, hexec, hidle, hfifo, by rw [hstore, hdir], by rw [hstore, hfree], hanswer, hframe⟩
  · simp [takeCloseTransfer, hidle]

end Sys2Proof.Machine
end

section
/-! PROOFS. WRITE CHUNK (R164, R171, R173). -/

namespace Sys2Proof.Machine

/-! ### A byte appended to an entry (R171) -/

/-- R164: the bytes of a granule follow one another. -/
theorem Entry.address_add (e : Entry) {o i : Nat} (h : o % 1024 + i < 1024) : e.address (o + i) = e.address o + i := by
  have hdiv : (o + i) / 1024 = o / 1024 := by omega
  have hmod : (o + i) % 1024 = o % 1024 + i := by omega
  simp only [Entry.address, Config.granuleBytes, hdiv, hmod, granuleAddress]
  omega

/-- R171: the state after a byte in the granule in hand. -/
theorem State.putByte_found {s : State} {id : Nat} {e : Entry} (h : s.store.find id = some e) (b : Byte) :
    s.putByte id b = (s.writeMem (e.address e.length) b).updEntry id (fun e => { e with length := e.length + 1 }) := by
  simp [State.putByte, h]

theorem State.putByte_find {s : State} {id : Nat} {e : Entry} (h : s.store.find id = some e) (b : Byte) :
    (s.putByte id b).store.find id = some { e with length := e.length + 1 } := by
  rw [State.putByte_found h, State.updEntry_find _ _ (fun _ => by rfl)]
  exact congrArg (Option.map _) h

theorem State.putByte_mem {s : State} {id : Nat} {e : Entry} (h : s.store.find id = some e) (b : Byte) :
    (s.putByte id b).store.mem = Mem.write s.store.mem (e.address e.length) b := by
  rw [State.putByte_found h]
  rfl

@[simp] theorem State.putByte_channel (s : State) (id : Nat) (b : Byte) (p : Port) :
    (s.putByte id b).channel p = s.channel p := by
  cases p <;> simp [State.channel, State.port, PerPort.get]

theorem State.putByte_same (s : State) (id : Nat) (b : Byte) : SameBut [.directory, .memory] s (s.putByte id b) := by
  unfold State.putByte State.writeMem State.updEntry
  split
  · exact .refl _ s
  · exact .of_parts (by simp)

/-- R171: a byte of a chunk whose granule is there. -/
theorem State.writeByte_fits {s : State} {p : Port} {id : Nat} {e : Entry} (hfind : s.store.find id = some e)
    (hroom : e.length < e.granules.length * 1024) (b : Byte) :
    s.writeByte p id b =
      (((s.putByte id b).updChannel p (fun t => { t with offset := t.offset + 1 })).followPageMark p id b, true) := by
  have hneeds : e.needsGranule = false := by
    simp only [Entry.needsGranule, Config.granuleBytes]
    exact decide_eq_false (Nat.not_le.2 hroom)
  have happend : s.appendByte id b = (s.putByte id b, true) := by simp [State.appendByte, hfind, hneeds]
  unfold State.writeByte
  rw [happend]

/-- R171: the marks are followed in a FAX_OUT only. -/
theorem State.followPageMark_other {s : State} {p : Port} {id : Nat} {e : Entry} (hfind : s.store.find id = some e)
    (hkind : e.kind ≠ .faxOut) (b : Byte) : s.followPageMark p id b = s := by
  simp [State.followPageMark, State.isFaxOut, hfind, hkind]

/-! ### A chunk in the granule in hand -/

/-- R171: what a chunk leaves that fits into the granule in hand. -/
structure ChunkWritten (s u : State) (p : Port) (id : Nat) (e : Entry) (bytes : List Byte) : Prop where
  read : ∀ k b, bytes[k]? = some b → Mem.read u.store.mem (e.address (e.length + k)) = b
  others : ∀ a, (∀ k, k < bytes.length → a ≠ e.address (e.length + k)) → Mem.read u.store.mem a = Mem.read s.store.mem a
  find : u.store.find id = some { e with length := e.length + bytes.length }
  offset : (u.channel p).offset = (s.channel p).offset + bytes.length
  state : (u.channel p).state = .active
  frame : SameBut [.directory, .memory, .transfer p] s u

theorem State.writeBytes_fits {p : Port} {id : Nat} (bytes : List Byte) {s : State} {e : Entry}
    (hfind : s.store.find id = some e) (hkind : e.kind ≠ .faxOut) (hactive : (s.channel p).state = .active)
    (hwf : Mem.wf s.store.mem = true) (hgranule : e.length % 1024 + bytes.length ≤ 1024)
    (hroom : e.length + bytes.length ≤ e.granules.length * 1024) :
    ∃ u, State.writeBytes p id bytes s = (u, bytes.length) ∧ ChunkWritten s u p id e bytes := by
  induction bytes generalizing s e with
  | nil =>
    exact ⟨s, rfl, ⟨fun k b h => by simp at h, fun _ _ => rfl, hfind, rfl, hactive, .refl _ s⟩⟩
  | cons b rest ih =>
    rw [List.length_cons] at hgranule hroom
    set v := (s.putByte id b).updChannel p (fun t => { t with offset := t.offset + 1 }) with hv
    have hstore : v.store = (s.putByte id b).store := by rw [hv, State.updChannel_store]
    have hvfind : v.store.find id = some { e with length := e.length + 1 } := by rw [hstore, State.putByte_find hfind]
    have hvmem : v.store.mem = Mem.write s.store.mem (e.address e.length) b := by rw [hstore, State.putByte_mem hfind]
    have hbyte : s.writeByte p id b = (v, true) := by
      rw [State.writeByte_fits hfind (by omega), State.followPageMark_other hvfind hkind]
    have hvchannel : v.channel p = { s.channel p with offset := (s.channel p).offset + 1 } := by simp [hv]
    have hsame : SameBut [.directory, .memory, .transfer p] s v :=
      ((State.putByte_same _ _ _).mono (by simp)).trans ((State.updChannel_same _ _ _).mono (by simp))
    obtain ⟨u, hwrites, hrest⟩ := ih (e := { e with length := e.length + 1 }) hvfind hkind
      (by rw [hvchannel]; exact hactive) (by rw [hvmem]; exact Mem.write_wf hwf _ _) (by dsimp only; omega)
      (by dsimp only; omega)
    have hmoves (k : Nat) (hk : k < rest.length) : e.address e.length ≠ e.address (e.length + 1 + k) := by
      rw [Nat.add_assoc, Entry.address_add e (by omega)]
      omega
    have hread (a : Nat) : Mem.read v.store.mem a = if a = e.address e.length then b else Mem.read s.store.mem a := by
      rw [hvmem, Mem.read_write hwf]
    refine ⟨u, ?_, ⟨fun k c hk => ?_, fun a ha => ?_, ?_, ?_, hrest.state, hsame.trans hrest.frame⟩⟩
    · simp only [State.writeBytes, hactive, reduceCtorEq, if_false, hbyte, hwrites, List.length_cons]
    · cases k with
      | zero =>
        have hkept := hrest.others (e.address e.length) hmoves
        simpa [hread, hkept] using hk
      | succ k =>
        have hlater := hrest.read k c (by simpa using hk)
        rwa [show e.length + (k + 1) = e.length + 1 + k by omega]
    · have hfirst : a ≠ e.address e.length := ha 0 (by simp)
      rw [hrest.others a (fun k hk => ?_), hread, if_neg hfirst]
      have := ha (k + 1) (by simpa using hk)
      rwa [show e.length + (k + 1) = e.length + 1 + k by omega] at this
    · rw [hrest.find]
      simp only [List.length_cons, Option.some.injEq]
      congr 1
      omega
    · rw [hrest.offset, hvchannel, List.length_cons]
      dsimp only
      omega

/-! ### A byte that needs a granule (R164, R173) -/

/-- R164: an allocation takes the first free granule. -/
theorem State.allocate_takes {s : State} {id g : Nat} {rest : List Nat} {e : Entry} (hfind : s.store.find id = some e)
    (hfree : s.store.free = g :: rest) :
    s.allocate id = (State.judgeLow ({ s with store.free := rest }.updEntry id (fun e => e.addGranule g)), true) := by
  simp [State.allocate, hfind, hfree]

/-- R164, R173: with nothing free it fails with the FULL alert. -/
theorem State.allocate_fails {s : State} {id : Nat} {e : Entry} (hfind : s.store.find id = some e)
    (hfree : s.store.free = []) : s.allocate id = (s.storeAlert .full, false) := by
  simp [State.allocate, hfind, hfree]

/-- R164: what an allocation leaves. -/
theorem State.allocated {s : State} {id g : Nat} {rest : List Nat} {e : Entry} (hfind : s.store.find id = some e)
    (hfree : s.store.free = g :: rest) :
    (s.allocate id).1.store.free = rest ∧ (s.allocate id).1.store.find id = some (e.addGranule g) ∧
      (s.allocate id).1.store.mem = s.store.mem ∧
      SameBut [.directory, .freeList, .alerts .system, .alerts .panel, .notices .panel] s (s.allocate id).1 := by
  have hdropped : SameBut [.directory, .freeList] s ({ s with store.free := rest }.updEntry id (fun e => e.addGranule g)) := by
    unfold State.updEntry
    exact .of_parts (by simp)
  rw [State.allocate_takes hfind hfree]
  refine ⟨by simp, ?_, by simp, (hdropped.mono (by simp)).trans ((State.judgeLow_same _).mono (by simp))⟩
  rw [Store.find, State.judgeLow_dir]
  exact (State.updEntry_find _ _ (fun _ => by rfl)).trans (congrArg (Option.map _) hfind)

theorem State.appendByte_allocates {s : State} {id g : Nat} {rest : List Nat} {e : Entry} (hfind : s.store.find id = some e)
    (hfree : s.store.free = g :: rest) (hneeds : e.granules.length * 1024 ≤ e.length) (b : Byte) :
    s.appendByte id b = ((s.allocate id).1.putByte id b, true) := by
  have h : e.needsGranule = true := by simpa [Entry.needsGranule, Config.granuleBytes] using hneeds
  simp [State.appendByte, hfind, h, State.allocate_takes hfind hfree]

theorem State.appendByte_full {s : State} {id : Nat} {e : Entry} (hfind : s.store.find id = some e)
    (hfree : s.store.free = []) (hneeds : e.granules.length * 1024 ≤ e.length) (b : Byte) :
    s.appendByte id b = (s.storeAlert .full, false) := by
  have h : e.needsGranule = true := by simpa [Entry.needsGranule, Config.granuleBytes] using hneeds
  simp [State.appendByte, hfind, h, State.allocate_fails hfind hfree]

/-- R164: the first byte of a granule that has just been linked. -/
theorem Entry.address_addGranule {e : Entry} (g : Nat) (h : e.granules.length * 1024 = e.length) :
    (e.addGranule g).address e.length = g * 1024 := by
  have hdiv : e.length / 1024 = e.granules.length := by omega
  have hmod : e.length % 1024 = 0 := by omega
  simp [Entry.address, Config.granuleBytes, Entry.addGranule, hdiv, hmod, granuleAddress]

/-! ### WRITE CHUNK -/

/-- R171: a chunk to an ACTIVE WRITE. -/
theorem takeWriteChunk_eq {p : Port} {id n : Nat} {bytes : List Byte} {s u : State}
    (hmessage : (s.channel p).message = some id) (hwrite : (s.channel p).direction = .write)
    (hactive : (s.channel p).state = .active) (hlow : 1 ≤ bytes.length) (hhigh : bytes.length ≤ 128)
    (hbytes : State.writeBytes p id bytes s = (u, n)) : takeWriteChunk p bytes s = (u, ⟨.ok, [.u8 n]⟩) := by
  have hsize : ¬(bytes.length < 1 ∨ Config.chunkMax < bytes.length) := by
    simp only [Config.chunkMax]
    omega
  have hbusy : (s.channel p).busy = true := by simp [Transfer.busy, hactive]
  simp only [takeWriteChunk, if_neg hsize, hmessage, hwrite, hbusy, hbytes, reduceCtorEq, or_self, if_false, Bool.true_eq_false]

theorem State.writeBytes_one {p : Port} {id : Nat} {b : Byte} {s u : State} (hactive : (s.channel p).state = .active) {w : Bool}
    (h : s.writeByte p id b = (u, w)) : State.writeBytes p id [b] s = (u, if w = true then 1 else 0) := by
  cases w
  all_goals simp [State.writeBytes, hactive, h]

theorem writeChunk_fits {f : Frame} {id : Nat} {e : Entry} {s : State} {bytes : List Byte} (h : s.Takes f 0x57#8)
    (hmessage : (s.channel f.port).message = some id) (hwrite : (s.channel f.port).direction = .write)
    (hactive : (s.channel f.port).state = .active) (hfind : s.store.find id = some e) (hwf : Mem.wf s.store.mem = true)
    (hlow : 1 ≤ bytes.length) (hhigh : bytes.length ≤ 128) (hkind : e.kind ≠ .faxOut)
    (hgranule : e.length % 1024 + bytes.length ≤ 1024) (hroom : e.length + bytes.length ≤ e.granules.length * 1024) :
    ∃ t, exec (.writeChunk f bytes) s = .next t ∧
      (∀ k b, bytes[k]? = some b → Mem.read t.store.mem (e.address (e.length + k)) = b) ∧
      (∀ a, (∀ k, k < bytes.length → a ≠ e.address (e.length + k)) →
        Mem.read t.store.mem a = Mem.read s.store.mem a) ∧
      t.store.find id = some { e with length := e.length + bytes.length } ∧
      (t.channel f.port).offset = (s.channel f.port).offset + bytes.length ∧ (t.channel f.port).state = .active ∧
      Answered s t f.port 0x57#8 .ok [.u8 bytes.length] ∧
      SameBut [.directory, .memory, .transfer f.port, .outgoing f.port] s t := by
  obtain ⟨u, hwrites, hchunk⟩ := State.writeBytes_fits bytes hfind hkind hactive hwf hgranule hroom
  obtain ⟨t, hexec, hafter, hanswer, hsame⟩ := command_changes h
    (takeWriteChunk_eq hmessage hwrite hactive hlow hhigh hwrites) hchunk.frame (by simp)
  refine ⟨t, hexec, ?_, ?_, ?_, ?_, ?_, hanswer, hsame⟩
  · rw [hafter.store]
    exact hchunk.read
  · rw [hafter.store]
    exact hchunk.others
  · rw [hafter.store, hchunk.find]
  · rw [hafter.channel, hchunk.offset]
  · rw [hafter.channel, hchunk.state]

theorem writeChunk_allocates {f : Frame} {id g : Nat} {e : Entry} {s : State} {b : Byte} {rest : List Nat}
    (h : s.Takes f 0x57#8) (hmessage : (s.channel f.port).message = some id)
    (hwrite : (s.channel f.port).direction = .write) (hactive : (s.channel f.port).state = .active)
    (hfind : s.store.find id = some e) (hwf : Mem.wf s.store.mem = true) (hlength : e.granules.length * 1024 = e.length)
    (hfree : s.store.free = g :: rest) (hkind : e.kind ≠ .faxOut) :
    ∃ t, exec (.writeChunk f [b]) s = .next t ∧ t.store.free = rest ∧
      t.store.find id = some { e with granules := e.granules ++ [g], length := e.length + 1 } ∧
      Mem.read t.store.mem (g * 1024) = b ∧
      (∀ a, a ≠ g * 1024 → Mem.read t.store.mem a = Mem.read s.store.mem a) ∧
      Answered s t f.port 0x57#8 .ok [.u8 1] ∧
      SameBut [.directory, .memory, .freeList, .alerts .system, .alerts .panel, .notices .panel, .transfer f.port,
        .outgoing f.port] s t := by
  obtain ⟨hafree, hafind, hamem, hasame⟩ := State.allocated hfind hfree
  set u := (s.allocate id).1.putByte id b with hu
  set v := u.updChannel f.port (fun t => { t with offset := t.offset + 1 }) with hv
  have hufind : u.store.find id = some { e.addGranule g with length := e.length + 1 } := State.putByte_find hafind b
  have humem : u.store.mem = Mem.write s.store.mem (g * 1024) b := by
    rw [hu, State.putByte_mem hafind, hamem]
    exact congrArg (fun a => Mem.write s.store.mem a b) (Entry.address_addGranule g hlength)
  have hufree : u.store.free = rest := by rw [hu, State.putByte_found hafind]; exact hafree
  have hbyte : s.writeByte f.port id b = (v, true) := by
    unfold State.writeByte
    rw [State.appendByte_allocates hfind hfree hlength.le]
    have hvfind : v.store.find id = some { e.addGranule g with length := e.length + 1 } := by
      rw [hv, State.updChannel_store, hufind]
    exact congrArg (·, true) (State.followPageMark_other hvfind hkind b)
  have hsame : SameBut [.directory, .memory, .freeList, .alerts .system, .alerts .panel, .notices .panel, .transfer f.port] s v :=
    (hasame.mono (by simp)).trans (((State.putByte_same _ _ _).mono (by simp)).trans
      ((State.updChannel_same _ _ _).mono (by simp)))
  obtain ⟨t, hexec, hafter, hanswer, hframe⟩ := command_changes h
    (takeWriteChunk_eq hmessage hwrite hactive (by simp) (by simp) (State.writeBytes_one hactive hbyte)) hsame (by simp)
  have hstore : t.store = u.store := by rw [hafter.store, hv, State.updChannel_store]
  refine ⟨t, hexec, by rw [hstore, hufree], by rw [hstore, hufind]; rfl, ?_, fun a ha => ?_, hanswer, hframe⟩
  · rw [hstore, humem, Mem.read_write hwf, if_pos rfl]
  · rw [hstore, humem, Mem.read_write hwf, if_neg ha]

theorem writeChunk_full {f : Frame} {id : Nat} {e : Entry} {s : State} {b : Byte}
    (h : s.Takes f 0x57#8) (hmessage : (s.channel f.port).message = some id)
    (hwrite : (s.channel f.port).direction = .write) (hactive : (s.channel f.port).state = .active)
    (hfind : s.store.find id = some e) (hlength : e.granules.length * 1024 ≤ e.length) (hfree : s.store.free = []) :
    ∃ t, exec (.writeChunk f [b]) s = .next t ∧ (t.channel f.port).state = .full ∧
      (∀ p, (t.port p).alerts.full = true) ∧ Answered s t f.port 0x57#8 .ok [.u8 0] ∧
      SameBut [.transfer f.port, .alerts .system, .alerts .panel, .notices .panel, .outgoing f.port] s t := by
  set u := (s.storeAlert .full).updChannel f.port (fun t => { t with state := .full }) with hu
  have hbyte : s.writeByte f.port id b = (u, false) := by
    unfold State.writeByte
    rw [State.appendByte_full hfind hfree hlength]
  have hsame : SameBut [.transfer f.port, .alerts .system, .alerts .panel, .notices .panel] s u :=
    ((State.storeAlert_same _ _).mono (by simp)).trans ((State.updChannel_same _ _ _).mono (by simp))
  obtain ⟨t, hexec, hafter, hanswer, hframe⟩ := command_changes h
    (takeWriteChunk_eq hmessage hwrite hactive (by simp) (by simp) (State.writeBytes_one hactive hbyte)) hsame (by simp)
  refine ⟨t, hexec, ?_, fun p => ?_, hanswer, hframe⟩
  · rw [hafter.channel, hu, State.updChannel_channel]
  · have halerts : (u.port p).alerts = ((s.storeAlert .full).port p).alerts :=
      (State.updChannel_same _ f.port _) (.alerts p) (by simp) (by simp)
    rw [hafter.alerts, halerts, State.storeAlert_alerts]
    rfl

theorem writeChunk_pageEnd {f : Frame} {id : Nat} {e : Entry} {s : State}
    (h : s.Takes f 0x57#8) (hmessage : (s.channel f.port).message = some id)
    (hwrite : (s.channel f.port).direction = .write) (hactive : (s.channel f.port).state = .active)
    (hfind : s.store.find id = some e) (hwf : Mem.wf s.store.mem = true) (hkind : e.kind = .faxOut)
    (hmark : (s.channel f.port).mark = true) (hroom : e.length < e.granules.length * 1024) :
    ∃ t, exec (.writeChunk f [0x0C#8]) s = .next t ∧
      t.store.find id = some { e with length := e.length + 1, pageCount := e.pageCount + 1,
                                      pageTable := e.pageTable ++ [(s.channel f.port).pageStart] } ∧
      (t.channel f.port).mark = false ∧ (t.channel f.port).pageStart = (s.channel f.port).offset + 1 ∧
      (t.channel f.port).state = (if 32 ≤ e.pageCount + 1 then .full else .active) ∧
      Mem.read t.store.mem (e.address e.length) = 0x0C#8 ∧
      (∀ a, a ≠ e.address e.length → Mem.read t.store.mem a = Mem.read s.store.mem a) ∧
      Answered s t f.port 0x57#8 .ok [.u8 1] ∧
      SameBut [.directory, .memory, .transfer f.port, .outgoing f.port] s t := by
  set u := s.putByte id 0x0C#8 with hu
  set v := u.updChannel f.port (fun t => { t with offset := t.offset + 1 }) with hv
  set w := v.updEntry id (fun e => { e with pageCount := e.pageCount + 1,
                                            pageTable := e.pageTable ++ [(v.channel f.port).pageStart] }) with hw
  have hvchannel : v.channel f.port = { s.channel f.port with offset := (s.channel f.port).offset + 1 } := by
    rw [hv, State.updChannel_channel, hu, State.putByte_channel]
  have hvfind : v.store.find id = some { e with length := e.length + 1 } := by
    rw [hv, State.updChannel_store, hu, State.putByte_find hfind]
  have hwfind : w.store.find id = some { e with length := e.length + 1, pageCount := e.pageCount + 1,
                                                pageTable := e.pageTable ++ [(s.channel f.port).pageStart] } := by
    rw [hw, State.updEntry_find v id (fun _ => by rfl), hvfind, hvchannel]
    rfl
  have hpages : w.pagesOf id = e.pageCount + 1 := by simp [State.pagesOf, hwfind]
  have hfax : v.isFaxOut id = true := by simp [State.isFaxOut, hvfind, hkind]
  have hmarkv : (v.channel f.port).mark = true := by rw [hvchannel]; exact hmark
  have hfollow : v.followPageMark f.port id 0x0C#8 = v.pageMarkTaken f.port id := by
    rw [State.followPageMark, if_pos hfax, if_pos hmarkv, if_pos rfl]
  have hbyte : s.writeByte f.port id 0x0C#8 = (v.pageMarkTaken f.port id, true) := by
    rw [State.writeByte_fits hfind hroom, ← hu, ← hv, hfollow]
  have hchannel : (v.pageMarkTaken f.port id).channel f.port = { v.channel f.port with
      mark := false, pageStart := (v.channel f.port).offset,
      state := if Config.pagesMax ≤ w.pagesOf id then .full else (v.channel f.port).state } :=
    State.updChannel_channel w _ _
  have hstore : (v.pageMarkTaken f.port id).store = w.store := State.updChannel_store _ _ _
  have hmem : w.store.mem = Mem.write s.store.mem (e.address e.length) 0x0C#8 := by
    rw [← State.putByte_mem hfind]
    rfl
  have hsame : SameBut [.directory, .memory, .transfer f.port] s (v.pageMarkTaken f.port id) :=
    ((State.putByte_same _ _ _).mono (by simp)).trans (((State.updChannel_same _ _ _).mono (by simp)).trans
      (((State.updEntry_same _ _ _).mono (by simp)).trans ((State.updChannel_same w _ _).mono (by simp))))
  obtain ⟨t, hexec, hafter, hanswer, hframe⟩ := command_changes h
    (takeWriteChunk_eq hmessage hwrite hactive (by simp) (by simp) (State.writeBytes_one hactive hbyte)) hsame (by simp)
  have htstore : t.store = w.store := hafter.store.trans hstore
  refine ⟨t, hexec, by rw [htstore, hwfind], ?_, ?_, ?_, ?_, fun a ha => ?_, hanswer, hframe⟩
  · rw [hafter.channel, hchannel]
  · rw [hafter.channel, hchannel, hvchannel]
  · rw [hafter.channel, hchannel, hpages, hvchannel, hactive]
  · rw [htstore, hmem, Mem.read_write hwf, if_pos rfl]
  · rw [htstore, hmem, Mem.read_write hwf, if_neg ha]

/-- Settles O21: a chunk by induction on its bytes; a byte that needs a granule by the free list; the page-end mark. -/
theorem writeChunkStores : Obligations.WriteChunkStores :=
  fun _ _ _ _ h hmessage hwrite hactive hfind hwf =>
    ⟨fun _ hlow hhigh hkind hgranule hroom =>
      writeChunk_fits h hmessage hwrite hactive hfind hwf hlow hhigh hkind hgranule hroom,
     fun _ _ _ hlength hfree hkind => writeChunk_allocates h hmessage hwrite hactive hfind hwf hlength hfree hkind,
     fun _ hlength hfree => writeChunk_full h hmessage hwrite hactive hfind hlength hfree,
     fun hkind hmark hroom => writeChunk_pageEnd h hmessage hwrite hactive hfind hwf hkind hmark hroom⟩

end Sys2Proof.Machine
end

section
/-! PROOFS. The notice controllers (R180, R181). -/

namespace Sys2Proof.Machine

/-! ### The arbiter's choice (R181) -/

/-- R181: a source goes before another: it is more urgent, or as urgent and no later in the fixed order. -/
def Controller.Precedes (c : Controller) (x y : Source) : Prop :=
  c.priority x < c.priority y ∨ (c.priority x = c.priority y ∧ x.code ≤ y.code)

/-- R181: a choice among the sources of a list. -/
structure Controller.Chosen (c : Controller) (l : List Source) (best : Option Source) : Prop where
  mem : ∀ x, best = some x → x ∈ l ∧ c.deliverable x = true
  first : ∀ x, best = some x → ∀ y ∈ l, c.deliverable y = true → c.Precedes x y
  none : best = none → ∀ y ∈ l, c.deliverable y = false

/-- R181: a source that is not deliverable changes no choice. -/
theorem Controller.Chosen.skip {c : Controller} {l : List Source} {best : Option Source} {x : Source} (h : c.Chosen l best)
    (hx : c.deliverable x = false) : c.Chosen (l ++ [x]) best where
  mem y hy := ⟨List.mem_append_left _ (h.mem y hy).1, (h.mem y hy).2⟩
  first y hy z hz hd := by
    rcases List.mem_append.1 hz with hz | hz
    · exact h.first y hy z hz hd
    · rw [List.mem_singleton.1 hz, hx] at hd
      cases hd
  none hn y hy := by
    rcases List.mem_append.1 hy with hy | hy
    · exact h.none hn y hy
    · rw [List.mem_singleton.1 hy, hx]

/-- R181: a source later in the fixed order is chosen where it is more urgent. -/
theorem Controller.Chosen.better {c : Controller} {l : List Source} {best : Option Source} {x : Source}
    (h : c.Chosen l best) (hlater : ∀ y ∈ l, y.code ≤ x.code) : c.Chosen (l ++ [x]) (c.better best x) := by
  unfold Controller.better
  split
  · next hx =>
    cases best with
    | none =>
      refine ⟨fun y hy => ?_, fun y hy z hz hd => ?_, fun hn => by cases hn⟩
      · cases hy
        exact ⟨by simp, hx⟩
      · cases hy
        rcases List.mem_append.1 hz with hz | hz
        · rw [h.none rfl z hz] at hd
          cases hd
        · rw [List.mem_singleton.1 hz]
          exact .inr ⟨rfl, le_rfl⟩
    | some b =>
      obtain ⟨hb, hbd⟩ := h.mem b rfl
      dsimp only
      split
      · next hlt =>
        refine ⟨fun y hy => ?_, fun y hy z hz hd => ?_, fun hn => by cases hn⟩
        · cases hy
          exact ⟨by simp, hx⟩
        · cases hy
          rcases List.mem_append.1 hz with hz | hz
          · rcases h.first b rfl z hz hd with hbz | ⟨hbz, -⟩
            · exact .inl (hlt.trans hbz)
            · exact .inl (hbz ▸ hlt)
          · rw [List.mem_singleton.1 hz]
            exact .inr ⟨rfl, le_rfl⟩
      · next hge =>
        refine ⟨fun y hy => ?_, fun y hy z hz hd => ?_, fun hn => by cases hn⟩
        · cases hy
          exact ⟨List.mem_append_left _ hb, hbd⟩
        · cases hy
          rcases List.mem_append.1 hz with hz | hz
          · exact h.first b rfl z hz hd
          · rw [List.mem_singleton.1 hz]
            rcases Nat.lt_or_eq_of_le (Nat.le_of_not_lt hge) with hbx | hbx
            · exact .inl hbx
            · exact .inr ⟨hbx, hlater b hb⟩
  · next hx => exact h.skip (by simpa using hx)

/-- R181: the arbiter's fold over a list in the fixed order. -/
theorem Controller.foldl_chosen (c : Controller) (l : List Source) (h : l.Pairwise (fun x y => x.code ≤ y.code)) :
    c.Chosen l (l.foldl c.better none) := by
  induction l using List.reverseRecOn with
  | nil => exact ⟨fun _ hx => (by cases hx), fun _ hx => (by cases hx), fun _ _ hy => (by cases hy)⟩
  | append_singleton l x ih =>
    rw [List.pairwise_append] at h
    obtain ⟨hl, -, hlater⟩ := h
    rw [List.foldl_append]
    exact (ih hl).better fun y hy => hlater y hy x (by simp)

/-- R180: the list of the sources holds each of them. -/
theorem Source.mem_all (x : Source) : x ∈ Source.all := by cases x <;> decide

/-- Settles O23: by induction along the fixed order, what the fold holds is the first of the most urgent so far. -/
theorem arbiterChoosesMostUrgent : Obligations.ArbiterChoosesMostUrgent := by
  intro c
  have h := c.foldl_chosen Source.all (by decide)
  exact ⟨fun x hx => ⟨(h.mem x hx).2, fun y hy => h.first x hx y y.mem_all hy⟩, fun hn y => h.none hn y y.mem_all⟩

/-! ### The records of the sources (R180) -/

theorem SourceTable.get_set_same (t : SourceTable) (x : Source) (r : SourceRecord) : (t.set x r).get x = r := by
  cases x <;> rfl

theorem SourceTable.get_set_ne (t : SourceTable) {x y : Source} (h : y ≠ x) (r : SourceRecord) :
    (t.set x r).get y = t.get y := by
  cases x <;> cases y <;> first | rfl | exact absurd rfl h

/-- R177, R181: while a reply is owed no notice frame is begun; and the Panel Port's controller is its master's to serve. -/
theorem State.reply_deliver_notices (u : State) (p : Port) (code : Byte) (r : Reply) :
    ((u.reply p code r).deliverSystem.port p).notices = (u.port p).notices := by
  cases p with
  | panel => simp [State.port, PerPort.get]
  | system =>
    have howed : ¬(u.reply .system code r).canBeginNotice := by
      rintro ⟨-, -, -, hout, -⟩
      simp [State.reply, State.send] at hout
    rw [State.deliverSystem, if_neg howed]
    rfl

@[simp] theorem State.updNotices_port (s : State) (p : Port) (g : Controller → Controller) :
    ((s.updNotices p g).port p).notices = g (s.port p).notices := by
  simp [State.updNotices]

theorem State.updNotices_same (s : State) (p : Port) (g : Controller → Controller) :
    SameBut [.notices p] s (s.updNotices p g) := by
  cases p
  all_goals
    unfold State.updNotices
    exact .of_parts (by simp)

/-- R180: a command that changes its port's controller. -/
theorem command_notices {f : Frame} {code : Byte} {s : State} {body : State → State × Reply} {r : Reply}
    {g : Controller → Controller} (h : s.Takes f code) (hbody : body s = (s.updNotices f.port g, r)) :
    ∃ t, command f code s body = .next t ∧ (t.port f.port).notices = g (s.port f.port).notices ∧
      Answered s t f.port code r.status r.results ∧ SameBut [.notices f.port, .outgoing f.port] s t := by
  have hsame := s.updNotices_same f.port g
  refine ⟨_, command_does h hbody, ?_, hsame.answered f.port code r (by simp), hsame.reply _ _ _ (by simp)⟩
  rw [State.reply_deliver_notices, State.updNotices_port]

/-- R178: TAKE NOTICE is taken on the Panel Port only. -/
theorem takes_takeNotice {f : Frame} {s : State} (h : s.Takes f 0x70#8) : f.port = .panel := by
  cases hp : f.port with
  | panel => rfl
  | system =>
    obtain ⟨-, -, -, hknows, -⟩ := h
    rw [hp] at hknows
    cases hknows

/-- R184: the code of a flag is read back. -/
theorem flagOf_code (m : Bool) : flagOf (BitVec.ofNat 8 (flagCode m)) = some m := by
  cases m <;> rfl

/-- Settles O24: each command changes its own port's controller. -/
theorem noticesServed : Obligations.NoticesServed := by
  refine ⟨fun f x s h hchoice => ?_, fun f s h hchoice => ?_,
    fun f s h => command_notices h (g := fun c => { c with stack := c.stack.tail }) (r := .plain .ok)
      (body := takeNoticeDone f.port) rfl,
    fun f source x s h hcode hallowed => ?_, fun f source x m s h hcode => ?_⟩
  · have hpanel := takes_takeNotice h
    have hbody : takeTakeNotice f.port s = (s.updNotices f.port (fun c => c.deliver x),
        ⟨.ok, [.u8 x.code, .u8 ((s.notices f.port).mergeOf x)]⟩) := by
      have hx : (s.notices f.port).choice = some x := by rw [hpanel]; exact hchoice
      simp only [takeTakeNotice, hx]
    obtain ⟨t, hexec, hnotices, hanswer, hsame⟩ := command_notices h hbody
    rw [hpanel] at hnotices hanswer hsame
    have hdelivered : t.ports.panel.notices = s.ports.panel.notices.deliver x := hnotices
    refine ⟨t, hexec, by rw [hdelivered]; rfl, ?_, ?_, fun y hy => ?_, hanswer, hsame⟩
    · rw [hdelivered, Controller.deliver, SourceTable.get_set_same]
    · rw [hdelivered, Controller.deliver, SourceTable.get_set_same]
    · rw [hdelivered, Controller.deliver, SourceTable.get_set_ne _ hy]
  · have hpanel := takes_takeNotice h
    have hbody : takeTakeNotice f.port s = (s, ⟨.ok, [.u8 0, .absent 1]⟩) := by
      have hx : (s.notices f.port).choice = none := by rw [hpanel]; exact hchoice
      simp only [takeTakeNotice, hx]
    obtain ⟨t, hexec, hanswer, hsame⟩ := command_answers h hbody
    rw [hpanel] at hanswer hsame
    exact ⟨t, hexec, hanswer, hsame⟩
  · have hbody : takeClearNotice f.port source s = (s.updNotices f.port (fun c => c.clear x), .plain .ok) := by
      have hclear : clearRefused f.port x = false := by
        simpa [clearRefused] using hallowed
      simp [takeClearNotice, hcode, hclear]
    obtain ⟨t, hexec, hnotices, hanswer, hsame⟩ := command_notices h hbody
    refine ⟨t, hexec, ?_, fun y hy => ?_, hanswer, hsame⟩
    · rw [hnotices, Controller.clear, SourceTable.get_set_same]
    · rw [hnotices, Controller.clear, SourceTable.get_set_ne _ hy]
  · have hbody : takeMask f.port [(source, BitVec.ofNat 8 (flagCode m))] s =
        (s.updNotices f.port (fun c => c.mask x m), ⟨.ok, ((s.port f.port).notices.mask x m).items⟩) := by
      simp only [takeMask, maskEntries, hcode, flagOf_code]
      rfl
    obtain ⟨t, hexec, hnotices, hanswer, hsame⟩ := command_notices h hbody
    refine ⟨t, hexec, ?_, fun y hy => ?_, by rw [hnotices]; exact hanswer, hsame⟩
    · rw [hnotices, Controller.mask, SourceTable.get_set_same]
    · rw [hnotices, Controller.mask, SourceTable.get_set_ne _ hy]

end Sys2Proof.Machine
end

section
/-! PROOFS. GO DATA, and what leaves the System Port (R176, R177, R179, R181). -/

namespace Sys2Proof.Machine

/-! ### The data state is entered (R129, R179) -/

/-- R129: T5 is loaded with the guard. -/
theorem State.loadT5_runs (s : State) : s.loadT5.timers.e5.Runs .spt s.settings.escapeGuardMs .portByte :=
  ⟨rfl, rfl, rfl, rfl, rfl⟩

/-- R127, R129, R179: what the entry of a DATA call leaves. -/
theorem State.enterData_data {s : State} (hjob : s.ccu.call.job = .data) :
    s.enterData.sys = { s.sys with
      data := true, entryDue := false, goDataDue := false, assembler := [], lateByte := false, escape := .waiting,
      cts := decide (s.link.outbound.length < 768) } ∧
    s.enterData.timers.e5.Runs .spt s.settings.escapeGuardMs .portByte ∧ s.enterData.ports = s.ports ∧
    SameBut [.systemPort, .timer 5] s s.enterData := by
  have heq : s.enterData = { s.loadT5 with
      sys := { s.sys with data := true, entryDue := false, goDataDue := false, assembler := [], lateByte := false,
                          escape := .waiting, cts := decide (s.link.outbound.length < 768) } } := if_pos hjob
  rw [heq]
  exact ⟨rfl, s.loadT5_runs, rfl, .of_parts (by simp)⟩

/-- R144, R179: what the entry of another call leaves. -/
theorem State.enterData_other {s : State} (hjob : s.ccu.call.job ≠ .data) :
    s.enterData.sys = { s.sys with
      data := true, entryDue := false, goDataDue := false, assembler := [], lateByte := false,
      cts := if s.fax.role = some .receiver then true else decide (s.link.outbound.length < 768) } ∧
    SameBut [.systemPort] s s.enterData := by
  have heq : s.enterData = { s with
      sys := { s.sys with data := true, entryDue := false, goDataDue := false, assembler := [], lateByte := false,
                          cts := if s.fax.role = some .receiver then true
                                 else decide (s.link.outbound.length < 768) } } := if_neg hjob
  rw [heq]
  exact ⟨rfl, .of_parts (by simp)⟩

/-- R181: the arbiter's delivery at the end of a step leaves the System Port but for its notice frame. -/
theorem State.deliverSystem_sys (s : State) : ∃ n, s.deliverSystem.sys = { s.sys with notice := n } := by
  obtain ⟨c, n, h⟩ := s.deliverSystem_eq
  exact ⟨n, by rw [h]⟩

/-- R129, R179: the port has entered the data state of a DATA call. -/
structure State.InData (t s : State) : Prop where
  data : t.sys.data = true
  entry : t.sys.entryDue = false
  go : t.sys.goDataDue = false
  escape : t.sys.escape = .waiting
  assembler : t.sys.assembler = []
  cts : t.sys.cts = decide (s.link.outbound.length < 768)
  guard : t.timers.e5.Runs .spt s.settings.escapeGuardMs .portByte

theorem State.enterData_inData {s : State} (hjob : s.ccu.call.job = .data) : s.enterData.deliverSystem.InData s := by
  obtain ⟨hsys, hguard, -, -⟩ := State.enterData_data hjob
  obtain ⟨n, hn⟩ := s.enterData.deliverSystem_sys
  rw [hsys] at hn
  exact ⟨by rw [hn], by rw [hn], by rw [hn], by rw [hn], by rw [hn], by rw [hn], by simpa using hguard⟩

/-! ### GO DATA and REPLY_SENT -/

theorem goData_taken {f : Frame} {s : State} (h : s.Takes f 0x78#8) (hactive : s.ccu.call.active = true)
    (hjob : s.ccu.call.job = .data) (hholder : s.ccu.call.holder = some f.port.party)
    (hmode : s.link.mode = .linked ∨ s.link.mode = .direct) :
    ∃ t, exec (.goData f) s = .next t ∧ t.sys.goDataDue = true ∧ t.sys.data = s.sys.data ∧
      Answered s t f.port 0x78#8 .ok [] ∧ SameBut [.systemPort, .outgoing f.port] s t := by
  have honline : s.link.mode.online = true := by rcases hmode with hmode | hmode <;> rw [hmode] <;> rfl
  have hbody : takeGoData f.port s = ({ s with sys.goDataDue := true }, .plain .ok) := by
    simp [takeGoData, hactive, hjob, hholder, honline]
  have hsame : SameBut [.systemPort] s { s with sys.goDataDue := true } := .of_parts (by simp)
  refine ⟨_, command_does h hbody, by simp, by simp, hsame.answered _ _ _ (by simp), hsame.reply _ _ _ (by simp)⟩

/-- R177: an answer has left the System Port. -/
def State.answerLeft (s : State) (rest : List Answer) : State :=
  { s with ports.system.outgoing := rest, sys.lastByte := false }

theorem State.answerLeft_same (s : State) (rest : List Answer) :
    SameBut [.outgoing .system, .systemPort] s (s.answerLeft rest) := by
  unfold State.answerLeft
  exact .of_parts (by simp)

theorem exec_replySent {s : State} {a : Answer} {rest : List Answer} (hout : s.ports.system.outgoing = a :: rest)
    (hleaves : s.replyLeaves) : exec .replySent s = finish ((s.answerLeft rest).afterReply a.kind) := by
  show execReplySent s = _
  simp only [execReplySent, hout, if_pos hleaves]
  rfl

theorem replySent_enters {s : State} {a : Answer} {rest : List Answer} (hout : s.ports.system.outgoing = a :: rest)
    (hleaves : s.replyLeaves) (hdue : s.sys.goDataDue = true) (hkind : a.kind = .reply) (hjob : s.ccu.call.job = .data) :
    ∃ t, exec .replySent s = .next t ∧ t.ports.system.outgoing = rest ∧ t.InData s ∧
      SameBut [.outgoing .system, .systemPort, .timer 5] s t := by
  have hafter : (s.answerLeft rest).afterReply a.kind = (s.answerLeft rest).enterData := if_pos ⟨hdue, hkind⟩
  obtain ⟨-, -, hports, hsame⟩ := State.enterData_data (s := s.answerLeft rest) hjob
  have hin := State.enterData_inData (s := s.answerLeft rest) hjob
  rw [exec_replySent hout hleaves, hafter]
  refine ⟨_, rfl, ?_, ⟨hin.data, hin.entry, hin.go, hin.escape, hin.assembler, hin.cts, hin.guard⟩, ?_⟩
  · rw [State.deliverSystem_system_outgoing, hports]
    rfl
  · exact (((s.answerLeft_same rest).mono (by simp)).trans (hsame.mono (by simp))).finish

theorem replySent_stays {s : State} {a : Answer} {rest : List Answer} (hout : s.ports.system.outgoing = a :: rest)
    (hleaves : s.replyLeaves) (hdue : s.sys.goDataDue = false) :
    ∃ t, exec .replySent s = .next t ∧ t.ports.system.outgoing = rest ∧ t.sys.data = false ∧
      SameBut [.outgoing .system, .systemPort] s t := by
  have hafter : (s.answerLeft rest).afterReply a.kind = s.answerLeft rest :=
    if_neg fun hc => absurd hc.1 (by simp [State.answerLeft, hdue])
  have hdata : s.sys.data = false := hleaves.1
  rw [exec_replySent hout hleaves, hafter]
  exact ⟨_, rfl, by simp [State.answerLeft], by simpa [State.answerLeft] using hdata, (s.answerLeft_same rest).finish⟩

/-! ### NOTICE_FRAME_SENT and DATA_STATE_ENTRY -/

/-- R181: the notice frame of the System Port has left. -/
def State.noticeLeft (s : State) : State := { s with sys.notice := none, sys.lastByte := false }

theorem State.noticeLeft_same (s : State) : SameBut [.systemPort] s s.noticeLeft := by
  unfold State.noticeLeft
  exact .of_parts (by simp)

theorem exec_noticeFrameSent {s : State} {n : Source × Nat} (hnotice : s.sys.notice = some n) (hready : s.sys.ready = true)
    (hrts : s.sys.rts = true) : exec .noticeFrameSent s = finish s.noticeLeft := by
  show execNoticeFrameSent s = _
  have hsome : s.sys.notice.isSome = true := by rw [hnotice]; rfl
  have hsend : s.sys.canSend = true := by simp [SystemPort.canSend, hrts]
  rw [execNoticeFrameSent, if_pos ⟨hsome, hready, hsend⟩]
  rfl

/-- R181: with nothing to choose the arbiter begins no notice frame. -/
theorem State.deliverSystem_none {s : State} (h : s.ports.system.notices.choice = none) : s.deliverSystem = s := by
  unfold State.deliverSystem
  rw [h]
  exact ite_self s

/-- R181: where a notice frame may begin, the chosen source is delivered. -/
theorem State.deliverSystem_some {s : State} {x : Source} (hbegin : s.canBeginNotice)
    (h : s.ports.system.notices.choice = some x) :
    s.deliverSystem = { s with
      ports.system.notices := s.ports.system.notices.deliver x,
      sys.notice := some (x, s.ports.system.notices.mergeOf x) } := by
  rw [State.deliverSystem, if_pos hbegin, h]

theorem noticeFrameSent_next {s : State} {n : Source × Nat} {x : Source} (hnotice : s.sys.notice = some n)
    (hready : s.sys.ready = true) (hrts : s.sys.rts = true) (hchoice : s.ports.system.notices.choice = some x)
    (hlow : s.power.low = false) (hdata : s.sys.data = false) (hentry : s.sys.entryDue = false)
    (hout : s.ports.system.outgoing = []) :
    ∃ t, exec .noticeFrameSent s = .next t ∧ t.sys.notice = some (x, (s.ports.system.notices.sources.get x).merge) ∧
      (t.ports.system.notices.sources.get x).pending = false ∧
      t.ports.system.notices.stack = (x, s.ports.system.notices.priority x) :: s.ports.system.notices.stack ∧
      SameBut [.systemPort] s t := by
  have hbegin : s.noticeLeft.canBeginNotice := ⟨hlow, hdata, hentry, hout, rfl, hready, hrts⟩
  have hdelivered := State.deliverSystem_some hbegin hchoice
  refine ⟨_, exec_noticeFrameSent hnotice hready hrts, ?_, ?_, ?_, s.noticeLeft_same.finish⟩ <;> rw [hdelivered]
  · rfl
  · exact congrArg SourceRecord.pending (SourceTable.get_set_same _ _ _)
  · rfl

theorem exec_dataStateEntry {s : State} (hentry : s.sys.entryDue = true) (hout : s.ports.system.outgoing = [])
    (hnotice : s.sys.notice = none) : exec .dataStateEntry s = finish s.enterData := by
  show execDataStateEntry s = _
  rw [execDataStateEntry, if_pos ⟨hentry, hout, hnotice⟩]

theorem dataStateEntry_data {s : State} (hentry : s.sys.entryDue = true) (hout : s.ports.system.outgoing = [])
    (hnotice : s.sys.notice = none) (hjob : s.ccu.call.job = .data) :
    ∃ t, exec .dataStateEntry s = .next t ∧ t.InData s ∧ SameBut [.systemPort, .timer 5] s t := by
  obtain ⟨-, -, -, hsame⟩ := State.enterData_data hjob
  exact ⟨_, exec_dataStateEntry hentry hout hnotice, State.enterData_inData hjob, hsame.finish⟩

theorem dataStateEntry_fax {s : State} (hentry : s.sys.entryDue = true) (hout : s.ports.system.outgoing = [])
    (hnotice : s.sys.notice = none) (hjob : s.ccu.call.job = .fax) :
    ∃ t, exec .dataStateEntry s = .next t ∧ t.sys.data = true ∧ t.sys.entryDue = false ∧ t.sys.assembler = [] ∧
      (s.fax.role = some .receiver → t.sys.cts = true) ∧ SameBut [.systemPort] s t := by
  obtain ⟨hsys, hsame⟩ := State.enterData_other (s := s) (by simp [hjob])
  obtain ⟨n, hn⟩ := s.enterData.deliverSystem_sys
  rw [hsys] at hn
  exact ⟨_, exec_dataStateEntry hentry hout hnotice, by rw [hn], by rw [hn], by rw [hn],
    fun hrole => by rw [hn]; exact if_pos hrole, hsame.finish⟩

/-- Settles O25: GO DATA and the reply's leaving; the notice frame's leaving, by the arbiter's next choice; the entry that has
waited, by the job. -/
theorem dataStateEntered : Obligations.DataStateEntered := by
  refine ⟨⟨fun f s h hactive hjob hholder hmode => goData_taken h hactive hjob hholder hmode, fun a rest s hout hleaves =>
    ⟨fun hdue hkind hjob => ?_, fun hdue => replySent_stays hout hleaves hdue⟩⟩,
    fun n s hnotice hready hrts => ⟨fun hchoice => ?_, fun x hchoice hlow hdata hentry hout =>
      noticeFrameSent_next hnotice hready hrts hchoice hlow hdata hentry hout⟩,
    fun s hentry hout hnotice => ⟨fun hjob => ?_, fun hjob => dataStateEntry_fax hentry hout hnotice hjob⟩⟩
  · obtain ⟨t, hexec, hrest, hin, hsame⟩ := replySent_enters hout hleaves hdue hkind hjob
    exact ⟨t, hexec, hrest, hin.data, hin.go, hin.escape, hin.assembler, hin.cts, hin.guard, hsame⟩
  · refine ⟨_, exec_noticeFrameSent hnotice hready hrts, ?_, ?_, s.noticeLeft_same.finish⟩ <;>
      rw [State.deliverSystem_none (s := s.noticeLeft) hchoice] <;> rfl
  · obtain ⟨t, hexec, hin, hsame⟩ := dataStateEntry_data hentry hout hnotice hjob
    exact ⟨t, hexec, hin.data, hin.entry, hin.escape, hin.assembler, hin.cts, hin.guard, hsame⟩

end Sys2Proof.Machine
end

section
/-! PROOFS. Frames that are not taken, and the Panel Port's read periods (R176 to R178). -/

namespace Sys2Proof.Machine

/-! ### The frame assembler (R177) -/

/-- R177: the length field stands in the first three bytes. -/
theorem lengthField_append {bytes : List Byte} (h : 3 ≤ bytes.length) (more : List Byte) :
    lengthField (bytes ++ more) = lengthField bytes := by
  match bytes, h with
  | _ :: _ :: _ :: _, _ => rfl

theorem lengthField_take {bytes : List Byte} (h : 3 ≤ bytes.length) : lengthField (bytes.take 3) = lengthField bytes := by
  match bytes, h with
  | _ :: _ :: _ :: _, _ => rfl

theorem lengthBad_iff (bytes : List Byte) : lengthBad bytes = true ↔ lengthField bytes < 5 ∨ 255 < lengthField bytes := by
  simp [lengthBad]

theorem frameBad_iff (bytes : List Byte) :
    frameBad bytes = true ↔
      lengthField bytes < 5 ∨ 255 < lengthField bytes ∨ bytes.length ≠ lengthField bytes ∨ byteSum bytes ≠ 0#8 := by
  simp [frameBad, lengthBad, or_assoc]

/-- R177: a bad length is known once it has come. -/
theorem systemFrame_badLength {bytes : List Byte} (h : 3 ≤ bytes.length)
    (hbad : lengthField bytes < 5 ∨ 255 < lengthField bytes) : systemFrame bytes = some (bytes.take 3) := by
  rw [systemFrame, if_neg (Nat.not_lt.2 h), if_pos ((lengthBad_iff bytes).2 hbad)]

/-- R177: a frame with a good length is complete with its last byte. -/
theorem systemFrame_complete {bytes : List Byte} (hlow : 5 ≤ lengthField bytes) (hhigh : lengthField bytes ≤ 255)
    (hlength : bytes.length = lengthField bytes) (more : List Byte) : systemFrame (bytes ++ more) = some bytes := by
  have hfield := lengthField_append (bytes := bytes) (by omega) more
  have hgood : ¬lengthBad (bytes ++ more) = true := by
    rw [lengthBad_iff, hfield]
    omega
  rw [systemFrame, if_neg (by rw [List.length_append]; omega), if_neg hgood, hfield,
    if_neg (by rw [List.length_append]; omega), ← hlength, List.take_left]

/-- R177: with bytes still to come there is no frame. -/
theorem systemFrame_short {bytes : List Byte}
    (h : bytes.length < 3 ∨ (5 ≤ lengthField bytes ∧ lengthField bytes ≤ 255 ∧ bytes.length < lengthField bytes)) :
    systemFrame bytes = none := by
  unfold systemFrame
  rcases h with h | ⟨hlow, hhigh, hlength⟩
  · rw [if_pos h]
  · have hgood : ¬lengthBad bytes = true := by
      rw [lengthBad_iff]
      omega
    by_cases hthree : bytes.length < 3
    · rw [if_pos hthree]
    · rw [if_neg hthree, if_neg hgood, if_pos hlength]

/-! ### BAD_FRAME (R177) -/

theorem State.send_deliver_outgoing (s : State) (p : Port) (a : Answer) :
    ((s.send p a).deliverSystem.port p).outgoing = (s.port p).outgoing ++ [a] := by
  cases p <;> simp [State.send, State.port, PerPort.get]

theorem exec_badFrame {p : Port} {bytes frame : List Byte} {s : State} (hdeaf : s.deaf p = false)
    (hlead : bytes.head? = some 0xC3#8) (hframe : assembled p bytes = some frame) (hbad : frameBad frame = true) :
    exec (.badFrame p bytes) s = finish ((s.discardFrame p).send p ⟨.badFrame, .badFrame, echoedCode frame, []⟩) := by
  show execBadFrame p bytes s = _
  rw [execBadFrame, if_pos ⟨hdeaf, hlead⟩, hframe]
  exact congrArg finish (if_pos hbad)

theorem badFrame_panel {bytes : List Byte} {s : State} (hdeaf : s.deaf .panel = false) (hlead : bytes.head? = some 0xC3#8)
    (hbad : lengthField bytes < 5 ∨ 255 < lengthField bytes ∨ bytes.length ≠ lengthField bytes ∨ byteSum bytes ≠ 0#8) :
    ∃ t, exec (.badFrame .panel bytes) s = .next t ∧
      t.ports.panel.outgoing =
        s.ports.panel.outgoing ++ [⟨.badFrame, .badFrame, (bytes[3]?).getD Config.noCodeEcho, []⟩] ∧
      SameBut [.outgoing .panel] s t :=
  ⟨_, exec_badFrame hdeaf hlead rfl ((frameBad_iff bytes).2 hbad), State.send_deliver_outgoing s .panel _,
    (s.send_same .panel _).finish⟩

theorem badFrame_system {bytes frame : List Byte} {s : State} (hdeaf : s.deaf .system = false)
    (hlead : bytes.head? = some 0xC3#8) (hframe : systemFrame bytes = some frame) (hbad : frameBad frame = true) :
    ∃ t, exec (.badFrame .system bytes) s = .next t ∧
      t.ports.system.outgoing = s.ports.system.outgoing ++ [⟨.badFrame, .badFrame, echoedCode frame, []⟩] ∧
      t.sys.assembler = [] ∧ SameBut [.outgoing .system, .systemPort] s t := by
  have hdiscard : SameBut [.systemPort] s (s.discardFrame .system) := by
    unfold State.discardFrame
    exact .of_parts (by simp)
  refine ⟨_, exec_badFrame hdeaf hlead hframe hbad, State.send_deliver_outgoing (s.discardFrame .system) .system _, ?_,
    ((hdiscard.mono (by simp)).trans ((State.send_same _ _ _).mono (by simp))).finish⟩
  rw [deliverSystem_assembler]
  rfl

theorem badFrame_incomplete {bytes : List Byte} {s : State} (hdeaf : s.deaf .system = false)
    (hlead : bytes.head? = some 0xC3#8) (hframe : systemFrame bytes = none) :
    ∃ t, exec (.badFrame .system bytes) s = .next t ∧ SameBut [] s t := by
  refine ⟨s.deliverSystem, ?_, (SameBut.refl [] s).finish⟩
  show execBadFrame .system bytes s = _
  rw [execBadFrame, if_pos ⟨hdeaf, hlead⟩, assembled, hframe]
  rfl

/-- R177: a frame whose length is bad has not reached its command code. -/
theorem badFrame_badLength {bytes : List Byte} {s : State} (hdeaf : s.deaf .system = false)
    (hlead : bytes.head? = some 0xC3#8) (hthree : 3 ≤ bytes.length)
    (hbad : lengthField bytes < 5 ∨ 255 < lengthField bytes) :
    ∃ t, exec (.badFrame .system bytes) s = .next t ∧
      t.ports.system.outgoing = s.ports.system.outgoing ++ [⟨.badFrame, .badFrame, Config.noCodeEcho, []⟩] ∧
      t.sys.assembler = [] ∧ SameBut [.outgoing .system, .systemPort] s t := by
  have hframe : frameBad (bytes.take 3) = true := by
    rw [frameBad_iff, lengthField_take hthree]
    exact hbad.imp_right .inl
  have hcode : echoedCode (bytes.take 3) = Config.noCodeEcho := by simp [echoedCode]
  have h := badFrame_system hdeaf hlead (systemFrame_badLength hthree hbad) hframe
  rwa [hcode] at h

theorem badFrame_badCheck {bytes more : List Byte} {s : State} (hdeaf : s.deaf .system = false)
    (hlead : bytes.head? = some 0xC3#8) (hlow : 5 ≤ lengthField bytes) (hhigh : lengthField bytes ≤ 255)
    (hlength : bytes.length = lengthField bytes) (hsum : byteSum bytes ≠ 0#8) :
    ∃ t, exec (.badFrame .system (bytes ++ more)) s = .next t ∧
      t.ports.system.outgoing =
        s.ports.system.outgoing ++ [⟨.badFrame, .badFrame, (bytes[3]?).getD Config.noCodeEcho, []⟩] ∧
      t.sys.assembler = [] ∧ SameBut [.outgoing .system, .systemPort] s t := by
  have hhead : (bytes ++ more).head? = some 0xC3#8 := by
    cases bytes with
    | nil => cases hlead
    | cons b rest => exact hlead
  exact badFrame_system hdeaf hhead (systemFrame_complete hlow hhigh hlength more)
    ((frameBad_iff bytes).2 (.inr (.inr (.inr hsum))))

/-! ### FRAME_WHILE_REPLY_OWED and UNKNOWN_COMMAND (R177, R178) -/

theorem frameWhileReplyOwed_busy {p : Port} (code : Byte) {s : State} (hdeaf : s.deaf p = false)
    (hoccupied : s.occupied p = true) :
    ∃ t, exec (.frameWhileReplyOwed p code) s = .next t ∧
      (t.port p).outgoing = (s.port p).outgoing ++ (if s.busyWaits p = true then [] else [⟨.busy, .busy, code, []⟩]) ∧
      SameBut [.outgoing p] s t := by
  have hexec : exec (.frameWhileReplyOwed p code) s = finish (s.busyAnswer p code) :=
    congrArg finish (if_pos ⟨hdeaf, hoccupied⟩)
  by_cases hbusy : s.busyWaits p = true
  · rw [hexec, State.busyAnswer, if_pos hbusy]
    refine ⟨_, rfl, ?_, (SameBut.refl [.outgoing p] s).finish⟩
    rw [if_pos hbusy, List.append_nil]
    cases p <;> simp [State.port, PerPort.get]
  · rw [hexec, State.busyAnswer, if_neg hbusy]
    exact ⟨_, rfl, by rw [if_neg hbusy, State.send_deliver_outgoing], (s.send_same p _).finish⟩

theorem unknownCommand_answered {p : Port} {code : Byte} {s : State} (hdeaf : s.deaf p = false)
    (hoccupied : s.occupied p = false) (hlow : s.power.low = false) (hknown : portKnows p code = false) :
    ∃ t, exec (.unknownCommand p code) s = .next t ∧ Answered s t p code .unknownCommand [] ∧
      SameBut [.outgoing p] s t := by
  have hexec : exec (.unknownCommand p code) s = finish (s.reply p code (.plain .unknownCommand)) := by
    show execUnknownCommand p code s = _
    simp [execUnknownCommand, takeFrame, hdeaf, hoccupied, hlow, hknown]
  exact ⟨_, hexec, State.reply_answers rfl, (s.reply_same p code _).finish⟩

/-! ### The read periods of the Panel Port (R176) -/

theorem panelReadPeriod_none (n : Nat) {s : State} (hout : s.ports.panel.outgoing = []) :
    ∃ t, exec (.panelReadPeriod n) s = .next t ∧ t.pan.lastPeriod = List.replicate n 0#8 ∧ SameBut [.panelPort] s t := by
  have hread : s.panelRead n = { s with pan.lastPeriod := List.replicate n 0#8 } := by
    simp [State.panelRead, State.panelUnread, hout, periodBytes]
  have hsame : SameBut [.panelPort] s { s with pan.lastPeriod := List.replicate n 0#8 } := .of_parts (by simp)
  refine ⟨_, congrArg finish hread, by simp, hsame.finish⟩

theorem panelReadPeriod_part {n : Nat} {a : Answer} {rest : List Answer} {s : State}
    (hout : s.ports.panel.outgoing = a :: rest) (hmore : s.pan.readBytes + n < a.bytes.length) :
    ∃ t, exec (.panelReadPeriod n) s = .next t ∧ t.pan.lastPeriod = (a.bytes.drop s.pan.readBytes).take n ∧
      t.pan.readBytes = s.pan.readBytes + n ∧ SameBut [.panelPort] s t := by
  have hunread : s.panelUnread = a.bytes.drop s.pan.readBytes := by simp [State.panelUnread, hout]
  have hlength : n < s.panelUnread.length := by rw [hunread, List.length_drop]; omega
  have hperiod : periodBytes s.panelUnread n = (a.bytes.drop s.pan.readBytes).take n := by
    rw [periodBytes, Nat.sub_eq_zero_of_le hlength.le, hunread, List.replicate_zero, List.append_nil]
  have hread : s.panelRead n = { s with
      pan.lastPeriod := (a.bytes.drop s.pan.readBytes).take n, pan.readBytes := s.pan.readBytes + n } := by
    simp only [State.panelRead, hout, if_neg (Nat.not_le.2 hlength), hperiod]
  have hsame : SameBut [.panelPort] s { s with
      pan.lastPeriod := (a.bytes.drop s.pan.readBytes).take n, pan.readBytes := s.pan.readBytes + n } :=
    .of_parts (by simp)
  refine ⟨_, congrArg finish hread, by simp, by simp, hsame.finish⟩

theorem panelReadPeriod_end {n : Nat} {a : Answer} {rest : List Answer} {s : State}
    (hout : s.ports.panel.outgoing = a :: rest) (hend : a.bytes.length ≤ s.pan.readBytes + n) :
    ∃ t, exec (.panelReadPeriod n) s = .next t ∧
      t.pan.lastPeriod = a.bytes.drop s.pan.readBytes ++ List.replicate (n - (a.bytes.length - s.pan.readBytes)) 0#8 ∧
      t.pan.readBytes = 0 ∧ t.ports.panel.outgoing = rest ∧ SameBut [.panelPort, .outgoing .panel] s t := by
  have hunread : s.panelUnread = a.bytes.drop s.pan.readBytes := by simp [State.panelUnread, hout]
  have hlength : s.panelUnread.length ≤ n := by rw [hunread, List.length_drop]; omega
  have hread : s.panelRead n = { s with
      pan.lastPeriod := periodBytes s.panelUnread n, ports.panel.outgoing := rest, pan.readBytes := 0 } := by
    simp only [State.panelRead, hout, if_pos hlength]
  have hsame : SameBut [.panelPort, .outgoing .panel] s { s with
      pan.lastPeriod := periodBytes s.panelUnread n, ports.panel.outgoing := rest, pan.readBytes := 0 } :=
    .of_parts (by simp)
  refine ⟨_, congrArg finish hread, ?_, by simp, by simp, hsame.finish⟩
  rw [State.deliverSystem_pan]
  simp only [periodBytes, List.take_of_length_le hlength]
  rw [hunread, List.length_drop]

/-- Settles O27: a bad frame by its port and its length; BUSY and UNKNOWN_COMMAND; a read period by what is still unread. -/
theorem portFrames : Obligations.PortFrames :=
  ⟨⟨fun _ _ hdeaf hlead hbad => badFrame_panel hdeaf hlead hbad,
    fun _ _ _ hdeaf hlead => ⟨fun hthree hbad => badFrame_badLength hdeaf hlead hthree hbad,
      fun hlow hhigh hlength hsum => badFrame_badCheck hdeaf hlead hlow hhigh hlength hsum,
      fun hshort => badFrame_incomplete hdeaf hlead (systemFrame_short hshort)⟩,
    fun _ code _ hdeaf hoccupied => frameWhileReplyOwed_busy code hdeaf hoccupied,
    fun _ _ _ hdeaf hoccupied hlow hknown => unknownCommand_answered hdeaf hoccupied hlow hknown⟩,
   fun n _ => ⟨fun _ _ hout hmore => panelReadPeriod_part hout hmore, fun _ _ hout hend => panelReadPeriod_end hout hend,
    fun hout => panelReadPeriod_none n hout⟩⟩

end Sys2Proof.Machine
end

section
/-! PROOFS. The log code (R84). -/

namespace Sys2Proof.Machine

/-- R84: the two bits below the leading one. -/
theorem logCode_pos {v : Nat} (h : v ≠ 0) : logCode v = 4 * v.log2 + v * 4 / 2 ^ v.log2 % 4 := if_neg h

/-- R84: the leading one and the two bits below it, as one number of three bits. -/
theorem leadingBits_bounds {v : Nat} (h : v ≠ 0) : 4 ≤ v * 4 / 2 ^ v.log2 ∧ v * 4 / 2 ^ v.log2 < 8 := by
  have hlow : 2 ^ v.log2 ≤ v := Nat.log2_self_le h
  have hhigh : v < 2 ^ (v.log2 + 1) := Nat.lt_log2_self
  rw [pow_succ] at hhigh
  have hpos : 0 < 2 ^ v.log2 := Nat.two_pow_pos _
  exact ⟨(Nat.le_div_iff_mul_le hpos).2 (by omega), (Nat.div_lt_iff_lt_mul hpos).2 (by omega)⟩

/-- R84: the code, with the leading one taken off. -/
theorem logCode_add_four {v : Nat} (h : v ≠ 0) : logCode v + 4 = 4 * v.log2 + v * 4 / 2 ^ v.log2 := by
  rw [logCode_pos h]
  have := leadingBits_bounds h
  omega

/-- R84: the place of the leading one and the two bits below it give the code. -/
theorem logCode_eq {k f v : Nat} (hf : f < 4) (hlow : (4 + f) * 2 ^ k ≤ 4 * v) (hhigh : 4 * v < (5 + f) * 2 ^ k) :
    logCode v = 4 * k + f := by
  have hpos : 0 < 2 ^ k := Nat.two_pow_pos k
  have hv : 2 ^ k ≤ v := by nlinarith
  have hv' : v < 2 ^ (k + 1) := by
    rw [pow_succ]
    nlinarith
  have hlog : v.log2 = k := (Nat.log2_eq_iff (by omega)).2 ⟨hv, hv'⟩
  have hbits : v * 4 / 2 ^ k = 4 + f :=
    Nat.div_eq_of_lt_le (by rw [Nat.mul_comm v]; exact hlow) (by rw [Nat.mul_comm v]; convert hhigh using 2; ring)
  have hcode := logCode_add_four (v := v) (by omega)
  rw [hlog, hbits] at hcode
  omega

theorem logCode_mono {v w : Nat} (h : v ≤ w) : logCode v ≤ logCode w := by
  rcases Nat.eq_zero_or_pos v with rfl | hv
  · exact Nat.zero_le _
  have hw : w ≠ 0 := by omega
  have hvcode := logCode_add_four hv.ne'
  have hwcode := logCode_add_four hw
  have hvbits := leadingBits_bounds hv.ne'
  have hwbits := leadingBits_bounds hw
  have hlog : v.log2 ≤ w.log2 := (Nat.le_log2 hw).2 ((Nat.log2_self_le hv.ne').trans h)
  rcases Nat.lt_or_eq_of_le hlog with hlt | heq
  · omega
  · have hbits : v * 4 / 2 ^ v.log2 ≤ w * 4 / 2 ^ w.log2 := by
      rw [heq]
      exact Nat.div_le_div_right (by omega)
    omega

/-- R84: a doubling moves the leading one by one place. -/
theorem log2_double {v : Nat} (h : v ≠ 0) : (2 * v).log2 = v.log2 + 1 := by
  have hhigh : v < 2 ^ (v.log2 + 1) := Nat.lt_log2_self
  refine (Nat.log2_eq_iff (by omega)).2 ⟨?_, ?_⟩
  · rw [pow_succ, Nat.mul_comm]
    exact Nat.mul_le_mul_left 2 (Nat.log2_self_le h)
  · rw [pow_succ 2 (v.log2 + 1), Nat.mul_comm 2 v]
    omega

theorem log2_double_succ {v : Nat} (h : v ≠ 0) : (2 * v + 1).log2 = v.log2 + 1 := by
  have hlow : 2 ^ v.log2 ≤ v := Nat.log2_self_le h
  have hhigh : v < 2 ^ (v.log2 + 1) := Nat.lt_log2_self
  refine (Nat.log2_eq_iff (by omega)).2 ⟨?_, ?_⟩
  · rw [pow_succ]
    omega
  · rw [pow_succ 2 (v.log2 + 1)]
    omega

theorem logCode_double {v : Nat} (h : v ≠ 0) : logCode (2 * v) = logCode v + 4 := by
  have hbits : 2 * v * 4 / 2 ^ (v.log2 + 1) = v * 4 / 2 ^ v.log2 := by
    rw [pow_succ, Nat.mul_comm (2 ^ v.log2) 2, Nat.mul_assoc]
    exact Nat.mul_div_mul_left _ _ (by omega)
  have hdouble := logCode_add_four (v := 2 * v) (by omega)
  rw [log2_double h, hbits] at hdouble
  have hcode := logCode_add_four h
  omega

theorem logCode_double_succ {v : Nat} (h : v ≠ 0) : logCode (2 * v + 1) < logCode v + 8 := by
  have hdouble := logCode_add_four (v := 2 * v + 1) (by omega)
  have hbits := leadingBits_bounds (v := 2 * v + 1) (by omega)
  rw [log2_double_succ h] at hdouble hbits
  have hcode := logCode_add_four h
  have := leadingBits_bounds h
  omega

/-- R84: the codes below 8 are those of 0 to 3. -/
theorem logCode_gaps (v : Nat) : logCode v ≠ 1 ∧ logCode v ≠ 2 ∧ logCode v ≠ 3 ∧ logCode v ≠ 5 ∧ logCode v ≠ 7 := by
  by_cases h : v < 4
  · interval_cases v <;> decide
  · have hcode := logCode_mono (v := 4) (w := v) (by omega)
    have hfour : logCode 4 = 8 := by decide
    omega

/-- Settles O43: the code is read off the leading bits, which rise with the argument and keep their place in a doubling. -/
theorem logCodeRises : Obligations.LogCodeRises :=
  ⟨fun _ _ _ hf hlow hhigh => logCode_eq hf hlow hhigh, rfl, fun _ _ h => logCode_mono h,
    fun _ h => logCode_double (by omega), fun _ h => logCode_double_succ (by omega), logCode_gaps,
    fun _ h => (logCode_mono h).trans (by decide)⟩

end Sys2Proof.Machine
end

section
/-! PROOFS. The ADPCM code (R149 to R151, R154). -/

namespace Sys2Proof.Machine

/-! ### The step and the index (R149) -/

theorem stepSize_grows {i : Nat} (h : i < 47) : stepSize (i + 1) = stepSize i + max 1 (stepSize i / 8) := by
  interval_cases i <;> decide

theorem stepSize_pos {i : Nat} (h : i ≤ 47) : 0 < stepSize i := by
  interval_cases i <;> decide

theorem stepIndex_le {i : Nat} (h : i ≤ 47) (m : Nat) : stepIndex i m ≤ 47 := by
  unfold stepIndex
  split <;> omega

/-- R149: the index moves by the magnitude. -/
theorem stepIndex_eq {i : Nat} (h : i ≤ 47) (m : Nat) :
    m < 8 → stepIndex i m = min 47 (match m with
      | 0 | 1 => i - 1 | 2 | 3 => i | 4 => i + 1 | 5 => i + 2 | 6 => i + 4
      | _ => i + 6) := by
  intro hm
  unfold stepIndex
  interval_cases m
  all_goals simp
  all_goals omega

/-! ### Decoding (R149) -/

theorem holdSample_bounds (v : Int) : -32768 ≤ holdSample v ∧ holdSample v ≤ 32767 := by
  unfold holdSample
  omega

/-- R149: the difference that a code stands for. -/
def codeStep (c : Codec) (code : Nat) : Nat := (2 * (code % 8) + 1) * stepSize c.index / 4

theorem rawPrediction_up {c : Codec} {code : Nat} (h : code < 8) : rawPrediction c code = c.predicted + codeStep c code :=
  if_neg (Nat.not_le.2 h)

theorem rawPrediction_down {c : Codec} {code : Nat} (h : 8 ≤ code) : rawPrediction c code = c.predicted - codeStep c code :=
  if_pos h

/-- R149: a rising code is held at the top of the range. -/
theorem decodeCode_up {c : Codec} {code : Nat} (h : code < 8) (hlow : -32768 ≤ c.predicted) :
    (decodeCode c code).predicted = min 32767 (c.predicted + codeStep c code) ∧
      (decodeClamps c code = true ↔ 32767 < c.predicted + codeStep c code) := by
  simp only [decodeCode, decodeClamps, rawPrediction_up h, holdSample, decide_eq_true_eq]
  omega

/-- R149: a falling code is held at the bottom of the range. -/
theorem decodeCode_down {c : Codec} {code : Nat} (h : 8 ≤ code) (hhigh : c.predicted ≤ 32767) :
    (decodeCode c code).predicted = max (-32768) (c.predicted - codeStep c code) ∧
      (decodeClamps c code = true ↔ c.predicted - codeStep c code < -32768) := by
  simp only [decodeCode, decodeClamps, rawPrediction_down h, holdSample, decide_eq_true_eq]
  omega

theorem decodeCode_follows {c : Codec} {code : Nat} (hindex : c.index ≤ 47) :
    (decodeCode c code).index ≤ 47 ∧ -32768 ≤ (decodeCode c code).predicted ∧ (decodeCode c code).predicted ≤ 32767 ∧
      (decodeCode c code).index =
        min 47 (match code % 8 with
          | 0 | 1 => c.index - 1 | 2 | 3 => c.index | 4 => c.index + 1 | 5 => c.index + 2 | 6 => c.index + 4
          | _ => c.index + 6) ∧
      (∀ d : Int, d = ((2 * (code % 8) + 1) * stepSize c.index / 4 : Nat) →
        -32768 ≤ c.predicted → c.predicted ≤ 32767 →
        (code < 8 → (decodeCode c code).predicted = min 32767 (c.predicted + d) ∧
          (decodeClamps c code = true ↔ 32767 < c.predicted + d)) ∧
        (8 ≤ code → (decodeCode c code).predicted = max (-32768) (c.predicted - d) ∧
          (decodeClamps c code = true ↔ c.predicted - d < -32768))) := by
  obtain ⟨hlow, hhigh⟩ := holdSample_bounds (rawPrediction c code)
  refine ⟨stepIndex_le hindex _, hlow, hhigh, stepIndex_eq hindex _ (Nat.mod_lt _ (by omega)), ?_⟩
  rintro d rfl hlow hhigh
  exact ⟨fun h => decodeCode_up h hlow, fun h => decodeCode_down h hhigh⟩

/-! ### Encoding (R150) -/

/-- R150: a code is its sign and its magnitude. -/
theorem encodeSample_parts (c : Codec) (x : Int) :
    encodeSample c x % 8 = min 7 (2 * (x - c.predicted).natAbs / stepSize c.index) ∧ encodeSample c x < 16 ∧
      (8 ≤ encodeSample c x ↔ x < c.predicted) := by
  simp only [encodeSample]
  have hmagnitude : min 7 (2 * (x - c.predicted).natAbs / stepSize c.index) ≤ 7 := min_le_left _ _
  generalize min 7 (2 * (x - c.predicted).natAbs / stepSize c.index) = m at hmagnitude ⊢
  split <;> omega

theorem encodeSample_follows {c : Codec} {x : Int} {m : Nat} (hindex : c.index ≤ 47) (hm : m = encodeSample c x % 8) :
    encodeSample c x < 16 ∧ (8 ≤ encodeSample c x ↔ x < c.predicted) ∧
      m * stepSize c.index ≤ 2 * (x - c.predicted).natAbs ∧
      (m < 7 → 2 * (x - c.predicted).natAbs < (m + 1) * stepSize c.index) ∧
      (x = c.predicted → encodeSample c x = 0) := by
  obtain ⟨hmagnitude, hlt, hsign⟩ := encodeSample_parts c x
  have hpos := stepSize_pos hindex
  rw [hmagnitude] at hm
  refine ⟨hlt, hsign, ?_, fun hseven => ?_, fun heq => ?_⟩
  · exact (Nat.le_div_iff_mul_le hpos).1 (hm ▸ min_le_right _ _)
  · refine (Nat.div_lt_iff_lt_mul hpos).1 ?_
    omega
  · simp [encodeSample, heq]

/-- R150, R151: a recorded sample is encoded, and the encoder takes its own decoding. -/
theorem recordSample_follows {o : VoiceOp} {x : Sample} (hmore : o.codesMade < o.maxCode) :
    (o.recordSample x).codec = decodeCode o.codec (encodeSample o.codec x.toInt) ∧
      (o.recordSample x).clamps = (if decodeClamps o.codec (encodeSample o.codec x.toInt) = true then bump 65535 o.clamps
        else o.clamps) ∧
      (∀ h, o.halfByte = some h →
        (o.recordSample x).waiting = o.waiting ++ [⟨h.before, h.code + encodeSample o.codec x.toInt⟩] ∧
          (o.recordSample x).halfByte = none) ∧
      (o.halfByte = none → (o.recordSample x).halfByte = some ⟨o.codec, 16 * encodeSample o.codec x.toInt⟩ ∧
        (o.recordSample x).waiting = o.waiting) := by
  simp only [VoiceOp.recordSample, if_neg (Nat.not_le.2 hmore)]
  cases hhalf : o.halfByte with
  | none => exact ⟨rfl, rfl, fun h hh => (by cases hh), fun _ => ⟨rfl, rfl⟩⟩
  | some h =>
    refine ⟨rfl, rfl, fun h' hh => ?_, fun hh => (by cases hh)⟩
    cases hh
    exact ⟨rfl, rfl⟩

/-! ### Playing (R151, R154) -/

theorem Entry.hasCodeFrom_iff (e : Entry) (o : Nat) :
    e.hasCodeFrom o = true ↔ max o (o / 1024 * 1024 + 4) < e.length := decide_eq_true_iff

theorem Store.byteOf_found {t : Store} {id : Nat} {e : Entry} (h : t.find id = some e) (o : Nat) :
    t.byteOf e.id o = t.entryByte e o := by
  have hid : e.id = id := by simpa using List.find?_some h
  simp only [Store.byteOf, hid, h]

/-- R154: past the entry's last code byte nothing is played. -/
theorem State.playSample_end {s : State} {id : Nat} {e : Entry} (hmessage : s.voice.op.message = some id)
    (hfind : s.store.find id = some e) (hend : e.hasCodeFrom s.voice.op.offset = false) : s.playSample = s := by
  simp [State.playSample, hmessage, hfind, hend]

/-- R149, R154: a sample within a granule's code bytes. -/
theorem State.playSample_code {s : State} {id : Nat} {e : Entry} (hmessage : s.voice.op.message = some id)
    (hfind : s.store.find id = some e) (hmore : e.hasCodeFrom s.voice.op.offset = true)
    (hcode : 4 ≤ s.voice.op.offset % 1024) :
    s.playSample = if s.voice.op.lowNext = true then
        { s with voice.op := { s.voice.op.takeCode ((s.store.entryByte e s.voice.op.offset).toNat % 16) with
                               lowNext := false, offset := s.voice.op.offset + 1 } }
      else { s with voice.op := { s.voice.op.takeCode ((s.store.entryByte e s.voice.op.offset).toNat / 16) with
                                  lowNext := true } } := by
  have hheader : s.loadHeader e.id = s := if_neg (Nat.not_lt.2 hcode)
  simp only [State.playSample, hmessage, Option.bind_some, hfind, hmore, Bool.true_eq_false, if_false, hheader]

/-- R151, R154: a sample at the start of a granule, after its header. -/
theorem State.playSample_header {s : State} {id g : Nat} {e : Entry} (hmessage : s.voice.op.message = some id)
    (hfind : s.store.find id = some e) (hg : g = s.voice.op.offset / 1024 * 1024)
    (hmore : e.hasCodeFrom s.voice.op.offset = true) (hheader : s.voice.op.offset % 1024 < 4) :
    s.playSample =
      { s with voice.op :=
        { { s.voice.op with codec := codecOfHeader (s.store.entryByte e g) (s.store.entryByte e (g + 1))
                                       (s.store.entryByte e (g + 2)) }.takeCode ((s.store.entryByte e (g + 4)).toNat / 16) with
          lowNext := true, offset := g + 4 } } := by
  have hloaded : s.loadHeader e.id = { s with
      voice.op.codec := codecOfHeader (s.store.entryByte e g) (s.store.entryByte e (g + 1)) (s.store.entryByte e (g + 2)),
      voice.op.offset := g + 4, voice.op.lowNext := false } := by
    have h : s.voice.op.offset % Config.granuleBytes < Config.codecHeaderBytes := hheader
    simp only [State.loadHeader, if_pos h, Store.byteOf_found hfind]
    rw [hg]
  simp only [State.playSample, hmessage, Option.bind_some, hfind, hmore, Bool.true_eq_false, if_false, hloaded]
  rfl

/-- Settles O56: the table, the decoding, the encoding, and a sample played by where its offset stands in the granule. -/
theorem codecFollows : Obligations.CodecFollows := by
  refine ⟨⟨rfl, fun i hi => stepSize_grows hi⟩, fun c code _ hindex => decodeCode_follows hindex,
    fun c x m hindex hm => encodeSample_follows hindex hm, fun o x hmore => recordSample_follows hmore, ?_⟩
  rintro id g e o s rfl hmessage hfind hg
  have hcodes := e.hasCodeFrom_iff s.voice.op.offset
  rw [← hg] at hcodes
  refine ⟨fun hend => ?_, fun hmore hcode hlow => ?_, fun hmore hcode hlow => ?_, ?_⟩
  · exact State.playSample_end hmessage hfind (Bool.eq_false_iff.2 fun hc => absurd (hcodes.1 hc) (Nat.not_lt.2 hend))
  · rw [State.playSample_code hmessage hfind (hcodes.2 (by omega)) hcode, if_neg (by simp [hlow])]
  · rw [State.playSample_code hmessage hfind (hcodes.2 (by omega)) hcode, if_pos hlow]
  · rintro p i rfl rfl hheader hmore
    exact State.playSample_header hmessage hfind hg (hcodes.2 (by omega)) hheader

end Sys2Proof.Machine
end

section
/-! PROOFS. Quality windows (R91, R95, R108). -/

namespace Sys2Proof.Machine

/-- A data call in DATA, its relay closed and its bands measured, with its budget of retrains used up, whose second overloaded
window in a row is full. -/
def spentBudget : State :=
  { State.reset with
    ccu := { State.reset.ccu with line := .connected, call := { State.reset.ccu.call with active := true, job := .data } },
    lif := { State.reset.lif with relayClosed := true },
    level := { State.reset.level with feed := .tracking, bandsOn := true, window := ⟨1048575, 256, true, 1⟩ },
    pump := { Pump.idle with mode := .data, phase := .data, retrains := 3 } }

/-- R108, R18, R85: the close of that window asks for a fourth retrain, which ends the call; the relay opens, and the bands are
no longer measured. -/
theorem spentBudget_closes {t : State} (h : exec .qualityWindowClose spentBudget = .next t) : t.level.bandsOn = false := by
  obtain rfl := Host.Outcome.next.inj h
  decide

/-- Refutes O45: the second overloaded window of a call whose budget of retrains is used up ends the call, and the relay that
opens resets the bands, which the statement has the same after every close of a window. -/
theorem not_windowsMeasured : ¬ Obligations.WindowsMeasured := by
  intro h
  have hfull : spentBudget.ClosesWindow ⟨.tracking, ⟨1048575, 256, true, 1⟩⟩ := .inl ⟨rfl, by decide, rfl, rfl⟩
  obtain ⟨-, hcloses, -⟩ := h spentBudget
  obtain ⟨t, hexec, hclosed, -⟩ := hcloses _ hfull
  have hbands : t.level.bandsOn = true := hclosed.paths.2.2.2
  rw [spentBudget_closes hexec] at hbands
  cases hbands

end Sys2Proof.Machine
end

section
/-! PROOFS. The Data Pump: HANDSHAKE, TRAINING and the entry to DATA (R101 to R103, R108, R114, R123). -/

namespace Sys2Proof.Machine

/-! ### Reports (R17) -/

theorem State.reportPhase_active {s : State} (hactive : s.ccu.call.active = true) (hending : s.ccu.ending = none)
    (p : CallPhase) : (s.reportPhase p).ccu.call = { s.ccu.call with phase := some p } := by
  rw [State.reportPhase, if_pos ⟨hactive, hending⟩]

theorem State.reportRung_active {s : State} (hactive : s.ccu.call.active = true) (hending : s.ccu.ending = none) (r : Nat) :
    (s.reportRung r).ccu.call.rung = some r := by
  rw [State.reportRung, if_pos ⟨hactive, hending⟩]

theorem State.reportRung_same (s : State) (r : Nat) : SameBut [.call] s (s.reportRung r) := by
  unfold State.reportRung
  split
  · exact .of_parts (by simp)
  · exact .refl _ s

/-! ### A training begins (R102) -/

theorem State.beginTraining_same (s : State) : SameBut [.pump, .level] s s.beginTraining := by
  unfold State.beginTraining
  exact .of_parts (by simp)

@[simp] theorem State.beginTraining_pump (s : State) :
    s.beginTraining.pump = { s.pump.clearCounts with stage := .symbols, ownAccept := false, farAccept := none } := rfl

@[simp] theorem State.beginTraining_level (s : State) : s.beginTraining.level = s.level.startFeed .training := rfl

/-! ### HANDSHAKE (R101) -/

/-- R101: what the end of the handshake leaves. -/
structure HandshakeDone (s t : State) (m : Nat) : Prop where
  phase : t.pump.phase = .training
  stage : t.pump.stage = .symbols
  peer : t.pump.peerMax = some m
  ceiling : t.pump.negCeiling = some (min s.pump.localCeiling m)
  floor : t.pump.negFloor = some (min s.pump.localFloor (min s.pump.localCeiling m))
  rung : t.pump.rung = some (min s.pump.localCeiling m)
  counts : t.pump.below = 0 ∧ t.pump.above = 0
  feed : t.level.feed = .training
  figure : t.level.trainingQ = none
  role : t.pump.role = s.pump.role
  call : s.ccu.call.active = true → s.ccu.ending = none →
    t.ccu.call = { s.ccu.call with phase := some (.pump .training) }
  frame : SameBut [.pump, .level, .call] s t

theorem State.handshakeComplete_done (s : State) (m : Nat) : HandshakeDone s (s.handshakeComplete m) m where
  phase := by simp [State.handshakeComplete, Pump.clearCounts]
  stage := by simp [State.handshakeComplete]
  peer := by simp [State.handshakeComplete, Pump.clearCounts]
  ceiling := by simp [State.handshakeComplete, Pump.clearCounts]
  floor := by simp [State.handshakeComplete, Pump.clearCounts]
  rung := by simp [State.handshakeComplete, Pump.clearCounts]
  counts := by simp [State.handshakeComplete, Pump.clearCounts]
  feed := by simp [State.handshakeComplete, LevelMeter.startFeed]
  figure := by simp [State.handshakeComplete, LevelMeter.startFeed]
  role := by simp [State.handshakeComplete, Pump.clearCounts]
  call hactive hending := by simp [State.handshakeComplete, State.reportPhase, State.beginTraining, hactive, hending]
  frame := by
    refine SameBut.trans ?_ (((State.reportPhase_same _ _).mono (by simp)).trans
      ((State.beginTraining_same _).mono (by simp)))
    exact .of_parts (by simp)

theorem HandshakeDone.finish {s t : State} {m : Nat} (h : HandshakeDone s t m) : HandshakeDone s t.deliverSystem m where
  phase := by simpa using h.phase
  stage := by simpa using h.stage
  peer := by simpa using h.peer
  ceiling := by simpa using h.ceiling
  floor := by simpa using h.floor
  rung := by simpa using h.rung
  counts := by simpa using h.counts
  feed := by simpa using h.feed
  figure := by simpa using h.figure
  role := by simpa using h.role
  call := by simpa using h.call
  frame := h.frame.finish

/-- A handshake that completes is the same from a state before it that differs in what the pump heard. -/
theorem HandshakeDone.congr {s s' t : State} {m : Nat} (h : HandshakeDone s' t m) (hsame : SameBut [.pump] s s')
    (hbounds : s'.pump.localCeiling = s.pump.localCeiling ∧ s'.pump.localFloor = s.pump.localFloor ∧
      s'.pump.role = s.pump.role) : HandshakeDone s t m where
  phase := h.phase
  stage := h.stage
  peer := h.peer
  ceiling := by rw [← hbounds.1]; exact h.ceiling
  floor := by rw [← hbounds.1, ← hbounds.2.1]; exact h.floor
  rung := by rw [← hbounds.1]; exact h.rung
  counts := h.counts
  feed := h.feed
  figure := h.figure
  role := by rw [← hbounds.2.2]; exact h.role
  call := by
    have hcall : s'.ccu.call = s.ccu.call := hsame .call (by simp) (by simp)
    have hrest : s'.ccu.ending = s.ccu.ending := (hsame .ccuRest (by simp) (by simp)).2.1
    rw [← hcall, ← hrest]
    exact h.call
  frame := (hsame.mono (by simp)).trans h.frame

/-- R101: with a signal of the far end still to come, or the answer tone sounding, nothing completes. -/
theorem State.judgeHandshake_waits {s : State}
    (h : s.pump.heardMax = none ∨ s.pump.heardAck = false ∨ s.pump.answerTone = true) : s.judgeHandshake = s := by
  unfold State.judgeHandshake
  split
  · next m hmax hack htone => simp [hmax, hack, htone] at h
  · rfl

theorem State.judgeHandshake_completes {s : State} {m : Nat} (hmax : s.pump.heardMax = some m)
    (hack : s.pump.heardAck = true) (htone : s.pump.answerTone = false) : s.judgeHandshake = s.handshakeComplete m := by
  unfold State.judgeHandshake
  rw [hmax, hack, htone]

theorem State.pumpSet_same (s : State) (p : Pump) : SameBut [.pump] s { s with pump := p } := .of_parts (by simp)

/-- R101: a signal is noted where nothing completes yet. -/
theorem pumpNoted {s : State} {p : Pump} {c : Instr}
    (hexec : exec c s = finish (State.judgeHandshake { s with pump := p }))
    (hwaits : p.heardMax = none ∨ p.heardAck = false ∨ p.answerTone = true) :
    ∃ t, exec c s = .next t ∧ t.pump = p ∧ SameBut [.pump] s t := by
  rw [State.judgeHandshake_waits (s := { s with pump := p }) hwaits] at hexec
  exact ⟨_, hexec, by simp, (s.pumpSet_same p).finish⟩

/-- R101: a signal, or the end of the answer tone, completes the handshake. -/
theorem pumpCompletes {s : State} {p : Pump} {c : Instr} {m : Nat}
    (hexec : exec c s = finish (State.judgeHandshake { s with pump := p }))
    (hmax : p.heardMax = some m) (hack : p.heardAck = true) (htone : p.answerTone = false)
    (hbounds : p.localCeiling = s.pump.localCeiling ∧ p.localFloor = s.pump.localFloor ∧ p.role = s.pump.role) :
    ∃ t, exec c s = .next t ∧ HandshakeDone s t m := by
  rw [State.judgeHandshake_completes (s := { s with pump := p }) hmax hack htone] at hexec
  exact ⟨_, hexec, ((State.handshakeComplete_done _ m).congr (s.pumpSet_same p) hbounds).finish⟩

theorem exec_answerToneEnd {s : State} (h : s.pump.phase = .handshake) :
    exec .answerToneEnd s = finish (State.judgeHandshake { s with pump := { s.pump with answerTone := false } }) :=
  congrArg finish (if_pos h)

theorem exec_handshakeSignal {s : State} (h : s.pump.phase = .handshake) (x : HandshakeSignal) :
    exec (.handshakeSignalReceived x) s = finish (State.judgeHandshake { s with pump := s.pump.hear x }) :=
  congrArg finish (if_pos h)

/-- R101: the handshake completes with the last of its three conditions. -/
theorem handshake_completes {s : State} (h : s.pump.phase = .handshake) {c : Instr} {m : Nat}
    (hc : (c = .answerToneEnd ∧ s.pump.heardMax = some m ∧ s.pump.heardAck = true) ∨
      (c = .handshakeSignalReceived .acknowledge ∧ s.pump.heardMax = some m ∧ s.pump.answerTone = false) ∨
      (∃ r : Byte, c = .handshakeSignalReceived (.maximum r) ∧ m = min 7 r.toNat ∧ s.pump.heardAck = true ∧
        s.pump.answerTone = false)) : ∃ t, exec c s = .next t ∧ HandshakeDone s t m := by
  rcases hc with ⟨rfl, hmax, hack⟩ | ⟨rfl, hmax, htone⟩ | ⟨r, rfl, rfl, hack, htone⟩
  · exact pumpCompletes (exec_answerToneEnd h) hmax hack rfl ⟨rfl, rfl, rfl⟩
  · exact pumpCompletes (exec_handshakeSignal h _) hmax rfl htone ⟨rfl, rfl, rfl⟩
  · exact pumpCompletes (exec_handshakeSignal h _) rfl hack htone ⟨rfl, rfl, rfl⟩

/-! ### TRAINING (R93, R95, R102) -/

/-- R93: the figure of the last window of a training. -/
theorem LevelMeter.lastTrainingQ_eq {m : LevelMeter} {q : Nat}
    (h : (m.windowFull = false ∧ q = m.trainingQ.getD 0) ∨ (m.windowFull = true ∧ q = 47 - logCode (m.window.acc / 256))) :
    m.lastTrainingQ.getD 0 = q := by
  rcases h with ⟨hfull, rfl⟩ | ⟨hfull, rfl⟩
  · simp [LevelMeter.lastTrainingQ, hfull]
  · simp [LevelMeter.lastTrainingQ, hfull, QualityWindow.quality]

theorem trainingSymbolsEnd_measures {s : State} {q : Nat} (h : s.pump.trainingAt .symbols)
    (hq : (s.level.windowFull = false ∧ q = s.level.trainingQ.getD 0) ∨
      (s.level.windowFull = true ∧ q = 47 - logCode (s.level.window.acc / 256))) :
    ∃ t, exec .trainingSymbolsEnd s = .next t ∧ t.level.average = some (8 * q) ∧ t.level.feed = .off ∧
      t.level.window = .zero ∧
      t.level.closing = s.level.closing ++
        (if s.level.windowFull = true then [⟨s.level.feed, s.level.window⟩] else []) ∧
      t.pump.stage = .verdicts ∧ (t.pump.ownAccept = true ↔ s.fall (s.pump.rung.getD 0) ≤ 8 * q) ∧
      t.pump.rung = s.pump.rung ∧ SameBut [.pump, .level] s t := by
  have hlevel : s.level.endTraining = { s.level.stopFeed with average := some (8 * q) } := by
    rw [LevelMeter.endTraining, LevelMeter.lastTrainingQ_eq hq]
  have hexec : exec .trainingSymbolsEnd s = finish { s with
      level := s.level.endTraining,
      pump := { s.pump with
        stage := .verdicts, ownAccept := decide (s.fall s.pump.rungNow ≤ s.level.endTraining.average.getD 0) } } :=
    congrArg finish (if_pos h)
  have hsame : SameBut [.pump, .level] s { s with
      level := s.level.endTraining,
      pump := { s.pump with
        stage := .verdicts, ownAccept := decide (s.fall s.pump.rungNow ≤ s.level.endTraining.average.getD 0) } } :=
    .of_parts (by simp)
  refine ⟨_, hexec, ?_, ?_, ?_, ?_, ?_, ?_, ?_, hsame.finish⟩
  · simp [hlevel]
  · simp [hlevel, LevelMeter.stopFeed]
  · simp [hlevel, LevelMeter.stopFeed]
  · rw [State.deliverSystem_level, hlevel]
    simp only [LevelMeter.stopFeed]
    split <;> simp
  · simp
  · simp [hlevel, Pump.rungNow]
  · simp

theorem trainingFailed_stepsDown {s : State} (hfloor : s.pump.negFloor.getD 0 < s.pump.rung.getD 0) :
    ∃ t, s.trainingFailed.deliverSystem = t ∧ t.pump.rung = some (s.pump.rung.getD 0 - 1) ∧
      t.pump.phase = s.pump.phase ∧ t.pump.stage = .symbols ∧ t.level.feed = .training ∧
      (s.ccu.call.active = true → s.ccu.ending = none → t.ccu.call.rung = some (s.pump.rung.getD 0 - 1)) ∧
      SameBut [.pump, .level, .call] s t := by
  have hfailed : s.trainingFailed = State.beginTraining (State.reportRung
      { s with pump := { s.pump with rung := some (s.pump.rung.getD 0 - 1) } } (s.pump.rung.getD 0 - 1)) := if_pos hfloor
  rw [hfailed]
  refine ⟨_, rfl, by simp [Pump.clearCounts], by simp [Pump.clearCounts], by simp, by simp [LevelMeter.startFeed],
    fun hactive hending => ?_, ?_⟩
  · simp [State.reportRung, State.beginTraining, hactive, hending]
  · exact (((s.pumpSet_same _).mono (by simp)).trans (((State.reportRung_same _ _).mono (by simp)).trans
      ((State.beginTraining_same _).mono (by simp)))).finish

/-- R102: the verdicts are not both accepting. -/
theorem exec_verdictExchangeEnd_failed {s : State} (h : s.pump.trainingAt .verdicts)
    (hfail : ¬(s.pump.ownAccept = true ∧ s.pump.farAccept = some true)) :
    exec .verdictExchangeEnd s = finish s.trainingFailed := by
  show execVerdictExchangeEnd s = _
  rw [execVerdictExchangeEnd, if_pos h, if_neg hfail]

/-- Settles O47: the handshake by the condition that comes last; the training by its stages, with a failed exchange by the
floor. -/
theorem handshakeAndTraining : Obligations.HandshakeAndTraining := by
  refine ⟨fun s h => ⟨fun hwaits => pumpNoted (exec_answerToneEnd h) (hwaits.imp_right .inl),
    fun r hwaits => pumpNoted (exec_handshakeSignal h (.maximum r)) (.inr hwaits),
    fun hwaits => pumpNoted (exec_handshakeSignal h .acknowledge) (hwaits.imp_right .inr), fun c m hc => ?_⟩,
    fun s h => ⟨fun q hstage hq => trainingSymbolsEnd_measures ⟨h, hstage⟩ hq, fun hstage => ⟨fun v => ?_,
      fun hfail hfloor => ?_, fun hfail hfloor hactive hending => ?_⟩⟩⟩
  · obtain ⟨t, hexec, hdone⟩ := handshake_completes h hc
    exact ⟨t, hexec, hdone.phase, hdone.stage, hdone.peer, hdone.ceiling, hdone.floor, hdone.rung, hdone.counts.1,
      hdone.counts.2, hdone.feed, hdone.figure, hdone.role, hdone.call, hdone.frame⟩
  · have hexec : exec (.farEndVerdictReceived v) s = finish { s with pump := { s.pump with farAccept := some v } } :=
      congrArg finish (if_pos ⟨h, hstage⟩)
    exact ⟨_, hexec, by simp, (s.pumpSet_same _).finish⟩
  · obtain ⟨t, rfl, hleaves⟩ := trainingFailed_stepsDown hfloor
    exact ⟨_, exec_verdictExchangeEnd_failed ⟨h, hstage⟩ hfail, hleaves⟩
  · have hfailed : s.trainingFailed = s.reportEnd .lineTooNoisy := if_neg (Nat.not_lt.2 hfloor)
    refine ⟨_, exec_verdictExchangeEnd_failed ⟨h, hstage⟩ hfail, ?_⟩
    rw [hfailed]
    exact (State.reportEnd_ended hactive hending _).finish

end Sys2Proof.Machine
end

section
/-! PROOFS. The entry to DATA (R103, R108, R109, R114, R123). -/

namespace Sys2Proof.Machine

/-! ### The pump in DATA (R103) -/

/-- R103, steps 1 to 4: the entry to DATA up to the link. -/
def State.dataBegun (s : State) : State :=
  let t : State :=
    { s with
      pump := { s.pump.clearCounts with
                phase := .data, request := .none, stage := .none, confirmed := false, linkStarted := true },
      level := s.level.startFeed .tracking }
  ((t.loadT4.reportPhase (.pump .data)).reportRung t.pump.rungNow).loadT2 .stable 30000 .none

theorem State.dataEntry_eq (s : State) :
    s.dataEntry = if s.pump.linkStarted = false then s.dataBegun.linkBegin else s.dataBegun.linkResume := by
  unfold State.dataEntry
  cases s.pump.linkStarted <;> rfl

/-- R103, R108, R109: what that leaves. -/
structure DataBegun (s t : State) : Prop where
  pump : t.pump = { s.pump with
    below := 0, above := 0, phase := .data, request := .none, stage := .none, confirmed := false, linkStarted := true }
  feed : t.level.feed = .tracking
  stable : t.LoadedT2 .stable 30000 .none
  carrier : t.timers.e4.Runs .dpu s.settings.carrierLossMs (.block .line s.settings.carrierLevel)

theorem State.dataBegun_begun (s : State) : DataBegun s s.dataBegun where
  pump := by
    simp [State.dataBegun, State.loadT2, State.loadT4, Pump.clearCounts]
  feed := by simp [State.dataBegun, State.loadT2, State.loadT4, LevelMeter.startFeed]
  stable := State.loadT2_loaded _ _ _ _
  carrier := by
    simp only [State.dataBegun, State.loadT2, State.reportRung_keeps, State.reportPhase_keeps]
    exact ⟨rfl, rfl, rfl, rfl, rfl⟩

theorem State.dataBegun_same (s : State) :
    SameBut [.call, .ccuRest, .pump, .level, .timer 2, .timer 4] s s.dataBegun := by
  unfold State.dataBegun State.loadT2 State.loadT4
  exact .of_parts (by simp)

theorem DataBegun.trans {s t u : State} {parts : List Part} (h : DataBegun s t) (hsame : SameBut parts t u)
    (hparts : .pump ∉ parts ∧ .level ∉ parts ∧ .ccuRest ∉ parts ∧ .timer 2 ∉ parts ∧ .timer 4 ∉ parts) :
    DataBegun s u := by
  obtain ⟨hpump, hlevel, hrest, htwo, hfour⟩ := hparts
  have hu2 : u.timers.e2 = t.timers.e2 := hsame (.timer 2) htwo (by simp)
  have hu4 : u.timers.e4 = t.timers.e4 := hsame (.timer 4) hfour (by simp)
  have hupump : u.pump = t.pump := hsame .pump hpump (by simp)
  have hulevel : u.level = t.level := hsame .level hlevel (by simp)
  obtain ⟨-, -, -, huse⟩ := hsame .ccuRest hrest (by simp)
  exact ⟨by rw [hupump, h.pump], by rw [hulevel, h.feed], by unfold State.LoadedT2; rw [huse, hu2]; exact h.stable,
    by rw [hu4]; exact h.carrier⟩

/-! ### The link begins or goes on (R114, R123) -/

theorem State.loadT3_runs (s : State) (ms : Nat) : (s.loadT3 ms).timers.e3.Runs .lke ms .none := ⟨rfl, rfl, rfl, rfl, rfl⟩

theorem State.loadT3_same (s : State) (ms : Nat) : SameBut [.timer 3] s (s.loadT3 ms) := by
  unfold State.loadT3
  exact .of_parts (by simp)

theorem State.linkSet_same (s : State) {l : Link}
    (h : l.outbound = s.link.outbound ∧ l.inbound = s.link.inbound ∧ l.stats = s.link.stats) :
    SameBut [.link] s { s with link := l } := by
  exact .of_parts (by simp [h])

theorem State.linkSet_loadT3_same (s : State) (ms : Nat) {l : Link}
    (h : l.outbound = s.link.outbound ∧ l.inbound = s.link.inbound ∧ l.stats = s.link.stats) :
    SameBut [.link, .timer 3] s (State.loadT3 { s with link := l } ms) := by
  unfold State.loadT3
  exact .of_parts (by simp [h])

/-- R114: the setup begins with its first request. -/
theorem State.linkBegin_setup {s : State} (h : s.settings.linkPolicy ≠ .directOnly) :
    s.linkBegin.link = { s.link with
      policy := s.settings.linkPolicy, offer := (s.settings.linkWindow, roundPayload s.settings.linkPayload),
      mode := .setup, reqDue := true, attempts := 1 } ∧
    s.linkBegin.timers.e3.Runs .lke 1000 .none ∧ SameBut [.link, .timer 3] s s.linkBegin := by
  have heq : s.linkBegin = State.loadT3 { s with link := { s.link with
      policy := s.settings.linkPolicy, offer := (s.settings.linkWindow, roundPayload s.settings.linkPayload),
      mode := .setup, reqDue := true, attempts := 1 } } 1000 := if_neg h
  rw [heq]
  refine ⟨rfl, State.loadT3_runs _ _, ?_⟩
  unfold State.loadT3
  exact .of_parts (by simp)

/-- R179: the entry to the data state is made or waits. -/
theorem State.requestData_enters (s : State) : s.requestData.sys.data = true ∨ s.requestData.sys.entryDue = true := by
  have henters : s.enterData.sys.data = true := by
    unfold State.enterData
    split <;> rfl
  unfold State.requestData
  split
  · exact .inl henters
  split
  · exact .inl henters
  · exact .inr rfl

theorem State.enterData_same (s : State) : SameBut [.systemPort, .timer 5] s s.enterData := by
  by_cases hjob : s.ccu.call.job = .data
  · obtain ⟨-, -, -, hsame⟩ := State.enterData_data hjob
    exact hsame
  · obtain ⟨-, hsame⟩ := State.enterData_other hjob
    exact hsame.mono (by simp)

theorem State.requestData_same (s : State) : SameBut [.systemPort, .timer 5] s s.requestData := by
  unfold State.requestData
  split
  · exact s.enterData_same
  split
  · exact s.enterData_same
  · exact .of_parts (by simp)

theorem State.raiseHolder_same (s : State) (x : Source) : SameBut [.notices .panel] s (s.raiseHolder x) := by
  unfold State.raiseHolder State.raiseParty
  split
  · exact State.raiseAt_same _ _ _
  · exact .refl _ s

theorem State.stopT3_same (s : State) : SameBut [.timer 3] s s.stopT3 := by
  unfold State.stopT3
  exact .of_parts (by simp)

/-- Two frames, one after the other. -/
theorem SameBut.andThen {a b : List Part} {s t u : State} (h : SameBut a s t) (h' : SameBut b t u) :
    SameBut (a ++ b) s u :=
  (h.mono (by simp)).trans (h'.mono (by simp))

theorem State.online_same (s : State) : SameBut [.systemPort, .timer 5, .notices .panel] s s.online :=
  ((State.raiseHolder_same s .linkState).andThen (State.requestData_same _)).mono (by simp)

/-- R114, R115: the link is DIRECT. -/
def Link.direct (l : Link) : Link := { l with mode := .direct, reqDue := false, confDue := false, confSetup := false }

theorem State.enterDirect_eq (s : State) :
    s.enterDirect = State.online { s.stopT3 with link := s.link.direct } := rfl

theorem State.enterDirect_same (s : State) :
    SameBut [.link, .timer 3, .timer 5, .systemPort, .notices .panel] s s.enterDirect :=
  (((State.stopT3_same s).andThen (State.linkSet_same s.stopT3 (l := s.link.direct) ⟨rfl, rfl, rfl⟩)).andThen
    (State.online_same _)).mono (by simp)

/-- R114, R179: the data begins in DIRECT. -/
theorem State.linkBegin_direct {s : State} (h : s.settings.linkPolicy = .directOnly) :
    s.linkBegin.link.mode = .direct ∧ (s.linkBegin.sys.data = true ∨ s.linkBegin.sys.entryDue = true) ∧
      SameBut [.link, .timer 3, .timer 5, .systemPort, .notices .panel] s s.linkBegin := by
  set l : Link := { s.link with
    policy := s.settings.linkPolicy, offer := (s.settings.linkWindow, roundPayload s.settings.linkPayload) } with hl
  have heq : s.linkBegin = State.enterDirect { s with link := l } := if_pos h
  rw [heq]
  refine ⟨?_, ?_, ((State.linkSet_same s (l := l) ⟨rfl, rfl, rfl⟩).andThen (State.enterDirect_same _)).mono (by simp)⟩
  · rw [State.enterDirect_eq]
    simp [State.online, Link.direct]
  · rw [State.enterDirect_eq]
    exact State.requestData_enters _

/-- R123: the link resumes, by its mode. -/
theorem State.linkResume_empty {s : State} (h : s.link.mode = .linked) (hwindow : s.link.window = []) :
    s.linkResume = { s with link := { s.link with paused := false } } := by
  simp only [State.linkResume, h, hwindow, if_true]

theorem State.linkResume_linked {s : State} (h : s.link.mode = .linked) (hwindow : s.link.window ≠ []) :
    s.linkResume = State.loadT3 { s with link := { s.link with paused := false, resendMark := some s.link.va } }
      s.settings.linkTimerMs := by
  simp only [State.linkResume, h, hwindow, if_false]
  rfl

theorem State.linkResume_setup {s : State} (h : s.link.mode = .setup) :
    s.linkResume = State.loadT3 { s with link := { s.link with paused := false, reqDue := true } } 1000 := by
  simp only [State.linkResume, h]

theorem State.linkResume_direct {s : State} (h : s.link.mode = .direct) :
    s.linkResume = { s with link := { s.link with paused := false } } := by
  simp only [State.linkResume, h]

/-! ### The entry -/

/-- R103, R105: the rows that enter DATA. -/
theorem exec_dataEntry {c : Instr} {s : State}
    (hc : (c = .verdictExchangeEnd ∧ (s.pump.phase = .training ∨ s.pump.phase = .retrain) ∧ s.pump.stage = .verdicts ∧
        s.pump.ownAccept = true ∧ s.pump.farAccept = some true) ∨
      (c = .resyncEnd ∧ s.pump.phase = .rateChange ∧ s.pump.confirmed = true)) : exec c s = finish s.dataEntry := by
  rcases hc with ⟨rfl, hphase, hstage, hown, hfar⟩ | ⟨rfl, hphase, hconfirmed⟩
  · show execVerdictExchangeEnd s = _
    rw [execVerdictExchangeEnd, if_pos ⟨hphase, hstage⟩, if_pos ⟨hown, hfar⟩]
  · exact congrArg finish (if_pos ⟨hphase, hconfirmed⟩)

/-- The link, the settings and T3 of the data that has begun are those before. -/
theorem State.dataBegun_leaves (s : State) : s.dataBegun.link = s.link ∧ s.dataBegun.settings = s.settings ∧
    s.dataBegun.timers.e3 = s.timers.e3 := by
  refine ⟨?_, s.dataBegun_same .settings (by simp) (by simp), s.dataBegun_same (.timer 3) (by simp) (by simp)⟩
  simp [State.dataBegun, State.loadT2, State.loadT4]

/-- R103: the entry to DATA, with what the link's part of it leaves. -/
theorem dataEntry_does {c : Instr} {s u : State} {parts : List Part} (hexec : exec c s = finish s.dataEntry)
    (hlink : s.dataEntry = u) (hsame : SameBut parts s.dataBegun u)
    (hparts : .pump ∉ parts ∧ .level ∉ parts ∧ .ccuRest ∉ parts ∧ .timer 2 ∉ parts ∧ .timer 4 ∉ parts) :
    ∃ t, exec c s = .next t ∧ DataBegun s t ∧ t.link = u.link ∧ t.timers.e3 = u.timers.e3 ∧
      SameBut ([.call, .ccuRest, .pump, .level, .timer 2, .timer 4] ++ parts) s t := by
  rw [hlink] at hexec
  exact ⟨_, hexec, (s.dataBegun_begun.trans hsame hparts).trans (State.deliverSystem_same _) (by simp), by simp, by simp,
    (s.dataBegun_same.andThen hsame).finish⟩

theorem dataEntry_setup {c : Instr} {s : State} (hexec : exec c s = finish s.dataEntry) (hfirst : s.pump.linkStarted = false)
    (hpolicy : s.settings.linkPolicy ≠ .directOnly) :
    ∃ t, exec c s = .next t ∧ DataBegun s t ∧ t.link.mode = .setup ∧ t.link.reqDue = true ∧ t.link.attempts = 1 ∧
      t.link.policy = s.settings.linkPolicy ∧
      t.link.offer = (s.settings.linkWindow, roundPayload s.settings.linkPayload) ∧ t.timers.e3.Runs .lke 1000 .none ∧
      SameBut [.call, .ccuRest, .pump, .level, .link, .timer 2, .timer 3, .timer 4] s t := by
  obtain ⟨-, hsettings, -⟩ := s.dataBegun_leaves
  obtain ⟨hlink, hruns, hsame⟩ := State.linkBegin_setup (s := s.dataBegun) (by rw [hsettings]; exact hpolicy)
  obtain ⟨t, hnext, hbegun, htlink, ht3, hframe⟩ :=
    dataEntry_does hexec ((State.dataEntry_eq s).trans (if_pos hfirst)) hsame (by simp)
  rw [hlink, hsettings] at htlink
  exact ⟨t, hnext, hbegun, by rw [htlink], by rw [htlink], by rw [htlink], by rw [htlink], by rw [htlink],
    by rw [ht3]; exact hruns, hframe.mono (by simp)⟩

theorem dataEntry_direct {c : Instr} {s : State} (hexec : exec c s = finish s.dataEntry) (hfirst : s.pump.linkStarted = false)
    (hpolicy : s.settings.linkPolicy = .directOnly) :
    ∃ t, exec c s = .next t ∧ t.pump.phase = .data ∧ t.link.mode = .direct ∧ (t.sys.data = true ∨ t.sys.entryDue = true) ∧
      SameBut [.call, .ccuRest, .pump, .level, .link, .timer 2, .timer 3, .timer 4, .timer 5, .systemPort,
        .notices .panel] s t := by
  obtain ⟨-, hsettings, -⟩ := s.dataBegun_leaves
  obtain ⟨hmode, henters, hsame⟩ := State.linkBegin_direct (s := s.dataBegun) (by rw [hsettings]; exact hpolicy)
  have hentry := (State.dataEntry_eq s).trans (if_pos hfirst)
  have hbegun := s.dataBegun_begun.trans hsame (by simp)
  rw [hentry] at hexec
  refine ⟨_, hexec, by rw [State.deliverSystem_pump, hbegun.pump], by rw [State.deliverSystem_link, hmode],
    by rw [State.deliverSystem_sys_data, State.deliverSystem_sys_entryDue]; exact henters, ?_⟩
  exact ((s.dataBegun_same.andThen hsame).finish).mono (by simp)

/-- R123: the later entries go on with the paused link. -/
theorem State.dataEntry_resumes {s : State} (hlater : s.pump.linkStarted = true) : s.dataEntry = s.dataBegun.linkResume :=
  (State.dataEntry_eq s).trans (if_neg (by simp [hlater]))

theorem dataEntry_linked {c : Instr} {s : State} (hexec : exec c s = finish s.dataEntry) (hlater : s.pump.linkStarted = true)
    (hmode : s.link.mode = .linked) :
    ∃ t, exec c s = .next t ∧ DataBegun s t ∧ t.link.paused = false ∧
      (s.link.window ≠ [] → t.link.resendMark = some s.link.va ∧ t.timers.e3.Runs .lke s.settings.linkTimerMs .none) ∧
      (s.link.window = [] → t.link.resendMark = s.link.resendMark ∧ t.timers.e3 = s.timers.e3) ∧
      t.link.window = s.link.window ∧ t.link.vs = s.link.vs ∧
      SameBut [.call, .ccuRest, .pump, .level, .link, .timer 2, .timer 3, .timer 4] s t := by
  obtain ⟨hlink, hsettings, htimer⟩ := s.dataBegun_leaves
  rw [← hlink] at hmode
  by_cases hwindow : s.link.window = []
  · obtain ⟨t, hnext, hbegun, htlink, ht3, hframe⟩ := dataEntry_does hexec ((State.dataEntry_resumes hlater).trans
      (State.linkResume_empty hmode (by rw [hlink, hwindow]))) (State.linkSet_same _ ⟨rfl, rfl, rfl⟩) (by simp)
    exact ⟨t, hnext, hbegun, by rw [htlink], fun hne => absurd hwindow hne,
      fun _ => ⟨by rw [htlink, ← hlink], by rw [ht3]; exact htimer⟩,
      by rw [htlink, ← hlink], by rw [htlink, ← hlink],
      hframe.mono (by simp)⟩
  · obtain ⟨t, hnext, hbegun, htlink, ht3, hframe⟩ := dataEntry_does hexec ((State.dataEntry_resumes hlater).trans
      (State.linkResume_linked hmode (by rw [hlink]; exact hwindow)))
      (State.linkSet_loadT3_same _ _ ⟨rfl, rfl, rfl⟩) (by simp)
    refine ⟨t, hnext, hbegun, by rw [htlink]; rfl, fun _ => ⟨by rw [htlink, ← hlink]; rfl, ?_⟩,
      fun he => absurd he hwindow, by rw [htlink, ← hlink]; rfl,
      by rw [htlink, ← hlink]; rfl, hframe.mono (by simp)⟩
    rw [ht3, ← hsettings]
    exact State.loadT3_runs _ _

theorem dataEntry_resetup {c : Instr} {s : State} (hexec : exec c s = finish s.dataEntry) (hlater : s.pump.linkStarted = true)
    (hmode : s.link.mode = .setup) :
    ∃ t, exec c s = .next t ∧ DataBegun s t ∧ t.link.mode = .setup ∧ t.link.paused = false ∧ t.link.reqDue = true ∧
      t.link.attempts = s.link.attempts ∧ t.link.offer = s.link.offer ∧ t.timers.e3.Runs .lke 1000 .none ∧
      SameBut [.call, .ccuRest, .pump, .level, .link, .timer 2, .timer 3, .timer 4] s t := by
  obtain ⟨hlink, -, -⟩ := s.dataBegun_leaves
  obtain ⟨t, hnext, hbegun, htlink, ht3, hframe⟩ := dataEntry_does hexec ((State.dataEntry_resumes hlater).trans
    (State.linkResume_setup (by rw [hlink]; exact hmode)))
    (State.linkSet_loadT3_same _ _ ⟨rfl, rfl, rfl⟩) (by simp)
  refine ⟨t, hnext, hbegun, ?_, by rw [htlink]; rfl, by rw [htlink]; rfl, by rw [htlink, ← hlink]; rfl,
    by rw [htlink, ← hlink]; rfl, by rw [ht3]; exact State.loadT3_runs _ _, hframe.mono (by simp)⟩
  rw [htlink]
  exact (congrArg Link.mode hlink).trans hmode

theorem dataEntry_redirect {c : Instr} {s : State} (hexec : exec c s = finish s.dataEntry) (hlater : s.pump.linkStarted = true)
    (hmode : s.link.mode = .direct) :
    ∃ t, exec c s = .next t ∧ DataBegun s t ∧ t.link = { s.link with paused := false } ∧
      SameBut [.call, .ccuRest, .pump, .level, .link, .timer 2, .timer 4] s t := by
  obtain ⟨hlink, -, -⟩ := s.dataBegun_leaves
  obtain ⟨t, hnext, hbegun, htlink, -, hframe⟩ := dataEntry_does hexec ((State.dataEntry_resumes hlater).trans
    (State.linkResume_direct (by rw [hlink]; exact hmode))) (State.linkSet_same _ ⟨rfl, rfl, rfl⟩) (by simp)
  exact ⟨t, hnext, hbegun, by rw [htlink, ← hlink], hframe.mono (by simp)⟩

/-- Settles O48: the pump's part of the entry, then the link's, by whether it has begun and by its policy or its mode. -/
theorem dataEntered : Obligations.DataEntered := by
  intro c s _ hc
  have hexec := exec_dataEntry hc
  refine ⟨fun hfirst hpolicy => ?_, fun hfirst hpolicy => dataEntry_direct hexec hfirst hpolicy, fun hlater hmode => ?_,
    fun hlater hmode => ?_, fun hlater hmode => ?_⟩
  · obtain ⟨t, hnext, hdata, hlink⟩ := dataEntry_setup hexec hfirst hpolicy
    exact ⟨t, hnext, by rw [hdata.pump], by rw [hdata.pump], by rw [hdata.pump], by rw [hdata.pump], hdata.feed,
      hdata.stable, hdata.carrier, hlink⟩
  · obtain ⟨t, hnext, hdata, hlink⟩ := dataEntry_linked hexec hlater hmode
    exact ⟨t, hnext, by rw [hdata.pump], hdata.feed, hlink⟩
  · obtain ⟨t, hnext, hdata, hlink⟩ := dataEntry_resetup hexec hlater hmode
    exact ⟨t, hnext, by rw [hdata.pump], hdata.feed, hlink⟩
  · obtain ⟨t, hnext, hdata, hlink⟩ := dataEntry_redirect hexec hlater hmode
    exact ⟨t, hnext, by rw [hdata.pump], hdata.feed, hlink⟩

end Sys2Proof.Machine
end

section
/-! PROOFS. Rate changes and retrains (R92, R104 to R108). -/

namespace Sys2Proof.Machine

/-! ### The entry to RATE_CHANGE (R105) -/

/-- R105, R123: what the entry to RATE_CHANGE leaves. -/
structure RateChangeEntered (s t : State) (rung : Nat) (confirmed : Bool) : Prop where
  pump : t.pump = { s.pump with
    below := 0, above := 0, phase := .rateChange, request := .rate rung, confirmed := confirmed,
    rung := if confirmed = true then some rung else s.pump.rung }
  level : t.level = s.level.stopFeed
  link : t.link = { s.link with paused := true, tx := .idleFill }
  timers : t.timers.e2.mode = .off ∧ t.timers.e3.mode = .off ∧ t.timers.e4.mode = .off
  notice : ∀ p : Port, s.holder = some p.party → t.Noticed p .rateChange
  frame : SameBut [.level, .call, .ccuRest, .pump, .link, .timer 2, .timer 3, .timer 4, .notices .panel] s t

/-- R105: the entry up to its notice. -/
def State.rateChangeBegun (s : State) (rung : Nat) (confirmed : Bool) : State :=
  let t : State :=
    { s.linkPause with
      level := s.level.stopFeed,
      pump := { s.pump.clearCounts with
                phase := .rateChange, request := .rate rung, confirmed := confirmed,
                rung := if confirmed = true then some rung else s.pump.rung } }
  (t.stopT4.reportPhase (.pump .rateChange)).stopT2

theorem State.rateChangeEntry_eq (s : State) (rung : Nat) (confirmed : Bool) :
    s.rateChangeEntry rung confirmed = (s.rateChangeBegun rung confirmed).raiseHolder .rateChange := rfl

theorem State.rateChangeBegun_same (s : State) (rung : Nat) (confirmed : Bool) :
    SameBut [.level, .call, .ccuRest, .pump, .link, .timer 2, .timer 3, .timer 4] s (s.rateChangeBegun rung confirmed) := by
  unfold State.rateChangeBegun State.stopT2 State.stopT4 State.linkPause State.stopT3
  exact .of_parts (by simp)

theorem State.rateChangeBegun_holder (s : State) (rung : Nat) (confirmed : Bool) :
    (s.rateChangeBegun rung confirmed).holder = s.holder := by
  simp [State.rateChangeBegun, State.stopT2, State.stopT4, State.linkPause, State.stopT3, State.holder]

theorem State.rateChangeEntry_entered (s : State) (rung : Nat) (confirmed : Bool) :
    RateChangeEntered s (s.rateChangeEntry rung confirmed).deliverSystem rung confirmed where
  pump := by
    simp [State.rateChangeEntry_eq, State.rateChangeBegun, State.stopT2, State.stopT4, State.linkPause, State.stopT3,
      Pump.clearCounts]
  level := by
    simp [State.rateChangeEntry_eq, State.rateChangeBegun, State.stopT2, State.stopT4, State.linkPause, State.stopT3]
  link := by
    simp [State.rateChangeEntry_eq, State.rateChangeBegun, State.stopT2, State.stopT4, State.linkPause, State.stopT3]
  timers := by
    simp [State.rateChangeEntry_eq, State.rateChangeBegun, State.stopT2, State.stopT4, State.linkPause, State.stopT3,
      Channel.stop, Channel.abandon]
  notice p hp := by
    rw [← s.rateChangeBegun_holder rung confirmed] at hp
    exact (State.raiseHolder_noticed hp _).deliverSystem
  frame := (((s.rateChangeBegun_same rung confirmed).andThen (State.raiseHolder_same _ _)).finish).mono (by simp)

/-! ### The entry to RETRAIN (R107) -/

/-- R107, R123: what the entry to RETRAIN leaves. -/
structure RetrainEntered (s t : State) (fromFarEnd : Bool) : Prop where
  phase : t.pump.phase = .retrain
  request : t.pump.request = if fromFarEnd = true then .none else .retrain
  retrains : t.pump.retrains = s.pump.retrains + 1
  stage : fromFarEnd = true → t.pump.stage = .symbols
  level : t.level = if fromFarEnd = true then s.level.stopFeed.startFeed .training else s.level.stopFeed
  link : s.pump.phase = .data → t.link.paused = true ∧ t.timers.e3.mode = .off
  stable : t.timers.e2.mode = .off
  carrier : t.timers.e4.Runs .dpu s.settings.carrierLossMs (.block .line s.settings.carrierLevel)
  notice : ∀ p : Port, s.holder = some p.party → t.Noticed p .rateChange
  frame : SameBut ([.level, .call, .ccuRest, .pump, .timer 2, .timer 4, .notices .panel] ++
    if s.pump.phase = .data then [.link, .timer 3] else []) s t

/-- R107: the link is paused by a retrain from DATA; one from RATE_CHANGE finds it paused. -/
def State.retrainPause (s : State) : State := if s.pump.phase = .data then s.linkPause else s

@[simp] theorem State.retrainPause_keeps (s : State) :
    s.retrainPause.pump = s.pump ∧ s.retrainPause.level = s.level ∧ s.retrainPause.ccu = s.ccu ∧
      s.retrainPause.settings = s.settings := by
  unfold State.retrainPause
  split <;> exact ⟨rfl, rfl, rfl, rfl⟩

theorem State.retrainPause_same (s : State) :
    SameBut (if s.pump.phase = .data then [.link, .timer 3] else []) s s.retrainPause := by
  unfold State.retrainPause
  split
  · unfold State.linkPause State.stopT3
    exact .of_parts (by simp)
  · exact .refl _ s

/-- R107: the entry from there up to its notice. -/
def State.retrainBegun (s : State) (fromFarEnd : Bool) : State :=
  let t : State :=
    { s with
      level := s.level.stopFeed,
      pump := { s.pump.clearCounts with
                phase := .retrain, retrains := s.pump.retrains + 1, confirmed := false, stage := .none,
                request := if fromFarEnd = true then .none else .retrain } }
  (t.loadT4.reportPhase (.pump .retrain)).stopT2

theorem State.retrainBegun_same (s : State) (fromFarEnd : Bool) :
    SameBut [.level, .call, .ccuRest, .pump, .timer 2, .timer 4] s (s.retrainBegun fromFarEnd) := by
  unfold State.retrainBegun State.stopT2 State.loadT4
  exact .of_parts (by simp)

theorem State.retrainBegun_holder (s : State) (fromFarEnd : Bool) : (s.retrainBegun fromFarEnd).holder = s.holder := by
  simp [State.retrainBegun, State.stopT2, State.loadT4, State.holder]

/-- R107: a retrain that the far end asked for begins its training at once. -/
def State.retrainTrains (s : State) (fromFarEnd : Bool) : State := if fromFarEnd = true then s.beginTraining else s

theorem State.retrainTrains_same (s : State) (fromFarEnd : Bool) : SameBut [.pump, .level] s (s.retrainTrains fromFarEnd) := by
  unfold State.retrainTrains
  split
  · exact s.beginTraining_same
  · exact .refl _ s

theorem State.retrainEntry_eq {s : State} (h : s.pump.retrains < 3) (fromFarEnd : Bool) :
    s.retrainEntry fromFarEnd =
      State.retrainTrains (((s.retrainPause).retrainBegun fromFarEnd).raiseHolder .rateChange) fromFarEnd :=
  if_neg (Nat.not_le.2 h)

/-- R108: the fourth retrain ends the call. -/
theorem State.retrainEntry_ends {s : State} (h : 3 ≤ s.pump.retrains) (fromFarEnd : Bool) :
    s.retrainEntry fromFarEnd = s.reportEnd .lineTooNoisy := if_pos h

theorem State.Noticed.retrainTrains {s : State} {p : Port} {x : Source} (h : s.Noticed p x) (fromFarEnd : Bool) :
    (s.retrainTrains fromFarEnd).Noticed p x := by
  unfold State.retrainTrains
  split <;> exact h

theorem State.retrainEntry_entered {s : State} (h : s.pump.retrains < 3) (fromFarEnd : Bool) :
    RetrainEntered s (s.retrainEntry fromFarEnd).deliverSystem fromFarEnd where
  phase := by
    rw [State.retrainEntry_eq h, State.retrainTrains]
    cases fromFarEnd <;> simp [State.retrainBegun, State.stopT2, State.loadT4, Pump.clearCounts]
  request := by
    rw [State.retrainEntry_eq h, State.retrainTrains]
    cases fromFarEnd <;> simp [State.retrainBegun, State.stopT2, State.loadT4, Pump.clearCounts]
  retrains := by
    rw [State.retrainEntry_eq h, State.retrainTrains]
    cases fromFarEnd <;> simp [State.retrainBegun, State.stopT2, State.loadT4, Pump.clearCounts]
  stage hfar := by
    rw [State.retrainEntry_eq h, State.retrainTrains, if_pos hfar]
    simp
  level := by
    rw [State.retrainEntry_eq h, State.retrainTrains]
    cases fromFarEnd <;> simp [State.retrainBegun, State.stopT2, State.loadT4]
  link hdata := by
    rw [State.retrainEntry_eq h, State.retrainTrains, State.retrainPause, if_pos hdata]
    cases fromFarEnd <;>
      simp [State.retrainBegun, State.stopT2, State.loadT4, State.beginTraining, State.linkPause, State.stopT3,
        Channel.stop, Channel.abandon]
  stable := by
    rw [State.retrainEntry_eq h, State.retrainTrains]
    cases fromFarEnd <;> simp [State.retrainBegun, State.stopT2, State.beginTraining, Channel.stop, Channel.abandon]
  carrier := by
    rw [State.retrainEntry_eq h, State.retrainTrains]
    cases fromFarEnd <;> simp [State.retrainBegun, State.stopT2, State.loadT4, State.beginTraining, Channel.load]
    all_goals exact ⟨rfl, rfl, rfl, rfl, rfl⟩
  notice p hp := by
    have hholder : (s.retrainPause.retrainBegun fromFarEnd).holder = some p.party := by
      rw [State.retrainBegun_holder, ← hp]
      simp [State.holder]
    rw [State.retrainEntry_eq h]
    exact ((State.raiseHolder_noticed hholder _).retrainTrains _).deliverSystem
  frame := by
    rw [State.retrainEntry_eq h]
    refine ((((s.retrainPause_same.andThen (State.retrainBegun_same _ fromFarEnd)).andThen
      (State.raiseHolder_same _ .rateChange)).andThen (State.retrainTrains_same _ _)).finish).mono ?_
    split <;> simp

/-! ### The report of a window (R91, R92) -/

/-- The window in hand, as it closes. -/
def State.windowInHand (s : State) : ClosingWindow := ⟨s.level.feed, s.level.window⟩

/-- R91, R92: the window in hand closes, and its figure and its overload are reported. -/
def State.windowReported (s : State) : State :=
  let t : State := { s with level := s.level.closeWindow s.windowInHand }
  State.reportQuality (if s.level.window.saturated = true then t.raiseHolder .qualityAlert else t) s.level.window.quality

theorem State.takeReport_data {s : State} (hmode : s.pump.mode = .data) (hphase : s.pump.phase = .data) (r : WindowReport) :
    s.takeReport r =
      (State.reportQuality (if r.overloaded = true then s.raiseHolder .qualityAlert else s) r.quality).rateDecision r := by
  by_cases hover : r.overloaded = true <;> simp [State.takeReport, hover, hmode, hphase]

/-- R92, R104: in DATA the pump judges the report. -/
theorem exec_windowClose {s : State} (hfeed : s.level.feed = .tracking) (hclosing : s.level.closing = [])
    (hfull : s.level.window.symbols = 256) (hmode : s.pump.mode = .data) (hphase : s.pump.phase = .data) :
    exec .qualityWindowClose s =
      finish (s.windowReported.rateDecision (s.windowInHand.report (s.level.closeWindow s.windowInHand).average)) := by
  have hwindow : s.level.windowFull = true := by simp [LevelMeter.windowFull, hfeed, hfull]
  have hnext : s.level.nextClosing = some s.windowInHand := LevelMeter.nextClosing_inHand hclosing hwindow
  show execQualityWindowClose s = _
  rw [execQualityWindowClose, hnext]
  exact congrArg finish (State.takeReport_data (s := { s with level := s.level.closeWindow s.windowInHand }) hmode hphase _)

/-- R91, R92: what the report leaves. -/
structure WindowReported (s t : State) : Prop where
  level : t.level = s.level.closeWindow s.windowInHand
  pump : t.pump = s.pump
  fall : t.fall = s.fall
  rise : t.rise = s.rise
  holder : t.holder = s.holder
  alert : s.level.window.saturated = true → ∀ p : Port, s.holder = some p.party → t.Noticed p .qualityAlert
  frame : SameBut [.level, .call, .notices .panel] s t

theorem State.reportQuality_same (s : State) (q : Nat) : SameBut [.call] s (s.reportQuality q) := by
  unfold State.reportQuality
  split
  · exact .of_parts (by simp)
  · exact .refl _ s

theorem State.Noticed.reportQuality {s : State} {p : Port} {x : Source} (h : s.Noticed p x) (q : Nat) :
    (s.reportQuality q).Noticed p x := by
  unfold State.reportQuality
  split <;> exact h

theorem State.windowReported_reported (s : State) : WindowReported s s.windowReported where
  level := by
    unfold State.windowReported
    split <;> simp
  pump := by
    unfold State.windowReported
    split <;> simp
  fall := by
    unfold State.windowReported State.fall
    split <;> simp
  rise := by
    unfold State.windowReported State.rise
    split <;> simp
  holder := by
    unfold State.windowReported State.holder
    split <;> simp
  alert hoverload p hp := by
    rw [State.windowReported, if_pos hoverload]
    exact (State.raiseHolder_noticed (s := { s with level := s.level.closeWindow s.windowInHand }) hp _).reportQuality _
  frame := by
    have hlevel : SameBut [.level] s { s with level := s.level.closeWindow s.windowInHand } := .of_parts (by simp)
    unfold State.windowReported
    split
    · exact ((hlevel.andThen (State.raiseHolder_same _ _)).andThen (State.reportQuality_same _ _)).mono (by simp)
    · exact (hlevel.andThen (State.reportQuality_same _ _)).mono (by simp)

/-! ### The pump's decision (R104) -/

theorem State.rateDecision_overloaded {s : State} {r : WindowReport} (h : 2 ≤ r.overloadRun) :
    s.rateDecision r = s.retrainEntry false := if_pos h

/-- R104, step 2: the below-count as it is after the report. -/
def State.belowTaken (s : State) (a : Nat) : State := { s with pump.below := s.pump.belowAfter a (s.fall s.pump.rungNow) }

/-- R104, steps 2 and 3: both counts. -/
def State.countsTaken (s : State) (a : Nat) : State :=
  { s.belowTaken a with pump := { (s.belowTaken a).pump with above := s.pump.aboveAfter a (s.rise s.pump.rungNow) } }

theorem State.belowTaken_same (s : State) (a : Nat) : SameBut [.pump] s (s.belowTaken a) := .of_parts (by simp [State.belowTaken])

theorem State.countsTaken_same (s : State) (a : Nat) : SameBut [.pump] s (s.countsTaken a) :=
  .of_parts (by simp [State.countsTaken, State.belowTaken])

theorem State.rateDecision_down {s : State} {r : WindowReport} {a : Nat} (ha : r.average.getD 0 = a) (h : r.overloadRun < 2)
    (hbelow : 4 ≤ s.pump.belowAfter a (s.fall s.pump.rungNow)) (hfloor : s.pump.negFloor.getD 0 < s.pump.rungNow) :
    s.rateDecision r = (s.belowTaken a).rateChangeEntry (s.pump.rungNow - 1) false := by
  subst ha
  rw [State.rateDecision, if_neg (Nat.not_le.2 h)]
  exact (if_pos hbelow).trans (if_pos hfloor)

theorem State.rateDecision_floor {s : State} {r : WindowReport} {a : Nat} (ha : r.average.getD 0 = a) (h : r.overloadRun < 2)
    (hbelow : 4 ≤ s.pump.belowAfter a (s.fall s.pump.rungNow)) (hfloor : s.pump.rungNow ≤ s.pump.negFloor.getD 0) :
    s.rateDecision r = (s.belowTaken a).retrainEntry false := by
  subst ha
  rw [State.rateDecision, if_neg (Nat.not_le.2 h)]
  exact (if_pos hbelow).trans (if_neg (Nat.not_lt.2 hfloor))

theorem State.rateDecision_up {s : State} {r : WindowReport} {a : Nat} (ha : r.average.getD 0 = a) (h : r.overloadRun < 2)
    (hbelow : s.pump.belowAfter a (s.fall s.pump.rungNow) < 4)
    (habove : 16 ≤ s.pump.aboveAfter a (s.rise s.pump.rungNow) ∧ s.pump.rungNow < s.pump.negCeiling.getD 7) :
    s.rateDecision r = (s.countsTaken a).rateChangeEntry (s.pump.rungNow + 1) false := by
  subst ha
  rw [State.rateDecision, if_neg (Nat.not_le.2 h)]
  exact (if_neg (Nat.not_le.2 hbelow)).trans (if_pos habove)

theorem State.rateDecision_stays {s : State} {r : WindowReport} {a : Nat} (ha : r.average.getD 0 = a) (h : r.overloadRun < 2)
    (hbelow : s.pump.belowAfter a (s.fall s.pump.rungNow) < 4)
    (habove : ¬(16 ≤ s.pump.aboveAfter a (s.rise s.pump.rungNow) ∧ s.pump.rungNow < s.pump.negCeiling.getD 7)) :
    s.rateDecision r = s.countsTaken a := by
  subst ha
  rw [State.rateDecision, if_neg (Nat.not_le.2 h)]
  exact (if_neg (Nat.not_le.2 hbelow)).trans (if_neg habove)

/-! The counts after a report, by those before it. -/

theorem Pump.belowAfter_stays {p : Pump} {a f : Nat} (h : f ≤ a ∨ p.below < 3) : p.belowAfter a f < 4 := by
  unfold Pump.belowAfter
  split <;> omega

theorem Pump.belowAfter_falls {p : Pump} {a f : Nat} (h : a < f) (hcount : 3 ≤ p.below) : 4 ≤ p.belowAfter a f := by
  rw [Pump.belowAfter, if_pos h]
  omega

theorem Pump.aboveAfter_rises {p : Pump} {a r : Nat} (h : r ≤ a) (hcount : 15 ≤ p.above) : 16 ≤ p.aboveAfter a r := by
  rw [Pump.aboveAfter, if_pos h, bump]
  omega

theorem Pump.aboveAfter_stays {p : Pump} {a r : Nat} (h : a < r ∨ p.above < 15) : p.aboveAfter a r < 16 := by
  unfold Pump.aboveAfter bump
  split <;> omega

theorem QualityWindow.runAfter_once {w : QualityWindow} (h : w.saturated = false ∨ w.overloadRun = 0) : w.runAfter < 2 := by
  rcases h with h | h <;> simp [QualityWindow.runAfter, bump, h]
  split <;> omega

theorem QualityWindow.runAfter_twice {w : QualityWindow} (h : w.saturated = true ∧ 1 ≤ w.overloadRun) : 2 ≤ w.runAfter := by
  obtain ⟨hsaturated, hrun⟩ := h
  simp only [QualityWindow.runAfter, bump, hsaturated, if_true]
  omega

/-! ### A report in DATA (R104 to R108) -/

/-- A frame that keeps the Call Record is one between the states with another last figure. -/
theorem SameBut.lastQuality {parts : List Part} {s t : State} (h : SameBut parts s t) (hcall : t.ccu.call = s.ccu.call)
    (q : Option Nat) : SameBut parts { s with ccu.call.lastQuality := q } { t with ccu.call.lastQuality := q } := by
  intro x hx hn
  have hsame := h x hx hn
  cases x
  case call => exact congrArg (fun c : CallRecord => { c with lastQuality := q }) hcall
  all_goals exact hsame

/-- R92: in a call with no end in progress the report leaves its figure in the Call Record. -/
theorem State.windowReported_active {s : State} (hactive : s.ccu.call.active = true) (hending : s.ccu.ending = none) :
    SameBut [.level, .notices .panel]
      { s with ccu.call.lastQuality := some (47 - logCode (s.level.window.acc / 256)) } s.windowReported := by
  have hlevel : SameBut [.level] s { s with level := s.level.closeWindow s.windowInHand } := .of_parts (by simp)
  unfold State.windowReported
  split
  · rw [State.reportQuality, if_pos ⟨by simpa using hactive, by simpa using hending⟩]
    exact ((hlevel.andThen (State.raiseHolder_same _ .qualityAlert)).lastQuality (by simp) _).mono (by simp)
  · rw [State.reportQuality, if_pos ⟨hactive, hending⟩]
    exact (hlevel.lastQuality rfl _).mono (by simp)

/-- R104: the pump judges the window in hand of a data call in DATA, and the average it sees is `a`. -/
structure State.JudgesWindow (s : State) (a : Nat) : Prop where
  feed : s.level.feed = .tracking
  closing : s.level.closing = []
  full : s.level.window.symbols = 256
  mode : s.pump.mode = .data
  phase : s.pump.phase = .data
  average : (s.level.average.map (fun x => trackAverage x (47 - logCode (s.level.window.acc / 256)))).getD 0 = a

section
variable {s : State} {a : Nat} (h : s.JudgesWindow a)
include h

theorem State.JudgesWindow.report_average : ((s.level.closeWindow s.windowInHand).average).getD 0 = a := by
  rw [LevelMeter.closeWindow_inHand _ h.closing, ← h.average]
  simp [LevelMeter.freshWindow, LevelMeter.take, State.windowInHand, h.feed, QualityWindow.quality]

theorem State.JudgesWindow.closed : s.level.Closed (s.level.closeWindow s.windowInHand) ⟨.tracking, s.level.window⟩ := by
  have heq : s.windowInHand = ⟨.tracking, s.level.window⟩ := by rw [State.windowInHand, h.feed]
  rw [heq]
  exact s.level.closeWindow_closed _

theorem State.JudgesWindow.window : (s.level.closeWindow s.windowInHand).window = ⟨0, 0, false, s.level.window.runAfter⟩ := by
  rw [LevelMeter.closeWindow_inHand _ h.closing]
  rfl

theorem State.JudgesWindow.closing_nil : (s.level.closeWindow s.windowInHand).closing = [] := by
  rw [LevelMeter.closeWindow_inHand _ h.closing]
  exact h.closing

theorem State.JudgesWindow.exec : exec .qualityWindowClose s =
    finish (s.windowReported.rateDecision (s.windowInHand.report (s.level.closeWindow s.windowInHand).average)) :=
  exec_windowClose h.feed h.closing h.full h.mode h.phase

/-- R104: no change is due, and the counts move. -/
theorem State.JudgesWindow.stays (hrun : s.level.window.saturated = false ∨ s.level.window.overloadRun = 0)
    (hbelow : s.fall (s.pump.rung.getD 0) ≤ a ∨ s.pump.below < 3)
    (habove : a < s.rise (s.pump.rung.getD 0) ∨ s.pump.above < 15 ∨ s.pump.negCeiling.getD 7 ≤ s.pump.rung.getD 0) :
    ∃ t, Machine.exec .qualityWindowClose s = .next t ∧ t.pump.phase = .data ∧ t.pump.rung = s.pump.rung ∧
      t.pump.below = (if a < s.fall (s.pump.rung.getD 0) then s.pump.below + 1 else 0) ∧
      t.pump.above = (if s.rise (s.pump.rung.getD 0) ≤ a then bump 16 s.pump.above else 0) ∧
      t.level.feed = .tracking ∧ t.level.closing = [] ∧
      t.level.window =
        ⟨0, 0, false, if s.level.window.saturated = true then bump 255 s.level.window.overloadRun else 0⟩ ∧
      s.level.Closed t.level ⟨.tracking, s.level.window⟩ ∧
      (s.level.window.saturated = true → ∀ p : Port, s.holder = some p.party → t.Noticed p .qualityAlert) ∧
      SameBut [.level, .call, .pump, .notices .panel] s t := by
  have hreport := s.windowReported_reported
  have hexec := h.exec
  rw [State.rateDecision_stays h.report_average (QualityWindow.runAfter_once hrun)
    (by rw [hreport.pump, hreport.fall]; exact Pump.belowAfter_stays hbelow)
    (by
      rw [hreport.pump, hreport.rise]
      rintro ⟨habove', hceiling⟩
      rcases habove with hlow | hfew | hceil
      · exact absurd (Pump.aboveAfter_stays (.inl hlow)) (Nat.not_lt.2 habove')
      · exact absurd (Pump.aboveAfter_stays (.inr hfew)) (Nat.not_lt.2 habove')
      · exact absurd hceiling (Nat.not_lt.2 hceil))] at hexec
  have hlevel : (s.windowReported.countsTaken a).level = s.level.closeWindow s.windowInHand := hreport.level
  have hpump : (s.windowReported.countsTaken a).pump = { s.pump with
      below := s.pump.belowAfter a (s.fall s.pump.rungNow), above := s.pump.aboveAfter a (s.rise s.pump.rungNow) } := by
    simp only [State.countsTaken, State.belowTaken, hreport.pump, hreport.fall, hreport.rise]
  refine ⟨_, hexec, ?_, ?_, ?_, ?_, ?_, ?_, ?_, ?_, fun hover p hp => ?_, ?_⟩
  · rw [State.deliverSystem_pump, hpump, h.phase]
  · rw [State.deliverSystem_pump, hpump]
  · rw [State.deliverSystem_pump, hpump]
    rfl
  · rw [State.deliverSystem_pump, hpump]
    rfl
  · rw [State.deliverSystem_level, hlevel, LevelMeter.closeWindow_feed, h.feed]
  · rw [State.deliverSystem_level, hlevel, h.closing_nil]
  · rw [State.deliverSystem_level, hlevel, h.window]
    rfl
  · rw [State.deliverSystem_level, hlevel]
    exact h.closed
  · exact Noticed.deliverSystem (s := s.windowReported.countsTaken a) (hreport.alert hover p hp)
  · exact ((hreport.frame.andThen (State.countsTaken_same _ _)).finish).mono (by simp)

/-- R105: the request of a rate change, after the counts of a report. -/
theorem State.JudgesWindow.changes {u : State} {rung : Nat} (hsame : SameBut [.pump] s.windowReported u)
    (hu : u.level = s.windowReported.level ∧ u.link = s.windowReported.link ∧ u.holder = s.windowReported.holder ∧
      u.pump.rung = s.pump.rung)
    (hexec : Machine.exec .qualityWindowClose s = finish (u.rateChangeEntry rung false)) :
    ∃ t, Machine.exec .qualityWindowClose s = .next t ∧ t.pump.phase = .rateChange ∧ t.pump.request = .rate rung ∧
      t.pump.confirmed = false ∧ t.pump.rung = s.pump.rung ∧ t.pump.below = 0 ∧ t.pump.above = 0 ∧
      t.level.feed = .off ∧ t.level.window = .zero ∧ s.level.Closed t.level ⟨.tracking, s.level.window⟩ ∧
      t.link.paused = true ∧ t.link.tx = .idleFill ∧
      t.timers.e2.mode = .off ∧ t.timers.e3.mode = .off ∧ t.timers.e4.mode = .off ∧
      (∀ p : Port, s.holder = some p.party → t.Noticed p .rateChange) ∧
      SameBut [.level, .call, .ccuRest, .pump, .link, .timer 2, .timer 3, .timer 4, .notices .panel] s t := by
  have hreport := s.windowReported_reported
  obtain ⟨hulevel, -, huholder, hurung⟩ := hu
  have hentered := u.rateChangeEntry_entered rung false
  obtain ⟨he2, he3, he4⟩ := hentered.timers
  rw [hreport.level] at hulevel
  refine ⟨_, hexec, by rw [hentered.pump], by rw [hentered.pump], by rw [hentered.pump], ?_, by rw [hentered.pump],
    by rw [hentered.pump], by rw [hentered.level, LevelMeter.stopFeed], by rw [hentered.level, LevelMeter.stopFeed], ?_,
    by rw [hentered.link], by rw [hentered.link], he2, he3, he4, fun p hp => hentered.notice p ?_, ?_⟩
  · rw [hentered.pump]
    exact hurung
  · rw [hentered.level, hulevel]
    exact h.closed.stopFeed
  · rw [huholder, hreport.holder, hp]
  · exact ((hreport.frame.andThen hsame).andThen hentered.frame).mono (by simp)

/-- R107: the retrain that a report brings. -/
theorem State.JudgesWindow.retrains {u : State} (hsame : SameBut [.pump] s.windowReported u)
    (hu : u.level = s.windowReported.level ∧ u.holder = s.windowReported.holder ∧ u.pump.phase = .data ∧
      u.pump.retrains = s.pump.retrains ∧ u.settings = s.windowReported.settings)
    (hexec : Machine.exec .qualityWindowClose s = finish (u.retrainEntry false)) (hbudget : s.pump.retrains < 3) :
    ∃ t, Machine.exec .qualityWindowClose s = .next t ∧ t.pump.phase = .retrain ∧ t.pump.request = .retrain ∧
      t.pump.retrains = s.pump.retrains + 1 ∧ t.level.feed = .off ∧ t.level.window = .zero ∧
      s.level.Closed t.level ⟨.tracking, s.level.window⟩ ∧ t.link.paused = true ∧
      (∀ p : Port, s.holder = some p.party → t.Noticed p .rateChange) ∧
      t.timers.e4.Runs .dpu s.settings.carrierLossMs (.block .line s.settings.carrierLevel) ∧
      SameBut [.level, .call, .ccuRest, .pump, .link, .timer 2, .timer 3, .timer 4, .notices .panel] s t := by
  have hreport := s.windowReported_reported
  obtain ⟨hulevel, huholder, huphase, huretrains, husettings⟩ := hu
  have hentered := State.retrainEntry_entered (s := u) (by rw [huretrains]; exact hbudget) false
  have hlevel : (u.retrainEntry false).deliverSystem.level = (s.level.closeWindow s.windowInHand).stopFeed := by
    rw [hentered.level, hulevel, hreport.level]
    rfl
  have hsettings : u.settings = s.settings := husettings.trans (hreport.frame .settings (by simp) (by simp))
  refine ⟨_, hexec, hentered.phase, hentered.request, by rw [hentered.retrains, huretrains],
    by rw [hlevel, LevelMeter.stopFeed], by rw [hlevel, LevelMeter.stopFeed], by rw [hlevel]; exact h.closed.stopFeed,
    (hentered.link huphase).1, fun p hp => hentered.notice p (by rw [huholder, hreport.holder, hp]),
    by rw [← hsettings]; exact hentered.carrier, ?_⟩
  have hframe := hentered.frame
  rw [if_pos huphase] at hframe
  exact ((hreport.frame.andThen hsame).andThen hframe).mono (by simp)

/-- R18, R108: the end of the call that a report brings. -/
theorem State.JudgesWindow.ends {u : State} (hsame : SameBut [.pump] s.windowReported u)
    (hu : u.pump.retrains = s.pump.retrains) (hexec : Machine.exec .qualityWindowClose s = finish (u.retrainEntry false))
    (hbudget : 3 ≤ s.pump.retrains) (hactive : s.ccu.call.active = true) (hending : s.ccu.ending = none) :
    ∃ t, Machine.exec .qualityWindowClose s = .next t ∧
      CallEnded [] { s with ccu.call.lastQuality := some (47 - logCode (s.level.window.acc / 256)) } t .lineTooNoisy := by
  have hbefore := (State.windowReported_active hactive hending).andThen hsame
  have hcall := hbefore .call (by simp) (by simp)
  have hrest := hbefore .ccuRest (by simp) (by simp)
  rw [State.retrainEntry_ends (by rw [hu]; exact hbudget)] at hexec
  refine ⟨_, hexec, CallEnded.finish ?_⟩
  exact (State.reportEnd_ended ((congrArg CallRecord.active hcall).trans hactive) (hrest.2.1.trans hending) _).after hbefore
    (by simp [endParts]) (by simp)

end

/-- R105, R107: what the counts of a report leave alone. -/
theorem State.belowTaken_leaves (s : State) (a : Nat) :
    (s.belowTaken a).level = s.level ∧ (s.belowTaken a).link = s.link ∧ (s.belowTaken a).holder = s.holder ∧
      (s.belowTaken a).settings = s.settings ∧ (s.belowTaken a).pump.rung = s.pump.rung ∧
      (s.belowTaken a).pump.phase = s.pump.phase ∧ (s.belowTaken a).pump.retrains = s.pump.retrains :=
  ⟨rfl, rfl, rfl, rfl, rfl, rfl, rfl⟩

/-- R104: the state from which a report brings a retrain. -/
theorem State.JudgesWindow.retrainsFrom {s : State} {a : Nat} (h : s.JudgesWindow a)
    (hdue : (s.level.window.saturated = true ∧ 1 ≤ s.level.window.overloadRun) ∨
      (a < s.fall (s.pump.rung.getD 0) ∧ 3 ≤ s.pump.below ∧ s.pump.rung.getD 0 ≤ s.pump.negFloor.getD 0)) :
    ∃ u, Machine.exec .qualityWindowClose s = finish (u.retrainEntry false) ∧ SameBut [.pump] s.windowReported u ∧
      u.level = s.windowReported.level ∧ u.holder = s.windowReported.holder ∧ u.pump.phase = .data ∧
      u.pump.retrains = s.pump.retrains ∧ u.settings = s.windowReported.settings := by
  have hreport := s.windowReported_reported
  by_cases hrun : 2 ≤ s.level.window.runAfter
  · exact ⟨_, h.exec.trans (congrArg finish (State.rateDecision_overloaded hrun)), .refl _ _, rfl, rfl,
      by rw [hreport.pump, h.phase], by rw [hreport.pump], rfl⟩
  · obtain hover | ⟨hfall, hbelow, hfloor⟩ := hdue
    · exact absurd (QualityWindow.runAfter_twice hover) hrun
    · refine ⟨s.windowReported.belowTaken a, h.exec.trans (congrArg finish (State.rateDecision_floor h.report_average
        (Nat.lt_of_not_le hrun) ?_ ?_)), State.belowTaken_same _ a, rfl, rfl, ?_, ?_, rfl⟩
      · rw [hreport.pump, hreport.fall]
        exact Pump.belowAfter_falls hfall hbelow
      · rw [hreport.pump]
        exact hfloor
      · exact (congrArg Pump.phase hreport.pump).trans h.phase
      · show s.windowReported.pump.retrains = _
        rw [hreport.pump]

/-! ### What the far end asks for (R105, R106) -/

theorem farEndRateRequest_changes {s : State} (hphase : s.pump.phase = .data) (m : Byte) :
    exec (.farEndRateRequest m) s = finish (s.rateChangeEntry (s.pump.clampRung m.toNat) true) := by
  show execFarEndRateRequest m s = _
  rw [execFarEndRateRequest, hphase]

theorem farEndRetrainRequest_retrains {s : State} (hphase : s.pump.phase = .data ∨ s.pump.phase = .rateChange) :
    exec .farEndRetrainRequest s = finish (s.retrainEntry true) := congrArg finish (if_pos hphase)

theorem rateConfirmTimeout_retrains {s : State} (hphase : s.pump.phase = .rateChange) (hwaits : s.pump.confirmed = false) :
    exec .rateConfirmTimeout s = finish (s.retrainEntry false) := congrArg finish (if_pos ⟨hphase, hwaits⟩)

/-- R105: a request that is answered, from either side. -/
theorem rateRequest_answered {s : State} {n : Nat} (hphase : s.pump.phase = .rateChange) (hrequest : s.pump.request = .rate n)
    (hwaits : s.pump.confirmed = false) (m : Byte) :
    (∃ t, exec (.farEndRateRequest m) s = .next t ∧
      t.pump = { s.pump with request := .rate (s.pump.clampRung (min n m.toNat)),
                             rung := some (s.pump.clampRung (min n m.toNat)), confirmed := true } ∧
      SameBut [.pump] s t) ∧
    (∃ t, exec .rateConfirmReceived s = .next t ∧ t.pump = { s.pump with rung := some n, confirmed := true } ∧
      SameBut [.pump] s t) := by
  constructor
  · have hexec : exec (.farEndRateRequest m) s = finish { s with pump := { s.pump with
        request := .rate (s.pump.clampRung (min n m.toNat)), rung := some (s.pump.clampRung (min n m.toNat)),
        confirmed := true } } := by
      show execFarEndRateRequest m s = _
      rw [execFarEndRateRequest, hphase, hrequest, hwaits]
    exact ⟨_, hexec, by simp, (s.pumpSet_same _).finish⟩
  · have hexec : exec .rateConfirmReceived s =
        finish { s with pump := { s.pump with rung := some n, confirmed := true } } := by
      show execRateConfirmReceived s = _
      rw [execRateConfirmReceived, hphase, hrequest, hwaits]
    exact ⟨_, hexec, by simp, (s.pumpSet_same _).finish⟩

/-- R107: the training that follows the pump's own request. -/
theorem retrainRequestSent_trains {s : State} (hphase : s.pump.phase = .retrain) (hrequest : s.pump.request = .retrain) :
    ∃ t, exec .retrainRequestSent s = .next t ∧ t.pump.request = .none ∧ t.pump.stage = .symbols ∧
      t.pump.rung = s.pump.rung ∧ t.level.feed = .training ∧ SameBut [.pump, .level] s t := by
  have hexec : exec .retrainRequestSent s =
      finish (State.beginTraining { s with pump := { s.pump with request := .none } }) :=
    congrArg finish (if_pos ⟨hphase, hrequest⟩)
  exact ⟨_, hexec, by simp [Pump.clearCounts], by simp, by simp [Pump.clearCounts], by simp [LevelMeter.startFeed],
    (((s.pumpSet_same _).andThen (State.beginTraining_same _)).finish).mono (by simp)⟩

/-- R108: 30 s of stability restore the budget. -/
theorem retrainStableExpiry_restores {s : State} (hdue : s.DueT2 .stable) (hphase : s.pump.phase = .data) :
    ∃ t, exec .retrainStableExpiry s = .next t ∧ t.pump = { s.pump with retrains := 0 } ∧
      SameBut [.pump, .timer 2] s t := by
  obtain ⟨c, hc⟩ := State.takeT2_of_due hdue
  have hexec : exec .retrainStableExpiry s =
      finish { s with timers.e2 := c, pump := { s.pump with retrains := 0 } } := by
    show execRetrainStableExpiry s = _
    rw [execRetrainStableExpiry, hc]
    exact congrArg finish (if_pos hphase)
  exact ⟨_, hexec, by simp, (SameBut.of_parts (by simp) : SameBut [.pump, .timer 2] s _).finish⟩

/-- Settles O46: the window in hand by the pump's decision, then the rows of the far end and of the retrain. -/
theorem rungsChanged : Obligations.RungsChanged := by
  refine ⟨fun a s hfeed hclosing hfull hmode hphase haverage => ?_, fun s => ⟨fun m hphase => ?_,
    fun n m hphase hrequest hwaits => rateRequest_answered hphase hrequest hwaits m, fun hphase hbudget => ?_,
    fun hphase hbudget hactive hending => ?_, fun hphase hwaits => ⟨fun hbudget => ?_, fun hbudget hactive hending => ?_⟩,
    fun hphase hrequest => retrainRequestSent_trains hphase hrequest,
    fun hdue hphase => retrainStableExpiry_restores hdue hphase⟩⟩
  · have h : s.JudgesWindow a := ⟨hfeed, hclosing, hfull, hmode, hphase, haverage⟩
    have hreport := s.windowReported_reported
    have hrung : s.windowReported.pump.rung = s.pump.rung := by rw [hreport.pump]
    refine ⟨fun hrun => ⟨fun hbelow => ⟨fun habove => h.stays hrun hbelow habove, fun hrise hcount hceiling => ?_⟩,
      fun hfall hcount hfloor => ?_⟩, fun hdue => ⟨fun hbudget => ?_, fun hbudget hactive hending => ?_⟩⟩
    · have hexec := h.exec
      rw [State.rateDecision_up h.report_average (QualityWindow.runAfter_once hrun)
        (by rw [hreport.pump, hreport.fall]; exact Pump.belowAfter_stays hbelow)
        (by rw [hreport.pump, hreport.rise]; exact ⟨Pump.aboveAfter_rises hrise hcount, hceiling⟩), hreport.pump] at hexec
      obtain ⟨t, hnext, hp, hrequest, hconfirmed, -, -, -, hoff, hzero, hclosed, hpaused, -, -, -, -, hnotice, hsame⟩ :=
        h.changes (State.countsTaken_same _ a) ⟨rfl, rfl, rfl, hrung⟩ hexec
      exact ⟨t, hnext, hp, hrequest, hconfirmed, hpaused, hoff, hzero, hclosed, hnotice, hsame⟩
    · have hexec := h.exec
      rw [State.rateDecision_down h.report_average (QualityWindow.runAfter_once hrun)
        (by rw [hreport.pump, hreport.fall]; exact Pump.belowAfter_falls hfall hcount)
        (by rw [hreport.pump]; exact hfloor), hreport.pump] at hexec
      exact h.changes (State.belowTaken_same _ a) ⟨rfl, rfl, rfl, hrung⟩ hexec
    · obtain ⟨u, hexec, hsame, hu⟩ := h.retrainsFrom hdue
      exact h.retrains hsame hu hexec hbudget
    · obtain ⟨u, hexec, hsame, -, -, -, hcount, -⟩ := h.retrainsFrom hdue
      exact h.ends hsame hcount hexec hbudget hactive hending
  · have hentered := s.rateChangeEntry_entered (s.pump.clampRung m.toNat) true
    exact ⟨_, farEndRateRequest_changes hphase m, by rw [hentered.pump], by rw [hentered.pump], by rw [hentered.pump]; rfl,
      by rw [hentered.pump], by rw [hentered.level, LevelMeter.stopFeed], by rw [hentered.level, LevelMeter.stopFeed],
      by rw [hentered.link], hentered.timers.1, hentered.timers.2.2, hentered.notice, hentered.frame⟩
  · have hentered := State.retrainEntry_entered hbudget true
    refine ⟨_, farEndRetrainRequest_retrains hphase, hentered.phase, hentered.retrains, hentered.request, hentered.stage rfl,
      ?_, ?_, hentered.notice, hentered.link, hentered.stable, hentered.carrier, hentered.frame.mono ?_⟩
    · rw [hentered.level, if_pos rfl, LevelMeter.startFeed]
    · rw [hentered.level, if_pos rfl, LevelMeter.startFeed, LevelMeter.stopFeed, if_pos rfl]
    · split <;> simp
  · refine ⟨_, farEndRetrainRequest_retrains hphase, ?_⟩
    rw [State.retrainEntry_ends hbudget]
    exact (State.reportEnd_ended hactive hending _).finish
  · have hentered := State.retrainEntry_entered hbudget false
    refine ⟨_, rateConfirmTimeout_retrains hphase hwaits, hentered.phase, hentered.request, hentered.retrains,
      hentered.notice, hentered.frame.mono ?_⟩
    simp [hphase]
  · refine ⟨_, rateConfirmTimeout_retrains hphase hwaits, ?_⟩
    rw [State.retrainEntry_ends hbudget]
    exact (State.reportEnd_ended hactive hending _).finish

end Sys2Proof.Machine
end

section
/-! PROOFS. The Link Engine: setup, the link timer and clearing (R114, R115, R120, R125). -/

namespace Sys2Proof.Machine

/-! ### The expiry of T3 is taken -/

theorem Channel.takeA_keeps_off {c d : Channel} {own : Nat} (h : c.takeA own = some d) (hoff : c.mode = .off) : d.mode = .off := by
  rw [Channel.takeA_off own hoff] at h
  split at h
  · obtain rfl := Option.some.inj h
    exact hoff
  · cases h

theorem State.takeT3_of_due {s : State} (hdue : s.timers.e3.Due) :
    ∃ c, s.takeT3 = some { s with timers.e3 := c } ∧ (s.timers.e3.mode = .off → c.mode = .off) := by
  obtain ⟨c, hc⟩ := Channel.takeA_of_due hdue 3
  exact ⟨c, by rw [State.takeT3, hc]; rfl, Channel.takeA_keeps_off hc⟩

/-! ### Online (R115) -/

theorem State.Noticed.requestData {s : State} {p : Port} {x : Source} (h : s.Noticed p x) : s.requestData.Noticed p x := by
  unfold State.requestData State.enterData
  repeat' split
  all_goals exact h

theorem State.online_noticed {s : State} {p : Port} (h : s.holder = some p.party) : s.online.Noticed p .linkState :=
  (State.raiseHolder_noticed h _).requestData

/-- R114, R115: the link is up, and its holder is told. -/
structure Online (s t : State) : Prop where
  stopped : t.timers.e3.mode = .off
  enters : t.sys.data = true ∨ t.sys.entryDue = true
  notice : ∀ p : Port, s.holder = some p.party → t.Noticed p .linkState
  frame : SameBut [.link, .timer 3, .timer 5, .systemPort, .notices .panel] s t

theorem State.online_online {s : State} {l : Link}
    (h : l.outbound = s.link.outbound ∧ l.inbound = s.link.inbound ∧ l.stats = s.link.stats) :
    Online s (State.online { s.stopT3 with link := l }) where
  stopped := by simp [State.online, State.stopT3, Channel.stop, Channel.abandon]
  enters := State.requestData_enters _
  notice p hp := State.online_noticed (s := { s.stopT3 with link := l }) hp
  frame := (((State.stopT3_same s).andThen (State.linkSet_same s.stopT3 (l := l) h)).andThen (State.online_same _)).mono
    (by simp)

theorem Online.finish {s t : State} (h : Online s t) : Online s t.deliverSystem where
  stopped := by simpa using h.stopped
  enters := by simpa using h.enters
  notice p hp := (h.notice p hp).deliverSystem
  frame := h.frame.finish

theorem State.enterDirect_online (s : State) : Online s s.enterDirect ∧ s.enterDirect.link.mode = .direct :=
  ⟨State.online_online (l := s.link.direct) ⟨rfl, rfl, rfl⟩, by simp [State.enterDirect, State.online]⟩

/-- R115: the link as LINKED is entered with the far end's values. -/
def Link.linked (l : Link) (peer : Nat × Nat) : Link :=
  { l with
    mode := .linked, windowSize := min l.offer.1 (clamp 1 7 peer.1), payloadSize := min l.offer.2 (roundPayload peer.2),
    vs := 0, vr := 0, retries := 0, peerBusy := false, ownBusy := false, ackOwed := false, busyAckOwed := false,
    rejectOwed := false, clearOwed := false, reqDue := false }

theorem State.enterLinked_eq (s : State) (peer : Nat × Nat) :
    s.enterLinked peer = State.online { s.stopT3 with link := s.link.linked peer } := rfl

theorem State.enterLinked_online (s : State) (peer : Nat × Nat) :
    Online s (s.enterLinked peer) ∧ (s.enterLinked peer).link = s.link.linked peer := by
  rw [State.enterLinked_eq]
  exact ⟨State.online_online ⟨rfl, rfl, rfl⟩, by simp [State.online]⟩

/-- A frame before the link is online. -/
theorem Online.after {s s' t : State} {parts : List Part} (h : Online s' t) (hsame : SameBut parts s s')
    (hholder : s'.holder = s.holder) :
    t.timers.e3.mode = .off ∧ (t.sys.data = true ∨ t.sys.entryDue = true) ∧
      (∀ p : Port, s.holder = some p.party → t.Noticed p .linkState) ∧
      SameBut (parts ++ [.link, .timer 3, .timer 5, .systemPort, .notices .panel]) s t :=
  ⟨h.stopped, h.enters, fun p hp => h.notice p (hholder.trans hp), hsame.andThen h.frame⟩

/-! ### Link setup (R114, R115) -/

theorem State.countGood_same (s : State) : SameBut [.stats] s { s with link := s.link.countGood } :=
  .of_parts (by simp [Link.countGood])

theorem State.takenT3_same (s : State) (c : Channel) : SameBut [.timer 3] s { s with timers.e3 := c } := .of_parts (by simp)

section
variable {s : State} (hmode : s.link.mode = .setup)
include hmode

/-- R114: the next request, or what three unanswered ones bring. -/
theorem exec_linkReqTimerExpiry {t : State} (ht : s.takeT3 = some t) :
    exec .linkReqTimerExpiry s = finish
      (if t.link.attempts < 3 then State.loadReq { t with link.reqDue := true, link.attempts := t.link.attempts + 1 }
       else if t.link.policy = .require then t.reportEnd .noLink else t.enterDirect) := by
  show execLinkReqTimerExpiry s = _
  rw [execLinkReqTimerExpiry, if_pos hmode, ht]

theorem linkReqTimerExpiry_asks (hdue : s.timers.e3.Due) (hattempts : s.link.attempts < 3) :
    ∃ t, exec .linkReqTimerExpiry s = .next t ∧ t.link.reqDue = true ∧ t.link.attempts = s.link.attempts + 1 ∧
      (s.link.paused = false → t.timers.e3.Runs .lke 1000 .none) ∧
      (s.link.paused = true → s.timers.e3.mode = .off → t.timers.e3.mode = .off) ∧ SameBut [.link, .timer 3] s t := by
  obtain ⟨c, hc, hoff⟩ := State.takeT3_of_due hdue
  have hexec := exec_linkReqTimerExpiry hmode hc
  rw [if_pos hattempts] at hexec
  have hsame : SameBut [.link, .timer 3] s (State.loadReq { s with
      timers.e3 := c, link := { s.link with reqDue := true, attempts := s.link.attempts + 1 } }) := by
    unfold State.loadReq State.loadT3
    split <;> exact .of_parts (by simp)
  refine ⟨_, hexec, ?_, ?_, fun hpaused => ?_, fun hpaused hmode => ?_, hsame.finish⟩
  · rw [State.deliverSystem_link, State.loadReq]
    split <;> rfl
  · rw [State.deliverSystem_link, State.loadReq]
    split <;> rfl
  · rw [State.deliverSystem_timers, State.loadReq, if_neg (by simp [hpaused])]
    exact State.loadT3_runs _ _
  · rw [State.deliverSystem_timers, State.loadReq, if_pos hpaused]
    exact hoff hmode

theorem linkReqTimerExpiry_direct (hdue : s.timers.e3.Due) (hattempts : 3 ≤ s.link.attempts)
    (hpolicy : s.link.policy ≠ .require) :
    ∃ t, exec .linkReqTimerExpiry s = .next t ∧ t.link.mode = .direct ∧ t.timers.e3.mode = .off ∧
      (t.sys.data = true ∨ t.sys.entryDue = true) ∧
      (∀ p : Port, s.holder = some p.party → t.Noticed p .linkState) ∧
      SameBut [.link, .timer 3, .timer 5, .systemPort, .notices .panel] s t := by
  obtain ⟨c, hc, -⟩ := State.takeT3_of_due hdue
  have hexec := exec_linkReqTimerExpiry hmode hc
  rw [if_neg (Nat.not_lt.2 hattempts), if_neg hpolicy] at hexec
  obtain ⟨honline, hdirect⟩ := State.enterDirect_online { s with timers.e3 := c }
  obtain ⟨hstopped, henters, hnotice, hsame⟩ := honline.finish.after (s.takenT3_same c) rfl
  exact ⟨_, hexec, by rw [State.deliverSystem_link, hdirect], hstopped, henters, hnotice, hsame.mono (by simp)⟩

theorem linkReqTimerExpiry_ends (hdue : s.timers.e3.Due) (hattempts : 3 ≤ s.link.attempts)
    (hpolicy : s.link.policy = .require) (hactive : s.ccu.call.active = true) (hending : s.ccu.ending = none) :
    ∃ t, exec .linkReqTimerExpiry s = .next t ∧ CallEnded [] s t .noLink := by
  obtain ⟨c, hc, -⟩ := State.takeT3_of_due hdue
  have hexec := exec_linkReqTimerExpiry hmode hc
  rw [if_neg (Nat.not_lt.2 hattempts), if_pos hpolicy] at hexec
  exact ⟨_, hexec, ((State.reportEnd_ended (s := { s with timers.e3 := c }) hactive hending _).after (s.takenT3_same c)
    (by simp [endParts]) (by simp)).finish⟩

theorem linkReqReceived_confirms (hpaused : s.link.paused = false) (w p : Byte) :
    ∃ t, exec (.linkReqReceived w p) s = .next t ∧ t.link.confDue = true ∧ t.link.confSetup = true ∧
      t.link.peerOffer = (w.toNat, p.toNat) ∧ t.link.mode = .setup ∧
      t.link.stats = { s.link.stats with good := bump 65535 s.link.stats.good } ∧ SameBut [.link, .stats] s t := by
  have hmode' : s.link.countGood.mode = .setup := hmode
  have hexec : exec (.linkReqReceived w p) s = finish { s with link := { s.link.countGood with
      confDue := true, confSetup := true, peerOffer := (w.toNat, p.toNat) } } := by
    show execLinkReqReceived w p s = _
    simp only [execLinkReqReceived, hmode']
    exact congrArg finish (if_pos ⟨hpaused, .inl hmode⟩)
  have hsame : SameBut [.link, .stats] s { s with link := { s.link.countGood with
      confDue := true, confSetup := true, peerOffer := (w.toNat, p.toNat) } } := .of_parts (by simp [Link.countGood])
  exact ⟨_, hexec, by simp, by simp, by simp, by simp [hmode'], by simp; rfl, hsame.finish⟩

theorem linkConfReceived_links (hpaused : s.link.paused = false) (w p : Byte) :
    ∃ t, exec (.linkConfReceived w p) s = .next t ∧ t.link.mode = .linked ∧
      t.link.windowSize = min s.link.offer.1 (clamp 1 7 w.toNat) ∧
      t.link.payloadSize = min s.link.offer.2 (roundPayload p.toNat) ∧ t.link.vs = 0 ∧ t.link.vr = 0 ∧
      t.timers.e3.mode = .off ∧ (t.sys.data = true ∨ t.sys.entryDue = true) ∧
      (∀ p : Port, s.holder = some p.party → t.Noticed p .linkState) ∧
      SameBut [.link, .stats, .timer 3, .timer 5, .systemPort, .notices .panel] s t := by
  have hexec : exec (.linkConfReceived w p) s =
      finish (State.enterLinked { s with link := s.link.countGood } (w.toNat, p.toNat)) := by
    show execLinkConfReceived w p s = _
    rw [execLinkConfReceived, if_pos ⟨hpaused, .inl hmode⟩]
    exact congrArg finish (if_pos hmode)
  obtain ⟨honline, hlink⟩ := State.enterLinked_online { s with link := s.link.countGood } (w.toNat, p.toNat)
  obtain ⟨hstopped, henters, hnotice, hsame⟩ := honline.finish.after s.countGood_same rfl
  refine ⟨_, hexec, ?_, ?_, ?_, ?_, ?_, hstopped, henters, hnotice, hsame.mono (by simp)⟩ <;>
    rw [State.deliverSystem_link, hlink] <;> rfl

theorem linkConfSent_links {w p : Nat} (htx : s.link.tx = .link (.linkConf w p)) :
    ∃ t, exec .linkConfSent s = .next t ∧ t.link.mode = .linked ∧
      t.link.windowSize = min s.link.offer.1 (clamp 1 7 s.link.peerOffer.1) ∧
      t.link.payloadSize = min s.link.offer.2 (roundPayload s.link.peerOffer.2) ∧ t.link.tx = .idleFill ∧
      t.timers.e3.mode = .off ∧ (t.sys.data = true ∨ t.sys.entryDue = true) ∧
      (∀ p : Port, s.holder = some p.party → t.Noticed p .linkState) ∧
      SameBut [.link, .timer 3, .timer 5, .systemPort, .notices .panel] s t := by
  have hexec : exec .linkConfSent s =
      finish (State.enterLinked { s with link := { s.link with tx := .idleFill } } s.link.peerOffer) := by
    show execLinkConfSent s = _
    rw [execLinkConfSent, if_pos (by rw [htx]; rfl)]
    exact congrArg finish (if_pos hmode)
  obtain ⟨honline, hlink⟩ :=
    State.enterLinked_online { s with link := { s.link with tx := .idleFill } } s.link.peerOffer
  obtain ⟨hstopped, henters, hnotice, hsame⟩ :=
    honline.finish.after (s.linkSet_same (l := { s.link with tx := .idleFill }) ⟨rfl, rfl, rfl⟩) rfl
  refine ⟨_, hexec, ?_, ?_, ?_, ?_, hstopped, henters, hnotice, hsame.mono (by simp)⟩ <;>
    rw [State.deliverSystem_link, hlink] <;> rfl

end

/-- Settles O49: the expiry by the requests sent and the policy, then the frames of the far end and the confirmation's end. -/
theorem linkSetUp : Obligations.LinkSetUp := fun _ hmode =>
  ⟨linkReqTimerExpiry_asks hmode, linkReqTimerExpiry_direct hmode, linkReqTimerExpiry_ends hmode,
    fun w p hpaused => ⟨linkReqReceived_confirms hmode hpaused w p, linkConfReceived_links hmode hpaused w p⟩,
    fun _ _ htx => linkConfSent_links hmode htx⟩

end Sys2Proof.Machine
end

section
/-! PROOFS. The link timer and the clearing (R120, R125). -/

namespace Sys2Proof.Machine

/-! ### The link timer (R120) -/

/-- R120, R126: the expiry of the link timer is counted, `n` unanswered so far. -/
def State.linkExpired (s : State) (c : Channel) (n : Nat) : State :=
  { s with
    timers.e3 := c,
    link := { s.link with retries := n, stats := { s.link.stats with expiries := bump 65535 s.link.stats.expiries } } }

theorem State.linkExpired_same (s : State) (c : Channel) (n : Nat) :
    SameBut [.link, .stats, .timer 3] s (s.linkExpired c n) := .of_parts (by simp [State.linkExpired])

theorem State.resendWindow_same (s : State) : SameBut [.link, .timer 3] s s.resendWindow := by
  unfold State.resendWindow State.loadT3
  dsimp only
  repeat' split
  · exact .refl _ s
  all_goals exact .of_parts (by simp)

/-- A frame before the end of a call. -/
theorem SameBut.before_end {parts more : List Part} {s u t : State} (h : SameBut parts s u)
    (hparts : parts ⊆ endParts s ++ more) (hends : endParts u = endParts s) (hframe : SameBut (endParts u ++ []) u t) :
    SameBut (endParts s ++ more) s t := by
  rw [List.append_nil, hends] at hframe
  exact (h.mono hparts).trans (hframe.mono (List.subset_append_left _ _))

section
variable {s : State} (hmode : s.link.mode = .linked)
include hmode

theorem exec_linkTimerExpiry_busy {c : Channel} (hc : s.takeT3 = some { s with timers.e3 := c })
    (hbusy : s.link.peerBusy = true) :
    exec .linkTimerExpiry s = finish (s.linkExpired c s.link.retries).resendWindow := by
  show execLinkTimerExpiry s = _
  rw [execLinkTimerExpiry, if_pos hmode, hc]
  exact congrArg finish (if_pos hbusy)

theorem exec_linkTimerExpiry_counts {c : Channel} (hc : s.takeT3 = some { s with timers.e3 := c })
    (hbusy : s.link.peerBusy = false) (hfew : s.link.retries < 31) :
    exec .linkTimerExpiry s = finish
      (if s.settings.linkRetryLimit < s.link.retries + 1 then
        (s.linkExpired c (s.link.retries + 1)).reportEnd .linkFailed
       else (s.linkExpired c (s.link.retries + 1)).resendWindow) := by
  have hbump : bump 31 s.link.retries = s.link.retries + 1 := Nat.min_eq_right hfew
  rw [← hbump]
  show execLinkTimerExpiry s = _
  rw [execLinkTimerExpiry, if_pos hmode, hc]
  exact congrArg finish (if_neg (by simp [hbusy]))

/-- R120: short of the limit the window is sent again. -/
theorem linkTimerExpiry_resends (hdue : s.timers.e3.Due)
    (hlimit : s.link.peerBusy = true ∨ s.link.retries + 1 ≤ s.settings.linkRetryLimit) (hfew : s.link.retries < 31) :
    ∃ c, exec .linkTimerExpiry s = finish
        (s.linkExpired c (if s.link.peerBusy = true then s.link.retries else s.link.retries + 1)).resendWindow ∧
      (s.timers.e3.mode = .off → c.mode = .off) := by
  obtain ⟨c, hc, hoff⟩ := State.takeT3_of_due hdue
  refine ⟨c, ?_, hoff⟩
  by_cases hbusy : s.link.peerBusy = true
  · rw [exec_linkTimerExpiry_busy hmode hc hbusy, if_pos hbusy]
  · have hwithin : ¬s.settings.linkRetryLimit < s.link.retries + 1 := Nat.not_lt.2 (hlimit.resolve_left hbusy)
    rw [exec_linkTimerExpiry_counts hmode hc (Bool.eq_false_iff.2 hbusy) hfew, if_neg hwithin, if_neg hbusy]

/-- R120, R123: with nothing unacknowledged, or the link paused, T3 is not loaded. -/
theorem linkTimerExpiry_rests (hdue : s.timers.e3.Due)
    (hlimit : s.link.peerBusy = true ∨ s.link.retries + 1 ≤ s.settings.linkRetryLimit) (hfew : s.link.retries < 31)
    (hrests : s.link.window = [] ∨ s.link.paused = true) :
    ∃ t, exec .linkTimerExpiry s = .next t ∧ t.link.window = s.link.window ∧
      (s.link.window = [] → t.link.resendMark = s.link.resendMark) ∧
      (s.link.window ≠ [] → t.link.resendMark = some s.link.va) ∧
      t.link.stats = { s.link.stats with expiries := bump 65535 s.link.stats.expiries } ∧
      (s.timers.e3.mode = .off → t.timers.e3.mode = .off) ∧ SameBut [.link, .stats, .timer 3] s t := by
  obtain ⟨c, hexec, hoff⟩ := linkTimerExpiry_resends hmode hdue hlimit hfew
  set n := if s.link.peerBusy = true then s.link.retries else s.link.retries + 1
  have hsame : SameBut [.link, .stats, .timer 3] s (s.linkExpired c n).resendWindow :=
    ((s.linkExpired_same c n).andThen (State.resendWindow_same _)).mono (by simp)
  by_cases hwindow : s.link.window = []
  · have hstays : (s.linkExpired c n).resendWindow = s.linkExpired c n := if_pos hwindow
    rw [hstays] at hexec hsame
    exact ⟨_, hexec, by simp [State.linkExpired], fun _ => by simp [State.linkExpired], fun hne => absurd hwindow hne,
      by simp [State.linkExpired], fun h => by simpa [State.linkExpired] using hoff h, hsame.finish⟩
  · have hpaused : s.link.paused = true := hrests.resolve_left hwindow
    have hmarks : (s.linkExpired c n).resendWindow = { s.linkExpired c n with
        link := { (s.linkExpired c n).link with resendMark := some s.link.va } } :=
      (if_neg hwindow).trans (if_pos hpaused)
    rw [hmarks] at hexec hsame
    exact ⟨_, hexec, by simp [State.linkExpired], fun he => absurd he hwindow, fun _ => by simp,
      by simp [State.linkExpired], fun h => by simpa [State.linkExpired] using hoff h, hsame.finish⟩

theorem linkTimerExpiry_runs (hdue : s.timers.e3.Due)
    (hlimit : s.link.peerBusy = true ∨ s.link.retries + 1 ≤ s.settings.linkRetryLimit) (hfew : s.link.retries < 31)
    (hwindow : s.link.window ≠ []) (hpaused : s.link.paused = false) :
    ∃ t, exec .linkTimerExpiry s = .next t ∧ t.link.resendMark = some s.link.va ∧
      t.link.retries = (if s.link.peerBusy = true then s.link.retries else s.link.retries + 1) ∧
      t.link.stats = { s.link.stats with expiries := bump 65535 s.link.stats.expiries } ∧
      t.timers.e3.Runs .lke s.settings.linkTimerMs .none ∧ SameBut [.link, .stats, .timer 3] s t := by
  obtain ⟨c, hexec, -⟩ := linkTimerExpiry_resends hmode hdue hlimit hfew
  set n := if s.link.peerBusy = true then s.link.retries else s.link.retries + 1
  have hsame : SameBut [.link, .stats, .timer 3] s (s.linkExpired c n).resendWindow :=
    ((s.linkExpired_same c n).andThen (State.resendWindow_same _)).mono (by simp)
  have hloads : (s.linkExpired c n).resendWindow = State.loadT3 { s.linkExpired c n with
      link := { (s.linkExpired c n).link with resendMark := some s.link.va } } s.settings.linkTimerMs :=
    (if_neg hwindow).trans (if_neg (by simp [State.linkExpired, hpaused]))
  rw [hloads] at hexec hsame
  exact ⟨_, hexec, by rw [State.deliverSystem_link]; rfl, by rw [State.deliverSystem_link]; rfl,
    by rw [State.deliverSystem_link]; rfl, by rw [State.deliverSystem_timers]; exact State.loadT3_runs _ _,
    hsame.finish⟩

/-- R120: past the limit the link fails. -/
theorem linkTimerExpiry_fails (hdue : s.timers.e3.Due) (hbusy : s.link.peerBusy = false)
    (hlimit : s.settings.linkRetryLimit ≤ s.link.retries) (hfew : s.link.retries < 31)
    (hactive : s.ccu.call.active = true) (hending : s.ccu.ending = none) :
    ∃ t, exec .linkTimerExpiry s = .next t ∧ t.ccu.line = .releasing ∧ t.ccu.call.active = false ∧
      t.ccu.call.cause = some .linkFailed ∧ t.link.mode = .off ∧ t.pump = .idle ∧ t.lif.relayClosed = false ∧
      t.LoadedT2 .guard 1500 .none ∧
      t.link.stats = { s.link.stats with expiries := bump 65535 s.link.stats.expiries } ∧
      SameBut (endParts s ++ [.stats]) s t := by
  obtain ⟨c, hc, -⟩ := State.takeT3_of_due hdue
  have hexec := exec_linkTimerExpiry_counts hmode hc hbusy hfew
  rw [if_pos (Nat.lt_succ_of_le hlimit)] at hexec
  have hends := (State.reportEnd_ended (s := s.linkExpired c (s.link.retries + 1)) hactive hending .linkFailed).finish
  obtain ⟨hpump, hlink, -⟩ := hends.engines
  refine ⟨_, hexec, hends.line, by rw [hends.call.1], by rw [hends.call.1], by rw [hlink]; rfl, hpump, hends.relay.1,
    hends.guard, by rw [hlink]; rfl, ?_⟩
  exact (s.linkExpired_same c _).before_end (by simp [endParts]) rfl hends.frame

end

/-! ### Clearing (R125) -/

theorem State.judgeCts_same (s : State) : SameBut [.systemPort] s s.judgeCts := by
  unfold State.judgeCts
  split
  · exact .of_parts (by simp)
  · exact .refl _ s

theorem State.judgeCts_cts {s : State} (h : s.sys.data = true) :
    s.judgeCts.sys.cts = ctsAfter s.sys.cts s.link.outbound.length := by
  rw [State.judgeCts, if_pos h]

theorem State.judgeCts_idle {s : State} (h : s.sys.data = false) : s.judgeCts = s := if_neg (by simp [h])

/-- R125: the far end's CLEAR is answered, up to CTS. -/
def State.clearAnswered (s : State) : State :=
  { s.stopT3 with link := { s.link.countGood.beginClearing with byFarEnd := true } }

theorem State.clearAnswered_same (s : State) : SameBut [.link, .stats, .outbound, .timer 3] s s.clearAnswered :=
  .of_parts (by simp [State.clearAnswered, State.stopT3, Link.beginClearing, Link.countGood])

section
variable {s : State} (hpaused : s.link.paused = false)
include hpaused

theorem clearReceived_answers (hmode : s.link.mode = .linked) :
    ∃ t, exec .clearReceived s = .next t ∧ t.link.mode = .clearing ∧ t.link.byFarEnd = true ∧
      t.link.clearOwed = true ∧ t.link.window = [] ∧ t.link.outbound = [] ∧ t.timers.e3.mode = .off ∧
      (s.sys.data = true → t.sys.cts = true) ∧ SameBut [.link, .stats, .outbound, .timer 3, .systemPort] s t := by
  have hexec : exec .clearReceived s = finish s.clearAnswered.judgeCts := by
    show execClearReceived s = _
    simp only [execClearReceived, if_neg (show ¬s.link.paused = true by simp [hpaused]), hmode]
    rfl
  have hsame := (s.clearAnswered_same.andThen (State.judgeCts_same _)).finish
  refine ⟨_, hexec, ?_, ?_, ?_, ?_, ?_, ?_, fun hdata => ?_, hsame.mono (by simp)⟩
  · simp [State.clearAnswered, Link.beginClearing]
  · simp [State.clearAnswered]
  · simp [State.clearAnswered, Link.beginClearing]
  · simp [State.clearAnswered, Link.beginClearing]
  · simp [State.clearAnswered, Link.beginClearing]
  · simp [State.clearAnswered, State.stopT3, Channel.stop, Channel.abandon]
  · rw [State.deliverSystem_sys_cts, State.judgeCts_cts (s := s.clearAnswered) hdata]
    simp [State.clearAnswered, Link.beginClearing, ctsAfter]

theorem clearReceived_counts (hmode : s.link.mode = .clearing) (hfar : s.link.byFarEnd = true) :
    ∃ t, exec .clearReceived s = .next t ∧
      t.link.stats = { s.link.stats with good := bump 65535 s.link.stats.good } ∧ SameBut [.stats] s t := by
  have hexec : exec .clearReceived s = finish { s with link := s.link.countGood } := by
    show execClearReceived s = _
    simp only [execClearReceived, if_neg (show ¬s.link.paused = true by simp [hpaused]), hmode]
    exact congrArg finish (if_pos hfar)
  exact ⟨_, hexec, by simp [Link.countGood, count16, Config.max16], s.countGood_same.finish⟩

end

/-- R18, R125: the end of a clearing that the 2814 began. -/
theorem State.callEnd_normal {s : State} (hactive : s.ccu.call.active = true)
    (hending : s.ccu.ending = none ∨ s.ccu.ending = some .normal) : CallEnded [] s (s.callEnd .normal) .normal := by
  have hcause : s.finalCause .normal = .normal := by
    unfold State.finalCause
    rcases hending with h | h <;> rw [h]
    rfl
  have hends := State.callEnd_final hactive .normal
  rwa [hcause] at hends

section
variable {s : State} (hmode : s.link.mode = .clearing) (hactive : s.ccu.call.active = true)
include hmode hactive

theorem clearReplySent_ends (hfar : s.link.byFarEnd = true) (htx : s.link.tx = .link .clear) (hending : s.ccu.ending = none) :
    ∃ t, exec .clearReplySent s = .next t ∧ CallEnded [] s t .remoteCleared :=
  ⟨_, congrArg finish (if_pos ⟨hmode, hfar, htx⟩), (State.callEnd_ended hactive hending _).finish⟩

theorem clearingWaitExpiry_ends (hfar : s.link.byFarEnd = false) (hdue : s.timers.e3.Due)
    (hending : s.ccu.ending = none ∨ s.ccu.ending = some .normal) :
    ∃ t, exec .clearingWaitExpiry s = .next t ∧ CallEnded [] s t .normal := by
  obtain ⟨c, hc, -⟩ := State.takeT3_of_due hdue
  have hexec : exec .clearingWaitExpiry s = finish (State.callEnd { s with timers.e3 := c } .normal) := by
    show execClearingWaitExpiry s = _
    rw [execClearingWaitExpiry, if_pos ⟨hmode, hfar⟩, hc]
  have hends := State.callEnd_normal (s := { s with timers.e3 := c }) hactive hending
  exact ⟨_, hexec, (hends.after (s.takenT3_same c) (by simp [endParts]) (by simp)).finish⟩

theorem clearReceived_ends (hfar : s.link.byFarEnd = false) (hpaused : s.link.paused = false)
    (hending : s.ccu.ending = none ∨ s.ccu.ending = some .normal) :
    ∃ t, exec .clearReceived s = .next t ∧ t.ccu.line = .releasing ∧ t.ccu.call.active = false ∧
      t.ccu.call.cause = some .normal ∧ t.link.mode = .off ∧ t.pump = .idle ∧ t.LoadedT2 .guard 1500 .none ∧
      SameBut (endParts s ++ [.stats]) s t := by
  have hexec : exec .clearReceived s =
      finish (State.callEnd (State.stopT3 { s with link := s.link.countGood }) .normal) := by
    show execClearReceived s = _
    simp only [execClearReceived, if_neg (show ¬s.link.paused = true by simp [hpaused]), hmode]
    exact congrArg finish (if_neg (by simp [Link.countGood, hfar]))
  have hends := (State.callEnd_normal (s := State.stopT3 { s with link := s.link.countGood }) hactive hending).finish
  obtain ⟨hpump, hlink, -⟩ := hends.engines
  refine ⟨_, hexec, hends.line, by rw [hends.call.1], by rw [hends.call.1], by rw [hlink]; rfl, hpump, hends.guard, ?_⟩
  exact (s.countGood_same.andThen (State.stopT3_same _)).before_end (by simp [endParts]) rfl hends.frame

end

/-- Settles O52: the expiry by the limit and the window, then the CLEAR by the mode, then the three ends of a clearing. -/
theorem linkFailsAndClears : Obligations.LinkFailsAndClears := fun _ =>
  ⟨fun hmode hdue => ⟨linkTimerExpiry_rests hmode hdue, linkTimerExpiry_runs hmode hdue, linkTimerExpiry_fails hmode hdue⟩,
    fun hpaused hmode => clearReceived_answers hpaused hmode, fun hpaused hmode hfar => clearReceived_counts hpaused hmode hfar,
    fun hmode hactive => ⟨clearReplySent_ends hmode hactive, clearingWaitExpiry_ends hmode hactive,
      clearReceived_ends hmode hactive⟩⟩

end Sys2Proof.Machine
end

section
/-! PROOFS. Frames received on the link (R116, R119, R121, R122, R124). -/

namespace Sys2Proof.Machine

/-! ### Acknowledgments (R119) -/

/-- R119: an acknowledgment that removes frames, as the window stands after it. -/
def Link.acked (l : Link) (n : Nat) : Link :=
  { l with
    window := l.window.drop (l.ackDistance n), resendMark := l.markAfter n (l.ackDistance n), retries := 0 }

theorem State.takeAck_moves {s : State} {n : Nat} (hrange : s.link.ackInRange n = true) (hsome : s.link.ackDistance n ≠ 0) :
    s.takeAck n = if s.link.window.drop (s.link.ackDistance n) = [] then State.stopT3 { s with link := s.link.acked n }
      else State.loadT3 { s with link := s.link.acked n } s.settings.linkTimerMs := by
  rw [State.takeAck, if_pos hrange]
  exact if_neg hsome

theorem State.takeAck_ignored {s : State} {n : Nat} (h : s.link.ackInRange n = false ∨ s.link.ackDistance n = 0) :
    s.takeAck n = s := by
  unfold State.takeAck
  split
  · next hrange => exact if_pos (h.resolve_left (by simp [hrange]))
  · rfl

theorem State.takeAck_link {s : State} {n : Nat} (hrange : s.link.ackInRange n = true) (hsome : s.link.ackDistance n ≠ 0) :
    (s.takeAck n).link = s.link.acked n := by
  rw [State.takeAck_moves hrange hsome]
  split <;> rfl

/-- R119: T3 after an acknowledgment. -/
theorem State.takeAck_timer {s : State} {n : Nat} (hrange : s.link.ackInRange n = true) (hsome : s.link.ackDistance n ≠ 0) :
    (s.link.window.length = s.link.ackDistance n →
      (s.takeAck n).timers.e3.mode = .off ∧ (s.takeAck n).timers.e3.signalA = false) ∧
    (s.link.ackDistance n < s.link.window.length →
      (s.takeAck n).timers.e3.Runs .lke s.settings.linkTimerMs .none ∧ (s.takeAck n).timers.e3.signalA = false) := by
  rw [State.takeAck_moves hrange hsome]
  refine ⟨fun hall => ?_, fun hsome => ?_⟩
  · rw [if_pos (by rw [← hall, List.drop_length])]
    exact ⟨rfl, rfl⟩
  · rw [if_neg (by rw [List.drop_eq_nil_iff]; exact Nat.not_le.2 hsome)]
    exact ⟨State.loadT3_runs _ _, rfl⟩

theorem State.takeAck_same (s : State) (n : Nat) : SameBut [.link, .timer 3] s (s.takeAck n) := by
  unfold State.takeAck State.stopT3 State.loadT3
  dsimp only
  repeat' split
  any_goals exact .refl _ s
  all_goals exact .of_parts (by simp)

/-! ### ACK and REJECT (R119) -/

/-- R119, R126: a frame of the far end is counted, and its acknowledgment taken. -/
def State.ackCounted (s : State) (n : Nat) : State := State.takeAck { s with link := s.link.countGood } n

theorem State.ackCounted_link {s : State} {n : Nat} (hrange : s.link.ackInRange n = true) (hsome : s.link.ackDistance n ≠ 0) :
    (s.ackCounted n).link = s.link.countGood.acked n :=
  State.takeAck_link (s := { s with link := s.link.countGood }) hrange hsome

theorem State.ackCounted_ignored {s : State} {n : Nat} (h : s.link.ackInRange n = false ∨ s.link.ackDistance n = 0) :
    s.ackCounted n = { s with link := s.link.countGood } :=
  State.takeAck_ignored (s := { s with link := s.link.countGood }) h

theorem State.ackCounted_same (s : State) (n : Nat) : SameBut [.link, .stats, .timer 3] s (s.ackCounted n) :=
  (s.countGood_same.andThen (State.takeAck_same _ n)).mono (by simp)

section
variable {s : State} (hmode : s.link.mode = .linked) (hpaused : s.link.paused = false)
include hmode hpaused

theorem exec_ackReceived (n : BitVec 4) (busy : Bool) : exec (.ackReceived n busy) s =
    finish { s.ackCounted n.toNat with link := { (s.ackCounted n.toNat).link with peerBusy := busy } } := by
  show execAckReceived n busy s = _
  rw [execAckReceived, if_pos ⟨hpaused, .inr (.inl hmode)⟩]
  exact congrArg finish (if_pos hmode)

theorem ackReceived_moves (n : BitVec 4) (busy : Bool) (hrange : s.link.ackInRange n.toNat = true)
    (hsome : s.link.ackDistance n.toNat ≠ 0) :
    ∃ t, exec (.ackReceived n busy) s = .next t ∧ t.link.peerBusy = busy ∧ t.link.retries = 0 ∧
      t.link.window = s.link.window.drop (s.link.ackDistance n.toNat) ∧
      (s.link.window.length = s.link.ackDistance n.toNat → t.timers.e3.mode = .off ∧ t.timers.e3.signalA = false) ∧
      (s.link.ackDistance n.toNat < s.link.window.length →
        t.timers.e3.Runs .lke s.settings.linkTimerMs .none ∧ t.timers.e3.signalA = false) ∧
      t.link.stats = { s.link.stats with good := bump 65535 s.link.stats.good } ∧ SameBut [.link, .stats, .timer 3] s t := by
  have htimer := State.takeAck_timer (s := { s with link := s.link.countGood }) hrange hsome
  have hlink := State.ackCounted_link hrange hsome
  refine ⟨_, exec_ackReceived hmode hpaused n busy, by simp, ?_, ?_, fun h => ?_, fun h => ?_, ?_, ?_⟩
  · rw [State.deliverSystem_link, hlink]
    rfl
  · rw [State.deliverSystem_link, hlink]
    rfl
  · rw [State.deliverSystem_timers]
    exact htimer.1 h
  · rw [State.deliverSystem_timers]
    exact htimer.2 h
  · rw [State.deliverSystem_link, hlink]
    rfl
  · exact (((s.ackCounted_same n.toNat).andThen (State.linkSet_same _ (l := { (s.ackCounted n.toNat).link with
      peerBusy := busy }) ⟨rfl, rfl, rfl⟩)).finish).mono (by simp)

theorem ackReceived_ignored (n : BitVec 4) (busy : Bool)
    (h : s.link.ackInRange n.toNat = false ∨ s.link.ackDistance n.toNat = 0) :
    ∃ t, exec (.ackReceived n busy) s = .next t ∧ t.link.peerBusy = busy ∧ t.link.window = s.link.window ∧
      t.link.resendMark = s.link.resendMark ∧ t.link.retries = s.link.retries ∧ SameBut [.link, .stats] s t := by
  have hexec := exec_ackReceived hmode hpaused n busy
  rw [State.ackCounted_ignored h] at hexec
  have hsame : SameBut [.link, .stats] s { s with link := { s.link.countGood with peerBusy := busy } } :=
    .of_parts (by simp [Link.countGood])
  exact ⟨_, hexec, by simp, by simp [Link.countGood], by simp [Link.countGood], by simp [Link.countGood], hsame.finish⟩

theorem rejectReceived_moves (n : BitVec 4) (hrange : s.link.ackInRange n.toNat = true) :
    ∃ t, exec (.rejectReceived n) s = .next t ∧ t.link.window = s.link.window.drop (s.link.ackDistance n.toNat) ∧
      (n.toNat ≠ s.link.vs → t.link.resendMark = some n.toNat) ∧
      t.link.stats.rejectsReceived = bump 65535 s.link.stats.rejectsReceived ∧
      SameBut [.link, .stats, .timer 3] s t := by
  have hexec : exec (.rejectReceived n) s =
      finish { s.ackCounted n.toNat with link := (s.ackCounted n.toNat).link.takeReject n.toNat } := by
    show execRejectReceived n s = _
    rw [execRejectReceived, if_pos ⟨hpaused, .inr (.inl hmode)⟩]
    exact congrArg finish (if_pos ⟨hmode, hrange⟩)
  have hsame : SameBut [.link, .stats] (s.ackCounted n.toNat)
      { s.ackCounted n.toNat with link := (s.ackCounted n.toNat).link.takeReject n.toNat } :=
    .of_parts (by simp [Link.takeReject])
  have hlink : (s.ackCounted n.toNat).link.window = s.link.window.drop (s.link.ackDistance n.toNat) ∧
      (s.ackCounted n.toNat).link.vs = s.link.vs ∧
      (s.ackCounted n.toNat).link.stats.rejectsReceived = s.link.stats.rejectsReceived := by
    by_cases hsome : s.link.ackDistance n.toNat = 0
    · rw [State.ackCounted_ignored (.inr hsome), hsome]
      exact ⟨rfl, rfl, rfl⟩
    · rw [State.ackCounted_link hrange hsome]
      exact ⟨rfl, rfl, rfl⟩
  obtain ⟨hwindow, hvs, hstats⟩ := hlink
  refine ⟨_, hexec, ?_, fun hn => ?_, ?_, (((s.ackCounted_same n.toNat).andThen hsame).finish).mono (by simp)⟩
  · rw [State.deliverSystem_link]
    exact hwindow
  · rw [State.deliverSystem_link]
    exact if_neg (by rw [hvs]; exact hn)
  · rw [State.deliverSystem_link, ← hstats]
    rfl

theorem rejectReceived_ignored (n : BitVec 4) (hrange : s.link.ackInRange n.toNat = false) :
    ∃ t, exec (.rejectReceived n) s = .next t ∧
      t.link.stats = { s.link.stats with good := bump 65535 s.link.stats.good } ∧ SameBut [.stats] s t := by
  have hexec : exec (.rejectReceived n) s = finish { s with link := s.link.countGood } := by
    show execRejectReceived n s = _
    rw [execRejectReceived, if_pos ⟨hpaused, .inr (.inl hmode)⟩]
    refine congrArg finish (if_neg fun h => ?_)
    have hin : s.link.ackInRange n.toNat = true := h.2
    rw [hrange] at hin
    cases hin
  exact ⟨_, hexec, by simp [Link.countGood, count16, Config.max16], s.countGood_same.finish⟩

end

/-! ### Runs that are no frame (R116, R186) -/

theorem judgeRun_crcFailure {run : List Byte} (m : Nat) (hlength : 3 ≤ run.length) (hends : endsInEscape false run = false)
    (hcrc : crcIntact (unescapeFrom false run) = false) : judgeRun m run = .crcFailure := by
  have hrun : ¬(run.length < 3 ∨ endsInEscape false run = true) := by simp [Nat.not_lt.2 hlength, hends]
  rw [judgeRun, judgeRunBy, if_neg hrun]
  exact if_neg (by simp [hcrc])

theorem judgeRun_uncounted {run : List Byte} (m : Nat) (h : run.length < 3 ∨ endsInEscape false run = true) :
    judgeRun m run = .uncounted := if_pos h

theorem invalidLinkFrame_counted {s : State} {run : List Byte} (hframed : s.link.framed) (hlength : 3 ≤ run.length)
    (hends : endsInEscape false run = false) (hcrc : crcIntact (unescapeFrom false run) = false) :
    ∃ t, exec (.invalidLinkFrame run) s = .next t ∧
      t.link.stats = { s.link.stats with crcErrors := bump 65535 s.link.stats.crcErrors } ∧ SameBut [.stats] s t := by
  have hexec : exec (.invalidLinkFrame run) s = finish { s with link := { s.link with
      stats := { s.link.stats with crcErrors := count16 s.link.stats.crcErrors } } } := by
    show execInvalidLinkFrame run s = _
    rw [execInvalidLinkFrame, if_pos hframed, judgeRun_crcFailure _ hlength hends hcrc]
  have hsame : SameBut [.stats] s { s with link := { s.link with
      stats := { s.link.stats with crcErrors := count16 s.link.stats.crcErrors } } } := .of_parts (by simp)
  exact ⟨_, hexec, by simp [count16, Config.max16], hsame.finish⟩

theorem invalidLinkFrame_discarded {s : State} {run : List Byte} (h : run.length < 3 ∨ endsInEscape false run = true) :
    ∃ t, exec (.invalidLinkFrame run) s = .next t ∧ SameBut [] s t := by
  have hexec : exec (.invalidLinkFrame run) s = finish s := by
    show execInvalidLinkFrame run s = _
    rw [execInvalidLinkFrame, judgeRun_uncounted _ h]
    split <;> rfl
  exact ⟨_, hexec, (SameBut.refl [] s).finish⟩

/-! ### The inbound queue (R122, R124) -/

/-- R122: own busy, judged from OFF. -/
theorem Link.judgeBusy_begins {l : Link} (hmode : l.mode ≠ .off) (hidle : l.ownBusy = false) :
    l.judgeBusy = if l.inboundFree < 256 then { l with ownBusy := true, busyAckOwed := true } else l := by
  rw [Link.judgeBusy, if_pos hmode]
  by_cases hfree : l.inboundFree < 256
  · rw [if_pos ⟨hfree, hidle⟩, if_pos hfree]
  · rw [if_neg (fun h => hfree h.1), if_neg (by simp [hidle]), if_neg hfree]

theorem Link.judgeBusy_keeps (l : Link) :
    l.judgeBusy.inbound = l.inbound ∧ l.judgeBusy.outbound = l.outbound ∧ l.judgeBusy.stats = l.stats ∧
      l.judgeBusy.vr = l.vr ∧ l.judgeBusy.rejectFlag = l.rejectFlag ∧ l.judgeBusy.ackOwed = l.ackOwed ∧
      l.judgeBusy.inboundFree = l.inboundFree := by
  unfold Link.judgeBusy
  repeat' split
  all_goals exact ⟨rfl, rfl, rfl, rfl, rfl, rfl, rfl⟩

/-- R122: what the judgement of own busy says where it was OFF. -/
theorem Link.judgeBusy_ownBusy {l : Link} (hmode : l.mode ≠ .off) (hidle : l.ownBusy = false) :
    (l.judgeBusy.inboundFree < 256 → l.judgeBusy.ownBusy = true ∧ l.judgeBusy.busyAckOwed = true) ∧
      (256 ≤ l.judgeBusy.inboundFree → l.judgeBusy.ownBusy = false) := by
  obtain ⟨-, -, -, -, -, -, hfree⟩ := l.judgeBusy_keeps
  rw [hfree, Link.judgeBusy_begins hmode hidle]
  refine ⟨fun h => ?_, fun h => ?_⟩
  · rw [if_pos h]
    exact ⟨rfl, rfl⟩
  · rw [if_neg (Nat.not_lt.2 h), hidle]

theorem directByteReceived_queues {s : State} (hmode : s.link.mode = .direct) (hpaused : s.link.paused = false) (b : Byte)
    (hroom : s.link.inbound.length < 1024) :
    ∃ t, exec (.directByteReceived b) s = .next t ∧ t.link.inbound = s.link.inbound ++ [b] ∧
      (s.link.ownBusy = false → t.link.inboundFree < 256 → t.link.ownBusy = true) ∧
      (s.link.ownBusy = false → 256 ≤ t.link.inboundFree → t.link.ownBusy = false) ∧ SameBut [.inbound, .link] s t := by
  set l : Link := { s.link with inbound := s.link.inbound ++ [b] } with hl
  have hexec : exec (.directByteReceived b) s = finish { s with link := l.judgeBusy } := by
    show execDirectByteReceived b s = _
    rw [execDirectByteReceived, if_pos ⟨hmode, hpaused⟩]
    exact congrArg finish (if_pos hroom)
  obtain ⟨hin, hout, hstats, -⟩ := l.judgeBusy_keeps
  have hlout : l.judgeBusy.outbound = s.link.outbound := hout
  have hlstats : l.judgeBusy.stats = s.link.stats := hstats
  have hsame : SameBut [.inbound, .link] s { s with link := l.judgeBusy } := .of_parts (by simp [hlout, hlstats])
  have hon : l.mode ≠ .off := by rw [hl, hmode]; simp
  refine ⟨_, hexec, by rw [State.deliverSystem_link, hin], fun hidle hfree => ?_, fun hidle hfree => ?_, hsame.finish⟩
  · rw [State.deliverSystem_link] at hfree ⊢
    exact ((Link.judgeBusy_ownBusy hon hidle).1 hfree).1
  · rw [State.deliverSystem_link] at hfree ⊢
    exact (Link.judgeBusy_ownBusy hon hidle).2 hfree

theorem directByteReceived_lost {s : State} (hmode : s.link.mode = .direct) (hpaused : s.link.paused = false) (b : Byte)
    (hfull : 1024 ≤ s.link.inbound.length) :
    ∃ t, exec (.directByteReceived b) s = .next t ∧
      t.link.stats = { s.link.stats with lost := bump 65535 s.link.stats.lost } ∧ SameBut [.stats] s t := by
  have hexec : exec (.directByteReceived b) s = finish { s with link := { s.link with
      stats := { s.link.stats with lost := count16 s.link.stats.lost } } } := by
    show execDirectByteReceived b s = _
    rw [execDirectByteReceived, if_pos ⟨hmode, hpaused⟩]
    exact congrArg finish (if_neg (Nat.not_lt.2 hfull))
  have hsame : SameBut [.stats] s { s with link := { s.link with
      stats := { s.link.stats with lost := count16 s.link.stats.lost } } } := .of_parts (by simp)
  exact ⟨_, hexec, by simp [count16, Config.max16], hsame.finish⟩

/-! ### DATA frames (R121) -/

/-- R121: a DATA frame as its sequence number is judged, after an acknowledgment that changes nothing. -/
theorem exec_dataFrameReceived {s : State} {seq ack : BitVec 4} {payload : List Byte} (hmode : s.link.mode = .linked)
    (hpaused : s.link.paused = false) (hvalid : s.link.validPayload payload)
    (hack : s.link.ackInRange ack.toNat = false ∨ s.link.ackDistance ack.toNat = 0) :
    exec (.dataFrameReceived seq ack payload) s =
      finish { s with link := s.link.countGood.takeSequence seq.toNat payload } := by
  have hignored := State.ackCounted_ignored hack
  show execDataFrameReceived seq ack payload s = _
  rw [execDataFrameReceived, if_pos ⟨⟨hpaused, .inr (.inl hmode)⟩, hvalid⟩]
  refine (congrArg finish (if_pos hmode)).trans ?_
  rw [State.ackCounted] at hignored
  simp only [hignored]

/-- R121: how far a sequence number lies behind V(R). -/
theorem behind_of_add {seq vr k : Nat} (hseq : seq < 16) (hvr : vr < 16) (hk : k ≤ 15) (h : (seq + k) % 16 = vr) :
    (vr + 16 - seq) % 16 = k := by omega

theorem Link.takeSequence_next {l : Link} {seq : Nat} (hvr : l.vr < 16) (h : seq = l.vr) (payload : List Byte) :
    l.takeSequence seq payload = l.takePayload payload := if_pos (by subst h; omega)

theorem Link.takeSequence_behind {l : Link} {seq k : Nat} (hseq : seq < 16) (hvr : l.vr < 16) (hk : 1 ≤ k ∧ k ≤ 7)
    (h : (seq + k) % 16 = l.vr) (payload : List Byte) : l.takeSequence seq payload = { l with ackOwed := true } := by
  have hbehind := behind_of_add hseq hvr (by omega) h
  rw [Link.takeSequence, hbehind]
  exact (if_neg (by omega)).trans (if_pos hk.2)

theorem Link.takeSequence_ahead {l : Link} {seq k : Nat} (hseq : seq < 16) (hvr : l.vr < 16) (hk : 8 ≤ k ∧ k ≤ 15)
    (h : (seq + k) % 16 = l.vr) (payload : List Byte) :
    l.takeSequence seq payload = if l.rejectFlag = true then l else
      { l with rejectOwed := true, rejectFlag := true,
               stats := { l.stats with rejectsSent := count16 l.stats.rejectsSent } } := by
  have hbehind := behind_of_add hseq hvr hk.2 h
  rw [Link.takeSequence, hbehind]
  exact (if_neg (by omega)).trans (if_neg (by omega))

section
variable {s : State} {seq ack : BitVec 4} {payload : List Byte} (hmode : s.link.mode = .linked)
  (hpaused : s.link.paused = false) (hvalid : s.link.validPayload payload)
  (hack : s.link.ackInRange ack.toNat = false ∨ s.link.ackDistance ack.toNat = 0) (hvr : s.link.vr < 16)
include hmode hpaused hvalid hack hvr

theorem dataFrame_taken (hseq : seq.toNat = s.link.vr) (hroom : payload.length ≤ s.link.inboundFree) :
    ∃ t, exec (.dataFrameReceived seq ack payload) s = .next t ∧ t.link.inbound = s.link.inbound ++ payload ∧
      t.link.vr = (s.link.vr + 1) % 16 ∧ t.link.rejectFlag = false ∧ t.link.ackOwed = true ∧
      (s.link.ownBusy = false → t.link.inboundFree < 256 → t.link.ownBusy = true ∧ t.link.busyAckOwed = true) ∧
      (s.link.ownBusy = false → 256 ≤ t.link.inboundFree → t.link.ownBusy = false) ∧
      t.link.stats = { s.link.stats with good := bump 65535 s.link.stats.good } ∧
      SameBut [.link, .inbound, .stats] s t := by
  have hexec := exec_dataFrameReceived (seq := seq) hmode hpaused hvalid hack
  set l : Link := { s.link.countGood with
    inbound := s.link.inbound ++ payload, vr := (s.link.vr + 1) % 16, rejectFlag := false, ackOwed := true } with hl
  have htaken : s.link.countGood.takePayload payload = l.judgeBusy := if_pos hroom
  rw [Link.takeSequence_next (l := s.link.countGood) hvr hseq, htaken] at hexec
  obtain ⟨hin, hout, hstats, hjvr, hflag, howed, -⟩ := l.judgeBusy_keeps
  have hlout : l.judgeBusy.outbound = s.link.outbound := hout
  have hsame : SameBut [.link, .inbound, .stats] s { s with link := l.judgeBusy } := .of_parts (by simp [hlout])
  have hon : l.mode ≠ .off := by
    have hlmode : l.mode = .linked := hmode
    rw [hlmode]
    simp
  refine ⟨_, hexec, by rw [State.deliverSystem_link, hin], by rw [State.deliverSystem_link, hjvr],
    by rw [State.deliverSystem_link, hflag], by rw [State.deliverSystem_link, howed], fun hidle hfree => ?_,
    fun hidle hfree => ?_, by rw [State.deliverSystem_link, hstats]; rfl, hsame.finish⟩
  · rw [State.deliverSystem_link] at hfree ⊢
    exact (Link.judgeBusy_ownBusy hon hidle).1 hfree
  · rw [State.deliverSystem_link] at hfree ⊢
    exact (Link.judgeBusy_ownBusy hon hidle).2 hfree

theorem dataFrame_refused (hseq : seq.toNat = s.link.vr) (hroom : s.link.inboundFree < payload.length) :
    ∃ t, exec (.dataFrameReceived seq ack payload) s = .next t ∧ t.link.busyAckOwed = true ∧
      t.link.vr = s.link.vr ∧ SameBut [.link, .stats] s t := by
  have hexec := exec_dataFrameReceived (seq := seq) hmode hpaused hvalid hack
  have hrefused : s.link.countGood.takePayload payload = { s.link.countGood with busyAckOwed := true } :=
    if_neg (Nat.not_le.2 hroom)
  rw [Link.takeSequence_next (l := s.link.countGood) hvr hseq, hrefused] at hexec
  have hsame : SameBut [.link, .stats] s { s with link := { s.link.countGood with busyAckOwed := true } } :=
    .of_parts (by simp [Link.countGood])
  exact ⟨_, hexec, by simp, by simp [Link.countGood], hsame.finish⟩

theorem dataFrame_repeated (hseq : ∃ k, 1 ≤ k ∧ k ≤ 7 ∧ (seq.toNat + k) % 16 = s.link.vr) :
    ∃ t, exec (.dataFrameReceived seq ack payload) s = .next t ∧ t.link.ackOwed = true ∧ t.link.vr = s.link.vr ∧
      t.link.rejectOwed = s.link.rejectOwed ∧ SameBut [.link, .stats] s t := by
  obtain ⟨k, hlow, hhigh, hk⟩ := hseq
  have hexec := exec_dataFrameReceived (seq := seq) hmode hpaused hvalid hack
  rw [Link.takeSequence_behind (l := s.link.countGood) seq.isLt hvr ⟨hlow, hhigh⟩ hk] at hexec
  have hsame : SameBut [.link, .stats] s { s with link := { s.link.countGood with ackOwed := true } } :=
    .of_parts (by simp [Link.countGood])
  exact ⟨_, hexec, by simp, by simp [Link.countGood], by simp [Link.countGood], hsame.finish⟩

theorem dataFrame_rejected (hseq : ∃ k, 8 ≤ k ∧ k ≤ 15 ∧ (seq.toNat + k) % 16 = s.link.vr) :
    ∃ t, exec (.dataFrameReceived seq ack payload) s = .next t ∧ t.link.rejectFlag = true ∧ t.link.vr = s.link.vr ∧
      (s.link.rejectFlag = false → t.link.rejectOwed = true ∧
        t.link.stats.rejectsSent = bump 65535 s.link.stats.rejectsSent) ∧
      (s.link.rejectFlag = true → t.link.rejectOwed = s.link.rejectOwed ∧
        t.link.stats.rejectsSent = s.link.stats.rejectsSent) ∧ SameBut [.link, .stats] s t := by
  obtain ⟨k, hlow, hhigh, hk⟩ := hseq
  have hexec := exec_dataFrameReceived (seq := seq) hmode hpaused hvalid hack
  rw [Link.takeSequence_ahead (l := s.link.countGood) seq.isLt hvr ⟨hlow, hhigh⟩ hk] at hexec
  by_cases hflag : s.link.rejectFlag = true
  · rw [if_pos (show s.link.countGood.rejectFlag = true from hflag)] at hexec
    exact ⟨_, hexec, by simp [Link.countGood, hflag], by simp [Link.countGood], fun h => by simp [hflag] at h,
      fun _ => by simp [Link.countGood], (s.countGood_same.mono (by simp)).finish⟩
  · rw [if_neg (show ¬s.link.countGood.rejectFlag = true from hflag)] at hexec
    have hsame : SameBut [.link, .stats] s { s with link := { s.link.countGood with
        rejectOwed := true, rejectFlag := true,
        stats := { s.link.countGood.stats with rejectsSent := count16 s.link.countGood.stats.rejectsSent } } } :=
      .of_parts (by simp [Link.countGood])
    exact ⟨_, hexec, by simp, by simp [Link.countGood], fun _ => by simp [Link.countGood, count16, Config.max16],
      fun h => absurd h hflag, hsame.finish⟩

end

/-- Settles O50: acknowledgments, runs that are no frame, bytes of DIRECT, and DATA frames by their sequence number. -/
theorem lineFramesTaken : Obligations.LineFramesTaken :=
  ⟨fun _ => ⟨fun n busy hmode hpaused => ⟨ackReceived_moves hmode hpaused n busy, ackReceived_ignored hmode hpaused n busy,
      rejectReceived_moves hmode hpaused n, rejectReceived_ignored hmode hpaused n⟩,
    fun _ hframed hlength hends hcrc => invalidLinkFrame_counted hframed hlength hends hcrc,
    fun _ h => invalidLinkFrame_discarded h,
    fun b hmode hpaused => ⟨directByteReceived_queues hmode hpaused b, directByteReceived_lost hmode hpaused b⟩⟩,
  fun _ _ _ _ hmode hpaused hvalid hack hvr => ⟨dataFrame_taken hmode hpaused hvalid hack hvr,
    dataFrame_refused hmode hpaused hvalid hack hvr, dataFrame_repeated hmode hpaused hvalid hack hvr,
    dataFrame_rejected hmode hpaused hvalid hack hvr⟩⟩

end Sys2Proof.Machine
end

section
/-! PROOFS. The link transmitter (R114, R115, R117, R118, R124, R125, R127). -/

namespace Sys2Proof.Machine

/-- A frame is sent that touches neither queue. -/
theorem sends_frame {s : State} {l : Link} {c : Instr} (hexec : exec c s = finish { s with link := l })
    (hqueues : l.outbound = s.link.outbound ∧ l.inbound = s.link.inbound) :
    ∃ t, exec c s = .next t ∧ t.link = l ∧ SameBut [.link, .stats] s t := by
  have hsame : SameBut [.link, .stats] s { s with link := l } := .of_parts (by simp [hqueues])
  exact ⟨_, hexec, by simp, hsame.finish⟩

theorem State.formFrame_eq (s : State) :
    s.formFrame = if s.link.window = [] then
        State.judgeCts { s.loadT3 s.settings.linkTimerMs with link := s.link.sendNew }
      else State.judgeCts { s with link := s.link.sendNew } := by
  unfold State.formFrame
  split <;> rfl

theorem State.judgeCts_link (s : State) : s.judgeCts.link = s.link := by simp

theorem State.judgeCts_timers (s : State) : s.judgeCts.timers = s.timers := by simp

/-- R117: the ranks from 4 on. -/
theorem State.sendLinked_ranks {s : State} (hconf : s.link.confDue = false) (hreject : s.link.rejectOwed = false)
    (hbusy : s.link.busyAckOwed = false) :
    s.sendLinked =
      match s.link.resendMark.bind s.link.frameAt with
      | some f => { s with link := s.link.resend f }
      | none =>
        if s.link.mayForm then s.formFrame
        else if s.link.ackOwed = true then
          { s with link := { s.link.sendFrame (.ack s.link.vr s.link.ownBusy) with ackOwed := false } }
        else { s with link.tx := .idleFill } := by
  rw [State.sendLinked, if_neg (by simp [hconf]), if_neg (by simp [hreject]), if_neg (by simp [hbusy])] <;> rfl

section
variable {s : State} (hpaused : s.link.paused = false)
include hpaused

/-! ### By the mode of the link -/

theorem exec_transmitter_setup (hmode : s.link.mode = .setup) :
    exec .transmitterReady s = finish { s with link := s.link.sendSetup } := by
  show execTransmitterReady s = _
  rw [execTransmitterReady, if_neg (by simp [hpaused]), hmode]

theorem exec_transmitter_linked (hmode : s.link.mode = .linked) : exec .transmitterReady s = finish s.sendLinked := by
  show execTransmitterReady s = _
  rw [execTransmitterReady, if_neg (by simp [hpaused]), hmode]

theorem exec_transmitter_direct (hmode : s.link.mode = .direct) : exec .transmitterReady s = finish s.sendDirect := by
  show execTransmitterReady s = _
  rw [execTransmitterReady, if_neg (by simp [hpaused]), hmode]

theorem exec_transmitter_clearing (hmode : s.link.mode = .clearing) :
    exec .transmitterReady s = finish { s with link := s.link.sendClearing } := by
  show execTransmitterReady s = _
  rw [execTransmitterReady, if_neg (by simp [hpaused]), hmode]

/-! ### LINK_CONF, LINK_REQ, CLEAR and idle fill -/

theorem exec_transmitter_conf (hmode : s.link.mode = .setup ∨ s.link.mode = .linked) (hconf : s.link.confDue = true) :
    exec .transmitterReady s = finish { s with link := s.link.sendConf } := by
  rcases hmode with hmode | hmode
  · rw [exec_transmitter_setup hpaused hmode, Link.sendSetup, if_pos hconf]
  · rw [exec_transmitter_linked hpaused hmode]
    exact congrArg finish (if_pos hconf)

theorem transmitter_sendsConf (hmode : s.link.mode = .setup ∨ s.link.mode = .linked) (hconf : s.link.confDue = true) :
    ∃ t, exec .transmitterReady s = .next t ∧
      t.link.tx = .link (if s.link.confSetup = true then .linkConf s.link.offer.1 s.link.offer.2
        else .linkConf s.link.windowSize s.link.payloadSize) ∧
      t.link.confDue = false ∧ t.link.reqDue = s.link.reqDue ∧ t.link.rejectOwed = s.link.rejectOwed ∧
      t.link.ackOwed = s.link.ackOwed ∧
      t.link.stats = { s.link.stats with sent := bump 65535 s.link.stats.sent } ∧ SameBut [.link, .stats] s t := by
  obtain ⟨t, hexec, hlink, hsame⟩ := sends_frame (exec_transmitter_conf hpaused hmode hconf) ⟨rfl, rfl⟩
  refine ⟨t, hexec, ?_, by rw [hlink]; rfl, by rw [hlink]; rfl, by rw [hlink]; rfl, by rw [hlink]; rfl, by rw [hlink]; rfl,
    hsame⟩
  rw [hlink]
  simp only [Link.sendConf, Link.sendFrame, Link.confValues]
  split <;> rfl

theorem transmitter_idles (h : (s.link.mode = .setup ∧ s.link.confDue = false ∧ s.link.reqDue = false) ∨
      (s.link.mode = .clearing ∧ s.link.clearOwed = false) ∨ (s.link.mode = .direct ∧ s.link.outbound = [])) :
    ∃ t, exec .transmitterReady s = .next t ∧ t.link.tx = .idleFill ∧ SameBut [.link] s t := by
  have hexec : exec .transmitterReady s = finish { s with link := { s.link with tx := .idleFill } } := by
    rcases h with ⟨hmode, hconf, hreq⟩ | ⟨hmode, hclear⟩ | ⟨hmode, hempty⟩
    · rw [exec_transmitter_setup hpaused hmode, Link.sendSetup, if_neg (by simp [hconf]), if_neg (by simp [hreq])]
    · rw [exec_transmitter_clearing hpaused hmode, Link.sendClearing, if_neg (by simp [hclear])]
    · rw [exec_transmitter_direct hpaused hmode, State.sendDirect, hempty]
  exact ⟨_, hexec, by simp, (s.linkSet_same (l := { s.link with tx := .idleFill }) ⟨rfl, rfl, rfl⟩).finish⟩

theorem transmitter_sendsReq (hmode : s.link.mode = .setup) (hconf : s.link.confDue = false) (hreq : s.link.reqDue = true) :
    ∃ t, exec .transmitterReady s = .next t ∧ t.link.tx = .link (.linkReq s.link.offer.1 s.link.offer.2) ∧
      t.link.reqDue = false ∧ t.link.stats = { s.link.stats with sent := bump 65535 s.link.stats.sent } ∧
      SameBut [.link, .stats] s t := by
  have hexec := exec_transmitter_setup hpaused hmode
  rw [Link.sendSetup, if_neg (by simp [hconf]), if_pos hreq] at hexec
  obtain ⟨t, hnext, hlink, hsame⟩ := sends_frame hexec ⟨rfl, rfl⟩
  exact ⟨t, hnext, by rw [hlink]; rfl, by rw [hlink], by rw [hlink]; rfl, hsame⟩

theorem transmitter_sendsClear (hmode : s.link.mode = .clearing) (hclear : s.link.clearOwed = true) :
    ∃ t, exec .transmitterReady s = .next t ∧ t.link.tx = .link .clear ∧ t.link.clearOwed = false ∧
      SameBut [.link, .stats] s t := by
  have hexec := exec_transmitter_clearing hpaused hmode
  rw [Link.sendClearing, if_pos hclear] at hexec
  obtain ⟨t, hnext, hlink, hsame⟩ := sends_frame hexec ⟨rfl, rfl⟩
  exact ⟨t, hnext, by rw [hlink]; rfl, by rw [hlink], hsame⟩

/-- R124, R127: DIRECT sends a byte, and CTS follows the outbound queue. -/
theorem transmitter_sendsByte {b : Byte} {rest : List Byte} (hmode : s.link.mode = .direct)
    (hqueue : s.link.outbound = b :: rest) :
    ∃ t, exec .transmitterReady s = .next t ∧ t.link.tx = .byte b ∧ t.link.outbound = rest ∧
      (s.sys.data = false → t.sys.cts = s.sys.cts) ∧
      (s.sys.data = true → t.sys.cts = (if 768 ≤ rest.length then false else if rest.length ≤ 256 then true
        else s.sys.cts)) ∧ SameBut [.link, .outbound, .systemPort] s t := by
  set u : State := { s with link := { s.link with tx := .byte b, outbound := rest } } with hu
  have hexec : exec .transmitterReady s = finish u.judgeCts := by
    rw [exec_transmitter_direct hpaused hmode, State.sendDirect, hqueue]
  have hsame : SameBut [.link, .outbound] s u := .of_parts (by simp [hu])
  refine ⟨_, hexec, ?_, ?_, fun hdata => ?_, fun hdata => ?_, ((hsame.andThen u.judgeCts_same).finish).mono (by simp)⟩
  · rw [State.deliverSystem_link, State.judgeCts_link]
  · rw [State.deliverSystem_link, State.judgeCts_link]
  · rw [State.deliverSystem_sys_cts, State.judgeCts_idle (s := u) hdata]
  · rw [State.deliverSystem_sys_cts, State.judgeCts_cts (s := u) hdata]
    rfl

/-! ### LINKED (R117, R118) -/

section
variable (hmode : s.link.mode = .linked) (hconf : s.link.confDue = false)
include hmode hconf

theorem transmitter_sendsReject (hreject : s.link.rejectOwed = true) :
    ∃ t, exec .transmitterReady s = .next t ∧ t.link.tx = .link (.reject s.link.vr) ∧ t.link.rejectOwed = false ∧
      t.link.ackOwed = false ∧ SameBut [.link, .stats] s t := by
  have hexec := exec_transmitter_linked hpaused hmode
  have hsend : s.sendLinked = { s with link :=
      { s.link.sendFrame (.reject s.link.vr) with rejectOwed := false, ackOwed := false } } :=
    (if_neg (by simp [hconf])).trans (if_pos hreject)
  rw [hsend] at hexec
  obtain ⟨t, hnext, hlink, hsame⟩ := sends_frame hexec ⟨rfl, rfl⟩
  exact ⟨t, hnext, by rw [hlink]; rfl, by rw [hlink], by rw [hlink], hsame⟩

theorem transmitter_sendsBusyAck (hreject : s.link.rejectOwed = false) (hbusy : s.link.busyAckOwed = true) :
    ∃ t, exec .transmitterReady s = .next t ∧ t.link.tx = .link (.ack s.link.vr s.link.ownBusy) ∧
      t.link.busyAckOwed = false ∧ t.link.ackOwed = false ∧ SameBut [.link, .stats] s t := by
  have hexec := exec_transmitter_linked hpaused hmode
  have hsend : s.sendLinked = { s with link :=
      { s.link.sendFrame (.ack s.link.vr s.link.ownBusy) with busyAckOwed := false, ackOwed := false } } :=
    ((if_neg (by simp [hconf])).trans (if_neg (by simp [hreject]))).trans (if_pos hbusy)
  rw [hsend] at hexec
  obtain ⟨t, hnext, hlink, hsame⟩ := sends_frame hexec ⟨rfl, rfl⟩
  exact ⟨t, hnext, by rw [hlink]; rfl, by rw [hlink], by rw [hlink], hsame⟩

theorem transmitter_resends {m : Nat} {f : SentFrame} (hreject : s.link.rejectOwed = false)
    (hbusy : s.link.busyAckOwed = false) (hmark : s.link.resendMark = some m) (hframe : s.link.frameAt m = some f) :
    ∃ t, exec .transmitterReady s = .next t ∧ t.link.tx = .link (.data m s.link.vr f.payload) ∧
      t.link.resendMark = (if (m + 1) % 16 = s.link.vs then none else some ((m + 1) % 16)) ∧
      t.link.window = s.link.window ∧ t.link.ackOwed = false ∧
      t.link.stats = { s.link.stats with sent := bump 65535 s.link.stats.sent,
                                         resent := bump 65535 s.link.stats.resent } ∧
      SameBut [.link, .stats] s t := by
  have hseq : f.seq = m := by simpa using List.find?_some hframe
  have hexec := exec_transmitter_linked hpaused hmode
  rw [State.sendLinked_ranks hconf hreject hbusy, hmark, Option.bind_some, hframe] at hexec
  obtain ⟨t, hnext, hlink, hsame⟩ := sends_frame hexec ⟨rfl, rfl⟩
  subst hseq
  exact ⟨t, hnext, by rw [hlink]; rfl, by rw [hlink]; rfl, by rw [hlink]; rfl, by rw [hlink]; rfl, by rw [hlink]; rfl, hsame⟩

theorem transmitter_forms (hreject : s.link.rejectOwed = false) (hbusy : s.link.busyAckOwed = false)
    (hmark : s.link.resendMark = none) (hqueue : s.link.outbound ≠ []) (hroom : s.link.window.length < s.link.windowSize)
    (hpeer : s.link.peerBusy = false) :
    ∃ t, exec .transmitterReady s = .next t ∧
      t.link.tx = .link (.data s.link.vs s.link.vr (s.link.outbound.take s.link.payloadSize)) ∧
      t.link.outbound = s.link.outbound.drop s.link.payloadSize ∧
      t.link.window = s.link.window ++ [⟨s.link.vs, s.link.outbound.take s.link.payloadSize⟩] ∧
      t.link.vs = (s.link.vs + 1) % 16 ∧ t.link.ackOwed = false ∧
      (s.link.window = [] → t.timers.e3.Runs .lke s.settings.linkTimerMs .none) ∧
      (s.link.window ≠ [] → t.timers.e3 = s.timers.e3) ∧
      SameBut [.link, .stats, .outbound, .timer 3, .systemPort] s t := by
  have hexec := exec_transmitter_linked hpaused hmode
  rw [State.sendLinked_ranks hconf hreject hbusy, hmark, Option.bind_none] at hexec
  replace hexec := hexec.trans (congrArg finish (if_pos ⟨hqueue, hroom, hpeer⟩))
  have hlink : s.formFrame.link = s.link.sendNew := by
    rw [State.formFrame_eq]
    split <;> rw [State.judgeCts_link]
  have hsame : SameBut [.link, .stats, .outbound, .timer 3, .systemPort] s s.formFrame := by
    have hnew : SameBut [.link, .stats, .outbound] s { s with link := s.link.sendNew } :=
      .of_parts (by simp [Link.sendNew, Link.sendFrame])
    have hloaded : SameBut [.link, .stats, .outbound, .timer 3] s
        { s.loadT3 s.settings.linkTimerMs with link := s.link.sendNew } :=
      .of_parts (by simp [Link.sendNew, Link.sendFrame, State.loadT3])
    rw [State.formFrame_eq]
    split
    · exact (hloaded.andThen (State.judgeCts_same _)).mono (by simp)
    · exact (hnew.andThen (State.judgeCts_same _)).mono (by simp)
  refine ⟨_, hexec, ?_, ?_, ?_, ?_, ?_, fun hempty => ?_, fun hsome => ?_, hsame.finish⟩
  · rw [State.deliverSystem_link, hlink]
    rfl
  · rw [State.deliverSystem_link, hlink]
    rfl
  · rw [State.deliverSystem_link, hlink]
    rfl
  · rw [State.deliverSystem_link, hlink]
    rfl
  · rw [State.deliverSystem_link, hlink]
    rfl
  · rw [State.deliverSystem_timers, State.formFrame_eq, if_pos hempty, State.judgeCts_timers]
    exact State.loadT3_runs s _
  · rw [State.deliverSystem_timers, State.formFrame_eq, if_neg hsome, State.judgeCts_timers]

theorem transmitter_rests (hreject : s.link.rejectOwed = false) (hbusy : s.link.busyAckOwed = false)
    (hmark : s.link.resendMark = none)
    (hrests : s.link.outbound = [] ∨ s.link.windowSize ≤ s.link.window.length ∨ s.link.peerBusy = true) :
    ∃ t, exec .transmitterReady s = .next t ∧ t.link.ackOwed = false ∧
      t.link.tx = (if s.link.ackOwed = true then .link (.ack s.link.vr s.link.ownBusy) else .idleFill) ∧
      SameBut [.link, .stats] s t := by
  have hexec := exec_transmitter_linked hpaused hmode
  have hnone : ¬s.link.mayForm := by
    rintro ⟨hqueue, hroom, hpeer⟩
    rcases hrests with h | h | h
    · exact hqueue h
    · exact Nat.not_lt.2 h hroom
    · simp [hpeer] at h
  rw [State.sendLinked_ranks hconf hreject hbusy, hmark, Option.bind_none] at hexec
  replace hexec := hexec.trans (congrArg finish (if_neg hnone))
  by_cases hack : s.link.ackOwed = true
  · rw [if_pos hack] at hexec
    obtain ⟨t, hnext, hlink, hsame⟩ := sends_frame hexec ⟨rfl, rfl⟩
    exact ⟨t, hnext, by rw [hlink], by rw [hlink, if_pos hack]; rfl, hsame⟩
  · rw [if_neg hack] at hexec
    obtain ⟨t, hnext, hlink, hsame⟩ := sends_frame hexec ⟨rfl, rfl⟩
    exact ⟨t, hnext, by rw [hlink]; exact Bool.eq_false_iff.2 hack, by rw [hlink, if_neg hack], hsame⟩

end

end

/-- Settles O51: the choice by the mode, and in LINKED by rank. -/
theorem transmitterChooses : Obligations.TransmitterChooses := fun _ hpaused =>
  ⟨transmitter_sendsConf hpaused, transmitter_idles hpaused, transmitter_sendsReq hpaused, transmitter_sendsClear hpaused,
    fun _ _ => transmitter_sendsByte hpaused, fun hmode hconf => ⟨transmitter_sendsReject hpaused hmode hconf,
      transmitter_sendsBusyAck hpaused hmode hconf, fun _ _ => transmitter_resends hpaused hmode hconf,
      transmitter_forms hpaused hmode hconf, transmitter_rests hpaused hmode hconf⟩⟩

end Sys2Proof.Machine
end

section
/-! PROOFS. The Fax Engine's operations (R131, R134, R136, R137, R144, R146), and FAX NEXT. -/

namespace Sys2Proof.Machine

/-! ### Frames and T2 -/

/-- R35: what T2 was loaded for is the same where neither T2 nor its use is written. -/
theorem State.LoadedT2.of_same {s t : State} {use : T2Use} {ms : Nat} {restart : RestartSource} {parts : List Part}
    (h : s.LoadedT2 use ms restart) (hsame : SameBut parts s t) (hparts : .ccuRest ∉ parts ∧ .timer 2 ∉ parts) :
    t.LoadedT2 use ms restart := by
  obtain ⟨-, -, -, huse⟩ := hsame .ccuRest hparts.1 (by simp)
  have htimer : t.timers.e2 = s.timers.e2 := hsame (.timer 2) hparts.2 (by simp)
  unfold State.LoadedT2
  rw [huse, htimer]
  exact h

theorem State.loadT2_same (s : State) (use : T2Use) (ms : Nat) (restart : RestartSource) :
    SameBut [.ccuRest, .timer 2] s (s.loadT2 use ms restart) := by
  unfold State.loadT2
  exact .of_parts (by simp)

theorem State.stopT2_same (s : State) : SameBut [.ccuRest, .timer 2] s s.stopT2 := by
  unfold State.stopT2
  exact .of_parts (by simp)

theorem State.faxSet_same (s : State) (x : Fax) : SameBut [.fax] s { s with fax := x } := .of_parts (by simp)

/-! ### Control frames (R133 to R135) -/

@[simp] theorem State.faxTo_fax (s : State) (p : FaxPhase) : (s.faxTo p).fax = { s.fax with phase := some p } := by
  simp [State.faxTo]

theorem State.faxTo_same (s : State) (p : FaxPhase) : SameBut [.fax, .call] s (s.faxTo p) :=
  ((s.faxSet_same _).andThen (State.reportPhase_same _ _)).mono (by simp)

theorem State.faxTo_call {s : State} (hactive : s.ccu.call.active = true) (hending : s.ccu.ending = none) (p : FaxPhase) :
    (s.faxTo p).ccu.call = { s.ccu.call with phase := some (.fax p) } :=
  State.reportPhase_active (s := { s with fax := { s.fax with phase := some p } }) hactive hending _

theorem State.faxFrame_same (s : State) (f : FaxFrame) : SameBut [.fax, .link] s (s.faxFrame f) := by
  unfold State.faxFrame
  exact .of_parts (by simp)

/-- R134: a frame with its answer to come, and a phase with it. -/
theorem State.faxSend_faxTo (s : State) (f : FaxFrame) (x : FaxExpect) (p : FaxPhase) :
    ((s.faxSend f x).faxTo p).fax =
        { s.fax with expect := x, lastFrame := some f, checkSending := false, unsent := true, phase := some p } ∧
      ((s.faxSend f x).faxTo p).link = { s.link with tx := .fax f } ∧
      ((s.faxSend f x).faxTo p).LoadedT2 .faxReply 3000 .none ∧
      SameBut [.fax, .link, .call, .ccuRest, .timer 2] s ((s.faxSend f x).faxTo p) := by
  obtain ⟨hfax, hlink, hloaded⟩ := s.faxSend_leaves f x
  have hto := (s.faxSend f x).faxTo_same p
  refine ⟨by rw [State.faxTo_fax, hfax], ?_, hloaded.of_same hto (by simp), ((s.faxSend_same f x).andThen hto).mono (by simp)⟩
  rw [← hlink]
  simp [State.faxTo]

@[simp] theorem State.faxAnswered_fax (s : State) :
    s.faxAnswered.fax = { s.fax with expect := .none, retries := 0, unsent := false, answered := s.fax.noteAnswer } := rfl

theorem State.faxAnswered_same (s : State) : SameBut [.fax, .ccuRest, .timer 2] s s.faxAnswered := by
  unfold State.faxAnswered State.stopT2
  exact .of_parts (by simp)

theorem State.faxAnswered_stopped (s : State) : s.faxAnswered.timers.e2.mode = .off := rfl

/-- R56: no fax control frame connects a call that is connected. -/
theorem State.faxHear_connected {s : State} (h : s.ccu.line = .connected) : s.faxHear = s :=
  if_neg (by simp [h])

/-- R134, R135: the last frame is sent again. -/
theorem State.faxResend_last {s : State} {f : FaxFrame} (h : s.fax.lastFrame = some f) :
    s.faxResend = { s with link.tx := .fax f, fax.checkSending := false } := by
  rw [State.faxResend, h]

/-! ### The session's rung (R112, R136) -/

theorem State.faxRung_same (s : State) (rung : Nat) : SameBut [.pump, .call] s (s.faxRung rung) :=
  ((s.pumpSet_same _).andThen (State.reportRung_same _ _)).mono (by simp)

@[simp] theorem State.faxRung_leaves (s : State) (rung : Nat) :
    (s.faxRung rung).pump = { s.pump with rung := some rung } ∧ (s.faxRung rung).fax = s.fax ∧
      (s.faxRung rung).link = s.link := by
  simp [State.faxRung]

/-- R136: the SET of the session. -/
def Fax.setFrame (x : Fax) : FaxFrame := .set (x.rung.getD 0) ((x.resolution.getD .normal).code) x.scanMs

/-- R136, R137: what sending the SET leaves. -/
theorem State.sendSet_leaves (s : State) :
    s.sendSet.fax =
        { s.fax with expect := .checkVerdict, lastFrame := some s.fax.setFrame, checkSending := false, unsent := true } ∧
      s.sendSet.link.tx = .fax s.fax.setFrame ∧ s.sendSet.pump = { s.pump with rung := some (s.fax.rung.getD 0) } ∧
      s.sendSet.LoadedT2 .faxReply 3000 .none ∧
      SameBut [.fax, .link, .call, .ccuRest, .timer 2, .pump] s s.sendSet := by
  obtain ⟨hfax, hlink, hloaded⟩ := s.faxSend_leaves s.fax.setFrame .checkVerdict
  have hsent := s.faxSend_same s.fax.setFrame .checkVerdict
  have hrung := (s.faxSend s.fax.setFrame .checkVerdict).faxRung_same (s.fax.rung.getD 0)
  obtain ⟨hpump, hrfax, hrlink⟩ := (s.faxSend s.fax.setFrame .checkVerdict).faxRung_leaves (s.fax.rung.getD 0)
  exact ⟨hrfax.trans hfax, (congrArg Link.tx (hrlink.trans hlink)), hpump, hloaded.of_same hrung (by simp),
    (hsent.andThen hrung).mono (by simp)⟩

/-! ### The data state on a fax call (R144, R146, R179) -/

theorem State.enterData_fax_same {s : State} (h : s.ccu.call.job ≠ .data) : SameBut [.systemPort] s s.enterData :=
  (State.enterData_other h).2

theorem State.requestData_fax_same {s : State} (h : s.ccu.call.job ≠ .data) : SameBut [.systemPort] s s.requestData := by
  unfold State.requestData
  split
  · exact State.enterData_fax_same h
  split
  · exact State.enterData_fax_same h
  · exact .of_parts (by simp)

/-- R139: what sending PAGE_END with a decision leaves. -/
theorem State.faxSendPageEnd_leaves (s : State) (m : FaxMore) :
    (s.faxSendPageEnd m).fax =
        { s.fax with more := some m, expect := .pageVerdict, lastFrame := some (.pageEnd (m == .more)),
                     checkSending := false, unsent := true, phase := some .postpage } ∧
      (s.faxSendPageEnd m).link = { s.link with tx := .fax (.pageEnd (m == .more)) } ∧
      (s.faxSendPageEnd m).LoadedT2 .faxReply 3000 .none ∧
      SameBut [.fax, .link, .call, .ccuRest, .timer 2] s (s.faxSendPageEnd m) := by
  obtain ⟨hfax, hlink, hloaded, hsame⟩ := State.faxSend_faxTo { s with fax := { s.fax with more := some m } }
    (.pageEnd (m == .more)) .pageVerdict .postpage
  exact ⟨hfax, hlink, hloaded, ((s.faxSet_same _).andThen hsame).mono (by simp)⟩

/-! ### FAX NEXT (R145, R146) -/

theorem takeFaxNext_decides {p : Port} {choice : Byte} {m : FaxMore} {s : State} (hm : moreOf choice = some m)
    (hout : s.outgoingFax) (hholder : s.holder = some p.party) (hawaits : s.fax.awaitsDecision) :
    takeFaxNext p choice s =
      (if s.fax.markSent = true then s.stopT2.faxSendPageEnd m else { s with fax.more := some m }, .plain .ok) := by
  unfold takeFaxNext
  rw [hm]
  exact ((if_neg (not_not.2 hout)).trans (if_neg (not_not.2 hholder))).trans (if_neg (not_not.2 hawaits))

/-- R139, R146: the decision of the page whose page-end mark has been sent. -/
theorem faxNext_sends {f : Frame} {choice : Byte} {m : FaxMore} {s : State} (h : s.Takes f 0x60#8)
    (hm : moreOf choice = some m) (hout : s.outgoingFax) (hholder : s.holder = some f.port.party)
    (hawaits : s.fax.awaitsDecision) (hending : s.ccu.ending = none) (hmark : s.fax.markSent = true) :
    ∃ t, exec (.faxNext f choice) s = .next t ∧
      t.fax.more = some m ∧ t.fax.phase = some .postpage ∧ t.fax.expect = .pageVerdict ∧
      t.fax.lastFrame = some (.pageEnd (m == .more)) ∧ t.link.tx = .fax (.pageEnd (m == .more)) ∧
      t.ccu.call.phase = some (.fax .postpage) ∧ t.LoadedT2 .faxReply 3000 .none ∧
      Answered s t f.port 0x60#8 .ok [] ∧
      SameBut [.call, .ccuRest, .timer 2, .link, .fax, .outgoing f.port] s t := by
  have hbody := takeFaxNext_decides hm hout hholder hawaits
  rw [if_pos hmark] at hbody
  obtain ⟨hfax, hlink, hloaded, hsend⟩ := s.stopT2.faxSendPageEnd_leaves m
  have hcall : (s.stopT2.faxSendPageEnd m).ccu.call.phase = some (.fax .postpage) := by
    rw [State.faxSendPageEnd, State.faxTo_call (by exact hout.1) (by exact hending)]
  have hsame := (s.stopT2_same.andThen hsend).mono (more := [.call, .ccuRest, .timer 2, .link, .fax]) (by simp)
  obtain ⟨t, hexec, hreplies, hanswered, hframe⟩ := command_changes h hbody hsame (by simp)
  refine ⟨t, hexec, ?_, ?_, ?_, ?_, ?_, ?_, ?_, hanswered, hframe⟩
  · rw [hreplies.fax, hfax]
  · rw [hreplies.fax, hfax]
  · rw [hreplies.fax, hfax]
  · rw [hreplies.fax, hfax]
  · rw [hreplies.link, hlink]
  · rw [hreplies.ccu, hcall]
  · unfold State.LoadedT2
    rw [hreplies.ccu, hreplies.timers]
    exact hloaded

/-- R146: the decision is noted for the page-end mark to come. -/
theorem faxNext_notes {f : Frame} {choice : Byte} {m : FaxMore} {s : State} (h : s.Takes f 0x60#8)
    (hm : moreOf choice = some m) (hout : s.outgoingFax) (hholder : s.holder = some f.port.party)
    (hawaits : s.fax.awaitsDecision) (hmark : s.fax.markSent = false) :
    ∃ t, exec (.faxNext f choice) s = .next t ∧ t.fax = { s.fax with more := some m } ∧
      Answered s t f.port 0x60#8 .ok [] ∧ SameBut [.fax, .outgoing f.port] s t := by
  have hbody := takeFaxNext_decides hm hout hholder hawaits
  rw [if_neg (by simp [hmark])] at hbody
  obtain ⟨t, hexec, hreplies, hanswered, hframe⟩ := command_changes h hbody (s.faxSet_same _) (by simp)
  exact ⟨t, hexec, hreplies.fax, hanswered, hframe⟩

/-- R145: a stored FAX_OUT is taken as the source, with a hold on it. -/
theorem faxNext_fromStore {f : Frame} {id : Byte} {e : Entry} {s : State} (h : s.Takes f 0x60#8) (hout : s.outgoingFax)
    (hholder : s.holder = some f.port.party) (hplace : s.fax.place = .undecided)
    (hvisible : s.store.visible id.toNat = some e) (hstate : e.state = .complete) (hkind : e.kind = .faxOut)
    (hpages : e.pageCount ≠ 0) :
    ∃ t, exec (.faxNextFromStore f id) s = .next t ∧
      t.fax = { s.fax with place := .store, linkedId := some id.toNat } ∧
      t.store.dir = s.store.dir.map (fun x => if x.id = id.toNat then { x with holds := x.holds + 1 } else x) ∧
      Answered s t f.port 0x60#8 .ok [] ∧ SameBut [.fax, .directory, .outgoing f.port] s t := by
  have hbody : takeFaxFromStore f.port id s =
      ({ s.hold id.toNat with fax := { s.fax with place := .store, linkedId := some id.toNat } }, .plain .ok) := by
    unfold takeFaxFromStore takeFaxEntry
    simp [hout, hholder, hplace, hvisible, hstate, hkind, hpages]
  have hsame : SameBut [.fax, .directory] s
      { s.hold id.toNat with fax := { s.fax with place := .store, linkedId := some id.toNat } } :=
    .of_parts (by simp [State.hold])
  obtain ⟨t, hexec, hreplies, hanswered, hframe⟩ := command_changes h hbody hsame (by simp)
  exact ⟨t, hexec, hreplies.fax, by rw [hreplies.store]; rfl, hanswered, hframe⟩

/-- Settles O22: a decision after the mark and before it, and a stored source. -/
theorem faxNextDecides : Obligations.FaxNextDecides := fun _ _ h hout hholder =>
  ⟨fun _ _ hm hplace hphase hport hending => ⟨faxNext_sends h hm hout hholder ⟨hplace, hphase, hport⟩ hending,
    faxNext_notes h hm hout hholder ⟨hplace, hphase, hport⟩⟩,
    fun _ _ hplace hvisible hstate hkind hpages => faxNext_fromStore h hout hholder hplace hvisible hstate hkind hpages⟩

end Sys2Proof.Machine
end

section
/-! PROOFS. Fax setup and its check (R56, R112, R132 to R137). -/

namespace Sys2Proof.Machine

/-! ### The end of a row -/

/-- R181: a state before and after the delivery that ends its row. -/
structure State.Delivered (u t : State) : Prop where
  fax : t.fax = u.fax
  link : t.link = u.link
  pump : t.pump = u.pump
  level : t.level = u.level
  ccu : t.ccu = u.ccu
  rau : t.rau = u.rau
  tone : t.tone = u.tone
  voice : t.voice = u.voice
  timers : t.timers = u.timers
  store : t.store = u.store
  data : t.sys.data = u.sys.data
  entryDue : t.sys.entryDue = u.sys.entryDue
  cts : t.sys.cts = u.sys.cts
  notice : ∀ (p : Port) (x : Source), u.Noticed p x → t.Noticed p x
  loaded : ∀ (use : T2Use) (ms : Nat) (restart : RestartSource), u.LoadedT2 use ms restart → t.LoadedT2 use ms restart

theorem State.deliverSystem_delivered (u : State) : u.Delivered u.deliverSystem where
  fax := by simp
  link := by simp
  pump := by simp
  level := by simp
  ccu := by simp
  rau := by simp
  tone := by simp
  voice := by simp
  timers := by simp
  store := by simp
  data := by simp
  entryDue := by simp
  cts := by simp
  notice _ _ h := h.deliverSystem
  loaded _ _ _ h := h.of_same (State.deliverSystem_same u) (by simp)

/-- A row that changes only the named parts. -/
theorem finish_does {c : Instr} {s u : State} {parts : List Part} (hexec : exec c s = finish u) (hsame : SameBut parts s u) :
    ∃ t, exec c s = .next t ∧ u.Delivered t ∧ SameBut parts s t :=
  ⟨_, hexec, u.deliverSystem_delivered, hsame.finish⟩

theorem finish_idles {c : Instr} {s : State} (hexec : exec c s = finish s) : ∃ t, exec c s = .next t ∧ SameBut [] s t :=
  ⟨_, hexec, (SameBut.refl [] s).finish⟩

/-- A call that has ended after a step that leaves the call, the history, the statistics, the operation and the store. -/
theorem CallEnded.after_fax {early : List Part} {s s' t : State} {c : Cause} (h : CallEnded [] s' t c)
    (hsame : SameBut early s s') {more : List Part} (hearly : early ⊆ endParts s ++ more)
    (hkeeps : ∀ x ∈ [Part.call, .history, .stats, .voiceOp, .directory, .memory], x ∉ early)
    (hjob : s.ccu.call.job = .fax) : CallEnded more s t c :=
  have hpart (x : Part) (hx : x ∈ [Part.call, .history, .stats, .voiceOp, .directory, .memory])
      (hn : x ≠ .notices .system) : x.Same s s' := hsame x (hkeeps x hx) hn
  have hcall : s'.ccu.call = s.ccu.call := hpart .call (by simp) (by simp)
  h.of_before (hsame.mono hearly) hcall (hpart .history (by simp) (by simp))
    (hpart .stats (by simp) (by simp)) (hpart .voiceOp (by simp) (by simp)) (hpart .directory (by simp) (by simp))
    (hpart .memory (by simp) (by simp)) (.inl (by rw [hcall, hjob]))

/-! ### The SET and its check -/

/-- R136, R137: a SET and a phase with it. -/
theorem State.sendSet_faxTo (s : State) (p : FaxPhase) :
    (s.sendSet.faxTo p).fax =
        { s.fax with expect := .checkVerdict, lastFrame := some s.fax.setFrame, checkSending := false, unsent := true,
                     phase := some p } ∧
      (s.sendSet.faxTo p).link.tx = .fax s.fax.setFrame ∧
      (s.sendSet.faxTo p).pump = { s.pump with rung := some (s.fax.rung.getD 0) } ∧
      (s.sendSet.faxTo p).LoadedT2 .faxReply 3000 .none ∧
      SameBut [.fax, .link, .call, .ccuRest, .timer 2, .pump] s (s.sendSet.faxTo p) := by
  obtain ⟨hfax, hlink, hpump, hloaded, hsame⟩ := s.sendSet_leaves
  have hto := s.sendSet.faxTo_same p
  refine ⟨by rw [State.faxTo_fax, hfax], ?_, ?_, hloaded.of_same hto (by simp), (hsame.andThen hto).mono (by simp)⟩
  · rw [← hlink]
    simp [State.faxTo]
  · rw [← hpump]
    simp [State.faxTo]

/-- R136: the session's values from a CAPS. -/
def Fax.capsTaken (x : Fax) (rung : Nat) (r : Resolution) (ms : Nat) : Fax :=
  { x with expect := .none, retries := 0, unsent := false, answered := x.noteAnswer, rung := some rung,
           resolution := some r, scanMs := ms }

theorem State.takeCaps_sends {s : State} {m r x : Byte} {rung : Nat} (hrung : min (min 7 m.toNat) s.fax.ceiling = rung)
    (hfloor : s.fax.floor ≤ rung) :
    s.takeCaps m r x = State.faxTo (State.sendSet { s.faxAnswered with
      fax := s.fax.capsTaken rung (chooseResolution s.settings.faxFine r) (readScanMs x.toNat) }) .check := by
  subst hrung
  exact if_neg (Nat.not_lt.2 hfloor)

/-- R136: what a CAPS that is taken leaves. -/
structure CapsTaken (s t : State) (rung : Nat) (r : Resolution) (ms : Nat) : Prop where
  fax : t.fax =
    { s.fax.capsTaken rung r ms with
      expect := .checkVerdict, lastFrame := some (.set rung r.code ms), checkSending := false, unsent := true,
      phase := some .check }
  tx : t.link.tx = .fax (.set rung r.code ms)
  pump : t.pump = { s.pump with rung := some rung }
  loaded : t.LoadedT2 .faxReply 3000 .none
  frame : SameBut [.fax, .link, .call, .ccuRest, .timer 2, .pump] s t

theorem State.takeCaps_taken {s : State} {m r x : Byte} {rung : Nat} (hrung : min (min 7 m.toNat) s.fax.ceiling = rung)
    (hfloor : s.fax.floor ≤ rung) :
    CapsTaken s (s.takeCaps m r x) rung (chooseResolution s.settings.faxFine r) (readScanMs x.toNat) := by
  rw [State.takeCaps_sends hrung hfloor]
  obtain ⟨hfax, htx, hpump, hloaded, hsame⟩ := State.sendSet_faxTo { s.faxAnswered with
    fax := s.fax.capsTaken rung (chooseResolution s.settings.faxFine r) (readScanMs x.toNat) } .check
  exact ⟨hfax, htx, hpump, hloaded,
    ((s.faxAnswered_same.andThen (s.faxAnswered.faxSet_same _)).andThen hsame).mono (by simp)⟩

theorem exec_capsReceived {s : State} {m r x : Byte} (hrole : s.faxHear.faxRole .sender) (hlistens : s.faxHear.fax.listens)
    (hphase : s.faxHear.fax.phase = some .setup) (hexpect : s.faxHear.fax.expect = .caps) :
    exec (.capsReceived m r x) s = finish (s.faxHear.takeCaps m r x) :=
  congrArg finish ((if_pos ⟨hrole, hlistens⟩).trans (if_pos ⟨hphase, hexpect⟩))

/-- R136: a CAPS that leaves no rung within the bounds. -/
theorem State.takeCaps_ends {s : State} {m r x : Byte} (hfloor : min (min 7 m.toNat) s.fax.ceiling < s.fax.floor)
    (hactive : s.ccu.call.active = true) (hjob : s.ccu.call.job = .fax) (hending : s.ccu.ending = none) :
    CallEnded [] s (s.takeCaps m r x) .faxTraining := by
  have hend : s.takeCaps m r x = s.faxAnswered.reportEnd .faxTraining := if_pos hfloor
  rw [hend]
  exact (State.reportEnd_ended (s := s.faxAnswered) hactive hending _).after_fax s.faxAnswered_same (by simp [endParts])
    (by simp) hjob

section
variable {s : State} (hactive : s.ccu.call.active = true) (hjob : s.ccu.call.job = .fax)
include hactive hjob

theorem capsReceived_taken {m r x : Byte} (hrole : s.fax.role = some .sender) (hlistens : s.fax.listens)
    (hline : s.ccu.line = .connected) (hphase : s.fax.phase = some .setup) (hexpect : s.fax.expect = .caps)
    (hfloor : s.fax.floor ≤ min (min 7 m.toNat) s.fax.ceiling) :
    ∃ t, exec (.capsReceived m r x) s = .next t ∧ t.fax.rung = some (min (min 7 m.toNat) s.fax.ceiling) ∧
      t.fax.lastFrame = some (.set (min (min 7 m.toNat) s.fax.ceiling)
        ((chooseResolution s.settings.faxFine r).code) (readScanMs x.toNat)) ∧
      t.fax.resolution = some (chooseResolution s.settings.faxFine r) ∧
      t.fax.scanMs = readScanMs x.toNat ∧ t.fax.phase = some .check ∧ t.fax.expect = .checkVerdict ∧
      t.fax.checkSending = false ∧ t.fax.retries = 0 ∧
      t.link.tx = .fax (.set (min (min 7 m.toNat) s.fax.ceiling)
        ((chooseResolution s.settings.faxFine r).code) (readScanMs x.toNat)) ∧
      t.pump = { s.pump with rung := some (min (min 7 m.toNat) s.fax.ceiling) } ∧
      t.LoadedT2 .faxReply 3000 .none ∧ SameBut [.fax, .link, .call, .ccuRest, .timer 2, .pump] s t := by
  have hheard := State.faxHear_connected hline
  have htaken := State.takeCaps_taken (m := m) (r := r) (x := x) rfl hfloor
  have hexec := exec_capsReceived (m := m) (r := r) (x := x) (s := s) (by rw [hheard]; exact ⟨hactive, hjob, hrole⟩)
    (by rw [hheard]; exact hlistens) (by rw [hheard]; exact hphase) (by rw [hheard]; exact hexpect)
  rw [hheard] at hexec
  obtain ⟨t, hnext, ht, hsame⟩ := finish_does hexec htaken.frame
  have hfax := ht.fax.trans htaken.fax
  exact ⟨t, hnext, by rw [hfax]; rfl, by rw [hfax], by rw [hfax]; rfl, by rw [hfax]; rfl, by rw [hfax], by rw [hfax],
    by rw [hfax], by rw [hfax]; rfl, by rw [ht.link, htaken.tx], by rw [ht.pump, htaken.pump],
    ht.loaded _ _ _ htaken.loaded, hsame⟩

theorem capsReceived_ends {m r x : Byte} (hrole : s.fax.role = some .sender) (hlistens : s.fax.listens)
    (hline : s.ccu.line = .connected) (hphase : s.fax.phase = some .setup) (hexpect : s.fax.expect = .caps)
    (hfloor : min (min 7 m.toNat) s.fax.ceiling < s.fax.floor) (hending : s.ccu.ending = none) :
    ∃ t, exec (.capsReceived m r x) s = .next t ∧ CallEnded [] s t .faxTraining := by
  have hheard := State.faxHear_connected hline
  have hexec := exec_capsReceived (m := m) (r := r) (x := x) (s := s) (by rw [hheard]; exact ⟨hactive, hjob, hrole⟩)
    (by rw [hheard]; exact hlistens) (by rw [hheard]; exact hphase) (by rw [hheard]; exact hexpect)
  rw [hheard] at hexec
  exact ⟨_, hexec, (State.takeCaps_ends hfloor hactive hjob hending).finish⟩

end

/-! ### A call in progress is connected (R56) -/

/-- R56, R132: a sender's session as it stands when a control frame has connected the call. -/
structure SenderConnected (s t : State) : Prop where
  line : t.ccu.line = .connected
  fax : t.fax = { s.fax with floor := max 2 s.settings.rungFloor, ceiling := min 7 s.settings.rungCeiling,
                             phase := some .setup, expect := .caps }
  mode : t.pump.mode = .fax
  call : t.ccu.call.active = s.ccu.call.active ∧ t.ccu.call.job = s.ccu.call.job
  notice : ∀ p, t.Noticed p .callState
  frame : SameBut [.line, .call, .ccuRest, .timer 2, .detectors, .pump, .fax, .notices .panel] s t
  waits : t.LoadedT2 .faxReply 3000 .none

theorem State.Noticed.faxBounded {s : State} {p : Port} {x : Source} (h : s.Noticed p x) : s.faxBounded.Noticed p x := by
  refine h.congr (fun q => ?_) ?_
  · simp [State.faxBounded, State.faxTo, State.port]
  · simp [State.faxBounded, State.faxTo]

theorem State.connectCall_sender {s : State} (hjob : s.ccu.call.job = .fax) (hrole : s.fax.role = some .sender)
    (hline : s.ccu.line = .progress) (hbounds : max 2 s.settings.rungFloor ≤ min 7 s.settings.rungCeiling) :
    SenderConnected s s.connectCall := by
  have hsettings : s.lineConnected.settings = s.settings := s.lineConnected_same .settings (by simp) (by simp)
  have hlfax : s.lineConnected.fax = s.fax := s.lineConnected_same .fax (by simp) (by simp)
  obtain ⟨hconnected, -, -, -, -, -, hlcall⟩ := s.lineConnected_leaves
  obtain ⟨hfax, hmode, -, -, x, hcall⟩ := s.lineConnected.faxBounded_leaves
  rw [hlfax, hsettings] at hfax
  rw [hlcall] at hcall
  have heq : s.connectCall = State.faxWait { s.lineConnected.faxBounded with
      fax := { s.lineConnected.faxBounded.fax with expect := .caps } } := by
    rw [State.connectCall_eq, hjob, State.faxStart_sender (by rw [hlfax, hrole]; simp)]
    exact if_neg (by rw [hfax]; exact Nat.not_lt.2 hbounds)
  have hnotice (p : Port) : s.lineConnected.faxBounded.Noticed p .callState :=
    (State.lineConnected_noticed (by rw [hline]; simp) p).faxBounded
  have hline' : s.lineConnected.faxBounded.ccu.line = .connected := by
    rw [← hconnected]
    exact s.lineConnected.faxBounded_same .line (by simp) (by simp)
  have hwait := State.loadT2_same { s.lineConnected.faxBounded with
    fax := { s.lineConnected.faxBounded.fax with expect := .caps } } .faxReply Config.faxWaitMs .none
  rw [heq]
  refine ⟨hline', ?_, hmode, ?_, hnotice, ?_, State.loadT2_loaded _ _ _ _⟩
  · show { s.lineConnected.faxBounded.fax with expect := .caps } = _
    rw [hfax]
  · show s.lineConnected.faxBounded.ccu.call.active = _ ∧ s.lineConnected.faxBounded.ccu.call.job = _
    rw [hcall]
    exact ⟨rfl, rfl⟩
  · exact (((s.lineConnected_same.andThen s.lineConnected.faxBounded_same).andThen (State.faxSet_same _ _)).andThen hwait).mono
      (by simp)

theorem State.faxHear_sender {s : State} (hactive : s.ccu.call.active = true) (hjob : s.ccu.call.job = .fax)
    (hrole : s.fax.role = some .sender) (hline : s.ccu.line = .progress)
    (hbounds : max 2 s.settings.rungFloor ≤ min 7 s.settings.rungCeiling) : SenderConnected s s.faxHear := by
  rw [State.faxHear, if_pos ⟨hactive, hjob, hline⟩]
  exact State.connectCall_sender hjob hrole hline hbounds

theorem State.Noticed.takeCaps {s : State} {p : Port} {y : Source} (h : s.Noticed p y) {m r x : Byte}
    (hfloor : s.fax.floor ≤ min (min 7 m.toNat) s.fax.ceiling) : (s.takeCaps m r x).Noticed p y := by
  rw [State.takeCaps_sends rfl hfloor]
  refine h.congr (fun q => ?_) ?_
  · simp [State.faxTo, State.port]
  · simp [State.faxTo]

theorem capsReceived_connects {s : State} {m r x : Byte} (hactive : s.ccu.call.active = true) (hjob : s.ccu.call.job = .fax)
    (hrole : s.fax.role = some .sender) (hline : s.ccu.line = .progress) (hcheck : s.fax.checkSending = false)
    (hbounds : max 2 s.settings.rungFloor ≤ min 7 s.settings.rungCeiling) (hmax : max 2 s.settings.rungFloor ≤ m.toNat) :
    ∃ t, exec (.capsReceived m r x) s = .next t ∧ t.ccu.line = .connected ∧ t.pump.mode = .fax ∧
      t.fax.phase = some .check ∧ t.fax.floor = max 2 s.settings.rungFloor ∧
      t.fax.ceiling = min 7 s.settings.rungCeiling ∧
      t.fax.rung = some (min (min 7 m.toNat) (min 7 s.settings.rungCeiling)) ∧ t.pump.rung = t.fax.rung ∧
      t.LoadedT2 .faxReply 3000 .none ∧ (∀ p, t.Noticed p .callState) ∧
      SameBut [.line, .call, .ccuRest, .timer 2, .detectors, .pump, .fax, .link, .notices .panel] s t := by
  have hheard := State.faxHear_sender hactive hjob hrole hline hbounds
  obtain ⟨hhactive, hhjob⟩ := hheard.call
  have hceiling : s.faxHear.fax.ceiling = min 7 s.settings.rungCeiling := by rw [hheard.fax]
  have hfloor : s.faxHear.fax.floor ≤ min (min 7 m.toNat) s.faxHear.fax.ceiling := by
    rw [hceiling, hheard.fax]
    show max 2 s.settings.rungFloor ≤ _
    omega
  have htaken := State.takeCaps_taken (m := m) (r := r) (x := x) rfl hfloor
  have hlistens : s.faxHear.fax.listens := by
    rw [hheard.fax]
    exact ⟨rfl, hcheck, by simp⟩
  have hexec := exec_capsReceived (m := m) (r := r) (x := x) (s := s)
    ⟨hhactive.trans hactive, hhjob.trans hjob, by rw [hheard.fax]; exact hrole⟩ hlistens (by rw [hheard.fax])
    (by rw [hheard.fax])
  obtain ⟨t, hnext, ht, hsame⟩ := finish_does hexec (hheard.frame.andThen htaken.frame)
  have hfax := ht.fax.trans htaken.fax
  have hpump := ht.pump.trans htaken.pump
  have hkept := (htaken.frame .line (by simp) (by simp)).trans hheard.line
  refine ⟨t, hnext, by rw [ht.ccu]; exact hkept, by rw [hpump]; exact hheard.mode, by rw [hfax], ?_, ?_, ?_, ?_,
    ht.loaded _ _ _ htaken.loaded, fun p => ht.notice p _ ((hheard.notice p).takeCaps hfloor), hsame.mono (by simp)⟩
  · rw [hfax]
    show s.faxHear.fax.floor = _
    rw [hheard.fax]
  · rw [hfax]
    show s.faxHear.fax.ceiling = _
    rw [hheard.fax]
  · rw [hfax, ← hceiling]
    rfl
  · rw [hfax, hpump]
    rfl

end Sys2Proof.Machine
end

section
/-! PROOFS. The fax check and its verdict (R135 to R137, R139). -/

namespace Sys2Proof.Machine

/-! ### The sender begins a page (R137, R139, R145) -/

/-- R139: the first page fixes its number. -/
def Fax.pageNumbered (x : Fax) : Fax :=
  { x with page := if x.page = 0 then 1 else x.page, attempts := if x.page = 0 then 1 else x.attempts,
           phase := some .page }

/-- R139: what a session is at the beginning of a page. -/
def Fax.pageBegun (x : Fax) : Fax :=
  { x with inPair := false, lineLength := 0, pageFromPort := false, markOut := false, markSent := false, more := none }

/-- R139: the page's number and phase, before its source. -/
def State.pageNumbered (s : State) : State :=
  State.faxTo { s with
    fax := { s.fax with
             page := if s.fax.page = 0 then 1 else s.fax.page,
             attempts := if s.fax.page = 0 then 1 else s.fax.attempts } } .page

theorem State.pageNumbered_leaves (s : State) :
    s.pageNumbered.fax = s.fax.pageNumbered ∧ s.pageNumbered.ccu.call.active = s.ccu.call.active ∧
      s.pageNumbered.ccu.call.job = s.ccu.call.job ∧ s.pageNumbered.ccu.call.holder = s.ccu.call.holder ∧
      s.pageNumbered.ccu.ending = s.ccu.ending ∧ SameBut [.fax, .call] s s.pageNumbered := by
  refine ⟨State.faxTo_fax _ _, ?_, ?_, ?_, ?_, ((s.faxSet_same _).andThen (State.faxTo_same _ _)).mono (by simp)⟩
  all_goals simp [State.pageNumbered, State.faxTo]

theorem State.faxSendPage_eq (s : State) :
    s.faxSendPage =
      if s.fax.place = .undecided then
        if s.ccu.call.holder = some .system then
          State.faxBeginPage { s.pageNumbered with fax := { s.pageNumbered.fax with place := .port } }
        else s.pageNumbered.reportEnd .faxPageFailed
      else s.pageNumbered.faxBeginPage := by
  obtain ⟨hfax, -, -, hholder, -⟩ := s.pageNumbered_leaves
  have hplace : s.pageNumbered.fax.place = s.fax.place := by
    rw [hfax]
    rfl
  have heq : s.faxSendPage =
      if s.pageNumbered.fax.place = .undecided then
        if s.pageNumbered.ccu.call.holder = some .system then
          State.faxBeginPage { s.pageNumbered with fax := { s.pageNumbered.fax with place := .port } }
        else s.pageNumbered.reportEnd .faxPageFailed
      else s.pageNumbered.faxBeginPage := by
    unfold State.faxSendPage State.pageNumbered
    simp only [decide_eq_true_eq]
  rw [heq, hplace, hholder]

/-- R139: the resynchronising symbols, and the page's fields, before its source. -/
def State.pageReset (s : State) : State :=
  { s with link := { s.link with tx := .resync (s.fax.rung.getD 0) }, fax := s.fax.pageBegun }

theorem State.pageReset_same (s : State) : SameBut [.fax, .link] s s.pageReset := .of_parts (by simp [State.pageReset])

theorem State.faxBeginPage_eq (s : State) :
    s.faxBeginPage =
      match s.fax.place with
      | .port => (s.pageReset.loadT2 .faxStall 3000 .none).requestData
      | _ =>
        { s.pageReset with
          fax := { s.pageReset.fax with
                   pageStart := s.pageReset.faxOut.map (fun e => e.pageStartOf s.fax.page),
                   position := (s.pageReset.faxOut.map (fun e => e.pageStartOf s.fax.page)).getD 0 } } := rfl

/-- R145: a page from the store begins where the entry's page table says. -/
theorem State.faxBeginPage_store {s : State} (hplace : s.fax.place = .store) :
    (∃ o n, s.faxBeginPage.fax = { s.fax.pageBegun with pageStart := o, position := n }) ∧
      s.faxBeginPage.link.tx = .resync (s.fax.rung.getD 0) ∧ s.faxBeginPage.timers = s.timers ∧
      SameBut [.fax, .link] s s.faxBeginPage := by
  rw [State.faxBeginPage_eq, hplace]
  exact ⟨⟨_, _, rfl⟩, rfl, rfl, (s.pageReset_same.andThen (s.pageReset.faxSet_same _)).mono (by simp)⟩

/-- R139, R146: a page from the System Port begins with its stall time, and the port's data state. -/
theorem State.faxBeginPage_port {s : State} (hplace : s.fax.place = .port) (hjob : s.ccu.call.job = .fax) :
    s.faxBeginPage.fax = s.fax.pageBegun ∧
      s.faxBeginPage.link.tx = .resync (s.fax.rung.getD 0) ∧ s.faxBeginPage.LoadedT2 .faxStall 3000 .none ∧
      (s.faxBeginPage.sys.data = true ∨ s.faxBeginPage.sys.entryDue = true) ∧
      SameBut [.fax, .link, .ccuRest, .timer 2, .systemPort] s s.faxBeginPage := by
  have hfax : (s.pageReset.loadT2 .faxStall 3000 .none).ccu.call.job ≠ .data := by
    show s.ccu.call.job ≠ .data
    rw [hjob]
    simp
  have hdata := State.requestData_fax_same hfax
  rw [State.faxBeginPage_eq, hplace]
  refine ⟨?_, ?_, (State.loadT2_loaded _ _ _ _).of_same hdata (by simp), State.requestData_enters _,
    ((s.pageReset_same.andThen (State.loadT2_same _ _ _ _)).andThen hdata).mono (by simp)⟩
  · exact hdata .fax (by simp) (by simp)
  · have hlink : (s.pageReset.loadT2 .faxStall 3000 .none).requestData.link.tx =
        (s.pageReset.loadT2 .faxStall 3000 .none).link.tx := by simp
    exact hlink

/-- R139, R145: the sender's page from the store. -/
theorem State.faxSendPage_store {s : State} (hplace : s.fax.place = .store) :
    (∃ o n, s.faxSendPage.fax = { s.fax.pageNumbered.pageBegun with pageStart := o, position := n }) ∧
      s.faxSendPage.link.tx = .resync (s.fax.rung.getD 0) ∧ s.faxSendPage.timers = s.timers ∧
      SameBut [.fax, .link, .call] s s.faxSendPage := by
  obtain ⟨hfax, -, -, -, -, hsame⟩ := s.pageNumbered_leaves
  have hnplace : s.pageNumbered.fax.place = .store := by
    rw [hfax]
    exact hplace
  obtain ⟨⟨o, n, hbegun⟩, htx, htimers, hbegin⟩ := State.faxBeginPage_store hnplace
  rw [State.faxSendPage_eq, if_neg (by simp [hplace])]
  rw [hfax] at hbegun htx
  refine ⟨⟨o, n, hbegun⟩, htx, ?_, (hsame.andThen hbegin).mono (by simp)⟩
  rw [htimers]
  simp [State.pageNumbered, State.faxTo]

/-- R139, R146: the sender's page from the System Port, and the first page of the system master's call. -/
theorem State.faxSendPage_port {s : State}
    (hplace : s.fax.place = .port ∨ (s.fax.place = .undecided ∧ s.ccu.call.holder = some .system))
    (hjob : s.ccu.call.job = .fax) :
    s.faxSendPage.fax = { s.fax.pageNumbered.pageBegun with place := .port } ∧
      s.faxSendPage.link.tx = .resync (s.fax.rung.getD 0) ∧ s.faxSendPage.LoadedT2 .faxStall 3000 .none ∧
      (s.faxSendPage.sys.data = true ∨ s.faxSendPage.sys.entryDue = true) ∧
      SameBut [.fax, .link, .call, .ccuRest, .timer 2, .systemPort] s s.faxSendPage := by
  obtain ⟨hfax, -, hnjob, -, -, hsame⟩ := s.pageNumbered_leaves
  have heq : s.faxSendPage =
      State.faxBeginPage { s.pageNumbered with fax := { s.pageNumbered.fax with place := .port } } := by
    rw [State.faxSendPage_eq]
    rcases hplace with hport | ⟨hundecided, hholder⟩
    · have hnplace : { s.pageNumbered.fax with place := .port } = s.pageNumbered.fax := by
        rw [hfax, ← hport]
        rfl
      rw [if_neg (by simp [hport]), hnplace]
    · rw [if_pos hundecided, if_pos hholder]
  obtain ⟨hbegun, htx, hloaded, henters, hbegin⟩ := State.faxBeginPage_port
    (s := { s.pageNumbered with fax := { s.pageNumbered.fax with place := .port } }) rfl (hnjob.trans hjob)
  rw [heq]
  refine ⟨hbegun.trans ?_, htx.trans ?_, hloaded, henters,
    ((hsame.andThen (s.pageNumbered.faxSet_same _)).andThen hbegin).mono (by simp)⟩
  · rw [hfax]
    rfl
  · rw [hfax]
    rfl

/-! ### CHECK_OK and CHECK_FAIL (R135, R137) -/

/-- R135: a verdict on an earlier SET. -/
theorem checkVerdict_stale {s : State} (hline : s.ccu.line = .connected) (hstale : s.fax.stale) :
    (∃ t, exec .checkOkReceived s = .next t ∧ SameBut [] s t) ∧ (∃ t, exec .checkFailReceived s = .next t ∧ SameBut [] s t) := by
  have hnot : ¬s.awaitsCheck := fun h => h.2.2.2 hstale
  constructor
  · refine finish_idles ?_
    show finish (if s.faxHear.awaitsCheck then s.faxHear.faxAnswered.faxSendPage else s.faxHear) = _
    rw [State.faxHear_connected hline, if_neg hnot]
  · refine finish_idles ?_
    show finish (if s.faxHear.awaitsCheck then s.faxHear.faxAnswered.checkStepDown else s.faxHear) = _
    rw [State.faxHear_connected hline, if_neg hnot]

section
variable {s : State} (hactive : s.ccu.call.active = true) (hjob : s.ccu.call.job = .fax)
  (hrole : s.fax.role = some .sender) (hlistens : s.fax.listens) (hline : s.ccu.line = .connected)
  (hphase : s.fax.phase = some .check)
include hactive hjob hrole hlistens hline hphase

theorem exec_checkOkReceived (hstale : ¬s.fax.stale) : exec .checkOkReceived s = finish s.faxAnswered.faxSendPage := by
  show finish (if s.faxHear.awaitsCheck then s.faxHear.faxAnswered.faxSendPage else s.faxHear) = _
  rw [State.faxHear_connected hline, if_pos ⟨⟨hactive, hjob, hrole⟩, hlistens, hphase, hstale⟩]

theorem exec_checkFailReceived (hstale : ¬s.fax.stale) :
    exec .checkFailReceived s = finish s.faxAnswered.checkStepDown := by
  show finish (if s.faxHear.awaitsCheck then s.faxHear.faxAnswered.checkStepDown else s.faxHear) = _
  rw [State.faxHear_connected hline, if_pos ⟨⟨hactive, hjob, hrole⟩, hlistens, hphase, hstale⟩]

theorem checkOkReceived_store (hstale : ¬s.fax.stale) (hplace : s.fax.place = .store) :
    ∃ t, exec .checkOkReceived s = .next t ∧ t.fax.phase = some .page ∧ t.fax.expect = .none ∧
      t.fax.page = (if s.fax.page = 0 then 1 else s.fax.page) ∧ t.fax.markSent = false ∧ t.fax.markOut = false ∧
      t.link.tx = .resync (s.fax.rung.getD 0) ∧
      t.timers.e2.mode = .off ∧ SameBut [.fax, .link, .call, .ccuRest, .timer 2] s t := by
  obtain ⟨⟨o, n, hfax⟩, htx, htimers, hsame⟩ := State.faxSendPage_store (s := s.faxAnswered) hplace
  obtain ⟨t, hnext, ht, hframe⟩ := finish_does (exec_checkOkReceived hactive hjob hrole hlistens hline hphase hstale)
    (s.faxAnswered_same.andThen hsame)
  have htfax := ht.fax.trans hfax
  exact ⟨t, hnext, by rw [htfax]; rfl, by rw [htfax]; rfl, by rw [htfax]; rfl, by rw [htfax]; rfl, by rw [htfax]; rfl,
    by rw [ht.link, htx]; rfl, by rw [ht.timers, htimers]; rfl, hframe.mono (by simp)⟩

theorem checkOkReceived_port (hstale : ¬s.fax.stale)
    (hplace : s.fax.place = .port ∨ (s.fax.place = .undecided ∧ s.ccu.call.holder = some .system)) :
    ∃ t, exec .checkOkReceived s = .next t ∧ t.fax.phase = some .page ∧ t.fax.place = .port ∧
      t.LoadedT2 .faxStall 3000 .none ∧ t.link.tx = .resync (s.fax.rung.getD 0) ∧
      (t.sys.data = true ∨ t.sys.entryDue = true) ∧
      SameBut [.fax, .link, .call, .ccuRest, .timer 2, .systemPort] s t := by
  obtain ⟨hfax, htx, hloaded, henters, hsame⟩ := State.faxSendPage_port (s := s.faxAnswered) hplace hjob
  obtain ⟨t, hnext, ht, hframe⟩ := finish_does (exec_checkOkReceived hactive hjob hrole hlistens hline hphase hstale)
    (s.faxAnswered_same.andThen hsame)
  have htfax := ht.fax.trans hfax
  exact ⟨t, hnext, by rw [htfax]; rfl, by rw [htfax], ht.loaded _ _ _ hloaded, by rw [ht.link, htx]; rfl,
    by rw [ht.data, ht.entryDue]; exact henters, hframe.mono (by simp)⟩

theorem checkOkReceived_ends (hstale : ¬s.fax.stale) (hplace : s.fax.place = .undecided)
    (hholder : s.ccu.call.holder ≠ some .system) (hending : s.ccu.ending = none) :
    ∃ t, exec .checkOkReceived s = .next t ∧ t.ccu.line = .releasing ∧ t.ccu.call.active = false ∧
      t.ccu.call.cause = some .faxPageFailed ∧ t.LoadedT2 .guard 1500 .none ∧ SameBut (endParts s) s t := by
  obtain ⟨-, hnactive, -, -, hnending, hsame⟩ := s.faxAnswered.pageNumbered_leaves
  have hexec := exec_checkOkReceived hactive hjob hrole hlistens hline hphase hstale
  have hend : s.faxAnswered.faxSendPage = s.faxAnswered.pageNumbered.reportEnd .faxPageFailed := by
    rw [State.faxSendPage_eq, if_pos (show s.faxAnswered.fax.place = .undecided from hplace),
      if_neg (show ¬s.faxAnswered.ccu.call.holder = some .system from hholder)]
  rw [hend] at hexec
  have hends := (State.reportEnd_ended (hnactive.trans hactive) (hnending.trans hending) .faxPageFailed).finish
  have hbefore := s.faxAnswered_same.andThen hsame
  refine ⟨_, hexec, hends.line, by rw [hends.call.1], by rw [hends.call.1], hends.guard, ?_⟩
  have hparts : endParts s.faxAnswered.pageNumbered = endParts s := by
    simp only [endParts, State.pageNumbered, State.faxTo, State.reportPhase_keeps]
    rfl
  have hframe := hbefore.before_end (more := []) (by simp [endParts]) hparts hends.frame
  rwa [List.append_nil] at hframe

theorem checkFailReceived_steps (hstale : ¬s.fax.stale) (hfloor : s.fax.floor ≤ s.fax.rung.getD 0 - 1) :
    ∃ t, exec .checkFailReceived s = .next t ∧ t.fax.rung = some (s.fax.rung.getD 0 - 1) ∧
      t.fax.phase = some .check ∧ t.fax.expect = .checkVerdict ∧ t.fax.retries = 0 ∧
      t.link.tx = .fax (.set (s.fax.rung.getD 0 - 1) ((s.fax.resolution.getD .normal).code) s.fax.scanMs) ∧
      t.pump = { s.pump with rung := some (s.fax.rung.getD 0 - 1) } ∧
      t.LoadedT2 .faxReply 3000 .none ∧ SameBut [.fax, .link, .call, .ccuRest, .timer 2, .pump] s t := by
  have hexec := exec_checkFailReceived hactive hjob hrole hlistens hline hphase hstale
  have hstep : s.faxAnswered.checkStepDown = State.sendSet { s.faxAnswered with
      fax := { s.faxAnswered.fax with rung := some (s.fax.rung.getD 0 - 1) } } := if_neg (Nat.not_lt.2 hfloor)
  rw [hstep] at hexec
  obtain ⟨hfax, htx, hpump, hloaded, hsame⟩ := State.sendSet_leaves { s.faxAnswered with
    fax := { s.faxAnswered.fax with rung := some (s.fax.rung.getD 0 - 1) } }
  obtain ⟨t, hnext, ht, hframe⟩ := finish_does hexec
    ((s.faxAnswered_same.andThen (s.faxAnswered.faxSet_same _)).andThen hsame)
  have htfax := ht.fax.trans hfax
  exact ⟨t, hnext, by rw [htfax], by rw [htfax]; exact hphase, by rw [htfax], by rw [htfax]; rfl, by rw [ht.link, htx]; rfl,
    by rw [ht.pump, hpump]; rfl, ht.loaded _ _ _ hloaded, hframe.mono (by simp)⟩

theorem checkFailReceived_ends (hstale : ¬s.fax.stale) (hfloor : s.fax.rung.getD 0 - 1 < s.fax.floor)
    (hending : s.ccu.ending = none) : ∃ t, exec .checkFailReceived s = .next t ∧ CallEnded [] s t .faxTraining := by
  have hexec := exec_checkFailReceived hactive hjob hrole hlistens hline hphase hstale
  have hend : s.faxAnswered.checkStepDown = s.faxAnswered.reportEnd .faxTraining := if_pos hfloor
  rw [hend] at hexec
  exact ⟨_, hexec, ((State.reportEnd_ended (s := s.faxAnswered) hactive hending _).after_fax s.faxAnswered_same
    (by simp [endParts]) (by simp) hjob).finish⟩

end

end Sys2Proof.Machine
end

section
/-! PROOFS. The receiver's side of the fax setup (R135 to R137, R140). -/

namespace Sys2Proof.Machine

/-! ### SET (R135, R136) -/

theorem resolutionOf_valid {r : Byte} (h : r.toNat < 2) :
    resolutionOf r = some (if r = 0#8 then .normal else .fine) := by
  by_cases hzero : r = 0#8
  · rw [resolutionOf, if_pos hzero, if_pos hzero]
  · have hone : r = 1#8 := by bv_omega
    rw [resolutionOf, if_neg hzero, if_pos hone, if_neg hzero]

theorem resolutionOf_invalid {r : Byte} (h : 2 ≤ r.toNat) : resolutionOf r = none := by
  rw [resolutionOf, if_neg (by bv_omega), if_neg (by bv_omega)]

theorem setReceived_discarded {g r x : Byte} {s : State} (h : 2 ≤ r.toNat) :
    ∃ t, exec (.setReceived g r x) s = .next t ∧ SameBut [] s t := by
  refine finish_idles ?_
  show execSetReceived g r x s = _
  rw [execSetReceived, resolutionOf_invalid h]

/-- R136: the session's values from a SET. -/
def Fax.setTaken (x : Fax) (rung : Nat) (r : Resolution) (ms : Nat) : Fax :=
  { x with expect := .none, retries := 0, unsent := false, answered := x.noteAnswer, rung := some rung,
           resolution := some r, scanMs := ms, checkOverloaded := false }

/-- R136: the receiver as it takes a SET, before the pump's rung and the phase. -/
def State.setTaken (s : State) (rung : Nat) (r : Resolution) (ms : Nat) : State :=
  { s.faxAnswered with fax := s.fax.setTaken rung r ms, level := s.level.startFeed .training }

theorem State.setTaken_same (s : State) (rung : Nat) (r : Resolution) (ms : Nat) :
    SameBut [.fax, .level, .ccuRest, .timer 2] s (s.setTaken rung r ms) := by
  unfold State.setTaken State.faxAnswered State.stopT2
  exact .of_parts (by simp)

/-- R135: the parts that the last frame, sent again, changes. -/
theorem faxResend_does {s : State} {c : Instr} {f : FaxFrame} (hexec : exec c s = finish s.faxResend)
    (hlast : s.fax.lastFrame = some f)
    (hcheck : s.fax.checkSending = false) : ∃ t, exec c s = .next t ∧ t.link.tx = .fax f ∧ SameBut [.link] s t := by
  rw [State.faxResend_last hlast] at hexec
  have hset : { s.fax with checkSending := false } = s.fax := by rw [← hcheck]
  have hsame : SameBut [.link] s { s with link.tx := .fax f, fax.checkSending := false } := by
    rw [hset]
    exact .of_parts (by simp)
  obtain ⟨t, hnext, ht, hframe⟩ := finish_does hexec hsame
  exact ⟨t, hnext, by rw [ht.link], hframe⟩

/-! ### The end of the check (R137) -/

/-- R93, R137: the check as it ends, before its judgement. -/
def State.checkEnded (s : State) : State :=
  { s with
    fax := { s.fax with
             checkOverloaded := s.fax.checkOverloaded || (s.level.windowFull && s.level.window.saturated) },
    level := s.level.endTraining }

theorem State.checkEnded_same (s : State) : SameBut [.fax, .level] s s.checkEnded := .of_parts (by simp [State.checkEnded])

theorem State.checkEnded_level {s : State} {q : Nat}
    (hq : (s.level.windowFull = false ∧ q = s.level.trainingQ.getD 0) ∨
      (s.level.windowFull = true ∧ q = 47 - logCode (s.level.window.acc / 256))) :
    s.checkEnded.level.average = some (8 * q) ∧ s.checkEnded.level.feed = .off := by
  show s.level.endTraining.average = _ ∧ s.level.endTraining.feed = _
  rw [LevelMeter.endTraining, LevelMeter.lastTrainingQ_eq hq]
  exact ⟨rfl, rfl⟩

/-- R140, R143: the receiver of a page, before the port's data state. -/
def State.pageAwaited (s : State) : State :=
  State.faxTo { s with
    fax := { s.fax with
             page := if s.fax.page = 0 then 1 else s.fax.page, attempts := if s.fax.page = 0 then 1 else s.fax.attempts,
             pageStart := if s.fax.place = .store then (s.fax.linkedId.bind s.store.find).map Entry.length else none,
             dataBegun := false, inPair := false, markInQueue := none } } .page

theorem State.faxReceivePage_eq (s : State) :
    s.faxReceivePage = if s.fax.place = .port then s.pageAwaited.requestData else s.pageAwaited := by
  have hplace : s.pageAwaited.fax.place = s.fax.place := by simp [State.pageAwaited]
  rw [← hplace]
  unfold State.faxReceivePage State.faxPortPage State.pageAwaited
  simp only [decide_eq_true_eq]

theorem State.pageAwaited_same (s : State) : SameBut [.fax, .call] s s.pageAwaited :=
  ((s.faxSet_same _).andThen (State.faxTo_same _ _)).mono (by simp)

/-- R140, R144: what the receiver's entry to F_PAGE leaves. -/
structure PageAwaited (s t : State) : Prop where
  fax : t.fax = { s.fax with
    page := if s.fax.page = 0 then 1 else s.fax.page, attempts := if s.fax.page = 0 then 1 else s.fax.attempts,
    pageStart := if s.fax.place = .store then (s.fax.linkedId.bind s.store.find).map Entry.length else none,
    dataBegun := false, inPair := false, markInQueue := none, phase := some .page }
  link : t.link = s.link
  level : t.level = s.level
  store : t.store = s.store
  enters : s.fax.place = .port → t.sys.data = true ∨ t.sys.entryDue = true
  frame : SameBut ([.fax, .call] ++ if s.fax.place = .port then [.systemPort] else []) s t

theorem State.faxReceivePage_awaited {s : State} (hjob : s.ccu.call.job = .fax) : PageAwaited s s.faxReceivePage := by
  have hfax : s.pageAwaited.fax = _ := State.faxTo_fax _ _
  have hkept : s.pageAwaited.link = s.link ∧ s.pageAwaited.level = s.level ∧ s.pageAwaited.store = s.store := by
    simp [State.pageAwaited, State.faxTo]
  obtain ⟨hlink, hlevel, hstore⟩ := hkept
  rw [State.faxReceivePage_eq]
  by_cases hplace : s.fax.place = .port
  · have hajob : s.pageAwaited.ccu.call.job ≠ .data := by simp [State.pageAwaited, State.faxTo, hjob]
    have hsame := s.pageAwaited_same.andThen (State.requestData_fax_same hajob)
    rw [if_pos hplace]
    refine ⟨by simpa using hfax, by simpa using hlink, by simpa using hlevel, by simpa using hstore,
      fun _ => State.requestData_enters _, ?_⟩
    rwa [if_pos hplace]
  · have hsame := s.pageAwaited_same
    rw [if_neg hplace]
    refine ⟨hfax, hlink, hlevel, hstore, fun h => absurd h hplace, ?_⟩
    rwa [if_neg hplace, List.append_nil]

section
variable {s : State} (hactive : s.ccu.call.active = true) (hjob : s.ccu.call.job = .fax)
  (hrole : s.fax.role = some .receiver) (hline : s.ccu.line = .connected)
include hactive hjob hrole hline

theorem exec_setReceived {g r x : Byte} (hlistens : s.fax.listens) (hr : r.toNat < 2) :
    exec (.setReceived g r x) s = finish
      (if s.fax.phase = some .setup ∧ ¬s.fax.stale then
        s.takeSet g.toNat (if r = 0#8 then .normal else .fine) x.toNat
       else if s.fax.setAnswered = true then s.faxResend else s) := by
  show execSetReceived g r x s = _
  simp only [execSetReceived, resolutionOf_valid hr, State.faxHear_connected hline]
  exact congrArg finish (if_pos ⟨⟨hactive, hjob, hrole⟩, hlistens⟩)

theorem setReceived_taken {g r x : Byte} (hlistens : s.fax.listens) (hphase : s.fax.phase = some .setup)
    (hstale : ¬s.fax.stale) (hr : r.toNat < 2) :
    ∃ t, exec (.setReceived g r x) s = .next t ∧ t.fax.rung = some g.toNat ∧
      t.fax.resolution = some (if r = 0#8 then .normal else .fine) ∧ t.fax.retries = 0 ∧
      t.fax.scanMs = x.toNat ∧ t.fax.phase = some .check ∧ t.fax.expect = .none ∧ t.level.feed = .training ∧
      t.pump = { s.pump with rung := some g.toNat } ∧
      t.timers.e2.mode = .off ∧ SameBut [.fax, .level, .call, .ccuRest, .timer 2, .pump] s t := by
  have hexec := exec_setReceived (g := g) (x := x) hactive hjob hrole hline hlistens hr
  rw [if_pos ⟨hphase, hstale⟩] at hexec
  set u := s.setTaken g.toNat (if r = 0#8 then .normal else .fine) x.toNat with hu
  have htaken : s.takeSet g.toNat (if r = 0#8 then .normal else .fine) x.toNat = (u.faxRung g.toNat).faxTo .check := rfl
  rw [htaken] at hexec
  obtain ⟨hpump, hrfax, -⟩ := u.faxRung_leaves g.toNat
  have hsame := ((s.setTaken_same _ _ _).andThen (u.faxRung_same g.toNat)).andThen (State.faxTo_same (u.faxRung g.toNat) .check)
  have hfax : ((u.faxRung g.toNat).faxTo .check).fax = { u.fax with phase := some .check } := by
    rw [State.faxTo_fax, hrfax]
  obtain ⟨t, hnext, ht, hframe⟩ := finish_does hexec hsame
  have htfax := ht.fax.trans hfax
  refine ⟨t, hnext, by rw [htfax]; rfl, by rw [htfax]; rfl, by rw [htfax]; rfl, by rw [htfax]; rfl, by rw [htfax],
    by rw [htfax]; rfl, ?_, ?_, ?_, hframe.mono (by simp)⟩
  · rw [ht.level]
    simp [State.faxTo, State.faxRung, hu, State.setTaken, LevelMeter.startFeed]
  · rw [ht.pump]
    simp [State.faxTo, State.faxRung, hu, State.setTaken, State.faxAnswered]
  · rw [ht.timers]
    simp [State.faxTo, State.faxRung, hu, State.setTaken, State.faxAnswered, State.stopT2, Channel.stop, Channel.abandon]

theorem setReceived_repeated {f : FaxFrame} {g r x : Byte} (hlistens : s.fax.listens) (hr : r.toNat < 2)
    (hphase : s.fax.phase = some .check ∨ s.fax.phase = some .page ∨ s.fax.phase = some .postpage ∨
      s.fax.phase = some .clearing ∨ (s.fax.phase = some .setup ∧ s.fax.stale)) (hlast : s.fax.lastFrame = some f) :
    ∃ t, exec (.setReceived g r x) s = .next t ∧ t.link.tx = .fax f ∧ SameBut [.link] s t := by
  have hexec := exec_setReceived (g := g) (x := x) hactive hjob hrole hline hlistens hr
  have hnot : ¬(s.fax.phase = some .setup ∧ ¬s.fax.stale) := by
    rintro ⟨hsetup, hstale⟩
    rcases hphase with h | h | h | h | ⟨-, h⟩
    · simp [hsetup] at h
    · simp [hsetup] at h
    · simp [hsetup] at h
    · simp [hsetup] at h
    · exact hstale h
  have hanswered : s.fax.setAnswered = true := by
    unfold Fax.setAnswered
    rcases hphase with h | h | h | h | ⟨h, hstale⟩ <;> rw [h]
    exact decide_eq_true hstale
  rw [if_neg hnot, if_pos hanswered] at hexec
  exact faxResend_does hexec hlast hlistens.2.1

end

/-! ### The judgement of the check (R137) -/

section
variable {s : State} (hactive : s.ccu.call.active = true) (hjob : s.ccu.call.job = .fax)
  (hrole : s.fax.role = some .receiver)
include hactive hjob hrole

theorem exec_faxCheckEnd (hphase : s.fax.phase = some .check) :
    exec .faxCheckEnd s = finish
      (if s.checkEnded.checkPasses then (s.checkEnded.faxSend .checkOk .pageData).faxReceivePage
       else (s.checkEnded.faxSend .checkFail .set).faxTo .setup) :=
  congrArg finish (if_pos ⟨⟨hactive, hjob, hrole⟩, hphase⟩)

theorem faxCheckEnd_passes {q : Nat} (hphase : s.fax.phase = some .check)
    (hq : (s.level.windowFull = false ∧ q = s.level.trainingQ.getD 0) ∨
      (s.level.windowFull = true ∧ q = 47 - logCode (s.level.window.acc / 256)))
    (hfloor : s.fax.floor ≤ s.fax.rung.getD 0) (hceiling : s.fax.rung.getD 0 ≤ s.fax.ceiling)
    (hover : s.fax.checkOverloaded = false) (hlast : s.level.windowFull = false ∨ s.level.window.saturated = false)
    (hmargin : s.fall (s.fax.rung.getD 0) + s.settings.faxMargin ≤ 8 * q) :
    ∃ t, exec .faxCheckEnd s = .next t ∧ t.fax.phase = some .page ∧ t.fax.expect = .pageData ∧
      t.link.tx = .fax .checkOk ∧ t.LoadedT2 .faxReply 3000 .none ∧
      t.level.average = some (8 * q) ∧ t.level.feed = .off ∧
      (s.fax.place = .port → t.sys.data = true ∨ t.sys.entryDue = true) ∧
      SameBut [.fax, .level, .link, .call, .ccuRest, .timer 2, .systemPort] s t := by
  obtain ⟨haverage, hfeed⟩ := State.checkEnded_level hq
  have hpasses : s.checkEnded.checkPasses := by
    refine ⟨hfloor, hceiling, ?_, ?_⟩
    · rw [haverage]
      exact hmargin
    · rcases hlast with h | h <;> simp [State.checkEnded, hover, h]
  have hexec := exec_faxCheckEnd hactive hjob hrole hphase
  rw [if_pos hpasses] at hexec
  obtain ⟨hfax, hlink, hloaded⟩ := s.checkEnded.faxSend_leaves .checkOk .pageData
  have hawaited := State.faxReceivePage_awaited (s := s.checkEnded.faxSend .checkOk .pageData) hjob
  have hframe : SameBut [.fax, .call, .systemPort] (s.checkEnded.faxSend .checkOk .pageData)
      (s.checkEnded.faxSend .checkOk .pageData).faxReceivePage := by
    refine hawaited.frame.mono ?_
    split <;> simp
  obtain ⟨t, hnext, ht, hsame⟩ := finish_does hexec
    ((s.checkEnded_same.andThen (s.checkEnded.faxSend_same .checkOk .pageData)).andThen hframe)
  have htfax := ht.fax.trans hawaited.fax
  refine ⟨t, hnext, by rw [htfax], by rw [htfax, hfax], by rw [ht.link, hawaited.link, hlink],
    ht.loaded _ _ _ (hloaded.of_same hframe (by simp)), by rw [ht.level, hawaited.level]; exact haverage,
    by rw [ht.level, hawaited.level]; exact hfeed, fun hplace => ?_, hsame.mono (by simp)⟩
  rw [ht.data, ht.entryDue]
  exact hawaited.enters hplace

theorem faxCheckEnd_fails {q : Nat} (hphase : s.fax.phase = some .check)
    (hq : (s.level.windowFull = false ∧ q = s.level.trainingQ.getD 0) ∨
      (s.level.windowFull = true ∧ q = 47 - logCode (s.level.window.acc / 256)))
    (hfail : s.fax.rung.getD 0 < s.fax.floor ∨ s.fax.ceiling < s.fax.rung.getD 0 ∨ s.fax.checkOverloaded = true ∨
      (s.level.windowFull = true ∧ s.level.window.saturated = true) ∨
      8 * q < s.fall (s.fax.rung.getD 0) + s.settings.faxMargin) :
    ∃ t, exec .faxCheckEnd s = .next t ∧ t.fax.phase = some .setup ∧ t.fax.expect = .set ∧
      t.link.tx = .fax .checkFail ∧ t.LoadedT2 .faxReply 3000 .none ∧
      SameBut [.fax, .level, .link, .call, .ccuRest, .timer 2] s t := by
  obtain ⟨haverage, -⟩ := State.checkEnded_level hq
  have hfails : ¬s.checkEnded.checkPasses := by
    rintro ⟨hfloor, hceiling, hmargin, hover⟩
    have hover' : s.fax.checkOverloaded = false ∧ (s.level.windowFull && s.level.window.saturated) = false :=
      Bool.or_eq_false_iff.1 hover
    rw [haverage] at hmargin
    rcases hfail with h | h | h | ⟨hfull, hsaturated⟩ | h
    · exact absurd hfloor (Nat.not_le.2 h)
    · exact absurd hceiling (Nat.not_le.2 h)
    · rw [h] at hover'
      cases hover'.1
    · rw [hfull, hsaturated] at hover'
      cases hover'.2
    · exact absurd hmargin (Nat.not_le.2 h)
  have hexec := exec_faxCheckEnd hactive hjob hrole hphase
  rw [if_neg hfails] at hexec
  obtain ⟨hfax, hlink, hloaded, hsame⟩ := s.checkEnded.faxSend_faxTo .checkFail .set .setup
  obtain ⟨t, hnext, ht, hframe⟩ := finish_does hexec (s.checkEnded_same.andThen hsame)
  have htfax := ht.fax.trans hfax
  exact ⟨t, hnext, by rw [htfax], by rw [htfax], by rw [ht.link, hlink], ht.loaded _ _ _ hloaded, hframe.mono (by simp)⟩

end

theorem faxCheckSent_rests {s : State} (h : s.fax.checkSending = true) :
    ∃ t, exec .faxCheckSent s = .next t ∧ t.fax = { s.fax with checkSending := false } ∧ t.link.tx = .idleFill ∧
      SameBut [.fax, .link] s t := by
  have hexec : exec .faxCheckSent s = finish { s with fax.checkSending := false, link.tx := .idleFill } :=
    congrArg finish (if_pos h)
  have hsame : SameBut [.fax, .link] s { s with fax.checkSending := false, link.tx := .idleFill } := .of_parts (by simp)
  obtain ⟨t, hnext, ht, hframe⟩ := finish_does hexec hsame
  exact ⟨t, hnext, ht.fax, by rw [ht.link], hframe⟩

theorem faxInvalidControlFrame_discarded (s : State) (run : List Byte) :
    ∃ t, exec (.faxInvalidControlFrame run) s = .next t ∧ SameBut [] s t := by
  refine finish_idles ?_
  show execFaxInvalidControlFrame run s = _
  rw [execFaxInvalidControlFrame]
  split <;> rfl

/-- Settles O57: the sender's frames by its phase, then a call in progress, then the receiver's. -/
theorem faxSetUp : Obligations.FaxSetUp := by
  intro s hactive hjob
  refine ⟨fun hrole hlistens => ⟨fun m r x hline hphase hexpect =>
      ⟨capsReceived_taken hactive hjob hrole hlistens hline hphase hexpect,
        capsReceived_ends hactive hjob hrole hlistens hline hphase hexpect⟩,
      fun hline _ hstale => checkVerdict_stale hline hstale,
      fun hline hphase hstale => ⟨checkOkReceived_store hactive hjob hrole hlistens hline hphase hstale, fun hplace => ?_,
        fun hplace hholder => checkOkReceived_port hactive hjob hrole hlistens hline hphase hstale (.inr ⟨hplace, hholder⟩),
        checkOkReceived_ends hactive hjob hrole hlistens hline hphase hstale,
        checkFailReceived_steps hactive hjob hrole hlistens hline hphase hstale,
        checkFailReceived_ends hactive hjob hrole hlistens hline hphase hstale⟩⟩,
    fun m r x hrole hline _ hcheck hbounds hmax => capsReceived_connects hactive hjob hrole hline hcheck hbounds hmax,
    faxCheckSent_rests, fun hrole hline => ⟨fun g r x hlistens hphase hstale hr =>
      setReceived_taken hactive hjob hrole hline hlistens hphase hstale hr,
      fun f g r x hlistens hr hphase hlast => setReceived_repeated hactive hjob hrole hline hlistens hr hphase hlast,
      fun g r x h => setReceived_discarded h, fun q hphase hq =>
      ⟨faxCheckEnd_passes hactive hjob hrole hphase hq, faxCheckEnd_fails hactive hjob hrole hphase hq⟩⟩,
    faxInvalidControlFrame_discarded s⟩
  obtain ⟨t, hnext, hpage, -, hleaves⟩ :=
    checkOkReceived_port hactive hjob hrole hlistens hline hphase hstale (.inl hplace)
  exact ⟨t, hnext, hpage, hleaves⟩

end Sys2Proof.Machine
end

section
/-! PROOFS. A fax page is received (R138, R140, R143, R144). -/

namespace Sys2Proof.Machine

/-! ### The marks of the stream (R138, R140) -/

/-- R140: what the page-end mark leaves. -/
theorem State.faxPageEnded_leaves (s : State) :
    s.faxPageEnded.fax =
        { s.fax with dataBegun := false, inPair := false, expect := .pageEnd, phase := some .postpage } ∧
      s.faxPageEnded.level = s.level.stopFeed ∧ s.faxPageEnded.LoadedT2 .faxReply 3000 .none ∧
      s.faxPageEnded.link = s.link ∧ s.faxPageEnded.store = s.store ∧
      SameBut [.fax, .level, .call, .ccuRest, .timer 2] s s.faxPageEnded := by
  set u : State := { s with
    level := s.level.stopFeed, fax := { s.fax with dataBegun := false, inPair := false, expect := .pageEnd } } with hu
  have heq : s.faxPageEnded = State.loadT2 (u.faxTo .postpage) .faxReply 3000 .none := rfl
  have hset : SameBut [.fax, .level] s u := .of_parts (by simp [hu])
  rw [heq]
  refine ⟨u.faxTo_fax .postpage, ?_, State.loadT2_loaded _ _ _ _, ?_, ?_,
    ((hset.andThen (u.faxTo_same .postpage)).andThen (State.loadT2_same _ _ _ _)).mono (by simp)⟩
  · simp [State.faxTo, State.loadT2, hu]
  · simp [State.faxTo, State.loadT2, hu]
  · simp [State.faxTo, State.loadT2, hu]

theorem State.faxFollowMarks_first {s : State} (h : s.fax.inPair = false) (b : Byte) :
    s.faxFollowMarks b = { s with fax := { s.fax with inPair := decide (b = 0x10#8) } } := if_neg (by simp [h])

theorem State.faxFollowMarks_line {s : State} (h : s.fax.inPair = true) :
    s.faxFollowMarks 0x0A#8 = State.loadT2 { s with fax := { s.fax with inPair := false } } .faxStall 3000 .none :=
  (if_pos h).trans (if_pos rfl)

theorem State.faxFollowMarks_end {s : State} (h : s.fax.inPair = true) :
    s.faxFollowMarks 0x0C#8 = State.faxPageEnded { s with fax := { s.fax with inPair := false } } :=
  (if_pos h).trans ((if_neg (by decide)).trans (if_pos rfl))

theorem State.faxFollowMarks_other {s : State} (h : s.fax.inPair = true) {b : Byte} (hline : b ≠ 0x0A#8) (hend : b ≠ 0x0C#8) :
    s.faxFollowMarks b = { s with fax := { s.fax with inPair := false } } :=
  (if_pos h).trans ((if_neg hline).trans (if_neg hend))

/-! ### The data of a page begins (R140) -/

theorem pageDataStart_begins {s : State} (hrole : s.faxRole .receiver) (hphase : s.fax.phase = some .page)
    (hdata : s.fax.dataBegun = false) :
    ∃ t, exec .pageDataStart s = .next t ∧ t.fax.dataBegun = true ∧ t.fax.windows = 0 ∧ t.fax.badWindows = 0 ∧
      t.fax.overflow = false ∧ t.fax.expect = .none ∧ t.level.feed = .tracking ∧ t.LoadedT2 .faxStall 3000 .none ∧
      SameBut [.fax, .level, .ccuRest, .timer 2] s t := by
  set u : State := { s.faxAnswered with
    fax := { s.faxAnswered.fax with windows := 0, badWindows := 0, overflow := false, dataBegun := true },
    level := s.faxAnswered.level.startFeed .tracking } with hu
  have hexec : exec .pageDataStart s = finish (u.loadT2 .faxStall 3000 .none) :=
    congrArg finish (if_pos ⟨hrole, hphase, hdata⟩)
  have hset : SameBut [.fax, .level] s.faxAnswered u := .of_parts (by simp [hu])
  obtain ⟨t, hnext, ht, hframe⟩ :=
    finish_does hexec ((s.faxAnswered_same.andThen hset).andThen (State.loadT2_same u _ _ _))
  exact ⟨t, hnext, by rw [ht.fax]; rfl, by rw [ht.fax]; rfl, by rw [ht.fax]; rfl, by rw [ht.fax]; rfl, by rw [ht.fax]; rfl,
    by rw [ht.level]; rfl, ht.loaded _ _ _ (State.loadT2_loaded _ _ _ _), hframe.mono (by simp)⟩

/-! ### Bytes to the System Port (R140, R144) -/

theorem State.faxStoreByte_queues {s : State} (hplace : s.fax.place = .port) (hroom : s.link.inbound.length < 1024) (b : Byte) :
    s.faxStoreByte b =
      ({ s with
          link := { s.link with inbound := s.link.inbound ++ [b] },
          fax := { s.fax with
                   markInQueue := if s.fax.inPair = true ∧ b = 0x0C#8 then some (s.link.inbound.length + 1)
                     else s.fax.markInQueue } }, true) := by
  unfold State.faxStoreByte
  rw [hplace]
  exact if_pos hroom

theorem State.faxStoreByte_overflows {s : State} (hplace : s.fax.place = .port) (hfull : 1024 ≤ s.link.inbound.length) (b : Byte) :
    s.faxStoreByte b = ({ s with fax := { s.fax with overflow := true } }, true) := by
  unfold State.faxStoreByte
  rw [hplace]
  exact if_neg (Nat.not_lt.2 hfull)

section
variable {s : State} (hrole : s.faxRole .receiver) (hphase : s.fax.phase = some .page) (hdata : s.fax.dataBegun = true)
include hrole hphase hdata

theorem exec_faxPageByteReceived {b : Byte} {u : State} (hstored : s.faxStoreByte b = (u, true)) :
    exec (.faxPageByteReceived b) s = finish (u.faxFollowMarks b) := by
  show execFaxPageByteReceived b s = _
  rw [execFaxPageByteReceived, if_pos ⟨hrole, hphase, hdata⟩, hstored]

/-- R140: a byte that joins the inbound queue, whatever it is. -/
theorem faxPageByte_queues (hplace : s.fax.place = .port) (hroom : s.link.inbound.length < 1024) (b : Byte) :
    ∃ u, exec (.faxPageByteReceived b) s = finish (u.faxFollowMarks b) ∧ u.link.inbound = s.link.inbound ++ [b] ∧
      u.fax = { s.fax with markInQueue := if s.fax.inPair = true ∧ b = 0x0C#8 then some (s.link.inbound.length + 1)
                  else s.fax.markInQueue } ∧ SameBut [.fax, .inbound] s u :=
  ⟨_, exec_faxPageByteReceived hrole hphase hdata (State.faxStoreByte_queues hplace hroom b), rfl, rfl,
    .of_parts (by simp)⟩

/-- R140, R144: a byte that is lost. -/
theorem faxPageByte_overflows (hplace : s.fax.place = .port) (hfull : 1024 ≤ s.link.inbound.length) (b : Byte) :
    exec (.faxPageByteReceived b) s =
      finish (State.faxFollowMarks { s with fax := { s.fax with overflow := true } } b) :=
  exec_faxPageByteReceived hrole hphase hdata (State.faxStoreByte_overflows hplace hfull b)

theorem faxPageByte_port_first (hplace : s.fax.place = .port) (hpair : s.fax.inPair = false) (b : Byte) :
    (s.link.inbound.length < 1024 →
      ∃ t, exec (.faxPageByteReceived b) s = .next t ∧ t.link.inbound = s.link.inbound ++ [b] ∧
        t.fax = { s.fax with inPair := decide (b = 0x10#8) } ∧ SameBut [.fax, .inbound] s t) ∧
    (1024 ≤ s.link.inbound.length →
      ∃ t, exec (.faxPageByteReceived b) s = .next t ∧
        t.fax = { s.fax with overflow := true, inPair := decide (b = 0x10#8) } ∧ SameBut [.fax] s t) := by
  refine ⟨fun hroom => ?_, fun hfull => ?_⟩
  · obtain ⟨u, hexec, hin, hfax, hsame⟩ := faxPageByte_queues hrole hphase hdata hplace hroom b
    have hmark : u.fax = s.fax := by
      rw [hfax, if_neg (by simp [hpair])]
    rw [State.faxFollowMarks_first (by rw [hmark, hpair])] at hexec
    obtain ⟨t, hnext, ht, hframe⟩ := finish_does hexec (hsame.andThen (u.faxSet_same _))
    exact ⟨t, hnext, by rw [ht.link, hin], by rw [ht.fax, hmark], hframe.mono (by simp)⟩
  · have hexec := faxPageByte_overflows hrole hphase hdata hplace hfull b
    rw [State.faxFollowMarks_first (by exact hpair)] at hexec
    obtain ⟨t, hnext, ht, hframe⟩ := finish_does hexec ((s.faxSet_same _).andThen (State.faxSet_same _ _))
    exact ⟨t, hnext, ht.fax, hframe.mono (by simp)⟩

/-- R138, R140: the second byte of a pair, when nothing of it is a mark. -/
theorem faxPageByte_port_other (hplace : s.fax.place = .port) (hpair : s.fax.inPair = true) {b : Byte}
    (hline : b ≠ 0x0A#8) (hend : b ≠ 0x0C#8) :
    ∃ t, exec (.faxPageByteReceived b) s = .next t ∧
      t.fax = { s.fax with inPair := false, overflow := s.fax.overflow || decide (1024 ≤ s.link.inbound.length) } ∧
      t.link.inbound = (if s.link.inbound.length < 1024 then s.link.inbound ++ [b] else s.link.inbound) ∧
      SameBut [.fax, .inbound] s t := by
  by_cases hroom : s.link.inbound.length < 1024
  · obtain ⟨u, hexec, hin, hfax, hsame⟩ := faxPageByte_queues hrole hphase hdata hplace hroom b
    have hmark : u.fax = s.fax := by
      rw [hfax, if_neg (by simp [hend])]
    rw [State.faxFollowMarks_other (by rw [hmark, hpair]) hline hend] at hexec
    obtain ⟨t, hnext, ht, hframe⟩ := finish_does hexec (hsame.andThen (u.faxSet_same _))
    have hkeeps : decide (1024 ≤ s.link.inbound.length) = false := decide_eq_false (Nat.not_le.2 hroom)
    exact ⟨t, hnext, by rw [ht.fax, hmark, hkeeps, Bool.or_false], by rw [ht.link, if_pos hroom]; exact hin,
      hframe.mono (by simp)⟩
  · have hfull : 1024 ≤ s.link.inbound.length := Nat.not_lt.1 hroom
    have hexec := faxPageByte_overflows hrole hphase hdata hplace hfull b
    rw [State.faxFollowMarks_other (by exact hpair) hline hend] at hexec
    obtain ⟨t, hnext, ht, hframe⟩ := finish_does hexec ((s.faxSet_same _).andThen (State.faxSet_same _ _))
    have hlost : decide (1024 ≤ s.link.inbound.length) = true := decide_eq_true hfull
    exact ⟨t, hnext, by rw [ht.fax, hlost, Bool.or_true], by rw [ht.link, if_neg hroom], hframe.mono (by simp)⟩

theorem faxPageByte_port_full (hplace : s.fax.place = .port) (hpair : s.fax.inPair = true)
    (hfull : 1024 ≤ s.link.inbound.length) :
    (∃ t, exec (.faxPageByteReceived 0x0C#8) s = .next t ∧ t.fax.overflow = true ∧
      t.fax.markInQueue = s.fax.markInQueue ∧ t.fax.phase = some .postpage ∧ t.fax.expect = .pageEnd ∧
      t.fax.dataBegun = false ∧ t.level.feed = .off ∧ t.LoadedT2 .faxReply 3000 .none ∧
      SameBut [.fax, .level, .call, .ccuRest, .timer 2] s t) ∧
    (∃ t, exec (.faxPageByteReceived 0x0A#8) s = .next t ∧ t.fax = { s.fax with overflow := true, inPair := false } ∧
      t.LoadedT2 .faxStall 3000 .none ∧ SameBut [.fax, .ccuRest, .timer 2] s t) := by
  constructor
  · have hexec := faxPageByte_overflows hrole hphase hdata hplace hfull 0x0C#8
    rw [State.faxFollowMarks_end (by exact hpair)] at hexec
    obtain ⟨hfax, hlevel, hloaded, -, -, hended⟩ :=
      State.faxPageEnded_leaves { s with fax := { s.fax with overflow := true, inPair := false } }
    obtain ⟨t, hnext, ht, hframe⟩ := finish_does hexec ((s.faxSet_same _).andThen hended)
    have htfax := ht.fax.trans hfax
    exact ⟨t, hnext, by rw [htfax], by rw [htfax], by rw [htfax], by rw [htfax], by rw [htfax],
      by rw [ht.level, hlevel, LevelMeter.stopFeed], ht.loaded _ _ _ hloaded, hframe.mono (by simp)⟩
  · have hexec := faxPageByte_overflows hrole hphase hdata hplace hfull 0x0A#8
    rw [State.faxFollowMarks_line (by exact hpair)] at hexec
    obtain ⟨t, hnext, ht, hframe⟩ :=
      finish_does hexec ((s.faxSet_same { s.fax with overflow := true, inPair := false }).andThen (State.loadT2_same _ _ _ _))
    exact ⟨t, hnext, ht.fax, ht.loaded _ _ _ (State.loadT2_loaded _ _ _ _), hframe.mono (by simp)⟩

theorem faxPageByte_port_marks (hplace : s.fax.place = .port) (hpair : s.fax.inPair = true)
    (hroom : s.link.inbound.length < 1024) :
    (∃ t, exec (.faxPageByteReceived 0x0C#8) s = .next t ∧ t.link.inbound = s.link.inbound ++ [0x0C#8] ∧
      t.fax.markInQueue = some (s.link.inbound.length + 1) ∧ t.fax.phase = some .postpage ∧
      t.fax.expect = .pageEnd ∧ t.fax.dataBegun = false ∧ t.level.feed = .off ∧ t.LoadedT2 .faxReply 3000 .none ∧
      SameBut [.fax, .inbound, .level, .call, .ccuRest, .timer 2] s t) ∧
    (∃ t, exec (.faxPageByteReceived 0x0A#8) s = .next t ∧ t.fax.inPair = false ∧
      t.LoadedT2 .faxStall 3000 .none ∧ SameBut [.fax, .inbound, .ccuRest, .timer 2] s t) := by
  constructor
  · obtain ⟨u, hexec, hin, hufax, hsame⟩ := faxPageByte_queues hrole hphase hdata hplace hroom 0x0C#8
    rw [State.faxFollowMarks_end (by rw [hufax]; exact hpair)] at hexec
    obtain ⟨hfax, hlevel, hloaded, hlink, -, hended⟩ :=
      State.faxPageEnded_leaves { u with fax := { u.fax with inPair := false } }
    obtain ⟨t, hnext, ht, hframe⟩ := finish_does hexec ((hsame.andThen (u.faxSet_same _)).andThen hended)
    have htfax := ht.fax.trans hfax
    refine ⟨t, hnext, by rw [ht.link, hlink, hin], ?_, by rw [htfax], by rw [htfax], by rw [htfax],
      by rw [ht.level, hlevel, LevelMeter.stopFeed], ht.loaded _ _ _ hloaded, hframe.mono (by simp)⟩
    rw [htfax, hufax]
    exact if_pos ⟨hpair, rfl⟩
  · obtain ⟨u, hexec, -, hufax, hsame⟩ := faxPageByte_queues hrole hphase hdata hplace hroom 0x0A#8
    rw [State.faxFollowMarks_line (by rw [hufax]; exact hpair)] at hexec
    obtain ⟨t, hnext, ht, hframe⟩ := finish_does hexec
      ((hsame.andThen (u.faxSet_same { u.fax with inPair := false })).andThen (State.loadT2_same _ _ _ _))
    exact ⟨t, hnext, by rw [ht.fax]; rfl, ht.loaded _ _ _ (State.loadT2_loaded _ _ _ _), hframe.mono (by simp)⟩

end

end Sys2Proof.Machine
end

section
/-! PROOFS. A fax page is received to the store (R140, R143, R164). -/

namespace Sys2Proof.Machine

/-! ### Bytes to the store (R143, R164) -/

theorem State.appendByte_fits {s : State} {id : Nat} {e : Entry} (hfind : s.store.find id = some e)
    (hroom : e.length < e.granules.length * 1024) (b : Byte) : s.appendByte id b = (s.putByte id b, true) := by
  have hneeds : e.needsGranule = false := by
    simp only [Entry.needsGranule, Config.granuleBytes]
    exact decide_eq_false (Nat.not_le.2 hroom)
  simp [State.appendByte, hfind, hneeds]

theorem State.faxStoreByte_store {s : State} {id : Nat} (hplace : s.fax.place = .store) (hlinked : s.fax.linkedId = some id)
    (b : Byte) : s.faxStoreByte b = s.appendByte id b := by
  unfold State.faxStoreByte
  rw [hplace, hlinked]

/-- R171: what a byte put behind the last one of an entry leaves. -/
theorem State.putByte_reads {s : State} {id : Nat} {e : Entry} (hfind : s.store.find id = some e)
    (hwf : Mem.wf s.store.mem = true) (b : Byte) :
    Mem.read (s.putByte id b).store.mem (e.address e.length) = b ∧
      ∀ a, a ≠ e.address e.length → Mem.read (s.putByte id b).store.mem a = Mem.read s.store.mem a := by
  rw [State.putByte_mem hfind]
  exact ⟨by rw [Mem.read_write hwf, if_pos rfl], fun a ha => by rw [Mem.read_write hwf, if_neg ha]⟩

/-- R140: the second byte of a pair to the store, by what the pair is. -/
theorem State.faxFollowMarks_second {u : State} (hpair : u.fax.inPair = true) (b : Byte) :
    (u.faxFollowMarks b).store = u.store ∧
      (b = 0x0C#8 → (u.faxFollowMarks b).fax.phase = some .postpage ∧ (u.faxFollowMarks b).fax.expect = .pageEnd ∧
        (u.faxFollowMarks b).fax.dataBegun = false ∧ (u.faxFollowMarks b).fax.inPair = false ∧
        (u.faxFollowMarks b).level.feed = .off ∧ (u.faxFollowMarks b).LoadedT2 .faxReply 3000 .none) ∧
      (b = 0x0A#8 → (u.faxFollowMarks b).fax = { u.fax with inPair := false } ∧
        (u.faxFollowMarks b).LoadedT2 .faxStall 3000 .none ∧ SameBut [.fax, .ccuRest, .timer 2] u (u.faxFollowMarks b)) ∧
      (b ≠ 0x0A#8 → b ≠ 0x0C#8 → (u.faxFollowMarks b).fax = { u.fax with inPair := false } ∧
        SameBut [.fax] u (u.faxFollowMarks b)) ∧
      SameBut [.fax, .level, .call, .ccuRest, .timer 2] u (u.faxFollowMarks b) := by
  have hset : SameBut [.fax] u { u with fax := { u.fax with inPair := false } } := u.faxSet_same _
  by_cases hend : b = 0x0C#8
  · subst hend
    obtain ⟨hfax, hlevel, hloaded, -, hstore, hended⟩ :=
      State.faxPageEnded_leaves { u with fax := { u.fax with inPair := false } }
    rw [State.faxFollowMarks_end hpair]
    refine ⟨hstore, fun _ => ⟨congrArg Fax.phase hfax, congrArg Fax.expect hfax, congrArg Fax.dataBegun hfax,
      congrArg Fax.inPair hfax, congrArg LevelMeter.feed hlevel, hloaded⟩,
      fun h => absurd h (by decide), fun _ h => absurd rfl h, (hset.andThen hended).mono (by simp)⟩
  by_cases hline : b = 0x0A#8
  · subst hline
    have hsame := hset.andThen (State.loadT2_same { u with fax := { u.fax with inPair := false } } .faxStall 3000 .none)
    rw [State.faxFollowMarks_line hpair]
    exact ⟨rfl, fun h => absurd h hend, fun _ => ⟨rfl, State.loadT2_loaded _ _ _ _, hsame.mono (by simp)⟩,
      fun h => absurd rfl h, hsame.mono (by simp)⟩
  · rw [State.faxFollowMarks_other hpair hline hend]
    exact ⟨rfl, fun h => absurd h hend, fun h => absurd h hline, fun _ _ => ⟨rfl, hset⟩, hset.mono (by simp)⟩

section
variable {s : State} {id : Nat} {e : Entry} (hrole : s.faxRole .receiver) (hphase : s.fax.phase = some .page)
  (hdata : s.fax.dataBegun = true) (hplace : s.fax.place = .store) (hlinked : s.fax.linkedId = some id)
  (hfind : s.store.find id = some e)
include hrole hphase hdata hplace hlinked hfind

theorem exec_faxPageByte_fits (hroom : e.length < e.granules.length * 1024) (b : Byte) :
    exec (.faxPageByteReceived b) s = finish ((s.putByte id b).faxFollowMarks b) :=
  exec_faxPageByteReceived hrole hphase hdata
    ((State.faxStoreByte_store hplace hlinked b).trans (State.appendByte_fits hfind hroom b))

theorem faxPageByte_store_first (hroom : e.length < e.granules.length * 1024) (hpair : s.fax.inPair = false)
    (hwf : Mem.wf s.store.mem = true) (b : Byte) :
    ∃ t, exec (.faxPageByteReceived b) s = .next t ∧
      t.store.find id = some { e with length := e.length + 1 } ∧
      Mem.read t.store.mem (e.address e.length) = b ∧
      (∀ a, a ≠ e.address e.length → Mem.read t.store.mem a = Mem.read s.store.mem a) ∧
      t.fax = { s.fax with inPair := decide (b = 0x10#8) } ∧ SameBut [.fax, .directory, .memory] s t := by
  have hexec := exec_faxPageByte_fits hrole hphase hdata hplace hlinked hfind hroom b
  have hfax : (s.putByte id b).fax = s.fax := s.putByte_same id b .fax (by simp) (by simp)
  rw [State.faxFollowMarks_first (by rw [hfax, hpair])] at hexec
  obtain ⟨hread, hother⟩ := State.putByte_reads hfind hwf b
  obtain ⟨t, hnext, ht, hframe⟩ := finish_does hexec ((s.putByte_same id b).andThen (State.faxSet_same _ _))
  exact ⟨t, hnext, by rw [ht.store]; exact State.putByte_find hfind b, by rw [ht.store]; exact hread,
    fun a ha => by rw [ht.store]; exact hother a ha, by rw [ht.fax, hfax], hframe.mono (by simp)⟩

theorem faxPageByte_store_second (hroom : e.length < e.granules.length * 1024) (hpair : s.fax.inPair = true)
    (hwf : Mem.wf s.store.mem = true) (b : Byte) :
    ∃ t, exec (.faxPageByteReceived b) s = .next t ∧
      t.store.find id = some { e with length := e.length + 1 } ∧
      Mem.read t.store.mem (e.address e.length) = b ∧
      (∀ a, a ≠ e.address e.length → Mem.read t.store.mem a = Mem.read s.store.mem a) ∧
      (b = 0x0C#8 → t.fax.phase = some .postpage ∧ t.fax.expect = .pageEnd ∧ t.fax.dataBegun = false ∧
        t.fax.inPair = false ∧ t.level.feed = .off ∧ t.LoadedT2 .faxReply 3000 .none) ∧
      (b = 0x0A#8 → t.fax = { s.fax with inPair := false } ∧ t.LoadedT2 .faxStall 3000 .none ∧
        SameBut [.fax, .directory, .memory, .ccuRest, .timer 2] s t) ∧
      (b ≠ 0x0A#8 → b ≠ 0x0C#8 → t.fax = { s.fax with inPair := false } ∧ SameBut [.fax, .directory, .memory] s t) ∧
      SameBut [.fax, .directory, .memory, .level, .call, .ccuRest, .timer 2] s t := by
  have hexec := exec_faxPageByte_fits hrole hphase hdata hplace hlinked hfind hroom b
  have hput := s.putByte_same id b
  have hfax : (s.putByte id b).fax = s.fax := hput .fax (by simp) (by simp)
  obtain ⟨hread, hother⟩ := State.putByte_reads hfind hwf b
  obtain ⟨hstore, hend, hline, hnone, hsame⟩ :=
    State.faxFollowMarks_second (u := s.putByte id b) (by rw [hfax, hpair]) b
  rw [hfax] at hline hnone
  obtain ⟨t, hnext, ht, hframe⟩ := finish_does hexec (hput.andThen hsame)
  have hfinal : t = ((s.putByte id b).faxFollowMarks b).deliverSystem := Host.Outcome.next.inj (hnext.symm.trans hexec)
  refine ⟨t, hnext, by rw [ht.store, hstore]; exact State.putByte_find hfind b, by rw [ht.store, hstore]; exact hread,
    fun a ha => by rw [ht.store, hstore]; exact hother a ha, fun hb => ?_, fun hb => ?_, fun hb hb' => ?_,
    hframe.mono (by simp)⟩
  · obtain ⟨h1, h2, h3, h4, h5, hloaded⟩ := hend hb
    rw [ht.fax, ht.level]
    exact ⟨h1, h2, h3, h4, h5, ht.loaded _ _ _ hloaded⟩
  · obtain ⟨h1, hloaded, hsecond⟩ := hline hb
    rw [ht.fax]
    refine ⟨h1, ht.loaded _ _ _ hloaded, ?_⟩
    rw [hfinal]
    exact ((hput.andThen hsecond).finish).mono (by simp)
  · obtain ⟨h1, hsecond⟩ := hnone hb hb'
    rw [ht.fax]
    refine ⟨h1, ?_⟩
    rw [hfinal]
    exact ((hput.andThen hsecond).finish).mono (by simp)

/-- R140, R164: a byte that takes the first free granule. -/
theorem faxPageByte_store_allocates (hlength : e.length = e.granules.length * 1024) (hpair : s.fax.inPair = false)
    (hwf : Mem.wf s.store.mem = true) {g : Nat} {rest : List Nat} (hfree : s.store.free = g :: rest) (b : Byte) :
    ∃ t, exec (.faxPageByteReceived b) s = .next t ∧ t.store.free = rest ∧
      t.store.find id = some { e with granules := e.granules ++ [g], length := e.length + 1 } ∧
      Mem.read t.store.mem (g * 1024) = b ∧
      (∀ a, a ≠ g * 1024 → Mem.read t.store.mem a = Mem.read s.store.mem a) ∧
      t.fax = { s.fax with inPair := decide (b = 0x10#8) } ∧
      SameBut [.fax, .directory, .freeList, .memory, .alerts .system, .alerts .panel, .notices .panel] s t := by
  obtain ⟨hafree, hafind, hamem, hasame⟩ := State.allocated hfind hfree
  have hsame := hasame.andThen ((s.allocate id).1.putByte_same id b)
  have hexec := exec_faxPageByteReceived hrole hphase hdata ((State.faxStoreByte_store hplace hlinked b).trans
    (State.appendByte_allocates hfind hfree hlength.ge b))
  have hfax : ((s.allocate id).1.putByte id b).fax = s.fax := hsame .fax (by simp) (by simp)
  rw [State.faxFollowMarks_first (by rw [hfax, hpair])] at hexec
  obtain ⟨hread, hother⟩ := State.putByte_reads hafind (by rw [hamem]; exact hwf) b
  have haddress : (e.addGranule g).address (e.addGranule g).length = g * 1024 := Entry.address_addGranule g hlength.symm
  rw [haddress] at hread
  rw [haddress, hamem] at hother
  obtain ⟨t, hnext, ht, hframe⟩ := finish_does hexec (hsame.andThen (State.faxSet_same _ _))
  refine ⟨t, hnext, ?_, by rw [ht.store]; exact State.putByte_find hafind b, by rw [ht.store]; exact hread,
    fun a ha => by rw [ht.store]; exact hother a ha, by rw [ht.fax, hfax], hframe.mono (by simp)⟩
  rw [ht.store, State.putByte_found hafind]
  exact hafree

end

end Sys2Proof.Machine
end

section
/-! PROOFS. A fax page that finds no granule ends its call (R140, R143, R164, R173). -/

namespace Sys2Proof.Machine

/-! ### The alerts (R173) -/

/-- R173: the FULL alert of each port is raised. -/
def State.AlertsFull (s : State) : Prop := ∀ q, (s.port q).alerts.full = true

theorem State.AlertsFull.judgeLow {s : State} (h : s.AlertsFull) : s.judgeLow.AlertsFull := by
  intro q
  unfold State.judgeLow
  repeat' split
  · exact h q
  · rw [State.storeAlert_alerts]
    exact h q
  · exact h q

theorem State.AlertsFull.freeChain {s : State} (h : s.AlertsFull) (gs : List Nat) : (s.freeChain gs).AlertsFull := by
  unfold State.freeChain
  split
  · exact h
  · exact State.AlertsFull.judgeLow (s := { s with store.free := s.store.free ++ gs }) h

theorem State.AlertsFull.trim {s : State} (h : s.AlertsFull) (id len : Nat) : (s.trim id len).AlertsFull := by
  unfold State.trim
  split
  · exact h
  · exact State.AlertsFull.freeChain (s := s.updEntry id _) h _

theorem State.AlertsFull.removeEntry {s : State} (h : s.AlertsFull) (id : Nat) : (s.removeEntry id).AlertsFull := by
  unfold State.removeEntry
  split
  · exact h
  · exact State.AlertsFull.freeChain (s := { s with store.dir := s.store.dir.filter (fun e => e.id ≠ id) }) h _

theorem State.storeAlert_full (s : State) : (s.storeAlert .full).AlertsFull := by
  intro q
  rw [State.storeAlert_alerts]
  rfl

/-! ### The session's entry as its call ends (R143) -/

theorem State.trim_find {s : State} {id : Nat} {e : Entry} (h : s.store.find id = some e) (len : Nat) :
    (s.trim id len).store.find id = some { e with granules := e.granules.take (ceilDiv len 1024), length := len } := by
  rw [State.trim_found h, Store.find, State.freeChain_dir]
  exact (State.updEntry_find s id (fun _ => by rfl)).trans (congrArg (Option.map _) h)

theorem State.removeEntry_gone {s : State} {id : Nat} {e : Entry} (h : s.store.find id = some e) :
    (s.removeEntry id).store.find id = none := by
  rw [Store.find, (State.removeEntry_found h).1, List.find?_eq_none]
  intro x hx
  have hne : x.id ≠ id := by simpa using (List.mem_filter.1 hx).2
  simpa using hne

/-- R143: what the close of a session leaves of an entry that holds whole pages only. -/
structure FaxEntryClosed (s t : State) (id : Nat) (x : Entry) : Prop where
  none : x.pageCount = 0 → t.store.find id = none
  kept : x.pageCount ≠ 0 → t.store.find id = some { x with state := .complete, isNew := true }
  mem : t.store.mem = s.store.mem
  full : s.AlertsFull → t.AlertsFull

/-- R143: the entry is discarded without a page, and completed otherwise. -/
theorem State.faxEntry_closes {s : State} {id : Nat} {x : Entry} (hfind : s.store.find id = some x) (hkind : x.kind = .faxIn) :
    FaxEntryClosed s (if x.pageCount = 0 then { s.removeEntry id with ccu.call.linkedId := none } else s.complete id true)
      id x := by
  by_cases hpages : x.pageCount = 0
  · rw [if_pos hpages]
    exact ⟨fun _ => State.removeEntry_gone hfind, fun h => absurd hpages h, by simp, fun h => h.removeEntry id⟩
  · have hgreeting : s.replaceGreeting x = s := State.replaceGreeting_none (by simp [hkind])
    rw [if_neg hpages, State.complete_found hfind, hgreeting]
    exact ⟨fun h => absurd h hpages,
      fun _ => (State.updEntry_find s id (fun _ => by rfl)).trans (congrArg (Option.map _) hfind), rfl, fun h => h⟩

theorem State.closeFax_closes {s : State} {id o : Nat} {x : Entry} (hrole : s.fax.role = some .receiver)
    (hplace : s.fax.place = .store) (hlinked : s.fax.linkedId = some id) (hstart : s.fax.pageStart = some o)
    (hfind : s.store.find id = some x) (hkind : x.kind = .faxIn) (hlength : x.length = o)
    (hgranules : x.granules.take (ceilDiv o 1024) = x.granules) : FaxEntryClosed s s.closeFax id x := by
  set v : State := if s.pageEntered id o = true then s else s.trim id o with hv
  have hvfind : v.store.find id = some x := by
    rw [hv]
    split
    · exact hfind
    · rw [State.trim_find hfind, hgranules, ← hlength]
  have hvmem : v.store.mem = s.store.mem := by
    rw [hv]
    split
    · rfl
    · simp
  have hvfull (h : s.AlertsFull) : v.AlertsFull := by
    rw [hv]
    split
    · exact h
    · exact h.trim id o
  obtain ⟨hnone, hkept, hmem, hfull⟩ := State.faxEntry_closes hvfind hkind
  have heq : s.closeFax.store =
      (if x.pageCount = 0 then { v.removeEntry id with ccu.call.linkedId := none } else v.complete id true).store ∧
      ∀ q, s.closeFax.port q =
        (if x.pageCount = 0 then { v.removeEntry id with ccu.call.linkedId := none } else v.complete id true).port q := by
    unfold State.closeFax
    simp only [hrole, hplace, hlinked, hstart, ← hv, hvfind]
    exact ⟨trivial, fun _ => rfl⟩
  obtain ⟨hstore, hports⟩ := heq
  refine ⟨fun h => by rw [hstore]; exact hnone h, fun h => by rw [hstore]; exact hkept h, by rw [hstore, hmem, hvmem],
    fun h q => ?_⟩
  rw [hports]
  exact hfull (hvfull h) q

/-- R18: the engines of a fax call up to its session, with no voice operation in hand. -/
def State.enginesSilenced (s : State) : State :=
  { State.silence { s.dropAuto with voice.remote := none, rau.discr := none } with ccu.dialler.item := .none }

theorem State.enginesSilenced_keeps (s : State) :
    s.enginesSilenced.fax = s.fax ∧ s.enginesSilenced.store = s.store ∧ s.enginesSilenced.ports = s.ports := by
  simp [State.enginesSilenced, State.silence]

/-- R18: the engines after the session's entry has been closed. -/
def State.enginesReset (u : State) : State :=
  { u.resetLink.resetPump.stopT2 with
    tone := { u.resetLink.resetPump.stopT2.tone with dtmf := .zero, faxCall := .zero, dataCall := .zero, answer := .zero,
                                                     classifier := .zero, voiceBlocks := 0 } }

theorem State.enginesReset_keeps (u : State) : u.enginesReset.store = u.store ∧ ∀ q, u.enginesReset.port q = u.port q := by
  refine ⟨by simp [State.enginesReset], fun q => ?_⟩
  cases q <;> simp [State.enginesReset, State.port, PerPort.get]

theorem State.stopEngines_eq {s v : State}
    (hv : (if s.voice.op.endpoint = some .line ∨ s.voice.op.user = some .auto then (s.endVoice .stopped).1 else s) = v) :
    s.stopEngines =
      State.enginesReset (if v.enginesSilenced.ccu.call.job = .fax then v.enginesSilenced.closeFax else v.enginesSilenced) := by
  subst hv
  rfl

/-- R18, R143: of the store and the ports, the stop of a fax call's engines changes what the close of its session does. -/
theorem State.stopEngines_closesFax {s : State} (hvoice : s.voice.op.operation = none) (hjob : s.ccu.call.job = .fax) :
    s.stopEngines.store = s.enginesSilenced.closeFax.store ∧
      ∀ q, (s.stopEngines.port q).alerts = (s.enginesSilenced.closeFax.port q).alerts := by
  have hended : (if s.voice.op.endpoint = some .line ∨ s.voice.op.user = some .auto then (s.endVoice .stopped).1 else s) = s := by
    split
    · exact State.endVoice_none hvoice _
    · rfl
  have hsjob : s.enginesSilenced.ccu.call.job = .fax := by simp [State.enginesSilenced, State.silence, hjob]
  obtain ⟨hstore, hports⟩ := s.enginesSilenced.closeFax.enginesReset_keeps
  rw [State.stopEngines_eq hended, if_pos hsjob]
  exact ⟨hstore, fun q => by rw [hports]⟩

/-- R18: the release of the line leaves the store and the alerts. -/
theorem State.released_keeps (u : State) (c : Cause) :
    (u.released c).store = u.store ∧ ∀ q, ((u.released c).port q).alerts = (u.port q).alerts := by
  refine ⟨by simp [State.released, State.loadT2], fun q => ?_⟩
  exact u.released_same c (.alerts q) (by simp) (by simp)

/-- R18, R143: a fax call with no voice operation in hand ends, and its session's entry is closed. -/
theorem State.callEnd_closesFax {s : State} {id o : Nat} {x : Entry} (hactive : s.ccu.call.active = true)
    (hjob : s.ccu.call.job = .fax) (hvoice : s.voice.op.operation = none) (hrole : s.fax.role = some .receiver)
    (hplace : s.fax.place = .store) (hlinked : s.fax.linkedId = some id) (hstart : s.fax.pageStart = some o)
    (hfind : s.store.find id = some x) (hkind : x.kind = .faxIn) (hlength : x.length = o)
    (hgranules : x.granules.take (ceilDiv o 1024) = x.granules) (c : Cause) : FaxEntryClosed s (s.callEnd c) id x := by
  set v := s.causeFixed (s.finalCause c) with hv
  obtain ⟨hfax, hstore, hports⟩ := v.enginesSilenced_keeps
  obtain ⟨hestore, healerts⟩ := State.stopEngines_closesFax (s := v) hvoice hjob
  obtain ⟨hrstore, hralerts⟩ := v.stopEngines.released_keeps (s.finalCause c)
  have hclosed := State.closeFax_closes (s := v.enginesSilenced) (by rw [hfax]; exact hrole) (by rw [hfax]; exact hplace)
    (by rw [hfax]; exact hlinked) (by rw [hfax]; exact hstart) (by rw [hstore]; exact hfind) hkind hlength hgranules
  rw [State.callEnd_eq hactive]
  refine ⟨fun h => by rw [hrstore, hestore]; exact hclosed.none h, fun h => by rw [hrstore, hestore]; exact hclosed.kept h,
    by rw [hrstore, hestore, hclosed.mem, hstore]; rfl, fun h q => ?_⟩
  rw [hralerts, healerts]
  refine hclosed.full (fun q => ?_) q
  unfold State.port
  rw [hports]
  exact h q

/-! ### A page with no granule left (R140, R143, R164) -/

/-- A call that has ended after a step that leaves the call, the history, the statistics and the operation. -/
theorem CallEnded.after_store {early : List Part} {s s' t : State} {c : Cause} (h : CallEnded [] s' t c)
    (hsame : SameBut early s s') {more : List Part} (hearly : early ⊆ endParts s ++ more)
    (hkeeps : ∀ x ∈ [Part.call, .history, .stats, .voiceOp], x ∉ early)
    (hjob : s.ccu.call.job = .fax) (hbytes : BytesKept s t) : CallEnded more s t c := by
  have hpart (x : Part) (hx : x ∈ [Part.call, .history, .stats, .voiceOp]) (hn : x ≠ .notices .system) : x.Same s s' :=
    hsame x (hkeeps x hx) hn
  have hcall : s'.ccu.call = s.ccu.call := hpart .call (by simp) (by simp)
  have hhistory : s'.ccu.history = s.ccu.history := hpart .history (by simp) (by simp)
  have hop : s'.voice.op = s.voice.op := hpart .voiceOp (by simp) (by simp)
  have hstats : s'.link.stats = s.link.stats := hpart .stats (by simp) (by simp)
  obtain ⟨h1, h2, h3, h4, h5, h6⟩ := h.engines
  have hparts : endParts s' = endParts s := by rw [endParts, endParts, hop, hcall]
  have hframe := h.frame
  rw [List.append_nil, hparts] at hframe
  exact
    { line := h.line
      relay := h.relay
      call := hcall ▸ h.call
      linked := by simpa only [hcall, hop] using h.linked
      history := by simpa only [hcall, hhistory] using h.history
      guard := h.guard
      engines := ⟨h1, by rw [h2, hstats], h3, h4, h5, by rw [h6, hcall, if_pos hjob, if_pos hjob]⟩
      answering := h.answering
      voice := by simpa only [hop] using h.voice
      detectors := h.detectors
      port := h.port
      notice := h.notice
      bytes := hbytes
      frame := (hsame.mono hearly).trans (hframe.mono (List.subset_append_left _ _)) }

theorem faxPageByte_store_full {s : State} {id o : Nat} {e : Entry} (hrole : s.faxRole .receiver)
    (hphase : s.fax.phase = some .page) (hdata : s.fax.dataBegun = true) (hplace : s.fax.place = .store)
    (hlinked : s.fax.linkedId = some id) (hfind : s.store.find id = some e) (hlength : e.length = e.granules.length * 1024)
    (hfree : s.store.free = []) (hstart : s.fax.pageStart = some o) (hending : s.ccu.ending = none)
    (hvoice : s.voice.op.operation = none) (hkind : e.kind = .faxIn) (b : Byte) :
    ∃ t, exec (.faxPageByteReceived b) s = .next t ∧ CallEnded [] s t .storeFull ∧
      (∀ q, (t.port q).alerts.full = true) ∧
      (∀ a, Mem.read t.store.mem a = Mem.read s.store.mem a) ∧
      (e.pageCount = 0 → t.store.find id = none) ∧
      (e.pageCount ≠ 0 → ∃ x, t.store.find id = some x ∧ x.state = .complete ∧ x.isNew = true ∧ x.length = o ∧
        x.granules = e.granules.take (ceilDiv o 1024)) := by
  obtain ⟨hactive, hjob, hreceiver⟩ := hrole
  set u := (s.storeAlert .full).trim id o with hu
  have hafind : (s.storeAlert .full).store.find id = some e := by rw [State.storeAlert_store, hfind]
  have hexec : exec (.faxPageByteReceived b) s = finish (u.reportEnd .storeFull) := by
    have hstored := (State.faxStoreByte_store hplace hlinked b).trans (State.appendByte_full hfind hfree hlength.ge b)
    have htrim : (s.storeAlert .full).faxTrimPage = u := by
      have hfax : (s.storeAlert .full).fax = s.fax := State.storeAlert_same s .full .fax (by simp) (by simp)
      unfold State.faxTrimPage
      simp only [hfax, hplace, hlinked, hstart]
      rfl
    show execFaxPageByteReceived b s = _
    rw [execFaxPageByteReceived, if_pos ⟨⟨hactive, hjob, hreceiver⟩, hphase, hdata⟩, hstored]
    rw [← htrim]
  have hsame : SameBut [.directory, .freeList, .alerts .system, .alerts .panel, .notices .panel] s u := by
    have hupd : SameBut [.directory] (s.storeAlert .full) ((s.storeAlert .full).updEntry id (fun e =>
        { e with granules := e.granules.take (ceilDiv o 1024), length := o })) := by
      unfold State.updEntry
      exact .of_parts (by simp)
    rw [hu, State.trim_found hafind]
    exact (((State.storeAlert_same s .full).andThen hupd).andThen (State.freeChain_same _ _)).mono (by simp)
  have hcall : u.ccu.call = s.ccu.call := hsame .call (by simp) (by simp)
  have hfax : u.fax = s.fax := hsame .fax (by simp) (by simp)
  have hop : u.voice.op = s.voice.op := hsame .voiceOp (by simp) (by simp)
  obtain ⟨-, huending, -⟩ := hsame .ccuRest (by simp) (by simp)
  have hmem : u.store.mem = s.store.mem := by simp [hu]
  have huend : u.reportEnd .storeFull = u.callEnd .storeFull := if_pos (huending.trans hending)
  have hclosed : FaxEntryClosed u (u.callEnd .storeFull) id
      { e with granules := e.granules.take (ceilDiv o 1024), length := o } :=
    State.callEnd_closesFax (by rw [hcall, hactive]) (by rw [hcall, hjob]) (by rw [hop, hvoice])
      (by rw [hfax, hreceiver]) (by rw [hfax, hplace]) (by rw [hfax, hlinked]) (by rw [hfax, hstart])
      (State.trim_find hafind o) hkind rfl (by rw [List.take_take, Nat.min_self]) _
  have hends := State.callEnd_ended (s := u) (by rw [hcall, hactive]) (huending.trans hending) .storeFull
  have hread (a : Nat) : Mem.read (u.callEnd .storeFull).deliverSystem.store.mem a = Mem.read s.store.mem a := by
    rw [State.deliverSystem_store, hclosed.mem, hmem]
  rw [huend] at hexec
  refine ⟨_, hexec, hends.finish.after_store hsame ?_ (by simp) hjob fun a _ => hread a, fun q => ?_, hread, fun h => ?_,
    fun h => ⟨{ e with granules := e.granules.take (ceilDiv o 1024), length := o, state := .complete, isNew := true }, ?_, rfl,
      rfl, rfl, rfl⟩⟩
  · simp [endParts, hjob]
  · have hfull := hclosed.full (s.storeAlert_full.trim id o) q
    have hkept : ((u.callEnd .storeFull).deliverSystem.port q).alerts = ((u.callEnd .storeFull).port q).alerts :=
      State.deliverSystem_same _ (.alerts q) (by simp) (by simp)
    rw [hkept, hfull]
  · rw [State.deliverSystem_store]
    exact hclosed.none h
  · rw [State.deliverSystem_store]
    exact hclosed.kept h

/-- Settles O58: the data's start, then a byte by its destination, the pair it closes, and the room for it. -/
theorem faxPageTaken : Obligations.FaxPageTaken := by
  intro s hrole hphase
  exact ⟨fun hdata => pageDataStart_begins hrole hphase hdata,
    fun b hdata hplace hpair => faxPageByte_port_first hrole hphase hdata hplace hpair b,
    fun hdata hplace hpair hfull => faxPageByte_port_full hrole hphase hdata hplace hpair hfull,
    fun b hdata hplace hpair hline hend => faxPageByte_port_other hrole hphase hdata hplace hpair hline hend,
    fun hdata hplace hpair hroom => faxPageByte_port_marks hrole hphase hdata hplace hpair hroom,
    fun b id e hdata hplace hlinked hfind hroom hpair hwf =>
      faxPageByte_store_first hrole hphase hdata hplace hlinked hfind hroom hpair hwf b,
    fun b id e hdata hplace hlinked hfind hroom hpair hwf =>
      faxPageByte_store_second hrole hphase hdata hplace hlinked hfind hroom hpair hwf b,
    fun b id e hdata hplace hlinked hfind hlength hpair hwf =>
      ⟨fun g rest hfree => faxPageByte_store_allocates hrole hphase hdata hplace hlinked hfind hlength hpair hwf hfree b,
        fun o hfree hstart hending hvoice hkind => faxPageByte_store_full hrole hphase hdata hplace hlinked hfind hlength
          hfree hstart hending hvoice hkind b⟩⟩

end Sys2Proof.Machine
end

section
/-! PROOFS. A fax page is sent (R127, R138, R139, R145, R146). -/

namespace Sys2Proof.Machine

/-! ### A byte of the source (R139) -/

/-- R127, R139: what a byte taken from the outbound queue leaves. -/
structure PortByteTaken (s t : State) (b : Byte) (rest : List Byte) : Prop where
  tx : t.link.tx = .byte b
  queue : t.link.outbound = rest
  fax : t.fax = { s.fax with lineLength := s.fax.lineLength + 1 }
  idle : s.sys.data = false → t.sys.cts = s.sys.cts
  cts : s.sys.data = true → rest.length ≤ 256 → t.sys.cts = true
  frame : SameBut [.fax, .link, .outbound, .systemPort] s t

theorem State.faxTakeByte_eq (s : State) (b : Byte) :
    s.faxTakeByte b =
      match s.fax.place with
      | .port => State.judgeCts { s with
          link := { s.link with tx := .byte b, outbound := s.link.outbound.drop 1 },
          fax := { s.fax with lineLength := s.fax.lineLength + 1 } }
      | _ => { s with
          link := { s.link with tx := .byte b },
          fax := { s.fax with lineLength := s.fax.lineLength + 1, position := s.fax.position + 1 } } := rfl

theorem State.faxTakeByte_port {s : State} {b : Byte} {rest : List Byte} (hplace : s.fax.place = .port)
    (hqueue : s.link.outbound = b :: rest) : PortByteTaken s (s.faxTakeByte b) b rest := by
  set u : State := { s with
    link := { s.link with tx := .byte b, outbound := rest },
    fax := { s.fax with lineLength := s.fax.lineLength + 1 } } with hu
  have heq : s.faxTakeByte b = u.judgeCts := by
    rw [State.faxTakeByte_eq, hplace, hu]
    simp only [hqueue, List.drop_succ_cons, List.drop_zero]
  have hset : SameBut [.fax, .link, .outbound] s u := .of_parts (by simp [hu])
  rw [heq]
  refine ⟨by rw [State.judgeCts_link], by rw [State.judgeCts_link], by simp [hu], fun h => ?_, fun h hlow => ?_,
    (hset.andThen u.judgeCts_same).mono (by simp)⟩
  · rw [State.judgeCts_idle (s := u) h]
  · rw [State.judgeCts_cts (s := u) h]
    show ctsAfter s.sys.cts rest.length = true
    rw [ctsAfter, if_neg (by simp only [Config.ctsHigh]; omega), if_pos hlow]

/-- R145: a byte taken from the stored entry. -/
theorem State.faxTakeByte_store {s : State} (hplace : s.fax.place = .store) (b : Byte) :
    s.faxTakeByte b = { s with
      link := { s.link with tx := .byte b },
      fax := { s.fax with lineLength := s.fax.lineLength + 1, position := s.fax.position + 1 } } := by
  rw [State.faxTakeByte_eq, hplace]

/-- R138, R139: the second byte of a pair, by what the pair is. -/
theorem State.faxSendSecond_line {s : State} : s.faxSendSecond 0x0A#8 =
    State.faxLineSent { s.faxTakeByte 0x0A#8 with fax := { (s.faxTakeByte 0x0A#8).fax with inPair := false } } := rfl

theorem State.faxSendSecond_end {s : State} : s.faxSendSecond 0x0C#8 =
    { s.faxTakeByte 0x0C#8 with fax := { (s.faxTakeByte 0x0C#8).fax with inPair := false, markOut := true } } := rfl

theorem State.faxSendSecond_other {s : State} {b : Byte} (hline : b ≠ 0x0A#8) (hend : b ≠ 0x0C#8) :
    s.faxSendSecond b = { s.faxTakeByte b with fax := { (s.faxTakeByte b).fax with inPair := false } } :=
  (if_neg hline).trans (if_neg hend)

theorem State.txFax_same (s : State) (x : Transmission) (y : Fax) :
    SameBut [.fax, .link] s { s with link := { s.link with tx := x }, fax := y } := .of_parts (by simp)

theorem State.faxSource_port {s : State} (hplace : s.fax.place = .port) : s.faxSource = s.link.outbound.take 2 := by
  unfold State.faxSource
  rw [hplace]

/-- R145: the byte of the page after the one in hand. -/
def State.storedAfter (s : State) (e : Entry) : Option Byte :=
  if s.fax.position + 1 < e.pageEndOf s.fax.page then some (Mem.read s.store.mem (e.address (s.fax.position + 1))) else none

theorem State.faxSource_store {s : State} {e : Entry} (hplace : s.fax.place = .store) (hentry : s.faxOut = some e)
    (hmore : s.fax.position < e.pageEndOf s.fax.page) :
    s.faxSource = Mem.read s.store.mem (e.address s.fax.position) :: (s.storedAfter e).toList := by
  have hrange : List.range 2 = [0, 1] := rfl
  unfold State.faxSource State.storedAfter
  rw [hplace, hentry]
  by_cases hnext : s.fax.position + 1 < e.pageEndOf s.fax.page
  · simp [hrange, hmore, hnext, Store.entryByte]
  · simp [hrange, hmore, hnext, Store.entryByte]

theorem State.faxSource_done {s : State} {e : Entry} (hplace : s.fax.place = .store) (hentry : s.faxOut = some e)
    (hdone : e.pageEndOf s.fax.page ≤ s.fax.position) : s.faxSource = [] := by
  have hno : ∀ k, ¬ s.fax.position + k < e.pageEndOf s.fax.page := fun k => by omega
  unfold State.faxSource
  rw [hplace, hentry]
  simp [hno]

/-- R139: the second byte of a pair of a stored page. -/
theorem State.faxSendSecond_store {s : State} (hplace : s.fax.place = .store) (hout : s.fax.markOut = false) (b : Byte) :
    s.faxSendSecond b = { s with
      link := { s.link with tx := .byte b },
      fax := { s.fax with position := s.fax.position + 1, inPair := false, markOut := decide (b = 0x0C#8),
                          lineLength := if b = 0x0A#8 then 0 else s.fax.lineLength + 1 } } := by
  by_cases hline : b = 0x0A#8
  · subst hline
    rw [State.faxSendSecond_line, State.faxTakeByte_store hplace, if_pos rfl,
      decide_eq_false (p := (0x0A#8 : Byte) = 0x0C#8) (by decide), ← hout]
    exact if_neg (by simp [hplace])
  · rw [if_neg hline]
    by_cases hend : b = 0x0C#8
    · subst hend
      rw [State.faxSendSecond_end, State.faxTakeByte_store hplace, decide_eq_true rfl]
    · rw [State.faxSendSecond_other hline hend, State.faxTakeByte_store hplace, decide_eq_false hend, ← hout]

/-! ### The page-end mark (R139, R145, R146) -/

/-- R139: the page-end mark has left. -/
def State.markSent (s : State) : State :=
  { s with link := { s.link with tx := .idleFill }, fax := { s.fax with markOut := false, markSent := true } }

theorem State.markSent_same (s : State) : SameBut [.fax, .link] s s.markSent := s.txFax_same _ _

theorem State.faxMarkSent_eq (s : State) :
    s.faxMarkSent =
      match s.fax.place with
      | .port =>
        match s.fax.more with
        | some m => s.markSent.faxSendPageEnd m
        | none => s.markSent.loadT2 .faxDecision 3000 .none
      | _ => s.markSent.faxSendPageEnd s.markSent.storeDecision := rfl

theorem State.faxMarkSent_waits {s : State} (hplace : s.fax.place = .port) (hmore : s.fax.more = none) :
    s.faxMarkSent = s.markSent.loadT2 .faxDecision 3000 .none := by
  rw [State.faxMarkSent_eq, hplace, hmore]

theorem State.faxMarkSent_decided {s : State} {m : FaxMore} (hplace : s.fax.place = .port) (hmore : s.fax.more = some m) :
    s.faxMarkSent = s.markSent.faxSendPageEnd m := by
  rw [State.faxMarkSent_eq, hplace, hmore]

theorem State.faxMarkSent_store {s : State} {e : Entry} (hplace : s.fax.place = .store) (hentry : s.faxOut = some e) :
    s.faxMarkSent = s.markSent.faxSendPageEnd (if s.fax.page < e.pageCount then .more else .last) := by
  have hdecision : s.markSent.storeDecision = if s.fax.page < e.pageCount then .more else .last := by
    show (if s.fax.page < (s.faxOut.map Entry.pageCount).getD 0 then FaxMore.more else .last) = _
    rw [hentry]
    rfl
  rw [State.faxMarkSent_eq, hplace, hdecision]

section
variable {s : State} (hrole : s.faxRole .sender) (hphase : s.fax.phase = some .page) (hsent : s.fax.markSent = false)
include hrole hphase hsent

theorem exec_faxPageByteSent : exec .faxPageByteSent s = finish s.faxSendByte :=
  congrArg finish (if_pos ⟨hrole, hphase, hsent⟩)

/-- R139: the byte that the source has ready is sent. -/
theorem exec_faxPageByteSent_byte {b : Byte} {rest : List Byte} (hout : s.fax.markOut = false)
    (hsource : s.faxSource = b :: rest) :
    exec .faxPageByteSent s = finish (if s.fax.inPair = true then s.faxSendSecond b else s.faxSendFirst b rest.head?) := by
  have hsend : s.faxSendByte = if s.fax.inPair = true then s.faxSendSecond b else s.faxSendFirst b rest.head? := by
    rw [State.faxSendByte, if_neg (by simp [hout]), hsource]
  rw [exec_faxPageByteSent hrole hphase hsent, hsend]

/-! ### From the System Port -/

section
variable (hplace : s.fax.place = .port) (hout : s.fax.markOut = false)
include hplace hout

theorem faxPageByteSent_waits
    (hqueue : s.link.outbound = [] ∨ (s.link.outbound = [0x10#8] ∧ s.fax.inPair = false)) :
    ∃ t, exec .faxPageByteSent s = .next t ∧ t.link.tx = .idleFill ∧ SameBut [.link] s t := by
  have hexec : exec .faxPageByteSent s = finish { s with link := { s.link with tx := .idleFill } } := by
    have hsource := State.faxSource_port hplace
    rcases hqueue with hempty | ⟨hlone, hpair⟩
    · rw [exec_faxPageByteSent hrole hphase hsent, State.faxSendByte, if_neg (by simp [hout]), hsource, hempty]
      exact congrArg finish (if_pos hplace)
    · rw [hlone] at hsource
      rw [exec_faxPageByteSent_byte hrole hphase hsent hout hsource, if_neg (by simp [hpair])]
      exact congrArg finish ((if_pos rfl).trans (if_pos hplace))
  obtain ⟨t, hnext, ht, hframe⟩ := finish_does hexec (s.linkSet_same (l := { s.link with tx := .idleFill }) ⟨rfl, rfl, rfl⟩)
  exact ⟨t, hnext, by rw [ht.link], hframe⟩

theorem faxPageByteSent_plain {b : Byte} {rest : List Byte} (hqueue : s.link.outbound = b :: rest)
    (hpair : s.fax.inPair = false) (hb : b ≠ 0x10#8) :
    ∃ t, exec .faxPageByteSent s = .next t ∧ t.link.tx = .byte b ∧ t.link.outbound = rest ∧
      t.fax = { s.fax with lineLength := s.fax.lineLength + 1 } ∧
      (s.sys.data = false → t.sys.cts = s.sys.cts) ∧
      (s.sys.data = true → rest.length ≤ 256 → t.sys.cts = true) ∧
      SameBut [.fax, .link, .outbound, .systemPort] s t := by
  have hsource := State.faxSource_port hplace
  rw [hqueue, List.take_succ_cons] at hsource
  have hexec := exec_faxPageByteSent_byte hrole hphase hsent hout hsource
  rw [if_neg (by simp [hpair])] at hexec
  have hfirst : s.faxSendFirst b (rest.take 1).head? = s.faxTakeByte b := if_neg hb
  rw [hfirst] at hexec
  have htaken := State.faxTakeByte_port hplace hqueue
  obtain ⟨t, hnext, ht, hframe⟩ := finish_does hexec htaken.frame
  exact ⟨t, hnext, by rw [ht.link, htaken.tx], by rw [ht.link, htaken.queue], by rw [ht.fax, htaken.fax],
    fun h => by rw [ht.cts, htaken.idle h], fun h hlow => by rw [ht.cts, htaken.cts h hlow], hframe⟩

/-- R138, R139: the first byte of a pair, with the byte after it known. -/
theorem exec_faxPageByteSent_pair {c : Byte} {rest : List Byte} (hqueue : s.link.outbound = 0x10#8 :: c :: rest)
    (hpair : s.fax.inPair = false) :
    exec .faxPageByteSent s = finish
      (if c = 0x0A#8 ∧ s.fax.lineLength + 2 < minLineLength (s.fax.rung.getD 0) s.fax.scanMs then
        { s with link := { s.link with tx := .byte 0#8 }, fax := { s.fax with lineLength := s.fax.lineLength + 1 } }
       else { s.faxTakeByte 0x10#8 with fax := { (s.faxTakeByte 0x10#8).fax with inPair := true } }) := by
  have hsource := State.faxSource_port hplace
  rw [hqueue] at hsource
  rw [exec_faxPageByteSent_byte hrole hphase hsent hout hsource, if_neg (by simp [hpair])]
  exact congrArg finish (if_pos rfl)

theorem faxPageByteSent_fill {rest : List Byte} (hqueue : s.link.outbound = 0x10#8 :: 0x0A#8 :: rest)
    (hpair : s.fax.inPair = false)
    (hshort : s.fax.lineLength + 2 < minLineLength (s.fax.rung.getD 0) s.fax.scanMs) :
    ∃ t, exec .faxPageByteSent s = .next t ∧ t.link.tx = .byte 0#8 ∧
      t.fax = { s.fax with lineLength := s.fax.lineLength + 1 } ∧ SameBut [.fax, .link] s t := by
  have hexec := exec_faxPageByteSent_pair hrole hphase hsent hplace hout hqueue hpair
  rw [if_pos ⟨rfl, hshort⟩] at hexec
  obtain ⟨t, hnext, ht, hframe⟩ := finish_does hexec (s.txFax_same _ _)
  exact ⟨t, hnext, by rw [ht.link], ht.fax, hframe⟩

theorem faxPageByteSent_opens {c : Byte} {rest : List Byte} (hqueue : s.link.outbound = 0x10#8 :: c :: rest)
    (hpair : s.fax.inPair = false)
    (hlong : c ≠ 0x0A#8 ∨ minLineLength (s.fax.rung.getD 0) s.fax.scanMs ≤ s.fax.lineLength + 2) :
    ∃ t, exec .faxPageByteSent s = .next t ∧ t.link.tx = .byte 0x10#8 ∧ t.link.outbound = c :: rest ∧
      t.fax = { s.fax with inPair := true, lineLength := s.fax.lineLength + 1 } ∧
      SameBut [.fax, .link, .outbound, .systemPort] s t := by
  have hexec := exec_faxPageByteSent_pair hrole hphase hsent hplace hout hqueue hpair
  have hnot : ¬(c = 0x0A#8 ∧ s.fax.lineLength + 2 < minLineLength (s.fax.rung.getD 0) s.fax.scanMs) := by
    rintro ⟨hc, hshort⟩
    exact hlong.elim (fun h => h hc) (Nat.not_le.2 hshort)
  rw [if_neg hnot] at hexec
  have htaken := State.faxTakeByte_port hplace hqueue
  obtain ⟨t, hnext, ht, hframe⟩ := finish_does hexec (htaken.frame.andThen (State.faxSet_same _ _))
  exact ⟨t, hnext, by rw [ht.link]; exact htaken.tx, by rw [ht.link]; exact htaken.queue, by rw [ht.fax, htaken.fax],
    hframe.mono (by simp)⟩

/-- R139: the second byte of a pair from the outbound queue. -/
theorem exec_faxPageByteSent_second {b : Byte} {rest : List Byte} (hqueue : s.link.outbound = b :: rest)
    (hpair : s.fax.inPair = true) : exec .faxPageByteSent s = finish (s.faxSendSecond b) := by
  have hsource := State.faxSource_port hplace
  rw [hqueue, List.take_succ_cons] at hsource
  rw [exec_faxPageByteSent_byte hrole hphase hsent hout hsource, if_pos hpair]

theorem faxPageByteSent_second {b : Byte} {rest : List Byte} (hqueue : s.link.outbound = b :: rest)
    (hpair : s.fax.inPair = true) (hline : b ≠ 0x0A#8) :
    ∃ t, exec .faxPageByteSent s = .next t ∧ t.link.tx = .byte b ∧ t.link.outbound = rest ∧
      t.fax = { s.fax with inPair := false, lineLength := s.fax.lineLength + 1, markOut := decide (b = 0x0C#8) } ∧
      SameBut [.fax, .link, .outbound, .systemPort] s t := by
  have hexec := exec_faxPageByteSent_second hrole hphase hsent hplace hout hqueue hpair
  have htaken := State.faxTakeByte_port hplace hqueue
  by_cases hend : b = 0x0C#8
  · subst hend
    rw [State.faxSendSecond_end] at hexec
    obtain ⟨t, hnext, ht, hframe⟩ := finish_does hexec (htaken.frame.andThen (State.faxSet_same _ _))
    exact ⟨t, hnext, by rw [ht.link]; exact htaken.tx, by rw [ht.link]; exact htaken.queue,
      by rw [ht.fax, htaken.fax, decide_eq_true rfl], hframe.mono (by simp)⟩
  · rw [State.faxSendSecond_other hline hend] at hexec
    obtain ⟨t, hnext, ht, hframe⟩ := finish_does hexec (htaken.frame.andThen (State.faxSet_same _ _))
    exact ⟨t, hnext, by rw [ht.link]; exact htaken.tx, by rw [ht.link]; exact htaken.queue,
      by rw [ht.fax, htaken.fax, decide_eq_false hend, ← hout], hframe.mono (by simp)⟩

theorem faxPageByteSent_line {rest : List Byte} (hqueue : s.link.outbound = 0x0A#8 :: rest) (hpair : s.fax.inPair = true) :
    ∃ t, exec .faxPageByteSent s = .next t ∧ t.link.tx = .byte 0x0A#8 ∧ t.link.outbound = rest ∧
      t.fax = { s.fax with inPair := false, lineLength := 0 } ∧ t.LoadedT2 .faxStall 3000 .none ∧
      SameBut [.fax, .link, .outbound, .systemPort, .ccuRest, .timer 2] s t := by
  have hexec := exec_faxPageByteSent_second hrole hphase hsent hplace hout hqueue hpair
  have htaken := State.faxTakeByte_port hplace hqueue
  have hfax : (s.faxTakeByte 0x0A#8).fax.place = .port := by
    rw [htaken.fax]
    exact hplace
  have hsecond : s.faxSendSecond 0x0A#8 = State.loadT2 { s.faxTakeByte 0x0A#8 with
      fax := { (s.faxTakeByte 0x0A#8).fax with inPair := false, lineLength := 0 } } .faxStall 3000 .none :=
    State.faxSendSecond_line.trans (if_pos hfax)
  rw [hsecond] at hexec
  obtain ⟨t, hnext, ht, hframe⟩ := finish_does hexec
    ((htaken.frame.andThen (State.faxSet_same _ { (s.faxTakeByte 0x0A#8).fax with inPair := false, lineLength := 0 })).andThen
      (State.loadT2_same _ _ _ _))
  refine ⟨t, hnext, by rw [ht.link]; exact htaken.tx, by rw [ht.link]; exact htaken.queue, ?_,
    ht.loaded _ _ _ (State.loadT2_loaded _ _ _ _), hframe.mono (by simp)⟩
  rw [ht.fax]
  show { (s.faxTakeByte 0x0A#8).fax with inPair := false, lineLength := 0 } = _
  rw [htaken.fax]

end

/-! ### The page-end mark has been sent -/

/-- R139: the port's page whose decision is still to come. -/
theorem faxPageByteSent_awaits (hplace : s.fax.place = .port) (hout : s.fax.markOut = true) (hmore : s.fax.more = none) :
    ∃ t, exec .faxPageByteSent s = .next t ∧ t.fax = { s.fax with markOut := false, markSent := true } ∧
      t.link.tx = .idleFill ∧ t.LoadedT2 .faxDecision 3000 .none ∧ SameBut [.fax, .link, .ccuRest, .timer 2] s t := by
  have hexec := exec_faxPageByteSent hrole hphase hsent
  rw [State.faxSendByte, if_pos hout, State.faxMarkSent_waits hplace hmore] at hexec
  obtain ⟨t, hnext, ht, hframe⟩ := finish_does hexec (s.markSent_same.andThen (State.loadT2_same _ _ _ _))
  exact ⟨t, hnext, ht.fax, by rw [ht.link]; rfl, ht.loaded _ _ _ (State.loadT2_loaded _ _ _ _), hframe.mono (by simp)⟩

/-- R139: PAGE_END goes with the decision. -/
theorem faxPageByteSent_ends {m : FaxMore} (hsend : s.faxSendByte = s.markSent.faxSendPageEnd m) :
    ∃ t, exec .faxPageByteSent s = .next t ∧ t.fax.phase = some .postpage ∧ t.fax.expect = .pageVerdict ∧
      t.fax.markSent = true ∧ t.link.tx = .fax (.pageEnd (m == .more)) ∧ t.LoadedT2 .faxReply 3000 .none ∧
      SameBut [.fax, .link, .call, .ccuRest, .timer 2] s t := by
  have hexec := exec_faxPageByteSent hrole hphase hsent
  rw [hsend] at hexec
  obtain ⟨hfax, hlink, hloaded, hsame⟩ := s.markSent.faxSendPageEnd_leaves m
  obtain ⟨t, hnext, ht, hframe⟩ := finish_does hexec (s.markSent_same.andThen hsame)
  refine ⟨t, hnext, ?_, ?_, ?_, by rw [ht.link, hlink], ht.loaded _ _ _ hloaded, hframe.mono (by simp)⟩
  all_goals rw [ht.fax, hfax]
  all_goals rfl

/-! ### From the store (R145) -/

theorem faxPageByteSent_store_ends {e : Entry} (hplace : s.fax.place = .store) (hentry : s.faxOut = some e)
    (hend : s.fax.markOut = true ∨ e.pageEndOf s.fax.page ≤ s.fax.position) :
    ∃ t, exec .faxPageByteSent s = .next t ∧ t.fax.phase = some .postpage ∧ t.fax.expect = .pageVerdict ∧
      t.link.tx = .fax (.pageEnd (decide (s.fax.page < e.pageCount))) ∧ t.LoadedT2 .faxReply 3000 .none ∧
      SameBut [.fax, .link, .call, .ccuRest, .timer 2] s t := by
  have hmark := State.faxMarkSent_store hplace hentry
  have hsend : s.faxSendByte =
      s.markSent.faxSendPageEnd (if s.fax.page < e.pageCount then FaxMore.more else .last) := by
    by_cases hout : s.fax.markOut = true
    · rw [State.faxSendByte, if_pos hout, hmark]
    · have hdone := hend.resolve_left hout
      rw [State.faxSendByte, if_neg hout, State.faxSource_done hplace hentry hdone]
      exact (if_neg (by simp [hplace])).trans hmark
  obtain ⟨t, hnext, hpost, hexpect, -, htx, hrest⟩ := faxPageByteSent_ends hrole hphase hsent hsend
  refine ⟨t, hnext, hpost, hexpect, ?_, hrest⟩
  rw [htx]
  by_cases hpage : s.fax.page < e.pageCount
  · rw [if_pos hpage, decide_eq_true hpage]
    rfl
  · rw [if_neg hpage, decide_eq_false hpage]
    rfl

section
variable {e : Entry} {b : Byte} (hplace : s.fax.place = .store) (hentry : s.faxOut = some e) (hout : s.fax.markOut = false)
  (hmore : s.fax.position < e.pageEndOf s.fax.page) (hb : Mem.read s.store.mem (e.address s.fax.position) = b)
include hplace hentry hout hmore hb

/-- R139, R145: the byte of the entry that is sent, with the byte after it where the page has one. -/
theorem exec_faxPageByteSent_store :
    exec .faxPageByteSent s = finish (if s.fax.inPair = true then s.faxSendSecond b
      else s.faxSendFirst b (s.storedAfter e)) := by
  have hsource := State.faxSource_store hplace hentry hmore
  rw [hb] at hsource
  rw [exec_faxPageByteSent_byte hrole hphase hsent hout hsource, Option.head?_toList]

theorem faxPageByteSent_store_plain (hpair : s.fax.inPair = false) (hplain : b ≠ 0x10#8) :
    ∃ t, exec .faxPageByteSent s = .next t ∧ t.link.tx = .byte b ∧
      t.fax = { s.fax with position := s.fax.position + 1, lineLength := s.fax.lineLength + 1 } ∧
      SameBut [.fax, .link] s t := by
  have hexec := exec_faxPageByteSent_store hrole hphase hsent hplace hentry hout hmore hb
  have hfirst : s.faxSendFirst b (s.storedAfter e) = s.faxTakeByte b := if_neg hplain
  rw [if_neg (by simp [hpair]), hfirst, State.faxTakeByte_store hplace] at hexec
  obtain ⟨t, hnext, ht, hframe⟩ := finish_does hexec (s.txFax_same _ _)
  exact ⟨t, hnext, by rw [ht.link], by rw [ht.fax], hframe⟩

theorem faxPageByteSent_store_fill (hpair : s.fax.inPair = false) (hlead : b = 0x10#8)
    (hnext : s.fax.position + 1 < e.pageEndOf s.fax.page)
    (hline : Mem.read s.store.mem (e.address (s.fax.position + 1)) = 0x0A#8)
    (hshort : s.fax.lineLength + 2 < minLineLength (s.fax.rung.getD 0) s.fax.scanMs) :
    ∃ t, exec .faxPageByteSent s = .next t ∧ t.link.tx = .byte 0#8 ∧
      t.fax = { s.fax with lineLength := s.fax.lineLength + 1 } ∧ SameBut [.fax, .link] s t := by
  have hexec := exec_faxPageByteSent_store hrole hphase hsent hplace hentry hout hmore hb
  have hfirst : s.faxSendFirst b (s.storedAfter e) =
      { s with link := { s.link with tx := .byte 0#8 }, fax := { s.fax with lineLength := s.fax.lineLength + 1 } } := by
    rw [State.storedAfter, if_pos hnext, hline]
    exact (if_pos hlead).trans (if_pos ⟨rfl, hshort⟩)
  rw [if_neg (by simp [hpair]), hfirst] at hexec
  obtain ⟨t, hnext, ht, hframe⟩ := finish_does hexec (s.txFax_same _ _)
  exact ⟨t, hnext, by rw [ht.link], ht.fax, hframe⟩

theorem faxPageByteSent_store_opens (hpair : s.fax.inPair = false) (hlead : b = 0x10#8)
    (hlong : e.pageEndOf s.fax.page ≤ s.fax.position + 1 ∨
      Mem.read s.store.mem (e.address (s.fax.position + 1)) ≠ 0x0A#8 ∨
      minLineLength (s.fax.rung.getD 0) s.fax.scanMs ≤ s.fax.lineLength + 2) :
    ∃ t, exec .faxPageByteSent s = .next t ∧ t.link.tx = .byte 0x10#8 ∧
      t.fax = { s.fax with position := s.fax.position + 1, lineLength := s.fax.lineLength + 1, inPair := true } ∧
      SameBut [.fax, .link] s t := by
  have hexec := exec_faxPageByteSent_store hrole hphase hsent hplace hentry hout hmore hb
  have hfirst : s.faxSendFirst b (s.storedAfter e) =
      { s.faxTakeByte b with fax := { (s.faxTakeByte b).fax with inPair := true } } := by
    unfold State.storedAfter
    split
    next hnext =>
      have hnot : ¬(Mem.read s.store.mem (e.address (s.fax.position + 1)) = 0x0A#8 ∧
          s.fax.lineLength + 2 < minLineLength (s.fax.rung.getD 0) s.fax.scanMs) := by
        rintro ⟨hline, hshort⟩
        obtain hend | hother | hfull := hlong
        · exact absurd hnext (Nat.not_lt.2 hend)
        · exact hother hline
        · exact absurd hshort (Nat.not_lt.2 hfull)
      exact (if_pos hlead).trans (if_neg hnot)
    next => exact (if_pos hlead).trans (if_neg (by simp [hplace]))
  rw [if_neg (by simp [hpair]), hfirst, State.faxTakeByte_store hplace] at hexec
  obtain ⟨t, hnext, ht, hframe⟩ := finish_does hexec (s.txFax_same _ _)
  exact ⟨t, hnext, by rw [ht.link, hlead], ht.fax, hframe⟩

theorem faxPageByteSent_store_second (hpair : s.fax.inPair = true) :
    ∃ t, exec .faxPageByteSent s = .next t ∧ t.link.tx = .byte b ∧
      t.fax = { s.fax with position := s.fax.position + 1, inPair := false, markOut := decide (b = 0x0C#8),
                           lineLength := if b = 0x0A#8 then 0 else s.fax.lineLength + 1 } ∧
      SameBut [.fax, .link] s t := by
  have hexec := exec_faxPageByteSent_store hrole hphase hsent hplace hentry hout hmore hb
  rw [if_pos hpair, State.faxSendSecond_store hplace hout] at hexec
  obtain ⟨t, hnext, ht, hframe⟩ := finish_does hexec (s.txFax_same _ _)
  exact ⟨t, hnext, by rw [ht.link], ht.fax, hframe⟩

end

end

/-- Settles O59: a port's page byte by byte, its end, a stored page byte by byte, and its end. -/
theorem faxPageSent : Obligations.FaxPageSent := by
  intro s hrole hphase hsent
  refine ⟨fun hplace hout => ⟨faxPageByteSent_waits hrole hphase hsent hplace hout, ?_, ?_, ?_⟩,
    fun hplace hout => ⟨faxPageByteSent_awaits hrole hphase hsent hplace hout, ?_⟩, ?_, ?_⟩
  · exact fun b rest => faxPageByteSent_plain hrole hphase hsent hplace hout
  · rintro c rest hqueue hpair
    refine ⟨?_, faxPageByteSent_opens hrole hphase hsent hplace hout hqueue hpair⟩
    rintro rfl
    exact faxPageByteSent_fill hrole hphase hsent hplace hout hqueue hpair
  · rintro b rest hqueue hpair
    refine ⟨faxPageByteSent_second hrole hphase hsent hplace hout hqueue hpair, ?_⟩
    rintro rfl
    exact faxPageByteSent_line hrole hphase hsent hplace hout hqueue hpair
  · intro m hmore
    refine faxPageByteSent_ends hrole hphase hsent ?_
    rw [State.faxSendByte, if_pos hout, State.faxMarkSent_decided hplace hmore]
  · intro e b hplace hentry hout hmore hb
    exact ⟨faxPageByteSent_store_plain hrole hphase hsent hplace hentry hout hmore hb,
      fun hpair hlead => ⟨faxPageByteSent_store_fill hrole hphase hsent hplace hentry hout hmore hb hpair hlead,
        faxPageByteSent_store_opens hrole hphase hsent hplace hentry hout hmore hb hpair hlead⟩,
      faxPageByteSent_store_second hrole hphase hsent hplace hentry hout hmore hb⟩
  · exact fun e => faxPageByteSent_store_ends hrole hphase hsent

end Sys2Proof.Machine
end

section
/-! PROOFS. The receiver's verdict on a page (R135, R140, R143, R144). -/

namespace Sys2Proof.Machine

/-! ### A good page (R140, R143) -/

/-- R143: a page in the entry's page table. -/
def Entry.pageAdded (e : Entry) (o : Nat) : Entry :=
  { e with pageTable := e.pageTable ++ [o], pageCount := e.pageCount + 1 }

/-- R140: a good page is entered and counted. -/
def State.pageCounted (s : State) : State :=
  { s.faxEnterPage with fax := { s.faxEnterPage.fax with accepted := bump 65535 s.fax.accepted } }

theorem State.faxEnterPage_eq (s : State) :
    s.faxEnterPage =
      match s.fax.place, s.fax.linkedId, s.fax.pageStart with
      | .store, some id, some o => s.updEntry id (fun e => e.pageAdded o)
      | _, _, _ => s := rfl

theorem State.faxEnterPage_store {s : State} {id o : Nat} (hplace : s.fax.place = .store) (hlinked : s.fax.linkedId = some id)
    (hstart : s.fax.pageStart = some o) : s.faxEnterPage = s.updEntry id (fun e => e.pageAdded o) := by
  rw [State.faxEnterPage_eq, hplace, hlinked, hstart]

theorem State.faxEnterPage_port {s : State} (hplace : s.fax.place = .port) : s.faxEnterPage = s := by
  rw [State.faxEnterPage_eq, hplace]

theorem State.pageCounted_store {s : State} {id o : Nat} (hplace : s.fax.place = .store) (hlinked : s.fax.linkedId = some id)
    (hstart : s.fax.pageStart = some o) :
    s.pageCounted.fax = { s.fax with accepted := bump 65535 s.fax.accepted } ∧
      s.pageCounted.store.dir = s.store.dir.map (fun e => if e.id = id then e.pageAdded o else e) ∧
      SameBut [.fax, .directory] s s.pageCounted := by
  rw [State.pageCounted, State.faxEnterPage_store hplace hlinked hstart]
  exact ⟨rfl, rfl, ((s.updEntry_same id _).andThen (State.faxSet_same _ _)).mono (by simp)⟩

theorem State.pageCounted_find {s : State} {id o : Nat} {e : Entry} (hplace : s.fax.place = .store)
    (hlinked : s.fax.linkedId = some id) (hstart : s.fax.pageStart = some o) (hfind : s.store.find id = some e) :
    s.pageCounted.store.find id = some (e.pageAdded o) := by
  rw [State.pageCounted, State.faxEnterPage_store hplace hlinked hstart]
  exact (State.updEntry_find s id (fun _ => by rfl)).trans (congrArg (Option.map _) hfind)

theorem State.pageCounted_port {s : State} (hplace : s.fax.place = .port) :
    s.pageCounted.fax = { s.fax with accepted := bump 65535 s.fax.accepted } ∧ SameBut [.fax] s s.pageCounted := by
  rw [State.pageCounted, State.faxEnterPage_port hplace]
  exact ⟨rfl, s.faxSet_same _⟩

/-- R140: the last page. -/
theorem State.faxGoodPage_last (s : State) : s.faxGoodPage false = (s.pageCounted.faxSend .pageOk .done).faxTo .clearing := rfl

/-- R140: before the next page, its number and its attempts. -/
def State.pageAdvanced (s : State) : State :=
  { s.pageCounted.faxSend .pageOk .pageData with
    fax := { (s.pageCounted.faxSend .pageOk .pageData).fax with page := bump 65535 s.fax.page, attempts := 1 } }

/-- R140: another page follows. -/
theorem State.faxGoodPage_more {s : State} (hfax : s.pageCounted.fax = { s.fax with accepted := bump 65535 s.fax.accepted }) :
    s.faxGoodPage true =
      if s.fax.place = .store ∧ s.fax.page = 32 then
        State.faxFrame { s.pageCounted with fax := { s.pageCounted.fax with endAfter := some .faxPageLimit } } .refuse
      else s.pageAdvanced.faxReceivePage := by
  have heq : s.faxGoodPage true =
      if s.pageCounted.fax.place = .store ∧ s.pageCounted.fax.page = 32 then
        State.faxFrame { s.pageCounted with fax := { s.pageCounted.fax with endAfter := some .faxPageLimit } } .refuse
      else State.faxReceivePage { s.pageCounted.faxSend .pageOk .pageData with
        fax := { (s.pageCounted.faxSend .pageOk .pageData).fax with page := bump 65535 s.pageCounted.fax.page,
                                                                    attempts := 1 } } :=
    rfl
  have hpage : s.pageCounted.fax.page = s.fax.page := by rw [hfax]
  have hplace : s.pageCounted.fax.place = s.fax.place := by rw [hfax]
  rw [heq, hpage, hplace]
  rfl

/-- R140: the session as another page follows. -/
def Fax.pageFollows (x : Fax) : Fax :=
  { x with accepted := bump 65535 x.accepted, expect := .pageData, lastFrame := some .pageOk, checkSending := false,
           unsent := true, page := bump 65535 x.page, attempts := 1 }

theorem State.pageAdvanced_leaves {s : State} (hfax : s.pageCounted.fax = { s.fax with accepted := bump 65535 s.fax.accepted })
    (hjob : s.pageCounted.ccu.call.job = s.ccu.call.job) :
    s.pageAdvanced.fax = s.fax.pageFollows ∧ s.pageAdvanced.link.tx = .fax .pageOk ∧
      s.pageAdvanced.store = s.pageCounted.store ∧ s.pageAdvanced.ccu.call.job = s.ccu.call.job ∧
      s.pageAdvanced.LoadedT2 .faxReply 3000 .none ∧
      SameBut [.fax, .link, .ccuRest, .timer 2] s.pageCounted s.pageAdvanced := by
  obtain ⟨hsent, hlink, hloaded⟩ := s.pageCounted.faxSend_leaves .pageOk .pageData
  refine ⟨?_, ?_, ?_, ?_, hloaded, ((State.faxSend_same _ _ _).andThen (State.faxSet_same _ _)).mono (by simp)⟩
  · show { (s.pageCounted.faxSend .pageOk .pageData).fax with page := bump 65535 s.fax.page, attempts := 1 } = _
    rw [hsent, hfax]
    rfl
  · exact congrArg Link.tx hlink
  · show (s.pageCounted.faxSend .pageOk .pageData).store = _
    simp
  · show (s.pageCounted.faxSend .pageOk .pageData).ccu.call.job = _
    rw [← hjob]
    simp

theorem bump_pos (x : Nat) : bump 65535 x ≠ 0 := by
  unfold bump
  omega

/-- R140, R143, R144: what a good page that another one follows leaves. -/
structure PageFollowed (s t : State) : Prop where
  fax : t.fax = { s.fax.pageFollows with
    pageStart := if s.fax.place = .store then (s.fax.linkedId.bind s.pageCounted.store.find).map Entry.length else none,
    dataBegun := false, inPair := false, markInQueue := none, phase := some .page }
  tx : t.link.tx = .fax .pageOk
  store : t.store = s.pageCounted.store
  loaded : t.LoadedT2 .faxReply 3000 .none
  enters : s.fax.place = .port → t.sys.data = true ∨ t.sys.entryDue = true
  frame : SameBut ([.fax, .link, .call, .ccuRest, .timer 2] ++ if s.fax.place = .port then [.systemPort] else [])
    s.pageCounted t

theorem State.pageAdvanced_followed {s : State}
    (hfax : s.pageCounted.fax = { s.fax with accepted := bump 65535 s.fax.accepted })
    (hsame : s.pageCounted.ccu.call.job = s.ccu.call.job) (hjob : s.ccu.call.job = .fax) :
    PageFollowed s s.pageAdvanced.faxReceivePage := by
  obtain ⟨hadvanced, htx, hstore, hajob, hloaded, hframe⟩ := State.pageAdvanced_leaves hfax hsame
  have h := State.faxReceivePage_awaited (s := s.pageAdvanced) (hajob.trans hjob)
  have hplace : s.pageAdvanced.fax.place = s.fax.place := by
    rw [hadvanced]
    rfl
  have hreceive := h.frame
  rw [hplace] at hreceive
  refine ⟨?_, by rw [h.link, htx], by rw [h.store, hstore], hloaded.of_same hreceive ?_, fun hport => ?_, ?_⟩
  · rw [h.fax, hadvanced, hstore]
    have hpage : s.fax.pageFollows.page ≠ 0 := bump_pos s.fax.page
    simp only [if_neg hpage]
    rfl
  · split <;> simp
  · exact h.enters (hplace.trans hport)
  · refine (hframe.andThen hreceive).mono ?_
    split <;> simp

/-! ### A bad page (R140, R143) -/

theorem State.faxTrimPage_eq (s : State) :
    s.faxTrimPage =
      match s.fax.place, s.fax.linkedId, s.fax.pageStart with
      | .store, some id, some o => s.trim id o
      | _, _, _ => s := rfl

theorem State.faxTrimPage_store {s : State} {id o : Nat} (hplace : s.fax.place = .store) (hlinked : s.fax.linkedId = some id)
    (hstart : s.fax.pageStart = some o) : s.faxTrimPage = s.trim id o := by
  rw [State.faxTrimPage_eq, hplace, hlinked, hstart]

theorem State.faxTrimPage_port {s : State} (hplace : s.fax.place = .port) : s.faxTrimPage = s := by
  rw [State.faxTrimPage_eq, hplace]

theorem State.faxBadPage_eq {s u : State} (htrim : s.faxTrimPage = u) :
    s.faxBadPage =
      if u.fax.attempts < 3 then
        (State.faxSend { u with fax := { u.fax with attempts := u.fax.attempts + 1 } } .pageBad .set).faxTo .setup
      else State.faxFrame { u with fax := { u.fax with endAfter := some .faxPageFailed } } .pageBad := by
  subst htrim
  rfl

/-- R140: what a bad page leaves, before its third attempt and after it. -/
structure PageRefused (u t : State) : Prop where
  again : u.fax.attempts < 3 → t.fax.phase = some .setup ∧ t.fax.expect = .set ∧ t.fax.attempts = u.fax.attempts + 1 ∧
    t.LoadedT2 .faxReply 3000 .none ∧ SameBut [.fax, .link, .call, .ccuRest, .timer 2] u t
  final : 3 ≤ u.fax.attempts → t.fax.endAfter = some .faxPageFailed ∧ t.timers = u.timers ∧ SameBut [.fax, .link] u t
  tx : t.link.tx = .fax .pageBad
  frame : SameBut [.fax, .link, .call, .ccuRest, .timer 2] u t
  store : t.store = u.store

theorem State.faxBadPage_refused {s u : State} (htrim : s.faxTrimPage = u) : PageRefused u s.faxBadPage := by
  rw [State.faxBadPage_eq htrim]
  by_cases hattempts : u.fax.attempts < 3
  · obtain ⟨hfax, hlink, hloaded, hsame⟩ := State.faxSend_faxTo
      { u with fax := { u.fax with attempts := u.fax.attempts + 1 } } .pageBad .set .setup
    have hframe := ((u.faxSet_same _).andThen hsame).mono (more := [.fax, .link, .call, .ccuRest, .timer 2]) (by simp)
    rw [if_pos hattempts]
    refine ⟨fun _ => ⟨by rw [hfax], by rw [hfax], by rw [hfax], hloaded, hframe⟩, fun h => absurd hattempts (Nat.not_lt.2 h),
      by rw [hlink], hframe, ?_⟩
    simp [State.faxTo]
  · have hframe := ((u.faxSet_same _).andThen (State.faxFrame_same { u with
      fax := { u.fax with endAfter := some .faxPageFailed } } .pageBad)).mono (more := [.fax, .link]) (by simp)
    rw [if_neg hattempts]
    exact ⟨fun h => absurd h hattempts, fun _ => ⟨rfl, rfl, hframe⟩, rfl, hframe.mono (by simp), rfl⟩

/-- R143: the page in hand, trimmed off the session's entry. -/
theorem State.trim_books {s : State} {id : Nat} {e : Entry} (hfind : s.store.find id = some e) (o : Nat) :
    (s.trim id o).store.dir = s.store.dir.map (fun x =>
        if x.id = id then { x with granules := x.granules.take (ceilDiv o 1024), length := o } else x) ∧
      (s.trim id o).store.free = s.store.free ++ e.granules.drop (ceilDiv o 1024) ∧
      SameBut [.directory, .freeList, .alerts .system, .alerts .panel, .notices .panel] s (s.trim id o) := by
  rw [State.trim_found hfind]
  exact ⟨by rw [State.freeChain_dir]; rfl, by rw [State.freeChain_free]; rfl,
    ((s.updEntry_same id _).andThen (State.freeChain_same _ _)).mono (by simp)⟩

end Sys2Proof.Machine
end

section
/-! PROOFS. PAGE_END at the receiver (R135, R140, R143, R144). -/

namespace Sys2Proof.Machine

/-- R140: the verdict on the page in hand. -/
def State.pageVerdict (s : State) (more : Bool) : State :=
  if s.fax.pageGood then s.faxAnswered.faxGoodPage more else s.faxAnswered.faxBadPage

/-- R140: a verdict `u` as its row leaves it, with its notice. -/
structure VerdictGiven (s u t : State) : Prop where
  fax : t.fax = u.fax
  link : t.link = u.link
  timers : t.timers = u.timers
  store : t.store = u.store
  data : t.sys.data = u.sys.data
  entryDue : t.sys.entryDue = u.sys.entryDue
  loaded : u.LoadedT2 .faxReply 3000 .none → t.LoadedT2 .faxReply 3000 .none
  notice : ∀ p : Port, s.holder = some p.party → t.Noticed p .faxPage

theorem State.pageVerdict_holder (s : State) (more : Bool) : (s.pageVerdict more).holder = s.holder := by
  unfold State.pageVerdict State.holder
  split <;> simp

theorem State.pageVerdict_good {s : State} (hgood : s.fax.pageGood) (m : Bool) :
    s.pageVerdict m = s.faxAnswered.faxGoodPage m := if_pos hgood

theorem State.pageVerdict_bad {s : State} (hbad : ¬s.fax.pageGood) (m : Bool) :
    s.pageVerdict m = s.faxAnswered.faxBadPage := if_neg hbad

/-- R140: what `pageCounted` leaves of the session. -/
def State.CountsPage (s : State) : Prop := s.pageCounted.fax = { s.fax with accepted := bump 65535 s.fax.accepted }

theorem moreFlag {more : Byte} (h : more.toNat ≤ 1) : ∃ m, flagOf more = some m := by
  unfold flagOf
  have hcases : more = 0#8 ∨ more = 1#8 := by bv_omega
  rcases hcases with rfl | rfl
  · exact ⟨false, rfl⟩
  · exact ⟨true, rfl⟩

section
variable {s : State} (hactive : s.ccu.call.active = true) (hjob : s.ccu.call.job = .fax)
  (hline : s.ccu.line = .connected) (hrole : s.fax.role = some .receiver)
include hactive hjob hline hrole

/-- R135, R140: PAGE_END as the receiver takes it. -/
theorem exec_pageEndReceived {more : Byte} {m : Bool} (hmore : flagOf more = some m) (hlistens : s.fax.listens) :
    exec (.pageEndReceived more) s = finish
      (if s.fax.phase = some .postpage ∧ s.fax.expect = .pageEnd then s.judgePage m
       else if s.fax.pageJudged = true then s.faxResend else s) := by
  show execPageEndReceived more s = _
  unfold execPageEndReceived
  rw [hmore, State.faxHear_connected hline]
  exact congrArg finish (if_pos ⟨⟨hactive, hjob, hrole⟩, hlistens⟩)

section
variable (hphase : s.fax.phase = some .postpage) (hexpect : s.fax.expect = .pageEnd)
  (hcheck : s.fax.checkSending = false)
include hphase hexpect hcheck

theorem pageEndReceived_judges {more : Byte} {m : Bool} {u : State} {parts : List Part} (hmore : flagOf more = some m)
    (hverdict : s.pageVerdict m = u) (hsame : SameBut parts s.faxAnswered u) :
    ∃ t, exec (.pageEndReceived more) s = .next t ∧ VerdictGiven s u t ∧
      SameBut ([.fax, .ccuRest, .timer 2] ++ parts ++ [.notices .panel]) s t := by
  have hlistens : s.fax.listens := ⟨by simp [hphase], hcheck, by simp [hrole]⟩
  have hexec := exec_pageEndReceived hactive hjob hline hrole hmore hlistens
  have hjudge : s.judgePage m = u.raiseHolder .faxPage := by
    rw [← hverdict]
    rfl
  have hholder : u.holder = s.holder := by rw [← hverdict, State.pageVerdict_holder]
  rw [if_pos ⟨hphase, hexpect⟩, hjudge] at hexec
  have hraise := u.raiseHolder_same .faxPage
  obtain ⟨t, hnext, ht, hframe⟩ := finish_does hexec ((s.faxAnswered_same.andThen hsame).andThen hraise)
  refine ⟨t, hnext, ⟨?_, ?_, ?_, ?_, ?_, ?_, fun h => ?_, fun p hp => ?_⟩, hframe⟩
  · simpa using ht.fax
  · simpa using ht.link
  · simpa using ht.timers
  · simpa using ht.store
  · simpa using ht.data
  · simpa using ht.entryDue
  · exact ht.loaded _ _ _ (h.of_same hraise (by simp))
  · exact ht.notice _ _ (State.raiseHolder_noticed (hholder.trans hp) _)

/-! ### A good page (R140, R143, R144) -/

theorem pageEndReceived_last {parts : List Part} (hgood : s.fax.pageGood) (hcounted : s.faxAnswered.CountsPage)
    (hsame : SameBut parts s.faxAnswered s.faxAnswered.pageCounted) :
    ∃ t, exec (.pageEndReceived 0#8) s = .next t ∧ t.fax.phase = some .clearing ∧ t.fax.expect = .done ∧
      t.fax.accepted = bump 65535 s.fax.accepted ∧ t.link.tx = .fax .pageOk ∧
      t.store = s.faxAnswered.pageCounted.store ∧ t.LoadedT2 .faxReply 3000 .none ∧
      (∀ p : Port, s.holder = some p.party → t.Noticed p .faxPage) ∧
      SameBut (parts ++ [.fax, .link, .call, .ccuRest, .timer 2, .notices .panel]) s t := by
  obtain ⟨hfax, hlink, hloaded, hsend⟩ := s.faxAnswered.pageCounted.faxSend_faxTo .pageOk .done .clearing
  have hverdict := (State.pageVerdict_good hgood false).trans s.faxAnswered.faxGoodPage_last
  obtain ⟨t, hnext, ht, hframe⟩ := pageEndReceived_judges hactive hjob hline hrole hphase hexpect hcheck
    (more := 0#8) rfl hverdict (hsame.andThen hsend)
  have htfax := ht.fax.trans hfax
  refine ⟨t, hnext, by rw [htfax], by rw [htfax], ?_, by rw [ht.link, hlink], ?_, ht.loaded hloaded, ht.notice,
    hframe.mono (by simp)⟩
  · rw [htfax, hcounted]
    rfl
  · rw [ht.store]
    simp [State.faxTo]

theorem pageEndReceived_follows {parts : List Part} (hgood : s.fax.pageGood) (hcounted : s.faxAnswered.CountsPage)
    (hsame : SameBut parts s.faxAnswered s.faxAnswered.pageCounted) (hcall : .call ∉ parts)
    (hlimit : ¬(s.fax.place = .store ∧ s.fax.page = 32)) :
    ∃ t, exec (.pageEndReceived 1#8) s = .next t ∧
      t.fax = { s.faxAnswered.fax.pageFollows with
        pageStart := if s.fax.place = .store then
          (s.fax.linkedId.bind s.faxAnswered.pageCounted.store.find).map Entry.length else none,
        dataBegun := false, inPair := false, markInQueue := none, phase := some .page } ∧
      t.link.tx = .fax .pageOk ∧ t.store = s.faxAnswered.pageCounted.store ∧ t.LoadedT2 .faxReply 3000 .none ∧
      (s.fax.place = .port → t.sys.data = true ∨ t.sys.entryDue = true) ∧
      (∀ p : Port, s.holder = some p.party → t.Noticed p .faxPage) ∧
      SameBut (parts ++ [.fax, .link, .call, .ccuRest, .timer 2, .notices .panel] ++
        if s.fax.place = .port then [.systemPort] else []) s t := by
  have hcjob : s.faxAnswered.pageCounted.ccu.call.job = s.faxAnswered.ccu.call.job :=
    congrArg CallRecord.job (hsame .call hcall (by simp))
  have h := State.pageAdvanced_followed hcounted hcjob hjob
  have hverdict : s.pageVerdict true = s.faxAnswered.pageAdvanced.faxReceivePage :=
    (State.pageVerdict_good hgood true).trans ((State.faxGoodPage_more hcounted).trans (if_neg hlimit))
  obtain ⟨t, hnext, ht, hframe⟩ := pageEndReceived_judges hactive hjob hline hrole hphase hexpect hcheck
    (more := 1#8) rfl hverdict (hsame.andThen h.frame)
  refine ⟨t, hnext, ht.fax.trans h.fax, by rw [ht.link, h.tx], by rw [ht.store, h.store], ht.loaded h.loaded, fun hport => ?_,
    ht.notice, hframe.mono ?_⟩
  · rw [ht.data, ht.entryDue]
    exact h.enters hport
  · show _ ⊆ parts ++ _ ++ if s.faxAnswered.fax.place = .port then _ else _
    split <;> simp

theorem pageEndReceived_limit {id o : Nat} (hgood : s.fax.pageGood) (hplace : s.fax.place = .store)
    (hlinked : s.fax.linkedId = some id) (hstart : s.fax.pageStart = some o) (hpage : s.fax.page = 32) :
    ∃ t, exec (.pageEndReceived 1#8) s = .next t ∧ t.fax.endAfter = some .faxPageLimit ∧
      t.fax.accepted = bump 65535 s.fax.accepted ∧ t.link.tx = .fax .refuse ∧ t.timers.e2.mode = .off ∧
      t.store.dir = s.store.dir.map (fun e => if e.id = id then
        { e with pageTable := e.pageTable ++ [o], pageCount := e.pageCount + 1 } else e) ∧
      SameBut [.fax, .link, .directory, .ccuRest, .timer 2, .notices .panel] s t := by
  obtain ⟨hcounted, hdir, hsame⟩ := State.pageCounted_store (s := s.faxAnswered) hplace hlinked hstart
  have hverdict := (State.pageVerdict_good hgood true).trans ((State.faxGoodPage_more hcounted).trans (if_pos ⟨hplace, hpage⟩))
  obtain ⟨t, hnext, ht, hframe⟩ := pageEndReceived_judges hactive hjob hline hrole hphase hexpect hcheck
    (more := 1#8) rfl hverdict ((hsame.andThen (State.faxSet_same _ _)).andThen (State.faxFrame_same _ _))
  refine ⟨t, hnext, by rw [ht.fax]; rfl, by rw [ht.fax]; exact congrArg Fax.accepted hcounted, by rw [ht.link]; rfl, ?_, ?_,
    hframe.mono (by simp)⟩
  · have htimer : s.faxAnswered.pageCounted.timers.e2 = s.faxAnswered.timers.e2 := hsame (.timer 2) (by simp) (by simp)
    rw [ht.timers]
    exact (congrArg Channel.mode htimer).trans s.faxAnswered_stopped
  · rw [ht.store]
    exact hdir

/-! ### A bad page (R140, R143) -/

theorem pageEndReceived_refused {more : Byte} {m : Bool} {u : State} {parts : List Part} (hmore : flagOf more = some m)
    (hbad : ¬s.fax.pageGood) (htrim : s.faxAnswered.faxTrimPage = u) (hsame : SameBut parts s.faxAnswered u)
    (htimer : .timer 2 ∉ parts) (hfax : .fax ∉ parts) :
    ∃ t, exec (.pageEndReceived more) s = .next t ∧ t.link.tx = .fax .pageBad ∧ t.store = u.store ∧
      (s.fax.attempts < 3 → t.fax.phase = some .setup ∧ t.fax.expect = .set ∧
        t.fax.attempts = s.fax.attempts + 1 ∧ t.LoadedT2 .faxReply 3000 .none) ∧
      (3 ≤ s.fax.attempts → t.fax.endAfter = some .faxPageFailed ∧ t.timers.e2.mode = .off ∧
        SameBut (parts ++ [.fax, .link, .ccuRest, .timer 2, .notices .panel]) s t) ∧
      SameBut (parts ++ [.fax, .link, .call, .ccuRest, .timer 2, .notices .panel]) s t := by
  have h := State.faxBadPage_refused htrim
  have hufax : u.fax = s.faxAnswered.fax := hsame .fax hfax (by simp)
  have hattempts : u.fax.attempts = s.fax.attempts := by
    rw [hufax]
    rfl
  have hverdict := State.pageVerdict_bad hbad m
  obtain ⟨t, hnext, ht, hframe⟩ := pageEndReceived_judges hactive hjob hline hrole hphase hexpect hcheck
    hmore hverdict (hsame.andThen h.frame)
  refine ⟨t, hnext, by rw [ht.link, h.tx], by rw [ht.store, h.store], fun hless => ?_, fun hmost => ?_, hframe.mono (by simp)⟩
  · obtain ⟨hsetup, hset, hnew, hloaded, -⟩ := h.again (hattempts.trans_lt hless)
    rw [ht.fax]
    exact ⟨hsetup, hset, by rw [hnew, hattempts], ht.loaded hloaded⟩
  · obtain ⟨hend, htimers, hfinal⟩ := h.final (hmost.trans_eq hattempts.symm)
    have hutimer : u.timers.e2 = s.faxAnswered.timers.e2 := hsame (.timer 2) htimer (by simp)
    obtain ⟨t', hnext', -, hframe'⟩ := pageEndReceived_judges hactive hjob hline hrole hphase hexpect hcheck
      hmore hverdict (hsame.andThen hfinal)
    obtain rfl : t' = t := Host.Outcome.next.inj (hnext'.symm.trans hnext)
    refine ⟨by rw [ht.fax, hend], ?_, hframe'.mono (by simp)⟩
    rw [ht.timers, htimers, hutimer]
    exact s.faxAnswered_stopped

theorem pageEndReceived_trims {id o : Nat} {e : Entry} {more : Byte} (hbad : ¬s.fax.pageGood) (hplace : s.fax.place = .store)
    (hlinked : s.fax.linkedId = some id) (hstart : s.fax.pageStart = some o) (hfind : s.store.find id = some e)
    (hmore : more.toNat ≤ 1) :
    ∃ t, exec (.pageEndReceived more) s = .next t ∧ t.link.tx = .fax .pageBad ∧
      t.store.dir = s.store.dir.map (fun x => if x.id = id then
        { x with granules := x.granules.take (ceilDiv o 1024), length := o } else x) ∧
      t.store.free = s.store.free ++ e.granules.drop (ceilDiv o 1024) ∧
      (s.fax.attempts < 3 → t.fax.phase = some .setup ∧ t.fax.expect = .set ∧
        t.fax.attempts = s.fax.attempts + 1 ∧ t.LoadedT2 .faxReply 3000 .none) ∧
      (3 ≤ s.fax.attempts → t.fax.endAfter = some .faxPageFailed ∧ t.timers.e2.mode = .off) ∧
      SameBut [.fax, .link, .directory, .freeList, .alerts .system, .alerts .panel, .call, .ccuRest, .timer 2,
        .notices .panel] s t := by
  obtain ⟨m, hm⟩ := moreFlag hmore
  obtain ⟨hdir, hfree, hsame⟩ := State.trim_books (s := s.faxAnswered) (id := id) hfind o
  obtain ⟨t, hnext, htx, hstore, hless, hmost, hframe⟩ := pageEndReceived_refused hactive hjob hline hrole hphase hexpect hcheck
    hm hbad (State.faxTrimPage_store (s := s.faxAnswered) hplace hlinked hstart) hsame (by simp) (by simp)
  refine ⟨t, hnext, htx, by rw [hstore]; exact hdir, by rw [hstore]; exact hfree, hless, fun h => ?_, hframe.mono (by simp)⟩
  obtain ⟨hend, hoff, -⟩ := hmost h
  exact ⟨hend, hoff⟩

theorem pageEndReceived_port_bad (hbad : ¬s.fax.pageGood) (hplace : s.fax.place = .port) :
    ∃ t, exec (.pageEndReceived 0#8) s = .next t ∧ t.link.tx = .fax .pageBad ∧
      (s.fax.attempts < 3 → t.fax.phase = some .setup ∧ t.fax.expect = .set ∧
        t.fax.attempts = s.fax.attempts + 1 ∧ t.LoadedT2 .faxReply 3000 .none) ∧
      (3 ≤ s.fax.attempts → t.fax.endAfter = some .faxPageFailed ∧ t.timers.e2.mode = .off ∧
        SameBut [.fax, .link, .ccuRest, .timer 2, .notices .panel] s t) ∧
      SameBut [.fax, .link, .call, .ccuRest, .timer 2, .notices .panel] s t := by
  obtain ⟨t, hnext, htx, -, hrest⟩ := pageEndReceived_refused hactive hjob hline hrole hphase hexpect hcheck
    (more := 0#8) rfl hbad (State.faxTrimPage_port (s := s.faxAnswered) hplace) (SameBut.refl [] _) (by simp) (by simp)
  exact ⟨t, hnext, htx, by simpa using hrest⟩

end

/-! ### A repeated PAGE_END (R135) -/

theorem pageEndReceived_repeated {f : FaxFrame} {more : Byte} (hlistens : s.fax.listens) (hmore : more.toNat ≤ 1)
    (hnot : ¬(s.fax.phase = some .postpage ∧ s.fax.expect = .pageEnd)) (hlast : s.fax.lastFrame = some f)
    (hbegun : s.fax.dataBegun = false) (hverdict : f = .pageOk ∨ f = .pageBad ∨ f = .refuse) :
    ∃ t, exec (.pageEndReceived more) s = .next t ∧ t.link.tx = .fax f ∧ SameBut [.link] s t := by
  obtain ⟨m, hm⟩ := moreFlag hmore
  have hexec := exec_pageEndReceived hactive hjob hline hrole hm hlistens
  have hjudged : s.fax.pageJudged = true := by
    rw [Fax.pageJudged, hbegun, hlast]
    rcases hverdict with rfl | rfl | rfl <;> decide
  rw [if_neg hnot, if_pos hjudged] at hexec
  exact faxResend_does hexec hlast hlistens.2.1

theorem pageEndReceived_ignored {f : FaxFrame} {more : Byte} (hlistens : s.fax.listens) (hmore : more.toNat ≤ 1)
    (hnot : ¬(s.fax.phase = some .postpage ∧ s.fax.expect = .pageEnd)) (hlast : s.fax.lastFrame = some f)
    (hother : s.fax.dataBegun = true ∨ (f ≠ .pageOk ∧ f ≠ .pageBad ∧ f ≠ .refuse)) :
    ∃ t, exec (.pageEndReceived more) s = .next t ∧ SameBut [] s t := by
  obtain ⟨m, hm⟩ := moreFlag hmore
  have hexec := exec_pageEndReceived hactive hjob hline hrole hm hlistens
  have hjudged : ¬s.fax.pageJudged = true := by
    rw [Fax.pageJudged, hlast]
    rcases hother with hbegun | ⟨hok, hbad, hrefuse⟩
    · simp [hbegun]
    · simp [hok, hbad, hrefuse]
  rw [if_neg hnot, if_neg hjudged] at hexec
  exact finish_idles hexec

end

end Sys2Proof.Machine
end

section
/-! PROOFS. The sender's verdicts, the end of a session, and the repeats (R134, R135, R140 to R142). -/

namespace Sys2Proof.Machine

/-- R141: what an accepted page leaves, before the sender goes on. -/
theorem State.pageAccepted_leaves (s : State) :
    s.pageAccepted.fax = { s.faxAnswered.fax with accepted := bump 65535 s.fax.accepted } ∧
      s.pageAccepted.ccu.call = s.ccu.call ∧ s.pageAccepted.ccu.ending = s.ccu.ending ∧
      s.pageAccepted.timers.e2.mode = .off ∧
      SameBut [.fax, .ccuRest, .timer 2, .notices .panel] s s.pageAccepted := by
  have hframe := ((s.faxAnswered_same.andThen (s.faxAnswered.faxSet_same
    { s.faxAnswered.fax with accepted := bump 65535 s.fax.accepted })).andThen (State.raiseHolder_same _ .faxPage)).mono
    (more := [.fax, .ccuRest, .timer 2, .notices .panel]) (by simp)
  refine ⟨?_, ?_, ?_, ?_, hframe⟩
  · simp [State.pageAccepted, Config.max16]
  · simp [State.pageAccepted]
  · simp [State.pageAccepted]
  · have htimers : s.pageAccepted.timers = s.faxAnswered.timers := by simp [State.pageAccepted]
    rw [htimers]
    exact s.faxAnswered_stopped

section
variable {s : State} (hactive : s.ccu.call.active = true) (hjob : s.ccu.call.job = .fax)
  (hline : s.ccu.line = .connected) (hrole : s.fax.role = some .sender) (hphase : s.fax.phase = some .postpage)
  (hexpect : s.fax.expect = .pageVerdict)

section
include hline

/-- R135: a verdict on an earlier PAGE_END. -/
theorem pageVerdict_stale (hstale : s.fax.stale) :
    (∃ t, exec .pageOkReceived s = .next t ∧ SameBut [] s t) ∧ (∃ t, exec .pageBadReceived s = .next t ∧ SameBut [] s t) ∧
      (∃ t, exec .refuseReceived s = .next t ∧ SameBut [] s t) := by
  have hnot : ¬s.faxHear.awaitsVerdict := by
    rw [State.faxHear_connected hline]
    exact fun h => h.2.2.2 hstale
  have hidle {c : Instr} {u : State} (h : exec c s = finish (if s.faxHear.awaitsVerdict then u else s.faxHear)) :
      exec c s = finish s := by
    rw [h, if_neg hnot, State.faxHear_connected hline]
  exact ⟨finish_idles (hidle rfl), finish_idles (hidle rfl), finish_idles (hidle rfl)⟩

end

section
variable (hstale : ¬s.fax.stale)
include hactive hjob hline hrole hphase hexpect hstale

theorem State.awaitsVerdict_hears : s.faxHear = s ∧ s.awaitsVerdict :=
  ⟨State.faxHear_connected hline, ⟨hactive, hjob, hrole⟩, hphase, hexpect, hstale⟩

theorem exec_pageOkReceived :
    exec .pageOkReceived s = finish
      (if s.pageAccepted.fax.more = some .more then
        State.faxSendPage { s.pageAccepted with
          fax := { s.pageAccepted.fax with page := bump 65535 s.pageAccepted.fax.page, attempts := 1 } }
       else (s.pageAccepted.faxSend .done .done).faxTo .clearing) := by
  obtain ⟨hhear, hawaits⟩ := State.awaitsVerdict_hears hactive hjob hline hrole hphase hexpect hstale
  show execPageOkReceived s = _
  unfold execPageOkReceived
  rw [hhear]
  exact congrArg finish (if_pos hawaits)

theorem pageOkReceived_last (hmore : s.fax.more = some .last) :
    ∃ t, exec .pageOkReceived s = .next t ∧ t.fax.phase = some .clearing ∧ t.fax.expect = .done ∧
      t.fax.accepted = bump 65535 s.fax.accepted ∧ t.link.tx = .fax .done ∧ t.LoadedT2 .faxReply 3000 .none ∧
      SameBut [.fax, .link, .call, .ccuRest, .timer 2, .notices .panel] s t := by
  obtain ⟨haccepted, -, -, -, hsame⟩ := s.pageAccepted_leaves
  obtain ⟨hfax, hlink, hloaded, hsend⟩ := s.pageAccepted.faxSend_faxTo .done .done .clearing
  have hexec := exec_pageOkReceived hactive hjob hline hrole hphase hexpect hstale
  have hlast : ¬s.pageAccepted.fax.more = some .more := by
    rw [haccepted]
    show ¬s.fax.more = some .more
    simp [hmore]
  rw [if_neg hlast] at hexec
  obtain ⟨t, hnext, ht, hframe⟩ := finish_does hexec (hsame.andThen hsend)
  have htfax := ht.fax.trans hfax
  refine ⟨t, hnext, by rw [htfax], by rw [htfax], ?_, by rw [ht.link, hlink], ht.loaded _ _ _ hloaded, hframe.mono (by simp)⟩
  rw [htfax, haccepted]

section
variable (hmore : s.fax.more = some .more)
include hmore

/-- R141: the sender goes on with the next page. -/
theorem exec_pageOkReceived_more :
    exec .pageOkReceived s = finish (State.faxSendPage { s.pageAccepted with
      fax := { s.faxAnswered.fax with accepted := bump 65535 s.fax.accepted, page := bump 65535 s.fax.page,
                                      attempts := 1 } }) := by
  obtain ⟨haccepted, -⟩ := s.pageAccepted_leaves
  rw [exec_pageOkReceived hactive hjob hline hrole hphase hexpect hstale, haccepted]
  exact congrArg finish (if_pos hmore)

theorem pageOkReceived_store (hplace : s.fax.place = .store) :
    ∃ t, exec .pageOkReceived s = .next t ∧ t.fax.phase = some .page ∧
      t.fax.page = bump 65535 s.fax.page ∧ t.fax.attempts = 1 ∧ t.timers.e2.mode = .off ∧
      t.link.tx = .resync (s.fax.rung.getD 0) ∧
      SameBut [.fax, .link, .call, .ccuRest, .timer 2, .notices .panel] s t := by
  obtain ⟨-, -, -, hoff, hsame⟩ := s.pageAccepted_leaves
  obtain ⟨⟨o, n, hfax⟩, htx, htimers, hbegin⟩ := State.faxSendPage_store (s := { s.pageAccepted with
    fax := { s.faxAnswered.fax with accepted := bump 65535 s.fax.accepted, page := bump 65535 s.fax.page,
                                    attempts := 1 } }) hplace
  obtain ⟨t, hnext, ht, hframe⟩ := finish_does
    (exec_pageOkReceived_more hactive hjob hline hrole hphase hexpect hstale hmore)
    ((hsame.andThen (State.faxSet_same _ _)).andThen hbegin)
  have htfax := ht.fax.trans hfax
  refine ⟨t, hnext, by rw [htfax]; rfl, ?_, ?_, by rw [ht.timers, htimers]; exact hoff, by rw [ht.link, htx]; rfl,
    hframe.mono (by simp)⟩
  · rw [htfax]
    exact if_neg (bump_pos s.fax.page)
  · rw [htfax]
    exact if_neg (bump_pos s.fax.page)

theorem pageOkReceived_port (hplace : s.fax.place = .port) :
    ∃ t, exec .pageOkReceived s = .next t ∧ t.fax.phase = some .page ∧
      t.fax.page = bump 65535 s.fax.page ∧ t.fax.attempts = 1 ∧ t.fax.more = none ∧
      t.LoadedT2 .faxStall 3000 .none ∧ (t.sys.data = true ∨ t.sys.entryDue = true) ∧
      SameBut [.fax, .link, .call, .ccuRest, .timer 2, .systemPort, .notices .panel] s t := by
  obtain ⟨-, hcall, -, -, hsame⟩ := s.pageAccepted_leaves
  obtain ⟨hfax, -, hloaded, henters, hbegin⟩ := State.faxSendPage_port (s := { s.pageAccepted with
    fax := { s.faxAnswered.fax with accepted := bump 65535 s.fax.accepted, page := bump 65535 s.fax.page,
                                    attempts := 1 } }) (.inl hplace) (by rw [hcall, hjob])
  obtain ⟨t, hnext, ht, hframe⟩ := finish_does
    (exec_pageOkReceived_more hactive hjob hline hrole hphase hexpect hstale hmore)
    ((hsame.andThen (State.faxSet_same _ _)).andThen hbegin)
  have htfax := ht.fax.trans hfax
  refine ⟨t, hnext, by rw [htfax]; rfl, ?_, ?_, by rw [htfax]; rfl, ht.loaded _ _ _ hloaded,
    by rw [ht.data, ht.entryDue]; exact henters, hframe.mono (by simp)⟩
  · rw [htfax]
    exact if_neg (bump_pos s.fax.page)
  · rw [htfax]
    exact if_neg (bump_pos s.fax.page)

end

theorem exec_pageBadReceived :
    exec .pageBadReceived s = finish
      (if 3 ≤ s.fax.attempts then (s.faxAnswered.raiseHolder .faxPage).reportEnd .faxPageFailed
       else (s.faxAnswered.raiseHolder .faxPage).resendPage) := by
  obtain ⟨hhear, hawaits⟩ := State.awaitsVerdict_hears hactive hjob hline hrole hphase hexpect hstale
  have hattempts : (s.faxAnswered.raiseHolder .faxPage).fax.attempts = s.fax.attempts := by simp
  show execPageBadReceived s = _
  unfold execPageBadReceived
  rw [hhear, ← hattempts]
  exact congrArg finish (if_pos hawaits)

theorem pageBadReceived_resends (hattempts : s.fax.attempts < 3) :
    ∃ t, exec .pageBadReceived s = .next t ∧ t.fax.phase = some .check ∧ t.fax.attempts = s.fax.attempts + 1 ∧
      t.fax.rung = some (if s.fax.floor < s.fax.rung.getD 0 then s.fax.rung.getD 0 - 1 else s.fax.rung.getD 0) ∧
      t.fax.retries = 0 ∧ t.pump = { s.pump with rung := t.fax.rung } ∧
      (∀ r, t.fax.rung = some r → t.link.tx = .fax (.set r ((s.fax.resolution.getD .normal).code) s.fax.scanMs)) ∧
      t.LoadedT2 .faxReply 3000 .none ∧
      SameBut [.fax, .link, .call, .ccuRest, .timer 2, .pump, .notices .panel] s t := by
  set rung := if s.fax.floor < s.fax.rung.getD 0 then s.fax.rung.getD 0 - 1 else s.fax.rung.getD 0 with hrung
  set u : State := { s.faxAnswered.raiseHolder .faxPage with
    fax := { s.faxAnswered.fax with attempts := s.fax.attempts + 1, rung := some rung } } with hu
  have hkept : (s.faxAnswered.raiseHolder .faxPage).fax = s.faxAnswered.fax := by simp
  have hresend : (s.faxAnswered.raiseHolder .faxPage).resendPage = u.sendSet.faxTo .check := by
    rw [State.resendPage, hkept]
    rfl
  have hexec := exec_pageBadReceived hactive hjob hline hrole hphase hexpect hstale
  rw [if_neg (Nat.not_le.2 hattempts), hresend] at hexec
  obtain ⟨hfax, htx, hpump, hloaded, hset⟩ := u.sendSet_faxTo .check
  obtain ⟨t, hnext, ht, hframe⟩ := finish_does hexec
    (((s.faxAnswered_same.andThen (s.faxAnswered.raiseHolder_same .faxPage)).andThen (State.faxSet_same _ _)).andThen hset)
  have htfax := ht.fax.trans hfax
  have htrung : t.fax.rung = some rung := by rw [htfax]
  have hupump : u.pump = s.pump := by simp [hu]
  refine ⟨t, hnext, by rw [htfax], by rw [htfax], htrung, by rw [htfax]; rfl, ?_, fun r hr => ?_, ht.loaded _ _ _ hloaded,
    hframe.mono (by simp)⟩
  · rw [ht.pump, hpump, htrung, hupump]
    rfl
  · obtain rfl : rung = r := Option.some.inj (htrung.symm.trans hr)
    rw [ht.link, htx]
    rfl

section
variable (hending : s.ccu.ending = none)
include hending

theorem pageBadReceived_ends (hattempts : 3 ≤ s.fax.attempts) :
    ∃ t, exec .pageBadReceived s = .next t ∧ CallEnded [] s t .faxPageFailed := by
  have hexec := exec_pageBadReceived hactive hjob hline hrole hphase hexpect hstale
  rw [if_pos hattempts] at hexec
  have hends := State.reportEnd_ended (s := s.faxAnswered.raiseHolder .faxPage) (by simpa using hactive)
    (by simpa using hending) .faxPageFailed
  exact ⟨_, hexec, (hends.after_fax (s.faxAnswered_same.andThen (s.faxAnswered.raiseHolder_same .faxPage))
    (by simp [endParts]) (by simp) hjob).finish⟩

theorem refuseReceived_ends : ∃ t, exec .refuseReceived s = .next t ∧ CallEnded [] s t .faxPageLimit := by
  obtain ⟨hhear, hawaits⟩ := State.awaitsVerdict_hears hactive hjob hline hrole hphase hexpect hstale
  obtain ⟨-, hcall, haccending, -, hsame⟩ := s.pageAccepted_leaves
  have hexec : exec .refuseReceived s = finish (s.pageAccepted.reportEnd .faxPageLimit) := by
    show execRefuseReceived s = _
    unfold execRefuseReceived
    rw [hhear]
    exact congrArg finish (if_pos hawaits)
  have hends := State.reportEnd_ended (s := s.pageAccepted) (by rw [hcall, hactive]) (haccending.trans hending) .faxPageLimit
  exact ⟨_, hexec, (hends.after_fax hsame (by simp [endParts]) (by simp) hjob).finish⟩

end

end

end

/-! ### The end of a session (R142) -/

section
variable {s : State} (hactive : s.ccu.call.active = true) (hjob : s.ccu.call.job = .fax)
  (hline : s.ccu.line = .connected) (hphase : s.fax.phase = some .clearing) (hexpect : s.fax.expect = .done)
include hline hphase hexpect

theorem exec_doneReceived :
    exec .doneReceived s = finish
      (if s.faxRole .sender then s.faxAnswered.reportEnd .normal
       else if s.faxRole .receiver then
        State.faxFrame { s.faxAnswered with fax := { s.faxAnswered.fax with endAfter := some .normal } } .done
       else s) := by
  show execDoneReceived s = _
  unfold execDoneReceived
  rw [State.faxHear_connected hline]
  exact congrArg finish (if_pos ⟨hphase, hexpect⟩)

include hactive hjob

theorem doneReceived_sender (hrole : s.fax.role = some .sender) (hending : s.ccu.ending = none) :
    ∃ t, exec .doneReceived s = .next t ∧ CallEnded [] s t .normal := by
  have hexec := exec_doneReceived hline hphase hexpect
  rw [if_pos ⟨hactive, hjob, hrole⟩] at hexec
  exact ⟨_, hexec, ((State.reportEnd_ended (s := s.faxAnswered) hactive hending _).after_fax s.faxAnswered_same
    (by simp [endParts]) (by simp) hjob).finish⟩

theorem doneReceived_receiver (hrole : s.fax.role = some .receiver) :
    ∃ t, exec .doneReceived s = .next t ∧ t.fax.endAfter = some .normal ∧ t.link.tx = .fax .done ∧
      t.timers.e2.mode = .off ∧ SameBut [.fax, .link, .ccuRest, .timer 2] s t := by
  have hexec := exec_doneReceived hline hphase hexpect
  have hnot : ¬s.faxRole .sender := by simp [hrole]
  rw [if_neg hnot, if_pos ⟨hactive, hjob, hrole⟩] at hexec
  obtain ⟨t, hnext, ht, hframe⟩ := finish_does hexec
    ((s.faxAnswered_same.andThen (State.faxSet_same _ _)).andThen (State.faxFrame_same _ _))
  exact ⟨t, hnext, by rw [ht.fax]; rfl, by rw [ht.link]; rfl, by rw [ht.timers]; rfl, hframe.mono (by simp)⟩

end

/-! ### A control frame has left (R137, R140, R142) -/

theorem exec_faxControlFrameSent {s : State} {f : FaxFrame} (htx : s.link.tx = .fax f) {u : State}
    (hu : u = { s with link := { s.link with tx := afterFrame f },
                       fax := { s.fax with checkSending := f.hasCheck, unsent := false } }) :
    exec .faxControlFrameSent s = finish
      (match s.fax.endAfter with
       | some c => u.reportEnd c
       | none => u) := by
  show execFaxControlFrameSent s = _
  unfold execFaxControlFrameSent
  rw [htx, hu] <;> rfl

theorem faxControlFrameSent_rests {s : State} {f : FaxFrame} (htx : s.link.tx = .fax f) (hend : s.fax.endAfter = none) :
    ∃ t, exec .faxControlFrameSent s = .next t ∧
      t.link.tx = afterFrame f ∧ t.fax = { s.fax with checkSending := f.hasCheck, unsent := false } ∧ SameBut [.fax, .link] s t := by
  have hexec := exec_faxControlFrameSent htx rfl
  rw [hend] at hexec
  obtain ⟨t, hnext, ht, hframe⟩ := finish_does hexec (s.txFax_same _ _)
  exact ⟨t, hnext, by rw [ht.link], ht.fax, hframe⟩

theorem faxControlFrameSent_ends {s : State} {f : FaxFrame} {c : Cause} (htx : s.link.tx = .fax f)
    (hactive : s.ccu.call.active = true) (hjob : s.ccu.call.job = .fax) (hend : s.fax.endAfter = some c)
    (hending : s.ccu.ending = none) : ∃ t, exec .faxControlFrameSent s = .next t ∧ CallEnded [] s t c := by
  have hexec := exec_faxControlFrameSent htx rfl
  rw [hend] at hexec
  exact ⟨_, hexec, ((State.reportEnd_ended (by exact hactive) (by exact hending) c).after_fax (s.txFax_same _ _)
    (by simp [endParts]) (by simp) hjob).finish⟩

/-! ### A frame without its answer (R134) -/

theorem State.faxRepeat_eq (s : State) :
    s.faxRepeat = match s.fax.expect with
      | .pageEnd | .caps => s
      | _ => s.faxResend := rfl

theorem State.faxRepeat_waits {s : State} (h : s.fax.expect = .pageEnd ∨ s.fax.expect = .caps) : s.faxRepeat = s := by
  rw [State.faxRepeat_eq]
  rcases h with h | h <;> rw [h]

theorem State.faxRepeat_sends {s : State} (hpage : s.fax.expect ≠ .pageEnd) (hcaps : s.fax.expect ≠ .caps) :
    s.faxRepeat = s.faxResend := by
  rw [State.faxRepeat_eq]
  split
  · contradiction
  · contradiction
  · rfl

section
variable {s : State} (hdue : s.DueT2 .faxReply)
include hdue

theorem exec_faxControlReplyExpiry : ∃ c, exec .faxControlReplyExpiry s = finish
    (if s.fax.retries < 3 then
      State.loadT2 { State.faxRepeat { s with timers.e2 := c } with
        fax := { (State.faxRepeat { s with timers.e2 := c }).fax with
                 retries := s.fax.retries + 1, unsent := false } } .faxReply 3000 .none
     else State.reportEnd { s with timers.e2 := c } (if s.fax.expect = .done then .normal else .faxPageFailed)) := by
  obtain ⟨c, hc⟩ := State.takeT2_of_due hdue
  refine ⟨c, ?_⟩
  show execFaxControlReplyExpiry s = _
  unfold execFaxControlReplyExpiry
  rw [hc]
  rfl

/-- R134: the last frame is sent again, and its answer is waited for again. -/
theorem faxControlReplyExpiry_repeats {f : FaxFrame} (hlast : s.fax.lastFrame = some f) (hretries : s.fax.retries < 3)
    (hpage : s.fax.expect ≠ .pageEnd) (hcaps : s.fax.expect ≠ .caps) :
    ∃ t, exec .faxControlReplyExpiry s = .next t ∧ t.link.tx = .fax f ∧
      t.fax = { s.fax with retries := s.fax.retries + 1, checkSending := false, unsent := false } ∧
      t.LoadedT2 .faxReply 3000 .none ∧ SameBut [.fax, .link, .ccuRest, .timer 2] s t := by
  obtain ⟨c, hexec⟩ := exec_faxControlReplyExpiry hdue
  rw [if_pos hretries, State.faxRepeat_sends (s := { s with timers.e2 := c }) hpage hcaps,
    State.faxResend_last (s := { s with timers.e2 := c }) hlast] at hexec
  obtain ⟨t, hnext, ht, hframe⟩ := finish_does hexec
    (((s.takenT2_same c).andThen (State.txFax_same _ (.fax f) _)).andThen (State.loadT2_same _ _ _ _))
  exact ⟨t, hnext, by rw [ht.link]; rfl, by rw [ht.fax]; rfl, ht.loaded _ _ _ (State.loadT2_loaded _ _ _ _),
    hframe.mono (by simp)⟩

/-- R134: a receiver that waits for PAGE_END and a sender that waits for CAPS send nothing. -/
theorem faxControlReplyExpiry_waits (hretries : s.fax.retries < 3) (hwaits : s.fax.expect = .pageEnd ∨ s.fax.expect = .caps) :
    ∃ t, exec .faxControlReplyExpiry s = .next t ∧ t.fax = { s.fax with retries := s.fax.retries + 1, unsent := false } ∧
      t.LoadedT2 .faxReply 3000 .none ∧ SameBut [.fax, .ccuRest, .timer 2] s t := by
  obtain ⟨c, hexec⟩ := exec_faxControlReplyExpiry hdue
  rw [if_pos hretries, State.faxRepeat_waits (s := { s with timers.e2 := c }) hwaits] at hexec
  obtain ⟨t, hnext, ht, hframe⟩ := finish_does hexec
    (((s.takenT2_same c).andThen (State.faxSet_same _ _)).andThen (State.loadT2_same _ _ _ _))
  exact ⟨t, hnext, by rw [ht.fax]; rfl, ht.loaded _ _ _ (State.loadT2_loaded _ _ _ _), hframe.mono (by simp)⟩

theorem faxControlReplyExpiry_ends (hactive : s.ccu.call.active = true) (hjob : s.ccu.call.job = .fax)
    (hretries : 3 ≤ s.fax.retries) (hending : s.ccu.ending = none) :
    ∃ t, exec .faxControlReplyExpiry s = .next t ∧
      CallEnded [] s t (if s.fax.expect = .done then .normal else .faxPageFailed) := by
  obtain ⟨c, hexec⟩ := exec_faxControlReplyExpiry hdue
  rw [if_neg (Nat.not_lt.2 hretries)] at hexec
  exact ⟨_, hexec, ((State.reportEnd_ended (s := { s with timers.e2 := c }) hactive hending _).after_fax (s.takenT2_same c)
    (by simp [endParts]) (by simp) hjob).finish⟩

end

/-- Settles O60: the receiver's verdicts, a repeated PAGE_END, the sender's verdicts, the end of a session, a control frame that
has left, and one without its answer. -/
theorem faxVerdicts : Obligations.FaxVerdicts := by
  intro s hactive hjob hline
  refine ⟨fun hrole hphase hexpect hcheck => ⟨?_, ?_, ?_, ?_, ?_, ?_, ?_, ?_⟩, ?_, ?_, ?_, ?_, ?_, ?_⟩
  · intro id o hgood hplace hlinked hstart
    obtain ⟨hcounted, hdir, hsame⟩ := State.pageCounted_store (s := s.faxAnswered) hplace hlinked hstart
    obtain ⟨t, hnext, hclearing, hdone, haccepted, htx, hstore, hloaded, hnotice, hframe⟩ :=
      pageEndReceived_last hactive hjob hline hrole hphase hexpect hcheck hgood hcounted hsame
    exact ⟨t, hnext, hclearing, hdone, haccepted, htx, by rw [hstore]; exact hdir, hloaded, hnotice, hframe.mono (by simp)⟩
  · intro id o e hgood hplace hlinked hstart hfind hpage
    obtain ⟨hcounted, hdir, hsame⟩ := State.pageCounted_store (s := s.faxAnswered) hplace hlinked hstart
    obtain ⟨t, hnext, hfax, htx, hstore, hloaded, -, hnotice, hframe⟩ :=
      pageEndReceived_follows hactive hjob hline hrole hphase hexpect hcheck hgood hcounted hsame (by simp)
        (fun h => hpage h.2)
    have hentered := State.pageCounted_find (s := s.faxAnswered) hplace hlinked hstart hfind
    rw [if_neg (by simp [hplace])] at hframe
    rw [if_pos hplace, hlinked] at hfax
    refine ⟨t, hnext, by rw [hfax], by rw [hfax]; rfl, by rw [hfax]; rfl, by rw [hfax]; rfl, by rw [hfax]; rfl, ?_,
      by rw [hfax], htx, by rw [hstore]; exact hdir, hloaded, hnotice, hframe.mono (by simp)⟩
    rw [hfax]
    show (s.faxAnswered.pageCounted.store.find id).map Entry.length = _
    rw [hentered]
    rfl
  · intro hgood hplace
    obtain ⟨hcounted, hsame⟩ := State.pageCounted_port (s := s.faxAnswered) hplace
    obtain ⟨t, hnext, hfax, htx, -, -, henters, -, hframe⟩ :=
      pageEndReceived_follows hactive hjob hline hrole hphase hexpect hcheck hgood hcounted hsame (by simp)
        (by simp [hplace])
    rw [if_pos hplace] at hframe
    exact ⟨t, hnext, by rw [hfax], by rw [hfax]; rfl, htx, henters hplace, hframe.mono (by simp)⟩
  · intro hgood hplace
    obtain ⟨hcounted, hsame⟩ := State.pageCounted_port (s := s.faxAnswered) hplace
    obtain ⟨t, hnext, hclearing, hdone, haccepted, htx, -, hloaded, -, hframe⟩ :=
      pageEndReceived_last hactive hjob hline hrole hphase hexpect hcheck hgood hcounted hsame
    exact ⟨t, hnext, hclearing, hdone, haccepted, htx, hloaded, hframe.mono (by simp)⟩
  · intro hbad hplace hattempts
    obtain ⟨t, hnext, htx, hless, -, hframe⟩ :=
      pageEndReceived_port_bad hactive hjob hline hrole hphase hexpect hcheck hbad hplace
    obtain ⟨hsetup, hset, hnew, -⟩ := hless hattempts
    exact ⟨t, hnext, hsetup, hset, hnew, htx, hframe⟩
  · exact fun id o e more hbad hplace hlinked hstart hfind hmore =>
      pageEndReceived_trims hactive hjob hline hrole hphase hexpect hcheck hbad hplace hlinked hstart hfind hmore
  · intro hbad hplace hattempts
    obtain ⟨t, hnext, htx, -, hmost, -⟩ :=
      pageEndReceived_port_bad hactive hjob hline hrole hphase hexpect hcheck hbad hplace
    obtain ⟨hend, hoff, hframe⟩ := hmost hattempts
    exact ⟨t, hnext, hend, htx, hoff, hframe⟩
  · exact fun id o => pageEndReceived_limit hactive hjob hline hrole hphase hexpect hcheck
  · exact fun f more hrole hlistens hmore hnot hlast =>
      ⟨pageEndReceived_repeated hactive hjob hline hrole hlistens hmore hnot hlast,
        pageEndReceived_ignored hactive hjob hline hrole hlistens hmore hnot hlast⟩
  · exact fun _ _ _ => pageVerdict_stale hline
  · exact fun hrole hphase hexpect hstale =>
      ⟨pageOkReceived_last hactive hjob hline hrole hphase hexpect hstale,
        pageOkReceived_store hactive hjob hline hrole hphase hexpect hstale,
        pageOkReceived_port hactive hjob hline hrole hphase hexpect hstale,
        pageBadReceived_resends hactive hjob hline hrole hphase hexpect hstale,
        fun hattempts hending => pageBadReceived_ends hactive hjob hline hrole hphase hexpect hstale hending hattempts,
        refuseReceived_ends hactive hjob hline hrole hphase hexpect hstale⟩
  · exact fun hphase hexpect => ⟨doneReceived_sender hactive hjob hline hphase hexpect,
      doneReceived_receiver hactive hjob hline hphase hexpect⟩
  · intro f htx
    refine ⟨fun hend => ?_, fun c => faxControlFrameSent_ends htx hactive hjob⟩
    obtain ⟨t, hnext, hafter, hrest⟩ := faxControlFrameSent_rests htx hend
    refine ⟨t, hnext, ?_, hrest⟩
    rw [hafter]
    cases f <;> rfl
  · exact fun hdue => ⟨fun f => faxControlReplyExpiry_repeats hdue, faxControlReplyExpiry_waits hdue,
      faxControlReplyExpiry_ends hdue hactive hjob⟩

end Sys2Proof.Machine
end

section
/-! PROOFS. The computer's bytes (R32, R127 to R129, R138, R144, R146, R177, R179). -/

namespace Sys2Proof.Machine

/-! ### The end of a row of the System Port -/

/-- A row of the System Port: beside what every row leaves, the port but for the notice that the delivery begins. -/
theorem finish_port {c : Instr} {s u : State} {parts : List Part} (hexec : exec c s = finish u) (hsame : SameBut parts s u) :
    ∃ t, exec c s = .next t ∧ u.Delivered t ∧ (∃ n, t.sys = { u.sys with notice := n }) ∧ SameBut parts s t :=
  ⟨_, hexec, u.deliverSystem_delivered, u.deliverSystem_sys, hsame.finish⟩

/-! ### A byte at the timer channels (R32) -/

theorem Channel.byteRestart_other {c : Channel} (h : c.restart ≠ .portByte) : c.byteRestart = c := by
  unfold Channel.byteRestart
  split
  · contradiction
  · rfl

theorem Channel.byteRestart_oneShot {c : Channel} (h : c.restart = .portByte) (hmode : c.mode = .oneShot) :
    c.byteRestart = { c with count := 0 } := by
  obtain ⟨⟩ := c
  subst h hmode
  rfl

theorem Channel.byteRestart_off {c : Channel} (hmode : c.mode = .off) : c.byteRestart = c := by
  unfold Channel.byteRestart
  split
  · simp only [Channel.restarted, hmode]
  · rfl

theorem State.byteRestarts_get (s : State) (n : Fin 8) : s.byteRestarts.timers.get n = (s.timers.get n).byteRestart :=
  Eight.get_mapIdx _ _ n

theorem State.byteRestarts_kept {s : State} {n : Fin 8} (h : (s.timers.get n).restart ≠ .portByte) :
    s.byteRestarts.timers.get n = s.timers.get n := by
  rw [State.byteRestarts_get, Channel.byteRestart_other h]

theorem State.byteRestarts_same (s : State) : SameBut allTimers s s.byteRestarts := by
  unfold State.byteRestarts
  exact .of_parts (by simp [allTimers])

/-- A write of T5 leaves the other channels. -/
theorem Eight.get_e5 {α : Type} (t : Eight α) (c : α) {n : Fin 8} (h : n ≠ 5) : Eight.get { t with e5 := c } n = t.get n := by
  fin_cases n <;> first | rfl | exact absurd rfl h

/-! ### The outbound queue (R127) -/

/-- R127: what a byte that comes to the outbound queue leaves. -/
structure ByteJoined (s t : State) (b : Byte) : Prop where
  room : s.link.outbound.length < 1024 → t.link.outbound = s.link.outbound ++ [b] ∧ t.link.stats = s.link.stats
  full : 1024 ≤ s.link.outbound.length → t.link.outbound = s.link.outbound ∧
    t.link.stats = { s.link.stats with overruns := bump 255 s.link.stats.overruns }
  cts : s.sys.data = true → s.link.outbound.length < 1024 →
    t.sys.cts = ctsAfter s.sys.cts (s.link.outbound.length + 1)
  sys : ∃ c, t.sys = { s.sys with cts := c }
  idle : s.sys.data = false → t.sys = s.sys
  timers : t.timers = s.timers
  fax : t.fax = s.fax
  frame : SameBut [.outbound, .stats, .systemPort] s t

theorem State.joinOutbound_room {s : State} (h : s.link.outbound.length < 1024) (b : Byte) :
    s.joinOutbound b = (State.judgeCts { s with link := { s.link with outbound := s.link.outbound ++ [b] } }, true) := if_pos h

theorem State.joinOutbound_full {s : State} (h : 1024 ≤ s.link.outbound.length) (b : Byte) :
    s.joinOutbound b = ({ s with link := { s.link with
      stats := { s.link.stats with overruns := bump 255 s.link.stats.overruns } } }, false) := if_neg (Nat.not_lt.2 h)

theorem State.judgeCts_sys (s : State) : ∃ c, s.judgeCts.sys = { s.sys with cts := c } := by
  unfold State.judgeCts
  split
  · exact ⟨_, rfl⟩
  · exact ⟨s.sys.cts, rfl⟩

/-- R127: a byte that the outbound queue has room for. -/
theorem State.joinOutbound_room_same {s : State} (h : s.link.outbound.length < 1024) (b : Byte) :
    SameBut [.outbound, .systemPort] s (s.joinOutbound b).1 := by
  have hset : SameBut [.outbound] s { s with link := { s.link with outbound := s.link.outbound ++ [b] } } :=
    .of_parts (by simp)
  rw [State.joinOutbound_room h]
  exact (hset.andThen (State.judgeCts_same _)).mono (by simp)

theorem State.joinOutbound_full_same {s : State} (h : 1024 ≤ s.link.outbound.length) (b : Byte) :
    SameBut [.stats] s (s.joinOutbound b).1 := by
  rw [State.joinOutbound_full h]
  exact .of_parts (by simp)

theorem State.joinOutbound_joined (s : State) (b : Byte) : ByteJoined s (s.joinOutbound b).1 b := by
  by_cases h : s.link.outbound.length < 1024
  · have hframe := (State.joinOutbound_room_same h b).mono (more := [.outbound, .stats, .systemPort]) (by simp)
    set u : State := { s with link := { s.link with outbound := s.link.outbound ++ [b] } } with hu
    rw [State.joinOutbound_room h] at hframe ⊢
    refine ⟨fun _ => ?_, fun hfull => absurd h (Nat.not_lt.2 hfull), fun hdata _ => ?_, u.judgeCts_sys, fun hdata => ?_,
      u.judgeCts_timers, by simp, hframe⟩
    · rw [u.judgeCts_link]
      exact ⟨rfl, rfl⟩
    · rw [State.judgeCts_cts (s := u) hdata]
      simp [hu]
    · rw [State.judgeCts_idle (s := u) hdata]
  · have hfull := Nat.not_lt.1 h
    have hframe := (State.joinOutbound_full_same hfull b).mono (more := [.outbound, .stats, .systemPort]) (by simp)
    rw [State.joinOutbound_full hfull] at hframe ⊢
    exact ⟨fun hroom => absurd hroom h, fun _ => ⟨rfl, rfl⟩, fun _ hroom => absurd hroom h, ⟨s.sys.cts, rfl⟩, fun _ => rfl, rfl,
      rfl, hframe⟩

/-! ### The escape (R129) -/

/-- R129: what a byte that moves the escape state leaves. -/
structure EscapeMoved (s t : State) (b : Byte) : Prop where
  sys : t.sys = { s.sys with escape := s.sys.escape.byte (decide (b.toNat = s.settings.escapeByte)) }
  link : t.link = s.link
  quiet : s.sys.escape = .quiet →
    t.timers.e5.Runs .spt s.settings.escapeGuardMs .portByte ∧ t.timers.e5.signalA = false
  moving : s.sys.escape ≠ .quiet → t.timers = s.timers
  others : ∀ n : Fin 8, n ≠ 5 → t.timers.get n = s.timers.get n
  frame : SameBut [.systemPort, .timer 5] s t

theorem State.escapeByte_moved (s : State) (b : Byte) : EscapeMoved s (s.escapeByte b) b := by
  set u : State := { s with sys := { s.sys with
    escape := s.sys.escape.byte (decide (b.toNat = s.settings.escapeByte)) } } with hu
  have hset : SameBut [.systemPort] s u := .of_parts (by simp [hu])
  by_cases hquiet : s.sys.escape = .quiet
  · have heq : s.escapeByte b = u.loadT5 := if_pos hquiet
    have hload : SameBut [.timer 5] u u.loadT5 := by
      unfold State.loadT5
      exact .of_parts (by simp)
    rw [heq]
    exact ⟨rfl, rfl, fun _ => ⟨u.loadT5_runs, rfl⟩, fun h => absurd hquiet h, fun n hn => Eight.get_e5 _ _ hn,
      (hset.andThen hload).mono (by simp)⟩
  · have heq : s.escapeByte b = u := if_neg hquiet
    rw [heq]
    exact ⟨rfl, rfl, fun h => absurd h hquiet, fun _ => rfl, fun _ _ => rfl, hset.mono (by simp)⟩

/-! ### The data state of a DATA call (R127, R129) -/

theorem ctsAfter_high {cts : Bool} {n : Nat} (h : 768 ≤ n) : ctsAfter cts n = false := if_pos h

theorem ctsAfter_low {cts : Bool} {n : Nat} (h : n ≤ 256) : ctsAfter cts n = true :=
  (if_neg (by simp only [Config.ctsHigh]; omega)).trans (if_pos h)

theorem State.portByte_data {s : State} (hjob : s.ccu.call.job = .data) (b : Byte) :
    s.portByte b = (s.joinOutbound b).1.escapeByte b := by
  unfold State.portByte
  rw [hjob]

/-- R127, R129: what a byte of the computer leaves in the data state of a DATA call. -/
structure DataByteTaken (s t : State) (b : Byte) : Prop where
  room : s.link.outbound.length < 1024 → t.link.outbound = s.link.outbound ++ [b] ∧ t.link.stats = s.link.stats
  full : 1024 ≤ s.link.outbound.length → t.link.outbound = s.link.outbound ∧
    t.link.stats = { s.link.stats with overruns := bump 255 s.link.stats.overruns }
  cts : s.link.outbound.length < 1024 → t.sys.cts = ctsAfter s.sys.cts (s.link.outbound.length + 1)
  sys : ∃ c n, t.sys = { s.sys with
    cts := c, notice := n, escape := s.sys.escape.byte (decide (b.toNat = s.settings.escapeByte)) }
  quiet : s.sys.escape = .quiet →
    t.timers.e5.Runs .spt s.settings.escapeGuardMs .portByte ∧ t.timers.e5.signalA = false
  moving : s.sys.escape ≠ .quiet → t.timers.e5 = s.timers.e5.byteRestart
  others : ∀ n : Fin 8, n ≠ 5 → (s.timers.get n).restart ≠ .portByte → t.timers.get n = s.timers.get n
  frame : SameBut ([.outbound, .stats, .systemPort] ++ allTimers) s t

theorem portByte_taken {c : Instr} {s₀ s : State} {b : Byte} (hexec : exec c s₀ = finish (s.byteRestarts.portByte b))
    (hdata : s.sys.data = true) (hjob : s.ccu.call.job = .data) : ∃ t, exec c s₀ = .next t ∧ DataByteTaken s t b := by
  rw [State.portByte_data (s := s.byteRestarts) hjob] at hexec
  have hj := s.byteRestarts.joinOutbound_joined b
  have hm := (s.byteRestarts.joinOutbound b).1.escapeByte_moved b
  obtain ⟨cts, hjsys⟩ := hj.sys
  have hsettings : (s.byteRestarts.joinOutbound b).1.settings = s.settings := by simp [State.byteRestarts]
  have hescape : (s.byteRestarts.joinOutbound b).1.sys.escape = s.sys.escape := by
    rw [hjsys]
    rfl
  have hsame := ((s.byteRestarts_same.andThen hj.frame).andThen hm.frame).finish
  have ht := ((s.byteRestarts.joinOutbound b).1.escapeByte b).deliverSystem_delivered
  obtain ⟨n, htsys⟩ := ((s.byteRestarts.joinOutbound b).1.escapeByte b).deliverSystem_sys
  refine ⟨_, hexec, ⟨fun h => ?_, fun h => ?_, fun h => ?_, ⟨cts, n, ?_⟩, fun h => ?_, fun h => ?_, fun k hk hother => ?_,
    hsame.mono (by simp [allTimers])⟩⟩
  · rw [ht.link, hm.link]
    exact hj.room h
  · rw [ht.link, hm.link]
    exact hj.full h
  · rw [htsys, hm.sys]
    exact hj.cts hdata h
  · rw [htsys, hm.sys, hescape, hsettings, hjsys]
    rfl
  · rw [ht.timers, ← hsettings]
    exact hm.quiet (hescape.trans h)
  · rw [ht.timers, hm.moving (by rwa [hescape]), hj.timers]
    rfl
  · rw [ht.timers, hm.others k hk, hj.timers, State.byteRestarts_kept hother]

theorem portDataByte_data {s : State} (hdata : s.sys.data = true) (hjob : s.ccu.call.job = .data)
    (hsignal : s.timers.e5.signalA = false) (b : Byte) :
    ∃ t, exec (.portDataByteReceived b) s = .next t ∧ DataByteTaken s t b := by
  have hfirst : s.expiryFirst = s := if_neg (by simp [hsignal])
  have hexec : exec (.portDataByteReceived b) s = finish (s.byteRestarts.portByte b) := by
    show finish (s.expiryFirst.byteReceived b) = _
    rw [hfirst]
    exact congrArg finish (if_pos hdata)
  exact portByte_taken hexec hdata hjob

/-! ### An expiry of T5 that waits for its row (R129) -/

/-- R129: the expiry is taken. -/
def State.expiryFound (s : State) : State :=
  { s with timers := { s.timers with e5 := { s.timers.e5 with signalA := false } },
           sys := { s.sys with expiryTaken := true } }

theorem State.expiryFound_same (s : State) : SameBut [.systemPort, .timer 5] s s.expiryFound :=
  .of_parts (by simp [State.expiryFound])

/-- R129: the port has left its data state, with the escape recognised. -/
def State.escaped (s : State) : State := { s.toCommand with sys := { s.toCommand.sys with lateByte := true } }

theorem State.escaped_same (s : State) : SameBut [.systemPort, .timer 5] s s.escaped := by
  unfold State.escaped State.toCommand State.stopT5
  exact .of_parts (by simp)

section
variable {s : State} (hdata : s.sys.data = true) (hjob : s.ccu.call.job = .data) (hsignal : s.timers.e5.signalA = true)
include hdata hjob hsignal

theorem exec_portDataByte_found (b : Byte) :
    exec (.portDataByteReceived b) s = finish (s.expiryFound.escapeExpiry.byteReceived b) := by
  have hfirst : s.expiryFirst = s.expiryFound.escapeExpiry := if_pos ⟨hsignal, hdata, hjob⟩
  show finish (s.expiryFirst.byteReceived b) = _
  rw [hfirst]

theorem portDataByte_quiet (hescape : s.sys.escape ≠ .three) (b : Byte) :
    ∃ t, exec (.portDataByteReceived b) s = .next t ∧
      DataByteTaken { s.expiryFound with sys := { s.expiryFound.sys with escape := .quiet } } t b := by
  have hexec := exec_portDataByte_found hdata hjob hsignal b
  have hexpiry : s.expiryFound.escapeExpiry = { s.expiryFound with sys := { s.expiryFound.sys with escape := .quiet } } := by
    unfold State.escapeExpiry
    split
    · contradiction
    · rfl
  rw [hexpiry] at hexec
  refine portByte_taken ?_ hdata hjob
  rw [hexec]
  exact congrArg finish (if_pos hdata)

theorem portDataByte_escapes (hescape : s.sys.escape = .three) (b : Byte) :
    exec (.portDataByteReceived b) s = finish (State.joinOutbound { s.expiryFound.escaped.byteRestarts with
      sys := { s.expiryFound.escaped.byteRestarts.sys with lateByte := false } } b).1 := by
  have hexpiry : s.expiryFound.escapeExpiry = s.expiryFound.escaped := by
    unfold State.escapeExpiry
    rw [show s.expiryFound.sys.escape = .three from hescape] <;> rfl
  rw [exec_portDataByte_found hdata hjob hsignal, hexpiry]
  exact congrArg finish ((if_neg Bool.false_ne_true).trans (if_pos rfl))

theorem portDataByte_found (b : Byte) :
    ∃ t, exec (.portDataByteReceived b) s = .next t ∧ t.sys.expiryTaken = true ∧
      (s.link.outbound.length < 1024 → t.link.outbound = s.link.outbound ++ [b] ∧ t.link.stats = s.link.stats) ∧
      (1024 ≤ s.link.outbound.length → t.link.outbound = s.link.outbound ∧
        t.link.stats = { s.link.stats with overruns := bump 255 s.link.stats.overruns }) ∧
      (s.sys.escape = .three → t.sys.data = false ∧ t.sys.cts = true ∧ t.sys.lateByte = false ∧
        t.timers.e5.mode = .off ∧ t.timers.e5.signalA = false) ∧
      (s.sys.escape ≠ .three → t.sys.data = true ∧
        t.sys.escape = EscapeState.byte .quiet (decide (b.toNat = s.settings.escapeByte)) ∧
        t.timers.e5.Runs .spt s.settings.escapeGuardMs .portByte ∧ t.timers.e5.signalA = false) ∧
      (∀ n : Fin 8, n ≠ 5 → (s.timers.get n).restart ≠ .portByte → t.timers.get n = s.timers.get n) ∧
      SameBut ([.outbound, .stats, .systemPort] ++ allTimers) s t := by
  by_cases hescape : s.sys.escape = .three
  · set v : State := { s.expiryFound.escaped.byteRestarts with
      sys := { s.expiryFound.escaped.byteRestarts.sys with lateByte := false } } with hv
    have hj := v.joinOutbound_joined b
    have hvsame : SameBut [.systemPort] s.expiryFound.escaped.byteRestarts v := .of_parts (by simp [hv])
    have hvsys := hj.idle (show v.sys.data = false from rfl)
    have hguard : v.timers.e5 = s.expiryFound.escaped.timers.e5 := Channel.byteRestart_off rfl
    obtain ⟨t, hnext, ht, ⟨n, htsys⟩, hframe⟩ := finish_port (portDataByte_escapes hdata hjob hsignal hescape b)
      ((((s.expiryFound_same.andThen (State.escaped_same _)).andThen (State.byteRestarts_same _)).andThen hvsame).andThen
        hj.frame)
    rw [hvsys] at htsys
    refine ⟨t, hnext, by rw [htsys]; rfl, fun h => by rw [ht.link]; exact hj.room h, fun h => by rw [ht.link]; exact hj.full h,
      fun _ => ⟨by rw [htsys]; rfl, by rw [htsys]; rfl, by rw [htsys], ?_, ?_⟩, fun h => absurd hescape h, fun k hk hother => ?_,
      hframe.mono (by simp [allTimers])⟩
    · rw [ht.timers, hj.timers, hguard]
      rfl
    · rw [ht.timers, hj.timers, hguard]
      rfl
    · have hkept : s.expiryFound.escaped.timers.get k = s.timers.get k :=
        (Eight.get_e5 _ _ hk).trans (Eight.get_e5 s.timers _ hk)
      rw [ht.timers, hj.timers, ← hkept]
      exact State.byteRestarts_kept (by rwa [hkept])
  · obtain ⟨t, hnext, ht⟩ := portDataByte_quiet hdata hjob hsignal hescape b
    have hset : SameBut [.systemPort] s.expiryFound
        { s.expiryFound with sys := { s.expiryFound.sys with escape := .quiet } } := .of_parts (by simp)
    obtain ⟨cts, n, htsys⟩ := ht.sys
    obtain ⟨hruns, hsignalled⟩ := ht.quiet rfl
    refine ⟨t, hnext, by rw [htsys]; rfl, ht.room, ht.full, fun h => absurd h hescape,
      fun _ => ⟨by rw [htsys]; exact hdata, by rw [htsys]; rfl, hruns, hsignalled⟩, fun k hk hother => ?_,
      ((s.expiryFound_same.andThen hset).andThen ht.frame).mono (by simp [allTimers])⟩
    have hkept : s.expiryFound.timers.get k = s.timers.get k := Eight.get_e5 s.timers _ hk
    rw [← hkept]
    exact ht.others k hk (by rw [← hkept] at hother; exact hother)

end

end Sys2Proof.Machine
end

section
/-! PROOFS. The bytes of a FAX call and of the command state, and the bytes sent to the computer (R128, R144, R146, R177,
R179). -/

namespace Sys2Proof.Machine

/-- R33, R179: what a return to the command state leaves. -/
theorem State.toCommand_leaves (s : State) :
    s.toCommand.sys.data = false ∧ s.toCommand.sys.cts = true ∧
      (∀ n : Fin 8, n ≠ 5 → s.toCommand.timers.get n = s.timers.get n) ∧ SameBut [.systemPort, .timer 5] s s.toCommand := by
  refine ⟨rfl, rfl, fun n hn => Eight.get_e5 _ _ hn, ?_⟩
  unfold State.toCommand State.stopT5
  exact .of_parts (by simp)

/-! ### The data state of a FAX call (R146) -/

section
variable {s : State} (hdata : s.sys.data = true) (hjob : s.ccu.call.job = .fax)
include hdata hjob

theorem exec_portDataByte_fax (b : Byte) :
    exec (.portDataByteReceived b) s =
      finish (if s.fax.role = some .sender then s.byteRestarts.faxPortByte b else s.byteRestarts) := by
  have hfirst : s.expiryFirst = s := if_neg (by simp [hjob])
  have hbyte : s.byteRestarts.portByte b =
      if s.fax.role = some .sender then s.byteRestarts.faxPortByte b else s.byteRestarts := by
    unfold State.portByte
    rw [show s.byteRestarts.ccu.call.job = .fax from hjob] <;> rfl
  show finish (s.expiryFirst.byteReceived b) = _
  rw [hfirst, ← hbyte]
  exact congrArg finish (if_pos hdata)

section
variable (hrole : s.fax.role = some .sender)
include hrole

/-- R146: a byte of the sender's page that the queue has room for. -/
theorem exec_portDataByte_joins (hroom : s.link.outbound.length < 1024) (b : Byte) :
    exec (.portDataByteReceived b) s = finish
      (if (pairOpen s.fax.inPair s.link.outbound && b == 0x0C#8) = true then
        State.toCommand { (s.byteRestarts.joinOutbound b).1 with
          fax := { (s.byteRestarts.joinOutbound b).1.fax with pageFromPort := true } }
       else (s.byteRestarts.joinOutbound b).1) := by
  rw [exec_portDataByte_fax hdata hjob, if_pos hrole, State.faxPortByte,
    State.joinOutbound_room (s := s.byteRestarts) hroom] <;> rfl

theorem portDataByte_page (hroom : s.link.outbound.length < 1024) {b : Byte}
    (hplain : b ≠ 0x0C#8 ∨ pairOpen s.fax.inPair s.link.outbound = false) :
    ∃ t, exec (.portDataByteReceived b) s = .next t ∧ t.link.outbound = s.link.outbound ++ [b] ∧ t.sys.data = true ∧
      t.sys.cts = (if 768 ≤ s.link.outbound.length + 1 then false
        else if s.link.outbound.length + 1 ≤ 256 then true else s.sys.cts) ∧
      (∀ n : Fin 8, (s.timers.get n).restart ≠ .portByte → t.timers.get n = s.timers.get n) ∧
      SameBut ([.outbound, .systemPort] ++ allTimers) s t := by
  have hexec := exec_portDataByte_joins hdata hjob hrole hroom b
  have hnot : ¬(pairOpen s.fax.inPair s.link.outbound && b == 0x0C#8) = true := by
    rcases hplain with h | h <;> simp [h]
  rw [if_neg hnot] at hexec
  have hj := s.byteRestarts.joinOutbound_joined b
  obtain ⟨hqueue, -⟩ := hj.room hroom
  obtain ⟨cts, hsys⟩ := hj.sys
  obtain ⟨t, hnext, ht, hframe⟩ := finish_does hexec
    (s.byteRestarts_same.andThen (State.joinOutbound_room_same (s := s.byteRestarts) hroom b))
  refine ⟨t, hnext, by rw [ht.link, hqueue]; rfl, by rw [ht.data, hsys]; exact hdata, by rw [ht.cts, hj.cts hdata hroom]; rfl,
    fun n hn => ?_, hframe.mono (by simp [allTimers])⟩
  rw [ht.timers, hj.timers, State.byteRestarts_kept hn]

theorem portDataByte_mark (hroom : s.link.outbound.length < 1024) (hopen : pairOpen s.fax.inPair s.link.outbound = true) :
    ∃ t, exec (.portDataByteReceived 0x0C#8) s = .next t ∧ t.link.outbound = s.link.outbound ++ [0x0C#8] ∧
      t.sys.data = false ∧ t.sys.cts = true ∧ t.fax = { s.fax with pageFromPort := true } ∧
      (∀ n : Fin 8, n ≠ 5 → (s.timers.get n).restart ≠ .portByte → t.timers.get n = s.timers.get n) ∧
      SameBut ([.outbound, .systemPort, .fax] ++ allTimers) s t := by
  have hexec := exec_portDataByte_joins hdata hjob hrole hroom 0x0C#8
  rw [if_pos (by simp [hopen])] at hexec
  have hj := s.byteRestarts.joinOutbound_joined 0x0C#8
  obtain ⟨hqueue, -⟩ := hj.room hroom
  obtain ⟨hdata', hcts, hothers, hcommand⟩ := State.toCommand_leaves { (s.byteRestarts.joinOutbound 0x0C#8).1 with
    fax := { (s.byteRestarts.joinOutbound 0x0C#8).1.fax with pageFromPort := true } }
  obtain ⟨t, hnext, ht, hframe⟩ := finish_does hexec
    (((s.byteRestarts_same.andThen (State.joinOutbound_room_same (s := s.byteRestarts) hroom _)).andThen
      (State.faxSet_same _ _)).andThen hcommand)
  refine ⟨t, hnext, ?_, by rw [ht.data, hdata'], by rw [ht.cts, hcts], ?_, fun n hn hother => ?_,
    hframe.mono (by simp [allTimers])⟩
  · rw [ht.link]
    exact hqueue
  · rw [ht.fax]
    show { (s.byteRestarts.joinOutbound 0x0C#8).1.fax with pageFromPort := true } = _
    rw [hj.fax]
    rfl
  · rw [ht.timers, hothers n hn]
    show (s.byteRestarts.joinOutbound 0x0C#8).1.timers.get n = _
    rw [hj.timers, State.byteRestarts_kept hother]

theorem portDataByte_overruns (hfull : 1024 ≤ s.link.outbound.length) (b : Byte) :
    ∃ t, exec (.portDataByteReceived b) s = .next t ∧ t.sys.data = true ∧
      t.link.stats = { s.link.stats with overruns := bump 255 s.link.stats.overruns } ∧
      SameBut (.stats :: allTimers) s t := by
  have hexec : exec (.portDataByteReceived b) s = finish (s.byteRestarts.joinOutbound b).1 := by
    rw [exec_portDataByte_fax hdata hjob, if_pos hrole, State.faxPortByte,
      State.joinOutbound_full (s := s.byteRestarts) hfull]
  have hj := s.byteRestarts.joinOutbound_joined b
  obtain ⟨-, hstats⟩ := hj.full hfull
  obtain ⟨cts, hsys⟩ := hj.sys
  obtain ⟨t, hnext, ht, hframe⟩ := finish_does hexec
    (s.byteRestarts_same.andThen (State.joinOutbound_full_same (s := s.byteRestarts) hfull b))
  exact ⟨t, hnext, by rw [ht.data, hsys]; exact hdata, by rw [ht.link, hstats]; rfl, hframe.mono (by simp [allTimers])⟩

end

theorem portDataByte_discarded (hrole : s.fax.role = some .receiver) (b : Byte) :
    ∃ t, exec (.portDataByteReceived b) s = .next t ∧ SameBut allTimers s t := by
  have hexec := exec_portDataByte_fax hdata hjob b
  rw [if_neg (by simp [hrole])] at hexec
  exact ⟨_, hexec, s.byteRestarts_same.finish⟩

end

/-! ### The command state (R177, R179) -/

section
variable {s : State} (hdata : s.sys.data = false) (b : Byte)
include hdata

theorem exec_portDataByte_command : exec (.portDataByteReceived b) s = finish (s.byteRestarts.commandByte b) := by
  have hfirst : s.expiryFirst = s := if_neg (by simp [hdata])
  show finish (s.expiryFirst.byteReceived b) = _
  rw [hfirst]
  exact congrArg finish (if_neg (by simp [hdata]))

/-- R129: a byte of the same instant as the escape. -/
theorem portDataByte_late (hlate : s.sys.lateByte = true) :
    ∃ t, exec (.portDataByteReceived b) s = .next t ∧
      (∀ n : Fin 8, (s.timers.get n).restart ≠ .portByte → t.timers.get n = s.timers.get n) ∧
      t.sys.lateByte = false ∧ t.sys.assembler = s.sys.assembler ∧
      (s.link.outbound.length < 1024 → t.link.outbound = s.link.outbound ++ [b] ∧ t.link.stats = s.link.stats) ∧
      (1024 ≤ s.link.outbound.length → t.link.outbound = s.link.outbound ∧
        t.link.stats = { s.link.stats with overruns := bump 255 s.link.stats.overruns }) ∧
      SameBut ([.outbound, .stats, .systemPort] ++ allTimers) s t := by
  set v : State := { s.byteRestarts with sys := { s.byteRestarts.sys with lateByte := false } } with hv
  have hcommand : s.byteRestarts.commandByte b = (v.joinOutbound b).1 := if_pos hlate
  have hexec := exec_portDataByte_command hdata b
  rw [hcommand] at hexec
  have hvsame : SameBut [.systemPort] s.byteRestarts v := .of_parts (by simp [hv])
  have hj := v.joinOutbound_joined b
  obtain ⟨t, hnext, ht, ⟨n, htsys⟩, hframe⟩ := finish_port hexec ((s.byteRestarts_same.andThen hvsame).andThen hj.frame)
  rw [hj.idle hdata] at htsys
  refine ⟨t, hnext, fun n hn => ?_, by rw [htsys], by rw [htsys]; rfl, fun h => by rw [ht.link]; exact hj.room h,
    fun h => by rw [ht.link]; exact hj.full h, hframe.mono (by simp [allTimers])⟩
  rw [ht.timers, hj.timers]
  exact State.byteRestarts_kept hn

/-- R179: a byte that no assembler takes. -/
theorem portDataByte_dropped (hlate : s.sys.lateByte = false) (hdrops : s.sys.entryDue = true ∨ s.sys.ready = false) :
    exec (.portDataByteReceived b) s = finish s.byteRestarts := by
  rw [exec_portDataByte_command hdata]
  exact congrArg finish ((if_neg (by simp [State.byteRestarts, hlate])).trans (if_pos hdrops))

/-- R177: a byte that the assembler takes. -/
theorem portDataByte_assembled (hlate : s.sys.lateByte = false) (hdue : s.sys.entryDue = false) (hready : s.sys.ready = true) :
    exec (.portDataByteReceived b) s = finish { s.byteRestarts with
      sys := { s.byteRestarts.sys with assembler := assembleByte s.sys.assembler b } } := by
  rw [exec_portDataByte_command hdata]
  exact congrArg finish ((if_neg (by simp [State.byteRestarts, hlate])).trans
    (if_neg (by simp [State.byteRestarts, hdue, hready])))

end

theorem assembleByte_skips {b : Byte} (h : b ≠ 0xC3#8) : assembleByte [] b = [] := if_pos ⟨rfl, h⟩

theorem assembleByte_leads : assembleByte [] 0xC3#8 = [0xC3#8] := by decide

theorem assembleByte_goesOn {a : List Byte} (h : a ≠ []) (b : Byte) :
    assembleByte a b = if (systemFrame (a ++ [b])).isSome = true then [] else a ++ [b] := if_neg (by simp [h])

theorem portDataByte_command (b : Byte) {s : State} (hdata : s.sys.data = false) :
    ∃ t, exec (.portDataByteReceived b) s = .next t ∧
      (∀ n : Fin 8, (s.timers.get n).restart ≠ .portByte → t.timers.get n = s.timers.get n) ∧
      (s.sys.lateByte = true → t.sys.lateByte = false ∧ t.sys.assembler = s.sys.assembler ∧
        (s.link.outbound.length < 1024 → t.link.outbound = s.link.outbound ++ [b] ∧ t.link.stats = s.link.stats) ∧
        (1024 ≤ s.link.outbound.length → t.link.outbound = s.link.outbound ∧
          t.link.stats = { s.link.stats with overruns := bump 255 s.link.stats.overruns }) ∧
        SameBut ([.outbound, .stats, .systemPort] ++ allTimers) s t) ∧
      (s.sys.lateByte = false → s.sys.entryDue = true ∨ s.sys.ready = false → SameBut allTimers s t) ∧
      (s.sys.lateByte = false → s.sys.entryDue = false → s.sys.ready = true →
        (s.sys.assembler = [] → b ≠ 0xC3#8 → t.sys.assembler = []) ∧
        (s.sys.assembler = [] → b = 0xC3#8 → t.sys.assembler = [0xC3#8]) ∧
        (s.sys.assembler ≠ [] → t.sys.assembler =
          if (systemFrame (s.sys.assembler ++ [b])).isSome = true then [] else s.sys.assembler ++ [b]) ∧
        SameBut (.systemPort :: allTimers) s t) := by
  by_cases hlate : s.sys.lateByte = true
  · obtain ⟨t, hnext, htimers, hrest⟩ := portDataByte_late hdata b hlate
    exact ⟨t, hnext, htimers, fun _ => hrest, fun h => absurd hlate (by simp [h]), fun h => absurd hlate (by simp [h])⟩
  · have hlate' := Bool.eq_false_iff.2 hlate
    by_cases hdrops : s.sys.entryDue = true ∨ s.sys.ready = false
    · obtain ⟨t, hnext, ht, hframe⟩ := finish_does (portDataByte_dropped hdata b hlate' hdrops) s.byteRestarts_same
      refine ⟨t, hnext, fun n hn => ?_, fun h => absurd h hlate, fun _ _ => hframe, fun _ hdue hready => ?_⟩
      · rw [ht.timers, State.byteRestarts_kept hn]
      · simp [hdue, hready] at hdrops
    · obtain ⟨hdue, hready⟩ := not_or.1 hdrops
      have hset : SameBut [.systemPort] s.byteRestarts { s.byteRestarts with
        sys := { s.byteRestarts.sys with assembler := assembleByte s.sys.assembler b } } := .of_parts (by simp)
      obtain ⟨t, hnext, ht, ⟨m, htsys⟩, hframe⟩ := finish_port
        (portDataByte_assembled hdata b hlate' (Bool.eq_false_iff.2 hdue) (by simpa using hready))
        (s.byteRestarts_same.andThen hset)
      refine ⟨t, hnext, fun n hn => ?_, fun h => absurd h hlate, fun _ h => absurd h hdrops, fun _ _ _ => ⟨?_, ?_, ?_, ?_⟩⟩
      · rw [ht.timers]
        exact State.byteRestarts_kept hn
      · intro hempty hb
        rw [htsys, hempty, assembleByte_skips hb]
      · intro hempty hb
        rw [htsys, hempty, hb, assembleByte_leads]
      · intro hsome
        rw [htsys, assembleByte_goesOn hsome]
      · exact hframe.mono (by simp [allTimers])

/-! ### The bytes sent to the computer (R128, R144) -/

/-- R122, R128: the queue after a byte has left, and own busy with it. -/
def State.byteLeft (s : State) : State :=
  { s with link := Link.judgeBusy { s.link with inbound := s.link.inbound.drop 1 },
           sys := { s.sys with lastByte := false } }

/-- R122: own busy, judged from ON. -/
theorem Link.judgeBusy_ends {l : Link} (hmode : l.mode ≠ .off) (hbusy : l.ownBusy = true) :
    l.judgeBusy = if 512 ≤ l.inboundFree then { l with ownBusy := false, busyAckOwed := true } else l := by
  rw [Link.judgeBusy, if_pos hmode, if_neg (by simp [hbusy])]
  by_cases hfree : 512 ≤ l.inboundFree
  · rw [if_pos ⟨hfree, hbusy⟩, if_pos hfree]
  · rw [if_neg (fun h => hfree h.1), if_neg hfree]

theorem State.markLeaves_eq (s : State) :
    s.markLeaves = match s.fax.markInQueue with
      | none => s
      | some n =>
        if n ≤ 1 then State.toCommand { s with fax.markInQueue := none }
        else { s with fax.markInQueue := some (n - 1) } := rfl

theorem State.byteLeft_same (s : State) : SameBut [.inbound, .link, .systemPort] s s.byteLeft := by
  obtain ⟨-, houtbound, hstats, -⟩ := Link.judgeBusy_keeps { s.link with inbound := s.link.inbound.tail }
  unfold State.byteLeft
  exact .of_parts (by simp [houtbound, hstats])

section
variable {b : Byte} {rest : List Byte} {s : State} (hdata : s.sys.data = true)
  (hsend : s.sys.rts = true ∨ s.sys.lastByte = true) (hqueue : s.link.inbound = b :: rest)
include hqueue

theorem State.byteLeft_link :
    s.byteLeft.link = Link.judgeBusy { s.link with inbound := rest } ∧ s.byteLeft.link.inbound = rest := by
  have hlink : s.byteLeft.link = Link.judgeBusy { s.link with inbound := rest } := by
    rw [State.byteLeft, hqueue]
    rfl
  refine ⟨hlink, ?_⟩
  rw [hlink]
  exact (Link.judgeBusy_keeps _).1

include hdata hsend

theorem exec_inboundByteSent : exec .inboundByteSent s = finish s.byteLeft.markLeaves := by
  have hcan : s.sys.canSend = true := by
    rcases hsend with h | h <;> simp [SystemPort.canSend, h]
  exact congrArg finish (if_pos ⟨hdata, hcan, by simp [hqueue]⟩)

theorem inboundByteSent_plain (hmark : s.fax.markInQueue = none) :
    ∃ t, exec .inboundByteSent s = .next t ∧ t.link.inbound = rest ∧ t.sys.data = true ∧
      (s.link.mode ≠ .off → s.link.ownBusy = true → rest.length ≤ 512 →
        t.link.ownBusy = false ∧ t.link.busyAckOwed = true) ∧
      (s.link.mode ≠ .off → s.link.ownBusy = true → 512 < rest.length → t.link.ownBusy = true) ∧
      SameBut [.inbound, .link, .systemPort] s t := by
  have hexec := exec_inboundByteSent hdata hsend hqueue
  have hleaves : s.byteLeft.markLeaves = s.byteLeft := by
    rw [State.markLeaves_eq, show s.byteLeft.fax.markInQueue = none from hmark]
  rw [hleaves] at hexec
  obtain ⟨hlink, hinbound⟩ := State.byteLeft_link hqueue
  obtain ⟨t, hnext, ht, hframe⟩ := finish_does hexec (s.byteLeft_same)
  have hfree : ({ s.link with inbound := rest } : Link).inboundFree = 1024 - rest.length := rfl
  refine ⟨t, hnext, by rw [ht.link, hinbound], by rw [ht.data]; exact hdata, fun hmode hbusy hlow => ?_,
    fun hmode hbusy hhigh => ?_, hframe⟩
  · rw [ht.link, hlink, Link.judgeBusy_ends (l := { s.link with inbound := rest }) hmode hbusy, if_pos (by omega)]
    exact ⟨rfl, rfl⟩
  · rw [ht.link, hlink, Link.judgeBusy_ends (l := { s.link with inbound := rest }) hmode hbusy, if_neg (by omega)]
    exact hbusy

theorem inboundByteSent_counts {n : Nat} (hmark : s.fax.markInQueue = some (n + 2)) :
    ∃ t, exec .inboundByteSent s = .next t ∧ t.link.inbound = rest ∧ t.sys.data = true ∧
      t.fax = { s.fax with markInQueue := some (n + 1) } ∧ SameBut [.inbound, .link, .systemPort, .fax] s t := by
  have hexec := exec_inboundByteSent hdata hsend hqueue
  have hleaves : s.byteLeft.markLeaves = { s.byteLeft with fax := { s.fax with markInQueue := some (n + 1) } } := by
    rw [State.markLeaves_eq, show s.byteLeft.fax.markInQueue = some (n + 2) from hmark]
    exact if_neg (by omega)
  rw [hleaves] at hexec
  obtain ⟨-, hinbound⟩ := State.byteLeft_link hqueue
  obtain ⟨t, hnext, ht, hframe⟩ := finish_does hexec ((s.byteLeft_same).andThen (State.faxSet_same _ _))
  exact ⟨t, hnext, by rw [ht.link, ← hinbound], by rw [ht.data]; exact hdata, ht.fax, hframe.mono (by simp)⟩

theorem inboundByteSent_mark (hmark : s.fax.markInQueue = some 1) :
    ∃ t, exec .inboundByteSent s = .next t ∧ t.link.inbound = rest ∧ t.sys.data = false ∧ t.sys.cts = true ∧
      t.fax.markInQueue = none ∧ SameBut [.inbound, .link, .systemPort, .timer 5, .fax] s t := by
  have hexec := exec_inboundByteSent hdata hsend hqueue
  have hleaves : s.byteLeft.markLeaves =
      State.toCommand { s.byteLeft with fax := { s.byteLeft.fax with markInQueue := none } } := by
    rw [State.markLeaves_eq, show s.byteLeft.fax.markInQueue = some 1 from hmark]
    exact if_pos (Nat.le_refl 1)
  rw [hleaves] at hexec
  obtain ⟨-, hinbound⟩ := State.byteLeft_link hqueue
  obtain ⟨hoff, hcts, -, hcommand⟩ := State.toCommand_leaves
    { s.byteLeft with fax := { s.byteLeft.fax with markInQueue := none } }
  obtain ⟨t, hnext, ht, hframe⟩ := finish_does hexec
    (((s.byteLeft_same).andThen (State.faxSet_same _ _)).andThen hcommand)
  exact ⟨t, hnext, by rw [ht.link, ← hinbound]; rfl, by rw [ht.data, hoff], by rw [ht.cts, hcts], by rw [ht.fax]; rfl,
    hframe.mono (by simp)⟩

end

/-- Settles O28: a byte of the computer in the data state of a DATA call, without and with an expiry of T5 that waits, in that
of a FAX call, and in the command state; and a byte sent to it. -/
theorem dataStateBytes : Obligations.DataStateBytes := by
  refine ⟨fun b s hdata hjob hsignal => ?_, fun b s hdata hjob hsignal => portDataByte_found hdata hjob hsignal b,
    fun b s hdata hjob => ⟨fun hrole hroom => portDataByte_page hdata hjob hrole hroom, fun hrole => portDataByte_mark hdata hjob hrole,
      fun hrole hfull => portDataByte_overruns hdata hjob hrole hfull b, fun hrole => portDataByte_discarded hdata hjob hrole b⟩,
    fun b s hdata => portDataByte_command b hdata, fun b rest s hdata hsend hqueue => inboundByteSent_plain hdata hsend hqueue,
    fun b rest n s hdata hsend hqueue => inboundByteSent_counts hdata hsend hqueue,
    fun b rest s hdata hsend hqueue => inboundByteSent_mark hdata hsend hqueue⟩
  obtain ⟨t, hnext, ht⟩ := portDataByte_data hdata hjob hsignal b
  obtain ⟨cts, n, hsys⟩ := ht.sys
  refine ⟨t, hnext, fun hroom => ?_, ht.full, by rw [hsys], fun hquiet => (ht.quiet hquiet).1, fun hquiet hrestart hmode => ?_,
    ht.others, ht.frame⟩
  · obtain ⟨hqueue, hstats⟩ := ht.room hroom
    refine ⟨hqueue, hstats, fun hhigh => ?_, fun hlow => ?_⟩
    · rw [ht.cts hroom, ctsAfter_high hhigh]
    · rw [ht.cts hroom, ctsAfter_low hlow]
  · rw [ht.moving hquiet, Channel.byteRestart_oneShot hrestart hmode]

end Sys2Proof.Machine
end

section
/-! PROOFS. READY, RTS and the escape (R12, R16, R129, R176). -/

namespace Sys2Proof.Machine

/-! ### READY (R16, R176) -/

/-- R16, R176: READY deasserted, before the call: what the System Port owed is discarded, and its queued dial withdrawn. -/
def State.readyLost (s : State) : State :=
  State.withdraw { s with
    sys := { s.sys with ready := false, goDataDue := false, assembler := [],
                        lastByte := if s.sys.data = true then s.sys.lastByte else false },
    ports.system.outgoing := [] } .system

theorem exec_readyDeasserted (s : State) :
    exec .readyDeasserted s = finish (if s.holder = some .system then s.readyLost.hangUpHeld else s.readyLost) := rfl

theorem State.readyLost_same (s : State) : SameBut [.claims, .outgoing .system, .systemPort] s s.readyLost := by
  unfold State.readyLost State.withdraw
  exact .of_parts (by simp)

theorem readyDeasserted_discards {s : State} (hholder : s.holder ≠ some .system) :
    ∃ t, exec .readyDeasserted s = .next t ∧ t.sys.ready = false ∧ t.sys.goDataDue = false ∧ t.sys.assembler = [] ∧
      t.ports.system.outgoing = [] ∧ t.ccu.claims = s.ccu.claims.filter (fun c => c.master ≠ .system) ∧
      SameBut [.claims, .outgoing .system, .systemPort] s t := by
  have hexec := exec_readyDeasserted s
  rw [if_neg hholder] at hexec
  obtain ⟨t, hnext, ht, ⟨n, htsys⟩, hframe⟩ := finish_port hexec s.readyLost_same
  refine ⟨t, hnext, by rw [htsys]; rfl, by rw [htsys]; rfl, by rw [htsys]; rfl, ?_, by rw [ht.ccu]; rfl, hframe⟩
  obtain rfl : s.readyLost.deliverSystem = t := Host.Outcome.next.inj (hexec.symm.trans hnext)
  have hout : s.readyLost.deliverSystem.ports.system.outgoing = s.readyLost.ports.system.outgoing := by simp
  exact hout

section
variable {s : State} (hholder : s.holder = some .system) (hending : s.ccu.ending = none)
include hholder hending

theorem readyDeasserted_ends (hlinked : s.link.mode ≠ .linked) (hclearing : s.link.mode ≠ .clearing) :
    ∃ t, exec .readyDeasserted s = .next t ∧ CallEnded [.claims, .outgoing .system] s t .normal ∧
      t.sys.ready = false ∧ t.ports.system.outgoing = [] ∧
      t.ccu.claims = s.ccu.claims.filter (fun c => c.master ≠ .system) := by
  have hexec := exec_readyDeasserted s
  rw [if_pos hholder, State.hangUpHeld_ends (s := s.readyLost) hending hlinked hclearing] at hexec
  have hactive : s.ccu.call.active = true := (State.holder_some.1 hholder).1
  have hends := (State.callEnd_normal (s := s.readyLost) hactive (.inl hending)).finish
  have hready : (s.readyLost.callEnd .normal).deliverSystem.sys.ready = s.readyLost.sys.ready := by simp
  have hout : (s.readyLost.callEnd .normal).deliverSystem.ports.system.outgoing = s.readyLost.ports.system.outgoing := by simp
  have hclaims : (s.readyLost.callEnd .normal).deliverSystem.ccu.claims = s.readyLost.ccu.claims := by simp
  exact ⟨_, hexec, hends.of_before (s.readyLost_same.mono (by simp [endParts])) rfl rfl rfl rfl rfl (fun _ => rfl) (.inr rfl),
    hready, hout, hclaims⟩

theorem readyDeasserted_clears (hlinked : s.link.mode = .linked) :
    ∃ t, exec .readyDeasserted s = .next t ∧ t.ccu.ending = some .normal ∧ t.link.mode = .clearing ∧
      t.link.clearOwed = true ∧ t.ccu.call = s.ccu.call ∧ t.sys.ready = false := by
  have hexec := exec_readyDeasserted s
  rw [if_pos hholder, State.hangUpHeld_linked (s := s.readyLost) hending hlinked] at hexec
  obtain ⟨hfixed, hlink, -, -⟩ := s.readyLost.clears_link
  have hcall : s.readyLost.clears.ccu.call = s.ccu.call := s.readyLost.clears_same .call (by simp) (by simp)
  have hready : s.readyLost.clears.sys.ready = false := by simp [State.clears, State.startClearing, State.readyLost, State.withdraw]
  refine ⟨_, hexec, by simpa using hfixed, ?_, ?_, ?_, by simpa using hready⟩
  · simp [hlink, Link.beginClearing]
  · simp [hlink, Link.beginClearing]
  · simpa using hcall

end

theorem readyAsserted_notes (s : State) :
    ∃ t, exec .readyAsserted s = .next t ∧ t.sys.ready = true ∧ SameBut [.systemPort] s t := by
  have hsame : SameBut [.systemPort] s { s with sys := { s.sys with ready := true } } := .of_parts (by simp)
  obtain ⟨t, hnext, -, ⟨n, htsys⟩, hframe⟩ := finish_port (c := .readyAsserted) rfl hsame
  exact ⟨t, hnext, by rw [htsys], hframe⟩

/-! ### RTS (R176) -/

theorem rtsDeasserted_notes {s : State} (hrts : s.sys.rts = true) :
    ∃ t, exec .rtsDeasserted s = .next t ∧ t.sys.rts = false ∧
      (s.sys.data = true → (t.sys.lastByte = true ↔ s.link.inbound ≠ [])) ∧ SameBut [.systemPort] s t := by
  have hexec : exec .rtsDeasserted s = finish { s with sys := { s.sys with rts := false, lastByte := s.sending } } :=
    congrArg finish (if_pos hrts)
  have hsame : SameBut [.systemPort] s { s with sys := { s.sys with rts := false, lastByte := s.sending } } :=
    .of_parts (by simp)
  obtain ⟨t, hnext, -, ⟨n, htsys⟩, hframe⟩ := finish_port hexec hsame
  refine ⟨t, hnext, by rw [htsys], fun hdata => ?_, hframe⟩
  have hlast : t.sys.lastByte = s.sending := by rw [htsys]
  rw [hlast, State.sending, if_pos hdata]
  simp

theorem rtsAsserted_notes (s : State) :
    ∃ t, exec .rtsAsserted s = .next t ∧ t.sys.rts = true ∧ t.sys.lastByte = false ∧ SameBut [.systemPort] s t := by
  have hsame : SameBut [.systemPort] s { s with sys := { s.sys with rts := true, lastByte := false } } := .of_parts (by simp)
  obtain ⟨t, hnext, -, ⟨n, htsys⟩, hframe⟩ := finish_port (c := .rtsAsserted) rfl hsame
  exact ⟨t, hnext, by rw [htsys], by rw [htsys], hframe⟩

/-! ### The expiry of T5 (R129) -/

theorem escapeGuardExpiry_taken {s : State} (htaken : s.sys.expiryTaken = true) :
    ∃ t, exec .escapeGuardExpiry s = .next t ∧ (∃ n, t.sys = { s.sys with expiryTaken := false, notice := n }) ∧
      SameBut [.systemPort] s t := by
  have hexec : exec .escapeGuardExpiry s = finish { s with sys := { s.sys with expiryTaken := false } } :=
    congrArg finish (if_pos htaken)
  have hsame : SameBut [.systemPort] s { s with sys := { s.sys with expiryTaken := false } } := .of_parts (by simp)
  obtain ⟨t, hnext, -, ⟨n, htsys⟩, hframe⟩ := finish_port hexec hsame
  exact ⟨t, hnext, ⟨n, by rw [htsys]⟩, hframe⟩

theorem State.takenT5_same (s : State) (c : Channel) : SameBut [.timer 5] s { s with timers.e5 := c } := .of_parts (by simp)

section
variable {s : State} (hdue : s.timers.e5.Due) (htaken : s.sys.expiryTaken = false) (hdata : s.sys.data = true)
  (hjob : s.ccu.call.job = .data)
include hdue htaken hdata hjob

theorem exec_escapeGuardExpiry : ∃ c, exec .escapeGuardExpiry s = finish (State.escapeExpiry { s with timers.e5 := c }) := by
  obtain ⟨c, hc⟩ := Channel.takeA_of_due hdue 5
  refine ⟨c, ?_⟩
  show execEscapeGuardExpiry s = _
  rw [execEscapeGuardExpiry, if_neg (by simp [htaken]), hc]
  exact congrArg finish (if_pos ⟨hdata, hjob⟩)

theorem escapeGuardExpiry_escapes (hescape : s.sys.escape = .three) :
    ∃ t, exec .escapeGuardExpiry s = .next t ∧ t.sys.data = false ∧ t.sys.cts = true ∧ t.timers.e5.mode = .off ∧
      t.sys.lateByte = true ∧ t.sys.assembler = [] ∧ t.link.mode = s.link.mode ∧ SameBut [.systemPort, .timer 5] s t := by
  obtain ⟨c, hexec⟩ := exec_escapeGuardExpiry hdue htaken hdata hjob
  have hexpiry : State.escapeExpiry { s with timers.e5 := c } = State.escaped { s with timers.e5 := c } := by
    unfold State.escapeExpiry
    rw [hescape] <;> rfl
  rw [hexpiry] at hexec
  obtain ⟨t, hnext, ht, ⟨n, htsys⟩, hframe⟩ := finish_port hexec ((s.takenT5_same c).andThen (State.escaped_same _))
  refine ⟨t, hnext, by rw [htsys]; rfl, by rw [htsys]; rfl, by rw [ht.timers]; rfl, by rw [htsys]; rfl, ?_, by rw [ht.link]; rfl,
    hframe.mono (by simp)⟩
  rw [htsys]
  exact if_pos hdata

theorem escapeGuardExpiry_quiet (hescape : s.sys.escape ≠ .three) :
    ∃ t, exec .escapeGuardExpiry s = .next t ∧ t.sys.data = true ∧ t.sys.escape = .quiet ∧
      SameBut [.systemPort, .timer 5] s t := by
  obtain ⟨c, hexec⟩ := exec_escapeGuardExpiry hdue htaken hdata hjob
  have hexpiry : State.escapeExpiry { s with timers.e5 := c } =
      { s with timers.e5 := c, sys := { s.sys with escape := .quiet } } := by
    unfold State.escapeExpiry
    split
    · contradiction
    · rfl
  rw [hexpiry] at hexec
  have hsame : SameBut [.systemPort, .timer 5] s { s with timers.e5 := c, sys := { s.sys with escape := .quiet } } :=
    .of_parts (by simp)
  obtain ⟨t, hnext, -, ⟨n, htsys⟩, hframe⟩ := finish_port hexec hsame
  exact ⟨t, hnext, by rw [htsys]; exact hdata, by rw [htsys], hframe⟩

end

/-- Settles O29: READY and RTS, an expiry that a byte has found, and the expiry by the escape state. -/
theorem systemPortLines : Obligations.SystemPortLines :=
  ⟨fun s => ⟨readyDeasserted_discards, readyDeasserted_ends, readyDeasserted_clears, readyAsserted_notes s,
      rtsDeasserted_notes, rtsAsserted_notes s⟩,
    fun _ => escapeGuardExpiry_taken,
    fun _ hdue htaken hdata hjob => ⟨escapeGuardExpiry_escapes hdue htaken hdata hjob,
      escapeGuardExpiry_quiet hdue htaken hdata hjob⟩⟩

end Sys2Proof.Machine
end

section
/-! PROOFS. A voice operation, ended after the end of a call (R18, R156, R158). -/

namespace Sys2Proof.Machine

/-! ### The granules of the entries (R164 to R167) -/

/-- R164: the entries of `u` are entries of `t`, with no further granules. -/
def Store.Within (t u : Store) : Prop :=
  ∀ id e', u.find id = some e' → ∃ e, t.find id = some e ∧ e'.granules ⊆ e.granules

theorem Store.Within.of_dir {t u : Store} (h : u.dir = t.dir) : t.Within u := by
  intro id e' he'
  rw [Store.find, h] at he'
  exact ⟨e', he', List.Subset.refl _⟩

theorem Store.Within.trans {t u v : Store} (h : t.Within u) (h' : u.Within v) : t.Within v := by
  intro id e'' he''
  obtain ⟨e', he', hsub'⟩ := h' id e'' he''
  obtain ⟨e, he, hsub⟩ := h id e' he'
  exact ⟨e, he, List.Subset.trans hsub' hsub⟩

theorem State.updEntry_within (s : State) (id : Nat) {g : Entry → Entry} (hid : ∀ e, (g e).id = e.id)
    (hg : ∀ e, (g e).granules ⊆ e.granules) : s.store.Within (s.updEntry id g).store := by
  intro k e' he'
  by_cases hk : k = id
  · subst hk
    rw [State.updEntry_find s k hid] at he'
    obtain ⟨e, he, rfl⟩ := Option.map_eq_some_iff.1 he'
    exact ⟨e, he, hg e⟩
  · rw [State.updEntry_find_ne s hk hid] at he'
    exact ⟨e', he', List.Subset.refl _⟩

theorem State.removeEntry_within (s : State) (id : Nat) : s.store.Within (s.removeEntry id).store := by
  unfold State.removeEntry
  split
  · exact .of_dir rfl
  · intro k e' he'
    rw [Store.find, State.freeChain_dir] at he'
    have hk : e'.id = k := by simpa using List.find?_some he'
    have hne : e'.id ≠ id := by simpa using (List.mem_filter.1 (List.mem_of_find?_eq_some he')).2
    refine ⟨e', ?_, List.Subset.refl _⟩
    rw [← he', Store.find, List.find?_filter]
    congr 1
    funext x
    by_cases hx : x.id = k
    · simp [hx, ← hk, hne]
    · simp [hx]

theorem State.trim_within (s : State) (id len : Nat) : s.store.Within (s.trim id len).store := by
  unfold State.trim
  split
  · exact .of_dir rfl
  · exact (s.updEntry_within id (fun _ => by rfl) (fun e => List.take_subset _ _)).trans (.of_dir (State.freeChain_dir _ _))

theorem State.release_within (s : State) (id : Nat) : s.store.Within (s.release id).store := by
  unfold State.release
  split
  · exact .of_dir rfl
  · split
    · exact s.removeEntry_within id
    · exact s.updEntry_within id (fun _ => by rfl) (fun _ => List.Subset.refl _)

theorem State.deleteRule_within (s : State) (id : Nat) : s.store.Within (s.deleteRule id).1.store := by
  unfold State.deleteRule
  split
  · exact .of_dir rfl
  · split
    · exact .of_dir rfl
    · exact .of_dir rfl
    · split
      · exact s.removeEntry_within id
      · exact s.updEntry_within id (fun _ => by rfl) (fun _ => List.Subset.refl _)

theorem State.replaceGreeting_within (s : State) (e : Entry) : s.store.Within (s.replaceGreeting e).store := by
  unfold State.replaceGreeting
  split
  · split
    · exact s.deleteRule_within _
    · exact .of_dir rfl
  · exact .of_dir rfl

theorem State.complete_within (s : State) (id : Nat) (isNew : Bool) : s.store.Within (s.complete id isNew).store := by
  unfold State.complete
  split
  · exact .of_dir rfl
  · next e _ =>
    exact (s.replaceGreeting_within e).trans
      (State.updEntry_within _ id (fun _ => by rfl) (fun _ => List.Subset.refl _))

/-- R143, R147: the close of a fax session. -/
theorem State.closeFax_within (s : State) : s.store.Within s.closeFax.store := by
  have hpage (id : Nat) : s.store.Within (match s.fax.pageStart with
      | some o => if s.pageEntered id o = true then s else s.trim id o
      | none => s).store := by
    split
    · split
      · exact .of_dir rfl
      · exact s.trim_within id _
    · exact .of_dir rfl
  unfold State.closeFax
  dsimp only
  split
  · exact s.release_within _
  · split
    · split
      · exact (hpage _).trans (State.removeEntry_within _ _)
      · exact (hpage _).trans (State.complete_within _ _ true)
    · exact hpage _
  · exact .of_dir rfl

/-! ### The operation as a call ends (R18) -/

theorem State.endVoice_off {s : State} {r : VoiceReason} :
    (s.endVoice r).1.dropAuto.voice.op.operation = none := by
  unfold State.dropAuto
  split <;> exact State.endVoice_operation _ _

/-- R156: only the end of a recording writes. -/
theorem State.endVoice_mem {s : State} (h : s.voice.op.operation ≠ some .record) (r : VoiceReason) :
    (s.endVoice r).1.store.mem = s.store.mem := by
  unfold State.endVoice
  dsimp only
  split
  · rfl
  · contradiction
  · split <;> simp
  · rfl

/-- R18: what the end of the engines leaves of the store's bytes and of the operation, seen from the state with its operation
ended where the call takes it. -/
theorem State.callEnd_voice {s v : State} (hactive : s.ccu.call.active = true) (c : Cause)
    (hv : (if s.voice.op.endpoint = some .line ∨ s.voice.op.user = some .auto then
      ((s.causeFixed (s.finalCause c)).endVoice .stopped).1 else s.causeFixed (s.finalCause c)) = v) :
    (s.callEnd c).voice.op = v.dropAuto.voice.op ∧ (s.callEnd c).store.mem = v.store.mem ∧
      v.store.Within (s.callEnd c).store := by
  have heq := State.callEnd_eq hactive c
  rw [State.stopEngines_eq (s := s.causeFixed (s.finalCause c)) hv] at heq
  obtain ⟨hstore, -⟩ := State.enginesReset_keeps
    (if v.enginesSilenced.ccu.call.job = .fax then v.enginesSilenced.closeFax else v.enginesSilenced)
  have hreleased (u : State) : (u.released (s.finalCause c)).voice = u.voice ∧ (u.released (s.finalCause c)).store = u.store := by
    simp [State.released]
  obtain ⟨hrvoice, hrstore⟩ := hreleased (State.enginesReset
    (if v.enginesSilenced.ccu.call.job = .fax then v.enginesSilenced.closeFax else v.enginesSilenced))
  rw [heq, hrvoice, hrstore, hstore]
  have hquiet : v.enginesSilenced.store = v.store := by simp [State.enginesSilenced, State.silence]
  refine ⟨?_, ?_, ?_⟩
  · split <;> simp [State.enginesReset, State.enginesSilenced, State.silence]
  · split
    · obtain ⟨-, -, -, hmem⟩ := v.enginesSilenced.closeFax_leaves
      rw [hmem, hquiet]
    · rw [hquiet]
  · rw [← hquiet]
    split
    · exact State.closeFax_within _
    · exact .of_dir rfl

/-! ### The operation record at its end (R152) -/

/-- R152: the record of an operation that has ended. -/
theorem State.endVoice_ended {s : State} (h : s.voice.op.operation.isSome = true) (r : VoiceReason) :
    (s.endVoice r).1.voice.op.state = .idle ∧ (s.endVoice r).1.voice.op.user = none ∧
      (s.endVoice r).1.voice.op.operation = none ∧ (s.endVoice r).1.voice.op.reason = some r := by
  unfold State.endVoice
  dsimp only
  split
  · next hnone => simp [hnone] at h
  · simp [VoiceOp.ended]
  · simp [VoiceOp.ended]
  · exact ⟨rfl, rfl, rfl, rfl⟩

/-- R157: the end of an operation leaves the record of a call that is not active. -/
theorem State.endVoice_call {s : State} (h : s.ccu.call.active = false) (r : VoiceReason) :
    (s.endVoice r).1.ccu.call = s.ccu.call := by
  have hkept : s.keepRules.1.ccu.call = s.ccu.call := by
    unfold State.keepRules
    dsimp only
    repeat' split
    all_goals simp [State.keepRecording, h]
  unfold State.endVoice
  dsimp only
  split
  · rfl
  · simpa using hkept
  · split <;> simp
  · rfl

/-! ### An operation across the end of a call (R18, R158) -/

/-- R18, R158: after the end of a call the operation is in hand still, with its granules, or it has been stopped. -/
structure VoiceCarried (s u : State) : Prop where
  voice : (u.voice.op = s.voice.op ∧ u.store.mem = s.store.mem ∧ s.store.Within u.store) ∨
    (u.voice.op.operation = none ∧ (s.voice.op.operation.isSome = true →
      u.voice.op.state = .idle ∧ u.voice.op.user = none ∧ u.voice.op.reason = some .stopped))
  bytes : BytesKept s u
  plain : s.voice.op.operation ≠ some .record → u.store.mem = s.store.mem

/-- A state with the operation and the store of another. -/
theorem VoiceCarried.of_same {s u : State} (hop : u.voice.op = s.voice.op) (hstore : u.store = s.store) : VoiceCarried s u :=
  ⟨.inl ⟨hop, by rw [hstore], .of_dir (by rw [hstore])⟩, fun _ _ => by rw [hstore], fun _ => by rw [hstore]⟩

theorem VoiceCarried.then_same {s u v : State} (h : VoiceCarried s u) (hop : v.voice.op = u.voice.op) (hstore : v.store = u.store) :
    VoiceCarried s v :=
  ⟨by rw [hop, hstore]; exact h.voice, h.bytes.trans_mem (by rw [hstore]), fun hplain => by rw [hstore, h.plain hplain]⟩

theorem State.callEnd_carried {s : State} (hactive : s.ccu.call.active = true) (c : Cause) :
    VoiceCarried s (s.callEnd c) := by
  by_cases h : s.voice.op.endpoint = some .line ∨ s.voice.op.user = some .auto
  · obtain ⟨hop, hmem, -⟩ := State.callEnd_voice hactive c (if_pos h)
    refine ⟨.inr ⟨by rw [hop]; exact State.endVoice_off, fun hsome => ?_⟩, (State.callEnd_final hactive c).bytes,
      fun hplain => ?_⟩
    · obtain ⟨hidle, huser, -, hreason⟩ := State.endVoice_ended (s := s.causeFixed (s.finalCause c)) hsome .stopped
      rw [hop, State.dropAuto, if_neg (by simp [huser])]
      exact ⟨hidle, huser, hreason⟩
    · rw [hmem]
      exact State.endVoice_mem (s := s.causeFixed (s.finalCause c)) hplain _
  · obtain ⟨hop, hmem, hwithin⟩ := State.callEnd_voice hactive c (if_neg h)
    have hdrop : (s.causeFixed (s.finalCause c)).dropAuto = s.causeFixed (s.finalCause c) := if_neg fun hu => h (.inr hu)
    rw [hdrop] at hop
    exact ⟨.inl ⟨hop, hmem, hwithin⟩, (State.callEnd_final hactive c).bytes, fun _ => hmem⟩

section
variable {s u : State} (h : VoiceCarried s u)
include h

/-- R156: an operation that is ended next writes within its own granules. -/
theorem VoiceCarried.endVoice_bytes (r : VoiceReason) : BytesKept s (u.endVoice r).1 := by
  rcases h.voice with ⟨hop, hmem, hwithin⟩ | ⟨hnone, -⟩
  · intro a ha
    rw [u.endVoice_bytes r a ?_, hmem]
    intro id e' hid he'
    obtain ⟨e, he, hsub⟩ := hwithin id e' he'
    rw [hop] at hid
    exact fun hin => ha id e hid he (hsub hin)
  · rw [State.endVoice_none hnone]
    exact h.bytes

theorem VoiceCarried.endVoice_mem (hplain : s.voice.op.operation ≠ some .record) (r : VoiceReason) :
    (u.endVoice r).1.store.mem = s.store.mem := by
  rcases h.voice with ⟨hop, hmem, -⟩ | ⟨hnone, -⟩
  · rw [State.endVoice_mem (by rwa [hop]), hmem]
  · rw [State.endVoice_none hnone]
    exact h.plain hplain

theorem VoiceCarried.endVoice_same (r : VoiceReason) : SameBut (.voiceOp :: voiceEndParts s) u (u.endVoice r).1 := by
  rcases h.voice with ⟨hop, -, -⟩ | ⟨hnone, -⟩
  · have hparts : voiceEndParts u = voiceEndParts s := by rw [voiceEndParts, voiceEndParts, hop]
    rw [← hparts]
    exact u.endVoice_same r
  · rw [State.endVoice_none hnone]
    exact .refl _ u

end

end Sys2Proof.Machine
end

section
/-! PROOFS. PORT RESET (R21, R158, R172, R183) and POWER_LOW (R22, R175). -/

namespace Sys2Proof.Machine

/-! ### The abort of a transfer (R172) -/

/-- R166, R167: the parts that a released hold may change. -/
theorem State.release_books (s : State) (id : Nat) :
    SameBut [.directory, .freeList, .alerts .system, .alerts .panel, .notices .panel] s (s.release id) := by
  unfold State.release
  split
  · exact .refl _ s
  · split
    · exact s.removeEntry_same id
    · exact (s.updEntry_same id _).mono (by simp)

theorem State.endRead_same (s : State) (p : Port) :
    SameBut [.transfer p, .directory, .freeList, .alerts .system, .alerts .panel, .notices .panel] s (s.endRead p) := by
  have hrelease : SameBut [.directory, .freeList, .alerts .system, .alerts .panel, .notices .panel] s (s.releaseChannel p) := by
    unfold State.releaseChannel
    split
    · exact s.release_books _
    · exact .refl _ s
  unfold State.endRead
  split
  · exact (hrelease.andThen (State.idleChannel_same _ p)).mono (by simp)
  · exact (s.idleChannel_same p).mono (by simp)

theorem State.abortChannel_same (s : State) (p : Port) : SameBut (abortParts s p) s (s.abortChannel p) := by
  by_cases h : (s.channel p).state = .idle
  · have heq : s.abortChannel p = s := by
      unfold State.abortChannel
      dsimp only
      rw [h]
    rw [heq]
    exact .refl _ s
  · rw [abortParts, if_neg h]
    unfold State.abortChannel
    dsimp only
    split
    · contradiction
    · exact ((s.removeEntry_same _).andThen (State.idleChannel_same _ p)).mono (by simp)
    · exact s.endRead_same p

theorem State.abortChannel_idle (s : State) (p : Port) : ((s.abortChannel p).port p).transfer.state = .idle := by
  unfold State.abortChannel
  dsimp only
  split
  · assumption
  · exact congrArg Transfer.state (State.idleChannel_channel _ _)
  · exact congrArg Transfer.state (State.idleChannel_channel _ _)

/-! ### PORT RESET (R183) -/

/-- R158: the master's operation ends, unless its call's end has ended it. -/
theorem VoiceCarried.resetVoice {s u : State} (h : VoiceCarried s u) (p : Port) :
    SameBut (if s.voice.op.user = some p.party then .voiceOp :: voiceEndParts s else []) u (u.resetVoice p) ∧
      BytesKept s (u.resetVoice p) ∧
      (s.voice.op.user = some p.party → s.voice.op.operation.isSome = true →
        (u.resetVoice p).voice.op.state = .idle ∧ (u.resetVoice p).voice.op.user = none ∧
          (u.resetVoice p).voice.op.operation = none ∧ (u.resetVoice p).voice.op.reason = some .stopped) := by
  by_cases hu : u.voice.op.user = some p.party
  · have heq : u.resetVoice p = (u.endVoice .stopped).1 := if_pos hu
    rw [heq]
    refine ⟨?_, h.endVoice_bytes _, fun _ hsome => ?_⟩
    · rcases h.voice with ⟨hop, -, -⟩ | ⟨hnone, -⟩
      · rw [if_pos (by rwa [← hop])]
        exact h.endVoice_same _
      · rw [State.endVoice_none hnone]
        exact .refl _ u
    · rcases h.voice with ⟨hop, -, -⟩ | ⟨-, hended⟩
      · exact State.endVoice_ended (by rwa [hop]) _
      · obtain ⟨-, huser, -⟩ := hended hsome
        simp [huser] at hu
  · have heq : u.resetVoice p = u := if_neg hu
    rw [heq]
    refine ⟨.refl _ u, h.bytes, fun huser hsome => ?_⟩
    rcases h.voice with ⟨hop, -, -⟩ | ⟨hnone, hended⟩
    · rw [hop] at hu
      exact absurd huser hu
    · obtain ⟨hidle, hnouser, hreason⟩ := hended hsome
      exact ⟨hidle, hnouser, hnone, hreason⟩

/-- R18: HOLDER_RESET replaces the cause of a clearing. -/
theorem State.finalCause_reset (s : State) : s.finalCause .holderReset = .holderReset := by
  unfold State.finalCause
  split <;> rfl

theorem State.finalCause_power (s : State) : s.finalCause .powerLow = .powerLow := by
  unfold State.finalCause
  split <;> rfl

theorem State.withdraw_same (s : State) (p : Port) : SameBut [.claims] s (s.withdraw p) := by
  unfold State.withdraw
  exact .of_parts (by simp)

/-- R183, step 1. -/
theorem State.resetClaims_does (s : State) (p : Port) :
    (s.resetClaims p).ccu.claims = s.ccu.claims.filter (fun c => c.master ≠ p) ∧
      VoiceCarried s (s.resetClaims p) ∧
      (s.holder = some p.party → CallEnded [] (s.withdraw p) (s.resetClaims p) .holderReset) ∧
      (s.holder ≠ some p.party → s.resetClaims p = s.withdraw p) ∧
      SameBut (.claims :: if s.holder = some p.party then endParts s else []) s (s.resetClaims p) := by
  have hwithdrawn : (s.withdraw p).voice.op = s.voice.op ∧ (s.withdraw p).store = s.store := ⟨rfl, rfl⟩
  by_cases hholder : s.holder = some p.party
  · have heq : s.resetClaims p = (s.withdraw p).callEnd .holderReset := if_pos hholder
    have hactive : s.ccu.call.active = true := (State.holder_some.1 hholder).1
    have hends := State.callEnd_final (s := s.withdraw p) hactive .holderReset
    rw [State.finalCause_reset] at hends
    have hframe := hends.frame
    rw [List.append_nil] at hframe
    rw [heq, if_pos hholder]
    refine ⟨?_, ?_, fun _ => hends, fun h => absurd hholder h,
      ((s.withdraw_same p).andThen hframe).mono (by simp [endParts, State.withdraw])⟩
    · have hclaims : ((s.withdraw p).callEnd .holderReset).ccu.claims = (s.withdraw p).ccu.claims := by simp
      exact hclaims
    · have hcarried := State.callEnd_carried (s := s.withdraw p) hactive .holderReset
      exact ⟨hcarried.voice, hcarried.bytes, hcarried.plain⟩
  · have heq : s.resetClaims p = s.withdraw p := if_neg hholder
    rw [heq, if_neg hholder]
    exact ⟨rfl, .of_same rfl rfl, fun h => absurd h hholder, fun _ => rfl, s.withdraw_same p⟩

/-- R183, steps 4 and 5. -/
theorem State.clearWork_same (s : State) (p : Port) :
    SameBut [.digits p, .alerts p, .notices p] s (s.updPort p PortState.clearWork) := by
  cases p <;> exact .of_parts (by simp [State.updPort, PerPort.set, State.port, PerPort.get, PortState.clearWork])

theorem State.clearWork_port (s : State) (p : Port) :
    (s.updPort p PortState.clearWork).port p =
      { s.port p with digits := ⟨[], false⟩, alerts := .none, notices := .reset } := by
  cases p <;> rfl

/-- R183: the port's work before its last steps. -/
theorem State.portReset_same (s : State) (p : Port) :
    SameBut ([.claims, .digits p, .alerts p, .notices p, .transfer p] ++
      (if s.holder = some p.party then endParts s else []) ++
      (if s.voice.op.user = some p.party then .voiceOp :: voiceEndParts s else []) ++ abortParts s p) s (s.portReset p) := by
  obtain ⟨-, hcarried, -, -, hclaims⟩ := s.resetClaims_does p
  obtain ⟨hvoice, -, -⟩ := hcarried.resetVoice p
  have hchannel : ((s.resetClaims p).resetVoice p).channel p = s.channel p := by
    cases p <;> simp [State.channel, State.port, PerPort.get]
  have hparts : abortParts ((s.resetClaims p).resetVoice p) p = abortParts s p := by
    rw [abortParts, abortParts, hchannel]
  have habort := ((s.resetClaims p).resetVoice p).abortChannel_same p
  rw [hparts] at habort
  refine (((hclaims.andThen hvoice).andThen habort).andThen (State.clearWork_same _ p)).mono ?_
  intro x hx
  simp only [List.mem_append, List.mem_cons] at hx ⊢
  tauto

/-- R183: what the steps after the first leave of the first. -/
theorem State.portReset_follows (s : State) (p : Port) :
    (s.portReset p).ccu.claims = (s.resetClaims p).ccu.claims ∧ (s.portReset p).ccu.line = (s.resetClaims p).ccu.line ∧
      (s.portReset p).ccu.call.active = (s.resetClaims p).ccu.call.active ∧
      (s.portReset p).ccu.call.cause = (s.resetClaims p).ccu.call.cause ∧
      (s.portReset p).lif = (s.resetClaims p).lif ∧ (s.portReset p).link.mode = (s.resetClaims p).link.mode ∧
      (s.portReset p).pump.phase = (s.resetClaims p).pump.phase ∧
      (s.portReset p).voice = ((s.resetClaims p).resetVoice p).voice ∧
      (s.portReset p).store.mem = ((s.resetClaims p).resetVoice p).store.mem := by
  simp [State.portReset]

/-- R183: the port's own work at the end. -/
theorem State.portReset_port (s : State) (p : Port) :
    ((s.portReset p).port p).digits = ⟨[], false⟩ ∧ ((s.portReset p).port p).alerts = ⟨false, false, false, false⟩ ∧
      ((s.portReset p).port p).transfer.state = .idle ∧
      ((s.portReset p).port p).notices = ⟨SourceTable.clear, ⟨1, 2, 3, 4, 5, 6⟩, []⟩ := by
  rw [State.portReset, State.clearWork_port]
  exact ⟨rfl, rfl, State.abortChannel_idle _ p, rfl⟩

/-- Settles O26: the claim, the call, the operation, the transfer and the port's own work, in this order. -/
theorem portResetClears : Obligations.PortResetClears := by
  intro f s h
  obtain ⟨hclaims, hcarried, hends, hkept, -⟩ := s.resetClaims_does f.port
  obtain ⟨-, hbytes, hended⟩ := hcarried.resetVoice f.port
  obtain ⟨lclaims, lline, lactive, lcause, llif, lmode, lphase, lvoice, lmem⟩ := s.portReset_follows f.port
  obtain ⟨hdigits, halerts, htransfer, hnotices⟩ := s.portReset_port f.port
  have hsame := s.portReset_same f.port
  refine ⟨_, command_does (body := takePortReset f.port) h rfl, ?_, ?_, ?_, ?_, ?_, fun huser hsome => ?_, fun hholder => ?_,
    fun hholder => ?_, ?_, ?_, ?_⟩
  · rw [← hclaims, ← lclaims]
    simp
  · rw [State.reply_deliver_digits, hdigits]
  · rw [State.reply_deliver_alerts, halerts]
  · have hchannel := (State.replies (s.portReset f.port) f.port 0x79#8 ⟨.ok,
      [flagItem (s.holder == some f.port.party), flagItem (s.hasQueued f.port),
        flagItem (s.voice.op.user == some f.port.party || (s.channel f.port).busy)]⟩).channel f.port
    exact (congrArg Transfer.state hchannel).trans htransfer
  · rw [State.reply_deliver_notices, hnotices]
  · have hdone := hended huser hsome
    rw [← lvoice] at hdone
    simpa using hdone
  · have hend := hends hholder
    obtain ⟨hcall, -⟩ := hend.call
    obtain ⟨hrelay, -⟩ := hend.relay
    obtain ⟨hpump, hlink, -⟩ := hend.engines
    refine ⟨by simpa using lline.trans hend.line, ?_, ?_, ?_, ?_, ?_⟩
    · simpa [lactive] using congrArg CallRecord.active hcall
    · simpa [lcause] using congrArg CallRecord.cause hcall
    · simpa [llif] using hrelay
    · simpa [lmode, Link.idle] using congrArg Link.mode hlink
    · simpa [lphase, Pump.idle] using congrArg Pump.phase hpump
  · have heq := hkept hholder
    rw [heq] at lline lactive lcause llif
    exact ⟨by simpa using lline, by simpa using lactive, by simpa using lcause, by simpa using llif⟩
  · refine hsame.answered f.port _ _ ?_
    split <;> split <;> simp [endParts, voiceEndParts, abortParts]
  · exact hbytes.trans_mem (by simpa using lmem)
  · refine hsame.reply _ _ _ ⟨fun x hx => ?_, by simp⟩
    simp only [List.mem_append, List.mem_cons] at hx ⊢
    tauto

end Sys2Proof.Machine
end

section
/-! PROOFS. POWER_LOW (R22, R63, R172, R175). -/

namespace Sys2Proof.Machine

/-- R22: the queued dials are dropped, with POWER_LOW noted. -/
def State.powerFails (s : State) : State := { s with power.low := true, ccu.claims := [] }

theorem State.powerFails_same (s : State) : SameBut [.claims, .power] s s.powerFails := .of_parts (by simp [State.powerFails])

/-- R22: the call at POWER_LOW. -/
theorem State.powerFails_call (s : State) :
    VoiceCarried s (s.powerFails.callEnd .powerLow) ∧
      (s.ccu.call.active = true → CallEnded [] s.powerFails (s.powerFails.callEnd .powerLow) .powerLow) ∧
      (s.ccu.call.active = false → s.powerFails.callEnd .powerLow = s.powerFails) ∧
      SameBut ([.claims, .power] ++ if s.ccu.call.active = true then endParts s else []) s
        (s.powerFails.callEnd .powerLow) := by
  by_cases hactive : s.ccu.call.active = true
  · have hends := State.callEnd_final (s := s.powerFails) hactive .powerLow
    rw [State.finalCause_power] at hends
    have hframe := hends.frame
    rw [List.append_nil] at hframe
    have hcarried := State.callEnd_carried (s := s.powerFails) hactive .powerLow
    rw [if_pos hactive]
    exact ⟨⟨hcarried.voice, hcarried.bytes, hcarried.plain⟩, fun _ => hends, fun h => absurd hactive (by simp [h]),
      s.powerFails_same.andThen hframe⟩
  · have heq : s.powerFails.callEnd .powerLow = s.powerFails := if_neg hactive
    rw [heq, if_neg hactive, List.append_nil]
    exact ⟨.of_same rfl rfl, fun h => absurd h hactive, fun _ => rfl, s.powerFails_same⟩

/-- R22: RINGING is left with the episode. -/
def State.ringingEnds (s : State) : State := if s.ccu.line = .ringing then s.lineTo .idle else s

theorem State.powerFails_power (s : State) :
    (s.powerFails.callEnd .powerLow).abandonEpisode.ringingEnds.power = { s.power with low := true } := by
  unfold State.ringingEnds State.powerFails
  split <;> simp

theorem State.abandonEpisode_same (s : State) : SameBut [.timer 1, .ringing, .episode, .caller] s s.abandonEpisode := by
  unfold State.abandonEpisode State.setDeadlines
  exact .of_parts (by simp)

/-- R22: what the CCU leaves at POWER_LOW. -/
structure CcuClosed (s t : State) : Prop where
  claims : t.ccu.claims = []
  inactive : t.ccu.call.active = false
  episode : t.rau.episode.active = false
  deadlines : t.rau.deadlines = .empty
  ended : s.ccu.call.active = true → t.ccu.line = .releasing ∧ t.ccu.call.cause = some .powerLow ∧
    t.lif.relayClosed = false ∧ t.LoadedT2 .guard 1500 .none
  idle : s.ccu.call.active = false → t.ccu.line = (if s.ccu.line = .ringing then .idle else s.ccu.line) ∧
    t.ccu.call = s.ccu.call
  carried : VoiceCarried s t
  frame : SameBut ([.claims, .power, .timer 1, .ringing, .episode, .caller] ++
    if s.ccu.call.active = true then endParts s else [.line, .notices .panel]) s t

theorem State.powerFails_closed (s : State) :
    CcuClosed s (s.powerFails.callEnd .powerLow).abandonEpisode.ringingEnds := by
  obtain ⟨hcarried, hends, hkept, hframe⟩ := s.powerFails_call
  set u := s.powerFails.callEnd .powerLow with hu
  have habandon := u.abandonEpisode_same
  have hclaims : u.ccu.claims = [] := by
    rw [hu]
    simp [State.powerFails]
  by_cases hactive : s.ccu.call.active = true
  · have hend := hends hactive
    obtain ⟨hcall, -⟩ := hend.call
    obtain ⟨hrelay, -⟩ := hend.relay
    have hline : u.abandonEpisode.ccu.line = .releasing := hend.line
    have hring : u.abandonEpisode.ringingEnds = u.abandonEpisode := if_neg (by rw [hline]; decide)
    rw [if_pos hactive] at hframe
    rw [hring]
    refine ⟨hclaims, congrArg CallRecord.active hcall, rfl, rfl, fun _ => ⟨hline, congrArg CallRecord.cause hcall, hrelay, ?_⟩,
      fun h => absurd hactive (by simp [h]), hcarried.then_same rfl rfl, ?_⟩
    · exact hend.guard.of_same habandon (by simp)
    · rw [if_pos hactive]
      refine (hframe.andThen habandon).mono fun x hx => ?_
      simp only [List.mem_append, List.mem_cons, List.not_mem_nil, or_false] at hx ⊢
      tauto
  · have hinactive := Bool.eq_false_iff.2 hactive
    have heq := hkept hinactive
    rw [if_neg hactive, List.append_nil] at hframe
    have hline : u.abandonEpisode.ccu.line = s.ccu.line := by
      rw [heq]
      rfl
    have hcall : u.abandonEpisode.ccu.call = s.ccu.call := by
      rw [heq]
      rfl
    have hringing : SameBut [.line, .notices .panel] u.abandonEpisode u.abandonEpisode.ringingEnds := by
      unfold State.ringingEnds
      split
      · exact State.lineTo_same _ _
      · exact .refl _ _
    have hkeeps : u.abandonEpisode.ringingEnds.ccu.call = u.abandonEpisode.ccu.call :=
      hringing .call (by simp) (by simp)
    have hqueue : u.abandonEpisode.ringingEnds.ccu.claims = u.abandonEpisode.ccu.claims :=
      hringing .claims (by simp) (by simp)
    obtain ⟨-, hlist⟩ := hringing .ringing (by simp) (by simp)
    have hepisode : u.abandonEpisode.ringingEnds.rau.episode = u.abandonEpisode.rau.episode :=
      hringing .episode (by simp) (by simp)
    refine ⟨by rw [hqueue]; exact hclaims, by rw [hkeeps, hcall, hinactive], by rw [hepisode]; rfl, by rw [hlist]; rfl,
      fun h => absurd h hactive, fun _ => ⟨?_, by rw [hkeeps, hcall]⟩, ?_, ?_⟩
    · unfold State.ringingEnds
      rw [hline]
      split
      · simp
      · rw [hline]
    · refine (hcarried.then_same (v := u.abandonEpisode) rfl rfl).then_same ?_ ?_
      · unfold State.ringingEnds
        split <;> simp
      · unfold State.ringingEnds
        split <;> simp
    · rw [if_neg hactive]
      exact ((hframe.andThen habandon).andThen hringing).mono (by simp)

/-! ### The close-out (R175) -/

theorem State.dropAuto_same (s : State) : SameBut [.voiceOp] s s.dropAuto := by
  unfold State.dropAuto
  split
  · exact .of_parts (by simp)
  · exact .refl _ s

/-- R175, steps 3 and 4: the operation and both transfers end. -/
def State.workEnded (c : State) : State :=
  ((c.endVoice .stopped).1.dropAuto.abortChannel .system).abortChannel .panel

theorem exec_powerLow {s : State} (h : s.power.low = false) :
    exec .powerLow s = finish { (s.powerFails.callEnd .powerLow).abandonEpisode.ringingEnds.workEnded.writeHeader with
      power.retention := true } := congrArg finish (if_neg (by simp [h]))

theorem State.workEnded_voice (c : State) :
    c.workEnded.voice.op.operation = none ∧ c.workEnded.voice.op.user ≠ some .auto := by
  have hvoice : c.workEnded.voice = (c.endVoice .stopped).1.dropAuto.voice := by simp [State.workEnded]
  rw [hvoice]
  exact ⟨State.endVoice_off, State.dropAuto_user _⟩

theorem State.workEnded_mem (c : State) : c.workEnded.store.mem = (c.endVoice .stopped).1.store.mem := by
  simp [State.workEnded]

theorem State.workEnded_header (c : State) :
    c.workEnded.store.header = c.store.header ∧ c.workEnded.store.installed = c.store.installed ∧
      c.workEnded.settings = c.settings ∧ c.workEnded.power = c.power := by
  simp [State.workEnded]

/-- R175: the end of the work leaves the call, which has ended. -/
theorem State.workEnded_call {c : State} (h : c.ccu.call.active = false) :
    c.workEnded.ccu.claims = c.ccu.claims ∧ c.workEnded.ccu.line = c.ccu.line ∧ c.workEnded.ccu.call = c.ccu.call ∧
      c.workEnded.lif = c.lif ∧ c.workEnded.rau = c.rau ∧
      (c.LoadedT2 .guard 1500 .none → c.workEnded.LoadedT2 .guard 1500 .none) := by
  have hcall := State.endVoice_call h .stopped
  refine ⟨by simp [State.workEnded], by simp [State.workEnded], by simpa [State.workEnded] using hcall,
    by simp [State.workEnded], by simp [State.workEnded], fun hguard => ?_⟩
  simpa [State.workEnded, State.LoadedT2] using hguard

/-- R175: the transfers are aborted, the System Port's first. -/
theorem State.workEnded_idle (c : State) (p : Port) : (c.workEnded.port p).transfer.state = .idle := by
  cases p with
  | panel => exact State.abortChannel_idle _ .panel
  | system =>
    have hkept : (c.workEnded.port .system).transfer =
        (((c.endVoice .stopped).1.dropAuto.abortChannel .system).port .system).transfer :=
      State.abortChannel_same _ .panel (.transfer .system) (by unfold abortParts; split <;> simp) (by simp)
    rw [hkept]
    exact State.abortChannel_idle _ .system

theorem VoiceCarried.workEnded_same {s c : State} (h : VoiceCarried s c)
    (hchannel : ∀ p, (c.port p).transfer = (s.port p).transfer) :
    SameBut (.voiceOp :: voiceEndParts s ++ abortParts s .system ++ abortParts s .panel) c c.workEnded := by
  set v := (c.endVoice .stopped).1.dropAuto with hv
  have hvsame : SameBut (.voiceOp :: voiceEndParts s ++ [.voiceOp]) c v :=
    (h.endVoice_same .stopped).andThen (State.dropAuto_same _)
  have hvchannel (p : Port) : (v.port p).transfer = (s.port p).transfer := by
    rw [← hchannel]
    exact hvsame (.transfer p) (by unfold voiceEndParts; split <;> simp) (by simp)
  have hsystem : abortParts v .system = abortParts s .system := by
    rw [abortParts, abortParts, State.channel, State.channel, hvchannel]
  have hpanel : abortParts (v.abortChannel .system) .panel = abortParts s .panel := by
    have hkept : ((v.abortChannel .system).port .panel).transfer = (v.port .panel).transfer :=
      State.abortChannel_same _ .system (.transfer .panel) (by unfold abortParts; split <;> simp) (by simp)
    rw [abortParts, abortParts, State.channel, State.channel, hkept, hvchannel]
  have hsys := v.abortChannel_same .system
  have hpan := (v.abortChannel .system).abortChannel_same .panel
  rw [hsystem] at hsys
  rw [hpanel] at hpan
  refine ((hvsame.andThen hsys).andThen hpan).mono fun x hx => ?_
  simp only [List.mem_append, List.mem_cons, List.not_mem_nil, or_false] at hx ⊢
  tauto

/-- The parts of the close-out, in the order of its steps and in the order of the statement. -/
theorem powerParts_subset {call voice system panel : List Part} :
    ([Part.claims, .power, .timer 1, .ringing, .episode, .caller] ++ call) ++ (Part.voiceOp :: voice ++ system ++ panel) ++
        [Part.header, .power] ⊆
      [Part.claims, .timer 1, .ringing, .episode, .caller, .voiceOp, .header, .power] ++ call ++ voice ++ system ++ panel := by
  intro x hx
  simp only [List.mem_append, List.mem_cons, List.not_mem_nil, or_false] at hx ⊢
  tauto

/-- Settles O31: the CCU, the work in hand, and the header, in this order. -/
theorem powerLowClosesOut : Obligations.PowerLowClosesOut := by
  intro s hlow
  have hclosed := s.powerFails_closed
  set c := (s.powerFails.callEnd .powerLow).abandonEpisode.ringingEnds with hc
  have hchannel (p : Port) : (c.port p).transfer = (s.port p).transfer :=
    hclosed.frame (.transfer p) (by simp only [endParts]; split <;> [(split <;> simp); simp]) (by simp)
  have hwork := hclosed.carried.workEnded_same hchannel
  have hheld : ∀ x ∈ [Part.header, .settings], x.Same s c := fun x hx =>
    hclosed.frame x (by
      simp only [List.mem_cons, List.not_mem_nil, or_false] at hx
      rcases hx with rfl | rfl <;> simp only [endParts] <;> split <;> [(split <;> simp); simp; (split <;> simp); simp])
      (by rintro rfl; simp at hx)
  obtain ⟨hsize, hheader, -⟩ := hheld .header (by simp)
  have hset : c.settings = s.settings := hheld .settings (by simp)
  have hpower : c.power = { s.power with low := true } := s.powerFails_power
  obtain ⟨lheader, linstalled, lsettings, lpower⟩ := c.workEnded_header
  obtain ⟨lclaims, lline, lcall, llif, lrau, lguard⟩ := State.workEnded_call hclosed.inactive
  obtain ⟨hop, huser⟩ := c.workEnded_voice
  have hframe : SameBut [.header, .power] c.workEnded { c.workEnded.writeHeader with power.retention := true } :=
    .of_parts (by simp [State.writeHeader])
  obtain ⟨t, hnext, ht, hsame⟩ := finish_does (exec_powerLow hlow) ((hclosed.frame.andThen hwork).andThen hframe)
  have htpower : t.power = { c.workEnded.power with retention := true } := by
    have hpower (u : State) : u.deliverSystem.power = u.power := by simp
    obtain rfl := Host.Outcome.next.inj ((exec_powerLow hlow).symm.trans hnext)
    exact hpower _
  refine ⟨t, hnext, ?_, ?_, ?_, ?_, ?_, ?_, fun p => ?_, fun hactive => ?_, fun hinactive => ?_, ?_, ?_, ?_, ?_, ?_, ?_,
    fun hplain a => ?_, fun hinactive => ?_, hsame.mono powerParts_subset⟩
  · rw [htpower, lpower, hpower]
  · rw [ht.ccu, State.writeHeader_ccu, lclaims, hclosed.claims]
  · rw [ht.ccu, State.writeHeader_ccu, lcall, hclosed.inactive]
  · rw [ht.rau, State.writeHeader_rau, lrau, hclosed.episode]
  · rw [ht.voice, State.writeHeader_voice, hop]
  · rw [ht.voice, State.writeHeader_voice]
    exact huser
  · have htransfer (u : State) : (u.deliverSystem.port p).transfer = (u.port p).transfer := by
      cases p <;> simp [State.port, PerPort.get]
    have hkept : (t.port p).transfer = (c.workEnded.port p).transfer := by
      obtain rfl := Host.Outcome.next.inj ((exec_powerLow hlow).symm.trans hnext)
      exact htransfer _
    rw [hkept, c.workEnded_idle]
  · obtain ⟨hline, hcause, hrelay, hguard⟩ := hclosed.ended hactive
    have hkeeps (u : State) : u.deliverSystem.lif = u.lif := by simp
    have hlif : t.lif = c.workEnded.lif := by
      obtain rfl := Host.Outcome.next.inj ((exec_powerLow hlow).symm.trans hnext)
      exact hkeeps _
    rw [ht.ccu, State.writeHeader_ccu, lline, lcall, hlif, llif]
    exact ⟨hline, hcause, hrelay, ht.loaded _ _ _ (lguard hguard)⟩
  · obtain ⟨hline, hcall⟩ := hclosed.idle hinactive
    rw [ht.ccu, State.writeHeader_ccu, lline, lcall, hline, hcall]
    exact ⟨rfl, rfl⟩
  · rw [ht.store]
    exact lsettings.trans hset
  · rw [ht.store]
    exact linstalled.trans hsize
  · rw [ht.store]
    rfl
  · rw [ht.store]
    show c.workEnded.store.header.lastId = _
    rw [lheader, hheader]
  · rw [ht.rau, State.writeHeader_rau, lrau, hclosed.deadlines]
  · refine (hclosed.carried.endVoice_bytes .stopped).trans_mem ?_
    rw [ht.store]
    exact c.workEnded_mem
  · rw [ht.store]
    show Mem.read c.workEnded.store.mem a = _
    rw [c.workEnded_mem, hclosed.carried.endVoice_mem hplain]
  · obtain ⟨-, hcall⟩ := hclosed.idle hinactive
    rw [ht.ccu, State.writeHeader_ccu, lcall, hcall]

end Sys2Proof.Machine
end

section
/-! PROOFS. Device reset (O30): the start-up check, the store that a cold and a warm start leave, and the records at
power-on. -/

namespace Sys2Proof.Machine

/-! ### The start-up check (R174) -/

/-- R174: a recorded entry without a kind, a state or a chain is none. -/
theorem RecordedTables.entry_none {x : RecordedTables} {e : RecordedEntry}
    (h : kindOfCode e.kindCode = none ∨ stateOfCode e.stateCode = none ∨ x.chain e.first e.count = none) :
    x.entry e = none := by
  unfold RecordedTables.entry
  split
  · next hk hst hch => simp [hk, hst, hch] at h
  · rfl

/-- R174: one entry that is not valid spoils the directory. -/
theorem RecordedTables.directory_none {x : RecordedTables} {e : RecordedEntry} (h : x.entry e = none) :
    ∀ {l : List RecordedEntry}, e ∈ l → x.directory l = none
  | d :: rest, he => by
    unfold RecordedTables.directory
    split
    · next hd hds =>
      rcases List.mem_cons.mp he with rfl | he
      · simp [h] at hd
      · simp [RecordedTables.directory_none h he] at hds
    · rfl

/-- R174: tables that are not valid are not found. -/
theorem Store.kept_none {t : Store} {n : Nat} {x : RecordedTables} (hx : t.tables = some x)
    (hbad : (∃ e ∈ x.entries, kindOfCode e.kindCode = none ∨ stateOfCode e.stateCode = none ∨
        x.chain e.first e.count = none) ∨ x.chain x.freeHead x.freeCount = none) : t.kept n = none := by
  have hfound : t.found = none := by
    unfold Store.found
    rw [hx]
    dsimp only
    split
    · next hds hgs =>
      rcases hbad with ⟨e, he, hentry⟩ | hfree
      · simp [RecordedTables.directory_none (RecordedTables.entry_none hentry) he] at hds
      · simp [hfree] at hgs
    · rfl
  unfold Store.kept
  rw [hfound]

/-- R174: lists that meet the conditions are kept. -/
theorem Store.kept_lists {t : Store} {n : Nat} (htables : t.tables = none) (hsound : t.sound n = true) :
    t.kept n = some t := by
  unfold Store.kept
  rw [Store.found_lists htables]
  exact if_pos hsound

/-- R174: what is found has the header of the store, and lists for its tables. -/
theorem Store.found_header {t f : Store} (h : t.found = some f) : f.header = t.header ∧ f.tables = none := by
  unfold Store.found at h
  split at h
  · next htables =>
    cases h
    exact ⟨rfl, htables⟩
  · split at h
    · cases h
      exact ⟨rfl, rfl⟩
    · cases h

/-- R174: a warm start keeps the COMPLETE entries, with no holds. -/
theorem Store.warm_dir (t : Store) :
    t.warm.dir = (t.dir.filter (fun e => decide (e.state = .complete))).map (fun e => { e with holds := 0 }) := by
  show ((t.dir.filter _).filter _).map _ = _
  rw [List.filter_filter]
  congr 2
  funext e
  cases e.state <;> rfl

/-! ### The two starts -/

/-- R174: the state after a cold start. -/
def State.coldStarted (s : State) (dram : DramSize) (rate : PortRate) : State :=
  State.afterReset (Store.cold (Config.installedGranules dram) s.store.mem) .default .resetLost rate s.sys.ready s.sys.rts
    s.lif.voltageBelow s.lif.currentBelow s.pending

/-- R174: the state after a warm start that keeps a store. -/
def State.warmStarted (s : State) (f : Store) (dram : DramSize) (rate : PortRate) : State :=
  State.afterReset ({ f with installed := Config.installedGranules dram } : Store).warm f.header.settings .reset rate
    s.sys.ready s.sys.rts s.lif.voltageBelow s.lif.currentBelow s.pending

theorem State.deviceReset_cold {s : State} {dram : DramSize} (rate : PortRate)
    (h : s.store.kept (Config.installedGranules dram) = none) : s.deviceReset dram rate = s.coldStarted dram rate := by
  unfold State.deviceReset
  dsimp only
  rw [h] <;> rfl

theorem State.deviceReset_warm {s : State} {dram : DramSize} {f : Store} (rate : PortRate)
    (h : s.store.kept (Config.installedGranules dram) = some f) :
    s.deviceReset dram rate = s.warmStarted f dram rate := by
  unfold State.deviceReset
  dsimp only
  rw [h] <;> rfl

/-- R20, R174: both starts leave every record but the store, the settings, the alerts and the notices as at power-on. -/
theorem State.deviceReset_starts (s : State) (dram : DramSize) (rate : PortRate) :
    ∃ (st : Store) (se : Settings) (q : PortState),
      s.deviceReset dram rate = State.afterReset st se q rate s.sys.ready s.sys.rts s.lif.voltageBelow s.lif.currentBelow
        s.pending ∧
      st.installed = Config.installedGranules dram ∧ st.mem = s.store.mem ∧
      q.digits = ⟨[], false⟩ ∧ q.transfer = .idle ∧ q.outgoing = [] ∧ q.notices.priorities = ⟨1, 2, 3, 4, 5, 6⟩ := by
  cases h : s.store.kept (Config.installedGranules dram) with
  | none => exact ⟨_, _, _, State.deviceReset_cold rate h, rfl, rfl, rfl, rfl, rfl, rfl⟩
  | some f =>
    exact ⟨_, _, _, State.deviceReset_warm rate h, rfl,
      Store.found_mem (t := s.store) (f := f) (Store.kept_some h).1, rfl, rfl, rfl, rfl⟩

/-- R181: STORE_ALERT is what a cold start has to deliver. -/
theorem Controller.lost_choice :
    ({ Controller.reset with sources := { SourceTable.clear with storeAlert := ⟨true, false, 0⟩ } } : Controller).choice =
      some .storeAlert := by decide

/-- R182: after a cold start only STORE_ALERT is pending, at the System Port until its notice frame begins. -/
theorem State.coldStarted_notices (s : State) (dram : DramSize) (rate : PortRate) :
    ((s.coldStarted dram rate).deliverSystem.ports.system.notices = (s.coldStarted dram rate).ports.panel.notices ∧
        (s.coldStarted dram rate).deliverSystem.sys.notice = none) ∨
      ((s.coldStarted dram rate).deliverSystem.ports.system.notices.sources = SourceTable.clear ∧
        (s.coldStarted dram rate).deliverSystem.sys.notice = some (.storeAlert, 0)) := by
  have hchoice : (s.coldStarted dram rate).ports.system.notices.choice = some .storeAlert := Controller.lost_choice
  unfold State.deliverSystem
  rw [hchoice]
  split
  · exact .inr ⟨rfl, rfl⟩
  · exact .inl ⟨rfl, rfl⟩

/-- R182: after a warm start no notice is pending. -/
theorem State.warmStarted_idles (s : State) (f : Store) (dram : DramSize) (rate : PortRate) :
    (s.warmStarted f dram rate).deliverSystem = s.warmStarted f dram rate := by
  have hchoice : (s.warmStarted f dram rate).ports.system.notices.choice = none := by
    have hreset : Controller.reset.choice = none := by decide
    exact hreset
  unfold State.deliverSystem
  rw [hchoice]
  exact ite_self _

/-- R163, R174: the sizes of a warm start. -/
theorem State.warmStarted_total {s : State} {f : Store} {dram : DramSize} (rate : PortRate)
    (h : f.sound (Config.installedGranules dram) = true) :
    (s.warmStarted f dram rate).store.free.length + chainTotal (s.warmStarted f dram rate).store.dir + 16 =
      Config.installedGranules dram := by
  have htotal : 16 + (s.warmStarted f dram rate).store.free.length + chainTotal (s.warmStarted f dram rate).store.dir =
      Config.installedGranules dram := (Store.warm_balanced h).2.2
  omega

/-- Settles O30: the shared records by `deviceReset_starts`, and the two starts by what the check keeps. -/
theorem deviceResetStarts : Obligations.DeviceResetStarts := by
  intro dram rate s
  obtain ⟨st, se, q, hreset, hsize, hmem, hdigits, htransfer, houtgoing, hpriorities⟩ := s.deviceReset_starts dram rate
  obtain ⟨n, hsys⟩ := (s.deviceReset dram rate).deliverSystem_sys
  refine ⟨(s.deviceReset dram rate).deliverSystem, rfl, ?_⟩
  refine ⟨?_, ?_, ?_, ?_, ?_, ?_, ?_, ?_, ?_, ?_, ?_, ?_, ?_, ?_, ?_, ?_, ?_, ?_, ?_, ?_, ?_, ?_, ?_, ?_, ?_, fun p => ?_, ?_, ?_,
    fun a => ?_, fun hcold => ?_, fun k hwarm => ?_⟩
  case refine_26 =>
    rw [hreset, State.deliverSystem_priorities]
    cases p <;> simp [State.port, PerPort.get, State.afterReset, hdigits, htransfer, houtgoing, hpriorities]
  case refine_30 =>
    have hkept : s.store.kept (Config.installedGranules dram) = none := by
      rcases hcold with hkept | ⟨x, hx, hbad⟩
      · exact hkept
      · exact Store.kept_none hx hbad
    rw [State.deviceReset_cold rate hkept]
    refine ⟨?_, ?_, ?_, ?_, ?_, ?_, ?_, fun p => ?_⟩
    case refine_7 => 
      have h := s.coldStarted_notices dram rate
      have hpanel : (s.coldStarted dram rate).deliverSystem.ports.panel.notices =
        (s.coldStarted dram rate).ports.panel.notices := by simp
      rw [hpanel]
      exact h
    case refine_8 => cases p <;> simp [State.port, PerPort.get] <;> rfl
    all_goals simp; rfl
  case refine_31 =>
    have hkept : s.store.kept (Config.installedGranules dram) = some k := by
      rcases hwarm with hkept | ⟨htables, hsound, rfl⟩
      · exact hkept
      · exact Store.kept_lists htables hsound
    obtain ⟨hfound, hsound⟩ := Store.kept_some hkept
    obtain ⟨hheader, htables⟩ := Store.found_header hfound
    rw [State.deviceReset_warm rate hkept, State.warmStarted_idles, ← hheader]
    exact ⟨rfl, rfl, htables, Store.warm_dir _, State.warmStarted_total rate hsound, fun p => by cases p <;> rfl, rfl,
      fun p => by cases p <;> rfl⟩
  case refine_13 | refine_14 | refine_15 | refine_16 | refine_17 | refine_18 | refine_19 | refine_20 | refine_21 |
      refine_22 | refine_23 | refine_24 => rw [hsys, hreset]; rfl
  all_goals rw [hreset]; simp [State.afterReset, hsize, hmem, ClockTime.zero]

end Sys2Proof.Machine
end

section
/-! PROOFS. Ring presence, its deadlines and the capture window (O39). -/

namespace Sys2Proof.Machine

/-! ### The deadline list (R30, R63) -/

/-- R30: a due count. -/
theorem State.dueIn_eq (s : State) (ms : Nat) : s.dueIn ms = max 1 ((s.timers.e1.count + ms) % 65536) := by
  unfold State.dueIn compareClamp clamp
  have hmax : Config.max16 = 65535 := rfl
  omega

theorem State.setDeadlines_same (s : State) (d : Deadlines) : SameBut [.timer 1, .ringing] s (s.setDeadlines d) :=
  .of_parts (by simp [State.setDeadlines])

/-- R63: a change of the list writes it and compare A, nothing else of T1. -/
theorem State.setDeadlines_leaves (s : State) (d : Deadlines) :
    (s.setDeadlines d).rau = { s.rau with deadlines := d } ∧
      (s.setDeadlines d).timers.e1.captured = s.timers.e1.captured ∧ (s.setDeadlines d).timers.e1.edge = s.timers.e1.edge ∧
      (s.setDeadlines d).timers.e1.count = s.timers.e1.count :=
  ⟨rfl, rfl, rfl, rfl⟩

/-- A deadline that has fallen due, with the list that remains. -/
def State.deadlineFell (s : State) (due : Nat) (d : Deadlines) : State := (s.reachDue due).setDeadlines d

theorem State.deadlineFell_same (s : State) (due : Nat) (d : Deadlines) :
    SameBut [.timer 1, .ringing] s (s.deadlineFell due d) :=
  .of_parts (by simp [State.deadlineFell, State.setDeadlines, State.reachDue])

theorem State.deadlineFell_rau (s : State) (due : Nat) (d : Deadlines) :
    (s.deadlineFell due d).rau = { s.rau with deadlines := d } := rfl

/-! ### The capture (R72) -/

/-- R72: a capture that is RECEIVING is settled as CORRUPT, and CALLER_ID is raised. -/
theorem State.settleCapture_receiving {s : State} (h : s.rau.caller.state = .receiving) (middle : Bool) :
    (s.settleCapture middle).rau = { s.rau with caller := s.rau.caller.endWith .corrupt } ∧
      ∀ p, (s.settleCapture middle).Noticed p .callerId := by
  unfold State.settleCapture
  rw [h]
  exact ⟨rfl, fun p => State.raiseBoth_noticed _ _ p⟩

/-- R72: a capture that is not RECEIVING is settled without a notice. -/
theorem State.settleCapture_quiet {s : State} (h : s.rau.caller.state ≠ .receiving) (middle : Bool) :
    s.settleCapture middle =
      { s with rau.caller := if s.rau.caller.state = .ended ∨ middle = true then { s.rau.caller with windowOpen := false }
                             else s.rau.caller.endWith .none } := by
  unfold State.settleCapture
  cases hstate : s.rau.caller.state with
  | receiving => exact absurd hstate h
  | listening => cases middle <;> simp
  | ended => simp

/-- R72: the settlement leaves the episode and the deadlines. -/
theorem State.settleCapture_rau (s : State) (middle : Bool) :
    (s.settleCapture middle).rau = { s.rau with caller := (s.settleCapture middle).rau.caller } := by
  unfold State.settleCapture
  split
  · rfl
  · split <;> rfl
  · rfl

/-- R72: at the close of the window a capture is at its end. -/
theorem State.settleCapture_ended (s : State) :
    (s.settleCapture false).rau.caller.state = .ended ∧ (s.settleCapture false).rau.caller.windowOpen = false ∧
      (s.rau.caller.state = .listening → (s.settleCapture false).rau.caller.status = .none) := by
  unfold State.settleCapture
  cases hstate : s.rau.caller.state with
  | receiving => exact ⟨rfl, rfl, nofun⟩
  | listening => exact ⟨rfl, rfl, fun _ => rfl⟩
  | ended => exact ⟨hstate, rfl, nofun⟩

/-! ### The end of a cycle (R67, R74) -/

/-- R67, steps 1 and 2: the ring is counted, and the first cycle ends. -/
def State.ringCounted (s : State) : State :=
  (State.firstCycleEnd
    { s with rau.episode := { s.rau.episode with
        inCycle := false, ringCount := bump Config.max16 s.rau.episode.ringCount } }).raiseBoth .ring

/-- R74: the threshold is noted. -/
def State.thresholdNoted (s : State) : State := { s with rau.episode.threshold := some s.threshold }

theorem State.cycleEnds_eq {s : State} (h : s.rau.episode.active = true) :
    s.cycleEnds = s.ringCounted.answerDecision := by
  unfold State.cycleEnds
  exact if_pos h

/-- R67: without an episode nothing ends. -/
theorem State.cycleEnds_inactive {s : State} (h : s.rau.episode.active = false) : s.cycleEnds = s := by
  unfold State.cycleEnds
  exact if_neg (by simp [h])

/-- R74: an answer that is not due leaves the threshold noted. -/
theorem State.answerDecision_waits {s : State} (h : ¬(s.threshold ≤ s.rau.episode.ringCount ∧ s.mayAnswer)) :
    s.answerDecision = s.thresholdNoted := by
  unfold State.answerDecision
  exact if_neg h

theorem State.firstCycleEnd_same (s : State) : SameBut [.timer 1, .ringing, .episode] s s.firstCycleEnd := by
  unfold State.firstCycleEnd
  split
  · exact .of_parts (by simp [State.setDeadlines])
  · exact .refl _ _

theorem State.ringCounted_same (s : State) : SameBut [.timer 1, .ringing, .episode, .notices .panel] s s.ringCounted := by
  have hepisode : SameBut [.episode] s { s with rau.episode := { s.rau.episode with
      inCycle := false, ringCount := bump Config.max16 s.rau.episode.ringCount } } := .of_parts (by simp)
  exact (hepisode.andThen (State.firstCycleEnd_same _)).andThen (raiseBoth_same _ _) |>.mono (by simp)

theorem State.ringCounted_noticed (s : State) (p : Port) : s.ringCounted.Noticed p .ring :=
  State.raiseBoth_noticed _ _ p

/-- R67: the pattern of an episode at the end of a cycle. -/
def Episode.endPattern (e : Episode) : Nat := if e.firstInProgress = true then min 3 e.firstBursts else e.pattern

/-- R67: the episode after a ring, with its pattern. -/
theorem State.ringCounted_episode (s : State) :
    s.ringCounted.rau.episode = { s.rau.episode with
      inCycle := false, ringCount := bump Config.max16 s.rau.episode.ringCount, firstInProgress := false,
      pattern := s.rau.episode.endPattern } := by
  unfold State.ringCounted State.firstCycleEnd Episode.endPattern
  cases h : s.rau.episode.firstInProgress with
  | false => simp [State.raiseBoth, State.raiseAt, h]
  | true => simp [State.raiseBoth, State.raiseAt, State.setDeadlines]

/-- R67: at the end of a cycle only the deadlines of the capture window change. -/
theorem State.ringCounted_deadlines (s : State) :
    s.ringCounted.rau.presence = s.rau.presence ∧
      s.ringCounted.rau.deadlines.qualify = s.rau.deadlines.qualify ∧
      s.ringCounted.rau.deadlines.cycleEnd = s.rau.deadlines.cycleEnd ∧
      s.ringCounted.rau.deadlines.heldCycleEnd = s.rau.deadlines.heldCycleEnd ∧
      s.ringCounted.rau.deadlines.heldEpisodeEnd = s.rau.deadlines.heldEpisodeEnd := by
  unfold State.ringCounted State.firstCycleEnd
  split <;> exact ⟨rfl, rfl, rfl, rfl, rfl⟩

/-! ### The end of an episode (R68) -/

/-- R19, R68: the episode is entered in the Call History as UNANSWERED. -/
def State.episodeRecorded (s : State) : State :=
  let u := s.settleCapture false
  State.setDeadlines
    { u with
      ccu.lastNumber := u.nextNumber,
      ccu.history := addHistory u.ccu.history (unansweredEntry u.nextNumber u.rau.episode u.rau.caller),
      rau.episode.active := false } .empty

theorem State.episodeEnds_eq {s : State} (h : s.rau.episode.active = true) :
    s.episodeEnds = if s.episodeRecorded.ccu.line = .ringing then s.episodeRecorded.lineFree else s.episodeRecorded := by
  unfold State.episodeEnds
  exact if_pos h

/-- R68: without an episode nothing ends. -/
theorem State.episodeEnds_inactive {s : State} (h : s.rau.episode.active = false) : s.episodeEnds = s := by
  unfold State.episodeEnds
  exact if_neg (by simp [h])

theorem State.episodeRecorded_same (s : State) :
    SameBut [.history, .ccuRest, .timer 1, .ringing, .episode, .caller, .notices .panel] s s.episodeRecorded := by
  have hrecord (u : State) (n : Nat) (h : List HistoryEntry) :
      SameBut [.history, .ccuRest, .timer 1, .ringing, .episode] u
        (State.setDeadlines { u with ccu.lastNumber := n, ccu.history := h, rau.episode.active := false } .empty) :=
    .of_parts (by simp [State.setDeadlines])
  exact ((s.settleCapture_same false).andThen (hrecord _ _ _)).mono (by simp)

/-- R19, R65, R68: the record of an unanswered episode. -/
theorem State.episodeRecorded_leaves (s : State) :
    s.episodeRecorded.ccu.lastNumber = s.nextNumber ∧
      s.episodeRecorded.ccu.history =
        (unansweredEntry s.nextNumber s.rau.episode (s.settleCapture false).rau.caller :: s.ccu.history).take 16 ∧
      s.episodeRecorded.rau.episode = { s.rau.episode with active := false } ∧
      s.episodeRecorded.rau.presence = s.rau.presence ∧
      s.episodeRecorded.rau.deadlines = .empty := by
  have hccu : (s.settleCapture false).ccu = s.ccu := by simp
  have hrau := s.settleCapture_rau false
  refine ⟨?_, ?_, ?_, ?_, rfl⟩ <;>
    simp only [State.episodeRecorded, State.setDeadlines, State.nextNumber, addHistory, hccu] <;> rw [hrau] <;> rfl

/-- R12, R68: with no dial to grant the line is IDLE after the episode. -/
theorem State.episodeEnds_idle {s : State} (hactive : s.rau.episode.active = true)
    (h : s.ccu.line ≠ .ringing ∨ s.ccu.claims = [] ∨ s.lif.lineInUse = true) :
    SameBut [.line, .history, .ccuRest, .timer 1, .ringing, .episode, .caller, .notices .panel] s s.episodeEnds ∧
      s.episodeEnds.ccu.line = (if s.ccu.line = .ringing then .idle else s.ccu.line) ∧
      s.episodeEnds.ccu.lastNumber = s.nextNumber ∧
      s.episodeEnds.ccu.history = s.episodeRecorded.ccu.history ∧
      s.episodeEnds.rau = s.episodeRecorded.rau := by
  have hsame := s.episodeRecorded_same
  have hline : s.episodeRecorded.ccu.line = s.ccu.line := hsame .line (by simp) (by simp)
  have hclaims : s.episodeRecorded.ccu.claims = s.ccu.claims := hsame .claims (by simp) (by simp)
  have hlif : s.episodeRecorded.lif = s.lif := hsame .lif (by simp) (by simp)
  obtain ⟨hnumber, -, -, -, -⟩ := s.episodeRecorded_leaves
  rw [State.episodeEnds_eq hactive, hline]
  by_cases hring : s.ccu.line = .ringing
  · have hfree : s.episodeRecorded.lineFree = s.episodeRecorded.lineTo .idle :=
      State.lineFree_idle (by rw [hclaims, hlif]; exact h.resolve_left (fun hne => hne hring))
    have hto := s.episodeRecorded.lineTo_same .idle
    obtain ⟨hkept, -, -, -⟩ := hto .ccuRest (by simp) (by simp)
    rw [if_pos hring, if_pos hring, hfree]
    exact ⟨(hsame.andThen hto).mono (by simp), State.lineTo_line _ _, hkept.trans hnumber, hto .history (by simp) (by simp),
      by simp⟩
  · rw [if_neg hring, if_neg hring]
    exact ⟨hsame.mono (by simp), hline, hnumber, rfl, rfl⟩

/-! ### A presence (R62, R64) -/

/-- R62, R64: the hangover has run off, and the edge is captured. -/
def State.hangoverEnded (s : State) : State :=
  { s with
    lif.ringPresent := false, lif.hangover := 0, timers.e1 := s.timers.e1.capture .deasserted, rau.presence := .none }

theorem State.hangoverEnded_same (s : State) : SameBut [.lif, .timer 1, .ringing] s s.hangoverEnded :=
  .of_parts (by simp [State.hangoverEnded])

/-- R64: a pending presence is discarded, with the deadlines that it held. -/
def State.presenceDropped (s : State) : State :=
  s.hangoverEnded.setDeadlines { s.rau.deadlines with qualify := none, heldCycleEnd := false, heldEpisodeEnd := false }

theorem State.presenceDropped_same (s : State) : SameBut [.lif, .timer 1, .ringing] s s.presenceDropped :=
  (s.hangoverEnded_same.andThen (State.setDeadlines_same _ _)).mono (by simp)

theorem exec_hangover_qualified {s : State} (hpresent : s.lif.ringPresent = true) (hruns : s.timers.e1.mode = .capture)
    (hpresence : s.rau.presence = .qualified) :
    exec .presenceHangoverExpiry s = finish s.hangoverEnded.burstEnd := by
  show finish (if _ then State.presenceEnd _ else _) = _
  rw [if_pos hpresent]
  unfold State.presenceEnd
  rw [if_pos hruns]
  dsimp only
  rw [hpresence] <;> rfl

theorem exec_hangover_pending {s : State} (hpresent : s.lif.ringPresent = true) (hruns : s.timers.e1.mode = .capture)
    (hpresence : s.rau.presence = .pending) :
    exec .presenceHangoverExpiry s = finish s.hangoverEnded.presenceDiscarded := by
  show finish (if _ then State.presenceEnd _ else _) = _
  rw [if_pos hpresent]
  unfold State.presenceEnd
  rw [if_pos hruns]
  dsimp only
  rw [hpresence] <;> rfl

/-- R64: what the discard of a presence does with the deadlines that it held. -/
theorem State.presenceDiscarded_eq (s : State) :
    s.hangoverEnded.presenceDiscarded =
      if s.rau.deadlines.heldEpisodeEnd = true then
        (if s.rau.deadlines.heldCycleEnd = true then s.presenceDropped.cycleEnds else s.presenceDropped).episodeEnds
      else if s.rau.deadlines.heldCycleEnd = true then s.presenceDropped.cycleEnds
      else s.presenceDropped := rfl

/-- R64: a held deadline has no effect where no episode is in progress. -/
theorem State.presenceDiscarded_inactive {s : State} (h : s.rau.episode.active = false) :
    s.hangoverEnded.presenceDiscarded = s.presenceDropped := by
  have hdropped : s.presenceDropped.rau.episode.active = false := h
  rw [State.presenceDiscarded_eq, State.cycleEnds_inactive hdropped, ite_self, State.episodeEnds_inactive hdropped,
    ite_self]

/-- R66: a burst qualified outside an episode, the line IDLE, brings RINGING. -/
theorem State.burstQualified_starts {s : State} (h : s.rau.episode.active = false) (hpower : s.power.low = false)
    (hline : s.ccu.line = .idle) :
    s.burstQualified = State.lineTo
      { s with
        rau.episode :=
          { active := true, firstInProgress := true, inCycle := true, firstBursts := 1, pattern := 0, ringCount := 0,
            startTime := s.calendar.time, seconds := 0, threshold := s.rau.episode.threshold },
        rau.caller := .fresh } .ringing := by
  unfold State.burstQualified
  rw [if_neg (by simp [h]), if_neg (by simp [hpower])]
  exact if_pos hline

/-- R66, R69: a burst qualified in an episode. -/
theorem State.burstQualified_continues {s : State} (h : s.rau.episode.active = true) :
    s.burstQualified = { s.closeWindowAtBurst with rau.episode := s.closeWindowAtBurst.rau.episode.burst } := by
  unfold State.burstQualified
  exact if_pos h

/-- R66: the episode after a further burst. -/
theorem State.closeWindowAtBurst_rau (s : State) :
    s.closeWindowAtBurst.rau = { s.rau with caller := s.closeWindowAtBurst.rau.caller } := by
  unfold State.closeWindowAtBurst
  split
  · exact s.settleCapture_rau _
  · rfl

/-! ### The rows of the deadlines (R64, R66 to R69) -/

/-- R64, R66: QUALIFY falls due within a pending presence. -/
theorem exec_qualifyDeadline {s : State} {due : Nat} (hdue : s.rau.deadlines.qualify = some due)
    (hpresence : s.rau.presence = .pending) :
    exec .qualifyDeadline s = finish (State.burstQualified
      { s.deadlineFell due { s.rau.deadlines with qualify := none, heldCycleEnd := false, heldEpisodeEnd := false } with
        rau.presence := .qualified }) := by
  show execQualifyDeadline s = _
  unfold execQualifyDeadline
  rw [hdue]
  exact congrArg finish (if_pos hpresence)

/-- R64: a cycle end falls due. -/
theorem exec_cycleEnd {s : State} {due : Nat} (hdue : s.rau.deadlines.cycleEnd = some due) :
    exec .cycleEnd s =
      finish (if s.rau.presence = .none ∨ ¬s.startedBefore due then
          (s.deadlineFell due { s.rau.deadlines with cycleEnd := none }).cycleEnds
        else if s.rau.presence = .pending then
          { s.deadlineFell due { s.rau.deadlines with cycleEnd := none } with rau.deadlines.heldCycleEnd := true }
        else s.deadlineFell due { s.rau.deadlines with cycleEnd := none }) := by
  show execCycleEnd s = _
  unfold execCycleEnd
  rw [hdue]
  rfl

/-- R64: an episode end falls due. -/
theorem exec_episodeEnd {s : State} {due : Nat} (hdue : s.rau.deadlines.episodeEnd = some due) :
    exec .episodeEnd s =
      finish (if s.rau.presence = .none ∨ ¬s.startedBefore due then
          (s.deadlineFell due { s.rau.deadlines with episodeEnd := none }).episodeEnds
        else if s.rau.presence = .pending then
          { s.deadlineFell due { s.rau.deadlines with episodeEnd := none } with rau.deadlines.heldEpisodeEnd := true }
        else s.deadlineFell due { s.rau.deadlines with episodeEnd := none }) := by
  show execEpisodeEnd s = _
  unfold execEpisodeEnd
  rw [hdue]
  rfl

/-- R69: the capture window opens. -/
theorem exec_windowOpen {s : State} {due : Nat} (hdue : s.rau.deadlines.windowOpen = some due)
    (hcaller : s.rau.caller.state ≠ .ended) :
    exec .windowOpen s = finish
      { s.deadlineFell due { s.rau.deadlines with windowOpen := none } with rau.caller.windowOpen := true } := by
  show execWindowOpen s = _
  unfold execWindowOpen
  rw [hdue]
  exact congrArg finish (if_neg hcaller)

/-- R69, R72: the capture window closes. -/
theorem exec_captureWindowClose {s : State} {due : Nat} (hdue : s.rau.deadlines.windowClose = some due) :
    exec .windowClose s =
      finish ((s.deadlineFell due { s.rau.deadlines with windowClose := none }).settleCapture false) := by
  show execWindowClose s = _
  unfold execWindowClose
  rw [hdue]
  rfl

/-! ### The obligation -/

/-- A row's end that leaves the Line Interface as the row did. -/
theorem finish_line {c : Instr} {s u : State} {parts : List Part} (hexec : exec c s = finish u)
    (hsame : SameBut parts s u) :
    ∃ t, exec c s = .next t ∧ u.Delivered t ∧ t.lif = u.lif ∧ SameBut parts s t :=
  ⟨_, hexec, u.deliverSystem_delivered, by simp, hsame.finish⟩

theorem exec_ringDetectorEdge_repeated {s : State} (h : s.lif.ringPresent = true) :
    exec .ringDetectorEdge s = finish { s with lif.ringPresent := true, lif.hangover := 0 } :=
  congrArg finish (if_pos h)

/-- R62, R64: the first edge of a presence. -/
theorem exec_ringDetectorEdge_first {s : State} (h : s.lif.ringPresent = false) (hruns : s.timers.e1.mode = .capture) :
    exec .ringDetectorEdge s = finish
      (State.setDeadlines
        { s with
          lif.ringPresent := true, lif.hangover := 0,
          timers.e1 := s.timers.e1.capture .asserted, rau.presence := .pending }
        { s.rau.deadlines with qualify := some (s.dueIn Config.qualifyMs) }) := by
  show finish (if _ then _ else State.presenceStart _) = _
  rw [if_neg (by simp [h])]
  unfold State.presenceStart
  exact congrArg finish (if_pos hruns)

theorem ringEdge_followed (s : State) :
    (s.lif.ringPresent = false → s.timers.e1.mode = .capture →
      ∃ t, exec .ringDetectorEdge s = .next t ∧ t.lif = { s.lif with ringPresent := true, hangover := 0 } ∧
        t.rau.presence = .pending ∧ t.timers.e1.captured = s.timers.e1.count ∧ t.timers.e1.edge = .asserted ∧
        t.rau.deadlines = { s.rau.deadlines with qualify := some (max 1 ((s.timers.e1.count + 200) % 65536)) } ∧
        SameBut [.lif, .timer 1, .ringing] s t) ∧
    (s.lif.ringPresent = true →
      ∃ t, exec .ringDetectorEdge s = .next t ∧ t.lif = { s.lif with hangover := 0 } ∧ SameBut [.lif] s t) := by
  constructor
  · intro h hruns
    obtain ⟨t, hnext, ht, hlif, hsame⟩ := finish_line (parts := [.lif, .timer 1, .ringing])
      (exec_ringDetectorEdge_first h hruns) (.of_parts (by simp [State.setDeadlines]))
    refine ⟨t, hnext, hlif, ?_, ?_, ?_, ?_, hsame⟩
    · rw [ht.rau]; rfl
    · rw [ht.timers]; rfl
    · rw [ht.timers]; rfl
    · rw [ht.rau, s.dueIn_eq]; rfl
  · intro h
    obtain ⟨t, hnext, ht, hlif, hsame⟩ := finish_line (parts := [.lif])
      (exec_ringDetectorEdge_repeated h) (.of_parts (by simp))
    refine ⟨t, hnext, ?_, hsame⟩
    rw [hlif]
    exact congrArg (fun b => { s.lif with ringPresent := b, hangover := 0 }) h.symm

/-- R64: a qualified burst has ended. -/
theorem burstEnd_followed {s : State} (hpresent : s.lif.ringPresent = true) (hruns : s.timers.e1.mode = .capture)
    (hpresence : s.rau.presence = .qualified) :
    ∃ t, exec .presenceHangoverExpiry s = .next t ∧
      t.lif = { s.lif with ringPresent := false, hangover := 0 } ∧ t.rau.presence = .none ∧
      t.timers.e1.captured = s.timers.e1.count ∧ t.timers.e1.edge = .deasserted ∧
      t.rau.deadlines.cycleEnd = some (max 1 ((s.timers.e1.count + 1000) % 65536)) ∧
      t.rau.deadlines.episodeEnd = some (max 1 ((s.timers.e1.count + 8000) % 65536)) ∧
      (s.rau.episode.active = true → s.rau.episode.firstInProgress = true →
        t.rau.deadlines.windowOpen = some (max 1 ((s.timers.e1.count + 200) % 65536))) ∧
      SameBut [.lif, .timer 1, .ringing] s t := by
  obtain ⟨t, hnext, ht, hlif, hsame⟩ := finish_line (exec_hangover_qualified hpresent hruns hpresence)
    (s.hangoverEnded_same.andThen (State.setDeadlines_same _ _))
  have hcount : s.hangoverEnded.timers.e1.count = s.timers.e1.count := rfl
  refine ⟨t, hnext, hlif, ?_, ?_, ?_, ?_, ?_, fun hactive hfirst => ?_, hsame.mono (by simp)⟩
  · rw [ht.rau]; rfl
  · rw [ht.timers]; rfl
  · rw [ht.timers]; rfl
  · rw [ht.rau, ← hcount]
    exact congrArg some (State.dueIn_eq _ _)
  · rw [ht.rau, ← hcount]
    exact congrArg some (State.dueIn_eq _ _)
  · rw [ht.rau, ← hcount]
    exact (if_pos ⟨hactive, hfirst⟩).trans (congrArg some (State.dueIn_eq _ _))

/-- R64: a pending presence is discarded with no held deadline that has an effect. -/
theorem presenceDrop_followed {s : State} (hpresent : s.lif.ringPresent = true) (hruns : s.timers.e1.mode = .capture)
    (hpresence : s.rau.presence = .pending)
    (h : (s.rau.deadlines.heldCycleEnd = false ∧ s.rau.deadlines.heldEpisodeEnd = false) ∨ s.rau.episode.active = false) :
    ∃ t, exec .presenceHangoverExpiry s = .next t ∧ t.rau.presence = .none ∧ t.rau.deadlines.qualify = none ∧
      t.rau.deadlines.heldCycleEnd = false ∧ t.rau.deadlines.heldEpisodeEnd = false ∧
      SameBut [.lif, .timer 1, .ringing] s t := by
  have hdropped : s.hangoverEnded.presenceDiscarded = s.presenceDropped := by
    rcases h with ⟨hcycle, hepisode⟩ | hinactive
    · rw [State.presenceDiscarded_eq, if_neg (by simp [hepisode]), if_neg (by simp [hcycle])]
    · exact State.presenceDiscarded_inactive hinactive
  obtain ⟨t, hnext, ht, hsame⟩ := finish_does
    ((exec_hangover_pending hpresent hruns hpresence).trans (congrArg finish hdropped)) s.presenceDropped_same
  refine ⟨t, hnext, ?_, ?_, ?_, ?_, hsame⟩ <;> rw [ht.rau] <;> rfl

/-- R67, R74: a cycle end that brings no answer. -/
theorem State.cycleEnds_waits {s : State} (hactive : s.rau.episode.active = true) (h : ¬s.mayAnswer) :
    s.cycleEnds = s.ringCounted.thresholdNoted := by
  have hsame := s.ringCounted_same
  have hline : s.ringCounted.ccu.line = s.ccu.line := hsame .line (by simp) (by simp)
  have hlif : s.ringCounted.lif = s.lif := hsame .lif (by simp) (by simp)
  have hpower : s.ringCounted.power = s.power := hsame .power (by simp) (by simp)
  have hmay : ¬s.ringCounted.mayAnswer := by
    unfold State.mayAnswer
    rwa [hline, hlif, hpower]
  rw [State.cycleEnds_eq hactive, State.answerDecision_waits fun hdue => hmay hdue.2]

theorem State.thresholdNoted_same (s : State) : SameBut [.episode] s s.thresholdNoted :=
  .of_parts (by simp [State.thresholdNoted])

/-- R64, R67: a held cycle end is taken as the presence is discarded, and brings no answer. -/
theorem heldCycle_followed {s : State} (hpresent : s.lif.ringPresent = true) (hruns : s.timers.e1.mode = .capture)
    (hpresence : s.rau.presence = .pending) (hactive : s.rau.episode.active = true)
    (hcycle : s.rau.deadlines.heldCycleEnd = true) (hepisode : s.rau.deadlines.heldEpisodeEnd = false)
    (h : s.ccu.line ≠ .ringing ∨ s.lif.lineInUse = true ∨ s.power.low = true) :
    ∃ t, exec .presenceHangoverExpiry s = .next t ∧ t.rau.presence = .none ∧
      t.rau.deadlines.heldCycleEnd = false ∧ t.rau.deadlines.qualify = none ∧ t.rau.episode.active = true ∧
      t.rau.episode.inCycle = false ∧ t.rau.episode.ringCount = bump 65535 s.rau.episode.ringCount ∧
      t.rau.episode.firstInProgress = false ∧ (∀ p, t.Noticed p .ring) ∧
      SameBut [.lif, .timer 1, .ringing, .episode, .notices .panel] s t := by
  have hmay : ¬s.presenceDropped.mayAnswer := by
    rintro ⟨hline, huse, hpower⟩
    rcases h with h | h | h
    · exact h hline
    · exact absurd (h.symm.trans huse) (by decide)
    · exact absurd (h.symm.trans hpower) (by decide)
  have hdone : s.hangoverEnded.presenceDiscarded = s.presenceDropped.ringCounted.thresholdNoted := by
    rw [State.presenceDiscarded_eq, if_neg (by simp [hepisode]), if_pos hcycle,
      State.cycleEnds_waits (s := s.presenceDropped) hactive hmay]
  obtain ⟨t, hnext, ht, hsame⟩ := finish_does
    ((exec_hangover_pending hpresent hruns hpresence).trans (congrArg finish hdone))
    ((s.presenceDropped_same.andThen s.presenceDropped.ringCounted_same).andThen (State.thresholdNoted_same _))
  obtain ⟨lpresence, lqualify, -, lheld, -⟩ := s.presenceDropped.ringCounted_deadlines
  have hnoted : t.rau.episode = { s.presenceDropped.ringCounted.rau.episode with
      threshold := some s.presenceDropped.ringCounted.threshold } := by
    rw [ht.rau]; rfl
  rw [State.ringCounted_episode] at hnoted
  refine ⟨t, hnext, ?_, ?_, ?_, ?_, ?_, ?_, ?_, fun p => ?_, hsame.mono (by simp)⟩
  · rw [ht.rau]; exact lpresence
  · rw [ht.rau]; exact lheld
  · rw [ht.rau]; exact lqualify
  · rw [hnoted]; exact hactive
  · rw [hnoted]
  · rw [hnoted]; rfl
  · rw [hnoted]
  · exact ht.notice p .ring ((s.presenceDropped.ringCounted_noticed p).congr (fun _ => rfl) rfl)

/-- R64, R68: a held episode end is taken as the presence is discarded, after a held cycle end. -/
theorem heldEpisode_followed {s : State} (hpresent : s.lif.ringPresent = true) (hruns : s.timers.e1.mode = .capture)
    (hpresence : s.rau.presence = .pending) (hactive : s.rau.episode.active = true)
    (hepisode : s.rau.deadlines.heldEpisodeEnd = true)
    (h : s.ccu.line ≠ .ringing ∨ s.lif.lineInUse = true ∨ (s.rau.deadlines.heldCycleEnd = false ∧ s.ccu.claims = [])) :
    ∃ t, exec .presenceHangoverExpiry s = .next t ∧ t.rau.presence = .none ∧ t.rau.episode.active = false ∧
      t.ccu.lastNumber = s.nextNumber ∧
      (∃ e : HistoryEntry, t.ccu.history = (e :: s.ccu.history).take 16 ∧ e.outcome = .unanswered ∧
        e.number = s.nextNumber ∧ e.startTime = s.rau.episode.startTime) ∧
      t.rau.episode.ringCount = (if s.rau.deadlines.heldCycleEnd = true then bump 65535 s.rau.episode.ringCount
        else s.rau.episode.ringCount) ∧
      t.ccu.line = (if s.ccu.line = .ringing then .idle else s.ccu.line) ∧ t.rau.deadlines = Deadlines.empty ∧
      SameBut [.lif, .line, .history, .ccuRest, .timer 1, .ringing, .episode, .caller, .notices .panel] s t := by
  set u := if s.rau.deadlines.heldCycleEnd = true then s.presenceDropped.ringCounted.thresholdNoted else s.presenceDropped
    with hu
  have hdone : s.hangoverEnded.presenceDiscarded = u.episodeEnds := by
    rw [State.presenceDiscarded_eq, if_pos hepisode, hu]
    by_cases hcycle : s.rau.deadlines.heldCycleEnd = true
    · have hmay : ¬s.presenceDropped.mayAnswer := by
        rintro ⟨hline, huse, -⟩
        rcases h with h | h | ⟨h, -⟩
        · exact h hline
        · exact absurd (h.symm.trans huse) (by decide)
        · exact absurd (hcycle.symm.trans h) (by decide)
      rw [if_pos hcycle, if_pos hcycle, State.cycleEnds_waits (s := s.presenceDropped) hactive hmay]
    · rw [if_neg hcycle, if_neg hcycle]
  have husame : SameBut [.lif, .timer 1, .ringing, .episode, .notices .panel] s u := by
    rw [hu]
    split
    · exact ((s.presenceDropped_same.andThen s.presenceDropped.ringCounted_same).andThen
        (State.thresholdNoted_same _)).mono (by simp)
    · exact s.presenceDropped_same.mono (by simp)
  have hucount : u.rau.episode.ringCount = (if s.rau.deadlines.heldCycleEnd = true then bump 65535 s.rau.episode.ringCount
      else s.rau.episode.ringCount) ∧ u.rau.episode.active = true ∧
      u.rau.episode.startTime = s.rau.episode.startTime ∧ u.rau.presence = .none := by
    rw [hu]
    split
    · have hcounted := s.presenceDropped.ringCounted_episode
      obtain ⟨hnone, -⟩ := s.presenceDropped.ringCounted_deadlines
      have hnoted : s.presenceDropped.ringCounted.thresholdNoted.rau.episode =
          { s.presenceDropped.ringCounted.rau.episode with threshold := some s.presenceDropped.ringCounted.threshold } := rfl
      rw [hnoted, hcounted]
      exact ⟨rfl, hactive, rfl, hnone⟩
    · exact ⟨rfl, hactive, rfl, rfl⟩
  obtain ⟨hringCount, huactive, hstart, hnone⟩ := hucount
  have hline : u.ccu.line = s.ccu.line := husame .line (by simp) (by simp)
  have hclaims : u.ccu.claims = s.ccu.claims := husame .claims (by simp) (by simp)
  have hhistory : u.ccu.history = s.ccu.history := husame .history (by simp) (by simp)
  obtain ⟨hlast, -, -, -⟩ := husame .ccuRest (by simp) (by simp)
  have hnumber : u.nextNumber = s.nextNumber := by rw [State.nextNumber, State.nextNumber, hlast]
  have huse : s.lif.lineInUse = true → u.lif.lineInUse = true := fun huse => by
    rw [hu]
    split
    · have hkept : s.presenceDropped.ringCounted.lif = s.presenceDropped.lif :=
        s.presenceDropped.ringCounted_same .lif (by simp) (by simp)
      exact (congrArg Lif.lineInUse hkept).trans huse
    · exact huse
  have hends := State.episodeEnds_idle huactive (by
    rw [hline, hclaims]
    rcases h with h | h | ⟨-, h⟩
    · exact .inl h
    · exact .inr (.inr (huse h))
    · exact .inr (.inl h))
  obtain ⟨hsame, lline, lnumber, lhistory, lrau⟩ := hends
  obtain ⟨-, rhistory, repisode, rpresence, rdeadlines⟩ := u.episodeRecorded_leaves
  obtain ⟨t, hnext, ht, hall⟩ := finish_does
    ((exec_hangover_pending hpresent hruns hpresence).trans (congrArg finish hdone)) (husame.andThen hsame)
  refine ⟨t, hnext, ?_, ?_, ?_, ⟨unansweredEntry u.nextNumber u.rau.episode (u.settleCapture false).rau.caller, ?_, rfl, ?_, ?_⟩,
    ?_, ?_, ?_, hall.mono (by simp)⟩
  · rw [ht.rau, lrau, rpresence, hnone]
  · rw [ht.rau, lrau, repisode]
  · rw [ht.ccu, lnumber, hnumber]
  · rw [ht.ccu, lhistory, rhistory, hhistory]
  · exact hnumber
  · exact hstart
  · rw [ht.rau, lrau, repisode]
    exact hringCount
  · rw [ht.ccu, lline, hline]
  · rw [ht.rau, lrau, rdeadlines]

theorem State.lineTo_unit (s : State) (l : LineState) : (s.lineTo l).rau = s.rau := by simp

/-- R66: a qualified presence in IDLE starts an episode. -/
theorem qualify_starts {s : State} {due : Nat} (hdue : s.rau.deadlines.qualify = some due)
    (hpresence : s.rau.presence = .pending) (hactive : s.rau.episode.active = false) (hpower : s.power.low = false)
    (hline : s.ccu.line = .idle) :
    ∃ t, exec .qualifyDeadline s = .next t ∧ t.rau.presence = .qualified ∧ t.ccu.line = .ringing ∧
      t.rau.episode.active = true ∧ t.rau.episode.firstInProgress = true ∧ t.rau.episode.inCycle = true ∧
      t.rau.episode.firstBursts = 1 ∧ t.rau.episode.ringCount = 0 ∧ t.rau.episode.seconds = 0 ∧
      t.rau.episode.startTime = s.calendar.time ∧ t.rau.caller.state = .listening ∧ t.rau.caller.bytes = [] ∧
      t.rau.deadlines.qualify = none ∧ SameBut [.line, .timer 1, .ringing, .episode, .caller, .notices .panel] s t := by
  have hexec := (exec_qualifyDeadline hdue hpresence).trans
    (congrArg finish (State.burstQualified_starts hactive hpower hline))
  obtain ⟨t, hnext, ht, hsame⟩ := finish_does (parts := [.line, .timer 1, .ringing, .episode, .caller, .notices .panel])
    hexec (SameBut.trans (.of_parts (by simp [State.deadlineFell, State.setDeadlines, State.reachDue]))
      ((State.lineTo_same _ _).mono (by simp)))
  refine ⟨t, hnext, ?_, ?_, ?_, ?_, ?_, ?_, ?_, ?_, ?_, ?_, ?_, ?_, hsame⟩
  case refine_2 => rw [ht.ccu, State.lineTo_line]
  all_goals rw [ht.rau, State.lineTo_unit] <;> rfl

/-- R64, R66, R69: a qualified presence in an episode continues it. -/
theorem qualify_continues {s : State} {due : Nat} (hdue : s.rau.deadlines.qualify = some due)
    (hpresence : s.rau.presence = .pending) (hactive : s.rau.episode.active = true) :
    ∃ t, exec .qualifyDeadline s = .next t ∧ t.rau.presence = .qualified ∧
      t.rau.deadlines =
        { s.rau.deadlines with qualify := none, heldCycleEnd := false, heldEpisodeEnd := false } ∧
      t.rau.episode = { s.rau.episode with
        inCycle := true,
        firstBursts := if s.rau.episode.firstInProgress = true then bump 255 s.rau.episode.firstBursts
          else s.rau.episode.firstBursts } ∧
      (s.rau.caller.windowOpen = false → t.rau.caller = s.rau.caller ∧
        SameBut [.timer 1, .ringing, .episode] s t) ∧
      (s.rau.caller.windowOpen = true → s.rau.caller.state = .receiving →
        t.rau.caller = { s.rau.caller with
          state := .ended, status := .corrupt, number := none, name := none, windowOpen := false } ∧
        (∀ p, t.Noticed p .callerId)) ∧
      (s.rau.caller.windowOpen = true → s.rau.caller.state ≠ .receiving →
        t.rau.caller =
          (if s.rau.caller.state = .ended ∨ s.rau.episode.firstInProgress = true then
            { s.rau.caller with windowOpen := false }
           else { s.rau.caller with
                  state := .ended, status := .none, number := none, name := none, windowOpen := false }) ∧
        SameBut [.timer 1, .ringing, .episode, .caller] s t) ∧
      SameBut [.timer 1, .ringing, .episode, .caller, .notices .panel] s t := by
  set u : State :=
    { s.deadlineFell due { s.rau.deadlines with qualify := none, heldCycleEnd := false, heldEpisodeEnd := false } with
      rau.presence := .qualified } with hu
  have husame : SameBut [.timer 1, .ringing] s u :=
    .of_parts (by simp [hu, State.deadlineFell, State.setDeadlines, State.reachDue])
  have hburst (v : State) (e : Episode) : SameBut [.episode] v { v with rau.episode := e } := .of_parts (by simp)
  have hexec := (exec_qualifyDeadline hdue hpresence).trans (congrArg finish (State.burstQualified_continues hactive))
  have hcaller : SameBut [.caller, .notices .panel] u u.closeWindowAtBurst := by
    unfold State.closeWindowAtBurst
    split
    · exact u.settleCapture_same _
    · exact .refl _ _
  obtain ⟨t, hnext, ht, hsame⟩ := finish_does hexec ((husame.andThen hcaller).andThen (hburst _ _))
  have hrau : t.rau = { u.rau with caller := u.closeWindowAtBurst.rau.caller, episode := u.rau.episode.burst } := by
    rw [ht.rau]
    dsimp only
    rw [u.closeWindowAtBurst_rau]
  have hframe {parts : List Part} (hclose : SameBut parts u u.closeWindowAtBurst) :
      SameBut ([.timer 1, .ringing] ++ parts ++ [.episode]) s t := by
    obtain ⟨w, hw, -, hwsame⟩ := finish_does hexec ((husame.andThen hclose).andThen (hburst _ _))
    obtain rfl := Host.Outcome.next.inj (hw.symm.trans hnext)
    exact hwsame
  refine ⟨t, hnext, by rw [hrau], by rw [hrau]; rfl, by rw [hrau]; rfl, fun hclosed => ?_, fun hopen hstate => ?_,
    fun hopen hstate => ?_, hsame.mono (by simp)⟩
  · have hnot : u.closeWindowAtBurst = u := if_neg (by simp [hu, State.deadlineFell, State.setDeadlines, hclosed])
    refine ⟨?_, (hframe (parts := []) (by rw [hnot]; exact .refl _ _)).mono (by simp)⟩
    rw [hrau, hnot]
    rfl
  · have hclose : u.closeWindowAtBurst = u.settleCapture u.rau.episode.firstInProgress := if_pos hopen
    obtain ⟨hsettled, hnoticed⟩ := State.settleCapture_receiving (s := u) hstate u.rau.episode.firstInProgress
    refine ⟨?_, fun p => ht.notice p .callerId ?_⟩
    · rw [hrau, hclose, hsettled]
      rfl
    · rw [← hclose] at hnoticed
      exact (hnoticed p).congr (fun _ => rfl) rfl
  · have hclose : u.closeWindowAtBurst = u.settleCapture u.rau.episode.firstInProgress := if_pos hopen
    have hquiet := State.settleCapture_quiet (s := u) hstate u.rau.episode.firstInProgress
    refine ⟨?_, (hframe (parts := [.caller]) ?_).mono (by simp)⟩
    · rw [hrau, hclose, hquiet]
      rfl
    · rw [hclose, hquiet]
      exact .of_parts (by simp)

/-- R64: a deadline that falls due within a presence is held by a pending one and dropped by a qualified one. -/
theorem deadlines_within {s : State} {due : Nat} (hwithin : s.startedBefore due) :
    (s.rau.deadlines.cycleEnd = some due → s.rau.presence = .pending →
      ∃ t, exec .cycleEnd s = .next t ∧
        t.rau.deadlines = { s.rau.deadlines with cycleEnd := none, heldCycleEnd := true } ∧
        SameBut [.timer 1, .ringing] s t) ∧
    (s.rau.deadlines.cycleEnd = some due → s.rau.presence = .qualified →
      ∃ t, exec .cycleEnd s = .next t ∧ t.rau.deadlines = { s.rau.deadlines with cycleEnd := none } ∧
        SameBut [.timer 1, .ringing] s t) ∧
    (s.rau.deadlines.episodeEnd = some due → s.rau.presence = .pending →
      ∃ t, exec .episodeEnd s = .next t ∧
        t.rau.deadlines = { s.rau.deadlines with episodeEnd := none, heldEpisodeEnd := true } ∧
        SameBut [.timer 1, .ringing] s t) ∧
    (s.rau.deadlines.episodeEnd = some due → s.rau.presence = .qualified →
      ∃ t, exec .episodeEnd s = .next t ∧ t.rau.deadlines = { s.rau.deadlines with episodeEnd := none } ∧
        SameBut [.timer 1, .ringing] s t) := by
  have hnot {p : Presence} (hpresence : s.rau.presence = p) (hp : p ≠ .none) :
      ¬(s.rau.presence = .none ∨ ¬s.startedBefore due) := by
    rintro (hnone | hlate)
    · exact hp (hpresence.symm.trans hnone)
    · exact hlate hwithin
  have hheld (d : Deadlines) (held : Deadlines → Deadlines) :
      SameBut [.timer 1, .ringing] s { s.deadlineFell due d with rau.deadlines := held d } :=
    .of_parts (by simp [State.deadlineFell, State.setDeadlines, State.reachDue])
  refine ⟨fun hdue hpresence => ?_, fun hdue hpresence => ?_, fun hdue hpresence => ?_, fun hdue hpresence => ?_⟩
  · have hexec := exec_cycleEnd hdue
    rw [if_neg (hnot hpresence (by decide)), if_pos hpresence] at hexec
    obtain ⟨t, hnext, ht, hsame⟩ := finish_does hexec (hheld _ fun d => { d with heldCycleEnd := true })
    exact ⟨t, hnext, by rw [ht.rau]; rfl, hsame⟩
  · have hexec := exec_cycleEnd hdue
    rw [if_neg (hnot hpresence (by decide)), if_neg (by rw [hpresence]; decide)] at hexec
    obtain ⟨t, hnext, ht, hsame⟩ := finish_does hexec (s.deadlineFell_same _ _)
    exact ⟨t, hnext, by rw [ht.rau]; rfl, hsame⟩
  · have hexec := exec_episodeEnd hdue
    rw [if_neg (hnot hpresence (by decide)), if_pos hpresence] at hexec
    obtain ⟨t, hnext, ht, hsame⟩ := finish_does hexec (hheld _ fun d => { d with heldEpisodeEnd := true })
    exact ⟨t, hnext, by rw [ht.rau]; rfl, hsame⟩
  · have hexec := exec_episodeEnd hdue
    rw [if_neg (hnot hpresence (by decide)), if_neg (by rw [hpresence]; decide)] at hexec
    obtain ⟨t, hnext, ht, hsame⟩ := finish_does hexec (s.deadlineFell_same _ _)
    exact ⟨t, hnext, by rw [ht.rau]; rfl, hsame⟩

/-- R69, R72: the capture window opens and closes. -/
theorem window_followed (s : State) :
    (∀ due, s.rau.deadlines.windowOpen = some due → s.rau.caller.state ≠ .ended →
      ∃ t, exec .windowOpen s = .next t ∧ t.rau.caller = { s.rau.caller with windowOpen := true } ∧
        t.rau.deadlines.windowOpen = none ∧ SameBut [.timer 1, .ringing, .caller] s t) ∧
    (∀ due, s.rau.deadlines.windowClose = some due →
      ∃ t, exec .windowClose s = .next t ∧ t.rau.caller.state = .ended ∧ t.rau.caller.windowOpen = false ∧
        t.rau.deadlines.windowClose = none ∧
        (s.rau.caller.state = .listening → t.rau.caller.status = .none) ∧
        (s.rau.caller.state = .receiving → t.rau.caller.status = .corrupt ∧
          (∀ p, t.Noticed p .callerId)) ∧
        SameBut [.timer 1, .ringing, .caller, .notices .panel] s t) := by
  refine ⟨fun due hdue hcaller => ?_, fun due hdue => ?_⟩
  · obtain ⟨t, hnext, ht, hsame⟩ := finish_does (parts := [.timer 1, .ringing, .caller]) (exec_windowOpen hdue hcaller)
      (.of_parts (by simp [State.deadlineFell, State.setDeadlines, State.reachDue]))
    exact ⟨t, hnext, by rw [ht.rau]; rfl, by rw [ht.rau]; rfl, hsame⟩
  · set u := s.deadlineFell due { s.rau.deadlines with windowClose := none }
    obtain ⟨t, hnext, ht, hsame⟩ := finish_does (exec_captureWindowClose hdue)
      ((s.deadlineFell_same _ _).andThen (u.settleCapture_same false))
    obtain ⟨hended, hclosed, hlistening⟩ := u.settleCapture_ended
    refine ⟨t, hnext, ?_, ?_, ?_, fun h => ?_, fun h => ?_, hsame⟩
    · rw [ht.rau]; exact hended
    · rw [ht.rau]; exact hclosed
    · rw [ht.rau, u.settleCapture_rau]; rfl
    · rw [ht.rau]; exact hlistening h
    · obtain ⟨hsettled, hnoticed⟩ := State.settleCapture_receiving (s := u) h false
      exact ⟨by rw [ht.rau, hsettled]; rfl, fun p => ht.notice p .callerId (hnoticed p)⟩

/-- Settles O39: the edges, the discards, the qualification, the deadlines within a presence and the window, row by row. -/
theorem ringingFollowed : Obligations.RingingFollowed := by
  intro s
  obtain ⟨hfirst, hrepeated⟩ := ringEdge_followed s
  obtain ⟨hopens, hcloses⟩ := window_followed s
  exact ⟨hfirst, hrepeated, burstEnd_followed, presenceDrop_followed,
    fun hpresent hruns hpresence hactive =>
      ⟨heldCycle_followed hpresent hruns hpresence hactive, heldEpisode_followed hpresent hruns hpresence hactive⟩,
    fun _ => qualify_starts, fun _ => qualify_continues, fun _ => deadlines_within, hopens, hcloses⟩

end Sys2Proof.Machine
end

section
/-! PROOFS. The bytes of caller data (O41): a message read field by field, and the byte that completes it. -/

namespace Sys2Proof.Machine

/-! ### Fields (R71) -/

theorem numberOf_eq (v : List Byte) :
    numberOf v = if goodNumber v = true then some (v.map (fun d => d.toNat - 0x30)) else none := by
  unfold numberOf goodNumber
  simp only [Bool.and_eq_true, decide_eq_true_eq, and_assoc]

theorem nameOf_eq (v : List Byte) : nameOf v = if goodName v = true then some v else none := by
  unfold nameOf goodName
  simp only [Bool.and_eq_true, decide_eq_true_eq, and_assoc]

/-- R71: what a tag gives: the value read before, or that of its first field; none where that field is bad. -/
def fieldSlot {α : Type} (read : List Byte → Option α) : Option α → Option (List Byte) → Option (Option α)
  | some a, _ => some (some a)
  | none, none => some none
  | none, some v => (read v).map some

/-- R71: the fields of a list, taken after those read before. -/
def CallerFields.withFields (x : CallerFields) (fs : List (Byte × List Byte)) : Option CallerFields :=
  (fieldSlot numberOf x.number (firstField fs 0x11#8)).bind fun number =>
    (fieldSlot nameOf x.name (firstField fs 0x12#8)).bind fun name =>
      (fieldSlot absenceOf x.absence (firstField fs 0x13#8)).map fun absence => ⟨number, name, absence⟩

theorem fieldSlot_none {α : Type} (read : List Byte → Option α) (x : Option α) : fieldSlot read x none = some x := by
  cases x <;> rfl

/-- R71: one field first, then those after it. -/
theorem CallerFields.withFields_cons (x : CallerFields) (tag : Byte) (v : List Byte) (fs : List (Byte × List Byte)) :
    x.withFields ((tag, v) :: fs) = (x.take tag v).bind fun y => y.withFields fs := by
  obtain ⟨number, name, absence⟩ := x
  unfold CallerFields.take CallerFields.withFields
  simp only [firstField_cons]
  by_cases h11 : tag = 0x11#8
  · subst h11
    cases number with
    | none => cases hread : numberOf v <;> simp [fieldSlot, hread]
    | some n => simp [fieldSlot]
  · by_cases h12 : tag = 0x12#8
    · subst h12
      cases name with
      | none => cases hread : nameOf v <;> cases number <;> simp [fieldSlot, hread]
      | some n => simp [fieldSlot]
    · by_cases h13 : tag = 0x13#8
      · subst h13
        cases absence with
        | none => cases hread : absenceOf v <;> cases number <;> cases name <;> simp [fieldSlot, hread]
        | some a => simp [fieldSlot]
      · simp [h11, h12, h13]

/-- R71: a list that begins with whole fields is read field by field. -/
theorem readFields_fields (rest : List Byte) :
    ∀ (fs : List (Byte × List Byte)) (fuel : Nat) (x : CallerFields), (∀ f ∈ fs, f.2.length < 256) →
      readFields (fuel + fs.length) x (fieldBytes fs ++ rest) = (x.withFields fs).bind fun y => readFields fuel y rest
  | [], fuel, x, _ => by
    simp [fieldBytes, CallerFields.withFields, firstField, fieldSlot_none]
  | (tag, v) :: fs, fuel, x, hlen => by
    have hlast : (BitVec.ofNat 8 v.length).toNat = v.length := by
      rw [BitVec.toNat_ofNat, Nat.mod_eq_of_lt (hlen (tag, v) List.mem_cons_self)]
    have hbytes : fieldBytes ((tag, v) :: fs) ++ rest =
        tag :: BitVec.ofNat 8 v.length :: (v ++ (fieldBytes fs ++ rest)) := by
      simp [fieldBytes]
    rw [hbytes, List.length_cons, ← Nat.add_assoc, readFields, hlast, if_pos (by simp), List.take_left, List.drop_left,
      CallerFields.withFields_cons]
    cases htake : x.take tag v with
    | none => rfl
    | some y => exact readFields_fields rest fs fuel y fun f hf => hlen f (List.mem_cons_of_mem _ hf)

/-- R71: bytes that end within a field are not read. -/
theorem readFields_cutShort {rest : List Byte} (h : cutShort rest = true) (fuel : Nat) (x : CallerFields) :
    readFields fuel x rest = none := by
  match rest, fuel with
  | [_], 0 => rfl
  | [_], _ + 1 => rfl
  | _ :: _ :: _, 0 => rfl
  | _ :: len :: v, _ + 1 =>
    have hshort : v.length < len.toNat := by simpa [cutShort] using h
    rw [readFields, if_neg (by omega)]

/-! ### The outcome (R71) -/

/-- R71: the status, the number and the name that the fields of a message give. -/
def CallerFields.result (x : CallerFields) : CallerStatus × Option (List Nat) × Option (List Byte) :=
  match x.number, x.name, x.absence with
  | some n, name, _ => (.received, some n, name)
  | none, some name, _ => (.received, none, some name)
  | none, none, some a => (a, none, none)
  | none, none, none => (.unavailable, none, none)

/-- R71: the outcome of a capture, from its status, its number and its name. -/
def CallerBuffer.ended (c : CallerBuffer) (r : CallerStatus × Option (List Nat) × Option (List Byte)) : CallerBuffer :=
  { c with state := .ended, status := r.1, number := r.2.1, name := r.2.2, windowOpen := false }

theorem CallerFields.outcome_eq (x : CallerFields) (c : CallerBuffer) : x.outcome c = c.ended x.result := by
  obtain ⟨number, name, absence⟩ := x
  cases number <;> cases name <;> cases absence <;> rfl

theorem CallerBuffer.endWith_eq (c : CallerBuffer) (x : CallerStatus) : c.endWith x = c.ended (x, none, none) := rfl

theorem fieldSlot_number (o : Option (List Byte)) :
    fieldSlot numberOf none o =
      if o.all goodNumber = true then some (o.map fun v => v.map (fun d => d.toNat - 0x30)) else none := by
  cases o with
  | none => rfl
  | some v => cases h : goodNumber v <;> simp [fieldSlot, numberOf_eq, h]

theorem fieldSlot_name (o : Option (List Byte)) :
    fieldSlot nameOf none o = if o.all goodName = true then some o else none := by
  cases o with
  | none => rfl
  | some v => cases h : goodName v <;> simp [fieldSlot, nameOf_eq, h]

theorem fieldSlot_absence (o : Option (List Byte)) :
    fieldSlot absenceOf none o =
      if o.all (fun v => v == [1#8] || v == [2#8]) = true then
        some (o.map fun v => if v = [1#8] then .withheld else .unavailable)
      else none := by
  cases o with
  | none => rfl
  | some v =>
    by_cases h1 : v = [1#8]
    · simp [fieldSlot, absenceOf, h1]
    · by_cases h2 : v = [2#8] <;> simp [fieldSlot, absenceOf, h1, h2]

/-- R71: the outcome of whole fields, of each tag the first one. -/
theorem fieldsOutcome_eq (fs : List (Byte × List Byte)) :
    fieldsOutcome fs =
      (((⟨none, none, none⟩ : CallerFields).withFields fs).map CallerFields.result).getD (.corrupt, none, none) := by
  unfold fieldsOutcome CallerFields.withFields
  rw [fieldSlot_number, fieldSlot_name, fieldSlot_absence]
  generalize firstField fs 0x11#8 = number, firstField fs 0x12#8 = name, firstField fs 0x13#8 = absence
  by_cases hnumber : number.all goodNumber = true
  · by_cases hname : name.all goodName = true
    · by_cases habsence : absence.all (fun v => v == [1#8] || v == [2#8]) = true
      · simp only [hnumber, hname, habsence, and_self, if_true]
        cases number <;> cases name <;> cases absence <;> rfl
      · simp [hnumber, hname, habsence]
    · simp [hnumber, hname]
  · simp [hnumber]

/-! ### A message judged (R70, R71) -/

theorem fieldBytes_length_le {fs : List (Byte × List Byte)} {f : Byte × List Byte} (hf : f ∈ fs) :
    f.2.length ≤ (fieldBytes fs).length := by
  induction fs with
  | nil => cases hf
  | cons g fs ih =>
    have hlength : (fieldBytes (g :: fs)).length = g.2.length + 2 + (fieldBytes fs).length := by
      simp [fieldBytes]
      omega
    rcases List.mem_cons.mp hf with rfl | hf
    · omega
    · have := ih hf
      omega

theorem length_le_fieldBytes (fs : List (Byte × List Byte)) : fs.length ≤ (fieldBytes fs).length := by
  induction fs with
  | nil => exact Nat.zero_le _
  | cons g fs ih =>
    have hlength : (fieldBytes (g :: fs)).length = g.2.length + 2 + (fieldBytes fs).length := by
      simp [fieldBytes]
      omega
    rw [List.length_cons]
    omega

/-- R71: a message whose bytes sum to 0 and end with whole fields has their outcome, and one that ends within a field is
CORRUPT. -/
theorem readFields_message {fs : List (Byte × List Byte)} {rest : List Byte}
    (hshort : (fieldBytes fs ++ rest).length < 64) (hrest : rest = [] ∨ cutShort rest = true) :
    ((readFields Config.callerBytesMax ⟨none, none, none⟩ (fieldBytes fs ++ rest)).map CallerFields.result).getD
        (.corrupt, none, none) =
      if rest = [] then fieldsOutcome fs else (.corrupt, none, none) := by
  rw [List.length_append] at hshort
  have hfew : fs.length ≤ Config.callerBytesMax := by
    have hle := length_le_fieldBytes fs
    have hmax : Config.callerBytesMax = 64 := rfl
    omega
  have hread := readFields_fields rest fs (Config.callerBytesMax - fs.length) ⟨none, none, none⟩ fun f hf => by
    have hle := fieldBytes_length_le hf
    omega
  rw [Nat.sub_add_cancel hfew] at hread
  rw [hread]
  rcases hrest with rfl | hcut
  · rw [if_pos rfl, fieldsOutcome_eq]
    have hend (n : Nat) (y : CallerFields) : readFields n y [] = some y := by
      cases n <;> rfl
    simp only [hend]
    cases CallerFields.withFields ⟨none, none, none⟩ fs <;> rfl
  · have hnonempty : rest ≠ [] := by
      rintro rfl
      simp [cutShort] at hcut
    rw [if_neg hnonempty]
    simp only [readFields_cutShort hcut]
    cases CallerFields.withFields ⟨none, none, none⟩ fs <;> rfl

/-- R71: a complete message judged. -/
theorem CallerBuffer.judge_message {c : CallerBuffer} {b m n : Byte} {fs : List (Byte × List Byte)} {rest : List Byte}
    (hbytes : c.bytes = m :: n :: (fieldBytes fs ++ rest) ++ [b]) (hshort : c.bytes.length < 65)
    (hlength : c.length.map (· + 3) = some c.bytes.length)
    (hrest : byteSum c.bytes = 0#8 → rest = [] ∨ cutShort rest = true) :
    c.judge = c.ended (if byteSum c.bytes = 0#8 ∧ rest = [] then fieldsOutcome fs else (.corrupt, none, none)) := by
  have hcount : c.bytes.length = (fieldBytes fs ++ rest).length + 3 := by
    rw [hbytes]
    simp [Nat.add_assoc]
  have hannounced : c.length.getD 0 = (fieldBytes fs ++ rest).length := by
    cases hl : c.length with
    | none => simp [hl] at hlength
    | some l =>
      rw [hl, Option.map_some, hcount] at hlength
      simpa using hlength
  have hfields : (c.bytes.drop 2).take (c.length.getD 0) = fieldBytes fs ++ rest := by
    rw [hannounced, hbytes]
    exact List.take_left
  unfold CallerBuffer.judge
  by_cases hsum : byteSum c.bytes = 0#8
  · rw [if_neg (by simpa using hsum), hfields]
    have hread := readFields_message (fs := fs) (rest := rest) (by omega) (hrest hsum)
    have hgood : (byteSum c.bytes = 0#8 ∧ rest = []) ↔ rest = [] := and_iff_right hsum
    rw [if_congr hgood rfl rfl, ← hread]
    cases readFields Config.callerBytesMax ⟨none, none, none⟩ (fieldBytes fs ++ rest) with
    | none => rfl
    | some x => exact x.outcome_eq c
  · rw [if_pos hsum, if_neg fun h => hsum h.1]
    rfl

/-! ### The rows (R69, R70) -/

theorem exec_callerDataByte_listening {s : State} (h : s.receivesCaller) (hstate : s.rau.caller.state = .listening)
    (b : Byte) :
    exec (.callerDataByte b) s =
      finish (if b = 0x90#8 then { s with rau.caller := { s.rau.caller with bytes := [b], state := .receiving } }
        else s) := by
  show finish (if _ then _ else _) = _
  rw [if_pos h, hstate] <;> rfl

theorem exec_callerDataByte_receiving {s : State} (h : s.receivesCaller) (hstate : s.rau.caller.state = .receiving)
    (b : Byte) : exec (.callerDataByte b) s = finish (s.callerByte b) := by
  show finish (if _ then _ else _) = _
  rw [if_pos h, hstate] <;> rfl

/-- R70: the state with a byte stored. -/
def State.callerStored (s : State) (b : Byte) : State := { s with rau.caller.bytes := s.rau.caller.bytes ++ [b] }

/-- R70: a byte after the second one is stored, and a whole message judged. -/
theorem State.callerByte_stores {s : State} (hsecond : 2 ≤ s.rau.caller.bytes.length)
    (hroom : s.rau.caller.bytes.length < 64) (b : Byte) : s.callerByte b = (s.callerStored b).judgeCaller := by
  unfold State.callerByte
  dsimp only
  rw [if_neg (by omega)]
  exact if_pos hroom

/-- R71: the whole message is judged, its deadlines are removed and CALLER_ID is raised. -/
theorem State.judgeCaller_whole {s : State} (h : s.rau.caller.whole) :
    s.judgeCaller =
      (State.setDeadlines { s with rau.caller := s.rau.caller.judge }
        { s.rau.deadlines with windowOpen := none, windowClose := none }).raiseBoth .callerId := by
  unfold State.judgeCaller
  exact if_pos h

/-- R70: bytes before the last one of a message. -/
theorem callerByte_stored {s : State} (h : s.receivesCaller) (hstate : s.rau.caller.state = .receiving) (b : Byte) :
    (s.rau.caller.bytes.length = 1 →
      ∃ t, exec (.callerDataByte b) s = .next t ∧
        t.rau.caller = { s.rau.caller with bytes := s.rau.caller.bytes ++ [b], length := some b.toNat } ∧
        SameBut [.caller] s t) ∧
    (2 ≤ s.rau.caller.bytes.length → s.rau.caller.bytes.length < 64 →
      s.rau.caller.length.map (· + 3) ≠ some (s.rau.caller.bytes.length + 1) →
      ∃ t, exec (.callerDataByte b) s = .next t ∧
        t.rau.caller = { s.rau.caller with bytes := s.rau.caller.bytes ++ [b] } ∧ SameBut [.caller] s t) ∧
    (64 ≤ s.rau.caller.bytes.length →
      ∃ t, exec (.callerDataByte b) s = .next t ∧
        t.rau.caller = { s.rau.caller with state := .ended, status := .corrupt, number := none, name := none,
                                           windowOpen := false } ∧
        (∀ p, t.Noticed p .callerId) ∧ SameBut [.caller, .notices .panel] s t) := by
  have hexec := exec_callerDataByte_receiving h hstate b
  have hframe (c : CallerBuffer) : SameBut [.caller] s { s with rau.caller := c } := .of_parts (by simp)
  refine ⟨fun hone => ?_, fun hsecond hroom hmore => ?_, fun hfull => ?_⟩
  · obtain ⟨t, hnext, ht, hsame⟩ := finish_does (hexec.trans (congrArg finish (if_pos hone))) (hframe _)
    exact ⟨t, hnext, by rw [ht.rau], hsame⟩
  · have hstored : s.callerByte b = s.callerStored b := by
      rw [State.callerByte_stores hsecond hroom]
      unfold State.judgeCaller
      refine if_neg fun hwhole => hmore (hwhole.trans ?_)
      simp [State.callerStored]
    obtain ⟨t, hnext, ht, hsame⟩ := finish_does (hexec.trans (congrArg finish hstored)) (hframe _)
    exact ⟨t, hnext, by rw [ht.rau]; rfl, hsame⟩
  · have hends : s.callerByte b = s.settleCapture false := by
      have hmax : Config.callerBytesMax = 64 := rfl
      unfold State.callerByte
      dsimp only
      rw [if_neg (by omega), if_neg (by omega)]
    obtain ⟨t, hnext, ht, hsame⟩ := finish_does (hexec.trans (congrArg finish hends)) (s.settleCapture_same false)
    obtain ⟨hsettled, hnoticed⟩ := State.settleCapture_receiving hstate false
    exact ⟨t, hnext, by rw [ht.rau, hsettled]; rfl, fun p => ht.notice p .callerId (hnoticed p), hsame⟩

/-- R71: the last byte of a message. -/
theorem callerByte_last {s : State} {b m n : Byte} {fields : List (Byte × List Byte)} {rest : List Byte}
    {x : CallerStatus} {number : Option (List Nat)} {name : Option (List Byte)} (h : s.receivesCaller)
    (hstate : s.rau.caller.state = .receiving) (hbytes : s.rau.caller.bytes = m :: n :: (fieldBytes fields ++ rest))
    (hroom : s.rau.caller.bytes.length < 64)
    (hlast : s.rau.caller.length.map (· + 3) = some (s.rau.caller.bytes.length + 1))
    (hrest : byteSum (s.rau.caller.bytes ++ [b]) = 0#8 → rest = [] ∨ cutShort rest = true)
    (hresult : (x, number, name) =
      (if byteSum (s.rau.caller.bytes ++ [b]) = 0#8 ∧ rest = [] then fieldsOutcome fields
       else (.corrupt, none, none))) :
    ∃ t, exec (.callerDataByte b) s = .next t ∧
      t.rau.caller = { s.rau.caller with bytes := s.rau.caller.bytes ++ [b], state := .ended, status := x,
                                         number := number, name := name, windowOpen := false } ∧
      (∀ p, t.Noticed p .callerId) ∧
      t.rau.deadlines.windowOpen = none ∧ t.rau.deadlines.windowClose = none ∧
      SameBut [.timer 1, .ringing, .caller, .notices .panel] s t := by
  have hwhole : (s.callerStored b).rau.caller.whole := by
    rw [CallerBuffer.whole, State.callerStored, List.length_append]
    exact hlast
  have hdone : s.callerByte b = _ :=
    (State.callerByte_stores (by rw [hbytes]; simp) hroom b).trans (State.judgeCaller_whole hwhole)
  have hjudged : (s.callerStored b).rau.caller.judge = (s.callerStored b).rau.caller.ended (x, number, name) := by
    rw [hresult]
    refine CallerBuffer.judge_message (m := m) (n := n) (b := b) ?_ ?_ hwhole hrest
    · exact congrArg (· ++ [b]) hbytes
    · rw [State.callerStored, List.length_append]
      exact Nat.succ_lt_succ hroom
  have hstored (c : CallerBuffer) (d : Deadlines) :
      SameBut [.timer 1, .ringing, .caller] s (State.setDeadlines { s.callerStored b with rau.caller := c } d) :=
    .of_parts (by simp [State.setDeadlines, State.callerStored])
  obtain ⟨t, hnext, ht, hsame⟩ := finish_does
    ((exec_callerDataByte_receiving h hstate b).trans (congrArg finish hdone))
    ((hstored _ _).andThen (State.raiseBoth_same _ .callerId))
  refine ⟨t, hnext, ?_, fun p => ht.notice p .callerId (State.raiseBoth_noticed _ _ p), ?_, ?_, hsame⟩
  · rw [ht.rau, hjudged]; rfl
  · rw [ht.rau]; rfl
  · rw [ht.rau]; rfl

/-- Settles O41: the bytes by the state of the capture, the last one by the fields of its message. -/
theorem callerDataTaken : Obligations.CallerDataTaken := by
  intro s
  refine ⟨fun h hstate => ⟨?_, fun b hb => ?_⟩, fun b h hstate => callerByte_stored h hstate b,
    fun _ _ _ _ _ _ _ _ => callerByte_last, fun h hstate => ?_, fun b h => ?_⟩
  · obtain ⟨t, hnext, ht, hsame⟩ := finish_does (parts := [.caller])
      ((exec_callerDataByte_listening h hstate _).trans (congrArg finish (if_pos rfl))) (.of_parts (by simp))
    exact ⟨t, hnext, by rw [ht.rau], hsame⟩
  · exact finish_idles ((exec_callerDataByte_listening h hstate b).trans (congrArg finish (if_neg hb)))
  · obtain ⟨t, hnext, ht, hsame⟩ := finish_does (c := .callerByteFramingError) (u := s.settleCapture false)
      (congrArg finish (if_pos ⟨h, hstate⟩)) (s.settleCapture_same false)
    obtain ⟨hsettled, hnoticed⟩ := State.settleCapture_receiving hstate false
    exact ⟨t, hnext, by rw [ht.rau, hsettled]; rfl, by rw [ht.rau, hsettled]; rfl, by rw [ht.rau, hsettled]; rfl,
      by rw [ht.rau, hsettled]; rfl, fun p => ht.notice p .callerId (hnoticed p), hsame⟩
  · exact finish_idles (c := .callerDataByte b) (congrArg finish (if_neg h))

end Sys2Proof.Machine
end

section
/-! PROOFS. Block levels and the digits of a connected call (O42): the samples of a path, the block that they close, and what
the Tone Unit does with it. -/

namespace Sys2Proof.Machine

/-! ### Samples (R85, R86) -/

theorem PathMeter.addAll_eq (xs : List Sample) : ∀ m : PathMeter,
    m.addAll xs = ⟨m.acc + (xs.map sampleTerm).sum, m.count + xs.length, m.level⟩ := by
  induction xs with
  | nil => intro m; rfl
  | cons x xs ih =>
    intro m
    show (m.add x).addAll xs = _
    rw [ih]
    simp [PathMeter.add, Nat.add_assoc, Nat.add_comm 1]

theorem PathMeter.addAll_nil (m : PathMeter) : m.addAll [] = m := rfl

/-- R86: samples that do not fill the block. -/
theorem closesBlock_open {m : PathMeter} {xs : List Sample} (h : m.count + xs.length < 128) :
    closesBlock m xs = false ∧ (splitAtBoundary m xs).1 = xs := by
  have hblock : Config.blockSamples = 128 := rfl
  constructor
  · unfold closesBlock
    exact decide_eq_false (by omega)
  · exact List.take_of_length_le (by omega)

/-- R86: samples that fill the block. -/
theorem closesBlock_full {m : PathMeter} {xs : List Sample} (h : m.count + xs.length = 128) :
    closesBlock m xs = true ∧ splitAtBoundary m xs = (xs, []) := by
  have hblock : Config.blockSamples = 128 := rfl
  constructor
  · unfold closesBlock
    exact decide_eq_true (by omega)
  · unfold splitAtBoundary
    rw [List.take_of_length_le (by omega), List.drop_of_length_le (by omega), List.take_nil]

theorem PathMeter.close_eq (m : PathMeter) (xs : List Sample) : (m.addAll xs).close = ⟨0, 0, logCode (blockMean m xs)⟩ := by
  rw [PathMeter.addAll_eq]
  rfl

theorem PathMeter.addAll_mean (m : PathMeter) (xs : List Sample) : (m.addAll xs).mean = blockMean m xs := by
  rw [PathMeter.addAll_eq]
  rfl

theorem LevelMeter.micSamples_open {m : LevelMeter} {xs : List Sample} (h : m.mic.count + xs.length < 128) :
    m.micSamples xs = ({ m with mic := m.mic.addAll xs }, none) := by
  obtain ⟨hopen, hnow⟩ := closesBlock_open h
  unfold LevelMeter.micSamples
  dsimp only
  rw [hnow, if_neg (by simp [hopen])]

theorem LevelMeter.micSamples_full {m : LevelMeter} {xs : List Sample} (h : m.mic.count + xs.length = 128) :
    m.micSamples xs = ({ m with mic := ⟨0, 0, logCode (blockMean m.mic xs)⟩ }, some (logCode (blockMean m.mic xs))) := by
  obtain ⟨hfull, hsplit⟩ := closesBlock_full h
  unfold LevelMeter.micSamples
  dsimp only
  rw [hsplit, if_pos hfull, PathMeter.close_eq, PathMeter.addAll_nil]

theorem LevelMeter.lineSamples_open {m : LevelMeter} {xs : List Sample} (h : m.line.count + xs.length < 128) (relay : Bool)
    (bs : List (List Sample)) :
    m.lineSamples relay xs bs =
      ({ m with
         line := m.line.addAll xs, bands := addBands m.bandsOn m.bands (bs.map (List.take (128 - m.line.count))) }, none) := by
  obtain ⟨hopen, hnow⟩ := closesBlock_open h
  unfold LevelMeter.lineSamples
  dsimp only
  rw [hnow, if_neg (by simp [hopen])] <;> rfl

/-- R87: the bands beside the line while they are measured. -/
theorem addBands_on {bands : List PathMeter} {bs : List (List Sample)} (h : bs.length = bands.length) :
    addBands true bands bs = bands.zipWith (fun m x => m.addAll x) bs := by
  have happend := List.zipWith_append (f := fun (m : PathMeter) (x : List Sample) => m.addAll x) (l₁ := bands)
    (l₁' := []) (l₂ := bs) (l₂' := List.replicate bands.length []) h.symm
  rw [List.append_nil, List.zipWith_nil_left, List.append_nil] at happend
  exact happend

theorem addBands_off (bands : List PathMeter) (bs : List (List Sample)) : addBands false bands bs = bands := rfl

/-- The samples of the bands that belong to the block of the line. -/
theorem map_take_whole {bs : List (List Sample)} {n k : Nat} (h : ∀ b ∈ bs, b.length = n) (hle : n ≤ k) :
    bs.map (List.take k) = bs := by
  refine (List.map_congr_left fun b hb => ?_).trans (List.map_id bs)
  exact List.take_of_length_le ((h b hb).trans_le hle)

/-- R85: a block in which no band is measured closes. -/
theorem LevelMeter.lineSamples_full {m : LevelMeter} {xs : List Sample} (h : m.line.count + xs.length = 128)
    (hoff : m.bandsOn = false) (relay : Bool) (bs : List (List Sample)) :
    (m.lineSamples relay xs bs).1.line = ⟨0, 0, logCode (blockMean m.line xs)⟩ ∧
      (m.lineSamples relay xs bs).1.bandsOn = relay ∧
      (m.lineSamples relay xs bs).2 = some ⟨logCode (blockMean m.line xs), none⟩ := by
  obtain ⟨hfull, hsplit⟩ := closesBlock_full h
  unfold LevelMeter.lineSamples
  dsimp only
  rw [hsplit, if_pos hfull, PathMeter.close_eq, PathMeter.addAll_nil, if_neg (by simp [hoff]), if_neg (by simp [hoff])]
  exact ⟨rfl, rfl, rfl⟩

/-- R87: a block in which the bands were measured closes with their figures. -/
theorem State.LineBlockMeasured.closes_with {s : State} {xs : List Sample} {bands : List (List Sample)} {b : ToneBlock}
    (h : s.LineBlockMeasured xs bands b) :
    (s.level.lineSamples s.lif.relayClosed xs bands).2 = some ⟨b.whole, some b.bands⟩ := by
  obtain ⟨hfull, hsplit⟩ := closesBlock_full h.closes
  obtain ⟨hcount, hlength⟩ := h.beside
  have hblock : Config.blockSamples = 128 := rfl
  have htake : bands.map (List.take (Config.blockSamples - s.level.line.count)) = bands :=
    map_take_whole hlength (by have := h.closes; omega)
  have hfigures : (addBands true s.level.bands bands).map (fun m => BandFigure.mk (logCode m.mean) m.mean) = b.bands := by
    rw [addBands_on hcount, List.map_zipWith, h.figures, List.map_zipWith]
    simp only [PathMeter.addAll_mean]
  unfold LevelMeter.lineSamples
  dsimp only
  rw [hsplit, if_pos hfull, PathMeter.close_eq, htake, h.measured, hfigures, h.whole]
  rfl

/-! ### A block of the line (R51, R76, R87) -/

/-- R156: a path that no recording takes. -/
theorem State.recordFrom_none {s : State} {path : AudioPath} (h : ¬s.recordsFrom path) (m : PathMeter) (xs : List Sample)
    (level : Option Nat) : s.recordFrom path m xs level = s := by
  unfold State.recordFrom
  exact if_neg h

/-- R32, R51, R76: what the close of the line's block does before the Tone Unit takes it. -/
def State.lineBlockTaken (s : State) (m : LevelMeter) (level : Nat) : State :=
  ((({ s with level := m } : State).blockRestarts .line level).countHeard level).blankPasses

theorem State.blockRestarts_same (s : State) (path : AudioPath) (level : Nat) :
    SameBut allTimers s (s.blockRestarts path level) :=
  .of_parts (by simp [allTimers, State.blockRestarts])

theorem State.blockRestarts_get (s : State) (path : AudioPath) (level : Nat) (n : Fin 8) :
    (s.blockRestarts path level).timers.get n = (s.timers.get n).blockRestart path level :=
  Eight.get_mapIdx _ _ n

/-- R32: a restart sets the count and nothing else. -/
theorem Channel.blockRestart_eq (c : Channel) (path : AudioPath) (level : Nat) :
    ∃ n, c.blockRestart path level = { c with count := n } := by
  have hrestarted : ∃ n, c.restarted = { c with count := n } := by
    unfold Channel.restarted
    split <;> exact ⟨_, rfl⟩
  unfold Channel.blockRestart
  split
  · split
    · exact hrestarted
    · exact ⟨c.count, rfl⟩
  · exact ⟨c.count, rfl⟩

theorem State.countHeard_same (s : State) (level : Nat) : SameBut [.discr] s (s.countHeard level) := by
  unfold State.countHeard
  split
  · exact .refl _ _
  · split
    · exact .of_parts (by simp)
    · exact .refl _ _

/-- R76: the heard count of a discrimination. -/
theorem State.countHeard_discr (s : State) (level : Nat) :
    (s.countHeard level).rau.discr = s.rau.discr.map (fun d =>
      { d with heard := if d.phase ≠ .beep ∧ s.settings.silenceLevel ≤ level then bump 65535 d.heard else d.heard }) := by
  unfold State.countHeard
  cases h : s.rau.discr with
  | none => exact h
  | some d =>
    dsimp only
    split
    · next hloud => simp only [Option.map_some, if_pos hloud]
    · next hquiet => simp only [Option.map_some, if_neg hquiet, h]

theorem State.countHeard_none {s : State} (h : s.rau.discr = none) (level : Nat) : s.countHeard level = s := by
  unfold State.countHeard
  rw [h]

theorem State.countHeard_tone (s : State) (level : Nat) :
    (s.countHeard level).tone = s.tone ∧ (s.countHeard level).timers = s.timers ∧ (s.countHeard level).level = s.level := by
  unfold State.countHeard
  split
  · exact ⟨rfl, rfl, rfl⟩
  · split <;> exact ⟨rfl, rfl, rfl⟩

theorem State.blankPasses_tone (s : State) :
    s.blankPasses.tone = { s.tone with blank := if s.inBurst then s.tone.blank else s.tone.blank - 1 } := by
  unfold State.blankPasses
  split <;> rfl

theorem State.blankPasses_same (s : State) : SameBut [.detectors] s s.blankPasses := by
  unfold State.blankPasses
  split
  · exact .refl _ _
  · exact .of_parts (by simp)

theorem State.blankPasses_leaves (s : State) :
    s.blankPasses.timers = s.timers ∧ s.blankPasses.level = s.level ∧ s.blankPasses.rau = s.rau := by
  unfold State.blankPasses
  split <;> exact ⟨rfl, rfl, rfl⟩

/-- R32, R51, R76: what the close of the line's block leaves before the Tone Unit takes it. -/
structure LineBlockTaken (s u : State) (m : LevelMeter) (level : Nat) : Prop where
  meter : u.level = m
  timers : ∀ n : Fin 8, u.timers.get n = (s.timers.get n).blockRestart .line level
  tone : u.tone = { s.tone with blank := if s.inBurst then s.tone.blank else s.tone.blank - 1 }
  discr : u.rau.discr = s.rau.discr.map (fun d =>
    { d with heard := if d.phase ≠ .beep ∧ s.settings.silenceLevel ≤ level then bump 65535 d.heard else d.heard })
  frame : SameBut ([.level, .detectors, .discr] ++ allTimers) s u
  plain : s.rau.discr = none → SameBut ([.level, .detectors] ++ allTimers) s u

theorem State.lineBlockTaken_taken (s : State) (m : LevelMeter) (level : Nat) :
    LineBlockTaken s (s.lineBlockTaken m level) m level := by
  set r := ({ s with level := m } : State).blockRestarts .line level with hr
  have hlevel : SameBut [.level] s { s with level := m } := .of_parts (by simp)
  have hrestarts := State.blockRestarts_same { s with level := m } .line level
  obtain ⟨htone, htimers, hmeter⟩ := r.countHeard_tone level
  obtain ⟨ptimers, plevel, prau⟩ := (r.countHeard level).blankPasses_leaves
  obtain ⟨n, hn⟩ := s.timers.e0.blockRestart_eq .line level
  have hburst : r.inBurst ↔ s.inBurst := by
    have he0 : r.timers.e0 = { s.timers.e0 with count := n } := hn
    simp only [State.inBurst, State.generatorSends, he0]
    exact Iff.rfl
  have hheard : (r.countHeard level).inBurst ↔ s.inBurst := by
    simp only [State.inBurst, State.generatorSends, htone, htimers]
    exact hburst
  refine ⟨?_, fun k => ?_, ?_, ?_, ?_, fun hnone => ?_⟩
  · exact plevel.trans hmeter
  · show (r.countHeard level).blankPasses.timers.get k = _
    rw [ptimers, htimers]
    exact State.blockRestarts_get _ _ _ _
  · show (r.countHeard level).blankPasses.tone = _
    by_cases hb : s.inBurst
    · rw [State.blankPasses_tone, if_pos (hheard.mpr hb), if_pos hb, htone]
      rfl
    · rw [State.blankPasses_tone, if_neg (mt hheard.mp hb), if_neg hb, htone]
      rfl
  · show (r.countHeard level).blankPasses.rau.discr = _
    rw [prau]
    exact r.countHeard_discr level
  · exact (((hlevel.andThen hrestarts).andThen (r.countHeard_same level)).andThen (State.blankPasses_same _)).mono
      (by simp [allTimers])
  · have hsilent : r.countHeard level = r := State.countHeard_none (s := r) hnone level
    have hpass := r.blankPasses_same
    show SameBut _ s (r.countHeard level).blankPasses
    rw [hsilent]
    exact ((hlevel.andThen hrestarts).andThen hpass).mono (by simp [allTimers])

/-- R85: samples of the line that fill a block without bands. -/
theorem exec_lineBlock_unmeasured {s : State} {xs : List Sample} {bands : List (List Sample)}
    (hpower : s.power.retention = false) (hrecord : ¬s.recordsFrom .line) (hfull : s.level.line.count + xs.length = 128)
    (hoff : s.level.bandsOn = false) :
    exec (.blockEvent .line xs bands) s = finish (s.lineBlockTaken (s.level.lineSamples s.lif.relayClosed xs bands).1
      (logCode (blockMean s.level.line xs))) := by
  obtain ⟨-, -, hblock⟩ := LevelMeter.lineSamples_full hfull hoff s.lif.relayClosed bands
  show finish (if _ then _ else State.lineSamples _ _ _) = _
  rw [if_neg (by simp [hpower])]
  unfold State.lineSamples
  dsimp only
  rw [hblock, State.recordFrom_none (s := { s with level := (s.level.lineSamples s.lif.relayClosed xs bands).1 }) hrecord]
  rfl

/-- R85 to R87: samples of the line that fill a block with bands. -/
theorem exec_lineBlock {s : State} {xs : List Sample} {bands : List (List Sample)} {b : ToneBlock}
    (h : s.LineBlockCloses xs bands b) :
    exec (.blockEvent .line xs bands) s =
      finish ((s.lineBlockTaken (s.level.lineSamples s.lif.relayClosed xs bands).1 b.whole).toneBlock b) := by
  have hblock := h.closes_with
  have hjudged : decide s.judgesDigit = b.judged := by
    rw [Bool.eq_iff_iff, decide_eq_true_iff]
    exact h.judged.symm
  show finish (if _ then _ else State.lineSamples _ _ _) = _
  rw [if_neg (by simp [h.powered])]
  unfold State.lineSamples
  dsimp only
  rw [hblock,
    State.recordFrom_none (s := { s with level := (s.level.lineSamples s.lif.relayClosed xs bands).1 }) h.unrecorded]
  dsimp only
  unfold State.lineBlock
  dsimp only
  have hsame : decide ({ s with level := (s.level.lineSamples s.lif.relayClosed xs bands).1 } : State).judgesDigit =
    b.judged := hjudged
  rw [hsame] <;> rfl

end Sys2Proof.Machine
end

section
/-! PROOFS. Two statements that fail: the end of a greeting in a fax call (O53), and the last wrong code digit while a channel
shows RECORDING without an operation (O55). -/

namespace Sys2Proof.Machine

/-- A directory entry with nothing but its kind, its state and its chain. -/
def bareEntry (id : Nat) (kind : MsgKind) (state : EntryState) (granules : List Nat) : Entry :=
  { id := id, kind := kind, state := state, isNew := false, slot := none, created := .zero, length := 0,
    granules := granules, callerStatus := none, callerNumber := none, callerName := none, callNumber := none,
    pageCount := 0, pageTable := [], holds := 0 }

/-! ### O53 -/

/-- A call of the automatic answerer that plays a greeting, with sound heard and no room in the store, and whose job is FAX:
its session receives entry 2, of which no page has come. -/
def greetingInFax : State :=
  { State.reset with
    ccu := { State.reset.ccu with
      line := .connected,
      call := { State.reset.ccu.call with active := true, holder := some .auto, job := .fax } },
    rau := { State.reset.rau with
      discr := some { phase := .greeting, greeting := some 1, heard := 1, code := [], codeDigits := 0, wrong := 0 } },
    fax := { State.reset.fax with role := some .receiver, place := .store, linkedId := some 2 },
    voice := { Voice.reset with op := { VoiceOp.start .playing .auto .play .line with message := some 1 } },
    store := { State.reset.store with
      installed := 18, dir := [bareEntry 1 .greeting .complete [16], bareEntry 2 .faxIn .opened [17]], free := [], low := true } }

/-- R143, R147: the end of that call discards the entry without a page. -/
theorem greetingInFax_ends {t : State} (h : exec .playEnd greetingInFax = .next t) : t.store.dir.length = 1 := by
  obtain rfl := Host.Outcome.next.inj h
  decide

/-- Refutes O53: where the store has no room the end of the greeting ends the call, and the end of a FAX call closes its
session, which removes an entry that the statement keeps; the statement does not ask for the job of the call. -/
theorem not_playsAndBeepsEnd : ¬ Obligations.PlaysAndBeepsEnd := by
  rintro ⟨hends, -⟩
  obtain ⟨-, -, -, -, hroom, -⟩ := hends greetingInFax
  obtain ⟨hfull, -⟩ := hroom 1 (bareEntry 1 .greeting .complete [16])
    { phase := .greeting, greeting := some 1, heard := 1, code := [], codeDigits := 0, wrong := 0 } rfl rfl rfl rfl rfl
    (by decide) rfl (by decide) rfl rfl
  obtain ⟨t, hexec, -, hdir⟩ := hfull (.inl (by decide))
  have hone := greetingInFax_ends hexec
  rw [hdir] at hone
  exact absurd hone (by decide)

/-! ### O55 -/

/-- A discriminating call with eleven code digits behind it and two wrong entries, at a block of the digit 1 that is the third
in a row; the channel shows RECORDING from the line with a code byte that waits, but no operation in hand. -/
def lastCodeDigit : State :=
  { State.reset with
    ccu := { State.reset.ccu with
      line := .connected,
      call := { State.reset.ccu.call with active := true, holder := some .auto, job := .discriminate } },
    rau := { State.reset.rau with
      discr := some { phase := .recording, greeting := none, heard := 0, code := [1, 1, 1], codeDigits := 11, wrong := 2 } },
    level := { State.reset.level with
      line := ⟨0, 128, 0⟩, bandsOn := true,
      bands := [⟨0, 128, 0⟩, ⟨0, 128, 0⟩, ⟨0, 128, 0⟩, ⟨0, 128, 0⟩, ⟨134217728, 128, 0⟩, ⟨0, 128, 0⟩, ⟨0, 128, 0⟩,
        ⟨0, 128, 0⟩, ⟨134217728, 128, 0⟩, ⟨0, 128, 0⟩, ⟨0, 128, 0⟩, ⟨0, 128, 0⟩] },
    tone := { State.reset.tone with dtmf := { State.reset.tone.dtmf with candidate := some 1, run := 2 } },
    settings := { Settings.default with remoteEnable := true },
    voice := { Voice.reset with
      op := { VoiceOp.reset with
        state := .recording, user := some .auto, endpoint := some .line, message := some 1,
        waiting := [⟨⟨0, 0⟩, 0⟩] } },
    store := { State.reset.store with installed := 17, dir := [bareEntry 1 .voiceMsg .opened [16]], free := [] } }

/-- The bands of that block, whose samples have come before. -/
def emptyBands : List (List Sample) := List.replicate 12 []

/-- The block that closes. -/
def digitOne : ToneBlock :=
  { whole := 0,
    bands := [⟨0, 0⟩, ⟨0, 0⟩, ⟨0, 0⟩, ⟨0, 0⟩, ⟨80, 1048576⟩, ⟨0, 0⟩, ⟨0, 0⟩, ⟨0, 0⟩, ⟨80, 1048576⟩, ⟨0, 0⟩, ⟨0, 0⟩,
      ⟨0, 0⟩],
    judged := true }

theorem lastCodeDigit_measured : lastCodeDigit.LineBlockMeasured [] emptyBands digitOne where
  powered := rfl
  closes := rfl
  measured := rfl
  beside := by decide
  whole := by decide
  figures := by decide
  judged := by decide

/-- R156: the code byte that waits is written, and the entry grows. -/
theorem lastCodeDigit_writes {t : State} (h : exec (.blockEvent .line [] emptyBands) lastCodeDigit = .next t) :
    t.store.dir.map Entry.length = [5] := by
  obtain rfl := Host.Outcome.next.inj h
  decide

/-- Refutes O55: samples go to the recording that the channel's state shows, and the code byte that waits is written, while the
statement, where no operation is in hand, has the third wrong entry end the call and leave the directory. -/
theorem not_inactivityPrompts : ¬ Obligations.InactivityPrompts := by
  rintro ⟨-, hdigits, -⟩
  obtain ⟨-, -, hdenied, -⟩ := hdigits [] emptyBands digitOne 1
    { phase := .recording, greeting := none, heard := 0, code := [1, 1, 1], codeDigits := 11, wrong := 2 }
    [1, 1, 1, 1] 12 0 lastCodeDigit lastCodeDigit_measured rfl rfl rfl (by decide) (by decide) rfl (by decide) (by decide)
    rfl (by decide) rfl rfl (by decide)
  obtain ⟨t, hexec, hended⟩ := hdenied rfl rfl (by decide) rfl (by decide)
  have hkept : t.store.dir = lastCodeDigit.store.dir := hended.frame .directory (by decide) (by decide)
  have hgrown := lastCodeDigit_writes hexec
  rw [hkept] at hgrown
  exact absurd hgrown (by decide)

end Sys2Proof.Machine
end

section
/-! PROOFS. Two statements on recordings that fail (O16, O54): they ask for enough loud blocks as the recording ends, but the
code byte that the end completes may bring a further loud block, and the count of those saturates. With a shortest message
above the range of its setting the saturated count is too small. -/

namespace Sys2Proof.Machine

/-- A recording with more loud blocks counted than the count can hold, whose last code byte has its high half only and
completes a further loud block. -/
def overfullRecording (user : Party) (endpoint : Endpoint) (kind : MsgKind) : VoiceOp :=
  { VoiceOp.start .recording user .record endpoint with
    message := some 1, kind := some kind, vox := true, loud := 70000, lastLoud := some 0,
    halfByte := some ⟨⟨0, 0⟩, 0⟩, taken := [{ codes := 1, last := 0, loud := true }] }

/-- R157: a shortest message of 1100 seconds, whose loud blocks no saturated count reaches. -/
def longestMinimum : Settings := { Settings.default with minMessageS := 1100 }

/-- A store whose one entry is being recorded. -/
def oneRecording (kind : MsgKind) : Store :=
  { State.reset.store with installed := 17, dir := [bareEntry 1 kind .opened [16]], free := [], low := true }

/-! ### O16 -/

/-- A memo of the Panel Port. -/
def overfullMemo : State :=
  { State.reset with
    settings := longestMinimum, voice := { Voice.reset with op := overfullRecording .panel .local .memo },
    store := oneRecording .memo }

/-- R157: the stopped recording is discarded. -/
theorem overfullMemo_discarded {t : State} (h : exec (.stop ⟨.panel, true⟩) overfullMemo = .next t) :
    t.store.find 1 = none := by
  obtain rfl := Host.Outcome.next.inj h
  decide

/-- Refutes O16: the STOP of a recording with 70000 loud blocks, of which the shortest message asks for 68750, judges one more,
which leaves the count at 65535 and discards the message. -/
theorem not_voiceControlled : ¬ Obligations.VoiceControlled := by
  rintro ⟨-, hstop⟩
  have htakes : overfullMemo.Takes ⟨.panel, true⟩ 0x44#8 := by decide
  have hbusy : overfullMemo.voice.op.state ≠ .idle := by decide
  have hslot (n : Nat) (o : Entry) (h : (bareEntry 1 .memo .opened [16]).slot = some n) :
      overfullMemo.store.greeting n = some o → overfullMemo.store.find o.id = some o ∧ o.id ≠ 1 := by
    cases h
  have hloud : minLoudBlocks overfullMemo.settings.minMessageS ≤ overfullMemo.voice.op.loud := by decide
  obtain ⟨-, -, hkept⟩ := hstop ⟨.panel, true⟩ 1 (bareEntry 1 .memo .opened [16]) overfullMemo htakes rfl hbusy rfl rfl
  obtain ⟨t, hexec, -, -, -, ⟨x, hfind, -⟩, -⟩ := hkept rfl rfl rfl (.inl rfl) hslot hloud
  rw [overfullMemo_discarded hexec] at hfind
  cases hfind

/-! ### O54 -/

/-- A message of the automatic answerer, whose T6 fires. -/
def overfullMessage : State :=
  { State.reset with
    ccu := { State.reset.ccu with
      line := .connected,
      call := { State.reset.ccu.call with active := true, holder := some .auto, job := .discriminate } },
    rau := { State.reset.rau with
      discr := some { phase := .recording, greeting := none, heard := 1, code := [], codeDigits := 0, wrong := 0 } },
    timers := { State.reset.timers with e6 := { State.reset.timers.e6 with mode := .oneShot } },
    settings := longestMinimum, voice := { Voice.reset with op := overfullRecording .auto .line .voiceMsg },
    store := oneRecording .voiceMsg }

/-- R79, R157: the message is not kept, and the call ends with NO_MESSAGE. -/
theorem overfullMessage_discarded {t : State} (h : exec .voxExpiry overfullMessage = .next t) :
    t.ccu.call.cause = some .noMessage := by
  obtain rfl := Host.Outcome.next.inj h
  decide

/-- Refutes O54: the same count ends a recording of the automatic answerer without a message. -/
theorem not_recordingsRunAndEnd : ¬ Obligations.RecordingsRunAndEnd := by
  intro h
  obtain ⟨-, -, -, hauto, -⟩ := h 1 (bareEntry 1 .voiceMsg .opened [16]) overfullMessage rfl rfl rfl rfl rfl
  obtain ⟨hleft, -⟩ := hauto .voxExpiry 0 (.inl ⟨rfl, by decide, rfl⟩) rfl rfl rfl rfl rfl rfl rfl
  obtain ⟨t, hexec, hended, -⟩ := hleft rfl (by decide) (by decide) rfl
  have hcause := congrArg CallRecord.cause hended.call.1
  rw [overfullMessage_discarded hexec] at hcause
  cases hcause

end Sys2Proof.Machine
end

section
/-! PROOFS. The senses of the line (O38). -/

namespace Sys2Proof.Machine

/-- R8: the end of a call leaves the pick-up latch. -/
theorem State.callEnd_pickupLatch {s : State} (hactive : s.ccu.call.active = true) (c : Cause) :
    (s.callEnd c).lif.pickupLatch = s.lif.pickupLatch := by
  have hstopped : (s.causeFixed (s.finalCause c)).stopEngines.lif = s.lif := by simp [State.causeFixed]
  have hreleased (u : State) (x : Cause) : (u.released x).lif.pickupLatch = u.lif.pickupLatch := by
    simp [State.released, State.openRelay]
  rw [State.callEnd_eq hactive, hreleased, hstopped]

/-! ### The voltage sense (R7, R12) -/

/-- R7: LINE_IN_USE has turned over. -/
def State.lineUseTurned (s : State) : State :=
  State.raiseBoth { s with lif.lineInUse := s.lif.voltageBelow, lif.voltageRun := 0 } .lineAlert

theorem State.lineUseTurned_same (s : State) : SameBut [.lif, .notices .panel] s s.lineUseTurned := by
  have hlif : SameBut [.lif] s { s with lif.lineInUse := s.lif.voltageBelow, lif.voltageRun := 0 } := .of_parts (by simp)
  exact hlif.andThen (State.raiseBoth_same _ _)

theorem exec_lineInUseRunExpiry {s : State} (hrun : s.lif.voltageRunOn) :
    exec .lineInUseRunExpiry s =
      finish (if s.lif.voltageBelow = false ∧ s.ccu.line = .idle then s.lineUseTurned.serveQueue.getD s.lineUseTurned
        else s.lineUseTurned) :=
  congrArg finish (if_pos hrun)

/-- R12: with no queued dial nothing is granted. -/
theorem State.serveQueue_empty {s : State} (h : s.ccu.claims = []) : s.serveQueue = none := by
  unfold State.serveQueue
  rw [h]
  exact ite_self _

/-- R7, R12: LINE_IN_USE turns over, and no dial is granted. -/
theorem lineInUse_turns {s : State} (hrelay : s.lif.relayClosed = false) (hpresent : s.lif.ringPresent = false)
    (hturns : s.lif.voltageBelow ≠ s.lif.lineInUse)
    (h : s.lif.lineInUse = false ∨ s.ccu.line ≠ .idle ∨ s.ccu.claims = []) :
    ∃ t, exec .lineInUseRunExpiry s = .next t ∧ t.lif.lineInUse = !s.lif.lineInUse ∧ t.lif.voltageRun = 0 ∧
      (∀ p, t.Noticed p .lineAlert) ∧ SameBut [.lif, .notices .panel] s t := by
  have hbelow : s.lif.voltageBelow = !s.lif.lineInUse := by
    revert hturns
    cases s.lif.voltageBelow <;> cases s.lif.lineInUse <;> simp
  have hclaims : s.lineUseTurned.ccu.claims = s.ccu.claims := rfl
  have hexec := exec_lineInUseRunExpiry ⟨hrelay, hpresent, hturns⟩
  have hstays : (if s.lif.voltageBelow = false ∧ s.ccu.line = .idle then s.lineUseTurned.serveQueue.getD s.lineUseTurned
      else s.lineUseTurned) = s.lineUseTurned := by
    split
    · next hfree =>
      have hempty : s.ccu.claims = [] := by
        rcases h with h | h | h
        · exact absurd (hfree.1.symm.trans hbelow) (by simp [h])
        · exact absurd hfree.2 h
        · exact h
      rw [State.serveQueue_empty (hclaims.trans hempty)]
      rfl
    · rfl
  rw [hstays] at hexec
  obtain ⟨t, hnext, ht, hlif, hsame⟩ := finish_line hexec s.lineUseTurned_same
  refine ⟨t, hnext, ?_, ?_, fun p => ht.notice p .lineAlert (State.raiseBoth_noticed _ _ p), hsame⟩
  · rw [hlif]
    exact hbelow
  · rw [hlif]
    rfl

/-- R12: LINE_IN_USE clears in IDLE, and the oldest queued dial has the line. -/
theorem lineInUse_grants {s : State} {c : Claim} {rest : List Claim} (hrelay : s.lif.relayClosed = false)
    (hpresent : s.lif.ringPresent = false) (hturns : s.lif.voltageBelow ≠ s.lif.lineInUse) (huse : s.lif.lineInUse = true)
    (hline : s.ccu.line = .idle) (hclaims : s.ccu.claims = c :: rest) (hpower : s.power.low = false) :
    ∃ t, exec .lineInUseRunExpiry s = .next t ∧ t.lif.lineInUse = false ∧ t.ccu.line = .seizing ∧
      t.ccu.claims = rest ∧ t.ccu.call.holder = some c.master.party ∧ t.ccu.call.dialList = some c.items ∧
      t.LoadedT2 .settle 300 .none := by
  have hbelow : s.lif.voltageBelow = false := by
    rw [huse] at hturns
    simpa using hturns
  have hexec := exec_lineInUseRunExpiry ⟨hrelay, hpresent, hturns⟩
  set u := ({ s.lineUseTurned with ccu.claims := rest } : State).raiseAt c.master .claimGranted with hu
  have hserved : s.lineUseTurned.serveQueue = some (u.seize c.master c.items c.job c.blind) := by
    have hfree : s.lineUseTurned.lif.lineInUse = false := hbelow
    have hqueue : s.lineUseTurned.ccu.claims = c :: rest := hclaims
    have hup : s.lineUseTurned.power.low = false := hpower
    unfold State.serveQueue
    rw [if_pos ⟨hfree, hup⟩, hqueue]
  rw [if_pos ⟨hbelow, hline⟩, hserved] at hexec
  obtain ⟨hseizing, -, hcall, -, hloaded⟩ := u.seize_call c.master c.items c.job c.blind
  have hkept : (u.seize c.master c.items c.job c.blind).lif.lineInUse = false := by
    have hlif : u.lif.lineInUse = false := by
      cases hmaster : c.master <;> exact hbelow
    rw [← hlif]
    simp [State.seize, State.activate, State.closeRelay, Lif.suspend]
  have hrest : (u.seize c.master c.items c.job c.blind).ccu.claims = rest := by
    simp [hu, State.seize, State.activate, State.closeRelay]
  have hqueue (v : State) : SameBut [.claims] v { v with ccu.claims := rest } := .of_parts (by simp)
  obtain ⟨t, hnext, ht, hlif, -⟩ := finish_line hexec
    (((s.lineUseTurned_same.andThen (hqueue _)).andThen (State.raiseAt_same _ c.master .claimGranted)).andThen
      (u.seize_same c.master c.items c.job c.blind))
  refine ⟨t, hnext, ?_, ?_, ?_, ?_, ?_, ht.loaded _ _ _ hloaded⟩
  · rw [hlif]
    exact hkept
  · rw [ht.ccu]
    exact hseizing
  · rw [ht.ccu]
    exact hrest
  · rw [ht.ccu]
    exact congrArg CallRecord.holder hcall
  · rw [ht.ccu]
    exact congrArg CallRecord.dialList hcall

/-! ### The loop current (R8, R9) -/

/-- R8: the pick-up is latched. -/
def State.pickedUp (s : State) : State := { s with lif.pickupLatch := true, lif.currentRun := 0 }

theorem State.pickedUp_same (s : State) : SameBut [.lif] s s.pickedUp := .of_parts (by simp [State.pickedUp])

theorem exec_extensionPickup {s : State} (hrun : s.lif.currentRunOn) :
    exec .extensionPickup s = finish s.pickedUp.pickup :=
  congrArg finish (if_pos hrun)

/-- R9: a pick-up that ends the call. -/
theorem pickup_ends {s : State} (hrun : s.lif.currentRunOn) (hending : s.ccu.ending = none)
    (hactive : s.ccu.call.active = true) (hends : s.pickedUp.pickup = s.pickedUp.reportEnd .extensionPickup) :
    ∃ t, exec .extensionPickup s = .next t ∧ t.lif.pickupLatch = true ∧ CallEnded [] s t .extensionPickup := by
  have hreport : s.pickedUp.reportEnd .extensionPickup = s.pickedUp.callEnd .extensionPickup := if_pos hending
  have hended : CallEnded [] s.pickedUp (s.pickedUp.callEnd .extensionPickup) .extensionPickup :=
    State.callEnd_ended (s := s.pickedUp) hactive hending .extensionPickup
  have hlatch : (s.pickedUp.callEnd .extensionPickup).lif.pickupLatch = true :=
    State.callEnd_pickupLatch (s := s.pickedUp) hactive .extensionPickup
  refine ⟨_, (exec_extensionPickup hrun).trans (congrArg finish (hends.trans hreport)), ?_,
    (hended.after s.pickedUp_same (by simp [endParts]) (by simp)).finish⟩
  rw [← hlatch]
  simp

theorem State.pickup_auto {s : State} (hending : s.ccu.ending = none) (h : s.holder = some .auto) :
    s.pickup = s.reportEnd .extensionPickup := by
  unfold State.pickup
  rw [if_neg (by simp [hending]), h]

theorem State.pickup_master {s : State} {p : Port} (hending : s.ccu.ending = none) (h : s.holder = some p.party) :
    s.pickup = if s.settings.pickupHangsUp = true then s.reportEnd .extensionPickup else s.raiseBoth .lineAlert := by
  unfold State.pickup
  rw [if_neg (by simp [hending]), h]
  cases p <;> rfl

/-- Settles O38: each sense by its row, the pick-up by the holder of the call. -/
theorem lineSensed : Obligations.LineSensed := by
  intro s
  refine ⟨fun below hchange => ?_, fun hrelay hpresent hturns => ⟨lineInUse_turns hrelay hpresent hturns, fun c rest =>
      lineInUse_grants hrelay hpresent hturns⟩, fun below hchange => ?_, fun hrun hending => ⟨fun hauto => ?_,
      fun p hholder hhangs => ?_, fun p hholder hkeeps => ?_⟩, fun hsuspended hbreak => ?_⟩
  · obtain ⟨t, hnext, -, hlif, hsame⟩ := finish_line (c := .lineVoltageSenseChange below) (parts := [.lif])
      (congrArg finish (if_neg hchange)) (.of_parts (by simp))
    exact ⟨t, hnext, hlif, hsame⟩
  · obtain ⟨t, hnext, -, hlif, hsame⟩ := finish_line (c := .loopCurrentSenseChange below) (parts := [.lif])
      (congrArg finish (if_neg hchange)) (.of_parts (by simp))
    refine ⟨t, hnext, by rw [hlif], by rw [hlif], ?_, hsame⟩
    rw [hlif]
    cases below <;> rfl
  · exact pickup_ends hrun hending (State.holder_some.1 hauto).1
      (State.pickup_auto (s := s.pickedUp) hending hauto)
  · obtain ⟨t, hnext, -, hended⟩ := pickup_ends hrun hending (State.holder_some.1 hholder).1
      ((State.pickup_master (s := s.pickedUp) hending hholder).trans (if_pos hhangs))
    exact ⟨t, hnext, hended⟩
  · have hraised : s.pickedUp.pickup = s.pickedUp.raiseBoth .lineAlert :=
      (State.pickup_master (s := s.pickedUp) hending hholder).trans
        (if_neg (by rw [show s.pickedUp.settings.pickupHangsUp = false from hkeeps]; decide))
    obtain ⟨t, hnext, ht, hlif, hsame⟩ := finish_line
      ((exec_extensionPickup hrun).trans (congrArg finish hraised))
      (s.pickedUp_same.andThen (State.raiseBoth_same _ .lineAlert))
    exact ⟨t, hnext, hlif, fun q => ht.notice q .lineAlert (State.raiseBoth_noticed _ _ q), hsame⟩
  · obtain ⟨t, hnext, -, hlif, hsame⟩ := finish_line (c := .pickupSuspensionEnd) (parts := [.lif])
      (congrArg finish (if_pos ⟨hsuspended, hbreak⟩)) (.of_parts (by simp))
    exact ⟨t, hnext, hlif, hsame⟩

end Sys2Proof.Machine
end

section
/-! PROOFS. The end of a play, and what stays noticed through it (R154, R166, R173, R180). -/

namespace Sys2Proof.Machine

/-! ### What a store operation leaves noticed -/

theorem State.Noticed.raiseBoth {s : State} {p : Port} {x : Source} (h : s.Noticed p x) (y : Source) :
    (s.raiseBoth y).Noticed p x := (h.raiseAt .system y).raiseAt .panel y

theorem State.Noticed.raiseParty {s : State} {p : Port} {x : Source} (h : s.Noticed p x) (party : Option Party) (y : Source) :
    (s.raiseParty party y).Noticed p x := by
  unfold State.raiseParty
  split
  · exact h.raiseAt _ y
  · exact h

theorem State.Noticed.storeAlert {s : State} {p : Port} {x : Source} (h : s.Noticed p x) (k : AlertKind) :
    (s.storeAlert k).Noticed p x := by
  have hrecorded : ((s.recordAlert k .system).recordAlert k .panel).Noticed p x :=
    h.congr (fun q => by cases q <;> rfl) rfl
  exact hrecorded.raiseBoth .storeAlert

theorem State.Noticed.judgeLow {s : State} {p : Port} {x : Source} (h : s.Noticed p x) : s.judgeLow.Noticed p x := by
  unfold State.judgeLow
  split
  · split
    · exact h
    · exact State.Noticed.storeAlert (h.congr (fun _ => rfl) rfl) .low
  · exact h.congr (fun _ => rfl) rfl

theorem State.Noticed.freeChain {s : State} {p : Port} {x : Source} (h : s.Noticed p x) (gs : List Nat) :
    (s.freeChain gs).Noticed p x := by
  unfold State.freeChain
  split
  · exact h
  · exact State.Noticed.judgeLow (h.congr (fun _ => rfl) rfl)

theorem State.Noticed.removeEntry {s : State} {p : Port} {x : Source} (h : s.Noticed p x) (id : Nat) :
    (s.removeEntry id).Noticed p x := by
  unfold State.removeEntry
  split
  · exact h
  · have hkept : ({ s with store.dir := s.store.dir.filter (fun e => e.id ≠ id) } : State).Noticed p x :=
      h.congr (fun _ => rfl) rfl
    exact hkept.freeChain _

theorem State.Noticed.release {s : State} {p : Port} {x : Source} (h : s.Noticed p x) (id : Nat) :
    (s.release id).Noticed p x := by
  unfold State.release
  split
  · exact h
  · split
    · exact h.removeEntry id
    · exact h.congr (fun _ => rfl) rfl

/-! ### The end of a play (R154) -/

/-- R154: the hold of the play in hand is released. -/
def State.holdReleased (s : State) : State :=
  match s.voice.op.message with
  | some id => s.release id
  | none => s

theorem State.holdReleased_some {s : State} {id : Nat} (h : s.voice.op.message = some id) : s.holdReleased = s.release id := by
  unfold State.holdReleased
  rw [h]

theorem State.holdReleased_same (s : State) :
    SameBut [.directory, .freeList, .alerts .system, .alerts .panel, .notices .panel] s s.holdReleased := by
  unfold State.holdReleased
  split
  · exact .of_parts (by simp)
  · exact .refl _ _

theorem State.holdReleased_voice (s : State) : s.holdReleased.voice = s.voice := by
  unfold State.holdReleased
  split
  · simp
  · rfl

theorem State.Noticed.holdReleased {s : State} {p : Port} {x : Source} (h : s.Noticed p x) : s.holdReleased.Noticed p x := by
  unfold State.holdReleased
  split
  · exact h.release _
  · exact h

/-- R154: a resume record is saved for a play that was stopped or preempted. -/
theorem State.saveResume_other {s : State} {r : VoiceReason} (hstopped : r ≠ .stopped) (hpreempted : r ≠ .preempted) :
    s.saveResume r = s := by
  unfold State.saveResume
  split
  · rfl
  · rw [if_neg (by simp [hstopped, hpreempted])]
  · rfl

theorem State.saveResume_same (s : State) (r : VoiceReason) : SameBut [.resume] s (s.saveResume r) := by
  unfold State.saveResume
  split
  · exact .refl _ _
  · split
    · exact .of_parts (by simp)
    · exact .refl _ _
  · exact .refl _ _

theorem State.saveResume_op (s : State) (r : VoiceReason) : (s.saveResume r).voice.op = s.voice.op :=
  s.saveResume_same r .voiceOp (by simp) (by simp)

/-- R154: what the end of a play leaves, before its VOICE_DONE. -/
def State.playEnded (s : State) (r : VoiceReason) : State :=
  { (s.saveResume r).holdReleased with voice.op := s.voice.op.ended r }

theorem State.endVoice_play {s : State} (h : s.voice.op.operation = some .play) (r : VoiceReason) :
    (s.endVoice r).1 = (s.playEnded r).raiseParty s.voice.op.user .voiceDone := by
  have hop : (s.saveResume r).holdReleased.voice.op = s.voice.op := by
    rw [State.holdReleased_voice, State.saveResume_op]
  unfold State.endVoice State.playEnded
  rw [h, ← hop]
  rfl

theorem State.playEnded_same (s : State) (r : VoiceReason) :
    SameBut [.resume, .directory, .freeList, .alerts .system, .alerts .panel, .notices .panel, .voiceOp] s (s.playEnded r) := by
  have hended (u : State) (o : VoiceOp) : SameBut [.voiceOp] u { u with voice.op := o } := .of_parts (by simp)
  exact ((s.saveResume_same r).andThen (State.holdReleased_same _)).andThen (hended _ _)

theorem State.playEnded_store (s : State) (r : VoiceReason) : (s.playEnded r).store = (s.saveResume r).holdReleased.store := rfl

theorem State.raiseParty_same (s : State) (party : Option Party) (x : Source) :
    SameBut [.notices .panel] s (s.raiseParty party x) := by
  unfold State.raiseParty
  split
  · exact State.raiseAt_same _ _ _
  · exact .refl _ _

/-- R180: VOICE_DONE goes to the port of a master. -/
theorem State.raiseParty_master (s : State) (p : Port) (x : Source) :
    s.raiseParty (some p.party) x = s.raiseAt p x := by
  cases p <;> rfl

/-- R154, R166: a play that is neither stopped nor preempted and whose entry is not DOOMED ends. -/
theorem State.playEnded_live {s : State} {id : Nat} {e : Entry} {r : VoiceReason} (hstopped : r ≠ .stopped)
    (hpreempted : r ≠ .preempted) (hmessage : s.voice.op.message = some id) (hfind : s.store.find id = some e)
    (hlive : e.state ≠ .doomed) :
    s.playEnded r = { s.updEntry id (fun x => { x with holds := x.holds - 1 }) with voice.op := s.voice.op.ended r } := by
  unfold State.playEnded
  rw [State.saveResume_other hstopped hpreempted, State.holdReleased_some hmessage, State.release_live hfind hlive]

end Sys2Proof.Machine
end

section
/-! PROOFS. Blocks of a connected call (O42). -/

namespace Sys2Proof.Machine

/-! ### Samples of a path that no recording takes (R85, R86) -/

theorem exec_lineOpen {s : State} {xs : List Sample} {bands : List (List Sample)} (hpower : s.power.retention = false)
    (hrecord : ¬s.recordsFrom .line) (hopen : s.level.line.count + xs.length < 128) :
    exec (.blockEvent .line xs bands) s = finish { s with level := (s.level.lineSamples s.lif.relayClosed xs bands).1 } := by
  have hblock : (s.level.lineSamples s.lif.relayClosed xs bands).2 = none := by
    rw [LevelMeter.lineSamples_open hopen]
  show finish (if _ then _ else State.lineSamples _ _ _) = _
  rw [if_neg (by simp [hpower])]
  unfold State.lineSamples
  dsimp only
  rw [hblock, State.recordFrom_none (s := { s with level := (s.level.lineSamples s.lif.relayClosed xs bands).1 }) hrecord]

theorem exec_micOpen {s : State} {xs : List Sample} {bands : List (List Sample)} (hpower : s.power.retention = false)
    (hrecord : ¬s.recordsFrom .mic) (hopen : s.level.mic.count + xs.length < 128) :
    exec (.blockEvent .mic xs bands) s = finish { s with level := { s.level with mic := s.level.mic.addAll xs } } := by
  show finish (if _ then _ else State.micSamples _ _) = _
  rw [if_neg (by simp [hpower])]
  unfold State.micSamples
  rw [LevelMeter.micSamples_open hopen]
  exact congrArg finish (State.recordFrom_none (s := { s with level := { s.level with mic := s.level.mic.addAll xs } })
    hrecord _ _ _)

theorem exec_micFull {s : State} {xs : List Sample} {bands : List (List Sample)} (hpower : s.power.retention = false)
    (hrecord : ¬s.recordsFrom .mic) (hfull : s.level.mic.count + xs.length = 128) :
    exec (.blockEvent .mic xs bands) s = finish
      (State.blockRestarts { s with level := { s.level with mic := ⟨0, 0, logCode (blockMean s.level.mic xs)⟩ } } .mic
        (logCode (blockMean s.level.mic xs))) := by
  show finish (if _ then _ else State.micSamples _ _) = _
  rw [if_neg (by simp [hpower])]
  unfold State.micSamples
  rw [LevelMeter.micSamples_full hfull]
  dsimp only
  rw [State.recordFrom_none
    (s := { s with level := { s.level with mic := ⟨0, 0, logCode (blockMean s.level.mic xs)⟩ } }) hrecord]

/-- R87: the bands that are measured beside the line. -/
theorem measuredBands {m : LevelMeter} {xs : List Sample} {bs : List (List Sample)} (hon : m.bandsOn = true)
    (hcount : bs.length = m.bands.length) (hlength : ∀ b ∈ bs, b.length = xs.length)
    (hopen : m.line.count + xs.length < 128) (relay : Bool) :
    (m.lineSamples relay xs bs).1.bands = m.bands.zipWith (fun m x => m.addAll x) bs := by
  have htake : bs.map (List.take (128 - m.line.count)) = bs := map_take_whole hlength (by omega)
  rw [LevelMeter.lineSamples_open hopen, htake, hon]
  exact addBands_on hcount

theorem blocks_measured (xs : List Sample) (s : State) (hpower : s.power.retention = false)
    (hline : ¬s.recordsFrom .line) (hmic : ¬s.recordsFrom .mic) :
    (∀ bands, s.level.line.count + xs.length < 128 → s.level.bandsOn = false →
      ∃ t, exec (.blockEvent .line xs bands) s = .next t ∧
        t.level = { s.level with line := ⟨s.level.line.acc + (xs.map sampleTerm).sum, s.level.line.count + xs.length,
                                          s.level.line.level⟩ } ∧
        SameBut [.level] s t) ∧
    (∀ bands, s.level.mic.count + xs.length < 128 →
      ∃ t, exec (.blockEvent .mic xs bands) s = .next t ∧
        t.level = { s.level with mic := ⟨s.level.mic.acc + (xs.map sampleTerm).sum, s.level.mic.count + xs.length,
                                         s.level.mic.level⟩ } ∧
        SameBut [.level] s t) ∧
    (∀ bands, s.level.mic.count + xs.length = 128 →
      ∃ t, exec (.blockEvent .mic xs bands) s = .next t ∧
        t.level = { s.level with mic := ⟨0, 0, logCode ((s.level.mic.acc + (xs.map sampleTerm).sum) / 128)⟩ } ∧
        (∀ n : Fin 8, t.timers.get n = (s.timers.get n).blockRestart .mic t.level.mic.level) ∧
        SameBut [.level, .timer 0, .timer 1, .timer 2, .timer 3, .timer 4, .timer 5, .timer 6, .timer 7] s t) ∧
    (∀ bands, s.level.line.count + xs.length = 128 → s.level.bandsOn = false →
      ∃ t, exec (.blockEvent .line xs bands) s = .next t ∧
        t.level.line = ⟨0, 0, logCode ((s.level.line.acc + (xs.map sampleTerm).sum) / 128)⟩ ∧
        t.level.bandsOn = s.lif.relayClosed ∧
        t.rau.discr = s.rau.discr.map (fun d =>
          if d.phase ≠ .beep ∧ s.settings.silenceLevel ≤ t.level.line.level then
            { d with heard := bump 65535 d.heard } else d) ∧
        (∀ n : Fin 8, t.timers.get n = (s.timers.get n).blockRestart .line t.level.line.level) ∧
        t.tone = { s.tone with blank := if s.inBurst then s.tone.blank else s.tone.blank - 1 } ∧
        SameBut ([.level, .detectors, .discr] ++ allTimers) s t) ∧
    (∀ bands : List (List Sample), bands.length = s.level.bands.length → (∀ b ∈ bands, b.length = xs.length) →
      s.level.line.count + xs.length < 128 → s.level.bandsOn = true →
      ∃ t, exec (.blockEvent .line xs bands) s = .next t ∧
        (∀ (k : Nat) (m : PathMeter) (b : List Sample), s.level.bands[k]? = some m → bands[k]? = some b →
          t.level.bands[k]? = some ⟨m.acc + (b.map sampleTerm).sum, m.count + xs.length, m.level⟩) ∧
        t.level.bands.length = s.level.bands.length ∧ SameBut [.level] s t) := by
  have hframe (m : LevelMeter) : SameBut [.level] s { s with level := m } := .of_parts (by simp)
  refine ⟨fun bands hopen hoff => ?_, fun bands hopen => ?_, fun bands hfull => ?_, fun bands hfull hoff => ?_,
    fun bands hcount hlength hopen hon => ?_⟩
  · obtain ⟨t, hnext, ht, hsame⟩ := finish_does (exec_lineOpen (bands := bands) hpower hline hopen) (hframe _)
    refine ⟨t, hnext, ?_, hsame⟩
    have hbands (bs : List (List Sample)) : addBands s.level.bandsOn s.level.bands bs = s.level.bands := by
      rw [hoff]
      exact addBands_off _ _
    rw [ht.level, LevelMeter.lineSamples_open hopen, hbands, PathMeter.addAll_eq]
  · obtain ⟨t, hnext, ht, hsame⟩ := finish_does (exec_micOpen (bands := bands) hpower hmic hopen) (hframe _)
    refine ⟨t, hnext, ?_, hsame⟩
    rw [ht.level, PathMeter.addAll_eq]
  · obtain ⟨t, hnext, ht, hsame⟩ := finish_does (exec_micFull (bands := bands) hpower hmic hfull)
      ((hframe _).andThen (State.blockRestarts_same _ _ _))
    refine ⟨t, hnext, ht.level, fun n => ?_, hsame⟩
    rw [ht.timers, ht.level]
    exact State.blockRestarts_get _ _ _ n
  · obtain ⟨hmeter, hbands, -⟩ := LevelMeter.lineSamples_full hfull hoff s.lif.relayClosed bands
    have hu := s.lineBlockTaken_taken (s.level.lineSamples s.lif.relayClosed xs bands).1
      (logCode (blockMean s.level.line xs))
    obtain ⟨t, hnext, ht, hsame⟩ := finish_does (exec_lineBlock_unmeasured (bands := bands) hpower hline hfull hoff) hu.frame
    have hlevel : t.level.line.level = logCode (blockMean s.level.line xs) := by
      rw [ht.level, hu.meter, hmeter]
    refine ⟨t, hnext, ?_, ?_, ?_, fun n => ?_, ?_, hsame⟩
    · rw [ht.level, hu.meter, hmeter]
      rfl
    · rw [ht.level, hu.meter, hbands]
    · rw [ht.rau, hu.discr, hlevel]
      congr 1
      funext d
      split <;> rfl
    · rw [hlevel, ht.timers]
      exact hu.timers n
    · rw [ht.tone]
      exact hu.tone
  · obtain ⟨t, hnext, ht, hsame⟩ := finish_does (exec_lineOpen (bands := bands) hpower hline hopen) (hframe _)
    have hmeasured : t.level.bands = s.level.bands.zipWith (fun m x => m.addAll x) bands := by
      rw [ht.level]
      exact measuredBands hon hcount hlength hopen _
    refine ⟨t, hnext, fun k m b hm hb => ?_, ?_, hsame⟩
    · rw [hmeasured, List.getElem?_zipWith, hm, hb]
      dsimp only
      rw [PathMeter.addAll_eq, hlength b (List.mem_of_getElem? hb)]
    · rw [hmeasured, List.length_zipWith, hcount, Nat.min_self]

/-! ### The detectors of a connected line (R49 to R51) -/

theorem State.toneBlock_connected {s : State} (h : s.ccu.line = .connected) (b : ToneBlock) :
    s.toneBlock b = ((s.faxCallBlock b).dataCallBlock b).dtmfBlock b := by
  unfold State.toneBlock
  exact if_pos h

/-- R50: a call tone that is not recognised moves its detector. -/
theorem State.faxCallBlock_quiet {s : State} {b : ToneBlock} (h : s.callTonesActive)
    (hquiet : s.tone.faxCall.recognises (b.present s 1) = false) :
    s.faxCallBlock b = { s with tone.faxCall := s.tone.faxCall.judge (b.present s 1) } := by
  unfold State.faxCallBlock
  rw [if_pos h]
  exact if_neg (by simp [hquiet])

theorem State.dataCallBlock_quiet {s : State} {b : ToneBlock} (h : s.callTonesActive)
    (hquiet : s.tone.dataCall.recognises (b.present s 2) = false) :
    s.dataCallBlock b = { s with tone.dataCall := s.tone.dataCall.judge (b.present s 2) } := by
  unfold State.dataCallBlock
  rw [if_pos h]
  exact if_neg (by simp [hquiet])

/-- R49: on a call that does not discriminate the call-tone detectors are inactive. -/
theorem State.callTones_inactive {s : State} (h : ¬s.callTonesActive) (b : ToneBlock) :
    (s.faxCallBlock b).dataCallBlock b = s := by
  have hfax : s.faxCallBlock b = s := by
    unfold State.faxCallBlock
    exact if_neg h
  rw [hfax]
  unfold State.dataCallBlock
  exact if_neg h

/-- R51: a block that is not judged. -/
theorem State.dtmfBlock_skips {s : State} {b : ToneBlock} (h : s.dtmfActive) (hjudged : b.judged = false) :
    s.dtmfBlock b = { s with tone.dtmf := s.tone.dtmf.skip } := by
  unfold State.dtmfBlock
  rw [if_pos h]
  exact if_pos hjudged

/-- R51: a block that is judged, with the digit that it reports. -/
theorem State.dtmfBlock_judges {s : State} {b : ToneBlock} (h : s.dtmfActive) (hjudged : b.judged = true)
    {j : Dtmf × Option Symbol} (hj : s.tone.dtmf.judge (digitOf s.settings.toneLevel b.whole b.bands) = j) :
    s.dtmfBlock b =
      match j.2 with
      | some x => State.routeDigit { s with tone.dtmf := j.1 } x
      | none => { s with tone.dtmf := j.1 } := by
  unfold State.dtmfBlock
  rw [if_pos h, if_neg (by simp [hjudged])]
  dsimp only
  rw [hj] <;> rfl

theorem tone_same (s : State) (d : ToneUnit) (h : d.generator = s.tone.generator) : SameBut [.detectors] s { s with tone := d } :=
  .of_parts (by simp [h])

/-- What the close of a block leaves of the call and the settings. -/
theorem LineBlockTaken.call {s u : State} {m : LevelMeter} {level : Nat} (h : LineBlockTaken s u m level) :
    u.ccu.line = s.ccu.line ∧ u.ccu.call = s.ccu.call ∧ u.settings = s.settings ∧ u.holder = s.holder := by
  have hcall : u.ccu.call = s.ccu.call := h.frame .call (by simp [allTimers]) (by simp)
  refine ⟨h.frame .line (by simp [allTimers]) (by simp), hcall, h.frame .settings (by simp [allTimers]) (by simp), ?_⟩
  rw [State.holder, State.holder, hcall]

/-- R49: the presence of a tone depends on the settings only. -/
theorem ToneBlock.present_congr {s u : State} (h : u.settings = s.settings) (b : ToneBlock) (k : Nat) :
    b.present u k = b.present s k := by
  rw [ToneBlock.present, ToneBlock.present, h]

/-- R49 to R51: the detectors of a discriminating call move, and none of them makes its recognition. -/
theorem State.toneBlock_discriminating {u : State} {b : ToneBlock} (hline : u.ccu.line = .connected)
    (hjob : u.ccu.call.job = .discriminate) (hfax : u.tone.faxCall.recognises (b.present u 1) = false)
    (hdata : u.tone.dataCall.recognises (b.present u 2) = false) {j : Dtmf × Option Symbol}
    (hj : j = (if b.judged = true then u.tone.dtmf.judge (digitOf u.settings.toneLevel b.whole b.bands)
              else ({ u.tone.dtmf with run := 0, reported := none, absence := 0 }, none))) (hnone : j.2 = none) :
    u.toneBlock b = { u with tone := { u.tone with
      faxCall := u.tone.faxCall.judge (b.present u 1), dataCall := u.tone.dataCall.judge (b.present u 2),
      dtmf := j.1 } } := by
  set v : State := { u with tone.faxCall := u.tone.faxCall.judge (b.present u 1) } with hv
  set w : State := { v with tone.dataCall := v.tone.dataCall.judge (b.present v 2) } with hw
  have hfirst : u.faxCallBlock b = v := State.faxCallBlock_quiet ⟨hline, hjob⟩ hfax
  have hsecond : v.dataCallBlock b = w := State.dataCallBlock_quiet ⟨hline, hjob⟩ hdata
  have hactive : w.dtmfActive := ⟨hline, .inr (.inl hjob)⟩
  rw [State.toneBlock_connected hline, hfirst, hsecond]
  cases hjudged : b.judged with
  | false =>
    rw [if_neg (by simp [hjudged])] at hj
    rw [State.dtmfBlock_skips hactive hjudged, hj]
    rfl
  | true =>
    rw [if_pos hjudged] at hj
    rw [State.dtmfBlock_judges hactive hjudged hj.symm, hnone]
    rfl

/-- R76: a line block of a discriminating call in which nothing is recognised. -/
theorem discriminating_block {xs : List Sample} {bands : List (List Sample)} {b : ToneBlock} {d : Discrimination} {s : State}
    (h : s.LineBlockCloses xs bands b) (hdiscr : s.rau.discr = some d) (hline : s.ccu.line = .connected)
    (hjob : s.ccu.call.job = .discriminate) (hfax : s.tone.faxCall.recognises (b.present s 1) = false)
    (hdata : s.tone.dataCall.recognises (b.present s 2) = false) {j : Dtmf × Option Symbol}
    (hj : j = (if s.judgesDigit then s.tone.dtmf.judge (digitOf s.settings.toneLevel b.whole b.bands)
              else ({ s.tone.dtmf with run := 0, reported := none, absence := 0 }, none))) (hnone : j.2 = none) :
    ∃ t, exec (.blockEvent .line xs bands) s = .next t ∧
      t.rau.discr = some { d with
        heard := if d.phase ≠ .beep ∧ s.settings.silenceLevel ≤ b.whole then bump 65535 d.heard else d.heard } ∧
      t.tone = { s.tone with
        faxCall := s.tone.faxCall.judge (b.present s 1), dataCall := s.tone.dataCall.judge (b.present s 2), dtmf := j.1,
        blank := if s.inBurst then s.tone.blank else s.tone.blank - 1 } ∧
      SameBut ([.level, .detectors, .discr] ++ allTimers) s t := by
  have hu := s.lineBlockTaken_taken (s.level.lineSamples s.lif.relayClosed xs bands).1 b.whole
  set u := s.lineBlockTaken (s.level.lineSamples s.lif.relayClosed xs bands).1 b.whole
  obtain ⟨uline, ucall, usettings, -⟩ := hu.call
  have hpresent (k : Nat) : b.present u k = b.present s k := b.present_congr usettings k
  have hjudge : j = (if b.judged = true then u.tone.dtmf.judge (digitOf u.settings.toneLevel b.whole b.bands)
      else ({ u.tone.dtmf with run := 0, reported := none, absence := 0 }, none)) := by
    rw [hj, usettings, hu.tone, if_congr h.judged rfl rfl]
  have hblock := State.toneBlock_discriminating (uline.trans hline) ((congrArg CallRecord.job ucall).trans hjob)
    (by rw [hu.tone, hpresent]; exact hfax) (by rw [hu.tone, hpresent]; exact hdata) hjudge hnone
  obtain ⟨t, hnext, ht, hsame⟩ := finish_does ((exec_lineBlock h).trans (congrArg finish hblock))
    (hu.frame.andThen (tone_same u { u.tone with
      faxCall := u.tone.faxCall.judge (b.present u 1), dataCall := u.tone.dataCall.judge (b.present u 2), dtmf := j.1 } rfl))
  refine ⟨t, hnext, ?_, ?_, hsame.mono (by simp [allTimers])⟩
  · rw [ht.rau, hu.discr, hdiscr]
    rfl
  · rw [ht.tone, hpresent, hpresent, hu.tone]

/-! ### The digits of a VOICE call (R51, R58, R59) -/

/-- R58, R59: a digit joins the queue of a master. -/
def State.digitQueued (s : State) (p : Port) (x : Symbol) : State :=
  (s.updPort p (fun q => { q with digits := q.digits.join x })).raiseAt p .digit

theorem State.digitQueued_same (s : State) (p : Port) (x : Symbol) :
    SameBut [.digits p, .notices .panel] s (s.digitQueued p x) := by
  have hjoined : SameBut [.digits p] s (s.updPort p (fun q => { q with digits := q.digits.join x })) :=
    State.updPort_digits_same s p ((s.port p).digits.join x) |> fun h => by cases p <;> exact h
  exact hjoined.andThen (State.raiseAt_same _ p .digit)

theorem State.digitQueued_digits (s : State) (p : Port) (x : Symbol) :
    ((s.digitQueued p x).port p).digits = (s.port p).digits.join x := by
  cases p <;> rfl

theorem DigitQueue.join_eq (q : DigitQueue) (x : Symbol) :
    q.join x = if q.digits.length < 16 then ⟨q.digits ++ [x], q.lost⟩ else ⟨q.digits.drop 1 ++ [x], true⟩ := rfl

theorem State.digitToMaster_eq (s : State) (p : Port) (x : Symbol) :
    s.digitToMaster p x =
      if (s.digitQueued p x).voice.op.operation = some .play ∧ (s.digitQueued p x).voice.op.user = some p.party ∧
          (s.digitQueued p x).voice.op.stopOnDigit = true then ((s.digitQueued p x).endVoice .digit).1
      else s.digitQueued p x := rfl

theorem State.routeDigit_voice {s : State} {p : Port} (hholder : s.holder = some p.party) (hjob : s.ccu.call.job = .voice)
    (x : Symbol) : s.routeDigit x = s.digitToMaster p x := by
  unfold State.routeDigit
  rw [hholder, hjob]
  cases p <;> rfl

/-- R59: what a digit that goes to a master leaves. -/
structure DigitTaken (s t : State) (p : Port) (x : Symbol) : Prop where
  tone : t.tone = s.tone
  digits : (t.port p).digits = (s.port p).digits.join x
  noticed : t.Noticed p .digit
  goesOn : ¬(s.voice.op.operation = some .play ∧ s.voice.op.user = some p.party ∧ s.voice.op.stopOnDigit = true) →
    SameBut [.digits p, .notices .panel] s t
  stops : s.voice.op.operation = some .play → s.voice.op.user = some p.party → s.voice.op.stopOnDigit = true →
    t.voice.op = s.voice.op.ended .digit ∧
      SameBut [.digits p, .voiceOp, .directory, .freeList, .alerts .system, .alerts .panel, .notices .panel] s t

theorem State.digitToMaster_taken (s : State) (p : Port) (x : Symbol) : DigitTaken s (s.digitToMaster p x) p x := by
  set v := s.digitQueued p x with hv
  have hvsame := s.digitQueued_same p x
  have hop : v.voice.op = s.voice.op := hvsame .voiceOp (by simp) (by simp)
  have hvtone : v.tone = s.tone := by cases p <;> rfl
  have hvnoticed : v.Noticed p .digit := State.raiseAt_noticed _ _ _
  have hvdigits : (v.port p).digits = (s.port p).digits.join x := s.digitQueued_digits p x
  rw [State.digitToMaster_eq, hop]
  by_cases hplay : s.voice.op.operation = some .play ∧ s.voice.op.user = some p.party ∧ s.voice.op.stopOnDigit = true
  · rw [if_pos hplay]
    have hended : (v.endVoice .digit).1 = (v.playEnded .digit).raiseAt p .voiceDone := by
      rw [State.endVoice_play (hop ▸ hplay.1), hop, hplay.2.1, State.raiseParty_master]
    have hframe : SameBut [.directory, .freeList, .alerts .system, .alerts .panel, .notices .panel, .voiceOp, .notices .panel]
        v (v.endVoice .digit).1 := by
      have hresume : v.saveResume .digit = v := State.saveResume_other (by decide) (by decide)
      have hheld := v.holdReleased_same
      have hset (u : State) (o : VoiceOp) : SameBut [.voiceOp] u { u with voice.op := o } := .of_parts (by simp)
      rw [hended]
      unfold State.playEnded
      rw [hresume]
      exact (hheld.andThen (hset _ _)).andThen (State.raiseAt_same _ p .voiceDone)
    refine ⟨?_, ?_, ?_, fun h => absurd hplay h, fun _ _ _ => ⟨?_, (hvsame.andThen hframe).mono (by simp)⟩⟩
    · have htone : (v.endVoice .digit).1.tone = v.tone := by simp
      rw [htone, hvtone]
    · have hdigits : ((v.endVoice .digit).1.port p).digits = (v.port p).digits := hframe (.digits p) (by simp) (by simp)
      rw [hdigits, hvdigits]
    · rw [hended]
      have hheld : (v.saveResume .digit).holdReleased.Noticed p .digit := by
        rw [State.saveResume_other (by decide) (by decide)]
        exact hvnoticed.holdReleased
      exact State.Noticed.raiseAt (s := v.playEnded .digit) (hheld.congr (fun _ => rfl) rfl) p .voiceDone
    · rw [hended, ← hop]
      cases p <;> rfl
  · rw [if_neg hplay]
    exact ⟨hvtone, hvdigits, hvnoticed, fun _ => hvsame, fun h1 h2 h3 => absurd ⟨h1, h2, h3⟩ hplay⟩

/-- R51, R58: a line block of a connected VOICE call. -/
theorem voice_block {xs : List Sample} {bands : List (List Sample)} {b : ToneBlock} {p : Port} {s : State}
    (h : s.LineBlockCloses xs bands b) (hdiscr : s.rau.discr = none) (hline : s.ccu.line = .connected)
    (hjob : s.ccu.call.job = .voice) (hholder : s.holder = some p.party) :
    (¬s.judgesDigit →
      ∃ t, exec (.blockEvent .line xs bands) s = .next t ∧
        t.tone.dtmf = { s.tone.dtmf with run := 0, reported := none, absence := 0 } ∧
        t.tone.blank = (if s.inBurst then s.tone.blank else s.tone.blank - 1) ∧
        SameBut ([.level, .detectors] ++ allTimers) s t) ∧
    (∀ j, s.judgesDigit → j = s.tone.dtmf.judge (digitOf s.settings.toneLevel b.whole b.bands) →
      (j.2 = none →
        ∃ t, exec (.blockEvent .line xs bands) s = .next t ∧ t.tone.dtmf = j.1 ∧
          SameBut ([.level, .detectors] ++ allTimers) s t) ∧
      (∀ x, j.2 = some x →
        ∃ t, exec (.blockEvent .line xs bands) s = .next t ∧ t.tone.dtmf = j.1 ∧
          (t.port p).digits = (if (s.port p).digits.digits.length < 16 then
              ⟨(s.port p).digits.digits ++ [x], (s.port p).digits.lost⟩
            else ⟨(s.port p).digits.digits.drop 1 ++ [x], true⟩) ∧
          t.Noticed p .digit ∧
          (¬(s.voice.op.operation = some .play ∧ s.voice.op.user = some p.party ∧ s.voice.op.stopOnDigit = true) →
            SameBut ([.level, .detectors, .digits p, .notices .panel] ++ allTimers) s t) ∧
          (s.voice.op.operation = some .play → s.voice.op.user = some p.party → s.voice.op.stopOnDigit = true →
            t.voice.op.state = .idle ∧ t.voice.op.operation = none ∧ t.voice.op.user = none ∧
              t.voice.op.reason = some .digit ∧
              SameBut ([.level, .detectors, .digits p, .voiceOp, .directory, .freeList, .alerts .system, .alerts .panel,
                .notices .panel] ++ allTimers) s t))) := by
  have hu := s.lineBlockTaken_taken (s.level.lineSamples s.lif.relayClosed xs bands).1 b.whole
  set u := s.lineBlockTaken (s.level.lineSamples s.lif.relayClosed xs bands).1 b.whole
  obtain ⟨uline, ucall, usettings, uholder⟩ := hu.call
  have hplain := hu.plain hdiscr
  have huline := uline.trans hline
  have hujob : u.ccu.call.job = .voice := (congrArg CallRecord.job ucall).trans hjob
  have hactive : u.dtmfActive := ⟨huline, .inl hujob⟩
  have hblock : u.toneBlock b = u.dtmfBlock b := by
    rw [State.toneBlock_connected huline, State.callTones_inactive fun h => absurd (hujob.symm.trans h.2) (by decide)]
  have hexec : exec (.blockEvent .line xs bands) s = finish (u.dtmfBlock b) :=
    (exec_lineBlock h).trans (congrArg finish hblock)
  have hdtmf : u.tone.dtmf = s.tone.dtmf := by rw [hu.tone]
  refine ⟨fun hnot => ?_, fun j hjudges hj => ?_⟩
  · have hskip := State.dtmfBlock_skips hactive (Bool.eq_false_iff.mpr (mt h.judged.mp hnot))
    obtain ⟨t, hnext, ht, hsame⟩ := finish_does (hexec.trans (congrArg finish hskip))
      (hplain.andThen (tone_same u { u.tone with dtmf := u.tone.dtmf.skip } rfl))
    refine ⟨t, hnext, ?_, ?_, hsame.mono (by simp [allTimers])⟩
    · rw [ht.tone, hdtmf]
      rfl
    · rw [ht.tone, hu.tone]
  · have hjudge : u.tone.dtmf.judge (digitOf u.settings.toneLevel b.whole b.bands) = j := by rw [hdtmf, usettings, hj]
    have hjudged := State.dtmfBlock_judges hactive (h.judged.mpr hjudges) hjudge
    have hmoved := tone_same u { u.tone with dtmf := j.1 } rfl
    refine ⟨fun hnone => ?_, fun x hx => ?_⟩
    · rw [hnone] at hjudged
      obtain ⟨t, hnext, ht, hsame⟩ := finish_does (hexec.trans (congrArg finish hjudged)) (hplain.andThen hmoved)
      exact ⟨t, hnext, by rw [ht.tone], hsame.mono (by simp [allTimers])⟩
    · rw [hx] at hjudged
      set v : State := { u with tone.dtmf := j.1 } with hv
      have hroute : v.routeDigit x = v.digitToMaster p x := State.routeDigit_voice (s := v) (uholder.trans hholder) hujob x
      have htaken := v.digitToMaster_taken p x
      have hvsame := hplain.andThen hmoved
      have hop : v.voice.op = s.voice.op := hplain .voiceOp (by simp [allTimers]) (by simp)
      have hdigits : (v.port p).digits = (s.port p).digits := hplain (.digits p) (by simp [allTimers]) (by simp)
      have hfinal := hexec.trans (congrArg finish (hjudged.trans hroute))
      have hframe {parts : List Part} (hparts : SameBut parts v (v.digitToMaster p x)) {t : State}
          (hnext : exec (.blockEvent .line xs bands) s = .next t) :
          SameBut ([.level, .detectors] ++ allTimers ++ [.detectors] ++ parts) s t := by
        obtain ⟨w, hw, -, hwsame⟩ := finish_does hfinal (hvsame.andThen hparts)
        obtain rfl := Host.Outcome.next.inj (hw.symm.trans hnext)
        exact hwsame
      refine ⟨_, hfinal, ?_, ?_, htaken.noticed.deliverSystem, fun hgoes => ?_, fun h1 h2 h3 => ?_⟩
      · have htone := ((v.digitToMaster p x).deliverSystem_delivered).tone
        rw [htone, htaken.tone]
      · have hport : ((v.digitToMaster p x).deliverSystem.port p).digits = ((v.digitToMaster p x).port p).digits := by
          cases p <;> simp [State.port, PerPort.get]
        rw [hport, htaken.digits, hdigits, DigitQueue.join_eq]
      · exact (hframe (htaken.goesOn (by rwa [hop])) hfinal).mono (by simp [allTimers])
      · obtain ⟨hended, hparts⟩ := htaken.stops (by rwa [hop]) (by rwa [hop]) (by rwa [hop])
        have hvoice := ((v.digitToMaster p x).deliverSystem_delivered).voice
        rw [hvoice, hended]
        exact ⟨rfl, rfl, rfl, rfl, (hframe hparts hfinal).mono (by simp [allTimers])⟩

/-- Settles O42: the samples of a path, the block of a discriminating call, and that of a VOICE call. -/
theorem blocksMeasured : Obligations.BlocksMeasured :=
  ⟨blocks_measured, fun _ _ _ _ _ h hdiscr hline hjob hfax hdata _ hj hnone =>
    discriminating_block h hdiscr hline hjob hfax hdata hj hnone, fun _ _ _ _ _ => voice_block⟩

end Sys2Proof.Machine
end

section
/-! PROOFS. The starts of PLAY and RECORD (O15). -/

namespace Sys2Proof.Machine

/-! ### The checks that both share (R153) -/

/-- R153: the channel is free for the master. -/
theorem State.voiceBar_none {s : State} {p : Port} {e : Endpoint} (hidle : s.voice.op.state = .idle)
    (huser : s.voice.op.user ≠ some .auto) (hline : e = .line → s.hasVoiceLine p) : s.voiceBar p e = none := by
  unfold State.voiceBar
  rw [if_neg fun h => h.2 (hline h.1), if_neg huser, if_neg (by simp [hidle])]

/-! ### PLAY (R154) -/

theorem State.hold_same (s : State) (id : Nat) : SameBut [.directory] s (s.hold id) := State.updEntry_same _ _ _

theorem State.startPlay_same (s : State) (user : Party) (id offset : Nat) (e : Endpoint) (d : Bool) :
    SameBut [.directory, .voiceOp] s (s.startPlay user id offset e d) := by
  have hset (u : State) (o : VoiceOp) : SameBut [.voiceOp] u { u with voice.op := o } := .of_parts (by simp)
  exact (s.hold_same id).andThen (hset _ _)

/-- R154, R166: what the start of a play leaves. -/
theorem State.startPlay_starts (s : State) (user : Party) (id offset : Nat) (e : Endpoint) (d : Bool) :
    (s.startPlay user id offset e d).voice.op = { VoiceOp.start .playing user .play e with
      message := some id, offset := offset / 1024 * 1024, stopOnDigit := d } ∧
    (s.startPlay user id offset e d).store.dir =
      s.store.dir.map (fun x => if x.id = id then { x with holds := x.holds + 1 } else x) := ⟨rfl, rfl⟩

/-- R153: a PLAY that passes its checks starts. -/
theorem takePlay_starts {p : Port} {id : Byte} {start : PlayStart} {endpoint stopOnDigit : Byte} {e : Endpoint} {d : Bool}
    {entry : Entry} {s : State} (he : endpointOf endpoint = some e) (hd : flagOf stopOnDigit = some d) (hid : id ≠ 0#8)
    (hvisible : s.store.visible id.toNat = some entry) (hwhole : entry.state ≠ .opened)
    (hkind : entry.kind = .voiceMsg ∨ entry.kind = .greeting ∨ entry.kind = .memo) (hbar : s.voiceBar p e = none)
    (hgenerator : e = .line → s.tone.generator.state ≠ .sending ∧ s.tone.generator.state ≠ .beeping)
    (hlength : s.playOffset id.toNat start < entry.length) :
    takePlay p id start endpoint stopOnDigit s =
      (s.startPlay p.party id.toNat (s.playOffset id.toNat start) e d, .plain .ok) := by
  have hplayable : s.unplayable id.toNat = false := by
    unfold State.unplayable
    rw [hvisible]
    rcases hkind with hkind | hkind | hkind <;> simp [hkind, MsgKind.playable]
  have hsilent : ¬(e = .line ∧ (s.tone.generator.state = .sending ∨ s.tone.generator.state = .beeping)) := by
    rintro ⟨hline, hstate⟩
    obtain ⟨hsending, hbeeping⟩ := hgenerator hline
    exact hstate.elim hsending hbeeping
  unfold takePlay
  rw [he, hd]
  dsimp only
  rw [if_neg (by simp [hid, hplayable])]
  unfold takeGoodPlay
  rw [hbar]
  dsimp only
  rw [if_neg hsilent]
  unfold takePlayEntry
  rw [hvisible]
  dsimp only
  rw [if_neg hwhole, if_neg (by omega)]

/-! ### RECORD (R156) -/

/-- R156: the record of an operation that records for a master. -/
def recordingStarted (user : Party) (kind : MsgKind) (slot : Option Nat) (e : Endpoint) (vox : Bool) (seconds : Nat) :
    VoiceOp :=
  { VoiceOp.start .recording user .record e with kind := some kind, slot := slot, vox := vox, maxCode := seconds * 4000 }

/-- R156, R165: a recording starts into a new entry, with T6 loaded under VOX. -/
theorem State.startRecord_creates {s : State} (h : s.canCreate = true) (user : Party) (kind : MsgKind) (slot : Option Nat)
    (e : Endpoint) (vox : Bool) (seconds : Nat) :
    s.startRecord user kind slot e vox seconds =
      (if vox = true then
        State.loadT6 { (s.create kind slot (decide (user = .auto))).1 with
          voice.op := { recordingStarted user kind slot e vox seconds with
                        message := some (s.newEntry kind slot (decide (user = .auto))).id } } e.path
       else { (s.create kind slot (decide (user = .auto))).1 with
          voice.op := { recordingStarted user kind slot e vox seconds with
                        message := some (s.newEntry kind slot (decide (user = .auto))).id } }, true) := by
  unfold State.startRecord
  dsimp only
  rw [State.create_some h] <;> rfl

/-- R156, R173: without a new entry the operation ends with STORE_FULL. -/
theorem State.startRecord_full {s : State} (h : s.canCreate = false) (user : Party) (kind : MsgKind) (slot : Option Nat)
    (e : Endpoint) (vox : Bool) (seconds : Nat) :
    (s.startRecord user kind slot e vox seconds).1 =
      State.raiseParty { s.storeAlert .full with
        voice.op := { recordingStarted user kind slot e vox seconds with
                      state := .idle, user := none, operation := none, reason := some .storeFull } } (some user) .voiceDone := by
  have hnone : s.create kind slot (decide (user = .auto)) = (s.storeAlert .full, none) := by
    unfold State.create
    exact if_neg (by simp [h])
  unfold State.startRecord
  dsimp only
  rw [hnone] <;> rfl

theorem State.create_same {s : State} (h : s.canCreate = true) (kind : MsgKind) (slot : Option Nat) (caller : Bool) :
    SameBut [.header, .directory] s (s.create kind slot caller).1 := by
  rw [State.create_some h]
  exact .of_parts (by simp)

theorem State.loadT6_same (s : State) (path : AudioPath) : SameBut [.timer 6] s (s.loadT6 path) :=
  .of_parts (by simp [State.loadT6])

/-- R153: a RECORD that passes its checks starts. -/
theorem takeRecord_starts {p : Port} {kind slot endpoint vox : Byte} {seconds : U16} {k : MsgKind × Option Nat} {e : Endpoint}
    {v : Bool} {s : State} (hk : recordKind kind slot = some k) (he : endpointOf endpoint = some e)
    (hv : flagOf vox = some v) (hbar : s.voiceBar p e = none) :
    takeRecord p kind slot endpoint vox seconds s =
      ((s.startRecord p.party k.1 k.2 e v (clamp 5 600 seconds.toNat)).1, ⟨.ok, [.u16 (clamp 5 600 seconds.toNat)]⟩) := by
  unfold takeRecord
  rw [hk, he, hv]
  dsimp only
  unfold takeGoodRecord
  rw [hbar] <;> rfl

/-- R156, R165: RECORD with room for an entry. -/
theorem record_starts {f : Frame} {kind slot endpoint vox : Byte} {seconds : U16} {k : MsgKind × Option Nat} {e : Endpoint}
    {v : Bool} {s : State} (h : s.Takes f 0x41#8) (hk : recordKind kind slot = some k)
    (he : endpointOf endpoint = some e) (hv : flagOf vox = some v) (hbar : s.voiceBar f.port e = none)
    (hroom : s.canCreate = true) :
    ∃ t, exec (.record f kind slot endpoint vox seconds) s = .next t ∧
      t.voice.op.state = .recording ∧ t.voice.op.user = some f.port.party ∧ t.voice.op.operation = some .record ∧
      t.voice.op.endpoint = some e ∧ t.voice.op.kind = some k.1 ∧ t.voice.op.slot = k.2 ∧ t.voice.op.vox = v ∧
      t.voice.op.maxCode = 4000 * clamp 5 600 seconds.toNat ∧ t.voice.op.written = 0 ∧ t.voice.op.loud = 0 ∧
      t.voice.op.lastLoud = none ∧ t.voice.op.codec = ⟨0, 0⟩ ∧
      (∃ x : Entry, t.store.dir = s.store.dir ++ [x] ∧ t.voice.op.message = some x.id ∧
        t.store.header.lastId = x.id ∧ x.kind = k.1 ∧ x.slot = k.2 ∧ x.state = .opened ∧ x.isNew = false ∧
        x.length = 0 ∧ x.granules = [] ∧ x.holds = 0 ∧ x.created = s.calendar.time) ∧
      (v = true → t.timers.e6.Runs .vce (s.settings.voxTimeoutS * 1000) (.block e.path s.settings.silenceLevel)) ∧
      Answered s t f.port 0x41#8 .ok [.u16 (clamp 5 600 seconds.toNat)] ∧
      SameBut ([.voiceOp, .header, .directory, .outgoing f.port] ++ if v = true then [.timer 6] else []) s t := by
  set x := s.newEntry k.1 k.2 false with hx
  have hmaster : decide (f.port.party = .auto) = false := by cases f.port <;> rfl
  set u : State := { (s.create k.1 k.2 false).1 with
    voice.op := { recordingStarted f.port.party k.1 k.2 e v (clamp 5 600 seconds.toNat) with message := some x.id } } with hu
  have hstarts : (s.startRecord f.port.party k.1 k.2 e v (clamp 5 600 seconds.toNat)).1 =
      if v = true then u.loadT6 e.path else u := by
    rw [State.startRecord_creates hroom, hmaster]
  have hset (w : State) (o : VoiceOp) : SameBut [.voiceOp] w { w with voice.op := o } := .of_parts (by simp)
  have husame : SameBut ([.header, .directory] ++ [.voiceOp]) s u := (State.create_same hroom _ _ _).andThen (hset _ _)
  have hstore : u.store = { s.store with dir := s.store.dir ++ [x], header := { s.store.header with lastId := x.id } } := by
    rw [hu, State.create_some hroom]
  have hbody := (takeRecord_starts (p := f.port) (seconds := seconds) hk he hv hbar).trans (congrArg (·, _) hstarts)
  cases v with
  | false =>
    obtain ⟨t, hnext, ht, hanswered, hsame⟩ := command_changes h hbody husame (by simp)
    refine ⟨t, hnext, ?_, ?_, ?_, ?_, ?_, ?_, ?_, ?_, ?_, ?_, ?_, ?_, ⟨x, ?_, ?_, ?_, rfl, rfl, rfl, rfl, rfl, rfl, rfl, rfl⟩,
      nofun, hanswered, hsame.mono (by simp)⟩
    case refine_8 => rw [ht.voice, Nat.mul_comm]; rfl
    case refine_13 => rw [ht.store]; exact congrArg Store.dir hstore
    case refine_15 => rw [ht.store]; exact congrArg (fun t => t.header.lastId) hstore
    all_goals rw [ht.voice]; rfl
  | true =>
    obtain ⟨t, hnext, ht, hanswered, hsame⟩ := command_changes h hbody (husame.andThen (u.loadT6_same e.path)) (by simp)
    have htimers : u.timers = s.timers ∧ u.settings = s.settings := by
      rw [hu, State.create_some hroom]
      exact ⟨rfl, rfl⟩
    refine ⟨t, hnext, ?_, ?_, ?_, ?_, ?_, ?_, ?_, ?_, ?_, ?_, ?_, ?_, ⟨x, ?_, ?_, ?_, rfl, rfl, rfl, rfl, rfl, rfl, rfl, rfl⟩,
      fun _ => ?_, hanswered, hsame.mono (by simp)⟩
    case refine_8 => rw [ht.voice, Nat.mul_comm]; rfl
    case refine_13 => rw [ht.store]; exact congrArg Store.dir hstore
    case refine_15 => rw [ht.store]; exact congrArg (fun t => t.header.lastId) hstore
    case refine_16 =>
      rw [ht.timers, ← htimers.2]
      exact ⟨rfl, rfl, rfl, rfl, rfl⟩
    all_goals rw [ht.voice]; rfl

/-- R156, R173: RECORD without room for an entry. -/
theorem record_full {f : Frame} {kind slot endpoint vox : Byte} {seconds : U16} {k : MsgKind × Option Nat} {e : Endpoint}
    {v : Bool} {s : State} (h : s.Takes f 0x41#8) (hk : recordKind kind slot = some k)
    (he : endpointOf endpoint = some e) (hv : flagOf vox = some v) (hbar : s.voiceBar f.port e = none)
    (hfull : s.canCreate = false) :
    ∃ t, exec (.record f kind slot endpoint vox seconds) s = .next t ∧
      t.voice.op.state = .idle ∧ t.voice.op.user = none ∧ t.voice.op.reason = some .storeFull ∧
      (∀ p, (t.port p).alerts.full = true) ∧
      Answered s t f.port 0x41#8 .ok [.u16 (clamp 5 600 seconds.toNat)] ∧
      SameBut [.voiceOp, .alerts .system, .alerts .panel, .notices .panel, .outgoing f.port] s t := by
  have hset (w : State) (o : VoiceOp) : SameBut [.voiceOp] w { w with voice.op := o } := .of_parts (by simp)
  have hends := State.startRecord_full hfull f.port.party k.1 k.2 e v (clamp 5 600 seconds.toNat)
  rw [State.raiseParty_master] at hends
  obtain ⟨t, hnext, ht, hanswered, hsame⟩ := command_changes h
    ((takeRecord_starts (p := f.port) (seconds := seconds) hk he hv hbar).trans (congrArg (·, _) hends))
    (((s.storeAlert_same .full).andThen (hset _ _)).andThen (State.raiseAt_same _ f.port .voiceDone)) (by simp)
  have hvoice (w : State) (p : Port) : (w.raiseAt p .voiceDone).voice = w.voice := by cases p <;> rfl
  refine ⟨t, hnext, ?_, ?_, ?_, fun p => ?_, hanswered, hsame.mono (by simp)⟩
  · rw [ht.voice, hvoice]
  · rw [ht.voice, hvoice]
  · rw [ht.voice, hvoice]
  · have halerts (w : State) (q : Port) : ((w.raiseAt q .voiceDone).port p).alerts = (w.port p).alerts := by
      cases p <;> cases q <;> rfl
    have hrecorded := s.storeAlert_alerts .full p
    rw [ht.alerts, halerts]
    exact congrArg AlertKinds.full hrecorded

/-- Settles O15: PLAY, and RECORD with and without room. -/
theorem playAndRecordStart : Obligations.PlayAndRecordStart := by
  refine ⟨fun f id start endpoint stopOnDigit e d entry s h he hd hid hvisible hwhole hkind hidle huser hline hlength => ?_,
    fun f kind slot endpoint vox seconds k e v s h hk he hv hidle huser hline =>
      ⟨record_starts h hk he hv (State.voiceBar_none hidle huser hline),
        record_full h hk he hv (State.voiceBar_none hidle huser hline)⟩⟩
  have hbar : s.voiceBar f.port e = none := State.voiceBar_none hidle huser fun heq => (hline heq).1
  obtain ⟨t, hnext, ht, hanswered, hsame⟩ := command_changes h
    (takePlay_starts (p := f.port) he hd hid hvisible hwhole hkind hbar (fun heq => (hline heq).2) hlength)
    (s.startPlay_same f.port.party id.toNat (s.playOffset id.toNat start) e d) (by simp)
  obtain ⟨hop, hdir⟩ := s.startPlay_starts f.port.party id.toNat (s.playOffset id.toNat start) e d
  refine ⟨t, hnext, ?_, ?_, ?_, ?_, ?_, ?_, ?_, ?_, ?_, hanswered, hsame.mono (by simp)⟩
  case refine_9 => rw [ht.store, hdir]
  all_goals rw [ht.voice, hop] <;> rfl

end Sys2Proof.Machine
end

section
/-! PROOFS. Recognitions of tones, digits and cadences, and what they bring in a call (O44). -/

namespace Sys2Proof.Machine

/-! ### The detectors by themselves (R50, R51, R53) -/

/-- R50: the run of a detector over blocks that all hold its tone. -/
theorem Detector.judge_present_repeat (n : Nat) :
    Nat.repeat (fun d => Detector.judge d true) n Detector.zero = ⟨min 25 n, decide (25 ≤ n)⟩ := by
  induction n with
  | zero => rfl
  | succ n ih =>
    show Detector.judge (Nat.repeat (fun d => Detector.judge d true) n Detector.zero) true = _
    rw [ih]
    have hrun : bump Config.toneRun (min 25 n) = min 25 (n + 1) := by
      unfold bump Config.toneRun
      omega
    have hmade : (decide (25 ≤ n) || decide (24 ≤ min 25 n)) = decide (25 ≤ n + 1) := by
      rw [Bool.eq_iff_iff, Bool.or_eq_true, decide_eq_true_iff, decide_eq_true_iff, decide_eq_true_iff]
      omega
    show Detector.mk (bump Config.toneRun (min 25 n)) (decide (25 ≤ n) || decide (24 ≤ min 25 n)) = _
    rw [hrun, hmade]

theorem Detector.judge_absent (d : Detector) : d.judge false = .zero := rfl

theorem Detector.recognises_absent (d : Detector) : d.recognises false = false := rfl

/-- R50: the block that makes the recognition is the one after a run of 24. -/
theorem Detector.recognises_present (d : Detector) : d.recognises true = true ↔ d.run = 24 := by
  rw [Detector.recognises, Bool.true_and, decide_eq_true_iff]

theorem Detector.not_recognises {d : Detector} (h : d.run < 24) : d.recognises true = false := by
  rw [Bool.eq_false_iff, Ne, Detector.recognises_present]
  omega

/-- R51: a block with a digit while none is reported. -/
theorem Dtmf.judge_unreported {d : Dtmf} {x : Symbol} (h : d.reported = none) (hrun : (d.candidateAfter (some x)).run < 3) :
    d.judge (some x) = (d.candidateAfter (some x), none) := by
  have hreported : (d.candidateAfter (some x)).reported = none := by
    unfold Dtmf.candidateAfter
    dsimp only
    split <;> exact h
  have habsence : (d.candidateAfter (some x)).absenceAfter (some x) = d.candidateAfter (some x) := by
    unfold Dtmf.absenceAfter
    rw [hreported]
  unfold Dtmf.judge
  dsimp only
  rw [habsence, hreported]
  split
  · exact if_neg (by omega)
  · rfl

/-- R51: the third equal block reports its digit, and the fourth does not report it again. -/
theorem Dtmf.judge_third {d : Dtmf} {x : Symbol} (hreported : d.reported = none) (hcandidate : d.candidate = some x)
    (hrun : d.run = 2) : (d.judge (some x)).2 = some x ∧ ((d.judge (some x)).1.judge (some x)).2 = none := by
  obtain ⟨candidate, run, reported, absence⟩ := d
  cases hreported
  cases hcandidate
  cases hrun
  have hthird : Dtmf.judge ⟨some x, 2, none, absence⟩ (some x) = (⟨some x, 3, some x, 0⟩, some x) := by
    simp [Dtmf.judge, Dtmf.candidateAfter, Dtmf.absenceAfter, bump]
  rw [hthird]
  exact ⟨rfl, by simp [Dtmf.judge, Dtmf.candidateAfter, Dtmf.absenceAfter]⟩

/-- R51: a digit that comes anew is reported at its third block, once. -/
theorem Dtmf.judge_reports (x : Symbol) (d : Dtmf) (hreported : d.reported = none) (hnew : d.candidate ≠ some x) :
    (d.judge (some x)).2 = none ∧ ((d.judge (some x)).1.judge (some x)).2 = none ∧
      (((d.judge (some x)).1.judge (some x)).1.judge (some x)).2 = some x ∧
      ((((d.judge (some x)).1.judge (some x)).1.judge (some x)).1.judge (some x)).2 = none := by
  have hone : d.candidateAfter (some x) = { d with candidate := some x, run := 1 } := if_neg hnew
  have hfirst : d.judge (some x) = ({ d with candidate := some x, run := 1 }, none) := by
    rw [Dtmf.judge_unreported hreported (by rw [hone]; exact (by decide : 1 < 3)), hone]
  have htwo : Dtmf.candidateAfter { d with candidate := some x, run := 1 } (some x) =
      { d with candidate := some x, run := 2 } := if_pos rfl
  have hsecond : Dtmf.judge { d with candidate := some x, run := 1 } (some x) =
      ({ d with candidate := some x, run := 2 }, none) := by
    rw [Dtmf.judge_unreported (by exact hreported) (by rw [htwo]; exact (by decide : 2 < 3)), htwo]
  have hthird := Dtmf.judge_third (d := { d with candidate := some x, run := 2 }) (x := x) hreported rfl rfl
  rw [hfirst, hsecond]
  exact ⟨rfl, rfl, hthird⟩

/-- R53: a block without the call-progress tone leaves the classifier with an OFF run. -/
theorem Classifier.runAfter_absent (c : Classifier) : (c.runAfter false).kind = .off := by
  unfold Classifier.runAfter
  cases hkind : c.kind with
  | none | on => rfl
  | off =>
    dsimp only
    split <;> rfl

/-- R53: no entry matches at a block without the call-progress tone. -/
theorem Classifier.judge_absent (c : Classifier) (t : Six CadenceEntry) : (c.judge t false).2 = none := by
  have hmatch (e : CadenceEntry) (n : Nat) : entryMatches e (c.runAfter false) (c.formsCycle false) n = false := by
    unfold entryMatches
    split
    · rw [c.runAfter_absent]
      rfl
    · rfl
    · rfl
  have hnone : entryIndices.find? (fun i => entryMatches (t.get i) (c.runAfter false) (c.formsCycle false)
      ((c.countsAfter t false).get i)) = none := List.find?_eq_none.2 fun i _ => by rw [hmatch]; decide
  unfold Classifier.judge
  dsimp only
  rw [hnone]

/-! ### A block before the connection (R49, R50, R53, R54, R56, R57) -/

/-- R53: the classifier has judged the block. -/
def State.cadenceJudged (s : State) (b : ToneBlock) : State :=
  { s with tone.classifier := (s.tone.classifier.judge s.settings.cadence (b.present s 0)).1 }

theorem State.cadenceJudged_same (s : State) (b : ToneBlock) : SameBut [.detectors] s (s.cadenceJudged b) :=
  tone_same s _ rfl

theorem State.classifierBlock_quiet {s : State} {b : ToneBlock} (h : s.classifierActive)
    (hnone : (s.tone.classifier.judge s.settings.cadence (b.present s 0)).2 = none) :
    s.classifierBlock b = s.cadenceJudged b := by
  unfold State.classifierBlock
  rw [if_pos h]
  dsimp only
  rw [hnone] <;> rfl

theorem State.classifierBlock_makes {s : State} {b : ToneBlock} {c : CadenceClass} (h : s.classifierActive)
    (hsome : (s.tone.classifier.judge s.settings.cadence (b.present s 0)).2 = some c) :
    s.classifierBlock b = (s.cadenceJudged b).classified c := by
  unfold State.classifierBlock
  rw [if_pos h]
  dsimp only
  rw [hsome] <;> rfl

theorem State.answerBlock_inactive {s : State} (h : ¬s.answerActive) (b : ToneBlock) : s.answerBlock b = s := if_neg h

theorem State.voiceBlock_inactive {s : State} (h : ¬s.voiceActive) (b : ToneBlock) : s.voiceBlock b = s := if_neg h

/-- R50: a block that does not make the ANSWER recognition. -/
theorem State.answerBlock_quiet {s : State} {b : ToneBlock} (h : s.answerActive)
    (hquiet : s.tone.answer.recognises (b.present s 3) = false) :
    s.answerBlock b = { s with tone.answer := s.tone.answer.judge (b.present s 3) } := by
  unfold State.answerBlock
  rw [if_pos h]
  exact if_neg (by simp [hquiet])

/-- R56: a block that makes it connects the call. -/
theorem State.answerBlock_makes {s : State} {b : ToneBlock} (h : s.answerActive)
    (hmakes : s.tone.answer.recognises (b.present s 3) = true) :
    s.answerBlock b = State.connectCall { s with tone.answer := s.tone.answer.judge (b.present s 3) } := by
  unfold State.answerBlock
  rw [if_pos h]
  exact if_pos hmakes

/-- R49: an outgoing DATA or FAX call in PROGRESS has the ANSWER detector beside the classifier. -/
theorem State.toneBlock_answering {s : State} (h : s.answerActive) (b : ToneBlock) :
    s.toneBlock b = (s.classifierBlock b).answerBlock b := by
  obtain ⟨hline, hjob⟩ := h
  have hvoice : ¬s.voiceActive := by
    rintro ⟨-, hvoice, -⟩
    rw [hvoice] at hjob
    exact hjob.elim nofun nofun
  unfold State.toneBlock
  rw [if_neg (by rw [hline]; decide)]
  dsimp only
  rw [if_neg hvoice, if_pos ⟨hline, hjob⟩]

/-- R57: a VOICE call in PROGRESS whose far end rings has its voice blocks beside the classifier. -/
theorem State.toneBlock_counting {s : State} (h : s.voiceActive) (b : ToneBlock) :
    s.toneBlock b = (s.classifierBlock b).voiceBlock b := by
  obtain ⟨hline, hjob, hringing⟩ := h
  have hanswer : ¬s.answerActive := by
    rintro ⟨-, hdata⟩
    rw [hjob] at hdata
    exact hdata.elim nofun nofun
  unfold State.toneBlock
  rw [if_neg (by rw [hline]; decide)]
  dsimp only
  rw [if_pos ⟨hline, hjob, hringing⟩, if_neg hanswer]

/-- R49: with neither of them only the classifier is active. -/
theorem State.toneBlock_classifying {s : State} (hline : s.ccu.line ≠ .connected) (hanswer : ¬s.answerActive)
    (hvoice : ¬s.voiceActive) (b : ToneBlock) : s.toneBlock b = s.classifierBlock b := by
  unfold State.toneBlock
  rw [if_neg hline]
  dsimp only
  rw [if_neg hvoice, if_neg hanswer]

/-- R54: a block in PROGRESS without an answer or counted sound leaves what the classifier does. -/
theorem State.toneBlock_settles {s : State} {b : ToneBlock} (hline : s.ccu.line = .progress)
    (hquiet : (s.ccu.call.job = .voice ∧ s.ccu.call.farEndRinging = false) ∨
      (s.ccu.call.job ≠ .voice ∧ b.present s 3 = false)) :
    ∃ d, s.toneBlock b = { s.classifierBlock b with tone.answer := d } := by
  have hvoice : ¬s.voiceActive := by
    rintro ⟨-, hvoice, hringing⟩
    rcases hquiet with ⟨-, hstill⟩ | ⟨hother, -⟩
    · exact absurd (hringing.symm.trans hstill) (by decide)
    · exact hother hvoice
  by_cases hanswer : s.answerActive
  · have habsent : b.present s 3 = false := by
      rcases hquiet with ⟨hjob, -⟩ | ⟨-, habsent⟩
      · obtain ⟨-, hdata⟩ := hanswer
        rw [hjob] at hdata
        exact hdata.elim nofun nofun
      · exact habsent
    have hpresent : b.present (s.classifierBlock b) 3 = false :=
      (b.present_congr (s.classifierBlock_frame b).2.2.2 3).trans habsent
    rw [State.toneBlock_answering hanswer]
    by_cases hactive : (s.classifierBlock b).answerActive
    · exact ⟨_, State.answerBlock_quiet hactive (by rw [hpresent]; rfl)⟩
    · exact ⟨_, State.answerBlock_inactive hactive b⟩
  · exact ⟨_, State.toneBlock_classifying (by rw [hline]; decide) hanswer hvoice b⟩

/-! ### The close of such a block -/

/-- R85: the line's block has closed, before the Tone Unit takes it. -/
def State.blockClosed (s : State) (xs : List Sample) (bands : List (List Sample)) (b : ToneBlock) : State :=
  s.lineBlockTaken (s.level.lineSamples s.lif.relayClosed xs bands).1 b.whole

/-- What the Tone Unit finds of the call as a block closes on a line that does not discriminate. -/
structure BlockClosed (s u : State) : Prop where
  line : u.ccu.line = s.ccu.line
  call : u.ccu.call = s.ccu.call
  dialler : u.ccu.dialler = s.ccu.dialler
  rest : u.ccu.t2Use = s.ccu.t2Use ∧ u.ccu.ending = s.ccu.ending
  settings : u.settings = s.settings
  fax : u.fax = s.fax
  tone : u.tone.answer = s.tone.answer ∧ u.tone.classifier = s.tone.classifier ∧ u.tone.voiceBlocks = s.tone.voiceBlocks
  frame : SameBut ([.level, .detectors] ++ allTimers) s u

theorem State.blockClosed_closed {s : State} (hdiscr : s.rau.discr = none) (xs : List Sample) (bands : List (List Sample))
    (b : ToneBlock) : BlockClosed s (s.blockClosed xs bands b) := by
  have hu := s.lineBlockTaken_taken (s.level.lineSamples s.lif.relayClosed xs bands).1 b.whole
  have hframe := hu.plain hdiscr
  obtain ⟨-, hending, -, huse⟩ := hframe .ccuRest (by simp [allTimers]) (by simp)
  have htone : (s.blockClosed xs bands b).tone = _ := hu.tone
  exact
    { line := hframe .line (by simp [allTimers]) (by simp)
      call := hframe .call (by simp [allTimers]) (by simp)
      dialler := hframe .dialler (by simp [allTimers]) (by simp)
      rest := ⟨huse, hending⟩
      settings := hframe .settings (by simp [allTimers]) (by simp)
      fax := hframe .fax (by simp [allTimers]) (by simp)
      tone := by rw [htone]; exact ⟨rfl, rfl, rfl⟩
      frame := hframe }

theorem BlockClosed.judged {s u : State} (h : BlockClosed s u) (b : ToneBlock) :
    u.tone.classifier.judge u.settings.cadence (b.present u 0) =
      s.tone.classifier.judge s.settings.cadence (b.present s 0) := by
  rw [h.tone.2.1, h.settings, b.present_congr h.settings]

/-- R101: the start of the pump leaves the notices. -/
theorem State.Noticed.pumpStart {s : State} {p : Port} {x : Source} (h : s.Noticed p x) (role : PumpRole) :
    (s.pumpStart role).Noticed p x := by
  unfold State.pumpStart State.reportPhase
  split <;> exact h.congr (fun _ => rfl) rfl

/-- The row of a block that closes, by what the Tone Unit does. -/
theorem lineBlock_does {s v : State} {xs : List Sample} {bands : List (List Sample)} {b : ToneBlock} {parts : List Part}
    (h : s.LineBlockCloses xs bands b) (hdiscr : s.rau.discr = none) (hv : (s.blockClosed xs bands b).toneBlock b = v)
    (hsame : SameBut parts (s.blockClosed xs bands b) v) :
    ∃ t, exec (.blockEvent .line xs bands) s = .next t ∧ v.Delivered t ∧
      SameBut ([.level, .detectors] ++ allTimers ++ parts) s t :=
  finish_does ((exec_lineBlock h).trans (congrArg finish hv))
    ((State.blockClosed_closed hdiscr xs bands b).frame.andThen hsame)

section
variable {s : State} {xs : List Sample} {bands : List (List Sample)} {b : ToneBlock}

/-! ### PROGRESS (R50, R54, R56, R57) -/

/-- R56: the classifier makes nothing of a block without its tone, and the ANSWER detector judges it. -/
theorem BlockClosed.answers {u : State} (h : BlockClosed s u) (hline : s.ccu.line = .progress)
    (hjob : s.ccu.call.job = .data ∨ s.ccu.call.job = .fax) (habsent : b.present s 0 = false) :
    (u.cadenceJudged b).answerActive ∧ u.toneBlock b = (u.cadenceJudged b).answerBlock b ∧
      b.present (u.cadenceJudged b) 3 = b.present s 3 ∧ (u.cadenceJudged b).tone.answer = s.tone.answer := by
  have hactive : u.answerActive := ⟨h.line.trans hline, by rw [h.call]; exact hjob⟩
  have hquiet : u.classifierBlock b = u.cadenceJudged b :=
    State.classifierBlock_quiet (.inr (.inr hactive.1)) (by rw [h.judged, habsent]; exact Classifier.judge_absent _ _)
  exact ⟨hactive, (State.toneBlock_answering hactive b).trans (congrArg (State.answerBlock · b) hquiet),
    b.present_congr h.settings 3, h.tone.1⟩

theorem answer_judged (h : s.LineBlockCloses xs bands b) (hdiscr : s.rau.discr = none) (hline : s.ccu.line = .progress)
    (hjob : s.ccu.call.job = .data ∨ s.ccu.call.job = .fax) (habsent : b.present s 0 = false)
    (hquiet : s.tone.answer.recognises (b.present s 3) = false) :
    ∃ t, exec (.blockEvent .line xs bands) s = .next t ∧ t.tone.answer = s.tone.answer.judge (b.present s 3) ∧
      SameBut ([.level, .detectors] ++ allTimers) s t := by
  obtain ⟨hactive, hblock, hpresent, hanswer⟩ :=
    (State.blockClosed_closed hdiscr xs bands b).answers (b := b) hline hjob habsent
  obtain ⟨t, hnext, ht, hsame⟩ := lineBlock_does h hdiscr
    (hblock.trans (State.answerBlock_quiet hactive (by rw [hpresent, hanswer]; exact hquiet)))
    ((State.cadenceJudged_same _ b).andThen (tone_same _ _ rfl))
  refine ⟨t, hnext, ?_, hsame.mono (by simp [allTimers])⟩
  rw [ht.tone, hpresent, hanswer]

theorem answer_connects_data (h : s.LineBlockCloses xs bands b) (hdiscr : s.rau.discr = none)
    (hline : s.ccu.line = .progress) (hjob : s.ccu.call.job = .data) (habsent : b.present s 0 = false)
    (hpresent : b.present s 3 = true) (hrun : s.tone.answer.run = 24) :
    ∃ t, exec (.blockEvent .line xs bands) s = .next t ∧ t.ccu.line = .connected ∧ t.timers.e2.mode = .off ∧
      t.pump.mode = .data ∧ t.pump.role = some .caller ∧ t.pump.phase = .handshake ∧ t.pump.answerTone = false ∧
      (∀ p, t.Noticed p .callState) ∧
      SameBut ([.level, .line, .call, .ccuRest, .detectors, .pump, .notices .panel] ++ allTimers) s t := by
  have hu := State.blockClosed_closed hdiscr xs bands b
  obtain ⟨hactive, hblock, hp, hanswer⟩ := hu.answers (b := b) hline (.inl hjob) habsent
  set w : State := { (s.blockClosed xs bands b).cadenceJudged b with
    tone.answer := ((s.blockClosed xs bands b).cadenceJudged b).tone.answer.judge
      (b.present ((s.blockClosed xs bands b).cadenceJudged b) 3) } with hw
  have hwjob : w.ccu.call.job = .data := (congrArg CallRecord.job hu.call).trans hjob
  have hwline : w.ccu.line ≠ .connected := by rw [show w.ccu.line = _ from hu.line.trans hline]; decide
  have hmakes : ((s.blockClosed xs bands b).cadenceJudged b).tone.answer.recognises
      (b.present ((s.blockClosed xs bands b).cadenceJudged b) 3) = true := by
    rw [hp, hanswer, hpresent, Detector.recognises_present]
    exact hrun
  have hconnects : w.connectCall = w.lineConnected.pumpStart .caller := by rw [State.connectCall_eq, hwjob]
  have hstart := w.lineConnected.pumpStart_same .caller
  obtain ⟨t, hnext, ht, hsame⟩ := lineBlock_does h hdiscr
    (hblock.trans ((State.answerBlock_makes hactive hmakes).trans hconnects))
    (((((s.blockClosed xs bands b).cadenceJudged_same b).andThen
      (tone_same ((s.blockClosed xs bands b).cadenceJudged b) w.tone rfl)).andThen w.lineConnected_same).andThen hstart)
  obtain ⟨hconnected, hoff, -, -, -, -, -⟩ := w.lineConnected_leaves
  obtain ⟨hpumps, -⟩ := w.lineConnected.pumpStart_pumps .caller
  refine ⟨t, hnext, ?_, ?_, ?_, ?_, ?_, ?_, fun p => ht.notice p _ ?_, hsame.mono (by simp [allTimers])⟩
  · rw [ht.ccu]
    exact (hstart .line (by simp) (by simp)).trans hconnected
  · rw [ht.timers]
    exact (congrArg Channel.mode (hstart (.timer 2) (by simp) (by simp))).trans hoff
  · rw [ht.pump]
    exact hpumps.mode
  · rw [ht.pump]
    exact hpumps.inRole
  · rw [ht.pump]
    exact hpumps.phase
  · rw [ht.pump]
    exact hpumps.tone
  · exact (State.lineConnected_noticed hwline p).pumpStart .caller

theorem answer_connects_fax (h : s.LineBlockCloses xs bands b) (hdiscr : s.rau.discr = none)
    (hline : s.ccu.line = .progress) (hjob : s.ccu.call.job = .fax) (habsent : b.present s 0 = false)
    (hpresent : b.present s 3 = true) (hrun : s.tone.answer.run = 24) (hrole : s.fax.role = some .sender)
    (hbounds : max 2 s.settings.rungFloor ≤ min 7 s.settings.rungCeiling) :
    ∃ t, exec (.blockEvent .line xs bands) s = .next t ∧ t.ccu.line = .connected ∧ t.pump.mode = .fax ∧
      t.fax.phase = some .setup ∧ t.fax.expect = .caps ∧ t.LoadedT2 .faxReply 3000 .none ∧
      SameBut ([.level, .line, .call, .ccuRest, .detectors, .pump, .fax, .notices .panel] ++ allTimers) s t := by
  have hu := State.blockClosed_closed hdiscr xs bands b
  obtain ⟨hactive, hblock, hp, hanswer⟩ := hu.answers (b := b) hline (.inr hjob) habsent
  set w : State := { (s.blockClosed xs bands b).cadenceJudged b with
    tone.answer := ((s.blockClosed xs bands b).cadenceJudged b).tone.answer.judge
      (b.present ((s.blockClosed xs bands b).cadenceJudged b) 3) } with hw
  have hmakes : ((s.blockClosed xs bands b).cadenceJudged b).tone.answer.recognises
      (b.present ((s.blockClosed xs bands b).cadenceJudged b) 3) = true := by
    rw [hp, hanswer, hpresent, Detector.recognises_present]
    exact hrun
  have hsettings : w.settings = s.settings := hu.settings
  have hconnected : SenderConnected w w.connectCall := State.connectCall_sender
    ((congrArg CallRecord.job hu.call).trans hjob) ((congrArg Fax.role hu.fax).trans hrole) (hu.line.trans hline)
    (by rw [hsettings]; exact hbounds)
  obtain ⟨t, hnext, ht, hsame⟩ := lineBlock_does h hdiscr
    (hblock.trans (State.answerBlock_makes hactive hmakes))
    ((((s.blockClosed xs bands b).cadenceJudged_same b).andThen
      (tone_same ((s.blockClosed xs bands b).cadenceJudged b) w.tone rfl)).andThen hconnected.frame)
  refine ⟨t, hnext, ?_, ?_, ?_, ?_, ht.loaded _ _ _ hconnected.waits, hsame.mono (by simp [allTimers])⟩
  · rw [ht.ccu]
    exact hconnected.line
  · rw [ht.pump]
    exact hconnected.mode
  · rw [ht.fax, hconnected.fax]
  · rw [ht.fax, hconnected.fax]

/-- R57: a block of a VOICE call whose far end rings, without the call-progress tone. -/
theorem BlockClosed.counts {u : State} (h : BlockClosed s u) (hline : s.ccu.line = .progress)
    (hjob : s.ccu.call.job = .voice) (hringing : s.ccu.call.farEndRinging = true) (habsent : b.present s 0 = false) :
    u.toneBlock b = if s.settings.silenceLevel ≤ b.whole then
      if 10 ≤ s.tone.voiceBlocks + 1 then
        State.connectCall { u.cadenceJudged b with tone.voiceBlocks := s.tone.voiceBlocks + 1 }
      else { u.cadenceJudged b with tone.voiceBlocks := s.tone.voiceBlocks + 1 }
    else { u.cadenceJudged b with tone.voiceBlocks := 0 } := by
  have hactive : u.voiceActive := ⟨h.line.trans hline, by rw [h.call]; exact hjob, by rw [h.call]; exact hringing⟩
  have hquiet : u.classifierBlock b = u.cadenceJudged b :=
    State.classifierBlock_quiet (.inr (.inr hactive.1)) (by rw [h.judged, habsent]; exact Classifier.judge_absent _ _)
  have hpresent : b.present (u.cadenceJudged b) 0 = false := (b.present_congr h.settings 0).trans habsent
  have hlevel : (u.cadenceJudged b).settings.silenceLevel = s.settings.silenceLevel :=
    congrArg Settings.silenceLevel h.settings
  have hcount : (u.cadenceJudged b).tone.voiceBlocks = s.tone.voiceBlocks := h.tone.2.2
  have hcounts : (u.cadenceJudged b).voiceActive := hactive
  rw [State.toneBlock_counting hactive, hquiet, State.voiceBlock, if_pos hcounts, hpresent, hlevel, hcount]
  by_cases hloud : s.settings.silenceLevel ≤ b.whole
  · rw [if_pos ⟨hloud, rfl⟩, if_pos hloud]
  · rw [if_neg fun hboth => hloud hboth.1, if_neg hloud]

theorem voice_connects (h : s.LineBlockCloses xs bands b) (hdiscr : s.rau.discr = none) (hline : s.ccu.line = .progress)
    (hjob : s.ccu.call.job = .voice) (hringing : s.ccu.call.farEndRinging = true) (habsent : b.present s 0 = false)
    (hloud : s.settings.silenceLevel ≤ b.whole) (hblocks : 9 ≤ s.tone.voiceBlocks) :
    ∃ t, exec (.blockEvent .line xs bands) s = .next t ∧ t.ccu.line = .connected ∧ t.timers.e2.mode = .off ∧
      (∀ p, t.Noticed p .callState) ∧
      SameBut ([.level, .line, .ccuRest, .detectors, .notices .panel] ++ allTimers) s t := by
  have hu := State.blockClosed_closed hdiscr xs bands b
  have hblock := hu.counts (b := b) hline hjob hringing habsent
  rw [if_pos hloud, if_pos (by omega)] at hblock
  set w : State := { (s.blockClosed xs bands b).cadenceJudged b with tone.voiceBlocks := s.tone.voiceBlocks + 1 }
  have hwjob : w.ccu.call.job = .voice := (congrArg CallRecord.job hu.call).trans hjob
  have hwline : w.ccu.line ≠ .connected := by rw [show w.ccu.line = _ from hu.line.trans hline]; decide
  have hconnects : w.connectCall = w.lineConnected := by rw [State.connectCall_eq, hwjob]
  obtain ⟨t, hnext, ht, hsame⟩ := lineBlock_does h hdiscr (hblock.trans hconnects)
    ((((s.blockClosed xs bands b).cadenceJudged_same b).andThen
      (tone_same ((s.blockClosed xs bands b).cadenceJudged b) w.tone rfl)).andThen w.lineConnected_same)
  obtain ⟨hconnected, hoff, -, -, -, -, -⟩ := w.lineConnected_leaves
  refine ⟨t, hnext, ?_, ?_, fun p => ht.notice p _ (State.lineConnected_noticed hwline p), hsame.mono (by simp [allTimers])⟩
  · rw [ht.ccu]
    exact hconnected
  · rw [ht.timers]
    exact hoff

theorem voice_counted (h : s.LineBlockCloses xs bands b) (hdiscr : s.rau.discr = none) (hline : s.ccu.line = .progress)
    (hjob : s.ccu.call.job = .voice) (hringing : s.ccu.call.farEndRinging = true) (habsent : b.present s 0 = false) :
    (s.settings.silenceLevel ≤ b.whole → s.tone.voiceBlocks < 9 →
      ∃ t, exec (.blockEvent .line xs bands) s = .next t ∧ t.tone.voiceBlocks = s.tone.voiceBlocks + 1 ∧
        SameBut ([.level, .detectors] ++ allTimers) s t) ∧
    (b.whole < s.settings.silenceLevel →
      ∃ t, exec (.blockEvent .line xs bands) s = .next t ∧ t.tone.voiceBlocks = 0 ∧
        SameBut ([.level, .detectors] ++ allTimers) s t) := by
  have hblock := (State.blockClosed_closed hdiscr xs bands b).counts (b := b) hline hjob hringing habsent
  have hcounted (n : Nat) (hn : (s.blockClosed xs bands b).toneBlock b =
      { (s.blockClosed xs bands b).cadenceJudged b with tone.voiceBlocks := n }) :
      ∃ t, exec (.blockEvent .line xs bands) s = .next t ∧ t.tone.voiceBlocks = n ∧
        SameBut ([.level, .detectors] ++ allTimers) s t := by
    obtain ⟨t, hnext, ht, hsame⟩ := lineBlock_does h hdiscr hn
      ((State.cadenceJudged_same _ b).andThen (tone_same _ _ rfl))
    exact ⟨t, hnext, by rw [ht.tone], hsame.mono (by simp [allTimers])⟩
  refine ⟨fun hloud hfew => hcounted _ ?_, fun hquiet => hcounted _ ?_⟩
  · rwa [if_pos hloud, if_neg (by omega)] at hblock
  · rwa [if_neg (by omega)] at hblock

/-- R54: BUSY and CONGESTION end the call. -/
theorem busy_ends (h : s.LineBlockCloses xs bands b) (hdiscr : s.rau.discr = none) (hline : s.ccu.line = .progress)
    {c : CadenceClass} (hc : c = .busy ∨ c = .congestion)
    (hmakes : (s.tone.classifier.judge s.settings.cadence (b.present s 0)).2 = some c)
    (hactive : s.ccu.call.active = true) (hending : s.ccu.ending = none) :
    ∃ t, exec (.blockEvent .line xs bands) s = .next t ∧ CallEnded [.timer 7] s t .busy := by
  have hu := State.blockClosed_closed hdiscr xs bands b
  set u := s.blockClosed xs bands b with hudef
  have huline : u.ccu.line = .progress := hu.line.trans hline
  have hjline : (u.cadenceJudged b).ccu.line = .progress := huline
  have hended : CallEnded [] (u.cadenceJudged b) ((u.cadenceJudged b).reportEnd .busy) .busy :=
    State.reportEnd_ended (s := u.cadenceJudged b)
      ((congrArg CallRecord.active hu.call).trans hactive) (hu.rest.2.trans hending) .busy
  set w := (u.cadenceJudged b).reportEnd .busy with hw
  have hclassified : u.classifierBlock b = w := by
    rw [State.classifierBlock_makes (.inr (.inr huline)) (by rw [hu.judged]; exact hmakes), hw]
    unfold State.classified
    rw [if_pos hjline]
    rcases hc with rfl | rfl <;> rfl
  have hreleasing : w.ccu.line ≠ .progress := by rw [hended.line]; decide
  have hblock : u.toneBlock b = w := by
    by_cases hanswer : u.answerActive
    · rw [State.toneBlock_answering hanswer, hclassified]
      exact State.answerBlock_inactive (fun ha => hreleasing ha.1) b
    · by_cases hvoice : u.voiceActive
      · rw [State.toneBlock_counting hvoice, hclassified]
        exact State.voiceBlock_inactive (fun ha => hreleasing ha.1) b
      · rw [State.toneBlock_classifying (by rw [huline]; decide) hanswer hvoice, hclassified]
  refine ⟨_, (exec_lineBlock h).trans (congrArg finish hblock), ?_⟩
  exact (hended.after (hu.frame.andThen (u.cadenceJudged_same b)) (by simp [endParts, allTimers])
    (by simp [allTimers])).finish

/-- R54: RINGBACK is noted, and no classification leaves the call. -/
theorem progress_goes_on (h : s.LineBlockCloses xs bands b) (hdiscr : s.rau.discr = none) (hline : s.ccu.line = .progress)
    (hquiet : (s.ccu.call.job = .voice ∧ s.ccu.call.farEndRinging = false) ∨
      (s.ccu.call.job ≠ .voice ∧ b.present s 3 = false)) {j : Classifier × Option CadenceClass}
    (hj : j = s.tone.classifier.judge s.settings.cadence (b.present s 0)) :
    (j.2 = some .ringback →
      ∃ t, exec (.blockEvent .line xs bands) s = .next t ∧ t.tone.classifier = j.1 ∧
        t.ccu.call = { s.ccu.call with farEndRinging := true } ∧ SameBut ([.level, .call, .detectors] ++ allTimers) s t) ∧
    (j.2 = none →
      ∃ t, exec (.blockEvent .line xs bands) s = .next t ∧ t.tone.classifier = j.1 ∧
        SameBut ([.level, .detectors] ++ allTimers) s t) := by
  have hu := State.blockClosed_closed hdiscr xs bands b
  set u := s.blockClosed xs bands b with hudef
  have huline : u.ccu.line = .progress := hu.line.trans hline
  have hjline : (u.cadenceJudged b).ccu.line = .progress := huline
  have hjudged := hu.judged b
  rw [← hj] at hjudged
  have hclassifier : (u.cadenceJudged b).tone.classifier = j.1 := congrArg Prod.fst hjudged
  obtain ⟨d, hblock⟩ := State.toneBlock_settles (b := b) huline
    (by rw [hu.call, b.present_congr hu.settings]; exact hquiet)
  refine ⟨fun hringback => ?_, fun hnone => ?_⟩
  · have hnoted : u.classifierBlock b = { u.cadenceJudged b with ccu.call.farEndRinging := true } := by
      rw [State.classifierBlock_makes (.inr (.inr huline)) (by rw [hjudged]; exact hringback), State.classified,
        if_pos hjline]
    rw [hnoted] at hblock
    have hring : SameBut [.call] (u.cadenceJudged b) { u.cadenceJudged b with ccu.call.farEndRinging := true } :=
      .of_parts (by simp)
    obtain ⟨t, hnext, ht, hsame⟩ := lineBlock_does h hdiscr hblock
      (((u.cadenceJudged_same b).andThen hring).andThen (tone_same _ _ rfl))
    refine ⟨t, hnext, by rw [ht.tone]; exact hclassifier, ?_, hsame.mono (by simp [allTimers])⟩
    rw [ht.ccu, ← hu.call]
    rfl
  · rw [State.classifierBlock_quiet (.inr (.inr huline)) (by rw [hjudged]; exact hnone)] at hblock
    obtain ⟨t, hnext, ht, hsame⟩ := lineBlock_does h hdiscr hblock
      ((u.cadenceJudged_same b).andThen (tone_same _ _ rfl))
    exact ⟨t, hnext, by rw [ht.tone]; exact hclassifier, hsame.mono (by simp [allTimers])⟩

/-! ### The waits for dial tone (R46, R49) -/

/-- R46: the wait for dial tone is over; its classifier state is dropped. -/
def State.toneHeard (s : State) : State := { s.stopT2 with tone.classifier := .zero }

theorem State.toneHeard_same (s : State) : SameBut [.ccuRest, .timer 2, .detectors] s s.toneHeard :=
  s.stopT2_same.andThen (tone_same s.stopT2 { s.tone with classifier := .zero } rfl)

/-- R49: the start of an item leaves a dropped classifier. -/
theorem State.dialOn_classifier {s : State} (h : s.tone.classifier = .zero) : s.dialOn.tone.classifier = .zero := by
  unfold State.dialOn
  split
  · next i _ =>
    cases i with
    | pulse x =>
      unfold State.startItem State.startPulse
      dsimp only
      split <;> exact h
    | tone | pause | flash => exact h
    | waitTone => rfl
  · simp [State.enterProgress]

/-- R54: a classification before PROGRESS goes to the wait for dial tone. -/
theorem BlockClosed.hears {u : State} (h : BlockClosed s u) (hline : s.ccu.line = .seizing ∨ s.ccu.line = .dialing)
    (hactive : s.classifierActive)
    (hmakes : (s.tone.classifier.judge s.settings.cadence (b.present s 0)).2 = some .dial) :
    u.toneBlock b = (u.cadenceJudged b).dialToneHeard := by
  have huline : u.ccu.line ≠ .connected ∧ u.ccu.line ≠ .progress := by
    rw [h.line]
    rcases hline with hline | hline <;> rw [hline] <;> decide
  have huactive : u.classifierActive := by
    unfold State.classifierActive
    rw [h.line, h.rest.1, h.dialler]
    exact hactive
  rw [State.toneBlock_classifying huline.1 (fun ha => huline.2 ha.1) (fun ha => huline.2 ha.1),
    State.classifierBlock_makes huactive (by rw [h.judged]; exact hmakes)]
  unfold State.classified
  rw [if_neg (show (u.cadenceJudged b).ccu.line ≠ .progress from huline.2), if_pos rfl]

theorem dialTone_dials {i : DialItem} (h : s.LineBlockCloses xs bands b) (hdiscr : s.rau.discr = none)
    (hline : s.ccu.line = .seizing) (huse : s.ccu.t2Use = .dialToneWait)
    (hmakes : (s.tone.classifier.judge s.settings.cadence (b.present s 0)).2 = some .dial) (hi : s.dialItems[0]? = some i) :
    ∃ t, exec (.blockEvent .line xs bands) s = .next t ∧ t.ccu.line = .dialing ∧ t.ccu.dialler.cursor = 0 ∧
      s.ItemStarted t (some i) ∧ t.tone.classifier = .zero ∧ (∀ p, t.Noticed p .callState) ∧
      SameBut ([.level, .line, .ccuRest, .detectors, .notices .panel] ++ allTimers ++ itemParts (some i)) s t := by
  have hu := State.blockClosed_closed hdiscr xs bands b
  set u := s.blockClosed xs bands b with hudef
  have hheard : (u.cadenceJudged b).dialToneHeard = (u.cadenceJudged b).toneHeard.enterDialing :=
    if_pos ⟨hu.line.trans hline, hu.rest.1.trans huse⟩
  have hitems : (u.cadenceJudged b).toneHeard.dialItems[0]? = some i := by
    rw [← hi]
    exact congrArg (fun c : CallRecord => (c.dialList.getD [])[0]?) hu.call
  have hblock := (hu.hears (b := b) (.inl hline) (.inl ⟨hline, huse⟩) hmakes).trans hheard
  have hidle : SameBut [.dialler] (u.cadenceJudged b).toneHeard
      { (u.cadenceJudged b).toneHeard with ccu.dialler := .reset } := .of_parts (by simp)
  have hbefore := (((u.cadenceJudged_same b).andThen (u.cadenceJudged b).toneHeard_same).andThen hidle).andThen
    (State.lineTo_same _ .dialing)
  have hnoticed (p : Port) := State.lineTo_noticed (s := { (u.cadenceJudged b).toneHeard with ccu.dialler := .reset })
    (l := .dialing) (by rw [show ({ (u.cadenceJudged b).toneHeard with ccu.dialler := .reset } : State).ccu.line = _ from
      hu.line.trans hline]; decide) p
  have hclassifier : (u.cadenceJudged b).toneHeard.enterDialing.tone.classifier = .zero :=
    State.dialOn_classifier (by simp [State.toneHeard])
  have hdialing : (State.lineTo { (u.cadenceJudged b).toneHeard with ccu.dialler := .reset } .dialing).ccu.line = .dialing ∧
      (State.lineTo { (u.cadenceJudged b).toneHeard with ccu.dialler := .reset } .dialing).ccu.dialler.cursor = 0 ∧
      (State.lineTo { (u.cadenceJudged b).toneHeard with ccu.dialler := .reset } .dialing).settings = s.settings :=
    ⟨by simp, by simp [Dialler.reset], (State.lineTo_same _ .dialing .settings (by simp) (by simp)).trans hu.settings⟩
  rw [State.enterDialing_started hitems] at hblock hclassifier
  generalize State.lineTo { (u.cadenceJudged b).toneHeard with ccu.dialler := .reset } .dialing = v at *
  refine ⟨_, (exec_lineBlock h).trans (congrArg finish hblock), ?_, ?_, ((v.startItem_started i).congr hdialing.2.2.symm).finish,
    ?_, fun p => ?_, ?_⟩
  · simp [hdialing]
  · simp [hdialing]
  · simpa using hclassifier
  · exact ((hnoticed p).congr (fun q => by cases q <;> simp [State.port, PerPort.get]) (by simp)).deliverSystem
  · exact (((hu.frame.andThen hbefore).andThen (v.startItem_same i)).mono (List.append_subset.2
      ⟨by simp [allTimers, dialler_mem_itemParts], List.subset_append_right _ _⟩)).finish

theorem dialTone_goes_on (h : s.LineBlockCloses xs bands b) (hdiscr : s.rau.discr = none) (hline : s.ccu.line = .dialing)
    (hitem : s.ccu.dialler.item = .waiting)
    (hmakes : (s.tone.classifier.judge s.settings.cadence (b.present s 0)).2 = some .dial) :
    ∃ t, exec (.blockEvent .line xs bands) s = .next t ∧ t.ccu.dialler.cursor = s.ccu.dialler.cursor + 1 ∧
      s.ItemStarted t s.dialItems[s.ccu.dialler.cursor + 1]? ∧ t.tone.classifier = .zero ∧
      SameBut ([.level, .ccuRest, .detectors] ++ allTimers ++ itemParts s.dialItems[s.ccu.dialler.cursor + 1]?) s t := by
  have hu := State.blockClosed_closed hdiscr xs bands b
  set u := s.blockClosed xs bands b with hudef
  set v := (u.cadenceJudged b).toneHeard with hv
  have hnot : ¬((u.cadenceJudged b).ccu.line = .seizing ∧ (u.cadenceJudged b).ccu.t2Use = .dialToneWait) := by
    rintro ⟨hseizing, -⟩
    exact absurd (hseizing.symm.trans (hu.line.trans hline)) (by decide)
  have hheard : (u.cadenceJudged b).dialToneHeard = v.itemComplete :=
    (if_neg hnot).trans (if_pos ⟨hu.line.trans hline, (congrArg Dialler.item hu.dialler).trans hitem⟩)
  have hblock := (hu.hears (b := b) (.inr hline) (.inr (.inl ⟨hline, hitem⟩)) hmakes).trans hheard
  have hcursor : v.ccu.dialler.cursor = s.ccu.dialler.cursor := congrArg Dialler.cursor hu.dialler
  have hitems : v.dialItems = s.dialItems := congrArg (fun c : CallRecord => c.dialList.getD []) hu.call
  obtain ⟨hstarted, hnextCursor⟩ := v.itemComplete_started
  have hsame := v.itemComplete_same
  rw [hcursor, hitems] at hstarted hsame
  have hclassifier : v.itemComplete.tone.classifier = .zero := State.dialOn_classifier (by simp [hv, State.toneHeard])
  refine ⟨_, (exec_lineBlock h).trans (congrArg finish hblock), ?_, (hstarted.congr hu.settings.symm).finish, ?_, ?_⟩
  · simp [hnextCursor, hcursor]
  · simpa using hclassifier
  · exact (((hu.frame.andThen ((u.cadenceJudged_same b).andThen (u.cadenceJudged b).toneHeard_same)).andThen hsame).mono
      (List.append_subset.2 ⟨by simp [allTimers], List.subset_append_right _ _⟩)).finish

end

/-- Settles O44: the detectors and the DTMF judgement by themselves, then a block in PROGRESS and in each wait for dial
tone. -/
theorem recognitionsMade : Obligations.RecognitionsMade := by
  refine ⟨fun n d hd => ?_, Dtmf.judge_reports, fun xs bands b s h hdiscr hline => ⟨fun hjob habsent => ⟨fun hp => ?_,
      fun hp hrun => ?_, fun hp hrun hdata => answer_connects_data h hdiscr hline hdata habsent hp hrun,
      fun hp hrun hfax hrole => answer_connects_fax h hdiscr hline hfax habsent hp hrun hrole⟩,
      fun hjob hringing habsent =>
        ⟨voice_connects h hdiscr hline hjob hringing habsent, voice_counted h hdiscr hline hjob hringing habsent⟩,
      fun j hj => ⟨fun hbusy hactive hending => ?_, fun hquiet => progress_goes_on h hdiscr hline hquiet hj⟩⟩,
    fun xs bands b i s h hdiscr hline huse => dialTone_dials h hdiscr hline huse,
    fun xs bands b s h hdiscr hline hitem => dialTone_goes_on h hdiscr hline hitem⟩
  · rw [Detector.judge_present_repeat] at hd
    subst hd
    refine ⟨rfl, decide_eq_true_iff, ?_, rfl, rfl⟩
    rw [Detector.recognises_present]
    show min 25 n = 24 ↔ n = 24
    omega
  · obtain ⟨t, hnext, hanswer, hsame⟩ := answer_judged h hdiscr hline hjob habsent (by rw [hp]; rfl)
    exact ⟨t, hnext, by rw [hanswer, hp, Detector.judge_absent], hsame⟩
  · obtain ⟨t, hnext, hanswer, hsame⟩ := answer_judged h hdiscr hline hjob habsent
      (by rw [hp]; exact Detector.not_recognises hrun)
    refine ⟨t, hnext, ?_, hsame⟩
    have hnext : bump Config.toneRun s.tone.answer.run = s.tone.answer.run + 1 := by
      unfold bump Config.toneRun
      omega
    have hkept : (s.tone.answer.recognised || decide (24 ≤ s.tone.answer.run)) = s.tone.answer.recognised := by
      rw [decide_eq_false (by omega), Bool.or_false]
    rw [hanswer, hp]
    show Detector.mk (bump Config.toneRun s.tone.answer.run) _ = _
    rw [hnext, hkept]
  · rcases hbusy with hbusy | hbusy
    · exact busy_ends h hdiscr hline (.inl rfl) (by rw [← hj]; exact hbusy) hactive hending
    · exact busy_ends h hdiscr hline (.inr rfl) (by rw [← hj]; exact hbusy) hactive hending

end Sys2Proof.Machine
end

section
/-! PROOFS. A cycle end and the answer that it may bring (O40): the ring, the threshold, and the answers as a DATA and a FAX
call. -/

namespace Sys2Proof.Machine

/-! ### The rows in which a cycle end is taken (R64, R67, R74) -/

/-- R64, R67: a row in which a cycle end is taken, with the state in which it is. -/
structure CycleRow (c : Instr) (s v : State) : Prop where
  row : exec c s = finish v.cycleEnds
  episode : v.rau.episode = s.rau.episode
  deadline : c = .cycleEnd → v.rau.deadlines.cycleEnd = none
  presence : c = .presenceHangoverExpiry → v.rau.presence = .none ∧ v.rau.deadlines.heldCycleEnd = false
  inUse : v.lif.lineInUse = s.lif.lineInUse
  frame : SameBut ([.timer 1, .ringing] ++ if c = .cycleEnd then [] else [.lif]) s v

/-- R64: a cycle end that falls due outside a presence, and one that a discarded presence held. -/
theorem cycleRow_of {c : Instr} {s : State}
    (h : (c = .cycleEnd ∧ ∃ due, s.rau.deadlines.cycleEnd = some due ∧ (s.rau.presence = .none ∨ ¬s.startedBefore due)) ∨
      (c = .presenceHangoverExpiry ∧ s.lif.ringPresent = true ∧ s.timers.e1.mode = .capture ∧
        s.rau.presence = .pending ∧ s.rau.deadlines.heldCycleEnd = true ∧ s.rau.deadlines.heldEpisodeEnd = false)) :
    ∃ v, CycleRow c s v := by
  rcases h with ⟨rfl, due, hdue, hfree⟩ | ⟨rfl, hpresent, hruns, hpending, hcycle, hepisode⟩
  · refine ⟨s.deadlineFell due { s.rau.deadlines with cycleEnd := none }, ?_, rfl, fun _ => rfl, nofun, rfl,
      s.deadlineFell_same _ _⟩
    rw [exec_cycleEnd hdue, if_pos hfree]
  · refine ⟨s.presenceDropped, ?_, rfl, nofun, fun _ => ⟨rfl, rfl⟩, rfl, s.presenceDropped_same.mono (by simp)⟩
    rw [exec_hangover_pending hpresent hruns hpending, State.presenceDiscarded_eq, if_neg (by simp [hepisode]),
      if_pos hcycle]

/-- R74: the threshold of an episode. -/
theorem State.threshold_eq (s : State) :
    s.threshold = if s.settings.tollSaver = true ∧
        (∃ e ∈ s.store.dir, e.state = .complete ∧ e.isNew = true ∧ (e.kind = .voiceMsg ∨ e.kind = .faxIn))
      then s.settings.tollSaverRings else s.settings.ringsToAnswer.get s.rau.episode.pattern := by
  have hunheard : s.store.dir.any Entry.unheard = true ↔
      ∃ e ∈ s.store.dir, e.state = .complete ∧ e.isNew = true ∧ (e.kind = .voiceMsg ∨ e.kind = .faxIn) := by
    simp [Entry.unheard, and_assoc]
  exact if_congr (and_congr Iff.rfl hunheard) rfl rfl

/-- R74: what a cycle end leaves before the answer that it may bring. -/
structure RingTaken (c : Instr) (p n : Nat) (s w : State) : Prop where
  row : exec c s = finish (if n ≤ bump 65535 s.rau.episode.ringCount ∧ s.mayAnswer
    then w.policyAnswer (s.settings.answerAction.get p) else w)
  episode : w.rau.episode = { s.rau.episode with
    inCycle := false, ringCount := bump 65535 s.rau.episode.ringCount, firstInProgress := false, pattern := p,
    threshold := some n }
  deadline : c = .cycleEnd → w.rau.deadlines.cycleEnd = none
  presence : c = .presenceHangoverExpiry → w.rau.presence = .none ∧ w.rau.deadlines.heldCycleEnd = false
  window : s.rau.episode.firstInProgress = true →
    w.rau.deadlines.windowClose = some (max 1 ((w.timers.e1.count + 4000) % 65536))
  notice : ∀ q, w.Noticed q .ring
  frame : SameBut ([.timer 1, .ringing, .episode, .notices .panel] ++ if c = .cycleEnd then [] else [.lif]) s w

/-- R69: at the end of the first cycle the close of the capture window is set 4 s ahead. -/
theorem State.ringCounted_window {s : State} (h : s.rau.episode.firstInProgress = true) :
    s.ringCounted.rau.deadlines.windowClose = some (max 1 ((s.ringCounted.timers.e1.count + 4000) % 65536)) := by
  unfold State.ringCounted State.firstCycleEnd
  rw [if_pos h]
  exact congrArg some (State.dueIn_eq _ _)

theorem State.answerDecision_eq (s : State) :
    s.answerDecision = if s.threshold ≤ s.rau.episode.ringCount ∧ s.mayAnswer
      then s.thresholdNoted.policyAnswer (s.settings.answerAction.get s.rau.episode.pattern) else s.thresholdNoted := rfl

theorem CycleRow.taken {c : Instr} {s v : State} (h : CycleRow c s v) (hactive : s.rau.episode.active = true) {p n : Nat}
    (hp : p = (if s.rau.episode.firstInProgress = true then min 3 s.rau.episode.firstBursts else s.rau.episode.pattern))
    (hn : n = (if s.settings.tollSaver = true ∧
        (∃ e ∈ s.store.dir, e.state = .complete ∧ e.isNew = true ∧ (e.kind = .voiceMsg ∨ e.kind = .faxIn))
      then s.settings.tollSaverRings else s.settings.ringsToAnswer.get p)) :
    RingTaken c p n s v.ringCounted.thresholdNoted := by
  have hcounted := v.ringCounted_same
  have hboth : SameBut ([.timer 1, .ringing, .episode, .notices .panel] ++ if c = .cycleEnd then [] else [.lif]) s
      v.ringCounted := (h.frame.andThen hcounted).mono (by split <;> simp)
  have hepisode : v.ringCounted.rau.episode = { s.rau.episode with
      inCycle := false, ringCount := bump 65535 s.rau.episode.ringCount, firstInProgress := false, pattern := p } := by
    rw [v.ringCounted_episode, h.episode, hp]
    rfl
  have hsettings : v.ringCounted.settings = s.settings := hboth .settings (by split <;> simp) (by simp)
  have hdir : v.ringCounted.store.dir = s.store.dir := hboth .directory (by split <;> simp) (by simp)
  have hline : v.ringCounted.ccu.line = s.ccu.line := hboth .line (by split <;> simp) (by simp)
  have hpower : v.ringCounted.power = s.power := hboth .power (by split <;> simp) (by simp)
  have hlif : v.ringCounted.lif = v.lif := hcounted .lif (by simp) (by simp)
  have hthreshold : v.ringCounted.threshold = n := by
    rw [State.threshold_eq, hsettings, hdir, hepisode, hn]
  have hmay : v.ringCounted.mayAnswer ↔ s.mayAnswer := by
    unfold State.mayAnswer
    rw [hline, hpower, hlif, h.inUse]
  obtain ⟨hpresence, -, hcycle, hheld, -⟩ := v.ringCounted_deadlines
  exact
    { row := by
        rw [h.row, State.cycleEnds_eq ((congrArg Episode.active h.episode).trans hactive), State.answerDecision_eq,
          hthreshold, hsettings, hepisode, if_congr (and_congr Iff.rfl hmay) rfl rfl]
      episode := by
        show { v.ringCounted.rau.episode with threshold := some v.ringCounted.threshold } = _
        rw [hepisode, hthreshold]
      deadline := fun hc => hcycle.trans (h.deadline hc)
      presence := fun hc => ⟨hpresence.trans (h.presence hc).1, hheld.trans (h.presence hc).2⟩
      window := fun hfirst => State.ringCounted_window ((congrArg Episode.firstInProgress h.episode).trans hfirst)
      notice := fun q => (v.ringCounted_noticed q).congr (fun _ => rfl) rfl
      frame := (hboth.andThen (State.thresholdNoted_same _)).mono (by split <;> simp) }

section
variable {c : Instr} {p n : Nat} {s w : State}

/-- What the answer finds of the state in which the cycle end was taken. -/
theorem RingTaken.kept (h : RingTaken c p n s w) :
    w.settings = s.settings ∧ w.store.dir = s.store.dir ∧ w.store.free = s.store.free ∧ w.sys.ready = s.sys.ready ∧
      w.nextNumber = s.nextNumber ∧ w.storeHasRoom = s.storeHasRoom ∧ w.canCreate = s.canCreate ∧
      w.voice.op = s.voice.op ∧ SameBut [.timer 1, .ringing, .episode, .notices .panel, .lif] s w := by
  have hsame : SameBut [.timer 1, .ringing, .episode, .notices .panel, .lif] s w := h.frame.mono (by split <;> simp)
  have hsettings : w.settings = s.settings := hsame .settings (by simp) (by simp)
  have hdir : w.store.dir = s.store.dir := hsame .directory (by simp) (by simp)
  obtain ⟨hfree, -⟩ := hsame .freeList (by simp) (by simp)
  obtain ⟨hlast, -⟩ := hsame .ccuRest (by simp) (by simp)
  have hport : ({ w.sys with notice := none } : SystemPort) = { s.sys with notice := none } :=
    hsame .systemPort (by simp) (by simp)
  refine ⟨hsettings, hdir, hfree, congrArg (·.ready) hport, ?_, ?_, State.canCreate_congr hdir hfree,
    hsame .voiceOp (by simp) (by simp), hsame⟩
  · rw [State.nextNumber, State.nextNumber, hlast]
  · rw [State.storeHasRoom, State.storeHasRoom, State.freeCount, State.freeCount, hsettings, hdir, hfree]

/-- R74, R75: a due answer is carried out. -/
theorem RingTaken.answers (h : RingTaken c p n s w) (hline : s.ccu.line = .ringing) (hfree : s.lif.lineInUse = false)
    (hpower : s.power.low = false) (hn : n ≤ bump 65535 s.rau.episode.ringCount) {a : AnswerAction}
    (ha : s.settings.answerAction.get p = a) : exec c s = finish (w.policyAnswer a) := by
  rw [h.row, if_pos ⟨hn, hline, hfree, hpower⟩, ha]

/-- R74: an answer that is not due, or that the pattern's action does not make. -/
theorem RingTaken.waits (h : RingTaken c p n s w) (hactive : s.rau.episode.active = true)
    (hwaits : s.ccu.line ≠ .ringing ∨ s.lif.lineInUse = true ∨ s.power.low = true ∨ bump 65535 s.rau.episode.ringCount < n ∨
        s.settings.answerAction.get p = .ignore ∨
        (s.settings.answerAction.get p = .data ∧ s.sys.ready = false) ∨
        (s.settings.answerAction.get p = .fax ∧ (s.settings.faxToStore = true ∨ s.sys.ready = false) ∧
          s.storeHasRoom = false)) :
    ∃ t, exec c s = .next t ∧ t.rau.episode.active = true ∧ t.rau.episode.inCycle = false ∧
        t.rau.episode.ringCount = bump 65535 s.rau.episode.ringCount ∧
        t.rau.episode.firstInProgress = false ∧ t.rau.episode.pattern = p ∧
        t.rau.episode.threshold = some n ∧ (c = .cycleEnd → t.rau.deadlines.cycleEnd = none) ∧
        (c = .presenceHangoverExpiry → t.rau.presence = .none ∧ t.rau.deadlines.heldCycleEnd = false) ∧
        (s.rau.episode.firstInProgress = true →
          t.rau.deadlines.windowClose = some (max 1 ((t.timers.e1.count + 4000) % 65536))) ∧
        (∀ p, t.Noticed p .ring) ∧
        SameBut ([.timer 1, .ringing, .episode, .notices .panel] ++ if c = .cycleEnd then [] else [.lif]) s t := by
  obtain ⟨hsettings, -, -, hready, -, hroom, -⟩ := h.kept
  have hdone : exec c s = finish w := by
    rw [h.row]
    split
    · next hdue =>
      obtain ⟨hn, hline, hfree, hpower⟩ := hdue
      rcases hwaits with hw | hw | hw | hw | hw | ⟨hw, hnot⟩ | ⟨hw, hstore, hnone⟩
      · exact absurd hline hw
      · exact absurd (hw.symm.trans hfree) (by decide)
      · exact absurd (hw.symm.trans hpower) (by decide)
      · omega
      · rw [hw]
        rfl
      · rw [hw]
        exact congrArg finish (if_neg (by simp [hready, hnot]))
      · rw [hw]
        refine congrArg finish ((if_neg ?_).trans (if_neg (by simp [hroom, hnone])))
        rintro ⟨hport, hup⟩
        rcases hstore with hstore | hdown
        · exact absurd ((congrArg Settings.faxToStore hsettings).symm.trans hport) (by simp [hstore])
        · exact absurd (hready.symm.trans hup) (by simp [hdown])
    · rfl
  obtain ⟨t, hnext, ht, hsame⟩ := finish_does hdone h.frame
  refine ⟨t, hnext, ?_, ?_, ?_, ?_, ?_, ?_, ?_, ?_, ?_, fun q => ht.notice q _ (h.notice q), hsame⟩ <;>
    rw [ht.rau]
  · rw [h.episode]; exact hactive
  · rw [h.episode]
  · rw [h.episode]
  · rw [h.episode]
  · rw [h.episode]
  · rw [h.episode]
  · exact h.deadline
  · exact h.presence
  · rw [ht.timers]
    exact h.window

/-! ### An answer as a DATA and a FAX call (R4, R75) -/

theorem RingTaken.answers_data (h : RingTaken c p n s w) (hexec : exec c s = finish (w.policyAnswer .data))
    (hready : s.sys.ready = true) :
    ∃ t, exec c s = .next t ∧ t.ccu.line = .connected ∧ t.lif.relayClosed = true ∧
      t.ccu.call.active = true ∧ t.ccu.call.holder = some .system ∧ t.ccu.call.job = .data ∧
      t.ccu.call.direction = .incoming ∧ t.ccu.call.number = s.nextNumber ∧ t.ccu.call.ringPattern = some p ∧
      t.ccu.call.ringCount = some (bump 65535 s.rau.episode.ringCount) ∧ t.rau.episode.active = false ∧
      t.pump.mode = .data ∧ t.pump.role = some .answerer ∧ t.pump.phase = .handshake ∧
      SameBut [.line, .call, .ccuRest, .lif, .timer 1, .ringing, .episode, .caller, .detectors, .level, .stats, .fax,
        .pump, .digits .system, .digits .panel, .notices .panel] s t := by
  obtain ⟨-, -, -, hup, hnumber, -, -, -, hkept⟩ := h.kept
  have hanswer : w.policyAnswer .data = w.answerTaken .system .data := if_pos (hup.trans hready)
  have htaken : AnswerTaken w (w.answerTaken .system .data) .system .data :=
    State.answerTaken_taken (p := .system) (.inl rfl) fun hfax => absurd hfax (by decide)
  obtain ⟨x, y, hcall⟩ := htaken.call
  obtain ⟨hpumps, -⟩ := htaken.pump rfl
  rw [hanswer] at hexec
  generalize w.answerTaken .system .data = u at *
  obtain ⟨t, hnext, ht, hlif, hsame⟩ := finish_line hexec (hkept.andThen htaken.frame)
  refine ⟨t, hnext, ?_, ?_, ?_, ?_, ?_, ?_, ?_, ?_, ?_, ?_, ?_, ?_, ?_, hsame.mono (by simp [engineParts])⟩
  · rw [ht.ccu, htaken.line]
  · rw [hlif, htaken.relay]
  · rw [ht.ccu, hcall]
  · rw [ht.ccu, hcall]; rfl
  · rw [ht.ccu, hcall]; rfl
  · rw [ht.ccu, hcall]; rfl
  · rw [ht.ccu, hcall, ← hnumber]
  · rw [ht.ccu, hcall, answerRecord, h.episode]
  · rw [ht.ccu, hcall, answerRecord, h.episode]
  · rw [ht.rau, htaken.episode]
  · rw [ht.pump, hpumps.mode]
  · rw [ht.pump, hpumps.inRole]
  · rw [ht.pump, hpumps.phase]

/-- What an answer leaves, before the engine of its job starts. -/
structure AnswerBegun (s q : State) (holder : Party) (job : Job) : Prop where
  line : q.ccu.line = .connected
  relay : q.lif.relayClosed = true
  episode : q.rau.episode.active = false
  active : q.ccu.call.active = true
  call : q.ccu.call.holder = some holder ∧ q.ccu.call.job = job
  fax : q.fax = faxSetup .incoming holder job
  ending : q.ccu.ending = none
  settings : q.settings = s.settings
  store : q.store.dir = s.store.dir ∧ q.store.free = s.store.free
  room : q.storeHasRoom = s.storeHasRoom ∧ q.canCreate = s.canCreate
  ready : q.sys.ready = s.sys.ready
  frame : SameBut [.line, .call, .ccuRest, .lif, .timer 1, .ringing, .episode, .caller, .detectors, .level, .stats, .fax,
    .digits .system, .digits .panel, .notices .panel] s q

theorem RingTaken.begun (h : RingTaken c p n s w) (holder : Party) (job : Job) :
    AnswerBegun s (w.answered holder job) holder job := by
  obtain ⟨hsettings, hdir, hfree, hready, -, -, -, -, hkept⟩ := h.kept
  obtain ⟨hline, hrelay, hepisode, hcall, hfax, hending⟩ := w.answered_leaves holder job
  have hsame := w.answered_same holder job
  generalize w.answered holder job = q at *
  have hqsettings : q.settings = s.settings := (hsame .settings (by simp) (by simp)).trans hsettings
  have hqdir : q.store.dir = s.store.dir := (hsame .directory (by simp) (by simp)).trans hdir
  have hqfree : q.store.free = s.store.free := (hsame .freeList (by simp) (by simp)).1.trans hfree
  have hport : ({ q.sys with notice := none } : SystemPort) = { w.sys with notice := none } :=
    hsame .systemPort (by simp) (by simp)
  exact
    { line := hline
      relay := hrelay
      episode := hepisode
      active := by rw [hcall]
      call := by rw [hcall]; exact ⟨rfl, rfl⟩
      fax := hfax
      ending := hending
      settings := hqsettings
      store := ⟨hqdir, hqfree⟩
      room := ⟨by rw [State.storeHasRoom, State.storeHasRoom, State.freeCount, State.freeCount, hqsettings, hqdir, hqfree],
        State.canCreate_congr hqdir hqfree⟩
      ready := (congrArg (·.ready) hport).trans hready
      frame := (hkept.andThen hsame).mono (by simp) }

/-- R75: where a FAX action sends its call. -/
theorem RingTaken.fax_handler (h : RingTaken c p n s w) :
    (s.settings.faxToStore = false → s.sys.ready = true →
      w.policyAnswer .fax = (w.answered .system .fax).faxStart) ∧
    (s.settings.faxToStore = true ∨ s.sys.ready = false → s.storeHasRoom = true →
      w.policyAnswer .fax = (w.answered .auto .fax).faxStart) := by
  obtain ⟨hsettings, -, -, hup, -, hroom, -⟩ := h.kept
  have hto : w.settings.faxToStore = s.settings.faxToStore := congrArg Settings.faxToStore hsettings
  refine ⟨fun hport hready => if_pos ⟨hto.trans hport, hup.trans hready⟩, fun hstore hfree => ?_⟩
  refine (if_neg ?_).trans (if_pos (hroom.trans hfree))
  rintro ⟨hport, hready⟩
  rcases hstore with hstore | hdown
  · exact absurd ((hto.symm.trans hport).symm.trans hstore) (by decide)
  · exact absurd ((hup.symm.trans hready).symm.trans hdown) (by decide)

theorem RingTaken.answers_faxPort (h : RingTaken c p n s w) (hexec : exec c s = finish (w.policyAnswer .fax))
    (hbounds : max 2 s.settings.rungFloor ≤ min 7 s.settings.rungCeiling) (hport : s.settings.faxToStore = false)
    (hready : s.sys.ready = true) :
    ∃ t, exec c s = .next t ∧ t.ccu.line = .connected ∧ t.lif.relayClosed = true ∧
      t.ccu.call.holder = some .system ∧ t.ccu.call.job = .fax ∧ t.rau.episode.active = false ∧
      t.fax.role = some .receiver ∧ t.fax.place = .port ∧ t.fax.phase = some .setup ∧ t.fax.expect = .set ∧
      t.pump.mode = .fax ∧ t.link.tx = .fax (.caps (min 7 s.settings.rungCeiling) 3 0) ∧
      t.LoadedT2 .faxReply 3000 .none ∧
      SameBut [.line, .call, .ccuRest, .lif, .timer 1, .timer 2, .ringing, .episode, .caller, .detectors, .level,
        .stats, .fax, .pump, .link, .digits .system, .digits .panel, .notices .panel] s t := by
  have hq := h.begun .system .fax
  rw [h.fax_handler.1 hport hready] at hexec
  generalize w.answered .system .fax = q at *
  obtain ⟨hholder, hjob⟩ := hq.call
  obtain ⟨hreceives, -, ⟨x, hstarted⟩, hsame⟩ := State.faxStart_port (s := q) (by rw [hq.fax]; rfl) (by rw [hq.fax]; rfl)
    (by rw [hq.settings]; exact hbounds)
  obtain ⟨-, hcaps⟩ := hreceives.caps
  obtain ⟨t, hnext, ht, hlif, hall⟩ := finish_line hexec (hq.frame.andThen hsame)
  refine ⟨t, hnext, ?_, ?_, ?_, ?_, ?_, ?_, ?_, ?_, ?_, ?_, ?_, ht.loaded _ _ _ hreceives.waits, hall.mono (by simp)⟩
  · rw [ht.ccu]; exact (hsame .line (by simp) (by simp)).trans hq.line
  · rw [hlif]; exact (congrArg Lif.relayClosed (hsame .lif (by simp) (by simp))).trans hq.relay
  · rw [ht.ccu, hstarted]; exact hholder
  · rw [ht.ccu, hstarted]; exact hjob
  · rw [ht.rau]; exact (congrArg Episode.active (hsame .episode (by simp) (by simp))).trans hq.episode
  · rw [ht.fax]; exact hreceives.role
  · rw [ht.fax]; exact hreceives.place
  · rw [ht.fax]; exact hreceives.phase
  · rw [ht.fax]; exact hreceives.expect
  · rw [ht.pump]; exact hreceives.mode
  · rw [ht.link, hcaps, hq.settings]

theorem RingTaken.answers_faxStore (h : RingTaken c p n s w) (hexec : exec c s = finish (w.policyAnswer .fax))
    (hbounds : max 2 s.settings.rungFloor ≤ min 7 s.settings.rungCeiling)
    (hstore : s.settings.faxToStore = true ∨ s.sys.ready = false) (hroom : s.storeHasRoom = true)
    (hcreate : s.canCreate = true) :
    ∃ t, exec c s = .next t ∧ t.ccu.line = .connected ∧ t.lif.relayClosed = true ∧
      t.ccu.call.holder = some .auto ∧ t.ccu.call.job = .fax ∧ t.rau.episode.active = false ∧
      t.fax.role = some .receiver ∧ t.fax.place = .store ∧ t.fax.phase = some .setup ∧ t.fax.expect = .set ∧
      (∃ e : Entry, t.store.dir = s.store.dir ++ [e] ∧ e.kind = .faxIn ∧ e.state = .opened ∧
        t.fax.linkedId = some e.id ∧ t.ccu.call.linkedId = some e.id) ∧
      SameBut [.line, .call, .ccuRest, .lif, .timer 1, .timer 2, .ringing, .episode, .caller, .detectors, .level,
        .stats, .fax, .pump, .link, .header, .directory, .digits .system, .digits .panel, .notices .panel] s t := by
  have hq := h.begun .auto .fax
  rw [h.fax_handler.2 hstore hroom] at hexec
  generalize w.answered .auto .fax = q at *
  obtain ⟨hholder, hjob⟩ := hq.call
  obtain ⟨hdir, -⟩ := hq.store
  obtain ⟨hreceives, ⟨e, hcreated, hkind, hopen, hlinked, hcallLinked⟩, ⟨x, y, hstarted⟩, hsame⟩ :=
    State.faxStart_store (s := q) (by rw [hq.fax]; rfl) (by rw [hq.fax]; rfl) (by rw [hq.settings]; exact hbounds)
      (hq.room.2.trans hcreate)
  obtain ⟨t, hnext, ht, hlif, hall⟩ := finish_line hexec (hq.frame.andThen hsame)
  refine ⟨t, hnext, ?_, ?_, ?_, ?_, ?_, ?_, ?_, ?_, ?_, ⟨e, ?_, hkind, hopen, ?_, ?_⟩, hall.mono (by simp)⟩
  · rw [ht.ccu]; exact (hsame .line (by simp) (by simp)).trans hq.line
  · rw [hlif]; exact (congrArg Lif.relayClosed (hsame .lif (by simp) (by simp))).trans hq.relay
  · rw [ht.ccu, hstarted]; exact hholder
  · rw [ht.ccu, hstarted]; exact hjob
  · rw [ht.rau]; exact (congrArg Episode.active (hsame .episode (by simp) (by simp))).trans hq.episode
  · rw [ht.fax]; exact hreceives.role
  · rw [ht.fax]; exact hreceives.place
  · rw [ht.fax]; exact hreceives.phase
  · rw [ht.fax]; exact hreceives.expect
  · rw [ht.store, hcreated, hdir]
  · rw [ht.fax]; exact hlinked
  · rw [ht.ccu]; exact hcallLinked

/-- R132: CAPS within bounds that leave no rung is the end of the call. -/
theorem State.faxSendCaps_ends {s : State} (h : s.fax.ceiling < s.fax.floor) :
    s.faxSendCaps = s.reportEnd .faxTraining := if_pos h

/-- R132, log 23: a fax session whose bounds leave no rung ends as it starts. -/
theorem State.faxStart_ends {s : State} (hrole : s.fax.role = some .receiver)
    (hplace : s.fax.place = .port ∨ (s.fax.place = .store ∧ s.canCreate = true))
    (hbounds : min 7 s.settings.rungCeiling < max 2 s.settings.rungFloor) :
    ∃ u : State, s.faxStart = u.reportEnd .faxTraining ∧ u.ccu.ending = s.ccu.ending ∧ u.rau.episode = s.rau.episode ∧
      ∃ x y, u.ccu.call = { s.ccu.call with phase := x, linkedId := y } := by
  obtain ⟨hfax, -, -, hstore, x, hcall⟩ := s.faxBounded_leaves
  have hending : s.faxBounded.ccu.ending = s.ccu.ending := (s.faxBounded_same .ccuRest (by simp) (by simp)).2.1
  have hepisode : s.faxBounded.rau.episode = s.rau.episode := s.faxBounded_same .episode (by simp) (by simp)
  rw [State.faxStart_receiver hrole]
  rcases hplace with hplace | ⟨hplace, hcreate⟩
  · refine ⟨s.faxBounded, ?_, hending, hepisode, x, _, hcall⟩
    rw [State.faxStartReceiver]
    simp only [hfax, hplace]
    exact State.faxSendCaps_ends (by rw [hfax]; exact hbounds)
  · have hroom : s.faxBounded.canCreate = true := by
      rw [State.canCreate_congr (congrArg Store.dir hstore) (congrArg Store.free hstore), hcreate]
    refine ⟨s.faxBounded.faxEntryCreated, ?_, hending, hepisode, x, some (s.faxBounded.newEntry .faxIn none true).id, ?_⟩
    · rw [State.faxStartReceiver, hfax, hplace, State.create_some hroom]
      exact State.faxSendCaps_ends (s := s.faxBounded.faxEntryCreated)
        (by rw [State.faxEntryCreated, hfax]; exact hbounds)
    · exact congrArg (fun c : CallRecord => { c with linkedId := some (s.faxBounded.newEntry .faxIn none true).id }) hcall

theorem RingTaken.answers_noRung (h : RingTaken c p n s w) (hexec : exec c s = finish (w.policyAnswer .fax))
    (hbounds : min 7 s.settings.rungCeiling < max 2 s.settings.rungFloor)
    (hhandler : (s.settings.faxToStore = false ∧ s.sys.ready = true) ∨ (s.storeHasRoom = true ∧ s.canCreate = true)) :
    ∃ t, exec c s = .next t ∧ t.ccu.line = .releasing ∧ t.lif.relayClosed = false ∧ t.ccu.call.active = false ∧
      t.ccu.call.job = .fax ∧ t.ccu.call.cause = some .faxTraining ∧ t.rau.episode.active = false ∧
      t.fax.phase = none ∧ t.LoadedT2 .guard 1500 .none := by
  have hends : ∃ holder q, AnswerBegun s q holder .fax ∧ exec c s = finish q.faxStart ∧
      (q.fax.place = .port ∨ (q.fax.place = .store ∧ q.canCreate = true)) ∧ q.fax.role = some .receiver := by
    by_cases hport : s.settings.faxToStore = false ∧ s.sys.ready = true
    · have hq := h.begun .system .fax
      exact ⟨_, _, hq, by rw [hexec, h.fax_handler.1 hport.1 hport.2], .inl (by rw [hq.fax]; rfl), by rw [hq.fax]; rfl⟩
    · obtain ⟨hroom, hcreate⟩ := hhandler.resolve_left hport
      have hstore : s.settings.faxToStore = true ∨ s.sys.ready = false := by
        simpa [Classical.or_iff_not_imp_left] using hport
      have hq := h.begun .auto .fax
      exact ⟨_, _, hq, by rw [hexec, h.fax_handler.2 hstore hroom],
        .inr ⟨by rw [hq.fax]; rfl, hq.room.2.trans hcreate⟩, by rw [hq.fax]; rfl⟩
  obtain ⟨holder, q, hq, hrow, hplace, hrole⟩ := hends
  obtain ⟨-, hjob⟩ := hq.call
  obtain ⟨u, hstart, hending, hepisode, x, y, hcall⟩ := State.faxStart_ends hrole hplace (by rw [hq.settings]; exact hbounds)
  have hujob : u.ccu.call.job = .fax := by rw [hcall]; exact hjob
  have hended := State.reportEnd_ended (s := u) (by rw [hcall]; exact hq.active) (hending.trans hq.ending) .faxTraining
  rw [hstart] at hrow
  obtain ⟨hrelay, -⟩ := hended.relay
  obtain ⟨hrecord, -⟩ := hended.call
  obtain ⟨-, -, -, -, -, hphase⟩ := hended.engines
  have hinactive : (u.reportEnd .faxTraining).rau.episode.active = false := by
    have hkept : (u.reportEnd .faxTraining).rau.episode = u.rau.episode :=
      hended.frame .episode (by simp [endParts]) (by simp)
    rw [hkept, hepisode]
    exact hq.episode
  have hguard := hended.guard
  have hline := hended.line
  generalize u.reportEnd .faxTraining = v at *
  have ht := v.deliverSystem_delivered
  have hlif : v.deliverSystem.lif = v.lif := by simp
  refine ⟨v.deliverSystem, hrow, ?_, ?_, ?_, ?_, ?_, ?_, ?_, ht.loaded _ _ _ hguard⟩
  · rw [ht.ccu]; exact hline
  · rw [hlif]; exact hrelay
  · rw [ht.ccu, hrecord]
  · rw [ht.ccu, hrecord]; exact hujob
  · rw [ht.ccu, hrecord]
  · rw [ht.rau]; exact hinactive
  · rw [ht.fax, hphase, if_pos hujob]

end

end Sys2Proof.Machine
end

section
/-! PROOFS. The automatic answerer's discrimination starts: its greeting, its beep, and what takes their place where the store
has no room (O40). -/

namespace Sys2Proof.Machine

/-! ### The discrimination opens (R76, R77) -/

/-- R76: the record of a discrimination that starts. -/
def discrStarted (g : Option Nat) : Discrimination :=
  { phase := .greeting, greeting := g, heard := 0, code := [], codeDigits := 0, wrong := 0 }

/-- R76, R77: the discrimination is in GREETING, with the greeting that it plays. -/
def State.discrOpened (s : State) : State :=
  State.discrTo
    { s.autoChannel with rau.discr := some (discrStarted (s.store.greetingFor s.rau.episode.pattern)) } .greeting

theorem State.startGreeting_plays {s : State} {id : Nat}
    (h : s.preempt.store.greetingFor s.preempt.rau.episode.pattern = some id) :
    s.startGreeting = s.preempt.discrOpened.startPlay .auto id 0 .line false := by
  have hchosen : s.preempt.autoChannel.store.greetingFor s.preempt.autoChannel.rau.episode.pattern = some id := h
  unfold State.startGreeting State.discrOpened
  dsimp only
  rw [hchosen, h]
  rfl

theorem State.startGreeting_silent {s : State} (h : s.preempt.store.greetingFor s.preempt.rau.episode.pattern = none) :
    s.startGreeting = s.preempt.discrOpened.greetingEnd := by
  have hchosen : s.preempt.autoChannel.store.greetingFor s.preempt.autoChannel.rau.episode.pattern = none := h
  unfold State.startGreeting State.discrOpened
  dsimp only
  rw [hchosen, h]
  rfl

theorem State.discrTo_same (s : State) (x : DiscrPhase) : SameBut [.call, .discr] s (s.discrTo x) := by
  have hphase : SameBut [.discr] s { s with rau.discr := s.rau.discr.map (fun d => d.inPhase x) } := .of_parts (by simp)
  exact (hphase.andThen (State.reportPhase_same _ _)).mono (by simp)

/-- R76: a phase of the discrimination is entered and reported. -/
theorem State.discrTo_leaves {s : State} (hactive : s.ccu.call.active = true) (hending : s.ccu.ending = none)
    (x : DiscrPhase) :
    (s.discrTo x).ccu.call = { s.ccu.call with phase := some (.discr x) } ∧
      (s.discrTo x).rau.discr = s.rau.discr.map (fun d => d.inPhase x) := by
  refine ⟨State.reportPhase_active (s := { s with rau.discr := s.rau.discr.map (fun d => d.inPhase x) }) hactive hending _,
    ?_⟩
  unfold State.discrTo State.reportPhase
  split <;> rfl

theorem State.autoChannel_same (s : State) : SameBut [.voiceOp] s s.autoChannel := .of_parts (by simp [State.autoChannel])

theorem State.discrOpened_same (s : State) : SameBut [.call, .discr, .voiceOp] s s.discrOpened := by
  have hopened (u : State) (d : Option Discrimination) : SameBut [.discr] u { u with rau.discr := d } := .of_parts (by simp)
  exact ((s.autoChannel_same.andThen (hopened _ _)).andThen (State.discrTo_same _ .greeting)).mono (by simp)

theorem State.discrOpened_leaves {s : State} (hactive : s.ccu.call.active = true) (hending : s.ccu.ending = none) :
    s.discrOpened.ccu.call = { s.ccu.call with phase := some (.discr .greeting) } ∧
      s.discrOpened.rau.discr = some (discrStarted (s.store.greetingFor s.rau.episode.pattern)) ∧
      s.discrOpened.voice.op = { s.voice.op with user := some .auto } := by
  obtain ⟨hcall, hdiscr⟩ := State.discrTo_leaves (s := { s.autoChannel with
    rau.discr := some (discrStarted (s.store.greetingFor s.rau.episode.pattern)) }) hactive hending .greeting
  exact ⟨hcall, hdiscr, State.discrTo_same _ .greeting .voiceOp (by simp) (by simp)⟩

theorem State.Noticed.reportPhase {s : State} {p : Port} {x : Source} (h : s.Noticed p x) (y : CallPhase) :
    (s.reportPhase y).Noticed p x := by
  unfold State.reportPhase
  split
  · exact h.congr (fun _ => rfl) rfl
  · exact h

theorem State.Noticed.discrOpened {s : State} {p : Port} {x : Source} (h : s.Noticed p x) : s.discrOpened.Noticed p x :=
  have hchannel : ({ s.autoChannel with
      rau.discr := (some (discrStarted (s.store.greetingFor s.rau.episode.pattern))).map (fun d => d.inPhase .greeting) } :
      State).Noticed p x := h.congr (fun _ => rfl) rfl
  hchannel.reportPhase _

/-! ### The greeting is played (R77) -/

/-- R77: what the start of the greeting leaves of an answered call. -/
structure GreetingPlayed (y t : State) (id : Nat) : Prop where
  line : t.ccu.line = y.ccu.line
  relay : t.lif.relayClosed = y.lif.relayClosed
  episode : t.rau.episode = y.rau.episode
  call : t.ccu.call = { y.ccu.call with phase := some (.discr .greeting) }
  discr : t.rau.discr = some (discrStarted (some id))
  op : t.voice.op = { VoiceOp.start .playing .auto .play .line with message := some id, offset := 0 }
  resume : t.voice.resume = y.voice.resume
  dir : t.store.dir = y.store.dir.map (fun x => if x.id = id then { x with holds := x.holds + 1 } else x)
  free : t.store.free = y.store.free
  mem : t.store.mem = y.store.mem
  timers : t.timers = y.timers
  notice : ∀ p x, y.Noticed p x → t.Noticed p x

theorem greeting_played {c : Instr} {s y : State} {id : Nat} {parts : List Part}
    (hrow : exec c s = finish (y.discrOpened.startPlay .auto id 0 .line false)) (hsame : SameBut parts s y)
    (hactive : y.ccu.call.active = true) (hending : y.ccu.ending = none)
    (hgreeting : y.store.greetingFor y.rau.episode.pattern = some id) :
    ∃ t, exec c s = .next t ∧ GreetingPlayed y t id ∧ SameBut (parts ++ [.call, .discr, .voiceOp, .directory]) s t := by
  have hopen := y.discrOpened_same
  obtain ⟨hcall, hdiscr, -⟩ := State.discrOpened_leaves hactive hending
  rw [hgreeting] at hdiscr
  have hstored : y.discrOpened.store = y.store := by simp [State.discrOpened, State.discrTo]
  have htimers : y.discrOpened.timers = y.timers := by simp [State.discrOpened, State.discrTo]
  have hresume : y.discrOpened.voice.resume = y.voice.resume := hopen .resume (by simp) (by simp)
  have hline : y.discrOpened.ccu.line = y.ccu.line := hopen .line (by simp) (by simp)
  have hlif : y.discrOpened.lif = y.lif := hopen .lif (by simp) (by simp)
  have hepisode : y.discrOpened.rau.episode = y.rau.episode := hopen .episode (by simp) (by simp)
  have hnotice (p : Port) (x : Source) (h : y.Noticed p x) : y.discrOpened.Noticed p x := h.discrOpened
  generalize y.discrOpened = v at *
  obtain ⟨hop, hdir⟩ := v.startPlay_starts .auto id 0 .line false
  obtain ⟨t, hnext, ht, htlif, hall⟩ := finish_line hrow ((hsame.andThen hopen).andThen (v.startPlay_same _ _ _ _ _))
  refine ⟨t, hnext, ?_, hall.mono (by simp)⟩
  exact
    { line := by rw [ht.ccu]; exact hline
      relay := by rw [htlif]; exact congrArg Lif.relayClosed hlif
      episode := by rw [ht.rau]; exact hepisode
      call := by rw [ht.ccu]; exact hcall
      discr := by rw [ht.rau]; exact hdiscr
      op := by rw [ht.voice, hop]; rfl
      resume := by rw [ht.voice]; exact hresume
      dir := by rw [ht.store, hdir, hstored]
      free := by rw [ht.store]; exact (congrArg Store.free hstored : v.store.free = y.store.free)
      mem := by rw [ht.store]; exact (congrArg Store.mem hstored : v.store.mem = y.store.mem)
      timers := by rw [ht.timers]; exact htimers
      notice := fun p x h => ht.notice p x ((hnotice p x h).congr (fun _ => rfl) rfl) }

/-! ### The answered call of the automatic answerer -/

/-- R77: the pattern of an answered call's episode. -/
theorem State.answered_pattern (s : State) (holder : Party) (job : Job) :
    (s.answered holder job).rau.episode.pattern = s.rau.episode.pattern := by
  unfold State.answered
  rw [State.lineTo_unit]
  have hkept : ((s.settleCapture false).activate
      (answerRecord (s.settleCapture false).rau.episode (s.settleCapture false).rau.caller holder job) false).closeRelay.rau.episode =
      (s.settleCapture false).rau.episode := by simp [State.closeRelay]
  have hsettled : (s.settleCapture false).rau.episode = s.rau.episode := by rw [s.settleCapture_rau]
  exact (congrArg Episode.pattern hkept).trans (congrArg Episode.pattern hsettled)

section
variable {c : Instr} {p n : Nat} {s w : State}

theorem RingTaken.greets (h : RingTaken c p n s w) (hexec : exec c s = finish (w.policyAnswer .discriminate)) :
    exec c s = finish (w.answered .auto .discriminate).startGreeting ∧
      (w.answered .auto .discriminate).rau.episode.pattern = p :=
  ⟨hexec, (w.answered_pattern _ _).trans (congrArg Episode.pattern h.episode)⟩

/-- R158: with the channel free nothing is preempted. -/
theorem State.preempt_none {s : State} (h : s.voice.op.user = none) : s.preempt = s := by
  unfold State.preempt
  rw [h]

theorem Store.greetingFor_congr {t u : Store} (h : t.dir = u.dir) (k : Nat) : t.greetingFor k = u.greetingFor k := by
  unfold Store.greetingFor Store.greeting
  rw [h]

theorem RingTaken.answers_greeting (h : RingTaken c p n s w) (hexec : exec c s = finish (w.policyAnswer .discriminate))
    (huser : s.voice.op.user = none) {id : Nat} (hgreeting : s.store.greetingFor p = some id) :
    ∃ t, exec c s = .next t ∧ t.ccu.line = .connected ∧ t.lif.relayClosed = true ∧
      t.ccu.call.holder = some .auto ∧ t.ccu.call.job = .discriminate ∧ t.rau.episode.active = false ∧
      t.ccu.call.phase = some (.discr .greeting) ∧
      t.rau.discr = some { phase := .greeting, greeting := some id, heard := 0, code := [], codeDigits := 0,
                           wrong := 0 } ∧
      t.voice.op.state = .playing ∧ t.voice.op.operation = some .play ∧ t.voice.op.user = some .auto ∧
      t.voice.op.endpoint = some .line ∧ t.voice.op.message = some id ∧ t.voice.op.offset = 0 ∧
      t.store.dir = s.store.dir.map (fun x => if x.id = id then { x with holds := x.holds + 1 } else x) ∧
      SameBut [.line, .call, .ccuRest, .lif, .timer 1, .ringing, .episode, .caller, .detectors, .level, .stats,
        .fax, .discr, .voiceOp, .directory, .digits .system, .digits .panel, .notices .panel] s t := by
  have hq := h.begun .auto .discriminate
  obtain ⟨hrow, hpattern⟩ := h.greets hexec
  generalize w.answered .auto .discriminate = q at *
  obtain ⟨hholder, hjob⟩ := hq.call
  obtain ⟨hdir, -⟩ := hq.store
  have hop : q.voice.op = s.voice.op := hq.frame .voiceOp (by simp) (by simp)
  have hfree : q.preempt = q := State.preempt_none (by rw [hop]; exact huser)
  have hchosen : q.store.greetingFor q.rau.episode.pattern = some id := by
    rw [hpattern, Store.greetingFor_congr hdir]
    exact hgreeting
  rw [State.startGreeting_plays (by rw [hfree]; exact hchosen), hfree] at hrow
  obtain ⟨t, hnext, ht, hsame⟩ := greeting_played hrow hq.frame hq.active hq.ending hchosen
  refine ⟨t, hnext, ht.line.trans hq.line, ht.relay.trans hq.relay, ?_, ?_, ?_, ?_, ht.discr, ?_, ?_, ?_, ?_, ?_, ?_, ?_,
    hsame.mono (by simp)⟩
  · rw [ht.call]; exact hholder
  · rw [ht.call]; exact hjob
  · rw [ht.episode]; exact hq.episode
  · rw [ht.call]
  case refine_11 => rw [ht.dir, hdir]
  all_goals rw [ht.op] <;> rfl

/-! ### No greeting (R77, R81) -/

/-- R77: the discrimination of a call without a greeting. -/
theorem RingTaken.silent (h : RingTaken c p n s w) (hexec : exec c s = finish (w.policyAnswer .discriminate))
    (hoperation : s.voice.op.operation = none) (huser : s.voice.op.user = none)
    (hgreeting : s.store.greetingFor p = none) :
    ∃ v, exec c s = finish v.greetingEnd ∧ v.ccu.line = .connected ∧ v.lif.relayClosed = true ∧
      v.rau.episode.active = false ∧ v.ccu.call.active = true ∧ v.ccu.call.holder = some .auto ∧
      v.ccu.call.job = .discriminate ∧ v.ccu.ending = none ∧ v.rau.discr = some (discrStarted none) ∧
      v.voice.op.operation = none ∧ v.settings = s.settings ∧ v.sys.ready = s.sys.ready ∧
      v.storeHasRoom = s.storeHasRoom ∧
      SameBut [.line, .call, .ccuRest, .lif, .timer 1, .ringing, .episode, .caller, .detectors, .level, .stats,
        .fax, .discr, .voiceOp, .digits .system, .digits .panel, .notices .panel] s v := by
  have hq := h.begun .auto .discriminate
  obtain ⟨hrow, hpattern⟩ := h.greets hexec
  generalize w.answered .auto .discriminate = q at *
  obtain ⟨hholder, hjob⟩ := hq.call
  obtain ⟨hdir, hfreeList⟩ := hq.store
  have hop : q.voice.op = s.voice.op := hq.frame .voiceOp (by simp) (by simp)
  have hfree : q.preempt = q := State.preempt_none (by rw [hop]; exact huser)
  have hchosen : q.store.greetingFor q.rau.episode.pattern = none := by
    rw [hpattern, Store.greetingFor_congr hdir]
    exact hgreeting
  rw [State.startGreeting_silent (by rw [hfree]; exact hchosen), hfree] at hrow
  have hopen := q.discrOpened_same
  obtain ⟨hcall, hdiscr, hopened⟩ := State.discrOpened_leaves hq.active hq.ending
  rw [hchosen] at hdiscr
  have hstored : q.discrOpened.store = q.store := by simp [State.discrOpened, State.discrTo]
  have hsys : q.discrOpened.sys = q.sys := by simp [State.discrOpened, State.discrTo]
  obtain ⟨-, hending, -⟩ := hopen .ccuRest (by simp) (by simp)
  have hsettings : q.discrOpened.settings = q.settings := hopen .settings (by simp) (by simp)
  generalize q.discrOpened = v at *
  refine ⟨v, hrow, (hopen .line (by simp) (by simp)).trans hq.line,
    (congrArg Lif.relayClosed (hopen .lif (by simp) (by simp))).trans hq.relay,
    (congrArg Episode.active (hopen .episode (by simp) (by simp))).trans hq.episode, ?_, ?_, ?_, hending.trans hq.ending,
    hdiscr, ?_, hsettings.trans hq.settings, ?_, ?_, (hq.frame.andThen hopen).mono (by simp)⟩
  · rw [hcall]; exact hq.active
  · rw [hcall]; exact hholder
  · rw [hcall]; exact hjob
  · rw [hopened, hop]; exact hoperation
  · rw [hsys]; exact hq.ready
  · rw [State.storeHasRoom, State.freeCount, hstored, hsettings]; exact hq.room.1

theorem RingTaken.answers_beep (h : RingTaken c p n s w) (hexec : exec c s = finish (w.policyAnswer .discriminate))
    (hoperation : s.voice.op.operation = none) (huser : s.voice.op.user = none)
    (hgreeting : s.store.greetingFor p = none) (hroom : s.storeHasRoom = true) :
    ∃ t, exec c s = .next t ∧ t.ccu.line = .connected ∧ t.ccu.call.holder = some .auto ∧
      t.ccu.call.job = .discriminate ∧ t.ccu.call.phase = some (.discr .beep) ∧
      t.rau.discr = some { phase := .beep, greeting := none, heard := 0, code := [], codeDigits := 0,
                           wrong := 0 } ∧
      t.voice.op.operation = some .tone ∧ t.voice.op.user = some .auto ∧ t.voice.op.endpoint = some .line ∧
      SameBut [.line, .call, .ccuRest, .lif, .timer 1, .ringing, .episode, .caller, .detectors, .level, .stats,
        .fax, .discr, .voiceOp, .digits .system, .digits .panel, .notices .panel] s t := by
  obtain ⟨v, hrow, hline, -, -, hactive, hholder, hjob, hending, hdiscr, -, -, -, hvroom, hsame⟩ :=
    h.silent hexec hoperation huser hgreeting
  obtain ⟨hcall, hphase⟩ := State.discrTo_leaves hactive hending .beep
  have hto := v.discrTo_same .beep
  have hends : v.greetingEnd = (v.discrTo .beep).startBeep := if_pos (hvroom.trans hroom)
  have hbeep (u : State) : SameBut [.voiceOp] u u.startBeep := .of_parts (by simp [State.startBeep])
  rw [hends] at hrow
  rw [hdiscr] at hphase
  obtain ⟨t, hnext, ht, hall⟩ := finish_does hrow ((hsame.andThen hto).andThen (hbeep _))
  have hcalled : t.ccu.call = { v.ccu.call with phase := some (.discr .beep) } := by rw [ht.ccu]; exact hcall
  refine ⟨t, hnext, ?_, ?_, ?_, ?_, ?_, ?_, ?_, ?_, hall.mono (by simp)⟩
  · rw [ht.ccu]; exact (hto .line (by simp) (by simp)).trans hline
  · rw [hcalled]; exact hholder
  · rw [hcalled]; exact hjob
  · rw [hcalled]
  · rw [ht.rau]; exact hphase
  all_goals rw [ht.voice]; rfl

/-- R80 to R82: with no operation in hand the channel only stays AUTO's. -/
theorem State.cancelAuto_idle {s : State} (h : s.voice.op.operation = none) : s.cancelAuto = s.autoChannel := by
  unfold State.cancelAuto
  rw [h]
  exact congrArg State.autoChannel (State.endVoice_none h _)

theorem State.handOver_same (s : State) (holder : Party) (job : Job) :
    SameBut [.call, .discr, .voiceOp, .detectors, .notices .panel] s (s.handOver holder job) := by
  have hcall (u : State) : SameBut [.call, .discr, .detectors] u (State.dropCallDetectors { u with
      rau.discr := none, ccu.call.holder := some holder, ccu.call.job := job } true) :=
  .of_parts (by simp [State.dropCallDetectors])
  have hbefore := s.dropAuto_same.andThen (hcall _)
  unfold State.handOver
  dsimp only
  split
  · exact hbefore.mono (by simp)
  · exact (hbefore.andThen (State.raiseBoth_same _ .callState)).mono (by simp)

theorem State.handOver_leaves (s : State) (holder : Party) (job : Job) :
    (s.handOver holder job).ccu.call = { s.ccu.call with holder := some holder, job := job } ∧
      (s.handOver holder job).rau.discr = none := by
  unfold State.handOver
  dsimp only
  split
  · exact ⟨by simp, by simp⟩
  · exact ⟨by simp, by simp⟩

/-- R77, R81: a quiet caller becomes a fax receive of the system master. -/
theorem RingTaken.answers_quietFax (h : RingTaken c p n s w) (hexec : exec c s = finish (w.policyAnswer .discriminate))
    (hoperation : s.voice.op.operation = none) (huser : s.voice.op.user = none)
    (hgreeting : s.store.greetingFor p = none) (hroom : s.storeHasRoom = false)
    (hquiet : s.settings.quietHangsUp = false) (hport : s.settings.faxToStore = false) (hready : s.sys.ready = true)
    (hbounds : max 2 s.settings.rungFloor ≤ min 7 s.settings.rungCeiling) :
    ∃ t, exec c s = .next t ∧ t.ccu.line = .connected ∧ t.lif.relayClosed = true ∧
      t.ccu.call.holder = some .system ∧ t.ccu.call.job = .fax ∧ t.rau.episode.active = false ∧
      t.rau.discr = none ∧ t.fax.role = some .receiver ∧ t.fax.place = .port ∧ t.fax.phase = some .setup ∧
      t.fax.expect = .set ∧ t.link.tx = .fax (.caps (min 7 s.settings.rungCeiling) 3 0) ∧
      t.LoadedT2 .faxReply 3000 .none ∧
      SameBut [.line, .call, .ccuRest, .lif, .timer 1, .timer 2, .ringing, .episode, .caller, .detectors, .level,
        .stats, .fax, .discr, .voiceOp, .pump, .link, .digits .system, .digits .panel, .notices .panel] s t := by
  obtain ⟨v, hrow, hline, hrelay, hepisode, -, -, -, -, hdiscr, hidle, hsettings, hup, hvroom, hsame⟩ :=
    h.silent hexec hoperation huser hgreeting
  have hheard : v.heard = 0 := by
    unfold State.heard
    rw [hdiscr]
    rfl
  have hends : v.greetingEnd = v.autoChannel.faxHandOver .system := by
    have hbranch : v.faxBranch = v.autoChannel.faxHandOver .system := by
      unfold State.faxBranch
      rw [State.cancelAuto_idle hidle]
      exact if_pos ⟨(congrArg Settings.faxToStore hsettings).trans hport, hup.trans hready⟩
    rw [← hbranch]
    exact (if_neg (by simp [hvroom, hroom])).trans
      (if_pos ⟨hheard, (congrArg Settings.quietHangsUp hsettings).trans hquiet⟩)
  have hchannel := v.autoChannel_same
  have hover := v.autoChannel.handOver_same .system .fax
  obtain ⟨hcall, hgone⟩ := v.autoChannel.handOver_leaves .system .fax
  rw [hends] at hrow
  set z : State := { v.autoChannel.handOver .system .fax with fax := faxSetup .incoming .system .fax } with hz
  have hrow' : exec c s = finish z.faxStart := hrow
  have hset : SameBut [.fax] (v.autoChannel.handOver .system .fax) z := State.faxSet_same _ _
  have hvz := (hchannel.andThen hover).andThen hset
  have hzsettings : z.settings = s.settings := (hvz .settings (by simp) (by simp)).trans hsettings
  have hzline : z.ccu.line = .connected := (hvz .line (by simp) (by simp)).trans hline
  have hzlif : z.lif = v.lif := hvz .lif (by simp) (by simp)
  have hzepisode : z.rau.episode = v.rau.episode := hvz .episode (by simp) (by simp)
  have hzcall : z.ccu.call.holder = some .system ∧ z.ccu.call.job = .fax := by
    rw [show z.ccu.call = _ from hcall]
    exact ⟨rfl, rfl⟩
  have hzdiscr : z.rau.discr = none := hgone
  have hzfax : z.fax = faxSetup .incoming .system .fax := rfl
  clear_value z
  obtain ⟨hholder, hjob⟩ := hzcall
  obtain ⟨hreceives, -, ⟨x, hstarted⟩, hfax⟩ := State.faxStart_port (s := z) (by rw [hzfax]; rfl) (by rw [hzfax]; rfl)
    (by rw [hzsettings]; exact hbounds)
  obtain ⟨-, hcaps⟩ := hreceives.caps
  obtain ⟨t, hnext, ht, htlif, hall⟩ := finish_line hrow' ((hsame.andThen hvz).andThen hfax)
  refine ⟨t, hnext, ?_, ?_, ?_, ?_, ?_, ?_, ?_, ?_, ?_, ?_, ?_, ht.loaded _ _ _ hreceives.waits, hall.mono (by simp)⟩
  · rw [ht.ccu]; exact (hfax .line (by simp) (by simp)).trans hzline
  · rw [htlif, show z.faxStart.lif = z.lif from hfax .lif (by simp) (by simp), hzlif]; exact hrelay
  · rw [ht.ccu, hstarted]; exact hholder
  · rw [ht.ccu, hstarted]; exact hjob
  · rw [ht.rau, show z.faxStart.rau.episode = z.rau.episode from hfax .episode (by simp) (by simp), hzepisode]; exact hepisode
  · rw [ht.rau]; exact (hfax .discr (by simp) (by simp)).trans hzdiscr
  · rw [ht.fax]; exact hreceives.role
  · rw [ht.fax]; exact hreceives.place
  · rw [ht.fax]; exact hreceives.phase
  · rw [ht.fax]; exact hreceives.expect
  · rw [ht.link, hcaps, hzsettings]

/-- R77, R81: with no room and no fax to try the call ends with STORE_FULL. -/
theorem RingTaken.answers_full (h : RingTaken c p n s w) (hexec : exec c s = finish (w.policyAnswer .discriminate))
    (hoperation : s.voice.op.operation = none) (huser : s.voice.op.user = none)
    (hgreeting : s.store.greetingFor p = none) (hroom : s.storeHasRoom = false)
    (hends : s.settings.quietHangsUp = true ∨ s.settings.faxToStore = true ∨ s.sys.ready = false) :
    ∃ t, exec c s = .next t ∧ t.ccu.line = .releasing ∧ t.ccu.call.active = false ∧
      t.ccu.call.cause = some .storeFull ∧ t.rau.episode.active = false ∧ t.rau.discr = none ∧
      SameBut (endParts s ++ [.timer 1, .ringing, .episode, .caller, .stats, .digits .system, .digits .panel]) s t := by
  obtain ⟨v, hrow, -, -, hepisode, hactive, -, hjob, hending, hdiscr, hidle, hsettings, hup, hvroom, hsame⟩ :=
    h.silent hexec hoperation huser hgreeting
  have hfull : ¬v.storeHasRoom = true := by simp [hvroom, hroom]
  have hreported : ∃ u : State, v.greetingEnd = u.reportEnd .storeFull ∧ SameBut [.voiceOp] v u ∧
      u.voice.op.operation = none := by
    unfold State.greetingEnd
    rw [if_neg hfull]
    by_cases htry : v.heard = 0 ∧ v.settings.quietHangsUp = false
    · refine ⟨v.autoChannel, ?_, v.autoChannel_same, hidle⟩
      have hnot : ¬(v.autoChannel.settings.faxToStore = false ∧ v.autoChannel.sys.ready = true) := by
        rintro ⟨hport, hready⟩
        have hport' : s.settings.faxToStore = false := (congrArg Settings.faxToStore hsettings).symm.trans hport
        have hready' : s.sys.ready = true := hup.symm.trans hready
        have hquiet : s.settings.quietHangsUp = false := (congrArg Settings.quietHangsUp hsettings).symm.trans htry.2
        simp [hport', hready', hquiet] at hends
      rw [if_pos htry, State.faxBranch, State.cancelAuto_idle hidle]
      exact (if_neg hnot).trans (if_neg hfull)
    · exact ⟨v, if_neg htry, .refl _ _, hidle⟩
  obtain ⟨u, hreport, hvu, huidle⟩ := hreported
  have hucall : u.ccu.call = v.ccu.call := hvu .call (by simp) (by simp)
  obtain ⟨-, huending, -⟩ := hvu .ccuRest (by simp) (by simp)
  have hended := State.reportEnd_ended (s := u) (by rw [hucall]; exact hactive) (huending.trans hending) .storeFull
  obtain ⟨hrecord, -⟩ := hended.call
  obtain ⟨hgone, -⟩ := hended.answering
  have huepisode : u.rau.episode = v.rau.episode := hvu .episode (by simp) (by simp)
  have hkept : (u.reportEnd .storeFull).rau.episode = u.rau.episode := hended.frame .episode (by simp [endParts]) (by simp)
  have hparts : endParts u ⊆ endParts s := by
    have hujob : u.ccu.call.job ≠ .fax := by
      rw [hucall, hjob]
      decide
    unfold endParts
    rw [if_pos ⟨huidle, hujob⟩, List.append_nil]
    exact List.subset_append_left _ _
  rw [hreport] at hrow
  obtain ⟨t, hnext, ht, hall⟩ := finish_does hrow ((hsame.andThen hvu).andThen hended.frame)
  refine ⟨t, hnext, ?_, ?_, ?_, ?_, ?_, hall.mono ?_⟩
  · rw [ht.ccu]; exact hended.line
  · rw [ht.ccu, hrecord]
  · rw [ht.ccu, hrecord]
  · rw [ht.rau, hkept, huepisode]; exact hepisode
  · rw [ht.rau]; exact hgone
  · exact List.append_subset.2
      ⟨by simp [endParts], by
        rw [List.append_nil]
        exact List.Subset.trans hparts (List.subset_append_left _ _)⟩

end

end Sys2Proof.Machine
end

section
/-! PROOFS. A master's operation that is preempted (R154, R157, R158), and the end of an unanswered episode (O40). -/

namespace Sys2Proof.Machine

/-! ### A recording that is discarded (R151, R156, R157) -/

/-- R151: what the writing of code bytes of a recording leaves: the directory changes in its entry's length only. -/
structure CodesWritten (id : Nat) (s t : State) : Prop where
  dir : ∃ g : Entry → Entry, (∀ e, (g e).id = e.id ∧ (g e).granules = e.granules) ∧
    t.store.dir = s.store.dir.map (fun e => if e.id = id then g e else e)
  op : t.voice.op.message = s.voice.op.message ∧ t.voice.op.lastLoud = s.voice.op.lastLoud ∧
    t.voice.op.taken = s.voice.op.taken

theorem CodesWritten.of_dir {id : Nat} {s t : State} (hdir : t.store.dir = s.store.dir)
    (hop : t.voice.op.message = s.voice.op.message ∧ t.voice.op.lastLoud = s.voice.op.lastLoud ∧
      t.voice.op.taken = s.voice.op.taken) : CodesWritten id s t :=
  ⟨⟨fun e => e, fun _ => ⟨rfl, rfl⟩, by simp [hdir]⟩, hop⟩

theorem CodesWritten.trans {id : Nat} {s t u : State} (h : CodesWritten id s t) (h' : CodesWritten id t u) :
    CodesWritten id s u := by
  obtain ⟨⟨g, hg, hdir⟩, hmessage, hloud, htaken⟩ := h
  obtain ⟨⟨g', hg', hdir'⟩, hmessage', hloud', htaken'⟩ := h'
  refine ⟨⟨fun e => g' (g e), fun e => ⟨?_, ?_⟩, ?_⟩, hmessage'.trans hmessage, hloud'.trans hloud, htaken'.trans htaken⟩
  · rw [(hg' _).1, (hg _).1]
  · rw [(hg' _).2, (hg _).2]
  · rw [hdir', hdir, List.map_map]
    refine List.map_congr_left fun e _ => ?_
    by_cases he : e.id = id
    · simp [he, (hg e).1]
    · simp [he]

theorem State.writeCode_written {s t : State} {id : Nat} {c : CodeByte} (h : s.writeCode id c = some t) :
    CodesWritten id s t := by
  unfold State.writeCode at h
  split at h
  · cases h
  next e he =>
  dsimp only at h
  split at h
  · cases h
    refine ⟨⟨fun x => { x with length := codeOffset s.voice.op.written + 1 }, fun _ => ⟨rfl, rfl⟩, ?_⟩, ?_⟩
    · split <;> simp [State.updEntry]
    · split <;> simp
  · cases h

theorem State.flushCodes_written {id : Nat} (cs : List CodeByte) (s : State) : CodesWritten id s (s.flushCodes id cs) := by
  induction cs generalizing s with
  | nil => exact .of_dir rfl ⟨rfl, rfl, rfl⟩
  | cons c rest ih =>
    unfold State.flushCodes
    split
    · next t ht => exact (State.writeCode_written ht).trans (ih t)
    · exact .of_dir rfl ⟨rfl, rfl, rfl⟩

/-- R156: quiet blocks leave a recording without a loud block. -/
theorem VoiceOp.judgeBlocks_quiet (bs : List TakenBlock) (o : VoiceOp) (hquiet : ∀ b ∈ bs, b.loud = false) :
    (bs.foldl VoiceOp.judgeBlock o).lastLoud = o.lastLoud ∧ (bs.foldl VoiceOp.judgeBlock o).message = o.message := by
  induction bs generalizing o with
  | nil => exact ⟨rfl, rfl⟩
  | cons b rest ih =>
    have hb : o.judgeBlock b = { o with blocks := o.blocks + 1 } := if_neg (by simp [hquiet b (by simp)])
    rw [List.foldl_cons, hb]
    exact ih _ fun x hx => hquiet x (List.mem_cons_of_mem b hx)

theorem VoiceOp.judgeWritten_quiet {o : VoiceOp} (hquiet : ∀ b ∈ o.taken, b.loud = false) :
    o.judgeWritten.lastLoud = o.lastLoud ∧ o.judgeWritten.message = o.message :=
  VoiceOp.judgeBlocks_quiet _ o fun b hb => hquiet b ((List.takeWhile_sublist _).subset hb)

/-- R151, R156: the close of a recording without a loud block. -/
theorem State.closeHalfByte_quiet {s : State} {id : Nat} (hmessage : s.voice.op.message = some id)
    (hloud : s.voice.op.lastLoud = none) (hquiet : ∀ b ∈ s.voice.op.taken, b.loud = false) :
    s.closeHalfByte.voice.op.message = some id ∧ s.closeHalfByte.voice.op.lastLoud = none ∧
      ∃ g : Entry → Entry, (∀ e, (g e).id = e.id ∧ (g e).granules = e.granules) ∧
        s.closeHalfByte.store.dir = s.store.dir.map (fun e => if e.id = id then g e else e) := by
  unfold State.closeHalfByte
  split
  · exact ⟨hmessage, hloud, fun e => e, fun _ => ⟨rfl, rfl⟩, by simp⟩
  · next b _ =>
    set u : State := { s with voice.op.halfByte := none, voice.op.waiting := s.voice.op.waiting ++ [b] } with hu
    have humessage : u.voice.op.message = some id := hmessage
    obtain ⟨hdir, hop, hlast, htaken⟩ := u.flushCodes_written (id := id) u.voice.op.waiting
    have hflush : u.flushRecording = { u.flushCodes id u.voice.op.waiting with
        voice.op := (u.flushCodes id u.voice.op.waiting).voice.op.judgeWritten } := by
      unfold State.flushRecording
      rw [humessage]
    obtain ⟨hkept, hsame⟩ := VoiceOp.judgeWritten_quiet (o := (u.flushCodes id u.voice.op.waiting).voice.op)
      (by rw [htaken]; exact hquiet)
    rw [hflush]
    exact ⟨hsame.trans (hop.trans humessage), hkept.trans (hlast.trans hloud), hdir⟩

/-- R157: the keep rules discard a recording without a loud block. -/
theorem State.keepRules_drops {s : State} {id : Nat} (hmessage : s.stopT6.closeHalfByte.voice.op.message = some id)
    (hloud : s.stopT6.closeHalfByte.voice.op.lastLoud = none) :
    s.keepRules.1 = { s.stopT6.closeHalfByte.removeEntry id with voice.op.message := none } := by
  unfold State.keepRules
  dsimp only
  rw [hmessage]
  dsimp only
  rw [if_pos hloud]

theorem State.endVoice_record {s : State} (h : s.voice.op.operation = some .record) (r : VoiceReason) :
    (s.endVoice r).1 = State.raiseParty { s.keepRules.1 with voice.op := s.keepRules.1.voice.op.ended r }
      s.voice.op.user .voiceDone := by
  unfold State.endVoice
  rw [h]

theorem State.closeHalfByte_same (s : State) : SameBut [.voiceOp, .directory, .memory] s s.closeHalfByte :=
  .of_parts (by simp)

/-- R165: an entry's own changes do not outlive its removal. -/
theorem filter_others_map {m : Nat} {g : Entry → Entry} (hg : ∀ e, (g e).id = e.id) (l : List Entry) :
    (l.map (fun e => if e.id = m then g e else e)).filter (fun y => y.id ≠ m) = l.filter (fun y => y.id ≠ m) := by
  induction l with
  | nil => rfl
  | cons e rest ih =>
    by_cases he : e.id = m
    · simpa [he, hg] using ih
    · simpa [he] using ih

/-- R180: a raised source changes a notice controller only. -/
theorem State.raiseAt_unit (s : State) (p : Port) (x : Source) :
    ((s.raiseAt p x).ccu = s.ccu ∧ (s.raiseAt p x).lif = s.lif ∧ (s.raiseAt p x).rau = s.rau) ∧
      (s.raiseAt p x).voice = s.voice ∧ (s.raiseAt p x).store = s.store ∧ (s.raiseAt p x).timers = s.timers := by
  cases p <;> exact ⟨⟨rfl, rfl, rfl⟩, rfl, rfl, rfl⟩

/-- R157, R158: a master's recording without a loud block ends. -/
structure RecordingDropped (s t : State) (u : Port) (m : Nat) (x : Entry) : Prop where
  dir : t.store.dir = s.store.dir.filter (fun y => y.id ≠ m)
  free : t.store.free = s.store.free ++ x.granules
  timer : t.timers.e6.mode = .off
  notice : t.Noticed u .voiceDone
  unit : t.ccu = s.ccu ∧ t.lif = s.lif ∧ t.rau = s.rau
  frame : SameBut [.timer 6, .voiceOp, .directory, .memory, .freeList, .alerts .system, .alerts .panel, .notices .panel] s t

theorem State.endVoice_drops {s : State} {u : Port} {m : Nat} {x : Entry} (hoperation : s.voice.op.operation = some .record)
    (huser : s.voice.op.user = some u.party) (hmessage : s.voice.op.message = some m) (hfind : s.store.find m = some x)
    (hloud : s.voice.op.lastLoud = none) (hquiet : ∀ b ∈ s.voice.op.taken, b.loud = false) (r : VoiceReason) :
    RecordingDropped s (s.endVoice r).1 u m x := by
  obtain ⟨hclosedMessage, hclosedLoud, g, hg, hclosedDir⟩ := State.closeHalfByte_quiet (s := s.stopT6) hmessage hloud hquiet
  have hrules := State.keepRules_drops hclosedMessage hclosedLoud
  have hfound : s.stopT6.closeHalfByte.store.find m = some (g x) := by
    have hupd : s.stopT6.closeHalfByte.store.find m = (s.stopT6.updEntry m g).store.find m := by
      unfold Store.find
      rw [hclosedDir]
      rfl
    rw [hupd, State.updEntry_find _ _ fun e => (hg e).1]
    exact congrArg (Option.map g) hfind
  obtain ⟨hdir, hfree⟩ := State.removeEntry_found hfound
  have hstop : SameBut [.timer 6] s s.stopT6 := .of_parts (by simp [State.stopT6])
  have hset (v : State) (o : VoiceOp) : SameBut [.voiceOp] v { v with voice.op := o } := .of_parts (by simp)
  have hended : (s.endVoice r).1 = State.raiseAt { s.stopT6.closeHalfByte.removeEntry m with
      voice.op := s.keepRules.1.voice.op.ended r } u .voiceDone := by
    rw [State.endVoice_record hoperation, huser, State.raiseParty_master, hrules]
  obtain ⟨hunit, -, hstore, htimers⟩ := State.raiseAt_unit { s.stopT6.closeHalfByte.removeEntry m with
    voice.op := s.keepRules.1.voice.op.ended r } u .voiceDone
  rw [hended]
  exact
    { dir := by
        rw [hstore]
        show (s.stopT6.closeHalfByte.removeEntry m).store.dir = _
        rw [hdir, hclosedDir]
        exact filter_others_map (fun e => (hg e).1) s.store.dir
      free := by
        rw [hstore]
        show (s.stopT6.closeHalfByte.removeEntry m).store.free = _
        rw [hfree, (hg x).2]
        simp
      timer := by
        rw [htimers]
        simp [State.stopT6, Channel.stop]
      notice := State.raiseAt_noticed _ _ _
      unit := by
        obtain ⟨hccu, hlif, hrau⟩ := hunit
        exact ⟨hccu.trans (by simp), hlif.trans (by simp), hrau.trans (by simp)⟩
      frame := ((((hstop.andThen (State.closeHalfByte_same _)).andThen (State.removeEntry_same _ m)).andThen
        (hset _ _)).andThen (State.raiseAt_same _ u .voiceDone)).mono (by simp) }

/-! ### The greeting beside the operation that is preempted (R77) -/

/-- R77: the greetings are told by their kind, state and slot. -/
theorem Store.greetingFor_map {t v : Store} (g : Entry → Entry)
    (hg : ∀ e, (g e).id = e.id ∧ (g e).kind = e.kind ∧ (g e).state = e.state ∧ (g e).slot = e.slot)
    (h : v.dir = t.dir.map g) (k : Nat) : v.greetingFor k = t.greetingFor k := by
  have hgreeting (slot : Nat) : v.greeting slot = (t.greeting slot).map g := by
    unfold Store.greeting
    rw [h, List.find?_map]
    refine congrArg (fun q => (List.find? q t.dir).map g) (funext fun e => ?_)
    obtain ⟨-, hkind, hstate, hslot⟩ := hg e
    simp [hkind, hstate, hslot]
  have hid (o : Option Entry) : (o.map g).map Entry.id = o.map Entry.id := by
    cases o with
    | none => rfl
    | some e => exact congrArg some (hg e).1
  unfold Store.greetingFor
  rw [hgreeting, hgreeting]
  cases t.greeting k with
  | none => exact hid _
  | some e => exact hid (some e)

theorem find?_filter_of_kept {l : List Entry} {q k : Entry → Bool} (h : ∀ e, l.find? q = some e → k e = true) :
    (l.filter k).find? q = l.find? q := by
  induction l with
  | nil => rfl
  | cons e rest ih =>
    by_cases hq : q e = true
    · have hk : k e = true := h e (by simp [hq])
      simp [hq, hk]
    · have hrest := ih fun x hx => h x (by simpa [hq] using hx)
      by_cases hk : k e = true <;> simp [hq, hk, hrest]

/-- R77: the removal of another entry leaves the greeting. -/
theorem Store.greetingFor_filter {t v : Store} {id m k : Nat} (h : v.dir = t.dir.filter (fun e => e.id ≠ m)) (hne : id ≠ m)
    (hgreeting : t.greetingFor k = some id) : v.greetingFor k = some id := by
  have hkept {slot : Nat} (hid : ∀ e, t.greeting slot = some e → e.id = id) : v.greeting slot = t.greeting slot := by
    unfold Store.greeting at *
    rw [h]
    exact find?_filter_of_kept fun e he => by simpa [hid e he] using hne
  unfold Store.greetingFor at *
  cases hfirst : t.greeting k with
  | some e =>
    rw [hfirst] at hgreeting
    have he : e.id = id := Option.some.inj hgreeting
    rw [hkept (slot := k) fun x hx => (congrArg Entry.id (Option.some.inj (hx.symm.trans hfirst))).trans he, hfirst]
    exact hgreeting
  | none =>
    rw [hfirst] at hgreeting
    have hnone : v.greeting k = none := by
      rw [hkept (slot := k) fun x hx => absurd (hx.symm.trans hfirst) (by simp), hfirst]
    have hzero : v.greeting 0 = t.greeting 0 := hkept fun x hx => by
      rw [hx] at hgreeting
      exact Option.some.inj hgreeting
    rw [hnone, hzero]
    exact hgreeting

/-! ### The preemption (R158) -/

theorem State.preempt_master {s : State} {u : Port} (h : s.voice.op.user = some u.party) :
    s.preempt = (s.endVoice .preempted).1.raiseAt u .preempted := by
  rw [← State.raiseParty_master]
  unfold State.preempt
  rw [h]
  cases u <;> rfl

/-- R154, R158: a master's LOCAL play is preempted: its place is kept, and its hold is released. -/
theorem State.playEnded_preempted {s : State} {u : Port} {m : Nat} {x : Entry} (huser : s.voice.op.user = some u.party)
    (hendpoint : s.voice.op.endpoint = some .local) (hmessage : s.voice.op.message = some m)
    (hfind : s.store.find m = some x) (hlive : x.state ≠ .doomed) :
    s.playEnded .preempted =
      { State.updEntry { s with voice.resume := some (m, min s.voice.op.offset (x.length - 1) / 1024 * 1024) } m
          (fun e => { e with holds := e.holds - 1 }) with voice.op := s.voice.op.ended .preempted } := by
  have hplace : s.granulePlayed m = min s.voice.op.offset (x.length - 1) / 1024 * 1024 := by
    unfold State.granulePlayed
    rw [hfind]
    rfl
  have hresume : s.saveResume .preempted =
      { s with voice.resume := some (m, min s.voice.op.offset (x.length - 1) / 1024 * 1024) } := by
    rw [← hplace]
    unfold State.saveResume
    rw [huser, hendpoint, hmessage]
    cases u <;> rfl
  unfold State.playEnded
  rw [hresume, State.holdReleased_some (by exact hmessage), State.release_live (by exact hfind) hlive]

/-- R158: what a preemption leaves of the call, and its two notices. -/
structure Preempted (s t : State) (u : Port) (parts : List Part) : Prop where
  unit : t.ccu = s.ccu ∧ t.lif = s.lif ∧ t.rau = s.rau
  done : t.Noticed u .voiceDone
  preempted : t.Noticed u .preempted
  frame : SameBut parts s t

/-- R154, R158: a master's LOCAL play is preempted. -/
theorem State.preempt_play {s : State} {u : Port} {m : Nat} {x : Entry} (hoperation : s.voice.op.operation = some .play)
    (huser : s.voice.op.user = some u.party) (hendpoint : s.voice.op.endpoint = some .local)
    (hmessage : s.voice.op.message = some m) (hfind : s.store.find m = some x) (hlive : x.state ≠ .doomed) :
    Preempted s s.preempt u [.resume, .directory, .voiceOp, .notices .panel] ∧
      s.preempt.voice.resume = some (m, min s.voice.op.offset (x.length - 1) / 1024 * 1024) ∧
      s.preempt.store.dir = s.store.dir.map (fun y => if y.id = m then { y with holds := y.holds - 1 } else y) := by
  have hplay := State.playEnded_preempted huser hendpoint hmessage hfind hlive
  have heq : s.preempt = ((s.playEnded .preempted).raiseAt u .voiceDone).raiseAt u .preempted := by
    rw [State.preempt_master huser, State.endVoice_play hoperation, huser, State.raiseParty_master]
  have hframe : SameBut [.resume, .directory, .voiceOp] s (s.playEnded .preempted) := by
    rw [hplay]
    exact .of_parts (by simp [State.updEntry])
  have hunit : (s.playEnded .preempted).ccu = s.ccu ∧ (s.playEnded .preempted).lif = s.lif ∧
      (s.playEnded .preempted).rau = s.rau := by
    rw [hplay]
    exact ⟨rfl, rfl, rfl⟩
  have hresume : (s.playEnded .preempted).voice.resume =
      some (m, min s.voice.op.offset (x.length - 1) / 1024 * 1024) := by rw [hplay]; rfl
  have hdir : (s.playEnded .preempted).store.dir =
      s.store.dir.map (fun y => if y.id = m then { y with holds := y.holds - 1 } else y) := by rw [hplay]; rfl
  rw [heq]
  generalize s.playEnded .preempted = v at *
  obtain ⟨⟨hccu, hlif, hrau⟩, hvoice, hstore, -⟩ := v.raiseAt_unit u .voiceDone
  obtain ⟨⟨hccu', hlif', hrau'⟩, hvoice', hstore', -⟩ := (v.raiseAt u .voiceDone).raiseAt_unit u .preempted
  refine ⟨⟨⟨?_, ?_, ?_⟩, (State.raiseAt_noticed _ _ _).raiseAt _ _, State.raiseAt_noticed _ _ _,
    ((hframe.andThen (v.raiseAt_same u .voiceDone)).andThen (State.raiseAt_same _ u .preempted)).mono (by simp)⟩, ?_, ?_⟩
  · rw [hccu', hccu, hunit.1]
  · rw [hlif', hlif, hunit.2.1]
  · rw [hrau', hrau, hunit.2.2]
  · rw [hvoice', hvoice, hresume]
  · rw [hstore', hstore, hdir]

/-- R157, R158: a master's recording without a loud block is preempted. -/
theorem State.preempt_recording {s : State} {u : Port} {m : Nat} {x : Entry}
    (hoperation : s.voice.op.operation = some .record) (huser : s.voice.op.user = some u.party)
    (hmessage : s.voice.op.message = some m) (hfind : s.store.find m = some x) (hloud : s.voice.op.lastLoud = none)
    (hquiet : ∀ b ∈ s.voice.op.taken, b.loud = false) :
    Preempted s s.preempt u [.timer 6, .voiceOp, .directory, .memory, .freeList, .alerts .system, .alerts .panel,
        .notices .panel] ∧
      s.preempt.store.dir = s.store.dir.filter (fun y => y.id ≠ m) ∧
      s.preempt.store.free = s.store.free ++ x.granules ∧ s.preempt.timers.e6.mode = .off ∧ BytesKept s s.preempt := by
  have hdropped := State.endVoice_drops hoperation huser hmessage hfind hloud hquiet .preempted
  have hbytes := s.endVoice_bytes .preempted
  have hunit := hdropped.unit
  rw [State.preempt_master huser]
  generalize (s.endVoice .preempted).1 = v at *
  obtain ⟨⟨hccu, hlif, hrau⟩, -, hstore, htimers⟩ := v.raiseAt_unit u .preempted
  refine ⟨⟨⟨?_, ?_, ?_⟩, hdropped.notice.raiseAt _ _, State.raiseAt_noticed _ _ _,
    (hdropped.frame.andThen (v.raiseAt_same u .preempted)).mono (by simp)⟩, ?_, ?_, ?_, fun a ha => ?_⟩
  · rw [hccu, hunit.1]
  · rw [hlif, hunit.2.1]
  · rw [hrau, hunit.2.2]
  · rw [hstore, hdropped.dir]
  · rw [hstore, hdropped.free]
  · rw [htimers, hdropped.timer]
  · rw [hstore]
    exact hbytes a ha

section
variable {c : Instr} {p n : Nat} {s w : State}

/-- R77, R158: an answer that finds a master's operation in the channel, and its greeting beside it. -/
theorem RingTaken.answers_preempting (h : RingTaken c p n s w)
    (hexec : exec c s = finish (w.policyAnswer .discriminate)) {id : Nat} {parts : List Part}
    (hends : ∀ q : State, q.voice.op = s.voice.op → q.store.dir = s.store.dir →
      (q.preempt.ccu = q.ccu ∧ q.preempt.lif = q.lif ∧ q.preempt.rau = q.rau) ∧ SameBut parts q q.preempt ∧
        q.preempt.store.greetingFor p = some id) :
    ∃ q t, exec c s = .next t ∧ AnswerBegun s q .auto .discriminate ∧ q.voice.op = s.voice.op ∧
      q.store.dir = s.store.dir ∧ t.ccu.line = .connected ∧ t.ccu.call.holder = some .auto ∧
      t.ccu.call.job = .discriminate ∧ GreetingPlayed q.preempt t id ∧
      SameBut ([.line, .call, .ccuRest, .lif, .timer 1, .ringing, .episode, .caller, .detectors, .level, .stats, .fax,
        .discr, .voiceOp, .directory, .digits .system, .digits .panel, .notices .panel] ++ parts) s t := by
  have hq := h.begun .auto .discriminate
  obtain ⟨hrow, hpattern⟩ := h.greets hexec
  generalize w.answered .auto .discriminate = q at *
  obtain ⟨hholder, hjob⟩ := hq.call
  obtain ⟨hdir, -⟩ := hq.store
  have hop : q.voice.op = s.voice.op := hq.frame .voiceOp (by simp) (by simp)
  obtain ⟨⟨hccu, hlif, hrau⟩, hpreempt, hgreeting⟩ := hends q hop hdir
  have hchosen : q.preempt.store.greetingFor q.preempt.rau.episode.pattern = some id := by
    rw [hrau, hpattern]
    exact hgreeting
  rw [State.startGreeting_plays hchosen] at hrow
  obtain ⟨t, hnext, ht, hsame⟩ := greeting_played hrow (hq.frame.andThen hpreempt) (by rw [hccu]; exact hq.active)
    (by rw [hccu]; exact hq.ending) hchosen
  refine ⟨q, t, hnext, hq, hop, hdir, ?_, ?_, ?_, ht, hsame.mono (List.append_subset.2 ⟨List.append_subset.2
    ⟨List.subset_append_of_subset_left _ (by simp), List.subset_append_right _ _⟩,
    List.subset_append_of_subset_left _ (by simp)⟩)⟩
  · rw [ht.line, hccu]; exact hq.line
  · rw [ht.call, hccu]; exact hholder
  · rw [ht.call, hccu]; exact hjob

theorem RingTaken.preempts_play (h : RingTaken c p n s w) (hexec : exec c s = finish (w.policyAnswer .discriminate))
    {u : Port} {id m : Nat} {x : Entry} (hgreeting : s.store.greetingFor p = some id)
    (huser : s.voice.op.user = some u.party) (hendpoint : s.voice.op.endpoint = some .local)
    (hmessage : s.voice.op.message = some m) (hfind : s.store.find m = some x)
    (hoperation : s.voice.op.operation = some .play) (hlive : x.state ≠ .doomed) :
    ∃ t, exec c s = .next t ∧ t.ccu.line = .connected ∧ t.ccu.call.holder = some .auto ∧
      t.ccu.call.job = .discriminate ∧
      t.voice.op.state = .playing ∧ t.voice.op.operation = some .play ∧ t.voice.op.user = some .auto ∧
      t.voice.op.endpoint = some .line ∧ t.voice.op.message = some id ∧ t.voice.op.offset = 0 ∧
      t.voice.resume = some (m, min s.voice.op.offset (x.length - 1) / 1024 * 1024) ∧
      t.store.dir = (s.store.dir.map (fun y => if y.id = m then { y with holds := y.holds - 1 } else y)).map
        (fun y => if y.id = id then { y with holds := y.holds + 1 } else y) ∧
      t.Noticed u .voiceDone ∧ t.Noticed u .preempted ∧
      SameBut [.line, .call, .ccuRest, .lif, .timer 1, .ringing, .episode, .caller, .detectors, .level, .stats,
        .fax, .discr, .voiceOp, .resume, .directory, .digits .system, .digits .panel, .notices .panel] s t := by
  have hpreempt (q : State) (hop : q.voice.op = s.voice.op) (hdir : q.store.dir = s.store.dir) := State.preempt_play (s := q)
    (by rw [hop]; exact hoperation) (by rw [hop]; exact huser) (by rw [hop]; exact hendpoint) (by rw [hop]; exact hmessage)
    (by rw [Store.find, hdir]; exact hfind) hlive
  obtain ⟨q, t, hnext, -, hop, hdir, hline, hholder, hjob, ht, hsame⟩ := h.answers_preempting hexec (id := id)
    fun q hop hdir => by
      obtain ⟨hleaves, -, hreleased⟩ := hpreempt q hop hdir
      refine ⟨hleaves.unit, hleaves.frame, ?_⟩
      rw [Store.greetingFor_map (fun y => if y.id = m then { y with holds := y.holds - 1 } else y)
        (fun e => by split <;> simp) hreleased, Store.greetingFor_congr hdir]
      exact hgreeting
  obtain ⟨hleaves, hresume, hreleased⟩ := hpreempt q hop hdir
  refine ⟨t, hnext, hline, hholder, hjob, ?_, ?_, ?_, ?_, ?_, ?_, ?_, ?_, ht.notice _ _ hleaves.done,
    ht.notice _ _ hleaves.preempted, hsame.mono (by simp)⟩
  case refine_7 => rw [ht.resume, hresume, hop]
  case refine_8 => rw [ht.dir, hreleased, hdir]
  all_goals rw [ht.op] <;> rfl

theorem RingTaken.preempts_recording (h : RingTaken c p n s w)
    (hexec : exec c s = finish (w.policyAnswer .discriminate)) {u : Port} {id m : Nat} {x : Entry}
    (hgreeting : s.store.greetingFor p = some id) (huser : s.voice.op.user = some u.party)
    (hmessage : s.voice.op.message = some m) (hfind : s.store.find m = some x) (hne : id ≠ m)
    (hoperation : s.voice.op.operation = some .record) (hloud : s.voice.op.lastLoud = none)
    (hquiet : ∀ b ∈ s.voice.op.taken, b.loud = false) :
    ∃ t, exec c s = .next t ∧ t.ccu.line = .connected ∧ t.ccu.call.holder = some .auto ∧
      t.ccu.call.job = .discriminate ∧
      t.voice.op.state = .playing ∧ t.voice.op.operation = some .play ∧ t.voice.op.user = some .auto ∧
      t.voice.op.message = some id ∧ t.timers.e6.mode = .off ∧
      t.store.dir = (s.store.dir.filter (fun y => y.id ≠ m)).map
        (fun y => if y.id = id then { y with holds := y.holds + 1 } else y) ∧
      t.store.free = s.store.free ++ x.granules ∧
      t.Noticed u .voiceDone ∧ t.Noticed u .preempted ∧ BytesKept s t ∧
      SameBut [.line, .call, .ccuRest, .lif, .timer 1, .timer 6, .ringing, .episode, .caller, .detectors, .level,
        .stats, .fax, .discr, .voiceOp, .directory, .freeList, .memory, .alerts .system, .alerts .panel,
        .digits .system, .digits .panel, .notices .panel] s t := by
  have hpreempt (q : State) (hop : q.voice.op = s.voice.op) (hdir : q.store.dir = s.store.dir) :=
    State.preempt_recording (s := q) (by rw [hop]; exact hoperation) (by rw [hop]; exact huser)
      (by rw [hop]; exact hmessage) (by rw [Store.find, hdir]; exact hfind) (by rw [hop]; exact hloud)
      (by rw [hop]; exact hquiet)
  obtain ⟨q, t, hnext, hq, hop, hdir, hline, hholder, hjob, ht, hsame⟩ := h.answers_preempting hexec (id := id)
    fun q hop hdir => by
      obtain ⟨hleaves, hremoved, -⟩ := hpreempt q hop hdir
      refine ⟨hleaves.unit, hleaves.frame, Store.greetingFor_filter hremoved hne ?_⟩
      rw [Store.greetingFor_congr hdir]
      exact hgreeting
  obtain ⟨hleaves, hremoved, hfreed, htimer, hbytes⟩ := hpreempt q hop hdir
  obtain ⟨-, hfree⟩ := hq.store
  refine ⟨t, hnext, hline, hholder, hjob, ?_, ?_, ?_, ?_, ?_, ?_, ?_, ht.notice _ _ hleaves.done,
    ht.notice _ _ hleaves.preempted, fun a ha => ?_, hsame.mono (by simp)⟩
  case refine_5 => rw [ht.timers, htimer]
  case refine_6 => rw [ht.dir, hremoved, hdir]
  case refine_7 => rw [ht.free, hfreed, hfree]
  case refine_8 =>
    rw [ht.mem, hbytes a (by rw [hop]; intro id' e he hfound; exact ha id' e he (by rwa [Store.find, hdir] at hfound))]
    exact hq.frame .memory (by simp) (by simp) a
  all_goals rw [ht.op] <;> rfl

end

/-! ### The episode ends unanswered (R19, R68) -/

theorem episode_unanswered {due : Nat} {s : State} (hdue : s.rau.deadlines.episodeEnd = some due)
    (hfree : s.rau.presence = .none ∨ ¬s.startedBefore due) (hactive : s.rau.episode.active = true)
    (h : s.ccu.line ≠ .ringing ∨ s.ccu.claims = [] ∨ s.lif.lineInUse = true) :
    ∃ t, exec .episodeEnd s = .next t ∧ t.rau.episode.active = false ∧ t.ccu.lastNumber = s.nextNumber ∧
      (∃ e : HistoryEntry, t.ccu.history = (e :: s.ccu.history).take 16 ∧ e.outcome = .unanswered ∧
        e.number = s.nextNumber ∧ e.direction = .incoming ∧ e.startTime = s.rau.episode.startTime ∧
        e.seconds = s.rau.episode.seconds ∧ e.linkedId = none) ∧
      t.ccu.line = (if s.ccu.line = .ringing then .idle else s.ccu.line) ∧
      t.rau.deadlines = Deadlines.empty ∧
      SameBut [.line, .history, .ccuRest, .timer 1, .ringing, .episode, .caller, .notices .panel] s t := by
  have hexec := exec_episodeEnd hdue
  rw [if_pos hfree] at hexec
  have hfell := s.deadlineFell_same due { s.rau.deadlines with episodeEnd := none }
  set u := s.deadlineFell due { s.rau.deadlines with episodeEnd := none } with hu
  have huccu : u.ccu = s.ccu := rfl
  obtain ⟨hsame, hline, hnumber, hhistory, hrau⟩ := State.episodeEnds_idle (s := u) hactive (by rw [huccu]; exact h)
  obtain ⟨-, rhistory, repisode, -, rdeadlines⟩ := u.episodeRecorded_leaves
  obtain ⟨t, hnext, ht, hall⟩ := finish_does hexec (hfell.andThen hsame)
  refine ⟨t, hnext, ?_, ?_, ⟨unansweredEntry u.nextNumber u.rau.episode (u.settleCapture false).rau.caller, ?_, rfl, rfl,
    rfl, rfl, rfl, rfl⟩, ?_, ?_, hall.mono (by simp)⟩
  · rw [ht.rau, hrau, repisode]
  · rw [ht.ccu, hnumber]; rfl
  · rw [ht.ccu, hhistory, rhistory, huccu]
  · rw [ht.ccu, hline, huccu]
  · rw [ht.rau, hrau, rdeadlines]

theorem episode_grants {due : Nat} {s : State} {c : Claim} {rest : List Claim}
    (hdue : s.rau.deadlines.episodeEnd = some due) (hfree : s.rau.presence = .none ∨ ¬s.startedBefore due)
    (hactive : s.rau.episode.active = true) (hline : s.ccu.line = .ringing) (hclaims : s.ccu.claims = c :: rest)
    (huse : s.lif.lineInUse = false) (hpower : s.power.low = false) :
    ∃ t, exec .episodeEnd s = .next t ∧ t.rau.episode.active = false ∧ t.ccu.line = .seizing ∧ t.ccu.claims = rest ∧
      t.ccu.call.holder = some c.master.party ∧ t.ccu.call.number = (s.nextNumber + 1) % 65536 := by
  have hexec := exec_episodeEnd hdue
  rw [if_pos hfree] at hexec
  set u := s.deadlineFell due { s.rau.deadlines with episodeEnd := none } with hu
  have hsame := u.episodeRecorded_same
  obtain ⟨hnumber, -, hepisode, -, -⟩ := u.episodeRecorded_leaves
  have hrline : u.episodeRecorded.ccu.line = .ringing := (hsame .line (by simp) (by simp)).trans hline
  have hrclaims : u.episodeRecorded.ccu.claims = c :: rest := (hsame .claims (by simp) (by simp)).trans hclaims
  have hrlif : u.episodeRecorded.lif = u.lif := hsame .lif (by simp) (by simp)
  have hrpower : u.episodeRecorded.power = u.power := hsame .power (by simp) (by simp)
  rw [State.episodeEnds_eq (s := u) hactive, if_pos hrline] at hexec
  have hrnumber : u.episodeRecorded.ccu.lastNumber = s.nextNumber := hnumber
  generalize u.episodeRecorded = v at *
  rw [State.lineFree_grants (by rw [hrpower]; exact hpower) hrclaims (by rw [hrlif]; exact huse)] at hexec
  set z := ({ v with ccu.claims := rest } : State).raiseAt c.master .claimGranted with hz
  have hzccu : z.ccu = { v.ccu with claims := rest } ∧ z.rau = v.rau := by
    rw [hz]
    cases c.master <;> exact ⟨rfl, rfl⟩
  obtain ⟨hzc, hzr⟩ := hzccu
  obtain ⟨hseizing, -, hcall, -, -⟩ := z.seize_call c.master c.items c.job c.blind
  have hseize := z.seize_same c.master c.items c.job c.blind
  have hclaimed : (z.seize c.master c.items c.job c.blind).ccu.claims = z.ccu.claims := hseize .claims (by simp) (by simp)
  have hep : (z.seize c.master c.items c.job c.blind).rau.episode = z.rau.episode := hseize .episode (by simp) (by simp)
  generalize z.seize c.master c.items c.job c.blind = y at *
  have ht := y.deliverSystem_delivered
  refine ⟨y.deliverSystem, hexec, ?_, ?_, ?_, ?_, ?_⟩
  · rw [ht.rau, hep, hzr, hepisode]
  · rw [ht.ccu]; exact hseizing
  · rw [ht.ccu, hclaimed, hzc]
  · rw [ht.ccu, hcall]; rfl
  · rw [ht.ccu, hcall]
    show z.nextNumber = _
    rw [State.nextNumber, hzc]
    show (v.ccu.lastNumber + 1) % 65536 = _
    rw [hrnumber]

/-- Settles O40: a cycle end by what it brings, and the end of an episode. -/
theorem episodeCountsAndEnds : Obligations.EpisodeCountsAndEnds := by
  refine ⟨fun c n p s hrow hactive hp hn => ?_, fun due s hdue hfree hactive =>
    ⟨episode_unanswered hdue hfree hactive, fun c rest => episode_grants hdue hfree hactive⟩⟩
  obtain ⟨v, hv⟩ := cycleRow_of hrow
  have h := hv.taken hactive hp hn
  generalize v.ringCounted.thresholdNoted = w at h
  refine ⟨h.waits hactive, fun hline hfree hpower hdue => ?_⟩
  have hexec {a : AnswerAction} := h.answers hline hfree hpower hdue (a := a)
  refine ⟨fun ha hready => h.answers_data (hexec ha) hready, fun ha hbounds =>
      ⟨h.answers_faxPort (hexec ha) hbounds, h.answers_faxStore (hexec ha) hbounds⟩, fun ha hoperation huser =>
      ⟨fun id => h.answers_greeting (hexec ha) huser, h.answers_beep (hexec ha) hoperation huser,
        h.answers_quietFax (hexec ha) hoperation huser, fun hgreeting hroom _ hstore =>
          h.answers_full (hexec ha) hoperation huser hgreeting hroom (.inr hstore), fun hgreeting hroom hhangs =>
          h.answers_full (hexec ha) hoperation huser hgreeting hroom (.inl hhangs)⟩,
    fun ha => h.answers_noRung (hexec ha), fun u id m x ha hgreeting huser hendpoint hmessage hfind hne =>
      ⟨h.preempts_play (hexec ha) hgreeting huser hendpoint hmessage hfind,
        h.preempts_recording (hexec ha) hgreeting huser hmessage hfind hne⟩⟩

end Sys2Proof.Machine
end
